-- ==== Sys2Proof/Word.lean ====
section
/-! DEFINITION. The word types of the model and their plainest arithmetic: bytes, 32-bit words, lists as fixed tables. -/
namespace Sys2Proof

/-- A byte (R11). -/
abbrev Byte := BitVec 8
/-- A 32-bit register or word; a binary32 value is held as its 32 bits (R326). -/
abbrev Word := BitVec 32
/-- A byte string in address order. -/
abbrev Bytes := List Byte

/-- 1 for true, 0 for false. -/
def bit (b : Bool) : Nat := if b then 1 else 0

/-- Entry i of a table, d outside it. -/
abbrev at' {α : Type} (l : List α) (i : Nat) (d : α) : α := l.getD i d

/-- 2^32, the range of period numbers and counters. -/
def M32 : Nat := 4294967296

/-- Serial-number difference a - b of n-bit counters (R8). -/
def serialDiff (n a b : Nat) : Nat := (a + 2 ^ n - b % 2 ^ n) % 2 ^ n
/-- a is later than b (R8). -/
def later (n a b : Nat) : Bool := 1 ≤ serialDiff n a b && serialDiff n a b < 2 ^ (n - 1)

/-- Bits hi:lo of a number. -/
def bits (v hi lo : Nat) : Nat := (v >>> lo) % 2 ^ (hi + 1 - lo)
/-- Bit i of a number. -/
def tbit (v i : Nat) : Bool := v.testBit i

/-- The two's complement pattern of an integer in n bits. -/
def ofSigned (n : Nat) (x : Int) : Nat := (x % (2 ^ n : Int)).toNat
/-- The signed reading of an n-bit pattern. -/
def toSigned (n : Nat) (v : Nat) : Int :=
  let w := v % 2 ^ n
  if w < 2 ^ (n - 1) then (w : Int) else (w : Int) - 2 ^ n

/-- Saturating count. -/
def satAdd (mx a b : Nat) : Nat := min mx (a + b)

end Sys2Proof
end

