-- ==== Sys2Proof/Config.lean ====
section
/-! DEFINITION. Constants of the part, and the free values: what the spec gives no value for. -/
namespace Sys2Proof.Config

/-- Ticks of 78.125 ps per microsecond, millisecond and second (R172). -/
def us : Nat := 12800
def ms : Nat := 12800000
def sec : Nat := 12800000000
/-- Ticks per EDGE cycle of 1.25 ns (R36). -/
def edge : Nat := 16

/-- The result of a CORDIC function on one lane pair: the spec bounds its error and fixes no bits (R340).
A free value; log entry 4. -/
opaque cordic : (fn : Nat) → Word → Word → Word × Word
/-- The refined reciprocal (0) or reciprocal square root (1), within 1 ulp (R325). A free value; log entry 4. -/
opaque estimate : (fn : Nat) → Word → Word
/-- The word a compare of a bench writes for false and for true: the spec fixes none (R325). A free value; log entry 4. -/
opaque cmpWord : Bool → Word
/-- A result the spec states no value for, taken afresh from the state's counter; log entry 5. -/
opaque freeWord : Nat → Word
/-- How fast a slew of SYSPLL moves system time, in ticks passed per tick moved; 20 ppm bounds it (R166). A free value; log entry 187. -/
opaque slewTicks : Nat
/-- Bits Caerup keeps to itself: the manufacturer identity and the firmware version; log entry 6. -/
opaque firmwareVersion : Nat → Nat
/-- The raw bytes of a diagnostic SRAM region whose format is not specified (R705), by region and offset; log entry 5. -/
opaque rawByte : (region offset count : Nat) → Byte

end Sys2Proof.Config
end

