-- ==== Sys2Proof/Syntax.lean ====
section
/-! DEFINITION. What the world hands the block: operands, the description of a structure image, and the commands (one constructor per row of spec/opcode_table.json). -/
namespace Sys2Proof

/-! ## Sources of accesses and records -/

/-- Where a record or an access came from (codes of R132). -/
inductive Src | ring | mbx0 | mbx1 | directPcie | directSpi | directJtag | mesh | internal
  deriving DecidableEq, Repr, Inhabited
/-- The SOURCE code of R132. -/
def Src.code : Src → Nat
  | .ring => 0 | .mbx0 => 1 | .mbx1 => 2 | .directPcie => 3 | .directSpi => 4 | .directJtag => 5 | .mesh => 6 | .internal => 7
/-- An access interface: each has its own copy of SYS_PAGE (R704). -/
inductive Iface | pcie | spi | jtag | mesh
  deriving DecidableEq, Repr, Inhabited
/-- The record source that a direct access of an interface counts as (R105). -/
def Iface.src : Iface → Src
  | .pcie => .directPcie | .spi => .directSpi | .jtag => .directJtag | .mesh => .mesh

/-- The fields of a command record's header that the world chooses (R106); LEN, OPCODE, PLEN and the CRC
follow from the command and its payload. -/
structure RecHdr where
  src : Src := .mbx0
  /-- the context whose submission ring held it, where it came by a ring (R114) -/
  ring : Nat := 0
  sess : Nat := 0
  seq : Nat := 0
  node : Nat := 0
  flags : Nat := 0
  target : Nat := 0
  deriving DecidableEq, Repr, Inhabited

/-! ## The structure image: what its sections describe, an operand of its own beside the bytes (log entry 20) -/

/-- Modulation kind of a cell group (R280), coded as EDG_GRPg_CFG (R320). -/
inductive GroupKind | cpwm | psm | nlm | direct
  deriving DecidableEq, Repr, Inhabited
/-- Owner of a cell group (R280). -/
inductive Owner | none | bench (b : Nat) | host | mesh (q : Nat)
  deriving DecidableEq, Repr, Inhabited
/-- Role of a cell group (R413). -/
inductive GroupRole | pre | aux | dab | grid | load | mach | brake
  deriving DecidableEq, Repr, Inhabited
/-- Minimum-pulse policy (R290). -/
inductive MinPol | swallow | stretch | fault
  deriving DecidableEq, Repr, Inhabited
/-- Wedge policy of a leg (R294). -/
inductive WedgePol | delay | drop | fault
  deriving DecidableEq, Repr, Inhabited
/-- Role of a channel in phase-shift modulation (R284). -/
inductive PsmRole | pri1 | pri2 | sec1 | sec2
  deriving DecidableEq, Repr, Inhabited

/-- How a channel or an output takes its raw waveform from its group (R282 to R286). -/
inductive ModBind
  | cpwm (slot : Nat) (above neg : Bool) (phi : Option Nat)
  | psm (base : Nat) (role : PsmRole) (high : Bool)
  | nlm
  | direct (base : Nat)
  deriving DecidableEq, Repr, Inhabited
/-- A leg of two channels or two outputs (R280, R293). -/
structure Leg where
  x : Nat
  y : Nat
  gap : Nat
  pol : WedgePol
  deriving DecidableEq, Repr, Inhabited
/-- Binding of one switch channel of a cell. -/
structure ChanBind where
  group : Nat
  mod : ModBind
  dtOn : Nat := 0
  minPol : MinPol := .swallow
  deriving DecidableEq, Repr, Inhabited
/-- A declared cell position (TOPOLOGY) with its channel bindings (MODULATION). -/
structure CellDecl where
  idx : Nat
  kind : Nat := 0
  required : Bool := false
  asym : Int := 0
  chans : List (Option ChanBind) := []
  legs : List Leg := []
  /-- model bench and first OUT word of the cell's model context (R685): VDC1, VDC2, NTC, CMPF, STATUS, acknowledgement -/
  model : Option (Nat × Nat) := none
  deriving DecidableEq, Repr, Inhabited
/-- A loss or VCE table (R388): breakpoints and values. -/
structure ThermTable where
  bi : List Word := []
  bv : List Word := []
  bt : List Word := []
  vals : List Word := []
  deriving DecidableEq, Repr, Inhabited
/-- A switch class: minimum times of CELLTYPES, ladder and tables of THERMAL. -/
structure SwitchClass where
  tOnMin : Nat := 0
  tOffMin : Nat := 0
  tShare : Word := 0
  tWarn : Word := 0
  tLimit : Word := 0
  tTrip : Word := 0
  vce : ThermTable := {}
  eon : ThermTable := {}
  eoff : ThermTable := {}
  erec : ThermTable := {}
  deriving DecidableEq, Repr, Inhabited
/-- One channel of a cell kind (R386, R390). -/
structure ChanKind where
  cls : Nat := 0
  curVar : Option Nat := none
  signNeg : Bool := false
  link2 : Bool := false
  partner : Option Nat := none
  foster : List (Word × Word) := []
  deriving DecidableEq, Repr, Inhabited
/-- A cell kind of CELLTYPES with its THERMAL items. -/
structure CellKind where
  typ : Nat := 0
  rating : Nat := 0
  minFw : Nat := 0
  chans : List ChanKind := []
  vnom : Word := 0
  vdc1Scale : Word := 0
  vdc2Scale : Word := 0
  preBand : Word := 0
  preTimeout : Nat := 1
  params : Bytes := []
  autoAdmit : Bool := false
  fwRebootMs : Nat := 5000
  half : Bool := false
  insPos : Nat := 0
  insNeg : Nat := 0
  bypA : Nat := 0
  bypB : Option Nat := none
  rotHyst : Word := 0
  rotMin : Nat := 1
  rH : Word := 0
  tauH : Word := 0
  lObs : Word := 0
  tCool : Word := 0
  tCoolVar : Option Nat := none
  derateRestart : Nat := 1
  deriving DecidableEq, Repr, Inhabited
/-- A phase arm (R373, R416). -/
structure ArmDecl where
  spread : Bool := false
  master : Nat := 0
  members : List Nat := []
  nodes : List Nat := []
  total : Nat := 0
  iVar : Nat := 0
  iDead : Word := 0
  hyst : Word := 0
  kt : Word := 0
  dmin : Word := 0
  staleMax : Nat := 1
  nMin : Nat := 1
  levelGroup : Nat := 0
  levelSlot : Nat := 0
  /-- BENCH cycle from bench start at which the sort is issued; list and merge time in EDGE cycles after S(n) (R377, R380) -/
  sortCycle : Nat := 0
  listAt : Nat := 0
  mergeAt : Nat := 0
  deriving DecidableEq, Repr, Inhabited
/-- A cell group of MODULATION (R279, R280, R413). -/
structure GroupDecl where
  kind : GroupKind := .direct
  owner : Owner := .none
  role : GroupRole := .aux
  loc : Bool := false
  cc : Nat := 1
  slots : Nat := 0
  init : List Word := []
  arms : List (Nat × Nat) := []
  outs : List Nat := []
  deriving DecidableEq, Repr, Inhabited
/-- A local output (R280, R323). -/
structure LpwmDecl where
  edges : Bool := false
  pol : Bool := false
  offZ : Bool := false
  boot : Bool := false
  partner : Option Nat := none
  group : Nat := 0
  ch : Nat := 0
  mod : ModBind := .nlm
  dtOn : Nat := 0
  minPol : MinPol := .swallow
  wedge : WedgePol := .delay
  tOnMin : Nat := 0
  tOffMin : Nat := 0
  gap : Nat := 0
  bootN : Nat := 1
  bootW : Nat := 0
  deriving DecidableEq, Repr, Inhabited
/-- A blanking timer (R508): source output, edge 0 rising 1 falling 2 either, delay and width in EDGE cycles. -/
structure BlankDecl where
  src : Nat := 0
  edge : Nat := 0
  delay : Nat := 0
  width : Nat := 8
  deriving DecidableEq, Repr, Inhabited

/-- Source of a bench input word or an operating variable (R332, R415, R727). -/
inductive InSrc
  | none
  | adc (a ch : Nat) (ofs gain : Word)
  | inj (a j : Nat) (ofs gain : Word)
  | sieve (i : Nat) (gain : Word)
  | vdc1 (c : Nat) | vdc2 (c : Nat) | ntc (c : Nat) | cmpf (c : Nat) | status (c : Nat)
  | cmpLevel | cmpFired
  | opVar (v : Nat)
  | benchOut (b w : Nat)
  | meshWord (node b w : Nat)
  | edgeWord (c k : Nat)
  | sub | sp (k : Nat) | preStep | ilimF | avail | regenF
  | gpio
  deriving DecidableEq, Repr, Inhabited
/-- A bench input word: source, the model source of SYNTHETIC (R685), feedback class and limits (R442), the
groups bound to loops that read it, and the ADC_OK tolerance (R625). cls: 0 NONE, 1 ALT, 2 CRITICAL. -/
structure InDecl where
  src : InSrc := .none
  model : Option InSrc := none
  cls : Nat := 0
  alt : Nat := 0
  staleN : Nat := 1
  freezeN : Nat := 0
  groups : List Nat := []
  tol : Option Word := none
  deriving DecidableEq, Repr, Inhabited
/-- Where a bench OUT word goes at O(n) (R334, R603, R727). -/
inductive OutDest
  | slot (g s : Nat)
  | nodeWord (node b w : Nat)
  | nodeSlot (node g s : Nat)
  | gpio (pin bitNo : Nat)
  deriving DecidableEq, Repr, Inhabited
structure OutMap where
  bench : Nat
  word : Nat
  dest : OutDest
  deriving DecidableEq, Repr, Inhabited
/-- Kind of a coefficient (R344). -/
inductive CoefKind | fixed | direct (mn mx : Word) | scheduled
  deriving DecidableEq, Repr, Inhabited
structure CoefDecl where
  idx : Nat
  loop : Option Nat := none
  kind : CoefKind := .fixed
  init : Word := 0
  deriving DecidableEq, Repr, Inhabited
/-- A bench of BENCHPROG: proven count, program length in instruction words, constants, STATE image,
input words, coefficients, assigned sort cycles. -/
structure BenchDecl where
  used : Bool := false
  cb : Nat := 0
  progLen : Nat := 0
  prog : Bytes := []
  consts : List Word := []
  state : List Word := []
  inputs : List InDecl := []
  coefs : List CoefDecl := []
  sortCycles : List Nat := []
  deriving DecidableEq, Repr, Inhabited
/-- A repetitive controller (R356). -/
structure RcDecl where
  n : Nat := 16
  lead : Nat := 0
  lambda : Word := 0
  gamma : Word := 0
  a : Word := 0
  umax : Word := 0
  init : Nat := 0
  deriving DecidableEq, Repr, Inhabited
/-- A loop (R344). -/
structure LoopDecl where
  num : Nat
  bench : Nat := 0
  outs : List Nat := []
  initOpen : Bool := false
  rc : Option RcDecl := none
  deriving DecidableEq, Repr, Inhabited
/-- A gain-schedule table (R350). -/
structure GainTable where
  num : Nat
  bench : Nat := 0
  loop : Nat := 0
  k : Nat := 1
  varX : Nat := 0
  varY : Nat := 0
  base : Nat := 0
  bx : List Word := []
  bys : List Word := []
  slew : List Word := []
  nodes : List Word := []
  deriving DecidableEq, Repr, Inhabited

/-- The mode parameter block (R416). Times in seconds or milliseconds as the table of R416 gives them; pu values binary32. -/
structure ModeParams where
  preLevel : Word := 0
  preSettle : Word := 0
  preTmaxS : Nat := 1
  mainTMs : Nat := 10
  startMaxMs : Nat := 100
  vBandLo : Word := 0
  vBandHi : Word := 0
  vCoast : Word := 0
  vRet : Word := 0
  coastDet : Nat := 2
  retTMs : Nat := 1
  resyncErr : Word := 0
  resyncDf : Word := 0
  resyncN : Nat := 16
  coastMaxMs : Nat := 10
  blackStart : Bool := false
  limTMs : Nat := 100
  dcBand : Word := 0
  iMax : Word := 0
  deriving DecidableEq, Repr, Inhabited
/-- The drive part of the mode parameter block (R416). -/
structure DriveParams where
  fsVmin : Word := 0
  fsDf : Word := 0
  fsN : Nat := 16
  fsTmaxMs : Nat := 10
  assumeStop : Bool := false
  catchTMs : Nat := 1
  zeroSpd : Word := 0
  decLead : Word := 0
  zeroT : Nat := 1
  vDecStart : Word := 0
  vBrkOn : Word := 0
  vDecZero : Word := 0
  vOvTrip : Word := 0
  brkOut : Option Nat := none
  brkCmp : Nat := 0
  brkCheckUs : Nat := 10
  deriving DecidableEq, Repr, Inhabited
/-- The operating variables the mode reads (R416); none where the image names none. -/
structure ModeVars where
  gridV : Option Nat := none
  gridDth : Option Nat := none
  gridDf : Option Nat := none
  gridLock : Option Nat := none
  dcV : Option Nat := none
  speed : Option Nat := none
  vL : Option Nat := none
  mainFb : Option Nat := none
  limited : Option Nat := none
  fsF : Option Nat := none
  fsTh : Option Nat := none
  fsEmf : Option Nat := none
  deriving DecidableEq, Repr, Inhabited
/-- A set-point (R444); modes: codes of the run modes that use it; start: none for 0. -/
structure SpDecl where
  declared : Bool := false
  modes : List Nat := []
  mn : Word := 0
  mx : Word := 0
  start : Option Nat := none
  rateMax : Word := 0
  jerkMax : Word := 0
  dwell : Word := 0
  power : Bool := false
  speed : Bool := false
  deriving DecidableEq, Repr, Inhabited

/-- An entry of an ADC sequence (R466, R474). -/
structure AdcEntry where
  ch : Nat
  shared : Bool := false
  home : Bool := true
  plTol : Nat := 1
  plN : Nat := 1
  deriving DecidableEq, Repr, Inhabited
/-- Trigger of an injected definition (R471). -/
inductive InjTrig | phase (cyc : Nat) | cmp (k edge : Nat) | host
  deriving DecidableEq, Repr, Inhabited
structure InjDecl where
  ch : Nat
  trig : InjTrig
  deriving DecidableEq, Repr, Inhabited
structure AdcDecl where
  free : Bool := false
  rpt : Nat := 1
  lead : Nat := 0
  pd : Bool := false
  entries : List AdcEntry := []
  inj : List InjDecl := []
  fineOfs : Word := 0
  fineGain : Word := 0x3F800000
  deriving DecidableEq, Repr, Inhabited
structure SdcDecl where
  en : Bool := false
  div : Nat := 8
  deriving DecidableEq, Repr, Inhabited
structure SieveDecl where
  en : Bool := false
  order : Nat := 1
  clk : Nat := 0
  dly : Nat := 0
  osr : Nat := 4
  ofs : Nat := 0
  deriving DecidableEq, Repr, Inhabited
/-- A comparator of CHANNELMAP or of SAFETY (R505, R555). si: sampling interval in microseconds, 0 continuous. -/
structure CmpDecl where
  sense : Nat := 0
  thrLo : Nat := 0
  thrHi : Nat := 1023
  hyst : Nat := 1
  blank : Nat := 0
  si : Nat := 0
  deriving DecidableEq, Repr, Inhabited
/-- A trip wiring entry (R519). -/
structure Wire where
  lpwm : Nat := 0
  seam : Nat := 0
  bus : Bool := false
  mesh : Bool := false
  safety : Bool := false
  actLow : Bool := false
  filt : Nat := 0
  deriving DecidableEq, Repr, Inhabited
/-- A safety input pair (R539, R555). kind: 0 UNUSED, 1 STOP, 2 GUARD. -/
structure PairDecl where
  kind : Nat := 0
  anti : Bool := false
  filtMs : Nat := 1
  discMs : Nat := 10
  deriving DecidableEq, Repr, Inhabited
/-- The SAFETY section as R555 lays it out. -/
structure SafetyDesc where
  holdPeriods : Nat := 0
  liveMs : Nat := 1
  testEn : Bool := false
  pairs : List PairDecl := []
  wires : List Wire := []
  cmps : List CmpDecl := []
  deriving DecidableEq, Repr, Inhabited

/-- A link of the mesh (R576): its number and its two node-port ends. -/
structure LinkDecl where
  num : Nat
  nodeA : Nat
  portA : Nat
  nodeB : Nat
  portB : Nat
  deriving DecidableEq, Repr, Inhabited
/-- TOPOLOGY: the node and its mesh. shape: 0 SOLO, 1 chain, 2 ring, 3 torus. Routes give an output port per destination. -/
structure MeshDecl where
  node : Nat := 0
  shape : Nat := 0
  nodes : Nat := 1
  links : List LinkDecl := []
  diam : Nat := 0
  diamK : List (Nat × Nat) := []
  route : List Nat := []
  routeK : List (Nat × List Nat) := []
  hops : List Nat := []
  hopsK : List (Nat × List Nat) := []
  bcast : List Nat := []
  /-- nodes whose route to node 0 passes through this one -/
  behind : List Nat := []
  bcastK : List (Nat × List Nat) := []
  master : Nat := 0
  isoMs : Nat := 10
  asymP : List Int := []
  deriving DecidableEq, Repr, Inhabited
/-- The spread settings of TOPOLOGY (R193): mode, the islands spread, rate in kHz, depth in units of 0.05 %. -/
structure SscDecl where
  mode : Nat := 0
  hk : Bool := false
  bench : Bool := false
  rate : Nat := 0
  depth : Nat := 0
  deriving DecidableEq, Repr, Inhabited
/-- TOPOLOGY: the period, the pair, spread and lane rates. -/
structure TopoDecl where
  kF : Nat := 8000
  outPhase : Nat := 40
  pair : Bool := false
  sbLag : Nat := 0
  failbackHoldS : Nat := 60
  timeMesh : Bool := false
  ssc : SscDecl := {}
  quadRate : List Nat := []
  /-- rates given per seam, by seam number; none: the quad's (R23) -/
  seamRate : List (Option Nat) := []
  seams : Nat := 0
  ports : Nat := 0
  shipOfs : List Nat := []
  deriving DecidableEq, Repr, Inhabited
/-- Lock settings (R192). -/
structure LockCfg where
  w : Nat := 8
  lol : Nat := 4
  n : Nat := 1024
  deriving DecidableEq, Repr, Inhabited
/-- A clock output's settings (R195). -/
structure OutCfg where
  en : Bool := false
  offZ : Bool := false
  fmt : Nat := 0
  div : Nat := 0
  deriving DecidableEq, Repr, Inhabited
/-- CALDEFAULTS. -/
structure CalDecl where
  /-- the compensation tables, 64 bytes each (R184), and each target's base trim -/
  trims : List Bytes := []
  trimBase : List Int := []
  sysLock : LockCfg := {}
  outLock : LockCfg := {}
  pllM : Nat := 64
  pllF : Nat := 0
  outs : List OutCfg := []
  emph : List Nat := []
  swing : List Nat := []
  deriving DecidableEq, Repr, Inhabited
/-- HOSTPOLICY (R129) with FALLBACK and DISC_WIN. -/
structure HostPolicy where
  loss : Nat := 2
  parkKeep : Nat := 60
  leaseMs : Nat := 1000
  lossSp : List (Option Word) := []
  fallback : Bool := false
  discWinMs : Nat := 500
  deriving DecidableEq, Repr, Inhabited
/-- DISC_WIN, from 10 ms to 10 s (R69). -/
def HostPolicy.discWin (h : HostPolicy) : Nat := max 10 (min 10000 h.discWinMs)

/-- The description an image's sections carry. -/
structure ImgDesc where
  topo : TopoDecl := {}
  mesh : MeshDecl := {}
  cells : List CellDecl := []
  kinds : List CellKind := []
  classes : List SwitchClass := []
  arms : List ArmDecl := []
  groups : List (Option GroupDecl) := []
  lpwm : List LpwmDecl := []
  blanks : List BlankDecl := []
  benches : List BenchDecl := []
  loops : List LoopDecl := []
  vars : List InSrc := []
  varModels : List InSrc := []
  outs : List OutMap := []
  gains : List GainTable := []
  modeP : ModeParams := {}
  driveP : DriveParams := {}
  modeV : ModeVars := {}
  sps : List SpDecl := []
  adcs : List AdcDecl := []
  sdcs : List SdcDecl := []
  sieves : List SieveDecl := []
  cmps : List CmpDecl := []
  cal : CalDecl := {}
  host : HostPolicy := {}
  modelBench : Bool := false
  gpioOut : Nat := 0
  deriving DecidableEq, Repr, Inhabited

/-! ## Frames, symbols and other things received -/

/-- A 66-bit block on a lane (R201): its 2-bit sync header and its 64 payload bits as they stand on the line, the first to
arrive lowest. -/
structure Blk where
  hdr : Nat := 2
  pay : Nat := 0
  deriving DecidableEq, Repr, Inhabited
/-- Consecutive blocks received on a lane, the last of them whole at the command's instant; the lane carried idle blocks before
and after (log entry 190). pre: the 58 scrambled payload bits just before them, the latest highest. slot: how many block slots
after the lane's last marker slot the first of them lies. -/
structure LaneRx where
  lane : Nat := 0
  pre : Nat := 0
  slot : Nat := 0
  blocks : List Blk := []
  deriving DecidableEq, Repr, Inhabited
/-- What the two lanes of a peer port receive (R575). -/
structure PortRx where
  port : Nat := 0
  even : LaneRx := {}
  odd : LaneRx := {}
  deriving DecidableEq, Repr, Inhabited
/-- The payload of a FEED frame (R246). -/
structure FeedVals where
  vdc1 : Nat := 0
  vdc2 : Nat := 0
  ntc : Int := 0
  cmpf : Nat := 0
  echoPeriod : Nat := 0
  echoCrc : Word := 0
  status : Nat := 0
  holdCnt : Nat := 0
  terr : Int := 0
  dupd : Nat := 0
  link : Nat := 0
  deriving DecidableEq, Repr, Inhabited
/-- The header of a frame from a cell: cell index, path (0 A, 1 B), PERIOD, EPOCH (R239). -/
structure FrameHdr where
  cell : Nat := 0
  path : Nat := 0
  period : Nat := 0
  epoch : Nat := 0
  deriving DecidableEq, Repr, Inhabited
/-- The data of an identity answer (R248). -/
structure IdentData where
  typ : Nat := 0
  rating : Nat := 0
  serial : Nat := 0
  fw : Nat := 0
  hwRev : Nat := 0
  strap : Nat := 0
  caps : Nat := 0
  deriving DecidableEq, Repr, Inhabited
/-- Header of a balancing list or slice (R380). -/
structure BalHdr where
  period : Nat := 0
  arm : Nat := 0
  node : Nat := 0
  count : Nat := 0
  dirNeg : Bool := false
  deriving DecidableEq, Repr, Inhabited
/-- An entry of a list: KEY, cell, node (R380). -/
structure BalKey where
  key : Word
  cell : Nat
  node : Nat
  deriving DecidableEq, Repr, Inhabited
/-- A DISC frame's payload (R587). -/
structure DiscData where
  node : Nat := 255
  run : Nat := 7
  imageId : Nat := 0
  kF : Nat := 0
  outPhase : Nat := 0
  pairMember : Nat := 0
  host : Bool := false
  deriving DecidableEq, Repr, Inhabited
/-- The outcome of a command at its target (R134). -/
structure RemoteOut where
  status : Nat := 0
  code : Nat := 0
  detail : Nat := 0
  period : Nat := 0
  late : Bool := false
  deriving DecidableEq, Repr, Inhabited
/-- What one DATA frame carries (R590). -/
inductive Item
  | empty
  | record (h : RecHdr) (opcode : Nat) (payload : Bytes)
  | result (sess seq : Nat) (r : RemoteOut)
  | read (off : Nat) | write (off : Nat) (v : Word) | readResult (v : Word)
  | safeNotice (period : Nat)
  | part (off : Nat) (bytes : Bytes)
  deriving DecidableEq, Repr, Inhabited
/-- The header of a mesh frame, but for LEN (R580). -/
structure MHdr where
  typ : Nat := 0
  dst : Nat := 0
  src : Nat := 0
  path : Bool := false
  mirror : Bool := false
  hops : Nat := 0
  epoch : Nat := 0
  seq : Nat := 0
  word : Nat := 0
  deriving DecidableEq, Repr, Inhabited
/-- A GLOBAL symbol: ORIGIN, TAG, ARG (R582). -/
structure Sym where
  origin : Nat := 0
  tag : Nat := 0
  arg : Nat := 0
  deriving DecidableEq, Repr, Inhabited
/-- One journal entry (R136). -/
structure JEntry where
  index : Nat := 0
  time : Nat := 0
  sess : Nat := 0
  src : Nat := 7
  origin : Nat := 0
  seq : Nat := 0
  opcode : Nat := 0
  result : Nat := 0
  flags : Nat := 0
  target : Nat := 0
  effPeriod : Nat := 0
  tnode : Nat := 0
  digest : Bytes := []
  boot : Nat := 0
  chain : Word := 0
  damaged : Bool := false
  deriving DecidableEq, Repr, Inhabited
/-- A mirrored INPUT frame (R618). -/
structure InputSet where
  period : Nat := 0
  words : List (List Word) := []
  stale : List (List Bool) := []
  vars : List Word := []
  deriving DecidableEq, Repr, Inhabited
/-- A mirrored REFS frame (R618). -/
structure RefsFrame where
  period : Nat := 0
  epoch : Nat := 0
  mode : Nat := 0
  target : Nat := 0
  sub : Nat := 0
  safeReason : Nat := 0
  sps : List (Word × Word) := []
  refs : List (Nat × List Word) := []
  ranks : List (Nat × List (Nat × Nat)) := []
  setCrcs : List (Nat × Word) := []
  mirrorOff : Bool := false
  mirrorNo : Nat := 0
  /-- receive lanes of the paths that the ACTIVE reports up, a mask (R625; its place is not stated, log entry 67) -/
  paths : Nat := 0
  deriving DecidableEq, Repr, Inhabited
/-- A mirrored CMD frame (R618): the record as accepted. -/
structure CmdFrame where
  h : RecHdr := {}
  opcode : Nat := 0
  payload : Bytes := []
  mirrorNo : Nat := 0
  jidx : Nat := 0
  acceptTime : Nat := 0
  deriving DecidableEq, Repr, Inhabited

/-- A HEALTH frame (R618): the health word, acknowledgements, the candidate IMAGE_ID it reports as ARMED (R92), the send times
of the markers on the path it originates: lane, count, system time. -/
structure HealthFrame where
  word : Nat := 0
  ackCmd : Nat := 0
  ackJnl : Nat := 0
  armed : Option Nat := none
  marks : List (Nat × Nat × Nat) := []
  deriving DecidableEq, Repr, Inhabited

/-- What a PAIR frame carries (R618). -/
inductive PairMsg
  | input (x : InputSet)
  | refs (r : RefsFrame)
  | cmd (c : CmdFrame)
  | jnl (e : JEntry)
  | health (f : HealthFrame)
  | resign (cause : Nat)
  | handover (h : Nat)
  | sync (page : Nat)
  deriving DecidableEq, Repr, Inhabited
/-- What a mesh frame carries; relay: the payload and the CRC field of a frame in transit. -/
inductive MBody
  | item (i : Item)
  | ack (seq status : Nat)
  | word (period kind group : Nat) (entries : List (Nat × Word))
  | balList (h : BalHdr) (keys : List BalKey)
  | balSlice (h : BalHdr) (ranks : List Nat)
  | time (cnt t1 cnt4 t4 : Nat)
  | disc (d : DiscData)
  | link (num : Nat) (up : Bool)
  | pair (m : PairMsg)
  | relay (pay : Bytes) (crc : Nat)
  deriving DecidableEq, Repr, Inhabited
/-- A mesh frame that waits at an output or leaves it (R580, R581). -/
structure MFrame where
  hdr : MHdr := {}
  body : MBody := .item .empty
  deriving DecidableEq, Repr, Inhabited

/-! ## Bench instructions (R325) -/
inductive ArithOp | fma | mul | add | sub
  deriving DecidableEq, Repr, Inhabited
inductive SelOp | cmpLt | cmpLe | cmpEq | select | min | max | clamp | abs | neg
  deriving DecidableEq, Repr, Inhabited
inductive LaneOp | shuffle (l0 l1 l2 l3 : Nat) | broadcast (l : Nat) | negate (mask : Nat) | reduce
  deriving DecidableEq, Repr, Inhabited
inductive ConvOp | fromInt16 | fromInt32 | toInt16 | toInt32
  deriving DecidableEq, Repr, Inhabited

/-! ## The commands: every row of spec/opcode_table.json. t is the instant, in device ticks, at which the row happens. -/

/-- The commands and events of the block, in the table's order. -/
inductive Instr where
  /-- SAMPLE_LATCH R37: At each period boundary S(n) every measuring block latches its latest values, stale flags are set and a new period number begins -/
  | sampleLatch (t : Nat)
  /-- BENCH_START R38: Every bench starts its program 100 ns after S(n), with the latched set already in its local memory -/
  | benchStart (t : Nat)
  /-- BENCH_FINISH_DEADLINE R40: A bench that has not stored its last output by the deadline is halted, releases nothing for the period and raises OVERRUN -/
  | benchFinishDeadline (t : Nat)
  /-- BENCH_FAULT_ESCALATION R338: Bench faults in 2 periods within 16, or a FAULTED bench, force SAFE, stop the pair heartbeat and set ESCALATED -/
  | benchFaultEscalation (t : Nat)
  /-- OUTPUT_PHASE R39: At O(n) the benches release their outputs and the complete rankings to the EDGE island and to their other destinations -/
  | outputPhase (t : Nat)
  /-- TRACE_DONE R361: After the post-trigger count of rows the capture stops with STATE DONE and vector 41 -/
  | traceDone (t : Nat)
  /-- COMMIT_LANDING R46: A reference commit becomes visible in the EDGE island and is assigned to a compile by its landing cycle, setting LATE in the reload cut -/
  | commitLanding (t : Nat) (g : Nat)
  /-- COMPILE_START R42: At C(n) the EDGE island freezes the reference buffer and the two engines compile edge period n+1 -/
  | compileStart (t : Nat) (mismatch slow : List Nat)
  /-- COMPILE_STOP R302: Mismatches or late sets in 2 of 16 compiles stop the compile, drive LPWM off and force SAFE -/
  | compileStop (t : Nat)
  /-- SHIP_SLOT R301: A frame not compared by its ship slot is withheld and COMPILE_LATE is set -/
  | shipSlot (t : Nat) (c : Nat)
  /-- LOCAL_SET_DEADLINE R301: A local set not compared 64 cycles before the opening of its edge period is withheld -/
  | localSetDeadline (t : Nat) (g : Nat)
  /-- EDGE_FRAME_SHIP R299: The compared EDGE frames of a seam leave on both paths in ascending position once any frame block on the lane has gone -/
  | edgeFrameShip (t : Nat) (seam : Nat)
  /-- EDGE_PERIOD_OPENING R308: At the opening of an edge period local outputs change to or from executing and execute the new local sets -/
  | edgePeriodOpening (t : Nat)
  /-- LPWM_TRANSITION R309: An LPWM output executes a transition at the system time of its edge -/
  | lpwmTransition (t : Nat) (j : Nat)
  /-- BENCH_ARITHMETIC R325: A fused multiply-add, multiply, add or subtract instruction per lane, result usable after 4 cycles -/
  | benchArithmetic (t : Nat) (b : Nat) (op : ArithOp) (d x y z : Nat)
  /-- BENCH_SELECT R325: A compare, select, min, max, clamp, abs or negate instruction -/
  | benchSelect (t : Nat) (b : Nat) (op : SelOp) (d x y z : Nat)
  /-- BENCH_LANE R325: A shuffle, broadcast, lane negate or pairwise reduce instruction -/
  | benchLane (t : Nat) (b : Nat) (op : LaneOp) (d x y : Nat)
  /-- BENCH_CONVERT R325: A conversion between integer and binary32 with scale or saturation -/
  | benchConvert (t : Nat) (b : Nat) (op : ConvOp) (d x : Nat) (scale : Word)
  /-- BENCH_ESTIMATE R325: A refined reciprocal or reciprocal square root instruction -/
  | benchEstimate (t : Nat) (b : Nat) (rsqrt : Bool) (d x : Nat)
  /-- BENCH_LOAD R328: A load of 1 to 4 words from local memory into a register, a COUNT fault when from a forbidden range -/
  | benchLoad (t : Nat) (b d addr n : Nat)
  /-- BENCH_STORE R328: A store of 1 to 4 words into local memory, a COUNT fault when into a forbidden region -/
  | benchStore (t : Nat) (b x addr n : Nat)
  /-- BENCH_LOOP R325: A loop instruction repeating the next 1 to 64 instructions a fixed count -/
  | benchLoop (t : Nat) (b len count : Nat)
  /-- BENCH_END R336: END ends the program for the period and the cycle count is compared with C_b -/
  | benchEnd (t : Nat) (b : Nat)
  /-- CORDIC_REQUEST R340: A bench issues a CORDIC request in its slot, or raises SLOT when outside it -/
  | cordicRequest (t : Nat) (b fn d x : Nat)
  /-- CORDIC_RESULT R340: The CORDIC unit writes its results to the destination register 24 cycles after issue -/
  | cordicResult (t : Nat) (b : Nat)
  /-- SORT_REQUEST R342: A bench issues a sort request to the BAL sorter in its assigned cycle -/
  | sortRequest (t : Nat) (b n : Nat)
  /-- SORT_RESULT R342: The sorter writes the rank of each key 64 + ceil(N/4) cycles after issue -/
  | sortResult (t : Nat) (b : Nat)
  /-- RC_REQUEST R357: A bench issues a repetitive-controller request, and the unit reads and updates the loop's table -/
  | rcRequest (t : Nat) (b loop x : Nat)
  /-- RC_RESULT R343: The repetitive-controller unit writes u_rc into UNIT 40 cycles after issue -/
  | rcResult (t : Nat) (b : Nat)
  /-- ARM_SORT R377: BAL issues an arm sort at its assigned cycle and the ranking is completed for release at O(n) -/
  | armSort (t : Nat) (arm : Nat)
  /-- ARM_SORT_RESULT R377: The arm ranking is delivered, or RANK_LATE is set when not complete by the deadline -/
  | armSortResult (t : Nat) (arm : Nat)
  /-- INTERP_START R353: The gain-schedule interpolator starts 100 ns after S(n) and computes the targets of every table -/
  | interpStart (t : Nat)
  /-- INTERP_DEADLINE R354: A table not finished by S(n+1) - 200 ns keeps its coefficients and sets INTERP_LATE -/
  | interpDeadline (t : Nat) (late : List Nat)
  /-- THERMAL_PASS R390: The thermal pass computes losses and steps the thermal network of every cell, updating derating -/
  | thermalPass (t : Nat)
  /-- THERMAL_DEADLINE R392: A cell the pass has not reached by S(n+1) - 100 ns keeps its previous loss and THERM_LATE is set -/
  | thermalDeadline (t : Nat) (late : List Nat)
  /-- DERATE_RESTART_END R391: The derating hold after an uncorrectable-error restart ends after DERATE_RESTART -/
  | derateRestartEnd (t : Nat) (c : Nat)
  /-- BAL_LIST_SEND R380: At list time t_L each member node sends its sorted list of a spread arm to the master -/
  | balListSend (t : Nat) (arm : Nat)
  /-- BAL_LIST_RECEIVE R380: The master receives a member's list for the period in a BAL frame -/
  | balListReceive (t : Nat) (x : PortRx)
  /-- BAL_MERGE R380: At merge time t_M the master merges every list present, or the last received, and sends each member its slice -/
  | balMerge (t : Nat) (arm : Nat)
  /-- BAL_SLICE_RECEIVE R380: A member receives its slice of a spread arm's ranking -/
  | balSliceReceive (t : Nat) (x : PortRx)
  /-- BAL_SLICE_DEADLINE R382: At O(n) - 50 ns a member without a whole slice releases no ranking and counts a miss -/
  | balSliceDeadline (t : Nat) (arm : Nat)
  /-- MERGE_LOST R382: Eight consecutive missing lists or slices set MERGE_LOST and force SAFE -/
  | mergeLost (t : Nat) (arm : Nat)
  /-- SRAM_UNCORRECTABLE_ERROR R29: A double-bit SRAM error is reported with its address and handled by the region's rule -/
  | sramUncorrectableError (t : Nat) (region bench offset : Nat)
  /-- SRAM_CORRECTED_ERROR R30: A single-bit error is corrected, written back and counted -/
  | sramCorrectedError (t : Nat) (region bench : Nat)
  /-- SCRUB_PASS R31: The background scrub reads every SRAM word, completing a pass at least once per second -/
  | scrubPass (t : Nat)
  /-- IMG_BUF_OPEN R55: Claims the trace memory as the load buffer and discards any trace contents -/
  | imgBufOpen (t : Nat) (h : RecHdr)
  /-- IMG_BUF_CLOSE R57: Releases the load buffer -/
  | imgBufClose (t : Nat) (h : RecHdr)
  /-- IMG_SLOT_ERASE R58: Starts erasing a slot, commit record first -/
  | imgSlotErase (t : Nat) (h : RecHdr) (slot : Nat)
  /-- SLOT_ERASE_DONE R58: The erase ends and the slot is reported EMPTY with reason ERASED -/
  | slotEraseDone (t : Nat) (slot : Nat)
  /-- IMG_SLOT_WRITE R54: Starts copying a length from the load buffer into a slot in the safe order of erase, program, read-back and commit -/
  | imgSlotWrite (t : Nat) (h : RecHdr) (slot len : Nat)
  /-- SLOT_WRITE_DONE R58: The commit record is written and validation steps 1 to 7 report the slot INTACT or its failure -/
  | slotWriteDone (t : Nat) (slot : Nat)
  /-- IMG_SET_BOOT R97: Chooses slot A or B as the boot slot in the event store -/
  | imgSetBoot (t : Nat) (h : RecHdr) (slot : Nat)
  /-- IMG_LOAD R85: Starts the full validation of a slot or the load buffer as a candidate while stopped -/
  | imgLoad (t : Nat) (h : RecHdr) (source len : Nat)
  /-- IMAGE_VALIDATION_DONE R70: A validation ends with VALID or the state and reason of the first failing step, and the image comes into force or HOST-WAIT is entered -/
  | imageValidationDone (t : Nat) (desc : ImgDesc)
  /-- PRESENCE_FIT_WINDOW R73: Step 9 ends when every declared node and required cell has answered or DISC_WIN expires -/
  | presenceFitWindow (t : Nat)
  /-- BOOT_VALIDATION R79: At power-on and each image reload the controller starts validating the boot slot -/
  | bootValidation (t : Nat)
  /-- IMG_RECHECK R77: Repeats steps 8 and 9 on the MISMATCH image held in HOST-WAIT -/
  | imgRecheck (t : Nat) (h : RecHdr)
  /-- IMG_ARM R87: Starts checking a hot-swap candidate and staging its differing sections -/
  | imgArm (t : Nat) (h : RecHdr) (source len : Nat)
  /-- ARMING_DONE R87: Arming ends with STATE ARMED or REFUSED with the failing reason -/
  | armingDone (t : Nat) (desc : ImgDesc)
  /-- IMG_SWAP R89: Schedules the armed swap for a period boundary, late or refused by the relation to the landing period -/
  | imgSwap (t : Nat) (h : RecHdr) (period : Nat)
  /-- IMG_DISARM R88: Discards an arming, armed or scheduled candidate and returns STATE to IDLE -/
  | imgDisarm (t : Nat) (h : RecHdr)
  /-- SWAP_BOUNDARY R90: At S(m) the tables banks change over and the replaced sections take effect -/
  | swapBoundary (t : Nat)
  /-- SWAP_CANCEL R91: A staged candidate is cancelled by reload, warm reset, IMG_LOAD or an uncorrectable error in the staged data -/
  | swapCancel (t : Nat) (ecc : Bool)
  /-- IMG_FW_WRITE R687: Starts writing firmware from the load buffer into the inactive bank and checking it -/
  | imgFwWrite (t : Nat) (h : RecHdr) (len : Nat)
  /-- FW_WRITE_DONE R687: The inactive bank is written and checked, and IMG_FW_STS reports the result -/
  | fwWriteDone (t : Nat) (good : Bool)
  /-- IMG_FW_SWITCH R688: Schedules the housekeeping cores to restart from the good inactive bank at the next period boundary -/
  | imgFwSwitch (t : Nat) (h : RecHdr)
  /-- FW_SWITCH_RESTART R688: At the period boundary the cores restart from the inactive bank while control runs on -/
  | fwSwitchRestart (t : Nat)
  /-- FW_SWITCH_DONE R688: The new bank starts and is recorded active, or after 24 ms the old bank is reloaded and STATE is FAILED -/
  | fwSwitchDone (t : Nat) (started : Bool)
  /-- SESSION_OPEN R122: Opens a session in a closed context through a mailbox, assigning its SESSION_ID and role -/
  | sessionOpen (t : Nat) (h : RecHdr) (ctx role : Nat)
  /-- SESSION_CLOSE R119: Closes the session, releases its role, runs the host-loss check and advances the generation -/
  | sessionClose (t : Nat) (h : RecHdr)
  /-- KEEPALIVE R126: Renews the lease and is answered ALIVE with the expected sequence number -/
  | keepalive (t : Nat) (h : RecHdr)
  /-- RESUME R144: Resumes a parked or live session through a mailbox, keeping its sequence state and cache -/
  | resume (t : Nat) (h : RecHdr) (lastSeq : Nat)
  /-- TAKE_CONTROL R123: Moves the CONTROL role to the requesting session when vacant, parked or forced -/
  | takeControl (t : Nat) (h : RecHdr)
  /-- RELEASE_CONTROL R123: Leaves the CONTROL role vacant and runs the host-loss check -/
  | releaseControl (t : Nat) (h : RecHdr)
  /-- HOST_SESS_CTL_START R751: A write of START judges the ring registers and takes a BINDING context to OPEN or sets RING_ERR -/
  | hostSessCtlStart (t : Nat) (ifc : Iface) (ctx : Nat)
  /-- HOST_SQ_TAIL_WRITE R121: A write of the submission tail makes records available, or is handled as a failed ring access when out of range -/
  | hostSqTailWrite (t : Nat) (ifc : Iface) (ctx v : Nat)
  /-- HOST_CQ_HEAD_WRITE R115: A write of the completion head frees slots so that taking records can resume -/
  | hostCqHeadWrite (t : Nat) (ifc : Iface) (ctx v : Nat)
  /-- RECORD_FETCH R118: The command processor takes the next record from a session ring or mailbox in turn -/
  | recordFetch (t : Nat) (bytes : Bytes)
  /-- HOST_MBX_DOORBELL R117: A doorbell write starts processing of the mailbox record, or sets DB_LOST while busy -/
  | hostMbxDoorbell (t : Nat) (m : Nat)
  /-- RING_ACCESS_FAILURE R116: A failed ring read or completion write sets RING_ERR and stops taking records from the session -/
  | ringAccessFailure (t : Nat) (ctx : Nat)
  /-- LEASE_EXPIRY R125: A session whose lease expires is PARKED, journalled EV_PARK and host-loss checked -/
  | leaseExpiry (t : Nat) (ctx : Nat)
  /-- PARK_KEEP_EXPIRY R119: A session parked for PARK_KEEP is closed, journalled EV_CLOSE and its cache discarded -/
  | parkKeepExpiry (t : Nat) (ctx : Nat)
  /-- HOST_LOSS_POLICY R448: At its boundary each node applies HOLD, RAMP or STOP and sets MODE_STS.LOSS -/
  | hostLossPolicy (t : Nat)
  /-- JOURNAL_SPILL R143: Entries are copied to the host spill buffer while there is room, skipping entries that left the ring -/
  | journalSpill (t : Nat)
  /-- REMOTE_RESULT R134: The result of a command delivered to another node returns and the head writes its completion and journal entry -/
  | remoteResult (t : Nat) (node sess seq : Nat) (r : RemoteOut)
  /-- REG_WRITE R700: Writes one register of the named node as a 32-bit write, journalled -/
  | regWrite (t : Nat) (h : RecHdr) (off : Nat) (v : Word)
  /-- REGISTER_WRITE R697: A direct write to a register without its own row is applied, ignored or refused, and journalled when it changes a register -/
  | registerWrite (t : Nat) (ifc : Iface) (off size : Nat) (v : Nat)
  /-- LOAD_BUFFER_WRITE R55: A host write through the trace window while the load buffer is open goes to the buffer -/
  | loadBufferWrite (t : Nat) (ifc : Iface) (off : Nat) (bytes : Bytes)
  /-- RC_READ R16: A read of an RC field returns its value and clears it, from any interface -/
  | rcRead (t : Nat) (ifc : Iface) (off size : Nat)
  /-- CLK_TIME_LO_READ R173: A read of CLK_TIME_LO returns system time and latches the high word -/
  | clkTimeLoRead (t : Nat) (ifc : Iface) (wide : Bool)
  /-- JNL_LO_READ R140: A read of the low word of JNL_HEAD or JNL_TAIL latches its high word -/
  | jnlLoRead (t : Nat) (ifc : Iface) (tail wide : Bool)
  /-- REMOTE_REGISTER_ACCESS R604: A BAR0 access with MESH_VIEW enabled is carried to the named node and completes or returns all ones -/
  | remoteRegisterAccess (t : Nat) (write : Bool) (off size v : Nat)
  /-- SPI_TRANSACTION R104: A service SPI transaction reads or writes words of the local node's space -/
  | spiTransaction (t : Nat) (bytes : Bytes)
  /-- REGACC R701: A JTAG REGACC Update-DR performs a register read or write with SOURCE DIRECT_JTAG -/
  | regacc (t : Nat) (dr : Nat)
  /-- FUSE_PROG R742: Programs the key hash and its enable in one operation when the conditions hold -/
  | fuseProg (t : Nat) (key : Bytes) (vppOk tempOk : Bool)
  /-- REF_FREQUENCY_COUNT R154: When the PLL domain comes up, REFCLK edges are counted over 256 AON cycles and the frequency taken -/
  | refFrequencyCount (t : Nat) (count : Nat)
  /-- REF_COUNT_RETRY R154: With REF_BAD set the count repeats every 100 us -/
  | refCountRetry (t : Nat) (count : Nat)
  /-- BAND_FOUND R157: The band search ends and SYSPLL enters ACQUIRE -/
  | bandFound (t : Nat)
  /-- ACQUISITION_TIMEOUT R158: Acquisition without the window for 150 us restarts the search, setting LOCK_FAIL after four -/
  | acquisitionTimeout (t : Nat)
  /-- LOCK_SEARCH_RETRY R158: After LOCK_FAIL the search is repeated every 10 ms -/
  | lockSearchRetry (t : Nat)
  /-- LOCK_DECLARED R157: The phase error has stayed in the window for N cycles and SYSPLL enters ALIGN -/
  | lockDeclared (t cycles peak : Nat)
  /-- ALIGNMENT_DONE R162: Alignment completes, the islands switch to SYSPLL and TIME_VALID is set -/
  | alignmentDone (t : Nat)
  /-- REFERENCE_LOSS R162: The reference is absent for 4 expected cycles and SYSPLL enters HOLDOVER -/
  | referenceLoss (t : Nat)
  /-- LOSS_OF_LOCK R163: SYSPLL loses lock, the islands go to the fallback oscillator and control is stopped in SAFE -/
  | lossOfLock (t cycles least : Nat) (clamp : Bool)
  /-- REFERENCE_RETURN R166: The reference returns in HOLDOVER and its alignment error decides slew, DIVERGED or REF_CHANGED -/
  | referenceReturn (t : Nat) (mesh : Bool) (band : Nat) (err : Int)
  /-- SLEW_DONE R166: The slew brings the error within 1 tick and SYSPLL enters LOCKED -/
  | slewDone (t : Nat)
  /-- REF_CHANGE_RELOCK R167: A REFCLK that returned in another band is re-locked once the mode decided is OFF or in HOST-WAIT -/
  | refChangeRelock (t : Nat)
  /-- MESH_REFERENCE_LOSS R162: With the mesh as source and the mesh reference absent, SYSPLL holds and switches to REFCLK -/
  | meshReferenceLoss (t : Nat)
  /-- MESH_REFERENCE_SWITCH R155: Once time is taken from the mesh master, SYSPLL switches to the mesh reference without a phase step -/
  | meshReferenceSwitch (t : Nat)
  /-- CLK_TIME_LOAD R174: Accepts a new system time to act at a later 2,048-tick instant -/
  | clkTimeLoad (t : Nat) (h : RecHdr) (time : Nat)
  /-- TIME_LOAD_ACT R174: At the load instant system time becomes the new value, or the load is cancelled if a condition failed -/
  | timeLoadAct (t : Nat)
  /-- OUTPLL_LOCKED R180: OUTPLL locks and the enabled outputs start -/
  | outpllLocked (t cycles peak : Nat)
  /-- OUTPLL_LOSS_OF_LOCK R176: OUTPLL loses lock and OUT_LOL is set -/
  | outpllLossOfLock (t cycles least : Nat)
  /-- CLK_OUTPLL_CFG_WRITE R180: A write stops every running output and re-locks OUTPLL -/
  | clkOutpllCfgWrite (t : Nat) (ifc : Iface) (v : Word)
  /-- CLK_OUT_CFG_WRITE R180: A write that changes EN, FMT or DIV stops and restarts the output without a runt -/
  | clkOutCfgWrite (t : Nat) (ifc : Iface) (n : Nat) (v : Word)
  /-- CLK_OUT_FSTEP_WRITE R182: A write sets a new fine-step target, moved toward one step per output cycle -/
  | clkOutFstepWrite (t : Nat) (ifc : Iface) (n : Nat) (v : Word)
  /-- TRIM_SAMPLE R185: At each sensor sample a compensation table moves its applied trim by at most 1 LSB -/
  | trimSample (t : Nat) (target : Nat)
  /-- DIE_SENSOR_SAMPLE R395: Every die sensor is sampled, and failures, warnings and the fast rate are judged -/
  | dieSensorSample (t : Nat) (readings : List Int)
  /-- DIE_FAST_RATE_END R395: After 10 ms with no sensor in either band, sampling returns to 1 ms -/
  | dieFastRateEnd (t : Nat)
  /-- DIE_SHUTDOWN R398: Two samples at 135 C close the gates, trip the seams, record and enter PARK -/
  | dieShutdown (t : Nat)
  /-- EVENT_RECORD_WRITE R401: A queued event record is written to the ring, coalesced or dropped as the rules give -/
  | eventRecordWrite (t : Nat)
  /-- EVENT_SECTOR_ERASE R401: The sector ahead of the ring is erased when the ring enters the sector before it -/
  | eventSectorErase (t : Nat)
  /-- LANE_TEST R221: Starts or ends a loopback or PRBS31 test on a lane -/
  | laneTest (t : Nat) (h : RecHdr) (lane test loop : Nat)
  /-- LANE_RETRAIN R227: Starts recalibrating one lane direction in service -/
  | laneRetrain (t : Nat) (h : RecHdr) (lane dir : Nat)
  /-- LANE_SLEEP R225: Puts a lane direction to sleep after SLEEP_NOTICE -/
  | laneSleep (t : Nat) (h : RecHdr) (lane dir : Nat)
  /-- LANE_WAKE R226: Wakes a sleeping lane direction -/
  | laneWake (t : Nat) (h : RecHdr) (lane dir : Nat)
  /-- CDR_LOCK R208: 64 consecutive valid sync headers take the receiver to BLOCK -/
  | cdrLock (t : Nat) (l : Nat)
  /-- ATTEMPT_TIMEOUT R208: A bring-up attempt reaching 5 ms counts a retry and schedules the next attempt -/
  | attemptTimeout (t : Nat) (l : Nat) (signal cdr : Bool)
  /-- RETRY_GAP_END R208: After the 10 ms retry gap a new bring-up attempt starts -/
  | retryGapEnd (t : Nat) (l : Nat)
  /-- MARKER_RECEIVED R204: An accepted marker is checked for origin, advances marker lock to UP and updates loop delay -/
  | markerReceived (t : Nat) (x : LaneRx)
  /-- MARKER_LOST R208: Four marker slots without an accepted marker take the receiver from UP to BLOCK -/
  | markerLost (t : Nat) (l : Nat)
  /-- BLOCK_LOST R208: 16 invalid sync headers in 64 blocks take the receiver to CDR -/
  | blockLost (t : Nat) (l : Nat)
  /-- SIGNAL_LOSS R208: Input below threshold for 100 ns takes the receiver to CDR with LOS_EVT or PARTNER_SLEEP -/
  | signalLoss (t : Nat) (l : Nat)
  /-- HI_BER R209: 16 invalid sync headers within 125 us set HI_BER, which clears after a clean 125 us -/
  | hiBer (t : Nat) (l bad : Nat)
  /-- RETRAIN_ADAPTATION_DONE R228: A receiver retrain's equaliser adaptation ends and bring-up restarts -/
  | retrainAdaptationDone (t : Nat) (l : Nat)
  /-- TX_RETRAIN_DONE R228: A transmitter retrain ends and idle and markers are sent again -/
  | txRetrainDone (t : Nat) (l : Nat)
  /-- RX_WAKE_DONE R208: 20 us after a wake request the receiver enters CDR -/
  | rxWakeDone (t : Nat) (l : Nat)
  /-- TX_WAKE_DONE R226: The transmitter is ON with idle and markers on the line -/
  | txWakeDone (t : Nat) (l : Nat)
  /-- MARKER_SEND R203: Every transmitter that is on sends an alignment marker as the first block of each 16,384 -/
  | markerSend (t : Nat) (q : Nat)
  /-- FAR_LOOP_ON R220: A received FAR_LOOP_ON lane command loops the port back, or is ignored on a port with mesh or pair traffic -/
  | farLoopOn (t : Nat) (x : LaneRx)
  /-- FAR_LOOP_OFF R207: A received FAR_LOOP_OFF ends the loop and resumes idle and markers -/
  | farLoopOff (t : Nat) (x : LaneRx)
  /-- SLEEP_NOTICE R207: A received SLEEP_NOTICE marks the following signal loss as a sleep -/
  | sleepNotice (t : Nat) (x : LaneRx)
  /-- FEED R255: A whole FEED frame from a cell is stored for the latch, or discarded when late, and drives context state -/
  | feed (t : Nat) (x : LaneRx)
  /-- BABBLE_CUT R266: A cell exceeding its frame allowance is filtered off by its neighbours and blocked -/
  | babbleCut (t : Nat) (c : Nat)
  /-- ACK R247: An ACK from a cell completes its EDGE or CTRL operation and advances its join step -/
  | ack (t : Nat) (x : LaneRx)
  /-- NAK R247: A NAK from a cell is counted and drives the context by its code -/
  | nak (t : Nat) (x : LaneRx)
  /-- IDENTITY_ANSWER R258: A cell's answer to IDENT_QUERY admits it to JOINING or excludes it -/
  | identityAnswer (t : Nat) (x : LaneRx)
  /-- CELL_TRIP_BLOCK R519: A TRIP block received from a cell latches source 34 -/
  | cellTripBlock (t : Nat) (x : LaneRx)
  /-- IDENT_QUERY_TIMER R259: IDENT_QUERY is sent to absent and lost positions each IDENT_MS and to undeclared ones each 10 IDENT_MS -/
  | identQueryTimer (t : Nat)
  /-- CTRL_RETRY_TIMEOUT R249: A CTRL frame unanswered within 100 us, or 250 ms for FW_END, is sent again; after three it fails -/
  | ctrlRetryTimeout (t : Nat) (c : Nat)
  /-- CELL_LOST_TIMEOUT R258: No whole frame from an active or holding cell for L periods makes it LOST -/
  | cellLostTimeout (t : Nat) (c : Nat)
  /-- PRE_TIMEOUT_EXPIRY R260: A cell in J5 beyond PRE_TIMEOUT is excluded with reason PRECHARGE -/
  | preTimeoutExpiry (t : Nat) (c : Nat)
  /-- FW_REBOOT_TIMEOUT R258: No identity answer within FW_REBOOT_MAX after FW_SWITCH excludes the cell with FW_FAIL -/
  | fwRebootTimeout (t : Nat) (c : Nat)
  /-- TRIP_BLOCK_REPEAT R242: While a trip stays latched, one TRIP block is repeated every 1,024 blocks on each seam in scope -/
  | tripBlockRepeat (t : Nat) (seam : Nat)
  /-- CELL_REJOIN R258: Starts the join of a lost, bypassed or excluded cell -/
  | cellRejoin (t : Nat) (h : RecHdr)
  /-- CELL_ADMIT R258: Replaces the seat record with the given serial and starts the join -/
  | cellAdmit (t : Nat) (h : RecHdr) (serial : Nat)
  /-- CELL_BYPASS R267: Sends BYPASS to the cell for the next uncompiled edge period -/
  | cellBypass (t : Nat) (h : RecHdr)
  /-- CELL_EXCLUDE R258: Excludes the cell with reason HOST and sends BLOCK -/
  | cellExclude (t : Nat) (h : RecHdr)
  /-- CELL_FW_LOAD R269: Sends a firmware image from the load buffer to the cell part by part and switches it -/
  | cellFwLoad (t : Nat) (h : RecHdr) (off len : Nat) (crc : Word)
  /-- CELL_BYPASS_TIMEOUT R429: A cell that left service and is not BYPASSED within 100 ms forces SAFE with reason CELLS -/
  | cellBypassTimeout (t : Nat) (c : Nat)
  /-- REF_STAGE R305: Writes slots of a HOST-owned group's staging block -/
  | refStage (t : Nat) (h : RecHdr) (g slot : Nat) (vals : List Word)
  /-- REF_COMMIT R306: Copies the staging block into a commit record that crosses to EDGE and completes SCHEDULED -/
  | refCommit (t : Nat) (h : RecHdr) (g : Nat)
  /-- REF_DISCARD R305: Reloads the staging block from the committed set -/
  | refDiscard (t : Nat) (h : RecHdr) (g : Nat)
  /-- WORD_FRAME_RECEIVE R603: A WORD frame from another node delivers input words for the next latch or a group commit -/
  | wordFrameReceive (t : Nat) (x : PortRx)
  /-- BLANKING_START R508: A selected LPWM transition starts a blanking timer window after DELAY -/
  | blankingStart (t : Nat) (b : Nat)
  /-- BLANKING_END R509: A blanking window ends and a comparator still firing latches its trip -/
  | blankingEnd (t : Nat) (b : Nat)
  /-- LOOP_OPEN R345: Opens a loop with source HOLD or MANUAL from the next bench start -/
  | loopOpen (t : Nat) (h : RecHdr) (loop source : Nat)
  /-- LOOP_CLOSE R348: Closes an open loop bumplessly through CLOSING -/
  | loopClose (t : Nat) (h : RecHdr) (loop : Nat)
  /-- LOOP_MANUAL R345: Replaces the manual values of an open loop -/
  | loopManual (t : Nat) (h : RecHdr) (loop : Nat) (vals : List Word)
  /-- COEF_WRITE R347: Writes DIRECT coefficients of a loop commanded open -/
  | coefWrite (t : Nat) (h : RecHdr) (loop idx : Nat) (vals : List Word)
  /-- RC_CTL R358: Disables, enables, freezes or clears a loop's repetitive controller -/
  | rcCtl (t : Nat) (h : RecHdr) (loop action : Nat)
  /-- TRACE_ARM R362: Arms the trace with the probes configured -/
  | traceArm (t : Nat) (h : RecHdr)
  /-- TRACE_STOP R363: Ends an armed or triggered trace at once with STATE STOPPED -/
  | traceStop (t : Nat) (h : RecHdr)
  /-- TRACE_FORCE R361: Forces the trigger on the next captured row -/
  | traceForce (t : Nat) (h : RecHdr)
  /-- THERM_REINIT R391: Restarts a cell's thermal estimates from its NTC -/
  | thermReinit (t : Nat) (h : RecHdr)
  /-- BAL_SHARE R385: Enables or disables thermal sharing and rotation for an arm from the next S(n) -/
  | balShare (t : Nat) (h : RecHdr) (enable : Nat)
  /-- EVS_MARK R403: Queues a HOST_MARK event record -/
  | evsMark (t : Nat) (h : RecHdr) (data : Bytes)
  /-- MODE_SET R417: Commands a mode change on one node or schedules it on the whole mesh -/
  | modeSet (t : Nat) (h : RecHdr) (mode scope : Nat)
  /-- SETPOINT R447: Sets the target of a set-point from the next S(n) -/
  | setpoint (t : Nat) (h : RecHdr) (sp : Nat) (v : Word)
  /-- MODE_LOSS_CLEAR R449: Clears MODE_STS.LOSS and leaves the targets as they stand -/
  | modeLossClear (t : Nat) (h : RecHdr)
  /-- OVL_SET R679: Ends and puts in force test overlays in one step -/
  | ovlSet (t : Nat) (h : RecHdr) (set clear group : Nat)
  /-- MESH_MODE_BOUNDARY R420: A SCOPE MESH mode change acts on every node from its scheduled boundary -/
  | meshModeBoundary (t : Nat)
  /-- SAFE_NOTICE_RECEIVED R421: A SAFE notice from another node puts this node into SAFE with reason PEER from a later boundary -/
  | safeNoticeReceived (t : Nat) (node period : Nat)
  /-- PRECHARGE_P1_TIMEOUT R422: P1 beyond PRE_TMAX enters SAFE with reason PRECHARGE -/
  | prechargeP1Timeout (t : Nat)
  /-- PRECHARGE_P2_TIMEOUT R422: P2 without contactor feedback within MAIN_T enters SAFE -/
  | prechargeP2Timeout (t : Nat)
  /-- PRECHARGE_RELAY_OFF R422: The precharge relay goes off 50 ms after P3 began -/
  | prechargeRelayOff (t : Nat)
  /-- PRECHARGE_COMPLETE R422: 100 ms after P3 began precharge completes and the mode enters HOLD -/
  | prechargeComplete (t : Nat)
  /-- START_MAX_EXPIRY R417: A run mode not started within START_MAX returns TARGET to HOLD with START_FAIL -/
  | startMaxExpiry (t : Nat)
  /-- RUN_START_CONDITIONS R426: A run mode's start conditions held for their count start it from HOLD -/
  | runStartConditions (t : Nat)
  /-- GRID_COAST_DETECT R430: GRID_V below V_COAST for COAST_DET latches enters COAST and disables GRID -/
  | gridCoastDetect (t : Nat)
  /-- GRID_RETURN R430: GRID_V at or above V_RET for the RET_T count enters RESYNC -/
  | gridReturn (t : Nat)
  /-- RESYNC_COMPLETE R430: Angle and frequency within limits for RESYNC_N latches return to RUN -/
  | resyncComplete (t : Nat)
  /-- COAST_MAX_EXPIRY R430: COAST_MAX after COAST enters SAFE with reason GRID_LOST -/
  | coastMaxExpiry (t : Nat)
  /-- OVERLOAD_COUNT R434: LIMITED nonzero for the LIM_T count enters SAFE with reason OVERLOAD -/
  | overloadCount (t : Nat)
  /-- FLYING_START_FOUND R435: A steady EMF estimate for FS_N latches moves SEARCH to CATCH -/
  | flyingStartFound (t : Nat)
  /-- FS_TMAX_EXPIRY R435: FS_TMAX without a catch assumes standstill or returns to HOLD with FS_FAIL -/
  | fsTmaxExpiry (t : Nat)
  /-- CATCH_T_EXPIRY R435: CATCH_T after CATCH the drive enters RUN with the speed limiter at SPEED -/
  | catchTExpiry (t : Nat)
  /-- DRIVE_COAST_END R435: V_L below V_DEC_START for 1,000 latches returns COAST to SEARCH -/
  | driveCoastEnd (t : Nat)
  /-- ZERO_SPEED_COUNT R417: Speed at or below ZERO_SPD for ZERO_T latches ends DECEL in HOLD -/
  | zeroSpeedCount (t : Nat)
  /-- BRK_FAULT R440: The brake output on for the BRK_CHECK_T count without its comparator firing sets BRK_FAULT -/
  | brkFault (t : Nat)
  /-- FEEDBACK_LOST R443: An input stale for STALE_N or frozen for FREEZE_N latches is handled by its class -/
  | feedbackLost (t : Nat) (b w : Nat)
  /-- DWELL_END R446: The dwell at zero of a reversing set-point ends and the limiter continues -/
  | dwellEnd (t : Nat) (k : Nat)
  /-- ADC_RUN_START R467: A TIMED or FREE sequence run of an ADC starts, or is skipped when the previous run still converts -/
  | adcRunStart (t : Nat) (a : Nat)
  /-- ADC_CONVERSION_DONE R464: A conversion completes with its corrections and OVR or DOUBT flags -/
  | adcConversionDone (t : Nat) (a : Nat) (nv : Int)
  /-- ADC_WAKE R468: A powered-down ADC starts converting 300 ns after the request that wakes it -/
  | adcWake (t : Nat) (a : Nat)
  /-- INJECTED_REQUEST R472: An injected conversion is queued by its PHASE, CMP or HOST trigger, or discarded when the queue is full -/
  | injectedRequest (t : Nat) (a j : Nat)
  /-- ADC_INJECT R493: Queues a HOST-triggered injected conversion -/
  | adcInject (t : Nat) (h : RecHdr) (d : Nat)
  /-- ADC_CAL R479: Starts an in-service calibration of one ADC, which waits for its queue to empty -/
  | adcCal (t : Nat) (h : RecHdr)
  /-- CALIBRATION_RUNNING R479: Once the queue is empty the ADC enters RUNNING and the partner covers its shared entries -/
  | calibrationRunning (t : Nat) (a : Nat)
  /-- CALIBRATION_END R478: After 40 us the calibration ends, passing or failing, and sets CAL_END -/
  | calibrationEnd (t : Nat) (a : Nat) (ofs : Int) (gain : Word)
  /-- TDAC_SET R483: Sets the code of a test DAC -/
  | tdacSet (t : Nat) (h : RecHdr) (code : Nat)
  /-- TDAC_CONNECT R484: Switches a test DAC into an input or disconnects it -/
  | tdacConnect (t : Nat) (h : RecHdr) (input : Nat)
  /-- SIEVE_OUTPUT R490: A sieve produces its decimated output at its output instant, valid or SETTLING -/
  | sieveOutput (t : Nat) (sv : Nat) (stream : List Bool)
  /-- SIEVE_STUCK R491: 64 consecutive identical bits put a sieve in STUCK -/
  | sieveStuck (t : Nat) (k : Nat) (level : Bool) (stream : List Bool)
  /-- SDC_START_STOP R487: A modulator clock starts or stops without a runt as its run conditions change -/
  | sdcStartStop (t : Nat) (k : Nat)
  /-- COMPARATOR_STAGE_CHANGE R503: An input crossing a threshold changes a comparator stage, settling it and setting its firing state -/
  | comparatorStageChange (t : Nat) (k : Nat) (nv : Int)
  /-- SAMPLED_WINDOW R510: A sampled comparator is powered once per SI and takes its stage states -/
  | sampledWindow (t : Nat) (k : Nat) (nv : Int)
  /-- CMP_CHECK R511: Starts the four-step self-check of one comparator -/
  | cmpCheck (t : Nat) (h : RecHdr)
  /-- CMP_CHECK_END R511: The self-check ends, clearing or setting FAILED, and the comparator restarts -/
  | cmpCheckEnd (t : Nat) (k : Nat) (steps : List (Nat × Nat))
  /-- CMP_POWERUP_CHECKS R512: When the CMP domain comes up with an image, every used comparator checks itself in turn -/
  | cmpPowerupChecks (t : Nat)
  /-- CMP_THRESH R514: Sets new thresholds of a comparator, moved one code every 100 ns -/
  | cmpThresh (t : Nat) (h : RecHdr) (lo hi : Nat)
  /-- THRESHOLD_STEP R514: Each threshold DAC steps one code toward its new value -/
  | thresholdStep (t : Nat) (k : Nat)
  /-- TRIP_PIN_FILTER R515: FILT consecutive samples at the active level latch a trip pin's source -/
  | tripPinFilter (t : Nat) (k : Nat) (high : Bool) (samples : Nat)
  /-- TRIPN_LOW R517: TRIPN below its threshold while not ignored latches source TRIPN -/
  | tripnLow (t : Nat) (low : Bool)
  /-- TRIPN_IGNORE_END R517: 2 us after the controller releases TRIPN it takes the input again -/
  | tripnIgnoreEnd (t : Nat)
  /-- TRIP_RELEASE R524: Releases named trip latches that no longer fire -/
  | tripRelease (t : Nat) (h : RecHdr)
  /-- TRIP_RELEASE_LANDING R525: The release lands in the CMP domain, clears latches and releases seams left without a source -/
  | tripReleaseLanding (t : Nat)
  /-- SIN_CHANNEL_TAKEN R539: A safety input channel's level is taken after holding for FILT -/
  | sinChannelTaken (t : Nat) (ch : Nat) (high : Bool) (held : Nat)
  /-- DISCREPANCY R541: Channels disagreeing for longer than DISC latch the island with CAUSE DISCREPANCY -/
  | discrepancy (t : Nat) (p : Nat)
  /-- SAFE_RST_EDGE R550: A counted reset press moves the island from LATCHED to READY when the conditions hold -/
  | safeRstEdge (t : Nat) (held : Nat)
  /-- RST_STUCK R551: SAFE_RST held for more than 2 s sets RST_STUCK and counts no further edge -/
  | rstStuck (t : Nat)
  /-- GATE_POWER_REQUEST R544: The MODE block's gate-power request or withdrawal turns SOFF_A and SOFF_B on or off -/
  | gatePowerRequest (t : Nat)
  /-- TEST_PULSE R548: Every 10 s one SOFF output is turned off for 200 us, alternately -/
  | testPulse (t : Nat)
  /-- TEST_PULSE_END R548: The test pulse ends and the output is driven on again -/
  | testPulseEnd (t : Nat)
  /-- SOFF_READBACK_FAILURE R547: A SOFF level differing from the driven level for over 50 us puts the island in FAULT -/
  | soffReadbackFailure (t : Nat) (b : Bool)
  /-- LIVENESS_TIMEOUT R552: No period tick for LIVE_MS while ENABLED latches the island -/
  | livenessTimeout (t : Nat)
  /-- SAFE_CLOCK_CHECK R553: Each 1 ms the SAFE to AON clock ratio is checked and a failure puts the island in FAULT -/
  | safeClockCheck (t : Nat) (safeCycles aonCycles : Nat)
  /-- VDD_SAFE_FAULT R538: An undervoltage or overvoltage on VDD_SAFE holds the outputs off and returns the island to INIT -/
  | vddSafeFault (t : Nat)
  /-- SAFE_UNLOCK R558: Unlocks the safety section for the sending session when the passphrase matches -/
  | safeUnlock (t : Nat) (h : RecHdr) (len : Nat) (pass : Bytes)
  /-- SAFE_LOCK R558: Locks the safety section again -/
  | safeLock (t : Nat) (h : RecHdr)
  /-- SAFE_PASS_SET R557: Sets the salt and passphrase hash -/
  | safePassSet (t : Nat) (h : RecHdr) (salt : Bytes) (len : Nat) (pass : Bytes)
  /-- UNLOCK_TIMEOUT R558: UNLOCK_MIN minutes after the unlock the safety section locks again -/
  | unlockTimeout (t : Nat)
  /-- LOCKOUT_END R559: After 10 min of lockout FAILS returns to 0 -/
  | lockoutEnd (t : Nat)
  /-- SAFE_CTL_WRITE R572: A write that changes SAFE_CTL while unlocked writes a change-log entry -/
  | safeCtlWrite (t : Nat) (h : RecHdr) (v : Word)
  /-- DISC_SEND R587: Every 100 us a node sends a DISC frame on each used port -/
  | discSend (t : Nat)
  /-- DISC_RECEIVE R587: A received DISC frame feeds the fit checks and brings a conversation UP -/
  | discReceive (t : Nat) (x : PortRx) (d : DiscData)
  /-- DATA R590: A DATA frame of a node conversation is acknowledged and its item acted on once in SEQ order -/
  | data (t : Nat) (x : PortRx) (item : Item)
  /-- MESH_ACK R590: An ACK frame acknowledges a DATA frame of a conversation -/
  | meshAck (t : Nat) (x : PortRx) (seq status : Nat)
  /-- DATA_RETRANSMIT R590: A DATA frame unacknowledged within its timeout is sent again; after three the context goes LOST -/
  | dataRetransmit (t : Nat) (node : Nat)
  /-- NODE_SILENT R591: No frame from a node for 1 ms takes its conversation to LOST -/
  | nodeSilent (t : Nat) (node : Nat)
  /-- EMPTY_DATA_SEND R591: An idle conversation sends an empty DATA frame every 100 us -/
  | emptyDataSend (t : Nat) (node : Nat)
  /-- ISOLATED R592: A node that has lost node 0 for ISO_MS applies its host-loss policy and sets ISOLATED -/
  | isolated (t : Nat)
  /-- TIME_FRAME R593: A TIME frame from the end nearer the master updates the offset mean and TIME_OK -/
  | timeFrame (t : Nat) (x : PortRx) (cnt t1 cnt4 t4 : Nat)
  /-- PORT_DOWN_UP R584: A peer port going down or up makes both ends broadcast a LINK frame -/
  | portDownUp (t : Nat) (p : Nat)
  /-- LINK_FRAME R584: A received LINK frame switches the node to the tables for that link or back -/
  | linkFrame (t : Nat) (x : PortRx) (link : Nat) (up : Bool)
  /-- MESH_TRIP_FLOOD R601: An accepted mesh TRIP symbol is forwarded and latches source 33 -/
  | meshTripFlood (t : Nat) (x : PortRx)
  /-- FLOOD_REPEAT R601: A node with a latched MESH-flag trip repeats its flood every 1,024 port-blocks -/
  | floodRepeat (t : Nat)
  /-- BCAST_REG R597: A GLOBAL BCAST_REG symbol writes the register on each node, which confirms -/
  | bcastReg (t : Nat) (x : PortRx)
  /-- BAR_ARRIVE R598: A BAR_ARRIVE symbol reports a node's arrival at a barrier toward node 0 -/
  | barArrive (t : Nat) (x : PortRx)
  /-- BAR_RELEASE R598: A BAR_RELEASE symbol ends the barrier at each node -/
  | barRelease (t : Nat) (x : PortRx)
  /-- BAR_ARRIVE_RESEND R598: A node resends BAR_ARRIVE every 1 us until the release reaches it -/
  | barArriveResend (t : Nat)
  /-- BARRIER_TIMEOUT R598: No release within 100 us completes MESH_BARRIER UNKNOWN -/
  | barrierTimeout (t : Nat)
  /-- SNAP R599: A SNAP symbol schedules a snapshot at its tick -/
  | snap (t : Nat) (x : PortRx)
  /-- SNAPSHOT_EXECUTE R599: At its tick each node copies its items into the snapshot page -/
  | snapshotExecute (t : Nat)
  /-- RESET_SYMBOL R600: A RESET symbol schedules a warm, block or counter reset at its tick -/
  | resetSymbol (t : Nat) (x : PortRx)
  /-- RESET_BLOCK_SYMBOL R582: A RESET_BLOCK symbol names the block for the RESET with the same TAG -/
  | resetBlockSymbol (t : Nat) (x : PortRx)
  /-- SCHEDULED_RESET_EXECUTE R600: At its tick the scheduled reset executes on every node, the head last -/
  | scheduledResetExecute (t : Nat)
  /-- MODE_SYMBOL R420: A MODE symbol schedules a mesh mode change for its period -/
  | modeSymbol (t : Nat) (x : PortRx)
  /-- LOSS_SYMBOL R127: A LOSS symbol schedules the host-loss policy for its period -/
  | lossSymbol (t : Nat) (x : PortRx)
  /-- SAFE_SYMBOL R421: A SAFE symbol schedules SAFE with reason PEER for its period -/
  | safeSymbol (t : Nat) (x : PortRx)
  /-- TLOAD_AT R595: A TLOAD_AT symbol gives the instant of a mesh time load -/
  | tloadAt (t : Nat) (x : PortRx)
  /-- TLOAD_VAL R595: A TLOAD_VAL symbol gives the new time of a mesh time load -/
  | tloadVal (t : Nat) (x : PortRx)
  /-- CONFIRM R597: A CONFIRM symbol from a node is recorded by the origin -/
  | confirm (t : Nat) (x : PortRx)
  /-- CONFIRM_WINDOW_EXPIRY R597: Nodes without CONFIRM at the end of the window are marked in MESH_GOP_MISS -/
  | confirmWindowExpiry (t : Nat)
  /-- MESH_BIND R589: Binds a node ID to a route by ports for the head's conversation -/
  | meshBind (t : Nat) (h : RecHdr) (nodeId hops path : Nat)
  /-- MESH_BARRIER R598: Starts a mesh barrier -/
  | meshBarrier (t : Nat) (h : RecHdr)
  /-- MESH_SNAPSHOT R599: Schedules a snapshot on every node at the given time -/
  | meshSnapshot (t : Nat) (h : RecHdr) (time : Nat)
  /-- MESH_RESET R600: Schedules a reset on every node at the given time -/
  | meshReset (t : Nat) (h : RecHdr) (time kind block : Nat)
  /-- MESH_BCAST_REG R597: Broadcasts a register write to every node -/
  | meshBcastReg (t : Nat) (h : RecHdr) (off : Nat) (v : Word)
  /-- INPUT R620: A mirrored INPUT frame gives the standby the latched set of period n -/
  | input (t : Nat) (p : PortRx) (x : InputSet)
  /-- REFS R620: A mirrored REFS frame, the heartbeat, gives the standby the references, mode and rankings of period n -/
  | refs (t : Nat) (p : PortRx) (r : RefsFrame)
  /-- CMD R621: A mirrored CMD frame is acknowledged and applied by the standby at the same landing -/
  | cmd (t : Nat) (p : PortRx) (c : CmdFrame)
  /-- JNL R618: A mirrored JNL frame gives the standby a journal entry -/
  | jnl (t : Nat) (p : PortRx) (e : JEntry)
  /-- HEALTH R624: A HEALTH frame gives the active the standby's health word and acknowledgements -/
  | health (t : Nat) (p : PortRx) (f : HealthFrame)
  /-- RESIGN R628: A RESIGN frame lets a healthy standby claim at its next compile -/
  | resign (t : Nat) (p : PortRx) (cause : Nat)
  /-- HANDOVER R634: A HANDOVER frame schedules a gapless change of authority at boundary h -/
  | handover (t : Nat) (p : PortRx) (h : Nat)
  /-- SYNC R622: SYNC pages bring a joining member's state equal to the active's -/
  | sync (t : Nat) (p : PortRx) (page : Nat) (bytes : Bytes)
  /-- SYNC_END R622: Synchronisation ends at the named boundary and the member becomes STANDBY -/
  | syncEnd (t : Nat)
  /-- CMD_MIRROR_TIMEOUT R621: A CMD unacknowledged for 2 us sets MIRROR_OFF and holds the commands -/
  | cmdMirrorTimeout (t : Nat)
  /-- HEALTH_MISSED R637: Two consecutive missed HEALTH frames release held commands and set MIRROR_OFF -/
  | healthMissed (t : Nat)
  /-- STANDBY_COMPILE R620: At C(n) + SB_LAG the standby compiles from REFS and ships its own path -/
  | standbyCompile (t : Nat)
  /-- STANDBY_BENCH_START R620: The standby's benches start at S(n) + 100 ns + SB_LAG on the mirrored or own input set -/
  | standbyBenchStart (t : Nat)
  /-- FENCE R629: A later epoch seen or a resignation stops the active's output within 1 us -/
  | fence (t : Nat) (epoch : Nat)
  /-- WAITING_TIMEOUT R628: A waiting member with no partner sign for 100 ms or 1.1 s becomes ACTIVE -/
  | waitingTimeout (t : Nat)
  /-- DETACHED_TIMEOUT R628: A standby or detached member with no partner sign for 1.1 s becomes ACTIVE in SAFE -/
  | detachedTimeout (t : Nat)
  /-- PARTNER_EDGE_SEEN R628: A waiting member seeing the partner's EDGE frames with P0 down goes DETACHED -/
  | partnerEdgeSeen (t : Nat) (x : LaneRx)
  /-- HANDOVER_BOUNDARY R634: At S(h) the members exchange roles and the new active raises the epoch -/
  | handoverBoundary (t : Nat)
  /-- FAILBACK_HOLD_EXPIRY R635: Member 0 healthy for FAILBACK_HOLD makes member 1 schedule a handover -/
  | failbackHoldExpiry (t : Nat)
  /-- PAIR_SWITCH R639: Schedules a handover to the partner -/
  | pairSwitch (t : Nat) (h : RecHdr) (period : Nat)
  /-- PAIR_FAILBACK R635: Enables or suspends automatic failback -/
  | pairFailback (t : Nat) (h : RecHdr) (enable : Nat)
  /-- PAIR_RESYNC R639: Starts synchronisation of the standby afresh -/
  | pairResync (t : Nat) (h : RecHdr)
  /-- POWER_ON_RESET R648: After power-on reset is released the controller powers up its domains in order -/
  | powerOnReset (t : Nat)
  /-- POR_RELEASE_TIMER R647: Power-on reset is released 2 ms after the last watched supply rises -/
  | porReleaseTimer (t : Nat) (member : Bool)
  /-- RISE_WINDOW_EXPIRY R647: Supplies not all good within 100 ms keep power-on reset asserted -/
  | riseWindowExpiry (t : Nat)
  /-- SUPPLY_FALL R649: A watched supply below its threshold asserts power-on reset within 1 us -/
  | supplyFall (t : Nat) (k : Nat)
  /-- RESET_N R651: A filtered low on RESET_N resets the device as a power-on -/
  | resetN (t : Nat)
  /-- FIRMWARE_BOOT_DONE R648: The housekeeping cores load and check a firmware bank and start image validation or set FW_FAIL -/
  | firmwareBootDone (t : Nat) (activeOk otherOk : Bool)
  /-- WARM R652: PWR_CTL.WARM starts a warm reset -/
  | warm (t : Nat) (ifc : Iface)
  /-- WARM_RESET_END R652: The warm reset ends and outputs take their states -/
  | warmResetEnd (t : Nat)
  /-- RELOAD R655: PWR_CTL.RELOAD starts an image reload from the boot slot -/
  | reload (t : Nat) (ifc : Iface)
  /-- POWER_STATE_REQUEST R661: A write of PWR_CTL.TARGET starts a change of power state -/
  | powerStateRequest (t : Nat) (ifc : Iface) (target : Nat)
  /-- POWER_STATE_CHANGE_DONE R661: A power state change completes after its domains switch and lanes sleep or wake -/
  | powerStateChangeDone (t : Nat)
  /-- WAKE_TIMER_EXPIRY R661: The wake timer ends PARK with a PARK wake reset -/
  | wakeTimerExpiry (t : Nat)
  /-- LANE_SOFT_RESET R654: PWR_SOFT bit 0 resets the LANE block and takes all lanes through bring-up -/
  | laneSoftReset (t : Nat) (ifc : Iface)
  /-- SEAM_SOFT_RESET R654: PWR_SOFT bit 1 resets the SEAM block and makes every cell context ABSENT -/
  | seamSoftReset (t : Nat) (ifc : Iface)
  /-- EDG_SOFT_RESET R654: PWR_SOFT bit 2 resets the EDG block and its carried state -/
  | edgSoftReset (t : Nat) (ifc : Iface)
  /-- BNC_SOFT_RESET R654: PWR_SOFT bit 3 reloads loop states, coefficients and STATE regions -/
  | bncSoftReset (t : Nat) (ifc : Iface)
  /-- BAL_SOFT_RESET R654: PWR_SOFT bit 4 restarts the thermal estimates from NTC -/
  | balSoftReset (t : Nat) (ifc : Iface)
  /-- MODE_SOFT_RESET R654: PWR_SOFT bit 5 resets every set-point limiter to zero -/
  | modeSoftReset (t : Nat) (ifc : Iface)
  /-- ADC_SOFT_RESET R654: PWR_SOFT bit 6 resets the ADC block and calibrates all four ADCs -/
  | adcSoftReset (t : Nat) (ifc : Iface)
  /-- CMP_SOFT_RESET R654: PWR_SOFT bit 7 resets the CMP block and runs the self-check sequence -/
  | cmpSoftReset (t : Nat) (ifc : Iface)
  /-- MESH_SOFT_RESET R654: PWR_SOFT bit 8 takes every node conversation DOWN -/
  | meshSoftReset (t : Nat) (ifc : Iface)
  /-- PAIR_SOFT_RESET R654: PWR_SOFT bit 9 puts the member in WAITING -/
  | pairSoftReset (t : Nat) (ifc : Iface)
  /-- SOFT_RESET_DONE R654: A block soft reset ends and its PWR_SOFT bit clears -/
  | softResetDone (t : Nat)
  /-- SUPPLY_RISE R647: A watched supply rises above its rising threshold, opening the rise window or, as the last one, starting the 2 ms release of power-on reset -/
  | supplyRise (t : Nat) (k : Nat)
  /-- RESET_N_RELEASE R651: RESET_N goes high, samples MEMBER_SEL and starts power-up by R648, including from PARK -/
  | resetNRelease (t : Nat) (member : Bool)
  /-- SAFE_RST_RELEASE R551: SAFE_RST is taken as released, clearing RST_STUCK and re-enabling the counting of reset edges -/
  | safeRstRelease (t : Nat) (held : Nat)
  /-- VDD_SAFE_RECOVERY R538: VDD_SAFE returns within its thresholds and the safety island returns to INIT -/
  | vddSafeRecovery (t : Nat)
  /-- PCIE_REFERENCE_CLOCK_CHANGE R24: The PCI Express reference clock is lost or returns, and the HOST island switches between it and SYSPLL -/
  | pcieReferenceClockChange (t : Nat) (present : Bool) (link : Option (Nat × Nat))
  /-- TX_SLEEP_DONE R225: After SLEEP_NOTICE a sleeping transmitter reaches electrical idle and TX_STATE becomes ASLEEP -/
  | txSleepDone (t : Nat) (l : Nat)
  /-- PRBS_CHECKER_LOCK R221: The PRBS31 checker of a lane gains or loses lock on the received pattern, changing LANE_STS.PRBS_LOCK -/
  | prbsCheckerLock (t : Nat) (l : Nat) (lock : Bool) (errors : Nat)
  /-- COPY_WINDOW_EXPIRY R250: One loop delay plus 1 us after a frame's first copy without a second copy, the controller counts a missing copy on the silent path -/
  | copyWindowExpiry (t : Nat) (c : Nat)
  /-- SIEVE_LEAVES_STUCK R491: A sieve in STUCK receives a differing bit and leaves STUCK, restarting its settling count -/
  | sieveLeavesStuck (t : Nat) (k : Nat) (stream : List Bool)
  deriving DecidableEq, Repr

end Sys2Proof
end

