-- ==== Sys2Proof/Decode.lean ====
section
/-! DEFINITION. The command a table word spells: none, for no row of spec/opcode_table.json gives bits (every row's fields are empty). -/
namespace Sys2Proof

/-- No row of the table gives its command bits, so no word spells a command. -/
def decodeTableWord (_nbits _w : Nat) : Option Instr := none

end Sys2Proof
end

