-- ==== Sys2Proof/Machine/BlocksA.lean ====
section
/-! DEFINITION. The state of the SYS, PWR, HOST, JNL and MODE blocks as plain data; a structure's defaults are its power-on values. -/
namespace Sys2Proof.Machine

/-- What a command made the block send to the world (the model's own record, for the last command only). -/
inductive Out
  /-- data of a register or window read -/
  | read (bytes : Bytes)
  /-- an Unsupported Request completion (R102) -/
  | unsupported
  /-- MSI-X vector sent (R103) -/
  | msix (v : Nat)
  /-- a 32-byte completion written to a mailbox, or to the slot of a completion ring at a host address (R109, R114) -/
  | completion (src : Src) (ctx addr : Nat) (bytes : Bytes)
  /-- a journal entry copied to the host spill buffer (R143) -/
  | spill (addr : Nat) (bytes : Bytes)
  /-- consecutive blocks on a lane's transmitter, before the scrambler (R201 to R207, R236 to R242): whether the sync header is
  0b10, the payload -/
  | lane (l : Nat) (blocks : List (Bool × Bytes))
  /-- consecutive port-blocks on a peer port (R575, R580, R582): whether they are control port-blocks, the sixteen bytes -/
  | port (p : Nat) (blocks : List (Bool × Bytes))
  /-- a mesh frame that leaves a peer port, where the layout of its payload is not specified (log entry 191) -/
  | frame (p : Nat) (f : MFrame)
  deriving DecidableEq, Repr

/-- SYS_PAGE of one access source (R715). -/
structure Page where
  mem : Nat := 0
  bnc : Nat := 0
  trc : Nat := 0
  deriving DecidableEq, Repr, Inhabited
/-- SYS, the fuses, the MSI-X table, the JTAG access register and the GPIO pins. -/
structure Sys where
  /-- SYS_ERR (R712) -/
  eccUe : Bool := false
  eccCe : Bool := false
  scrubLate : Bool := false
  ceSat : Bool := false
  region : Nat := 0
  /-- SYS_ECC_CE, SYS_ECC_UE_CNT, SYS_ECC_UE_ADDR, SYS_SCRUB (R708, R714) -/
  ceCnt : Nat := 0
  ueCnt : Nat := 0
  ueBench : Nat := 0
  ueOfs : Nat := 0
  scrub : Nat := 0
  /-- when the last scrub pass ended -/
  scrubAt : Nat := 0
  /-- SYS_PAGE: PCI Express, SPI, JTAG, mesh (R704) -/
  pages : List Page := List.replicate 4 {}
  /-- fuses: the key hash and its enable, integrity (R72, R716) -/
  keySet : Bool := false
  keyBad : Bool := false
  keyHash : Bytes := List.replicate 32 0
  /-- the MSI-X table of 64 × 4 words (R694) -/
  msix : List Word := List.replicate 256 0
  /-- REGACC: DONE, DENIED, DATA (R701) -/
  jtagDone : Bool := false
  jtagDenied : Bool := false
  jtagData : Word := 0
  /-- FUSE_KEY and the outcome bit FUSE_READ shows (R741, R742) -/
  fuseKey : Bytes := List.replicate 32 0
  fuseErr : Bool := false
  /-- the fuses as programmed; the key hash and its enable above are what they held at the last power-on reset -/
  fused : Option Bytes := none
  /-- GPIO levels: inputs sampled, outputs driven (R727) -/
  gpioIn : Nat := 0
  gpioOut : Nat := 0
  /-- the output GPIOs are high-impedance (R76, R307, R727) -/
  gpioHiz : Bool := true
  deriving DecidableEq, Repr

/-- PWR (R646 to R671) and the supplies. -/
structure Pwr where
  /-- PWR_STS.STATE: 0 RUN, 1 IDLE, 2 DOZE, 3 TRANSITION -/
  st : Nat := 0
  /-- PARK: only AON and SAFE on -/
  parked : Bool := false
  busy : Bool := false
  fwFail : Bool := false
  refused : Bool := false
  detail : Nat := 0
  /-- PWR_CTL.TARGET and the state a change under way goes to -/
  target : Nat := 0
  /-- PWR_DOM: bit d - 1 for domain d (R667); only AON and SAFE right after reset -/
  dom : Nat := 3
  /-- soft resets under way: the PWR_SOFT bits -/
  soft : Nat := 0
  /-- warm reset under way -/
  warm : Bool := false
  /-- image reload under way -/
  reload : Bool := false
  cause : Nat := 1
  causeSrc : Nat := 0
  wake : Nat := 0
  dozeTx : Nat := 0
  dozeRx : Nat := 0
  warmCnt : Nat := 0
  reloadCnt : Nat := 0
  /-- watched supplies good, in the order of R646: AON, CORE, SRAM, LANE, LANET, 18, IO18, IO33 -/
  good : List Bool := List.replicate 8 true
  /-- power-on reset asserted -/
  por : Bool := false
  /-- when the rise window opened, when the last supply became good, window expired (R647) -/
  riseAt : Nat := 0
  goodAt : Nat := 0
  riseLate : Bool := false
  /-- every watched supply became good inside the window, or RESET_N stood in for that (R647) -/
  riseMet : Bool := true
  /-- power-up by R648 awaited -/
  upDue : Bool := true
  /-- RESET_N held low -/
  resetLow : Bool := false
  /-- when the wake timer ends PARK -/
  wakeAt : Option Nat := none
  memberSel : Bool := false
  deriving DecidableEq, Repr

/-- A completion (R109) but for its ring's PHASE. -/
structure Cpl where
  sess : Nat := 0
  status : Nat := 0
  code : Nat := 0
  seq : Nat := 0
  opcode : Nat := 0
  dup : Bool := false
  late : Bool := false
  detail : Nat := 0
  exp : Nat := 0
  jidx : Option Nat := none
  period : Nat := 0
  deriving DecidableEq, Repr
/-- A cached completion with the CRC of its record (R130). -/
structure Cached where
  seq : Nat
  crc : Word
  cpl : Cpl
  deriving DecidableEq, Repr
/-- One host session context with its ring registers (R119, R148). -/
structure Ctx where
  gen : Nat := 1
  sess : Nat := 0
  /-- 0 CLOSED, 1 BINDING, 2 OPEN, 3 PARKED -/
  st : Nat := 0
  e : Nat := 0
  consumed : Nat := 0
  cache : List Cached := []
  /-- instants in elapsed ticks: lease expiry, end of PARK_KEEP -/
  leaseEnd : Nat := 0
  parkEnd : Nat := 0
  sqBase : Nat := 0
  sqSize : Nat := 0
  sqTail : Nat := 0
  sqHead : Nat := 0
  cqBase : Nat := 0
  cqSize : Nat := 0
  cqHead : Nat := 0
  cqTail : Nat := 0
  phase : Bool := true
  ringErr : Bool := false
  deriving DecidableEq, Repr
/-- A spoil record (R132). -/
structure Spoil where
  time : Nat
  sess : Nat := 0
  src : Nat := 7
  code : Nat
  seq : Nat := 0
  opcode : Nat := 0
  node : Nat := 0
  target : Nat := 0
  detail : Nat := 0
  deriving DecidableEq, Repr
/-- A mailbox (R117). -/
structure Mbx where
  rcd : Bytes := List.replicate 256 0
  cpl : Bytes := List.replicate 32 0
  busy : Bool := false
  done : Bool := false
  dbLost : Bool := false
  deriving DecidableEq, Repr
/-- An accepted record whose answer is not known yet. -/
structure OpenCmd where
  h : RecHdr
  opcode : Nat
  crc : Word
  /-- its journal index -/
  jidx : Nat
  acceptAt : Nat
  /-- its acceptance in system time, and the period in which it was accepted (R137) -/
  accTime : Nat := 0
  accPer : Nat := 0
  /-- what it waits for: 0 a landing, 1 another node, 2 the nodes of a mesh mode change, 3 a barrier, 4 the partner's
  acknowledgement of its CMD, 5 a time load, 6 the confirmations of a broadcast; 9 a copy of an awaited record -/
  kind : Nat
  /-- the group, or the node -/
  arg : Nat := 0
  /-- payload, kept for the entry's DIGEST -/
  pay : Bytes := []
  /-- nodes still to answer -/
  left : List Nat := []
  /-- its completion is kept for the session; not so for SESSION_OPEN and RESUME -/
  cached : Bool := true
  deriving DecidableEq, Repr
/-- A completion that waits until its journal entry is written (R136) and, where entries are mirrored, until the STANDBY
has acknowledged that (R142). -/
structure Held where
  h : RecHdr
  /-- the session's context -/
  ctx : Nat
  jidx : Nat
  /-- the CRC of its record, where the completion is kept for the session -/
  crc : Option Word
  cpl : Cpl
  /-- it waits for the acknowledgement -/
  mir : Bool
  deriving DecidableEq, Repr
/-- HOST. -/
structure HostB where
  linkUp : Bool := false
  speed : Nat := 0
  width : Nat := 0
  refPresent : Bool := false
  onSyspll : Bool := true
  /-- context that holds CONTROL -/
  ctrl : Option Nat := none
  ctxs : List Ctx := List.replicate 32 {}
  /-- HOST_POLICY and the LOSS_SP of HOSTPOLICY (R129, R149) -/
  loss : Nat := 2
  parkKeep : Nat := 60
  leaseMs : Nat := 1000
  lossSp : List (Option Word) := []
  /-- spoil ring, newest first, and its counters -/
  spoils : List Spoil := []
  spoilHead : Nat := 0
  spoilRd : Nat := 0
  spoilLost : Nat := 0
  mbx : List Mbx := [{}, {}]
  /-- sources in turn: contexts 0-31, mailboxes 32 and 33; the next to be looked at (R118) -/
  turn : Nat := 0
  opens : List OpenCmd := []
  held : List Held := []
  deriving DecidableEq, Repr

/-- A journal entry waiting to be written: known once its effect period is known (R136). -/
structure JWait where
  e : JEntry
  known : Bool
  deriving DecidableEq, Repr
/-- JNL. -/
structure Jnl where
  /-- the ring, newest first; at most 8,192 -/
  ring : List JEntry := []
  /-- next index to be written, next index to be given out, entries between them -/
  head : Nat := 0
  next : Nat := 0
  waits : List JWait := []
  prev : Word := 0
  boot : Nat := 0
  wrapped : Bool := false
  /-- the ring has overwritten an entry: WRAPPED is set once (R151) -/
  lapped : Bool := false
  gap : Bool := false
  damaged : Bool := false
  dmg : Nat := 0
  /-- read latches of JNL_HEAD_HI and JNL_TAIL_HI (R140) -/
  headHi : Option Nat := none
  tailHi : Option Nat := none
  spillBase : Nat := 0
  spillEn : Bool := false
  spillLevel : Nat := 0
  spillLog : Nat := 10
  spillDev : Nat := 0
  spillHost : Nat := 0
  spillLost : Nat := 0
  deriving DecidableEq, Repr

/-- A set-point's limiter (R445, R461). -/
structure Sp where
  /-- target in use, and the target last commanded -/
  tgt : Word := 0
  cmd : Word := 0
  x : Word := 0
  r : Word := 0
  /-- latches of the dwell left, plus one until DWELL_END ends it -/
  dwell : Nat := 0
  locked : Bool := false
  /-- started by the decision at this latch: its limiter runs from the next -/
  fresh : Bool := false
  deriving DecidableEq, Repr, Inhabited
/-- Counters of consecutive latches and the instants steps began (R417 to R443). -/
structure ModeCnt where
  grid : Nat := 0
  coast : Nat := 0
  ret : Nat := 0
  resync : Nat := 0
  lim : Nat := 0
  fs : Nat := 0
  fsF0 : Word := 0
  zero : Nat := 0
  brk : Nat := 0
  low : Nat := 0
  /-- when the step, the target, COAST, SEARCH, CATCH began -/
  stepAt : Nat := 0
  targetAt : Nat := 0
  coastAt : Nat := 0
  searchAt : Nat := 0
  catchAt : Nat := 0
  /-- mean VDC1 of each arm at the last PRE_SETTLE comparison points, oldest first, with their instants -/
  pre : List (Nat × List Word) := []
  relayOff : Bool := false
  deriving DecidableEq, Repr
/-- Feedback watch of one input word (R442). -/
structure FbWatch where
  bench : Nat
  word : Nat
  stale : Nat := 0
  frozen : Nat := 0
  last : Word := 0
  onAlt : Bool := false
  lost : Bool := false
  deriving DecidableEq, Repr
/-- A mode change accepted and not yet decided: the mode, whether it came with SCOPE MESH. -/
inductive ModeCmd | set (mode : Nat) | loss (pol : Nat) | ovl (set clear group : Nat)
  deriving DecidableEq, Repr
/-- A change scheduled for a boundary, by period number. -/
structure Sched where
  period : Nat
  mode : Nat
  deriving DecidableEq, Repr
/-- MODE and the overlays (R411 to R461, R691). -/
structure ModeB where
  mode : Nat := 0
  target : Nat := 0
  sub : Nat := 0
  loss : Bool := false
  lossPol : Nat := 0
  brkFault : Bool := false
  /-- MODE_SAFE -/
  reason : Nat := 0
  cls : Nat := 0
  inOff : Bool := false
  index : Nat := 0
  safeAt : Nat := 0
  evt : Nat := 0
  per : Nat := 0
  ilim : Word := 0
  avail : Word := 0
  vl : Word := 0
  regen : Word := 0
  resyncErr : Word := 0
  fsF : Word := 0
  fbLost : Nat := 0
  sps : List Sp := List.replicate 16 {}
  vars : List Word := List.replicate 64 0
  cnt : ModeCnt := {}
  fb : List FbWatch := []
  deriving DecidableEq, Repr
/-- Commands and causes waiting for the MODE block's next decision, and the overlays. -/
structure ModeQ where
  cmds : List ModeCmd := []
  spCmds : List (Nat × Word) := []
  causes : List (Nat × Nat) := []
  sched : Option Sched := none
  /-- boundaries at which the host-loss policy takes effect (R127) -/
  lossSched : List Nat := []
  peer : List (Nat × Nat) := []
  /-- MODE_OVL: overlays but TRACE, as a mask of R679 -/
  ovl : Nat := 0
  ended : Bool := false
  tpGroup : Nat := 0
  /-- the group TESTPULSE enables since the last decision (R683) -/
  tpRun : Option Nat := none
  /-- gate power requested of the safety island (R544) -/
  gpReq : Bool := false
  /-- plant causes that held at the last decision: bit 0 TRIP, bit 1 SOFF -/
  was : Nat := 0
  deriving DecidableEq, Repr

end Sys2Proof.Machine
end

