-- ==== Sys2Proof/Machine/Crypto.lean ====
section
/-! DEFINITION. CRC-32C, SHA-256, HMAC-SHA-256 and ECDSA on P-256, as the rules that name them use them (R106, R136, R65, R71, R557). -/
namespace Sys2Proof.Machine

/-- The n low bytes of v, lowest first (R11). -/
def le : (n : Nat) → (v : Nat) → Bytes
  | 0, _ => []
  | n + 1, v => BitVec.ofNat 8 v :: le n (v / 256)
/-- The number whose bytes, lowest first, these are (R11). -/
def ofLe : Bytes → Nat
  | [] => 0
  | b :: r => b.toNat + 256 * ofLe r
/-- The n low bytes of v, highest first. -/
def be (n v : Nat) : Bytes := (le n v).reverse
def ofBe (b : Bytes) : Nat := ofLe b.reverse
/-- n bytes from an offset, zero beyond the end. -/
def slice (b : Bytes) (o n : Nat) : Bytes :=
  let x := (b.drop o).take n
  x ++ List.replicate (n - x.length) 0
/-- A little-endian field of a byte string. -/
def field (b : Bytes) (o n : Nat) : Nat := ofLe (slice b o n)
/-- A 32-bit field as a word. -/
def fieldW (b : Bytes) (o : Nat) : Word := BitVec.ofNat 32 (field b o 4)
/-- A string padded with zero bytes to n. -/
def padTo (n : Nat) (b : Bytes) : Bytes := b ++ List.replicate (n - b.length) 0

/-! ## CRC-32C -/

/-- One bit of the reflected Castagnoli division. -/
def crcBit (c : Nat) : Nat := if c % 2 = 1 then (c / 2) ^^^ 0x82F63B78 else c / 2
/-- One byte. -/
def crcByte (c : Nat) (b : Byte) : Nat :=
  crcBit (crcBit (crcBit (crcBit (crcBit (crcBit (crcBit (crcBit (c ^^^ b.toNat))))))))
/-- CRC-32C of a byte string (R106). -/
def crc32c (b : Bytes) : Word := BitVec.ofNat 32 ((b.foldl crcByte 0xFFFFFFFF) ^^^ 0xFFFFFFFF)

/-! ## SHA-256 -/

def rotr (x n : Nat) : Nat := (x >>> n) ||| ((x <<< (32 - n)) % M32)
def add32 (a b : Nat) : Nat := (a + b) % M32
/-- The round constants. -/
def shaK : List Nat :=
  [0x428a2f98, 0x71374491, 0xb5c0fbcf, 0xe9b5dba5, 0x3956c25b, 0x59f111f1, 0x923f82a4, 0xab1c5ed5] ++
  [0xd807aa98, 0x12835b01, 0x243185be, 0x550c7dc3, 0x72be5d74, 0x80deb1fe, 0x9bdc06a7, 0xc19bf174] ++
  [0xe49b69c1, 0xefbe4786, 0x0fc19dc6, 0x240ca1cc, 0x2de92c6f, 0x4a7484aa, 0x5cb0a9dc, 0x76f988da] ++
  [0x983e5152, 0xa831c66d, 0xb00327c8, 0xbf597fc7, 0xc6e00bf3, 0xd5a79147, 0x06ca6351, 0x14292967] ++
  [0x27b70a85, 0x2e1b2138, 0x4d2c6dfc, 0x53380d13, 0x650a7354, 0x766a0abb, 0x81c2c92e, 0x92722c85] ++
  [0xa2bfe8a1, 0xa81a664b, 0xc24b8b70, 0xc76c51a3, 0xd192e819, 0xd6990624, 0xf40e3585, 0x106aa070] ++
  [0x19a4c116, 0x1e376c08, 0x2748774c, 0x34b0bcb5, 0x391c0cb3, 0x4ed8aa4a, 0x5b9cca4f, 0x682e6ff3] ++
  [0x748f82ee, 0x78a5636f, 0x84c87814, 0x8cc70208, 0x90befffa, 0xa4506ceb, 0xbef9a3f7, 0xc67178f2]
/-- The initial hash value. -/
def shaH : List Nat :=
  [0x6a09e667, 0xbb67ae85, 0x3c6ef372, 0xa54ff53a, 0x510e527f, 0x9b05688c, 0x1f83d9ab, 0x5be0cd19]

/-- The next word of the message schedule, from the last sixteen (newest first). -/
def shaNext (w : List Nat) : Nat :=
  let a := at' w 1 0; let b := at' w 14 0
  add32 (add32 (rotr a 17 ^^^ rotr a 19 ^^^ (a >>> 10)) (at' w 6 0))
    (add32 (rotr b 7 ^^^ rotr b 18 ^^^ (b >>> 3)) (at' w 15 0))
/-- One round on the working variables a to h. -/
def shaRound (v : List Nat) (k w : Nat) : List Nat :=
  match v with
  | [a, b, c, d, e, f, g, h] =>
    let t1 := add32 (add32 h (rotr e 6 ^^^ rotr e 11 ^^^ rotr e 25))
      (add32 ((e &&& f) ^^^ ((e ^^^ 0xFFFFFFFF) &&& g)) (add32 k w))
    let t2 := add32 (rotr a 2 ^^^ rotr a 13 ^^^ rotr a 22) ((a &&& b) ^^^ (a &&& c) ^^^ (b &&& c))
    [add32 t1 t2, a, b, c, add32 d t1, e, f, g]
  | _ => v
/-- The rounds left: constants left, schedule (newest first) and words of the block not used yet. -/
def shaRounds : List Nat → (sched blk v : List Nat) → List Nat
  | [], _, _, v => v
  | k :: ks, s, b :: bs, v => shaRounds ks (b :: s) bs (shaRound v k b)
  | k :: ks, s, [], v => let w := shaNext s; shaRounds ks (w :: s.take 15) [] (shaRound v k w)
/-- Big-endian 32-bit words of a string. -/
def wordsBe : Bytes → List Nat
  | a :: b :: c :: d :: r => ofBe [a, b, c, d] :: wordsBe r
  | _ => []
/-- The blocks of a padded message, n of them. -/
def shaBlocks : (n : Nat) → Bytes → List Nat → List Nat
  | 0, _, h => h
  | n + 1, m, h =>
    shaBlocks n (m.drop 64) ((shaRounds shaK [] (wordsBe (m.take 64)) h).zipWith add32 h)
/-- SHA-256 of a byte string. -/
def sha256 (m : Bytes) : Bytes :=
  let n := (m.length + 9 + 63) / 64
  let p := m ++ [0x80] ++ List.replicate (n * 64 - m.length - 9) 0 ++ be 8 (8 * m.length)
  (shaBlocks n p shaH).flatMap (be 4)
/-- HMAC-SHA-256. -/
def hmac (key m : Bytes) : Bytes :=
  let k := padTo 64 (if 64 < key.length then sha256 key else key)
  sha256 (k.map (· ^^^ 0x5C) ++ sha256 (k.map (· ^^^ 0x36) ++ m))
/-- PBKDF2-HMAC-SHA-256, one output block: n further iterations from the last HMAC and the sum so far. -/
def pbkdfIter (key : Bytes) : (n : Nat) → (u acc : Bytes) → Bytes
  | 0, _, acc => acc
  | n + 1, u, acc => let u' := hmac key u; pbkdfIter key n u' (acc.zipWith (· ^^^ ·) u')
def pbkdf2 (key salt : Bytes) (iters : Nat) : Bytes :=
  let u := hmac key (salt ++ be 4 1)
  pbkdfIter key (iters - 1) u u

/-! ## ECDSA on P-256 -/
namespace P256
def p : Nat := 0xFFFFFFFF00000001000000000000000000000000FFFFFFFFFFFFFFFFFFFFFFFF
def n : Nat := 0xFFFFFFFF00000000FFFFFFFFFFFFFFFFBCE6FAADA7179E84F3B9CAC2FC632551
def b : Nat := 0x5AC635D8AA3A93E7B3EBBD55769886BC651D06B0CC53B0F63BCE3C3E27D2604B
def gx : Nat := 0x6B17D1F2E12C4247F8BCE6E563A440F277037D812DEB33A0F4A13945D898C296
def gy : Nat := 0x4FE342E2FE1A7F9B8EE7EB4A7C0F9E162BCE33576B315ECECBB6406837BF51F5

/-- Power modulo m by squaring, over k bits of the exponent. -/
def powMod (m : Nat) : (k : Nat) → (x e acc : Nat) → Nat
  | 0, _, _, acc => acc
  | k + 1, x, e, acc => powMod m k (x * x % m) (e / 2) (if e % 2 = 1 then acc * x % m else acc)
/-- Inverse modulo a prime. -/
def inv (m x : Nat) : Nat := powMod m 256 (x % m) (m - 2) 1
/-- Difference modulo p. -/
def sb (x y : Nat) : Nat := (x + (p - y % p)) % p
/-- A point in affine coordinates, none at infinity. -/
abbrev Pt := Option (Nat × Nat)
def addPt : Pt → Pt → Pt
  | none, q => q
  | q, none => q
  | some (x1, y1), some (x2, y2) =>
    if x1 = x2 ∧ (y1 + y2) % p = 0 then none
    else
      let l := if x1 = x2 then (3 * x1 * x1 + (p - 3)) * inv p (2 * y1) % p else sb y2 y1 * inv p (sb x2 x1) % p
      let x3 := sb (sb (l * l) x1) x2
      some (x3, sb (l * sb x1 x3) y1)
/-- k bits of a scalar times a point. -/
def mulPt : (k : Nat) → (e : Nat) → Pt → Pt → Pt
  | 0, _, _, acc => acc
  | k + 1, e, q, acc => mulPt k (e / 2) (addPt q q) (if e % 2 = 1 then addPt acc q else acc)
/-- Whether (r, s) signs the digest under the public key (qx, qy). -/
def verify (qx qy r s : Nat) (digest : Bytes) : Bool :=
  let z := ofBe (digest.take 32)
  let w := inv n s
  if r = 0 ∨ n ≤ r ∨ s = 0 ∨ n ≤ s ∨ p ≤ qx ∨ p ≤ qy ∨
      qy * qy % p ≠ (qx * qx * qx + (p - 3) * qx + b) % p then false
  else
    match addPt (mulPt 256 (z * w % n) (some (gx, gy)) none) (mulPt 256 (r * w % n) (some (qx, qy)) none) with
    | none => false
    | some (x, _) => x % n == r
end P256

end Sys2Proof.Machine
end

