-- ==== Sys2Proof/Machine/Coding.lean ====
section
/-! DEFINITION. What travels on the lanes: the 64b/66b coding, markers, lane commands, cell frames and TRIP blocks (R201 to R207, R236 to R248), port-blocks, mesh frames and symbols (R575, R580 to R582, R586). -/
namespace Sys2Proof.Machine

/-! ## Scrambler and sync headers (R201) -/

/-- 64 payload bits as the self-synchronising descrambler x^58 + x^39 + 1 gives them; pre: the 58 bits on the line just before, the
latest highest. -/
def descramble (pre pay : Nat) : Nat :=
  let w := pre % 2 ^ 58 + 2 ^ 58 * (pay % 2 ^ 64)
  ((w >>> 58) ^^^ (w >>> 19) ^^^ w) % 2 ^ 64
/-- 64 payload bits as the scrambler puts them on the line: the first 39 depend on what went before alone. -/
def scramble (pre d : Nat) : Nat :=
  let p := pre % 2 ^ 58
  let lo := (d ^^^ (p >>> 19) ^^^ p) % 2 ^ 39
  let w := p + 2 ^ 58 * lo
  lo + 2 ^ 39 * (((d >>> 39) ^^^ (w >>> 58) ^^^ (w >>> 39)) % 2 ^ 25)
/-- The last 58 bits after a scrambled block. -/
def lineState (pay : Nat) : Nat := pay % 2 ^ 64 >>> 6
/-- What a block is to a receiver: its form by sync header and block type. -/
inductive BKind | data | idle | marker | cmd | fin | trip | global | other | bad
  deriving DecidableEq, Repr, Inhabited
/-- Bytes 4 to 7 are the inverse of bytes 0 to 3. -/
def inverted (b : Bytes) : Bool := slice b 4 4 == (slice b 0 4).map (~~~ ·)
/-- The eight bytes of a marker (R204). -/
def isMarker (m : Bytes) : Bool := slice m 0 1 == [0xC5] && inverted m
/-- The form of a control block after the descrambler (R202, R207, R240, R241, R582). -/
def ctlKind (b : Bytes) : BKind :=
  match field b 0 1 with
  | 0x1E => if field b 1 7 = 0 then .idle else .other
  | 0x4B => if field b 4 4 = 0xF ∧ field b 3 1 + field b 1 1 = 255 then .cmd else .other
  | 0xE1 => .fin
  | 0xD2 => if inverted b then .trip else .other
  | 0xD5 => .global
  | _ => .other
/-- The blocks of a stretch as the receiver has them: kind and bytes. A marker passes by the descrambler, which does not advance
over it (R203). -/
def hear (pre : Nat) : List Blk → List (BKind × Bytes)
  | [] => []
  | b :: r =>
    if b.hdr = 2 ∧ isMarker (le 8 b.pay) then (.marker, le 8 b.pay) :: hear pre r
    else
      let d := le 8 (descramble pre b.pay)
      (if b.hdr = 1 then .data else if b.hdr = 2 then ctlKind d else .bad, d) :: hear (lineState b.pay) r
/-- The blocks that a transmitter puts on the line for blocks before the scrambler: control or data, bytes. -/
def shout (pre : Nat) : List (Bool × Bytes) → List Blk
  | [] => []
  | (c, b) :: r =>
    let v := field b 0 8
    if c && isMarker b then { hdr := 2, pay := v } :: shout pre r
    else let w := scramble pre v; { hdr := if c then 2 else 1, pay := w } :: shout (lineState w) r

/-! ## Frames in a stream of blocks (R237, R238) -/

/-- Where a receiver stands: waiting for a header, which the next data block is or is not; or inside a frame, with the data
blocks still to come and the bytes so far. -/
inductive Framing | wait (ready : Bool) | inside (left : Nat) (body : Bytes)
  deriving DecidableEq, Repr
/-- The next block moves the receiver on, and may end a frame: whole with its end block, or failed (none). lenOf: LEN of a header;
thru: what may stand between two blocks of a frame. -/
def frameNext (lenOf : Bytes → Nat) (thru : BKind → Bool) (f : Framing) (k : BKind) (b : Bytes) : Framing × List (Option (Bytes × Bytes)) :=
  if thru k then (f, [])
  else
    let open_ := k == .idle || k == .cmd || k == .fin
    match f with
    | .wait ready => if k = .data ∧ ready then (.inside (lenOf b) b, []) else (.wait (open_ || (k == .data && ready)), [])
    | .inside 0 body => if k = .fin then (.wait true, [some (body, b)]) else (.wait open_, [none])
    | .inside (n + 1) body => if k = .data then (.inside n (body ++ b), []) else (.wait open_, [none])
/-- The frames of a stretch in order; what is not whole at its end has failed, for idle blocks follow. -/
def frameScan (lenOf : Bytes → Nat) (thru : BKind → Bool) (f : Framing) : List (BKind × Bytes) → List (Option (Bytes × Bytes))
  | [] => match f with | .wait _ => [] | .inside .. => [none]
  | (k, b) :: r => let x := frameNext lenOf thru f k b; x.2 ++ frameScan lenOf thru x.1 r

/-! ## Seam lanes (R203 to R207, R236 to R241) -/

/-- The blocks a lane receives. -/
def laneHear (x : LaneRx) : List (BKind × Bytes) := hear x.pre x.blocks
/-- Its blocks of one kind, each with its place in the stretch. -/
def laneKind (k : BKind) (x : LaneRx) : List (Nat × Bytes) :=
  ((laneHear x).mapIdx fun i y => (i, y)).filterMap fun p => if p.2.1 = k then some (p.1, p.2.2) else none
/-- Eight bytes from a block number on. -/
def blockAt (b : Bytes) (i : Nat) : Bytes := slice b (8 * i) 8
/-- LEN of a cell frame's header (R239). -/
def cellLen (h : Bytes) : Nat := field h 6 2 % 64
/-- The cell frames of a stretch: header and payload of a whole one, none for one that fails framing or its CRC (R237, R240). -/
def cellFrames (x : LaneRx) : List (Option Bytes) :=
  (frameScan cellLen (fun k => k == .marker || k == .trip) (.wait true) (laneHear x)).map fun f =>
    f.bind fun p => if field p.2 1 4 = (crc32c p.1).toNat then some p.1 else none
/-- TYPE of a cell frame. -/
def cellType (b : Bytes) : Nat := bits (field b 6 2) 15 13
/-- Its header on a path (R239). -/
def cellHdr (path : Nat) (b : Bytes) : FrameHdr :=
  { cell := bits (field b 6 2) 12 6, path := path, period := field b 0 4, epoch := field b 4 2 }
/-- Its payload. -/
def cellPay (b : Bytes) : Bytes := b.drop 8
/-- The end block of a body of header and payload (R240). -/
def endBlock (body : Bytes) : Bytes := [0xE1] ++ le 4 (crc32c body).toNat ++ le 3 0
/-- The blocks of a cell frame: header, LEN payload blocks, end block (R236, R239). -/
def cellBlocks (typ c period epoch : Nat) (pay : Bytes) : List (Bool × Bytes) :=
  let n := (pay.length + 7) / 8
  let body := le 4 period ++ le 2 epoch ++ le 2 (typ * 8192 + c * 64 + n) ++ padTo (8 * n) pay
  (List.range (n + 1)).map (fun i => (false, blockAt body i)) ++ [(true, endBlock body)]
/-- A CTRL payload (R248). -/
def ctrlPay (op tag arg : Nat) (data : Bytes) : Bytes := le 1 op ++ le 1 tag ++ le 2 data.length ++ le 4 arg ++ data
/-- A FEED's payload read (R246). -/
def feedOf (p : Bytes) : FeedVals :=
  { vdc1 := field p 0 2, vdc2 := field p 2 2, ntc := toSigned 16 (field p 4 2), cmpf := field p 6 2
    echoPeriod := field p 8 4, echoCrc := fieldW p 12
    status := field p 16 2, holdCnt := field p 18 1, terr := toSigned 8 (field p 19 1), dupd := field p 20 1, link := field p 21 1 }
/-- The data of an identity answer (R248). -/
def identOf (d : Bytes) : IdentData :=
  { typ := field d 0 2, rating := field d 2 2, serial := field d 4 8, fw := field d 12 4, hwRev := field d 16 1, strap := field d 17 1, caps := field d 18 2 }
/-- A TRIP block (R241). -/
def tripBytes (src node : Nat) : Bytes := let b := le 1 0xD2 ++ le 1 src ++ le 1 node ++ le 1 0; b ++ b.map (~~~ ·)
/-- An alignment marker (R203): lanes 32 and up are peer lanes. -/
def markerBytes (l node cnt : Nat) : Bytes :=
  let b := le 1 0xC5 ++ le 1 (if l < 32 then l else 96 + l) ++ le 1 (node % 64) ++ le 1 cnt
  b ++ b.map (~~~ ·)
/-- A lane command block (R207). -/
def cmdBytes (d1 d2 : Nat) : Bytes := le 1 0x4B ++ le 1 d1 ++ le 1 d2 ++ le 1 (255 - d1) ++ le 4 0xF
/-- A lane command is acted on: three identical valid blocks within 16 consecutive ones (R207). -/
def cmdActed (d1 : Nat) (x : LaneRx) : Bool :=
  let l := (laneKind .cmd x).filter fun p => p.2 == cmdBytes d1 0
  (List.range l.length).any fun i => match l[i]?, l[i + 2]? with | some a, some b => decide (b.1 < a.1 + 16) | _, _ => false

/-! ## Peer ports (R575, R580, R582) -/

/-- The port-blocks of a port: the lanes deskewed on their last markers, then paired slot by slot; even lane's bytes first. -/
def portHear (x : PortRx) : List (BKind × Bytes) :=
  let a := max x.even.slot x.odd.slot
  let kind (e o : BKind) : BKind := if e = o then e else if e = .cmd ∧ o = .idle ∨ e = .idle ∧ o = .cmd then .cmd else if e = .bad ∨ o = .bad then .bad else .other
  (((laneHear x.even).drop (a - x.even.slot)).zip ((laneHear x.odd).drop (a - x.odd.slot))).map fun p => (kind p.1.1 p.2.1, p.1.2 ++ p.2.2)
/-- Bit fields of FLAGS. -/
def mhdrFlags (h : MHdr) : Nat := bit h.path + 2 * bit h.mirror + 16 * (h.hops % 16)
/-- The header's sixteen bytes (R580). -/
def mhdrBytes (h : MHdr) (len : Nat) : Bytes :=
  le 1 h.typ ++ le 1 h.dst ++ le 1 h.src ++ le 1 (mhdrFlags h) ++ le 2 len ++ le 2 h.epoch ++ le 4 h.seq ++ le 4 h.word
/-- A header read. -/
def mhdrOf (b : Bytes) : MHdr :=
  let f := field b 3 1
  { typ := field b 0 1, dst := field b 1 1, src := field b 2 1, path := f.testBit 0, mirror := f.testBit 1, hops := bits f 7 4
    epoch := field b 6 2, seq := field b 8 4, word := field b 12 4 }
/-- A mesh frame whole on a port: its header, its payload, the CRC field of its end port-block (R580). -/
def meshFrames (x : PortRx) : List (MHdr × Bytes × Nat) :=
  (frameScan (fun h => field h 4 2) (fun k => k == .marker || k == .trip || k == .global) (.wait true) (portHear x)).filterMap fun f =>
    f.map fun p => (mhdrOf (p.1.take 16), p.1.drop 16, field p.2 1 4)
/-- The CRC of a frame as its end port-block should carry it. -/
def meshCrc (h : MHdr) (pay : Bytes) : Nat := (crc32c (mhdrBytes h (pay.length / 16) ++ pay)).toNat
/-- The port-blocks of a mesh frame with a CRC field. -/
def meshBlocks (h : MHdr) (pay : Bytes) (crc : Nat) : List (Bool × Bytes) :=
  (false, mhdrBytes h (pay.length / 16)) :: (List.range (pay.length / 16)).map (fun i => (false, slice pay (16 * i) 16)) ++
    [(true, [0xE1] ++ le 4 crc ++ le 3 0 ++ [0xE1] ++ le 7 0)]
/-- Whole port-blocks of a payload. -/
def pad16 (b : Bytes) : Bytes := padTo ((b.length + 15) / 16 * 16) b
/-- The payload of a WORD frame (R603). -/
def wordPay (period kind group : Nat) (l : List (Nat × Word)) : Bytes :=
  le 4 period ++ le 1 kind ++ le 1 group ++ le 2 l.length ++ l.flatMap fun x => le 2 x.1 ++ le 2 0 ++ le 4 x.2.toNat
/-- The entries of a WORD frame's payload. -/
def wordEntries (b : Bytes) : List (Nat × Word) := (List.range (field b 6 2)).map fun i => (field b (8 + 8 * i) 2, fieldW b (12 + 8 * i))
/-- The header of a list or slice (R380). -/
def balHdrBytes (h : BalHdr) : Bytes := le 4 h.period ++ le 1 h.arm ++ le 1 h.node ++ le 2 h.count ++ le 1 (bit h.dirNeg) ++ le 7 0
def balHdrOf (b : Bytes) : BalHdr := { period := field b 0 4, arm := field b 4 1, node := field b 5 1, count := field b 6 2, dirNeg := field b 8 1 != 0 }
/-- The entries of a list, as many as COUNT says. -/
def balKeys (b : Bytes) : List BalKey :=
  (List.range (field b 6 2)).map fun i => { key := fieldW b (16 + 8 * i), cell := field b (20 + 8 * i) 1, node := field b (21 + 8 * i) 1 }
/-- The ranks of a slice of n cells. -/
def balRanks (b : Bytes) (n : Nat) : List Nat := (List.range n).map fun i => field b (16 + 2 * i) 2
/-- The payload of a frame whose layout is specified; none for the others (log entry 191). -/
def bodyBytes : MBody → Option Bytes
  | .word p k g l => some (wordPay p k g l)
  | .balList h l => some (balHdrBytes h ++ l.flatMap fun k => le 4 k.key.toNat ++ le 1 k.cell ++ le 1 k.node ++ le 2 0)
  | .balSlice h r => some (balHdrBytes h ++ r.flatMap (le 2))
  | _ => none
/-- Class of a frame at an output (R580). -/
def meshClass (typ : Nat) : Nat := if typ = 5 ∨ typ = 6 then 1 else if typ = 3 ∨ typ = 4 then 2 else if typ = 1 ∨ typ = 2 then 3 else 4
/-- The frame that an output sends next: of the lowest class the first to have come (R581). -/
def nextFrame (l : List MFrame) : Option MFrame := (List.range 5).findSome? fun k => l.find? fun f => meshClass f.hdr.typ == k
/-- A frame as it leaves a port. -/
def frameOut (p : Nat) (f : MFrame) : Out :=
  match f.body with
  | .relay pay crc => .port p (meshBlocks f.hdr pay crc)
  | b => match bodyBytes b with
    | some pay => .port p (meshBlocks f.hdr (pad16 pay) (meshCrc f.hdr (pad16 pay)))
    | none => .frame p f
/-- A frame under PATH as the node that sends it on changes its header: out by bits 1:0, the word shifted, one hop less, its
input port in bits 31:30 (R586). -/
def pathOn (port : Nat) (h : MHdr) : Nat × MHdr := (h.word % 4, { h with word := h.word / 4 % 2 ^ 30 + port % 4 * 2 ^ 30, hops := h.hops - 1 })
/-- PATHWORD of the reverse route: by the arrival port, then the input ports recorded, the last first (R586). -/
def reversed (port word : Nat) : Nat :=
  (port % 4 + 4 * (List.range 15).foldl (fun v i => v + (word >>> (30 - 2 * i)) % 4 * 4 ^ i) 0) % 2 ^ 32
/-- The control port-block of a trip flood (R582). -/
def floodBytes (origin count : Nat) : Bytes :=
  let b := le 1 0xD2 ++ le 1 4 ++ le 1 origin ++ le 1 count
  let c := b ++ b.map (~~~ ·)
  c ++ c
/-- The floods of a stretch: origin, count. -/
def portFloods (x : PortRx) : List (Nat × Nat) :=
  (portHear x).filterMap fun p => if p.1 = .trip ∧ p.2.take 8 = p.2.drop 8 ∧ field p.2 1 1 = 4 then some (field p.2 2 1, field p.2 3 1) else none
/-- The control port-block of a GLOBAL symbol (R582). -/
def symbolBytes (op : Nat) (y : Sym) : Bytes :=
  let e := le 1 op ++ le 1 y.origin ++ le 1 y.tag ++ le 4 y.arg
  let o := le 3 (y.arg / 2 ^ 32)
  [0xD5] ++ e ++ [0xD5] ++ o ++ le 4 (crc32c (e ++ o)).toNat
/-- The valid GLOBAL symbols of one operation in a stretch. -/
def portSymbols (op : Nat) (x : PortRx) : List Sym :=
  (portHear x).filterMap fun p =>
    if p.1 = .global ∧ field p.2 1 1 = op ∧ field p.2 12 4 = (crc32c (slice p.2 1 7 ++ slice p.2 9 3)).toNat then
      some { origin := field p.2 2 1, tag := field p.2 3 1, arg := field p.2 4 4 + field p.2 9 3 * 2 ^ 32 }
    else none

end Sys2Proof.Machine
end

