-- ==== Sys2Proof/Machine/Float32.lean ====
section
/-! DEFINITION. IEEE 754 binary32 arithmetic over exact dyadic numbers, rounded once to nearest even (R326): what the benches, limiters and models compute with. -/
namespace Sys2Proof.Machine.F32

/-- A binary32 value unpacked: a finite one is (-1)^neg × m × 2^e. -/
inductive Val | nan | inf (neg : Bool) | fin (neg : Bool) (m : Nat) (e : Int)
  deriving DecidableEq, Repr

/-- The quiet NaN every operation answers (R326). -/
def qnan : Word := 0x7FC00000
def zero : Word := 0
def one : Word := 0x3F800000
def half : Word := 0x3F000000

/-- Unpack a word. -/
def unpack (w : Word) : Val :=
  let n := w.toNat
  let neg := n.testBit 31
  let ex := (n >>> 23) % 256
  let fr := n % 8388608
  if ex = 255 then (if fr = 0 then .inf neg else .nan)
  else if ex = 0 then .fin neg fr (-149)
  else .fin neg (fr + 8388608) ((ex : Int) - 150)

/-- The word of an infinity. -/
def infW (neg : Bool) : Word := if neg then 0xFF800000 else 0x7F800000
/-- The word of a zero. -/
def zeroW (neg : Bool) : Word := if neg then 0x80000000 else 0

/-- (-1)^neg × (m + s) × 2^e rounded to nearest even, s a positive amount below 1 where sticky holds. -/
def round (neg : Bool) (m : Nat) (e : Int) (sticky : Bool) : Word :=
  if m = 0 then zeroW neg
  else
    let q : Int := max (e + (m.log2 : Int) - 23) (-149)
    let r : Nat :=
      if q ≤ e then m <<< (e - q).toNat
      else
        let sh := (q - e).toNat
        let d := m >>> sh
        let rem := m % 2 ^ sh
        let h := 2 ^ (sh - 1)
        if h < rem ∨ (rem = h ∧ (sticky ∨ d % 2 = 1)) then d + 1 else d
    let (r, q) := if r = 16777216 then (8388608, q + 1) else (r, q)
    let s := if neg then 2147483648 else 0
    if r < 8388608 then BitVec.ofNat 32 (s + r)
    else
      let ex := (q + 150).toNat
      if 254 < ex then infW neg else BitVec.ofNat 32 (s + ex * 8388608 + (r - 8388608))

/-- A signed dyadic rounded; the zero of an exact cancellation is positive. -/
def ofDyadic (x : Int) (e : Int) : Word := round (decide (x < 0)) x.natAbs e false
/-- An integer as binary32. -/
def ofInt (x : Int) : Word := ofDyadic x 0
def ofNat (n : Nat) : Word := ofDyadic n 0

/-- Flip the sign bit. -/
def neg (a : Word) : Word := a ^^^ 0x80000000
/-- Clear the sign bit. -/
def abs (a : Word) : Word := a &&& 0x7FFFFFFF
def isNaN (a : Word) : Bool := unpack a == .nan
def isInf (a : Word) : Bool := match unpack a with | .inf _ => true | _ => false
/-- Neither NaN nor infinite. -/
def finite (a : Word) : Bool := match unpack a with | .fin .. => true | _ => false
def signBit (a : Word) : Bool := a.toNat.testBit 31

/-- The value as an integer times a power of two. -/
def signed (n : Bool) (m : Nat) : Int := if n then -(m : Int) else m

/-- Sum of two unpacked values. -/
def addV : Val → Val → Word
  | .nan, _ | _, .nan => qnan
  | .inf a, .inf b => if a = b then infW a else qnan
  | .inf a, _ => infW a
  | _, .inf b => infW b
  | .fin na ma ea, .fin nb mb eb =>
    if ma = 0 ∧ mb = 0 then zeroW (na && nb)
    else
      let e := min ea eb
      ofDyadic (signed na (ma <<< (ea - e).toNat) + signed nb (mb <<< (eb - e).toNat)) e
/-- Product of two unpacked values, not rounded. -/
def mulV : Val → Val → Val
  | .nan, _ | _, .nan => .nan
  | .inf a, .inf b => .inf (a != b)
  | .inf a, .fin nb mb _ => if mb = 0 then .nan else .inf (a != nb)
  | .fin na ma _, .inf b => if ma = 0 then .nan else .inf (na != b)
  | .fin na ma ea, .fin nb mb eb => .fin (na != nb) (ma * mb) (ea + eb)
/-- Round an unpacked value. -/
def pack : Val → Word
  | .nan => qnan
  | .inf n => infW n
  | .fin n m e => round n m e false

def add (a b : Word) : Word := addV (unpack a) (unpack b)
def sub (a b : Word) : Word := addV (unpack a) (unpack (neg b))
def mul (a b : Word) : Word := pack (mulV (unpack a) (unpack b))
/-- a × b + c rounded once. -/
def fma (a b c : Word) : Word := addV (mulV (unpack a) (unpack b)) (unpack c)

def div (a b : Word) : Word :=
  match unpack a, unpack b with
  | .nan, _ | _, .nan => qnan
  | .inf _, .inf _ => qnan
  | .inf a, .fin nb _ _ => infW (a != nb)
  | .fin na _ _, .inf b => zeroW (na != b)
  | .fin na ma ea, .fin nb mb eb =>
    if mb = 0 then (if ma = 0 then qnan else infW (na != nb))
    else round (na != nb) ((ma <<< 60) / mb) (ea - eb - 60) ((ma <<< 60) % mb != 0)

/-- Integer square root by bits, from bit k - 1 down. -/
def isqrt (n : Nat) : (k : Nat) → (r : Nat) → Nat
  | 0, r => r
  | k + 1, r => let r' := r + 2 ^ k; isqrt n k (if r' * r' ≤ n then r' else r)

def sqrt (a : Word) : Word :=
  match unpack a with
  | .nan => qnan
  | .inf n => if n then qnan else infW false
  | .fin n m e =>
    if m = 0 then zeroW n
    else if n then qnan
    else
      let (m, e) := if e % 2 = 0 then (m <<< 64, e - 64) else (m <<< 65, e - 65)
      let r := isqrt m 46 0
      round false r (e / 2) (r * r != m)

/-- Order of two values: none when either is NaN. -/
def cmp (a b : Word) : Option Ordering :=
  match unpack a, unpack b with
  | .nan, _ | _, .nan => none
  | .inf x, .inf y => some (if x = y then .eq else if x then .lt else .gt)
  | .inf x, _ => some (if x then .lt else .gt)
  | _, .inf y => some (if y then .gt else .lt)
  | .fin na ma ea, .fin nb mb eb =>
    let e := min ea eb
    some (compare (signed na (ma <<< (ea - e).toNat)) (signed nb (mb <<< (eb - e).toNat)))
def lt (a b : Word) : Bool := cmp a b == some .lt
def le (a b : Word) : Bool := cmp a b == some .lt || cmp a b == some .eq
def gt (a b : Word) : Bool := lt b a
def ge (a b : Word) : Bool := le b a
def eq (a b : Word) : Bool := cmp a b == some .eq
def isZero (a : Word) : Bool := match unpack a with | .fin _ m _ => m == 0 | _ => false
/-- The lesser; of a NaN and a number the number. -/
def min' (a b : Word) : Word := if isNaN a then b else if isNaN b then a else if le a b then a else b
/-- The greater; of a NaN and a number the number. -/
def max' (a b : Word) : Word := if isNaN a then b else if isNaN b then a else if ge a b then a else b
/-- x held between lo and hi. -/
def clamp (x lo hi : Word) : Word := min' (max' x lo) hi
/-- -1, 0 or 1 by the sign of a value. -/
def sgn (a : Word) : Word := if isZero a then 0 else if signBit a then neg one else one

/-- The integer nearest to a value, ties to even; none for NaN; infinities and large values saturate later. -/
def toIntRne (a : Word) : Option Int :=
  match unpack a with
  | .nan => none
  | .inf n => some (if n then -(2 ^ 200 : Int) else 2 ^ 200)
  | .fin n m e =>
    if 0 ≤ e then some (signed n (m <<< e.toNat))
    else
      let sh := (-e).toNat
      let d := m >>> sh
      let rem := m % 2 ^ sh
      let h := 2 ^ (sh - 1)
      some (signed n (if h < rem ∨ (rem = h ∧ d % 2 = 1) then d + 1 else d))
/-- The largest integer not above a value; 0 for NaN. -/
def floor (a : Word) : Int :=
  match unpack a with
  | .nan => 0
  | .inf n => if n then -(2 ^ 200 : Int) else 2 ^ 200
  | .fin n m e => if 0 ≤ e then signed n (m <<< e.toNat) else signed n m / 2 ^ (-e).toNat
/-- The least integer not below a value, as a number; 0 for NaN and below 0. -/
def ceilNat (a : Word) : Nat :=
  match unpack a with
  | .nan => 0
  | .inf n => if n then 0 else 2 ^ 200
  | .fin n m e =>
    if n then 0 else if 0 ≤ e then m <<< e.toNat else (m + (2 ^ (-e).toNat - 1)) >>> (-e).toNat
/-- n / d as binary32, rounded once. -/
def ratio (n d : Nat) : Word := if d = 0 then qnan else round false ((n <<< 60) / d) (-60) ((n <<< 60) % d != 0)

end Sys2Proof.Machine.F32
end

