-- ==== Sys2Proof/Machine/BlocksB.lean ====
section
/-! DEFINITION. The state of the SEAM, EDG, BNC, BAL, CMP and SAFE blocks and of the event store as plain data; a structure's defaults are its power-on values. -/
namespace Sys2Proof.Machine

/-- An open CTRL operation to a cell (R249). -/
structure CtrlOp where
  op : Nat
  tag : Nat
  arg : Nat := 0
  data : Bytes := []
  sends : Nat := 1
  sentAt : Nat := 0
  /-- what it belongs to: 0 none, 1 the join, 2 a firmware load, 3 a bypass, 4 a release, 6 a TIME message -/
  why : Nat := 0
  deriving DecidableEq, Repr
/-- A compiled edge set: levels at the opening, and (channel, level, offset) words (R243, R244). -/
structure ESet where
  init : Nat := 0
  words : List (Nat × Bool × Nat) := []
  deriving DecidableEq, Repr
/-- A frame copy received, for the second copy to be compared with (R250). -/
structure Seen where
  period : Nat
  kind : Nat
  tag : Nat
  path : Nat
  digest : Word
  at_ : Nat
  both : Bool := false
  deriving DecidableEq, Repr
/-- One cell conversation context (R258, R277). -/
structure Cell where
  /-- 0 ABSENT, 1 JOINING, 2 ACTIVE, 3 HOLDING, 4 LOST, 5 BYPASSED, 6 EXCLUDED, 7 UPDATING -/
  st : Nat := 0
  jstep : Nat := 0
  reason : Nat := 0
  tlock : Bool := false
  stale : Bool := false
  byp : Bool := false
  tripped : Bool := false
  holdCnt : Nat := 0
  lastNak : Nat := 0
  evt : Nat := 0
  serial : Nat := 0
  typ : Nat := 0
  rating : Nat := 0
  fw : Nat := 0
  caps : Nat := 0
  delta : Int := 0
  terr : Int := 0
  missA : Nat := 0
  missB : Nat := 0
  miss : Nat := 0
  nakCnt : Nat := 0
  holds : Nat := 0
  vdc1 : Nat := 0
  vdc2 : Nat := 0
  ntc : Int := 0
  cmpf : Nat := 0
  status : Nat := 0
  deriving DecidableEq, Repr
/-- The rest of a context: what the controller keeps of the conversation. -/
structure Talk where
  /-- seat record -/
  seat : Option Nat := none
  ctrl : Option CtrlOp := none
  /-- operations that wait for the open one to end -/
  queue : List CtrlOp := []
  tag : Nat := 0
  /-- TAG of the last IDENT_QUERY sent -/
  identTag : Option Nat := none
  /-- last four sets sent (period, SET_CRC), last acknowledged, last received whole by the cell -/
  sent : List (Nat × Word) := []
  acked : Option (Nat × Word) := none
  /-- FEED of the coming latch -/
  feed : Option (Nat × FeedVals) := none
  /-- when the last accepted frame came -/
  heardAt : Nat := 0
  seen : List Seen := []
  /-- frames by path, blocks beyond the allowance this period; periods in a row beyond it (R266) -/
  frames : List (Nat × Nat) := []
  excess : Nat := 0
  overRun : Nat := 0
  /-- EDGE and CTRL frames sent in this period and in the one before -/
  sentNow : Nat := 0
  sentPrev : Nat := 0
  /-- the cell has answered an identity query since it was last found missing -/
  answered : Bool := false
  /-- join progress: part of J2 and J3, J3 repeated, TIME messages, VDC1 periods in band, m0, J5 begun, PRECHARGE started -/
  part : Nat := 0
  again : Bool := false
  times : Nat := 0
  inBand : Nat := 0
  m0 : Nat := 0
  j5At : Nat := 0
  preOn : Bool := false
  /-- BYPASS sent: when the cell left service, whether it must be BYPASSED -/
  bypAt : Option Nat := none
  bypReq : Bool := false
  /-- left service since the last latch (R429) -/
  left : Bool := false
  /-- CELL_FW_LOAD: offset and length in the load buffer, CRC, bytes sent, FW_SWITCH sent at -/
  fwOfs : Nat := 0
  fwLen : Nat := 0
  fwCrc : Word := 0
  fwPos : Nat := 0
  fwOld : Nat := 0
  fwAt : Option Nat := none
  /-- rejoin as though AUTO_REJOIN were 1 (R453) -/
  rejoin : Bool := false
  /-- identity answer of the present query by path, to compare (R258) -/
  ident : Option (Nat × IdentData) := none
  /-- last set compiled for the cell, the set executing -/
  cur : ESet := {}
  exec : ESet := {}
  /-- levels at the end of the edge period before the one executing -/
  lvl : Nat := 0
  deriving DecidableEq, Repr
/-- A seam's registers and TIME turn. -/
structure SeamS where
  errA : Nat := 0
  errB : Nat := 0
  undecl : Nat := 0
  filt : Nat := 0
  turn : Nat := 0
  /-- whether TRIP is being repeated, its SOURCE, when it was first sent -/
  trip : Bool := false
  tripSrc : Nat := 0
  tripAt : Nat := 0
  /-- frames from the even lane's side (port U, path B), from the odd lane's side (port D, path A) are ignored (R266) -/
  deafU : Bool := false
  deafD : Bool := false
  deriving DecidableEq, Repr
/-- SEAM. -/
structure SeamB where
  autoRejoin : Bool := false
  identMs : Nat := 10
  epoch : Nat := 0
  seams : List SeamS := List.replicate 16 {}
  cells : List Cell := List.replicate 128 {}
  talks : List Talk := List.replicate 128 {}
  /-- when declared positions, and undeclared ones, were last queried -/
  identAt : Nat := 0
  identUAt : Nat := 0
  deriving DecidableEq, Repr

/-- Carried state of a channel or an output (R288), with its bootstrap count. -/
structure Carry where
  level : Bool := false
  /-- ticks from the coming opening back to the last executed transition; none before any -/
  last : Option Nat := none
  pend : Option Nat := none
  carry : Int := 0
  boot : Nat := 0
  deriving DecidableEq, Repr, Inhabited
/-- One cell group's references (R279, R304, R305). -/
structure Grp where
  staging : List Word := []
  /-- committed set for the next compile; a set landed in or after the reload cut, before C(n), for the compile after;
  set frozen at the last compile; values the last compile used -/
  committed : List Word := []
  cut : Option (List Word) := none
  frozen : List Word := []
  used : List Word := []
  lper : Nat := 0
  llate : Bool := false
  lcyc : Nat := 0
  deriving DecidableEq, Repr, Inhabited
/-- A commit crossing to EDGE (R305). -/
structure Flight where
  g : Nat
  vals : List Word
  /-- 0 bench, 1 host, 2 mesh -/
  src : Nat
  /-- the source node of a mesh commit -/
  node : Nat := 0
  /-- when its source presented it -/
  at_ : Nat := 0
  deriving DecidableEq, Repr
/-- A local output's pad (R307). -/
structure Lpwm where
  /-- executing edges (else in its off state or high-impedance) -/
  run : Bool := false
  level : Bool := false
  hiz : Bool := true
  /-- trip gate closed -/
  gated : Bool := false
  /-- transitions of the edge period executing, not yet made -/
  todo : List (Nat × Bool) := []
  carry : Carry := {}
  deriving DecidableEq, Repr
/-- EDG. -/
structure Edg where
  stopped : Bool := false
  /-- EDG_FLT bits 31:25 as a mask, LOCAL, INDEX -/
  flt : Nat := 0
  fltLocal : Bool := false
  fltIdx : Nat := 0
  /-- EDG_RLD_STS -/
  late : Bool := false
  lastLate : Bool := false
  directBad : Bool := false
  refNan : Bool := false
  clamp : Bool := false
  owner : Bool := false
  lastGrp : Nat := 0
  rldLate : Nat := 0
  cmpCnt : Nat := 0
  wDelay : Nat := 0
  wDrop : Nat := 0
  mSwal : Nat := 0
  mRem : Nat := 0
  grps : List Grp := List.replicate 64 {}
  flights : List Flight := []
  lpwm : List Lpwm := List.replicate 32 {}
  /-- per cell: carried state of its 16 channels -/
  chans : List (List Carry) := List.replicate 128 (List.replicate 16 {})
  /-- carried state as the last compile found it, of cells and of outputs -/
  prevCh : List (List Carry) := []
  prevL : List Carry := []
  deriving DecidableEq, Repr
/-- The set of one local output: level at the opening, transitions. -/
structure LSet where
  out : Nat
  init : Bool
  words : List (Nat × Bool)
  deriving DecidableEq, Repr
/-- What the compile of the present period left (R297 to R302). -/
structure Comp where
  /-- edge period compiled for -/
  per : Nat := 0
  done : Bool := false
  /-- sets by cell awaiting their ship slot, and by local group awaiting the opening -/
  cells : List (Nat × ESet) := []
  locals : List (Nat × List LSet) := []
  /-- units still being compiled: cells 0-127, 128 + g local groups -/
  slow : List Nat := []
  /-- local groups forced off for the coming edge period -/
  offs : List Nat := []
  /-- compiles with a mismatch or a late set, newest first, at most 16 -/
  hist : List Bool := []
  bad : Bool := false
  /-- seams in scope of a trip, gates closed as the last compile saw them -/
  seams : Nat := 0
  /-- the period in which an uncorrectable error struck the buffers before C(n), numbered from 1 (R29) -/
  ecc : Nat := 0
  /-- levels of the GPIO outputs at the coming opening -/
  gpio : Nat := 0
  /-- gates to be opened, with the edge period that opens them (R315) -/
  opens : List (Nat × Nat) := []
  /-- ranking used by the last compile per arm: (cell, rank), N -/
  ranks : List (Nat × List (Nat × Nat)) := []
  fresh : List Nat := []
  deriving DecidableEq, Repr

/-- A nested loop of a bench program: first instruction, last instruction, passes left (R325). -/
structure LoopRec where
  first : Nat
  last : Nat
  left : Nat
  deriving DecidableEq, Repr
/-- One bench (R324 to R339). -/
structure Bench where
  /-- V0 to V31, four lanes each -/
  regs : List (List Word) := List.replicate 32 [0, 0, 0, 0]
  /-- local memory from 0x4000 in words: CONST, COEF, IN, OUT, STATE, UNIT, as (word index, word) pairs, zero words unlisted -/
  mem : List (Nat × Word) := []
  pc : Nat := 0
  cyc : Nat := 0
  loops : List LoopRec := []
  running : Bool := false
  ended : Bool := false
  faulted : Bool := false
  withheld : Bool := false
  last : Nat := 0
  slack : Option Nat := none
  ecc : Nat := 0
  /-- unit results due, each with its cycle -/
  cordic : List (Nat × Nat × List Word) := []
  rc : List (Nat × Nat × Word) := []
  /-- a sort under way: when it is due, the ranks -/
  sort : Option (Nat × List Nat) := none
  rcUsed : List Nat := []
  /-- OUT words as released at the last output phase -/
  rel : List Word := []
  deriving DecidableEq, Repr
/-- A loop (R345, R369). -/
structure Loop where
  /-- 0 CLOSED, 1 OPEN, 2 CLOSING -/
  st : Nat := 0
  manualSrc : Bool := false
  cmdOpen : Bool := false
  per : Nat := 0
  released : List Word := [0, 0, 0, 0]
  manual : List Word := [0, 0, 0, 0]
  /-- repetitive controller: 0 DISABLED, 1 ENABLED, 2 FROZEN -/
  rc : Nat := 0
  rcFast : Bool := false
  kp : Nat := 0
  dPos : Bool := true
  eSum : Word := 0
  cnt : Nat := 0
  /-- table as (index, word), zero words unlisted -/
  tab : List (Nat × Word) := []
  deriving DecidableEq, Repr
/-- A loop command waiting for the next bench start (R346). -/
inductive LoopCmd
  | open_ (l : Nat) (manual : Bool) | close (l : Nat) | manual (l : Nat) (vals : List Word)
  | coef (b idx : Nat) (vals : List Word) | rc (l action : Nat)
  deriving DecidableEq, Repr
/-- The trace (R359 to R372). -/
structure Trace where
  trig : Nat := 0
  edge : Nat := 0
  trigProbe : Nat := 0
  pre : Nat := 0
  log2dec : Nat := 0
  level : Word := 0
  /-- 0 IDLE, 1 ARMED, 2 TRIGGERED, 3 DONE, 4 STOPPED -/
  st : Nat := 0
  invalid : Bool := false
  doneEvt : Bool := false
  probes : Nat := 0
  trigRow : Nat := 0
  cfg : List (Bool × Nat × Nat) := List.replicate 128 (false, 0, 0)
  /-- rows captured since arming, newest first -/
  rows : List (List Word) := []
  count : Nat := 0
  nArm : Nat := 0
  left : Nat := 0
  force : Bool := false
  /-- events since the previous row: bench fault, trip, mode change; last value of the level probe -/
  evFault : Bool := false
  evTrip : Bool := false
  evMode : Bool := false
  lastLvl : Option Word := none
  deriving DecidableEq, Repr
/-- BNC. -/
structure Bnc where
  escalated : Bool := false
  /-- BNC_FLT bits 31:24 as a mask, BENCH, TABLE -/
  flt : Nat := 0
  fltBench : Nat := 0
  fltTable : Nat := 0
  fltCnt : Nat := 0
  gsLast : Nat := 0
  benches : List Bench := List.replicate 16 {}
  loops : List Loop := List.replicate 32 {}
  cmds : List (Nat × LoopCmd) := []
  /-- periods with a bench fault, newest first, at most 16; a fault in the present period -/
  hist : List Bool := []
  bad : Bool := false
  /-- what the interpolator found for the bench start of a period: (table, bench, index, value); tables whose coefficients have
  taken no target yet (R352) -/
  gsNext : List (Nat × Nat × Nat × Word) := []
  gsPer : Nat := 0
  gsFirst : List Nat := []
  gsRun : Bool := false
  startAt : Nat := 0
  /-- benches whose outputs of the last period were withheld, as a mask (R329) -/
  wh : Nat := 0
  /-- mesh words received: (node, bench, word, value), those received since the last latch; stale input words of the
  last latch: (bench, word) -/
  meshIn : List (Nat × Nat × Nat × Word) := []
  meshNew : List (Nat × Nat × Nat) := []
  inStale : List (Nat × Nat) := []
  trace : Trace := {}
  deriving DecidableEq, Repr

/-- One phase arm (R373 to R382). -/
structure Arm where
  dirNeg : Bool := false
  shareEn : Bool := true
  n : Nat := 0
  missRun : Nat := 0
  derate : Word := 0
  /-- keys formed at S(n), (cell, KEY) -/
  keys : List (Nat × Word) := []
  /-- sorted local list; ranking complete for release at O(n) -/
  list : Option (List BalKey) := none
  rank : Option (List (Nat × Nat)) := none
  rankN : Nat := 0
  sorting : Bool := false
  /-- when the sort was issued; steps of the period done: 0 sort, 1 list, 2 merge, 3 slice -/
  sortAt : Nat := 0
  steps : List Nat := []
  /-- lists received: sender, period, keys; the last received of each -/
  lists : List (Nat × Nat × List BalKey) := []
  slice : Option (Nat × List Nat × Bool × Nat) := none
  /-- BAL_SHARE waiting for the next S(n) -/
  shareCmd : Option Bool := none
  deriving DecidableEq, Repr
/-- One cell's rank and thermal state (R384 to R394, R410). -/
structure ThermCell where
  rank : Nat := 2047
  therm : Nat := 0
  bypB : Bool := false
  bypAt : Nat := 0
  restart : Bool := false
  restartAt : Nat := 0
  keyStale : Bool := false
  staleRun : Nat := 0
  hotCh : Nat := 0
  tj : Word := 0
  pwr : Word := 0
  dth : Word := 0
  pass : Nat := 0
  /-- per channel: tj, p_c, dt1 to dt4 -/
  ch : List (Word × Word × List Word) := []
  factor : Word := 0x3F800000
  /-- place of each channel on the ladder of R393 -/
  lad : List Nat := []
  deriving DecidableEq, Repr
/-- BAL with the die sensors. -/
structure Bal where
  released : Nat := 0
  flt : Nat := 0
  fltArm : Nat := 0
  fltCell : Nat := 0
  missM : Nat := 0
  missS : Nat := 0
  arms : List Arm := List.replicate 16 {}
  cells : List ThermCell := List.replicate 128 {}
  /-- the period, counted from 1, in which a table entry was lost -/
  tblAt : Nat := 0
  /-- the cells before the pass of this period -/
  prevCells : List ThermCell := []
  /-- operating variables at S(n-1) -/
  varsPrev : List Word := []
  /-- die sensors: readings in 1/8 degree, failed mask, samples in disagreement -/
  die : List Int := List.replicate 8 0
  dieFail : Nat := 0
  dieDis : List Nat := List.replicate 8 0
  dieHot : Nat := 0
  dieWarnSet : Nat := 115
  dieWarn : Bool := false
  dieFast : Bool := false
  dieLost : Bool := false
  dieLow : Bool := false
  dieQuietAt : Nat := 0
  dieShut : Bool := false
  /-- samples in a row with the highest at 135 °C or more -/
  dieHotRun : Nat := 0
  deriving DecidableEq, Repr

/-- An event record (R400) with its place in time (elapsed ticks) and its number. -/
structure EvRec where
  num : Nat := 0
  time : Nat := 0
  boot : Nat := 0
  code : Nat
  rep : Nat := 0
  data : Bytes := []
  /-- when it was queued -/
  at_ : Nat := 0
  deriving DecidableEq, Repr
/-- A change-log entry (R561). -/
structure LogRec where
  num : Nat
  time : Nat
  boot : Nat
  kind : Nat
  src : Nat := 7
  sess : Nat := 0
  target : Nat := 0
  old : Nat := 0
  new : Nat := 0
  digest : Bytes := []
  deriving DecidableEq, Repr
/-- The non-volatile event store (R399 to R402) and the queue before it. -/
structure Evs where
  bootSlot : Nat := 0
  fallback : Bool := false
  boot : Nat := 0
  salt : Bytes := List.replicate 16 0
  hash : Option Bytes := none
  fails : Nat := 0
  /-- end of the lockout of R559 -/
  lockout : Option Nat := none
  log : List LogRec := []
  logHead : Nat := 0
  ring : List EvRec := []
  head : Nat := 0
  drop : Nat := 0
  queue : List EvRec := []
  /-- records queued or written lately with the time each was queued, for the 10 s rule; repeats waiting by code -/
  recent : List EvRec := []
  reps : List (Nat × Nat) := []
  writeAt : Nat := 0
  /-- active firmware bank and which banks pass their check (R648, R692) -/
  fwBank : Nat := 0
  fwGood : List Bool := [true, true]
  deriving DecidableEq, Repr

/-- One comparator (R503 to R514). Stages: none UNSETTLED, some true ABOVE or BELOW, some false CLEAR. -/
structure Cmp1 where
  hi : Option Bool := none
  lo : Option Bool := none
  on : Bool := false
  /-- input as last seen, in nanovolts -/
  nv : Option Int := none
  firing : Bool := false
  /-- one more than the instant at which the firing state changed last (R471, R513) -/
  chgAt : Nat := 0
  checking : Bool := false
  failed : Bool := false
  frozen : Bool := false
  thrLo : Nat := 0
  thrHi : Nat := 0
  tgtLo : Nat := 0
  tgtHi : Nat := 0
  cnt : Nat := 0
  fired : Bool := false
  winAt : Nat := 0
  checkAt : Nat := 0
  thrAt : Nat := 0
  deriving DecidableEq, Repr
/-- CMP: comparators, pins, TRIPN, latches (R515 to R535). -/
structure CmpB where
  cmps : List Cmp1 := List.replicate 24 {}
  /-- the order of power-up checks still to run -/
  checks : List Nat := []
  flt : Nat := 0
  fltCmp : Nat := 0
  /-- latched sources 0 to 36, with the seam that delivered a cell trip -/
  latch : List Bool := List.replicate 37 false
  cellSeam : Nat := 0
  firstV : Bool := false
  first : Nat := 0
  firstAt : Nat := 0
  /-- pins: level, samples at the active level reached; TRIPN bus level low by another, driven, released at -/
  pinHigh : List Bool := List.replicate 8 false
  pinAct : List Bool := List.replicate 8 false
  busLow : Bool := false
  driving : Bool := false
  ignoreEnd : Nat := 0
  ignoring : Bool := false
  /-- flood received last at, cell TRIP block received last at (still being received) -/
  floodAt : Option Nat := none
  cellAt : Option Nat := none
  /-- releases on their way to the CMP domain -/
  releases : List Nat := []
  /-- windows of the blanking timers: start and end in elapsed ticks -/
  blanks : List (List (Nat × Nat)) := List.replicate 8 []
  blankOn : List Bool := List.replicate 8 false
  /-- the level word and the fired word of the last latch -/
  level : Nat := 0
  fired : Nat := 0
  deriving DecidableEq, Repr

/-- One safety input pair's evaluation (R539 to R542). -/
structure PairS where
  closedX : Bool := false
  closedY : Bool := false
  demand : Bool := false
  disc : Bool := false
  /-- both seen open since the discrepancy, since power-on -/
  discOpen : Bool := false
  opened : Bool := false
  startup : Bool := false
  /-- when the channels began to disagree -/
  disAt : Option Nat := none
  deriving DecidableEq, Repr
/-- The safety island (R536 to R574). -/
structure Safe where
  /-- 0 INIT, 1 LATCHED, 2 READY, 3 ENABLED, 4 FAULT -/
  st : Nat := 0
  cause : Nat := 0
  pair : Nat := 0
  soffA : Bool := false
  soffB : Bool := false
  gpReq : Bool := false
  rstStuck : Bool := false
  evt : Nat := 0
  testEn : Bool := false
  unlockMin : Nat := 10
  /-- its own copy of SAFETY -/
  desc : Option SafetyDesc := none
  pairs : List PairS := List.replicate 4 {}
  sin : List Bool := List.replicate 8 false
  rst : Bool := false
  rstFree : Bool := false
  rstAt : Nat := 0
  /-- test pulses: output next, completed, running, due -/
  testNextB : Bool := false
  tested : Nat := 0
  pulse : Option Bool := none
  testAt : Nat := 0
  tickAt : Nat := 0
  /-- lock: session that unlocked, end -/
  unlockSess : Nat := 0
  unlockEnd : Nat := 0
  unlocked : Bool := false
  vddBad : Bool := false
  deriving DecidableEq, Repr

end Sys2Proof.Machine
end

