-- ==== Sys2Proof/Machine/BlocksC.lean ====
section
/-! DEFINITION. The state of the IMG, CLK, LANE, ADC, MESH and PAIR blocks as plain data; a structure's defaults are its power-on values. -/
namespace Sys2Proof.Machine

/-- A validation under way (R70, R79, R85, R77). kind: 0 boot, 1 IMG_LOAD, 2 IMG_RECHECK. -/
structure Val where
  kind : Nat
  /-- 0 slot A, 1 slot B, 2 load buffer -/
  source : Nat
  len : Nat := 0
  /-- the slot's state before -/
  was : Nat := 7
  /-- fallback under way: the boot slot has failed (R80) -/
  fell : Bool := false
  /-- step 9: the description, when it began, whether it has ended; identity answers so far -/
  desc : Option ImgDesc := none
  at9 : Nat := 0
  ended9 : Bool := false
  answered : List Nat := []
  /-- the bytes that passed steps 1 to 8, and their number -/
  bytes : List Host.Cell := []
  blen : Nat := 0
  /-- the slot it was read from has been erased or written since -/
  moved : Bool := false
  deriving DecidableEq, Repr
/-- A hot-swap candidate (R87 to R91). -/
structure Cand where
  source : Nat
  len : Nat := 0
  desc : Option ImgDesc := none
  bytes : List Host.Cell := []
  id : Nat := 0
  sects : Nat := 0
  /-- the slot's state before -/
  was : Nat := 7
  deriving DecidableEq, Repr
/-- IMG. Storage is held as (offset, byte) pairs in rising order: a slot lists no byte that reads 0xFF, as erased flash
does, the load buffer and the working copy no byte that reads 0. -/
structure Img where
  /-- the image in force: what its sections describe, the working copy, the length -/
  desc : Option ImgDesc := none
  work : List Host.Cell := []
  workLen : Nat := 0
  safety : SafetyDesc := {}
  hostWait : Bool := false
  fellBack : Bool := false
  irq : Bool := false
  reason : Nat := 0
  cand : Nat := 7
  slotB : Nat := 7
  slotA : Nat := 7
  run : Nat := 7
  src : Nat := 0
  sigChecked : Bool := false
  id : Nat := 0
  diagSect : Nat := 0
  diagOfs : Nat := 0
  /-- the MISMATCH image held (R77): its description, source and bytes -/
  held : Option (ImgDesc × Nat × List Host.Cell × Nat) := none
  /-- the slot of the held image has been erased or written since -/
  heldMoved : Bool := false
  flashA : List Host.Cell := []
  flashB : List Host.Cell := []
  bufOpen : Bool := false
  buf : List Host.Cell := []
  /-- trace memory shown by the window follows the trace, unless the buffer is open -/
  val : Option Val := none
  /-- slots being erased or written: (slot, length to write; none for an erase, bytes read from the buffer) -/
  erasing : List Nat := []
  writing : List (Nat × Nat × List Host.Cell) := []
  /-- write counts of the slots' commit records -/
  wcnt : List Nat := [0, 0]
  /-- hot swap -/
  swapSt : Nat := 0
  swapLate : Bool := false
  swapReason : Nat := 0
  swapSects : Nat := 0
  swapPer : Nat := 0
  swap : Option Cand := none
  /-- the tables bank in force, 0 or 1 (R67, R90) -/
  bank : Nat := 0
  /-- IMG_FW_STS (R692) -/
  fwSt : Nat := 0
  fwReason : Nat := 0
  fwLen : Nat := 0
  /-- FW_SWITCH accepted: the period boundary at which the cores restart; restart under way since -/
  fwAt : Option Nat := none
  fwSince : Option Nat := none
  /-- housekeeping firmware is running (R648) -/
  fwRun : Bool := false
  deriving DecidableEq, Repr

/-- What stands on a ball of a clock output: the clock, a level, nothing driven (R177). -/
inductive Ball | toggles | low | high | hiZ
  deriving DecidableEq, Repr, Inhabited
/-- A clock output (R176 to R182, R195, R196). -/
structure ClkOut where
  en : Bool := false
  offZ : Bool := false
  fmt : Nat := 0
  div : Nat := 0
  run : Bool := false
  target : Int := 0
  /-- offset in force when the target was last written, and when that was -/
  base : Int := 0
  at_ : Nat := 0
  deriving DecidableEq, Repr
/-- An accepted CLK_TIME_LOAD (R174, R595): the new time, the instant in old system time, the conditions that have
failed since as a mask of DETAIL codes, and whether it still can be cancelled. -/
structure TLoad where
  time : Nat
  at_ : Nat
  bad : Nat := 0
  sure : Bool := false
  /-- taken from the mesh: no command of this node waits for it -/
  remote : Bool := false
  deriving DecidableEq, Repr
/-- CLK. -/
structure Clk where
  /-- 0 OFF, 1 SEARCH, 2 ACQUIRE, 3 ALIGN, 4 LOCKED, 5 HOLDOVER -/
  st : Nat := 0
  outSt : Nat := 0
  onFallback : Bool := true
  diverged : Bool := false
  refChanged : Bool := false
  meshOnce : Bool := false
  /-- W1C bits 15:10 of CLK_STS as a mask -/
  evt : Nat := 0
  refFreq : Nat := 0
  refPresent : Bool := false
  refBad : Bool := false
  meshPort : Nat := 0
  /-- SYSPLL's source is the mesh; while that is absent, its reference is REFCLK at the held frequency ratio (R162) -/
  onMesh : Bool := false
  onHeld : Bool := false
  sysLock : LockCfg := {}
  outLock : LockCfg := {}
  /-- the settings that the present lock of each loop took (R157) -/
  sysUse : LockCfg := {}
  outUse : LockCfg := {}
  /-- when OUTPLL began to acquire -/
  outAt : Nat := 0
  /-- e of R166 as a slew began -/
  holdErr : Int := 0
  slewing : Bool := false
  newBand : Nat := 0
  /-- system time has begun (R172) -/
  started : Bool := false
  hiLatch : Option Nat := none
  pllM : Nat := 0
  pllF : Nat := 0
  outs : List ClkOut := List.replicate 4 {}
  trims : List Int := List.replicate 8 0
  /-- a trim of an ADC reference that waits for the end of a conversion (R185) -/
  trimDue : List (Option Int) := List.replicate 8 none
  /-- when the last count, the step of the lock, the failed search began; failed searches in a row; waiting to search again -/
  countAt : Nat := 0
  stepAt : Nat := 0
  fails : Nat := 0
  waiting : Bool := false
  load : Option TLoad := none
  /-- the time of TLOAD_AT still waiting for its TLOAD_VAL: ORIGIN, TAG, instant (R595) -/
  loadAt : Option (Nat × Nat × Nat) := none
  deriving DecidableEq, Repr

/-- One lane (R208, R233 to R235). -/
structure LaneS where
  rate : Nat := 0
  used : Bool := false
  txSleep : Bool := false
  rxSleep : Bool := false
  test : Nat := 0
  loop : Nat := 0
  emph : Nat := 0
  swing : Nat := 0
  /-- 0 OFF, 1 ASLEEP, 2 WAKING, 3 CDR, 4 BLOCK, 5 UP, 6 RETRAIN -/
  rx : Nat := 0
  /-- 0 OFF, 1 ASLEEP, 2 WAKING, 3 ON -/
  tx : Nat := 0
  farHeld : Bool := false
  prbsLock : Bool := false
  hiBer : Bool := false
  miswired : Bool := false
  partnerSleep : Bool := false
  /-- bits 15:9 of LANE_STS as a mask -/
  evt : Nat := 0
  ber : Nat := 0
  mrkErr : Nat := 0
  prbsErr : Nat := 0
  m1 : Nat := 0
  m2 : Nat := 0
  m3 : Nat := 0
  retry : Nat := 0
  /-- emphasis and swing on the line since the last bring-up or transmitter retrain -/
  emphOn : Nat := 0
  swingOn : Nat := 0
  /-- attempt timer, waiting for the next attempt; when the sleep notice was acted on; count of the last expected marker -/
  attemptAt : Nat := 0
  gap : Bool := false
  noticeAt : Option Nat := none
  lastCnt : Option Nat := none
  lastMrk : Nat := 0
  /-- system time at which the last marker was accepted (R593) -/
  mrkTime : Nat := 0
  /-- a receiver wake, a receiver retrain, a transmitter retrain, a transmitter sleep, a transmitter wake began -/
  rxAt : Nat := 0
  txRetrain : Bool := false
  txSleeping : Bool := false
  txAt : Nat := 0
  deriving DecidableEq, Repr
/-- The markers of a quad's transmitters (R203, R205): the next count, when the first was sent and how many groups of 16,384 blocks
have passed since, the system times at which the last 256 were sent, the latest first. -/
structure Mrk where
  cnt : Nat := 0
  base : Option Nat := none
  groups : Nat := 0
  sent : List Nat := []
  deriving DecidableEq, Repr, Inhabited
/-- LANE: CL0 to CL31, then PL0 to PL7. -/
structure LaneB where
  lanes : List LaneS := List.replicate 40 {}
  /-- LANE_SEAM_DLY_A and _B -/
  dly : List (Nat × Nat) := List.replicate 16 (0, 0)
  /-- per quad -/
  mrk : List Mrk := List.replicate 10 {}
  deriving DecidableEq, Repr

/-- A conversion result (R498). -/
structure AdcRes where
  doubt : Bool := false
  ovr : Bool := false
  cover : Bool := false
  ch : Nat := 0
  run : Nat := 0
  code : Int := 0
  /-- one more than the instant it was complete, for the latch's stale flag; 0 none -/
  num : Nat := 0
  deriving DecidableEq, Repr, Inhabited
/-- What an ADC converts: an entry of its sequence, or a definition of an ADC. -/
inductive AdcJob | entry (e : Nat) | inj (a j : Nat)
  deriving DecidableEq, Repr, Inhabited
/-- One ADC (R462 to R482). -/
structure Adc1 where
  /-- 0 OFF, 1 IDLE, 2 POWERED_DOWN, 3 CONVERTING, 4 CALIBRATING -/
  st : Nat := 0
  /-- 0 IDLE, 1 WAITING, 2 RUNNING, 3 DONE, 4 FAILED -/
  cal : Nat := 0
  calCnt : Nat := 0
  ofs : Int := 0
  gain : Word := 0x3F800000
  /-- calibrating since power-up; that calibration failed: every result is DOUBT -/
  powerCal : Bool := false
  calBad : Bool := false
  calAt : Nat := 0
  seqOvr : Nat := 0
  doubtCnt : Nat := 0
  injLost : Nat := 0
  res : List AdcRes := List.replicate 32 {}
  inj : List AdcRes := List.replicate 8 {}
  /-- conversion in progress with its start; next entry of the run; run count; the period's runs started -/
  job : Option AdcJob := none
  jobAt : Nat := 0
  /-- reference trim the conversion in progress began with (R185) -/
  trim : Int := 0
  entry : Option Nat := none
  runs : Nat := 0
  /-- injected requests: ADC cycle of arrival, requesting ADC, definition; those held until the calibration ends -/
  queue : List (Nat × Nat × Nat) := []
  held : List (Nat × Nat × Nat) := []
  wakeAt : Option Nat := none
  /-- the last over-range conversion's end -/
  ovrEnd : Option Nat := none
  /-- channel values for the latch: the latest conversion not DOUBT of each channel -/
  chan : List AdcRes := List.replicate 32 {}
  /-- what each channel, entry and definition held before its latest result, for the latch (R37) -/
  chanWas : List AdcRes := List.replicate 32 {}
  resWas : List AdcRes := List.replicate 32 {}
  injWas : List AdcRes := List.replicate 8 {}
  /-- one more than the instant at which a run started last, and at which each definition was requested last -/
  runAt : Nat := 0
  asked : List Nat := List.replicate 8 0
  /-- until when no result is specified: an input was beyond its operating range (R477) -/
  loose : Option Nat := none
  deriving DecidableEq, Repr
/-- A shared entry's plausibility (R475). -/
structure Plaus where
  bad : Nat := 0
  good : Nat := 0
  failed : Bool := false
  /-- results of the two ADCs waiting to be compared -/
  a : Option AdcRes := none
  b : Option AdcRes := none
  deriving DecidableEq, Repr, Inhabited
/-- A sieve (R488 to R491). -/
structure Sieve where
  out : Int := 0
  valid : Bool := false
  settling : Bool := false
  stuck : Bool := false
  /-- bits 15:14 of ADC_SVi_STS as a mask -/
  evt : Nat := 0
  cnt : Nat := 0
  /-- bits received since the clock started or STUCK was left; last bits, newest first -/
  got : Nat := 0
  hist : List Bool := []
  /-- the latest valid output and one more than the instant it was complete -/
  good : Int := 0
  num : Nat := 0
  /-- the valid output before that, for the latch (R37) -/
  goodWas : Int := 0
  numWas : Nat := 0
  /-- system time up to which bits have come; the level that led to STUCK -/
  bitAt : Nat := 0
  level : Bool := false
  deriving DecidableEq, Repr
/-- ADC. -/
structure AdcB where
  flt : Nat := 0
  fltSieve : Nat := 0
  fltAdc : Nat := 0
  /-- ADC_OVR_LO and _HI as one mask -/
  ovr : Nat := 0
  adcs : List Adc1 := List.replicate 4 {}
  plaus : List Plaus := List.replicate 64 {}
  svs : List Sieve := List.replicate 24 {}
  sdcRun : List Bool := List.replicate 6 false
  /-- test DACs: code, input; DOUBT intervals of inputs: AIN, start, end (R484) -/
  tdac : List (Nat × Option Nat) := [(2048, none), (2048, none)]
  doubt : List (Nat × Nat × Nat) := []
  /-- values latched at S(n): per ADC and channel, per sieve, with the number of the conversion -/
  latA : List (List AdcRes) := List.replicate 4 (List.replicate 32 {})
  latS : List (Int × Nat) := List.replicate 24 (0, 0)
  staleA : List (List Bool) := List.replicate 4 (List.replicate 32 true)
  staleS : List Bool := List.replicate 24 true
  /-- injected results latched -/
  latJ : List (List AdcRes) := List.replicate 4 (List.replicate 8 {})
  staleJ : List (List Bool) := List.replicate 4 (List.replicate 8 true)
  deriving DecidableEq, Repr

/-- A DATA frame sent and not acknowledged (R590). -/
structure DFrame where
  seq : Nat
  item : Item
  sends : Nat := 1
  at_ : Nat := 0
  deriving DecidableEq, Repr
/-- A node conversation (R590, R591, R613). -/
structure Conv where
  /-- 0 DOWN, 1 UP, 2 LOST -/
  st : Nat := 0
  bound : Bool := false
  path : Nat := 0
  hops : Nat := 0
  /-- PATHWORD of the reverse route of the last frame the node sent by PATH (R586) -/
  back : Option Nat := none
  hostWait : Bool := false
  retry : Nat := 0
  rtt : Nat := 0
  out : List DFrame := []
  /-- items waiting for one of the eight places -/
  queue : List Item := []
  seq : Nat := 0
  /-- next SEQ expected from the node -/
  exp : Nat := 0
  /-- latest authority epoch seen from the node (R626) -/
  epoch : Option Nat := none
  heardAt : Nat := 0
  sentAt : Nat := 0
  /-- the node's last DISC frame -/
  disc : Option DiscData := none
  lostAt : Nat := 0
  /-- register reads sent to the node and not answered, oldest first: what for (0 BAR0, 1 a time load, 2 a reset), offset -/
  asks : List (Nat × Nat) := []
  deriving DecidableEq, Repr
/-- A peer port (R576, R593, R609). -/
structure PortS where
  up : Bool := false
  used : Bool := false
  crc : Nat := 0
  dly : Nat := 0
  nbr : Nat := 0
  nbrMember : Bool := false
  offsets : List Int := []
  /-- frames that wait at the output, in the order of arrival (R581) -/
  queue : List MFrame := []
  deriving DecidableEq, Repr
/-- A global operation this node started and whose confirmations it gathers (R597). -/
structure Gop where
  op : Nat
  tag : Nat
  got : List Nat := []
  endAt : Nat
  deriving DecidableEq, Repr
/-- MESH. -/
structure Mesh where
  viewEn : Bool := false
  viewNode : Nat := 0
  timeOk : Bool := false
  /-- system time was taken from the master since the image came into force (R155) -/
  timeTaken : Bool := false
  isolated : Bool := false
  /-- links down, the first first -/
  down : List Nat := []
  evt : Nat := 0
  tag : Nat := 0
  miss : Nat := 0
  timeErr : Int := 0
  /-- consecutive means within, outside the limit -/
  okRun : Nat := 0
  badRun : Nat := 0
  ports : List PortS := List.replicate 4 {}
  convs : List Conv := List.replicate 64 {}
  gops : List Gop := []
  /-- symbols acted on lately: OP, ORIGIN, TAG, when -/
  seenSym : List (Nat × Nat × Nat × Nat) := []
  /-- snapshot: pending (time, tag), the page, its time -/
  snap : Option (Nat × Nat) := none
  snapPage : Bytes := []
  snapT : Nat := 0
  /-- reset: pending (time, kind, block, tag); a RESET_BLOCK that came first -/
  reset : Option (Nat × Nat × Nat × Nat) := none
  resetBlk : Option (Nat × Nat × Nat) := none
  /-- barrier: number, nodes arrived, when it began, when last sent, open on this node -/
  bar : Option (Nat × List Nat × Nat) := none
  barNo : Nat := 0
  barSentAt : Nat := 0
  /-- floods accepted lately: origin, count, when; own flood count and the last repeat -/
  floods : List (Nat × Nat × Nat) := []
  floodCnt : Nat := 0
  floodAt : Nat := 0
  discAt : Nat := 0
  deriving DecidableEq, Repr

/-- PAIR. -/
structure PairB where
  /-- 0 NONE, 1 WAITING, 2 SYNCING, 3 STANDBY, 4 ACTIVE, 5 DETACHED, 6 FENCED -/
  st : Nat := 0
  member : Bool := false
  mirrorOff : Bool := false
  fbSuspend : Bool := false
  peerHealthy : Bool := false
  /-- commands and entries are mirrored to a STANDBY -/
  mirror : Bool := false
  /-- commands are held after MIRROR_OFF (R621) -/
  holding : Bool := false
  /-- the ACTIVE's REFS is being sent -/
  heartbeat : Bool := true
  evt : Nat := 0
  /-- own health word's checks, bits 62 to 51; LAST_FAIL, CLEAN_RUN, BIST_SLICE, low period -/
  health : Nat := 0
  cleanRun : Nat := 0
  lastFail : Nat := 0
  bist : Nat := 0
  /-- periods of the datapath test in the present rotation; since when every unused lane's PRBS31 has run without error -/
  bistRun : Nat := 0
  prbsAt : Nat := 0
  healthPer : Nat := 0
  peer : Nat := 0
  peerAt : Option Nat := none
  /-- of its last HEALTH: the candidate it reports as ARMED (R92), the send times of its markers (R623) -/
  peerArmed : Option Nat := none
  peerMarks : List (Nat × Nat × Nat) := []
  takePer : Nat := 0
  handover : Option Nat := none
  /-- when member 0's unbroken health began (R635) -/
  fbFrom : Option Nat := none
  timeErr : Int := 0
  timeOkRun : Nat := 0
  timeBadRun : Nat := 0
  hbMiss : Nat := 0
  ownCnt : Nat := 0
  shadowMism : Nat := 0
  setMism : Nat := 0
  linkErr : Nat := 0
  /-- since when the member waits, or has seen no sign of the partner -/
  since : Nat := 0
  /-- last REFS of the partner, last INPUT, when heard, EDGE frames of the partner seen: (seam, period, epoch) -/
  refs : Option RefsFrame := none
  refsAt : Option Nat := none
  input : Option InputSet := none
  edgeSeen : List (Nat × Nat) := []
  edgeAt : Option Nat := none
  missRun : Nat := 0
  healthMiss : Nat := 0
  /-- mirror numbers: last sent, last acknowledged by the partner; last acknowledged by this member -/
  sent : Nat := 0
  acked : Nat := 0
  ackedJnl : Nat := 0
  got : Nat := 0
  gotJnl : Nat := 0
  /-- CMD frames sent and not acknowledged, with when -/
  flight : List (CmdFrame × Nat) := []
  /-- CMD frames acknowledged here without their JNL entry -/
  cmds : List CmdFrame := []
  /-- latest epoch reported by cells since WAITING began (R627) -/
  repEpoch : Option Nat := none
  /-- taking authority by R627: queries sent at an instant, the epoch not yet raised -/
  taking : Bool := false
  takeAt : Nat := 0
  /-- authority is taken in SAFE, so that EV_TAKEOVER is journalled with the new epoch (R632) -/
  takeSafe : Bool := false
  /-- when synchronisation began; the ACTIVE is sending its pages -/
  syncAt : Nat := 0
  syncOut : Bool := false
  /-- RESIGN received with its cause, and not yet acted on -/
  resigned : Option Nat := none
  /-- a handover whose local outputs have not yet passed over (R634) -/
  hand : Bool := false
  mismHist : List Bool := []
  setHist : List Bool := []
  shadowRun : Nat := 0
  setRun : Nat := 0
  /-- own set CRCs of the last compile, for SET_OK -/
  setCrcs : List (Nat × Word) := []
  adcRun : Nat := 0
  adcBad : List (Nat × Nat × Nat) := []
  deriving DecidableEq, Repr
end Sys2Proof.Machine
end

