-- ==== Sys2Proof/Machine/State.lean ====
section
/-! DEFINITION. The whole state of the block, the reasons a step can stop, and the state after reset. -/
namespace Sys2Proof.Machine

/-- The state: one part per block of R693, the queue of waiting commands, and the model's own record of time,
output and free values. -/
structure State where
  /-- elapsed ticks of 78.125 ps since power-on reset was released; system time is this plus ofs (log entry 1) -/
  now : Nat := 0
  ofs : Nat := 0
  /-- what the last command made the block send (the model's own) -/
  out : List Out := []
  /-- W1C bits set in the present instant, by register offset (the model's own, R15, log entry 9) -/
  sets : List (Nat × Nat) := []
  /-- the period in which each point of R36 was last reached, numbered from 1 without wrap (the model's own) -/
  pts : List Nat := []
  /-- free values drawn so far (the model's own, log entry 5) -/
  free : Nat := 0
  /-- commands waiting, first in first out -/
  pending : List Instr := []
  sys : Sys := {}
  pwr : Pwr := {}
  clk : Clk := {}
  img : Img := {}
  host : HostB := {}
  jnl : Jnl := {}
  lane : LaneB := {}
  seam : SeamB := {}
  edg : Edg := {}
  comp : Comp := {}
  bnc : Bnc := {}
  bal : Bal := {}
  evs : Evs := {}
  mode : ModeB := {}
  modeQ : ModeQ := {}
  adc : AdcB := {}
  cmp : CmpB := {}
  safe : Safe := {}
  mesh : Mesh := {}
  pair : PairB := {}
  deriving DecidableEq, Repr

/-- Why a step faults. The spec gives every fault of the part an outcome the part goes on from (a spoil record, an
event bit, SAFE), so no command of this model faults. -/
inductive Fault
  deriving DecidableEq, Repr

/-- Why a command has no meaning. -/
inductive Refusal
  /-- The command is not modelled; raised by an arm of exec alone. Safe: the model stops. -/
  | notModelled (mnemonic : String)
  deriving DecidableEq, Repr

/-- The machine right after power-on reset is released, before the steps of R648: every supply good, only AON and
SAFE on, every register at its Power-on value, nothing queued. -/
def State.reset : State := {}

end Sys2Proof.Machine
end

