-- ==== Sys2Proof/Machine/Ops.lean ====
section
/-! DEFINITION. The shared operations: block updates, time and the period, output, interrupts, event records, the journal and spoil records. -/
namespace Sys2Proof.Machine

/-! ## Tables -/

/-- Change entry i of a table; nothing outside it. -/
def modAt {α : Type} (l : List α) (i : Nat) (f : α → α) : List α := l.modify i f
/-- Saturating counters of 16 and 32 bits. -/
def sat16 (a n : Nat) : Nat := min 65535 (a + n)
def sat32 (a n : Nat) : Nat := min 4294967295 (a + n)
/-- Bit i of a mask set, or cleared. -/
def setBit (m i : Nat) : Nat := m ||| (1 <<< i)
def clrBit (m i : Nat) : Nat := if m.testBit i then m ^^^ (1 <<< i) else m
def putBit (m i : Nat) (b : Bool) : Nat := if b then setBit m i else clrBit m i
/-- The members of a mask below n. -/
def members (m n : Nat) : List Nat := (List.range n).filter m.testBit
/-- A mask from a predicate on the numbers below n. -/
def maskOf (n : Nat) (p : Nat → Bool) : Nat := (List.range n).foldl (fun m i => if p i then setBit m i else m) 0
/-- Repeat a change for each member of a list. -/
def each {α : Type} (l : List α) (f : α → State → State) (s : State) : State := l.foldl (fun s a => f a s) s

namespace State

/-! ## Updates of one block -/
def onSys (f : Sys → Sys) (s : State) : State := { s with sys := f s.sys }
def onPwr (f : Pwr → Pwr) (s : State) : State := { s with pwr := f s.pwr }
def onClk (f : Clk → Clk) (s : State) : State := { s with clk := f s.clk }
def onImg (f : Img → Img) (s : State) : State := { s with img := f s.img }
def onHost (f : HostB → HostB) (s : State) : State := { s with host := f s.host }
def onJnl (f : Jnl → Jnl) (s : State) : State := { s with jnl := f s.jnl }
def onLane (f : LaneB → LaneB) (s : State) : State := { s with lane := f s.lane }
def onSeam (f : SeamB → SeamB) (s : State) : State := { s with seam := f s.seam }
def onEdg (f : Edg → Edg) (s : State) : State := { s with edg := f s.edg }
def onComp (f : Comp → Comp) (s : State) : State := { s with comp := f s.comp }
def onBnc (f : Bnc → Bnc) (s : State) : State := { s with bnc := f s.bnc }
def onBal (f : Bal → Bal) (s : State) : State := { s with bal := f s.bal }
def onEvs (f : Evs → Evs) (s : State) : State := { s with evs := f s.evs }
def onMode (f : ModeB → ModeB) (s : State) : State := { s with mode := f s.mode }
def onModeQ (f : ModeQ → ModeQ) (s : State) : State := { s with modeQ := f s.modeQ }
def onAdc (f : AdcB → AdcB) (s : State) : State := { s with adc := f s.adc }
def onCmp (f : CmpB → CmpB) (s : State) : State := { s with cmp := f s.cmp }
def onSafe (f : Safe → Safe) (s : State) : State := { s with safe := f s.safe }
def onMesh (f : Mesh → Mesh) (s : State) : State := { s with mesh := f s.mesh }
def onPair (f : PairB → PairB) (s : State) : State := { s with pair := f s.pair }
/-- Add to what the command sends. -/
def emit (o : Out) (s : State) : State := { s with out := s.out ++ [o] }
def emits (l : List Out) (s : State) : State := { s with out := s.out ++ l }
/-- A fresh free value: the counter moves on (log entry 5). -/
def freeWord (s : State) : Word := Config.freeWord s.free
def drawn (s : State) : State := { s with free := s.free + 1 }

/-! ## Time and the period (R33, R36, R172) -/

/-- Ticks by which a slew has moved system time so far, at no more than 20 ppm, until |e| is 1 (R166). -/
def slewTicks (s : State) : Nat := min (s.clk.holdErr.natAbs - 1) ((s.now - s.clk.stepAt) / max 50000 Config.slewTicks)
/-- The same as what it adds to system time, modulo 2^64. -/
def slewAdds (s : State) : Nat :=
  if !s.clk.slewing then 0 else if s.clk.holdErr < 0 then s.slewTicks else (2 ^ 64 - s.slewTicks) % 2 ^ 64
/-- e of R166 as the slew has left it; 0 outside one. -/
def slewErr (s : State) : Int :=
  if !s.clk.slewing then 0 else if s.clk.holdErr < 0 then s.clk.holdErr + s.slewTicks else s.clk.holdErr - s.slewTicks
/-- System time in ticks; it begins at the first lock after power-on (R172). -/
def sysTime (s : State) : Nat := if s.clk.started then (s.now + s.ofs + s.slewAdds) % 2 ^ 64 else 0
/-- The description of the image in force. -/
def cfg (s : State) : ImgDesc := s.img.desc.getD {}
/-- An image is in force. -/
def inForce (s : State) : Bool := s.img.desc.isSome && !s.img.hostWait
def kF (s : State) : Nat := s.cfg.topo.kF
/-- Ticks of one period. -/
def tick (s : State) : Nat := 16 * s.kF
/-- K_O (R36). -/
def kO (s : State) : Nat := s.cfg.topo.outPhase * s.kF / 100
/-- The number of the period in progress (R33). -/
def per (s : State) : Nat := s.sysTime / s.tick % M32
/-- Ticks since S(n). -/
def inPer (s : State) : Nat := s.sysTime % s.tick
/-- The edge-clock cycle since S(n). -/
def cyc (s : State) : Nat := s.inPer / 16
/-- Elapsed time of the next period boundary. -/
def nextS (s : State) : Nat := s.now + (s.tick - s.inPer)
/-- n periods later. -/
def perPlus (s : State) (n : Nat) : Nat := (s.per + n) % M32
/-- Ticks of a period as seconds, binary32: T_F. -/
def tF (s : State) : Word := F32.ratio s.tick Config.sec
/-- Periods that cover a time, ⌈time / T_F⌉, the time in ticks. -/
def periodsOf (s : State) (ticks : Nat) : Nat := (ticks + s.tick - 1) / s.tick
/-- SYSPLL is LOCKED or in HOLDOVER and system time is valid (R25, R51). -/
def locked (s : State) : Bool := s.clk.st == 4 || s.clk.st == 5
/-- The period timeline holds (R25). -/
def timeline (s : State) : Bool := s.inForce && s.locked

/-! ## Peer ports and the tables of the mesh (R576, R581, R583 to R586, R589) -/

def ln (s : State) (l : Nat) : LaneS := at' s.lane.lanes l {}
/-- A lane's receiver sleeps (R208). -/
def rxAsleep (s : State) (l : Nat) : Bool := (s.ln l).rx == 1
/-- A lane's transmitter sleeps, or sends its notice before it does (R225, R226). -/
def txAsleep (s : State) (l : Nat) : Bool := (s.ln l).tx == 1 || (s.ln l).txSleeping
/-- A port is up while both of its lanes are UP and neither retrains (R576). -/
def portUp (s : State) (p : Nat) : Bool :=
  (List.range 2).all fun i => (s.ln (32 + 2 * p + i)).rx == 5 && !(s.ln (32 + 2 * p + i)).txRetrain
/-- It carries this node's own port-blocks: neither lane answers a far-end loop or sends PRBS31 (R207, R221). -/
def portSends (s : State) (p : Nat) : Bool :=
  s.portUp p && (List.range 2).all fun i => !(s.ln (32 + 2 * p + i)).farHeld && (s.ln (32 + 2 * p + i)).test != 4
/-- The description whose node ID and tables this node holds: of the image in force, or of a MISMATCH image held (R588). -/
def ownDesc (s : State) : Option ImgDesc := if s.inForce then s.img.desc else s.img.held.map (·.1)
/-- Its part for the mesh. -/
def meshDesc (s : State) : MeshDecl := (s.ownDesc.getD {}).mesh
/-- Own node ID in frames: 0xFF without an image ID (R580). -/
def nodeId (s : State) : Nat := match s.ownDesc with | some d => d.mesh.node | none => 0xFF
/-- Output port toward a node by the tables in force: those of the first link that went down (R583, R584). -/
def routePort (s : State) (n : Nat) : Nat :=
  let m := s.meshDesc
  match s.mesh.down with
  | [] => at' m.route n 4
  | k :: _ => at' (((m.routeK.find? (·.1 == k)).map (·.2)).getD m.route) n 4
/-- Ports on which what a node broadcasts is sent on: the mask in force for it, and the pair link (R579, R583). -/
def bcastPorts (s : State) (origin : Nat) : List Nat :=
  let m := s.meshDesc
  let l := match s.mesh.down with | [] => m.bcast | k :: _ => ((m.bcastK.find? (·.1 == k)).map (·.2)).getD m.bcast
  (List.range 4).filter fun p => ((at' l origin 0).testBit p || (p == 0 && s.cfg.topo.pair)) && s.portSends p
/-- A frame at a port's output: of class 1, which waits for none, it leaves at once (log entry 193); any other joins those that
wait (R581). -/
def portPut (p : Nat) (f : MFrame) (s : State) : State :=
  if meshClass f.hdr.typ = 1 then (if s.portSends p then s.emit (frameOut p f) else s)
  else s.onMesh fun m => { m with ports := modAt m.ports p fun x => { x with queue := x.queue ++ [f] } }
/-- Hand a frame for a node to the output of its route: by PATH where a route is bound, or where the node's own frames came by
PATH; else by the tables (R583, R586, R589). How many hops a reverse route has is not carried, so HOPS is a free value (log
entry 192). -/
def meshSend (n typ seq : Nat) (b : MBody) (s : State) : State :=
  let h : MHdr := { typ := typ, dst := n, src := s.nodeId, epoch := s.seam.epoch, seq := seq }
  let c := at' s.mesh.convs n {}
  if c.bound then s.portPut (c.path % 4) { hdr := { h with path := true, hops := c.hops - 1, word := c.path / 4 }, body := b }
  else match c.back with
    | some w => (s.portPut (w % 4) { hdr := { h with path := true, hops := s.freeWord.toNat % 16, word := w / 4 }, body := b }).drawn
    | none => s.portPut (s.routePort n) { hdr := h, body := b }
/-- A frame to the pair partner, at the other end of P0 (R579, R618). -/
def pairOut (s : State) (m : PairMsg) : List Out :=
  if s.portSends 0 then [frameOut 0 { hdr := { typ := 6, dst := s.nodeId, src := s.nodeId, epoch := s.seam.epoch }, body := .pair m }] else []
def pairSend (m : PairMsg) (s : State) : State := s.emits (s.pairOut m)
/-- Each port that is up sends the next frame that waits; what waits at one that is down is lost (R581, R584). -/
def portsSend (s : State) : State :=
  each (List.range 4) (fun p s =>
    let q := (at' s.mesh.ports p {}).queue
    let put (l : List MFrame) (s : State) : State := s.onMesh fun m => { m with ports := modAt m.ports p fun x => { x with queue := l } }
    if !s.portSends p then put [] s
    else match nextFrame q with
      | some f => (put (q.erase f) s).emit (frameOut p f)
      | none => s) { s with out := [] }

/-! ## The points of a period (R36) -/

/-- The period in progress, numbered from 1 without wrap. -/
def absPer (s : State) : Nat := s.sysTime / s.tick + 1
/-- Point i was reached in the period in progress. -/
def reached (i : Nat) (s : State) : Bool := at' s.pts i 0 == s.absPer
/-- A point of the period: in its own edge-clock cycle, and once. -/
def atPoint (i k : Nat) (s : State) : Bool := s.timeline && s.cyc == k && !s.reached i
/-- Point i is reached. -/
def reach (i : Nat) (s : State) : State := { s with pts := (s.pts ++ List.replicate (16 - s.pts.length) 0).set i s.absPer }
/-- Ticks by which a STANDBY runs the points of its period late: SB_LAG, in EDGE cycles (R619). -/
def lag (s : State) : Nat := if s.cfg.topo.pair && s.pair.st == 3 then 16 * s.cfg.topo.sbLag else 0
/-- The state with the period's clock as this member runs it: system time less the lag. -/
def lagged (s : State) : State := if s.lag = 0 then s else { s with ofs := (s.ofs + (2 ^ 64 - s.lag)) % 2 ^ 64 }
/-- A step taken by that clock. -/
def underLag (f : State → State) (s : State) : State := if s.lag = 0 then f s else { f s.lagged with ofs := s.ofs }

/-! ## W1C bits set in one instant (R15) -/

/-- The W1C bits held, by register offset. -/
def w1cWords (s : State) : List (Nat × Nat) :=
  let b (v : Bool) (i : Nat) : Nat := bit v * 2 ^ i
  [(0x000008, b s.sys.eccUe 31 + b s.sys.eccCe 30 + b s.sys.scrubLate 29 + b s.sys.ceSat 28),
   (0x020010, b s.jnl.wrapped 31 + b s.jnl.gap 30 + b s.jnl.damaged 29), (0x040000, s.clk.evt), (0x0C0004, s.edg.flt),
   (0x0C0020, b s.edg.late 31 + b s.edg.directBad 29 + b s.edg.refNan 28 + b s.edg.clamp 27 + b s.edg.owner 26),
   (0x0C0024, s.edg.rldLate % M32), (0x0C0028, s.edg.rldLate / M32), (0x100004, s.bnc.flt),
   (0x103008, b s.bnc.trace.invalid 28 + b s.bnc.trace.doneEvt 27), (0x140004, s.bal.flt), (0x160008, s.mode.evt),
   (0x16002C, b s.modeQ.ended 31), (0x180004, s.adc.flt), (0x180008, s.adc.ovr % M32), (0x18000C, s.adc.ovr / M32),
   (0x1A000C, s.cmp.flt), (0x1A0018, b s.cmp.firstV 31), (0x1C0004, s.safe.evt), (0x1E0008, s.mesh.evt), (0x200004, s.pair.evt),
   (0x220000, b s.pwr.refused 23), (0x240000, b s.img.irq 28)] ++
  (s.host.mbx.mapIdx fun m x => (0x010324 + 0x200 * m, b x.done 30 + b x.dbLost 29)) ++
  (s.lane.lanes.mapIdx fun l x => (0x061004 + 0x40 * l, x.evt)) ++
  (s.seam.seams.mapIdx fun q x => (0x080104 + 0x10 * q, x.undecl)) ++
  (s.seam.cells.mapIdx fun c x => (0x081004 + 0x40 * c, x.evt)) ++
  s.adc.svs.mapIdx fun i x => (0x183008 + 0x10 * i, x.evt)
/-- The same state with no W1C bit set but the first trip's, which marks what the trip logic captured. -/
def quiet (s : State) : State :=
  { s with
    sys := { s.sys with eccUe := false, eccCe := false, scrubLate := false, ceSat := false }
    jnl := { s.jnl with wrapped := false, gap := false, damaged := false }
    clk := { s.clk with evt := 0 }
    edg := { s.edg with flt := 0, late := false, directBad := false, refNan := false, clamp := false, owner := false, rldLate := 0 }
    bnc := { s.bnc with flt := 0, trace := { s.bnc.trace with invalid := false, doneEvt := false } }
    bal := { s.bal with flt := 0 }
    mode := { s.mode with evt := 0 }
    modeQ := { s.modeQ with ended := false }
    adc := { s.adc with flt := 0, ovr := 0, svs := s.adc.svs.map fun x => { x with evt := 0 } }
    cmp := { s.cmp with flt := 0 }
    safe := { s.safe with evt := 0 }
    mesh := { s.mesh with evt := 0 }
    pair := { s.pair with evt := 0 }
    pwr := { s.pwr with refused := false }
    img := { s.img with irq := false }
    host := { s.host with mbx := s.host.mbx.map fun x => { x with done := false, dbLost := false } }
    lane := { s.lane with lanes := s.lane.lanes.map fun x => { x with evt := 0 } }
    seam := { s.seam with seams := s.seam.seams.map (fun x => { x with undecl := 0 }), cells := s.seam.cells.map fun x => { x with evt := 0 } } }
/-- The W1C bits that a command sets at a state, those already set among them: what it leaves set when none is set before it. -/
def setsOf (f : State → State) (s : State) : List (Nat × Nat) :=
  (f s.quiet).w1cWords.filter fun x => x.2 != 0 && !(x.1 == 0x1A0018 && s.cmp.firstV)
/-- Add to the W1C bits set in the present instant. -/
def noteSets (l : List (Nat × Nat)) (s : State) : State := { s with sets := s.sets ++ l }
/-- The bits of a register that hardware set in the present instant. -/
def setNow (s : State) (o : Nat) : Nat := s.sets.foldl (fun m x => if x.1 = o then m ||| x.2 else m) 0

/-! ## The command's start and end -/

/-- The instant of a command: time does not go back; nothing sent yet, and no bit set in a later instant. -/
def begin (t : Nat) (s : State) : State := { s with now := max s.now t, out := [], sets := if s.now < t then [] else s.sets }

/-- The spill threshold of R143 is met. -/
def spillHigh (s : State) : Bool :=
  let j := s.jnl
  j.spillLevel != 0 && decide (j.spillLevel * 2 ^ j.spillLog ≤ 4 * serialDiff 32 j.spillDev j.spillHost)
/-- Sources of the vectors 32 to 45 (R710). -/
def pendBit (s : State) : Nat → Bool
  | 0 => s.sys.eccUe || s.sys.eccCe || s.sys.scrubLate || s.sys.ceSat || s.clk.evt != 0 || s.pwr.refused
  | 1 => s.img.irq
  | 2 => s.jnl.wrapped || s.jnl.gap || s.jnl.damaged || s.spillHigh
  | 3 => s.host.spoilHead != s.host.spoilRd
  | 4 => s.mode.evt != 0 || s.modeQ.ended
  | 5 => s.safe.evt != 0
  | 6 => s.pair.evt != 0
  | 7 => s.mesh.evt != 0
  | 8 => s.bal.flt != 0
  | 9 => s.bnc.trace.doneEvt || s.bnc.trace.invalid
  | 10 => s.lane.lanes.any (·.evt != 0) || s.seam.cells.any (·.evt != 0) || s.seam.seams.any (·.undecl != 0)
  | 11 => s.edg.flt != 0 || s.edg.late || s.edg.directBad || s.edg.refNan || s.edg.clamp || s.edg.owner
  | 12 => s.bnc.flt != 0
  | 13 => s.adc.flt != 0 || s.cmp.flt != 0 || s.adc.svs.any (·.evt != 0) || s.adc.ovr != 0
  | _ => false
/-- SYS_SUM.PEND (R709). -/
def pend (s : State) : Nat := maskOf 14 s.pendBit
/-- Send the vectors whose PEND bit rose since the mask before (R711), and each journal entry written since the head
before to the STANDBY, one that synchronises among them (R142, R618, R622). -/
def finish (before head : Nat) (s : State) : State :=
  let p := s.pend
  let s := if s.pair.mirror || s.pair.syncOut then s.emits (((s.jnl.ring.take (s.jnl.head - head)).reverse).flatMap fun e => s.pairOut (.jnl e)) else s
  s.emits (((List.range 14).filter fun v => p.testBit v && !before.testBit v).map fun v => .msix (32 + v))
/-- A write that cleared a source of a vector: sent again while an event is still pending (R711). -/
def cleared (v : Nat) (s : State) : State := if s.pend.testBit (v - 32) then s.emit (.msix v) else s
/-- A command at an instant: its effect between begin and finish. -/
def run (t : Nat) (f : State → State) (s : State) : State :=
  noteSets (setsOf f (s.begin t)) (finish s.pend s.jnl.head (f (s.begin t)))
/-- The effect only where a condition holds at that instant; otherwise time passes (log entry 2). -/
def runIf (t : Nat) (c : State → Bool) (f : State → State) (s : State) : State := run t (if c (s.begin t) then f else id) s

/-! ## Event records (R400, R401) -/


/-- Bytes of an event record (R400). -/
def evBytes (r : EvRec) : Bytes :=
  let b := le 8 r.time ++ le 4 r.boot ++ le 2 r.code ++ le 2 r.rep ++ padTo 12 r.data
  b ++ le 4 (crc32c b).toNat
/-- Repeats waiting for a code. -/
def repsOf (e : Evs) (code : Nat) : Nat := (e.reps.filter (·.1 == code)).foldl (fun n p => n + p.2) 0
/-- Queue an event record by the rules of R401. -/
def event (code : Nat) (data : Bytes) (s : State) : State :=
  let d := padTo 12 data
  s.onEvs fun e =>
    let recent := e.recent.filter fun r => decide (s.now < r.at_ + 10 * Config.sec)
    if recent.any fun r => r.code == code && r.data == d then
      { e with recent, reps := (code, sat16 (repsOf e code) 1) :: e.reps.filter (·.1 != code) }
    else if 16 ≤ e.queue.length ∧ code ≠ 0x0580 then { e with recent, drop := sat32 e.drop 1 }
    else
      let r : EvRec := { time := s.sysTime, boot := e.boot, code := code, rep := repsOf e code, data := d, at_ := s.now }
      { e with
        recent := r :: recent
        reps := e.reps.filter (·.1 != code)
        queue := if code = 0x0580 then r :: e.queue else e.queue ++ [r] }

/-! ## The journal (R136 to R138) -/

/-- The 60 bytes of an entry before CHAIN (R136). -/
def jBytes (e : JEntry) : Bytes :=
  le 8 e.index ++ le 8 e.time ++ le 2 e.sess ++ le 1 e.src ++ le 1 e.origin ++ le 4 e.seq ++ le 2 e.opcode ++
  le 1 e.result ++ le 1 e.flags ++ le 4 e.target ++ le 4 e.effPeriod ++ le 1 e.tnode ++ le 3 0 ++
  padTo 16 (e.digest.take 16) ++ le 4 e.boot
/-- CHAIN of an entry after a chaining value (R138). -/
def jChain (e : JEntry) (prev : Word) : Word := crc32c (jBytes e ++ le 4 prev.toNat)
/-- A chained entry in the ring, which WRAPPED shows to have overwritten its first (R140, R151). -/
def jPut (j : Jnl) (e : JEntry) : Jnl :=
  let full := decide (8192 ≤ j.ring.length)
  { j with
    ring := (e :: j.ring).take 8192
    head := e.index + 1
    prev := e.chain
    wrapped := j.wrapped || (full && !j.lapped)
    lapped := j.lapped || full }
/-- Write one entry at JNL_HEAD. -/
def jWrite (j : Jnl) (e : JEntry) : Jnl := jPut j { e with index := j.head, chain := jChain { e with index := j.head } j.prev }
/-- Write entries in index order while the oldest waiting one is known. -/
def jFlush : List JWait → Jnl → Jnl
  | [], j => { j with waits := [] }
  | w :: ws, j => if w.known then jFlush ws (jWrite j w.e) else { j with waits := w :: ws }
/-- Give an entry the next index; it is written once it is known and every entry before it is. -/
def jAdd (e : JEntry) (known : Bool) (s : State) : State :=
  s.onJnl fun j =>
    jFlush (j.waits ++ [{ e := { e with index := j.next, boot := s.evs.boot }, known := known }]) { j with next := j.next + 1 }
/-- An entry's result becomes known. -/
def jKnow (idx : Nat) (f : JEntry → JEntry) (s : State) : State :=
  s.onJnl fun j =>
    jFlush (j.waits.map fun w => if w.e.index == idx && !w.known then { e := f w.e, known := true } else w) j
/-- Own node ID. -/
def node (s : State) : Nat := s.cfg.mesh.node
/-- The image whose presence is being checked: step 9 of R70 runs (R73). -/
def step9 (s : State) : Option ImgDesc := s.img.val.bind (·.desc)
/-- FLAGS.PAIRED is set while entries are mirrored (R142). -/
def pairedFlag (s : State) : Nat := if s.pair.mirror then 2 else 0
/-- Journal an internal event (R139). -/
def jEvent (opcode target seq : Nat) (digest : Bytes) (s : State) : State :=
  jAdd { time := s.sysTime, src := 7, origin := s.node, seq := seq, opcode := opcode, result := 3, flags := s.pairedFlag,
         target := target, effPeriod := s.per, tnode := s.node, digest := digest } true s
/-- An event that acts at a boundary. -/
def jEventAt (per opcode target : Nat) (s : State) : State :=
  jAdd { time := s.sysTime, src := 7, origin := s.node, opcode := opcode, result := 3, flags := s.pairedFlag,
         target := target, effPeriod := per, tnode := s.node } true s
/-- An entry given an index that is refused after all: later entries and what waits for them move up, for refused records
take none (R136). -/
def jGone (idx : Nat) (s : State) : State :=
  let up (i : Nat) : Nat := if idx < i then i - 1 else i
  let s := s.onJnl fun j =>
    jFlush ((j.waits.filter (·.e.index != idx)).map fun w => { w with e := { w.e with index := up w.e.index } }) { j with next := j.next - 1 }
  let s := s.onHost fun x =>
    { x with
      opens := x.opens.map fun o => { o with jidx := up o.jidx }
      held := x.held.map fun k => { k with jidx := up k.jidx, cpl := { k.cpl with jidx := k.cpl.jidx.map up } } }
  s.onPair fun p => { p with flight := p.flight.map fun f => ({ f.1 with jidx := up f.1.jidx }, f.2) }
/-- Journal a direct write (R105); one that came from the head through the mesh was DIRECT_PCIE there (R605). -/
def jDirect (src : Src) (off : Nat) (v : Word) (s : State) : State :=
  jAdd { time := s.sysTime, src := if src = .mesh then 3 else src.code, origin := if src = .mesh then 0 else s.node, opcode := 0x0B01, flags := s.pairedFlag, target := off,
         effPeriod := s.per, tnode := s.node, digest := (sha256 (le 4 off ++ le 4 v.toNat)).take 16 } true s

/-! ## The safety change log and the lock (R558, R561) -/

/-- Append a change-log entry (R561). -/
def logAdd (kind src sess target old new : Nat) (digest : Bytes) (s : State) : State :=
  s.onEvs fun e =>
    { e with
      log := ({ num := e.logHead, time := s.sysTime, boot := e.boot, kind := kind, src := src, sess := sess, target := target,
                old := old, new := new, digest := digest } :: e.log).take 256
      logHead := (e.logHead + 1) % M32 }
/-- The safety section locks again (R558), with a change-log entry when it was unlocked. -/
def relock (src sess : Nat) (s : State) : State :=
  if s.safe.unlocked then (s.onSafe fun x => { x with unlocked := false, unlockSess := 0 }).logAdd 6 src sess 0 0 0 [] else s

/-! ## GLOBAL symbols (R582) -/

/-- A symbol on ports: twice, in consecutive slots. -/
def symbolOut (ports : List Nat) (op : Nat) (y : Sym) : List Out :=
  ports.map fun p => .port p [(true, symbolBytes op y), (true, symbolBytes op y)]
/-- The ports a symbol of an origin leaves by: toward node 0 for BAR_ARRIVE, else by broadcast (R597, R598). -/
def symbolPorts (s : State) (op origin : Nat) : List Nat :=
  if op = 2 then [s.routePort 0].filter fun p => decide (p < 4) && s.portSends p else s.bcastPorts origin

/-- D (R585): the longest path of the mesh in hops, with the links that are down. -/
def diam (s : State) : Nat :=
  let m := s.cfg.mesh
  if m.shape = 0 then 0
  else match s.mesh.down with
    | [] => m.diam
    | [k] => ((m.diamK.find? (·.1 == k)).map (·.2)).getD m.diam
    | _ => m.nodes - 1
/-- One way through the mesh at 110 ns a hop, and back. -/
def meshTrip (s : State) : Nat := 2 * s.diam * 1408
/-- Operations that every node confirms (R597). -/
def confirmedOps : List Nat := [1, 4, 5, 7, 8, 0x0A]
/-- Send GLOBAL symbols of one TAG; a single device has no port to send them through. Confirmed operations are watched
until their window of 1.4 us beyond both ways ends (R597). -/
def sendSymbols (l : List (Nat × Nat)) (s : State) : State :=
  if s.cfg.mesh.shape = 0 then s
  else
    let gs := (l.filter fun x => confirmedOps.contains x.1).map fun x => ({ op := x.1, tag := s.mesh.tag, endAt := s.now + s.meshTrip + 17920 } : Gop)
    (s.onMesh fun m => { m with tag := (m.tag + 1) % 256, gops := m.gops ++ gs }).emits
      (l.flatMap fun x => symbolOut (s.symbolPorts x.1 s.node) x.1 { origin := s.node, tag := s.mesh.tag, arg := x.2 })
/-- Send one GLOBAL symbol. -/
def sendSymbol (op arg : Nat) (s : State) : State := s.sendSymbols [(op, arg)]

/-! ## Items for other nodes (R590) -/

def conv (s : State) (n : Nat) : Conv := at' s.mesh.convs n {}
def onConv (n : Nat) (f : Conv → Conv) (s : State) : State := s.onMesh fun m => { m with convs := modAt m.convs n f }
/-- The conversation with a node is UP. -/
def convUp (n : Nat) (s : State) : Bool := (s.conv n).st == 1
/-- How long a DATA frame waits for its ACK (R590). -/
def dataWait (s : State) : Nat := s.meshTrip + 2 * Config.us
/-- Send one DATA frame with the next SEQ. -/
def dataSend (n : Nat) (i : Item) (s : State) : State :=
  let q := (s.conv n).seq
  (s.onConv n fun c => { c with seq := (q + 1) % M32, out := c.out ++ [{ seq := q, item := i, at_ := s.now }], sentAt := s.now }).meshSend n 1 q (.item i)
/-- Queue an item for a node's conversation: sent at once while fewer than eight frames are unacknowledged. -/
def sendItem (n : Nat) (i : Item) (s : State) : State :=
  let c := s.conv n
  if c.st ≠ 1 ∧ c.back.isNone then s
  else if 8 ≤ c.out.length ∨ c.queue ≠ [] then s.onConv n fun c => { c with queue := c.queue ++ [i] }
  else s.dataSend n i

/-! ## Spoil records (R132) -/

/-- Bytes of a spoil record. -/
def spoilBytes (r : Spoil) : Bytes :=
  let b := le 8 r.time ++ le 2 r.sess ++ le 1 r.src ++ le 1 r.code ++ le 4 r.seq ++ le 2 r.opcode ++ le 1 r.node ++ le 1 0 ++
    le 4 r.target ++ le 4 r.detail
  b ++ le 4 (crc32c b).toNat
/-- The next spoil record overwrites one that HOST_SPOIL_RD has not passed. -/
def spoilLoses (h : HostB) : Bool := decide (4096 ≤ h.spoils.length) && !later 32 h.spoilRd ((h.spoilHead + M32 - 4096) % M32)
/-- Leave a spoil record; the oldest is overwritten and counted when the host has not read past it. -/
def spoil (r : Spoil) (s : State) : State :=
  s.onHost fun h =>
    { h with
      spoils := (r :: h.spoils).take 4096
      spoilHead := (h.spoilHead + 1) % M32
      spoilLost := if spoilLoses h then sat32 h.spoilLost 1 else h.spoilLost }
/-- A refused direct access (R132, R133). It carries no NODE: its record gives this node (DESIGN CHOICE, log entry 181). -/
def spoilDirect (src : Src) (off code detail : Nat) (s : State) : State :=
  s.spoil { time := s.sysTime, src := src.code, code := code, target := off, node := s.node, detail := detail }
/-- A refused direct write to a register reserved for commands, or to a read-only window (R697, R703). -/
def denied (src : Src) (off : Nat) (s : State) : State := s.spoilDirect src off 0x14 off
end State
end Sys2Proof.Machine
end

