-- ==== Sys2Proof/Machine/Host.lean ====
section
/-! DEFINITION. The command processor: framing, session, sequence and combination checks, completions, journal entries of commands (R106 to R146, R673 to R678, R749, R750). -/
namespace Sys2Proof.Machine

/-! ## What a command is -/

/-- How an accepted command ends. -/
structure Answer where
  /-- 0 DONE, 1 STARTED, 2 SCHEDULED, 7 UNKNOWN -/
  status : Nat := 0
  /-- effect period; none: the present one -/
  per : Option Nat := none
  late : Bool := false
  /-- the session the completion and entry carry, where it is not the record's -/
  sess : Option Nat := none
  /-- awaited: OpenCmd.kind and .arg, and the nodes -/
  wait : Option (Nat × Nat) := none
  left : List Nat := []
  /-- DIGEST all zero (R560) -/
  secret : Bool := false
  deriving DecidableEq, Repr
/-- A refusal: spoil code, completion DETAIL, spoil DETAIL. -/
structure Refuse where
  code : Nat
  detail : Nat := 0
  spoil : Nat := 0
  deriving DecidableEq, Repr
/-- A block's refusal with its reason code (R133). -/
def Refuse.block (d : Nat) : Refuse := { code := 0x11, detail := d, spoil := d }
/-- DETAIL of a TARGET refusal for NODE or TARGET. -/
def noField : Nat := 0xFFFFFFFF

/-- A defined command: payload lengths (R749), the field at fault (step 3 of R750), the block's own conditions
(step 5), and the effect of an accepted record. -/
structure Cmd where
  opcode : Nat
  lens : Nat → Bool
  fields : RecHdr → Bytes → State → Option Nat
  block : RecHdr → Bytes → State → Option Refuse
  act : RecHdr → Bytes → State → State × Answer
  /-- what a refusal itself changes (R559); nothing for every other command -/
  deny : RecHdr → Refuse → State → State := fun _ _ s => s
  /-- what follows the completion (R656) -/
  post : RecHdr → Bytes → State → State := fun _ _ s => s

/-- No payload, TARGET 0. -/
def noPayload (n : Nat) : Bool := n == 0
/-- The first field of a list that holds a value it may not. -/
def firstBad (l : List (Bool × Nat)) : Option Nat := (l.find? (·.1)).map (·.2)
/-- TARGET 0 (R750). -/
def target0 (h : RecHdr) : Bool × Nat := (h.target != 0, noField)
/-- Zero bytes at an offset of the payload. -/
def zeros (p : Bytes) (o n : Nat) : Bool × Nat := (field p o n != 0, o)
/-- The first cause that holds, in the order given (R750). -/
def firstCause (l : List (Bool × Refuse)) : Option Refuse := (l.find? (·.1)).map (·.2)
/-- Causes with code BLOCK. -/
def blockCause (l : List (Bool × Nat)) : Option Refuse := (l.find? (·.1)).map fun x => Refuse.block x.2

namespace State

/-! ## Roles and the combination in force (R672 to R682) -/

/-- PAIR_STS.ROLE: 0 SOLO, 1 ACTIVE, 2 STANDBY. -/
def role (s : State) : Nat := if !s.cfg.topo.pair then 0 else if s.pair.st == 4 then 1 else 2
/-- The member counts as STANDBY (R672). -/
def standby (s : State) : Bool := s.role == 2
/-- Own position is the head of its mesh (R112). -/
def isHead (s : State) : Bool := s.node == 0
/-- Overlays in force (R681), bit 3 TRACE. -/
def overlays (s : State) : Nat := s.modeQ.ovl ||| (if s.bnc.trace.st == 1 || s.bnc.trace.st == 2 then 8 else 0)
def overlay (s : State) (i : Nat) : Bool := s.overlays.testBit i
/-- Seam of a cell. -/
def seamOf (c : Nat) : Nat := c / 8

/-- Allowed in HOST-WAIT (R676). -/
def imageAllows (op : Nat) : Bool :=
  op / 256 == 0 || op / 256 == 1 || op / 256 == 7 ||
  [0x0B00, 0x0A10, 0x0A11, 0x0A12, 0x0A13, 0x0801, 0x0406, 0x0407, 0x0408].contains op
/-- Refused in IDLE or DOZE (R677): the loop's bench lies in BENCHB, or the cell's seam sleeps. -/
def powerRefuses (s : State) (op target : Nat) (p : Bytes) : Bool :=
  let loopHi := [0x0401, 0x0402, 0x0403, 0x0404, 0x0405].contains op &&
    s.cfg.loops.any fun l => l.num == field p 0 1 && decide (8 ≤ l.bench)
  let cellSlept := s.pwr.st == 2 && decide (0x0A20 ≤ op ∧ op ≤ 0x0A24) && decide (target < 128) &&
    [2 * seamOf target, 2 * seamOf target + 1].any fun l => s.rxAsleep l || s.txAsleep l
  (s.pwr.st == 1 || s.pwr.st == 2) && (op == 0x0201 || op == 0x0202 || loopHi || cellSlept)
/-- Allowed to a STANDBY member (R678). -/
def standbyAllows (op target : Nat) (off : Nat) : Bool :=
  [0x0003, 0x0101, 0x0102, 0x0103, 0x0104, 0x0105, 0x010B, 0x010C, 0x0406, 0x0407, 0x0408].contains op ||
  op == 0x0B00 && target == 0 && decide (0x220000 ≤ off ∧ off < 0x240000)
/-- Refused by an overlay in force (R681, R682). -/
def overlayRefuses (s : State) (op : Nat) (p : Bytes) : Option Nat :=
  let m := field p 0 1
  if op = 0x0201 then
    if s.overlay 0 && m != 0 && s.mode.mode == 0 then some 0x04
    else if s.overlay 1 && [3, 4, 5, 6].contains m then some 0x04
    else if s.overlay 2 && m != 0 && m != 8 then some 0x04
    else none
  else if op = 0x0A10 && !s.overlay 0 && field p 1 1 != 0 then some 0x05
  else none
/-- OVL_SET by R680, R681, the coordinates in the order of R673. -/
def ovlRefuses (s : State) (p : Bytes) : Option Nat :=
  let set := field p 0 1; let clear := field p 1 1; let g := field p 2 1
  let good := match at' s.cfg.groups g none with
    | some gd => gd.owner == .host && gd.kind == .direct && [GroupRole.grid, .load, .mach, .brake].contains gd.role
    | none => false
  let after := (s.modeQ.ovl &&& (31 - clear % 32)) ||| set
  let m := s.mode.mode
  if (set ||| clear) &&& 0xE8 ≠ 0 ∨ set &&& clear ≠ 0 then some 0x0A
  else if set.testBit 2 && !good then some 0x0A
  else if set.testBit 4 && !s.cfg.modelBench then some 0x0A
  else if (set.testBit 1 || set.testBit 2 || set.testBit 4) && !s.inForce then some 0x09
  else if (set.testBit 1 || set.testBit 2 || set.testBit 4) && s.pwr.st != 0 then some 0x08
  else if (set.testBit 1 || set.testBit 2 || set.testBit 4) && s.role != 0 then some 0x07
  else if set.testBit 0 && m != 0 || set.testBit 1 && !([0, 1, 2, 8].contains m) || set.testBit 2 && m != 2 ||
      (set.testBit 4 || clear.testBit 4 && s.modeQ.ovl.testBit 4) && m != 0 then some 0x06
  else if after.testBit 2 && after.testBit 4 then some 0x04
  else none
/-- The combination in force against a command (R673): image, power, role, overlays. -/
def comb (s : State) (op target : Nat) (p : Bytes) : Option Refuse :=
  let r (d : Nat) : Refuse := { code := 0x10, detail := d, spoil := d }
  if op = 0x0204 then
    if s.standby then some (r 0x03) else (s.ovlRefuses p).map r
  else if !s.inForce && !imageAllows op then some (r 0x01)
  else if s.powerRefuses op target p then some (r 0x02)
  else if s.standby && !standbyAllows op target (field p 0 4) then some (r 0x03)
  else (s.overlayRefuses op p).map r

/-! ## Completions (R109) -/

/-- The 32 bytes of a completion. -/
def cplBytes (c : Cpl) (phase : Bool) : Bytes :=
  let b := le 2 c.sess ++ le 1 c.status ++ le 1 c.code ++ le 4 c.seq ++ le 2 c.opcode ++
    le 1 (bit phase + 2 * bit c.dup + 4 * bit c.late) ++ le 1 c.detail ++ le 4 c.exp ++
    le 8 (c.jidx.getD 0xFFFFFFFFFFFFFFFF) ++ le 4 c.period
  b ++ le 4 (crc32c b).toNat
/-- Context of a session ID. -/
def ctxOf (sess : Nat) : Nat := sess % 32
def ctx (s : State) (c : Nat) : Ctx := at' s.host.ctxs c {}
def onCtx (c : Nat) (f : Ctx → Ctx) (s : State) : State := s.onHost fun h => { h with ctxs := modAt h.ctxs c f }
/-- Mailbox of a source. -/
def mbxOf : Src → Option Nat
  | .mbx0 => some 0
  | .mbx1 => some 1
  | _ => none
def mbx (s : State) (m : Nat) : Mbx := at' s.host.mbx m {}
def onMbx (m : Nat) (f : Mbx → Mbx) (s : State) : State := s.onHost fun h => { h with mbx := modAt h.mbx m f }
/-- Write a completion where the record came from: the next slot of the completion ring of the context that its submission
ring belongs to (R114), or the mailbox (R117), with PHASE 0 there, for a mailbox has no pass (DESIGN CHOICE, log entry 182);
a record from the head has its result sent back (R134). -/
def deliver (h : RecHdr) (k : Cpl) (s : State) : State :=
  match mbxOf h.src with
  | some m =>
    let b := cplBytes k false
    (s.onMbx m fun x => { x with cpl := b, busy := false, done := true }).emit (.completion h.src 0 0 b)
  | none =>
    if h.src = .mesh then
      -- MODE_SET's answer says whether SYNTHETIC is in force, by its lowest bit (log entry 41)
      let d := if k.opcode = 0x0201 ∧ k.status ≠ 3 then bit (s.overlay 4) else k.detail
      s.sendItem 0 (.result k.sess k.seq { status := k.status, code := k.code, detail := d, period := k.period, late := k.late })
    else if h.src = .ring then
      let x := s.ctx h.ring
      let b := cplBytes k x.phase
      let t := if x.cqSize = 0 then 0 else (x.cqTail + 1) % x.cqSize
      ((s.onCtx h.ring fun x => { x with cqTail := t, phase := if t = 0 then !x.phase else x.phase }).emit
        (.completion .ring h.ring (x.cqBase + 32 * x.cqTail) b)).emit (.msix h.ring)
    else s
/-- Keep a consumed record's completion: the session keeps those of its last 256 numbers, in whatever order they were
answered (R130). -/
def cacheCpl (c : Nat) (crc : Word) (k : Cpl) (s : State) : State :=
  s.onCtx c fun x =>
    if x.st = 0 then x
    else { x with cache := ({ seq := k.seq, crc := crc, cpl := k } :: x.cache).filter fun y => decide (serialDiff 32 x.e y.seq ≤ 256) }

/-! ## Answers -/

/-- The completion of a rejection: CODE is given for REFUSED and NAK (R109). -/
def rejectCpl (h : RecHdr) (op : Nat) (status : Nat) (r : Refuse) (exp : Nat) : Cpl :=
  { sess := h.sess, status := status, code := if status = 4 then 0 else r.code, seq := h.seq, opcode := op, detail := r.detail, exp := exp }
/-- A rejection: completion and spoil record (R132). A record from the head leaves its spoil record there. -/
def reject (h : RecHdr) (op : Nat) (status : Nat) (r : Refuse) (exp : Nat) (cache : Option Word) (s : State) : State :=
  let k := rejectCpl h op status r exp
  if h.src = .mesh then s.deliver h { k with detail := r.spoil }
  else
  let s := s.spoil { time := s.sysTime, sess := h.sess, src := h.src.code, code := r.code, seq := h.seq, opcode := op,
                     node := h.node, target := h.target, detail := r.spoil }
  let s := match cache with | some crc => s.cacheCpl (ctxOf h.sess) crc k | none => s
  s.deliver h k
/-- An accepted record's place in the journal, result not known yet (R136). -/
def entryOf (h : RecHdr) (op : Nat) (p : Bytes) (s : State) : JEntry :=
  { time := s.sysTime, sess := h.sess, src := h.src.code, origin := if h.src = .mesh then 0 else s.node, seq := h.seq, opcode := op,
    target := h.target, tnode := if h.src = .mesh then s.node else h.node, digest := (sha256 p).take 16 }
/-- The effect period of an answer: where none is its own, the period the record was accepted in for STARTED, else the
present one (R137). -/
def effPeriod (o : OpenCmd) (a : Answer) (s : State) : Nat := a.per.getD (if a.status = 1 then o.accPer else s.per)
/-- The entry once the command's answer is known. -/
def settle (o : OpenCmd) (a : Answer) (s : State) (e : JEntry) : JEntry :=
  { e with sess := a.sess.getD e.sess, result := if a.status = 7 then 4 else a.status, effPeriod := effPeriod o a s,
           flags := bit a.late + s.pairedFlag + (if e.tnode = s.node then 0 else 4),
           digest := if a.secret then [] else e.digest }
/-- The CRC under which an awaited record's completion is kept. -/
def keepCrc (o : OpenCmd) : Option Word := if o.cached then some o.crc else none
/-- A copy of an awaited record, sent again meanwhile. -/
def isCopy (sess seq : Nat) (d : OpenCmd) : Bool := d.kind == 9 && d.h.sess == sess && d.h.seq == seq
/-- Copies of an awaited record get its completion too, marked DUP. -/
def answerCopies (sess : Nat) (k : Cpl) (s : State) : State :=
  let ds := s.host.opens.filter (isCopy sess k.seq)
  each ds (fun d s => s.deliver d.h { k with dup := true }) (s.onHost fun x => { x with opens := x.opens.filter fun d => !isCopy sess k.seq d })
/-- Write a completion, kept for its session first. -/
def release (k : Held) (s : State) : State :=
  let s := match k.crc with | some w => s.cacheCpl k.ctx w k.cpl | none => s
  (s.deliver k.h k.cpl).answerCopies k.h.sess k.cpl
/-- A held completion waits for nothing: its entry is written, and it waits for no acknowledgement. -/
def unheld (s : State) (k : Held) : Bool := !k.mir && decide (k.jidx < s.jnl.head)
/-- Held completions that wait for nothing any more are written, in order. -/
def heldFlush (s : State) : State :=
  each (s.host.held.filter s.unheld) release (s.onHost fun x => { x with held := x.held.filter fun k => !s.unheld k })
/-- Completions held for the STANDBY's acknowledgement wait for it no more (R621). -/
def heldOut (s : State) : State := (s.onHost fun x => { x with held := x.held.map fun k => { k with mir := false } }).heldFlush
/-- The completion of an accepted record whose answer is known: written once its entry is readable (R136) and, while
entries are mirrored, the STANDBY has acknowledged it (R142). -/
def finishCpl (k : Held) (s : State) : State :=
  if s.unheld k then (s.release k).heldFlush else (s.onHost fun x => { x with held := x.held ++ [k] }).heldFlush
/-- The answer of an accepted record is known: entry and completion. -/
def answer (o : OpenCmd) (a : Answer) (s : State) : State :=
  let c := ctxOf (a.sess.getD o.h.sess)
  let k : Cpl := { sess := a.sess.getD o.h.sess, status := a.status, seq := o.h.seq, opcode := o.opcode, late := a.late, exp := (s.ctx c).e,
                   jidx := some o.jidx, period := effPeriod o a s }
  (s.jKnow o.jidx (settle o a s)).finishCpl { h := o.h, ctx := c, jidx := o.jidx, crc := keepCrc o, cpl := k, mir := s.pair.mirror }
/-- An accepted command reaches its owning block: its effect; the completion follows at once, or when what it waits
for comes. -/
def perform (cmd : Cmd) (o : OpenCmd) (s : State) : State :=
  let (s, a) := cmd.act o.h o.pay s
  match a.wait with
  | none => cmd.post o.h o.pay (s.answer o a)
  | some (k, arg) => s.onHost fun x => { x with opens := x.opens ++ [{ o with kind := k, arg := arg, left := a.left }] }
/-- A record taken at this instant, with the index its entry takes. -/
def opened (h : RecHdr) (op : Nat) (p : Bytes) (crc : Option Word) (kind arg : Nat) (s : State) : OpenCmd :=
  { h := h, opcode := op, crc := crc.getD 0, jidx := s.jnl.next, acceptAt := s.now, accTime := s.sysTime, accPer := s.per,
    kind := kind, arg := arg, pay := p, cached := crc.isSome }
/-- Accept a command: its entry takes the next index, before the events its effect makes, in the order of taking (R118,
R136); one that is refused later gives it up. While commands are mirrored it first goes to the STANDBY and waits for the
acknowledgement; while commands are held it waits with them (R621). -/
def accept (cmd : Cmd) (h : RecHdr) (p : Bytes) (crc : Option Word) (s : State) : State :=
  let e := s.entryOf h cmd.opcode p
  let o := s.opened h cmd.opcode p crc 4 0
  -- RESUME is journalled with LAST_SEQ (R144)
  let s := s.jAdd (if cmd.opcode = 4 then { e with seq := field p 0 4 } else e) false
  if s.pair.mirror then
    let n := (s.pair.sent + 1) % M32
    let c : CmdFrame := { h := h, opcode := cmd.opcode, payload := p, mirrorNo := n, jidx := o.jidx, acceptTime := o.accTime }
    let s := s.onPair fun x => { x with sent := n, flight := x.flight ++ [(c, s.now)] }
    (s.onHost fun x => { x with opens := x.opens ++ [{ o with arg := n }] }).pairSend (.cmd c)
  else if s.pair.holding then s.onHost fun x => { x with opens := x.opens ++ [o] }
  else s.perform cmd o
/-- A record waits no longer. -/
def openDrop (o : OpenCmd) (s : State) : State := s.onHost fun x => { x with opens := x.opens.filter (· != o) }
/-- Commands that still wait for the STANDBY's acknowledgement when the member gives up authority are never applied: their
numbers are sent again (R632, log entry 204). -/
def dropFlight (s : State) : State :=
  each (s.host.opens.filter (·.kind == 4)) (fun o s => (s.openDrop o).jGone o.jidx) (s.onPair fun p => { p with flight := [], holding := false })
/-- A waited-for answer has come. -/
def answerOpen (o : OpenCmd) (a : Answer) (s : State) : State := (s.openDrop o).answer o a
/-- A waited-for record is refused after all; it is not journalled. -/
def refuseOpen (o : OpenCmd) (r : Refuse) (s : State) : State :=
  let s := (s.openDrop o).jGone o.jidx
  let e := (s.ctx (ctxOf o.h.sess)).e
  ((s.reject o.h o.opcode 3 r e (keepCrc o)).answerCopies o.h.sess (rejectCpl o.h o.opcode 3 r e)).heldFlush
/-- The outcome is not known (R135): RESULT UNKNOWN, a completion with STATUS UNKNOWN and a spoil record. -/
def openUnknown (o : OpenCmd) (code node : Nat) (s : State) : State :=
  let s := s.openDrop o
  let c := ctxOf o.h.sess
  let k : Cpl := { sess := o.h.sess, status := 7, code := code, seq := o.h.seq, opcode := o.opcode, exp := (s.ctx c).e,
                   jidx := some o.jidx, period := s.per }
  let s := s.jKnow o.jidx (settle o { status := 7 } s)
  let s := if o.h.src = .mesh then s else
    s.spoil { time := s.sysTime, sess := o.h.sess, src := o.h.src.code, code := code, seq := o.h.seq, opcode := o.opcode,
              node := o.h.node, target := o.h.target, detail := node }
  s.finishCpl { h := o.h, ctx := c, jidx := o.jidx, crc := keepCrc o, cpl := k, mir := s.pair.mirror }

/-! ## Sessions' part of the pipeline (R112, R119, R130) -/

/-- HOST_CTRL_SESS. -/
def ctrlSess (s : State) : Nat := match s.host.ctrl with | some c => (s.ctx c).sess | none => 0
/-- Lease expired or session parked (R125). -/
def isParked (s : State) (c : Nat) : Bool := (s.ctx c).st == 3 || (((s.ctx c).st == 1 || (s.ctx c).st == 2) && decide ((s.ctx c).leaseEnd ≤ s.now))
/-- Expiry in system time, low 32 bits. -/
def expiry (s : State) (c : Nat) : Nat := ((s.ctx c).leaseEnd + s.ofs) % M32
/-- The session checks (R749.5), in order: NOT_HEAD, WRONG_PATH, NO_SESSION, PARKED. -/
def sessionCheck (h : RecHdr) (op : Nat) (s : State) : Option Refuse :=
  let c := ctxOf h.sess
  let x := s.ctx c
  let mb := (mbxOf h.src).isSome
  if !s.isHead && (op == 1 || mb) then some { code := 0x0D, spoil := s.node }
  else if (op == 1 || op == 4) && !mb then some { code := 0x0C }
  else if op = 1 then none
  else if h.sess = 0 ∨ x.st = 0 ∨ x.sess ≠ h.sess then some { code := 0x03, spoil := x.st }
  else if op = 4 then none
  else if s.isParked c then some { code := 0x04, spoil := s.expiry c }
  else none
/-- The lease starts anew (R125). -/
def renew (c : Nat) (s : State) : State := s.onCtx c fun x => { x with leaseEnd := s.now + s.host.leaseMs * Config.ms }
/-- Journal EV_CONTROL when the holder shown in HOST_CTRL_SESS has changed (R123). -/
def evControl (before : Nat) (s : State) : State :=
  if s.ctrlSess = before then s else s.jEvent 0x00F7 s.ctrlSess 0 []
/-- The number of the first boundary at least D × 110 ns + 1 µs later (R127, R420, R421). -/
def boundaryAfter (s : State) : Nat :=
  let t := s.sysTime + s.diam * 1408 + Config.us
  (t + s.tick - 1) / s.tick % M32
/-- The host-loss check (R127): outside OFF, schedule the policy on every node. -/
def hostLossCheck (s : State) : State :=
  if s.mode.mode = 0 then s
  else
    let b := s.boundaryAfter
    (s.onModeQ fun q => { q with lossSched := q.lossSched ++ [b] }).sendSymbol 8 b
/-- Return a context to CLOSED (R111, R119); RING_ERR stays, by R150. -/
def closeCtx (c : Nat) (s : State) : State :=
  let s := s.onCtx c fun x => { x with st := 0, cache := [], consumed := 0, gen := if x.gen = 2047 then 1 else x.gen + 1 }
  s.onHost fun h => { h with ctrl := if h.ctrl = some c then none else h.ctrl }
/-- A completion known already, given again with DUP (R130). -/
def duplicate (h : RecHdr) (k : Cpl) (s : State) : State := s.deliver h { k with dup := true }
/-- Where a record is judged by its NODE: own, another of the mesh, or none (R750.3). -/
def nodeOk (h : RecHdr) (s : State) : Bool := decide (h.node < 64) && (h.src == .mesh || h.node == s.node || decide (h.node < s.cfg.mesh.nodes))

/-- Checks 1 to 5 of R750 on a consumed record, for this node: the refusal, or none. -/
def judge (cmd : Cmd) (h : RecHdr) (p : Bytes) (roleOk : Bool) (s : State) : Option Refuse :=
  if !roleOk then some { code := 0x0A, spoil := s.ctrlSess }
  else if !s.nodeOk h then some { code := 0x09, spoil := noField }
  else
    match cmd.fields h p s with
    | some o => some { code := 0x09, spoil := o }
    | none =>
      match s.comb cmd.opcode h.target p with
      | some r => some r
      | none => cmd.block h p s
/-- CONTROL is held by the record's session, or its class needs no role (R108). -/
def roleOk (h : RecHdr) (op : Nat) (s : State) : Bool := op / 256 == 0 || s.host.ctrl == some (ctxOf h.sess)

/-- The CRC of a record as the host sent it (R106). -/
def recBytes (h : RecHdr) (op : Nat) (p : Bytes) : Bytes :=
  let n := (p.length + 3) / 4 * 4
  le 2 (24 + n) ++ le 2 h.sess ++ le 4 h.seq ++ le 2 op ++ le 1 h.node ++ le 1 h.flags ++ le 4 h.target ++
    le 2 p.length ++ le 2 0 ++ padTo n p
def recCrc (h : RecHdr) (op : Nat) (p : Bytes) : Word := crc32c (recBytes h op p)

end State
end Sys2Proof.Machine
end

