-- ==== Sys2Proof/Machine/Conv.lean ====
section
/-! DEFINITION. Node conversations: sending items, acknowledgement, loss (R590, R591). -/
namespace Sys2Proof.Machine.State

/-- An acknowledged frame leaves; the next item takes its place. -/
def dataAcked (n seq : Nat) (s : State) : State :=
  match (s.conv n).out.find? (·.seq == seq) with
  | none => s
  | some f =>
    let s := s.onConv n fun c => { c with out := c.out.filter (·.seq != seq), rtt := (s.now - f.at_) * 5 / 64 }
    match (s.conv n).queue with
    | [] => s
    | i :: q => (s.onConv n fun c => { c with queue := q }).dataSend n i
/-- Items not known to have been delivered. -/
def undelivered (c : Conv) : List Item := c.out.map (·.item) ++ c.queue
/-- An item is the record a command waits for. -/
def carries (o : OpenCmd) : Item → Bool
  | .record h _ _ => h.sess == o.h.sess && h.seq == o.h.seq
  | _ => false
/-- What waits for a node ends: undelivered items with NODE_UNREACHABLE, delivered ones without result with REMOTE_LOST
(R591, R135); register reads answer all ones (R605). -/
def convEnds (n : Nat) (s : State) : State :=
  let c := s.conv n
  let items := undelivered c
  let s := s.onConv n fun c => { c with out := [], queue := [], asks := [] }
  let s := each (s.host.opens.filter fun o => [1, 2].contains o.kind && o.left.contains n) (fun o s =>
    if items.any (carries o) then s.refuseOpen o { code := 0x0E, spoil := n } else s.openUnknown o 0x0F n) s
  let s := each c.asks (fun a s =>
    if a.1 = 0 then (s.spoilDirect .directPcie a.2 0x0E n).emit (.read [0xFF, 0xFF, 0xFF, 0xFF])
    else match s.host.opens.find? fun o => o.kind == (if a.1 = 1 then 5 else 7) with
      | some o => s.refuseOpen o (.block (if a.1 = 1 then 1 else 2))
      | none => s) s
  each items (fun i s => match i with | .write off _ => s.spoilDirect .directPcie off 0x0E n | _ => s) s
/-- The conversation goes LOST: cause 0 unanswered, 1 silent (R591, R608). -/
def convLost (n cause : Nat) (s : State) : State :=
  let s := (s.convEnds n).onConv n fun c => { c with st := 2, lostAt := s.now, disc := none, exp := 0 }
  (s.onMesh fun m => { m with evt := setBit m.evt 0 }).event 0x0880 (le 1 n ++ le 1 cause)
/-- The conversation comes UP: SEQ restarts on both sides (R591). -/
def convRise (n : Nat) (s : State) : State :=
  let s := s.onConv n fun c => { c with st := 1, seq := 0, exp := 0, out := [], queue := [], asks := [], back := none, heardAt := s.now, sentAt := s.now }
  s.onMesh fun m => { m with evt := setBit m.evt 1, isolated := m.isolated && n != 0 }
/-- Every conversation DOWN: an image reload, a MESH soft reset (R591, R654). -/
def convsDown (s : State) : State :=
  let s := each ((List.range 64).filter fun n => (s.conv n).st != 0) convEnds s
  s.onMesh fun m => { m with convs := m.convs.map fun c => { disc := c.disc, retry := c.retry, epoch := c.epoch } }

/-! ## Registers of another node (R604, R605) -/

/-- Ask a node for a register through its conversation; kind: 0 for BAR0, 1 for a time load, 2 for a reset. -/
def ask (n off kind : Nat) (s : State) : State :=
  (s.onMesh fun m => { m with convs := modAt m.convs n fun c => { c with asks := c.asks ++ [(kind, off)] } }).sendItem n (.read off)
/-- BAR0 shows another node at an offset (R604). -/
def viewed (src : Src) (off : Nat) (s : State) : Bool :=
  src == .directPcie && s.mesh.viewEn && s.mesh.viewNode != s.node && !decide (0x010000 ≤ off ∧ off < 0x020000) &&
    !decide (0x1E0000 ≤ off ∧ off < 0x1E0100)
/-- A read of the node shown: its answer comes by the conversation, all ones at once when the node is not reached (R605). -/
def remoteRead (off n : Nat) (s : State) : State :=
  let d := s.mesh.viewNode
  if s.convUp d then (if n = 8 then (s.ask d off 0).ask d (off + 4) 0 else s.ask d off 0)
  else (s.spoilDirect .directPcie off 0x0E d).emit (.read (List.replicate n 0xFF))
/-- A write of the node shown, dropped when the node is not reached. -/
def remoteWrite (off : Nat) (v : Word) (s : State) : State :=
  let d := s.mesh.viewNode
  if s.convUp d then s.sendItem d (.write off v) else s.spoilDirect .directPcie off 0x0E d

end Sys2Proof.Machine.State
end

