-- ==== Sys2Proof/Machine/Pipeline.lean ====
section
/-! DEFINITION. Taking a record: from its source, through framing, session and sequence checks, to its command. -/
namespace Sys2Proof.Machine.State

/-- The record's session, where it names a context in use. -/
def expOf (h : RecHdr) (s : State) : Nat := let x := s.ctx (ctxOf h.sess); if x.sess = h.sess ∧ x.st ≠ 0 then x.e else 0
/-- A record that does not consume its number is answered NAK (R109, R131). -/
def nak (h : RecHdr) (op : Nat) (r : Refuse) (s : State) : State := s.reject h op 5 r (s.expOf h) none
/-- A consumed record's refusal, cached (R130). -/
def refuse (h : RecHdr) (op : Nat) (crc : Word) (r : Refuse) (s : State) : State := s.reject h op 3 r (s.expOf h) (some crc)

/-- A record for another node (R134): role and NODE judged here, the rest there; its entry has its place in the order from
now on. crc: none for a record that is not sequenced. -/
def forward (h : RecHdr) (op : Nat) (p : Bytes) (crc : Option Word) (s : State) : State :=
  let no (r : Refuse) : State := s.reject h op 3 r (s.expOf h) crc
  if !s.roleOk h op then no { code := 0x0A, spoil := s.ctrlSess }
  else if !s.nodeOk h then no { code := 0x09, spoil := noField }
  else if !s.convUp h.node then no { code := 0x0E, spoil := h.node }
  else
    let o := { s.opened h op p crc 1 h.node with left := [h.node] }
    ((s.jAdd (s.entryOf h op p) false).onHost fun x => { x with opens := x.opens ++ [o] }).sendItem h.node (.record h op p)
/-- A consumed record (R750). -/
def consumed (cmd : Option Cmd) (h : RecHdr) (op : Nat) (p : Bytes) (crc : Word) (s : State) : State :=
  let s := s.onCtx (ctxOf h.sess) fun x => { x with e := (x.e + 1) % M32, consumed := x.consumed + 1 }
  match cmd with
  | none => s.refuse h op crc { code := 0x08 }
  | some cmd =>
    -- a mesh mode change is every node's (R420)
    if h.node ≠ s.node ∧ ¬(op = 0x0201 ∧ field p 1 1 = 1) then s.forward h op p (some crc)
    else
      match s.judge cmd h p (s.roleOk h op) with
      | some r => (cmd.deny h r s).refuse h op crc r
      | none => s.accept cmd h p (some crc)
/-- A record whose number was consumed by one that still awaits its completion: a copy of that waits with it, another
conflicts (R130). -/
def again (h : RecHdr) (op : Nat) (crc was : Word) (e : Nat) (s : State) : State :=
  if was = crc then s.onHost fun y => { y with opens := y.opens ++ [{ s.opened h op [] (some crc) 9 0 with jidx := 0 }] }
  else s.reject h op 5 { code := 0x07, spoil := was.toNat } e none
/-- R130: consumed, duplicate, conflict, gap or stale. -/
def sequence (cmd : Option Cmd) (h : RecHdr) (op : Nat) (p : Bytes) (crc : Word) (s : State) : State :=
  let x := s.ctx (ctxOf h.sess)
  let d := serialDiff 32 h.seq x.e
  let b := serialDiff 32 x.e h.seq
  if d = 0 then s.consumed cmd h op p crc
  else if 1 ≤ b ∧ b ≤ min 256 x.consumed then
    match x.cache.find? (·.seq == h.seq) with
    | some k =>
      if k.crc = crc then s.duplicate h k.cpl
      else s.reject h op 5 { code := 0x07, spoil := k.crc.toNat } x.e none
    | none =>
      -- its completion is still awaited: this copy is answered with it
      match s.host.opens.find? fun o => o.h.sess == h.sess && o.h.seq == h.seq && o.kind != 9 with
      | some o => s.again h op crc o.crc x.e
      | none =>
        -- or known, and held until its entry is written or acknowledged
        match s.host.held.find? fun k => k.h.sess == h.sess && k.h.seq == h.seq with
        | some k => s.again h op crc (k.crc.getD 0) x.e
        | none => s.reject h op 5 { code := 0x06, spoil := x.e } x.e none
  else if d ≤ 2 ^ 31 - 1 then s.reject h op 4 { code := 0x05, spoil := x.e } x.e none
  else s.reject h op 5 { code := 0x06, spoil := x.e } x.e none
/-- SESSION_OPEN and RESUME, not sequenced (R146). -/
def unsequenced (cmd : Cmd) (h : RecHdr) (p : Bytes) (s : State) : State :=
  if h.node ≠ s.node then s.forward h cmd.opcode p none
  else
    match s.judge cmd h p true with
    | some r => s.reject h cmd.opcode 3 r (s.expOf h) none
    | none => s.accept cmd h p none
/-- A record whose framing is good: session checks, lease, then by kind of command. -/
def framed (cmd : Option Cmd) (h : RecHdr) (op : Nat) (p : Bytes) (crc : Word) (s : State) : State :=
  match s.sessionCheck h op with
  | some r => s.nak h op r
  | none =>
    let c := ctxOf h.sess
    if op = 1 then match cmd with | some k => s.unsequenced k h p | none => s
    else
      -- a parked session's lease starts again only where RESUME is accepted
      let s := if op = 4 ∧ s.isParked c then s else s.renew c
      if op = 3 then s.deliver h { sess := h.sess, status := 6, seq := h.seq, opcode := op, exp := (s.ctx c).e }
      else if op = 4 then match cmd with | some k => s.unsequenced k h p | none => s
      else s.sequence cmd h op p crc
/-- Steps 3 to 5 of R749 and what follows. -/
def process (cmd : Option Cmd) (h : RecHdr) (op : Nat) (p : Bytes) (crc : Word) (s : State) : State :=
  let len := 24 + (p.length + 3) / 4 * 4
  if 232 < p.length || (match cmd with | some k => !k.lens p.length | none => false) then
    s.nak h op { code := 0x02, spoil := len % 65536 + 65536 * (p.length % 65536) }
  else s.framed cmd h op p crc

/-! ## Sources (R114, R115, R117, R118) -/

/-- The completion ring has no free slot (R115): one slot stays unused, for a ring with CQ_TAIL at CQ_HEAD is empty
(DESIGN CHOICE, log entry 184). -/
def cqFull (x : Ctx) : Bool := x.cqSize != 0 && (x.cqTail + 1) % x.cqSize == x.cqHead
/-- A record can be taken from a context's submission ring. -/
def ringReady (x : Ctx) : Bool := x.st == 2 && x.sqSize != 0 && x.sqHead != x.sqTail && !x.ringErr
/-- A mailbox holds a record not taken yet: its doorbell has rung and no record of it awaits its completion. -/
def mbxReady (s : State) (m : Nat) : Bool :=
  (s.mbx m).busy && !(s.host.opens.any fun o => mbxOf o.h.src == some m) && !(s.host.held.any fun k => mbxOf k.h.src == some m)
/-- A source has a record that can be taken: 0 to 31 contexts, 32 and 33 mailboxes. -/
def srcReady (s : State) (i : Nat) : Bool := if i < 32 then ringReady (s.ctx i) && !cqFull (s.ctx i) else s.mbxReady (i - 32)
/-- The source whose turn it is: the first that is ready from the next to be looked at (R118). -/
def nextSource (s : State) : Option Nat := ((List.range 34).map fun i => (s.host.turn + i) % 34).find? s.srcReady
/-- The turn passes on. -/
def turned (i : Nat) (s : State) : State := s.onHost fun h => { h with turn := (i + 1) % 34 }
/-- The command processor takes records: its domain is on and no warm reset runs (R32, R658). -/
def hostTakes (s : State) : Bool := s.pwr.dom.testBit 2 && !s.pwr.warm
/-- Take the record of a context's submission ring, when it is its turn. -/
def takeRing (c : Nat) (k : State → State) (s : State) : State :=
  if s.nextSource = some c then k ((s.onCtx c fun x => { x with sqHead := (x.sqHead + 1) % x.sqSize }).turned c) else s
/-- Take the record of a mailbox, when it is its turn. -/
def takeMbx (m : Nat) (k : State → State) (s : State) : State := if s.nextSource = some (32 + m) then k (s.turned (32 + m)) else s
/-- A record is put into a mailbox and its doorbell rung. -/
def rung (m : Nat) (raw : Bytes) (s : State) : State :=
  s.onMbx m fun x => { x with busy := true, done := false, rcd := padTo 256 (raw.take 256) }
/-- Take a record from a source and go on with it: the ring's that stands at SQ_HEAD; a mailbox's that is put there now, its
doorbell rung. It is taken in turn (R118): what is not its turn stays where it is, for RECORD_FETCH to take. -/
def takeFrom (src : Src) (c : Nat) (raw : Bytes) (k : State → State) (s : State) : State :=
  if !s.hostTakes then s
  else match src with
  | .ring => if c < 32 then s.takeRing c k else s
  | .mbx0 | .mbx1 =>
    let m := if src = .mbx0 then 0 else 1
    if (s.mbx m).busy then s.onMbx m fun x => { x with dbLost := true } else (s.rung m raw).takeMbx m k
  | _ => s
/-- A host command's row: the record taken from its source at an instant. -/
def hostRow (cmd : Cmd) (t : Nat) (h : RecHdr) (p : Bytes) (s : State) : State :=
  s.run t fun s =>
    let b := recBytes h cmd.opcode p
    s.takeFrom h.src h.ring (b ++ le 4 (crc32c b).toNat) (process (some cmd) h cmd.opcode p (crc32c b))

/-! ## A record as bytes (R106, R749) -/

/-- Framing checks 1 and 2, then the record's parts. FLAGS bits 7:1, bytes 0x12 and 0x13 and the padding, which R106 says are
zero, are not checked: no refusal is stated for another value (DESIGN CHOICE, log entry 183). -/
def rawRecord (look : Nat → Option Cmd) (src : Src) (ring : Nat) (b : Bytes) (s : State) : State :=
  let len := field b 0 2
  let op := field b 8 2
  let plen := field b 16 2
  let h : RecHdr := { src := src, ring := ring, sess := field b 2 2, seq := field b 4 4, node := field b 10 1, flags := field b 11 1,
                      target := field b 12 4 }
  let lenErr : Refuse := { code := 0x02, spoil := len + 65536 * plen }
  if len < 24 ∨ 256 < len then s.nak h op lenErr
  else
    let crc := fieldW b (len - 4)
    if crc ≠ crc32c (slice b 0 (len - 4)) then s.nak h op { code := 0x01, spoil := crc.toNat }
    else if 232 < plen ∨ len ≠ 24 + (plen + 3) / 4 * 4 then s.nak h op lenErr
    else s.process (look op) h op (slice b 20 plen) crc
/-- Take the next record in turn (R118); a ring's record is the bytes the host memory holds at SQ_HEAD. -/
def fetch (look : Nat → Option Cmd) (bytes : Bytes) (s : State) : State :=
  if !s.hostTakes then s
  else match s.nextSource with
  | none => s
  | some i =>
    if i < 32 then s.takeRing i (rawRecord look .ring i bytes)
    else s.takeMbx (i - 32) (rawRecord look (if i = 32 then .mbx0 else .mbx1) 0 (s.mbx (i - 32)).rcd)

/-! ## Mailbox and ring registers' own commands -/

/-- Doorbell (R117, R719). -/
def doorbell (m : Nat) (s : State) : State :=
  s.onMbx m fun x => if x.busy then { x with dbLost := true } else { x with busy := true, done := false }
end Sys2Proof.Machine.State
end

