-- ==== Sys2Proof/Machine/Session.lean ====
section
/-! DEFINITION. Sessions, rings, leases and the journal's own commands and events (R111 to R146). -/
namespace Sys2Proof.Machine
open State

/-- What a session's end takes with it besides the context: the safety section it had unlocked (R558). -/
def State.relockSession (sess : Nat) (s : State) : State :=
  if s.safe.unlocked && s.safe.unlockSess == sess then s.relock 7 sess else s

/-- CONTROL for a context, or none. -/
def State.setCtrl (c : Option Nat) (s : State) : State := s.onHost fun h => { h with ctrl := c }

/-- SESSION_OPEN (R122, R119). As in every session command, a TARGET other than 0 is refused with TARGET, though the table
of R146 gives none (DESIGN CHOICE, log entry 185). -/
def cmdSessionOpen : Cmd where
  opcode := 0x0001
  lens := (· == 4)
  fields := fun h p _ => firstBad [target0 h, (decide (31 < field p 0 1), 0), (decide (1 < field p 1 1), 1), zeros p 2 2]
  block := fun _ p s => firstCause
    [((s.ctx (field p 0 1)).st != 0, { code := 0x0B }),
     (field p 1 1 == 1 && s.host.ctrl.isSome, { code := 0x0A, spoil := s.ctrlSess })]
  act := fun h p s =>
    let c := field p 0 1
    let before := s.ctrlSess
    let id := 32 * (s.ctx c).gen + c
    let s := (s.onCtx c fun x =>
      { x with sess := id, st := 1, e := (h.seq + 1) % M32, consumed := 0, cache := [] }).renew c
    let s := if field p 1 1 = 1 then s.setCtrl (some c) else s
    (s.evControl before, { sess := some id })
/-- SESSION_CLOSE (R119). -/
def cmdSessionClose : Cmd where
  opcode := 0x0002
  lens := noPayload
  fields := fun h _ _ => firstBad [target0 h]
  block := fun _ _ _ => none
  act := fun h _ s =>
    let c := ctxOf h.sess
    let before := s.ctrlSess
    let held := s.host.ctrl == some c
    let s := (s.closeCtx c).relockSession h.sess
    let s := s.evControl before
    (if held then s.hostLossCheck else s, {})
/-- KEEPALIVE is answered by the command processor itself (R126). -/
def cmdKeepalive : Cmd where
  opcode := 0x0003
  lens := noPayload
  fields := fun _ _ _ => none
  block := fun _ _ _ => none
  act := fun _ _ s => (s, {})
/-- RESUME (R144, R119): state BINDING, ring pointers 0, sequence state kept. -/
def cmdResume : Cmd where
  opcode := 0x0004
  lens := (· == 4)
  fields := fun h _ _ => firstBad [target0 h]
  block := fun _ _ _ => none
  act := fun h _ s =>
    let c := ctxOf h.sess
    ((s.onCtx c fun x =>
      { x with st := 1, sqHead := 0, sqTail := 0, cqHead := 0, cqTail := 0, phase := true, ringErr := false }).renew c, {})
/-- TAKE_CONTROL (R123). -/
def cmdTakeControl : Cmd where
  opcode := 0x0005
  lens := noPayload
  fields := fun h _ _ => firstBad [target0 h]
  block := fun h _ s =>
    match s.host.ctrl with
    | none => none
    | some c => if (s.ctx c).st == 3 || h.flags.testBit 0 then none else some { code := 0x0A, spoil := s.ctrlSess }
  act := fun h _ s => ((s.setCtrl (some (ctxOf h.sess))).evControl s.ctrlSess, {})
/-- RELEASE_CONTROL (R123). -/
def cmdReleaseControl : Cmd where
  opcode := 0x0006
  lens := noPayload
  fields := fun h _ _ => firstBad [target0 h]
  block := fun h _ s => if s.host.ctrl = some (ctxOf h.sess) then none else some { code := 0x0A, spoil := s.ctrlSess }
  act := fun _ _ s => (((s.setCtrl none).evControl s.ctrlSess).hostLossCheck, {})

/-- SESSION_OPEN. -/
def execSessionOpen (t : Nat) (h : RecHdr) (ctx role : Nat) (s : State) : Host.Outcome State Fault Refusal :=
  .next (hostRow cmdSessionOpen t h (le 1 ctx ++ le 1 role ++ le 2 0) s)
/-- SESSION_CLOSE. -/
def execSessionClose (t : Nat) (h : RecHdr) (s : State) : Host.Outcome State Fault Refusal :=
  .next (hostRow cmdSessionClose t h [] s)
/-- KEEPALIVE (R126). -/
def execKeepalive (t : Nat) (h : RecHdr) (s : State) : Host.Outcome State Fault Refusal :=
  .next (hostRow cmdKeepalive t h [] s)
/-- RESUME. -/
def execResume (t : Nat) (h : RecHdr) (lastSeq : Nat) (s : State) : Host.Outcome State Fault Refusal :=
  .next (hostRow cmdResume t h (le 4 lastSeq) s)
/-- TAKE_CONTROL. -/
def execTakeControl (t : Nat) (h : RecHdr) (s : State) : Host.Outcome State Fault Refusal :=
  .next (hostRow cmdTakeControl t h [] s)
/-- RELEASE_CONTROL. -/
def execReleaseControl (t : Nat) (h : RecHdr) (s : State) : Host.Outcome State Fault Refusal :=
  .next (hostRow cmdReleaseControl t h [] s)

/-! ## Ring registers -/

/-- A ring size is 0 or a power of two from 16 to 4,096 (R121). -/
def ringSize (n : Nat) : Bool := decide (16 ≤ n ∧ n ≤ 4096) && 2 ^ n.log2 == n
/-- The ring registers of a context are valid (R121). -/
def ringValid (x : Ctx) : Bool :=
  if x.sqSize = 0 ∧ x.cqSize = 0 then x.sqTail == 0 && x.cqHead == 0
  else
    ringSize x.sqSize && ringSize x.cqSize && x.sqBase != 0 && x.sqBase % 256 == 0 && x.cqBase != 0 && x.cqBase % 32 == 0 &&
    decide (x.sqBase + 256 * x.sqSize ≤ 2 ^ 64) && decide (x.cqBase + 32 * x.cqSize ≤ 2 ^ 64) &&
    decide (x.sqTail < x.sqSize) && decide (x.cqHead < x.cqSize)
/-- Judge the ring registers at START (R751, R119). -/
def State.start (c : Nat) (s : State) : State :=
  s.onCtx c fun x =>
    if x.st ≠ 1 then x
    else if ringValid x then { x with st := 2, sqHead := 0, cqTail := 0, phase := true, ringErr := false }
    else { x with ringErr := true }
/-- A failed ring access (R116): a record fetched, or a completion written in whatever state the session is by then. -/
def State.ringFail (c : Nat) (s : State) : State := s.onCtx c fun x => { x with ringErr := true }
/-- HOST_SQ_TAIL written (R121). -/
def State.sqTailWrite (c v : Nat) (s : State) : State :=
  let x := s.ctx c
  if x.st = 2 ∧ (x.sqSize = 0 ∧ v ≠ 0 ∨ x.sqSize ≠ 0 ∧ x.sqSize ≤ v) then s.ringFail c
  else s.onCtx c fun x => { x with sqTail := v % M32 }
/-- HOST_CQ_HEAD written (R115, R121). -/
def State.cqHeadWrite (c v : Nat) (s : State) : State :=
  let x := s.ctx c
  if x.st = 2 ∧ (x.cqSize = 0 ∧ v ≠ 0 ∨ x.cqSize ≠ 0 ∧ x.cqSize ≤ v) then s.ringFail c
  else s.onCtx c fun x => { x with cqHead := v % M32 }
/-- A direct write is refused while a warm reset runs or by a domain that is off (R658, R698). -/
def State.writable (src : Src) (dom off : Nat) (k : State → State) (s : State) : State :=
  if s.pwr.warm then s.spoilDirect src off 0x11 5
  else if !s.pwr.dom.testBit (dom - 1) then s.spoilDirect src off 0x09 off
  else k s

/-- A read: from the node BAR0 shows; all ones with a spoil record during a warm reset, 0 from a domain that is off (R604, R658, R698). -/
def State.readable (src : Src) (dom off n : Nat) (k : State → State) (s : State) : State :=
  if s.viewed src off then s.remoteRead off n
  else if s.pwr.warm then (s.spoilDirect src off 0x11 5).emit (.read (List.replicate n 0xFF))
  else if !s.pwr.dom.testBit (dom - 1) then s.emit (.read (List.replicate n 0))
  else k s

/-- Offset of a register of a context's group. -/
def ctxOff (c o : Nat) : Nat := 0x011000 + 0x40 * c + o
/-- A write of START (R751). -/
def execHostSessCtlStart (t : Nat) (ifc : Iface) (ctx : Nat) (s : State) : Host.Outcome State Fault Refusal :=
  .next (s.run t (State.writable ifc.src 3 (ctxOff ctx 0x2C) (State.start ctx)))
/-- A write of the submission tail. -/
def execHostSqTailWrite (t : Nat) (ifc : Iface) (ctx v : Nat) (s : State) : Host.Outcome State Fault Refusal :=
  .next (s.run t (State.writable ifc.src 3 (ctxOff ctx 0x0C) (State.sqTailWrite ctx v)))
/-- A write of the completion head. -/
def execHostCqHeadWrite (t : Nat) (ifc : Iface) (ctx v : Nat) (s : State) : Host.Outcome State Fault Refusal :=
  .next (s.run t (State.writable ifc.src 3 (ctxOff ctx 0x20) (State.cqHeadWrite ctx v)))
/-- A doorbell write (R117). Mailbox 0 is written through PCI Express, mailbox 1 through the service SPI. -/
def execHostMbxDoorbell (t : Nat) (m : Nat) (s : State) : Host.Outcome State Fault Refusal :=
  .next (s.run t (State.writable (if m = 0 then .directPcie else .directSpi) 3 (0x010200 + 0x200 * m + 0x120) (State.doorbell m)))
/-- A failed ring read or completion write (R116). -/
def execRingAccessFailure (t : Nat) (ctx : Nat) (s : State) : Host.Outcome State Fault Refusal :=
  .next (s.run t (State.ringFail ctx))

/-! ## Leases (R119, R125) -/

/-- Park a session: EV_PARK, safety relocked, PARK_KEEP starts, host-loss check for the holder. -/
def State.park (c : Nat) (s : State) : State :=
  let x := s.ctx c
  let s := (s.onCtx c fun x => { x with st := 3, parkEnd := s.now + s.host.parkKeep * Config.sec }).relockSession x.sess
  let s := s.jEvent 0x00F1 x.sess x.e []
  if s.host.ctrl = some c then s.hostLossCheck else s
/-- LEASE_EXPIRY. -/
def execLeaseExpiry (t : Nat) (ctx : Nat) (s : State) : Host.Outcome State Fault Refusal :=
  .next (s.runIf t (fun s => ((s.ctx ctx).st == 1 || (s.ctx ctx).st == 2) && decide ((s.ctx ctx).leaseEnd ≤ s.now)) (State.park ctx))
/-- The end of PARK_KEEP: the context closes, EV_CLOSE, and EV_CONTROL where it held the role. -/
def State.parkClose (c : Nat) (s : State) : State :=
  let x := s.ctx c
  let before := s.ctrlSess
  ((s.closeCtx c).jEvent 0x00F2 x.sess x.e []).evControl before
/-- PARK_KEEP_EXPIRY. -/
def execParkKeepExpiry (t : Nat) (ctx : Nat) (s : State) : Host.Outcome State Fault Refusal :=
  .next (s.runIf t (fun s => (s.ctx ctx).st == 3 && decide ((s.ctx ctx).parkEnd ≤ s.now)) (State.parkClose ctx))

/-! ## The journal's own (R140, R143) -/

/-- Oldest index held. -/
def State.jTail (s : State) : Nat := s.jnl.head - min s.jnl.head 8192
/-- Copy entries to the host buffer while there is room, n at most; entries that left the ring are skipped and counted. -/
def State.spill : (n : Nat) → State → State
  | 0, s => s
  | n + 1, s =>
    let j := s.jnl
    -- the index JNL_SPILL_DEV stands for: the one with those low bits at most 2^32 behind JNL_HEAD
    let i := j.head - serialDiff 32 j.head j.spillDev
    let tail := s.jTail
    if i < tail then
      (s.onJnl fun j => { j with spillDev := tail % M32, spillLost := sat32 j.spillLost (tail - i), gap := true }).spill n
    else if i = j.head ∨ 2 ^ j.spillLog ≤ serialDiff 32 j.spillDev j.spillHost then s
    else
      match j.ring.find? (·.index == i) with
      | none => s
      | some e =>
        ((s.onJnl fun j => { j with spillDev := (j.spillDev + 1) % M32 }).emit
          (.spill ((j.spillBase + 64 * (i % 2 ^ j.spillLog)) % 2 ^ 64)
            (if e.damaged then List.replicate 64 0xFF else jBytes e ++ le 4 e.chain.toNat))).spill n
/-- JOURNAL_SPILL. -/
def execJournalSpill (t : Nat) (s : State) : Host.Outcome State Fault Refusal :=
  .next (s.runIf t (fun s => s.jnl.spillEn) fun s => s.spill 8194)
/-- A read of the low word of JNL_HEAD or JNL_TAIL; a 64-bit read needs and sets no latch (R140, R695). -/
def State.jnlLo (tail wide : Bool) (s : State) : State :=
  let v := if tail then s.jTail else s.jnl.head
  if wide then s.emit (.read (le 8 v))
  else
    (s.onJnl fun j => if tail then { j with tailHi := some (v / M32) } else { j with headHi := some (v / M32) }).emit (.read (le 4 v))
/-- JNL_LO_READ. -/
def execJnlLoRead (t : Nat) (ifc : Iface) (tail wide : Bool) (s : State) : Host.Outcome State Fault Refusal :=
  .next (s.run t (State.readable ifc.src 3 (if tail then 0x020008 else 0x020000) (if wide then 8 else 4) (State.jnlLo tail wide)))

end Sys2Proof.Machine
end

