-- ==== Sys2Proof/Machine/Wire.lean ====
section
/-! DEFINITION. What a lane or a peer port sends and takes in: the seam paths a member originates, frames from cells, mesh frames taken, passed on or discarded (R199, R207, R208, R221, R237, R579 to R581, R586, R588, R615). -/
namespace Sys2Proof.Machine.State

/-! ## Lanes -/

/-- The receiver's input is the quad's own output: TEST 1 or 2, or PRBS31 over such a loop (R221). -/
def nearEnd (x : LaneS) : Bool := x.test == 1 || x.test == 2 || (x.test == 4 && (x.loop == 1 || x.loop == 2))
/-- A transmitter carries this node's own blocks: ON, not retrained, neither answering a far-end loop nor sending PRBS31 (R207, R221, R228). -/
def laneSends (s : State) (l : Nat) : Bool :=
  let x := s.ln l
  x.tx == 3 && !x.txRetrain && !x.farHeld && x.test != 4
/-- A receiver has block lock on what its partner sends: BLOCK or UP, not under a near-end loop (R208, R221). -/
def laneHears (s : State) (l : Nat) : Bool := let x := s.ln l; (x.rx == 4 || x.rx == 5) && !nearEnd x
/-- It takes frames: not while MISWIRED is set. -/
def laneTakes (s : State) (l : Nat) : Bool := s.laneHears l && !(s.ln l).miswired
/-- This node originates a path: member 0 of a pair path A, member 1 path B, a single node both (R199, R615). -/
def ownsPath (s : State) (a : Bool) : Bool := !s.cfg.topo.pair || s.pair.member != a
/-- The transmitters of the paths of a seam that this member originates and that carry its blocks now (R198, R199). -/
def seamTx (s : State) (q : Nat) : List Nat :=
  [(2 * q, true), (2 * q + 1, false)].filterMap fun p => if s.ownsPath p.2 && s.laneSends p.1 then some p.1 else none
/-- Blocks leave on them, in the same block slots. -/
def seamSend (q : Nat) (bs : List (Bool × Bytes)) (s : State) : State := s.emits ((s.seamTx q).map fun l => .lane l bs)
/-- A frame on a path failed its CRC or its framing (R237). -/
def pathErr (l : Nat) (s : State) : State :=
  s.onSeam fun b => { b with seams := modAt b.seams (l / 2) fun x =>
    if l % 2 = 1 then { x with errA := sat16 x.errA 1 } else { x with errB := sat16 x.errB 1 } }
/-- Frames from the side of a seam lane are ignored: a cell without a neighbour there was cut (R266). -/
def seamDeaf (s : State) (l : Nat) : Bool := let y := at' s.seam.seams (l / 2) {}; if l % 2 = 1 then y.deafD else y.deafU
/-- Frames of one TYPE for this seam that a stretch of one of its lanes brings; those that fail are counted, those of other TYPEs
come with their own commands (R237, R239, R240). -/
def seamIn (x : LaneRx) (typ : Nat) (act : FrameHdr → Bytes → State → State) (s : State) : State :=
  if 32 ≤ x.lane ∨ !s.laneTakes x.lane ∨ s.seamDeaf x.lane then s
  else
    each (cellFrames x) (fun f s => match f with
      | none => s.pathErr x.lane
      | some b =>
        let h := cellHdr (1 - x.lane % 2) b
        if cellType b = typ ∧ h.cell / 8 = x.lane / 2 then act h (cellPay b) s else s) s

/-! ## Peer ports -/

/-- A port takes in what its lanes bring: it is up, neither lane under a near-end loop nor MISWIRED (R208, R576). -/
def portTakes (s : State) (p : Nat) : Bool :=
  decide (p < 4) && s.portUp p && s.laneTakes (32 + 2 * p) && s.laneTakes (33 + 2 * p)
/-- A frame whose CRC fails (R581, R638). -/
def crcErr (p typ : Nat) (s : State) : State :=
  let s := s.onMesh fun m => { m with ports := modAt m.ports p fun x => { x with crc := sat32 x.crc 1 } }
  if typ = 6 then s.onPair fun x => { x with linkErr := sat32 x.linkErr 1 } else s
/-- A frame goes on with another header; a CRC that failed still fails (DEDUCED, log entry 194). -/
def relay (p : Nat) (h h' : MHdr) (pay : Bytes) (crc : Nat) : State → State :=
  portPut p { hdr := h', body := .relay pay (crc ^^^ meshCrc h pay ^^^ meshCrc h' pay) }
/-- The frame is for this node: under PATH with no hop left, else by DST; 0xFF names the neighbour (R580, R586, R588). -/
def isForMe (s : State) (h : MHdr) : Bool := if h.path then h.hops == 0 else h.dst == 0xFF || h.dst == s.nodeId
/-- The node that sent a frame. One without an ID whose frame came by PATH is known by the route bound to it, which its answer
retraces (R586, R589). -/
def senderOf (s : State) (p : Nat) (h : MHdr) : Nat :=
  if h.path ∧ h.src = 0xFF then
    ((List.range 64).find? fun n => let c := s.conv n; c.bound && reversed p h.word % 4 ^ c.hops == c.path % 4 ^ c.hops).getD 0xFF
  else h.src
/-- A frame is taken by the node it is for; the route of one that came by PATH is kept for the answer (R586). -/
def frameTake (p : Nat) (take : MHdr → Bytes → State → State) (h : MHdr) (pay : Bytes) (s : State) : State :=
  let n := s.senderOf p h
  take { h with src := n } pay (if h.path ∧ n < 64 ∧ !(s.conv n).bound then s.onConv n fun c => { c with back := some (reversed p h.word) } else s)
/-- What a node does with a frame of one TYPE that is whole at a port: pass it on, and take it where it is for this node and its
CRC holds. bcast: a frame sent by broadcast, which is taken and then passed on; across P0 of a pair with MIRROR set (R579). -/
def frameIn (p : Nat) (bcast : Bool) (take : MHdr → Bytes → State → State) (f : MHdr × Bytes × Nat) (s : State) : State :=
  let h := f.1; let pay := f.2.1; let crc := f.2.2
  let good := crc == meshCrc h pay
  let s := if good then s else s.crcErr p h.typ
  let to0 (o : Nat) : MHdr := if s.cfg.topo.pair && o == 0 then { h with mirror := true } else h
  if bcast then
    let s := if good then frameTake p take h pay s else s
    each ((s.bcastPorts h.src).filter (· != p)) (fun o => relay o h (to0 o) pay crc) s
  else if s.isForMe h then
    let s := if s.cfg.topo.pair && p != 0 && !h.mirror && h.dst != 0xFF then relay 0 h (to0 0) pay crc s else s
    if good then frameTake p take h pay s else s
  else if h.path then let o := pathOn p h; relay o.1 h o.2 pay crc s
  else if s.ownDesc.isSome then relay (s.routePort h.dst) h h pay crc s
  else s
/-- The frames of one TYPE that a stretch of a port brings; those of other TYPEs come with their own commands, reserved ones are
discarded. -/
def meshIn (x : PortRx) (typ : Nat) (take : MHdr → Bytes → State → State) (s : State) : State :=
  if !s.portTakes x.port then s else each ((meshFrames x).filter fun f => f.1.typ == typ) (frameIn x.port (typ == 8) take) s
/-- A PAIR frame from the partner, on P0 (R618). -/
def pairIn (x : PortRx) (act : State → State) (s : State) : State := if x.port = 0 then s.meshIn x 6 (fun _ _ => act) else s

end Sys2Proof.Machine.State
end

