-- ==== Sys2Proof/Machine/Trips.lean ====
section
/-! DEFINITION. Which groups the mode enables, CTRL operations to cells, trip sources, their scope, latching and release (R281, R413, R249, R312 to R315, R519 to R525). -/
namespace Sys2Proof.Machine.State

/-! ## Groups (R413, R281) -/

/-- Mode codes (R411). -/
def mOFF : Nat := 0
def mPRE : Nat := 1
def mHOLD : Nat := 2
def mGFL : Nat := 3
def mGFM : Nat := 4
def mDC : Nat := 5
def mDRIVE : Nat := 6
def mDECEL : Nat := 7
def mSAFE : Nat := 8
/-- The modes in which a role is enabled (R413). -/
def roleModes : GroupRole → List Nat
  | .pre | .aux => [1, 2, 3, 4, 5, 6, 7]
  | .dab => [2, 3, 4, 5, 6, 7]
  | .grid | .load | .brake => [3, 4, 5, 6, 7]
  | .mach => [6, 7]
/-- What a sub-state disables: GRID in COAST and RESYNC (R431), MACH in SEARCH and COAST (R435), BRAKE with BRK_FAULT (R440). -/
def subDisables (sub mode : Nat) (brk : Bool) : GroupRole → Bool
  | .grid => mode == 3 && (sub == 4 || sub == 5)
  | .mach => sub == 6 || (sub == 4 && (mode == 6 || mode == 7))
  | .brake => brk || (sub == 4 && (mode == 6 || mode == 7))
  | _ => false
/-- A declared group. -/
def group (s : State) (g : Nat) : Option GroupDecl := at' s.cfg.groups g none
/-- The group is enabled in the mode in force, or by TESTPULSE (R683). -/
def groupEnabled (s : State) (g : Nat) : Bool :=
  match s.group g with
  | none => false
  | some d =>
    (roleModes d.role).contains s.mode.mode && !subDisables s.mode.sub s.mode.mode s.mode.brkFault d.role ||
    s.modeQ.tpRun == some g
/-- Every group number enabled. -/
def enabledGroups (s : State) : List Nat := (List.range 64).filter s.groupEnabled
/-- Seams that carry a cell with a channel of a group. -/
def groupSeams (s : State) (g : Nat) : Nat :=
  maskOf 16 fun q => s.cfg.cells.any fun c => c.idx / 8 == q && c.chans.any fun x => match x with | some b => b.group == g | none => false
/-- Outputs of a group. -/
def groupOuts (s : State) (g : Nat) : Nat := maskOf 32 fun j => match at' (s.cfg.lpwm.map some) j none with | some d => d.edges && d.group == g | none => false

/-! ## Cells -/

def cell (s : State) (c : Nat) : Cell := at' s.seam.cells c {}
def talk (s : State) (c : Nat) : Talk := at' s.seam.talks c {}
def onCell (c : Nat) (f : Cell → Cell) (s : State) : State := s.onSeam fun b => { b with cells := modAt b.cells c f }
def onTalk (c : Nat) (f : Talk → Talk) (s : State) : State := s.onSeam fun b => { b with talks := modAt b.talks c f }
/-- Set an event bit of a cell (R278). -/
def cellEvt (c i : Nat) (s : State) : State := s.onCell c fun x => { x with evt := setBit x.evt i }
/-- A context's new state, with STATE_CHG (R278). -/
def cellTo (c st reason : Nat) (s : State) : State :=
  let old := (s.cell c).st
  let s := s.onCell c fun x => { x with st := st, reason := reason, jstep := if st = 1 then x.jstep else 0 }
  if old = st then s else s.cellEvt c 0
/-- Declared position of a cell. -/
def decl (s : State) (c : Nat) : Option CellDecl := s.cfg.cells.find? (·.idx == c)
/-- Kind of a declared cell. -/
def kind (s : State) (c : Nat) : CellKind := match s.decl c with | some d => at' s.cfg.kinds d.kind {} | none => {}
def declared (s : State) (c : Nat) : Bool := (s.decl c).isSome
/-- A frame may be sent to a cell: not under SYNTHETIC, nor by a member that waits, is detached or fenced (R685, R627, R629). -/
def maySend (s : State) : Bool := !s.modeQ.ovl.testBit 4 && (!s.cfg.topo.pair || [2, 3, 4].contains s.pair.st)
/-- A CTRL frame leaves: sent in the present period, under the own epoch (R239, R248). -/
def ctrlOut (c : Nat) (o : CtrlOp) (s : State) : State :=
  s.seamSend (c / 8) (cellBlocks 3 c s.per s.seam.epoch (ctrlPay o.op o.tag o.arg o.data))
/-- An operation goes on the line. -/
def putCtrl (c : Nat) (o : CtrlOp) (q : List CtrlOp) (s : State) : State :=
  (s.onTalk c fun t => { t with ctrl := some { o with sends := 1, sentAt := s.now }, queue := q, sentNow := t.sentNow + 1 }).ctrlOut c o
/-- Send a CTRL operation: at once when none is open, else after those that wait (R249); during step 9 an identity query alone
(R73); to an EXCLUDED cell BLOCK, BYPASS and IDENT_QUERY alone (R270). -/
def sendCtrl (c op arg : Nat) (data : Bytes) (why : Nat) (s : State) : State :=
  if !s.maySend || (s.step9.isSome && op != 1) || ((s.cell c).st == 6 && !([1, 8, 0x0A].contains op)) then s
  else
    let t := s.talk c
    let tag := (t.tag + 1) % 256
    let o : CtrlOp := { op := op, tag := tag, arg := arg, data := data, why := why }
    let s := s.onTalk c fun t =>
      { t with tag := tag, identTag := if op = 1 then some tag else if t.identTag = some tag then none else t.identTag
               ident := if op = 1 then none else t.ident }
    match t.ctrl with
    | none => s.putCtrl c o t.queue
    | some _ => s.onTalk c fun t => { t with queue := t.queue ++ [o] }
/-- The open operation has ended: the next that waits is sent. -/
def ctrlNext (c : Nat) (s : State) : State :=
  match (s.talk c).queue with
  | [] => s.onTalk c fun t => { t with ctrl := none }
  | o :: q => s.putCtrl c o q

/-! ## Wiring (R519) -/

/-- Wiring entry of a source. -/
def wire (s : State) (w : Nat) : Wire := at' s.img.safety.wires w {}
/-- Declared seams as a mask. -/
def seamMask (s : State) : Nat := s.cfg.topo.seams % 65536
/-- LPWM outputs in a source's scope. -/
def scopeLpwm (s : State) (w : Nat) : Nat := if w < 35 then (s.wire w).lpwm % M32 else M32 - 1
/-- Seams in a source's scope; a cell trip adds the seam that delivered it. -/
def scopeSeam (s : State) (w : Nat) : Nat :=
  if w < 35 then ((s.wire w).seam ||| (if w = 34 then 1 <<< s.cmp.cellSeam else 0)) % 65536 else s.seamMask
/-- SOURCE in TRIP blocks (R241, R519). -/
def tripSource (w : Nat) : Nat :=
  if w < 24 then 1 else if w < 32 then 2 else if w = 32 then 3 else if w = 33 then 4 else if w = 34 then 7 else if w = 35 then 6 else 5
/-- A source is latched. -/
def latched (s : State) (w : Nat) : Bool := at' s.cmp.latch w false
/-- Any source latched. -/
def anyTrip (s : State) : Bool := s.cmp.latch.any id
/-- Sources latched, in order. -/
def latchedList (s : State) : List Nat := (List.range 37).filter s.latched
/-- Outputs and seams in the scope of a latched trip. -/
def tripLpwm (s : State) : Nat := s.latchedList.foldl (fun m w => m ||| s.scopeLpwm w) 0
def tripSeam (s : State) : Nat := s.latchedList.foldl (fun m w => m ||| s.scopeSeam w) 0
/-- A source's scope covers an enabled group. -/
def scopeEnabled (s : State) (w : Nat) : Bool :=
  s.enabledGroups.any fun g => (s.groupOuts g &&& s.scopeLpwm w) != 0 || (s.groupSeams g &&& s.scopeSeam w) != 0

/-! ## Local outputs (R307, R308) -/

/-- An output goes to its off state at once (R308). -/
def lpwmOff (x : Lpwm) : Lpwm := { x with run := false, level := false, todo := [] }
/-- A transition of a blanking timer's source, from one level of the output to another, is one it selects (R508): rising from off
to on (log entry 200). -/
def selects (d : BlankDecl) (was is : Bool) : Bool := was != is && (match d.edge with | 0 => is | 1 => was | _ => true)
/-- The outputs change: each selected transition of a timer's source gives the timer a window (R508). -/
def outsTo (f : Nat → Lpwm → Lpwm) (s : State) : State :=
  let l := s.edg.lpwm.mapIdx f
  let s := s.onCmp fun c =>
    { c with blanks := c.blanks.mapIdx fun b ws =>
        let d := at' s.cfg.blanks b {}
        if decide (b < s.cfg.blanks.length) && selects d (at' s.edg.lpwm d.src {}).level (at' l d.src {}).level then
          (ws.filter fun w => decide (s.now ≤ w.2)) ++ [(s.now + 16 * d.delay, s.now + 16 * (d.delay + d.width))]
        else ws }
  s.onEdg fun e => { e with lpwm := l }
/-- Close the trip gates of a mask of outputs (R313). -/
def closeGates (m : Nat) (s : State) : State := s.outsTo fun j x => if m.testBit j then { lpwmOff x with gated := true } else x
/-- Every output off at once, gates as they are. -/
def allOff (s : State) : State := s.outsTo fun _ x => lpwmOff x
/-- TRIP blocks leave this member: not while a warm reset runs, nor when fenced (R629, R659). -/
def maySendTrip (s : State) : Bool := !s.pwr.warm && !(s.cfg.topo.pair && s.pair.st == 6)
/-- A TRIP block on a seam, n times in consecutive block slots, ahead of any frame block (R241, R242). -/
def tripSend (n src q : Nat) (s : State) : State := s.seamSend q (List.replicate n (true, tripBytes src s.node))
/-- The TRIP block eight times on each seam of a mask (R242). -/
def tripSeams (m src : Nat) (s : State) : State :=
  let s := s.onSeam fun b => { b with seams := b.seams.mapIdx fun q x => if m.testBit q then { x with trip := true, tripSrc := src, tripAt := s.now } else x }
  if s.maySendTrip then each (members m 16) (tripSend 8 src) s else s
/-- TRIPN follows the latched trips with the BUS flag (R516), but for the times it is released by R76 and R652. -/
def driveTripn (s : State) : State :=
  let d := (s.latchedList.any fun w => decide (w < 35 ∧ w ≠ 32) && (s.wire w).bus) && s.inForce && !s.pwr.warm && !s.pwr.parked
  s.onCmp fun c =>
    { c with driving := d, ignoring := if d then true else if c.driving then true else c.ignoring,
             ignoreEnd := if c.driving && !d then s.now + 2 * Config.us else c.ignoreEnd }

/-! ## Latching and release (R520 to R525) -/

/-- This node's own flood on every port that is up, under the next count (R601). -/
def floodStart (s : State) : State :=
  (s.onMesh fun m => { m with floodCnt := (m.floodCnt + 1) % 256, floodAt := s.now }).emits
    (((List.range 4).filter s.portSends).map fun p => .port p [(true, floodBytes s.node s.mesh.floodCnt)])
/-- A source fires: its latch is set and acts by R520. Without an image in force no wiring exists (R522). -/
def fireTrip (w : Nat) (s : State) : State :=
  if !s.inForce || s.latched w then s
  else
    -- latches within a period of the oscillator, 9.8 to 10.2 ns, whose phase is free: the lower number is recorded (R521)
    let near := s.cmp.firstV && decide (w < s.cmp.first) && decide (s.now < s.cmp.firstAt + 131)
    let isFirst := !s.cmp.firstV || (near && (s.cmp.firstAt == s.now || s.freeWord.toNat.testBit 0))
    let s := if near && s.cmp.firstAt != s.now then s.drawn else s
    let s := s.onCmp fun c =>
      { c with latch := c.latch.set w true
               flt := c.flt ||| 0x20000000
               firstV := true
               first := if isFirst then w else c.first
               firstAt := if isFirst then s.now else c.firstAt }
    let s := s.event 0x0690 (le 1 w ++ le 1 (bit isFirst))
    let s := s.closeGates (s.scopeLpwm w)
    let s := s.tripSeams (s.scopeSeam w) (tripSource w)
    let s := s.driveTripn
    let s := s.onBnc fun b => { b with trace := { b.trace with evTrip := true } }
    if w < 35 && w ≠ 33 && (s.wire w).mesh && s.cfg.mesh.shape ≠ 0 then
      s.floodStart
    else s
/-- The edge period whose opening opens the gates a release that lands now frees (R315). -/
def openPer (s : State) : Nat := if s.cyc < s.kO + 32 then s.perPlus 1 else s.perPlus 2
/-- Clear latches: gates and seams left without a source are freed, TRIPN follows, cells of freed seams get TRIP_RELEASE (R525). -/
def clearTrips (ws : List Nat) (s : State) : State :=
  let l0 := s.tripLpwm
  let q0 := s.tripSeam
  let s := s.onCmp fun c => { c with latch := c.latch.mapIdx fun i x => x && !ws.contains i }
  let freedL := members (l0 &&& (M32 - 1 - s.tripLpwm)) 32
  let freedQ := members (q0 &&& (65535 - s.tripSeam)) 16
  let p := s.openPer
  let s := s.onComp fun c => { c with opens := c.opens.filter (fun x => !freedL.contains x.1) ++ freedL.map fun j => (j, p) }
  let s := s.onSeam fun b => { b with seams := b.seams.mapIdx fun q x => if freedQ.contains q then { x with trip := false } else x }
  let s := each freedQ (fun q s =>
    each ((List.range 8).map (8 * q + ·)) (fun c s =>
      if s.declared c && (s.cell c).st != 0 && (s.cell c).st != 6 then
        (s.sendCtrl c 0x09 0 [] 4).onTalk c fun t => { t with rejoin := true }
      else s) s) s
  s.driveTripn
/-- The internal trip of the controller, source 35, in SAFE, compile stop, SYSPLL loss and die shutdown (R519). -/
def internalTrip (s : State) : State := s.fireTrip 35

end Sys2Proof.Machine.State
end

