-- ==== Sys2Proof/Machine/Lanes.lean ====
section
/-! DEFINITION. Seam and peer lanes: bring-up, markers, tests, sleep, retraining (R200 to R235). -/
namespace Sys2Proof.Machine
namespace State

def onLane1 (l : Nat) (f : LaneS → LaneS) (s : State) : State := s.onLane fun b => { b with lanes := modAt b.lanes l f }
/-- Power domain of a lane (R646). -/
def laneDom (l : Nat) : Nat := if l < 16 then 10 else if l < 32 then 11 else 12
def laneOn (s : State) (l : Nat) : Bool := s.pwr.dom.testBit (laneDom l - 1)
/-- Thousandths of a tick that 16,384 blocks take at a rate: 66 bits each (R200). -/
def mrkMilli (rate : Nat) : Nat := if rate = 0 then 4429185024 else if rate = 1 then 2214592512 else if rate = 2 then 1342177280 else 1107296256
/-- Whole ticks of n blocks. -/
def blockTicks (rate n : Nat) : Nat := n * mrkMilli rate / 16384000
/-- Whole ticks between two markers. -/
def mrkTicks (rate : Nat) : Nat := mrkMilli rate / 1000
/-- The number of n-block groups since an instant when one begins now; none between two beginnings. -/
def groupNow (rate n since now : Nat) : Option Nat :=
  let k := ((now - since) * 16384000 + n * mrkMilli rate - 1) / (n * mrkMilli rate)
  if blockTicks rate (n * k) = now - since then some k else none
/-- Path of a receiver (true A) and of a transmitter of a seam lane (R198). -/
def rxPathA (l : Nat) : Bool := l % 2 == 1
def txPathA (l : Nat) : Bool := l % 2 == 0
/-- Path A or B of a seam is up; the transmitter of a path the partner originates is the partner's (R211, R615). -/
def pathUp (s : State) (q : Nat) (a : Bool) : Bool :=
  let tx := if a then 2 * q else 2 * q + 1
  (!s.ownsPath a || (s.ln tx).tx == 3) && (s.ln (tx ^^^ 1)).rx == 5
/-- The markers of a quad. -/
def mrk (s : State) (q : Nat) : Mrk := at' s.lane.mrk q {}
/-- The markers last sent on the path this member originates: transmitter, count, system time (R618). -/
def ownMarks (s : State) : List (Nat × Nat × Nat) :=
  (members s.seamMask 16).filterMap fun q =>
    let l := 2 * q + (if s.ownsPath true then 0 else 1)
    (s.mrk (l / 4)).sent.head?.map fun t => (l, ((s.mrk (l / 4)).cnt + 255) % 256, t)
/-- When the marker of a count left on a path: sent here, or reported by the partner that originates the path (R212, R618). -/
def sentAt (s : State) (q : Nat) (a : Bool) (cnt : Nat) : Option Nat :=
  let l := if a then 2 * q else 2 * q + 1
  if s.ownsPath a then (s.mrk (l / 4)).sent[((s.mrk (l / 4)).cnt + 255 - cnt) % 256]?
  else (s.pair.peerMarks.find? fun x => x.1 == l && x.2.1 == cnt).map (·.2.2)
/-- LANE_SEAM_PATH (R211). -/
def seamPath (s : State) : Nat := maskOf 32 fun i => s.pathUp (i / 2) (i % 2 == 0)
/-- A change of lanes; vector 42 when LANE_SEAM_PATH changes (R213). -/
def laneStep (f : State → State) (s : State) : State := let s' := f s; if s'.seamPath = s.seamPath then s' else s'.emit (.msix 42)
/-- An event bit of LANE_STS (R235). -/
def laneEvt (l i : Nat) : State → State := onLane1 l fun x => { x with evt := setBit x.evt i }
/-- The receiver begins bring-up: CDR, the attempt timer starts; emphasis and swing are applied (R208, R234). -/
def toCdr (now : Nat) (x : LaneS) : LaneS :=
  { x with rx := 3, attemptAt := now, gap := false, lastCnt := none, hiBer := false, emphOn := x.emph, swingOn := x.swing }
def bringUp (l : Nat) (s : State) : State := s.onLane1 l (toCdr s.now)
/-- A lane's receiver and transmitter start from OFF; in a pair the transmitter of the partner's path stays off (R615). -/
def laneStart (l : Nat) (s : State) : State :=
  s.onLane1 l fun x =>
    let x := if x.rx = 0 then toCdr s.now x else x
    if x.tx = 0 ∧ (32 ≤ l ∨ s.ownsPath (txPathA l)) then { x with tx := 2, txAt := s.now } else x
/-- A lane's domain goes off, or the lane is powered down (R208, R200). -/
def laneStop (x : LaneS) : LaneS :=
  { x with rx := 0, tx := 0, test := 0, loop := 0, prbsLock := false, hiBer := false, farHeld := false, gap := false
           lastCnt := none, txRetrain := false, txSleeping := false, txSleep := false, rxSleep := false, miswired := false }
/-- A peer port carries mesh or pair traffic (R222, R576). -/
def portCarries (s : State) (p : Nat) : Bool := s.portUp p && ((at' s.mesh.ports p {}).used || s.img.hostWait)
/-- A cell that counts as live for its lanes (R222). -/
def cellLive (s : State) (c : Nat) : Bool := [1, 2, 3, 7].contains (s.cell c).st
def seamLive (s : State) (q : Nat) : Bool := (List.range 8).any fun i => s.cellLive (8 * q + i)
/-- LANE_LIVE for a test or a sleep (R222, R225). -/
def laneLive (s : State) (l : Nat) : Bool := if l < 32 then s.seamLive (l / 2) else s.portCarries ((l - 32) / 2)
/-- A test is carried by a far-end loop. -/
def farLoop (x : LaneS) : Bool := x.test == 3 || (x.test == 4 && x.loop == 3)
/-- A lane command leaves a transmitter that is ON: eight identical blocks (R207). -/
def laneCmd (l d1 : Nat) (s : State) : State := if (s.ln l).tx = 3 then s.emit (.lane l (List.replicate 8 (true, cmdBytes d1 0))) else s
/-- End a lane's test (R221, R223): the far end is released and the lane brought up; an unused lane is powered down. -/
def testEnd (l : Nat) (s : State) : State :=
  let x := s.ln l
  if x.test = 0 then s
  else
    let far := farLoop x
    let s := if far then s.laneCmd l 2 else s
    let s := s.onLane1 l fun x => { x with test := 0, loop := 0, prbsLock := false }
    if !x.used && !s.img.hostWait then s.onLane1 l laneStop else if far then s.bringUp l else s
/-- Every lane test ends: with LOOPBACK, with an image reload (R224, R681). -/
def testsEnd : State → State := laneStep (each (List.range 40) testEnd)
/-- A transmitter begins to sleep: SLEEP_NOTICE, then electrical idle (R225); one that is not ON yet sends nothing and is idle at once
(DEDUCED, log entry 206). -/
def txSleepStart (l : Nat) (s : State) : State :=
  if (s.ln l).tx = 3 ∧ !(s.ln l).txSleeping then
    (s.onLane1 l fun x => { x with txSleep := true, txSleeping := true, txAt := s.now }).laneCmd l 3
  else if (s.ln l).tx = 2 then s.onLane1 l fun x => { x with tx := 1, txSleep := true }
  else s
/-- A receiver sleeps (R208). -/
def rxSleepStart (l : Nat) (s : State) : State :=
  s.onLane1 l fun x => if x.rx = 0 then x else { x with rx := 1, rxSleep := true, gap := false, lastCnt := none, hiBer := false }
/-- A direction is woken (R208, R226). -/
def txWakeStart (l : Nat) (s : State) : State :=
  s.onLane1 l fun x => { x with tx := if x.tx = 1 then 2 else x.tx, txAt := s.now, txSleep := false, txSleeping := false }
def rxWakeStart (l : Nat) (s : State) : State :=
  s.onLane1 l fun x => if x.rx = 1 then { x with rx := 2, rxAt := s.now, rxSleep := false } else x
/-- A global operation of the mesh is scheduled and not complete (R229). -/
def globalPending (s : State) : Bool :=
  s.mesh.snap.isSome || s.mesh.reset.isSome || s.mesh.bar.isSome || !s.mesh.gops.isEmpty || s.modeQ.sched.isSome ||
  !s.modeQ.lossSched.isEmpty || (match s.clk.load with | some l => l.sure | none => false)
/-- Lanes as an image's TOPOLOGY and CALDEFAULTS set them (R200, R215, R234); a quad whose rate changes passes OFF. -/
def lanesSet (d : ImgDesc) : State → State := laneStep fun s =>
  let seams := d.topo.seams; let ports := d.topo.ports ||| bit d.topo.pair
  let s := s.onLane fun b =>
    { b with lanes := b.lanes.mapIdx fun l x =>
        let used := if l < 32 then seams.testBit (l / 2) else ports.testBit ((l - 32) / 2)
        let rate := at' d.topo.quadRate (l / 4) 0
        let x := if rate != x.rate || !used then laneStop x else x
        { x with rate := rate, used := used, emph := at' d.cal.emph l x.emph, swing := at' d.cal.swing l x.swing } }
  each ((List.range 40).filter fun l => (s.ln l).used && s.laneOn l) laneStart s
/-- A lane at a rate; another rate passes through OFF (R215). -/
def laneRate (r : Nat) (x : LaneS) : LaneS := { (if x.rate != r then laneStop x else x) with rate := r }
/-- Lanes in HOST-WAIT: peer ports at 12.5 Gb/s (R588); seam lanes, when their rates cannot be trusted, at 3.125 Gb/s (R76). -/
def lanesWait (trusted : Bool) : State → State := laneStep fun s =>
  let s := s.onLane fun b => { b with lanes := b.lanes.mapIdx fun l x => if l < 32 then (if trusted then x else laneRate 0 x) else laneRate 3 x }
  each ((List.range 40).filter s.laneOn) laneStart s
end State
open State

/-- LANE_TEST (R221, R222, R231). -/
def cmdLaneTest : Cmd where
  opcode := 0x0A10
  lens := (· == 4)
  fields := fun h p _ =>
    let te := field p 1 1; let lo := field p 2 1
    firstBad [target0 h, (decide (39 < field p 0 1), 0), (decide (4 < te), 1), (decide (3 < lo) || (lo != 0 && te != 4), 2), zeros p 3 1]
  block := fun _ p s =>
    let l := field p 0 1; let te := field p 1 1; let x := s.ln l
    blockCause
      [(te != 0 && s.laneLive l, 1), (te != 0 && (s.rxAsleep l || s.txAsleep l), 4),
       (te != 0 && (x.test != 0 || x.rx == 6 || x.txRetrain), 5), (!s.laneOn l, 6)]
  act := fun _ p s =>
    let l := field p 0 1; let te := field p 1 1; let lo := field p 2 1
    let f := fun s =>
      if te = 0 then testEnd l s
      else
        let s := (s.onLane1 l fun x => { x with test := te, loop := lo, prbsLock := false }).laneStart l
        if te = 3 ∨ lo = 3 then s.laneCmd l 1 else s
    (s.laneStep f, { status := 1 })
/-- LANE_RETRAIN (R227 to R229). -/
def cmdLaneRetrain : Cmd where
  opcode := 0x0A11
  lens := (· == 4)
  fields := fun h p _ => firstBad [target0 h, (decide (39 < field p 0 1), 0), (decide (field p 1 1 = 0 ∨ 3 < field p 1 1), 1), zeros p 2 2]
  block := fun _ p s =>
    let l := field p 0 1; let d := field p 1 1; let x := s.ln l
    let rx := d.testBit 0; let tx := d.testBit 1
    let live := decide (l < 32) && s.seamLive (l / 2)
    -- a direction of path A needs path B up, and the other way round
    let otherUp (a : Bool) : Bool := s.pathUp (l / 2) (!a)
    blockCause
      [(live && (rx && tx || rx && x.txRetrain || tx && x.rx == 6), 1),
       (live && (rx && !otherUp (rxPathA l) || tx && !otherUp (txPathA l)), 2),
       (decide (32 ≤ l) && (at' s.mesh.ports ((l - 32) / 2) {}).used && s.globalPending, 3),
       (rx && s.rxAsleep l || tx && s.txAsleep l, 4),
       (x.test != 0 || rx && x.rx == 6 || tx && x.txRetrain, 5), (!s.laneOn l, 6)]
  act := fun _ p s =>
    let l := field p 0 1; let d := field p 1 1
    let f := onLane1 l fun x =>
      let x := if d.testBit 0 && [3, 4, 5].contains x.rx then { x with rx := 6, rxAt := s.now, gap := false, hiBer := false, lastCnt := none } else x
      if d.testBit 1 && x.tx == 3 then { x with txRetrain := true, txAt := s.now } else x
    (s.laneStep f, { status := 1 })
/-- LANE_SLEEP (R225). -/
def cmdLaneSleep : Cmd where
  opcode := 0x0A12
  lens := (· == 4)
  fields := fun h p _ => firstBad [target0 h, (decide (39 < field p 0 1), 0), (decide (field p 1 1 = 0 ∨ 3 < field p 1 1), 1), zeros p 2 2]
  block := fun _ p s =>
    let l := field p 0 1; let d := field p 1 1; let x := s.ln l
    blockCause [(s.laneLive l, 1), (x.test != 0 || d.testBit 0 && x.rx == 6 || d.testBit 1 && x.txRetrain, 5), (!s.laneOn l, 6)]
  act := fun _ p s =>
    let l := field p 0 1; let d := field p 1 1
    (s.laneStep fun s => let s := if d.testBit 0 then s.rxSleepStart l else s; if d.testBit 1 then s.txSleepStart l else s, {})
/-- LANE_WAKE (R226). -/
def cmdLaneWake : Cmd where
  opcode := 0x0A13
  lens := (· == 4)
  fields := fun h p _ => firstBad [target0 h, (decide (39 < field p 0 1), 0), (decide (field p 1 1 = 0 ∨ 3 < field p 1 1), 1), zeros p 2 2]
  block := fun _ p s => blockCause [(!s.laneOn (field p 0 1), 6)]
  act := fun _ p s =>
    let l := field p 0 1; let d := field p 1 1
    let s := if d.testBit 0 then s.rxWakeStart l else s
    (if d.testBit 1 then s.txWakeStart l else s, { status := 1 })

/-- LANE_TEST. -/
def execLaneTest (t : Nat) (h : RecHdr) (lane test loop : Nat) (s : State) : Host.Outcome State Fault Refusal :=
  .next (hostRow cmdLaneTest t h (le 1 lane ++ le 1 test ++ le 1 loop ++ le 1 0) s)
/-- LANE_RETRAIN. -/
def execLaneRetrain (t : Nat) (h : RecHdr) (lane dir : Nat) (s : State) : Host.Outcome State Fault Refusal :=
  .next (hostRow cmdLaneRetrain t h (le 1 lane ++ le 1 dir ++ le 2 0) s)
/-- LANE_SLEEP. -/
def execLaneSleep (t : Nat) (h : RecHdr) (lane dir : Nat) (s : State) : Host.Outcome State Fault Refusal :=
  .next (hostRow cmdLaneSleep t h (le 1 lane ++ le 1 dir ++ le 2 0) s)
/-- LANE_WAKE. -/
def execLaneWake (t : Nat) (h : RecHdr) (lane dir : Nat) (s : State) : Host.Outcome State Fault Refusal :=
  .next (hostRow cmdLaneWake t h (le 1 lane ++ le 1 dir ++ le 2 0) s)

/-! ## Receiver bring-up (R208) -/

/-- CDR_LOCK: 64 consecutive valid sync headers. -/
def execCdrLock (t : Nat) (l : Nat) (s : State) : Host.Outcome State Fault Refusal :=
  .next (s.runIf t (fun s => (s.ln l).rx == 3 && !(s.ln l).gap) (onLane1 l fun x => { x with rx := 4, lastCnt := none }))
/-- ATTEMPT_TIMEOUT: whether a signal was seen, whether the CDR locked. -/
def execAttemptTimeout (t : Nat) (l : Nat) (signal cdr : Bool) (s : State) : Host.Outcome State Fault Refusal :=
  .next (s.runIf t (fun s => (s.ln l).rx == 3 && !(s.ln l).gap && decide ((s.ln l).attemptAt + 5 * Config.ms ≤ s.now)) fun s =>
    s.onLane1 l fun x =>
      let e := if signal then x.evt else setBit x.evt 15
      { x with retry := sat32 x.retry 1, gap := true, attemptAt := s.now, evt := if cdr then setBit e 9 else e })
/-- RETRY_GAP_END. -/
def execRetryGapEnd (t : Nat) (l : Nat) (s : State) : Host.Outcome State Fault Refusal :=
  .next (s.runIf t (fun s => (s.ln l).rx == 3 && (s.ln l).gap && decide ((s.ln l).attemptAt + 10 * Config.ms ≤ s.now)) (bringUp l))
/-- Expected origin (R204): the other lane of the seam and the own node; of a peer lane any peer lane of its parity. -/
def State.originOk (s : State) (l m1 m2 : Nat) : Bool :=
  if l < 32 then m1 == (l ^^^ 1) && m2 == s.node else decide (128 ≤ m1 ∧ m1 < 136) && m1 % 2 == l % 2
/-- The loop delay of a path at a marker of a count whose send time is known (R212). -/
def State.delayTake (l cnt : Nat) (s : State) : State :=
  if 32 ≤ l then s
  else match s.sentAt (l / 2) (rxPathA l) cnt with
    | none => s
    | some t =>
      let d := (s.sysTime + 2 ^ 64 - t) % 2 ^ 64
      s.onLane fun b => { b with dly := modAt b.dly (l / 2) fun p => if rxPathA l then (d, p.2) else (p.1, d) }
/-- A marker accepted (R204, R208, R212); slot: block slots since the last one accepted. -/
def State.marker (l slot : Nat) (m : Bytes) (s : State) : State :=
  let x := s.ln l
  let m1 := field m 1 1; let m2 := field m 2 1; let m3 := field m 3 1
  let s := s.onLane1 l fun x => { x with m1 := m1, m2 := m2, m3 := m3, lastMrk := s.now, mrkTime := s.sysTime }
  if !s.originOk l m1 m2 then s.onLane1 l fun x => { x with rx := 4, miswired := true, evt := setBit x.evt 11, lastCnt := none }
  else
    let follows := match x.lastCnt with | some c => (c + 1) % 256 == m3 && slot == 16384 | none => false
    let s := s.onLane1 l fun x => { x with lastCnt := some m3, miswired := if x.rx = 4 then false else x.miswired }
    if x.rx = 4 && follows then
      (s.onLane1 l fun x => { x with rx := 5, retry := 0, evt := setBit x.evt 10 }).delayTake l m3
    else if x.rx = 5 then s.delayTake l m3 else s
/-- A marker rejected, an unknown control block or lane command (R202, R233). -/
def mrkReject (l : Nat) (p : BKind × Bytes) : Bool :=
  p.1 == .other || (p.1 == .global && decide (l < 32)) || (p.1 == .cmd && !([1, 2, 3].any fun d => p.2 == cmdBytes d 0))
/-- The markers of a stretch, and what of it is rejected, in a receiver with block lock. -/
def State.markersIn (x : LaneRx) (s : State) : State :=
  if 40 ≤ x.lane ∨ !s.laneHears x.lane then s
  else
    each ((laneHear x).mapIdx fun i p => (i, p)) (fun p s =>
      if p.2.1 = .marker then s.marker x.lane (x.slot + p.1) p.2.2
      else if mrkReject x.lane p.2 then s.onLane1 x.lane fun y => { y with mrkErr := sat32 y.mrkErr 1 }
      else s) s
/-- MARKER_RECEIVED. -/
def execMarkerReceived (t : Nat) (x : LaneRx) (s : State) : Host.Outcome State Fault Refusal :=
  .next (s.run t (laneStep (State.markersIn x)))
/-- MARKER_LOST: four marker slots without an accepted marker. -/
def execMarkerLost (t : Nat) (l : Nat) (s : State) : Host.Outcome State Fault Refusal :=
  .next (s.runIf t (fun s => let x := s.ln l; x.rx == 5 && decide (31 * mrkTicks x.rate ≤ 8 * (s.now - x.lastMrk)))
    (laneStep (onLane1 l fun x => { x with rx := 4, lastCnt := none, evt := setBit x.evt 13 })))
/-- BLOCK_LOST: 16 invalid sync headers in 64 blocks. -/
def execBlockLost (t : Nat) (l : Nat) (s : State) : Host.Outcome State Fault Refusal :=
  .next (s.runIf t (fun s => s.laneHears l)
    (laneStep fun s => s.onLane1 l fun x => { toCdr s.now x with evt := setBit x.evt 14, ber := sat32 x.ber 16 }))
/-- SIGNAL_LOSS: input below the threshold for 100 ns. -/
def execSignalLoss (t : Nat) (l : Nat) (s : State) : Host.Outcome State Fault Refusal :=
  .next (s.runIf t (fun s => [3, 4, 5].contains (s.ln l).rx && !nearEnd (s.ln l))
    (laneStep fun s => s.onLane1 l fun x =>
      let sl := match x.noticeAt with | some a => decide (s.now ≤ a + Config.us) | none => false
      { toCdr s.now x with partnerSleep := sl, evt := if sl then x.evt else setBit x.evt 15, farHeld := false }))
/-- HI_BER: the count of invalid sync headers over 125 us (R209). -/
def execHiBer (t : Nat) (l bad : Nat) (s : State) : Host.Outcome State Fault Refusal :=
  .next (s.runIf t (fun s => (s.ln l).rx == 4 || (s.ln l).rx == 5) (onLane1 l fun x =>
    { x with ber := sat32 x.ber bad, hiBer := decide (16 ≤ bad), evt := if 16 ≤ bad ∧ !x.hiBer then setBit x.evt 12 else x.evt }))
/-- RETRAIN_ADAPTATION_DONE (R228). -/
def execRetrainAdaptationDone (t : Nat) (l : Nat) (s : State) : Host.Outcome State Fault Refusal :=
  .next (s.runIf t (fun s => (s.ln l).rx == 6) (bringUp l))
/-- TX_RETRAIN_DONE (R228). -/
def execTxRetrainDone (t : Nat) (l : Nat) (s : State) : Host.Outcome State Fault Refusal :=
  .next (s.runIf t (fun s => (s.ln l).txRetrain) (onLane1 l fun x => { x with txRetrain := false, emphOn := x.emph, swingOn := x.swing }))
/-- RX_WAKE_DONE. -/
def execRxWakeDone (t : Nat) (l : Nat) (s : State) : Host.Outcome State Fault Refusal :=
  .next (s.runIf t (fun s => (s.ln l).rx == 2 && decide ((s.ln l).rxAt + 20 * Config.us ≤ s.now)) (bringUp l))
/-- TX_WAKE_DONE (R226). -/
def execTxWakeDone (t : Nat) (l : Nat) (s : State) : Host.Outcome State Fault Refusal :=
  .next (s.runIf t (fun s => (s.ln l).tx == 2) (laneStep fun s =>
    let s := s.onLane1 l fun x => { x with tx := 3, emphOn := x.emph, swingOn := x.swing }
    if farLoop (s.ln l) then s.laneCmd l 1 else s))
/-- TX_SLEEP_DONE: electrical idle after SLEEP_NOTICE (R225). -/
def execTxSleepDone (t : Nat) (l : Nat) (s : State) : Host.Outcome State Fault Refusal :=
  .next (s.runIf t (fun s => (s.ln l).txSleeping && (s.ln l).tx == 3 && decide ((s.ln l).txAt + blockTicks (s.ln l).rate 32 ≤ s.now)) (laneStep (onLane1 l fun x => { x with tx := 1, txSleeping := false })))
/-- Lanes of a quad whose transmitters carry markers. -/
def State.mrkLanes (s : State) (q : Nat) : List Nat := ((List.range 4).map (4 * q + ·)).filter s.laneSends
/-- The markers of a quad are due: the first at any time, the others as the first blocks of the groups of 16,384 that follow it. -/
def State.mrkDue (s : State) (q : Nat) : Option Nat :=
  match (s.mrk q).base with
  | none => some 0
  | some b => (groupNow (s.ln (4 * q)).rate 16384 b s.now).filter fun k => decide ((s.mrk q).groups < k)
/-- Of a link's two ends this is the one nearer the time master: it takes its own time elsewhere (R593); on the pair link it is the
ACTIVE (R623). -/
def State.nearer (s : State) (p : Nat) : Bool :=
  s.inForce && (if s.cfg.topo.pair && p == 0 then s.pair.st == 4
    else s.cfg.mesh.shape != 0 && (at' s.mesh.ports p {}).used && (s.node == s.cfg.mesh.master || p != s.routePort s.cfg.mesh.master))
/-- TIME frame after a marker: its count and send time, count and arrival time of the other end's last (R593). -/
def State.timeFrame (p : Nat) (s : State) : State :=
  let k := s.mrk (8 + p / 2); let x := s.ln (32 + 2 * p)
  s.portPut p { hdr := { typ := 5, dst := 0xFF, src := s.nodeId, epoch := s.seam.epoch }
                body := .time ((k.cnt + 255) % 256) (k.sent.head?.getD 0) x.m3 x.mrkTime }
/-- MARKER_SEND: the first block of each 16,384, on every transmitter of the quad that is on (R203, R205). -/
def execMarkerSend (t : Nat) (q : Nat) (s : State) : Host.Outcome State Fault Refusal :=
  .next (s.runIf t (fun s => decide (q < 10) && !(s.mrkLanes q).isEmpty && (s.mrkDue q).isSome) fun s =>
    let c := (s.mrk q).cnt
    let s := s.onLane fun b => { b with mrk := modAt b.mrk q fun k =>
      { cnt := (c + 1) % 256, base := some (k.base.getD s.now), groups := (s.mrkDue q).getD 0, sent := (s.sysTime :: k.sent).take 256 } }
    let s := s.emits ((s.mrkLanes q).map fun l => .lane l [(true, markerBytes l s.node c)])
    if q < 8 then s else each (([2 * (q - 8), 2 * (q - 8) + 1]).filter s.nearer) State.timeFrame s)

/-! ## Lane commands received (R207, R220) -/

/-- A lane command that the receiver acts on. -/
def State.cmdHeard (d1 : Nat) (x : LaneRx) (s : State) : Bool := decide (x.lane < 40) && s.laneHears x.lane && cmdActed d1 x
/-- FAR_LOOP_ON received. -/
def execFarLoopOn (t : Nat) (x : LaneRx) (s : State) : Host.Outcome State Fault Refusal :=
  .next (s.runIf t (State.cmdHeard 1 x) fun s => s.onLane1 x.lane fun y =>
    if 32 ≤ x.lane ∧ s.portCarries ((x.lane - 32) / 2) then { y with mrkErr := sat32 y.mrkErr 1 } else { y with farHeld := true })
/-- FAR_LOOP_OFF received. -/
def execFarLoopOff (t : Nat) (x : LaneRx) (s : State) : Host.Outcome State Fault Refusal :=
  .next (s.runIf t (State.cmdHeard 2 x) (onLane1 x.lane fun y => { y with farHeld := false }))
/-- SLEEP_NOTICE received. -/
def execSleepNotice (t : Nat) (x : LaneRx) (s : State) : Host.Outcome State Fault Refusal :=
  .next (s.runIf t (State.cmdHeard 3 x) fun s => s.onLane1 x.lane fun y => { y with noticeAt := some s.now })
/-- PRBS_CHECKER_LOCK: the checker's lock and the bit errors counted since (R221). -/
def execPrbsCheckerLock (t : Nat) (l : Nat) (lock : Bool) (errors : Nat) (s : State) : Host.Outcome State Fault Refusal :=
  .next (s.runIf t (fun s => (s.ln l).test == 4) (onLane1 l fun x => { x with prbsLock := lock, prbsErr := sat32 x.prbsErr errors }))

end Sys2Proof.Machine
end

