-- ==== Sys2Proof/Machine/Adc.lean ====
section
/-! DEFINITION. ADCs, test DACs, modulator clocks and sieves (R462 to R501). -/
namespace Sys2Proof.Machine
namespace State

def adc1 (s : State) (a : Nat) : Adc1 := at' s.adc.adcs a {}
def onAdc1 (a : Nat) (f : Adc1 → Adc1) (s : State) : State := s.onAdc fun b => { b with adcs := modAt b.adcs a f }
def adcDecl (s : State) (a : Nat) : AdcDecl := at' s.cfg.adcs a {}
def sieveDecl (s : State) (i : Nat) : SieveDecl := at' s.cfg.sieves i {}
def sieve (s : State) (i : Nat) : Sieve := at' s.adc.svs i {}
def onSieve (i : Nat) (f : Sieve → Sieve) (s : State) : State := s.onAdc fun b => { b with svs := modAt b.svs i f }
/-- The ADC domain is on and an image is in force. -/
def adcOn (s : State) : Bool := s.pwr.dom.testBit 12 && s.inForce
/-- The other ADC of the pair. -/
def partner (a : Nat) : Nat := a ^^^ 1
/-- A fault bit of an ADC (R497). -/
def adcFlt (i a : Nat) : State → State := onAdc fun b => { b with flt := setBit b.flt i, fltAdc := a }
/-- AIN of a channel index. -/
def ainOf (a ch : Nat) : Option Nat := if ch < 24 then some (24 * (a / 2) + ch) else none
def injDecl (s : State) (a j : Nat) : Option InjDecl := at' ((s.adcDecl a).inj.map some) j none
def entryDecl (s : State) (a e : Nat) : AdcEntry := at' (s.adcDecl a).entries e { ch := 24 }

/-! ## Starting conversions (R467, R468, R472, R473) -/

/-- A conversion of an ADC ends: its reference takes the trim that waited (R185). -/
def trimSettle (a : Nat) (s : State) : State :=
  match at' s.clk.trimDue (2 + a) none with
  | some v => s.onClk fun c => { c with trims := c.trims.set (2 + a) v, trimDue := c.trimDue.set (2 + a) none }
  | none => s
/-- Ticks to the next ADC cycle: one begins at each whole multiple of 64 ticks (R464). -/
def toCycle (s : State) : Nat := if s.locked then (64 - s.sysTime % 64) % 64 else 0
/-- A job begins on an ADC, in its next cycle. -/
def jobStart (a : Nat) (j : AdcJob) (s : State) : State :=
  s.onAdc1 a fun x => { x with st := 3, job := some j, jobAt := s.now + s.toCycle, trim := at' s.clk.trims (2 + a) 0 }
/-- The ADC takes no part in its sequence: calibrating or about to. -/
def calibrating (x : Adc1) : Bool := x.st == 4 || x.cal == 1
/-- Start what comes next on an idle ADC: an injected request, then the next entry; a shared entry starts with the partner's. -/
def adcNext (a : Nat) (s : State) : State :=
  let x := s.adc1 a
  if x.st ≠ 1 then s
  else
    match x.queue with
    | (_, b, j) :: q => (s.onAdc1 a fun x => { x with queue := q }).jobStart a (.inj b j)
    | [] =>
      if x.cal = 1 then s
      else
        match x.entry with
        | none => if (s.adcDecl a).pd then s.onAdc1 a fun x => { x with st := 2, wakeAt := none } else s
        | some e =>
          let p := partner a
          let y := s.adc1 p
          if (s.entryDecl a e).shared && !calibrating y then
            if y.st = 1 ∧ y.queue = [] ∧ y.entry = some e then (s.jobStart a (.entry e)).jobStart p (.entry e) else s
          else s.jobStart a (.entry e)
/-- A request or a run on a powered-down ADC wakes it in 300 ns (R468). -/
def adcWakeUp (a : Nat) (s : State) : State :=
  if (s.adc1 a).st = 2 then s.onAdc1 a fun x => { x with wakeAt := some (x.wakeAt.getD (s.now + 3840)) } else s.adcNext a
/-- First ADC cycle at or after a time (R464). -/
def adcCycle (t : Nat) : Nat := (t + 63) / 64 * 64
/-- This instant starts a run of a TIMED sequence (R467). -/
def runInstant (s : State) (d : AdcDecl) : Bool :=
  (List.range d.rpt).any fun j => [0, 1].any fun k =>
    let t := (s.sysTime / s.tick + k) * s.tick + j * s.tick / d.rpt
    decide (64 * d.lead ≤ t) && adcCycle (t - 64 * d.lead) == s.sysTime
/-- Note the latest run or request of this instant. -/
def askedNow (a j : Nat) (s : State) : State := s.onAdc1 a fun x => { x with asked := x.asked.set j (s.now + 1) }
/-- The trigger of a definition acts now: its cycle begins, or the firing state of its comparator changes (R471). -/
def injFires (s : State) : InjTrig → Bool
  | .phase c => s.timeline && s.inPer == 16 * c
  | .cmp k e =>
    let x := at' s.cmp.cmps k {}
    x.chgAt == s.now + 1 && (if x.firing then e != 1 else e != 0)
  | .host => false
/-- Queue an injected request of a definition on an ADC's queue (R472). -/
def injQueue (x : Nat) (a j : Nat) (s : State) : State :=
  if 4 ≤ (s.adc1 x).queue.length then (s.onAdc1 x fun y => { y with injLost := sat32 y.injLost 1 }).adcFlt 30 x
  else
    let c := s.sysTime / 64
    (s.onAdc1 x fun y =>
      let before := y.queue.takeWhile fun q => !(q.1 == c && decide (j < q.2.2))
      { y with queue := before ++ (c, a, j) :: y.queue.drop before.length }).adcWakeUp x
/-- An injected request: by the partner while the ADC calibrates, or held (R480). -/
def injRequest (a j : Nat) (s : State) : State :=
  match s.injDecl a j with
  | none => s
  | some d =>
    if (s.adc1 a).st = 0 then s
    else if (s.adc1 a).st = 4 then
      if d.ch < 24 then s.injQueue (partner a) a j
      else (s.onAdc1 a fun x => { x with held := x.held ++ [(s.sysTime / 64, a, j)] }).adcFlt 29 a
    else s.injQueue a a j

/-! ## Results (R463, R465, R470, R475 to R477) -/

/-- Integer nearest to n / d, halves away from zero; d positive. -/
def roundAway (n d : Int) : Int := if 0 ≤ n then (2 * n + d) / (2 * d) else -((2 * (-n) + d) / (2 * d))
/-- Limits of a code. -/
def codeLimit (x : Int) : Int := if x < -32768 then -32768 else if 32767 < x then 32767 else x
/-- A binary32 value rounded to the nearest integer, halves away from zero. -/
def roundWord (w : Word) : Int :=
  let a := F32.abs w
  let n := F32.floor (F32.add a F32.half)
  if F32.signBit w then -n else n
/-- Code of an input in nanovolts under a reference trim (R463). -/
def rawCode (nv trim : Int) : Int := codeLimit (roundAway ((nv - 900000000) * 65536) (1500000000 + 15000 * trim))
/-- Input outside the span (R476). -/
def outOfSpan (nv : Int) : Bool := decide (nv < 150000000 ∨ 1650000000 < nv)
/-- Beyond the operating range of an input (R477). -/
def beyond (nv : Int) : Bool := decide (nv < -5000000000 ∨ 5000000000 < nv)
/-- The corrected code (R465). -/
def code (a : Nat) (nv : Int) (s : State) : Int :=
  let x := s.adc1 a; let d := s.adcDecl a
  let raw := rawCode nv x.trim
  if outOfSpan nv then (if nv < 900000000 then -32768 else 32767)
  else
    let y := F32.mul (F32.sub (F32.ofInt raw) (F32.ofInt x.ofs)) x.gain
    codeLimit (roundWord (F32.mul (F32.sub y d.fineOfs) d.fineGain))
/-- A conversion of the input carries DOUBT (R477, R478, R484). -/
def isDoubt (a ch start : Nat) (ovr : Bool) (s : State) : Bool :=
  let x := s.adc1 a
  (!ovr && (match x.ovrEnd with | some e => decide (start < e + 5120) | none => false)) || x.calBad ||
  (match ainOf a ch with
   | some n => s.adc.doubt.any fun d => d.1 == n && decide (d.2.1 < start + 768 ∧ start < d.2.2)
   | none => false)
/-- The plausibility check of a shared entry once both results are there (R475). -/
def plausCheck (pr e : Nat) (s : State) : State :=
  let i := 32 * pr + e
  let k := at' s.adc.plaus i {}
  match k.a, k.b with
  | some ra, some rb =>
    let s := s.onAdc fun b => { b with plaus := modAt b.plaus i fun k => { k with a := none, b := none } }
    if ra.doubt || rb.doubt || (s.adc1 (2 * pr)).st == 4 || (s.adc1 (2 * pr + 1)).st == 4 then s
    else
      let d := s.entryDecl (2 * pr) e
      let dis := decide (d.plTol < (ra.code - rb.code).natAbs) || ra.ovr != rb.ovr
      let bad := if dis then k.bad + 1 else 0
      let good := if dis then 0 else k.good + 1
      let fails := !k.failed && decide (d.plN ≤ bad)
      let clears := k.failed && decide (d.plN ≤ good)
      let s := s.onAdc fun b =>
        { b with plaus := modAt b.plaus i fun k => { k with bad := bad, good := good, failed := (k.failed || fails) && !clears } }
      if fails then
        let home := if d.home then ra else rb
        let other := if d.home then rb else ra
        (s.adcFlt 28 (2 * pr + bit (!d.home))).event 0x0680
          (le 1 pr ++ le 1 e ++ le 2 (ofSigned 16 home.code) ++ le 2 (ofSigned 16 other.code))
      else s
  | _, _ => s
/-- The result of a conversion is complete. -/
def convDone (a : Nat) (nv : Int) (s : State) : State :=
  let x := s.adc1 a
  match x.job with
  | none => s
  | some job =>
    let ch := match job with
      | .entry e => (s.entryDecl a e).ch
      | .inj b j => match s.injDecl b j with | some d => d.ch | none => 24
    -- no result is specified while an input is beyond its operating range, nor for 400 ns after
    let wild := beyond nv || (match x.loose with | some e => decide (x.jobAt < e) | none => false)
    let w := s.freeWord.toNat
    let ovr := if wild then w.testBit 16 else outOfSpan nv
    let doubt := if wild then w.testBit 17 else s.isDoubt a ch x.jobAt ovr
    let r : AdcRes :=
      { doubt := doubt, ovr := ovr, ch := ch, run := x.runs % 256, code := if wild then toSigned 16 (w % 65536) else code a nv s, num := s.now + 1 }
    let s := if wild then s.drawn else s
    let s := if beyond nv then s.onAdc1 a fun x => { x with loose := some (s.now + 5120) } else s
    let s := if doubt then (s.onAdc1 a fun x => { x with doubtCnt := sat32 x.doubtCnt 1 }).adcFlt 26 a else s
    let s := if ovr then
        let s := (s.onAdc1 a fun x => { x with ovrEnd := some s.now }).adcFlt 27 a
        match ainOf a ch with | some n => s.onAdc fun b => { b with ovr := setBit b.ovr n } | none => s
      else s
    let s := (s.onAdc1 a fun x => { x with st := 1, job := none }).trimSettle a
    match job with
    | .inj b j => (s.onAdc1 b fun y => { y with inj := y.inj.set j r, injWas := y.injWas.set j (at' y.inj j {}) }).adcNext a
    | .entry e =>
      let d := s.adcDecl a
      let s := s.onAdc1 a fun x =>
        let last := decide (d.entries.length ≤ e + 1)
        { x with
          res := x.res.set e r
          resWas := x.resWas.set e (at' x.res e {})
          chan := if doubt then x.chan else x.chan.set ch r
          chanWas := if doubt then x.chanWas else x.chanWas.set ch (at' x.chan ch {})
          entry := if x.entry.isNone || x.cal == 1 then none else if last then (if d.free then some 0 else none) else some (e + 1)
          runs := if last && d.free then x.runs + 1 else x.runs }
      let s := if (s.entryDecl a e).shared then
          (s.onAdc fun b => { b with plaus := modAt b.plaus (32 * (a / 2) + e) fun k =>
            if a % 2 = 0 then { k with a := some r } else { k with b := some r } }).plausCheck (a / 2) e
        else s
      s.adcNext a

/-! ## Calibration and power (R478 to R482) -/

/-- The ADC domain comes up with an image in force: all four ADCs calibrate (R478). -/
def adcUp (s : State) : State :=
  s.onAdc fun b =>
    { b with adcs := b.adcs.map fun x =>
        { x with
          st := 4, cal := 2, powerCal := true, calAt := s.now
          entry := none, job := none, queue := [], held := [], wakeAt := none } }
/-- The ADC domain goes off: it keeps no state (R32). -/
def adcDown (s : State) : State := s.onAdc fun _ => {}
/-- Gain outside 0.95 to 1.05, or offset beyond 2,048 codes (R478). -/
def calFails (ofs : Int) (gain : Word) : Bool :=
  decide (2048 < ofs.natAbs) || !(F32.le 0x3F733333 gain && F32.le gain 0x3F866666)
/-- A calibration ends. -/
def calEnd (a : Nat) (ofs : Int) (gain : Word) (s : State) : State :=
  let bad := calFails ofs gain
  let s := if bad then
      ((s.onAdc1 a fun x =>
        if x.powerCal then { x with cal := 4, ofs := 0, gain := F32.one, calBad := true } else { x with cal := 4 }).adcFlt 25 a).event 0x0681
          (le 1 a ++ le 2 (ofSigned 16 ofs) ++ le 4 gain.toNat)
    else s.onAdc1 a fun x => { x with cal := 3, ofs := ofs, gain := gain, calBad := false, calCnt := sat16 x.calCnt 1 }
  let held := (s.adc1 a).held
  let s := (s.onAdc1 a fun x => { x with st := 1, powerCal := false, held := [] }).adcFlt 22 a
  let s := each held (fun q s => s.injQueue a q.2.1 q.2.2) s
  s.adcNext a

/-! ## The latch at S(n) (R37, R470, R475, R481, R491) -/

/-- The later of two results that was complete before S(n) (R37): a after b. -/
def beforeS (s : State) (a b : AdcRes) : AdcRes := if a.num ≤ s.now - s.inPer then a else b
/-- The value the latch takes for a channel of an ADC: the partner's for a shared entry under cover. -/
def chanNow (s : State) (a ch : Nat) : AdcRes :=
  let x := s.adc1 a
  let own := s.beforeS (at' x.chan ch {}) (at' x.chanWas ch {})
  if x.st ≠ 4 then own
  else
    match (List.range (s.adcDecl a).entries.length).find? fun e => let d := s.entryDecl a e; d.shared && d.home && d.ch == ch with
    | none => own
    | some e => let r := s.beforeS (at' (s.adc1 (partner a)).res e {}) (at' (s.adc1 (partner a)).resWas e {}); if r.doubt || r.num == 0 then own else { r with cover := true }
/-- A shared entry of the channel has failed (R475). -/
def chanFailed (s : State) (a ch : Nat) : Bool :=
  (List.range (s.adcDecl a).entries.length).any fun e =>
    (s.entryDecl a e).shared && (s.entryDecl a e).ch == ch && (at' s.adc.plaus (32 * (a / 2) + e) {}).failed
/-- Latch every channel, definition and sieve with its stale flag. -/
def latchAdc (s : State) : State :=
  let chans := (List.range 4).map fun a => (List.range 32).map fun ch => s.chanNow a ch
  let news := (List.range 4).map fun a => (List.range 32).map fun ch =>
    let v := s.chanNow a ch; let o := at' (at' s.adc.latA a []) ch {}
    let fresh := decide (o.num < v.num)
    (if fresh then v else o, !fresh || s.chanFailed a ch)
  let injs := (List.range 4).map fun a => (List.range 8).map fun j =>
    let v := s.beforeS (at' (s.adc1 a).inj j {}) (at' (s.adc1 a).injWas j {}); let o := at' (at' s.adc.latJ a []) j {}
    let fresh := decide (o.num < v.num) && !v.doubt
    (if fresh then v else o, !fresh)
  let svs := (List.range 24).map fun i =>
    let x := s.sieve i; let o := at' s.adc.latS i (0, 0)
    let v := if x.num ≤ s.now - s.inPer then (x.good, x.num) else (x.goodWas, x.numWas)
    if o.2 < v.2 then (v, false) else (o, true)
  s.onAdc fun b =>
    { b with
      latA := news.map fun l => l.map (·.1), staleA := news.map fun l => l.map (·.2)
      latJ := injs.map fun l => l.map (·.1), staleJ := injs.map fun l => l.map (·.2)
      latS := svs.map (·.1), staleS := svs.map (·.2)
      adcs := b.adcs.mapIdx fun a x =>
        { x with res := x.res.mapIdx fun e r =>
            let v := at' (at' chans a []) (s.entryDecl a e).ch {}
            if v.cover && (s.entryDecl a e).shared && decide (e < (s.adcDecl a).entries.length) then v else r } }

/-! ## Modulator clocks and sieves (R486 to R491) -/

def sdcDecl (s : State) (k : Nat) : SdcDecl := at' s.cfg.sdcs k {}
/-- A modulator clock runs (R487). -/
def sdcWanted (s : State) (k : Nat) : Bool := s.adcOn && (s.sdcDecl k).en
/-- Ticks between two bits of a sieve. -/
def bitTicks (s : State) (i : Nat) : Nat := (s.sdcDecl (s.sieveDecl i).clk).div * 64
/-- Bits of a sieve up to a system time that have not come yet: one at each rising edge of its clock (R486, R488). -/
def bitsTo (s : State) (i t : Nat) : Nat := t / s.bitTicks i - (s.sieve i).bitAt / s.bitTicks i
/-- The bits of a sieve up to a system time: as many as its clock gave, where that is known. -/
def bitsFit (s : State) (i t : Nat) (l : List Bool) : Bool := !s.locked || l.length == s.bitsTo i t
/-- Bits reach a sieve, oldest first, up to a system time. -/
def bitsTake (i t : Nat) (l : List Bool) (s : State) : State :=
  let d := s.sieveDecl i
  let n := max 64 (d.order * d.osr)
  s.onSieve i fun x => { x with hist := (l.reverse ++ x.hist).take n, got := min n (x.got + l.length), bitAt := t }
/-- Sums of n neighbours along a list. -/
def boxcar (n : Nat) (l : List Int) : List Int :=
  let p := l.scanl (· + ·) 0
  List.zipWith (· - ·) (p.drop n) p
/-- The sinc^K sum over the newest bits (R489). -/
def sincSum : (k n : Nat) → List Int → Int
  | 0, _, l => l.headD 0
  | k + 1, n, l => sincSum k n (boxcar n l)
end State
open State

/-- ADC_RUN_START (R467, R469). -/
def execAdcRunStart (t : Nat) (a : Nat) (s : State) : Host.Outcome State Fault Refusal :=
  .next (s.runIf t
    (fun s =>
      let d := s.adcDecl a; let x := s.adc1 a
      s.adcOn && x.st != 0 && !d.entries.isEmpty && x.runAt != s.now + 1 && (if d.free then x.entry.isNone && x.job.isNone else s.runInstant d))
    fun s =>
      let s := s.onAdc1 a fun x => { x with runAt := s.now + 1 }
      let x := s.adc1 a
      if x.st = 4 then s
      else if x.entry.isSome then (s.onAdc1 a fun x => { x with seqOvr := sat32 x.seqOvr 1 }).adcFlt 31 a
      else if x.cal = 1 then s
      else (s.onAdc1 a fun x => { x with runs := x.runs + 1, entry := some 0 }).adcWakeUp a)
/-- ADC_CONVERSION_DONE: the sampled input was nv nanovolts (R464). -/
def execAdcConversionDone (t : Nat) (a : Nat) (nv : Int) (s : State) : Host.Outcome State Fault Refusal :=
  .next (s.runIf t (fun s => (s.adc1 a).st == 3 && (s.adc1 a).jobAt + 2560 == s.now) (convDone a nv))
/-- ADC_WAKE (R468). -/
def execAdcWake (t : Nat) (a : Nat) (s : State) : Host.Outcome State Fault Refusal :=
  .next (s.runIf t (fun s => (s.adc1 a).st == 2 && (match (s.adc1 a).wakeAt with | some w => w == s.now | none => false))
    fun s => (s.onAdc1 a fun x => { x with st := 1, wakeAt := none }).adcNext a)
/-- INJECTED_REQUEST: a PHASE or CMP trigger fires (R471). -/
def execInjectedRequest (t : Nat) (a j : Nat) (s : State) : Host.Outcome State Fault Refusal :=
  .next (s.runIf t
    (fun s => s.adcOn && at' (s.adc1 a).asked j 0 != s.now + 1 && (match s.injDecl a j with | some d => s.injFires d.trig | none => false))
    fun s => (s.askedNow a j).injRequest a j)

/-- A command that needs the housekeeping cores while they switch (R689). -/
def State.fwSwitching (s : State) : Bool := s.img.fwSt == 3
/-- ADC_CAL (R479, R482). -/
def cmdAdcCal : Cmd where
  opcode := 0x0601
  lens := noPayload
  fields := fun h _ _ => firstBad [(decide (3 < h.target), noField)]
  block := fun h _ s =>
    let busy (x : Adc1) : Bool := x.cal == 1 || x.st == 4
    blockCause [(busy (s.adc1 h.target), 1), (busy (s.adc1 (partner h.target)), 2), (!s.adcOn, 6), (s.fwSwitching, 0x51)]
  act := fun h _ s => (s.onAdc1 h.target fun x => { x with cal := 1 }, { status := 1 })
/-- ADC_INJECT (R471, R472). -/
def cmdAdcInject : Cmd where
  opcode := 0x0602
  lens := (· == 4)
  fields := fun h p _ => firstBad [(decide (3 < h.target), noField), zeros p 1 3]
  block := fun h p s =>
    let d := s.injDecl h.target (field p 0 1)
    let x := if (s.adc1 h.target).st = 4 && (match d with | some d => decide (d.ch < 24) | none => false) then partner h.target else h.target
    blockCause
      [(match d with | some d => d.trig != .host | none => true, 4), (!s.adcOn, 6),
       (decide (4 ≤ (s.adc1 x).queue.length), 7)]
  act := fun h p s => (s.injRequest h.target (field p 0 1), {})
/-- Start a DOUBT interval of an input (R484). -/
def State.doubtFor (n : Option Nat) (ticks : Nat) (s : State) : State :=
  match n with
  | some n => s.onAdc fun b => { b with doubt := (n, s.now, s.now + ticks) :: b.doubt.filter fun d => decide (s.now < d.2.2 + 2560) }
  | none => s
/-- TDAC_SET (R483, R484). -/
def cmdTdacSet : Cmd where
  opcode := 0x0603
  lens := (· == 4)
  fields := fun h p _ => firstBad [(decide (1 < h.target), noField), (decide (4095 < field p 0 2), 0), zeros p 2 2]
  block := fun _ _ s => blockCause [(!s.adcOn, 6)]
  act := fun h p s =>
    let k := at' s.adc.tdac h.target (0, none)
    ((s.onAdc fun b => { b with tdac := b.tdac.set h.target (field p 0 2, k.2) }).doubtFor k.2 (2 * Config.us), {})
/-- Switch a test DAC into an input, or out (R484). -/
def State.tdacTo (d : Nat) (n : Option Nat) (s : State) : State :=
  let k := at' s.adc.tdac d (0, none)
  if k.2 = n then s
  else (((s.onAdc fun b => { b with tdac := b.tdac.set d (k.1, n) }).doubtFor k.2 (3 * Config.us)).doubtFor n (3 * Config.us))
/-- INJECT ends: both test DACs are disconnected (R681). -/
def State.tdacsOff (s : State) : State := (s.tdacTo 0 none).tdacTo 1 none
/-- The input feeds a bench input word of a loop whose group is enabled (R485). -/
def State.ainLive (s : State) (n : Nat) : Bool :=
  let feeds : InSrc → Bool
    | .adc a ch _ _ => ainOf a ch == some n
    | .inj a j _ _ => (match s.injDecl a j with | some d => ainOf a d.ch == some n | none => false)
    | _ => false
  s.cfg.benches.any fun b => b.inputs.any fun i => feeds i.src && i.groups.any s.groupEnabled
/-- TDAC_CONNECT (R484, R485). -/
def cmdTdacConnect : Cmd where
  opcode := 0x0604
  lens := (· == 4)
  fields := fun h p _ =>
    firstBad [(decide (1 < h.target), noField), (decide (47 < field p 0 1) && field p 0 1 != 0xFF, 0), zeros p 1 3]
  block := fun h p s =>
    let n := field p 0 1
    blockCause
      [(n != 0xFF && s.ainLive n && !s.overlay 1, 3), (n != 0xFF && (at' s.adc.tdac (1 - h.target) (0, none)).2 == some n, 5), (!s.adcOn, 6)]
  act := fun h p s => (s.tdacTo h.target (if field p 0 1 = 0xFF then none else some (field p 0 1)), {})
/-- ADC_CAL. -/
def execAdcCal (t : Nat) (h : RecHdr) (s : State) : Host.Outcome State Fault Refusal := .next (hostRow cmdAdcCal t h [] s)
/-- ADC_INJECT. -/
def execAdcInject (t : Nat) (h : RecHdr) (d : Nat) (s : State) : Host.Outcome State Fault Refusal :=
  .next (hostRow cmdAdcInject t h (le 1 d ++ le 3 0) s)
/-- TDAC_SET. -/
def execTdacSet (t : Nat) (h : RecHdr) (code : Nat) (s : State) : Host.Outcome State Fault Refusal :=
  .next (hostRow cmdTdacSet t h (le 2 code ++ le 2 0) s)
/-- TDAC_CONNECT. -/
def execTdacConnect (t : Nat) (h : RecHdr) (input : Nat) (s : State) : Host.Outcome State Fault Refusal :=
  .next (hostRow cmdTdacConnect t h (le 1 input ++ le 3 0) s)
/-- CALIBRATION_RUNNING: the injected queue is empty; entries not started are abandoned (R479). -/
def execCalibrationRunning (t : Nat) (a : Nat) (s : State) : Host.Outcome State Fault Refusal :=
  .next (s.runIf t (fun s => let x := s.adc1 a; x.cal == 1 && x.job.isNone && x.queue.isEmpty && (x.st == 1 || x.st == 2)) fun s =>
    -- the partner no longer waits for this ADC at a shared entry
    (s.onAdc1 a fun x => { x with st := 4, cal := 2, entry := none, wakeAt := none, calAt := s.now }).adcNext (partner a))
/-- CALIBRATION_END: 40 us after RUNNING, with the offset and gain found (R478, R479). -/
def execCalibrationEnd (t : Nat) (a : Nat) (ofs : Int) (gain : Word) (s : State) : Host.Outcome State Fault Refusal :=
  .next (s.runIf t (fun s => (s.adc1 a).st == 4 && (s.adc1 a).calAt + 40 * Config.us == s.now) (calEnd a ofs gain))

/-- SDC_START_STOP (R487): a sieve counts its bits anew from the start of its clock (R491). -/
def execSdcStartStop (t : Nat) (k : Nat) (s : State) : Host.Outcome State Fault Refusal :=
  .next (s.runIf t (fun s => decide (k < 6) && at' s.adc.sdcRun k false != s.sdcWanted k) fun s =>
    let on := s.sdcWanted k
    s.onAdc fun b =>
      { b with sdcRun := b.sdcRun.set k on
               svs := b.svs.mapIdx fun i x => if (s.sieveDecl i).clk = k then { x with got := 0, hist := [], valid := false, bitAt := s.sysTime } else x })
/-- SIEVE_OUTPUT: an output is complete 40 ns after its instant; stream holds the bits that came up to that instant, oldest first
(R489 to R491). -/
def execSieveOutput (t : Nat) (i : Nat) (stream : List Bool) (s : State) : Host.Outcome State Fault Refusal :=
  .next (s.runIf t
    (fun s =>
      let d := s.sieveDecl i; let b := s.bitTicks i
      d.en && at' s.adc.sdcRun d.clk false && decide (512 ≤ s.sysTime) && (s.sysTime - 512 + d.ofs * b) % (d.osr * b) == 0 &&
        s.bitsFit i (s.sysTime - 512) stream)
    fun s =>
      let d := s.sieveDecl i; let x := s.sieve i
      let n := d.order * d.osr
      -- bits that came within the 40 ns since are not part of it
      let after := x.bitAt / s.bitTicks i - (s.sysTime - 512) / s.bitTicks i
      let hist := (stream.reverse ++ x.hist.drop after).take n
      let got := x.got - after + stream.length
      let s := if after = 0 then s.bitsTake i (s.sysTime - 512) stream else s
      let valid := !x.stuck && decide (n ≤ got)
      let num := sincSum d.order d.osr (hist.map fun b => if b then 1 else -1) * 1073741824
      let den : Int := d.osr ^ d.order
      -- the error of the normalisation is below one unit, no more is fixed (R489); no output is given before it is valid
      let exact := num % den == 0
      let out : Int :=
        if valid then num / den + (if exact then 0 else (s.freeWord.toNat % 2 : Nat))
        else ((s.freeWord.toNat % 2147483649 : Nat) : Int) - 1073741824
      let s := if valid && exact then s else s.drawn
      let sat := valid && decide (1006632960 ≤ out.natAbs)
      let s := s.onSieve i fun x =>
        { x with out := out, valid := valid, settling := !valid, cnt := (x.cnt + 1) % M32
                 good := if valid then out else x.good, num := if valid then s.now + 1 else x.num
                 goodWas := if valid then x.good else x.goodWas, numWas := if valid then x.num else x.numWas, evt := if sat then setBit x.evt 15 else x.evt }
      if sat then s.onAdc fun b => { b with flt := setBit b.flt 23, fltSieve := i } else s)
/-- A run of 64 identical bits of a level, newest first. -/
def sixtyFour (level : Bool) (l : List Bool) : Bool := decide (64 ≤ l.length) && (l.take 64).all (· == level)
/-- SIEVE_STUCK: 64 consecutive identical bits (R491); stream holds the bits that came up to now, oldest first. -/
def execSieveStuck (t : Nat) (i : Nat) (level : Bool) (stream : List Bool) (s : State) : Host.Outcome State Fault Refusal :=
  .next (s.runIf t
    (fun s =>
      let d := s.sieveDecl i
      d.en && at' s.adc.sdcRun d.clk false && !(s.sieve i).stuck && s.bitsFit i s.sysTime stream &&
        sixtyFour level (stream.reverse ++ (s.sieve i).hist))
    fun s =>
      let s := s.bitsTake i s.sysTime stream
      ((s.onSieve i fun x => { x with stuck := true, level := level, valid := false, evt := setBit x.evt 14 }).onAdc fun b =>
        { b with flt := setBit b.flt 24, fltSieve := i }).event 0x0682 (le 1 i ++ le 1 (bit level)))
/-- SIEVE_LEAVES_STUCK: a bit that differs has come, the last of stream; bits count anew with it (R491). -/
def execSieveLeavesStuck (t : Nat) (i : Nat) (stream : List Bool) (s : State) : Host.Outcome State Fault Refusal :=
  .next (s.runIf t
    (fun s =>
      (s.sieve i).stuck && s.bitsFit i s.sysTime stream && stream.getLast? == some (!(s.sieve i).level) &&
        stream.dropLast.all (· == (s.sieve i).level))
    fun s => (s.bitsTake i s.sysTime stream).onSieve i fun x => { x with stuck := false, got := 1, hist := x.hist.take 1 })

end Sys2Proof.Machine
end

