-- ==== Sys2Proof/Machine/ModeOps.lean ====
section
/-! DEFINITION. Entering and leaving operating modes, the causes of SAFE, fencing and the test overlays (R411 to R453, R629, R674, R681). -/
namespace Sys2Proof.Machine.State

/-- A condition of an accepted time load no longer holds: DETAIL code d (R174). -/
def loadFail (d : Nat) (s : State) : State :=
  s.onClk fun c => { c with load := c.load.map fun l => if l.sure then l else { l with bad := setBit l.bad d } }
/-- Every cell context ABSENT, nothing of a conversation kept but the seats (R258). -/
def cellsAbsent (s : State) : State :=
  each ((List.range 128).filter fun c => (s.cell c).st != 0) (fun c s =>
    (s.onTalk c fun t => { seat := t.seat, tag := t.tag }).cellTo c 0 0) s
/-- SYNTHETIC begins: a model context, ACTIVE with TLOCK, for each declared cell (R685). -/
def synthBegin (s : State) : State :=
  let s := s.cellsAbsent
  let s := s.outsTo fun _ x => { lpwmOff x with gated := true }
  s.onSeam fun b => { b with cells := b.cells.mapIdx fun c x => if s.declared c then { x with st := 2, tlock := true } else x }
/-- SYNTHETIC ends: model contexts go, the gates are held only by trips, thermal estimates start anew (R685, R391). -/
def synthEnd (s : State) : State :=
  let s := s.cellsAbsent
  let m := s.tripLpwm
  let s := s.onEdg fun e => { e with lpwm := e.lpwm.mapIdx fun j x => { x with gated := m.testBit j } }
  s.onBal fun b => { b with cells := b.cells.map fun x => { x with therm := 0, ch := [], dth := 0, factor := F32.one, restart := false } }
/-- End the overlays of a mask (R679, R681); own: the controller ends them by a change of its own (R674). -/
def ovlEnd (m : Nat) (own : Bool) (s : State) : State :=
  let m := m &&& s.modeQ.ovl
  if m = 0 then s
  else
    let s := s.onModeQ fun q => { q with ovl := q.ovl ^^^ m, ended := q.ended || own, tpGroup := if m.testBit 2 then 0 else q.tpGroup }
    let s := if m.testBit 0 then s.testsEnd else s
    let s := if m.testBit 1 then s.tdacsOff else s
    if m.testBit 4 then s.synthEnd else s
/-- Overlays a mode does not allow; TESTPULSE ends with any mode change (R681). -/
def ovlBanned (m : Nat) : Nat := (if m = 0 then 0 else 1) + (if [0, 1, 2, 8].contains m then 0 else 2) + 4
/-- The mode in force changes (R412, R456, R460); own: by the controller itself. -/
def modeTo (m : Nat) (own : Bool) (s : State) : State :=
  if s.mode.mode = m then s
  else
    let s := s.ovlEnd (ovlBanned m) own
    let s := s.onMode fun x =>
      { x with mode := m, sub := 0, per := s.per, evt := setBit x.evt 8, sps := x.sps.map fun p => { p with locked := false, tgt := p.cmd } }
    let s := s.onModeQ fun q => { q with gpReq := m != 0 && m != 8, tpRun := none }
    let s := s.onBnc fun b => { b with trace := { b.trace with evMode := true } }
    if m = 0 then s else s.loadFail 1

/-! ## Fencing (R629) -/

/-- Local outputs and output GPIOs high-impedance. -/
def lpwmHiz (s : State) : State :=
  (s.outsTo fun _ x => { lpwmOff x with hiz := true }).onSys fun y => { y with gpioHiz := true }
/-- A member fences: cause 0 a later epoch, 1 resignation (R629, R641). -/
def fence (cause epoch : Nat) (s : State) : State :=
  let s := s.dropFlight.onPair fun p =>
    { p with st := 6, heartbeat := false, mirror := false, handover := none, taking := false, takeSafe := false, syncOut := false, evt := setBit p.evt 3 }
  (s.lpwmHiz).event 0x0981 (le 1 cause ++ le 1 0 ++ le 2 epoch)
/-- The partner is healthy: HEALTHY is set in its last health word, which is no more than 2 periods old (R624). -/
def partnerHealthy (s : State) : Bool :=
  s.pair.peerHealthy && (match s.pair.peerAt with | some a => decide (s.now ≤ a + 2 * s.tick) | none => false)
/-- An ACTIVE member with a healthy STANDBY. -/
def activeCovered (s : State) : Bool := s.role == 1 && s.partnerHealthy && s.pair.st == 4
/-- Resignation: RESIGN to the partner, then fencing (R629). -/
def resign (cause : Nat) (s : State) : State := (s.pairSend (.resign cause)).fence 1 s.seam.epoch

/-! ## SAFE (R450 to R452) -/

/-- Class of a reason: 0 LOCAL, 1 PLANT (R450). -/
def causeClass (reason : Nat) : Nat := if 2 ≤ reason ∧ reason ≤ 6 then 0 else 1
/-- The event record of an entry to SAFE, or of a later cause (R451, R456). -/
def safeEvent (reason index : Nat) (s : State) : State :=
  s.event (0x0200 + reason) (le 1 s.mode.mode ++ le 1 (causeClass reason) ++ le 2 index ++ le 4 s.per)
/-- A cause of SAFE acts (R418, R450 to R452). -/
def enterSafe (reason index : Nat) (s : State) : State :=
  if s.mode.mode = 0 then
    s.onMode fun x => { x with reason := reason, cls := causeClass reason, index := index, inOff := true }
  else if s.mode.mode = 8 then s.safeEvent reason index
  else if causeClass reason = 0 ∧ s.activeCovered then s.resign reason
  else
    let s := s.safeEvent reason index
    let s := (s.modeTo 8 true).onMode fun x => { x with reason := reason, cls := causeClass reason, index := index, inOff := false, safeAt := s.now }
    (s.internalTrip).sendSymbol 9 s.boundaryAfter
/-- A cause that the next decision takes (R412, R451). -/
def cause (reason index : Nat) (s : State) : State := s.onModeQ fun q => { q with causes := q.causes ++ [(reason, index)] }

/-- A LOCAL cause with which an ACTIVE member's heartbeat stops (R302, R338): where its STANDBY is healthy it resigns at once
(R629); else the cause waits for the next decision. -/
def heartbeatStop (reason index : Nat) (s : State) : State :=
  if s.activeCovered then s.resign reason
  else (if s.role = 1 then s.onPair fun p => { p with heartbeat := false } else s).cause reason index

/-- MODE_SET OFF accepted in SAFE or OFF (R453). -/
def safeOff (s : State) : State :=
  let s := s.onEdg fun e => { e with stopped := false }
  let s := s.onBnc fun b => { b with escalated := false, benches := b.benches.map fun x => { x with faulted := false } }
  let s := s.clearTrips [35]
  let live := (List.range 128).filter fun c => s.declared c && (s.cell c).st != 0 && (s.cell c).st != 6
  each live (fun c s =>
    let t := s.talk c
    let s := if t.queue.any (·.why == 4) || (match t.ctrl with | some o => o.why == 4 | none => false) then s else s.sendCtrl c 9 0 [] 4
    s.onTalk c fun t => { t with rejoin := true }) s

end Sys2Proof.Machine.State
end

