-- ==== Sys2Proof/Machine/Clock.lean ====
section
/-! DEFINITION. SYSPLL, OUTPLL, clock outputs, system time and trims (R153 to R196). -/
namespace Sys2Proof.Machine
namespace State

/-! ## Clock outputs (R176 to R182) -/

/-- f_NCO in units of 50 MHz / 2^20. -/
def ncoUnits (c : Clk) : Nat := c.pllM * 1048576 + c.pllF
/-- f_NCO lies between 3.0 and 4.0 GHz with M in range (R176). -/
def pllOk (m f : Nat) : Bool := decide (60 ≤ m ∧ m ≤ 80 ∧ m * 1048576 + f ≤ 80 * 1048576)
/-- Greatest frequency of a format in MHz (R177). -/
def fmtMax (fmt : Nat) : Nat := if fmt = 0 then 200 else if fmt = 1 then 100 else if fmt = 2 then 400 else 250
/-- Output frequency within its format's limit. -/
def outFreqOk (c : Clk) (o : ClkOut) : Bool := o.div != 0 && decide (50 * ncoUnits c ≤ fmtMax o.fmt * o.div * 1048576)
/-- An output may run (R178). -/
def outMay (s : State) (o : ClkOut) : Bool := o.en && s.locked && s.clk.outSt == 2 && !s.img.hostWait && outFreqOk s.clk o
/-- The offset in force of an output: one step per output cycle toward the target (R182). -/
def fnow (s : State) (o : ClkOut) : Int :=
  if !o.run || o.div = 0 then o.target
  else
    let n : Int := ((s.now - o.at_) * ncoUnits s.clk / (256 * o.div * 1048576) : Nat)
    if o.base ≤ o.target then min o.target (o.base + n) else max o.target (o.base - n)
/-- Outputs start and stop as R178 has it; an output off takes its target at once (R182). -/
def outsSync (s : State) : State :=
  s.onClk fun c => { c with outs := c.outs.map fun o =>
    let r := s.outMay o
    if r && o.run then o else { o with run := r, base := o.target, at_ := s.now } }
/-- Every running output stops and OUTPLL acquires, with the settings of its lock register (R157, R176, R180). -/
def outpllRelock (s : State) : State :=
  (s.onClk fun c =>
    { c with outSt := if pllOk c.pllM c.pllF && (c.st == 4 || c.st == 5) then 1 else 0, outUse := c.outLock, outAt := s.now }).outsSync

/-- What stands on the two balls of a clock output, _P and _N (R177, R178). -/
def outBalls (o : ClkOut) : Ball × Ball :=
  if o.run then (.toggles, if o.fmt < 2 then .hiZ else .toggles)
  else if o.offZ then (.hiZ, .hiZ)
  else (.low, if o.fmt < 2 then .hiZ else if o.fmt = 2 then .high else .low)
/-- CLKOUTn_P and CLKOUTn_N. -/
def clkBalls (s : State) (n : Nat) : Ball × Ball := outBalls (at' s.clk.outs n {})

/-! ## SYSPLL (R154 to R168) -/

/-- Band of a count (R154). -/
def bandOf (n : Nat) : Option Nat :=
  if 230 ≤ n ∧ n ≤ 285 then some 0 else if 460 ≤ n ∧ n ≤ 570 then some 1
  else if 920 ≤ n ∧ n ≤ 1140 then some 2 else if 1437 ≤ n ∧ n ≤ 1778 then some 3 else none
/-- Hundredths of a tick per reference cycle (R161). -/
def refCycle (band : Nat) : Nat := at' [51200, 25600, 12800, 8192] band 51200
/-- A: ticks between alignment points (R161). -/
def alignTicks (band : Nat) : Nat := at' [512, 256, 128, 2048] band 512
/-- A slew ends where it is: what it has moved stays in system time, which never steps (R166). -/
def slewStop (s : State) : State := { s with ofs := (s.ofs + s.slewAdds) % 2 ^ 64, clk := { s.clk with slewing := false, holdErr := 0 } }
/-- A slew begins that takes up an error (R166). -/
def slewStart (e : Int) (s : State) : State := s.slewStop.onClk fun c => { c with slewing := true, holdErr := e, stepAt := s.now }
/-- SYSPLL enters SEARCH, which is a lock to REFCLK with the settings its lock register then holds: islands on the fallback
oscillator, no output runs (R157, R162, R178; that REFCLK is the reference of every search, DEDUCED, log entry 188). -/
def searchStart (s : State) : State :=
  ((s.slewStop.onClk fun c =>
    { c with st := 1, onFallback := true, onMesh := false, onHeld := false, sysUse := c.sysLock, stepAt := s.now, fails := 0, waiting := false }).loadFail 3).outsSync
/-- A count of REFCLK edges is judged (R154). -/
def refCount (n : Nat) (s : State) : State :=
  match bandOf n with
  | some b => (s.onClk fun c => { c with refFreq := b, refPresent := true, refBad := false }).searchStart
  | none => s.onClk fun c => { c with refPresent := n != 0, refBad := true, countAt := s.now }
/-- SYSPLL enters LOCKED (R162, R172, R190); OUTPLL acquires where it was off. -/
def enterLocked (s : State) : State :=
  let s := s.slewStop.onClk fun c =>
    { c with
      st := 4, onFallback := false, diverged := false, refChanged := false, onHeld := false
      meshOnce := c.meshOnce || c.onMesh, refPresent := c.refPresent || !c.onMesh, started := true, fails := 0 }
  if s.clk.outSt = 0 then s.outpllRelock else s.outsSync
/-- System time starts at 0 at the first lock after power-on (R172). -/
def timeStart (s : State) : State := if s.clk.started then s else { s.slewStop with ofs := 2 ^ 64 - s.now % 2 ^ 64 }
/-- SYSPLL enters HOLDOVER (R162). -/
def holdover (s : State) : State :=
  let was := s.clk.st
  (s.slewStop.onClk fun c => { c with
    st := 5, stepAt := s.now
    evt := if was = 4 then setBit (setBit c.evt 13) 12 else setBit c.evt 13 }).loadFail 3
/-- e of a REFCLK return: system time less the nearest alignment point, at half the later one (R166). -/
def alignErr (a t : Nat) : Int := let r := t % a; if 2 * r < a then (r : Int) else (r : Int) - a
/-- Re-lock to a REFCLK that came back in another band (R167). -/
def refRelock (s : State) : State := (s.onClk fun c => { c with refFreq := c.newBand }).searchStart
/-- No compile's result is left to ship. -/
def compileGone (s : State) : State := s.onComp fun k => { k with done := false, cells := [], locals := [], slow := [] }
/-- What leaving LOCKED or HOLDOVER for SEARCH does outside OFF (R163): LPWM off, no EDGE frame, SAFE, an ACTIVE member's
heartbeat stopped. -/
def clockLost (s : State) : State :=
  if s.mode.mode = 0 then s
  else
    let active := s.role == 1
    let s := (s.allOff.compileGone).enterSafe 2 0
    if active then s.onPair fun p => { p with heartbeat := false } else s

/-! ## CLK registers written (R180, R182, R192, R194, R195) -/

/-- CLK_SYS_LOCK or CLK_OUT_LOCK of a word; none where a field is out of range. -/
def lockOf (v : Word) : Option LockCfg :=
  let n := v.toNat
  let c : LockCfg := { w := bits n 31 24, lol := bits n 23 20, n := bits n 15 0 }
  if 1 ≤ c.w ∧ 1 ≤ c.lol ∧ 16 ≤ c.n then some c else none
/-- CLK_OUTPLL_CFG. -/
def writeOutpll (v : Word) (s : State) : State :=
  let m := bits v.toNat 31 24; let f := bits v.toNat 19 0
  if pllOk m f then (s.onClk fun c => { c with pllM := m, pllF := f }).outpllRelock else s
/-- CLK_OUTn_CFG: EN, OFF_STATE, FMT and DIV; a change of EN, FMT or DIV stops and starts the output. -/
def setOut (n : Nat) (o : OutCfg) (s : State) : State :=
  (s.onClk fun c => { c with outs := modAt c.outs n fun x =>
    let same := x.en == o.en && x.fmt == o.fmt && x.div == o.div
    { x with en := o.en, offZ := o.offZ, fmt := o.fmt, div := o.div, run := x.run && same } }).outsSync
def outOf (v : Word) : OutCfg :=
  let n := v.toNat
  { en := tbit n 31, offZ := tbit n 30, fmt := bits n 29 28, div := bits n 11 0 }
def writeOutCfg (n : Nat) (v : Word) (s : State) : State :=
  let o := outOf v
  if 8 ≤ o.div ∧ o.div ≤ 4000 then s.setOut n o else s
/-- CLK_OUTn_FSTEP. -/
def writeFstep (n : Nat) (v : Word) (s : State) : State :=
  let tg := toSigned 16 v.toNat
  s.onClk fun c => { c with outs := modAt c.outs n fun o => { o with base := if o.run then s.fnow o else tg, at_ := s.now, target := tg } }
/-- The settings an image's CALDEFAULTS bring: every running output stops, OUTPLL locks again where its settings changed,
the enabled outputs start again (R90, R180, R192, R194, R195). -/
def clkCal (d : CalDecl) (s : State) : State :=
  let moved := s.clk.pllM != d.pllM || s.clk.pllF != d.pllF
  let s := s.onClk fun c =>
    { c with sysLock := d.sysLock, outLock := d.outLock, pllM := d.pllM, pllF := d.pllF, outs := c.outs.map fun o => { o with run := false } }
  let s := if moved then s.outpllRelock else s
  each (List.range 4) (fun n s => s.setOut n (at' d.outs n {})) s
/-- A direct write: to the node BAR0 shows, refused where R658, R678 or R698 says so, journalled when it changes the register, then made
(R105, R604, R656). -/
def direct (ifc : Iface) (dom off : Nat) (v : Word) (changes : State → Bool) (f : State → State) (s : State) : State :=
  if s.viewed ifc.src off then s.remoteWrite off v
  else if !s.pwr.warm && s.standby then s.spoilDirect ifc.src off 0x10 3
  else s.writable ifc.src dom off fun s => f (if changes s then s.jDirect ifc.src off v else s)

/-! ## Trims (R183 to R186) -/

/-- A die sensor is reported failed. -/
def dieBad (s : State) (i : Nat) : Bool := s.bal.dieFail.testBit i
/-- A compensation table of 64 bytes (R184): TARGET, the sensors, the points. -/
def trimTarget (b : Bytes) : Nat := field b 0 1
def trimPrimary (b : Bytes) : Nat := field b 1 1
def trimAlternate (b : Bytes) : Nat := field b 2 1
def trimPoints (b : Bytes) : List Int := (List.range 19).map fun k => toSigned 16 (field b (4 + 2 * k) 2)
/-- The trim a table calls for at a temperature in eighths of a degree, times 80 (R184). -/
def trim80 (points : List Int) (temp : Int) : Int :=
  let x := temp + 360
  if x ≤ 0 then 80 * at' points 0 0
  else if 1440 ≤ x then 80 * at' points 18 0
  else
    let k := (x / 80).toNat
    let r := x % 80
    at' points k 0 * (80 - r) + at' points (k + 1) 0 * r
end State
open State

/-- REF_FREQUENCY_COUNT. -/
def execRefFrequencyCount (t : Nat) (count : Nat) (s : State) : Host.Outcome State Fault Refusal :=
  .next (s.runIf t (fun s => s.pwr.dom.testBit 14 && s.clk.st == 0 && !s.clk.refBad) (refCount count))
/-- REF_COUNT_RETRY: every 100 us while REF_BAD is set. -/
def execRefCountRetry (t : Nat) (count : Nat) (s : State) : Host.Outcome State Fault Refusal :=
  .next (s.runIf t (fun s => s.pwr.dom.testBit 14 && s.clk.st == 0 && s.clk.refBad && decide (s.clk.countAt + 100 * Config.us ≤ s.now))
    (refCount count))
/-- BAND_FOUND: after 6 steps of 64 reference cycles (R157). -/
def execBandFound (t : Nat) (s : State) : Host.Outcome State Fault Refusal :=
  .next (s.runIf t (fun s => s.clk.st == 1 && !s.clk.waiting && decide (100 * s.clk.stepAt + 384 * refCycle s.clk.refFreq ≤ 100 * s.now)) fun s => s.onClk fun c => { c with st := 2, stepAt := s.now })
/-- ACQUISITION_TIMEOUT (R158): the fourth failed search in a row sets LOCK_FAIL. -/
def execAcquisitionTimeout (t : Nat) (s : State) : Host.Outcome State Fault Refusal :=
  .next (s.runIf t (fun s => s.clk.st == 2 && decide (s.clk.stepAt + 150 * Config.us ≤ s.now)) fun s =>
    s.onClk fun c =>
      let n := c.fails + 1
      { c with st := 1, stepAt := s.now, fails := n, waiting := decide (4 ≤ n), evt := if 4 ≤ n then setBit c.evt 14 else c.evt })
/-- LOCK_SEARCH_RETRY: every 10 ms after LOCK_FAIL. -/
def execLockSearchRetry (t : Nat) (s : State) : Host.Outcome State Fault Refusal :=
  .next (s.runIf t (fun s => s.clk.st == 1 && s.clk.waiting && decide (s.clk.stepAt + 10 * Config.ms ≤ s.now)) fun s =>
    s.onClk fun c => { c with waiting := false, stepAt := s.now })
/-- A loop's phase error stayed inside ±W for N consecutive reference cycles (R157): the greatest magnitude, in TDC steps, over
the cycles counted. -/
def inWindow (c : LockCfg) (cycles peak : Nat) : Bool := decide (c.n ≤ cycles ∧ peak ≤ c.w)
/-- A loop's phase error lay outside ±4 × W, capped at ±1,023, for LOL_CNT consecutive reference cycles (R159): the least
magnitude over the cycles counted. -/
def outOfWindow (c : LockCfg) (cycles least : Nat) : Bool := decide (c.lol ≤ cycles ∧ min (4 * c.w) 1023 < least)
/-- LOCK_DECLARED: N reference cycles inside the window (R157). -/
def execLockDeclared (t cycles peak : Nat) (s : State) : Host.Outcome State Fault Refusal :=
  .next (s.runIf t (fun s => s.clk.st == 2 && inWindow s.clk.sysUse cycles peak &&
      decide (100 * s.clk.stepAt + cycles * refCycle s.clk.refFreq ≤ 100 * s.now)) fun s =>
    s.onClk fun c => { c with st := 3, stepAt := s.now })
/-- ALIGNMENT_DONE. -/
def execAlignmentDone (t : Nat) (s : State) : Host.Outcome State Fault Refusal :=
  .next (s.runIf t (fun s => s.clk.st == 3) fun s => (s.timeStart).enterLocked)
/-- REFERENCE_LOSS: REFCLK absent for 4 expected cycles. -/
def execReferenceLoss (t : Nat) (s : State) : Host.Outcome State Fault Refusal :=
  .next (s.run t fun s =>
    let s := s.onClk fun c => { c with refPresent := false }
    if s.clk.st = 4 ∧ !s.clk.onMesh then s.holdover
    else if s.clk.st = 5 ∧ s.clk.slewing ∧ !s.clk.onMesh then s.slewStop.onClk fun c => { c with evt := setBit c.evt 13 }
    else if s.clk.onHeld then s.onClk fun c => { c with onHeld := false, evt := setBit c.evt 13 }
    else s)
/-- LOSS_OF_LOCK: by the window, or because the control word reaches a clamp limit (R159). -/
def execLossOfLock (t cycles least : Nat) (clamp : Bool) (s : State) : Host.Outcome State Fault Refusal :=
  .next (s.runIf t (fun s => (s.clk.st == 4 || s.clk.st == 5) && (clamp || outOfWindow s.clk.sysUse cycles least)) fun s =>
    (s.onClk fun c => { c with evt := setBit c.evt 15 }).searchStart.clockLost)
/-- REFCLK is back, in the band counted (R162, R166, R167). -/
def State.refReturn (band : Nat) (s : State) : State :=
  let s := s.onClk fun c => { c with refPresent := true }
  if s.clk.st ≠ 5 ∨ s.clk.slewing then s
  else if band ≠ s.clk.refFreq then
    let s := s.onClk fun c => { c with refChanged := true, newBand := band }
    if s.mode.mode = 0 ∨ s.img.hostWait then s.refRelock else s
  else if s.clk.onMesh then s.onClk fun c => { c with onHeld := true }
  else s.slewStart (alignErr (alignTicks band) s.sysTime)
/-- The mesh reference is back, with system time less the master's (R166). -/
def State.meshReturn (err : Int) (s : State) : State :=
  if s.clk.st ≠ 5 ∨ s.clk.slewing ∨ !s.clk.onMesh then s
  else if 256 < err.natAbs then s.onClk fun c => { c with diverged := true }
  else (s.slewStart err).onClk fun c => { c with onHeld := false }
/-- REFERENCE_RETURN: the band counted for a REFCLK, the error against the master's time for the mesh. -/
def execReferenceReturn (t : Nat) (mesh : Bool) (band : Nat) (err : Int) (s : State) : Host.Outcome State Fault Refusal :=
  .next (s.run t (if mesh then State.meshReturn err else State.refReturn band))
/-- SLEW_DONE: a slew of at most 20 ppm has brought the error within 1 tick. -/
def execSlewDone (t : Nat) (s : State) : Host.Outcome State Fault Refusal :=
  .next (s.runIf t (fun s => s.clk.st == 5 && s.clk.slewing && decide (s.slewErr.natAbs ≤ 1)) enterLocked)
/-- REF_CHANGE_RELOCK (R167): at the first sample latch in OFF, or at once in HOST-WAIT. -/
def execRefChangeRelock (t : Nat) (s : State) : Host.Outcome State Fault Refusal :=
  .next (s.runIf t (fun s => s.clk.st == 5 && s.clk.refChanged && (s.img.hostWait || s.mode.mode == 0 && s.inPer == 0)) refRelock)
/-- MESH_REFERENCE_LOSS: REFCLK, where present, holds the frequency ratio (R162). -/
def execMeshReferenceLoss (t : Nat) (s : State) : Host.Outcome State Fault Refusal :=
  .next (s.runIf t (fun s => s.locked && s.clk.onMesh) fun s => s.holdover.onClk fun c => { c with onHeld := c.refPresent })
/-- Port toward the time master (R593). -/
def State.masterPort (s : State) : Nat := s.routePort s.cfg.mesh.master
/-- MESH_REFERENCE_SWITCH: once system time was taken from the master, without a phase step (R155, R175, R593). -/
def execMeshReferenceSwitch (t : Nat) (s : State) : Host.Outcome State Fault Refusal :=
  .next (s.runIf t (fun s => s.clk.st == 4 && s.inForce && s.cfg.topo.timeMesh && !s.clk.onMesh && s.mesh.timeTaken) fun s =>
    s.onClk fun c => { c with onMesh := true, meshPort := s.masterPort % 4, meshOnce := true })
/-- An image in force sets the time source (R155, R174, R175): REFCLK takes the place of a mesh reference it does not
select; the mesh must have been locked on since it came. -/
def State.clkImage (s : State) : State :=
  let mesh := s.cfg.topo.timeMesh
  let back := s.clk.onMesh && !mesh
  let s := s.onClk fun c => { c with onMesh := c.onMesh && mesh, onHeld := c.onHeld && mesh, meshOnce := c.onMesh && mesh && c.st == 4 }
  let s := if mesh then s.loadFail 2 else s
  let s := s.onMesh fun m => { m with timeTaken := s.clk.onMesh }
  if back && s.clk.st == 4 && !s.clk.refPresent then s.holdover else s

/-! ## CLK_TIME_LOAD (R174, R595) -/

/-- First multiple of 2,048 ticks at or after a time. -/
def gridAfter (t : Nat) : Nat := (t + 2047) / 2048 * 2048
/-- The load is taken, to act on this grid instant; on a mesh the symbols are sent now and make it final. -/
def State.loadTake (time : Nat) (s : State) : State :=
  let mesh := s.cfg.mesh.shape != 0
  let a := gridAfter (s.sysTime + s.diam * 1408 + Config.us)
  let s := s.onClk fun c => { c with load := some { time := time, at_ := a, sure := mesh } }
  s.sendSymbols [(0x0A, a % 2 ^ 48), (0x0B, time / 2048)]
/-- The other nodes of the mesh. -/
def State.others (s : State) : List Nat :=
  if s.cfg.mesh.shape = 0 then [] else (List.range s.cfg.mesh.nodes).filter (· != s.node)
/-- CLK_TIME_LOAD. On a mesh every node's MODE_STS is read before the load is taken. -/
def cmdClkTimeLoad : Cmd where
  opcode := 0x0A01
  lens := (· == 8)
  fields := fun h _ _ => firstBad [target0 h]
  block := fun _ p s => blockCause
    [(s.mode.mode != 0 || s.others.any fun n => !s.convUp n, 1), (s.cfg.topo.timeMesh, 2), (s.clk.st != 4, 3), (field p 0 8 % 2048 != 0, 4)]
  act := fun _ p s =>
    match s.others with
    | [] => (s.loadTake (field p 0 8), { wait := some (5, 0) })
    | l => (each l (fun n s => s.ask n 0x160000 1) s, { wait := some (5, 1), left := l })
/-- CLK_TIME_LOAD. -/
def execClkTimeLoad (t : Nat) (h : RecHdr) (time : Nat) (s : State) : Host.Outcome State Fault Refusal :=
  .next (hostRow cmdClkTimeLoad t h (le 8 time) s)
/-- The record that waits for a time load. -/
def State.loadCmd (s : State) : Option OpenCmd := s.host.opens.find? fun o => o.kind == 5
/-- A node's MODE_STS has come back to a waiting time load: refused unless every node is in OFF (R595). -/
def State.loadReply (n : Nat) (v : Word) (s : State) : State :=
  match s.loadCmd with
  | none => s
  | some o =>
    if !o.left.contains n then s
    else if bits v.toNat 31 28 ≠ 0 ∨ s.mode.mode ≠ 0 then s.refuseOpen o (.block 1)
    else if s.clk.st ≠ 4 then s.refuseOpen o (.block 3)
    else
      let o' := { o with left := o.left.filter (· != n) }
      let s := s.onHost fun x => { x with opens := x.opens.map fun p => if p == o then o' else p }
      if o'.left.isEmpty then s.loadTake (field o.pay 0 8) else s
/-- TIME_LOAD_ACT: system time becomes TIME at the instant, or the load is cancelled. -/
def State.loadAct (s : State) : State :=
  match s.clk.load with
  | none => s
  | some l =>
    let s := s.onClk fun c => { c with load := none }
    let cmd := if l.remote then none else s.loadCmd
    if l.bad ≠ 0 then
      match cmd with
      | some o => s.refuseOpen o (.block (((List.range 4).find? l.bad.testBit).getD 1))
      | none => s
    else
      let s := { s with ofs := (s.ofs + l.time + 2 ^ 64 - l.at_ % 2 ^ 64) % 2 ^ 64 }
      -- the bits of the sieves go on from the new time
      let s := s.onAdc fun b => { b with svs := b.svs.map fun x => { x with bitAt := s.sysTime } }
      match cmd with
      | some o => s.answerOpen o { per := some s.per }
      | none => s
/-- TIME_LOAD_ACT. -/
def execTimeLoadAct (t : Nat) (s : State) : Host.Outcome State Fault Refusal :=
  .next (s.runIf t (fun s => match s.clk.load with | some l => decide (l.at_ ≤ s.sysTime) | none => false) State.loadAct)

/-! ## OUTPLL and the outputs -/

/-- OUTPLL_LOCKED: by R157, with the 50 MHz reference of 256 ticks a cycle (R176). -/
def execOutpllLocked (t cycles peak : Nat) (s : State) : Host.Outcome State Fault Refusal :=
  .next (s.runIf t (fun s => s.clk.outSt == 1 && s.locked && inWindow s.clk.outUse cycles peak &&
      decide (s.clk.outAt + 256 * (384 + cycles) ≤ s.now)) fun s => (s.onClk fun c => { c with outSt := 2 }).outsSync)
/-- OUTPLL_LOSS_OF_LOCK: by its window, as R159 has it for SYSPLL (R176). -/
def execOutpllLossOfLock (t cycles least : Nat) (s : State) : Host.Outcome State Fault Refusal :=
  .next (s.runIf t (fun s => s.clk.outSt == 2 && outOfWindow s.clk.outUse cycles least) fun s =>
    (s.onClk fun c => { c with outSt := 1, outUse := c.outLock, outAt := s.now, evt := setBit c.evt 11 }).outsSync)
/-- CLK_OUTPLL_CFG_WRITE. -/
def execClkOutpllCfgWrite (t : Nat) (ifc : Iface) (v : Word) (s : State) : Host.Outcome State Fault Refusal :=
  .next (s.run t (direct ifc 4 0x040030 v
    (fun s => let m := bits v.toNat 31 24; let f := bits v.toNat 19 0; pllOk m f && (m != s.clk.pllM || f != s.clk.pllF)) (writeOutpll v)))
/-- CLK_OUT_CFG_WRITE. -/
def execClkOutCfgWrite (t : Nat) (ifc : Iface) (n : Nat) (v : Word) (s : State) : Host.Outcome State Fault Refusal :=
  .next (s.run t (direct ifc 4 (0x040040 + 0x10 * n) v
    (fun s =>
      let o := outOf v; let x := at' s.clk.outs n {}
      decide (8 ≤ o.div ∧ o.div ≤ 4000) && (x.en != o.en || x.offZ != o.offZ || x.fmt != o.fmt || x.div != o.div)) (writeOutCfg n v)))
/-- CLK_OUT_FSTEP_WRITE. -/
def execClkOutFstepWrite (t : Nat) (ifc : Iface) (n : Nat) (v : Word) (s : State) : Host.Outcome State Fault Refusal :=
  .next (s.run t (direct ifc 4 (0x040044 + 0x10 * n) v (fun s => (at' s.clk.outs n {}).target != toSigned 16 v.toNat) (writeFstep n v)))
/-- CLK_TIME_LO_READ: the low word latches the high word until it is read; a 64-bit read needs no latch (R173, R695). -/
def execClkTimeLoRead (t : Nat) (ifc : Iface) (wide : Bool) (s : State) : Host.Outcome State Fault Refusal :=
  .next (s.run t (State.readable ifc.src 4 0x040020 (if wide then 8 else 4) fun s =>
    if wide then s.emit (.read (le 8 s.sysTime))
    else (s.onClk fun c => { c with hiLatch := some (s.sysTime / M32) }).emit (.read (le 4 s.sysTime))))

/-- The trim of a target as a sample moves it; an ADC reference's waits while that ADC converts (R185). -/
def State.trimPut (target : Nat) (v : Int) (s : State) : State :=
  let busy := decide (2 ≤ target ∧ target < 6) && (at' s.adc.adcs (target - 2) {}).st == 3
  s.onClk fun c => if busy then { c with trimDue := c.trimDue.set target (some v) } else { c with trims := c.trims.set target v }
/-- TRIM_SAMPLE: the applied trim moves at most 1 LSB toward the trim called for (R185, R186). -/
def execTrimSample (t : Nat) (target : Nat) (s : State) : Host.Outcome State Fault Refusal :=
  .next (s.runIf t (fun s => decide (target < 8) && s.inForce && s.img.fwSt != 3) fun s =>
    match s.cfg.cal.trims.find? (trimTarget · == target) with
    | none => s
    | some d =>
      let bad := s.dieBad (trimPrimary d)
      if bad && s.dieBad (trimAlternate d) then s.onClk fun c => { c with evt := setBit c.evt 10 }
      else
        let temp := at' s.bal.die (if bad then trimAlternate d else trimPrimary d) 0
        let w := 80 * at' s.cfg.cal.trimBase target 0 + trim80 (trimPoints d) temp
        -- between two whole LSB the table's rounding is not stated
        let whole := w % 80 == 0
        let want := w / 80 + (if whole then 0 else (s.freeWord.toNat % 2 : Nat))
        let s := if whole then s else s.drawn
        let v := at' s.clk.trims target 0
        s.trimPut target (if v < want then v + 1 else if want < v then v - 1 else v))

end Sys2Proof.Machine
end

