-- ==== Sys2Proof/Machine/Sparse.lean ====
section
/-! DEFINITION. Stores kept as lists of (place, value): places strictly rising, no entry that holds what an unlisted place reads as, so that equal contents are equal lists. -/
namespace Sys2Proof.Machine.Sparse
variable {α : Type} [DecidableEq α]

/-- The value at a place; d: what an unlisted place reads as. -/
def get (d : α) : List (Nat × α) → Nat → α
  | [], _ => d
  | (j, v) :: r, i => if i = j then v else if i < j then d else get d r i
/-- Write a place. -/
def put (d : α) : List (Nat × α) → Nat → α → List (Nat × α)
  | [], i, v => if v = d then [] else [(i, v)]
  | (j, w) :: r, i, v =>
    if i < j then (if v = d then (j, w) :: r else (i, v) :: (j, w) :: r)
    else if i = j then (if v = d then r else (i, v) :: r)
    else (j, w) :: put d r i v
/-- Write values at consecutive places. -/
def putAll (d : α) (l : List (Nat × α)) (i : Nat) : List α → List (Nat × α)
  | [] => l
  | v :: r => putAll d (put d l i v) (i + 1) r
/-- n values from a place. -/
def gets (d : α) (l : List (Nat × α)) (i n : Nat) : List α := (List.range n).map fun k => get d l (i + k)
/-- The canonical form: places above a bound strictly rising, no entry equal to the default. -/
def wfFrom (d : α) : Nat → List (Nat × α) → Bool
  | _, [] => true
  | b, (j, v) :: r => decide (b ≤ j) && decide (v ≠ d) && wfFrom d (j + 1) r
def wf (d : α) (l : List (Nat × α)) : Bool := wfFrom d 0 l
/-- Only the entries from place a to before place b. -/
def within (a b : Nat) (l : List (Nat × α)) : List (Nat × α) := l.filter fun x => decide (a ≤ x.1) && decide (x.1 < b)
/-- Without the entries from place a to before place b. -/
def clear (a b : Nat) (l : List (Nat × α)) : List (Nat × α) := l.filter fun x => !(decide (a ≤ x.1) && decide (x.1 < b))
/-- A store from values at consecutive places from 0. -/
def ofList (d : α) (l : List α) : List (Nat × α) := go 0 l
where
  go (i : Nat) : List α → List (Nat × α)
    | [] => []
    | v :: r => if v = d then go (i + 1) r else (i, v) :: go (i + 1) r

end Sys2Proof.Machine.Sparse
end

