-- ==== Sys2Proof/Machine/Cells.lean ====
section
/-! DEFINITION. The cell conversation: frames from cells, joining, bypass, firmware, the cell commands (R236 to R278). -/
namespace Sys2Proof.Machine
namespace State

/-! ## Reading stored bytes -/

/-- The byte at an offset of a sparse store. -/
def cellByte (l : List Host.Cell) (d : Byte) (o : Nat) : Byte := Sparse.get d l o
/-- n bytes from an offset of a sparse store. -/
def cellBytes (l : List Host.Cell) (d : Byte) (o n : Nat) : Bytes := (List.range n).map fun i => cellByte l d (o + i)

/-! ## Leaving service (R258, R267, R429) -/

/-- The next edge period not yet compiled (R267). -/
def nextEdge (s : State) : Nat := if s.comp.done && s.comp.per == s.perPlus 1 then s.perPlus 2 else s.perPlus 1
/-- CAPS shows a bypass device. -/
def hasBypass (s : State) (c : Nat) : Bool := (s.cell c).caps.testBit 0
/-- BYPASS for the next uncompiled edge period (R267). -/
def sendBypass (c : Nat) (s : State) : State := (s.sendCtrl c 0x0A s.nextEdge [] 3).onTalk c fun t => { t with bypReq := true }
/-- HOLD, a run mode or DECEL is in force. -/
def energised (s : State) : Bool := decide (2 ≤ s.mode.mode ∧ s.mode.mode ≤ 7)
/-- A cell has left ACTIVE or HOLDING for LOST or EXCLUDED (R429). -/
def cellLeft (c : Nat) (s : State) : State :=
  if !s.energised then s
  else
    let s := s.onMode fun m => { m with evt := setBit m.evt 0 }
    let s := if s.hasBypass c && !(s.talk c).bypReq then s.sendBypass c else s
    s.onTalk c fun t => { t with bypAt := some s.now, left := true }
/-- Conversation kept by a context that leaves service: nothing but seat, tag and bypass. -/
def talkDrop (t : Talk) : Talk :=
  { t with
    ctrl := none, queue := [], part := 0, again := false, times := 0, inBand := 0, preOn := false
    sent := [], acked := none, feed := none, fwAt := none }
/-- EXCLUDED with a reason; the cell is told BLOCK where the row of R258 says so. -/
def exclude (c reason : Nat) (block : Bool) (s : State) : State :=
  let live := (s.cell c).st == 2 || (s.cell c).st == 3
  let s := (s.onTalk c talkDrop).cellTo c 6 reason
  let s := if block then s.sendCtrl c 8 0 [] 0 else s
  if live then s.cellLeft c else s
/-- LOST with a reason. -/
def lose (c reason : Nat) (s : State) : State :=
  ((s.onTalk c fun t => { talkDrop t with answered := false }).cellTo c 4 reason).cellLeft c
/-- A set mismatch (R265): bypass where there is a device, else BLOCK. -/
def setMismatch (c : Nat) (s : State) : State :=
  let dev := s.hasBypass c
  let s := (s.cellEvt c 4).exclude c 10 (!dev)
  if dev && !(s.talk c).bypReq then s.sendBypass c else s
/-- BYPASSED. -/
def bypassed (c : Nat) (s : State) : State := (s.onTalk c fun t => { talkDrop t with bypAt := none, bypReq := false }).cellTo c 5 0

/-! ## Joining (R258, R260) -/

/-- The join step changes. -/
def jStep (c k : Nat) (s : State) : State := s.onCell c fun x => { x with st := 1, jstep := k, reason := 0 }
/-- A join begins at J1: identity is asked for. -/
def joinStart (c : Nat) (s : State) : State :=
  let s := (s.onTalk c fun t => { talkDrop t with rejoin := false, ident := none, bypReq := false, bypAt := none }).cellTo c 1 0
  (s.jStep c 1).sendCtrl c 1 0 [] 1
/-- REASON of a failed step (R260). -/
def stepReason (k : Nat) : Nat := if k = 3 then 6 else if k = 4 then 7 else if k = 5 then 8 else 5
/-- Part of the parameter block. -/
def paramPart (s : State) (c k : Nat) : Bytes := slice (s.kind c).params (480 * k) (min 480 ((s.kind c).params.length - 480 * k))
/-- Number of parts. -/
def paramParts (s : State) (c : Nat) : Nat := ((s.kind c).params.length + 479) / 480
/-- ARG0 of PARAM_WRITE and PARAM_READ. -/
def paramArg (s : State) (c k : Nat) : Nat := 480 * k * 65536 + (s.paramPart c k).length
/-- A step fails: J3 repeats J2 once (R260). -/
def joinFail (c : Nat) (s : State) : State :=
  let k := (s.cell c).jstep
  if k = 3 ∧ !(s.talk c).again then (s.onTalk c fun t => { t with again := true, part := 0, ctrl := none, queue := [] }).jStep c 2
  else s.exclude c (stepReason k) true
/-- J5 is run, not waited for: PRECHARGE and the energised modes (R423, R260). -/
def j5Runs (s : State) : Bool := s.mode.mode == 1 || s.energised
/-- J5 sends UNBYPASS where needed, then PRECHARGE start (R260, R423). -/
def j5Start (c : Nat) (s : State) : State :=
  let s := s.onTalk c fun t => { t with j5At := s.now, inBand := 0, preOn := true, part := if (s.cell c).byp then 0 else 2 }
  if (s.cell c).byp then s.sendCtrl c 0x0B 0 [] 1 else s.sendCtrl c 6 0 [] 1
/-- Enter J5. -/
def toJ5 (c : Nat) (s : State) : State :=
  let s := (s.onTalk c fun t => { t with preOn := false, part := 0 }).jStep c 5
  if s.j5Runs then s.j5Start c else s
/-- Precharge of a cell ends: PRECHARGE stop, then J6. -/
def j5Stop (c : Nat) (s : State) : State := (s.onTalk c fun t => { t with part := 4 }).sendCtrl c 6 1 [] 1
/-- J6: ACTIVATE at least three edge periods ahead. -/
def toJ6 (c : Nat) (s : State) : State :=
  let m0 := s.perPlus 3
  ((s.onTalk c fun t => { t with m0 := m0, preOn := false, again := false }).jStep c 6).sendCtrl c 7 m0 [] 1
/-- DELTA consistent with position among the ACTIVE cells of the seam (R261). -/
def orderOk (s : State) (c : Nat) : Bool :=
  (List.range 8).all fun i =>
    let o := 8 * (c / 8) + i
    o == c || (s.cell o).st != 2 ||
      (if o < c then decide ((s.cell c).delta < (s.cell o).delta) else decide ((s.cell o).delta < (s.cell c).delta))
/-- J4 after a TIME answer: DELTA first (R261), then TLOCK as the last FEED reports it. -/
def j4Check (c : Nat) (s : State) : State :=
  if !s.orderOk c then s.exclude c 4 true
  else if (s.cell c).tlock then s.toJ5 c
  else if 1024 ≤ (s.talk c).times then s.exclude c 7 true
  else s
/-- Filters on a cell's neighbours are cleared (R258, R266). -/
def filterClear (c : Nat) (s : State) : State :=
  let q := c / 8; let p := c % 8
  let dec := (List.range 8).filter fun i => s.declared (8 * q + i)
  let lo := (dec.filter fun i => decide (i < p)).getLast?
  let hi := dec.find? fun i => decide (p < i)
  let fix (n : Option Nat) (b : Nat) (s : State) : State :=
    match n with
    | some i =>
      if (at' s.seam.seams q {}).filt.testBit (2 * i + b) then
        let s := s.onSeam fun x => { x with seams := modAt x.seams q fun y => { y with filt := clrBit y.filt (2 * i + b) } }
        s.sendCtrl (8 * q + i) 0x0C (bits (at' s.seam.seams q {}).filt (2 * i + 1) (2 * i)) [] 0
      else s
    | none =>
      s.onSeam fun x => { x with seams := modAt x.seams q fun y => if b = 1 then { y with deafU := false } else { y with deafD := false } }
  fix hi 0 (fix lo 1 s)

/-! ## Ends of CTRL operations (R249) -/

/-- Firmware load fails (R258). -/
def fwFail (c : Nat) (s : State) : State := s.exclude c 12 false
/-- Next part of a firmware load, or FW_END (R269). -/
def fwNext (c : Nat) (s : State) : State :=
  let t := s.talk c
  if t.fwPos < t.fwLen then s.sendCtrl c 0x0E t.fwPos (cellBytes s.img.buf 0 (t.fwOfs + t.fwPos) (min 480 (t.fwLen - t.fwPos))) 2
  else s.sendCtrl c 0x0F 0 [] 2
/-- A firmware load has data left to take from the load buffer. -/
def fwReads (s : State) (c : Nat) : Bool := decide ((s.talk c).fwPos < (s.talk c).fwLen)
/-- An operation of the join has been answered by ACK (R260). -/
def joinAck (c : Nat) (o : CtrlOp) (data : Bytes) (s : State) : State :=
  let t := s.talk c
  match (s.cell c).jstep with
  | 2 =>
    let k := t.part + 1
    if k < s.paramParts c then s.onTalk c fun t => { t with part := k } else (s.onTalk c fun t => { t with part := 0 }).jStep c 3
  | 3 =>
    if o.op = 4 then (s.onTalk c fun t => { t with times := 0 }).jStep c 4
    else if data == s.paramPart c t.part then s.onTalk c fun t => { t with part := t.part + 1 }
    else s.joinFail c
  | 5 =>
    if o.op = 0x0B then s.onTalk c fun t => { t with part := 1 }
    else if o.op = 6 ∧ o.arg = 0 then s.onTalk c fun t => { t with part := 3 }
    else if o.op = 6 then s.toJ6 c
    else s
  | _ => s
/-- The open operation is answered by ACK. -/
def ctrlAck (c : Nat) (o : CtrlOp) (value : Word) (data : Bytes) (s : State) : State :=
  let s := s.ctrlNext c
  match o.why with
  | 1 => if (s.cell c).st = 1 then s.joinAck c o data else s
  | 2 =>
    if (s.cell c).st ≠ 7 then s
    else if o.op = 0x0E then s.onTalk c fun t => { t with fwPos := t.fwPos + o.data.length }
    else if o.op = 0x0F then s.sendCtrl c 0x10 0 [] 2
    else if o.op = 0x10 then s.onTalk c fun t => { t with fwAt := some s.now }
    else s
  | 4 => if (s.cell c).st = 1 ∧ (s.cell c).jstep = 6 ∧ (s.talk c).again then s.toJ6 c else s
  | 6 =>
    let s := s.onCell c fun x => { x with terr := toSigned 32 value.toNat, delta := toSigned 32 (field data 0 4) }
    if (s.cell c).st = 1 ∧ (s.cell c).jstep = 4 then (s.onTalk c fun t => { t with times := t.times + 1 }).j4Check c else s
  | _ => s
/-- The open operation has failed: three unanswered sends, or a NAK. -/
def ctrlFail (c : Nat) (o : CtrlOp) (code : Nat) (s : State) : State :=
  let s := s.ctrlNext c
  match o.why with
  | 1 =>
    if (s.cell c).st ≠ 1 then s
    -- ACTIVATE refused by a trip is repeated after its release (R271)
    else if (s.cell c).jstep = 6 ∧ code = 6 then s.onTalk c fun t => { t with again := true }
    else s.joinFail c
  | 2 => if (s.cell c).st = 7 then s.fwFail c else s
  | 6 => if (s.cell c).st = 1 ∧ (s.cell c).jstep = 4 then s.exclude c 7 true else s
  | _ => s

/-! ## Frames received (R250, R251, R266) -/

/-- Loop delay plus 1 us (R250). -/
def copyWindow (s : State) (c : Nat) : Nat := let d := at' s.lane.dly (c / 8) (0, 0); max d.1 d.2 + Config.us
/-- A frame's later epoch is noted; an ACTIVE member fences (R251, R628). -/
def epochLater (c epoch : Nat) (s : State) : State :=
  let s := s.cellEvt c 7
  if s.role = 1 ∧ s.pair.st = 4 then s.fence 0 epoch else s
/-- Frames allowed a cell on one path in a period (R266). -/
def allowance (t : Talk) : Nat := 3 + t.sentNow + t.sentPrev
/-- A frame from the cell is accepted: it is heard (R258). -/
def cellHeard (c : Nat) (s : State) : State := s.onTalk c fun t => { t with heardAt := s.now }
/-- A whole frame of a cell with its payload: beyond the allowance it is discarded, whatever its epoch (R266). -/
def allowed (f : FrameHdr) (p : Bytes) (k : State → State) (s : State) : State :=
  let c := f.cell
  let t := s.talk c
  let n := ((t.frames.find? (·.1 == f.path)).map (·.2)).getD 0
  let s := s.onTalk c fun t => { t with frames := (f.path, n + 1) :: t.frames.filter (·.1 != f.path) }
  if allowance t ≤ n then (s.onTalk c fun t => { t with excess := t.excess + (2 + p.length / 8) }).cellEvt c 3 else k s
/-- A whole frame of the cell: first copy or second (R250). k runs on the first copy. -/
def firstCopy (c path period kind tag : Nat) (digest : Word) (k : State → State) (s : State) : State :=
    let t := s.talk c
    match t.seen.find? fun x => x.period == period && x.kind == kind && x.tag == tag with
    | some x =>
      if x.both || x.path == path then s
      else
        let s := s.onTalk c fun t => { t with seen := t.seen.map fun y => if y == x then { y with both := true } else y }
        if x.digest != digest && decide (s.now ≤ x.at_ + s.copyWindow c) then s.cellEvt c 6 else s
    | none =>
      k (s.onTalk c fun t =>
        { t with
          seen := ({ period := period, kind := kind, tag := tag, path := path, digest := digest, at_ := s.now } :: t.seen).take 16 })
/-- Whether a frame's epoch lets it through. -/
def epochOk (c epoch : Nat) (k : State → State) (s : State) : State :=
  if later 16 epoch s.seam.epoch then s.epochLater c epoch
  else if epoch ≠ s.seam.epoch then s
  else k s
/-- The latest epoch reported by cells, for R627. -/
def noteEpoch (e : Nat) (s : State) : State :=
  s.onPair fun p => { p with repEpoch := match p.repEpoch with | some o => some (if later 16 e o then e else o) | none => some e }
/-- The epoch is raised; joins start again at J1 (R258, R627). -/
def epochTo (e : Nat) (s : State) : State :=
  let s := s.onSeam fun b => { b with epoch := e % 65536 }
  each ((List.range 128).filter fun c => (s.cell c).st == 1) joinStart s
/-- Ask a position for its identity, unless it is being asked (R259). -/
def identQuery (c : Nat) (s : State) : State :=
  let t := s.talk c
  if (t.ctrl.toList ++ t.queue).any (·.op == 1) then s else s.sendCtrl c 1 0 [] 7
/-- Taking authority begins: the declared positions are asked for their identity (R627). -/
def takeBegin (s : State) : State :=
  each (s.cfg.cells.map (·.idx)) identQuery
    ((s.onPair fun p => { p with taking := true, takeAt := s.now }).onSeam fun b => { b with identAt := s.now })
/-- It ends a whole period later: one epoch later than the latest reported, or 1; a pair member records it (R641). -/
def takeEnd (s : State) : State :=
  if s.pair.taking && decide (s.pair.takeAt + s.tick ≤ s.now) then
    let e := match s.pair.repEpoch with | some e => (e + 1) % 65536 | none => 1
    let safe := s.pair.takeSafe
    let s := (s.onPair fun p => { p with taking := false, takeSafe := false }).epochTo e
    if !s.cfg.topo.pair then s
    else
      let s := s.onPair fun p => { p with takePer := s.perPlus 1, evt := setBit p.evt 4 }
      let s := if safe then s.jEvent 0x00F5 e 0 [] else s
      s.event 0x0980 (le 2 e ++ le 1 3 ++ le 1 0 ++ le 4 (s.perPlus 1))
  else s
/-- The set a FEED echoes is one that was sent: none kept, kept and equal, kept and different (R265). -/
def echo (t : Talk) (v : FeedVals) : Option Bool := (t.sent.find? (·.1 == v.echoPeriod)).map (·.2 == v.echoCrc)
/-- What a FEED taken in time does to the context (R258, R265). -/
def feedState (c : Nat) (v : FeedVals) (s : State) : State :=
  let st := (s.cell c).st
  let b (i : Nat) : Bool := v.status.testBit i
  let live := st == 2 || st == 3
  if b 8 && b 5 && st != 0 && st != 7 then (if st = 5 then s else s.bypassed c)
  else if b 5 && (s.talk c).bypReq && [2, 3, 4, 6].contains st then s.bypassed c
  else if live && b 9 then s.exclude c 14 false
  else if live && b 3 then s.lose c 16
  else if live && echo (s.talk c) v == some false then s.setMismatch c
  else if st == 2 && b 2 then s.cellTo c 3 0
  else if st == 3 && b 1 && echo (s.talk c) v == some true then s.cellTo c 2 0
  else s
/-- A FEED, whole and accepted (R255, R277). -/
def feedTake (c period : Nat) (v : FeedVals) (s : State) : State :=
  let x := s.cell c
  let lost := x.tlock && !v.status.testBit 0 && x.st == 2
  let s := s.onCell c fun x =>
    { x with
      tlock := v.status.testBit 0, byp := v.status.testBit 5, tripped := v.status.testBit 4, holdCnt := v.holdCnt % 256
      holds := if v.status.testBit 2 then sat32 x.holds 1 else x.holds }
  let s := if lost then s.cellEvt c 5 else s
  let s := s.onTalk c fun t => { t with feed := some (period, v) }
  s.feedState c v
/-- Real cells are in service: no SYNTHETIC, an image in force. -/
def cellsReal (s : State) : Bool := s.inForce && !s.modeQ.ovl.testBit 4
end State
open State

/-- A period without a FEED counts at the latch: in service, or joining from J4 on (R255, log entry 82). -/
def State.missCounts (x : Cell) : Bool := x.st == 2 || x.st == 3 || (x.st == 1 && decide (4 ≤ x.jstep))
/-- A FEED's frame, its payload of three blocks (log entry 195): one whole after S(n) is discarded and its period counted, where
the latch did not (R255). -/
def State.feedIn (f : FrameHdr) (p : Bytes) (s : State) : State :=
  if p.length ≠ 24 then s
  else
    epochOk f.cell f.epoch (firstCopy f.cell f.path f.period 2 0 (crc32c p) fun s =>
      if later 32 f.period s.per then (s.cellHeard f.cell).feedTake f.cell f.period (feedOf p)
      else s.onCell f.cell fun x => { x with miss := if State.missCounts x then x.miss else sat32 x.miss 1 }) s
/-- FEED. -/
def execFeed (t : Nat) (x : LaneRx) (s : State) : Host.Outcome State Fault Refusal :=
  .next (s.runIf t cellsReal (seamIn x 2 fun f p => allowed f p (State.feedIn f p)))
/-- Cut a babbling cell off: filters at its neighbours, BLOCK to it (R266). -/
def State.cutCell (c : Nat) (s : State) : State :=
  let q := c / 8; let p := c % 8
  let dec := (List.range 8).filter fun i => s.declared (8 * q + i)
  let lo := (dec.filter fun i => decide (i < p)).getLast?
  let hi := dec.find? fun i => decide (p < i)
  let setF (n : Option Nat) (b : Nat) (s : State) : State :=
    match n with
    | some i =>
      let s := s.onSeam fun x => { x with seams := modAt x.seams q fun y => { y with filt := setBit y.filt (2 * i + b) } }
      s.sendCtrl (8 * q + i) 0x0C (bits (at' s.seam.seams q {}).filt (2 * i + 1) (2 * i)) [] 0
    | none => s.onSeam fun x => { x with seams := modAt x.seams q fun y => if b = 1 then { y with deafU := true } else { y with deafD := true } }
  (setF hi 0 (setF lo 1 s)).exclude c 9 true
/-- BABBLE_CUT. -/
def execBabbleCut (t : Nat) (c : Nat) (s : State) : Host.Outcome State Fault Refusal :=
  .next (s.runIf t
    (fun s => let k := s.talk c
              [1, 2, 3].contains (s.cell c).st && (decide (4 ≤ k.overRun + bit (k.excess != 0)) || decide (128 < k.excess)))
    (State.cutCell c))
/-- An ACK that answers an identity query: three data blocks, the TAG of the last query sent, or any TAG at a member that only
listens to its partner's queries (R248, log entry 195). -/
def State.isIdentity (s : State) (c : Nat) (p : Bytes) : Bool :=
  p.length == 32 && field p 0 1 == 3 && ((s.talk c).identTag == some (field p 1 1) || s.role == 2)
/-- What an ACK of a cell does: REF_TYPE, TAG, VALUE, data (R247, R258, R265). -/
def State.ackTake (f : FrameHdr) (refType tag : Nat) (value : Word) (data : Bytes) (s : State) : State :=
  let c := f.cell
  if refType = 1 then
    match (s.talk c).sent.find? (·.1 == f.period) with
    | none => s
    | some x =>
      if x.2 ≠ value then (if (s.cell c).st = 2 ∨ (s.cell c).st = 3 then s.setMismatch c else s)
      else
        let s := s.onTalk c fun t => { t with acked := some x }
        if (s.cell c).st = 1 ∧ (s.cell c).jstep = 6 ∧ f.period = (s.talk c).m0 then s.cellTo c 2 0 else s
  else
    match (s.talk c).ctrl with
    | some o => if refType = 3 ∧ o.tag = tag then s.ctrlAck c o value data else s
    | none => s
/-- What a NAK of a cell does. -/
def State.nakTake (f : FrameHdr) (refType tag code : Nat) (value : Word) (s : State) : State :=
  let c := f.cell
  let s := (s.onCell c fun x => { x with nakCnt := sat32 x.nakCnt 1, lastNak := code % 256 }).cellEvt c 1
  let s := if code = 3 then s.noteEpoch (value.toNat % 65536) else s
  if refType = 1 then (if (s.cell c).st = 2 then s.cellTo c 3 0 else s)
  else
    match (s.talk c).ctrl with
    | some o => if refType = 3 ∧ o.tag = tag then s.ctrlFail c o code else s
    | none => s
/-- First copies of the answers: REF_TYPE and TAG tell answers of one period apart (R250). -/
def State.answerCopy (f : FrameHdr) (typ : Nat) (p : Bytes) (k : State → State) : State → State :=
  firstCopy f.cell f.path f.period typ (field p 0 2) (crc32c p) fun s => k (s.cellHeard f.cell)
/-- An ACK frame of the cells. -/
def State.ackIn (f : FrameHdr) (p : Bytes) (s : State) : State :=
  if p.length = 0 then s
  else epochOk f.cell f.epoch (State.answerCopy f 4 p (State.ackTake f (field p 0 1) (field p 1 1) (fieldW p 4) (p.drop 8))) s
/-- A NAK frame of the cells: one block. -/
def State.nakIn (f : FrameHdr) (p : Bytes) (s : State) : State :=
  if p.length ≠ 8 then s
  else epochOk f.cell f.epoch (State.answerCopy f 5 p (State.nakTake f (field p 0 1) (field p 1 1) (field p 2 1) (fieldW p 4))) s
/-- ACK. -/
def execAck (t : Nat) (x : LaneRx) (s : State) : Host.Outcome State Fault Refusal :=
  .next (s.runIf t cellsReal (seamIn x 4 fun f p s => if s.isIdentity f.cell p then s else allowed f p (State.ackIn f p) s))
/-- NAK. -/
def execNak (t : Nat) (x : LaneRx) (s : State) : Host.Outcome State Fault Refusal :=
  .next (s.runIf t cellsReal (seamIn x 5 fun f p => allowed f p (State.nakIn f p)))

/-- The checks of an identity answer from ABSENT, LOST or J1 (R258). -/
def State.identAdmit (c : Nat) (d : IdentData) (s : State) : State :=
  let k := s.kind c
  if d.typ ≠ k.typ ∨ d.rating ≠ k.rating then s.exclude c 1 true
  else if (match (s.talk c).seat with | some x => x != d.serial && !k.autoAdmit | none => false) then s.exclude c 2 true
  else if d.fw < k.minFw then s.exclude c 11 false
  else
    let s := (s.onTalk c fun t => { talkDrop t with seat := some d.serial, rejoin := false }).cellTo c 1 0
    s.jStep c 2
/-- Positions that are asked for identity: those of the image whose presence is checked, else of the image in force (R73, R259). -/
def State.queryDesc (s : State) : ImgDesc := s.step9.getD s.cfg
/-- The first copy of an identity answer (R258, R259). During step 9 it counts for the presence alone (R73). -/
def State.identTake (f : FrameHdr) (d : IdentData) (s : State) : State :=
  let c := f.cell
  let s := s.onCell c fun x => { x with serial := d.serial, typ := d.typ, rating := d.rating, fw := d.fw, caps := d.caps }
  let s := s.onImg fun m => { m with val := m.val.map fun v => if v.desc.isSome && !v.answered.contains c then { v with answered := v.answered ++ [c] } else v }
  let s := s.onTalk c fun t => { t with answered := true, ident := some (f.path, d) }
  let s : State := match (s.talk c).ctrl with | some o => if o.op = 1 then s.ctrlNext c else s | none => s
  let t := s.talk c
  let st := (s.cell c).st
  if !s.queryDesc.cells.any (·.idx == c) then
    s.onSeam fun b => { b with seams := modAt b.seams (c / 8) fun x => { x with undecl := setBit x.undecl (c % 8) } }
  else if s.step9.isSome ∨ !s.cellsReal then s
  else if st = 7 then
    if t.fwAt.isSome ∧ d.fw ≠ t.fwOld then (if (s.cell c).byp then s.bypassed c else (s.onTalk c talkDrop).cellTo c 0 0) else s
  else if st = 0 ∨ (st = 1 ∧ (s.cell c).jstep = 1) ∨ (st = 4 ∧ (s.seam.autoRejoin ∨ t.rejoin)) then s.identAdmit c d
  else s
/-- An identity answer, whatever its epoch (R251): a first copy is taken; one that differs from the other path's excludes the cell
(R258). -/
def State.identIn (f : FrameHdr) (p : Bytes) (s : State) : State :=
  let c := f.cell
  let d := identOf (p.drop 8)
  let s := s.noteEpoch f.epoch
  let s := if later 16 f.epoch s.seam.epoch then s.epochLater c f.epoch else s
  let differs := match (s.talk c).ident with | some (q, e) => q != f.path && e != d | none => false
  let s := State.answerCopy f 4 p (if differs then id else State.identTake f d) s
  if differs && (((s.cell c).st == 0 && s.declared c) || (s.cell c).st == 1) && s.cellsReal && s.step9.isNone then s.exclude c 3 false else s
/-- IDENTITY_ANSWER. -/
def execIdentityAnswer (t : Nat) (x : LaneRx) (s : State) : Host.Outcome State Fault Refusal :=
  .next (s.runIf t (fun s => !s.modeQ.ovl.testBit 4) (seamIn x 4 fun f p s => if s.isIdentity f.cell p then allowed f p (State.identIn f p) s else s))
/-- Positions that the timer asks: during step 9 every declared one; else those ABSENT or LOST, and one that restarts on new firmware
(R73, R259, R269). -/
def State.queried (s : State) : List Nat :=
  (s.queryDesc.cells.map (·.idx)).filter fun c =>
    s.step9.isSome || (s.cell c).st == 0 || (s.cell c).st == 4 || ((s.cell c).st == 7 && (s.talk c).fwAt.isSome)
/-- IDENT_QUERY_TIMER. -/
def execIdentQueryTimer (t : Nat) (s : State) : Host.Outcome State Fault Refusal :=
  .next (s.runIf t
    (fun s => s.maySend && (s.inForce || s.step9.isSome) && decide (s.seam.identAt + s.seam.identMs * Config.ms ≤ s.now))
    fun s =>
      let d := s.queryDesc
      let slow := decide (s.seam.identUAt + 10 * s.seam.identMs * Config.ms ≤ s.now)
      let und := if slow then (List.range 128).filter fun c => d.topo.seams.testBit (c / 8) && !d.cells.any (·.idx == c) else []
      let l := s.queried ++ und
      each l identQuery (s.onSeam fun b => { b with identAt := s.now, identUAt := if slow then s.now else b.identUAt }))
/-- CTRL_RETRY_TIMEOUT: sent again with the same TAG, or failed after three sends (R249). -/
def execCtrlRetryTimeout (t : Nat) (c : Nat) (s : State) : Host.Outcome State Fault Refusal :=
  .next (s.runIf t
    (fun s => match (s.talk c).ctrl with
      | some o => decide (o.sentAt + (if o.op = 0x0F then 250 * Config.ms else 100 * Config.us) ≤ s.now)
      | none => false)
    fun s =>
      match (s.talk c).ctrl with
      | none => s
      | some o =>
        if 3 ≤ o.sends then s.ctrlFail c o 0
        else (s.onTalk c fun t => { t with ctrl := some { o with sends := o.sends + 1, sentAt := s.now }, sentNow := t.sentNow + 1 }).ctrlOut c o)
/-- CELL_LOST_TIMEOUT: L = HOLD_PERIODS + 2 periods without a frame (R258). -/
def execCellLostTimeout (t : Nat) (c : Nat) (s : State) : Host.Outcome State Fault Refusal :=
  .next (s.runIf t
    (fun s => s.cellsReal && ((s.cell c).st == 2 || (s.cell c).st == 3) &&
      decide ((s.talk c).heardAt + (s.img.safety.holdPeriods + 2) * s.tick ≤ s.now))
    (lose c 15))
/-- PRE_TIMEOUT_EXPIRY: J5 beyond PRE_TIMEOUT (R260). -/
def execPreTimeoutExpiry (t : Nat) (c : Nat) (s : State) : Host.Outcome State Fault Refusal :=
  .next (s.runIf t
    (fun s => (s.cell c).st == 1 && (s.cell c).jstep == 5 && (s.talk c).preOn &&
      decide ((s.talk c).j5At + (s.kind c).preTimeout * Config.sec ≤ s.now))
    (exclude c 8 true))
/-- FW_REBOOT_TIMEOUT (R258). -/
def execFwRebootTimeout (t : Nat) (c : Nat) (s : State) : Host.Outcome State Fault Refusal :=
  .next (s.runIf t
    (fun s => (s.cell c).st == 7 && (match (s.talk c).fwAt with | some a => decide (a + (s.kind c).fwRebootMs * Config.ms ≤ s.now) | none => false))
    (fwFail c))
/-- The TRIP block is repeated on a seam now: 1,024 blocks, or a multiple, since it was sent (R242). -/
def State.tripDue (s : State) (q : Nat) : Bool :=
  let x := at' s.seam.seams q {}
  match groupNow (s.ln (2 * q)).rate 1024 x.tripAt s.now with | some k => decide (0 < k) | none => false
/-- TRIP_BLOCK_REPEAT: one block every 1,024 on a seam in scope (R242). -/
def execTripBlockRepeat (t : Nat) (seam : Nat) (s : State) : Host.Outcome State Fault Refusal :=
  .next (s.runIf t (fun s => (at' s.seam.seams seam {}).trip && s.maySendTrip && s.tripDue seam) fun s =>
    s.tripSend 1 (at' s.seam.seams seam {}).tripSrc seam)
/-- COPY_WINDOW_EXPIRY: the second copy did not come; counted but on a path that is down (R250). -/
def execCopyWindowExpiry (t : Nat) (c : Nat) (s : State) : Host.Outcome State Fault Refusal :=
  .next (s.run t fun s =>
    let w := s.copyWindow c
    let late := (s.talk c).seen.filter fun x => !x.both && decide (x.at_ + w ≤ s.now)
    let s := s.onTalk c fun t => { t with seen := t.seen.map fun x => if late.contains x then { x with both := true } else x }
    each late (fun x s =>
      let a := x.path != 0
      if s.pathUp (c / 8) a then
        (s.onCell c fun y => if a then { y with missA := sat16 y.missA 1 } else { y with missB := sat16 y.missB 1 }).cellEvt c 2
      else s) s)
/-- CELL_BYPASS_TIMEOUT: a cell that left is not BYPASSED within 100 ms (R429). -/
def execCellBypassTimeout (t : Nat) (c : Nat) (s : State) : Host.Outcome State Fault Refusal :=
  .next (s.runIf t (fun s => match (s.talk c).bypAt with | some a => decide (a + 100 * Config.ms ≤ s.now) | none => false) fun s =>
    let s := s.onTalk c fun t => { t with bypAt := none }
    if s.energised && (s.cell c).st != 5 then s.cause 11 c else s)

/-! ## Commands (R273, R274) -/

/-- TARGET names a declared position. -/
def cellTarget (h : RecHdr) (s : State) : Bool × Nat := (!s.declared h.target, noField)
/-- CELL_REJOIN. -/
def cmdCellRejoin : Cmd where
  opcode := 0x0A20
  lens := noPayload
  fields := fun h _ s => firstBad [cellTarget h s]
  block := fun h _ s =>
    let x := s.cell h.target
    blockCause [(!(x.st == 4 || x.st == 5 || (x.st == 6 && x.reason != 2)), 1)]
  act := fun h _ s => ((s.filterClear h.target).joinStart h.target, { status := 1 })
/-- CELL_ADMIT. -/
def cmdCellAdmit : Cmd where
  opcode := 0x0A21
  lens := (· == 8)
  fields := fun h _ s => firstBad [cellTarget h s]
  block := fun h p s =>
    let x := s.cell h.target
    blockCause [(!(x.st == 6 && x.reason == 2), 1), (field p 0 8 != x.serial, 4)]
  act := fun h p s => ((s.onTalk h.target fun t => { t with seat := some (field p 0 8) }).joinStart h.target, { status := 1 })
/-- CELL_BYPASS. -/
def cmdCellBypass : Cmd where
  opcode := 0x0A22
  lens := noPayload
  fields := fun h _ s => firstBad [cellTarget h s]
  block := fun h _ s => blockCause [(!([2, 3, 4, 6].contains (s.cell h.target).st), 1), (!s.hasBypass h.target, 2)]
  act := fun h _ s => (s.sendBypass h.target, { status := 1 })
/-- CELL_EXCLUDE. -/
def cmdCellExclude : Cmd where
  opcode := 0x0A23
  lens := noPayload
  fields := fun h _ s => firstBad [cellTarget h s]
  block := fun h _ s => blockCause [(!([1, 2, 3, 4, 5].contains (s.cell h.target).st), 1)]
  act := fun h _ s => (s.exclude h.target 13 true, {})
/-- CELL_FW_LOAD (R269). -/
def cmdCellFwLoad : Cmd where
  opcode := 0x0A24
  lens := (· == 12)
  fields := fun h p s => firstBad [cellTarget h s, (decide (1048576 < field p 4 4), 4)]
  block := fun h p s =>
    let c := h.target; let st := (s.cell c).st
    blockCause
      [(!(st == 5 || ([0, 4, 6].contains st && s.mode.mode == 0)), 1),
       ((List.range 8).any fun i => (s.cell (8 * (c / 8) + i)).st == 7, 3),
       (!s.img.bufOpen || decide (2097152 < field p 0 4 + field p 4 4), 5),
       (!(s.talk c).answered, 6), (s.fwSwitching, 0x51)]
  act := fun h p s =>
    let c := h.target
    let s := (s.onTalk c fun t =>
      { talkDrop t with fwOfs := field p 0 4, fwLen := field p 4 4, fwCrc := fieldW p 8, fwPos := 0, fwOld := (s.cell c).fw }).cellTo c 7 0
    (s.sendCtrl c 0x0D (field p 4 4) (slice p 8 4) 2, { status := 1 })
/-- CELL_REJOIN. -/
def execCellRejoin (t : Nat) (h : RecHdr) (s : State) : Host.Outcome State Fault Refusal := .next (hostRow cmdCellRejoin t h [] s)
/-- CELL_ADMIT. -/
def execCellAdmit (t : Nat) (h : RecHdr) (serial : Nat) (s : State) : Host.Outcome State Fault Refusal :=
  .next (hostRow cmdCellAdmit t h (le 8 serial) s)
/-- CELL_BYPASS. -/
def execCellBypass (t : Nat) (h : RecHdr) (s : State) : Host.Outcome State Fault Refusal := .next (hostRow cmdCellBypass t h [] s)
/-- CELL_EXCLUDE. -/
def execCellExclude (t : Nat) (h : RecHdr) (s : State) : Host.Outcome State Fault Refusal := .next (hostRow cmdCellExclude t h [] s)
/-- CELL_FW_LOAD. -/
def execCellFwLoad (t : Nat) (h : RecHdr) (off len : Nat) (crc : Word) (s : State) : Host.Outcome State Fault Refusal :=
  .next (hostRow cmdCellFwLoad t h (le 4 off ++ le 4 len ++ le 4 crc.toNat) s)

/-! ## Once a period -/

/-- What a cell without an open operation is sent next, once a period: parts of J2 and J3, J5's operations, firmware (R260, R269). -/
def State.cellPump (c : Nat) (s : State) : State :=
  let x := s.cell c; let t := s.talk c
  if t.ctrl.isSome then s
  else if x.st = 7 then (if t.fwAt.isNone then s.fwNext c else s)
  else if x.st ≠ 1 then s
  else
    match x.jstep with
    | 2 => if s.paramParts c = 0 then s.jStep c 3 else s.sendCtrl c 2 (s.paramArg c t.part) (s.paramPart c t.part) 1
    | 3 =>
      if t.part < s.paramParts c then s.sendCtrl c 3 (s.paramArg c t.part) [] 1
      else s.sendCtrl c 4 (crc32c (s.kind c).params).toNat [] 1
    | 5 =>
      if !s.j5Runs then s
      else if !t.preOn then s.j5Start c
      else if t.part = 1 ∧ !x.byp then (s.onTalk c fun t => { t with part := 2 }).sendCtrl c 6 0 [] 1
      else s
    | 6 =>
      -- the set for m0 was not acknowledged before m0 was over
      if !t.again && later 32 s.per ((t.m0 + 1) % M32) then s.exclude c 5 true else s
    | _ => s
/-- Cells of a seam that take TIME messages in turn. -/
def State.timeCells (s : State) (q : Nat) : List Nat :=
  ((List.range 8).map (8 * q + ·)).filter fun c =>
    let x := s.cell c
    s.declared c && (x.st == 2 || x.st == 3 || x.st == 5 || x.st == 1 && decide (5 ≤ x.jstep)) && (s.talk c).ctrl.isNone
/-- The latest marker of a seam whose send time is known on both paths, else on the path this member originates (R253, R623). -/
def State.timeMark (s : State) (q : Nat) : Option Nat :=
  let own := s.mrk (q / 2)
  let l : List Nat := if own.sent.isEmpty then [] else [(own.cnt + 255) % 256]
  let peer := (s.pair.peerMarks.filter fun x => x.1 / 2 == q).map (·.2.1)
  let known (k : Nat) : Bool := (s.sentAt q true k).isSome && (s.sentAt q false k).isSome
  ((l ++ peer).find? known).or l.head?
/-- At most one TIME message per seam: every second one to a cell in J4, the others in turn; several cells in J4 share them all
(R253). A send time that is not known is a free value. -/
def State.timeSend (q : Nat) (s : State) : State :=
  let j4 := ((List.range 8).map (8 * q + ·)).filter fun c => (s.cell c).st == 1 && (s.cell c).jstep == 4 && (s.talk c).ctrl.isNone
  let others := s.timeCells q
  let turn := (at' s.seam.seams q {}).turn
  let s := s.onSeam fun b => { b with seams := modAt b.seams q fun x => { x with turn := x.turn + 1 } }
  let nth (l : List Nat) (i : Nat) : Option Nat := if l.isEmpty then none else l[i % l.length]?
  let pick := if j4.length = 1 then (if turn % 2 = 0 then nth j4 0 else nth others (turn / 2)) else if j4.isEmpty then nth others turn else nth j4 turn
  match pick, s.timeMark q with
  | some c, some k =>
    let d := at' s.lane.dly q (0, 0)
    let asym := match s.decl c with | some x => x.asym | none => 0
    let u := s.freeWord.toNat
    let put (t : Option Nat) : Bytes := le 8 (t.getD u)
    s.drawn.sendCtrl c 5 k (put (s.sentAt q true k) ++ put (s.sentAt q false k) ++ le 4 d.1 ++ le 4 d.2 ++ le 4 (ofSigned 32 asym) ++ le 4 0) 6
  | _, _ => s
/-- A period's work of the conversation, at C(n). -/
def State.cellsPeriod (s : State) : State :=
  if !s.cellsReal || !s.maySend then s
  else
    let s := each ((s.cfg.cells.map (·.idx))) State.cellPump s
    each (members s.seamMask 16) State.timeSend s

/-! ## The latch (R37, R255) -/

/-- VDC1 of a cell as a binary32 value. -/
def State.vdc1 (s : State) (c : Nat) : Word := F32.mul (F32.ofNat (s.cell c).vdc1) (s.kind c).vdc1Scale
def State.vdc2 (s : State) (c : Nat) : Word := F32.mul (F32.ofNat (s.cell c).vdc2) (s.kind c).vdc2Scale
/-- Arm of a cell. -/
def State.armOf (s : State) (c : Nat) : Option Nat := (List.range s.cfg.arms.length).find? fun a => (at' s.cfg.arms a {}).members.contains c
/-- Sum and mean of binary32 values, in order. -/
def sumW (l : List Word) : Word := l.foldl F32.add 0
def meanW (l : List Word) : Word := F32.div (sumW l) (F32.ofNat l.length)
/-- VDC1 lies within PRE_BAND of the mean of its arm's cells in service (R260). -/
def State.inPreBand (s : State) (c : Nat) : Bool :=
  let peers := match s.armOf c with | some a => (at' s.cfg.arms a {}).members.filter fun d => (s.cell d).st == 2 || (s.cell d).st == 3 | none => []
  peers.isEmpty || F32.le (F32.abs (F32.sub (s.vdc1 c) (meanW (peers.map s.vdc1)))) (s.kind c).preBand
/-- Latch one cell's FEED, reset its allowance, judge J5 (R255, R260, R266). -/
def State.cellLatch (c : Nat) (s : State) : State :=
  let t := s.talk c
  let fresh := match t.feed with | some (p, _) => p == s.per | none => false
  let s := match t.feed with
    | some (p, v) =>
      if p = s.per then
        s.onCell c fun x => { x with vdc1 := v.vdc1 % 65536, vdc2 := v.vdc2 % 65536, ntc := v.ntc, cmpf := v.cmpf, status := v.status, stale := false }
      else s
    | none => s
  let s := if fresh then s else s.onCell c fun x =>
    { x with stale := true, miss := if State.missCounts x then sat32 x.miss 1 else x.miss }
  let s := s.onTalk c fun t => { t with frames := [], overRun := if t.excess = 0 then 0 else t.overRun + 1, excess := 0, sentPrev := t.sentNow, sentNow := 0 }
  if (s.cell c).st = 1 ∧ (s.cell c).jstep = 5 ∧ (s.talk c).preOn ∧ (s.talk c).part = 3 ∧ s.mode.mode ≠ 1 then
    let n := if fresh && s.inPreBand c then (s.talk c).inBand + 1 else 0
    let s := s.onTalk c fun t => { t with inBand := n }
    if 8 ≤ n then s.j5Stop c else s
  else s
/-- Every declared cell at S(n). -/
def State.cellsLatch (s : State) : State := if s.cellsReal then each (s.cfg.cells.map (·.idx)) State.cellLatch s else s

end Sys2Proof.Machine
end

