-- ==== Sys2Proof/Machine/Pulses.lean ====
section
/-! DEFINITION. From references to edges: the raw waveform of each modulation kind, the joining to the carried state, minimum pulses, the wedge of a leg (R282 to R295). Times are ticks from the opening of the edge period. -/
namespace Sys2Proof.Machine

/-- A transition of a channel; moved: by DELAY of a leg. -/
structure Tr where
  t : Nat
  on : Bool
  moved : Bool := false
  deriving DecidableEq, Repr
/-- A channel or an output being compiled: what it carries in, its transitions, what it carries out, and what the rules counted. -/
structure Wave where
  st : Carry := {}
  trs : List Tr := []
  pend : Option Nat := none
  carry : Int := 0
  swal : Nat := 0
  rem : Nat := 0
  delays : Nat := 0
  drops : Nat := 0
  sat : Bool := false
  fault : Bool := false
  deriving DecidableEq, Repr
/-- Minimum times and policy of a channel. -/
structure MinRule where
  tOn : Nat := 0
  tOff : Nat := 0
  pol : MinPol := .swallow
  deriving DecidableEq, Repr

namespace Pulse

/-! ## Exact values (R282) -/

/-- Values are kept as whole multiples of 2^-149, which every finite binary32 value is. -/
def unit : Int := 2 ^ 149
/-- A finite value in units; 0 for any other. -/
def units (w : Word) : Int := match F32.unpack w with | .fin n m e => F32.signed n (m <<< (e + 149).toNat) | _ => 0
/-- n / d to the nearest whole number, halves up; d positive. -/
def nearest (n d : Int) : Int := (2 * n + d) / (2 * d)
def clampI (lo hi x : Int) : Int := max lo (min hi x)

/-! ## Intervals -/

/-- Put an interval in its place by start. -/
def insIv (x : Nat × Nat) : List (Nat × Nat) → List (Nat × Nat)
  | [] => [x]
  | y :: ys => if x.1 ≤ y.1 then x :: y :: ys else y :: insIv x ys
/-- Merge touching intervals of a list in order of start. -/
def mergeIv : List (Nat × Nat) → List (Nat × Nat)
  | [] => []
  | x :: xs =>
    match mergeIv xs with
    | [] => if x.1 < x.2 then [x] else []
    | y :: ys => if x.2 ≤ x.1 then y :: ys else if y.1 ≤ x.2 then (x.1, max x.2 y.2) :: ys else x :: y :: ys
def normIv (l : List (Nat × Nat)) : List (Nat × Nat) := mergeIv (l.foldr insIv [])
/-- On from a start, taken mod T, for w ticks; what runs past T begins the period too. -/
def wrapIv (T : Nat) (start : Int) (w : Nat) : List (Nat × Nat) :=
  if w = 0 then [] else if T ≤ w then [(0, T)]
  else
    let a := (start % (T : Int)).toNat
    if a + w ≤ T then [(a, a + w)] else [(0, a + w - T), (a, T)]

/-! ## Modulation kinds -/

/-- Carrier PWM (R282): P = T / CC, the reference in units. -/
def cpwm (T cc : Nat) (r : Int) (above neg : Bool) (phi : Int) : List (Nat × Nat) :=
  let P : Int := (T / cc : Nat)
  let r := clampI (-unit) unit r
  let r := if neg then -r else r
  let on := nearest (P * (unit - r)) (4 * unit)
  let off := nearest (P * (3 * unit + r)) (4 * unit)
  let start := if above then on else off
  let w := if above then off - on else P - (off - on)
  normIv ((List.range cc).flatMap fun (j : Nat) => wrapIv T (start + (j : Int) * P - phi) w.toNat)
/-- Phase θ of a leg in ticks (R284). -/
def theta (P : Int) (role : PsmRole) (d a1 a2 : Int) : Int :=
  let h := P / 2
  let x := match role with
    | .pri1 => 0
    | .pri2 => h * (unit - a1)
    | .sec1 => h * d
    | .sec2 => h * (d + unit - a2)
  nearest x unit
/-- Phase-shift modulation (R284). -/
def psm (T cc : Nat) (role : PsmRole) (high : Bool) (d a1 a2 : Int) : List (Nat × Nat) :=
  let P : Int := (T / cc : Nat)
  let th := theta P role (clampI (-unit) unit d) (clampI 0 unit a1) (clampI 0 unit a2)
  let start := if high then th else th + P / 2
  normIv ((List.range cc).flatMap fun (j : Nat) => wrapIv T (start + (j : Int) * P) (P / 2).toNat)
/-- Nearest level for one channel of a cell: its bits in the inserting and the bypass mask, its cell's rank (R285). -/
def nlm (T : Nat) (level : Int) (n : Nat) (rank : Option Nat) (ins byp : Bool) : List (Nat × Nat) :=
  let a : Int := level.natAbs
  let i0 := (a / unit).toNat
  let i := min i0 n
  let f : Int := if n ≤ i0 then 0 else a - i * unit
  let whole (b : Bool) : List (Nat × Nat) := if b then [(0, T)] else []
  match rank with
  | none => whole byp
  | some k =>
    if k < i then whole ins
    else if k = i ∧ f ≠ 0 then
      let x := (nearest ((unit - f) * T) (2 * unit)).toNat
      let y := (nearest ((unit + f) * T) (2 * unit)).toNat
      normIv ((if byp then [(0, x), (y, T)] else []) ++ (if ins then [(x, y)] else []))
    else whole byp
/-- On-intervals of a level at the opening and the changes that follow (R286). -/
def direct (T : Nat) : (since : Option Nat) → List (Nat × Bool) → List (Nat × Nat)
  | none, [] => []
  | some a, [] => if a < T then [(a, T)] else []
  | none, (t, on) :: r => if on then direct T (some t) r else direct T none r
  | some a, (t, on) :: r => if on then direct T (some a) r else (if a < t then [(a, t)] else []) ++ direct T none r

/-! ## Joining and the turn-on delay (R288, R289) -/

/-- One raw pulse whose turn-on comes at a tick. -/
def place (T on off : Nat) : List Tr × Option Nat :=
  if off < T ∧ off ≤ on then ([], none)
  else if T ≤ on then ([], some (on - T))
  else (({ t := on, on := true } : Tr) :: (if off < T then [{ t := off, on := false }] else []), none)
/-- Join the raw waveform to the level and the deferred turn-on, delay every raw turn-on. -/
def join (T dt : Nat) (c : Carry) (raw : List (Nat × Nat)) : List Tr × Option Nat :=
  let later (l : List (Nat × Nat)) : List Tr × Option Nat :=
    l.foldl (fun (a : List Tr × Option Nat) x => let p := place T (x.1 + dt) x.2; (a.1 ++ p.1, if p.2.isSome then p.2 else a.2)) ([], none)
  match raw with
  | (0, b) :: r =>
    let (h, p) : List Tr × Option Nat :=
      if c.level then (if b < T then [{ t := b, on := false }] else [], none)
      else place T (match c.pend with | some p => p | none => dt) b
    let (l, q) := later r
    (h ++ l, if q.isSome then q else p)
  | _ =>
    let (l, q) := later raw
    ((if c.level then [{ t := 0, on := false }] else []) ++ l, q)

/-! ## Minimum pulses (R290 to R292) -/

def minOf (m : MinRule) (on : Bool) : Nat := if on then m.tOn else m.tOff
/-- Least width a neighbour of a kind keeps. -/
def keep (m : MinRule) (on : Bool) : Nat := max 1 (minOf m on)
/-- CARRY after a width is added, held within twice the minimum; whether some was discarded. -/
def owe (m : MinRule) (c d : Int) : Int × Bool :=
  let x := clampI (-(2 * m.tOff : Nat)) (2 * m.tOn : Nat) (c + d)
  (x, x != c + d)
/-- CARRY is owed to a pulse of a kind. -/
def owed (c : Int) (on : Bool) : Bool := if on then decide (0 < c) else decide (c < 0)
/-- How far an edge may move into a neighbour of a width (none: unlimited) and a kind, by at most `room`. -/
def margin (m : MinRule) (on : Bool) (width : Option Nat) (room : Nat) : Nat :=
  match width with
  | none => room
  | some w => min room (w - keep m on)
/-- Place d ticks of widening: half before, half after, what one side cannot take on the other; an odd tick goes after. -/
def spread (d before after : Nat) : Nat × Nat :=
  let a := min (d - min (d / 2) before) after
  (min (d - a) before, a)
/-- A carried pulse is made longer at its end until it reaches x; pulses it covers vanish (R291). -/
def extend (T x : Nat) : List Tr → List Tr × Option Nat
  | [] => ([], none)
  | [a] => if T ≤ max a.t x then ([], if a.on then some (max a.t x - T) else none) else ([{ a with t := max a.t x }], none)
  | a :: b :: r =>
    if x ≤ a.t then (a :: b :: r, none)
    else if b.t ≤ x then extend T x r
    else ({ a with t := x } :: b :: r, none)
/-- Judge each pulse between two transitions. done: transitions kept, last first; prev: when the one before them came. -/
def minGo (T : Nat) (m : MinRule) (prev : Option Int) : (fuel : Nat) → (done rest : List Tr) → Wave → Wave
  | 0, done, rest, w => { w with trs := done.reverse ++ rest }
  | n + 1, done, rest, w =>
    match rest with
    | [] => { w with trs := done.reverse }
    | [x] => { w with trs := done.reverse ++ [x] }
    | x :: y :: r =>
      let width := y.t - x.t
      let mn := minOf m x.on
      let signed (d : Nat) : Int := if x.on then (d : Int) else -(d : Int)
      let before := match done with
        | [] => margin m (!x.on) (prev.map fun p => ((x.t : Int) - p).toNat) x.t
        | d :: _ => margin m (!x.on) (some (x.t - d.t)) x.t
      let after := match r with
        | [] => T - y.t
        | z :: _ => margin m (!x.on) (some (z.t - y.t)) (T - y.t)
      let swallow (w : Wave) : Wave :=
        let c := owe m w.carry (signed width)
        minGo T m prev n done r { w with carry := c.1, sat := w.sat || c.2, swal := w.swal + 1 }
      -- an edge at T is the opening of the next edge period
      let widen (p : Nat × Nat) (w : Wave) : Wave :=
        let x' := { x with t := x.t - p.1 }
        let y' := { y with t := y.t + p.2 }
        if T ≤ y'.t then { w with trs := done.reverse ++ [x'], pend := if y.on then some (y'.t - T) else w.pend }
        else minGo T m prev n (x' :: done) (y' :: r) w
      if w.carry ≠ 0 ∧ owed w.carry x.on then
        let d := w.carry.natAbs
        if width + d < mn then swallow w
        else
          let p := spread d before after
          if width + p.1 + p.2 < mn then swallow w
          else widen p { w with carry := signed (d - (p.1 + p.2)) }
      else if mn ≤ width then minGo T m prev n (x :: done) (y :: r) w
      else
        match m.pol with
        | .swallow => swallow w
        | .fault => { w with fault := true, trs := done.reverse ++ rest }
        | .stretch =>
          let p := spread (mn - width) before after
          if width + p.1 + p.2 < mn then minGo T m prev n done r { w with rem := w.rem + 1 }
          else widen p { w with rem := w.rem + 1 }
/-- The minimum-pulse rules over one channel: first the pulse that began earlier, which only its end may lengthen. -/
def minPulse (T : Nat) (m : MinRule) (w : Wave) : Wave :=
  match w.trs with
  | [] => w
  | x :: r =>
    let on := !x.on
    let mn := minOf m on
    let prev : Option Int := w.st.last.map fun l => -(l : Int)
    let width : Option Nat := w.st.last.map (· + x.t)
    let long (v : Nat) : Bool := match width with | some k => decide (mn ≤ k + v) | none => true
    let rest := match r with | [] => none | y :: _ => some (y.t - x.t)
    let room := margin m (!on) rest (T - x.t)
    let go (w : Wave) : Wave := minGo T m prev (w.trs.length + 1) [] w.trs w
    let d := w.carry.natAbs
    if w.carry ≠ 0 ∧ owed w.carry on ∧ long d ∧ long (min d room) then
      let p := min d room
      let (l, q) := extend T (x.t + p) (x :: r)
      go { w with trs := l, pend := if q.isSome then q else w.pend, carry := if on then ((d - p : Nat) : Int) else -((d - p : Nat) : Int) }
    else if long 0 then go w
    else if m.pol = .fault then { w with fault := true }
    else
      let (l, q) := extend T (mn - w.st.last.getD 0) (x :: r)
      go { w with trs := l, pend := if q.isSome then q else w.pend, rem := w.rem + 1 }

/-! ## Legs and the wedge (R293 to R295) -/

/-- Level at a tick; withOn: turn-ons at that very tick counted. -/
def levelAt (c : Carry) (l : List Tr) (t : Nat) (withOn : Bool) : Bool :=
  l.foldl (fun b x => if x.t < t || (x.t == t && (withOn || !x.on)) then x.on else b) c.level
/-- The last turn-off at or before a tick. -/
def lastOff (c : Carry) (l : List Tr) (t : Nat) : Option Int :=
  l.foldl (fun b x => if !x.on && decide (x.t ≤ t) then some (x.t : Int) else b) (if c.level then none else c.last.map fun k => -(k : Int))
/-- The first turn-off after a tick. -/
def offAfter (l : List Tr) (t : Nat) : Option Nat := (l.find? fun x => !x.on && decide (t < x.t)).map (·.t)
/-- Without the turn-on at a tick and the turn-off that ends its pulse. -/
def cutPulse (l : List Tr) (t : Nat) : List Tr :=
  match offAfter l t with
  | some e => l.filter fun x => !(x.on && x.t == t) && !(!x.on && x.t == e)
  | none => l.filter fun x => !(x.on && x.t == t)
/-- Resolve a turn-on of x at a tick that violates the leg with y (R294). -/
def resolve (T G : Nat) (pol : WedgePol) (t : Nat) (withOn : Bool) (x y : Wave) : Wave :=
  match pol with
  | .fault => { x with fault := true }
  | .drop => { x with trs := cutPulse x.trs t, drops := x.drops + 1 }
  | .delay =>
    let target : Option Nat :=
      if levelAt y.st y.trs t withOn then (offAfter y.trs t).map (· + G)
      else (lastOff y.st y.trs t).map fun (o : Int) => (o + (G : Int)).toNat
    let dropped : Wave := { x with trs := cutPulse x.trs t, drops := x.drops + 1 }
    let deferred (p : Nat) : Wave :=
      { x with trs := x.trs.filter (fun k => !(k.on && k.t == t)), pend := some p, delays := x.delays + 1 }
    match target, offAfter x.trs t with
    | none, some _ => dropped
    | none, none => deferred 0
    | some v, some e =>
      if e ≤ v then dropped
      else { x with trs := x.trs.map (fun k => if k.on && k.t == t then { k with t := v, moved := true } else k), delays := x.delays + 1 }
    | some v, none =>
      if T ≤ v then deferred (v - T)
      else { x with trs := x.trs.map (fun k => if k.on && k.t == t then { k with t := v, moved := true } else k), delays := x.delays + 1 }
/-- The first turn-on at or after a place in the order: tick, then declaration. -/
def nextOn (x y : Wave) (t who : Nat) : Option (Nat × Nat) :=
  let fx := x.trs.find? fun k => k.on && (decide (t < k.t) || (k.t == t && who == 0))
  let fy := y.trs.find? fun k => k.on && decide (t ≤ k.t)
  match fx, fy with
  | none, none => none
  | some a, none => some (a.t, 0)
  | none, some b => some (b.t, 1)
  | some a, some b => if a.t ≤ b.t then some (a.t, 0) else some (b.t, 1)
/-- Examine the turn-ons of a leg in ascending offset. -/
def wedgeGo (T G : Nat) (pol : WedgePol) : (fuel : Nat) → (t who : Nat) → Wave → Wave → Wave × Wave
  | 0, _, _, x, y => (x, y)
  | n + 1, t, who, x, y =>
    match nextOn x y t who with
    | none => (x, y)
    | some (a, w) =>
      let near (c : Carry) (l : List Tr) : Bool := match lastOff c l a with | some o => decide ((a : Int) - o < G) | none => false
      let next := if w = 0 then (a, 1) else (a + 1, 0)
      if w = 0 then
        if levelAt y.st y.trs a false || near y.st y.trs then wedgeGo T G pol n next.1 next.2 (resolve T G pol a false x y) y
        else wedgeGo T G pol n next.1 next.2 x y
      else if levelAt x.st x.trs a true || near x.st x.trs then wedgeGo T G pol n next.1 next.2 x (resolve T G pol a true y x)
      else wedgeGo T G pol n next.1 next.2 x y
/-- The wedge over one leg. -/
def wedge (T G : Nat) (pol : WedgePol) (x y : Wave) : Wave × Wave :=
  let n := x.trs.length + y.trs.length + 1
  wedgeGo T G pol (2 * n * n) 0 0 x y
/-- Pulses the wedge made shorter than their minimum go (R295). -/
def shortGo (m : MinRule) : List Tr → List Tr × Nat
  | [] => ([], 0)
  | [x] => ([x], 0)
  | x :: y :: r =>
    if x.on && x.moved && decide (y.t - x.t < m.tOn) then
      let (l, n) := shortGo m r
      (l, n + 1)
    else
      let (l, n) := shortGo m (y :: r)
      (x :: l, n)
def shorts (m : MinRule) (w : Wave) : Wave := let (l, n) := shortGo m w.trs; { w with trs := l, rem := w.rem + n }

/-! ## What is carried on -/

/-- A channel that compiles all-off (R281, R314): its level falls at the opening, nothing is owed. -/
def offWave (c : Carry) : Wave := { st := c, trs := if c.level then [{ t := 0, on := false }] else [] }
/-- Carried state after a compiled waveform. -/
def carryOut (T : Nat) (w : Wave) : Carry :=
  match w.trs.getLast? with
  | none => { w.st with last := w.st.last.map (· + T), pend := w.pend, carry := w.carry }
  | some x => { w.st with level := x.on, last := some (T - x.t), pend := w.pend, carry := w.carry }
/-- Carried state that an off state leaves (R300). -/
def carryOff (T : Nat) (c : Carry) : Carry := { last := if c.level then some T else c.last.map (· + T) }
/-- Carried state after the last set sent is replayed once (R300): level at the opening, its words. -/
def replay (T : Nat) (c : Carry) (init : Bool) (words : List (Bool × Nat)) : Carry :=
  match words.getLast? with
  | some w => { c with level := w.1, last := some (T - w.2), carry := 0, boot := 0 }
  | none => { c with level := init, last := if init = c.level then c.last.map (· + T) else some T, carry := 0, boot := 0 }
/-- The level at the opening and the words after it. -/
def initOf (w : Wave) : Bool := levelAt w.st w.trs 0 true
def wordsOf (w : Wave) : List (Bool × Nat) := (w.trs.filter fun x => x.t != 0).map fun x => (x.on, x.t)

end Pulse
end Sys2Proof.Machine
end

