-- ==== Sys2Proof/Machine/Edg.lean ====
section
/-! DEFINITION. The edge scheduler: references and commits, the compile, shipping, local outputs (R42 to R47, R279 to R323, R753). -/
namespace Sys2Proof.Machine
open Pulse
/-- An output executes its transition at an offset of the edge period. -/
def Lpwm.edge (o : Nat) (x : Lpwm) : Lpwm :=
  { x with level := ((x.todo.filter (·.1 == o)).getLast?.getD (0, x.level)).2, todo := x.todo.filter fun w => decide (o < w.1) }
namespace State

/-! ## References -/

def grp (s : State) (g : Nat) : Grp := at' s.edg.grps g {}
def onGrp (g : Nat) (f : Grp → Grp) (s : State) : State := s.onEdg fun e => { e with grps := modAt e.grps g f }
/-- A slot of a group's frozen set; where it is not finite, what the last compile used (R287). -/
def slot (s : State) (g i : Nat) : Word :=
  let v := at' (s.grp g).frozen i 0
  if F32.finite v then v else at' (s.grp g).used i 0
/-- An output's declaration. -/
def outDecl (s : State) (j : Nat) : LpwmDecl := at' s.cfg.lpwm j {}
/-- Ranking that the compile uses for an arm. -/
def ranking (s : State) (a : Nat) : List (Nat × Nat) := ((s.comp.ranks.find? (·.1 == a)).map (·.2)).getD []
/-- The mask BYP of a cell, as BAL has selected it (R384). -/
def bypMask (s : State) (c : Nat) : Nat :=
  let k := s.kind c
  match k.bypB with | some m => if (at' s.bal.cells c {}).bypB then m else k.bypA | none => k.bypA
/-- Cells of the same arm that a group declares, ascending (R283). -/
def armCells (s : State) (g c : Nat) : List Nat :=
  match s.armOf c with
  | none => []
  | some a =>
    let l := (at' s.cfg.arms a {}).members
    (List.range 128).filter fun d => l.contains d &&
      (match s.decl d with | some x => x.chans.any fun b => (match b with | some b => b.group == g | none => false) | none => false)
/-- Carrier phase AUTO (R283). -/
def autoPhase (s : State) (g c P : Nat) : Int :=
  let l := s.armCells g c
  nearest ((l.takeWhile (· != c)).length * P : Nat) (l.length : Nat)

/-! ## Direct sets (R286, R244) -/

/-- Channel, level and offset of an edge word (R244). -/
def edgeWord (w : Word) : Nat × Bool × Nat := (bits w.toNat 31 28, tbit w.toNat 27, w.toNat % 2 ^ 27)
/-- The words of a direct set that are used. -/
def usedWords (l : List Word) : List (Nat × Bool × Nat) := (l.filter (· != 0xFFFFFFFF)).map edgeWord
/-- A set is valid by R244, for a number of ticks and the channels it may name. -/
def setValid (T : Nat) (chOk : Nat → Bool) (init : Nat) (ws : List (Nat × Bool × Nat)) : Bool :=
  ws.length ≤ 64 && ws.all (fun w => decide (w.2.2 < T) && chOk w.1) &&
  (List.range (ws.length - 1)).all (fun i => decide ((at' ws i (0, false, 0)).2.2 ≤ (at' ws (i + 1) (0, false, 0)).2.2)) &&
  (List.range 16).all (fun c =>
    let o := (ws.filter (·.1 == c)).map (·.2.2)
    o.length ≤ 4 && (List.range (o.length - 1)).all fun i => at' o i 0 != at' o (i + 1) 0) &&
  (List.range 16).all (fun c => chOk c || !init.testBit c)
/-- Slots of a direct set: INIT and words. -/
def directSet (vals : List Word) (base n : Nat) : Nat × List (Nat × Bool × Nat) :=
  ((at' vals base 0).toNat % 65536, usedWords ((vals.drop (base + 1)).take n))
/-- Bases at which a remote group binds a cell's channels, with those channels. -/
def directBases (d : CellDecl) (g : Nat) : List Nat :=
  (d.chans.filterMap fun b => match b with | some b => if b.group = g then (match b.mod with | .direct x => some x | _ => none) else none | none => none).eraseDups
/-- Channel of a cell bound to a group. -/
def bound (d : CellDecl) (g i : Nat) : Bool := match at' d.chans i none with | some b => b.group == g | none => false
/-- Every direct set of a group's values is valid (R286). -/
def directOk (s : State) (g : Nat) (vals : List Word) : Bool :=
  match s.group g with
  | none => true
  | some d =>
    if d.kind ≠ .direct then true
    else if d.loc then
      let x := directSet vals 0 64
      setValid s.tick (fun i => decide (i < d.outs.length)) x.1 x.2
    else s.cfg.cells.all fun c => (directBases c g).all fun b => let x := directSet vals b 16; setValid s.tick (bound c g) x.1 x.2

/-! ## The raw waveform (R282 to R287) -/

/-- Raw on-intervals of a channel bound to a group; c: its cell, i: its channel, or the output's place in the group's list. -/
def raw (s : State) (g : Nat) (d : GroupDecl) (c : Option Nat) (i : Nat) (m : ModBind) : List (Nat × Nat) :=
  let T := s.tick
  let v (k : Nat) : Int := units (s.slot g k)
  match m with
  | .cpwm k above neg phi =>
    let ph : Int := match phi with | some x => x | none => match c with | some c => s.autoPhase g c (T / d.cc) | none => 0
    cpwm T d.cc (v k) above neg ph
  | .psm b role high => psm T d.cc role high (v b) (v (b + 1)) (v (b + 2))
  | .nlm =>
    match c with
    | none => []
    | some c =>
      match s.armOf c with
      | none => []
      | some a =>
        let ar := at' s.cfg.arms a {}
        let r := s.ranking a
        let k := s.kind c
        let l := v ar.levelSlot
        let n := r.length
        let l := if k.half then clampI 0 (n * unit) l else l
        nlm T l n ((r.find? (·.1 == c)).map (·.2)) ((if 0 ≤ l then k.insPos else k.insNeg).testBit i) ((s.bypMask c).testBit i)
  | .direct b =>
    let x := directSet (s.grp g).frozen b (if d.loc then 64 else 16)
    Pulse.direct T (if x.1.testBit i then some 0 else none) ((x.2.filter (·.1 == i)).map fun w => (w.2.2, w.2.1))
/-- Slots that a group's kind reads as binary32, with their ranges in units (R287). -/
def reads (s : State) (g : Nat) : List (Nat × Int × Int) :=
  let ofMod (m : ModBind) : List (Nat × Int × Int) := match m with
    | .cpwm k _ _ _ => [(k, -unit, unit)]
    | .psm b _ _ => [(b, -unit, unit), (b + 1, 0, unit), (b + 2, 0, unit)]
    | _ => []
  let cells := s.cfg.cells.flatMap fun d => d.chans.flatMap fun b => match b with | some b => if b.group = g then ofMod b.mod else [] | none => []
  let outs := s.cfg.lpwm.flatMap fun d => if d.edges && d.group == g then ofMod d.mod else []
  let arms := match s.group g with
    | some d => if d.kind = .nlm then (List.range s.cfg.arms.length).filterMap fun a =>
        let ar := at' s.cfg.arms a {}
        let n : Int := (s.ranking a).length
        let half := match ar.members.head? with | some c => (s.kind c).half | none => false
        if ar.levelGroup = g then some (ar.levelSlot, if half then 0 else -(n * unit), n * unit) else none
      else []
    | none => []
  (cells ++ outs ++ arms).eraseDups
/-- One enabled group's slots are read: what is used, whether a value was not finite, whether one was clamped. -/
def readGrp (g : Nat) (s : State) : State :=
  let l := s.reads g
  let fin := l.all fun x => F32.finite (at' (s.grp g).frozen x.1 0)
  let inr := l.all fun x => let v := units (s.slot g x.1); decide (x.2.1 ≤ v ∧ v ≤ x.2.2)
  let used := l.foldl (fun u x => u.set x.1 (s.slot g x.1)) (padTo' 128 (s.grp g).used)
  (s.onGrp g fun y => { y with used := used }).onEdg fun e => { e with refNan := e.refNan || !fin, clamp := e.clamp || !inr }
where
  padTo' (n : Nat) (l : List Word) : List Word := l ++ List.replicate (n - l.length) 0

/-! ## One unit compiled (R288 to R295, R303) -/

/-- A channel's waveform after the turn-on delay and the minimum-pulse rules. -/
def cook (T dt : Nat) (m : MinRule) (st : Carry) (iv : List (Nat × Nat)) : Wave :=
  let (l, p) := join T dt st iv
  minPulse T m { st := st, trs := l, pend := p, carry := st.carry }
/-- A compiled unit: its waves, and the fault that made it all-off, with the bit of EDG_FLT and the wave at fault. -/
structure UnitOut where
  waves : List Wave
  fault : Option (Nat × Nat) := none
/-- Count of a wave field over a unit. -/
def total (l : List Wave) (f : Wave → Nat) : Nat := l.foldl (fun n w => n + f w) 0
/-- Index of the first wave at fault. -/
def faultAt (l : List Wave) : Option Nat := (List.range l.length).find? fun i => (at' l i {}).fault
/-- Apply a leg to two waves of a list. -/
def legStep (T : Nat) (l : List Wave) (g : Leg) : List Wave :=
  let (x, y) := wedge T g.gap g.pol (at' l g.x {}) (at' l g.y {})
  (l.set g.x x).set g.y y
/-- The words of a list of waves in order of offset, then of channel. -/
def setWords (l : List Wave) : List (Nat × Bool × Nat) :=
  let all := (List.range l.length).flatMap fun i => (wordsOf (at' l i {})).map fun w => (i, w.1, w.2)
  all.foldr (fun w acc => (acc.takeWhile fun x => decide (x.2.2 < w.2.2)) ++ w :: acc.dropWhile fun x => decide (x.2.2 < w.2.2)) []
def setInit (l : List Wave) : Nat := maskOf l.length fun i => initOf (at' l i {})
/-- The minimum-pulse rule of a cell's channel. -/
def chanRule (s : State) (c i : Nat) (b : ChanBind) : MinRule :=
  let k := at' s.cfg.classes (at' (s.kind c).chans i {}).cls {}
  { tOn := k.tOnMin, tOff := k.tOffMin, pol := b.minPol }
/-- Compile one cell. -/
def compileCell (s : State) (trip : Nat) (c : Nat) : UnitOut :=
  let T := s.tick
  let d := (s.decl c).getD { idx := c }
  let st (i : Nat) : Carry := at' (at' s.edg.chans c []) i {}
  let off := (List.range 16).map fun i => offWave (st i)
  let ws := (List.range 16).map fun i =>
    match at' d.chans i none with
    | none => offWave (st i)
    | some b =>
      match s.group b.group with
      | none => offWave (st i)
      | some g =>
        if trip.testBit (c / 8) || !s.groupEnabled b.group then offWave (st i)
        else cook T (if g.kind = .direct then 0 else b.dtOn) (s.chanRule c i b) (st i) (s.raw b.group g (some c) i b.mod)
  match faultAt ws with
  | some i => { waves := off, fault := some (28, i) }
  | none =>
    let ws := d.legs.foldl (legStep T) ws
    match faultAt ws with
    | some i => { waves := off, fault := some (29, i) }
    | none =>
      let ws := ws.mapIdx fun i w => match at' d.chans i none with | some b => shorts (s.chanRule c i b) w | none => w
      if setValid T (fun i => decide (i < (s.kind c).chans.length)) (setInit ws) (setWords ws) then { waves := ws }
      else { waves := off, fault := some (27, 0) }
/-- Trip gates as edge period p will find them (R315). -/
def gateShut (s : State) (p j : Nat) : Bool :=
  (at' s.edg.lpwm j {}).gated && (s.modeQ.ovl.testBit 4 || !(s.comp.opens.any fun x => x.1 == j && !later 32 x.2 p))
/-- Output j turned off, or on, over an interval, whatever its waveform was there. -/
def overwrite (w : Wave) (a b : Nat) (on : Bool) : Wave :=
  let before := levelAt w.st (w.trs.filter fun x => decide (x.t < a)) a true
  let after := levelAt w.st w.trs b true
  { w with trs := (w.trs.filter fun x => decide (x.t < a)) ++ (if before = on then [] else [{ t := a, on := on }]) ++
      (if after = on then [] else [{ t := b, on := after }]) ++ w.trs.filter fun x => decide (b < x.t) }
/-- Bootstrap refresh of one output (R310, R311). -/
def refresh (s : State) (p : Nat) (ws : List Wave) (j : Nat) : List Wave :=
  let d := s.outDecl j
  match d.boot, d.partner with
  | true, some q =>
    let w := at' ws j {}
    let own := s.groupEnabled d.group
    let free := own && s.groupEnabled (s.outDecl q).group && !s.gateShut p j && !s.gateShut p q
    let full := initOf w && (wordsOf w).isEmpty
    let put (n : Nat) (l : List Wave) : List Wave := modAt l j fun w => { w with st := { w.st with boot := n } }
    if s.gateShut p j then put 0 ws
    else if own && !full then put 0 ws
    else if !free then ws
    else if w.st.boot + 1 < d.bootN then put (w.st.boot + 1) ws
    else
      let a := s.tick / 2 - d.bootW * 64
      let b := s.tick / 2 + d.bootW * 64
      modAt (modAt (put 0 ws) j fun w => overwrite w a b false) q fun w => overwrite w (a + d.gap) (b - d.gap) true
  | _, _ => ws
/-- Local groups joined to a group by legs and refresh partners (R753). -/
def unitOf (s : State) (g : Nat) : List Nat :=
  let nbrs (h : Nat) : List Nat := (List.range s.cfg.lpwm.length).filterMap fun j =>
    let d := s.outDecl j
    match d.partner with
    | some q => if d.group = h then some (s.outDecl q).group else if (s.outDecl q).group = h then some d.group else none
    | none => none
  (List.range 16).foldl (fun l _ => (l ++ l.flatMap nbrs).eraseDups) [g]
/-- Local groups declared, ascending. -/
def localGroups (s : State) : List Nat := (List.range 64).filter fun g => match s.group g with | some d => d.loc | none => false
/-- Legs of local outputs in declaration order. -/
def outLegs (s : State) : List Leg :=
  (List.range s.cfg.lpwm.length).filterMap fun j =>
    let d := s.outDecl j
    match d.partner with | some q => if j < q then some { x := j, y := q, gap := d.gap, pol := d.wedge } else none | none => none
/-- Outputs made all-off with the fault units of those at fault. -/
def offUnits (s : State) (st : List Carry) (ws : List Wave) (bad : List Nat) : List Wave :=
  let gs := bad.flatMap fun j => s.unitOf (s.outDecl j).group
  ws.mapIdx fun j w => if (s.outDecl j).edges && gs.contains (s.outDecl j).group then offWave { at' st j {} with boot := 0 } else w
/-- Waves at fault. -/
def faulty (l : List Wave) : List Nat := (List.range l.length).filter fun i => (at' l i {}).fault
/-- Compile every local output: the waves, and the faults (bit, output). -/
def compileLocal (s : State) (p : Nat) : List Wave × List (Nat × Nat) :=
  let T := s.tick
  let st := s.edg.lpwm.map (·.carry)
  let rule (j : Nat) : MinRule := let d := s.outDecl j; { tOn := d.tOnMin, tOff := d.tOffMin, pol := d.minPol }
  let ws := (List.range 32).map fun j =>
    let d := s.outDecl j
    let c := at' st j {}
    match s.group d.group with
    | none => offWave c
    | some g =>
      if !d.edges || s.gateShut p j || !s.groupEnabled d.group then offWave c
      else cook T (if g.kind = .direct then 0 else d.dtOn) (rule j) c (s.raw d.group g none d.ch d.mod)
  let minp := faulty ws
  let ws := s.offUnits st ws minp
  let ws := (List.range 32).foldl (s.refresh p) ws
  let ws := s.outLegs.foldl (legStep T) ws
  let wed := faulty ws
  let ws := s.offUnits st ws wed
  let ws := ws.mapIdx fun j w => shorts (rule j) w
  let outs (g : Nat) : List Nat := match s.group g with | some d => d.outs | none => []
  let inv := s.localGroups.filter fun g =>
    let l := (outs g).map fun j => at' ws j {}
    !setValid T (fun i => decide (i < l.length)) (setInit l) (setWords l)
  let ws := s.offUnits st ws (inv.filterMap fun g => (outs g).head?)
  (ws, minp.map (28, ·) ++ wed.map (29, ·) ++ inv.filterMap fun g => (outs g).head?.map (27, ·))

/-! ## Faults of the edge scheduler -/

/-- Set a bit of EDG_FLT and name the cell or the output. -/
def edgFault (b : Nat) (isLocal : Bool) (i : Nat) (s : State) : State :=
  s.onEdg fun e => { e with flt := setBit e.flt b, fltLocal := isLocal, fltIdx := i % 128 }
/-- Count what the rules did to a list of waves (R294, R320); CARRY_SAT. -/
def edgCount (isLocal : Bool) (i : Nat) (l : List Wave) (s : State) : State :=
  let s := s.onEdg fun e =>
    { e with wDelay := sat16 e.wDelay (total l (·.delays)), wDrop := sat16 e.wDrop (total l (·.drops)),
             mSwal := sat16 e.mSwal (total l (·.swal)), mRem := sat16 e.mRem (total l (·.rem)) }
  if l.any (·.sat) then s.edgFault 26 isLocal i else s

/-! ## The compile (R42, R281, R297 to R303) -/

/-- SET_CRC of a set (R243). -/
def setCrc (x : ESet) : Word :=
  crc32c (le 2 x.init ++ x.words.flatMap fun w => le 4 (w.1 * 2 ^ 28 + bit w.2.1 * 2 ^ 27 + w.2.2))
/-- The payload of a set's EDGE frame (R243, R244). -/
def edgePay (x : ESet) : Bytes :=
  le 1 x.words.length ++ le 1 0 ++ le 2 x.init ++ le 4 (setCrc x).toNat ++
    (x.words.flatMap fun w => le 4 (w.1 * 2 ^ 28 + bit w.2.1 * 2 ^ 27 + w.2.2)) ++ (if x.words.length % 2 = 1 then le 4 0xFFFFFFFF else [])
/-- A cell takes part in the compile of edge period p (R245, R260). -/
def takesPart (s : State) (p c : Nat) : Bool :=
  let x := s.cell c
  s.declared c && (x.st == 2 || x.st == 3 || (x.st == 1 && x.jstep == 6 && !later 32 (s.talk c).m0 p))
/-- No EDGE frame for a cell in this period: an ACTIVE one goes HOLDING (R258). -/
def holdCell (c : Nat) (s : State) : State := if (s.cell c).st = 2 then s.cellTo c 3 0 else s
/-- Withhold a cell's frame (R300, R301): its carried state is the last set sent, replayed once. -/
def withholdCell (b c : Nat) (s : State) : State :=
  let x := (s.talk c).cur
  let prev := at' s.edg.prevCh c []
  let ch := (List.range 16).map fun i =>
    replay s.tick (at' prev i {}) (x.init.testBit i) ((x.words.filter (·.1 == i)).map (·.2))
  let s := s.onEdg fun e => { e with chans := e.chans.set c ch, cmpCnt := sat32 e.cmpCnt 1 }
  let s := s.onComp fun k => { k with cells := k.cells.filter (·.1 != c), slow := k.slow.filter (· != c), bad := true }
  (s.edgFault b false c).holdCell c
/-- Withhold a local set: the outputs of its fault unit take their off states (R300, R301, R753). -/
def withholdLocal (b g : Nat) (s : State) : State :=
  let gs := s.unitOf g
  let outs := (List.range 32).filter fun j => (s.outDecl j).edges && gs.contains (s.outDecl j).group
  let s := s.onEdg fun e =>
    { e with
      lpwm := e.lpwm.mapIdx fun j x => if outs.contains j then { x with carry := carryOff s.tick (at' e.prevL j {}) } else x
      cmpCnt := sat32 e.cmpCnt (gs.filter fun h => s.comp.locals.any (·.1 == h)).length }
  let s := s.onComp fun k =>
    { k with locals := k.locals.filter (fun x => !gs.contains x.1), slow := k.slow.filter (fun u => !gs.contains (u - 128) || u < 128), bad := true }
  s.edgFault b true (outs.head?.getD 0)
/-- A set that waited for the compile of a later period than it landed in is the committed one in that period (R46). -/
def settled (s : State) (g : Grp) : Grp :=
  if g.cut.isSome && g.lper != s.per then { g with committed := g.cut.getD g.committed, cut := none } else g
/-- The reference sets frozen at C(n); a set that landed from the cut on waits for the next compile (R46, R47). -/
def freeze (s : State) : State :=
  s.onEdg fun e => { e with grps := e.grps.map fun g =>
    let g := s.settled g
    { g with frozen := g.committed, committed := g.cut.getD g.committed, cut := none } }
/-- No frame of the compile in hand is sent, every cell keeps the set it has (R29). Which bit of EDG_FLT the edge fault
sets is not stated, so it is a free value (log entry 38). -/
def edgeDrop (s : State) : State :=
  let cs := s.comp.cells.map (·.1)
  let s := each cs (fun c s =>
    let x := (s.talk c).cur
    let prev := at' s.edg.prevCh c []
    let ch := (List.range 16).map fun i => replay s.tick (at' prev i {}) (x.init.testBit i) ((x.words.filter (·.1 == i)).map (·.2))
    (s.onEdg fun e => { e with chans := e.chans.set c ch }).holdCell c) s
  let s := s.onComp fun k => { k with cells := [], slow := k.slow.filter fun u => decide (128 ≤ u) }
  (s.edgFault (25 + s.freeWord.toNat % 7) false (cs.head?.getD 0)).drawn
/-- Rankings that did not come since the last compile (R285). -/
def rankStale (s : State) : State :=
  let used := (List.range s.cfg.arms.length).filter fun a =>
    let g := (at' s.cfg.arms a {}).levelGroup
    s.groupEnabled g && (match s.group g with | some d => d.kind == .nlm | none => false)
  let stale := used.filter fun a => !s.comp.fresh.contains a
  let s := s.onComp fun k => { k with fresh := [] }
  match stale.head? with
  | some a => s.edgFault 25 false ((at' s.cfg.arms a {}).members.head?.getD 0)
  | none => s
/-- Compile one cell into the frames to be shipped. -/
def putCell (trip : Nat) (c : Nat) (s : State) : State :=
  let u := s.compileCell trip c
  let set : ESet := { init := setInit u.waves, words := setWords u.waves }
  let s := (s.edgCount false c u.waves).onEdg fun e => { e with chans := e.chans.set c (u.waves.map (carryOut s.tick)) }
  let s := s.onComp fun k => { k with cells := k.cells ++ [(c, set)] }
  match u.fault with
  | some (b, _) => s.edgFault b false c
  | none => s
/-- Compile the local outputs. -/
def putLocals (p : Nat) (s : State) : State :=
  let (ws, faults) := s.compileLocal p
  let s := s.edgCount true 0 ws
  let s := each faults (fun f s => s.edgFault f.1 true f.2) s
  let s := s.onEdg fun e => { e with lpwm := e.lpwm.mapIdx fun j x => { x with carry := carryOut s.tick (at' ws j {}) } }
  s.onComp fun k =>
    { k with locals := s.localGroups.map fun g =>
        (g, (match s.group g with | some d => d.outs | none => []).map fun j =>
          { out := j, init := initOf (at' ws j {}), words := (wordsOf (at' ws j {})).map fun (w : Bool × Nat) => (w.2, w.1) }) }
/-- Levels of the GPIO outputs by the OUT words last released (R727). -/
def gpioBits (s : State) : Nat :=
  s.cfg.outs.foldl (fun m o => match o.dest with
    | .gpio pin b => putBit m pin ((at' (at' s.bnc.benches o.bench {}).rel o.word 0).toNat.testBit b)
    | _ => m) 0
/-- The compile at C(n) of edge period n + 1. mismatch, slow: units on which the engines differ, and units still compiling. -/
def compile (mismatch slow : List Nat) (s : State) : State :=
  let p := s.perPlus 1
  let trip := s.tripSeam
  let parts := (s.cfg.cells.map (·.idx)).filter (s.takesPart p)
  let cells := (List.range 128).filter parts.contains
  let s := s.freeze.rankStale
  let s := each s.enabledGroups readGrp s
  let s := s.onEdg fun e =>
    { e with
      -- a cell that is neither ACTIVE nor HOLDING carries nothing on
      chans := e.chans.mapIdx fun c x => if parts.contains c then x else List.replicate 16 {}
      prevCh := e.chans.mapIdx fun c x => if parts.contains c then x else List.replicate 16 {}
      prevL := e.lpwm.map (·.carry) }
  let s := s.onComp fun k =>
    { k with per := p, done := true, cells := [], locals := [], slow := slow.filter (!mismatch.contains ·), offs := [],
             hist := (k.bad :: k.hist).take 15, bad := false, seams := trip, gpio := if s.standby then k.gpio else s.gpioBits }
  let s := each cells (putCell trip) s
  let s := s.putLocals p
  let s := each mismatch (fun u s =>
    if u < 128 then (if s.comp.cells.any (·.1 == u) then s.withholdCell 31 u else s)
    else if s.comp.locals.any (·.1 == u - 128) then s.withholdLocal 31 (u - 128) else s) s
  if s.comp.ecc = s.absPer then s.edgeDrop else s
/-- Mismatches or late sets in 2 of 16 compiles (R302). -/
def compileBad (s : State) : Bool := 2 ≤ ((s.comp.bad :: s.comp.hist).filter id).length
/-- Ticks since C(n) of the compile that is not yet executing, by this member's clock. -/
def sinceC (s : State) : Nat := (s.per + M32 + 1 - s.comp.per) % M32 * s.tick + s.inPer - (16 * (s.kO + 32) + s.lag)
/-- The compile has stopped: no EDGE frame goes to any cell, so those ACTIVE hold (R258, R302). -/
def noEdges (s : State) : State := each (s.cfg.cells.map (·.idx)) holdCell s
/-- One cell's frame leaves on both paths, or, under SYNTHETIC, reaches its model (R299, R685). -/
def shipCell (c : Nat) (x : ESet) (s : State) : State :=
  let k := setCrc x
  let s := s.onTalk c fun t =>
    { t with cur := x, sent := ((s.comp.per, k) :: t.sent).take 4, acked := if s.modeQ.ovl.testBit 4 then some (s.comp.per, k) else t.acked,
             sentNow := t.sentNow + 1 }
  let s := s.onComp fun m => { m with cells := m.cells.filter (·.1 != c) }
  if s.modeQ.ovl.testBit 4 then s
  else s.seamSend (c / 8) (cellBlocks 1 c s.comp.per s.seam.epoch (edgePay x))
/-- Blocks of a cell's EDGE frame (R243). -/
def frameBlocks (x : ESet) : Nat := 3 + (x.words.length + 1) / 2
/-- EDGE frames leave this member: active, or a standby shipping its own path; not during step 9 (R73) or a warm reset (R652). -/
def maySendEdge (s : State) : Bool := s.modeQ.ovl.testBit 4 || (s.maySend && !s.pair.taking && s.step9.isNone && !s.pwr.warm)
/-- The ship slot of a cell's frame in ticks after C(n) (R301). -/
def shipSlot (s : State) (c : Nat) : Nat :=
  let q := c / 8
  let low := ((List.range 8).map (8 * q + ·)).filter fun d => decide (d < c) && s.takesPart s.comp.per d
  let n := low.foldl (fun n d => n + frameBlocks (((s.comp.cells.find? (·.1 == d)).map (·.2)).getD (s.talk d).cur)) 0
  16 * at' s.cfg.topo.shipOfs q 0 + n * mrkTicks (s.ln (2 * q)).rate / 16384

/-! ## Local outputs (R307 to R309) -/

/-- Outputs are high-impedance: unpowered, HOST-WAIT, STANDBY (R307). -/
def outsHiz (s : State) : Bool := !s.inForce || !s.pwr.dom.testBit 8 || s.pwr.warm || (s.cfg.topo.pair && (if s.pair.hand then s.pair.st != 3 else s.pair.st != 4))
/-- An output at the opening of edge period p. -/
def openOut (p : Nat) (s : State) (j : Nat) (x : Lpwm) : Lpwm :=
  let x := { x with gated := s.gateShut p j, hiz := s.outsHiz }
  let d := s.outDecl j
  let set := if s.comp.done && s.comp.per == p then (s.comp.locals.flatMap (·.2)).find? (·.out == j) else none
  if x.hiz || s.edg.stopped || !s.locked || x.gated || s.mode.mode == 0 && !s.modeQ.ovl.testBit 2 || !d.edges || !s.groupEnabled d.group then lpwmOff x
  else
    match set with
    | none => lpwmOff x
    | some y => { x with run := true, level := y.init, todo := y.words }
/-- Ticks since the edge period in progress opened (R43). -/
def inEdge (s : State) : Nat := (s.inPer + s.tick - 16 * s.kO) % s.tick
/-- Levels at the end of a set. -/
def endLevels (x : ESet) : Nat := x.words.foldl (fun m w => putBit m w.1 w.2.1) x.init
/-- SET_CRC of every set the compile made. -/
def cellCrcs (s : State) : List (Nat × Word) := s.comp.cells.map fun x => (x.1, setCrc x.2)
/-- Receive lanes of the declared seams' paths that are UP here, a mask. -/
def upPaths (s : State) : Nat := maskOf 32 fun l => s.seamMask.testBit (l / 2) && (s.ln l).rx == 5
/-- The ACTIVE's REFS for the compile just made, the heartbeat; old: the state before the compile (R618). -/
def heartbeat (old s : State) : State :=
  if s.role = 1 then
    let r : RefsFrame :=
      { period := s.per, epoch := s.seam.epoch, mode := s.mode.mode, target := s.mode.target, sub := s.mode.sub, safeReason := s.mode.reason,
        sps := s.mode.sps.map fun p => (p.x, p.r),
        refs := ((List.range 64).filter fun g => (s.grp g).frozen != (old.grp g).frozen).map fun g => (g, (s.grp g).frozen),
        ranks := s.comp.ranks, setCrcs := old.pair.setCrcs, mirrorOff := s.pair.mirrorOff, mirrorNo := s.pair.sent,
        paths := s.upPaths }
    let s' := s.onPair fun p => { p with setCrcs := s.cellCrcs }
    if s.pair.heartbeat then s'.pairSend (.refs r) else s'
  else s
/-- The opening of the edge period that begins at O(n) (R43, R308). -/
def opening (s : State) : State :=
  let p := s.per
  let s := s.onPair fun x => { x with hand := x.hand && later 32 x.takePer p }
  let s := s.outsTo (openOut p s)
  let s := s.onComp fun k => { k with opens := k.opens.filter fun x => later 32 x.2 p }
  let s := s.onSys fun y => { y with gpioOut := if s.comp.done && s.comp.per == p then s.comp.gpio else y.gpioOut, gpioHiz := s.outsHiz }
  -- a cell that has not acknowledged the set for this edge period replays the one before (R387)
  s.onSeam fun b => { b with talks := b.talks.map fun t =>
    { t with lvl := endLevels t.exec, exec := match t.acked with | some a => if a.1 = p then t.cur else t.exec | none => t.exec } }

/-! ## Commits (R45, R46, R304 to R306) -/

/-- Where a commit that lands now takes effect: LATE, and the first edge period built from it. -/
def landing (s : State) : Bool × Nat :=
  if s.cyc < s.kO + 16 then (false, s.perPlus 1)
  else if s.cyc ≤ s.kO + 31 then (true, s.perPlus 2)
  else (false, s.perPlus 2)
/-- The state as it stood at an earlier instant, for what depends on the time alone. -/
def atTime (s : State) (t : Nat) : State := { s with now := min s.now t }
/-- The last instant at which a commit lands: six EDGE cycles after it was presented (R26). -/
def landBy (f : Flight) : Nat := f.at_ + 96
/-- A group after a set landed in cycle k of period n: the next compile uses the set when it landed before the cut opens,
or after C(n) has begun; else it waits for the compile after (R46, R47). -/
def landed (x : State) (f : Flight) (g : Grp) : Grp :=
  let put (old : List Word) : List Word := f.vals ++ old.drop f.vals.length
  let g := { x.settled g with lper := x.per, lcyc := x.cyc, llate := x.landing.1 }
  if x.cyc < x.kO + 16 || (x.kO + 32 ≤ x.cyc && x.reached 5) then { g with committed := put g.committed }
  else { g with cut := some (put (g.cut.getD g.committed)) }
/-- A commit lands, now or when its crossing ended. -/
def land (f : Flight) (s : State) : State :=
  if !s.directOk f.g f.vals then s.onEdg fun e => { e with directBad := true }
  else
    let x := s.atTime (landBy f)
    let (late, p) := x.landing
    let s := s.onGrp f.g (x.landed f)
    let s := s.onEdg fun e =>
      { e with late := e.late || late, lastLate := late, lastGrp := f.g, rldLate := if late then setBit e.rldLate f.g else e.rldLate }
    if f.src = 1 then
      match s.host.opens.find? fun o => o.kind == 0 && o.arg == f.g with
      | some o => s.answerOpen o { status := 2, per := some p, late := late }
      | none => s
    else s
/-- A commit goes on its way to EDGE. -/
def commit (f : Flight) (s : State) : State := s.onEdg fun e => { e with flights := e.flights ++ [{ f with at_ := s.now }] }
/-- A commit on its way lands and leaves its crossing. -/
def landFlight (f : Flight) (s : State) : State := land f (s.onEdg fun e => { e with flights := e.flights.erase f })
/-- Commits whose crossing must have ended land in the order presented (R26, R39). -/
def landDue (s : State) : State := each (s.edg.flights.filter fun f => decide (landBy f ≤ s.now)) landFlight s
/-- The commit of a group that may land now: no earlier than three EDGE cycles after it was presented, and after those its
source presented before it (R26, R27). -/
def landable (s : State) (g : Nat) : Option Flight :=
  s.edg.flights.find? fun f => f.g == g && decide (f.at_ + 48 ≤ s.now) && s.edg.flights.find? (·.src == f.src) == some f
/-- The set in force for the next compile, as EDG_REF shows it. -/
def committedNow (g : Grp) : List Word := g.cut.getD g.committed
end State
open State

/-- COMMIT_LANDING. -/
def execCommitLanding (t : Nat) (g : Nat) (s : State) : Host.Outcome State Fault Refusal :=
  .next (s.run t fun s =>
    let s := s.landDue
    match s.landable g with
    | none => s
    | some f => s.landFlight f)
/-- COMPILE_START. -/
def execCompileStart (t : Nat) (mismatch slow : List Nat) (s : State) : Host.Outcome State Fault Refusal :=
  .next (s.runIf t
    (fun s => s.atPoint 5 (s.kO + 32) && !(s.cfg.topo.pair && s.pair.st == 3))
    fun s =>
      let s := (s.landDue.reach 5).takeEnd
      (if s.edg.stopped then s.noEdges else State.heartbeat s (State.compile mismatch slow s)).cellsPeriod)
/-- COMPILE_STOP (R302). -/
def execCompileStop (t : Nat) (s : State) : Host.Outcome State Fault Refusal :=
  .next (s.runIf t (fun s => s.compileBad && !s.edg.stopped) fun s =>
    let s := s.onEdg fun e => { e with stopped := true }
    let s := s.onComp fun k => { k with done := false, cells := [], locals := [], slow := [], hist := [], bad := false }
    (s.allOff).heartbeatStop 3 0)
/-- SHIP_SLOT. -/
def execShipSlot (t : Nat) (c : Nat) (s : State) : Host.Outcome State Fault Refusal :=
  .next (s.runIf t
    (fun s => s.comp.done && s.comp.slow.contains c && decide (c < 128) && s.comp.cells.any (·.1 == c) && s.sinceC == s.shipSlot c)
    (withholdCell 30 c))
/-- LOCAL_SET_DEADLINE: 64 cycles before the opening. -/
def execLocalSetDeadline (t : Nat) (g : Nat) (s : State) : Host.Outcome State Fault Refusal :=
  .next (s.runIf t
    (fun s => s.comp.done && s.comp.slow.contains (128 + g) && s.comp.locals.any (·.1 == g) &&
      s.comp.per == s.per && s.timeline && s.cyc == s.kO - 64)
    (withholdLocal 30 g))
/-- EDGE_FRAME_SHIP. -/
def execEdgeFrameShip (t : Nat) (seam : Nat) (s : State) : Host.Outcome State Fault Refusal :=
  .next (s.runIf t
    (fun s => s.comp.done && !s.edg.stopped && s.maySendEdge && s.sinceC / 16 == at' s.cfg.topo.shipOfs seam 0)
    fun s => each (s.comp.cells.filter fun x => x.1 / 8 == seam && !s.comp.slow.contains x.1) (fun x s => s.shipCell x.1 x.2) s)
/-- EDGE_PERIOD_OPENING. -/
def execEdgePeriodOpening (t : Nat) (s : State) : Host.Outcome State Fault Refusal :=
  .next (s.runIf t (fun s => s.atPoint 4 s.kO) fun s => (s.reach 4).opening)
/-- LPWM_TRANSITION (R309). -/
def execLpwmTransition (t : Nat) (j : Nat) (s : State) : Host.Outcome State Fault Refusal :=
  .next (s.runIf t (fun s => (at' s.edg.lpwm j {}).run && (at' s.edg.lpwm j {}).todo.any (·.1 == s.inEdge))
    fun s => s.outsTo fun i x => if i = j then x.edge s.inEdge else x)

/-! ## Commands (R318, R319) -/

/-- Causes common to the reference commands, in the order of R319. -/
def refCauses (s : State) (g : Nat) : List (Bool × Nat) :=
  [((s.group g).isNone, 2), (match s.group g with | some d => d.owner != .host | none => true, 1), (s.edg.stopped, 5)]
/-- Slots of a group. -/
def slotsOf (s : State) (g : Nat) : Nat := match s.group g with | some d => d.slots | none => 0
/-- The words of a payload from an offset. -/
def payWords (p : Bytes) (o : Nat) : List Word := (List.range ((p.length - o) / 4)).map fun i => fieldW p (o + 4 * i)
/-- REF_STAGE. -/
def cmdRefStage : Cmd where
  opcode := 0x0301
  lens := fun n => 8 ≤ n && n ≤ 232 && n % 4 == 0
  fields := fun h p _ => firstBad [target0 h, zeros p 1 1]
  block := fun _ p s =>
    let g := field p 0 1
    blockCause (refCauses s g ++ [(decide (slotsOf s g < field p 2 2 + (p.length - 4) / 4), 3)])
  act := fun _ p s =>
    let o := field p 2 2; let v := payWords p 4
    (s.onGrp (field p 0 1) fun g => { g with staging := g.staging.take o ++ v ++ g.staging.drop (o + v.length) }, {})
/-- REF_COMMIT. -/
def cmdRefCommit : Cmd where
  opcode := 0x0302
  lens := (· == 4)
  fields := fun h p _ => firstBad [target0 h, zeros p 1 3]
  block := fun _ p s => let g := field p 0 1; blockCause (refCauses s g ++ [(!s.directOk g (s.grp g).staging, 4)])
  act := fun _ p s => let g := field p 0 1; (s.commit { g := g, vals := (s.grp g).staging, src := 1 }, { status := 2, wait := some (0, g) })
/-- REF_DISCARD. -/
def cmdRefDiscard : Cmd where
  opcode := 0x0303
  lens := (· == 4)
  fields := fun h p _ => firstBad [target0 h, zeros p 1 3]
  block := fun _ p s => blockCause (refCauses s (field p 0 1))
  act := fun _ p s => (s.onGrp (field p 0 1) fun g => { g with staging := committedNow g }, {})
/-- REF_STAGE. -/
def execRefStage (t : Nat) (h : RecHdr) (g slot : Nat) (vals : List Word) (s : State) : Host.Outcome State Fault Refusal :=
  .next (hostRow cmdRefStage t h (le 1 g ++ le 1 0 ++ le 2 slot ++ vals.flatMap fun v => le 4 v.toNat) s)
/-- REF_COMMIT. -/
def execRefCommit (t : Nat) (h : RecHdr) (g : Nat) (s : State) : Host.Outcome State Fault Refusal :=
  .next (hostRow cmdRefCommit t h (le 4 (g % 256)) s)
/-- REF_DISCARD. -/
def execRefDiscard (t : Nat) (h : RecHdr) (g : Nat) (s : State) : Host.Outcome State Fault Refusal :=
  .next (hostRow cmdRefDiscard t h (le 4 (g % 256)) s)

end Sys2Proof.Machine
end

