-- ==== Sys2Proof/Machine/Bench.lean ====
section
/-! DEFINITION. The control benches: instructions, faults, shared units, loops, gain schedules, the trace (R324 to R372). -/
namespace Sys2Proof.Machine
namespace State

/-! ## Benches -/

def bench (s : State) (b : Nat) : Bench := at' s.bnc.benches b {}
def onBench (b : Nat) (f : Bench → Bench) (s : State) : State := s.onBnc fun x => { x with benches := modAt x.benches b f }
def benchDecl (s : State) (b : Nat) : BenchDecl := at' s.cfg.benches b {}
def loopS (s : State) (l : Nat) : Loop := at' s.bnc.loops l {}
def onLoop (l : Nat) (f : Loop → Loop) (s : State) : State := s.onBnc fun x => { x with loops := modAt x.loops l f }
def loopDecl (s : State) (l : Nat) : Option LoopDecl := s.cfg.loops.find? (·.num == l)
/-- The domain of a bench is on: BENCHA for 0 to 7, BENCHB for 8 to 15. -/
def benchOn (s : State) (b : Nat) : Bool := (s.benchDecl b).used && s.pwr.dom.testBit (if b < 8 then 6 else 7)
/-- The least and the most ticks that n BENCH cycles of 1 ns take under the spread in force (R41, R193). -/
def benchSpan (s : State) (n : Nat) : Nat × Nat :=
  let x := s.cfg.topo.ssc
  let d := if x.bench && x.mode != 0 then x.depth else 0
  let up := if x.mode = 2 then d else 0
  (128000 * n / (5 * (2000 + up)), (128000 * n + 5 * (2000 - d) - 1) / (5 * (2000 - d)))
/-- n BENCH cycles from an instant end now. -/
def benchAfter (s : State) (at_ n : Nat) : Bool := decide (at_ + (s.benchSpan n).1 ≤ s.now) && decide (s.now ≤ at_ + (s.benchSpan n).2)
/-- Whole BENCH cycles in some ticks: as the clock ran, which under spread is known within its limits only (log entry 107). -/
def benchCycles (s : State) (ticks : Nat) : Nat :=
  let x := s.cfg.topo.ssc
  let d := if x.bench && x.mode != 0 then x.depth else 0
  let up := if x.mode = 2 then d else 0
  let lo := ticks * 5 * (2000 - d) / 128000
  lo + s.freeWord.toNat % (ticks * 5 * (2000 + up) / 128000 - lo + 1)
/-- A word of local memory by byte address (R328). -/
def lm (s : State) (b addr : Nat) : Word := Sparse.get 0 (s.bench b).mem (addr / 4)
/-- Write words of local memory from a byte address. -/
def lmPut (b addr : Nat) (l : List Word) (s : State) : State := s.onBench b fun x => { x with mem := Sparse.putAll 0 x.mem (addr / 4) l }
def benchReg (s : State) (b r : Nat) : List Word := at' (s.bench b).regs r [0, 0, 0, 0]
def setReg (b r : Nat) (v : List Word) (s : State) : State := s.onBench b fun x => { x with regs := x.regs.set r v }
/-- A bench fault (R337): the bit of BNC_FLT, whether the bench is halted. -/
def benchFault (b k : Nat) (halt : Bool) (s : State) : State :=
  let s := s.onBench b fun x => { x with withheld := true, running := x.running && !halt, last := if halt then x.cyc else x.last }
  s.onBnc fun x =>
    { x with flt := setBit x.flt k, fltBench := b % 16, fltCnt := sat32 x.fltCnt 1, bad := true, trace := { x.trace with evFault := true } }
/-- A bench becomes FAULTED (R331, R337). -/
def benchDead (b : Nat) (s : State) : State := (s.benchFault b 27 true).onBench b fun x => { x with faulted := true }
/-- Where the program goes on after an instruction (R325). -/
def advance (pc : Nat) : List LoopRec → Nat × List LoopRec
  | [] => (pc + 1, [])
  | l :: r =>
    if pc = l.last then (if 1 < l.left then (l.first, { l with left := l.left - 1 } :: r) else advance pc r)
    else (pc + 1, l :: r)
/-- The bench issues its next instruction now: one each BENCH cycle from bench start, with no stall (R324). -/
def benchRuns (b : Nat) (s : State) : Bool :=
  (s.bench b).running && !(s.bench b).ended && !(s.bench b).faulted && s.benchAfter s.bnc.startAt (s.bench b).cyc

/-! ## Instructions (R325, R326) -/

/-- A fused multiply-add, multiply, add or subtract. -/
def arith : ArithOp → Word → Word → Word → Word
  | .fma, x, y, z => F32.fma x y z
  | .mul, x, y, _ => F32.mul x y
  | .add, x, y, _ => F32.add x y
  | .sub, x, y, _ => F32.sub x y
/-- An operation on a NaN gives the quiet NaN. -/
def nanOr (l : List Word) (v : Word) : Word := if l.any F32.isNaN then F32.qnan else v
/-- A compare, select, minimum, maximum, clamp, absolute value or negate. -/
def sel : SelOp → Word → Word → Word → Word
  | .cmpLt, x, y, _ => nanOr [x, y] (Config.cmpWord (F32.lt x y))
  | .cmpLe, x, y, _ => nanOr [x, y] (Config.cmpWord (F32.le x y))
  | .cmpEq, x, y, _ => nanOr [x, y] (Config.cmpWord (F32.eq x y))
  | .select, x, y, z => nanOr [x] (let v := if x ≠ Config.cmpWord false then y else z; nanOr [v] v)
  | .min, x, y, _ => nanOr [x, y] (F32.min' x y)
  | .max, x, y, _ => nanOr [x, y] (F32.max' x y)
  | .clamp, x, y, z => nanOr [x, y, z] (F32.clamp x y z)
  | .abs, x, _, _ => nanOr [x] (F32.abs x)
  | .neg, x, _, _ => nanOr [x] (F32.neg x)
/-- Lane by lane. -/
def lanes3 (f : Word → Word → Word → Word) (x y z : List Word) : List Word :=
  (List.range 4).map fun i => f (at' x i 0) (at' y i 0) (at' z i 0)
/-- A shuffle takes lanes 0 to 3 of x and 4 to 7 of y. The spec states lanes 0 and 1 of a pairwise reduce; u and v are
lanes 2 and 3, free (log entry 13). -/
def laneOp (u v : Word) : LaneOp → List Word → List Word → List Word
  | .shuffle a b c d, x, y => [a, b, c, d].map fun i => at' (x.take 4 ++ y.take 4) i 0
  | .broadcast l, x, _ => List.replicate 4 (at' x l 0)
  | .negate m, x, _ => (List.range 4).map fun i => let w := at' x i 0; if m.testBit i then nanOr [w] (F32.neg w) else w
  | .reduce, x, _ => [F32.add (at' x 0 0) (at' x 1 0), F32.add (at' x 2 0) (at' x 3 0), u, v]
/-- An integer times a scale, rounded once. -/
def scaled (n : Int) (scale : Word) : Word :=
  match F32.unpack scale with
  | .fin g m e => F32.ofDyadic (n * F32.signed g m) e
  | _ => F32.mul (F32.ofInt n) scale
/-- A binary32 value as an integer of n bits, saturated. -/
def toInt (n : Nat) (w : Word) : Word :=
  match F32.unpack w with
  | .nan => F32.qnan
  | .inf g => BitVec.ofNat 32 (ofSigned 32 (if g then -(2 ^ (n - 1)) else 2 ^ (n - 1) - 1))
  | .fin .. => BitVec.ofNat 32 (ofSigned 32 (Pulse.clampI (-(2 ^ (n - 1))) (2 ^ (n - 1) - 1) ((F32.toIntRne w).getD 0)))
/-- A conversion. -/
def convertW : ConvOp → Word → Word → Word
  | .fromInt16, x, k => scaled (toSigned 16 x.toNat) k
  | .fromInt32, x, k => scaled (toSigned 32 x.toNat) k
  | .toInt16, x, _ => toInt 16 x
  | .toInt32, x, _ => toInt 32 x
/-- A load of these words is allowed: not PROG, not the reserved range (R328). -/
def loadOk (addr n : Nat) : Bool :=
  addr % 4 == 0 && 1 ≤ n && n ≤ 4 && decide (0x4000 ≤ addr ∧ addr + 4 * n ≤ 0x10000) && !decide (addr < 0x7000 ∧ 0x6800 < addr + 4 * n)
/-- A store to OUT, STATE or UNIT. -/
def storeOk (addr n : Nat) : Bool := addr % 4 == 0 && 1 ≤ n && n ≤ 4 && decide (0x8000 ≤ addr ∧ addr + 4 * n ≤ 0x10000)
/-- The bench finish deadline in ticks after S(n) (R36). -/
def deadline (s : State) : Nat := 16 * (s.kO - 8)
/-- Every bench still running has overrun (R40, R337). -/
def overrun (s : State) : State :=
  each ((List.range 16).filter fun b => (s.bench b).running && !(s.bench b).ended) (fun b s => s.benchFault b 31 true) s
/-- An arm's ranking is not complete at the deadline (R377). -/
def rankLate (a : Nat) (s : State) : State := s.onBal fun b => { b with flt := setBit b.flt 29, fltArm := a }
/-- Local rankings of cells that no sort has delivered by the deadline are late (R377). -/
def ranksDue (s : State) : State :=
  each ((List.range 16).filter fun a =>
    let x := at' s.bal.arms a {}
    decide (a < s.cfg.arms.length) && !(at' s.cfg.arms a {}).spread && !x.keys.isEmpty && x.rank.isNone)
    (fun a s => (s.onBal fun b => { b with arms := modAt b.arms a fun x => { x with sorting := false } }).rankLate a) s
/-- END (R336, R339), with the margin to the deadline. After the deadline it comes too late: the bench has overrun (R40). -/
def benchStop (b : Nat) (s : State) : State :=
  if s.deadline < s.lagged.inPer then s.benchFault b 31 true else
  let n := (s.bench b).cyc + 1
  let margin := s.benchCycles (s.deadline - s.lagged.inPer)
  let s := s.drawn.onBench b fun x =>
    { x with cyc := n, last := n, ended := true, running := false, slack := some (match x.slack with | some m => min m margin | none => margin) }
  if n = (s.benchDecl b).cb then s else s.benchFault b 30 true

/-! ## Shared units (R340 to R343, R356 to R358) -/

/-- A pair's input lies outside the domain of a CORDIC function, or is NaN (R340). -/
def cordicBad (fn : Nat) (x y : Word) : Bool :=
  match fn with
  | 0 => !F32.finite x
  | 1 => F32.isNaN x || F32.isNaN y
  | 2 => F32.isNaN x || F32.lt x 0
  | 3 => F32.isNaN x || F32.lt 0x42B16666 x
  | 4 => F32.isNaN x || F32.le x 0
  | _ => false
/-- The two results of a pair. -/
def cordicPair (fn : Nat) (x y : Word) : List Word :=
  if cordicBad fn x y then [F32.qnan, F32.qnan]
  else let r := Config.cordic fn x y; [r.1, if 2 ≤ fn ∧ fn ≤ 4 then 0 else r.2]
def cordicOf (fn : Nat) (x : List Word) : List Word := cordicPair fn (at' x 0 0) (at' x 1 0) ++ cordicPair fn (at' x 2 0) (at' x 3 0)
/-- The CORDIC results due by a cycle reach their registers (R340). -/
def cordicDue (b c : Nat) (s : State) : State :=
  let k := (s.bench b).cordic
  (each (k.filter fun r => decide (r.1 ≤ c)) (fun r s => s.setReg b r.2.1 r.2.2) s).onBench b fun x =>
    { x with cordic := k.filter fun r => !decide (r.1 ≤ c) }
/-- The results of the repetitive controllers due by a cycle reach UNIT (R343). -/
def rcDue (b c : Nat) (s : State) : State :=
  let k := (s.bench b).rc
  (each (k.filter fun r => decide (r.1 ≤ c)) (fun r s => s.lmPut b (0xF800 + 4 * r.2.1) [r.2.2]) s).onBench b fun x =>
    { x with rc := k.filter fun r => !decide (r.1 ≤ c) }
/-- Ranks of keys, ascending, equal keys by index (R342). -/
def ranksOf (l : List Word) : List Nat :=
  (List.range l.length).map fun i =>
    ((List.range l.length).filter fun j => F32.lt (at' l j 0) (at' l i 0) || (!F32.lt (at' l i 0) (at' l j 0) && decide (j < i))).length
/-- Change bytes of a word list. -/
def packBytes : List Nat → List Word
  | a :: b :: c :: d :: r => BitVec.ofNat 32 (a % 256 + 256 * (b % 256) + 65536 * (c % 256) + 16777216 * (d % 256)) :: packBytes r
  | _ => []
/-- Write ranks as bytes from 0xFB00; bytes beyond the last key keep their values. -/
def putRanks (b : Nat) (r : List Nat) (s : State) : State :=
  let n := (r.length + 3) / 4
  let old := (Sparse.gets 0 (s.bench b).mem (0xFB00 / 4) n).flatMap fun w => (List.range 4).map fun k => bits w.toNat (8 * k + 7) (8 * k)
  s.lmPut b 0xFB00 (packBytes (r ++ old.drop r.length))
/-- The ranks of a sort due by a cycle reach UNIT (R342). -/
def sortDue (b c : Nat) (s : State) : State :=
  match (s.bench b).sort with
  | some r => if r.1 ≤ c then (s.putRanks b r.2).onBench b fun k => { k with sort := none } else s
  | none => s
/-- What the shared units owe a bench by a cycle is there. -/
def unitsDue (b c : Nat) (s : State) : State := ((s.cordicDue b c).rcDue b c).sortDue b c
/-- Issue one instruction: a fetch outside the program is a COUNT fault (R327); what the units owe by this cycle is there, f runs,
then one cycle is counted. -/
def issue (b : Nat) (f : State → State) (s : State) : State :=
  if (s.benchDecl b).progLen ≤ (s.bench b).pc then s.benchFault b 30 true
  else
    let s := f (s.unitsDue b (s.bench b).cyc)
    s.onBench b fun x => let n := advance x.pc x.loops; { x with pc := n.1, loops := n.2, cyc := x.cyc + 1 }
/-- θ as a point of a table of n: floor of its fraction times n; free where it is not finite. -/
def rcPoint (n : Nat) (th free : Word) : Nat :=
  match F32.unpack th with
  | .fin g m e =>
    let v : Int := F32.signed g m
    if 0 ≤ e then 0
    else let d : Int := 2 ^ (-e).toNat; ((v % d) * n / d).toNat
  | _ => free.toNat % n
/-- The table written from k_p in direction d over some steps (R357). -/
def rcLearn (r : RcDecl) (old : List (Nat × Word)) (kp : Nat) (dPos : Bool) (g : Word) : (steps : Nat) → List (Nat × Word)
  | 0 => old
  | k + 1 =>
    let n := r.n
    let j := if dPos then (kp + (k + 1)) % n else (kp + (k + 1) * (n - 1)) % n
    let o (i : Nat) : Word := Sparse.get 0 old (i % n)
    let mid := F32.mul (F32.sub F32.one (F32.mul 0x40000000 r.a)) (o j)
    let sum := F32.add (F32.add (F32.mul r.a (o (j + n - 1))) mid) (F32.mul r.a (o (j + 1)))
    Sparse.put 0 (rcLearn r old kp dPos g k) j (F32.add (F32.mul r.lambda sum) g)
/-- One request of the repetitive controller (R357, R358): the loop after it, u_rc, whether RC_FAST is set. -/
def rcStep (r : RcDecl) (x : Loop) (free : Word) (v : List Word) : Loop × Word × Bool :=
  let k := rcPoint r.n (at' v 0 0) free
  let u := F32.clamp (Sparse.get 0 x.tab ((k + (if x.dPos then r.lead else r.n - r.lead % r.n)) % r.n)) (F32.neg r.umax) r.umax
  if x.rc = 0 then (x, 0, false)
  else if F32.isZero (at' v 2 0) then ({ x with kp := k, eSum := 0, cnt := 0 }, 0, false)
  else if x.st ≠ 0 ∨ x.rc = 2 then (x, u, false)
  else
    let e := F32.add x.eSum (at' v 1 0)
    let cnt := x.cnt + 1
    let delta := (k + r.n - x.kp % r.n) % r.n
    if delta = 0 then ({ x with eSum := e, cnt := cnt }, u, false)
    else
      let pos := decide (2 * delta ≤ r.n)
      let steps := if pos then delta else r.n - delta
      if 64 < steps then ({ x with dPos := pos, kp := k, eSum := 0, cnt := 0, rcFast := true }, u, true)
      else
        let g := F32.div (F32.mul r.gamma e) (F32.ofNat cnt)
        ({ x with dPos := pos, kp := k, eSum := 0, cnt := 0, tab := rcLearn r x.tab x.kp pos g steps }, u, false)
/-- A unit request in slot c mod 16 = b (R340). -/
def inSlot (s : State) (b : Nat) : Bool := (s.bench b).cyc % 16 == b

/-! ## Loops (R345 to R348) -/

/-- A loop command takes effect at the bench start of a period. -/
def loopEffect (n : Nat) (c : LoopCmd) (s : State) : State :=
  match c with
  | .open_ l m => s.onLoop l fun x => { x with st := 1, manualSrc := m, per := n }
  | .close l => s.onLoop l fun x => { x with st := 2, per := n }
  | .manual l v => s.onLoop l fun x => { x with manual := v, per := n }
  | .coef b i v => s.lmPut b (0x6000 + 4 * i) v
  | .rc l a => s.onLoop l fun x => { x with rc := if a = 3 then x.rc else a % 3, tab := if a = 3 then [] else x.tab, per := n }
/-- Loop commands landed before S(n) act together at its bench start, after CLOSING loops have become CLOSED. -/
def loopsStart (s : State) : State :=
  let n := s.per
  let now := s.bnc.cmds.filter fun c => !later 32 c.1 n
  let s := s.onBnc fun x => { x with loops := x.loops.map fun l => if l.st = 2 then { l with st := 0 } else l, cmds := x.cmds.filter fun c => later 32 c.1 n }
  each (now.map (·.2)) (loopEffect n) s
/-- The interpolator's coefficients come into force (R353). -/
def gainsApply (s : State) : State :=
  if later 32 s.bnc.gsPer s.per then s
  else
    let l := s.bnc.gsNext
    each l (fun x s => s.lmPut x.2.1 (0x6000 + 4 * x.2.2.1) [x.2.2.2])
      (s.onBnc fun b => { b with gsNext := [], gsFirst := b.gsFirst.filter fun t => !l.any (·.1 == t) })

/-! ## IN (R329) and bench start -/

/-- A mask over the loops. -/
def loopMask (s : State) (p : Loop → Bool) : Nat := maskOf 32 fun l => p (s.loopS l)
/-- Control words of IN from 0x7840. -/
def ctlWords (s : State) (withheld : Nat) : List Word :=
  let t := s.sysTime - s.inPer
  [s.per, t % M32, t / M32, s.mode.mode * 268435456 + s.role * 67108864, s.loopMask (·.st == 1), s.loopMask (·.st == 2), withheld,
    bit s.anyTrip + 2 * bit (!(s.safe.soffA && s.safe.soffB))].map (BitVec.ofNat 32)
/-- Write the control words, RELEASED and MANUAL of one bench. -/
def inControl (withheld : Nat) (b : Nat) (s : State) : State :=
  let s := s.lmPut b 0x7840 (s.ctlWords withheld)
  let s := s.lmPut b 0x7C00 (s.bnc.loops.flatMap fun l => l.released)
  s.lmPut b 0x7E00 (s.bnc.loops.flatMap fun l => l.manual)
/-- Benches whose program runs. -/
def liveBenches (s : State) : List Nat := (List.range 16).filter s.benchOn
/-- At S(n) no program of the last period runs on, and which outputs of that period were withheld is noted (R329). -/
def benchesClose (s : State) : State :=
  let s := s.overrun
  s.onBnc fun x =>
    { x with wh := maskOf 16 fun b => (s.bench b).withheld,
             benches := x.benches.map fun y => { y with withheld := y.faulted } }
/-- Bench start (R38, R327, R329, R346), in power state RUN only (R660): what the units owed the last period is there. -/
def benchesStart (s : State) : State :=
  let s := s.gainsApply.loopsStart
  let s := each s.liveBenches (inControl s.bnc.wh) s
  let s := each s.liveBenches (fun b s => (s.unitsDue b (2 ^ 32)).onBench b fun x =>
    { x with pc := 0, cyc := 0, loops := [], ended := false, running := !x.faulted && s.pwr.st == 0, rcUsed := [] }) s
  s.onBnc fun x => { x with startAt := s.now }

/-! ## The output phase of the benches (R334, R335) -/

/-- OUT words as a bench releases them: those of open loops replaced. -/
def releaseWords (s : State) (b : Nat) : List Word :=
  let out := Sparse.gets 0 (s.bench b).mem (0x8000 / 4) 512
  s.cfg.loops.foldl (fun l d =>
    let x := s.loopS d.num
    if d.bench = b ∧ x.st = 1 then
      (List.range d.outs.length).foldl (fun l k => l.set (at' d.outs k 0) (at' (if x.manualSrc then x.manual else x.released) k 0)) l
    else l) out
/-- A bench may release: it ended its program and nothing is withheld. -/
def releases (s : State) (b : Nat) : Bool := s.benchOn b && (s.bench b).ended && !(s.bench b).withheld && !(s.bench b).faulted
/-- One bench releases: its OUT words, and RELEASED of its loops. -/
def benchRelease (b : Nat) (s : State) : State :=
  if !s.releases b then s
  else
    let w := s.releaseWords b
    let s := s.onBench b fun x => { x with rel := w }
    each (s.cfg.loops.filter (·.bench == b)) (fun d s =>
      s.onLoop d.num fun x => { x with released := (List.range 4).map fun k => if k < d.outs.length then at' w (at' d.outs k 0) 0 else 0 }) s
/-- Commits of the groups that benches own: slots mapped by OUT words, the others as committed (R334). -/
def benchCommits (s : State) : List Flight :=
  (List.range 64).filterMap fun g =>
    match s.group g with
    | some d =>
      match d.owner with
      | .bench b =>
        let m := s.cfg.outs.filterMap fun o => match o.dest with | .slot h k => if h = g ∧ o.bench = b then some (k, o.word) else none | _ => none
        if s.releases b && !m.isEmpty then
          some { g := g, src := 0, vals := m.foldl (fun l x => l.set x.1 (at' (s.bench b).rel x.2 0)) (committedNow (s.grp g)) }
        else none
      | _ => none
    | none => none
/-- WORD frames to other nodes, each with its addressee (R603): input words, named bench × 512 + word, and group commits. -/
def wordFrames (s : State) : List (Nat × MBody) :=
  let nodes := (s.cfg.outs.filterMap fun o => match o.dest with | .nodeWord n .. => some n | .nodeSlot n .. => some n | _ => none).eraseDups
  nodes.flatMap fun n =>
    let live := s.cfg.outs.filter fun o => s.releases o.bench
    let val (o : OutMap) : Word := at' (s.bench o.bench).rel o.word 0
    let inputs := live.filterMap fun o => match o.dest with | .nodeWord m b w => if m = n then some (512 * b + w, val o) else none | _ => none
    let gs := (live.filterMap fun o => match o.dest with | .nodeSlot m g _ => if m = n then some g else none | _ => none).eraseDups
    (if inputs.isEmpty then [] else [(n, .word s.per 0 0 inputs)]) ++
    gs.map fun g => (n, .word s.per 1 g (live.filterMap fun o => match o.dest with | .nodeSlot m h k => if m = n ∧ h = g then some (k, val o) else none | _ => none))

/-! ## Gain schedules (R350 to R354) -/

/-- Largest index with a breakpoint not above x, within 0 to n - 2. -/
def below (bp : List Word) (x : Word) : Nat := min ((bp.takeWhile fun b => F32.le b x).length - 1) (bp.length - 2)
/-- Where x lies between two breakpoints, held to 0 to 1. -/
def fraction (bp : List Word) (i : Nat) (x : Word) : Word :=
  F32.clamp (F32.div (F32.sub x (at' bp i 0)) (F32.sub (at' bp (i + 1) 0) (at' bp i 0))) 0 F32.one
/-- a + f × (b - a). -/
def lerp (f a b : Word) : Word := F32.add a (F32.mul f (F32.sub b a))
/-- Target of coefficient k of a table (R351). -/
def gainTarget (t : GainTable) (x y : Word) (k : Nat) : Word :=
  let nx := t.bx.length
  let i := below t.bx x
  let fx := fraction t.bx i x
  let one := t.bys.length ≤ 1
  let j := if one then 0 else below t.bys y
  let fy := if one then 0 else fraction t.bys j y
  let nd (i j : Nat) : Word := at' t.nodes ((j * nx + i) * t.k + k) 0
  let c0 := lerp fx (nd i j) (nd (i + 1) j)
  if one then c0 else lerp fy c0 (lerp fx (nd i (j + 1)) (nd (i + 1) (j + 1)))
/-- A coefficient's move toward its target by at most its slew (R352). -/
def slewed (v target slew : Word) : Word :=
  let d := F32.sub target v
  if F32.le (F32.abs d) slew then target else if F32.gt target v then F32.add v slew else F32.sub v slew
/-- The variables of a table are finite. -/
def gainVarsOk (s : State) (t : GainTable) : Bool :=
  F32.finite (at' s.mode.vars t.varX 0) && (t.bys.length ≤ 1 || F32.finite (at' s.mode.vars t.varY 0))
/-- One table's coefficients for the next bench start. -/
def gainTable (s : State) (t : GainTable) : List (Nat × Nat × Nat × Word) :=
  (List.range t.k).map fun k =>
    let v := s.lm t.bench (0x6000 + 4 * (t.base + k))
    let g := gainTarget t (at' s.mode.vars t.varX 0) (at' s.mode.vars t.varY 0) k
    (t.num, t.bench, t.base + k, if s.bnc.gsFirst.contains t.num then g else slewed v g (at' t.slew k 0))
/-- A free choice among n things: which of them hold, counted from 0. -/
def freeHas (s : State) (i : Nat) : Bool := (Config.freeWord (s.free + i)).toNat.testBit 0
def drawnBy (n : Nat) (s : State) : State := { s with free := s.free + n }
/-- Coefficients whose interpolation reads a lost table entry keep their values; which those are is a free value (log entry 38). -/
def gainsLost (s : State) : State :=
  (s.onBnc fun b => { b with gsNext := ((b.gsNext.mapIdx fun i x => (i, x)).filter fun x => !s.freeHas x.1).map (·.2) }).drawnBy s.bnc.gsNext.length
/-- The interpolator's pass. -/
def interp (s : State) : State :=
  let s := s.gainsApply
  let ok := s.cfg.gains.filter s.gainVarsOk
  let bad := s.cfg.gains.filter fun t => !s.gainVarsOk t
  let s := s.onBnc fun x =>
    { x with gsNext := ok.flatMap s.gainTable, gsPer := s.perPlus 1,
             gsLast := s.cfg.gains.foldl (fun n t => n + 40 + (t.k + 3) / 4) 0, gsRun := true }
  let s := if s.bal.tblAt = s.absPer then s.gainsLost else s
  each bad (fun t s => s.onBnc fun x => { x with flt := setBit x.flt 25, fltTable := t.num }) s

/-! ## The trace (R359 to R364) -/

def onTrace (f : Trace → Trace) (s : State) : State := s.onBnc fun x => { x with trace := f x.trace }
/-- Enabled probes. -/
def probesOn (t : Trace) : List Nat := (List.range 128).filter fun p => (at' t.cfg p (false, 0, 0)).1
/-- Rows that the trace memory holds: R_T. -/
def traceRows (t : Trace) : Nat := 2097152 / (4 * (t.probes + 1))
/-- Value of a probe. -/
def probeVal (s : State) (p : Nat) : Word := let c := at' s.bnc.trace.cfg p (false, 0, 0); s.lm c.2.1 c.2.2
/-- The level probe has crossed since the previous row (R361). -/
def crossed (t : Trace) (v : Word) : Bool :=
  match t.lastLvl with
  | none => false
  | some o =>
    let up := F32.lt o t.level && F32.le t.level v
    let down := F32.gt o t.level && F32.ge t.level v
    match t.edge with | 0 => up | 1 => down | 2 => up || down | _ => false
/-- The trigger acts on this row. -/
def triggers (t : Trace) (v : Word) : Bool :=
  t.force || (match t.trig with
    | 1 => (at' t.cfg t.trigProbe (false, 0, 0)).1 && crossed t v
    | 2 => t.evFault
    | 3 => t.evTrip
    | 4 => t.evMode
    | _ => false)
/-- Capture one row at O(n) (R360, R361). -/
def traceRow (s : State) : State :=
  let t := s.bnc.trace
  if !(t.st == 1 || (t.st == 2 && t.left != 0)) || serialDiff 32 s.per t.nArm % 2 ^ t.log2dec != 0 then s
  else
    let row := BitVec.ofNat 32 s.per :: (probesOn t).map s.probeVal
    let rt := traceRows t
    let v := s.probeVal t.trigProbe
    let trig := t.st == 1 && triggers t v
    s.onTrace fun t =>
      { t with
        rows := (row :: t.rows).take rt
        count := t.count + 1
        st := if trig then 2 else t.st
        trigRow := if trig then t.count % rt else t.trigRow
        left := if trig then rt - rt * t.pre / 100 - 1 else t.left - 1
        force := false, evFault := false, evTrip := false, evMode := false, lastLvl := some v }
/-- More than 8 probes on a bench, or an address outside COEF, IN, OUT and STATE (R362). -/
def probesBad (t : Trace) : Bool :=
  let on := (probesOn t).map fun p => at' t.cfg p (false, 0, 0)
  (List.range 16).any (fun b => decide (8 < (on.filter (·.2.1 == b)).length)) ||
  on.any fun x => !(decide (0x6000 ≤ x.2.2 ∧ x.2.2 < 0x6800) || decide (0x7000 ≤ x.2.2 ∧ x.2.2 < 0xF800))

/-! ## Loading an image's loops and benches -/

/-- STATE of every bench loaded again from BENCHPROG (R338, R654). -/
def stateReload (s : State) : State :=
  each (List.range 16) (fun b s => s.onBench b fun x =>
    { x with mem := Sparse.putAll 0 (Sparse.clear (0x8800 / 4) (0xF800 / 4) x.mem) (0x8800 / 4) (s.benchDecl b).state }) s
/-- Coefficients from BENCHPROG (R345). -/
def coefReload (s : State) : State :=
  each (List.range 16) (fun b s =>
    let s := s.onBench b fun x => { x with mem := Sparse.clear (0x6000 / 4) (0x6800 / 4) x.mem }
    each (s.benchDecl b).coefs (fun c s => s.lmPut b (0x6000 + 4 * c.idx) [c.init]) s) s
/-- Loops at their initial states (R345, R356). -/
def loopsReload (s : State) : State :=
  let s := s.onBnc fun x => { x with cmds := [], loops := List.replicate 32 {} }
  each s.cfg.loops (fun d s => s.onLoop d.num fun x =>
    { x with st := bit d.initOpen, cmdOpen := d.initOpen, rc := match d.rc with | some r => r.init % 3 | none => 0 }) s
/-- The benches when an image comes into force: local memories loaded, nothing run yet. -/
def benchesLoad (s : State) : State :=
  let s := s.onBnc fun x =>
    { x with benches := (List.range 16).map fun b => { mem := Sparse.putAll 0 [] (0x4000 / 4) (s.benchDecl b).consts, ecc := (at' x.benches b {}).ecc },
             gsNext := [], gsFirst := s.cfg.gains.map (·.num), wh := 0, hist := [], bad := false, meshIn := [], meshNew := [] }
  s.coefReload.stateReload.loopsReload
end State
open State

/-! ## Instruction rows -/

/-- BENCH_ARITHMETIC. -/
def execBenchArithmetic (t : Nat) (b : Nat) (op : ArithOp) (d x y z : Nat) (s : State) : Host.Outcome State Fault Refusal :=
  .next (s.runIf t (benchRuns b) (issue b fun s => s.setReg b d (lanes3 (arith op) (s.benchReg b x) (s.benchReg b y) (s.benchReg b z))))
/-- BENCH_SELECT. -/
def execBenchSelect (t : Nat) (b : Nat) (op : SelOp) (d x y z : Nat) (s : State) : Host.Outcome State Fault Refusal :=
  .next (s.runIf t (benchRuns b) (issue b fun s => s.setReg b d (lanes3 (sel op) (s.benchReg b x) (s.benchReg b y) (s.benchReg b z))))
/-- BENCH_LANE. -/
def execBenchLane (t : Nat) (b : Nat) (op : LaneOp) (d x y : Nat) (s : State) : Host.Outcome State Fault Refusal :=
  .next (s.runIf t (benchRuns b) (issue b fun s =>
    let u := s.freeWord
    let s := s.drawn
    let v := s.freeWord
    s.drawn.setReg b d (laneOp u v op (s.benchReg b x) (s.benchReg b y))))
/-- BENCH_CONVERT. -/
def execBenchConvert (t : Nat) (b : Nat) (op : ConvOp) (d x : Nat) (scale : Word) (s : State) : Host.Outcome State Fault Refusal :=
  .next (s.runIf t (benchRuns b) (issue b fun s => s.setReg b d ((List.range 4).map fun i => convertW op (at' (s.benchReg b x) i 0) scale)))
/-- BENCH_ESTIMATE. -/
def execBenchEstimate (t : Nat) (b : Nat) (rsqrt : Bool) (d x : Nat) (s : State) : Host.Outcome State Fault Refusal :=
  .next (s.runIf t (benchRuns b) (issue b fun s =>
    s.setReg b d ((List.range 4).map fun i => let w := at' (s.benchReg b x) i 0; nanOr [w] (Config.estimate (bit rsqrt) w))))
/-- BENCH_LOAD. -/
def execBenchLoad (t : Nat) (b d addr n : Nat) (s : State) : Host.Outcome State Fault Refusal :=
  .next (s.runIf t (benchRuns b) fun s =>
    if !loadOk addr n then s.benchFault b 30 true
    else s.issue b fun s => s.setReg b d (Sparse.gets 0 (s.bench b).mem (addr / 4) n ++ (s.benchReg b d).drop n))
/-- BENCH_STORE. -/
def execBenchStore (t : Nat) (b x addr n : Nat) (s : State) : Host.Outcome State Fault Refusal :=
  .next (s.runIf t (benchRuns b) fun s =>
    if !storeOk addr n then s.benchFault b 30 true
    else s.issue b fun s => s.lmPut b addr ((s.benchReg b x).take n))
/-- BENCH_LOOP. -/
def execBenchLoop (t : Nat) (b len count : Nat) (s : State) : Host.Outcome State Fault Refusal :=
  .next (s.runIf t (benchRuns b) fun s =>
    if (s.benchDecl b).progLen ≤ (s.bench b).pc then s.benchFault b 30 true
    else (s.unitsDue b (s.bench b).cyc).onBench b fun x =>
      { x with pc := x.pc + 1, cyc := x.cyc + 1, loops := { first := x.pc + 1, last := x.pc + len, left := count } :: x.loops })
/-- BENCH_END. -/
def execBenchEnd (t : Nat) (b : Nat) (s : State) : Host.Outcome State Fault Refusal :=
  .next (s.runIf t (benchRuns b) fun s =>
    if (s.benchDecl b).progLen ≤ (s.bench b).pc then s.benchFault b 30 true else s.benchStop b)
/-- CORDIC_REQUEST. -/
def execCordicRequest (t : Nat) (b fn d x : Nat) (s : State) : Host.Outcome State Fault Refusal :=
  .next (s.runIf t (benchRuns b) (issue b fun s =>
    if !s.inSlot b then s.benchFault b 29 false
    else s.onBench b fun k => { k with cordic := k.cordic ++ [(k.cyc + 24, d, cordicOf fn (s.benchReg b x))] }))
/-- CORDIC_RESULT: exactly 24 cycles after the request (R340). -/
def execCordicResult (t : Nat) (b : Nat) (s : State) : Host.Outcome State Fault Refusal :=
  .next (s.runIf t
    (fun s => match (s.bench b).cordic.head? with | some r => s.benchAfter s.bnc.startAt r.1 | none => false)
    fun s => match (s.bench b).cordic.head? with | some r => s.cordicDue b r.1 | none => s)
/-- SORT_REQUEST. -/
def execSortRequest (t : Nat) (b n : Nat) (s : State) : Host.Outcome State Fault Refusal :=
  .next (s.runIf t (benchRuns b) (issue b fun s =>
    if !(s.benchDecl b).sortCycles.contains (s.bench b).cyc then s.benchFault b 29 false
    else
      let keys := Sparse.gets 0 (s.bench b).mem (0xF900 / 4) (min n 128)
      -- the spec states no rank for a key that is NaN
      let r := if keys.any F32.isNaN then (List.range keys.length).map fun i => (Config.freeWord (s.free + i)).toNat % keys.length else ranksOf keys
      ({ s with free := s.free + keys.length }).onBench b fun k => { k with sort := some (k.cyc + 64 + (n + 3) / 4, r) }))
/-- SORT_RESULT. -/
def execSortResult (t : Nat) (b : Nat) (s : State) : Host.Outcome State Fault Refusal :=
  .next (s.runIf t
    (fun s => match (s.bench b).sort with | some r => s.benchAfter s.bnc.startAt r.1 | none => false)
    fun s => match (s.bench b).sort with | some r => s.sortDue b r.1 | none => s)
/-- RC_REQUEST. -/
def execRcRequest (t : Nat) (b loop x : Nat) (s : State) : Host.Outcome State Fault Refusal :=
  .next (s.runIf t (benchRuns b) (issue b fun s =>
    if !s.inSlot b || (s.bench b).rcUsed.contains loop then s.benchFault b 29 false
    else
      let free := s.freeWord
      let s := s.drawn
      match (s.loopDecl loop).bind (·.rc) with
      | none => s.onBench b fun k => { k with rcUsed := loop :: k.rcUsed, rc := k.rc ++ [(k.cyc + 40, loop, free)] }
      | some r =>
        let (l, u, fast) := rcStep r (s.loopS loop) free (s.benchReg b x)
        let s := s.onLoop loop fun _ => l
        let s := if fast then s.onBnc fun k => { k with flt := setBit k.flt 24 } else s
        s.onBench b fun k => { k with rcUsed := loop :: k.rcUsed, rc := k.rc ++ [(k.cyc + 40, loop, u)] }))
/-- RC_RESULT: exactly 40 cycles after the request (R343). -/
def execRcResult (t : Nat) (b : Nat) (s : State) : Host.Outcome State Fault Refusal :=
  .next (s.runIf t
    (fun s => match (s.bench b).rc.head? with | some r => s.benchAfter s.bnc.startAt r.1 | none => false)
    fun s => match (s.bench b).rc.head? with | some r => s.rcDue b r.1 | none => s)

/-! ## The period's bench rows -/

/-- BENCH_START. -/
def execBenchStart (t : Nat) (s : State) : Host.Outcome State Fault Refusal :=
  .next (s.runIf t (fun s => s.atPoint 1 80 && s.reached 0 && !(s.cfg.topo.pair && s.pair.st == 3)) fun s => (s.reach 1).benchesStart)
/-- BENCH_FINISH_DEADLINE (R40, R337). -/
def execBenchFinishDeadline (t : Nat) (s : State) : Host.Outcome State Fault Refusal :=
  .next (s.runIf t (fun s => s.lagged.atPoint 2 (s.kO - 8)) (underLag fun s => (s.reach 2).overrun.ranksDue))
/-- BENCH_FAULT_ESCALATION (R338). -/
def execBenchFaultEscalation (t : Nat) (s : State) : Host.Outcome State Fault Refusal :=
  .next (s.runIf t
    (fun s => !s.bnc.escalated &&
      (decide (2 ≤ ((s.bnc.bad :: s.bnc.hist).filter id).length) || s.bnc.benches.any (·.faulted)))
    fun s =>
      (s.onBnc fun x => { x with escalated := true }).heartbeatStop 4 s.bnc.fltBench)
/-- INTERP_START. -/
def execInterpStart (t : Nat) (s : State) : Host.Outcome State Fault Refusal :=
  .next (s.runIf t (fun s => s.atPoint 6 80 && s.reached 0) fun s => (s.reach 6).interp)
/-- INTERP_DEADLINE: 200 ns before S(n + 1) (R354). -/
def execInterpDeadline (t : Nat) (late : List Nat) (s : State) : Host.Outcome State Fault Refusal :=
  .next (s.runIf t (fun s => s.atPoint 7 (s.kF - 160) && s.bnc.gsRun) fun s =>
    let s := s.reach 7
    let l := late.filter fun n => s.bnc.gsNext.any (·.1 == n)
    let s := s.onBnc fun x => { x with gsRun := false, gsNext := x.gsNext.filter fun y => !l.contains y.1 }
    each l (fun n s => s.onBnc fun x => { x with flt := setBit x.flt 26, fltTable := n }) s)
/-- TRACE_DONE. -/
def execTraceDone (t : Nat) (s : State) : Host.Outcome State Fault Refusal :=
  .next (s.runIf t (fun s => s.bnc.trace.st == 2 && s.bnc.trace.left == 0) (onTrace fun t => { t with st := 3, doneEvt := true }))

/-! ## Commands (R365, R366) -/

/-- The loop's bench is FAULTED. -/
def loopFaulted (s : State) (l : Nat) : Bool := match s.loopDecl l with | some d => (s.bench d.bench).faulted | none => false
/-- A loop command waits for the next bench start. -/
def loopQueue (c : LoopCmd) (s : State) : State × Answer :=
  (s.onBnc fun x => { x with cmds := x.cmds ++ [(s.perPlus 1, c)] }, { per := some (s.perPlus 1) })
/-- LOOP_OPEN. -/
def cmdLoopOpen : Cmd where
  opcode := 0x0401
  lens := (· == 4)
  fields := fun h p _ => firstBad [target0 h, (decide (1 < field p 1 1), 1), zeros p 2 2]
  block := fun _ p s => let l := field p 0 1; blockCause [((s.loopDecl l).isNone, 1), ((s.loopS l).cmdOpen, 2), (loopFaulted s l, 8)]
  act := fun _ p s => let l := field p 0 1; loopQueue (.open_ l (field p 1 1 == 1)) (s.onLoop l fun x => { x with cmdOpen := true })
/-- LOOP_CLOSE. -/
def cmdLoopClose : Cmd where
  opcode := 0x0402
  lens := (· == 4)
  fields := fun h p _ => firstBad [target0 h, zeros p 1 3]
  block := fun _ p s => let l := field p 0 1; blockCause [((s.loopDecl l).isNone, 1), (!(s.loopS l).cmdOpen, 2), (loopFaulted s l, 8)]
  act := fun _ p s => let l := field p 0 1; loopQueue (.close l) (s.onLoop l fun x => { x with cmdOpen := false })
/-- LOOP_MANUAL. -/
def cmdLoopManual : Cmd where
  opcode := 0x0403
  lens := (· == 20)
  fields := fun h p _ => firstBad [target0 h, zeros p 1 3]
  block := fun _ p s => let l := field p 0 1; blockCause [((s.loopDecl l).isNone, 1), (!(s.loopS l).cmdOpen, 2), (loopFaulted s l, 8)]
  act := fun _ p s => loopQueue (.manual (field p 0 1) (payWords p 4)) s
/-- Declarations of the coefficients from an index. -/
def coefDecls (s : State) (l i n : Nat) : List (Option CoefDecl) :=
  match s.loopDecl l with
  | none => []
  | some d => (List.range n).map fun k => (s.benchDecl d.bench).coefs.find? (·.idx == i + k)
/-- COEF_WRITE. -/
def cmdCoefWrite : Cmd where
  opcode := 0x0404
  lens := fun n => 8 ≤ n && n ≤ 232 && n % 4 == 0
  fields := fun h p _ => firstBad [target0 h, zeros p 1 1]
  block := fun _ p s =>
    let l := field p 0 1
    let v := payWords p 4
    let ds := coefDecls s l (field p 2 2) v.length
    let kindBad := ds.any fun d => match d with | some d => (match d.kind with | .direct .. => false | _ => true) | none => false
    let loopBad := decide (512 < field p 2 2 + v.length) || ds.any fun d => match d with | some d => d.loop != some l | none => true
    let rangeBad := (List.range v.length).any fun i =>
      match at' ds i none with
      | some d => (match d.kind with | .direct mn mx => let w := at' v i 0; !F32.finite w || F32.lt w mn || F32.lt mx w | _ => false)
      | none => false
    blockCause [((s.loopDecl l).isNone, 1), (!(s.loopS l).cmdOpen, 3), (kindBad, 4), (loopBad, 5), (rangeBad, 6), (loopFaulted s l, 8)]
  act := fun _ p s =>
    let b := match s.loopDecl (field p 0 1) with | some d => d.bench | none => 0
    loopQueue (.coef b (field p 2 2) (payWords p 4)) s
/-- RC_CTL. -/
def cmdRcCtl : Cmd where
  opcode := 0x0405
  lens := (· == 4)
  fields := fun h p _ => firstBad [target0 h, (decide (3 < field p 1 1), 1), zeros p 2 2]
  block := fun _ p s =>
    let l := field p 0 1
    blockCause [((s.loopDecl l).isNone, 1), (((s.loopDecl l).bind (·.rc)).isNone, 7), (loopFaulted s l, 8)]
  act := fun _ p s => loopQueue (.rc (field p 0 1) (field p 1 1)) s
/-- Armed or triggered. -/
def tracing (s : State) : Bool := s.bnc.trace.st == 1 || s.bnc.trace.st == 2
/-- TRACE_ARM. -/
def cmdTraceArm : Cmd where
  opcode := 0x0406
  lens := noPayload
  fields := fun h _ _ => firstBad [target0 h]
  block := fun _ _ s => blockCause [(s.img.bufOpen, 9), (tracing s, 0xA), (probesBad s.bnc.trace, 0xB)]
  act := fun _ _ s =>
    (s.onTrace fun t =>
      { t with st := 1, rows := [], count := 0, nArm := s.per, left := 0, force := false, evFault := false, evTrip := false,
               evMode := false, lastLvl := none, probes := (probesOn t).length, trigRow := 0 }, {})
/-- TRACE_STOP. -/
def cmdTraceStop : Cmd where
  opcode := 0x0407
  lens := noPayload
  fields := fun h _ _ => firstBad [target0 h]
  block := fun _ _ s => blockCause [(!tracing s, 0xA)]
  act := fun _ _ s => (s.onTrace fun t => { t with st := 4 }, {})
/-- TRACE_FORCE. -/
def cmdTraceForce : Cmd where
  opcode := 0x0408
  lens := noPayload
  fields := fun h _ _ => firstBad [target0 h]
  block := fun _ _ s => blockCause [(!tracing s, 0xA)]
  act := fun _ _ s => (s.onTrace fun t => { t with force := true }, {})
/-- LOOP_OPEN. -/
def execLoopOpen (t : Nat) (h : RecHdr) (loop source : Nat) (s : State) : Host.Outcome State Fault Refusal :=
  .next (hostRow cmdLoopOpen t h (le 1 loop ++ le 1 source ++ le 2 0) s)
/-- LOOP_CLOSE. -/
def execLoopClose (t : Nat) (h : RecHdr) (loop : Nat) (s : State) : Host.Outcome State Fault Refusal :=
  .next (hostRow cmdLoopClose t h (le 1 loop ++ le 3 0) s)
/-- LOOP_MANUAL. -/
def execLoopManual (t : Nat) (h : RecHdr) (loop : Nat) (vals : List Word) (s : State) : Host.Outcome State Fault Refusal :=
  .next (hostRow cmdLoopManual t h (le 1 loop ++ le 3 0 ++ vals.flatMap fun v => le 4 v.toNat) s)
/-- COEF_WRITE. -/
def execCoefWrite (t : Nat) (h : RecHdr) (loop idx : Nat) (vals : List Word) (s : State) : Host.Outcome State Fault Refusal :=
  .next (hostRow cmdCoefWrite t h (le 1 loop ++ le 1 0 ++ le 2 idx ++ vals.flatMap fun v => le 4 v.toNat) s)
/-- RC_CTL. -/
def execRcCtl (t : Nat) (h : RecHdr) (loop action : Nat) (s : State) : Host.Outcome State Fault Refusal :=
  .next (hostRow cmdRcCtl t h (le 1 loop ++ le 1 action ++ le 2 0) s)
/-- TRACE_ARM. -/
def execTraceArm (t : Nat) (h : RecHdr) (s : State) : Host.Outcome State Fault Refusal := .next (hostRow cmdTraceArm t h [] s)
/-- TRACE_STOP. -/
def execTraceStop (t : Nat) (h : RecHdr) (s : State) : Host.Outcome State Fault Refusal := .next (hostRow cmdTraceStop t h [] s)
/-- TRACE_FORCE. -/
def execTraceForce (t : Nat) (h : RecHdr) (s : State) : Host.Outcome State Fault Refusal := .next (hostRow cmdTraceForce t h [] s)

end Sys2Proof.Machine
end

