-- ==== Sys2Proof/Machine/Thermal.lean ====
section
/-! DEFINITION. Balancing arithmetic: sort keys, rankings, losses, the thermal network and the derating ladder (R374, R375, R384 to R394). -/
namespace Sys2Proof.Machine

/-! ## 1 - exp(-x), correctly rounded (R390) -/

namespace Expo
/-- Fixed-point one. -/
def one : Nat := 2 ^ 256
/-- Terms of exp(-y) from the last down: 1 - y/1 × (1 - y/2 × (1 - ...)). -/
def taylor (y : Nat) : (k n : Nat) → Nat
  | 0, _ => one
  | k + 1, n => one - y * taylor y k (n + 1) / one / n
/-- Square k times. -/
def squares : (k : Nat) → Nat → Nat
  | 0, e => e
  | k + 1, e => squares k (e * e / one)
/-- 1 - exp(-n/d) as binary32. -/
def oneMinusExp (n d : Nat) : Word :=
  let y := n * one / d / 1024
  F32.round false (one - squares 10 (taylor y 48 1)) (-256) true
end Expo

namespace State

/-! ## Arms and keys -/

def armDecl (s : State) (a : Nat) : ArmDecl := at' s.cfg.arms a {}
def armOn (s : State) (a : Nat) : Bool := decide (a < s.cfg.arms.length) && decide (a < 16)
def arm (s : State) (a : Nat) : Arm := at' s.bal.arms a {}
def onArm (a : Nat) (f : Arm → Arm) (s : State) : State := s.onBal fun b => { b with arms := modAt b.arms a f }
def therm (s : State) (c : Nat) : ThermCell := at' s.bal.cells c {}
def onTherm (c : Nat) (f : ThermCell → ThermCell) (s : State) : State := s.onBal fun b => { b with cells := modAt b.cells c f }
/-- Arms declared. -/
def arms (s : State) : List Nat := (List.range 16).filter s.armOn
/-- A channel's switch class. -/
def classOf (s : State) (c ch : Nat) : SwitchClass := at' s.cfg.classes (at' (s.kind c).chans ch {}).cls {}
/-- Temperature used for a cell's ladder and derate factor: no less than half way from WARN to LIMIT during a restart hold (R391). -/
def ladderTemp (s : State) (c ch : Nat) (tj : Word) : Word :=
  let k := s.classOf c ch
  if (s.therm c).restart then F32.max' tj (F32.add k.tWarn (F32.div (F32.sub k.tLimit k.tWarn) 0x40000000)) else tj
/-- The set executing applies INS_POS or INS_NEG to a cell (R374). -/
def inserted (s : State) (c : Nat) : Bool :=
  let k := s.kind c
  let x := (s.talk c).exec
  let rel := k.insPos ||| k.insNeg ||| k.bypA ||| k.bypB.getD 0
  let at_ (t : Nat) : Nat := (x.words.filter fun w => decide (w.2.2 ≤ t)).foldl (fun m w => putBit m w.1 w.2.1) x.init
  (x.init :: x.words.map fun w => at_ w.2.2).any fun m => m &&& rel == k.insPos || m &&& rel == k.insNeg
/-- Ranked at S(n): ACTIVE, HOLDING, or in J6 for an edge period not after n + 1 (R375). -/
def ranked (s : State) (c : Nat) : Bool :=
  let x := s.cell c
  x.st == 2 || x.st == 3 || (x.st == 1 && x.jstep == 6 && !later 32 (s.talk c).m0 (s.perPlus 1))
/-- dir of an arm by its current (R374); a spread arm's is the last slice's. -/
def dirNext (s : State) (a : Nat) : Bool :=
  let d := s.armDecl a
  let i := at' s.mode.vars d.iVar 0
  if d.spread then (s.arm a).dirNeg
  else if F32.gt i d.iDead then false else if F32.lt i (F32.neg d.iDead) then true else (s.arm a).dirNeg
/-- The master's dir of a spread arm. -/
def masterDir (s : State) (a : Nat) : Bool :=
  let d := s.armDecl a
  let i := at' s.mode.vars d.iVar 0
  if F32.gt i d.iDead then false else if F32.lt i (F32.neg d.iDead) then true else (s.arm a).dirNeg
/-- KEY of a ranked cell (R374). -/
def key (s : State) (a c : Nat) : Word :=
  let d := s.armDecl a
  let k := s.kind c
  let x := s.therm c
  let lvl := Pulse.units (s.slot d.levelGroup d.levelSlot)
  let neg := (s.arm a).dirNeg != decide (lvl < 0)
  let v := F32.clamp (F32.div (s.vdc1 c) k.vnom) 0 0x40000000
  let e := if neg then F32.neg v else v
  let e := if s.inserted c then F32.sub e d.hyst else e
  let kt := if (s.arm a).shareEn then d.kt else 0
  let e := F32.add e (F32.min' F32.one (F32.mul kt (F32.max' 0 (F32.sub x.tj (s.classOf c x.hotCh).tShare))))
  let e := if 3 ≤ x.therm then F32.add e 0x41000000 else e
  if d.staleMax < x.staleRun then F32.add e 0x41800000 else e
/-- Ascending by KEY, then node, then cell (R375). -/
def keyLe (a b : BalKey) : Bool :=
  F32.lt a.key b.key || (!F32.lt b.key a.key && (decide (a.node < b.node) || (a.node == b.node && decide (a.cell ≤ b.cell))))
def keyIns (x : BalKey) : List BalKey → List BalKey
  | [] => [x]
  | y :: r => if keyLe x y then x :: y :: r else y :: keyIns x r
def keySort (l : List BalKey) : List BalKey := l.foldr keyIns []
/-- The other bypass mask is selected (R384). -/
def rotate (s : State) (c : Nat) : Bool :=
  let k := s.kind c
  let x := s.therm c
  match k.bypB with
  | none => false
  | some b =>
    let hot (m : Nat) : Word := (members m 16).foldl (fun h i => F32.max' h (at' x.ch i (0xFF800000, 0, [])).1) 0xFF800000
    let now := if x.bypB then b else k.bypA
    let other := if x.bypB then k.bypA else b
    F32.gt (F32.sub (hot now) (hot other)) k.rotHyst && decide (k.rotMin ≤ serialDiff 32 s.per x.bypAt)
/-- Keys and masks of one arm at S(n) (R374, R384, R385). -/
def armLatch (a : Nat) (s : State) : State :=
  let d := s.armDecl a
  let s := s.onArm a fun x => { x with shareEn := x.shareCmd.getD x.shareEn, shareCmd := none }
  let dir := s.dirNext a
  let s := s.onArm a fun x => { x with dirNeg := dir }
  let s := each d.members (fun c s =>
    let x := s.therm c
    let run := if (s.cell c).stale then x.staleRun + 1 else 0
    let rot := (s.arm a).shareEn && s.rotate c
    s.onTherm c fun y =>
      { y with staleRun := run, keyStale := decide (d.staleMax < run),
               bypB := if !(s.arm a).shareEn then false else if rot then !y.bypB else y.bypB, bypAt := if rot then s.per else y.bypAt }) s
  let cs := (List.range 128).filter fun c => d.members.contains c && s.ranked c
  let ks := cs.map fun c => (c, s.key a c)
  s.onArm a fun x => { x with keys := ks, n := if d.spread then x.n else cs.length, list := none, rank := none, sorting := false, steps := [], slice := none }
/-- Every arm at S(n). -/
def balLatch (s : State) : State := each s.arms armLatch s

/-! ## Losses (R386 to R389) -/

/-- Linear interpolation along breakpoints, held at the edges; f gives the value at a breakpoint. -/
def interp1 (bp : List Word) (x : Word) (f : Nat → Word) : Word :=
  if bp.length ≤ 1 then f 0
  else let i := below bp x; lerp (fraction bp i x) (f i) (f (i + 1))
/-- A table read by current, voltage, temperature (R389). -/
def table (t : ThermTable) (i v tj : Word) : Word :=
  interp1 t.bt tj fun k => interp1 t.bv v fun j => interp1 t.bi i fun m => at' t.vals ((k * max 1 t.bv.length + j) * t.bi.length + m) 0
/-- On-intervals and transitions of a channel over the edge period executing (R387). -/
def onParts (T : Nat) (x : ESet) (lvl c : Nat) : List (Nat × Nat) × List (Nat × Bool) :=
  let ws := (x.words.filter (·.1 == c)).map fun (w : Nat × Bool × Nat) => (w.2.2, w.2.1)
  let i0 := x.init.testBit c
  let iv := Pulse.direct T (if i0 then some 0 else none) ws
  let joint := if i0 = lvl.testBit c then [] else [(0, i0)]
  let changes := (ws.foldl (fun (a : List (Nat × Bool) × Bool) w => if w.2 = a.2 then a else (a.1 ++ [w], w.2)) ([], i0)).1
  (iv, joint ++ changes)
/-- Energies of a cell's channels over edge period n - 1. -/
def losses (s : State) (c : Nat) : List Word :=
  let T := s.tick
  let k := s.kind c
  let x := s.therm c
  let set := (s.talk c).exec
  let lvl := (s.talk c).lvl
  let ivar := match s.armOf c with | some a => (s.armDecl a).iVar | none => 0
  let tj (i : Nat) : Word := (at' x.ch i (0, 0, [])).1
  let cur (i num den : Nat) : Word :=
    let d := at' k.chans i {}
    let v := d.curVar.getD ivar
    let i0 := at' s.bal.varsPrev v 0
    let i1 := at' s.mode.vars v 0
    let w := F32.add i0 (F32.mul (F32.sub i1 i0) (F32.ratio num den))
    if d.signNeg then F32.neg w else w
  let volt (i : Nat) : Word := if (at' k.chans i {}).link2 then s.vdc2 c else s.vdc1 c
  let addAt (l : List Word) (i : Nat) (e : Word) : List Word := modAt l i fun w => F32.add w e
  (List.range k.chans.length).foldl (fun l i =>
    let p := onParts T set lvl i
    let cl := s.classOf c i
    let l := p.1.foldl (fun l (t : Nat × Nat) =>
      let w := cur i (2 * 16 * s.kO + t.1 + t.2) (2 * T)
      addAt l i (F32.mul (F32.mul (table cl.vce w 0 (tj i)) (F32.abs w)) (F32.ratio (t.2 - t.1) Config.sec))) l
    p.2.foldl (fun l (t : Nat × Bool) =>
      let w := cur i (16 * s.kO + t.1) T
      if !F32.gt w 0 then l
      else if t.2 then
        let l := addAt l i (table cl.eon w (volt i) (tj i))
        match (at' k.chans i {}).partner with
        | some q => addAt l q (table (s.classOf c q).erec w (volt i) (tj q))
        | none => l
      else addAt l i (table cl.eoff w (volt i) (tj i))) l) (List.replicate k.chans.length 0)
/-- Loss power of each channel (R387): zero outside ACTIVE and HOLDING. -/
def powers (s : State) (c : Nat) : List Word :=
  let k := s.kind c
  if (s.cell c).st = 2 ∨ (s.cell c).st = 3 then (s.losses c).map fun e => F32.div e s.tF else List.replicate k.chans.length 0

/-! ## The thermal network (R390, R391) -/

/-- b of a time constant: 1 - exp(-T_F / τ). -/
def bOf (s : State) (tau : Word) : Word :=
  match F32.unpack tau with
  | .fin _ m e =>
    if m = 0 then F32.one
    else if 0 ≤ e then Expo.oneMinusExp s.tick (Config.sec * (m <<< e.toNat)) else Expo.oneMinusExp (s.tick <<< (-e).toNat) (Config.sec * m)
  | _ => 0
def tCool (s : State) (c : Nat) : Word := match (s.kind c).tCoolVar with | some v => at' s.mode.vars v 0 | none => (s.kind c).tCool
/-- NTC reading in °C: sixteenths (R246). -/
def ntcC (s : State) (c : Nat) : Word := F32.div (F32.ofInt (s.cell c).ntc) 0x41800000
/-- Estimates start anew from the cell's NTC (R391). -/
def thermRestart (c : Nat) (s : State) : State :=
  let k := s.kind c
  let cool := s.tCool c
  let dth := F32.sub (s.ntcC c) cool
  let tj := F32.add cool dth
  s.onTherm c fun x =>
    { x with dth := dth, ch := List.replicate k.chans.length (tj, 0, [0, 0, 0, 0]), tj := tj, hotCh := 0, pwr := 0, lad := List.replicate k.chans.length 0 }
/-- Place on the ladder of one switch: entered at its threshold, left 5 K below (R393). -/
def ladder (k : SwitchClass) (old : Nat) (tj : Word) : Nat :=
  let holds (n : Nat) (th : Word) : Bool := F32.ge tj th || (decide (n ≤ old) && F32.gt tj (F32.sub th 0x40A00000))
  if holds 4 k.tTrip then 4 else if holds 3 k.tLimit then 3 else if holds 2 k.tWarn then 2 else if holds 1 k.tShare then 1 else 0
/-- Derate factor of a temperature (R394). -/
def derate (k : SwitchClass) (dmin tj : Word) : Word :=
  if F32.le tj k.tWarn then F32.one else if F32.ge tj k.tLimit then dmin
  else F32.sub F32.one (F32.mul (F32.sub F32.one dmin) (F32.div (F32.sub tj k.tWarn) (F32.sub k.tLimit k.tWarn)))
/-- Index of the greatest value of a list. -/
def hottest (l : List Word) : Nat := (List.range l.length).foldl (fun b i => if F32.gt (at' l i 0) (at' l b 0) then i else b) 0
/-- One cell's step with given losses (R390, R393, R394). -/
def thermStep (p : List Word) (c : Nat) (s : State) : State :=
  let s := if (s.therm c).ch.isEmpty then s.thermRestart c else s
  let k := s.kind c
  let x := s.therm c
  let cell := p.foldl F32.add 0
  let cool := s.tCool c
  let dth := F32.add x.dth (F32.mul (s.bOf k.tauH) (F32.sub (F32.mul k.rH cell) x.dth))
  let dth := if (s.cell c).stale then dth else F32.add dth (F32.mul k.lObs (F32.sub (s.ntcC c) (F32.add cool dth)))
  let ch := (List.range k.chans.length).map fun i =>
    let pc := at' p i 0
    let dts := (List.range 4).map fun j =>
      let r := at' (at' k.chans i {}).foster j (0, 0)
      let d := at' (at' x.ch i (0, 0, [])).2.2 j 0
      F32.add d (F32.mul (s.bOf r.2) (F32.sub (F32.mul r.1 pc) d))
    (dts.foldl F32.add (F32.add cool dth), pc, dts)
  let hot := hottest (ch.map (·.1))
  let temps := (List.range ch.length).map fun i => s.ladderTemp c i (at' ch i (0, 0, [])).1
  let lad := (List.range ch.length).map fun i => ladder (s.classOf c i) (at' x.lad i 0) (at' temps i 0)
  let dmin := match s.armOf c with | some a => (s.armDecl a).dmin | none => F32.one
  let f := (List.range ch.length).foldl (fun f i => F32.min' f (derate (s.classOf c i) dmin (at' temps i 0))) F32.one
  s.onTherm c fun y =>
    { y with dth := dth, ch := ch, tj := (at' ch hot (0, 0, [])).1, hotCh := hot, pwr := cell, lad := lad,
             therm := lad.foldl max 0, factor := f, pass := y.pass + 1 }
/-- What a change of ladder state does (R393). -/
def thermEnter (old c : Nat) (s : State) : State :=
  let x := s.therm c
  if x.therm ≤ old ∨ x.therm < 2 then s
  else if x.therm < 4 then (s.onBal fun b => { b with fltCell := c }).emit (.msix 40)
  else
    let already := s.bal.flt.testBit 28
    let s := s.onBal fun b => { b with flt := setBit b.flt 28, fltCell := c }
    let s := if already then s.emit (.msix 40) else s
    let s := s.event 0x0590 (le 1 c ++ le 1 x.hotCh ++ le 4 x.tj.toNat)
    if s.hasBypass c then s.sendBypass c else s.cause 12 c
/-- Members of any arm. -/
def thermCells (s : State) : List Nat := (List.range 128).filter fun c => (s.armOf c).isSome
/-- The arm's factor: the least of its ranked cells (R394). -/
def armDerate (a : Nat) (s : State) : State :=
  let l := ((s.armDecl a).members.filter s.ranked).map fun c => (s.therm c).factor
  s.onArm a fun x => { x with derate := l.foldl F32.min' F32.one }
/-- Losses of the pass before. -/
def powersLast (s : State) (c : Nat) : List Word := (s.therm c).ch.map (·.2.1)
/-- The thermal pass. Cells that read a lost table entry take their previous losses; which those are is a free value (log entry 38). -/
def thermPass (s : State) : State :=
  let lost := s.bal.tblAt == s.absPer
  let ps := s.thermCells.mapIdx fun i c => (c, if lost && s.freeHas i then s.powersLast c else s.powers c, (s.therm c).therm)
  let s := (s.onBal fun b => { b with prevCells := b.cells }).drawnBy (if lost then ps.length else 0)
  let s := each ps (fun x s => (s.thermStep x.2.1 x.1).thermEnter x.2.2 x.1) s
  each s.arms armDerate s
/-- A cell's pass is made again with its previous losses. -/
def thermRedo (c : Nat) (s : State) : State :=
  let old := at' s.bal.prevCells c {}
  (s.onTherm c fun _ => old).thermStep (old.ch.map (·.2.1)) c
/-- Cells not reached take their previous losses (R392). -/
def thermLate (late : List Nat) (s : State) : State :=
  let l := late.filter fun c => s.thermCells.contains c
  let s := each l thermRedo s
  if l.isEmpty then s else each s.arms armDerate (s.onBal fun b => { b with flt := setBit b.flt 30, fltCell := l.getLast?.getD 0 })
/-- A table entry is lost: what the period has read, and what it reads still, keeps its previous values (R29). -/
def tableLost (s : State) : State :=
  let s := s.gainsLost.onBal fun b => { b with tblAt := s.absPer }
  if s.reached 8 && !s.reached 9 then
    let cs := (s.thermCells.mapIdx fun i c => (i, c)).filter fun x => s.freeHas x.1
    each s.arms armDerate ((each (cs.map (·.2)) thermRedo s).drawnBy s.thermCells.length)
  else s
end State
end Sys2Proof.Machine
end

