-- ==== Sys2Proof/Machine/Bal.lean ====
section
/-! DEFINITION. Balancing across devices, the die sensors and the event store's ring (R377 to R382, R395 to R405). -/
namespace Sys2Proof.Machine
namespace State

/-! ## Rankings -/

/-- The sorted list of an arm's own cells. -/
def ownList (s : State) (a : Nat) : List BalKey := keySort ((s.arm a).keys.map fun x => { key := x.2, cell := x.1, node := s.node })
/-- Sends and merges of a spread arm are the ACTIVE's (R383). -/
def balSends (s : State) (a : Nat) : Bool := s.armOn a && (s.armDecl a).spread && !s.standby
/-- A step of an arm is due: in its own EDGE cycle, and once a period. -/
def armStep (s : State) (a i k : Nat) : Bool := s.timeline && s.armOn a && s.lagged.cyc == k && !(s.arm a).steps.contains i
/-- The step is done. -/
def armDid (a i : Nat) : State → State := onArm a fun x => { x with steps := i :: x.steps }
/-- BENCH cycles that a sort of n keys takes (R342, R377). -/
def sortTime (n : Nat) : Nat := 64 + (n + 3) / 4
/-- A ranking is delivered, or a local one comes too late (R377). -/
def sortDone (a : Nat) (s : State) : State :=
  let l := s.ownList a
  if s.lagged.inPer ≤ s.deadline then
    s.onArm a fun x =>
      { x with
        sorting := false, list := some l
        rank := if (s.armDecl a).spread then none else some ((List.range l.length).map fun i => ((at' l i { key := 0, cell := 0, node := 0 }).cell, i)) }
  else (s.onArm a fun x => { x with sorting := false }).rankLate a
/-- A list of a member at the master. -/
def takeList (h : BalHdr) (keys : List BalKey) (s : State) : State :=
  s.onArm h.arm fun x => { x with lists := (h.node, h.period, keys) :: x.lists.filter (·.1 != h.node) }
/-- A slice of a ranking at its member. -/
def takeSlice (h : BalHdr) (ranks : List Nat) (s : State) : State := s.onArm h.arm fun x => { x with slice := some (h.period, ranks, h.dirNeg, h.count) }
/-- The merge at the master (R380, R382). -/
def merge (a : Nat) (s : State) : State :=
  let d := s.armDecl a
  let x := s.arm a
  let lists := match x.list with | some l => (s.node, s.per, l) :: x.lists.filter (·.1 != s.node) | none => x.lists
  let missing := d.nodes.filter fun n => !lists.any fun l => l.1 == n && l.2.1 == s.per
  let all := keySort (lists.flatMap (·.2.2))
  let rankOf (k : BalKey) : Nat := (all.takeWhile (· != k)).length
  let dir := s.masterDir a
  let s := s.onArm a fun x => { x with missRun := if missing.isEmpty then 0 else min 255 (x.missRun + 1) }
  let s := s.onBal fun b => { b with missM := sat16 b.missM missing.length }
  each lists (fun l s =>
    let h : BalHdr := { period := s.per, arm := a, node := l.1, count := all.length, dirNeg := dir }
    let r := l.2.2.map rankOf
    if l.1 = s.node then s.takeSlice h r else s.meshSend l.1 4 0 (.balSlice h r)) s
/-- At O(n) - 50 ns a member holds its slice, or misses it (R382). -/
def sliceDue (a : Nat) (s : State) : State :=
  let x := s.arm a
  let own := x.list.getD []
  let whole := match x.slice with | some (p, r, _, _) => p == s.per && r.length == own.length && x.list.isSome | none => false
  match x.slice with
  | some (_, r, dir, n) =>
    if whole then
      s.onArm a fun x =>
        { x with rank := some ((own.map (·.cell)).zip r), rankN := n, n := n, dirNeg := dir,
                 missRun := if (s.armDecl a).master = s.node then x.missRun else 0 }
    else (s.onArm a fun x => { x with rank := none, missRun := min 255 (x.missRun + 1) }).onBal fun b => { b with missS := sat16 b.missS 1 }
  | none => (s.onArm a fun x => { x with rank := none, missRun := min 255 (x.missRun + 1) }).onBal fun b => { b with missS := sat16 b.missS 1 }
/-- Complete rankings are released at O(n) (R377, R378). -/
def balRelease (s : State) : State :=
  let done := s.arms.filter fun a => (s.arm a).rank.isSome
  let s := s.onBal fun b => { b with released := maskOf 16 done.contains }
  each done (fun a s =>
    let r := (s.arm a).rank.getD []
    let s := s.onComp fun k => { k with ranks := (a, r) :: k.ranks.filter (·.1 != a), fresh := a :: k.fresh }
    each (s.armDecl a).members (fun c s => s.onTherm c fun x => { x with rank := ((r.find? (·.1 == c)).map (·.2)).getD 2047 }) s) s

/-! ## Die sensors (R395 to R398) -/

/-- Sorted integers. -/
def insI (x : Int) : List Int → List Int
  | [] => [x]
  | y :: r => if x ≤ y then x :: y :: r else y :: insI x r
/-- Twice the median. -/
def median2 (l : List Int) : Int :=
  let m := l.foldr insI []
  let n := m.length
  if n = 0 then 0 else at' m ((n - 1) / 2) 0 + at' m (n / 2) 0
/-- Working sensors. -/
def dieWorking (s : State) : List Nat := (List.range 8).filter fun i => !s.bal.dieFail.testBit i
def dieAt (s : State) (i : Nat) : Int := at' s.bal.die i 0
/-- A sensor fails (R396). -/
def dieFails (i : Nat) (s : State) : State :=
  let s := s.onBal fun b => { b with dieFail := setBit b.dieFail i, flt := setBit b.flt 27 }
  s.event 0x0582 (le 1 i ++ le 2 (ofSigned 16 (s.dieAt i)))
/-- The fast band of a reading. -/
def dieBand (s : State) (r : Int) : Bool := decide (8 * ((s.bal.dieWarnSet : Int) - 10) ≤ r) || decide (r ≤ -240)
/-- Every sensor sampled (R395 to R398). -/
def dieSample (readings : List Int) (s : State) : State :=
  let s := s.onBal fun b => { b with die := (List.range 8).map fun i => at' readings i (at' b.die i 0) }
  let work := s.dieWorking
  let off (i : Nat) : Bool :=
    let o := (work.filter (· != i)).map s.dieAt
    !o.isEmpty && decide (240 < (2 * s.dieAt i - median2 o).natAbs)
  let dis := (List.range 8).map fun i => if work.contains i && off i then at' s.bal.dieDis i 0 + 1 else 0
  let s := s.onBal fun b => { b with dieDis := dis }
  let fails := work.filter fun i => decide (s.dieAt i < -480) || decide (1400 < s.dieAt i) || decide (3 ≤ at' dis i 0)
  let s := each fails dieFails s
  let work := s.dieWorking
  let s := if work.length < 4 ∧ !s.bal.dieLost then
      ((s.onBal fun b => { b with dieLost := true }).event 0x0583 (le 1 s.bal.dieFail)).cause 5 0
    else s
  let hot := work.foldl (fun b i => if s.dieAt b < s.dieAt i then i else b) (work.head?.getD 0)
  let top := s.dieAt hot
  let warm := work.find? fun i => decide (8 * (s.bal.dieWarnSet : Int) ≤ s.dieAt i)
  let rises := warm.isSome && !s.bal.dieWarn
  let band := work.any fun i => s.dieBand (s.dieAt i)
  let s := s.onBal fun b =>
    { b with dieHot := hot, dieWarn := warm.isSome, dieLow := work.any fun i => decide (s.dieAt i ≤ -240),
             dieFast := b.dieFast || band, dieQuietAt := if band then s.now else b.dieQuietAt,
             dieHotRun := if !work.isEmpty && decide (1080 ≤ top) then b.dieHotRun + 1 else 0 }
  if rises then (s.event 0x0581 (le 1 (warm.getD 0) ++ le 2 (ofSigned 16 (s.dieAt (warm.getD 0))))).emit (.msix 40) else s
/-- The 12 data bytes of DIE_SHUTDOWN (R402). -/
def dieBytes (s : State) : Bytes :=
  le 12 ((List.range 8).foldl (fun n i => n + ofSigned 12 (Pulse.clampI (-2048) 2047 (s.dieAt i)) * 2 ^ (12 * i)) 0)

/-! ## The event ring (R400 to R402) -/

/-- The queue's first record may be written: spacing of 10 ms, none for DIE_SHUTDOWN. -/
def evReady (s : State) : Bool :=
  match s.evs.queue with
  | r :: _ => r.code == 0x0580 || s.evs.writeAt == 0 || decide (s.evs.writeAt + 10 * Config.ms ≤ s.now)
  | [] => false
/-- Write the first record of the queue. -/
def evWrite (s : State) : State :=
  match s.evs.queue with
  | r :: q => s.onEvs fun e => { e with queue := q, ring := ({ r with num := e.head } :: e.ring).take 1024, head := (e.head + 1) % M32, writeAt := s.now }
  | [] => s
/-- Sector of a record of the ring. -/
def evSector (n : Nat) : Nat := n % 1024 / 128
/-- The sector ahead of the one the ring has entered. -/
def evAhead (e : Evs) : Nat := (evSector (e.head + M32 - 1) + 1) % 8
end State
open State

/-- ARM_SORT: at its start cycle, counted from bench start (R377). -/
def execArmSort (t : Nat) (arm : Nat) (s : State) : Host.Outcome State Fault Refusal :=
  .next (s.runIf t
    (fun s => s.timeline && s.armOn arm && !(s.arm arm).steps.contains 0 && s.benchAfter (s.now - s.lagged.inPer + 1280) (s.armDecl arm).sortCycle)
    fun s => (s.armDid arm 0).onArm arm fun x => { x with sorting := true, sortAt := s.now })
/-- ARM_SORT_RESULT: the ranks of N keys (R377). -/
def execArmSortResult (t : Nat) (arm : Nat) (s : State) : Host.Outcome State Fault Refusal :=
  .next (s.runIf t
    (fun s => s.timeline && s.armOn arm && (s.arm arm).sorting && s.benchAfter (s.arm arm).sortAt (sortTime (s.arm arm).keys.length)) (sortDone arm))
/-- BAL_LIST_SEND: at t_L. -/
def execBalListSend (t : Nat) (arm : Nat) (s : State) : Host.Outcome State Fault Refusal :=
  .next (s.runIf t (fun s => s.armStep arm 1 (s.armDecl arm).listAt && s.balSends arm && (s.arm arm).list.isSome) fun s =>
    let l := (s.arm arm).list.getD []
    let h : BalHdr := { period := s.per, arm := arm, node := s.node, count := l.length }
    let s := s.armDid arm 1
    if (s.armDecl arm).master = s.node then s.takeList h l else s.meshSend (s.armDecl arm).master 4 0 (.balList h l))
/-- BAL_LIST_RECEIVE: whole lists of the present period at their master. -/
def execBalListReceive (t : Nat) (x : PortRx) (s : State) : Host.Outcome State Fault Refusal :=
  .next (s.run t (meshIn x 4 fun _ pay s =>
    let h := balHdrOf pay
    if s.timeline && s.balSends h.arm && (s.armDecl h.arm).master == s.node && (s.armDecl h.arm).nodes.contains h.node && h.period == s.per &&
        h.node != s.node then s.takeList h (balKeys pay) else s))
/-- BAL_MERGE: at t_M. -/
def execBalMerge (t : Nat) (arm : Nat) (s : State) : Host.Outcome State Fault Refusal :=
  .next (s.runIf t (fun s => s.armStep arm 2 (s.armDecl arm).mergeAt && s.balSends arm && (s.armDecl arm).master == s.node)
    fun s => (s.armDid arm 2).merge arm)
/-- BAL_SLICE_RECEIVE: whole slices of the present period at their member. -/
def execBalSliceReceive (t : Nat) (x : PortRx) (s : State) : Host.Outcome State Fault Refusal :=
  .next (s.run t (meshIn x 4 fun _ pay s =>
    let h := balHdrOf pay
    if s.timeline && s.armOn h.arm && (s.armDecl h.arm).spread && (s.armDecl h.arm).master != s.node && h.node == s.node && h.period == s.per then
      s.takeSlice h (balRanks pay (s.ownList h.arm).length) else s))
/-- BAL_SLICE_DEADLINE: 50 ns before O(n). -/
def execBalSliceDeadline (t : Nat) (arm : Nat) (s : State) : Host.Outcome State Fault Refusal :=
  .next (s.runIf t (fun s => s.armStep arm 3 (s.kO - 40) && (s.armDecl arm).spread) fun s => (s.armDid arm 3).sliceDue arm)
/-- MERGE_LOST. -/
def execMergeLost (t : Nat) (arm : Nat) (s : State) : Host.Outcome State Fault Refusal :=
  .next (s.runIf t (fun s => s.armOn arm && decide (8 ≤ (s.arm arm).missRun) && !(s.bal.flt.testBit 31 && s.bal.fltArm == arm)) fun s =>
    let s := s.onBal fun b => { b with flt := setBit b.flt 31, fltArm := arm }
    (s.event 0x05A0 (le 1 arm ++ le 1 s.node)).cause 13 arm)
/-- THERMAL_PASS. -/
def execThermalPass (t : Nat) (s : State) : Host.Outcome State Fault Refusal :=
  .next (s.runIf t (fun s => s.atPoint 8 80 && s.reached 0) fun s => (s.reach 8).thermPass)
/-- THERMAL_DEADLINE: 100 ns before S(n + 1). -/
def execThermalDeadline (t : Nat) (late : List Nat) (s : State) : Host.Outcome State Fault Refusal :=
  .next (s.runIf t (fun s => s.atPoint 9 (s.kF - 80) && s.reached 8) fun s =>
    (thermLate late (s.reach 9)).onBal fun b => { b with prevCells := [] })
/-- DERATE_RESTART_END. -/
def execDerateRestartEnd (t : Nat) (c : Nat) (s : State) : Host.Outcome State Fault Refusal :=
  .next (s.runIf t (fun s => (s.therm c).restart && decide ((s.therm c).restartAt + (s.kind c).derateRestart * Config.sec ≤ s.now))
    (onTherm c fun x => { x with restart := false }))
/-- DIE_SENSOR_SAMPLE. -/
def execDieSensorSample (t : Nat) (readings : List Int) (s : State) : Host.Outcome State Fault Refusal := .next (s.run t (dieSample readings))
/-- DIE_FAST_RATE_END. -/
def execDieFastRateEnd (t : Nat) (s : State) : Host.Outcome State Fault Refusal :=
  .next (s.runIf t (fun s => s.bal.dieFast && decide (s.bal.dieQuietAt + 10 * Config.ms ≤ s.now)) (onBal fun b => { b with dieFast := false }))
/-- EVENT_RECORD_WRITE. -/
def execEventRecordWrite (t : Nat) (s : State) : Host.Outcome State Fault Refusal := .next (s.runIf t evReady evWrite)
/-- EVENT_SECTOR_ERASE: the sector ahead, when the ring has entered the sector before it (R401). -/
def execEventSectorErase (t : Nat) (s : State) : Host.Outcome State Fault Refusal :=
  .next (s.runIf t (fun s => s.evs.head != 0 && s.evs.ring.any fun r => evSector r.num == evAhead s.evs)
    (onEvs fun e => { e with ring := e.ring.filter fun r => evSector r.num != evAhead e }))

/-! ## Commands (R403, R404) -/

/-- THERM_REINIT. -/
def cmdThermReinit : Cmd where
  opcode := 0x0501
  lens := noPayload
  fields := fun h _ _ => firstBad [(decide (127 < h.target), noField)]
  block := fun h _ s => blockCause [((s.armOf h.target).isNone, 2), ([1, 2, 3].contains (s.cell h.target).st, 3)]
  act := fun h _ s => (s.thermRestart h.target, {})
/-- BAL_SHARE. -/
def cmdBalShare : Cmd where
  opcode := 0x0502
  lens := (· == 4)
  fields := fun h p _ => firstBad [(decide (15 < h.target), noField), (decide (1 < field p 0 1), 0), zeros p 1 3]
  block := fun h _ s => blockCause [(!s.armOn h.target, 1)]
  act := fun h p s => (s.onArm h.target fun x => { x with shareCmd := some (field p 0 1 == 1) }, { per := some (s.perPlus 1) })
/-- EVS_MARK. -/
def cmdEvsMark : Cmd where
  opcode := 0x0503
  lens := (· == 12)
  fields := fun h _ _ => firstBad [target0 h]
  block := fun _ _ s => blockCause [(decide (16 ≤ s.evs.queue.length), 4)]
  act := fun _ p s => (s.event 0x05FF p, {})
/-- THERM_REINIT. -/
def execThermReinit (t : Nat) (h : RecHdr) (s : State) : Host.Outcome State Fault Refusal := .next (hostRow cmdThermReinit t h [] s)
/-- BAL_SHARE. -/
def execBalShare (t : Nat) (h : RecHdr) (enable : Nat) (s : State) : Host.Outcome State Fault Refusal :=
  .next (hostRow cmdBalShare t h (le 1 enable ++ le 3 0) s)
/-- EVS_MARK. -/
def execEvsMark (t : Nat) (h : RecHdr) (data : Bytes) (s : State) : Host.Outcome State Fault Refusal := .next (hostRow cmdEvsMark t h (data.take 12 ++ List.replicate (12 - data.length) 0) s)

end Sys2Proof.Machine
end

