-- ==== Sys2Proof/Machine/Comparators.lean ====
section
/-! DEFINITION. Comparators, trip pins, TRIPN, trip release and their commands (R502 to R531). -/
namespace Sys2Proof.Machine
namespace State

/-- Configuration of a comparator: SAFETY's copy where its wiring has the SAFETY flag (R505). -/
def cmpDecl (s : State) (k : Nat) : CmpDecl :=
  if (s.wire k).safety then at' s.img.safety.cmps k {} else at' s.cfg.cmps k {}
def cmp1 (s : State) (k : Nat) : Cmp1 := at' s.cmp.cmps k {}
def onCmp1 (k : Nat) (f : Cmp1 → Cmp1) (s : State) : State := s.onCmp fun b => { b with cmps := modAt b.cmps k f }
/-- Trim of a comparator's reference, in trim LSB (R502). -/
def cmpTrim (k : Nat) (s : State) : Int := at' s.clk.trims (if k < 12 then 6 else 7) 0
/-- A threshold code in sixteenths of a nanovolt: 0.150 V + c × 1.46484375 mV, moved by the trim (R502). -/
def thrLevel (code : Nat) (trim : Int) : Int := 2400000000 + (code : Int) * 23437500 + trim * 5859375
/-- A stage after its input: above its threshold, or past its hysteresis, or as it was (R503, R506). -/
def stageNext (above : Bool) (v thr hyst : Int) (st : Option Bool) : Option Bool :=
  if above then (if thr < v then some true else if v < thr - hyst then some false else st)
  else (if v < thr then some true else if thr + hyst < v then some false else st)
/-- UNSETTLED: a stage its SENSE uses has not settled (R506). -/
def cmpUnset (s : State) (k : Nat) : Bool :=
  let x := s.cmp1 k; let d := s.cmpDecl k
  x.on && ((d.sense == 1 || d.sense == 3) && x.hi.isNone || (d.sense == 2 || d.sense == 3) && x.lo.isNone)
/-- Firing (R504, R507, R511): frozen during a check, always when FAILED, and UNSETTLED with the SAFETY flag. -/
def cmpFires (s : State) (k : Nat) : Bool :=
  let x := s.cmp1 k; let d := s.cmpDecl k
  if x.checking then x.frozen
  else if d.sense = 0 then false
  else x.failed || (x.on && ((s.wire k).safety && s.cmpUnset k ||
    (d.sense == 1 || d.sense == 3) && x.hi == some true || (d.sense == 2 || d.sense == 3) && x.lo == some true))
/-- A timer is active: within the window of a selected transition (R508). -/
def blankActive (s : State) (b : Nat) : Bool := (at' s.cmp.blanks b []).any fun w => decide (w.1 ≤ s.now ∧ s.now < w.2)
/-- Blanked by an active timer in its mask (R509). -/
def cmpBlanked (s : State) (k : Nat) : Bool := (List.range 8).any fun b => (s.cmpDecl k).blank.testBit b && s.blankActive b
/-- Take the firing state: count a rise, and latch its trip unless blanked. -/
def cmpEval (k : Nat) (s : State) : State :=
  let f := s.cmpFires k
  let unset := s.cmpUnset k
  let s := s.onCmp1 k fun x => { x with chgAt := if f != x.firing then s.now + 1 else x.chgAt, firing := f, fired := x.fired || f, cnt := if f && !x.firing then sat32 x.cnt 1 else x.cnt }
  if f && !s.cmpBlanked k && !s.latched k then
    let s := if unset && (s.wire k).safety && s.inForce then s.onCmp fun c => { c with flt := c.flt ||| 0x40000000, fltCmp := k } else s
    s.fireTrip k
  else s
/-- The stages take the input as it is. -/
def cmpStages (k : Nat) (s : State) : State :=
  let d := s.cmpDecl k; let h := (d.hyst : Int) * 23437500; let tr := cmpTrim k s
  s.onCmp1 k fun x =>
    match x.nv with
    | none => x
    | some nv =>
      if !x.on || x.checking then x
      else { x with hi := stageNext true (16 * nv) (thrLevel x.thrHi tr) h x.hi, lo := stageNext false (16 * nv) (thrLevel x.thrLo tr) h x.lo }
/-- The stages of a comparator that is not sampled follow its input; between two windows the others hold (R510). -/
def cmpFollow (k : Nat) (s : State) : State := if (s.cmpDecl k).si = 0 then (s.cmpStages k).cmpEval k else s
/-- Start a comparator by R506. -/
def cmpStart (k : Nat) (s : State) : State :=
  ((s.onCmp1 k fun x => { x with on := true, hi := none, lo := none, checking := false }).cmpEval k).cmpFollow k
/-- The CMP domain comes up with an image in force (R506, R512): thresholds loaded, used comparators await their check. -/
def cmpUp (s : State) : State :=
  let used := (List.range 24).filter fun k => (s.cmpDecl k).sense != 0
  let s := s.onCmp fun c =>
    { c with
      checks := used
      cmps := c.cmps.mapIdx fun k x =>
        let d := s.cmpDecl k
        { x with on := false, hi := none, lo := none, firing := false, checking := false, fired := false
                 thrLo := d.thrLo, thrHi := d.thrHi, tgtLo := d.thrLo, tgtHi := d.thrHi } }
  each ((List.range 24).filter fun k => (s.cmpDecl k).sense == 0) cmpStart s
/-- The CMP domain goes off: comparators stop and raise nothing (R526). -/
def cmpDown (s : State) : State :=
  s.onCmp fun c => { c with checks := [], cmps := c.cmps.map fun x => { x with on := false, checking := false, firing := false, hi := none, lo := none } }
/-- Begin a self-check (R511). -/
def checkBegin (k : Nat) (s : State) : State :=
  s.onCmp1 k fun x => { x with checking := true, frozen := x.firing, checkAt := s.now }
/-- Expected HI and LO stage outputs of the four steps (R511). -/
def checkWant : List (Nat × Nat) := [(0, 1), (1, 0), (1, 0), (0, 1)]
/-- The first failing step, from 1. -/
def failStep (got : List (Nat × Nat)) : Option Nat := ((List.range 4).find? fun i => at' got i (2, 2) != at' checkWant i (0, 0)).map (· + 1)
/-- A check ends (R511); the next of a power-up sequence begins (R512). -/
def checkEnd (k : Nat) (got : List (Nat × Nat)) (s : State) : State :=
  let bad := failStep got
  let s := s.onCmp1 k fun x => { x with failed := bad.isSome, checking := false }
  let s := s.onCmp fun c => { c with flt := c.flt ||| 0x10000000 ||| (if bad.isSome then 0x80000000 else 0), fltCmp := k
                                     checks := c.checks.filter (· != k) }
  let s := match bad with | some i => s.event 0x0691 (le 1 k ++ le 1 i) | none => s
  let s := s.cmpStart k
  match s.cmp.checks.head? with | some n => if (s.cmp1 n).checking then s else s.checkBegin n | none => s
/-- The whole power-up sequence begins with its first comparator. -/
def checksBegin (s : State) : State := match s.cmp.checks.head? with | some n => s.checkBegin n | none => s
end State
open State

/-- COMPARATOR_STAGE_CHANGE: the input of CMPk is nv. A sampled comparator takes it only in its window (R510). -/
def execComparatorStageChange (t : Nat) (k : Nat) (nv : Int) (s : State) : Host.Outcome State Fault Refusal :=
  .next (s.run t fun s =>
    (s.onCmp1 k fun x => { x with nv := some nv }).cmpFollow k)
/-- SAMPLED_WINDOW: over the last 60 ns of the 200 ns window at each multiple of SI (R510). -/
def execSampledWindow (t : Nat) (k : Nat) (nv : Int) (s : State) : Host.Outcome State Fault Refusal :=
  .next (s.runIf t
    (fun s =>
      let w := (s.cmpDecl k).si * Config.us
      w != 0 && (s.cmp1 k).on && decide (1792 ≤ s.sysTime % w ∧ s.sysTime % w ≤ 2560) && (s.cmp1 k).winAt != s.sysTime / w + 1)
    fun s =>
      let w := (s.cmpDecl k).si * Config.us
      ((s.onCmp1 k fun x => { x with nv := some nv, winAt := s.sysTime / w + 1 }).cmpStages k).cmpEval k)
/-- CMP_POWERUP_CHECKS (R512). -/
def execCmpPowerupChecks (t : Nat) (s : State) : Host.Outcome State Fault Refusal :=
  .next (s.runIf t (fun s => s.pwr.dom.testBit 13 && s.inForce && !(s.cmp.cmps.any (·.checking))) checksBegin)
/-- CMP_CHECK_END (R511): after the four steps of 1 us, with the stage outputs each step showed. -/
def execCmpCheckEnd (t : Nat) (k : Nat) (steps : List (Nat × Nat)) (s : State) : Host.Outcome State Fault Refusal :=
  .next (s.runIf t (fun s => (s.cmp1 k).checking && (s.cmp1 k).checkAt + 4 * Config.us == s.now) (checkEnd k steps))
/-- THRESHOLD_STEP (R514): one code toward the new value, every 100 ns. -/
def execThresholdStep (t : Nat) (k : Nat) (s : State) : Host.Outcome State Fault Refusal :=
  .next (s.runIf t (fun s => let x := s.cmp1 k; (x.thrLo != x.tgtLo || x.thrHi != x.tgtHi) && x.thrAt + 1280 == s.now)
    fun s =>
      let toward (a b : Nat) : Nat := if a < b then a + 1 else if b < a then a - 1 else a
      (s.onCmp1 k fun x => { x with thrLo := toward x.thrLo x.tgtLo, thrHi := toward x.thrHi x.tgtHi, thrAt := s.now }).cmpFollow k)

/-- Start of a blanking window of a timer (R508). -/
def execBlankingStart (t : Nat) (b : Nat) (s : State) : Host.Outcome State Fault Refusal :=
  .next (s.runIf t (fun s => (at' s.cmp.blanks b []).any fun w => w.1 == s.now) fun s =>
    s.onCmp fun c => { c with blankOn := c.blankOn.set b true })
/-- The last window of a timer ends; a comparator it blanked that still fires latches (R509). -/
def execBlankingEnd (t : Nat) (b : Nat) (s : State) : Host.Outcome State Fault Refusal :=
  .next (s.runIf t (fun s => (at' s.cmp.blanks b []).any (fun w => w.2 == s.now) && !s.blankActive b) fun s =>
    let s := s.onCmp fun c => { c with blankOn := c.blankOn.set b false, blanks := modAt c.blanks b fun l => l.filter fun w => decide (s.now < w.2) }
    each ((List.range 24).filter fun k => (s.cmpDecl k).blank.testBit b) cmpEval s)

/-- A pin's level has held for so many samples: FILT of them at its active level make its source fire (R515). -/
def execTripPinFilter (t : Nat) (i : Nat) (high : Bool) (samples : Nat) (s : State) : Host.Outcome State Fault Refusal :=
  .next (s.runIf t (fun s => s.pwr.dom.testBit 13 && decide (if high != (s.wire (24 + i)).actLow then (s.wire (24 + i)).filt < samples else 0 < samples)) fun s =>
    let act := high != (s.wire (24 + i)).actLow
    let s := s.onCmp fun c => { c with pinHigh := c.pinHigh.set i high, pinAct := c.pinAct.set i act }
    if act && decide (i < 8) then s.fireTrip (24 + i) else s)
/-- TRIPN's input is not taken: driven here, or released here within the last 2 us and at most 50 ns more (R517, R528). -/
def State.tripnDeaf (s : State) : Bool := s.cmp.driving || (s.cmp.ignoring && decide (s.now < s.cmp.ignoreEnd + 640))
/-- TRIPN as another device holds it (R517). -/
def execTripnLow (t : Nat) (low : Bool) (s : State) : Host.Outcome State Fault Refusal :=
  .next (s.run t fun s =>
    let s := s.onCmp fun c => { c with busLow := low }
    if low && !s.tripnDeaf then s.fireTrip 32 else s)
/-- TRIPN_IGNORE_END (R517): 2 us after the release the input is taken again. -/
def execTripnIgnoreEnd (t : Nat) (s : State) : Host.Outcome State Fault Refusal :=
  .next (s.runIf t (fun s => s.cmp.ignoring && !s.cmp.driving && decide (s.cmp.ignoreEnd ≤ s.now)) fun s =>
    let s := s.onCmp fun c => { c with ignoring := false }
    if s.cmp.busLow then s.fireTrip 32 else s)

/-! ## Release (R524, R525) -/

/-- Within this time of the last copy a cell trip counts as still being received: two repeats of R242 at 3.125 Gb/s (log
entry 12). -/
def stillReceived : Nat := 2 * 1024 * 271
/-- A source still fires (R524). -/
def State.stillFires (s : State) (w : Nat) : Bool :=
  if w < 24 then s.cmpFires w
  else if w < 32 then at' s.cmp.pinAct (w - 24) false
  else if w = 32 then s.cmp.busLow && !s.tripnDeaf
  else
    -- a flood counts for 20 us (R601)
    match (if w = 33 then s.cmp.floodAt else if w = 34 then s.cmp.cellAt else none) with
    | some a => decide (s.now < a + if w = 33 then 20 * Config.us else stillReceived)
    | none => false
/-- Sources a release names. -/
def State.relList (s : State) (target : Nat) : List Nat :=
  if target = 0xFF then (List.range 35).filter fun w => s.latched w && !s.stillFires w else [target]
/-- TRIP_RELEASE. -/
def cmdTripRelease : Cmd where
  opcode := 0x0610
  lens := noPayload
  fields := fun h _ _ => firstBad [(!(decide (h.target ≤ 36) || h.target == 0xFF), noField)]
  block := fun h _ s =>
    let w := h.target
    if w = 0xFF then
      if !(s.relList w).isEmpty then none
      else if (List.range 35).any s.latched then some (.block 0x11) else some (.block 0x12)
    else blockCause
      [(decide (w < 35) && s.latched w && s.stillFires w, 0x11), (decide (w < 35) && !s.latched w, 0x12), (decide (35 ≤ w), 0x13)]
  act := fun h _ s => (s.onCmp fun c => { c with releases := c.releases ++ s.relList h.target }, {})
/-- CMP_THRESH (R514). -/
def cmdCmpThresh : Cmd where
  opcode := 0x0611
  lens := (· == 4)
  fields := fun h _ _ => firstBad [(decide (23 < h.target), noField)]
  block := fun h p s =>
    let d := s.cmpDecl h.target; let lo := field p 0 2; let hi := field p 2 2
    blockCause [((s.wire h.target).safety, 0x14),
      (decide (1023 < lo) || decide (1023 < hi) || d.sense == 3 && !decide (lo + d.hyst + d.hyst < hi), 0x16)]
  act := fun h p s => (s.onCmp1 h.target fun x => { x with tgtLo := field p 0 2, tgtHi := field p 2 2, thrAt := s.now }, {})
/-- CMP_CHECK (R511, R512). -/
def cmdCmpCheck : Cmd where
  opcode := 0x0612
  lens := noPayload
  fields := fun h _ _ => firstBad [(decide (23 < h.target), noField)]
  block := fun h _ s => blockCause
    [(s.scopeEnabled h.target, 0x15), ((s.cmpDecl h.target).sense == 0, 0x16), ((s.cmp1 h.target).checking, 0x17)]
  act := fun h _ s => (s.checkBegin h.target, { status := 1 })

/-- TRIP_RELEASE. -/
def execTripRelease (t : Nat) (h : RecHdr) (s : State) : Host.Outcome State Fault Refusal :=
  .next (hostRow cmdTripRelease t h [] s)
/-- CMP_THRESH. -/
def execCmpThresh (t : Nat) (h : RecHdr) (lo hi : Nat) (s : State) : Host.Outcome State Fault Refusal :=
  .next (hostRow cmdCmpThresh t h (le 2 lo ++ le 2 hi) s)
/-- CMP_CHECK. -/
def execCmpCheck (t : Nat) (h : RecHdr) (s : State) : Host.Outcome State Fault Refusal :=
  .next (hostRow cmdCmpCheck t h [] s)
/-- The release lands in the CMP domain (R525): a source firing at that instant stays latched. -/
def execTripReleaseLanding (t : Nat) (s : State) : Host.Outcome State Fault Refusal :=
  .next (s.run t fun s =>
    let ws := s.cmp.releases.filter fun w => !s.stillFires w
    (s.onCmp fun c => { c with releases := [] }).clearTrips ws)

/-- A TRIP block from a cell (R241, R519): a valid one on a lane with block lock latches source 34, with the seam of its lane. -/
def execCellTripBlock (t : Nat) (x : LaneRx) (s : State) : Host.Outcome State Fault Refusal :=
  .next (s.runIf t (fun s => decide (x.lane < 32) && s.laneHears x.lane && !(laneKind .trip x).isEmpty) fun s =>
    (s.onCmp fun c => { c with cellAt := some s.now, cellSeam := if s.latched 34 then c.cellSeam else x.lane / 2 }).fireTrip 34)

end Sys2Proof.Machine
end

