-- ==== Sys2Proof/Machine/Inputs.lean ====
section
/-! DEFINITION. What a latch takes: operating variables, the input words of the benches with their stale flags, the comparator words and the model contexts of SYNTHETIC (R37, R328, R329, R332, R415, R443, R513, R685). -/
namespace Sys2Proof.Machine.State

/-- SYNTHETIC is in force (R679). -/
def synth (s : State) : Bool := s.modeQ.ovl.testBit 4
/-- Source of an operating variable in use (R685). -/
def varSrc (s : State) (v : Nat) : InSrc :=
  let n := at' s.cfg.vars v .none
  if s.synth then at' s.cfg.varModels v n else n
/-- Source of an input word in use (R685). -/
def wordSrc (s : State) (d : InDecl) : InSrc := if s.synth then d.model.getD d.src else d.src
/-- An OUT word as last released (R332). -/
def relWord (s : State) (b w : Nat) : Word := at' (s.bench b).rel w 0
/-- A bench released nothing at the last output phase. -/
def relStale (s : State) (b : Nat) : Bool := (s.bench b).withheld || !(s.bench b).ended || (s.bench b).faulted
/-- A cell whose values are its last latched ones, flagged (R332). -/
def cellStale (s : State) (c : Nat) : Bool := (s.cell c).stale || !([2, 3].contains (s.cell c).st)
/-- (code − OFFSET) × GAIN. -/
def scaleCode (code : Int) (ofs gain : Word) : Word := F32.mul (F32.sub (F32.ofInt code) ofs) gain
/-- PRE_STEP (R415, R422); the program that reads it sets the relay and contactor outputs. -/
def preStep (s : State) : Nat :=
  if s.mode.mode = 1 then (if s.mode.sub = 9 then 1 else if s.mode.sub = 10 then 2 else 3)
  else if 2 ≤ s.mode.mode ∧ s.mode.mode ≤ 7 then 4 else 0
/-- Word k of the set compiled for a cell, as a model bench reads it: levels, then the edge words (R685; log entry 31). -/
def edgeWordOf (s : State) (c k : Nat) : Word :=
  let x := (s.talk c).cur
  if k = 0 then BitVec.ofNat 32 x.init
  else match x.words[k - 1]? with
    | some w => BitVec.ofNat 32 (w.1 * 2 ^ 28 + bit w.2.1 * 2 ^ 27 + w.2.2)
    | none => 0xFFFFFFFF
/-- Value and stale flag of a source other than an operating variable (R332, R415, R727). -/
def srcVal (s : State) : InSrc → Word × Bool
  | .none => (0, true)
  | .adc a ch ofs gain => (scaleCode (at' (at' s.adc.latA a []) ch {}).code ofs gain, at' (at' s.adc.staleA a []) ch true)
  | .inj a j ofs gain => (scaleCode (at' (at' s.adc.latJ a []) j {}).code ofs gain, at' (at' s.adc.staleJ a []) j true)
  | .sieve i gain => (F32.mul (F32.ofInt (at' s.adc.latS i (0, 0)).1) gain, at' s.adc.staleS i true)
  | .vdc1 c => (s.vdc1 c, s.cellStale c)
  | .vdc2 c => (s.vdc2 c, s.cellStale c)
  | .ntc c => (F32.div (F32.ofInt (s.cell c).ntc) 0x41800000, s.cellStale c)
  | .cmpf c => (F32.ofNat (s.cell c).cmpf, s.cellStale c)
  | .status c => (F32.ofNat (s.cell c).status, s.cellStale c)
  | .cmpLevel => (BitVec.ofNat 32 s.cmp.level, false)
  | .cmpFired => (BitVec.ofNat 32 s.cmp.fired, false)
  | .opVar v => (at' s.mode.vars v 0, false)
  | .benchOut b w => (s.relWord b w, s.relStale b)
  | .meshWord n b w =>
    (((s.bnc.meshIn.find? fun x => x.1 == n && x.2.1 == b && x.2.2.1 == w).map (·.2.2.2)).getD 0, !s.bnc.meshNew.contains (n, b, w))
  | .edgeWord c k => (s.edgeWordOf c k, false)
  | .sub => (BitVec.ofNat 32 s.mode.sub, false)
  | .sp k => ((at' s.mode.sps k {}).x, false)
  | .preStep => (BitVec.ofNat 32 s.preStep, false)
  | .ilimF => (s.mode.ilim, false)
  | .avail => (s.mode.avail, false)
  | .regenF => (s.mode.regen, false)
  | .gpio => (BitVec.ofNat 32 s.sys.gpioIn, false)
/-- The same, an operating variable with the flag of its own source. -/
def srcOf (s : State) : InSrc → Word × Bool
  | .opVar v => (at' s.mode.vars v 0, (s.srcVal (s.varSrc v)).2)
  | x => s.srcVal x
/-- Latch the 64 operating variables; those of S(n − 1) are kept for the thermal pass (R37). -/
def varsLatch (s : State) : State :=
  let old := s.mode.vars
  let v := (List.range 64).map fun i => (s.srcVal (s.varSrc i)).1
  (s.onBal fun b => { b with varsPrev := old }).onMode fun m => { m with vars := v }

/-! ## Input words -/

/-- Declared input words of a bench: word, declaration. -/
def inputDecls (s : State) (b : Nat) : List (Nat × InDecl) :=
  (List.range (s.benchDecl b).inputs.length).map fun w => (w, at' (s.benchDecl b).inputs w {})
def inputDecl (s : State) (b w : Nat) : InDecl := at' (s.benchDecl b).inputs w {}
/-- The feedback watch of an input word. -/
def watch (s : State) (b w : Nat) : Option FbWatch := s.mode.fb.find? fun x => x.bench == b && x.word == w
/-- An input word's value and flag: its own source, or its alternate's (R443). -/
def inputVal (s : State) (b w : Nat) : Word × Bool :=
  let d := s.inputDecl b w
  if (match s.watch b w with | some x => x.onAlt | none => false) then s.srcOf (s.wordSrc (s.inputDecl b d.alt)) else s.srcOf (s.wordSrc d)
/-- Words of 32 flags. -/
def flagWords (l : List Bool) (n : Nat) : List Word :=
  (List.range n).map fun i => BitVec.ofNat 32 (maskOf 32 fun k => at' l (32 * i + k) false)
/-- Write a bench's input words and stale flags (R328). -/
def putInputs (b : Nat) (words : List Word) (stale : List Bool) (s : State) : State :=
  let s := s.onBnc fun x =>
    { x with inStale := x.inStale.filter (fun p => p.1 != b) ++
        (((List.range stale.length).filter fun w => at' stale w false).map fun w => (b, w)) }
  (s.lmPut b 0x7000 words).lmPut b 0x7800 (flagWords stale 16)
/-- Latch the input words of every bench (R37, R332). -/
def inputsLatch (s : State) : State :=
  each s.liveBenches (fun b s =>
    let l := (s.inputDecls b).map fun p => s.inputVal b p.1
    s.putInputs b (l.map (·.1)) (l.map (·.2))) s
/-- A mode word of R415. -/
def modeSrc : InSrc → Bool
  | .sub | .sp _ | .preStep | .ilimF | .avail | .regenF => true
  | _ => false
/-- Write the mode words again after a decision taken at this latch (R412, R415). -/
def modeWords (s : State) : State :=
  each s.liveBenches (fun b s =>
    each (((s.inputDecls b).filter fun p => modeSrc (s.wordSrc p.2)).map (·.1)) (fun w s => s.lmPut b (0x7000 + 4 * w) [(s.inputVal b w).1]) s) s

/-! ## Comparators (R513) and model contexts (R685) -/

/-- CMP_LEVEL and FIRED at S(n); the FIRED flags start again. -/
def cmpWords (s : State) : State :=
  s.onCmp fun c =>
    { c with level := maskOf 24 fun k => (at' c.cmps k {}).firing, fired := maskOf 24 fun k => (at' c.cmps k {}).fired || (at' c.cmps k {}).firing,
             cmps := c.cmps.map fun x => { x with fired := false } }
/-- A model context's FEED values, from six OUT words of its model bench: VDC1, VDC2, NTC, CMPF, STATUS and the period
acknowledged (R685; log entry 31). -/
def modelCell (d : CellDecl) (s : State) : State :=
  match d.model with
  | none => s
  | some (b, w) =>
    let v (i : Nat) : Nat := (s.relWord b (w + i)).toNat
    let s := s.onCell d.idx fun x =>
      { x with vdc1 := v 0 % 65536, vdc2 := v 1 % 65536, ntc := toSigned 16 (v 2), cmpf := v 3 % 65536, status := v 4 % 65536,
               stale := s.relStale b }
    match (s.talk d.idx).sent.find? (·.1 == v 5) with
    | some a => s.onTalk d.idx fun t => { t with acked := some a }
    | none => s
/-- Model contexts at S(n). -/
def modelCells (s : State) : State := if s.synth then each s.cfg.cells modelCell s else s

end Sys2Proof.Machine.State
end

