-- ==== Sys2Proof/Machine/Island.lean ====
section
/-! DEFINITION. The safety island, the passphrase, the lock (R536 to R573). -/
namespace Sys2Proof.Machine
namespace State

/-- Times of the SAFE RC are judged at its fast edge (R565: × 0.95). -/
def rc (ticks : Nat) : Nat := ticks * 95 / 100
/-- SAFE_OK (R547). -/
def safeOk (s : State) : Bool := (s.safe.st == 2 || s.safe.st == 3) && !s.safe.vddBad
/-- Both outputs off, a test pulse discarded (R549). -/
def soffOff (x : Safe) : Safe := { x with soffA := false, soffB := false, pulse := none }
/-- LATCHED with a cause (R543): source 36 fires; from READY or ENABLED the event is recorded. -/
def islandLatch (cause pair : Nat) (s : State) : State :=
  let live := s.safe.st == 2 || s.safe.st == 3
  let s := s.onSafe fun x => { soffOff x with st := 1, cause := cause, pair := pair, evt := if live then setBit x.evt 0 else x.evt }
  let s := if live then s.event 0x0781 (le 1 cause ++ le 1 pair) else s
  s.fireTrip 36
/-- FAULT with a cause (R543). -/
def islandFault (cause : Nat) (s : State) : State :=
  ((s.onSafe fun x => { soffOff x with st := 4, cause := cause, evt := setBit x.evt 1 }).event 0x0782 (le 1 cause)).fireTrip 36
/-- INIT (R543, R538). -/
def islandInit (s : State) : State := (s.onSafe fun x => { soffOff x with st := 0 }).fireTrip 36
/-- Power returns to the SAFE domain (R542, R550): tests and the release of SAFE_RST start anew. -/
def islandPower (s : State) : State :=
  (s.onSafe fun x =>
    { x with pairs := List.replicate 4 {}, rst := false, rstFree := false, rstStuck := false, testNextB := false, tested := 0 }).islandInit

/-- A pair's declaration in the island's own copy. -/
def pairDecl (s : State) (p : Nat) : PairDecl := match s.safe.desc with | some d => at' d.pairs p {} | none => {}
/-- STOP or GUARD. -/
def pairUsed (s : State) (p : Nat) : Bool := s.safe.desc.isSome && ((s.pairDecl p).kind == 1 || (s.pairDecl p).kind == 2)
def pairS (s : State) (p : Nat) : PairS := at' s.safe.pairs p {}
def onPairS (p : Nat) (f : PairS → PairS) (s : State) : State := s.onSafe fun x => { x with pairs := modAt x.pairs p f }
/-- A pair's channels as taken (R539 to R542). -/
def pairEval (p : Nat) (s : State) : State :=
  let d := s.pairDecl p
  let x := at' s.safe.sin (2 * p) false
  let y := at' s.safe.sin (2 * p + 1) false != d.anti
  s.onPairS p fun q =>
    let bothOpen := !x && !y; let bothClosed := x && y
    let discOpen := q.disc && (q.discOpen || bothOpen)
    let opened := q.opened || bothOpen
    { q with
      closedX := x, closedY := y, demand := !x || !y
      disAt := if x = y then none else if q.disAt.isSome then q.disAt else some s.now
      discOpen := discOpen && !(discOpen && bothClosed)
      disc := q.disc && !(discOpen && bothClosed)
      opened := opened
      startup := q.startup || (d.kind == 2 && opened && bothClosed) }
/-- A demand acts (R540, R543): from READY or ENABLED the island latches. -/
def demand (p : Nat) (s : State) : State :=
  if s.pairUsed p && (s.pairS p).demand && (s.safe.st == 2 || s.safe.st == 3) then
    -- a counted edge in the same sample is consumed without effect (R551)
    let s := if s.safe.st = 2 ∧ s.safe.rst ∧ s.safe.rstAt = s.now then s.onSafe fun x => { x with evt := setBit x.evt 2 } else s
    s.islandLatch 2 p
  else s
/-- Conditions for READY (R543). -/
def pairsReady (s : State) : Bool :=
  (List.range 4).all fun p => !s.pairUsed p || (!(s.pairS p).demand && !(s.pairS p).disc && ((s.pairDecl p).kind != 2 || (s.pairS p).startup))
/-- A counted reset edge (R543, R550). -/
def countedEdge (s : State) : State :=
  if s.safe.st = 1 ∧ s.pairsReady ∧ !s.safe.vddBad then (s.onSafe fun x => { x with st := 2 }).clearTrips [36]
  else s.onSafe fun x => { x with evt := setBit x.evt 2 }
/-- The request of the MODE block as the island sees it (R544, R543). -/
def gatePower (s : State) : State :=
  s.onSafe fun x =>
    let r := s.modeQ.gpReq
    let x := { x with gpReq := r }
    if x.st = 2 ∧ r then { x with st := 3, soffA := true, soffB := true, testAt := s.now, tickAt := s.now, pulse := none }
    else if x.st = 3 ∧ !r then { soffOff x with st := 2 }
    else x
/-- The island takes its copy of SAFETY and verifies the seal, when an image comes into force (R554, R543). -/
def islandImage (d : SafetyDesc) (sealOk : Bool) (s : State) : State :=
  let s := (s.onSafe fun x => { soffOff x with st := 0 })
  let s := s.onSafe fun x => { x with desc := some d, testEn := if x.desc.isNone then d.testEn else x.testEn }
  let s := each (List.range 4) pairEval s
  if sealOk then s.islandLatch 1 s.safe.pair else s.islandFault 8
/-- A KIND 1 entry was written: start-up tests are due again (R542). -/
def startupClear (s : State) : State :=
  s.onSafe fun x => { x with pairs := x.pairs.map fun q => { q with startup := false, opened := false } }
end State
open State

/-- SIN_CHANNEL_TAKEN: a level that has held for so many ticks, FILT of its pair at least (R539, R540). -/
def execSinChannelTaken (t : Nat) (ch : Nat) (high : Bool) (held : Nat) (s : State) : Host.Outcome State Fault Refusal :=
  .next (s.runIf t (fun s => decide (ch < 8) && decide (rc ((s.pairDecl (ch / 2)).filtMs * Config.ms) ≤ held)) fun s =>
    ((s.onSafe fun x => { x with sin := x.sin.set ch high }).pairEval (ch / 2)).demand (ch / 2))
/-- DISCREPANCY (R541). -/
def execDiscrepancy (t : Nat) (p : Nat) (s : State) : Host.Outcome State Fault Refusal :=
  .next (s.runIf t
    (fun s => s.pairUsed p && (match (s.pairS p).disAt with
      | some a => decide (a + rc ((s.pairDecl p).discMs * Config.ms) ≤ s.now)
      | none => false))
    fun s =>
      let s := s.onPairS p fun q => { q with disc := true, discOpen := false }
      if s.safe.st = 1 ∨ s.safe.st = 2 ∨ s.safe.st = 3 then s.islandLatch 3 p else s)
/-- SAFE_RST_EDGE: a press is taken when it has held for the filter's 20 ms (R550). -/
def execSafeRstEdge (t : Nat) (held : Nat) (s : State) : Host.Outcome State Fault Refusal :=
  .next (s.runIf t (fun s => !s.safe.rst && decide (rc (20 * Config.ms) ≤ held)) fun s =>
    let free := s.safe.rstFree
    let s := s.onSafe fun x => { x with rst := true, rstFree := false, rstAt := s.now }
    if free then s.countedEdge else s)
/-- SAFE_RST_RELEASE (R551). -/
def execSafeRstRelease (t : Nat) (held : Nat) (s : State) : Host.Outcome State Fault Refusal :=
  .next (s.runIf t (fun _ => decide (rc (20 * Config.ms) ≤ held)) (State.onSafe fun x => { x with rst := false, rstFree := true, rstStuck := false }))
/-- RST_STUCK (R551). -/
def execRstStuck (t : Nat) (s : State) : Host.Outcome State Fault Refusal :=
  .next (s.runIf t (fun s => s.safe.rst && !s.safe.rstStuck && decide (s.safe.rstAt + rc (2 * Config.sec) ≤ s.now)) fun s =>
    (s.onSafe fun x => { x with rstStuck := true, evt := setBit x.evt 3 }).event 0x0783 [])
/-- GATE_POWER_REQUEST (R544). -/
def execGatePowerRequest (t : Nat) (s : State) : Host.Outcome State Fault Refusal := .next (s.run t gatePower)
/-- TEST_PULSE (R548). -/
def execTestPulse (t : Nat) (s : State) : Host.Outcome State Fault Refusal :=
  .next (s.runIf t
    (fun s => s.safe.st == 3 && s.safe.testEn && s.safe.pulse.isNone && decide (s.safe.testAt + rc (10 * Config.sec) ≤ s.now))
    fun s => s.onSafe fun x =>
      let x := { x with testAt := s.now }
      if x.soffA && x.soffB then
        { x with pulse := some x.testNextB, soffA := x.testNextB, soffB := !x.testNextB }
      else x)
/-- TEST_PULSE_END (R548). -/
def execTestPulseEnd (t : Nat) (s : State) : Host.Outcome State Fault Refusal :=
  .next (s.runIf t (fun s => s.safe.pulse.isSome && decide (s.safe.testAt + rc (200 * Config.us) ≤ s.now)) fun s =>
    s.onSafe fun x =>
      { x with soffA := true, soffB := true, pulse := none, testNextB := !(x.pulse.getD false),
               tested := (x.tested + 1) % 2147483648 })
/-- SOFF_READBACK_FAILURE (R547). -/
def execSoffReadbackFailure (t : Nat) (b : Bool) (s : State) : Host.Outcome State Fault Refusal :=
  .next (s.runIf t (fun s => s.safe.st != 0) (islandFault (if b then 6 else 5)))
/-- LIVENESS_TIMEOUT (R552). -/
def execLivenessTimeout (t : Nat) (s : State) : Host.Outcome State Fault Refusal :=
  .next (s.runIf t
    (fun s => s.safe.st == 3 && decide (s.safe.tickAt + rc ((match s.safe.desc with | some d => d.liveMs | none => 1) * Config.ms) ≤ s.now))
    fun s => s.islandLatch 4 s.safe.pair)
/-- SAFE_CLOCK_CHECK (R553): cycles of the SAFE and AON clocks counted over the same millisecond. -/
def execSafeClockCheck (t : Nat) (safeCycles aonCycles : Nat) (s : State) : Host.Outcome State Fault Refusal :=
  .next (s.runIf t
    (fun s => s.safe.st != 0 && (decide (100 * safeCycles < 130 * aonCycles) || decide (195 * aonCycles < 100 * safeCycles)))
    (islandFault 7))
/-- VDD_SAFE_FAULT (R538). -/
def execVddSafeFault (t : Nat) (s : State) : Host.Outcome State Fault Refusal :=
  .next (s.run t fun s => (s.onSafe fun x => { x with vddBad := true }).islandInit)
/-- VDD_SAFE_RECOVERY (R538). -/
def execVddSafeRecovery (t : Nat) (s : State) : Host.Outcome State Fault Refusal :=
  .next (s.runIf t (fun s => s.safe.vddBad) fun s => (s.onSafe fun x => { x with vddBad := false }).islandPower)

/-! ## Passphrase and lock -/

/-- LEN and PASS of a payload at an offset: a length of 8 to 64 that PLEN agrees with (R567). -/
def passOk (p : Bytes) (o : Nat) : Bool :=
  let n := field p o 1
  decide (8 ≤ n ∧ n ≤ 64) && (p.length == o + 4 + n || p.length == o + 4 + (n + 3) / 4 * 4)
/-- The passphrase bytes. -/
def passOf (p : Bytes) (o : Nat) : Bytes := slice p (o + 4) (field p o 1)
/-- The lockout of R559 runs. -/
def lockedOut (s : State) : Bool := s.evs.lockout.isSome
/-- SAFE_UNLOCK (R558, R559). A wrong passphrase counts as a failure; the fifth begins the lockout. -/
def cmdSafeUnlock : Cmd where
  opcode := 0x0701
  lens := fun n => decide (4 ≤ n)
  fields := fun h p _ => firstBad [target0 h, zeros p 1 3]
  block := fun _ p s => blockCause
    [(!passOk p 0, 0x03), (s.evs.hash.isNone, 0x05), (lockedOut s, 0x02),
     (s.evs.hash != some (sha256 (s.evs.salt ++ passOf p 0)), 0x01)]
  act := fun h _ s =>
    let s := s.onSafe fun x => { x with unlocked := true, unlockSess := h.sess, unlockEnd := s.now + x.unlockMin * 60 * Config.sec }
    ((s.onEvs fun e => { e with fails := 0 }).logAdd 5 h.src.code h.sess 0 0 0 [], { secret := true })
  deny := fun h r s =>
    if r.code = 0x11 ∧ r.detail = 0x01 then
      let n := s.evs.fails + 1
      let s := (s.onEvs fun e => { e with fails := n }).logAdd 7 h.src.code h.sess 0 0 0 []
      if 5 ≤ n then
        ((s.onEvs fun e => { e with lockout := some (s.now + 600 * Config.sec) }).onSafe fun x => { x with evt := setBit x.evt 5 }).logAdd
          8 h.src.code h.sess 0 0 0 []
      else s
    else s
/-- SAFE_LOCK (R558). -/
def cmdSafeLock : Cmd where
  opcode := 0x0702
  lens := noPayload
  fields := fun h _ _ => firstBad [target0 h]
  block := fun _ _ _ => none
  act := fun h _ s => (s.relock h.src.code h.sess, {})
/-- SAFE_PASS_SET (R557). -/
def cmdSafePassSet : Cmd where
  opcode := 0x0703
  lens := fun n => decide (20 ≤ n)
  fields := fun h p _ => firstBad [target0 h, zeros p 17 3]
  block := fun h p s =>
    if s.evs.hash.isSome && !(s.safe.unlocked && s.safe.unlockSess == h.sess) then some { code := 0x12 }
    else blockCause
      [(!passOk p 16, 0x03),
       (if s.evs.hash.isNone then s.mode.mode != 0 && !s.img.hostWait else s.mode.mode != 0 || s.img.hostWait, 0x04)]
  act := fun h p s =>
    let salt := slice p 0 16
    let kind := if s.evs.hash.isNone then 2 else 3
    let s := s.onEvs fun e => { e with salt := salt, hash := some (sha256 (salt ++ passOf p 16)) }
    (s.logAdd kind h.src.code h.sess 0 0 0 [], { secret := true })

/-- SAFE_UNLOCK. -/
def execSafeUnlock (t : Nat) (h : RecHdr) (len : Nat) (pass : Bytes) (s : State) : Host.Outcome State Fault Refusal :=
  .next (hostRow cmdSafeUnlock t h (le 1 len ++ le 3 0 ++ pass) s)
/-- SAFE_LOCK. -/
def execSafeLock (t : Nat) (h : RecHdr) (s : State) : Host.Outcome State Fault Refusal := .next (hostRow cmdSafeLock t h [] s)
/-- SAFE_PASS_SET. -/
def execSafePassSet (t : Nat) (h : RecHdr) (salt : Bytes) (len : Nat) (pass : Bytes) (s : State) : Host.Outcome State Fault Refusal :=
  .next (hostRow cmdSafePassSet t h (padTo 16 (salt.take 16) ++ le 1 len ++ le 3 0 ++ pass) s)
/-- UNLOCK_TIMEOUT (R558). -/
def execUnlockTimeout (t : Nat) (s : State) : Host.Outcome State Fault Refusal :=
  .next (s.runIf t (fun s => s.safe.unlocked && decide (s.safe.unlockEnd ≤ s.now)) (relock 7 s.safe.unlockSess))
/-- LOCKOUT_END (R559). -/
def execLockoutEnd (t : Nat) (s : State) : Host.Outcome State Fault Refusal :=
  .next (s.runIf t (fun s => match s.evs.lockout with | some a => decide (a ≤ s.now) | none => false)
    (State.onEvs fun e => { e with lockout := none, fails := 0 }))

end Sys2Proof.Machine
end

