-- ==== Sys2Proof/Machine/Modes.lean ====
section
/-! DEFINITION. The MODE block: the mode machine, set-point limiters, plant signals, feedback loss, host loss and test overlays (R411 to R456, R672 to R685). -/
namespace Sys2Proof.Machine
namespace State

/-! ## Operating variables and parameters (R416) -/

/-- Value of a variable the mode reads; none where the image names none. -/
def mvar (s : State) (v : Option Nat) : Option Word := v.map fun i => at' s.mode.vars i 0
/-- A condition on a variable: it does not hold where the image names none. -/
def on? (o : Option Word) (p : Word → Bool) : Bool := match o with | some w => p w | none => false
def nonzero (w : Word) : Bool := !F32.isZero w
def mv (s : State) : ModeVars := s.cfg.modeV
def mp (s : State) : ModeParams := s.cfg.modeP
def dp (s : State) : DriveParams := s.cfg.driveP
def spDecl (s : State) (k : Nat) : SpDecl := at' s.cfg.sps k {}
def onCnt (f : ModeCnt → ModeCnt) (s : State) : State := s.onMode fun m => { m with cnt := f m.cnt }
def onSp (k : Nat) (f : Sp → Sp) (s : State) : State := s.onMode fun m => { m with sps := modAt m.sps k f }
def subTo (n : Nat) (s : State) : State := s.onMode fun m => { m with sub := n }
def modeEvt (i : Nat) (s : State) : State := s.onMode fun m => { m with evt := setBit m.evt i }
def targetTo (m : Nat) (s : State) : State := s.onMode fun x => { x with target := m }
/-- GRID_LOCK nonzero. -/
def gridLocked (s : State) : Bool := on? (s.mvar s.mv.gridLock) nonzero
/-- GRID_V below V_COAST. -/
def gridLow (s : State) : Bool := on? (s.mvar s.mv.gridV) fun v => F32.lt v s.mp.vCoast
/-- This instant is a decision: S(n), its values latched, at a member that decides for itself (R412). -/
def decides (s : State) : Bool := s.timeline && s.cyc == 0 && s.reached 0 && !s.standby

/-! ## Set-points (R444 to R447) -/

/-- Set-points that a mode uses. -/
def spsOf (s : State) (m : Nat) : List Nat := (List.range 16).filter fun k => (s.spDecl k).declared && (s.spDecl k).modes.contains m
/-- Start a limiter at x with rate 0; fresh: this latch's limiter run is over for it (R426). -/
def spStart (fresh : Bool) (k : Nat) (x : Word) (s : State) : State := s.onSp k fun p => { p with x := x, r := 0, dwell := 0, fresh := fresh }
/-- A new commanded target. -/
def spCmd (k : Nat) (v : Word) (s : State) : State := s.onSp k fun p => { p with cmd := v, tgt := if p.locked then 0 else v }
def spLock (k : Nat) (s : State) : State := s.onSp k fun p => { p with locked := true, tgt := 0 }
def spsUnlock (s : State) : State := s.onMode fun m => { m with sps := m.sps.map fun p => { p with locked := false, tgt := p.cmd } }
/-- Set-points with a flag. -/
def powerSps (s : State) : List Nat := (List.range 16).filter fun k => (s.spDecl k).declared && (s.spDecl k).power
def speedSps (s : State) : List Nat := (List.range 16).filter fun k => (s.spDecl k).declared && (s.spDecl k).speed
/-- START of a set-point. -/
def startVal (s : State) (k : Nat) : Word := match (s.spDecl k).start with | some v => at' s.mode.vars v 0 | none => 0
/-- The voltage set-point of a mode: the first it uses that is flagged neither POWER nor SPEED (log entry 32). -/
def voltSp (s : State) (m : Nat) : Option Nat := (s.spsOf m).find? fun k => !(s.spDecl k).power && !(s.spDecl k).speed
/-- One run of a limiter with target, T_F and declaration given (R445). -/
def limiter (d : SpDecl) (tf : Word) (p : Sp) : Sp :=
  if p.fresh then { p with fresh := false }
  else if 1 < p.dwell then { p with dwell := p.dwell - 1 }
  else
    let goal := if F32.gt d.dwell 0 && F32.lt (F32.mul p.x p.tgt) 0 then 0 else p.tgt
    let e := F32.sub goal p.x
    let r :=
      if F32.isInf d.jerkMax then F32.mul (F32.sgn e) d.rateMax
      else
        let des := F32.mul (F32.sgn e) (F32.min' d.rateMax (F32.sqrt (F32.mul (F32.mul 0x40000000 d.jerkMax) (F32.abs e))))
        let j := F32.mul d.jerkMax tf
        F32.add p.r (F32.clamp (F32.sub des p.r) (F32.neg j) j)
    if F32.ge (F32.mul r e) 0 && F32.le (F32.abs e) (F32.mul (F32.abs r) tf) then
      { p with x := goal, r := 0,
               dwell := if F32.isZero goal && nonzero p.tgt && F32.gt d.dwell 0 then F32.ceilNat (F32.div d.dwell tf) + 1 else 0 }
    else { p with x := F32.add p.x (F32.mul r tf), r := r, dwell := 0 }
/-- Every declared limiter runs once (R445); then the speed limiter is held near SPEED while REGEN_F is below 1 (R438). -/
def limiters (s : State) : State :=
  let s := each ((List.range 16).filter fun k => (s.spDecl k).declared) (fun k s => s.onSp k (limiter (s.spDecl k) s.tF)) s
  match s.mvar s.mv.speed with
  | some v =>
    if (s.mode.mode = 6 ∨ s.mode.mode = 7) ∧ F32.lt s.mode.regen F32.one then
      each s.speedSps (fun k s => s.onSp k fun p =>
        let x := F32.clamp p.x (F32.sub v s.dp.decLead) (F32.add v s.dp.decLead)
        if x = p.x then p else { p with x := x, r := 0 }) s
    else s
  | none => s

/-! ## Available and ranked cells (R423, R428, R429) -/

/-- ACTIVE, HOLDING, or JOINING and waiting at J5. -/
def available (s : State) (c : Nat) : Bool := let x := s.cell c; x.st == 2 || x.st == 3 || (x.st == 1 && x.jstep == 5)
/-- Cells at J5. -/
def j5Cells (s : State) : List Nat := (s.cfg.cells.map (·.idx)).filter fun c => (s.cell c).st == 1 && (s.cell c).jstep == 5
/-- Arms short of available cells. -/
def armsShort (s : State) : List Nat :=
  s.arms.filter fun a => decide (((s.armDecl a).members.filter s.available).length < (s.armDecl a).nMin)
/-- Ranked and declared members of an arm; of a spread arm, over its nodes. -/
def armCount (s : State) (a : Nat) : Nat × Nat :=
  if (s.armDecl a).spread then ((s.arm a).rankN, (s.armDecl a).total)
  else (((s.armDecl a).members.filter s.ranked).length, (s.armDecl a).members.length)
/-- Arms with a cell that carries a channel of an enabled group. -/
def liveArms (s : State) : List Nat :=
  s.arms.filter fun a => (s.armDecl a).members.any fun c => match s.decl c with
    | some d => d.chans.any fun x => match x with | some b => s.groupEnabled b.group | none => false
    | none => false
/-- ILIM_F and AVAIL; 1 where no arm counts (R428). -/
def factors (s : State) : State :=
  let l := s.liveArms
  let ilim := l.foldl (fun m a => F32.min' m (s.arm a).derate) F32.one
  let avail := l.foldl (fun m a => F32.min' m (F32.ratio (s.armCount a).1 (s.armCount a).2)) F32.one
  s.onMode fun m => { m with ilim := ilim, avail := avail }

/-! ## Precharge (R422, R423) -/

/-- Step P1 begins: cells waiting at J5 are precharged. -/
def precharge (target : Nat) (s : State) : State :=
  let s := ((s.modeTo 1 false).subTo 9).targetTo target
  let s := s.onCnt fun c => { c with stepAt := s.now, pre := [], relayOff := false }
  each s.j5Cells j5Start s
/-- In OFF a cell at J5 waits (R423). -/
def j5Wait (s : State) : State := each s.j5Cells (fun c s => s.onTalk c fun t => { t with preOn := false, part := 0, inBand := 0 }) s
/-- Mean VDC1 of an arm's available cells, and VNOM of the first. -/
def armMean (s : State) (a : Nat) : Word × Word :=
  let l := (s.armDecl a).members.filter s.available
  (meanW (l.map s.vdc1), (s.kind (l.headD 0)).vnom)
/-- Means taken at a latch of P1, with those of the last 100 ms. -/
def preTake (s : State) : State :=
  s.onCnt fun c =>
    let old := c.pre.filter fun p => decide (s.now ≤ p.1 + 100 * Config.ms)
    { c with pre := old ++ [(s.now, s.arms.map fun a => (s.armMean a).1)] }
/-- P1 passes (R422). -/
def preDone (s : State) : Bool :=
  match s.mode.cnt.pre with
  | p :: _ =>
    decide (p.1 + 100 * Config.ms ≤ s.now) &&
    (List.range s.arms.length).all fun i =>
      let m := s.armMean (at' s.arms i 0)
      F32.ge m.1 (F32.mul s.mp.preLevel m.2) && F32.le (F32.abs (F32.sub m.1 (at' p.2 i 0))) (F32.mul s.mp.preSettle m.2)
  | [] => false

/-! ## Changes on command (R417, R425, R427, R453) -/

/-- A MODE_SET has a row of R417 from the mode in force. -/
def hasRow (s : State) (m : Nat) : Bool :=
  let x := s.mode
  if m = 8 then x.mode != 0 && x.mode != 8
  else if m = 0 then x.mode != 7
  else if m = 2 then [0, 3, 4, 5, 6].contains x.mode
  else if m < 3 ∨ 6 < m then false
  else if x.mode = 0 ∨ x.mode = 2 then true
  else if x.mode = m then x.mode != 6 && x.sub == 3
  else if x.mode = 3 ∧ m = 4 then true
  else if x.mode = 4 ∧ m = 3 then s.gridLocked
  else x.mode == 7 && m == 6
/-- What is cleared when a MODE_SET OFF is accepted: BRK_FAULT and every ALT switch (R440, R443). -/
def offClears (s : State) : State := s.onMode fun m => { m with brkFault := false, fb := m.fb.map fun w => { w with onAlt := false } }
/-- The STATE region of benches comes from the image again when one was FAULTED or escalated (R338). -/
def offBenches (s : State) : State := if s.bnc.escalated || s.bnc.benches.any (·.faulted) then s.stateReload else s
/-- Transfer between RUN-GFL and RUN-GFM (R427). -/
def transfer (fresh : Bool) (m : Nat) (s : State) : State :=
  let from_ := s.mode.mode
  let s := ((s.modeTo m false).subTo 2).targetTo m
  if m = 4 then
    match s.voltSp 4, s.mvar s.mv.gridV with
    | some k, some v => s.spStart fresh k v
    | _, _ => s
  else
    each ((s.spsOf 3).filter fun k => !(s.spDecl k).modes.contains from_) (fun k s =>
      match (s.spDecl k).start with
      | some v => s.spStart fresh k (at' s.mode.vars v 0)
      -- the currents latched at S(n), where no variable gives them: a free value
      | none => (s.spStart fresh k s.freeWord).drawn) s
/-- A MODE_SET acts (R417); without a row from the mode then in force it does nothing. -/
def setMode (fresh : Bool) (m : Nat) (s : State) : State :=
  if !s.hasRow m then s
  else
    let x := s.mode
    let s := if m = 0 then s.offClears else s
    if m = 8 then s.enterSafe 1 0
    else if m = 0 ∧ (x.mode = 0 ∨ x.mode = 8) then (((s.offBenches.modeTo 0 false).targetTo 0).safeOff).j5Wait
    else if m = 0 ∧ (x.mode = 1 ∨ x.mode = 2) then ((s.modeTo 0 false).targetTo 0).j5Wait
    else if x.mode = 0 then s.precharge m
    else if x.mode = 2 then ((s.targetTo m).subTo 1).onCnt fun c => { c with targetAt := s.now }
    else if x.mode = 6 then
      let sub := x.sub
      each s.speedSps spLock (((s.modeTo 7 false).subTo sub).targetTo m)
    else if x.mode = 7 then (((s.modeTo 6 false).subTo x.sub).targetTo 6)
    else if m = 0 ∨ m = 2 then each s.powerSps spLock ((s.targetTo m).subTo 3)
    else if m = x.mode then ((s.targetTo m).subTo 2).spsUnlock
    else s.transfer fresh m

/-! ## Starting a run mode (R426) -/

/-- Start conditions of TARGET. -/
def startOk (s : State) : Bool :=
  let inBand := decide (s.mp.resyncN ≤ s.mode.cnt.grid)
  match s.mode.target with
  | 3 => inBand
  | 4 => inBand || (s.gridLow && s.mp.blackStart)
  | 5 => match s.mvar s.mv.dcV, s.voltSp 5 with
    | some v, some k => F32.le (F32.abs (F32.sub v (at' s.mode.sps k {}).tgt)) s.mp.dcBand
    | _, _ => false
  | 6 => true
  | _ => false
/-- The run mode starts: its limiters from START with rate 0. -/
def startRun (s : State) : State :=
  let m := s.mode.target
  let s := (s.modeTo m false).subTo (if m = 6 then 6 else 2)
  let s := each (s.spsOf m) (fun k s => s.spStart false k (s.startVal k)) s
  let s := s.onCnt fun c => { c with coast := 0, lim := 0, fs := 0, searchAt := s.now, low := 0, zero := 0 }
  match m, s.voltSp m with
  | 4, some k => s.spStart false k (if s.gridLocked then (s.mvar s.mv.gridV).getD 0 else 0)
  | 5, some k => match s.mvar s.mv.dcV with | some v => s.spStart false k v | none => s
  | _, _ => s

/-! ## Counters of consecutive latches -/

/-- One more, or none. -/
def run? (b : Bool) (n : Nat) : Nat := if b then satAdd 4294967295 n 1 else 0
/-- V_L against a limit. -/
def vlink (s : State) (p : Word → Bool) : Bool := on? (s.mvar s.mv.vL) p
/-- EMF estimate: FS_EMF at least FS_VMIN and FS_F within FS_DF of its first value (R435). -/
def fsCount (s : State) (c : ModeCnt) : ModeCnt :=
  match s.mvar s.mv.fsF with
  | none => { c with fs := 0 }
  | some f =>
    let emf := on? (s.mvar s.mv.fsEmf) fun e => F32.ge e s.dp.fsVmin
    if !emf || !(s.mode.sub == 6) then { c with fs := 0 }
    else if 0 < c.fs ∧ F32.le (F32.abs (F32.sub f c.fsF0)) s.dp.fsDf then { c with fs := c.fs + 1 }
    else { c with fs := 1, fsF0 := f }
/-- Counters at S(n) (R417, R426, R430, R434, R435, R440). -/
def counts (s : State) : State :=
  let m := s.mode
  let gv (p : Word → Bool) : Bool := on? (s.mvar s.mv.gridV) p
  let drive := m.mode == 6 || m.mode == 7
  s.onCnt fun c =>
    let c := s.fsCount c
    { c with
      grid := run? (s.gridLocked && gv fun v => F32.ge v s.mp.vBandLo && F32.le v s.mp.vBandHi) c.grid
      coast := run? (m.mode == 3 && m.sub == 2 && s.gridLow) c.coast
      ret := run? (m.mode == 3 && m.sub == 4 && gv fun v => F32.ge v s.mp.vRet) c.ret
      resync := run? (m.mode == 3 && m.sub == 5 &&
        on? (s.mvar s.mv.gridDth) (fun v => F32.le (F32.abs v) s.mp.resyncErr) &&
        on? (s.mvar s.mv.gridDf) (fun v => F32.le (F32.abs v) s.mp.resyncDf)) c.resync
      lim := run? ((m.mode == 4 || m.mode == 5) && on? (s.mvar s.mv.limited) nonzero) c.lim
      zero := run? (m.mode == 7 && on? (s.mvar s.mv.speed) (fun v => F32.le (F32.abs v) s.dp.zeroSpd)) c.zero
      low := run? (drive && m.sub == 4 && s.vlink (fun v => F32.lt v s.dp.vDecStart)) c.low
      brk := run? (match s.dp.brkOut with
        | some j => (at' s.edg.lpwm j {}).level && !s.cmp.fired.testBit s.dp.brkCmp
        | none => false) c.brk }
/-- Feedback watch of one input word at S(n) (R442). -/
def fbStep (s : State) (w : FbWatch) : FbWatch :=
  let v := s.srcOf (s.wordSrc (s.inputDecl w.bench w.word))
  let st := if v.2 then w.stale + 1 else 0
  let fr := if v.1 = w.last ∧ 0 < w.frozen then w.frozen + 1 else 1
  { w with stale := st, frozen := fr, last := v.1 }
/-- STALE_N or FREEZE_N reached. -/
def fbOver (s : State) (w : FbWatch) : Bool :=
  let d := s.inputDecl w.bench w.word
  decide (d.staleN ≤ w.stale) || (d.freezeN != 0 && decide (d.freezeN ≤ w.frozen))
/-- A group bound to a loop that reads the input is enabled. -/
def fbLive (s : State) (w : FbWatch) : Bool := (s.inputDecl w.bench w.word).groups.any s.groupEnabled
/-- The watch at S(n); an input that is heard again is no longer lost. -/
def fbLatch (s : State) : State :=
  s.onMode fun m => { m with fb := m.fb.map fun w => let w := s.fbStep w; { w with lost := w.lost && s.fbOver w } }
/-- The watches of an image's input words. -/
def fbInit (s : State) : State :=
  s.onMode fun m => { m with fb := (List.range 16).flatMap fun b =>
    (List.range (s.benchDecl b).inputs.length).map fun w => { bench := b, word := w } }

/-! ## The decision at S(n) (R412, R450) -/

/-- Commands that landed before S(n). -/
def modeCmd (c : ModeCmd) (s : State) : State :=
  match c with
  | .set m => s.setMode true m
  | .loss _ => s
  | .ovl _ _ _ => s
def takeCmds (s : State) : State :=
  let q := s.modeQ
  let s := s.onModeQ fun q => { q with cmds := [], spCmds := [] }
  let s := each q.spCmds (fun x s => s.spCmd x.1 x.2) s
  each q.cmds modeCmd s
/-- SOFF: gate power removed, source 36 latched, or SAFE_OK not OK (R450). -/
def soffCause (s : State) : Bool := s.latched 36 || !s.safeOk || (s.modeQ.gpReq && s.safe.st != 3)
/-- Ticks since an instant. -/
def since (s : State) (t ticks : Nat) : Bool := decide (t + ticks ≤ s.now)
/-- A run mode and sub-state. -/
def inSub (s : State) (m sub : Nat) : Bool := s.mode.mode == m && s.mode.sub == sub
def driveSub (s : State) (sub : Nat) : Bool := (s.mode.mode == 6 || s.mode.mode == 7) && s.mode.sub == sub
/-- P1 beyond PRE_TMAX; P2 beyond MAIN_T; COAST_MAX since COAST; LIMITED for LIM_T (R417, R430, R434). -/
def p1Late (s : State) : Bool := s.inSub 1 9 && s.since s.mode.cnt.stepAt (s.mp.preTmaxS * Config.sec)
def p2Late (s : State) : Bool := s.inSub 1 10 && s.since s.mode.cnt.stepAt (s.mp.mainTMs * Config.ms)
def coastLate (s : State) : Bool := (s.inSub 3 4 || s.inSub 3 5) && s.since s.mode.cnt.coastAt (s.mp.coastMaxMs * Config.ms)
def overloaded (s : State) : Bool := (s.mode.mode == 4 || s.mode.mode == 5) && decide (s.periodsOf (s.mp.limTMs * Config.ms) ≤ s.mode.cnt.lim)
/-- An input is found lost at this latch (R442). -/
def fbNew (s : State) (x : FbWatch) : Bool := !x.lost && s.fbOver x && s.fbLive x
/-- Losing it is critical: by its class, or with its alternate lost (R443). -/
def fbFatal (s : State) (b w : Nat) : Bool :=
  let d := s.inputDecl b w
  d.cls == 2 || (d.cls == 1 && match s.watch b d.alt with | some x => x.lost | none => false)
/-- Causes of SAFE that hold at S(n) and have a row of their own. -/
def rowCauses (s : State) : List (Nat × Nat) :=
  (((s.mode.fb.filter fun x => s.fbNew x && s.fbFatal x.bench x.word).map fun x => (10, x.bench * 512 + x.word)) ++
  (if s.coastLate then [(14, 0)] else []) ++ (if s.overloaded then [(15, 0)] else []) ++ if s.p1Late || s.p2Late then [(16, 0)] else [])
/-- The cause with the lowest code enters SAFE (R451). -/
def enterLowest (l : List (Nat × Nat)) (s : State) : State :=
  match l with
  | [] => s
  | c :: r =>
    let x := r.foldl (fun b y => if y.1 < b.1 then y else b) c
    let s := if x.1 = 10 then (s.onMode fun m => { m with fbLost := x.2 }).modeEvt 2 else s
    s.enterSafe x.1 x.2
/-- Causes found at S(n), the queued ones first. -/
def causesNow (s : State) : List (Nat × Nat) :=
  let live := s.mode.mode != 0 && s.mode.mode != 8
  let soff := s.soffCause
  s.modeQ.causes ++
  (if live && (List.range 35).any (fun w => s.latched w && s.scopeEnabled w) then [(7, 0)] else []) ++
  (if soff && (live || !s.modeQ.was.testBit 1) then [(8, 0)] else []) ++
  (if live && s.vlink (fun v => F32.ge v s.dp.vOvTrip) then [(9, 0)] else []) ++
  (if s.energised then
    (s.arms.filter fun a => (s.armDecl a).members.any (fun c => (s.talk c).left) && decide ((s.armCount a).1 < (s.armDecl a).nMin)).map fun a => (11, a)
   else []) ++
  (if s.mode.mode = 1 ∧ s.mode.sub = 9 then s.armsShort.map fun a => (11, a) else []) ++
  (s.modeQ.peer.filter fun p => !later 32 p.1 s.per).map fun p => (17, p.2)
/-- The cause with the lowest code enters SAFE; in SAFE or OFF each is recorded (R418, R451). -/
def takeCauses (s : State) : State :=
  let l := s.causesNow
  let s := s.onModeQ fun q =>
    { q with causes := [], peer := q.peer.filter fun p => later 32 p.1 s.per, was := if s.soffCause then 2 else 0 }
  let s := s.onSeam fun b => { b with talks := b.talks.map fun t => { t with left := false } }
  if s.standby then s
  else if s.mode.mode = 0 ∨ s.mode.mode = 8 then each l (fun c s => s.enterSafe c.1 c.2) s
  else
    -- one that has its own row competes with those found here (R451)
    s.enterLowest (if l.isEmpty then [] else l ++ s.rowCauses)
/-- The brake has failed and the link still rises: RUN to COAST (R435). -/
def driveCoast (s : State) : State :=
  if (s.mode.mode = 6 ∨ s.mode.mode = 7) ∧ s.mode.sub = 2 ∧ s.mode.brkFault ∧ s.vlink (fun v => F32.ge v s.dp.vBrkOn) then
    ((s.subTo 4).modeEvt 4).onCnt fun c => { c with low := 0 }
  else s
/-- Changes the plant makes by itself, without a command of their own (R417, R422, R430, R434, R435). -/
def maintain (s : State) : State :=
  match s.mode.mode with
  | 1 =>
    if s.mode.sub = 9 then
      let s := s.preTake
      if s.preDone then (s.subTo 10).onCnt fun c => { c with stepAt := s.now, pre := [] } else s
    else if s.mode.sub = 10 ∧ on? (s.mvar s.mv.mainFb) nonzero then (s.subTo 11).onCnt fun c => { c with stepAt := s.now, relayOff := false }
    else s
  | 2 => if s.mode.target = 0 then (s.modeTo 0 false).j5Wait else s
  | 6 => s.driveCoast
  | 7 => s.driveCoast
  | m =>
    if m ≠ 3 ∧ m ≠ 4 ∧ m ≠ 5 then s
    else if s.mode.sub = 3 then
      if s.powerSps.all fun k => F32.isZero (at' s.mode.sps k {}).x && F32.isZero (at' s.mode.sps k {}).r then s.modeTo 2 false else s
    else if m = 3 then
      if s.mode.sub = 5 ∧ s.gridLow then (s.subTo 4).onCnt fun c => { c with ret := 0 } else s
    else
      let l := on? (s.mvar s.mv.limited) nonzero
      if l ∧ s.mode.sub = 2 then (s.subTo 8).modeEvt 1 else if !l ∧ s.mode.sub = 8 then s.subTo 2 else s
/-- REGEN_F (R438) and the registers that show latched variables. -/
def shown (s : State) : State :=
  let v := (s.mvar s.mv.vL).getD 0
  let d := s.dp
  let regen := F32.clamp (F32.div (F32.sub d.vDecZero v) (F32.sub d.vDecZero d.vDecStart)) 0 F32.one
  s.onMode fun m =>
    { m with vl := v, resyncErr := (s.mvar s.mv.gridDth).getD 0,
             regen := if (m.mode = 6 ∨ m.mode = 7) ∧ s.mv.vL.isSome then regen else F32.one }
/-- The decision at S(n): commands, causes, the plant's own changes, limiters and factors. A STANDBY follows REFS
instead, and takes commands alone (R620, R621). -/
def modeLatch (s : State) : State :=
  let s := s.counts.fbLatch
  let s := s.takeCmds.takeCauses
  let s := if s.standby then s else s.maintain
  let s := s.shown.limiters.factors
  s.onModeQ fun q => { q with tpRun := if q.ovl.testBit 2 then some q.tpGroup else none }

/-! ## Host loss (R448, R449) -/

/-- The value at which a limiter comes to rest. -/
def restVal (d : SpDecl) (p : Sp) : Word :=
  if F32.isInf d.jerkMax then p.x else F32.add p.x (F32.div (F32.mul p.r (F32.abs p.r)) (F32.mul 0x40000000 d.jerkMax))
/-- A boundary for the policy has come. -/
def lossDue (s : State) : Bool := s.modeQ.lossSched.any fun p => !later 32 p s.per
/-- The policy takes effect. -/
def lossTake (s : State) : State :=
  let pol := s.host.loss
  let s := s.onMode fun m => { m with loss := true, lossPol := pol }
  let s := (s.onModeQ fun q => { q with lossSched := q.lossSched.filter fun p => later 32 p s.per }).jEvent 0x00F3 pol 0 []
  if pol = 2 then s.setMode false 0
  else
    each ((List.range 16).filter fun k => (s.spDecl k).declared) (fun k s =>
      let rest := restVal (s.spDecl k) (at' s.mode.sps k {})
      s.spCmd k (if pol = 1 then (at' s.host.lossSp k none).getD rest else rest)) s

end State
open State

/-! ## Events of the mode -/

/-- A change decided at S(n): the mode words of the benches follow (R412). -/
def State.decision (t : Nat) (c : State → Bool) (f : State → State) (s : State) : Host.Outcome State Fault Refusal :=
  .next (s.runIf t (fun s => s.decides && c s) fun s => (f s).modeWords)

/-- PRECHARGE_P1_TIMEOUT. -/
def execPrechargeP1Timeout (t : Nat) (s : State) : Host.Outcome State Fault Refusal :=
  s.decision t p1Late fun s => s.enterLowest s.rowCauses
/-- PRECHARGE_P2_TIMEOUT. -/
def execPrechargeP2Timeout (t : Nat) (s : State) : Host.Outcome State Fault Refusal :=
  s.decision t p2Late fun s => s.enterLowest s.rowCauses
/-- PRECHARGE_RELAY_OFF: 50 ms after P3 began. -/
def execPrechargeRelayOff (t : Nat) (s : State) : Host.Outcome State Fault Refusal :=
  .next (s.runIf t (fun s => s.timeline && s.inSub 1 11 && s.since s.mode.cnt.stepAt (50 * Config.ms)) (onCnt fun c => { c with relayOff := true }))
/-- PRECHARGE_COMPLETE: 100 ms after P3 began (R417, R423). -/
def execPrechargeComplete (t : Nat) (s : State) : Host.Outcome State Fault Refusal :=
  s.decision t (fun s => s.inSub 1 11 && s.since s.mode.cnt.stepAt (100 * Config.ms)) fun s =>
    let s := s.modeTo 2 false
    let s := if 3 ≤ s.mode.target then (s.subTo 1).onCnt fun c => { c with targetAt := s.now } else s
    each (s.j5Cells.filter fun c => (s.talk c).preOn) j5Stop s
/-- START_MAX_EXPIRY. -/
def execStartMaxExpiry (t : Nat) (s : State) : Host.Outcome State Fault Refusal :=
  s.decision t (fun s => s.inSub 2 1 && s.since s.mode.cnt.targetAt (s.mp.startMaxMs * Config.ms)) fun s => ((s.targetTo 2).subTo 0).modeEvt 7
/-- RUN_START_CONDITIONS. -/
def execRunStartConditions (t : Nat) (s : State) : Host.Outcome State Fault Refusal :=
  s.decision t (fun s => s.inSub 2 1 && s.startOk) startRun
/-- GRID_COAST_DETECT. -/
def execGridCoastDetect (t : Nat) (s : State) : Host.Outcome State Fault Refusal :=
  s.decision t (fun s => s.inSub 3 2 && decide (s.mp.coastDet ≤ s.mode.cnt.coast)) fun s =>
    ((s.subTo 4).modeEvt 4).onCnt fun c => { c with coastAt := s.now, ret := 0 }
/-- GRID_RETURN. -/
def execGridReturn (t : Nat) (s : State) : Host.Outcome State Fault Refusal :=
  s.decision t (fun s => s.inSub 3 4 && decide (s.periodsOf (s.mp.retTMs * Config.ms) ≤ s.mode.cnt.ret)) fun s =>
    (s.subTo 5).onCnt fun c => { c with resync := 0 }
/-- RESYNC_COMPLETE: current set-points restart from 0 with rate 0. -/
def execResyncComplete (t : Nat) (s : State) : Host.Outcome State Fault Refusal :=
  s.decision t (fun s => s.inSub 3 5 && decide (s.mp.resyncN ≤ s.mode.cnt.resync)) fun s =>
    let s := ((s.subTo 2).modeEvt 3).onCnt fun c => { c with coast := 0 }
    each (s.spsOf 3) (fun k s => s.spStart false k 0) s
/-- COAST_MAX_EXPIRY. -/
def execCoastMaxExpiry (t : Nat) (s : State) : Host.Outcome State Fault Refusal :=
  s.decision t coastLate fun s => s.enterLowest s.rowCauses
/-- OVERLOAD_COUNT. -/
def execOverloadCount (t : Nat) (s : State) : Host.Outcome State Fault Refusal :=
  s.decision t overloaded fun s => s.enterLowest s.rowCauses
/-- FLYING_START_FOUND. -/
def execFlyingStartFound (t : Nat) (s : State) : Host.Outcome State Fault Refusal :=
  s.decision t (fun s => s.driveSub 6 && decide (s.dp.fsN ≤ s.mode.cnt.fs)) fun s =>
    ((s.subTo 7).onMode fun m => { m with fsF := (s.mvar s.mv.fsF).getD 0 }).onCnt fun c => { c with catchAt := s.now }
/-- FS_TMAX_EXPIRY. -/
def execFsTmaxExpiry (t : Nat) (s : State) : Host.Outcome State Fault Refusal :=
  s.decision t (fun s => s.driveSub 6 && s.since s.mode.cnt.searchAt (s.dp.fsTmaxMs * Config.ms)) fun s =>
    if s.dp.assumeStop then ((s.subTo 7).onMode fun m => { m with fsF := 0 }).onCnt fun c => { c with catchAt := s.now }
    else
      let s := (((s.modeTo 2 true).targetTo 2).subTo 0).modeEvt 6
      s.event 0x02A1 (le 4 ((s.mvar s.mv.fsEmf).getD 0).toNat)
/-- CATCH_T_EXPIRY: the speed limiter starts at SPEED. -/
def execCatchTExpiry (t : Nat) (s : State) : Host.Outcome State Fault Refusal :=
  s.decision t (fun s => s.driveSub 7 && s.since s.mode.cnt.catchAt (s.dp.catchTMs * Config.ms)) fun s =>
    each s.speedSps (fun k s => s.spStart false k ((s.mvar s.mv.speed).getD 0)) (s.subTo 2)
/-- DRIVE_COAST_END. -/
def execDriveCoastEnd (t : Nat) (s : State) : Host.Outcome State Fault Refusal :=
  s.decision t (fun s => s.driveSub 4 && decide (1000 ≤ s.mode.cnt.low)) fun s =>
    (s.subTo 6).onCnt fun c => { c with searchAt := s.now, fs := 0 }
/-- ZERO_SPEED_COUNT. -/
def execZeroSpeedCount (t : Nat) (s : State) : Host.Outcome State Fault Refusal :=
  s.decision t (fun s => s.mode.mode == 7 && decide (s.dp.zeroT ≤ s.mode.cnt.zero)) (modeTo 2 false)
/-- BRK_FAULT. -/
def execBrkFault (t : Nat) (s : State) : Host.Outcome State Fault Refusal :=
  s.decision t
    (fun s => !s.mode.brkFault && s.dp.brkOut.isSome && decide (s.periodsOf (s.dp.brkCheckUs * Config.us) ≤ s.mode.cnt.brk)) fun s =>
    let s := ((s.onMode fun m => { m with brkFault := true }).modeEvt 5).event 0x02A0 (le 1 (s.dp.brkOut.getD 0))
    s.driveCoast
/-- An input is critical: SAFE with reason FB_LOST, or with a lower cause of the same S(n) (R443, R451). -/
def State.fbCritical (b w : Nat) (s : State) : State := s.enterLowest ((10, b * 512 + w) :: s.rowCauses)
/-- A lost input by its class; one that serves as an alternate takes its word with it (R443). -/
def State.fbTake (b w : Nat) (s : State) : State :=
  let d := s.inputDecl b w
  let set (f : FbWatch → FbWatch) (s : State) : State :=
    s.onMode fun m => { m with fb := m.fb.map fun x => if x.bench = b ∧ x.word = w then f x else x }
  let s := (set (fun x => { x with lost := true }) s).modeEvt 2
  let s := s.onMode fun m => { m with fbLost := b * 512 + w }
  let altLost := match s.watch b d.alt with | some x => x.lost | none => false
  let s :=
    if d.cls = 0 then s
    else if d.cls = 1 ∧ !altLost then set (fun x => { x with onAlt := true }) s
    else s.fbCritical b w
  match s.mode.fb.find? fun x => x.bench == b && x.onAlt && (s.inputDecl b x.word).alt == w with
  | some x => s.fbCritical b x.word
  | none => s
/-- FEEDBACK_LOST. -/
def execFeedbackLost (t : Nat) (b w : Nat) (s : State) : Host.Outcome State Fault Refusal :=
  s.decision t (fun s => match s.watch b w with | some x => s.fbNew x | none => false) (fbTake b w)
/-- DWELL_END: the last latch of a dwell is over. -/
def execDwellEnd (t : Nat) (k : Nat) (s : State) : Host.Outcome State Fault Refusal :=
  s.decision t (fun s => (at' s.mode.sps k {}).dwell == 1) (onSp k fun p => { p with dwell := 0 })
/-- MESH_MODE_BOUNDARY. -/
def execMeshModeBoundary (t : Nat) (s : State) : Host.Outcome State Fault Refusal :=
  .next (s.runIf t (fun s => s.timeline && s.cyc == 0 && match s.modeQ.sched with | some x => !later 32 x.period s.per | none => false) fun s =>
    match s.modeQ.sched with
    | some x => ((s.onModeQ fun q => { q with sched := none }).setMode false x.mode).modeWords
    | none => s)
/-- SAFE_NOTICE_RECEIVED: PEER with the sender's node ID, from the notice's boundary (R421). -/
def execSafeNoticeReceived (t : Nat) (node period : Nat) (s : State) : Host.Outcome State Fault Refusal :=
  .next (s.runIf t (fun s => s.inForce && node != s.node) (onModeQ fun q => { q with peer := q.peer ++ [(period % M32, node)] }))
/-- HOST_LOSS_POLICY. -/
def execHostLossPolicy (t : Nat) (s : State) : Host.Outcome State Fault Refusal :=
  .next (s.runIf t (fun s => s.timeline && s.cyc == 0 && s.lossDue) fun s => s.lossTake.modeWords)

/-! ## Commands (R454, R455, R690) -/

/-- Groups or set-points are declared for a run mode (R455). -/
def State.modeDeclared (s : State) (m : Nat) : Bool :=
  !(s.spsOf m).isEmpty ||
    (List.range 64).any fun g => match s.group g with | some d => (roleModes d.role).contains m && !(roleModes d.role).contains 2 | none => false
/-- Causes of R455 for MODE_SET, in the table's order. -/
def State.modeRefusal (s : State) (m : Nat) : Option Nat :=
  let out := s.mode.mode == 0 && m != 0
  firstBad [
    (!s.hasRow m, 1),
    (out && !(s.locked && (!s.cfg.topo.timeMesh || s.clk.meshOnce)), 2),
    (out && (s.anyTrip || !s.safeOk || !s.cmp.checks.isEmpty), 3),
    (out && (s.edg.stopped || s.bnc.benches.any (·.faulted) || s.bnc.escalated || s.bal.dieLost), 4),
    (out && !s.armsShort.isEmpty, 5),
    (decide (3 ≤ m ∧ m ≤ 6) && !s.modeDeclared m, 8),
    (s.mode.mode == 2 && m == 4 && s.gridLow && !s.mp.blackStart, 9)]
/-- MODE_SET. A record that another node's head sends with SCOPE MESH is judged only: the node acts on the MODE symbol (R420). -/
def cmdModeSet : Cmd where
  opcode := 0x0201
  lens := (· == 4)
  fields := fun h p _ => firstBad [target0 h, (decide (8 < field p 0 1), 0), (decide (1 < field p 1 1), 1), zeros p 2 2]
  block := fun _ p s => (s.modeRefusal (field p 0 1)).map Refuse.block
  act := fun h p s =>
    let m := field p 0 1
    if field p 1 1 = 0 then (s.onModeQ fun q => { q with cmds := q.cmds ++ [.set m] }, { status := 1, per := some (s.perPlus 1) })
    else if h.src = .mesh then (s, { status := 2 })
    else
      let ns := (List.range s.cfg.mesh.nodes).filter (· != s.node)
      let b := s.boundaryAfter
      if ns.isEmpty then (s.onModeQ fun q => { q with sched := some { period := b, mode := m } }, { status := 2, per := some b })
      else (each ns (fun n s => s.sendItem n (.record { h with node := n } 0x0201 p)) s, { wait := some (2, m), left := ns })
/-- SETPOINT. -/
def cmdSetpoint : Cmd where
  opcode := 0x0202
  lens := (· == 8)
  fields := fun h p _ => firstBad [target0 h, zeros p 1 3]
  block := fun _ p s =>
    let d := s.spDecl (field p 0 1); let v := fieldW p 4
    blockCause [(s.mode.loss, 6), (!d.declared || decide (15 < field p 0 1) || !F32.finite v || F32.lt v d.mn || F32.gt v d.mx, 7)]
  act := fun _ p s => (s.onModeQ fun q => { q with spCmds := q.spCmds ++ [(field p 0 1, fieldW p 4)] }, { per := some (s.perPlus 1) })
/-- MODE_LOSS_CLEAR. -/
def cmdModeLossClear : Cmd where
  opcode := 0x0203
  lens := noPayload
  fields := fun h _ _ => firstBad [target0 h]
  block := fun _ _ _ => none
  act := fun _ _ s => (s.onMode fun m => { m with loss := false }, {})
/-- Put overlays in force (R679, R685). -/
def State.ovlBegin (set g : Nat) (s : State) : State :=
  let s := s.onModeQ fun q => { q with ovl := q.ovl ||| set, tpGroup := if set.testBit 2 then g else q.tpGroup }
  if set.testBit 4 then s.synthBegin else s
/-- OVL_SET: endings first, then settings. -/
def cmdOvlSet : Cmd where
  opcode := 0x0204
  lens := (· == 4)
  fields := fun h p _ => firstBad [target0 h, zeros p 3 1]
  block := fun _ _ _ => none
  act := fun _ p s =>
    let s := s.ovlEnd (field p 1 1) false
    (s.ovlBegin (field p 0 1 &&& (31 - s.modeQ.ovl % 32)) (field p 2 1), {})
/-- MODE_SET. -/
def execModeSet (t : Nat) (h : RecHdr) (mode scope : Nat) (s : State) : Host.Outcome State Fault Refusal :=
  .next (hostRow cmdModeSet t h (le 1 mode ++ le 1 scope ++ le 2 0) s)
/-- SETPOINT. -/
def execSetpoint (t : Nat) (h : RecHdr) (sp : Nat) (v : Word) (s : State) : Host.Outcome State Fault Refusal :=
  .next (hostRow cmdSetpoint t h (le 1 sp ++ le 3 0 ++ le 4 v.toNat) s)
/-- MODE_LOSS_CLEAR. -/
def execModeLossClear (t : Nat) (h : RecHdr) (s : State) : Host.Outcome State Fault Refusal := .next (hostRow cmdModeLossClear t h [] s)
/-- OVL_SET. -/
def execOvlSet (t : Nat) (h : RecHdr) (set clear group : Nat) (s : State) : Host.Outcome State Fault Refusal :=
  .next (hostRow cmdOvlSet t h (le 1 set ++ le 1 clear ++ le 1 group ++ le 1 0) s)

end Sys2Proof.Machine
end

