-- ==== Sys2Proof/Machine/Period.lean ====
section
/-! DEFINITION. The sample latch and the output phase (R33 to R39), and a pair member's own health word (R624, R625, R644). -/
namespace Sys2Proof.Machine
namespace State

/-! ## Health word (R624, R625, R644) -/

/-- HEALTHY: bits 62 to 51 but PRBS_OK. -/
def healthyMask : Nat := 0x7F78000000000000
def healthyWord (w : Nat) : Bool := w &&& healthyMask == healthyMask
/-- Not while the housekeeping cores restart on a new bank (R688). -/
def healthy (s : State) : Bool := healthyWord s.pair.health && s.img.fwSince.isNone
/-- The word as PAIR_HEALTH shows it; a SOLO controller reads 0. -/
def healthWord (s : State) : Nat :=
  if !s.cfg.topo.pair then 0
  else
    let p := s.pair
    p.health + bit s.healthy * 2 ^ 63 + min 65535 p.cleanRun * 2 ^ 32 + p.lastFail % 256 * 2 ^ 24 + p.bist % 256 * 2 ^ 16 + p.healthPer % 65536
/-- A check's bit. -/
def healthPut (b : Nat) (v : Bool) (s : State) : State :=
  s.onPair fun p =>
    if p.health.testBit b = v then p
    else if v then { p with health := setBit p.health b } else { p with health := clrBit p.health b, lastFail := b }
/-- A change of the checks. Where HEALTHY is lost, the event is recorded (R641, R645) and a handover that waits for a STANDBY
is cancelled (R636). -/
def healthStep (f : State → State) (s : State) : State :=
  let s' := f s
  if s.healthy && !s'.healthy then
    (s'.onPair fun p =>
      if p.st ≠ 4 ∧ p.handover.isSome then { p with evt := setBit (setBit p.evt 1) 6, handover := none }
      else { p with evt := setBit p.evt 1 }).event 0x0983 (le 4 (s'.healthWord / 2 ^ 32))
  else s'
/-- PATHS_OK (R625): every path that the ACTIVE reports up is in BLOCK or UP here. -/
def pathsCheck (s : State) : State :=
  match s.pair.refs with
  | some r => s.healthPut 59 ((members r.paths 32).all fun l => [4, 5].contains (s.ln l).rx)
  | none => s
/-- Checks a member takes from its own blocks once a period: BIST, PRBS31, clock, island, the receivers of both paths of every declared seam, and link. -/
def healthLatch (s : State) : State :=
  if !s.cfg.topo.pair then s
  else
    s.healthStep fun s =>
      let s := s.onPair fun p => { p with bist := (p.bist + 1) % 256, bistRun := p.bistRun + 1, healthPer := s.per, cleanRun := min 65535 (p.cleanRun + 1) }
      let s := if 256 ≤ s.pair.bistRun then s.healthPut 56 true else s
      let s := s.healthPut 55 (decide (s.pair.prbsAt + Config.sec ≤ s.now))
      let s := (s.healthPut 53 s.locked).healthPut 52 s.safeOk
      s.pathsCheck.healthPut 51 (s.portUp 0)

/-! ## The latch -/

/-- The latched set of a bench: words and stale flags. -/
def inputSet (s : State) : InputSet :=
  { period := s.per
    words := (List.range 16).map fun b => Sparse.gets 0 (s.bench b).mem (0x7000 / 4) (s.benchDecl b).inputs.length
    stale := (List.range 16).map fun b => (List.range (s.benchDecl b).inputs.length).map fun w => s.bnc.inStale.contains (b, w)
    vars := s.mode.vars }
/-- A new period begins: the fault history of the benches, the words of other nodes, the safety island's tick (R338, R552). -/
def periodTick (s : State) : State :=
  let s := s.onBnc fun b => { b with hist := (b.bad :: b.hist).take 15, bad := false, meshNew := [] }
  s.onSafe fun x => { x with tickAt := s.now }
/-- Every measuring block latches, the MODE block decides, the benches' input sets follow (R37, R412). -/
def latch (s : State) : State :=
  let s := (s.cellsLatch.modelCells.latchAdc).cmpWords.varsLatch
  let s := (s.modeLatch.balLatch).inputsLatch
  let s := s.benchesClose.periodTick.healthLatch
  if s.role = 1 ∧ s.pair.heartbeat then s.pairSend (.input s.inputSet) else s

/-! ## The output phase -/

/-- Benches release, commits set out, complete rankings follow (R39, R334, R377, R603). A STANDBY releases nothing to any destination, and
keeps what it would have released for its own benches (R620). -/
def outPhase (s : State) : State :=
  let s := each (List.range 16) benchRelease s
  let s := if s.standby then s
    else
      let frames := if s.modeQ.ovl.testBit 4 && s.cfg.mesh.shape = 0 then [] else s.wordFrames
      (each frames (fun x s => s.meshSend x.1 3 0 x.2) (each s.benchCommits commit s)).balRelease
  s.traceRow
end State
open State

/-- SAMPLE_LATCH: the first EDGE cycle of a period. -/
def execSampleLatch (t : Nat) (s : State) : Host.Outcome State Fault Refusal :=
  .next (s.runIf t (fun s => s.atPoint 0 0) fun s => (s.reach 0).latch)
/-- OUTPUT_PHASE: in cycle K_O. -/
def execOutputPhase (t : Nat) (s : State) : Host.Outcome State Fault Refusal :=
  .next (s.runIf t (fun s => s.lagged.atPoint 3 s.kO) (underLag fun s => (s.reach 3).outPhase))

end Sys2Proof.Machine
end

