-- ==== Sys2Proof/Machine/Image.lean ====
section
/-! DEFINITION. The structure image: its checks, coming into force, HOST-WAIT, slots, the load buffer, hot swap and firmware banks (R52 to R101, R687 to R692). -/
namespace Sys2Proof.Machine

/-! ## The checks of R70 on bytes -/
namespace Image

/-- A failing check: state and reason codes (R94, R95), and what IMG_DIAG shows (R99). -/
structure Bad where
  st : Nat
  reason : Nat
  sect : Nat := 0
  ofs : Nat := 0
  deriving DecidableEq, Repr
/-- State CORRUPT. -/
def corrupt (reason ofs : Nat) (sect : Nat := 0) : Option Bad := some { st := 2, reason := reason, sect := sect, ofs := ofs % 2 ^ 21 }
/-- The first check that fails. -/
def firstBad (l : List (Bool × Bad)) : Option Bad := (l.find? (·.1)).map (·.2)
def bad (c : Bool) (st reason ofs : Nat) : Bool × Bad := (c, { st := st, reason := reason, ofs := ofs })

/-- A commit record (R53): the image length where it is good. -/
def commitLen (r : Bytes) : Option Nat :=
  if slice r 0 4 = [0x53, 0x4C, 0x4F, 0x54] ∧ fieldW r 12 = crc32c (slice r 0 12) then some (field r 4 4) else none
/-- A commit record. -/
def commitRec (len count : Nat) : Bytes :=
  let b : Bytes := [0x53, 0x4C, 0x4F, 0x54] ++ le 4 len ++ le 4 count
  b ++ le 4 (crc32c b).toNat

/-- Header fields (R61). -/
def magicOk (b : Bytes) : Bool := slice b 0 4 == [0x53, 0x4B, 0x4C, 0x49]
def hdrCrcOk (b : Bytes) : Bool := fieldW b 0x3C == crc32c (slice b 0 0x3C)
def lengthOf (b : Bytes) : Nat := field b 0x10 4
def idOf (b : Bytes) : Nat := field b 0x0C 4
def signed (b : Bytes) : Bool := (field b 9 1).testBit 0
/-- Bytes of the trailer (R63). -/
def trailer (b : Bytes) : Nat := if signed b then 160 else 32
/-- Offset of the trailer. -/
def body (b : Bytes) : Nat := lengthOf b - trailer b
/-- The first byte that is not zero from offset i up to before j. -/
def nonzero (b : Bytes) (i j : Nat) : Option Nat := ((slice b i (j - i)).findIdx? (· != 0)).map (i + ·)

/-- Step 2: the header. len: the commit record's length, for a slot. -/
def step2 (rev : Nat) (len : Option Nat) (b : Bytes) : Option Bad :=
  firstBad
    [bad (!magicOk b) 2 0x10 0, bad (!hdrCrcOk b) 2 0x11 0x3C,
     bad (field b 4 2 != 0x0200) 2 0x12 4, bad (field b 0x0A 2 != 10) 2 0x12 0x0A, bad (idOf b == 0) 2 0x12 0x0C,
     bad (decide (1 < field b 9 1)) 2 0x12 9, bad (nonzero b 0x1C 0x3C).isSome 2 0x12 ((nonzero b 0x1C 0x3C).getD 0),
     bad (field b 6 2 != 0x4128) 2 0x13 6, bad (decide (rev < field b 8 1)) 2 0x14 8,
     bad (let n := lengthOf b
          decide (n % 4 ≠ 0 ∨ 1572864 < n ∨ n < 0x200 + trailer b) || (match len with | some k => k != n | none => false)) 2 0x15 0x10]

/-- An entry of the section table (R62), with its place. -/
structure Entry where
  typ : Nat
  flags : Nat
  off : Nat
  slen : Nat
  crc : Word
  at_ : Nat
  deriving DecidableEq, Repr
def entry (b : Bytes) (i : Nat) : Entry :=
  let e := 0x40 + 32 * i
  { typ := field b e 2, flags := field b (e + 2) 1, off := field b (e + 4) 4, slen := field b (e + 8) 4, crc := fieldW b (e + 12), at_ := e }
def entries (b : Bytes) : List Entry := (List.range 10).map (entry b)
/-- Entries in ascending OFFSET. -/
def insE (e : Entry) : List Entry → List Entry
  | [] => [e]
  | x :: r => if e.off < x.off then e :: x :: r else x :: insE e r
def byOfs (b : Bytes) : List Entry := (entries b).reverse.foldr insE []
def find (b : Bytes) (t : Nat) : Option Entry := (entries b).find? (·.typ == t)
/-- The bytes of a section. -/
def sectBytes (b : Bytes) (t : Nat) : Bytes := match find b t with | some e => slice b e.off e.slen | none => []
/-- Max SLEN of R66. -/
def maxSlen (t : Nat) : Nat := at' [0, 65536, 65536, 1048576, 65536, 131072, 524288, 524288, 16384, 65536, 16384] t 0
/-- Types that may be HOT (R66). -/
def mayHot (t : Nat) : Bool := [6, 7, 9, 10].contains t

/-- A type missing, repeated or outside 1 to 10. -/
def setBad (b : Bytes) : Option Bad :=
  let l := entries b
  match (List.range 10).find? fun i =>
    let t := (at' (l.map (·.typ)) i 0)
    t == 0 || decide (10 < t) || ((l.take i).map (·.typ)).contains t with
  | some i => corrupt 0x18 (0x40 + 32 * i)
  | none => none
/-- R59: the sections from offset pos on, each whole, apart from the others, with zeros between them (first: none lies
before). An SLEN that is 0 or no multiple of 4 breaks R62; no row of R70 names it, and SECT_BOUNDS is this model's choice
(log entry 175). -/
def boundsBad (b : Bytes) (first : Bool) (pos : Nat) : List Entry → Option Bad
  | [] => none
  | e :: r =>
    if e.off % 64 ≠ 0 ∨ e.off < pos ∨ e.slen = 0 ∨ e.slen % 4 ≠ 0 ∨ maxSlen e.typ < e.slen ∨ body b < e.off + e.slen ∨ e.typ = 8 ∧ e.slen < 32 then
      corrupt 0x17 e.off e.typ
    else
      match (if first then none else nonzero b pos e.off) with
      | some k => corrupt 0x17 k e.typ
      | none => boundsBad b false (e.off + e.slen) r
/-- R59 and R67 over the whole table. For R67, which names no section, IMG_DIAG gives GAINTABLES and its offset: this
model's choice (log entry 176). -/
def sectBounds (b : Bytes) : Option Bad :=
  let l := byOfs b
  let last := match l.getLast? with | some e => e | none => entry b 0
  match nonzero b 0x184 0x200 with
  | some k => corrupt 0x17 k (match l.head? with | some e => e.typ | none => 0)
  | none =>
    match boundsBad b true 0x200 l with
    | some x => some x
    | none =>
      match nonzero b (last.off + last.slen) (body b) with
      | some k => corrupt 0x17 k last.typ
      | none =>
        match find b 6, find b 7 with
        | some x, some y => if 524288 < x.slen + y.slen then corrupt 0x17 y.off 7 else none
        | _, _ => none
/-- SFLAGS and the reserved bytes of an entry. -/
def flagBad (b : Bytes) (e : Entry) : Option Bad :=
  if 3 < e.flags ∨ e.flags.testBit 0 ∧ !mayHot e.typ ∨ e.flags.testBit 1 ≠ (e.typ == 8) then corrupt 0x19 (e.at_ + 2) e.typ
  else if field b (e.at_ + 3) 1 ≠ 0 then corrupt 0x19 (e.at_ + 3) e.typ
  else match nonzero b (e.at_ + 0x14) (e.at_ + 0x20) with
    | some k => corrupt 0x19 k e.typ
    | none => none
/-- Step 3: the section table. -/
def step3 (b : Bytes) : Option Bad :=
  if fieldW b 0x180 ≠ crc32c (slice b 0x40 0x140) then corrupt 0x16 0x180
  else match setBad b with
    | some x => some x
    | none => match sectBounds b with
      | some x => some x
      | none => (byOfs b).findSome? (flagBad b)
/-- Step 4: section CRCs in ascending OFFSET. -/
def step4 (b : Bytes) : Option Bad :=
  match (byOfs b).find? fun e => crc32c (slice b e.off e.slen) != e.crc with
  | some e => corrupt 0x1B e.off e.typ
  | none => none
/-- Step 5: DIGEST. -/
def digest (b : Bytes) : Bytes := slice b (body b) 32
def step5 (b : Bytes) : Option Bad := if sha256 (slice b 0 (body b)) = digest b then none else corrupt 0x1A (body b)
/-- Step 6: the signature, when a key hash is fused (R65, R71, R716). R99 gives these failures no byte: OFFSET is 0
(log entry 134). -/
def step6 (y : Sys) (b : Bytes) : Option Bad :=
  let k := slice b (body b + 32) 64
  let num (i : Nat) : Nat := ofBe (slice b (body b + 32 + 32 * i) 32)
  let r (c : Nat) : Option Bad := some { st := 3, reason := c }
  if !y.keySet then none
  else if y.keyBad then r 0x21
  else if !signed b then r 0x20
  else if sha256 k ≠ y.keyHash then r 0x21
  else if P256.verify (num 0) (num 1) (num 2) (num 3) (sha256 (slice b 0 (body b))) then none
  else r 0x22
/-- The seal of a SAFETY section (R68). -/
def sealOk (hash : Option Bytes) (sec : Bytes) : Bool :=
  match hash with
  | none => false
  | some k => hmac k (slice sec 0 (sec.length - 32)) == sec.drop (sec.length - 32)
/-- Step 7: the seal. -/
def step7 (hash : Option Bytes) (b : Bytes) : Option Bad :=
  match find b 8 with
  | none => corrupt 0x1C 0
  | some e => if hash.isNone then corrupt 0x1D 0 else if sealOk hash (sectBytes b 8) then none else corrupt 0x1C (e.off + e.slen - 32)

/-- The SAFETY section of R555. -/
def safetyOf (c : Bytes) : SafetyDesc :=
  { holdPeriods := field c 0 2, liveMs := field c 2 1, testEn := (field c 3 1).testBit 0
    pairs := (List.range 4).map fun i =>
      let o := 4 + 8 * i
      { kind := field c o 1, anti := field c (o + 1) 1 == 1, filtMs := field c (o + 2) 1, discMs := field c (o + 4) 2 }
    wires := (List.range 35).map fun i =>
      let o := 0x28 + 16 * i; let f := field c (o + 6) 1
      { lpwm := field c o 4, seam := field c (o + 4) 2, bus := f.testBit 0, mesh := f.testBit 1, safety := f.testBit 2,
        actLow := f.testBit 3, filt := field c (o + 8) 2 }
    cmps := (List.range 24).map fun i =>
      let o := 0x258 + 16 * i
      { sense := field c o 1, hyst := field c (o + 1) 1, thrLo := field c (o + 2) 2, thrHi := field c (o + 4) 2 } }

/-- Type of the section that holds a byte of an image, 0 where none does (R99). -/
def sectAt (b : Bytes) (o : Nat) : Nat :=
  match (entries b).find? fun e => decide (e.off ≤ o ∧ o < e.off + e.slen) with | some e => e.typ | none => 0

/-- A byte string as stored cells; d: what an unlisted place reads as. -/
def cells (d : Byte) (b : Bytes) : List Host.Cell := (((List.range b.length).zip b).filter fun x => x.2 != d)

end Image

namespace State

/-! ## Where images are kept (R53, R55) -/

/-- Bytes of a slot, and of the load buffer. -/
def slotBytes (s : State) (slot o n : Nat) : Bytes := cellBytes (if slot = 0 then s.img.flashA else s.img.flashB) 0xFF o n
def bufBytes (s : State) (o n : Nat) : Bytes := cellBytes s.img.buf 0 o n
/-- The bytes of the image in force. -/
def workBytes (s : State) : Bytes := cellBytes s.img.work 0 0 s.img.workLen
def putSlot (slot : Nat) (c : List Host.Cell) (s : State) : State :=
  s.onImg fun i => if slot = 0 then { i with flashA := c } else { i with flashB := c }
/-- Silicon revision, SYS_ID.REV (R706). -/
def sysRev : Nat := 0xB1
/-- Steps 1 to 7 on a source: the bytes of the image, or the failure. len: LENGTH of the command for the load buffer. -/
def imageCheck (source len : Nat) (s : State) : Bytes × Option Image.Bad :=
  if source = 2 then
    let h := s.bufBytes 0 64
    let n := Image.lengthOf h
    if len < 64 ∨ Image.magicOk h ∧ Image.hdrCrcOk h ∧ len < n then ([], some { st := 1, reason := 3 })
    else finishCheck none (s.bufBytes 0 (if n ≤ 1572864 then max n 64 else 64))
  else
    match Image.commitLen (s.slotBytes source 0x1FF000 16) with
    | none =>
      ([], some (if s.slotBytes source 0 4 = [0xFF, 0xFF, 0xFF, 0xFF] then { st := 0, reason := 1 } else { st := 1, reason := 2 }))
    | some k =>
      let n := Image.lengthOf (s.slotBytes source 0 64)
      finishCheck (some k) (s.slotBytes source 0 (if n ≤ 1572864 then max n 64 else 64))
where
  finishCheck (k : Option Nat) (b : Bytes) : Bytes × Option Image.Bad :=
    (b, [Image.step2 sysRev k, Image.step3, Image.step4, Image.step5, Image.step6 s.sys, Image.step7 s.evs.hash].findSome? (· b))

/-! ## IMG_STS (R95, R96) -/

/-- Change IMG; IRQ is set when RUN, CAND, SLOT_A, SLOT_B or HOST_WAIT changes. -/
def imgSts (f : Img → Img) (s : State) : State :=
  let a := s.img; let b := f a
  let moved := a.run != b.run || a.cand != b.cand || a.slotA != b.slotA || a.slotB != b.slotB || a.hostWait != b.hostWait
  s.onImg fun _ => { b with irq := b.irq || moved }
def imgIrq (s : State) : State := s.onImg fun i => { i with irq := true }
/-- State of a slot; nothing for the load buffer. -/
def slotSt (slot st : Nat) (s : State) : State :=
  s.imgSts fun i => if slot = 0 then { i with slotA := st } else if slot = 1 then { i with slotB := st } else i
/-- REASON of the check that set a state, and IMG_DIAG for a failure (R96, R99). -/
def imgReason (b : Option Image.Bad) (s : State) : State :=
  s.onImg fun i => match b with
    | none => { i with reason := 0 }
    | some b => { i with reason := b.reason, diagSect := b.sect, diagOfs := b.ofs }

/-! ## Hot swap's end (R88, R91) -/

/-- A candidate is arming, armed or scheduled. -/
def staged (s : State) : Bool := s.img.swapSt == 1 || s.img.swapSt == 2 || s.img.swapSt == 3
/-- The slot of an arming that stops shows what it showed before. -/
def armStops (s : State) : State :=
  match s.img.swap with
  | some c => if s.img.swapSt = 1 then s.slotSt c.source c.was else s
  | none => s
/-- A swap ends without a change: STATE, REASON. -/
def swapEnds (st reason : Nat) (s : State) : State :=
  s.armStops.onImg fun i => { i with swapSt := st, swapReason := reason, swapLate := false, swapSects := 0, swapPer := 0, swap := none, irq := i.irq || st == 5 }
/-- Cancel a staged candidate (R91). -/
def swapCancel (reason : Nat) (s : State) : State := if s.staged then s.swapEnds 5 reason else s

/-! ## An image leaves (R76, R82, R655) -/

/-- A validation that will not end (R82, R91, R655, R659): its slot shows what it showed before, and IMG_LOAD's candidate is
UNCHECKED (log entry 177). -/
def valAbandon (s : State) : State :=
  match s.img.val with
  | none => s
  | some v =>
    let s := s.onImg fun i => { i with val := none }
    let s := if v.kind = 1 then s.imgSts fun i => { i with cand := 7 } else s
    if v.kind = 2 || v.moved then s else s.slotSt v.source v.was
/-- Scheduled mesh operations are discarded at this node (R602). -/
def gopDiscard (s : State) : State :=
  let m := s.mesh
  let any := m.snap.isSome || m.reset.isSome || m.bar.isSome || s.modeQ.sched.isSome || !s.modeQ.lossSched.isEmpty ||
    s.clk.loadAt.isSome || (match s.clk.load with | some l => l.remote | none => false)
  if !any then s
  else
    let s := s.onMesh fun m => { m with snap := none, reset := none, resetBlk := none, bar := none, evt := setBit m.evt 5 }
    let s := s.onModeQ fun q => { q with sched := none, lossSched := [] }
    let s := s.onClk fun c => { c with loadAt := none, load := match c.load with | some l => if l.remote then none else some l | none => none }
    each (s.host.opens.filter fun o => o.kind == 3) (fun o s => s.openUnknown o 0x0F o.h.node) s
/-- The pair member waits (R627): it neither mirrors nor has authority. -/
def pairWaiting (s : State) : State :=
  let s := each (s.host.opens.filter (·.kind == 4)) (fun o s => s.openUnknown o 0x0F s.node) s
  let s := s.heldOut
  s.onPair fun p =>
    { p with
      st := if s.cfg.topo.pair then 1 else 0, member := s.pwr.memberSel, mirrorOff := false, mirror := false, holding := false
      heartbeat := true, handover := none, fbFrom := none, since := s.now, refs := none, refsAt := none, input := none
      edgeSeen := [], edgeAt := none, missRun := 0, healthMiss := 0, sent := 0, acked := 0, ackedJnl := 0, got := 0, gotJnl := 0
      flight := [], cmds := [], repEpoch := none, taking := false, takeSafe := false, syncOut := false, resigned := none, hand := false, peerHealthy := false, peerAt := none, peerArmed := none, peerMarks := [], health := 0, cleanRun := 0, bist := 0, bistRun := 0, healthPer := 0
      setCrcs := [] }
/-- The operating mode is OFF with nothing of its past: an image reload (R419, R666). -/
def modeGone (s : State) : State :=
  let s := (s.modeTo 0 true).onMode fun m =>
    { m with target := 0, sub := 0, loss := false, reason := 0, cls := 0, inOff := false, index := 0, sps := List.replicate 16 {},
             cnt := {}, fb := [], brkFault := false, fbLost := 0 }
  s.onModeQ fun q => { q with cmds := [], spCmds := [], causes := [], peer := [], gpReq := false, was := 0, tpRun := none }
/-- Benches, edges and references stop. -/
def controlGone (s : State) : State :=
  let s := s.onBnc fun b => { b with benches := b.benches.map fun x => { ecc := x.ecc }, loops := List.replicate 32 {}, cmds := [], gsNext := [],
                                     gsRun := false, hist := [], bad := false, meshIn := [], meshNew := [], inStale := [] }
  let s := (s.onEdg fun e => { e with stopped := false, grps := List.replicate 64 {}, flights := [], lpwm := List.replicate 32 {},
                                      chans := List.replicate 128 (List.replicate 16 {}), prevCh := [], prevL := [] }).onComp fun _ => {}
  let s := s.onSys fun y => { y with gpioHiz := true }
  s.onBal fun b => { b with arms := List.replicate 16 {}, cells := List.replicate 128 {}, prevCells := [], varsPrev := [] }
/-- The host-loss policy and the session timing of a HOSTPOLICY section (R129). -/
def hostTiming (h : HostPolicy) (s : State) : State :=
  s.onHost fun b => { b with loss := h.loss, parkKeep := h.parkKeep, leaseMs := h.leaseMs, lossSp := h.lossSp }
/-- The image in force and its working copy are discarded; the default policy applies (R129). Of the overlays that name an
image, HOST-WAIT allows LOOPBACK only (R674, R681). -/
def imageDrop (s : State) : State :=
  let s := s.hostTiming {}
  let s := (((s.ovlEnd 0x16 true).swapCancel 0x49).gopDiscard).valAbandon
  let s := (s.cellsAbsent.cmpDown).relock 7 0
  let s := s.modeGone.controlGone
  -- what waits for a landing has nothing to land in
  let s := each (s.host.opens.filter (·.kind == 0)) (fun o s => s.openUnknown o 0x0F s.node) s
  let s := s.onCmp fun c => { c with latch := List.replicate 37 false, driving := false, releases := [] }
  let s := s.onSeam fun b => { b with seams := b.seams.map fun q => { q with trip := false } }
  let s := s.imgSts fun i => { i with desc := none, work := [], workLen := 0, safety := {}, held := none, src := 0, id := 0,
                                      fellBack := false, sigChecked := false }
  (s.pairWaiting.onSafe fun x => soffOff { x with st := 0 }).onPair fun p => { p with st := 0 }
/-- Domains that an image uses (R660). -/
def usedDoms (d : ImgDesc) : Nat :=
  0xF13F ||| 0x40 ||| (if (d.benches.drop 8).any (·.used) then 0x80 else 0) |||
  (if d.topo.seams % 256 = 0 then 0 else 0x200) ||| (if d.topo.seams / 256 = 0 then 0 else 0x400) |||
  (if d.mesh.shape = 0 ∧ !d.topo.pair then 0 else 0x800)
/-- HOST-WAIT (R75, R76): st the state of the image validated last. Comparators, ADCs and sieves go off; lanes, peer
ports and the stopped benches stay on. -/
def hostWait (st : Nat) (s : State) : State :=
  let s := s.imgSts fun i => { i with run := st }
  let s := if s.inForce then s.imageDrop else s
  let s := if s.img.hostWait then s else ((s.imgSts fun i => { i with hostWait := true }).imgIrq)
  let s := (s.adcDown.cmpDown).onSafe fun x => soffOff { x with st := 0 }
  let s := s.onPwr fun p => { p with dom := (p.dom ||| 0x0EC0) &&& 0xCFFF, st := 0 }
  (s.lanesWait (st == 4)).outsSync

/-! ## An image comes into force (R78, R81 to R85, R19) -/

/-- HOSTPOLICY's settings (R81, R129). -/
def policy (h : HostPolicy) (s : State) : State :=
  (s.onEvs fun e => { e with fallback := h.fallback }).hostTiming h
/-- The journal's and the change log's record of an image in force (R83, R84, R139, R562). -/
def imageRecord (b : Bytes) (source prev : Nat) (fell : Bool) (s : State) : State :=
  let s := s.jEvent 0x00F0 (Image.idOf b) (source + 256 * bit fell) ((Image.digest b).take 16)
  let d := (sha256 (Image.sectBytes b 8)).take 16
  if (s.evs.log.find? (·.kind == 1)).map (·.digest) = some d then s
  else (s.logAdd 1 7 0 (Image.idOf b) prev 0 d).startupClear
/-- Reference blocks at their initial values (R304, R305). -/
def groupsInit (s : State) : State :=
  let block (d : Option GroupDecl) : Grp := match d with
    | some d => { staging := d.init, committed := d.init, frozen := d.init, used := d.init }
    | none => {}
  s.onEdg fun e => { e with grps := (List.range 64).map fun g => block (s.group g) }
/-- ADCs that stayed powered keep their calibration and idle (R666); others calibrate (R478). -/
def adcImage (wasOn : Bool) (s : State) : State :=
  if wasOn then
    s.onAdc fun b =>
      { flt := b.flt, fltSieve := b.fltSieve, fltAdc := b.fltAdc, ovr := b.ovr
        adcs := b.adcs.map fun x => { st := if x.st = 4 then 4 else 1, cal := x.cal, calCnt := x.calCnt, ofs := x.ofs, gain := x.gain,
                                      powerCal := x.powerCal, calBad := x.calBad, calAt := x.calAt } }
  else s.adcDown.adcUp
/-- An image replaces what was in force: source 0 slot A, 1 slot B, 2 load buffer. -/
def bringInForce (d : ImgDesc) (b : Bytes) (source : Nat) (fell : Bool) (s : State) : State :=
  let prev := s.img.id
  let adcWas := s.pwr.dom.testBit 12
  let sec := Image.sectBytes b 8
  let s := s.imageDrop
  let s := s.imgSts fun i =>
    { i with
      desc := some d, work := Image.cells 0 b, workLen := b.length, safety := Image.safetyOf sec, hostWait := false, run := 5
      src := source + 1, id := Image.idOf b, fellBack := fell, irq := i.irq || fell, sigChecked := s.sys.keySet }
  let s := (s.policy d.host).imageRecord b source prev fell
  let s := s.onPwr fun p => { p with dom := 0xF1FF ||| usedDoms d, st := 0 }
  let s := ((s.lanesSet d).clkCal d.cal).clkImage
  let s := (s.adcImage adcWas).cmpUp
  let s := s.benchesLoad.groupsInit.fbInit
  let s := s.onMesh fun m => { m with ports := m.ports.mapIdx fun p x => { x with used := d.topo.ports.testBit p || d.topo.pair && p == 0 } }
  let s := s.pairWaiting
  let s := if d.topo.pair then s else s.takeBegin
  let s := each s.thermCells thermRestart s
  (s.islandImage (Image.safetyOf sec) (Image.sealOk s.evs.hash sec)).outsSync

/-! ## Steps 8 and 9 -/

/-- A host is present at this node (R587). -/
def hostPresent (s : State) : Bool := s.host.linkUp || s.host.ctxs.any (·.st != 0)
/-- More than the device holds (R70); a spread arm in a period below 20 us, or against its member limits (R379). -/
def overCapacity (d : ImgDesc) : Bool :=
  d.arms.any (fun a => a.spread && (decide (d.topo.kF < 16000) || decide (8 < a.nodes.length) || decide (128 < a.members.length) ||
    decide (1024 < a.total))) ||
  decide (128 < d.cells.length) || d.cells.any (fun c => decide (127 < c.idx) || decide (16 < c.chans.length)) ||
  d.kinds.any (fun k => decide (16 < k.chans.length)) || decide (16 < d.benches.length) || decide (32 < d.loops.length) ||
  d.loops.any fun l => decide (31 < l.num) || decide (15 < l.bench)
/-- Seams of one quad at different rates, or a peer quad of a mesh not at 12.5 Gb/s (R23, R574). -/
def rateClash (d : ImgDesc) : Bool :=
  let rate (q : Nat) : Nat := at' d.topo.quadRate q 0
  (List.range 16).any (fun q => d.topo.seams.testBit q && (match at' d.topo.seamRate q none with | some r => r != rate (q / 2) | none => false)) ||
  (d.mesh.shape != 0 && (List.range 4).any fun p => d.topo.ports.testBit p && rate (8 + p / 2) != 3)
/-- The last DISC frame from a node; the partner's is that of the node's own ID (R587). -/
def discOf (s : State) (n : Nat) : Option DiscData := (s.conv n).disc
/-- Step 8: static fit. -/
def fit (d : ImgDesc) (s : State) : Option Image.Bad :=
  let n := d.mesh.node
  let held := match s.discOf n with
    | some x => !(d.topo.pair && x.pairMember / 2 != 0 && (x.pairMember % 2 == 1) != s.pwr.memberSel)
    | none => false
  let headless := n == 0 && d.mesh.shape != 0 && !s.hostPresent
  let differs := (List.range 64).any fun k => (d.mesh.shape != 0 || k == n) && match s.discOf k with
    | some x => x.run == 5 && (x.kF != d.topo.kF || x.outPhase != d.topo.outPhase)
    | none => false
  Image.firstBad
    [Image.bad (overCapacity d) 4 0x30 0, Image.bad (rateClash d) 4 0x31 0, Image.bad (held || headless) 4 0x35 0,
     Image.bad ((d.mesh.shape != 0 || d.topo.pair) && differs) 4 0x32 0]
/-- Nodes an image declares besides its own, not reached; REQUIRED cells not answered (R73). -/
def nodesMissing (d : ImgDesc) (s : State) : List Nat :=
  if d.mesh.shape = 0 then [] else (List.range d.mesh.nodes).filter fun n => n != d.mesh.node && !s.convUp n
def cellsMissing (d : ImgDesc) (v : Val) : List Nat := ((d.cells.filter (·.required)).map (·.idx)).filter fun c => !v.answered.contains c
/-- Everything step 9 waits for has come. -/
def presentAll (d : ImgDesc) (v : Val) (s : State) : Bool := (s.nodesMissing d).isEmpty && (cellsMissing d v).isEmpty
/-- Step 9: presence fit. id: IMAGE_ID. -/
def presence (d : ImgDesc) (v : Val) (id : Nat) (s : State) : Option Image.Bad :=
  let partner := match s.discOf d.mesh.node with | some x => x.run == 5 && x.imageId != id | none => false
  Image.firstBad
    [Image.bad (!(s.nodesMissing d).isEmpty) 4 0x33 ((s.nodesMissing d).headD 0),
     Image.bad (!(cellsMissing d v).isEmpty) 4 0x34 ((cellsMissing d v).headD 0),
     Image.bad (d.topo.pair && partner) 4 0x36 0]

/-! ## A validation's course (R70, R73, R79, R80, R85, R77) -/

/-- The bytes a validation works on: from step 9 on those that passed the steps before, the held image's for a recheck. -/
def valBytes (v : Val) (s : State) : Bytes × Option Image.Bad :=
  if v.desc.isSome then (cellBytes v.bytes 0 0 v.blen, none)
  else if v.kind = 2 then match s.img.held with | some h => (cellBytes h.2.2.1 0 0 h.2.2.2, none) | none => ([], none)
  else s.imageCheck v.source v.len
/-- Start validating a slot at boot, or the other slot under fallback (R79, R80, R95). -/
def bootStart (slot : Nat) (fell : Bool) (s : State) : State :=
  (s.imgSts fun i => { i with run := 6, val := some { kind := 0, source := slot, fell := fell, was := if slot = 0 then i.slotA else i.slotB } }).slotSt slot 6
/-- Lanes go back to what they were before a step 9 that did not succeed. -/
def lanesBack (s : State) : State := match s.img.desc with | some d => s.lanesSet d | none => s
/-- The image reload under way has ended: EV_RESET (R656). -/
def reloadEnd (s : State) : State := (s.onPwr fun p => { p with reload := false, busy := false }).jEvent 0x00F4 5 0 []
/-- A validation ends: none for VALID. -/
def valEnds (v : Val) (d : ImgDesc) (b : Bytes) (r : Option Image.Bad) (s : State) : State :=
  let st := match r with | none => 5 | some x => x.st
  let s := (s.imgReason r).onImg fun i => { i with val := none }
  -- a slot changed since it was read shows its own state
  let s := if v.source = 2 || v.moved then s else s.slotSt v.source st
  let waits (s : State) : State := ((if st = 4 then s.lanesSet d else s).hostWait st).onImg fun i =>
    { i with held := if st = 4 then some (d, v.source, Image.cells 0 b, b.length) else none, heldMoved := v.moved }
  let s := if v.kind = 1 then s.imgSts fun i => { i with cand := st } else s
  let s := if v.kind = 0 then s else s.imgIrq
  if st = 5 then
    let reloading := s.pwr.reload
    let s := s.bringInForce d b v.source v.fell
    if reloading then s.reloadEnd else s
  else if v.kind = 0 then
    if !v.fell && s.evs.fallback then s.bootStart (1 - v.source) true
    else if s.pwr.reload then (waits s).reloadEnd else waits s
  else if s.img.hostWait then waits s
  else s.lanesBack
/-- IMG_LOAD was taken in OFF, and goes on only there: while the mode is another one its next step waits (R35, log entry 178). -/
def valWaits (v : Val) (s : State) : Bool := v.kind == 1 && s.mode.mode != 0 && !s.img.hostWait
/-- One step of a validation: the checks 1 to 8, then, step 9 ended, the result. -/
def valStep (desc : ImgDesc) (s : State) : State :=
  match s.img.val with
  | none => s
  | some v =>
    if s.valWaits v then s else
    let (b, r) := s.valBytes v
    match v.desc with
    | some d => if v.ended9 || s.presentAll d v then s.valEnds v d b (s.presence d v (Image.idOf b)) else s
    | none =>
      let d := if v.kind = 2 then (match s.img.held with | some h => h.1 | none => desc) else desc
      match (match r with | some x => some x | none => s.fit d) with
      | some x => s.valEnds v d b (some x)
      | none =>
        let v := { v with desc := some d, at9 := s.now, bytes := Image.cells 0 b, blen := b.length }
        let s := (s.onImg fun i => { i with val := some v }).onPwr fun p => { p with dom := p.dom ||| (usedDoms d &&& 0x0E00) }
        let s := s.lanesSet d
        if s.presentAll d v then s.valEnds v d b (s.presence d v (Image.idOf b)) else s
end State
open State

/-- IMAGE_VALIDATION_DONE: what the sections describe comes with it (log entry 20). -/
def execImageValidationDone (t : Nat) (desc : ImgDesc) (s : State) : Host.Outcome State Fault Refusal :=
  .next (s.run t (valStep desc))
/-- PRESENCE_FIT_WINDOW: DISC_WIN expires, or everything has answered. -/
def execPresenceFitWindow (t : Nat) (s : State) : Host.Outcome State Fault Refusal :=
  .next (s.runIf t
    (fun s => match s.img.val with
      | some v => (match v.desc with
        | some d => s.presentAll d v || decide (v.at9 + d.host.discWin * Config.ms ≤ s.now)
        | none => false)
      | none => false)
    fun s => s.onImg fun i => { i with val := i.val.map fun v => { v with ended9 := true } })
/-- BOOT_VALIDATION: the firmware runs and no image was validated yet. -/
def execBootValidation (t : Nat) (s : State) : Host.Outcome State Fault Refusal :=
  .next (s.runIf t (fun s => s.img.fwRun && s.img.desc.isNone && s.img.val.isNone && (!s.img.hostWait || s.pwr.reload))
    fun s => s.bootStart s.evs.bootSlot false)

/-! ## Slots and the load buffer (R54 to R58, R94) -/
namespace State
/-- A slot is busy: read for a validation, an arming or a boot, or being erased or written. -/
def slotBusy (s : State) (slot : Nat) : Bool :=
  (match s.img.val with | some v => v.source == slot && v.kind != 2 && v.desc.isNone | none => false) ||
  (s.img.swapSt == 1 && (match s.img.swap with | some c => c.source == slot | none => false)) ||
  s.img.erasing.contains slot || s.img.writing.any (·.1 == slot)
/-- A command still reads the load buffer: a firmware load of a cell until its last data have been taken. -/
def bufReads (s : State) : Bool :=
  s.slotBusy 2 || !s.img.writing.isEmpty || s.img.fwSt == 1 || (List.range 128).any fun c => (s.cell c).st == 7 && s.fwReads c
/-- What was read from a slot before it is erased or written no longer gives its state (R58). -/
def slotMoved (slot : Nat) (s : State) : State :=
  s.onImg fun i =>
    { i with
      val := i.val.map fun v => { v with moved := v.moved || v.source == slot }
      heldMoved := i.heldMoved || (match i.held with | some h => h.2.1 == slot | none => false) }
/-- Trace memory discarded (R55). -/
def traceDrop (s : State) : State := s.onTrace fun t => { t with st := 0, rows := [], count := 0, left := 0, invalid := false }
end State
/-- SLOT of R145. -/
def slotField (p : Bytes) (mx : Nat) : Bool × Nat := (decide (mx < field p 0 4), 0)

/-- IMG_BUF_OPEN. -/
def cmdImgBufOpen : Cmd where
  opcode := 0x0101
  lens := noPayload
  fields := fun h _ _ => firstBad [target0 h]
  block := fun _ _ s => blockCause [(s.img.bufOpen, 0x4E), (tracing s, 0x4B)]
  act := fun _ _ s => ((s.onImg fun i => { i with bufOpen := true, buf := [] }).traceDrop, {})
/-- IMG_BUF_CLOSE. -/
def cmdImgBufClose : Cmd where
  opcode := 0x0102
  lens := noPayload
  fields := fun h _ _ => firstBad [target0 h]
  block := fun _ _ s => blockCause [(!s.img.bufOpen, 0x4C), (s.bufReads, 0x4F)]
  act := fun _ _ s => (s.onImg fun i => { i with bufOpen := false, buf := [] }, {})
/-- IMG_SLOT_ERASE. -/
def cmdImgSlotErase : Cmd where
  opcode := 0x0103
  lens := (· == 4)
  fields := fun h p _ => firstBad [target0 h, slotField p 1]
  block := fun _ p s => blockCause [(s.slotBusy (field p 0 4), 0x47), (s.fwSwitching, 0x51)]
  act := fun _ p s =>
    let k := field p 0 4
    (((s.putSlot k []).slotMoved k).onImg fun i => { i with erasing := i.erasing ++ [k] }, { status := 1 })
/-- IMG_SLOT_WRITE: the slot holds no commit record until the write has ended (R54). -/
def cmdImgSlotWrite : Cmd where
  opcode := 0x0104
  lens := (· == 8)
  fields := fun h p _ => firstBad [target0 h, slotField p 1]
  block := fun _ p s =>
    let n := field p 4 4
    blockCause
      [(s.slotBusy (field p 0 4), 0x47), (!s.img.bufOpen, 0x4C), (n == 0 || n % 4 != 0 || decide (1572864 < n), 0x4D), (s.fwSwitching, 0x51)]
  act := fun _ p s =>
    let k := field p 0 4; let n := field p 4 4
    (((s.putSlot k []).slotMoved k).onImg fun i => { i with writing := i.writing ++ [(k, n, Sparse.within 0 n i.buf)] }, { status := 1 })
/-- IMG_SET_BOOT. -/
def cmdImgSetBoot : Cmd where
  opcode := 0x0105
  lens := (· == 4)
  fields := fun h p _ => firstBad [target0 h, slotField p 1]
  block := fun _ _ _ => none
  act := fun _ p s => (s.onEvs fun e => { e with bootSlot := field p 0 4 }, {})
/-- Refusals of the load buffer as SOURCE (R57). -/
def bufCauses (p : Bytes) (s : State) : List (Bool × Nat) :=
  [(field p 0 4 == 2 && !s.img.bufOpen, 0x4C), (field p 0 4 == 2 && decide (2097152 < field p 4 4), 0x4D)]
/-- IMG_LOAD (R85, R86). -/
def cmdImgLoad : Cmd where
  opcode := 0x0106
  lens := (· == 8)
  fields := fun h p _ => firstBad [target0 h, slotField p 2]
  block := fun _ p s => blockCause
    ([(s.mode.mode != 0 && !s.img.hostWait, 0x46), (s.img.val.isSome, 0x53), (decide (field p 0 4 < 2) && s.slotBusy (field p 0 4), 0x47)] ++
      bufCauses p s ++ [(s.fwSwitching, 0x51)])
  act := fun _ p s =>
    let k := field p 0 4
    let s := s.swapCancel 0x49
    ((s.imgSts fun i => { i with cand := 6, val := some { kind := 1, source := k, len := field p 4 4, was := if k = 0 then i.slotA else i.slotB } }).slotSt k 6, { status := 1 })
/-- IMG_RECHECK (R77). -/
def cmdImgRecheck : Cmd where
  opcode := 0x0107
  lens := noPayload
  fields := fun h _ _ => firstBad [target0 h]
  block := fun _ _ s => blockCause [(s.img.val.isSome, 0x53), (!s.img.hostWait || s.img.held.isNone, 0x54), (s.fwSwitching, 0x51)]
  act := fun _ _ s =>
    (s.onImg fun i => { i with val := i.held.map fun h => { kind := 2, source := h.2.1, moved := i.heldMoved } }, { status := 1 })
/-- IMG_ARM (R87, R88). -/
def cmdImgArm : Cmd where
  opcode := 0x0108
  lens := (· == 8)
  fields := fun h p _ => firstBad [target0 h, slotField p 2]
  block := fun _ p s => blockCause
    ([(!s.inForce, 0x55), (decide (field p 0 4 < 2) && s.slotBusy (field p 0 4), 0x47)] ++ bufCauses p s ++
      [(s.staged, 0x42), (s.fwSwitching, 0x51)])
  act := fun _ p s =>
    let k := field p 0 4
    let c : Cand := { source := k, len := field p 4 4, was := if k = 0 then s.img.slotA else s.img.slotB }
    ((s.onImg fun i => { i with swapSt := 1, swapReason := 0, swapLate := false, swapSects := 0, swapPer := 0, swap := some c }).slotSt k 6,
      { status := 1 })
/-- Relation of the named period to the present one (R89): its refusal. -/
def swapRefusal (n : Nat) (s : State) : Option Nat :=
  let d := serialDiff 32 n s.per
  if s.img.swapSt = 3 then some 0x42
  else if s.img.swapSt ≠ 2 then some 0x45
  else if d = 2 ^ 31 then some 0x48
  else if 2 ^ 24 < d ∧ d < 2 ^ 31 then some 0x43
  else none
/-- The IMAGE_ID of this member's candidate while it is ARMED. -/
def armedId (s : State) : Option Nat := if s.img.swapSt = 2 then s.img.swap.map (·.id) else none
/-- A pair's STANDBY reports the same candidate as ARMED (R92); the report travels in HEALTH (DESIGN CHOICE, log entry 33). -/
def partnerArmed (s : State) : Bool := s.pair.peerArmed.isSome && s.pair.peerArmed == armedId s
/-- IMG_SWAP (R89, R92, R636). -/
def cmdImgSwap : Cmd where
  opcode := 0x0109
  lens := (· == 4)
  fields := fun h _ _ => firstBad [target0 h]
  block := fun _ p s =>
    if !s.inForce then some (.block 0x55)
    else match swapRefusal (field p 0 4) s with
      | some r => some (.block r)
      | none => if s.role == 1 && !partnerArmed s then some (.block 0x44) else none
  act := fun _ p s =>
    let n := field p 0 4
    let d := serialDiff 32 n s.per
    let late := !decide (2 ≤ d ∧ d ≤ 2 ^ 24)
    let m := if late then s.perPlus 2 else n
    let s := if s.pair.handover = some m then (s.onPair fun x => { x with handover := some ((m + 1) % M32) }).pairSend (.handover ((m + 1) % M32)) else s
    (s.onImg fun i => { i with swapSt := 3, swapPer := m, swapLate := late }, { status := 2, per := some m, late := late })
/-- IMG_DISARM (R88). -/
def cmdImgDisarm : Cmd where
  opcode := 0x010A
  lens := noPayload
  fields := fun h _ _ => firstBad [target0 h]
  block := fun _ _ s => blockCause [(!s.inForce, 0x55), (!s.staged, 0x45)]
  -- an arming that stops here is the end of a STARTED command (R96)
  act := fun _ _ s => ((if s.img.swapSt = 1 then s.imgIrq else s).swapEnds 0 0, {})

/-- IMG_BUF_OPEN. -/
def execImgBufOpen (t : Nat) (h : RecHdr) (s : State) : Host.Outcome State Fault Refusal := .next (hostRow cmdImgBufOpen t h [] s)
/-- IMG_BUF_CLOSE. -/
def execImgBufClose (t : Nat) (h : RecHdr) (s : State) : Host.Outcome State Fault Refusal := .next (hostRow cmdImgBufClose t h [] s)
/-- IMG_SLOT_ERASE. -/
def execImgSlotErase (t : Nat) (h : RecHdr) (slot : Nat) (s : State) : Host.Outcome State Fault Refusal :=
  .next (hostRow cmdImgSlotErase t h (le 4 slot) s)
/-- IMG_SLOT_WRITE. -/
def execImgSlotWrite (t : Nat) (h : RecHdr) (slot len : Nat) (s : State) : Host.Outcome State Fault Refusal :=
  .next (hostRow cmdImgSlotWrite t h (le 4 slot ++ le 4 len) s)
/-- IMG_SET_BOOT. -/
def execImgSetBoot (t : Nat) (h : RecHdr) (slot : Nat) (s : State) : Host.Outcome State Fault Refusal :=
  .next (hostRow cmdImgSetBoot t h (le 4 slot) s)
/-- IMG_LOAD. -/
def execImgLoad (t : Nat) (h : RecHdr) (source len : Nat) (s : State) : Host.Outcome State Fault Refusal :=
  .next (hostRow cmdImgLoad t h (le 4 source ++ le 4 len) s)
/-- IMG_RECHECK. -/
def execImgRecheck (t : Nat) (h : RecHdr) (s : State) : Host.Outcome State Fault Refusal := .next (hostRow cmdImgRecheck t h [] s)
/-- IMG_ARM. -/
def execImgArm (t : Nat) (h : RecHdr) (source len : Nat) (s : State) : Host.Outcome State Fault Refusal :=
  .next (hostRow cmdImgArm t h (le 4 source ++ le 4 len) s)
/-- IMG_SWAP. -/
def execImgSwap (t : Nat) (h : RecHdr) (period : Nat) (s : State) : Host.Outcome State Fault Refusal :=
  .next (hostRow cmdImgSwap t h (le 4 period) s)
/-- IMG_DISARM. -/
def execImgDisarm (t : Nat) (h : RecHdr) (s : State) : Host.Outcome State Fault Refusal := .next (hostRow cmdImgDisarm t h [] s)

/-- SLOT_ERASE_DONE: EMPTY, ERASED, with no validation (R58). -/
def execSlotEraseDone (t : Nat) (slot : Nat) (s : State) : Host.Outcome State Fault Refusal :=
  .next (s.runIf t (fun s => s.img.erasing.contains slot) fun s =>
    (((s.onImg fun i => { i with erasing := i.erasing.filter (· != slot), reason := 1 }).slotSt slot 0).imgIrq))
/-- SLOT_WRITE_DONE: programmed, read back and committed, then steps 1 to 7 (R54, R58). The commit record's write count
is the writes of this slot since delivery, which an erase does not take back: R53 gives the field alone, and this is the
model's choice (log entry 179). -/
def execSlotWriteDone (t : Nat) (slot : Nat) (s : State) : Host.Outcome State Fault Refusal :=
  .next (s.run t fun s =>
    match s.img.writing.find? (·.1 == slot) with
    | none => s
    | some w =>
      let n := (at' s.img.wcnt slot 0 + 1) % M32
      let c := Image.cells 0xFF (cellBytes w.2.2 0 0 w.2.1)
      let s := s.putSlot slot (Sparse.putAll 0xFF c 0x1FF000 (Image.commitRec w.2.1 n))
      let s := s.onImg fun i => { i with writing := i.writing.filter (·.1 != slot), wcnt := i.wcnt.set slot n }
      let r := (s.imageCheck slot 0).2
      ((s.imgReason r).slotSt slot (match r with | none => 8 | some x => x.st)).imgIrq)

/-! ## Hot swap (R87, R90) -/

/-- Section types whose bytes differ. -/
def swapDiff (a b : Bytes) : List Nat := ((List.range 10).map (· + 1)).filter fun t => Image.sectBytes a t != Image.sectBytes b t
/-- The description after a swap: that of the replaced sections from the candidate (R48, R66). -/
def swapDesc (old new : ImgDesc) (ts : List Nat) : ImgDesc :=
  let d := if ts.contains 6 then { old with kinds := new.kinds, classes := new.classes, arms := new.arms } else old
  let d := if ts.contains 7 then { d with gains := new.gains } else d
  let d := if ts.contains 9 then { d with cal := new.cal, adcs := new.adcs } else d
  if ts.contains 10 then { d with host := new.host } else d
/-- State of a slot whose arming passed the steps 1 to 8: still VALID, else INTACT (log entry 177). -/
def armedSlot (was : Nat) : Nat := if was = 5 then 5 else 8
/-- The end of an arming. The checks on a slot are its last check and give its state and REASON; a refusal with
SWAP_STOP_DIFF or SWAP_SPACE has no byte at fault and leaves IMG_DIAG (log entry 177). -/
def State.armEnds (desc : ImgDesc) (s : State) : State :=
  match s.img.swap with
  | none => s
  | some c =>
    if s.img.swapSt ≠ 1 then s
    else
      let s := s.imgIrq
      let (b, r) := s.imageCheck c.source c.len
      match (match r with | some x => some x | none => fitCandidate desc s) with
      | some x =>
        let s := if c.source < 2 then s.imgReason (some x) else s.onImg fun i => { i with diagSect := x.sect, diagOfs := x.ofs }
        (s.onImg fun i => { i with swap := some { c with was := x.st } }).swapEnds 5 x.reason
      | none =>
        let s := s.onImg fun i => { i with swap := some { c with was := armedSlot c.was }, reason := if c.source < 2 then 0 else i.reason }
        let w := s.workBytes
        let ts := swapDiff w b
        let hot (t : Nat) : Bool := match Image.find w t with | some e => e.flags.testBit 0 | none => false
        if ts.any fun t => !hot t then s.swapEnds 5 0x40
        else if 2097152 < w.length + (ts.map fun t => (Image.sectBytes b t).length).sum then s.swapEnds 5 0x41
        else
          s.armStops.onImg fun i =>
            { i with swapSt := 2, swapReason := 0, swapSects := maskOf 10 fun k => ts.contains (k + 1)
                     swap := some { c with desc := some (swapDesc s.cfg desc ts), bytes := Image.cells 0 b, len := b.length,
                                           id := Image.idOf b, sects := maskOf 10 fun k => ts.contains (k + 1) } }
where
  /-- Step 8 on a candidate: it keeps the node ID this node holds. -/
  fitCandidate (d : ImgDesc) (s : State) : Option Image.Bad :=
    match s.fit d with
    | some x => if x.reason = 0x35 ∧ d.mesh.node = s.node then none else some x
    | none => none
/-- ARMING_DONE. -/
def execArmingDone (t : Nat) (desc : ImgDesc) (s : State) : Host.Outcome State Fault Refusal := .next (s.run t (State.armEnds desc))
/-- The reference trims of the ADCs take their new base values at once, for conversions that complete from now on (R90, R465). -/
def State.swapTrims (old new : CalDecl) (s : State) : State :=
  let d (a : Nat) : Int := at' new.trimBase (2 + a) 0 - at' old.trimBase (2 + a) 0
  let s := s.onClk fun c =>
    { c with trims := c.trims.mapIdx fun i x => if 2 ≤ i ∧ i < 6 then x + d (i - 2) else x
             trimDue := c.trimDue.mapIdx fun i x => if 2 ≤ i ∧ i < 6 then x.map (· + d (i - 2)) else x }
  s.onAdc fun b => { b with adcs := b.adcs.mapIdx fun a x => { x with trim := x.trim + d a } }
/-- The candidate takes effect (R90). -/
def State.swapTake (c : Cand) (s : State) : State :=
  let s0 := s
  let prev := s.img.id
  let b := cellBytes c.bytes 0 0 c.len
  let d := c.desc.getD s.cfg
  let s := s.onImg fun i =>
    { i with desc := some d, work := c.bytes, workLen := c.len, id := c.id, src := c.source + 1, fellBack := false, irq := true
             swapSt := 4, swap := none, sigChecked := s.sys.keySet, bank := 1 - i.bank }
  let s := s.imageRecord b c.source prev false
  let s := if c.sects.testBit 8 then
      ((s.swapTrims s0.cfg.cal d.cal).clkCal d.cal).onLane fun l => { l with lanes := l.lanes.mapIdx fun k x => { x with emph := at' d.cal.emph k x.emph, swing := at' d.cal.swing k x.swing } }
    else s
  if c.sects.testBit 9 then s.policy d.host else s
/-- SWAP_BOUNDARY: S(m). -/
def execSwapBoundary (t : Nat) (s : State) : Host.Outcome State Fault Refusal :=
  .next (s.runIf t (fun s => s.timeline && s.img.swapSt == 3 && decide (s.inPer < 16) && decide (serialDiff 32 s.per s.img.swapPer < 2 ^ 31))
    fun s => match s.img.swap with | some c => s.swapTake c | none => s)
/-- SWAP_CANCEL. -/
def execSwapCancel (t : Nat) (ecc : Bool) (s : State) : Host.Outcome State Fault Refusal :=
  .next (s.run t (swapCancel (if ecc then 0x4A else 0x49)))

/-! ## Firmware banks (R687 to R692) -/
namespace State
def inactive (s : State) : Nat := 1 - s.evs.fwBank
def bankGood (s : State) (b : Nat) : Bool := at' s.evs.fwGood b false
def setBank (b : Nat) (ok : Bool) (s : State) : State := s.onEvs fun e => { e with fwGood := e.fwGood.set b ok }
/-- Firmware STATE; READY, DONE and FAILED set IRQ (R96). -/
def fwTo (st : Nat) (s : State) : State := s.onImg fun i => { i with fwSt := st, irq := i.irq || decide (st = 2 ∨ st = 4 ∨ st = 5) }
/-- A failure's REASON: R689 gives no code for one, so the value is free (log entry 34). -/
def fwFailed (s : State) : State := ((s.onImg fun i => { i with fwReason := s.freeWord.toNat % 256 }).drawn).fwTo 5
/-- FW_BUSY (R689). -/
def fwBusy (s : State) : Bool :=
  s.img.fwSt == 1 || s.img.fwSt == 3 || s.img.swapSt == 1 || s.seam.cells.any (·.st == 7) || s.adc.adcs.any fun x => x.st == 4 || x.cal == 1
end State
/-- REASON keeps the code of a refusal (R692). -/
def fwDeny (_ : RecHdr) (r : Refuse) (s : State) : State := if r.code = 0x11 then s.onImg fun i => { i with fwReason := r.detail } else s
/-- IMG_FW_WRITE. -/
def cmdImgFwWrite : Cmd where
  opcode := 0x010B
  lens := (· == 4)
  fields := fun h _ _ => firstBad [target0 h]
  block := fun _ p s => blockCause [(!s.img.bufOpen || decide (2097152 < field p 0 4), 0x50), (s.fwBusy, 0x51)]
  act := fun _ p s => ((((s.setBank s.inactive false).onImg fun i => { i with fwLen := field p 0 4 }).fwTo 1), { status := 1 })
  deny := fwDeny
/-- IMG_FW_SWITCH: the cores restart at the next period boundary; without a period, at once. -/
def cmdImgFwSwitch : Cmd where
  opcode := 0x010C
  lens := noPayload
  fields := fun h _ _ => firstBad [target0 h]
  block := fun _ _ s => blockCause [(s.fwBusy, 0x51), (!s.bankGood s.inactive, 0x52)]
  act := fun _ _ s => (((s.onImg fun i => { i with fwAt := some (if s.timeline then s.nextS else s.now) }).fwTo 3), { status := 1 })
  deny := fwDeny
/-- IMG_FW_WRITE. -/
def execImgFwWrite (t : Nat) (h : RecHdr) (len : Nat) (s : State) : Host.Outcome State Fault Refusal :=
  .next (hostRow cmdImgFwWrite t h (le 4 len) s)
/-- IMG_FW_SWITCH. -/
def execImgFwSwitch (t : Nat) (h : RecHdr) (s : State) : Host.Outcome State Fault Refusal := .next (hostRow cmdImgFwSwitch t h [] s)
/-- FW_WRITE_DONE: whether the bank passed Caerup's own check. -/
def execFwWriteDone (t : Nat) (good : Bool) (s : State) : Host.Outcome State Fault Refusal :=
  .next (s.runIf t (fun s => s.img.fwSt == 1) fun s => if good then (s.setBank s.inactive true).fwTo 2 else s.fwFailed.imgIrq)
/-- FW_SWITCH_RESTART. -/
def execFwSwitchRestart (t : Nat) (s : State) : Host.Outcome State Fault Refusal :=
  .next (s.runIf t (fun s => match s.img.fwAt with | some a => decide (a ≤ s.now) | none => false)
    (healthStep fun s => s.onImg fun i => { i with fwAt := none, fwSince := some s.now, fwRun := false }))
/-- FW_SWITCH_DONE: the new bank has started, or 24 ms have passed without. -/
def execFwSwitchDone (t : Nat) (started : Bool) (s : State) : Host.Outcome State Fault Refusal :=
  .next (s.run t fun s =>
    match s.img.fwSince with
    | none => s
    | some a =>
      let inTime := decide (s.now ≤ a + 24 * Config.ms)
      if started && inTime then
        ((s.onEvs fun e => { e with fwBank := s.inactive }).onImg fun i => { i with fwSince := none, fwRun := true }).fwTo 4
      else if !inTime then ((s.onImg fun i => { i with fwSince := none, fwRun := true }).fwFailed).imgIrq
      else s)

end Sys2Proof.Machine
end

