-- ==== Sys2Proof/Machine/Power.lean ====
section
/-! DEFINITION. Supplies, resets and power states (R24, R398, R646 to R671). -/
namespace Sys2Proof.Machine
namespace State

/-! ## Power-on resets (R647 to R651, R666) -/

/-- What a power-on reset leaves: non-volatile memory, fuses, levels on pins, and, where it kept its supply, the
safety island. Only AON and SAFE are on. -/
def volatileLost (keepSafe : Bool) (s : State) : State :=
  { now := s.now, out := s.out, free := s.free, pending := s.pending
    sys := { keySet := s.sys.keySet || s.sys.fused.isSome, keyBad := s.sys.keyBad, keyHash := s.sys.fused.getD s.sys.keyHash, fused := s.sys.fused, gpioIn := s.sys.gpioIn, scrubAt := s.now }
    pwr := { good := s.pwr.good, por := s.pwr.por, riseAt := s.pwr.riseAt, goodAt := s.pwr.goodAt, riseLate := s.pwr.riseLate, riseMet := s.pwr.riseMet,
             resetLow := s.pwr.resetLow, memberSel := s.pwr.memberSel, cause := s.pwr.cause, upDue := false }
    img := { flashA := s.img.flashA, flashB := s.img.flashB, wcnt := s.img.wcnt }
    host := { refPresent := s.host.refPresent, onSyspll := !s.host.refPresent }
    evs := s.evs
    cmp := { pinHigh := s.cmp.pinHigh, pinAct := s.cmp.pinAct, busLow := s.cmp.busLow }
    safe := if keepSafe then { s.safe with gpReq := false, unlocked := false, unlockSess := 0 }
      else { sin := s.safe.sin, rst := s.safe.rst, vddBad := s.safe.vddBad } }
/-- A power-on reset with its cause (R650, R667); due: the power-up of R648 may begin. -/
def powerReset (cause : Nat) (due keepSafe : Bool) (s : State) : State :=
  (s.volatileLost keepSafe).onPwr fun p => { p with cause := cause, upDue := due, parked := false }
/-- Steps 1 and 2 of R648: BOOT counts, the first domains come on, EV_RESET is the entry at INDEX 0 (R656). -/
def powerUp (s : State) : State :=
  let s := s.onEvs fun e => { e with boot := (e.boot + 1) % M32 }
  let s := s.onJnl fun j => { j with prev := BitVec.ofNat 32 s.evs.boot }
  let s := s.onPwr fun p => { p with upDue := false, dom := 0xC13F }
  s.jEvent 0x00F4 s.pwr.cause 0 []
/-- Every watched supply is good. -/
def supplies (s : State) : Bool := s.pwr.good.all id
/-- The rise window has closed without every supply good in it. -/
def riseClosed (s : State) : Bool := decide (s.pwr.riseAt + 100 * Config.ms ≤ s.now) && !s.pwr.riseMet

/-! ## Warm reset (R652, R653, R658, R659) -/

/-- Fields of the IMG block and what runs in it (R91, R96, R659, R692). -/
def imgWarm (s : State) : State :=
  let s := s.valAbandon
  let s := if s.staged then s.swapEnds 5 0x49 else s.swapEnds 0 0
  s.onImg fun i => { i with irq := false, erasing := [], writing := [], fwSt := 0, fwReason := 0, fwAt := none, fwSince := none }
/-- Cell contexts ABSENT with their fields at Warm values (R258, R277). -/
def seamWarm (s : State) : State :=
  (s.cellsAbsent).onSeam fun b => { b with cells := b.cells.map fun x =>
    { x with st := 0, jstep := 0, reason := 0, tlock := false, stale := false, byp := false, tripped := false, holdCnt := 0, lastNak := 0 } }
/-- EDG_RLD_STS (R321). -/
def edgWarm (s : State) : State := s.onEdg fun e => { e with lastLate := false, lastGrp := 0 }
/-- A trace under way ends STOPPED (R364). -/
def traceStopped (s : State) : State := s.onTrace fun t => { t with st := if t.st = 1 ∨ t.st = 2 then 4 else t.st }
/-- BAL_ARMa_STS and BAL_CELLc_STS (R407, R410). -/
def balWarm (s : State) : State :=
  s.onBal fun b => { b with arms := b.arms.map fun a => { a with dirNeg := false, n := 0, missRun := 0 },
                            cells := b.cells.map fun c => { c with rank := 2047, keyStale := false } }
/-- MODE_STS.SUB and .SCHED and MODE_SPk_STS (R458, R461). -/
def modeWarm (s : State) : State :=
  (s.onMode fun m => { m with sub := 0, sps := m.sps.map fun p => { p with dwell := 0, locked := false } }).onModeQ
    fun q => { q with sched := none }
/-- Comparator checks end (R533). -/
def cmpWarm (s : State) : State := s.onCmp fun c => { c with cmps := c.cmps.map fun x => { x with checking := false } }
/-- MESH_VIEW, and scheduled operations (R610, R611, R602). -/
def meshWarm (s : State) : State := (s.gopDiscard).onMesh fun m => { m with viewEn := false, viewNode := 0 }
/-- Sessions PARKED without a host-loss check, mailboxes idle (R119, R653, R719). -/
def hostWarm (s : State) : State :=
  s.onHost fun h =>
    { h with
      ctxs := h.ctxs.map fun x => if x.st = 0 then x else { x with st := 3, ringErr := false, parkEnd := s.now + h.parkKeep * Config.sec }
      mbx := h.mbx.map fun m => { m with busy := false, done := false, dbLost := false } }
/-- A warm reset begins; src: the interface it came by. -/
def warmStart (src : Src) (s : State) : State :=
  let s := s.onPwr fun p =>
    { p with warm := true, busy := true, cause := 4, causeSrc := src.code, warmCnt := sat16 p.warmCnt 1, soft := 0, reload := false }
  let s := if s.mode.mode = 0 then s else s.enterSafe 6 0
  let s := (s.ovlEnd 0x17 true).onModeQ fun q => { q with ended := false }
  let s := ((s.relock src.code 0).hostWarm.imgWarm).seamWarm.edgWarm
  let s := (s.traceStopped.balWarm.modeWarm).cmpWarm.meshWarm
  let s := s.onSys fun y => { y with pages := y.pages.map fun _ => {} }
  (s.pairWaiting).lpwmHiz.driveTripn
/-- A trip that stays latched is sent to a seam afresh (R659). -/
def tripAgain (q : Nat) (s : State) : State :=
  let s := s.onSeam fun b => { b with seams := modAt b.seams q fun x => { x with tripAt := s.now } }
  if s.maySendTrip then s.tripSend 8 (at' s.seam.seams q {}).tripSrc q else s
/-- It ends: outputs take their states, latched trips act again, EV_RESET (R652, R656, R659). -/
def warmEnd (s : State) : State :=
  let s := s.onPwr fun p => { p with warm := false, busy := false }
  let z := s.outsHiz
  let s := ((s.outsTo fun _ x => { lpwmOff x with hiz := z }).onSys fun y => { y with gpioHiz := z }).driveTripn
  let s := if s.inForce && !s.cfg.topo.pair then s.takeBegin else s
  let s := each (members s.tripSeam 16) tripAgain s
  s.jEvent 0x00F4 4 0 []

/-! ## Image reload and soft resets (R653 to R656) -/

/-- An image reload begins; its EV_RESET follows when it ends (R656). -/
def reloadStart (src : Src) (s : State) : State :=
  let s := s.onPwr fun p => { p with reload := true, busy := true, cause := 5, causeSrc := src.code, reloadCnt := sat16 p.reloadCnt 1 }
  -- LOOPBACK ends too (R681), which a drop into HOST-WAIT lets stand
  (s.ovlEnd 0x17 true).testsEnd.imageDrop.convsDown
/-- The actions of R654 for one block. -/
def softBlock (b : Nat) (s : State) : State :=
  match b with
  | 0 =>
    s.laneStep fun s =>
      let s := ((each (List.range 40) testEnd s).onLane fun l => { l with lanes := l.lanes.map laneStop }).seamWarm
      each ((List.range 40).filter fun l => s.laneOn l && ((s.ln l).used || s.img.hostWait)) laneStart s
  | 1 => s.seamWarm
  | 2 =>
    let s := s.edgWarm.onEdg fun e =>
      { e with lpwm := e.lpwm.map fun x => { x with carry := {} }, chans := List.replicate 128 (List.replicate 16 {}), prevCh := [], prevL := [] }
    s.onEdg fun e => { e with grps := e.grps.mapIdx fun g x => match s.group g with | some d => { x with staging := d.init } | none => x }
  | 3 => s.traceStopped.coefReload.stateReload.loopsReload
  | 4 => let s := s.balWarm; each s.thermCells thermRestart s
  | 5 => (((s.ovlEnd 0x17 true).onModeQ fun q => { q with ended := false }).modeWarm).onMode fun m => { m with sps := List.replicate 16 {} }
  | 6 => if s.pwr.dom.testBit 12 then s.adcUp else s
  | 7 => if s.pwr.dom.testBit 13 && s.inForce then s.cmpWarm.cmpUp.checksBegin else s.cmpWarm
  | 8 => s.meshWarm.convsDown
  | 9 => s.pairWaiting
  | _ => s
/-- Soft resets of the blocks of a mask begin. -/
def softStart (src : Src) (m : Nat) (s : State) : State :=
  let s := s.onPwr fun p => { p with soft := m, busy := true, cause := 6, causeSrc := src.code }
  each (members m 10) softBlock s

/-! ## Power states (R660 to R662) -/

/-- Seams with a lane that DOZE puts to sleep. -/
def dozeSeams (s : State) : Nat := maskOf 16 fun q => (s.pwr.dozeTx ||| s.pwr.dozeRx) / 2 ^ (2 * q) % 4 != 0
/-- A cell context on such a seam is ACTIVE, HOLDING or UPDATING (R657). -/
def dozeLive (s : State) : Bool := (List.range 128).any fun c => s.dozeSeams.testBit (c / 8) && [2, 3, 7].contains (s.cell c).st
/-- BENCHB and ADC go off, benches 0 to 7 stop; a trace under way ends (R660, R661). -/
def idleDown (s : State) : State :=
  let s := s.traceStopped.adcDown.onPwr fun p => { p with dom := clrBit (clrBit p.dom 7) 12 }
  s.onBnc fun b => { b with benches := b.benches.mapIdx fun i x => if i < 8 then { x with running := false } else { ecc := x.ecc } }
/-- BENCHB, where the image uses it, and ADC come on; benches 8 to 15 are the image's anew (R661). -/
def idleUp (s : State) : State :=
  let useB := (s.cfg.benches.drop 8).any (·.used)
  let s := (s.onPwr fun p => { p with dom := setBit (if useB then setBit p.dom 7 else p.dom) 12 }).adcDown.adcUp
  if !useB then s
  else
    let new := (s.benchesLoad).bnc
    s.onBnc fun b =>
      { b with
        benches := b.benches.mapIdx fun i x => if i < 8 then x else at' new.benches i {}
        loops := b.loops.mapIdx fun l x => if s.cfg.loops.any fun d => d.num == l && decide (8 ≤ d.bench) then at' new.loops l {} else x }
/-- The directions of PWR_DOZE_TX and PWR_DOZE_RX sleep; joins on their seams and tests on their lanes end (R661, R681). -/
def dozeDown (s : State) : State :=
  let cs := (List.range 128).filter fun c => s.dozeSeams.testBit (c / 8) && (s.cell c).st == 1
  let s := each cs (fun c s => (s.onTalk c fun t => { seat := t.seat, tag := t.tag }).cellTo c 0 0) s
  s.laneStep fun s =>
    let s := each (members (s.pwr.dozeRx ||| s.pwr.dozeTx) 32) testEnd s
    let s := each (members s.pwr.dozeRx 32) rxSleepStart s
    each (members s.pwr.dozeTx 32) txSleepStart s
/-- Every sleeping direction wakes, whatever put it to sleep (R661). -/
def dozeUp (s : State) : State :=
  let rs := (List.range 40).filter s.rxAsleep
  let ts := (List.range 40).filter s.txAsleep
  each ts txWakeStart (each rs rxWakeStart s)
/-- PARK: every domain but AON and SAFE goes off; wake: after how many seconds, 0 never (R661, R662). -/
def goPark (wake : Nat) (s : State) : State :=
  let keep := s.pwr
  let die := s.bal
  let s := (s.ovlEnd 0x17 true).volatileLost true
  let s := s.onBal fun b =>
    { b with die := die.die, dieFail := die.dieFail, dieDis := die.dieDis, dieHot := die.dieHot, dieWarnSet := die.dieWarnSet,
             dieWarn := die.dieWarn, dieFast := die.dieFast, dieLost := die.dieLost, dieLow := die.dieLow, dieQuietAt := die.dieQuietAt,
             dieShut := die.dieShut, dieHotRun := die.dieHotRun }
  s.onPwr fun p =>
    { keep with dom := 3, parked := true, upDue := p.upDue, st := 0, busy := false, warm := false, reload := false, soft := 0, target := 3,
                wakeAt := if wake = 0 then none else some (s.now + wake * Config.sec) }
/-- The PARK event record: the spec names no code and no data for it, so they are free values (log entry 35). -/
def parkRecord (s : State) : State :=
  let a := s.freeWord; let s := s.drawn
  let b := s.freeWord; let s := s.drawn
  let c := s.freeWord; let s := s.drawn
  let d := s.freeWord; let s := s.drawn
  s.event (a.toNat % 65536) (le 4 b.toNat ++ le 4 c.toNat ++ le 4 d.toNat)
/-- A request of a power state that R661 allows. -/
def goTo (t : Nat) (s : State) : State :=
  let st := s.pwr.st
  let s := s.onPwr fun p => { p with target := t }
  if t = st then s
  else if t = 3 then (s.parkRecord).goPark s.pwr.wake
  else
    let s := s.onPwr fun p => { p with st := 3, busy := true }
    -- INJECT, TESTPULSE and SYNTHETIC need power state RUN (R674, R681)
    let s := if st = 0 then (s.ovlEnd 0x16 true).idleDown else if st = 2 ∧ t ≠ 2 then s.dozeUp else s
    if t = 2 then s.dozeDown else if t = 0 then s.idleUp else s

/-! ## Writes of PWR_CTL and PWR_SOFT (R656, R657, R669, R670) -/

/-- A reset or state change is in progress. -/
def pwrBusy (s : State) : Bool := s.pwr.busy || s.pwr.warm || s.pwr.reload || s.pwr.soft != 0 || s.pwr.st == 3
/-- A write is refused: PWR_STS and a spoil record. -/
def pwrRefuse (src : Src) (sess off d : Nat) (s : State) : State :=
  (s.onPwr fun p => { p with refused := true, detail := d }).spoil
    { time := s.sysTime, sess := sess, src := src.code, code := 0x11, target := off, node := s.node, detail := d }
/-- The refusal of a write of PWR_CTL, in the order of R657. -/
def ctlRefusal (v : Word) (s : State) : Option Nat :=
  let t := bits v.toNat 31 30
  let moves := t != s.pwr.target && !(t == s.pwr.st)
  let warm := tbit v.toNat 0; let re := tbit v.toNat 1
  let off := s.mode.mode == 0
  (([(re && !off && !s.img.hostWait || moves && (t == 1 || t == 2) && (!off || s.img.hostWait) || moves && t == 3 && !off && !s.img.hostWait, 1),
    (moves && t == 2 && s.dozeLive, 2), (s.pwrBusy, 5), (re && warm || (re || warm) && t != s.pwr.target, 6)] : List (Bool × Nat)).find? (·.1)).map (·.2)
/-- PWR_CTL written. -/
def ctlWrite (src : Src) (v : Word) (s : State) : State :=
  let t := bits v.toNat 31 30
  if tbit v.toNat 0 then s.warmStart src
  else if tbit v.toNat 1 then s.reloadStart src
  else s.goTo t
/-- The refusal of a write of PWR_SOFT; HOST-WAIT is not operating mode OFF (log entry 146). -/
def softRefusal (v : Word) (s : State) : Option Nat :=
  if v = 0 then none
  else
    (([(s.mode.mode != 0 || s.img.hostWait, 1), (tbit v.toNat 7 && s.anyTrip, 3), (decide (1024 ≤ v.toNat), 4), (s.pwrBusy, 5)] : List (Bool × Nat)).find? (·.1)).map (·.2)
def softWrite (src : Src) (v : Word) (s : State) : State := if v = 0 then s else s.softStart src v.toNat
/-- A direct write of either register: refused, or journalled before it acts. -/
def pwrDirect (ifc : Iface) (off : Nat) (v : Word) (s : State) : State :=
  if s.viewed ifc.src off then s.remoteWrite off v
  else if s.pwr.warm then s.spoilDirect ifc.src off 0x11 5
  else
    let soft := off == 0x22000C
    match (if soft then s.softRefusal v else s.ctlRefusal v) with
    | some d => s.pwrRefuse ifc.src 0 off d
    | none =>
      let s := if soft && v == 0 then s else s.jDirect ifc.src off v
      if soft then s.softWrite ifc.src v else s.ctlWrite ifc.src v
/-- PWR_CTL as it stands, with a bit set. -/
def ctlWord (s : State) (bitNo : Nat) : Word := BitVec.ofNat 32 (s.pwr.target * 2 ^ 30 + 2 ^ bitNo)
end State
open State

/-! ## Rows -/

/-- POWER_ON_RESET: the power-up of R648 begins. -/
def execPowerOnReset (t : Nat) (s : State) : Host.Outcome State Fault Refusal :=
  .next (s.runIf t (fun s => s.pwr.upDue && !s.pwr.por && !s.pwr.resetLow) powerUp)
/-- POR_RELEASE_TIMER; member: the level of MEMBER_SEL then (R651). -/
def execPorReleaseTimer (t : Nat) (member : Bool) (s : State) : Host.Outcome State Fault Refusal :=
  .next (s.runIf t (fun s => s.pwr.por && !s.pwr.resetLow && s.supplies && !s.pwr.riseLate && !s.riseClosed && decide (s.pwr.goodAt + 2 * Config.ms ≤ s.now))
    (onPwr fun p => { p with por := false, upDue := true, memberSel := member }))
/-- RISE_WINDOW_EXPIRY. -/
def execRiseWindowExpiry (t : Nat) (s : State) : Host.Outcome State Fault Refusal :=
  .next (s.runIf t (fun s => s.pwr.por && s.riseClosed) (onPwr fun p => { p with riseLate := true }))
/-- SUPPLY_RISE. -/
def execSupplyRise (t : Nat) (i : Nat) (s : State) : Host.Outcome State Fault Refusal :=
  .next (s.runIf t (fun s => at' s.pwr.good i true == false) fun s => s.onPwr fun p =>
    let first := p.good.all (! ·)
    let open_ := if first then s.now else p.riseAt
    let good := p.good.set i true
    { p with good := good, riseAt := open_, riseLate := p.riseLate && !first, goodAt := s.now
             riseMet := p.riseMet && !first || good.all id && decide (s.now ≤ open_ + 100 * Config.ms) })
/-- SUPPLY_FALL. -/
def execSupplyFall (t : Nat) (i : Nat) (s : State) : Host.Outcome State Fault Refusal :=
  .next (s.runIf t (fun s => at' s.pwr.good i false) fun s =>
    let aon := decide (i = 0)
    let cause := if aon then 1 else if s.pwr.por then s.pwr.cause else 2
    let s := (s.powerReset cause false false).onPwr fun p => { p with good := p.good.set i false, por := true, dom := if at' (p.good.set i false) 0 false then 3 else 2 }
    if aon then s.onEvs fun e => { e with queue := [], recent := [], reps := [] } else s)
/-- RESET_N: a low level that acts. -/
def execResetN (t : Nat) (s : State) : Host.Outcome State Fault Refusal :=
  .next (s.run t fun s => (s.powerReset (if s.pwr.por then s.pwr.cause else 3) false false).onPwr fun p => { p with resetLow := true })
/-- RESET_N_RELEASE. -/
def execResetNRelease (t : Nat) (member : Bool) (s : State) : Host.Outcome State Fault Refusal :=
  .next (s.runIf t (fun s => s.pwr.resetLow) fun s => s.onPwr fun p =>
    let p := { p with resetLow := false, memberSel := member }
    if p.por then (if s.supplies && (p.riseLate || s.riseClosed) then { p with riseLate := false, riseMet := true, goodAt := s.now } else p)
    else { p with upDue := true })
/-- FIRMWARE_BOOT_DONE: whether the active bank, and the other, passed their check. -/
def execFirmwareBootDone (t : Nat) (activeOk otherOk : Bool) (s : State) : Host.Outcome State Fault Refusal :=
  .next (s.runIf t (fun s => s.locked && s.pwr.dom.testBit 3 && !s.img.fwRun && !s.pwr.fwFail && s.img.fwSince.isNone) fun s =>
    let s := (s.setBank s.evs.fwBank activeOk).setBank s.inactive otherOk
    if activeOk then s.onImg fun i => { i with fwRun := true }
    else if otherOk then (s.onEvs fun e => { e with fwBank := s.inactive }).onImg fun i => { i with fwRun := true }
    else (s.onPwr fun p => { p with fwFail := true }).hostWait 7)
/-- WARM. -/
def execWarm (t : Nat) (ifc : Iface) (s : State) : Host.Outcome State Fault Refusal :=
  .next (s.run t fun s => s.pwrDirect ifc 0x220004 (s.ctlWord 0))
/-- WARM_RESET_END. -/
def execWarmResetEnd (t : Nat) (s : State) : Host.Outcome State Fault Refusal := .next (s.runIf t (fun s => s.pwr.warm) warmEnd)
/-- RELOAD. -/
def execReload (t : Nat) (ifc : Iface) (s : State) : Host.Outcome State Fault Refusal :=
  .next (s.run t fun s => s.pwrDirect ifc 0x220004 (s.ctlWord 1))
/-- POWER_STATE_REQUEST. -/
def execPowerStateRequest (t : Nat) (ifc : Iface) (target : Nat) (s : State) : Host.Outcome State Fault Refusal :=
  .next (s.run t (State.pwrDirect ifc 0x220004 (BitVec.ofNat 32 (target % 4 * 2 ^ 30))))
/-- POWER_STATE_CHANGE_DONE. -/
def execPowerStateChangeDone (t : Nat) (s : State) : Host.Outcome State Fault Refusal :=
  .next (s.runIf t (fun s => s.pwr.st == 3) fun s => (s.onPwr fun p => { p with st := p.target, busy := false }).onSys fun y => { y with scrubAt := s.now })
/-- WAKE_TIMER_EXPIRY: within the AON RC's 10 % of the set value. -/
def execWakeTimerExpiry (t : Nat) (s : State) : Host.Outcome State Fault Refusal :=
  .next (s.runIf t (fun s => s.pwr.parked && (match s.pwr.wakeAt with | some a => decide (a ≤ s.now + s.pwr.wake * Config.sec / 10) | none => false))
    (powerReset 7 true true))
/-- LANE_SOFT_RESET. -/
def execLaneSoftReset (t : Nat) (ifc : Iface) (s : State) : Host.Outcome State Fault Refusal := .next (s.run t (State.pwrDirect ifc 0x22000C 1))
/-- SEAM_SOFT_RESET. -/
def execSeamSoftReset (t : Nat) (ifc : Iface) (s : State) : Host.Outcome State Fault Refusal := .next (s.run t (State.pwrDirect ifc 0x22000C 2))
/-- EDG_SOFT_RESET. -/
def execEdgSoftReset (t : Nat) (ifc : Iface) (s : State) : Host.Outcome State Fault Refusal := .next (s.run t (State.pwrDirect ifc 0x22000C 4))
/-- BNC_SOFT_RESET. -/
def execBncSoftReset (t : Nat) (ifc : Iface) (s : State) : Host.Outcome State Fault Refusal := .next (s.run t (State.pwrDirect ifc 0x22000C 8))
/-- BAL_SOFT_RESET. -/
def execBalSoftReset (t : Nat) (ifc : Iface) (s : State) : Host.Outcome State Fault Refusal := .next (s.run t (State.pwrDirect ifc 0x22000C 16))
/-- MODE_SOFT_RESET. -/
def execModeSoftReset (t : Nat) (ifc : Iface) (s : State) : Host.Outcome State Fault Refusal := .next (s.run t (State.pwrDirect ifc 0x22000C 32))
/-- ADC_SOFT_RESET. -/
def execAdcSoftReset (t : Nat) (ifc : Iface) (s : State) : Host.Outcome State Fault Refusal := .next (s.run t (State.pwrDirect ifc 0x22000C 64))
/-- CMP_SOFT_RESET. -/
def execCmpSoftReset (t : Nat) (ifc : Iface) (s : State) : Host.Outcome State Fault Refusal := .next (s.run t (State.pwrDirect ifc 0x22000C 128))
/-- MESH_SOFT_RESET. -/
def execMeshSoftReset (t : Nat) (ifc : Iface) (s : State) : Host.Outcome State Fault Refusal := .next (s.run t (State.pwrDirect ifc 0x22000C 256))
/-- PAIR_SOFT_RESET. -/
def execPairSoftReset (t : Nat) (ifc : Iface) (s : State) : Host.Outcome State Fault Refusal := .next (s.run t (State.pwrDirect ifc 0x22000C 512))
/-- SOFT_RESET_DONE. -/
def execSoftResetDone (t : Nat) (s : State) : Host.Outcome State Fault Refusal :=
  .next (s.runIf t (fun s => s.pwr.soft != 0) fun s =>
    let m := s.pwr.soft
    (s.onPwr fun p => { p with soft := 0, busy := false }).jEvent 0x00F4 (6 + 256 * m) 0 [])
/-- PCIE_REFERENCE_CLOCK_CHANGE (R24): the reference clock, and the link as it stands then, which has no row of its own: its
speed and lanes while it is up (R718; DESIGN CHOICE, log entry 96). -/
def execPcieReferenceClockChange (t : Nat) (present : Bool) (link : Option (Nat × Nat)) (s : State) : Host.Outcome State Fault Refusal :=
  .next (s.run t (onHost fun h =>
    { h with refPresent := present, onSyspll := !present, linkUp := link.isSome, speed := (link.map (·.1)).getD 0, width := (link.map (·.2)).getD 0 }))
/-- DIE_SHUTDOWN: gates, heartbeat, seams, record, PARK, in this order (R398). With a healthy STANDBY an ACTIVE member resigns
(R629); what cause its RESIGN names is not stated, so it is a free value (log entry 205). -/
def execDieShutdown (t : Nat) (s : State) : Host.Outcome State Fault Refusal :=
  .next (s.runIf t (fun s => decide (2 ≤ s.bal.dieHotRun) && !(s.pwr.parked && s.bal.dieShut)) fun s =>
    if s.pwr.parked then
      -- in PARK gates, heartbeat and seams are off already (R660, R661)
      ((s.event 0x0580 s.dieBytes).onBal fun b => { b with dieShut := true }).onPwr fun p => { p with wakeAt := none }
    else
    let covered := s.activeCovered
    let s := if covered then ((s.closeGates (M32 - 1)).resign (s.freeWord.toNat % 256)).drawn else s.internalTrip
    let s := s.event 0x0580 s.dieBytes
    (s.onBal fun b => { b with dieShut := true }).goPark 0)

end Sys2Proof.Machine
end

