-- ==== Sys2Proof/Machine/Mesh.lean ====
section
/-! DEFINITION. The peer mesh: discovery, node conversations, time, links, floods, GLOBAL symbols and barriers (R574 to R603). -/
namespace Sys2Proof.Machine
namespace State

/-! ## Discovery (R587, R591) -/

/-- This node's DISC payload; pairMember: the PAIR_STS state twice over plus the member. -/
def discData (s : State) : DiscData :=
  let d := s.ownDesc.getD {}
  { node := if s.ownDesc.isSome then d.mesh.node else 0xFF
    run := s.img.run
    imageId := if s.inForce then s.img.id else match s.img.held with | some h => Image.idOf (cellBytes h.2.2.1 0 0 h.2.2.2) | none => 0
    kF := d.topo.kF, outPhase := d.topo.outPhase, pairMember := 2 * s.pair.st + bit s.pair.member, host := s.hostPresent }
/-- Ports on which DISC is sent: those used, all four in HOST-WAIT (R587, R588). -/
def discPorts (s : State) : List Nat := (List.range 4).filter fun p => s.portSends p && ((at' s.mesh.ports p {}).used || s.img.hostWait)
/-- A frame to the neighbours on some ports, or by broadcast: DST 0xFF (R587, log entry 191). -/
def portsPut (ps : List Nat) (typ : Nat) (b : MBody) (s : State) : State :=
  each ps (fun p => portPut p { hdr := { typ := typ, dst := 0xFF, src := s.nodeId, epoch := s.seam.epoch }, body := b }) s
/-- ACTIVE from WAITING or, in SAFE, from STANDBY or DETACHED (R627, R628). -/
def takeStart (s : State) : State := (s.onPair fun p => { p with st := 4, heartbeat := true, mirror := false }).takeBegin
/-- Synchronisation begins (R622, R628). -/
def syncBegin (s : State) : State :=
  s.healthStep fun s => (s.dropFlight.onPair fun p => { p with st := 2, syncAt := s.now, resigned := none }).healthPut 62 false
/-- The ACTIVE sends pages (R622); their number and layout are not specified, one stands for them all. -/
def syncSend (s : State) : State :=
  (s.heldOut.onPair fun p => { p with syncOut := true, mirror := false, syncAt := s.now }).pairSend (.sync 0)
/-- A DISC frame of the pair partner: where both wait, member 0 takes authority and member 1 synchronises (R628). -/
def discPartner (d : DiscData) (s : State) : State :=
  let s := s.onConv s.node fun c => { c with disc := some d, heardAt := s.now }
  let s := s.healthStep (healthPut 61 (d.run == 5 && d.imageId == s.img.id))
  if s.pair.st = 1 ∧ d.pairMember / 2 = 1 then (if s.pair.member then s.syncBegin else s.takeStart)
  else if s.pair.st = 4 ∧ d.pairMember / 2 = 2 ∧ !s.pair.mirror ∧ !s.pair.syncOut then s.syncSend
  else s
/-- A DISC frame received. -/
def discTake (port : Nat) (d : DiscData) (s : State) : State :=
  let s := s.onMesh fun m => { m with ports := modAt m.ports port fun x => { x with nbr := d.node % 64, nbrMember := d.pairMember % 2 == 1 } }
  if 64 ≤ d.node then s
  else if s.inForce && d.node == s.node then
    if s.cfg.topo.pair && port == 0 then s.discPartner d else s.onConv d.node fun c => { c with disc := some d, heardAt := s.now }
  else
    let s := s.onConv d.node fun c => { c with disc := some d, heardAt := s.now, hostWait := d.run != 5, bound := false }
    if (s.conv d.node).st = 1 then s else s.convRise d.node

/-! ## Node conversations (R590, R591, R626) -/

/-- A frame from another node: its authority epoch (R626). An earlier one is discarded; a later one takes the context
through LOST to UP. The cause its NODE_LOST record gives is not stated, so it is a free value (log entry 36). -/
def meshEpoch (n e : Nat) (k : State → State) (s : State) : State :=
  if n = s.nodeId ∨ 64 ≤ n then s
  else
    match (s.conv n).epoch with
    | none => k (s.onConv n fun c => { c with epoch := some e })
    | some o =>
      if e = o then k s
      else if later 16 e o then
        let s := if s.convUp n then (s.convLost n (s.freeWord.toNat % 256)).drawn.convRise n else s
        k (s.onConv n fun c => { c with epoch := some e })
      else s
/-- A frame of a node's conversation was heard. -/
def heard (n : Nat) (s : State) : State := s.onConv n fun c => { c with heardAt := s.now }
/-- A DATA frame in its place in the order: acknowledged, its item acted on once (R590). A pair member that is not ACTIVE follows
the order alone, for the ACTIVE answers (log entry 197). -/
def dataIn (n seq : Nat) (act : State → State) (s : State) : State :=
  let s := s.heard n
  let e := (s.conv n).exp
  let on (s : State) : State := s.onConv n fun c => { c with exp := (e + 1) % M32 }
  if s.role = 2 then (if seq = e then on s else s)
  else if seq = e then act ((on s).meshSend n 2 0 (.ack seq 0))
  else s.meshSend n 2 0 (.ack seq (if later 32 e seq then 1 else 2))
/-- The DATA frames whose acknowledgement is overdue. -/
def overdue (s : State) (n : Nat) : List DFrame := (s.conv n).out.filter fun f => decide (f.at_ + s.dataWait ≤ s.now)
/-- Frames of a conversation are sent again. -/
def sendAgain (n : Nat) (l : List DFrame) (s : State) : State :=
  let s := s.onConv n fun c =>
    { c with retry := sat32 c.retry l.length, sentAt := s.now,
             out := c.out.map fun f => if l.contains f then { f with sends := f.sends + 1, at_ := s.now } else f }
  each l (fun f s => s.meshSend n 1 f.seq (.item f.item)) s
/-- What is overdue is sent again; after three sends the context goes LOST. -/
def resend (n : Nat) (s : State) : State :=
  let l := s.overdue n
  if l.any fun f => decide (3 ≤ f.sends) then s.convLost n 0 else s.sendAgain n l

/-! ## Links (R584) -/

/-- Number of the link on a port of this node. -/
def linkOf (s : State) (p : Nat) : Option Nat :=
  (s.cfg.mesh.links.find? fun l => l.nodeA == s.node && l.portA == p || l.nodeB == s.node && l.portB == p).map (·.num)
/-- A link has gone down, or has come up: the tables in force follow the first that is down. -/
def linkChange (k : Nat) (up : Bool) (s : State) : State :=
  s.onMesh fun m =>
    { m with evt := setBit m.evt 3, down := if up then m.down.filter (· != k) else if m.down.contains k then m.down else m.down ++ [k] }
/-- The ACTIVE loses its STANDBY (R637): it mirrors no more; a command not acknowledged yet is held with those after it (R621). -/
def mirrorLost (s : State) : State :=
  let waits := s.pair.holding || !s.pair.flight.isEmpty
  let s := s.onPair fun p => { p with mirrorOff := true, mirror := false, syncOut := false, holding := waits, evt := setBit p.evt 2 }
  let s := if waits then s else s.heldOut
  s.event 0x0982 []
/-- A port of this node went down or came up. -/
def portChange (p : Nat) (s : State) : State :=
  let up := s.portUp p
  if up = (at' s.mesh.ports p {}).up then s
  else
    let s := s.onMesh fun m => { m with ports := modAt m.ports p fun x => { x with up := up } }
    let s := if p = 0 ∧ !up ∧ s.role = 1 then s.mirrorLost else s
    match s.linkOf p with
    | none => s
    | some k =>
      let s := s.linkChange k up
      let s := s.portsPut (s.bcastPorts s.nodeId) 8 (.link k up)
      if up then s else s.event 0x0881 (le 1 k ++ le 1 p)

/-! ## Time (R593, R623) -/

/-- Twice an offset, in ticks. -/
def offset2 (t1 t2 t3 t4 : Nat) (asym : Int) : Int := (((t2 : Int) - t1) - ((t4 : Int) - t3)) - 2 * asym
/-- A whole number of ticks from a fraction; how a fraction is rounded is not stated (log entry 5). -/
def wholeTicks (num den : Int) (s : State) : Int × State :=
  if num % den = 0 then (num / den, s) else (num / den + (s.freeWord.toNat % 2 : Nat), s.drawn)
/-- System time is steered by a mean offset: a slew takes it up, as R166 gives. -/
def steer (e : Int) (s : State) : State := if s.clk.st = 4 then s.slewStart e else s
/-- System time is taken from the master: the offset goes out of it at once (DESIGN CHOICE, log entry 189). -/
def timeTake1 (p : Nat) (e : Int) (s : State) : State :=
  let s := { s with ofs := (((s.ofs : Int) - e) % (2 ^ 64 : Nat)).toNat }
  s.onMesh fun m => { m with timeTaken := true, ports := modAt m.ports p fun x => { x with offsets := [] } }
/-- A mean of the last 16 offsets on the port toward the master: TIME_OK and MESH_TIME_ERR. The first since the image came
into force takes system time from the master (R155); later ones steer SYSPLL. -/
def meshTime (p : Nat) (sum2 : Int) (s : State) : State :=
  let w := s.wholeTicks sum2 32
  let ok := decide (sum2.natAbs ≤ 12 * 32)
  let s := w.2
  let s := if !s.cfg.topo.timeMesh then s else if !s.mesh.timeTaken then s.timeTake1 p w.1 else if s.clk.onMesh then s.steer w.1 else s
  s.onMesh fun m =>
    let okRun := if ok then m.okRun + 1 else 0
    let badRun := if ok then 0 else m.badRun + 1
    let v := if m.timeOk then decide (badRun < 2) else decide (8 ≤ okRun)
    { m with timeErr := w.1, okRun := okRun, badRun := badRun, timeOk := v, evt := if m.timeOk && !v then setBit m.evt 2 else m.evt }
/-- The same on the pair link: TIME_OK of the health word and PAIR_TIME_ERR. -/
def pairTime (sum2 : Int) (s : State) : State :=
  let w := s.wholeTicks sum2 32
  let ok := decide (sum2.natAbs ≤ 32)
  let s := if s.pair.st = 2 ∨ s.pair.st = 3 then w.2.steer w.1 else w.2
  let s := s.onPair fun p => { p with timeErr := w.1, timeOkRun := if ok then p.timeOkRun + 1 else 0, timeBadRun := if ok then 0 else p.timeBadRun + 1 }
  s.healthStep fun s =>
    if 8 ≤ s.pair.timeOkRun then s.healthPut 60 true else if 2 ≤ s.pair.timeBadRun then s.healthPut 60 false else s
/-- A TIME frame from the end nearer the master: count and send time of its marker, count and arrival time of ours. It counts
where both times of this end are known: t2 of the last marker received, t3 of one of the last 256 sent (R593). -/
def timeTake (p cnt t1 cnt4 t4 : Nat) (s : State) : State :=
  let x := s.ln (32 + 2 * p); let k := s.mrk (8 + p / 2)
  match if x.m3 = cnt then k.sent[(k.cnt + 255 - cnt4) % 256]? else none with
  | none => s
  | some t3 =>
  let t2 := x.mrkTime
  let d := s.wholeTicks (((t2 : Int) - t1) + ((t4 : Int) - t3)) 2
  let o := offset2 t1 t2 t3 t4 (at' s.cfg.mesh.asymP p 0)
  let s := d.2.onMesh fun m => { m with ports := modAt m.ports p fun x => { x with dly := d.1.toNat, offsets := (o :: x.offsets).take 16 } }
  let l := (at' s.mesh.ports p {}).offsets
  if l.length < 16 then s
  else if s.cfg.topo.pair ∧ p = 0 then s.pairTime l.sum
  else if s.cfg.mesh.shape ≠ 0 ∧ s.node ≠ s.cfg.mesh.master ∧ p = s.masterPort then s.meshTime p l.sum
  else s

/-! ## Trip floods (R601) -/

/-- The flood is repeated now: 1,024 port-blocks, or a multiple, since it was sent. -/
def floodDue (s : State) : Bool := match groupNow 3 1024 s.mesh.floodAt s.now with | some k => decide (0 < k) | none => false
/-- A flood symbol received, sent on every other port that is up. A node in HOST-WAIT without route tables does not pass it on, and
none there latches it (R588). -/
def floodIn (port origin count : Nat) (s : State) : State :=
  let live := s.mesh.floods.filter fun f => decide (s.now < f.2.2 + 10 * Config.us)
  if s.ownDesc.isNone ∨ live.any (fun f => f.1 == origin && f.2.1 == count) then s
  else
    let s := (s.onMesh fun m => { m with floods := (origin, count, s.now) :: live }).emits
      (((List.range 4).filter fun p => p != port && s.portSends p).map fun p => .port p [(true, floodBytes origin count)])
    if !s.inForce || origin == s.node then s else (s.onCmp fun c => { c with floodAt := some s.now }).fireTrip 33
/-- A latched trip whose wiring carries the MESH flag. -/
def flooding (s : State) : Bool := s.latchedList.any fun w => decide (w < 35 ∧ w ≠ 33) && (s.wire w).mesh

/-! ## GLOBAL symbols (R582, R597, R602) -/

/-- The system time with the low 48 bits given that lies nearest this node's own. -/
def near48 (a : Nat) (s : State) : Nat :=
  let t := s.sysTime
  let d := (a % 2 ^ 48 + 2 ^ 48 - t % 2 ^ 48) % 2 ^ 48
  if d < 2 ^ 47 ∨ t + d < 2 ^ 48 then t + d else t + d - 2 ^ 48
/-- A symbol received on a port: the first copy within 100 us is passed on, and acted on where an image is in force. act answers
whether it was acted on, so that it is confirmed. -/
def symbolTake (op port : Nat) (act : Sym → State → State × Bool) (y : Sym) (s : State) : State :=
  let live := s.mesh.seenSym.filter fun x => decide (s.now < x.2.2.2 + 100 * Config.us)
  if s.ownDesc.isNone ∨ live.any (fun x => x.1 == op && x.2.1 == y.origin && x.2.2.1 == y.tag) then s
  else
    let s := (s.onMesh fun m => { m with seenSym := (op, y.origin, y.tag, s.now) :: live }).emits
      (symbolOut ((s.symbolPorts op y.origin).filter (· != port)) op y)
    if !s.inForce || y.origin == s.node then s
    else
      let r := act y s
      if r.2 && confirmedOps.contains op then r.1.sendSymbol 0x0C (y.tag % 256 + 256 * op) else r.1
/-- The valid symbols of one operation that a stretch of a port brings. -/
def symbolIn (op : Nat) (x : PortRx) (act : Sym → State → State × Bool) (s : State) : State :=
  if !s.portTakes x.port then s else each (portSymbols op x) (symbolTake op x.port act) s
/-- An operation with a tick: not executed when the tick has passed. -/
def timed (at_ : Nat) (f : State → State) (s : State) : State × Bool := if at_ ≤ s.sysTime then (s, false) else (f s, true)
/-- An operation for a period boundary. -/
def boundary (per : Nat) (f : State → State) (s : State) : State × Bool := if later 32 per s.per then (f s, true) else (s, false)
/-- A scheduled reset with its block, where RESET_BLOCK has come. -/
def resetPlan (y : Sym) (at_ : Nat) (s : State) : State :=
  let b := match s.mesh.resetBlk with | some (o, t, b) => if o = y.origin ∧ t = y.tag then b else 0 | none => 0
  s.onMesh fun m => { m with reset := some (at_, bits y.arg 51 48, b, y.tag), resetBlk := none }
/-- RESET_BLOCK: before or after its RESET. -/
def resetBlock (y : Sym) (s : State) : State :=
  s.onMesh fun m =>
    match m.reset with
    | some (a, k, _, t) => if t = y.tag then { m with reset := some (a, k, y.arg % 256, t) } else { m with resetBlk := some (y.origin, y.tag, y.arg % 256) }
    | none => { m with resetBlk := some (y.origin, y.tag, y.arg % 256) }
/-- TLOAD_VAL: the load of the TLOAD_AT with the same TAG acts on this node too. -/
def tloadVal (y : Sym) (s : State) : State :=
  match s.clk.loadAt with
  | some (o, t, a) =>
    if o = y.origin ∧ t = y.tag then
      s.onClk fun c => { c with loadAt := none, load := some { time := y.arg % 2 ^ 53 * 2048 % 2 ^ 64, at_ := a, sure := true, remote := true } }
    else s
  | none => s
/-- CONFIRM of a node to this origin. -/
def confirmed (y : Sym) (s : State) : State :=
  s.onMesh fun m =>
    { m with gops := m.gops.map fun g => if g.tag = y.arg % 256 ∧ g.op = bits y.arg 15 8 ∧ !g.got.contains y.origin then { g with got := g.got ++ [y.origin] } else g }
/-- The window of a confirmed operation ends: who has not confirmed (R597). -/
def windowEnd (g : Gop) (s : State) : State :=
  let miss := maskOf 64 fun n => decide (n < s.cfg.mesh.nodes) && n != s.node && !g.got.contains n
  let s := s.onMesh fun m => { m with gops := m.gops.filter (· != g), miss := miss, evt := if miss = 0 then m.evt else setBit m.evt 4 }
  let s := if miss = 0 then s else s.event 0x0883 (le 1 g.op ++ le 1 g.tag ++ le 4 miss)
  if g.op = 1 then
    match s.host.opens.find? fun o => o.kind == 6 && o.arg == g.tag with
    | some o => s.answerOpen o {}
    | none => s
  else s

/-! ## Barriers (R598) -/

/-- Every node whose route to node 0 passes through this one has arrived, and the head's symbol has come. -/
def barReady (s : State) (l : List Nat) : Bool := l.contains 0 && s.cfg.mesh.behind.all l.contains
/-- This node arrives, once it may. -/
def barTry (s : State) : State :=
  match s.mesh.bar with
  | some (n, l, _) =>
    if s.barReady l && !l.contains s.node then
      (s.onMesh fun m => { m with bar := m.bar.map fun b => (b.1, b.2.1 ++ [s.node], b.2.2), barSentAt := s.now }).sendSymbol 2 n
    else s
  | none => s
/-- The head releases the barrier once every node has arrived. -/
def barDone (s : State) : State :=
  match s.mesh.bar with
  | some (n, l, _) =>
    if s.isHead && (List.range s.cfg.mesh.nodes).all l.contains then
      let s := (s.onMesh fun m => { m with bar := none }).sendSymbol 3 n
      match s.host.opens.find? fun o => o.kind == 3 with
      | some o => s.answerOpen o {}
      | none => s
    else s
  | none => s
/-- BAR_ARRIVE of a node. -/
def barArrive (y : Sym) (s : State) : State :=
  let n := y.arg % 65536
  let known := match s.mesh.bar with | some b => b.1 == n | none => false
  if s.isHead && !known then s
  else
    let s := s.onMesh fun m => { m with bar := match m.bar with
      | some b => if b.1 = n then some (n, (if b.2.1.contains y.origin then b.2.1 else b.2.1 ++ [y.origin]), b.2.2) else some (n, [y.origin], s.now)
      | none => some (n, [y.origin], s.now) }
    if s.isHead then s.barDone else s.barTry
end State
open State

/-! ## Rows -/

/-- DISC_SEND: every 100 us on each used port. -/
def execDiscSend (t : Nat) (s : State) : Host.Outcome State Fault Refusal :=
  .next (s.runIf t (fun s => decide (s.mesh.discAt + 100 * Config.us ≤ s.now)) fun s =>
    (s.onMesh fun m => { m with discAt := s.now }).portsPut s.discPorts 7 (.disc s.discData))
/-- DISC_RECEIVE. -/
def execDiscReceive (t : Nat) (x : PortRx) (d : DiscData) (s : State) : Host.Outcome State Fault Refusal :=
  .next (s.run t (meshIn x 7 fun _ _ => discTake x.port d))
/-- MESH_ACK: 0 taken, 1 duplicate; 2, no room, leaves the frame to be sent again. -/
def execMeshAck (t : Nat) (x : PortRx) (seq status : Nat) (s : State) : Host.Outcome State Fault Refusal :=
  .next (s.run t (meshIn x 2 fun h _ => meshEpoch h.src h.epoch fun s =>
    let s := s.heard h.src; if status < 2 then s.dataAcked h.src seq else s))
/-- DATA_RETRANSMIT. -/
def execDataRetransmit (t : Nat) (node : Nat) (s : State) : Host.Outcome State Fault Refusal :=
  .next (s.runIf t (fun s => s.convUp node && !(s.overdue node).isEmpty) (resend node))
/-- NODE_SILENT: nothing heard for 1 ms; what an unheard node last told is forgotten. -/
def execNodeSilent (t : Nat) (node : Nat) (s : State) : Host.Outcome State Fault Refusal :=
  .next (s.runIf t (fun s => decide ((s.conv node).heardAt + Config.ms ≤ s.now)) fun s =>
    if s.convUp node then s.convLost node 1 else s.onConv node fun c => { c with disc := none })
/-- EMPTY_DATA_SEND: an idle conversation, every 100 us. -/
def execEmptyDataSend (t : Nat) (node : Nat) (s : State) : Host.Outcome State Fault Refusal :=
  .next (s.runIf t
    (fun s => let c := s.conv node; s.convUp node && c.out.isEmpty && c.queue.isEmpty && decide (c.sentAt + 100 * Config.us ≤ s.now))
    (dataSend node .empty))
/-- ISOLATED: node 0 LOST for ISO_MS; the policy acts from the next boundary, where it is journalled (R592). -/
def execIsolated (t : Nat) (s : State) : Host.Outcome State Fault Refusal :=
  .next (s.runIf t
    (fun s => s.inForce && s.node != 0 && !s.mesh.isolated && (s.conv 0).st == 2 && decide ((s.conv 0).lostAt + s.cfg.mesh.isoMs * Config.ms ≤ s.now))
    fun s =>
      let s := (s.onMesh fun m => { m with isolated := true }).onModeQ fun q => { q with lossSched := q.lossSched ++ [s.perPlus 1] }
      (s.event 0x0882 []).emit (.msix 39))
/-- TIME_FRAME. -/
def execTimeFrame (t : Nat) (x : PortRx) (cnt t1 cnt4 t4 : Nat) (s : State) : Host.Outcome State Fault Refusal :=
  .next (s.runIf t (·.inForce) (meshIn x 5 fun _ _ => timeTake x.port cnt t1 cnt4 t4))
/-- PORT_DOWN_UP: the port as its lanes now stand. -/
def execPortDownUp (t : Nat) (p : Nat) (s : State) : Host.Outcome State Fault Refusal :=
  .next (s.runIf t (fun _ => decide (p < 4)) (portChange p))
/-- LINK_FRAME, passed on by broadcast. -/
def execLinkFrame (t : Nat) (x : PortRx) (link : Nat) (up : Bool) (s : State) : Host.Outcome State Fault Refusal :=
  .next (s.runIf t (fun s => s.ownDesc.isSome) (meshIn x 8 fun _ _ => linkChange link up))
/-- MESH_TRIP_FLOOD. -/
def execMeshTripFlood (t : Nat) (x : PortRx) (s : State) : Host.Outcome State Fault Refusal :=
  .next (s.runIf t (portTakes · x.port) (each (portFloods x) fun f => floodIn x.port f.1 f.2))
/-- FLOOD_REPEAT. -/
def execFloodRepeat (t : Nat) (s : State) : Host.Outcome State Fault Refusal :=
  .next (s.runIf t (fun s => s.cfg.mesh.shape != 0 && s.flooding && s.floodDue) floodStart)
/-- BAR_ARRIVE. -/
def execBarArrive (t : Nat) (x : PortRx) (s : State) : Host.Outcome State Fault Refusal :=
  .next (s.run t (symbolIn 2 x fun y s => (s.barArrive y, true)))
/-- BAR_RELEASE. -/
def execBarRelease (t : Nat) (x : PortRx) (s : State) : Host.Outcome State Fault Refusal :=
  .next (s.run t (symbolIn 3 x fun y s =>
    (s.onMesh fun m => { m with bar := m.bar.filter fun b => b.1 != y.arg % 65536 }, true)))
/-- BAR_ARRIVE_RESEND: every 1 us until the release comes. -/
def execBarArriveResend (t : Nat) (s : State) : Host.Outcome State Fault Refusal :=
  .next (s.runIf t
    (fun s => match s.mesh.bar with | some (_, l, _) => l.contains s.node && decide (s.mesh.barSentAt + Config.us ≤ s.now) | none => false)
    fun s => match s.mesh.bar with
      | some (n, _, _) => (s.onMesh fun m => { m with barSentAt := s.now }).sendSymbol 2 n
      | none => s)
/-- BARRIER_TIMEOUT: the lowest node that has not arrived is named (R598). -/
def execBarrierTimeout (t : Nat) (s : State) : Host.Outcome State Fault Refusal :=
  .next (s.runIf t (fun s => match s.mesh.bar with | some (_, _, a) => s.isHead && decide (a + 100 * Config.us ≤ s.now) | none => false) fun s =>
    match s.mesh.bar with
    | none => s
    | some (_, l, _) =>
      let n := ((List.range s.cfg.mesh.nodes).find? fun n => !l.contains n).getD 0
      let s := s.onMesh fun m => { m with bar := none }
      match s.host.opens.find? fun o => o.kind == 3 with
      | some o => s.openUnknown o 0x0F n
      | none => s)
/-- SNAP. -/
def execSnap (t : Nat) (x : PortRx) (s : State) : Host.Outcome State Fault Refusal :=
  .next (s.run t (symbolIn 4 x fun y s =>
    let a := s.near48 y.arg
    s.timed a (onMesh fun m => { m with snap := some (a, y.tag), snapT := a })))
/-- RESET. -/
def execResetSymbol (t : Nat) (x : PortRx) (s : State) : Host.Outcome State Fault Refusal :=
  .next (s.run t (symbolIn 5 x fun y s => let a := s.near48 y.arg; if bits y.arg 51 48 < 3 then s.timed a (resetPlan y a) else (s, false)))
/-- RESET_BLOCK. -/
def execResetBlockSymbol (t : Nat) (x : PortRx) (s : State) : Host.Outcome State Fault Refusal :=
  .next (s.run t (symbolIn 6 x fun y s => (s.resetBlock y, true)))
/-- MODE (R420). -/
def execModeSymbol (t : Nat) (x : PortRx) (s : State) : Host.Outcome State Fault Refusal :=
  .next (s.run t (symbolIn 7 x fun y s =>
    s.boundary (y.arg % M32) (onModeQ fun q => { q with sched := some { period := y.arg % M32, mode := bits y.arg 35 32 } })))
/-- LOSS (R127). -/
def execLossSymbol (t : Nat) (x : PortRx) (s : State) : Host.Outcome State Fault Refusal :=
  .next (s.run t (symbolIn 8 x fun y s => s.boundary (y.arg % M32) (onModeQ fun q => { q with lossSched := q.lossSched ++ [y.arg % M32] })))
/-- SAFE: reason PEER with the origin's node ID (R421). -/
def execSafeSymbol (t : Nat) (x : PortRx) (s : State) : Host.Outcome State Fault Refusal :=
  .next (s.run t (symbolIn 9 x fun y s => (s.onModeQ fun q => { q with peer := q.peer ++ [(y.arg % M32, y.origin)] }, true)))
/-- TLOAD_AT. -/
def execTloadAt (t : Nat) (x : PortRx) (s : State) : Host.Outcome State Fault Refusal :=
  .next (s.run t (symbolIn 0x0A x fun y s =>
    let a := s.near48 y.arg
    s.timed a (onClk fun c => { c with loadAt := some (y.origin, y.tag, a) })))
/-- TLOAD_VAL. -/
def execTloadVal (t : Nat) (x : PortRx) (s : State) : Host.Outcome State Fault Refusal :=
  .next (s.run t (symbolIn 0x0B x fun y s => (s.tloadVal y, true)))
/-- CONFIRM. -/
def execConfirm (t : Nat) (x : PortRx) (s : State) : Host.Outcome State Fault Refusal :=
  .next (s.run t (symbolIn 0x0C x fun y s => (s.confirmed y, true)))
/-- CONFIRM_WINDOW_EXPIRY: every window that has ended, in order. -/
def execConfirmWindowExpiry (t : Nat) (s : State) : Host.Outcome State Fault Refusal :=
  .next (s.run t fun s => each (s.mesh.gops.filter fun g => decide (g.endAt ≤ s.now)) windowEnd s)

/-! ## Words and commits from other nodes (R603, R304) -/
namespace State
/-- Input words of period n, kept for the latch of n + 1. -/
def wordsIn (n : Nat) (l : List (Nat × Word)) (s : State) : State :=
  let ks := l.map fun x => (n, x.1 / 512, x.1 % 512)
  s.onBnc fun b =>
    { b with meshIn := l.map (fun x => (n, x.1 / 512, x.1 % 512, x.2)) ++ b.meshIn.filter (fun (x : Nat × Nat × Nat × Word) => !ks.contains (x.1, x.2.1, x.2.2.1))
             meshNew := ks ++ b.meshNew }
/-- A group commit: from the group's owner it sets out for EDGE; from another node it is discarded (R304). -/
def wordCommit (n g : Nat) (l : List (Nat × Word)) (s : State) : State :=
  if (match s.group g with | some d => d.owner == Owner.mesh n | none => false) then
    s.commit { g := g, vals := l.foldl (fun v x => v.set x.1 x.2) (committedNow (s.grp g)), src := 2, node := n }
  else s.onEdg fun e => { e with owner := true }
end State
/-- WORD_FRAME_RECEIVE: a frame of another period than the present one is late. -/
def execWordFrameReceive (t : Nat) (x : PortRx) (s : State) : Host.Outcome State Fault Refusal :=
  .next (s.runIf t (·.inForce) (meshIn x 3 fun h pay => meshEpoch h.src h.epoch fun s =>
    let s := s.heard h.src
    let kind := field pay 4 1
    if field pay 0 4 ≠ s.per then s
    else if kind = 0 then s.wordsIn h.src (wordEntries pay)
    else if kind = 1 then s.wordCommit h.src (field pay 5 1) (wordEntries pay)
    else s))

end Sys2Proof.Machine
end

