-- ==== Sys2Proof/Machine/Pair.lean ====
section
/-! DEFINITION. The redundant pair: mirror, health, authority, takeover, handover (R614 to R645), but for what applies a mirrored command. -/
namespace Sys2Proof.Machine

/-- What synchronisation brings (R622), in whole tables. -/
structure SyncParts where
  /-- STATE and COEF words of each bench -/
  state : List (List Word) := []
  coef : List (List Word) := []
  loops : List Loop := []
  /-- tables of the repetitive controllers, whole -/
  tabs : List (List Word) := []
  chans : List (List Carry) := []
  outs : List Carry := []
  arms : List Arm := []
  therm : List ThermCell := []
  ctrl : Option Nat := none
  ctxs : List Ctx := []
  jnl : Jnl := {}
  /-- next SEQ to send and expected, per node -/
  seqs : List (Nat × Nat) := []
  deriving Inhabited

/-- What a page does to the parts: the formats of SYNC pages are not specified (R705), so it is a free value (log entry 37). -/
opaque syncPage : (page : Nat) → Bytes → SyncParts → SyncParts

namespace State

/-! ## Health of the partner (R624, R641) -/

/-- HEALTH_LOST for either member (R645). -/
def healthLost (word : Nat) (s : State) : State :=
  (s.onPair fun p => { p with evt := setBit p.evt 1 }).event 0x0983 (le 4 (word / 2 ^ 32))
/-- A check of a set per period: 2 mismatches within 16 periods clear its bit, 1,024 without one set it (R625). -/
def runCheck (bit_ : Nat) (ok : Bool) (hist : List Bool) (run : Nat) (s : State) : State :=
  if !ok then (if hist.any id then s.healthPut bit_ false else s) else if 1024 ≤ run + 1 then s.healthPut bit_ true else s
/-- SHADOW_MISMATCH record (R641). -/
def shadowEvent (g k : Nat) (s : State) : State := s.event 0x0984 (le 4 s.per ++ le 1 g ++ le 1 k)
/-- One period's comparison of the own reference sets (R625). -/
def shadowCheck (bad : Option (Nat × Nat)) (s : State) : State :=
  s.healthStep fun s =>
    let s := s.runCheck 58 bad.isNone s.pair.mismHist s.pair.shadowRun
    let s := s.onPair fun p =>
      { p with mismHist := (bad.isSome :: p.mismHist).take 15, shadowRun := if bad.isSome then 0 else p.shadowRun + 1
               shadowMism := if bad.isSome then sat16 p.shadowMism 1 else p.shadowMism, cleanRun := if bad.isSome then 0 else p.cleanRun }
    match bad with | some x => s.shadowEvent x.1 x.2 | none => s
/-- One period's comparison of the own SET_CRCs. What GROUP and SLOT its record gives is not stated (log entry 36). -/
def setCheck (ok : Bool) (s : State) : State :=
  s.healthStep fun s =>
    let s := s.runCheck 57 ok s.pair.setHist s.pair.setRun
    let s := s.onPair fun p =>
      { p with setHist := ((!ok) :: p.setHist).take 15, setRun := if ok then p.setRun + 1 else 0
               setMism := if ok then p.setMism else sat16 p.setMism 1, cleanRun := if ok then p.cleanRun else 0 }
    if ok then s else (s.shadowEvent (s.freeWord.toNat % 256) (s.freeWord.toNat / 256 % 256)).drawn
/-- First slot in which the own bench outputs differ from the references in REFS. -/
def shadowDiff (s : State) : Option (Nat × Nat) :=
  s.benchCommits.findSome? fun f =>
    let c := committedNow (s.grp f.g)
    ((List.range f.vals.length).find? fun k => at' f.vals k 0 != at' c k 0).map fun k => (f.g, k)

/-! ## ADC_OK (R625) -/

/-- Input words of ADC channels and sieves with a tolerance: bench, word, tolerance. -/
def tolWords (s : State) : List (Nat × Nat × Word) :=
  (List.range 16).flatMap fun b => (s.inputDecls b).filterMap fun p =>
    match p.2.src, p.2.tol with
    | .adc .., some t => some (b, p.1, t)
    | .sieve .., some t => some (b, p.1, t)
    | _, _ => none
/-- Own words against those of an INPUT frame. -/
def adcCheck (i : InputSet) (s : State) : State :=
  let bad := s.tolWords.filter fun x =>
    !F32.le (F32.abs (F32.sub (s.lm x.1 (0x7000 + 4 * x.2.1)) (at' (at' i.words x.1 []) x.2.1 0))) x.2.2
  let count (b w : Nat) : Nat := ((s.pair.adcBad.find? fun y => y.1 == b && y.2.1 == w).map (·.2.2)).getD 0 + 1
  let l := bad.map fun x => (x.1, x.2.1, count x.1 x.2.1)
  s.healthStep fun s =>
    let s := s.onPair fun p => { p with adcBad := l, adcRun := if bad.isEmpty then p.adcRun + 1 else 0 }
    if l.any fun x => decide (16 ≤ x.2.2) then s.healthPut 54 false
    else if 16 ≤ s.pair.adcRun then s.healthPut 54 true else s

/-! ## Mirror (R618 to R622) -/

/-- This member takes what the ACTIVE mirrors. -/
def mirrored (s : State) : Bool := s.inForce && s.cfg.topo.pair && (s.pair.st == 2 || s.pair.st == 3)
/-- Mode and set-points of REFS at a STANDBY. -/
def refsMode (r : RefsFrame) (s : State) : State :=
  (s.modeTo r.mode true).onMode fun m =>
    { m with target := r.target, sub := r.sub, reason := r.safeReason, cls := causeClass r.safeReason,
             sps := m.sps.mapIdx fun k p => match r.sps[k]? with | some v => { p with x := v.1, r := v.2 } | none => p }
/-- References and rankings of REFS. -/
def refsSets (r : RefsFrame) (s : State) : State :=
  let s := s.onEdg fun e =>
    { e with grps := e.grps.mapIdx fun g x => match r.refs.find? (·.1 == g) with | some v => { x with committed := v.2, cut := none } | none => x }
  s.onComp fun k => { k with ranks := r.ranks, fresh := r.ranks.map (·.1) }
/-- A REFS frame, the heartbeat. -/
def refsTake (r : RefsFrame) (s : State) : State :=
  let s := s.onPair fun p => { p with refsAt := some s.now }
  match s.pair.st with
  | 4 => if later 16 r.epoch s.seam.epoch then s.fence 0 r.epoch else s
  | 1 | 5 | 6 => (s.syncBegin).onPair fun p => { p with refs := some r }
  | 2 | 3 =>
    let own := s.pair.setCrcs
    let s := s.onPair fun p => { p with refs := some r }
    let s := if later 16 r.epoch s.seam.epoch then s.epochTo r.epoch else s
    let s := (s.refsMode r).refsSets r
    let s := if own.isEmpty ∨ s.pair.st ≠ 3 then s else s.setCheck (own == r.setCrcs)
    if r.mirrorOff ∨ later 32 r.mirrorNo s.pair.got then s.healthStep (healthPut 62 false) else s
  | _ => s
/-- The journal entry is that of an acknowledged command; SESSION_OPEN's carries the session it opened, RESUME's LAST_SEQ. -/
def recordsCmd (e : JEntry) (c : CmdFrame) : Bool :=
  c.opcode == e.opcode && (if c.opcode = 4 then field c.payload 0 4 else c.h.seq) == e.seq && (c.opcode == 1 || c.h.sess == e.sess)
/-- A mirrored record's number is consumed, and those before it that the ACTIVE refused; SESSION_OPEN and RESUME are not
sequenced (R146). -/
def seqCarry (op sess seq : Nat) (s : State) : State :=
  if op = 1 ∨ op = 4 then s
  else s.onCtx (ctxOf sess) fun x =>
    if x.st = 0 ∨ x.sess ≠ sess then x
    else let e := (seq + 1) % M32; { x with e := e, consumed := x.consumed + serialDiff 32 e x.e }
/-- A mirrored command's number and completion are the session's own (R142, R632). -/
def cmdCarry (c : CmdFrame) (e : JEntry) (s : State) : State :=
  if c.opcode = 1 ∨ c.opcode = 4 then s
  else
    (s.seqCarry c.opcode c.h.sess c.h.seq).cacheCpl (ctxOf c.h.sess) (recCrc c.h c.opcode c.payload)
      { sess := c.h.sess, status := if e.result = 4 then 7 else e.result, code := if e.result = 4 then 0x0F else 0, seq := c.h.seq,
        opcode := c.opcode, late := e.flags.testBit 0, exp := (c.h.seq + 1) % M32, jidx := some e.index, period := e.effPeriod }
/-- What the ACTIVE scheduled takes effect here at the boundary that its entry names (R92, R420, R621). -/
def landCarry (e : JEntry) (s : State) : State :=
  if e.result ≠ 2 then s
  else if e.opcode = 0x0109 then s.onImg fun i => if i.swapSt = 3 then { i with swapPer := e.effPeriod, swapLate := e.flags.testBit 0 } else i
  else if e.opcode = 0x0201 then s.onModeQ fun q => { q with sched := q.sched.map fun x => { x with period := e.effPeriod } }
  else s
/-- A mirrored journal entry: the ring follows the ACTIVE's (R142, R622); a record that went to another node consumed its
number too. -/
def jnlTake (e : JEntry) (s : State) : State :=
  let s := s.onJnl fun j => { jPut j e with next := e.index + 1 }
  let s := match s.pair.cmds.find? (recordsCmd e) with
    | some c => s.cmdCarry c e
    | none => if e.src < 3 ∧ e.flags.testBit 2 then s.seqCarry e.opcode e.sess e.seq else s
  (s.landCarry e).onPair fun p => { p with gotJnl := e.index + 1, cmds := p.cmds.filter fun c => !recordsCmd e c }
/-- Words and flags of an INPUT set put in place of the own ones (R620). -/
def inputUse (i : InputSet) (s : State) : State :=
  let s := s.onMode fun m => { m with vars := i.vars }
  each s.liveBenches (fun b s => s.putInputs b (at' i.words b []) (at' i.stale b [])) s
/-- The STANDBY's benches start, on INPUT where it is whole, else on the own set. -/
def standbyStart (s : State) : State :=
  match s.pair.input with
  | some i => if i.period = s.per then (s.inputUse i).benchesStart else (s.onPair fun p => { p with ownCnt := sat32 p.ownCnt 1 }).benchesStart
  | none => (s.onPair fun p => { p with ownCnt := sat32 p.ownCnt 1 }).benchesStart
/-- This period ran on INPUT. -/
def onInput (s : State) : Bool := match s.pair.input with | some i => i.period == s.per | none => false
/-- HEALTH to the ACTIVE (R618). -/
def sendHealth (s : State) : State :=
  s.pairSend (.health { word := s.healthWord, ackCmd := s.pair.got, ackJnl := s.pair.gotJnl, armed := armedId s, marks := s.ownMarks })

/-! ## Authority changes (R628 to R634) -/

/-- Sessions at a member that takes authority (R632): BINDING with the lease restarted. -/
def sessionsCarry (s : State) : State :=
  s.onHost fun h => { h with ctxs := h.ctxs.map fun x => if x.st = 1 ∨ x.st = 2 then { x with st := 1, leaseEnd := s.now + h.leaseMs * Config.ms } else x }
/-- Entries of commands acknowledged whose JNL frame never came (R632). -/
def entriesCarry (s : State) : State :=
  each s.pair.cmds (fun c s =>
    let e : JEntry := { s.entryOf c.h c.opcode c.payload with time := c.acceptTime, effPeriod := s.per, index := s.jnl.next }
    let e := if c.opcode = 1 then { e with sess := (s.ctx (field c.payload 0 1)).sess } else if c.opcode = 4 then { e with seq := field c.payload 0 4 } else e
    (s.jAdd e true).cmdCarry c e)
    (s.onPair fun p => { p with cmds := [] })
/-- The records of a change of authority: its epoch and cause, the first edge period under it. -/
def takeRecords (e cause m : Nat) (s : State) : State :=
  let s := s.onPair fun p => { p with takePer := m, evt := setBit p.evt 4 }
  (s.jEventAt m 0x00F5 e).event 0x0980 (le 2 e ++ le 1 cause ++ le 1 0 ++ le 4 m)
/-- A STANDBY claims authority at its compile (R631): it commits its own bench outputs and compiles from them. -/
def claim (cause : Nat) (s : State) : State :=
  let e := (s.seam.epoch + 1) % 65536
  let m := s.perPlus 1
  let s := (s.onPair fun p => { p with st := 4, heartbeat := true, mirror := false, mirrorOff := false, handover := none, resigned := none, peerAt := none, peerHealthy := false,
                                       hand := false }).epochTo e
  let s := each s.benchCommits land s
  let s := (s.entriesCarry.sessionsCarry).takeRecords e cause m
  heartbeat s (s.compile [] [])
/-- Edge frames of the partner for this edge period or the next were seen. -/
def partnerShips (s : State) : Bool := s.pair.edgeSeen.any fun x => x.2 == s.per || x.2 == s.perPlus 1
/-- A STANDBY loses its partner's heartbeat but still sees its frames (R628, R637). -/
def detach (s : State) : State :=
  let s := s.healthStep fun s => (s.onPair fun p => { p with st := 5, handover := none, resigned := none, evt := setBit p.evt 2 }).healthPut 62 false
  s.event 0x0982 []
/-- The compile of a STANDBY (R620): from REFS, or none; takeover, or detachment, where their conditions hold (R630). -/
def standbyCompile (s : State) : State :=
  let whole := match s.pair.refs with | some r => r.period == s.per | none => false
  let miss (s : State) : State :=
    (s.onPair fun p => { p with hbMiss := sat32 p.hbMiss 1, missRun := p.missRun + 1, evt := setBit p.evt 0, setCrcs := [] }).onComp fun k =>
      { k with done := false, cells := [], locals := [], slow := [] }
  let s := if whole then s.onPair fun p => { p with missRun := 0 } else miss s
  if s.pair.resigned.isSome && s.healthy then s.claim 1
  else if whole then
    let s := if s.onInput then s.shadowCheck s.shadowDiff else s
    let s := s.compile [] []
    (s.onPair fun p => { p with setCrcs := s.cellCrcs }).sendHealth
  else if 2 ≤ s.pair.missRun then
    if s.partnerShips then s.detach
    else if s.healthy then s.claim 0
    else s.sendHealth
  else s.sendHealth
/-- Last sign of the partner. -/
def lastSign (s : State) : Nat := max s.pair.since (max (s.pair.refsAt.getD 0) (s.pair.edgeAt.getD 0))
/-- A handover is scheduled for a boundary. -/
def handoverAt (h : Nat) (s : State) : State := (s.onPair fun p => { p with handover := some h }).pairSend (.handover h)
/-- The boundary of a handover (R634). -/
def handoverTake (s : State) : State :=
  let m := s.perPlus 1
  let s := s.onPair fun p => { p with handover := none, fbFrom := none, hand := true, takePer := m, evt := setBit p.evt 5 }
  if s.pair.st = 3 then
    let e := (s.seam.epoch + 1) % 65536
    let s := (s.onPair fun p => { p with st := 4, heartbeat := true, mirror := true, mirrorOff := false, sent := p.got, acked := p.got, peerAt := some s.now, peerHealthy := false }).epochTo e
    (s.entriesCarry.sessionsCarry).takeRecords e 2 m
  else
    s.dropFlight.heldOut.healthStep fun s => (s.onPair fun p => { p with st := 3, mirror := false, got := p.sent, gotJnl := s.jnl.next }).healthPut 62 true
/-- Synchronisation ends at a boundary: the member is STANDBY; the ACTIVE mirrors from there (R622). -/
def syncEnd (s : State) : State :=
  if s.pair.st = 2 then
    s.healthStep fun s => (s.onPair fun p => { p with st := 3, got := (p.refs.map (·.mirrorNo)).getD p.got, cmds := [], missRun := 0 }).healthPut 62 true
  else if s.pair.st = 4 ∧ s.pair.syncOut then s.onPair fun p => { p with syncOut := false, mirror := true, mirrorOff := false, holding := false, acked := p.sent, flight := [], peerAt := some s.now }
  else s
/-! ## SYNC pages (R622) -/

/-- The parts as this member holds them. -/
def syncOf (s : State) : SyncParts :=
  { state := (List.range 16).map fun b => Sparse.gets 0 (s.bench b).mem (0x8800 / 4) 7168
    coef := (List.range 16).map fun b => Sparse.gets 0 (s.bench b).mem (0x6000 / 4) 512
    loops := s.bnc.loops
    tabs := s.bnc.loops.map fun l => Sparse.gets 0 l.tab 0 4096
    chans := s.edg.chans, outs := s.edg.lpwm.map (·.carry), arms := s.bal.arms, therm := s.bal.cells, ctrl := s.host.ctrl
    ctxs := s.host.ctxs, jnl := s.jnl, seqs := s.mesh.convs.map fun c => (c.seq, c.exp) }
/-- The parts put in place. -/
def syncPut (x : SyncParts) (s : State) : State :=
  let words (m : List (Nat × Word)) (a n : Nat) (l : List Word) : List (Nat × Word) := Sparse.putAll 0 (Sparse.clear a (a + n) m) a (l.take n)
  let s := s.onBnc fun b =>
    { b with
      benches := b.benches.mapIdx fun i y => { y with mem := words (words y.mem (0x8800 / 4) 7168 (at' x.state i [])) (0x6000 / 4) 512 (at' x.coef i []) }
      loops := b.loops.mapIdx fun i _ => { at' x.loops i {} with tab := words [] 0 4096 (at' x.tabs i []) } }
  let s := s.onEdg fun e => { e with chans := e.chans.mapIdx fun c _ => at' x.chans c [], lpwm := e.lpwm.mapIdx fun j y => { y with carry := at' x.outs j {} } }
  let s := s.onBal fun b => { b with arms := b.arms.mapIdx fun a _ => at' x.arms a {}, cells := b.cells.mapIdx fun c _ => at' x.therm c {} }
  let s := (s.onHost fun h => { h with ctrl := x.ctrl, ctxs := h.ctxs.mapIdx fun c _ => at' x.ctxs c {} }).onJnl fun _ => x.jnl
  s.onMesh fun m => { m with convs := m.convs.mapIdx fun n c => { c with seq := (at' x.seqs n (c.seq, c.exp)).1, exp := (at' x.seqs n (c.seq, c.exp)).2 } }
/-- A page arrives: a STANDBY it reaches synchronises afresh. -/
def syncTake (page : Nat) (b : Bytes) (s : State) : State :=
  let s := if s.pair.st = 3 then s.syncBegin else s
  s.syncPut (syncPage page b s.syncOf)
end State
open State

/-! ## Rows -/

/-- INPUT. -/
def execInput (t : Nat) (p : PortRx) (i : InputSet) (s : State) : Host.Outcome State Fault Refusal :=
  .next (s.runIf t mirrored (pairIn p fun s =>
    let s := if i.period = s.per ∧ s.pair.st = 3 then s.adcCheck i else s
    s.onPair fun p => { p with input := some i }))
/-- REFS. -/
def execRefs (t : Nat) (p : PortRx) (r : RefsFrame) (s : State) : Host.Outcome State Fault Refusal :=
  .next (s.runIf t (fun s => s.inForce && s.cfg.topo.pair) (pairIn p (refsTake r)))
/-- JNL. -/
def execJnl (t : Nat) (p : PortRx) (e : JEntry) (s : State) : Host.Outcome State Fault Refusal := .next (s.runIf t mirrored (pairIn p (jnlTake e)))
/-- RESIGN: a healthy STANDBY claims at its next compile. -/
def execResign (t : Nat) (p : PortRx) (cause : Nat) (s : State) : Host.Outcome State Fault Refusal :=
  .next (s.runIf t (fun s => s.mirrored && s.pair.st == 3) (pairIn p (onPair fun p => { p with resigned := some cause })))
/-- HANDOVER. -/
def execHandover (t : Nat) (p : PortRx) (h : Nat) (s : State) : Host.Outcome State Fault Refusal :=
  .next (s.runIf t (fun s => s.mirrored && s.pair.st == 3) (pairIn p (onPair fun p => { p with handover := some h })))
/-- SYNC. -/
def execSync (t : Nat) (p : PortRx) (page : Nat) (bytes : Bytes) (s : State) : Host.Outcome State Fault Refusal :=
  .next (s.runIf t mirrored (pairIn p (syncTake page bytes)))
/-- SYNC_END: at the period boundary the ACTIVE named, no more than 200 ms after the start (R622). -/
def execSyncEnd (t : Nat) (s : State) : Host.Outcome State Fault Refusal :=
  .next (s.runIf t (fun s => s.timeline && s.cfg.topo.pair && s.cyc == 0 && decide (s.now ≤ s.pair.syncAt + 200 * Config.ms)) syncEnd)
/-- CMD_MIRROR_TIMEOUT: MIRROR_OFF, the commands are held (R621). -/
def execCmdMirrorTimeout (t : Nat) (s : State) : Host.Outcome State Fault Refusal :=
  .next (s.runIf t
    (fun s => s.pair.st == 4 && s.pair.mirror && (match s.pair.flight.head? with | some x => decide (x.2 + 2 * Config.us ≤ s.now) | none => false))
    (onPair fun p => { p with mirrorOff := true, mirror := false, holding := true }))
/-- STANDBY_BENCH_START: S(n) + 100 ns + SB_LAG. -/
def execStandbyBenchStart (t : Nat) (s : State) : Host.Outcome State Fault Refusal :=
  .next (s.runIf t (fun s => s.cfg.topo.pair && s.pair.st == 3 && s.lagged.atPoint 1 80) (underLag fun s => (s.reach 1).standbyStart))
/-- STANDBY_COMPILE: C(n) + SB_LAG. -/
def execStandbyCompile (t : Nat) (s : State) : Host.Outcome State Fault Refusal :=
  .next (s.runIf t
    (fun s => s.cfg.topo.pair && s.pair.st == 3 && s.lagged.atPoint 5 (s.kO + 32))
    fun s => s.landDue.underLag fun s => (s.reach 5).standbyCompile)
/-- FENCE: a later epoch on a frame (R629). -/
def execFence (t : Nat) (epoch : Nat) (s : State) : Host.Outcome State Fault Refusal :=
  .next (s.runIf t (fun s => s.pair.st == 4 && later 16 epoch s.seam.epoch) (fence 0 epoch))
/-- WAITING_TIMEOUT: 100 ms for member 0, 1.1 s for member 1. -/
def execWaitingTimeout (t : Nat) (s : State) : Host.Outcome State Fault Refusal :=
  .next (s.runIf t
    (fun s => s.inForce && s.pair.st == 1 && decide (s.lastSign + (if s.pair.member then 1100 else 100) * Config.ms ≤ s.now))
    takeStart)
/-- DETACHED_TIMEOUT: ACTIVE in SAFE, every session context closed (R628, R632). -/
def execDetachedTimeout (t : Nat) (s : State) : Host.Outcome State Fault Refusal :=
  .next (s.runIf t
    (fun s => s.inForce && (s.pair.st == 3 || s.pair.st == 5) && !s.healthy && decide (s.lastSign + 1100 * Config.ms ≤ s.now))
    fun s =>
      let s := (s.takeStart).onPair fun p => { p with takeSafe := true }
      let s := s.enterSafe 17 0xFFFF
      let before := s.ctrlSess
      (each ((List.range 32).filter fun c => (s.ctx c).st != 0) (fun c s => let x := (s.ctx c).sess; (s.closeCtx c).relockSession x) s).evControl before)
/-- An EDGE frame of the partner (R628, R630). -/
def State.partnerEdge (f : FrameHdr) (s : State) : State :=
  let s := s.onPair fun p => { p with edgeSeen := ((f.cell / 8, f.period) :: p.edgeSeen).take 64, edgeAt := some s.now }
  if s.pair.st = 4 ∧ later 16 f.epoch s.seam.epoch then s.fence 0 f.epoch
  else if s.pair.st = 1 ∧ !s.portUp 0 then s.onPair fun p => { p with st := 5 }
  else s
/-- PARTNER_EDGE_SEEN: EDGE frames on the path that the partner originates. -/
def execPartnerEdgeSeen (t : Nat) (x : LaneRx) (s : State) : Host.Outcome State Fault Refusal :=
  .next (s.runIf t (fun s => s.inForce && s.cfg.topo.pair && !s.ownsPath (rxPathA x.lane)) (seamIn x 1 fun f _ => State.partnerEdge f))
/-- HANDOVER_BOUNDARY: S(h). -/
def execHandoverBoundary (t : Nat) (s : State) : Host.Outcome State Fault Refusal :=
  .next (s.runIf t
    (fun s => s.timeline && s.cyc == 0 && (s.pair.st == 3 || s.pair.st == 4) &&
      s.pair.handover == some s.per)
    handoverTake)
/-- FAILBACK_HOLD_EXPIRY (R635). -/
def execFailbackHoldExpiry (t : Nat) (s : State) : Host.Outcome State Fault Refusal :=
  .next (s.runIf t
    (fun s => s.pair.st == 4 && s.pair.member && !s.pair.fbSuspend && s.pair.handover.isNone && s.cfg.topo.failbackHoldS != 0 && s.partnerHealthy &&
      (match s.pair.fbFrom with | some a => decide (a + s.cfg.topo.failbackHoldS * Config.sec ≤ s.now) | none => false))
    fun s => s.handoverAt (s.perPlus 16))

/-! ## Commands (R639, R640) -/

/-- Synchronisation is running. -/
def State.syncing (s : State) : Bool := s.pair.syncOut || s.pair.st == 2
/-- PAIR_SWITCH. -/
def cmdPairSwitch : Cmd where
  opcode := 0x0901
  lens := (· == 4)
  fields := fun h _ _ => firstBad [target0 h]
  block := fun _ p s =>
    let n := field p 0 4
    blockCause
      [(!s.cfg.topo.pair, 1), (!s.partnerHealthy, 2), (s.pair.handover.isSome || s.syncing, 3), (!s.portUp 0, 4),
       (n != 0 && !decide (16 ≤ serialDiff 32 n s.per ∧ serialDiff 32 n s.per < 2 ^ 31), 5)]
  act := fun _ p s =>
    let h := if field p 0 4 = 0 then s.perPlus 16 else field p 0 4
    (s.handoverAt h, { status := 2, per := some ((h + 1) % M32) })
/-- PAIR_FAILBACK. The causes PAIR_BUSY and PAIR_LINK name no command, so they refuse this one too (log entry 218). -/
def cmdPairFailback : Cmd where
  opcode := 0x0902
  lens := (· == 4)
  fields := fun h p _ => firstBad [target0 h, (decide (1 < field p 0 1), 0), zeros p 1 3]
  block := fun _ _ s => blockCause [(!s.cfg.topo.pair, 1), (s.pair.handover.isSome || s.syncing, 3), (!s.portUp 0, 4)]
  act := fun _ p s => (s.onPair fun x => { x with fbSuspend := field p 0 1 == 0 }, {})
/-- PAIR_RESYNC. -/
def cmdPairResync : Cmd where
  opcode := 0x0903
  lens := noPayload
  fields := fun h _ _ => firstBad [target0 h]
  block := fun _ _ s => blockCause [(!s.cfg.topo.pair, 1), (s.pair.handover.isSome || s.syncing, 3), (!s.portUp 0, 4)]
  act := fun _ _ s => (s.syncSend, { status := 1 })
/-- PAIR_SWITCH. -/
def execPairSwitch (t : Nat) (h : RecHdr) (period : Nat) (s : State) : Host.Outcome State Fault Refusal :=
  .next (hostRow cmdPairSwitch t h (le 4 period) s)
/-- PAIR_FAILBACK. -/
def execPairFailback (t : Nat) (h : RecHdr) (enable : Nat) (s : State) : Host.Outcome State Fault Refusal :=
  .next (hostRow cmdPairFailback t h (le 1 enable ++ le 3 0) s)
/-- PAIR_RESYNC. -/
def execPairResync (t : Nat) (h : RecHdr) (s : State) : Host.Outcome State Fault Refusal := .next (hostRow cmdPairResync t h [] s)

end Sys2Proof.Machine
end

