-- ==== Sys2Proof/Machine/Sram.lean ====
section
/-! DEFINITION. Errors of on-chip SRAM by region, and the background scrub (R29 to R31, R74, R141, R331, R363, R712 to R714). -/
namespace Sys2Proof.Machine
namespace State

/-- Domain of a region of R29 (R713). -/
def regionDom (r : Nat) : Nat := at' [7, 8, 5, 5, 5, 5, 5, 5, 6, 6, 6, 6, 6, 6] r 1
/-- Two fresh free words in a word of 64 bits of bench local memory. -/
def freePair (b addr : Nat) (s : State) : State :=
  let u := s.freeWord
  let s := s.drawn
  (s.lmPut b addr [u, s.freeWord]).drawn
/-- Bench local memory (R331): PROG and CONST are copied again, IN, OUT and UNIT replaced later, COEF and STATE lost. -/
def benchEcc (b local_ : Nat) (s : State) : State :=
  if local_ < 0x6000 then s.benchFault b 28 false
  else
    let s := s.freePair b local_
    if local_ < 0x6800 ∨ 0x8800 ≤ local_ ∧ local_ < 0xF800 then s.benchDead b else s.benchFault b 28 false
/-- CORRUPT with reason ECC at a byte of an image: SECT is the section that holds it (R99). -/
def eccBad (b : Bytes) (ofs : Nat) : Option Image.Bad := Image.corrupt 0x1E ofs (Image.sectAt b ofs)
/-- A validation fails with state CORRUPT and reason ECC (R74). -/
def valEcc (ofs : Nat) (s : State) : State :=
  match s.img.val with
  | some v => s.valEnds v (v.desc.getD {}) [] (eccBad (s.valBytes v).1 ofs)
  | none => s
/-- An arming reads the load buffer: an error there fails the candidate with ECC (R74, R87). -/
def armEcc (ofs : Nat) (s : State) : State :=
  match s.img.swap with
  | some c =>
    let r := eccBad (s.imageCheck c.source c.len).1 ofs
    (s.onImg fun i => { i with diagSect := (r.map (·.sect)).getD 0, diagOfs := (r.map (·.ofs)).getD 0 }).swapEnds 5 0x1E
  | none => s
/-- The image working copy. It holds the image in force, or a MISMATCH image, from its first byte, and behind it what a
validation or a hot swap keeps there (log entry 180): an error in the image makes it CORRUPT (R29, R76); one behind it fails
the validation (R74), or cancels the swap with STAGE_ECC (R91). -/
def workEcc (ofs : Nat) (s : State) : State :=
  let n := if s.inForce then s.img.workLen else match s.img.held with | some h => if s.img.val.isSome then 0 else h.2.2.2 | none => 0
  if ofs < n then
    let b := if s.inForce then s.workBytes else match s.img.held with | some h => cellBytes h.2.2.1 0 0 h.2.2.2 | none => []
    ((s.imgReason (eccBad b ofs)).hostWait 2).onImg fun i => { i with held := none }
  else if s.img.val.isSome then s.valEcc (ofs - n)
  else s.swapCancel 0x4A
/-- The reference and edge-set buffers: the frames waiting are not sent, nor, before C(n), those that period n's compile
makes; the cells hold (log entry 174). -/
def edgeEcc (s : State) : State :=
  (if s.reached 5 then s else s.onComp fun k => { k with ecc := s.absPer }).edgeDrop
/-- A cell's context and FEED store, 4 KiB a cell: LOST. Its REASON is not stated (log entry 38). -/
def contextEcc (c : Nat) (s : State) : State :=
  if [0, 4, 5, 6].contains (s.cell c).st then s else (s.lose c (s.freeWord.toNat % 17)).drawn
/-- Gain-schedule, loss and VCE tables: the entry is copied again; what the period reads it for keeps its previous value. An error in the bank that a swap fills cancels it (R91); which
half of the region is in force first is not stated either (log entry 180). -/
def tableEcc (ofs : Nat) (s : State) : State := if ofs / 524288 % 2 ≠ s.img.bank then s.swapCancel 0x4A else s.tableLost
/-- Mesh buffers: a conversation repeats its transfer (R29). Which one lies at the address is not stated (log entry 38). -/
def meshEcc (s : State) : State :=
  let n := s.freeWord.toNat % 64
  let s := s.drawn
  if s.convUp n then s.sendAgain n (s.conv n).out else s
/-- A journal entry (R141). -/
def journalEcc (slot : Nat) (s : State) : State :=
  match s.jnl.ring.find? fun e => e.index % 8192 == slot with
  | some e =>
    s.onJnl fun j => { j with ring := j.ring.map (fun x => if x.index == e.index then { x with damaged := true } else x), dmg := e.index, damaged := true }
  | none => s
/-- The quiet NaN a lost trace sample reads as (R363). -/
def lostSample : Word := 0x7FC00001
/-- Two samples of the trace ring are lost: row k lies in the slots of its number modulo the rows the memory holds. -/
def traceEcc (ofs : Nat) (s : State) : State :=
  let t := s.bnc.trace
  let p := t.probes + 1
  let rt := traceRows t
  let lose (w : Nat) (rows : List (List Word)) : List (List Word) :=
    rows.mapIdx fun i r => if (t.count - 1 - i) % rt = w / p then r.set (w % p) lostSample else r
  s.onTrace fun t => { t with rows := lose (ofs / 4 + 1) (lose (ofs / 4) t.rows), invalid := true }
/-- The load buffer lies in the trace memory: a validation or an arming from it fails (R74), else eight bytes are lost. -/
def bufferEcc (ofs : Nat) (s : State) : State :=
  if (match s.img.val with | some v => v.source == 2 && v.desc.isNone | none => false) then s.valEcc ofs
  else if s.img.swapSt == 1 && (match s.img.swap with | some c => c.source == 2 | none => false) then s.armEcc ofs
  else
    let u := s.freeWord
    let s := s.drawn
    let v := s.freeWord
    s.drawn.onImg fun i => { i with buf := Sparse.putAll 0 i.buf ofs (le 4 u.toNat ++ le 4 v.toNat) }
/-- The owner of damaged completion cache is parked; where contexts lie is not stated (log entry 38). -/
def cacheEcc (s : State) : State :=
  let c := s.freeWord.toNat % 32
  let s := s.drawn
  if (s.ctx c).st = 1 ∨ (s.ctx c).st = 2 then s.park c else s
/-- Pair mirror buffers: synchronisation starts afresh. -/
def mirrorEcc (s : State) : State :=
  if s.pair.st = 2 ∨ s.pair.st = 3 then s.syncBegin else if s.role = 1 && s.pair.mirror then s.syncSend else s
/-- Balancing and thermal state: the estimates restart from the NTC and the cell is derated (R391). Which cell the
word belongs to is not stated (log entry 38). -/
def thermEcc (s : State) : State :=
  let c := s.freeWord.toNat % 128
  let s := s.drawn
  let s := s.onBal fun b => { b with flt := setBit b.flt 26, fltCell := c }
  if s.thermCells.contains c then (s.thermRestart c).onTherm c fun x => { x with restart := true, restartAt := s.now } else s
/-- What a region's uncorrectable error does (R29). -/
def regionEcc (r b ofs : Nat) (s : State) : State :=
  match r with
  | 0 => s.benchEcc b (ofs % 65536)
  | 1 => s.benchEcc b (ofs % 65536)
  | 2 => s.workEcc ofs
  | 3 => s.edgeEcc
  | 4 => s.contextEcc (ofs / 4096)
  | 5 => s.tableEcc ofs
  | 6 => s.onLoop (ofs / 16384) fun l => { l with tab := [] }
  | 7 => s.journalEcc (ofs / 64)
  | 8 => if s.img.bufOpen then s.bufferEcc ofs else s.traceEcc ofs
  | 9 => s.onImg fun i => { i with fwRun := false }
  | 10 => s.cacheEcc
  | 11 => s.meshEcc
  | 12 => s.mirrorEcc
  | 13 => s.thermEcc
  | _ => s
/-- Report and handle an uncorrectable error (R30, R712 to R714). -/
def sramUe (r b ofs : Nat) (s : State) : State :=
  let o := ofs / 8 * 8 % 2 ^ 23
  let s := s.onSys fun y => { y with eccUe := true, ueCnt := sat32 y.ueCnt 1, region := r, ueBench := if r < 2 then b % 16 else 0, ueOfs := o }
  s.regionEcc r (b % 16) o
/-- A corrected error is counted (R30, R708, R712). -/
def sramCe (r b : Nat) (s : State) : State :=
  let s := s.onSys fun y => { y with eccCe := true }
  if r < 2 then s.onBench (b % 16) fun x => { x with ecc := sat32 x.ecc 1 }
  else s.onSys fun y => { y with ceCnt := sat32 y.ceCnt 1, ceSat := y.ceSat || decide (4294967295 ≤ y.ceCnt + 1) }
end State
open State

/-- SRAM_UNCORRECTABLE_ERROR: bench for the regions of bench local memory, offset the byte in the region. -/
def execSramUncorrectableError (t : Nat) (region bench offset : Nat) (s : State) : Host.Outcome State Fault Refusal :=
  .next (s.runIf t (fun s => decide (region < 14) && s.pwr.dom.testBit (regionDom region - 1)) (sramUe region bench offset))
/-- SRAM_CORRECTED_ERROR. -/
def execSramCorrectedError (t : Nat) (region bench : Nat) (s : State) : Host.Outcome State Fault Refusal :=
  .next (s.runIf t (fun s => decide (region < 14) && s.pwr.dom.testBit (regionDom region - 1)) (sramCe region bench))
/-- SCRUB_PASS: a pass ends, in RUN and IDLE. -/
def execScrubPass (t : Nat) (s : State) : Host.Outcome State Fault Refusal :=
  .next (s.runIf t (fun s => s.pwr.dom.testBit 4 && decide (s.pwr.st < 2))
    (onSys fun y => { y with scrub := (y.scrub + 1) % M32, scrubLate := y.scrubLate || decide (y.scrubAt + Config.sec < max s.now t), scrubAt := max s.now t }))

end Sys2Proof.Machine
end

