-- ==== Sys2Proof/Machine/RegKit.lean ====
section
/-! DEFINITION. What a register is to an access: its value, what a read and a write do (R13 to R18, R695 to R700); the domains of the address space (R693). -/
namespace Sys2Proof.Machine

/-- What a write to a register does (R14, R697). -/
inductive Write
  /-- ignored -/
  | ro
  /-- set; journalled when it changes the register (R105) -/
  | rw (f : Nat → State → State)
  /-- as rw; the bits of the mask are reserved for commands, and a write that would change one is refused with DIRECT_DENIED -/
  | part (mask : Nat) (f : Nat → State → State)
  /-- set, exempt from the journal -/
  | free (f : Nat → State → State)
  /-- each 1 of the mask clears its bit; vec: the vector the bits are sources of (R711); f is given the bits cleared -/
  | clr (vec : Option Nat) (mask : Nat) (f : Nat → State → State)
  /-- an LK register (R17) -/
  | lk (f : (src sess : Nat) → Nat → State → State)
  /-- PWR_CTL and PWR_SOFT, with their own refusals (R657) -/
  | pwr
/-- A defined register. -/
structure Reg where
  /-- the value held -/
  val : Nat
  wr : Write := .ro
  /-- an RC register: what a read clears -/
  rd : Option (State → State) := none
  /-- a latch that only 32-bit reads use: the value they return and what they do (R140, R173) -/
  narrow : Option (Nat × (State → State)) := none
/-- A read-only register. -/
def rRO (v : Nat) : Option Reg := some { val := v % M32 }
def rRW (v : Nat) (f : Nat → State → State) : Option Reg := some { val := v % M32, wr := .rw f }
def rFree (v : Nat) (f : Nat → State → State) : Option Reg := some { val := v % M32, wr := .free f }
def rClr (v : Nat) (vec : Option Nat) (mask : Nat) (f : Nat → State → State) : Option Reg := some { val := v % M32, wr := .clr vec mask f }
def rRC (v : Nat) (f : State → State) : Option Reg := some { val := v % M32, rd := some f }

/-- A bit of a register word. -/
def fb (b : Bool) (i : Nat) : Nat := bit b * 2 ^ i
/-- A field of a register word. -/
def ff (v w i : Nat) : Nat := v % 2 ^ w * 2 ^ i
/-- Bits of a mask cleared. -/
def clears (m v : Nat) : Nat := m ^^^ (m &&& v)
/-- Low and high word of a 64-bit value. -/
def lo32 (v : Nat) : Nat := v % M32
def hi32 (v : Nat) : Nat := v / M32 % M32
/-- A 64-bit value with its low, or high, word replaced. -/
def setLo (v w : Nat) : Nat := v / M32 * M32 + w % M32
def setHi (v w : Nat) : Nat := v % M32 + w % M32 * M32
/-- Group number and offset within it, for n groups of a stride from a base. -/
def grpAt (base stride n o : Nat) : Option (Nat × Nat) :=
  if base ≤ o ∧ o < base + stride * n then some ((o - base) / stride, (o - base) % stride) else none
/-- The first of a list of group matches, given to its registers. -/
def orElse {α : Type} (a : Option α) (b : Unit → Option α) : Option α := match a with | some x => some x | none => b ()

namespace State

/-- The copy of SYS_PAGE a source uses (R704); records through a ring or mailbox 0 count as PCI Express, through mailbox 1 as SPI (log entry 39). -/
def pageOf : Src → Nat
  | .mbx1 | .directSpi => 1
  | .directJtag => 2
  | .mesh => 3
  | _ => 0
/-- A whole number of units left, rounded: a part of a unit counts or not, which the spec does not state (log entry 5). -/
def unitsLeft (ticks unit : Nat) (s : State) : Nat := ticks / unit + (if ticks % unit = 0 then 0 else bit (s.freeWord.toNat.testBit 0))

/-- The domains a register offset lies in; it is on while any of them is (R693). -/
def domsOf (s : State) (src : Src) (o : Nat) : List Nat :=
  if o < 0x010000 then [1]
  else if o < 0x040000 then [3]
  else if o < 0x060000 then [15]
  else if o < 0x080000 then
    match grpAt 0x061000 0x40 40 o, grpAt 0x062000 0x10 16 o with
    | some (l, _), _ => [laneDom l]
    | _, some (q, _) => [laneDom (2 * q)]
    | none, none => [10, 11, 12]
  else if o < 0x100000 then [9]
  else if o < 0x140000 then match grpAt 0x101200 0x40 8 o with | some _ => [8] | none => [7]
  else if o < 0x160000 then (if 0x140100 ≤ o ∧ o < 0x140300 then [1] else [7])
  else if o < 0x180000 then [7]
  else if o < 0x1A0000 then [13]
  else if o < 0x1C0000 then [14]
  else if o < 0x1E0000 then [2]
  else if o < 0x200000 then (if o < 0x1E0100 then [4] else [12])
  else if o < 0x220000 then [12]
  else if o < 0x240000 then [1]
  else if o < 0x260000 then [4]
  else if o < 0x300000 then [1]
  else
    let pg := at' s.sys.pages (pageOf src) {}
    if o < 0x380000 then [5]
    else if o < 0x3A0000 then [6]
    else if o < 0x3B0000 then (if pg.bnc < 8 then [7] else [8])
    else if o < 0x3C0000 then (if pg.mem < 88 then [5] else [6])
    else if 0x3E0000 ≤ o ∧ o < 0x3E8000 then [1]
    else [6]
/-- The domain of an offset is on (R698). -/
def domOn (s : State) (src : Src) (o : Nat) : Bool := (s.domsOf src o).any fun d => s.pwr.dom.testBit (d - 1)
/-- The registers exempt from the journal and open at a STANDBY: session contexts, mailboxes, the MSI-X table, SYS_PAGE (R105, R678, R715). -/
def exempt (o : Nat) : Bool :=
  decide (0x010200 ≤ o ∧ o < 0x010600) || decide (0x011000 ≤ o ∧ o < 0x011800) || decide (0x018000 ≤ o ∧ o < 0x018400) || decide (o = 0x000030)
end State
end Sys2Proof.Machine
end

