-- ==== Sys2Proof/Machine/RegsA.lean ====
section
/-! DEFINITION. The registers of SYS, HOST, JNL, CLK, LANE and SEAM (R5, R148 to R152, R189 to R196, R233 to R235, R275 to R278, R708 to R719). -/
namespace Sys2Proof.Machine.State

/-! ## SYS -/

/-- SYS_PAGE of a source, written: MEM only up to 175 (R715). -/
def pageWrite (src : Src) (v : Nat) (s : State) : State :=
  s.onSys fun y => { y with pages := modAt y.pages (pageOf src) fun p =>
    { mem := if bits v 23 16 ≤ 175 then bits v 23 16 else p.mem, bnc := bits v 11 8, trc := bits v 3 0 } }
/-- SYS_ERR's events (R712). -/
def sysErrClear (m : Nat) (s : State) : State :=
  s.onSys fun y => { y with eccUe := y.eccUe && !tbit m 31, eccCe := y.eccCe && !tbit m 30, scrubLate := y.scrubLate && !tbit m 29, ceSat := y.ceSat && !tbit m 28 }
/-- Registers of SYS (R5, R708 to R716). -/
def regSys (s : State) (src : Src) (o : Nat) : Option Reg :=
  let y := s.sys
  if o = 0x00 then rRO 0x4128B110
  else if o = 0x04 then rRO s.pend
  else if o = 0x08 then rClr (fb y.eccUe 31 + fb y.eccCe 30 + fb y.scrubLate 29 + fb y.ceSat 28 + ff y.region 5 0) (some 32) 0xF0000000 sysErrClear
  else if o = 0x0C then rRC y.ceCnt (onSys fun y => { y with ceCnt := 0 })
  else if o = 0x10 then rRO (ff y.ueBench 4 28 + ff y.ueOfs 23 0)
  else if o = 0x14 then rRC y.ueCnt (onSys fun y => { y with ueCnt := 0 })
  else if o = 0x18 then rRO y.scrub
  else if o = 0x20 then rRO (fb y.keySet 31 + fb y.keyBad 30)
  else if o = 0x30 then
    let p := at' y.pages (pageOf src) {}
    rFree (ff p.mem 8 16 + ff p.bnc 4 8 + ff p.trc 4 0) (pageWrite src)
  else match grpAt 0x40 4 8 o with
    | some (i, _) => rRO (if y.keySet then field y.keyHash (4 * i) 4 else 0)
    | none => none

/-! ## HOST and JNL -/

/-- A word of a mailbox's record buffer written. -/
def mbxWrite (m k v : Nat) (s : State) : State := s.onMbx m fun x => { x with rcd := x.rcd.take (4 * k) ++ le 4 v ++ x.rcd.drop (4 * k + 4) }
/-- Ring registers change only in CLOSED and BINDING (R120). -/
def ringWrite (c : Nat) (f : Ctx → Ctx) (s : State) : State := s.onCtx c fun x => if x.st = 0 ∨ x.st = 1 then f x else x
/-- A context's registers (R148, R150). -/
def regCtx (s : State) (c k : Nat) : Option Reg :=
  let x := s.ctx c
  if k = 0x00 then rFree (lo32 x.sqBase) fun v => ringWrite c fun x => { x with sqBase := setLo x.sqBase v }
  else if k = 0x04 then rFree (hi32 x.sqBase) fun v => ringWrite c fun x => { x with sqBase := setHi x.sqBase v }
  else if k = 0x08 then rFree x.sqSize fun v => ringWrite c fun x => { x with sqSize := v }
  else if k = 0x0C then rFree x.sqTail (sqTailWrite c)
  else if k = 0x10 then rRO x.sqHead
  else if k = 0x14 then rFree (lo32 x.cqBase) fun v => ringWrite c fun x => { x with cqBase := setLo x.cqBase v }
  else if k = 0x18 then rFree (hi32 x.cqBase) fun v => ringWrite c fun x => { x with cqBase := setHi x.cqBase v }
  else if k = 0x1C then rFree x.cqSize fun v => ringWrite c fun x => { x with cqSize := v }
  else if k = 0x20 then rFree x.cqHead (cqHeadWrite c)
  else if k = 0x24 then rRO x.cqTail
  else if k = 0x28 then rRO (ff x.st 3 29 + fb (s.host.ctrl == some c) 28 + fb (x.st == 2 && cqFull x) 27 + fb x.ringErr 26 + ff x.sess 16 0)
  else if k = 0x2C then rFree 0 fun v s => if tbit v 0 then s.start c else s
  else if k = 0x30 then rRO x.e
  else if k = 0x34 then rRO (if x.st = 1 ∨ x.st = 2 then s.unitsLeft (x.leaseEnd - s.now) Config.ms else 0)
  else none
/-- A mailbox's registers (R148, R719). -/
def regMbx (s : State) (m k : Nat) : Option Reg :=
  let x := s.mbx m
  if k < 0x100 then rFree (field x.rcd k 4) (mbxWrite m (k / 4))
  else if k < 0x120 then rRO (field x.cpl (k - 0x100) 4)
  else if k = 0x120 then rFree 0 fun _ => doorbell m
  else if k = 0x124 then
    rClr (fb x.busy 31 + fb x.done 30 + fb x.dbLost 29) none 0x60000000
      fun v => onMbx m fun x => { x with done := x.done && !tbit v 30, dbLost := x.dbLost && !tbit v 29 }
  else none
/-- Registers of HOST (R148 to R150, R718, R719) and the MSI-X table (R694). -/
def regHost (s : State) (o : Nat) : Option Reg :=
  let h := s.host
  if o = 0x010000 then rRO (fb h.linkUp 31 + ff h.speed 3 28 + ff h.width 4 24 + fb h.refPresent 23 + fb h.onSyspll 22)
  else if o = 0x010004 then rRO s.ctrlSess
  else if o = 0x010010 then rRO (ff h.loss 2 30 + ff h.parkKeep 12 16 + ff h.leaseMs 16 0)
  else if o = 0x010020 then rRO h.spoilHead
  else if o = 0x010024 then rRW h.spoilRd fun v => onHost fun h => { h with spoilRd := v }
  else if o = 0x010028 then rRC h.spoilLost (onHost fun h => { h with spoilLost := 0 })
  else
    match grpAt 0x010200 0x200 2 o, grpAt 0x011000 0x40 32 o with
    | some (m, k), _ => s.regMbx m k
    | _, some (c, k) => s.regCtx c k
    | none, none => none
/-- A write of the spill registers may clear the threshold, a source of vector 34 (R143, R711). -/
def spillWrite (f : Jnl → Jnl) (s : State) : State :=
  let s' := s.onJnl f
  if s.spillHigh && !s'.spillHigh then s'.cleared 34 else s'
/-- JNL_SPILL_CTL (R152). -/
def spillCtl (v : Nat) (j : Jnl) : Jnl :=
  { j with
    spillEn := tbit v 31
    spillLevel := bits v 9 8
    spillLog := if 10 ≤ bits v 4 0 ∧ bits v 4 0 ≤ 24 then bits v 4 0 else j.spillLog }
/-- Registers of JNL (R148, R140, R151, R152). -/
def regJnl (s : State) (o : Nat) : Option Reg :=
  let j := s.jnl
  if o = 0x020000 then some { val := lo32 j.head, narrow := some (lo32 j.head, onJnl fun x => { x with headHi := some (hi32 j.head) }) }
  else if o = 0x020004 then some { val := hi32 j.head, narrow := some (j.headHi.getD (hi32 j.head), onJnl fun x => { x with headHi := none }) }
  else if o = 0x020008 then some { val := lo32 s.jTail, narrow := some (lo32 s.jTail, onJnl fun x => { x with tailHi := some (hi32 s.jTail) }) }
  else if o = 0x02000C then some { val := hi32 s.jTail, narrow := some (j.tailHi.getD (hi32 s.jTail), onJnl fun x => { x with tailHi := none }) }
  else if o = 0x020010 then
    rClr (fb j.wrapped 31 + fb j.gap 30 + fb j.damaged 29 + fb s.pair.mirror 28 + fb s.spillHigh 27) (some 34) 0xE0000000
      fun v => onJnl fun j => { j with wrapped := j.wrapped && !tbit v 31, gap := j.gap && !tbit v 30, damaged := j.damaged && !tbit v 29 }
  else if o = 0x020014 then rRO j.dmg
  else if o = 0x020018 then rRO s.evs.boot
  else if o = 0x020020 then rRW (lo32 j.spillBase) fun v => onJnl fun j => { j with spillBase := setLo j.spillBase (v / 4096 * 4096) }
  else if o = 0x020024 then rRW (hi32 j.spillBase) fun v => onJnl fun j => { j with spillBase := setHi j.spillBase v }
  else if o = 0x02002C then rRW (fb j.spillEn 31 + ff j.spillLevel 2 8 + ff j.spillLog 5 0) fun v => spillWrite (spillCtl v)
  else if o = 0x020030 then rRO j.spillDev
  else if o = 0x020034 then rRW j.spillHost fun v => spillWrite fun j => { j with spillHost := v }
  else if o = 0x020038 then rRC j.spillLost (onJnl fun j => { j with spillLost := 0 })
  else none

/-! ## CLK -/

/-- A lock register's word (R192). -/
def lockWord (c : LockCfg) : Nat := ff c.w 8 24 + ff c.lol 4 20 + ff c.n 16 0
/-- An output's registers (R195, R196). -/
def regOut (s : State) (n k : Nat) : Option Reg :=
  let x := at' s.clk.outs n {}
  if k = 0 then
    rRW (fb x.en 31 + fb x.offZ 30 + ff x.fmt 2 28 + fb x.run 27 + ff x.div 12 0) fun v => writeOutCfg n (BitVec.ofNat 32 v)
  else if k = 4 then rRW (ofSigned 16 x.target) fun v => writeFstep n (BitVec.ofNat 32 v)
  else if k = 8 then rRO (ofSigned 16 (s.fnow x))
  else none
/-- Registers of CLK (R189 to R196). -/
def regClk (s : State) (o : Nat) : Option Reg :=
  let c := s.clk
  if o = 0x040000 then
    rClr (fb s.locked 31 + ff c.st 3 28 + ff c.outSt 2 26 + fb c.onFallback 25 + fb c.diverged 24 + fb c.refChanged 23 + fb c.meshOnce 22 + c.evt) (some 32)
      0xFC00 fun v => onClk fun c => { c with evt := clears c.evt v }
  else if o = 0x040004 then
    rRO (ff c.refFreq 2 30 + fb c.refPresent 29 + fb c.refBad 28 + fb s.cfg.topo.timeMesh 27 + ff c.meshPort 2 24)
  else if o = 0x040008 then rRW (lockWord c.sysLock) fun v => onClk fun c => { c with sysLock := (lockOf (BitVec.ofNat 32 v)).getD c.sysLock }
  else if o = 0x04000C then rRW (lockWord c.outLock) fun v => onClk fun c => { c with outLock := (lockOf (BitVec.ofNat 32 v)).getD c.outLock }
  else if o = 0x040010 then (let x := s.cfg.topo.ssc
    rRO (ff x.mode 2 30 + fb x.hk 29 + fb x.bench 28 + ff x.rate 6 16 + ff x.depth 8 0))
  else if o = 0x040014 then rRO (ofSigned 32 s.slewErr)
  else if o = 0x040020 then some { val := lo32 s.sysTime, narrow := some (lo32 s.sysTime, onClk fun x => { x with hiLatch := some (hi32 s.sysTime) }) }
  else if o = 0x040024 then some { val := hi32 s.sysTime, narrow := some (c.hiLatch.getD (hi32 s.sysTime), onClk fun x => { x with hiLatch := none }) }
  else if o = 0x040030 then rRW (ff c.pllM 8 24 + ff c.pllF 20 0) fun v => writeOutpll (BitVec.ofNat 32 v)
  else
    match grpAt 0x040040 0x10 4 o, grpAt 0x040090 4 8 o with
    | some (n, k), _ => s.regOut n k
    | _, some (t, _) => rRO (ofSigned 16 (at' c.trims t 0))
    | none, none => none

/-! ## LANE and SEAM -/

/-- A lane's registers (R233 to R235). -/
def regLn (s : State) (l k : Nat) : Option Reg :=
  let x := s.ln l
  let upd (f : LaneS → LaneS) : State → State := onLane1 l f
  if k = 0x00 then
    -- the fields an image loads read 0 while none is in force (R19)
    let img := s.img.desc.isSome
    some { val := (if img then ff x.rate 2 30 + fb x.used 29 + ff x.emph 4 12 + ff x.swing 4 8 else 0) + fb x.txSleep 28 + fb x.rxSleep 27 + ff x.test 3 24
           wr := .part 0xFF000000 fun v => upd fun x => { x with emph := bits v 15 12, swing := bits v 11 8 } }
  else if k = 0x04 then
    rClr (ff x.rx 3 29 + ff x.tx 2 27 + fb x.farHeld 26 + fb x.prbsLock 25 + fb x.hiBer 24 + fb x.miswired 23 + fb x.partnerSleep 22 + x.evt) (some 42)
      0xFE00 fun v => upd fun x => { x with evt := clears x.evt v }
  else if k = 0x08 then rRC x.ber (upd fun x => { x with ber := 0 })
  else if k = 0x0C then rRC x.mrkErr (upd fun x => { x with mrkErr := 0 })
  else if k = 0x10 then rRC x.prbsErr (upd fun x => { x with prbsErr := 0 })
  else if k = 0x14 then rRO (ff x.m1 8 16 + ff x.m2 8 8 + ff x.m3 8 0)
  else if k = 0x18 then rRO x.retry
  else none
/-- A seam's delay registers (R212). -/
def regDly (s : State) (q k : Nat) : Option Reg :=
  let d := at' s.lane.dly q (0, 0)
  let skew : Int := (d.1 : Int) - d.2
  if k = 0 then rRO d.1
  else if k = 4 then rRO d.2
  else if k = 8 then
    rRO (if s.pathUp q true && s.pathUp q false then fb (decide (51200 < skew.natAbs)) 31 + ofSigned 31 skew else 0)
  else none
/-- Registers of LANE (R233). -/
def regLane (s : State) (o : Nat) : Option Reg :=
  if o = 0x060000 then rRO ((List.range 10).foldl (fun m q => m + ff (s.ln (4 * q)).rate 2 (2 * q)) 0)
  else if o = 0x060004 then rRO (maskOf 32 fun l => (s.ln l).evt != 0)
  else if o = 0x060008 then rRO (maskOf 8 fun p => (s.ln (32 + p)).evt != 0)
  else if o = 0x060010 then rRO s.seamPath
  else
    match grpAt 0x061000 0x40 40 o, grpAt 0x062000 0x10 16 o with
    | some (l, k), _ => s.regLn l k
    | _, some (q, k) => s.regDly q k
    | none, none => none
/-- SEAM_CTL (R276). -/
def seamCtl (v : Nat) (b : SeamB) : SeamB :=
  { b with autoRejoin := tbit v 31, identMs := if 1 ≤ bits v 15 0 ∧ bits v 15 0 ≤ 1000 then bits v 15 0 else b.identMs }
/-- A seam's registers (R275). -/
def regSeamQ (s : State) (q k : Nat) : Option Reg :=
  let x := at' s.seam.seams q {}
  let upd (f : SeamS → SeamS) : State → State := onSeam fun b => { b with seams := modAt b.seams q f }
  if k = 0 then rRC (ff x.errA 16 16 + ff x.errB 16 0) (upd fun x => { x with errA := 0, errB := 0 })
  else if k = 4 then rClr x.undecl (some 42) 0xFF fun v => upd fun x => { x with undecl := clears x.undecl v }
  else if k = 8 then rRO x.filt
  else none
/-- SEAM_CELL_STS (R277). -/
def cellSts (s : State) (c : Nat) : Nat :=
  let x := s.cell c
  ff x.st 4 28 + ff x.jstep 3 25 + ff x.reason 5 20 + fb x.tlock 19 + fb x.stale 18 + fb x.byp 17 + fb x.tripped 16 + ff x.holdCnt 8 8 + ff x.lastNak 8 0
/-- SEAM_CELL_VDC (R275). -/
def cellVdc (s : State) (c : Nat) : Nat := ff (s.cell c).vdc1 16 16 + ff (s.cell c).vdc2 16 0
/-- A cell's registers (R275 to R278). -/
def regCell (s : State) (c k : Nat) : Option Reg :=
  let x := s.cell c
  if k = 0x00 then rRO (s.cellSts c)
  else if k = 0x04 then rClr x.evt (some 42) 0xFF fun v => onCell c fun x => { x with evt := clears x.evt v }
  else if k = 0x08 then rRO (lo32 x.serial)
  else if k = 0x0C then rRO (hi32 x.serial)
  else if k = 0x10 then rRO (ff x.typ 16 16 + ff x.rating 16 0)
  else if k = 0x14 then rRO x.fw
  else if k = 0x18 then rRO (ofSigned 32 x.delta)
  else if k = 0x1C then rRO (ofSigned 32 x.terr)
  else if k = 0x20 then rRC (ff x.missA 16 16 + ff x.missB 16 0) (onCell c fun x => { x with missA := 0, missB := 0 })
  else if k = 0x24 then rRC x.miss (onCell c fun x => { x with miss := 0 })
  else if k = 0x28 then rRC x.nakCnt (onCell c fun x => { x with nakCnt := 0 })
  else if k = 0x2C then rRC x.holds (onCell c fun x => { x with holds := 0 })
  else if k = 0x30 then rRO (s.cellVdc c)
  else if k = 0x34 then rRO (ofSigned 16 x.ntc)
  else none
/-- Registers of SEAM (R275 to R278). -/
def regSeam (s : State) (o : Nat) : Option Reg :=
  if o = 0x080000 then rRW (fb s.seam.autoRejoin 31 + ff s.seam.identMs 16 0) fun v => onSeam (seamCtl v)
  else if o = 0x080004 then rRO (s.seam.epoch % 65536)
  else if 0x080010 ≤ o ∧ o < 0x080020 then let j := (o - 0x080010) / 4; rRO (maskOf 32 fun i => (s.cell (32 * j + i)).evt != 0)
  else if 0x080020 ≤ o ∧ o < 0x080030 then let j := (o - 0x080020) / 4; rRO (maskOf 32 fun i => (s.cell (32 * j + i)).st == 2)
  else
    match grpAt 0x080100 0x10 16 o, grpAt 0x081000 0x40 128 o with
    | some (q, k), _ => s.regSeamQ q k
    | _, some (c, k) => s.regCell c k
    | none, none => none
end Sys2Proof.Machine.State
end

