-- ==== Sys2Proof/Machine/RegsB.lean ====
section
/-! DEFINITION. The registers of EDG, BNC, BAL and MODE (R50, R51, R320 to R323, R367 to R372, R405 to R410, R457 to R461, R691). -/
namespace Sys2Proof.Machine.State

/-! ## EDG -/

def ownerWord : Owner → Nat
  | .none => 0
  | .bench b => ff 1 2 27 + ff b 6 21
  | .host => ff 2 2 27
  | .mesh q => ff 3 2 27 + ff q 6 21
def kindCode : GroupKind → Nat
  | .cpwm => 0
  | .psm => 1
  | .nlm => 2
  | .direct => 3
def polCode : MinPol → Nat
  | .swallow => 0
  | .stretch => 1
  | .fault => 2
def wedgeCode : WedgePol → Nat
  | .delay => 0
  | .drop => 1
  | .fault => 2
/-- A group's registers (R320). -/
def regGrp (s : State) (g k : Nat) : Option Reg :=
  let x := s.grp g
  if k = 0 then
    rRO (match s.group g with
      | some d => ff (kindCode d.kind) 2 30 + fb d.loc 29 + ownerWord d.owner + ff d.slots 8 0
      | none => 0)
  else if k = 4 then rRO x.lper
  else if k = 8 then rRO (fb x.llate 31 + ff x.lcyc 18 0)
  else none
/-- EDG_LPWMj_CFG (R323). -/
def lpwmCfg (d : LpwmDecl) : Nat :=
  fb d.edges 30 + fb d.pol 29 + fb d.offZ 28 + fb d.boot 27 + fb d.partner.isSome 26 + ff (d.partner.getD 0) 5 21 + ff d.group 6 15 +
    ff d.ch 4 11 + ff (polCode d.minPol) 2 9 + ff (wedgeCode d.wedge) 2 7
/-- An output's registers (R320, R323). -/
def regLpwm (s : State) (j k : Nat) : Option Reg :=
  let d := s.outDecl j
  let x := at' s.edg.lpwm j {}
  if k = 0x00 then rRO (lpwmCfg d)
  else if k = 0x04 then rRO (ff d.gap 18 0)
  else if k = 0x08 then rRO (ff d.tOnMin 18 0)
  else if k = 0x0C then rRO (ff d.tOffMin 18 0)
  else if k = 0x10 then rRO (ff d.bootN 10 22 + ff d.bootW 9 13)
  else if k = 0x14 then rRO (fb x.level 31 + fb x.gated 30 + fb x.carry.pend.isSome 29 + ff x.carry.boot 10 0)
  else if k = 0x18 then rRO (ofSigned 32 x.carry.carry)
  else none
/-- EDG_RLD_STS's events (R321). -/
def rldClear (m : Nat) (s : State) : State :=
  s.onEdg fun e =>
    { e with
      late := e.late && !tbit m 31
      directBad := e.directBad && !tbit m 29
      refNan := e.refNan && !tbit m 28
      clamp := e.clamp && !tbit m 27
      owner := e.owner && !tbit m 26 }
/-- Registers of EDG (R50, R51, R320 to R323). RUN: the period timeline holds and the compile has not stopped; SHADOW: this member compiles as STANDBY. -/
def regEdg (s : State) (o : Nat) : Option Reg :=
  let e := s.edg
  if o = 0x0C0000 then
    rRO (fb (s.timeline && !e.stopped) 31 + fb e.stopped 30 + fb (s.timeline && !e.stopped && s.pair.st == 3) 29 + fb s.anyTrip 28)
  else if o = 0x0C0004 then
    rClr (e.flt + fb e.fltLocal 7 + ff e.fltIdx 7 0) (some 43) 0xFE000000 fun v => onEdg fun e => { e with flt := clears e.flt v }
  else if o = 0x0C0010 then rRO (if s.img.desc.isSome then ff s.cfg.topo.outPhase 7 18 + ff s.kF 18 0 else 0)
  else if o = 0x0C0014 then rRO (if s.timeline then s.per else 0)
  else if o = 0x0C0020 then
    rClr (fb e.late 31 + fb e.lastLate 30 + fb e.directBad 29 + fb e.refNan 28 + fb e.clamp 27 + fb e.owner 26 + ff e.lastGrp 6 16) (some 43)
      0xBC000000 rldClear
  else if o = 0x0C0024 then rClr (lo32 e.rldLate) none 0xFFFFFFFF fun v => onEdg fun e => { e with rldLate := clears e.rldLate v }
  else if o = 0x0C0028 then rClr (hi32 e.rldLate) none 0xFFFFFFFF fun v => onEdg fun e => { e with rldLate := clears e.rldLate (v * M32) }
  else if o = 0x0C0030 then rRC e.cmpCnt (onEdg fun e => { e with cmpCnt := 0 })
  else if o = 0x0C0034 then rRC (ff e.wDelay 16 16 + ff e.wDrop 16 0) (onEdg fun e => { e with wDelay := 0, wDrop := 0 })
  else if o = 0x0C0038 then rRC (ff e.mSwal 16 16 + ff e.mRem 16 0) (onEdg fun e => { e with mSwal := 0, mRem := 0 })
  else if o = 0x0C0040 then rRO (maskOf 32 fun j => (at' e.lpwm j {}).gated)
  else if o = 0x0C0044 then rRO s.tripSeam
  else if 0x0C8000 ≤ o ∧ o < 0x0D0000 then
    let g := (o - 0x0C8000) / 0x200
    rRO (at' (committedNow (s.grp g)) ((o - 0x0C8000) % 0x200 / 4) 0).toNat
  else
    match grpAt 0x0C0100 4 16 o, grpAt 0x0C1000 0x10 64 o, grpAt 0x0C2000 0x20 32 o with
    | some (q, _), _, _ => rRO (ff (at' s.cfg.topo.shipOfs q 0) 18 0)
    | _, some (g, k), _ => s.regGrp g k
    | _, _, some (j, k) => s.regLpwm j k
    | none, none, none => none

/-! ## BNC -/

/-- A trace setting changes only while no trace is under way (R362). -/
def traceSet (f : Trace → Trace) (s : State) : State := if tracing s then s else s.onTrace f
/-- BNC_TRC_CFG (R370). -/
def trcCfg (v : Nat) (t : Trace) : Trace :=
  { t with
    trig := bits v 31 29
    edge := bits v 28 27
    trigProbe := bits v 26 20
    pre := if bits v 15 8 ≤ 100 then bits v 15 8 else t.pre
    log2dec := if bits v 7 0 ≤ 16 then bits v 7 0 else t.log2dec }
/-- A bench's registers (R367). -/
def regBench (s : State) (b k : Nat) : Option Reg :=
  let x := s.bench b
  if k = 0x00 then rRO (s.benchDecl b).cb
  else if k = 0x04 then rRO x.last
  else if k = 0x08 then rRO (x.slack.getD 0)
  else if k = 0x0C then rRC x.ecc (onBench b fun x => { x with ecc := 0 })
  else none
/-- A loop's registers (R367, R369). -/
def regLoop (s : State) (l k : Nat) : Option Reg :=
  let x := s.loopS l
  if k = 0x00 then
    rRO (ff x.st 2 30 + fb x.manualSrc 29 + fb x.cmdOpen 28 + fb (s.loopDecl l).isSome 27 + ff (match s.loopDecl l with | some d => d.bench | none => 0) 4 16)
  else if k = 0x04 then rRO x.per
  else if k = 0x08 then rRO (ff x.rc 2 30 + fb x.rcFast 29 + ff x.kp 12 0)
  else none
/-- The trace's registers (R370 to R372). -/
def regTrace (s : State) (o : Nat) : Option Reg :=
  let t := s.bnc.trace
  if o = 0x103000 then rRW (ff t.trig 3 29 + ff t.edge 2 27 + ff t.trigProbe 7 20 + ff t.pre 8 8 + ff t.log2dec 8 0) fun v => traceSet (trcCfg v)
  else if o = 0x103004 then rRW t.level.toNat fun v => traceSet fun t => { t with level := BitVec.ofNat 32 v }
  else if o = 0x103008 then
    rClr (ff t.st 3 29 + fb t.invalid 28 + fb t.doneEvt 27 + ff t.probes 8 0) (some 41) 0x18000000
      fun v => onTrace fun t => { t with invalid := t.invalid && !tbit v 28, doneEvt := t.doneEvt && !tbit v 27 }
  else if o = 0x10300C then rRO t.trigRow
  else if o = 0x103010 then rRO ((t.count - t.rows.length) % traceRows t)
  else if o = 0x103014 then rRO t.rows.length
  else match grpAt 0x103100 4 128 o with
    | some (p, _) =>
      let c := at' t.cfg p (false, 0, 0)
      rRW (fb c.1 31 + ff c.2.1 4 16 + ff c.2.2 16 0)
        fun v => traceSet fun t => { t with cfg := t.cfg.set p (tbit v 31, bits v 19 16, bits v 15 0 / 4 * 4) }
    | none => none
/-- Registers of BNC (R367 to R372). -/
def regBnc (s : State) (o : Nat) : Option Reg :=
  let b := s.bnc
  if o = 0x100000 then rRO (fb s.timeline 31 + fb b.escalated 30 + maskOf 16 fun i => (s.bench i).faulted)
  else if o = 0x100004 then
    rClr (b.flt + ff b.fltBench 4 8 + ff b.fltTable 6 0) (some 44) 0xFF000000 fun v => onBnc fun b => { b with flt := clears b.flt v }
  else if o = 0x100008 then rRC b.fltCnt (onBnc fun b => { b with fltCnt := 0 })
  else if o = 0x10000C then rRO (s.loopMask fun l => l.st == 1)
  else if o = 0x100010 then rRO b.gsLast
  else
    match grpAt 0x101000 0x40 16 o, grpAt 0x102000 0x20 32 o with
    | some (i, k), _ => s.regBench i k
    | _, some (l, k) => s.regLoop l k
    | none, none => s.regTrace o

/-! ## BAL -/

/-- An arm's registers (R405, R407). -/
def regArm (s : State) (a k : Nat) : Option Reg :=
  let d := s.armDecl a
  let x := s.arm a
  if k = 0 then
    rRO (fb (s.armOn a) 31 + fb (s.armOn a && d.spread) 30 + fb (s.armOn a && d.spread && d.master == s.node) 29 + fb x.dirNeg 28 +
      fb x.shareEn 27 + ff x.n 11 16 + min 255 x.missRun)
  else if k = 4 then rRO x.derate.toNat
  else none
/-- A cell's registers (R405, R410). -/
def regTherm (s : State) (c k : Nat) : Option Reg :=
  let x := s.therm c
  if k = 0 then
    rRO (ff x.rank 11 21 + ff x.therm 3 18 + fb x.bypB 17 + fb x.restart 16 + fb x.keyStale 15 + ff x.hotCh 4 4)
  else if k = 4 then rRO x.tj.toNat
  else if k = 8 then rRO x.pwr.toNat
  else none
/-- Registers of BAL (R405 to R410). -/
def regBal (s : State) (o : Nat) : Option Reg :=
  let b := s.bal
  if o = 0x140000 then rRO (fb s.timeline 31 + b.released % 65536)
  else if o = 0x140004 then
    rClr (b.flt + ff b.fltArm 4 8 + ff b.fltCell 7 0) (some 40) 0xFC000000 fun v => onBal fun b => { b with flt := clears b.flt v }
  else if o = 0x140008 then rRC (ff b.missM 16 16 + ff b.missS 16 0) (onBal fun b => { b with missM := 0, missS := 0 })
  else if o = 0x140100 then
    rRO (fb b.dieWarn 31 + fb b.dieFast 30 + fb b.dieLost 29 + fb b.dieLow 28 + ff b.dieHot 3 20 + ff b.dieFail 8 8)
  else if o = 0x140104 then
    rRW b.dieWarnSet fun v => onBal fun b => { b with dieWarnSet := if 100 ≤ bits v 7 0 ∧ bits v 7 0 ≤ 125 then bits v 7 0 else b.dieWarnSet }
  else if o = 0x140200 then rRO s.evs.head
  else if o = 0x140204 then rRC s.evs.drop (onEvs fun e => { e with drop := 0 })
  else
    match grpAt 0x140110 4 8 o, grpAt 0x141000 0x20 16 o, grpAt 0x142000 0x10 128 o with
    | some (i, _), _, _ => rRO (ofSigned 16 (at' b.die i 0))
    | _, some (a, k), _ => s.regArm a k
    | _, _, some (c, k) => s.regTherm c k
    | none, none, none => none

/-! ## MODE -/

/-- A set-point's registers (R457, R461). -/
def regSp (s : State) (i k : Nat) : Option Reg :=
  let p := at' s.mode.sps i {}
  let d := s.spDecl i
  if k = 0x00 then rRO p.tgt.toNat
  else if k = 0x04 then rRO p.x.toNat
  else if k = 0x08 then rRO p.r.toNat
  else if k = 0x0C then
    let there := F32.le p.x p.tgt && F32.le p.tgt p.x && F32.isZero p.r
    rRO (fb d.declared 31 + fb (p.dwell != 0) 30 + fb p.locked 29 + fb (d.declared && there) 28 + fb d.power 27 + fb d.speed 26)
  else none
/-- MODE_STS (R458). -/
def modeSts (s : State) : Nat :=
  let m := s.mode
  ff m.mode 4 28 + ff m.target 4 24 + ff m.sub 4 20 + fb m.loss 19 + ff m.lossPol 2 17 + fb m.brkFault 16 + fb (m.fb.any (·.onAlt)) 15 +
    fb s.modeQ.sched.isSome 14
/-- Registers of MODE (R457 to R461, R691). -/
def regMode (s : State) (o : Nat) : Option Reg :=
  let m := s.mode
  if o = 0x160000 then rRO s.modeSts
  else if o = 0x160004 then rRO (ff m.reason 5 27 + ff m.cls 1 26 + fb m.inOff 25 + ff m.index 16 0)
  else if o = 0x160008 then rClr m.evt (some 36) 0x1FF fun v => onMode fun m => { m with evt := clears m.evt v }
  else if o = 0x16000C then rRO m.per
  else if o = 0x160010 then rRO m.ilim.toNat
  else if o = 0x160014 then rRO m.avail.toNat
  else if o = 0x160018 then rRO m.vl.toNat
  else if o = 0x16001C then rRO m.regen.toNat
  else if o = 0x160020 then rRO m.resyncErr.toNat
  else if o = 0x160024 then rRO m.fsF.toNat
  else if o = 0x160028 then rRO (ff m.fbLost 13 0)
  else if o = 0x16002C then
    rClr (fb s.modeQ.ended 31 + ff (if s.overlay 2 then s.modeQ.tpGroup else 0) 6 10 + ff s.overlays 5 0) (some 36) 0x80000000
      fun _ => onModeQ fun q => { q with ended := false }
  else match grpAt 0x160100 0x10 16 o with
    | some (i, k) => s.regSp i k
    | none => none
end Sys2Proof.Machine.State
end

