-- ==== Sys2Proof/Machine/RegsC.lean ====
section
/-! DEFINITION. The registers of ADC, CMP, SAFE, MESH, PAIR, PWR and IMG (R96 to R101, R496 to R501, R532 to R535, R569 to R573, R609 to R613, R642 to R645, R667 to R671, R692). -/
namespace Sys2Proof.Machine.State

/-! ## ADC -/

/-- A result's word (R498). -/
def resWord (r : AdcRes) : Nat :=
  fb r.doubt 31 + fb r.ovr 30 + fb r.cover 29 + ff r.ch 5 24 + ff r.run 8 16 + ofSigned 16 r.code
/-- A pair's failed shared entries in order (R475, R496). -/
def plausBits (s : State) (pr : Nat) : Nat :=
  let sh := (List.range (s.adcDecl (2 * pr)).entries.length).filter fun e => (s.entryDecl (2 * pr) e).shared
  maskOf 8 fun i => decide (i < sh.length) && (at' s.adc.plaus (32 * pr + at' sh i 0) {}).failed
/-- An ADC's registers (R496, R498, R499). -/
def regAdc1 (s : State) (a k : Nat) : Option Reg :=
  let d := s.adcDecl a
  let x := s.adc1 a
  if k = 0x00 then rRO (fb d.free 31 + fb d.pd 30 + ff (d.rpt - 1) 4 26 + ff (d.entries.length - 1) 5 21 + ff d.lead 18 0)
  else if k = 0x04 then rRO (ff x.cal 3 29 + fb (x.st == 4) 28 + min 65535 x.calCnt)
  else if k = 0x08 then rRO (ofSigned 16 x.ofs)
  else if k = 0x0C then rRO x.gain.toNat
  else if k = 0x10 then rRC x.seqOvr (onAdc1 a fun x => { x with seqOvr := 0 })
  else if k = 0x14 then rRC x.doubtCnt (onAdc1 a fun x => { x with doubtCnt := 0 })
  else if k = 0x18 then rRC x.injLost (onAdc1 a fun x => { x with injLost := 0 })
  else if 0x40 ≤ k ∧ k < 0xC0 then rRO (resWord (at' x.res ((k - 0x40) / 4) {}))
  else if 0xC0 ≤ k ∧ k < 0xE0 then rRO (resWord (at' x.inj ((k - 0xC0) / 4) {}))
  else none
/-- A sieve's registers (R496, R500, R501). -/
def regSieve (s : State) (i k : Nat) : Option Reg :=
  let d := s.sieveDecl i
  let x := s.sieve i
  if k = 0x00 then rRO (fb d.en 31 + ff d.order 3 28 + ff d.clk 3 25 + ff d.dly 3 22 + ff d.osr 11 11 + ff d.ofs 11 0)
  else if k = 0x04 then rRO (ofSigned 32 x.out)
  else if k = 0x08 then
    rClr (fb x.valid 31 + fb x.settling 30 + fb x.stuck 29 + x.evt) (some 45) 0xC000 fun v => onSieve i fun x => { x with evt := clears x.evt v }
  else if k = 0x0C then rRO x.cnt
  else none
/-- Registers of ADC (R496 to R501). -/
def regAdc (s : State) (o : Nat) : Option Reg :=
  let b := s.adc
  if o = 0x180000 then rRO ((List.range 4).foldl (fun m a => m + ff (s.adc1 a).st 4 (4 * a)) 0)
  else if o = 0x180004 then
    rClr (b.flt + ff b.fltSieve 5 8 + ff b.fltAdc 2 0) (some 45) 0xFFC00000 fun v => onAdc fun b => { b with flt := clears b.flt v }
  else if o = 0x180008 then rClr (lo32 b.ovr) (some 45) 0xFFFFFFFF fun v => onAdc fun b => { b with ovr := clears b.ovr v }
  else if o = 0x18000C then rClr (hi32 b.ovr) (some 45) 0xFFFF fun v => onAdc fun b => { b with ovr := clears b.ovr (v * M32) }
  else if o = 0x180010 then rRO (s.plausBits 0 + 256 * s.plausBits 1)
  else
    match grpAt 0x180020 4 2 o, grpAt 0x181000 0x100 4 o, grpAt 0x182000 4 6 o, grpAt 0x183000 0x10 24 o with
    | some (d, _), _, _, _ => let x := at' b.tdac d (0, none); rRO (fb x.2.isSome 31 + ff (x.2.getD 0) 6 16 + ff x.1 12 0)
    | _, some (a, k), _, _ => s.regAdc1 a k
    | _, _, some (i, _), _ => rRO (fb (s.sdcDecl i).en 31 + fb (at' b.sdcRun i false) 30 + ff (s.sdcDecl i).div 6 0)
    | _, _, _, some (i, k) => s.regSieve i k
    | none, none, none, none => none

/-! ## CMP -/

/-- The sixteen bytes of a wiring entry as words (R519). -/
def wireWord (w : Wire) (k : Nat) : Nat :=
  if k = 0 then w.lpwm
  else if k = 4 then ff w.seam 16 0 + fb w.bus 16 + fb w.mesh 17 + fb w.safety 18 + fb w.actLow 19
  else if k = 8 then ff w.filt 16 0
  else 0
/-- A comparator's registers (R532, R533). -/
def regCmp1 (s : State) (n k : Nat) : Option Reg :=
  let d := s.cmpDecl n
  let x := s.cmp1 n
  if k = 0x00 then
    rRO (ff d.sense 2 30 + ff (d.hyst - 1) 3 27 + fb (s.wire n).safety 26 + fb (d.si != 0) 25 + fb x.failed 24 + fb x.checking 23 + ff d.si 13 10 +
      ff d.blank 8 0)
  else if k = 0x04 then rRO (ff x.thrHi 10 16 + ff x.thrLo 10 0)
  else if k = 0x08 then rRC x.cnt (onCmp1 n fun x => { x with cnt := 0 })
  else none
/-- Registers of CMP (R532 to R535). -/
def regCmp (s : State) (o : Nat) : Option Reg :=
  let c := s.cmp
  if o = 0x1A0000 then rRO (maskOf 24 s.cmpFires)
  else if o = 0x1A0004 then rRO (maskOf 24 s.cmpUnset)
  else if o = 0x1A0008 then rRO (maskOf 24 fun k => (s.cmp1 k).failed)
  else if o = 0x1A000C then rClr (c.flt + ff c.fltCmp 5 0) (some 45) 0xF0000000 fun v => onCmp fun c => { c with flt := clears c.flt v }
  else if o = 0x1A0010 then rRO (maskOf 32 s.latched)
  else if o = 0x1A0014 then rRO (maskOf 5 fun w => s.latched (32 + w))
  else if o = 0x1A0018 then rClr (fb c.firstV 31 + ff c.first 6 0) none 0x80000000 fun _ => onCmp fun c => { c with firstV := false }
  else if o = 0x1A001C then rRO (fb c.driving 31 + fb (c.driving || c.busLow) 30 + fb c.ignoring 29)
  else
    match grpAt 0x1A1000 0x10 24 o, grpAt 0x1A2000 4 8 o, grpAt 0x1A2100 8 8 o, grpAt 0x1A3000 0x10 35 o with
    | some (n, k), _, _, _ => s.regCmp1 n k
    | _, some (i, _), _, _ => rRO (fb (s.wire (24 + i)).actLow 31 + ff (s.wire (24 + i)).filt 12 0)
    | _, _, some (b, k), _ =>
      let d := at' s.cfg.blanks b {}
      if k = 0 then rRO (ff d.src 5 27 + ff d.edge 2 25 + ff d.delay 13 0) else rRO (ff d.width 13 0)
    | _, _, _, some (w, k) => rRO (wireWord (s.wire w) k)
    | none, none, none, none => none

/-! ## SAFE -/

/-- SAFE_CTL as held (R572). -/
def safeCtl (x : Safe) : Nat := fb x.testEn 31 + ff x.unlockMin 6 0
/-- SAFE_CTL written while unlocked: a change enters the change log as KIND 4 (R572, R561). -/
def safeCtlPut (src sess v : Nat) (s : State) : State :=
  let old := safeCtl s.safe
  let s := s.onSafe fun x => { x with testEn := tbit v 31, unlockMin := if 1 ≤ bits v 5 0 ∧ bits v 5 0 ≤ 60 then bits v 5 0 else x.unlockMin }
  if safeCtl s.safe = old then s else s.logAdd 4 src sess 0x1C000C old (v % M32) []
/-- SAFE_STS (R570). -/
def safeSts (s : State) : Nat :=
  let x := s.safe
  ff x.st 3 29 + fb s.safeOk 28 + fb x.soffA 27 + fb x.soffB 26 + fb x.gpReq 25 + fb x.rstStuck 24 + fb (!x.testEn) 23 + ff x.cause 4 16 + ff x.pair 2 8
/-- SAFE_PAIR (R569). -/
def safePair (s : State) : Nat :=
  (List.range 4).foldl (fun m p =>
    let q := s.pairS p
    let u := s.pairUsed p
    m + (fb (u && q.closedX && q.closedY) 0 + fb (u && q.demand) 1 + fb (u && q.disc) 2 + fb (u && q.startup) 3 + fb u 4) * 256 ^ p) 0
/-- Registers of SAFE (R569 to R573). -/
def regSafe (s : State) (o : Nat) : Option Reg :=
  let x := s.safe
  if o = 0x1C0000 then rRO s.safeSts
  else if o = 0x1C0004 then rClr x.evt (some 37) 0x3F fun v => onSafe fun x => { x with evt := clears x.evt v }
  else if o = 0x1C0008 then rRO s.safePair
  else if o = 0x1C000C then some { val := safeCtl x, wr := .lk safeCtlPut }
  else if o = 0x1C0010 then
    rRO (fb x.unlocked 31 + fb s.evs.hash.isSome 30 + fb s.evs.lockout.isSome 29 + ff (min 4 s.evs.fails) 3 26 +
      ff (if x.unlocked then min 1023 (s.unitsLeft (x.unlockEnd - s.now) Config.sec) else 0) 10 16 + ff (if x.unlocked then x.unlockSess else 0) 16 0)
  else if o = 0x1C0014 then rRO (fb x.testNextB 31 + ff x.tested 31 0)
  else if o = 0x1C0018 then rRO s.evs.logHead
  else match grpAt 0x1C0020 4 4 o with
    | some (i, _) => rRO (field s.evs.salt (4 * i) 4)
    | none => none

/-! ## MESH and PAIR -/

/-- Hops on the route in force to a node. -/
def hopsTo (s : State) (n : Nat) : Nat :=
  match s.mesh.down with
  | [] => at' s.cfg.mesh.hops n 0
  | k :: _ => at' (((s.cfg.mesh.hopsK.find? (·.1 == k)).map (·.2)).getD s.cfg.mesh.hops) n 0
/-- Registers of a port (R609). -/
def regPort (s : State) (p k : Nat) : Option Reg :=
  let x := at' s.mesh.ports p {}
  let upd (f : PortS → PortS) : State → State := onMesh fun m => { m with ports := modAt m.ports p f }
  if k = 0 then
    let link := match s.linkOf p with | some n => n | none => 0
    rRO (fb (s.portUp p) 31 + fb x.used 30 + ff link 7 16 + ff x.nbr 6 8 + fb x.nbrMember 0)
  else if k = 4 then rRC x.crc (upd fun x => { x with crc := 0 })
  else if k = 8 then rRO x.dly
  else none
/-- Registers of a node context (R609, R613). -/
def regNode (s : State) (n k : Nat) : Option Reg :=
  let c := s.conv n
  if k = 0 then
    rRO (ff c.st 2 30 + fb c.bound 29 + fb c.hostWait 28 + ff (if c.bound then c.hops else s.hopsTo n) 8 16 + ff c.out.length 8 0)
  else if k = 4 then rRC c.retry (onConv n fun c => { c with retry := 0 })
  else if k = 8 then rRO c.rtt
  else none
/-- MESH_STS (R611). -/
def meshSts (s : State) : Nat :=
  let m := s.mesh
  ff s.cfg.mesh.shape 2 30 + fb m.timeOk 29 + fb m.isolated 28 + fb (!m.down.isEmpty) 27 + fb m.snap.isSome 26 + fb m.reset.isSome 25 + fb m.bar.isSome 24 +
    ff (m.down.head?.getD 0) 7 8 + ff s.node 6 0
/-- Registers of MESH (R609 to R613). -/
def regMesh (s : State) (o : Nat) : Option Reg :=
  let m := s.mesh
  if o = 0x1E0000 then rRW (fb m.viewEn 31 + ff m.viewNode 6 0) fun v => onMesh fun m => { m with viewEn := tbit v 31, viewNode := bits v 5 0 }
  else if o = 0x1E0004 then rRO s.meshSts
  else if o = 0x1E0008 then rClr m.evt (some 39) 0x3F fun v => onMesh fun m => { m with evt := clears m.evt v }
  else if o = 0x1E000C then
    rRO (ff s.cfg.mesh.diam 8 24 + ff s.diam 8 16 + ff (s.hopsTo s.cfg.mesh.master) 8 8 + ff ((m.convs.filter (·.st == 1)).length) 8 0)
  else if o = 0x1E0010 then rRO (lo32 m.miss)
  else if o = 0x1E0014 then rRO (hi32 m.miss)
  else if o = 0x1E0018 then rRO (ofSigned 32 m.timeErr)
  else if o = 0x1E001C then rRO (lo32 m.snapT)
  else if o = 0x1E0020 then rRO (hi32 m.snapT)
  else
    match grpAt 0x1E0100 0x10 4 o, grpAt 0x1E1000 0x10 64 o with
    | some (p, k), _ => s.regPort p k
    | _, some (n, k) => s.regNode n k
    | none, none => none
/-- Registers of PAIR (R642 to R645). -/
def regPair (s : State) (o : Nat) : Option Reg :=
  let p := s.pair
  if o = 0x200000 then
    rRO (ff s.role 2 30 + ff p.st 3 27 + fb p.member 26 + fb p.mirrorOff 25 + fb p.fbSuspend 24 + fb s.partnerHealthy 23 +
      ff (if s.cfg.topo.pair then s.seam.epoch else 0) 16 0)
  else if o = 0x200004 then rClr p.evt (some 38) 0x7F fun v => onPair fun p => { p with evt := clears p.evt v }
  else if o = 0x200008 then rRO (lo32 s.healthWord)
  else if o = 0x20000C then rRO (hi32 s.healthWord)
  else if o = 0x200010 then rRO (lo32 p.peer)
  else if o = 0x200014 then rRO (hi32 p.peer)
  else if o = 0x200018 then rRO p.takePer
  else if o = 0x20001C then rRO (p.handover.getD 0)
  else if o = 0x200020 then
    rRO (match p.fbFrom with | some a => s.unitsLeft (a + s.cfg.topo.failbackHoldS * Config.sec - s.now) Config.sec | none => 0)
  else if o = 0x200024 then rRO (ofSigned 32 p.timeErr)
  else if o = 0x200028 then rRC p.hbMiss (onPair fun p => { p with hbMiss := 0 })
  else if o = 0x20002C then rRC p.ownCnt (onPair fun p => { p with ownCnt := 0 })
  else if o = 0x200030 then rRC (ff p.shadowMism 16 16 + ff p.setMism 16 0) (onPair fun p => { p with shadowMism := 0, setMism := 0 })
  else if o = 0x200034 then rRC p.linkErr (onPair fun p => { p with linkErr := 0 })
  else none

/-! ## PWR and IMG -/

/-- PWR_STS (R668). -/
def pwrSts (s : State) : Nat :=
  let p := s.pwr
  ff p.st 3 29 + fb p.busy 28 + fb p.fwFail 27 + fb p.refused 23 + ff p.detail 8 8
/-- Registers of PWR (R667 to R671). -/
def regPwr (s : State) (o : Nat) : Option Reg :=
  let p := s.pwr
  if o = 0x220000 then rClr s.pwrSts (some 32) 0x800000 fun _ => onPwr fun p => { p with refused := false }
  else if o = 0x220004 then some { val := ff p.target 2 30 + fb p.reload 1 + fb p.warm 0, wr := .pwr }
  else if o = 0x220008 then rRO p.dom
  else if o = 0x22000C then some { val := p.soft, wr := .pwr }
  else if o = 0x220010 then rRO (ff p.cause 8 24 + ff p.causeSrc 8 16 + s.evs.boot % 65536)
  else if o = 0x220014 then rRW p.wake fun v => onPwr fun p => { p with wake := if bits v 16 0 ≤ 86400 then bits v 16 0 else p.wake }
  else if o = 0x220018 then rRW p.dozeTx fun v => onPwr fun p => { p with dozeTx := v }
  else if o = 0x22001C then rRW p.dozeRx fun v => onPwr fun p => { p with dozeRx := v }
  else if o = 0x220020 then rRO (ff p.warmCnt 16 16 + ff p.reloadCnt 16 0)
  else none
/-- Registers of IMG (R96 to R101, R692, R717). -/
def regImg (s : State) (o : Nat) : Option Reg :=
  let i := s.img
  if o = 0x240000 then
    rClr (fb i.hostWait 31 + fb i.fellBack 30 + fb s.sys.keySet 29 + fb i.irq 28 + ff i.reason 8 16 + ff i.cand 4 12 + ff i.slotB 4 8 + ff i.slotA 4 4 +
      ff i.run 4 0) (some 33) 0x10000000 fun _ => onImg fun i => { i with irq := false }
  else if o = 0x240004 then
    rRO (ff i.src 2 30 + ff s.evs.bootSlot 1 29 + fb s.evs.fallback 28 + fb i.sigChecked 27)
  else if o = 0x240008 then rRO (if s.inForce then i.id else 0)
  else if o = 0x24000C then rRO (ff i.diagSect 4 28 + ff i.diagOfs 21 0)
  else if o = 0x240010 then rRO (ff i.swapSt 3 29 + fb i.swapLate 28 + ff i.swapReason 8 16 + ff i.swapSects 10 0)
  else if o = 0x240014 then rRO (if i.swapSt = 3 ∨ i.swapSt = 4 then i.swapPer else 0)
  else if o = 0x240018 then
    rRO (ff i.fwSt 3 29 + ff s.evs.fwBank 1 28 + fb (s.bankGood s.inactive) 27 + ff i.fwReason 8 16 + Config.firmwareVersion s.evs.fwBank % 65536)
  else none

end Sys2Proof.Machine.State
end

