-- ==== Sys2Proof/Machine/Windows.lean ====
section
/-! DEFINITION. The register space as one map, and the memory windows (R140, R328, R402, R561, R693, R702 to R707, R752). -/
namespace Sys2Proof.Machine.State

/-- The register at an offset, as a source sees it; none where the offset is reserved (R693, R13). -/
def regAt (s : State) (src : Src) (o : Nat) : Option Reg :=
  if o % 4 ≠ 0 then none
  else if o < 0x010000 then s.regSys src o
  else if o < 0x020000 then s.regHost o
  else if o < 0x040000 then s.regJnl o
  else if o < 0x060000 then s.regClk o
  else if o < 0x080000 then s.regLane o
  else if o < 0x0C0000 then s.regSeam o
  else if o < 0x100000 then s.regEdg o
  else if o < 0x140000 then s.regBnc o
  else if o < 0x160000 then s.regBal o
  else if o < 0x180000 then s.regMode o
  else if o < 0x1A0000 then s.regAdc o
  else if o < 0x1C0000 then s.regCmp o
  else if o < 0x1E0000 then s.regSafe o
  else if o < 0x200000 then s.regMesh o
  else if o < 0x220000 then s.regPair o
  else if o < 0x240000 then s.regPwr o
  else if o < 0x260000 then s.regImg o
  else none

/-! ## Windows -/

def ones : Nat := 0xFFFFFFFF
/-- The journal ring (R140, R141). -/
def winJournal (s : State) (o : Nat) : Nat :=
  match s.jnl.ring.find? fun e => e.index % 8192 == o / 64 with
  | some e => if e.damaged then ones else field (jBytes e ++ le 4 e.chain.toNat) (o % 64) 4
  | none => 0
/-- Words whose format or contents the spec does not give (log entry 5). -/
def rawWord (s : State) (region o : Nat) : Nat := ofLe ((List.range 4).map fun i => Config.rawByte region (o + i) s.free)
/-- The trace memory: the load buffer while it is open, else the rows of the ring (R55, R360, R707). -/
def winTrace (s : State) (o : Nat) : Nat :=
  if s.img.bufOpen then ofLe (cellBytes s.img.buf 0 o 4)
  else
    let t := s.bnc.trace
    let rb := 4 * (t.probes + 1)
    let rt := traceRows t
    let i := ((t.count - 1) % rt + rt - o / rb) % rt
    if o / rb < rt ∧ t.count ≠ 0 ∧ i < t.rows.length then (at' (at' t.rows i []) (o % rb / 4) 0).toNat else s.rawWord 8 o
/-- A bench's local memory (R328). -/
def winBench (s : State) (b a : Nat) : Nat :=
  if a < 0x4000 then field (s.benchDecl b).prog a 4 else if 0x6800 ≤ a ∧ a < 0x7000 then 0 else (s.lm b a).toNat
/-- MEM0 and MEM1 by offset (R705). -/
def winMem0 (s : State) (a : Nat) : Nat :=
  if a < 0x200000 then ofLe (cellBytes s.img.work 0 a 4)
  else if a < 0x300000 then s.rawWord 3 (a - 0x200000)
  else if a < 0x380000 then s.rawWord 4 (a - 0x300000)
  else if a < 0x480000 then s.rawWord 5 (a - 0x380000)
  else if a < 0x500000 then s.rawWord 6 (a - 0x480000)
  else s.winJournal (a - 0x500000)
def winMem1 (s : State) (a : Nat) : Nat :=
  if a < 0x200000 then s.winTrace a
  else if a < 0x300000 then 0
  else if a < 0x380000 then s.rawWord 10 (a - 0x300000)
  else if a < 0x480000 then s.rawWord 11 (a - 0x380000)
  else if a < 0x500000 then s.rawWord 12 (a - 0x480000)
  else s.rawWord 13 (a - 0x500000)
/-- The spoil ring (R132). -/
def winSpoil (s : State) (o : Nat) : Nat :=
  let i := (s.host.spoilHead + M32 - 1 - o / 32) % 4096
  match at' (s.host.spoils.map some) i none with
  | some r => field (spoilBytes r) (o % 32) 4
  | none => 0
/-- The event ring (R402). -/
def winEvent (s : State) (o : Nat) : Nat :=
  match s.evs.ring.find? fun r => r.num % 1024 == o / 32 with
  | some r => field (evBytes r) (o % 32) 4
  | none => ones
/-- Bytes of a change-log entry (R561). -/
def logBytes (r : LogRec) : Bytes :=
  let b := le 8 r.time ++ le 4 r.num ++ le 4 r.boot ++ le 1 r.kind ++ le 1 r.src ++ le 2 r.sess ++ le 4 r.target ++ le 4 r.old ++ le 4 r.new ++
    padTo 16 (r.digest.take 16) ++ le 12 0
  b ++ le 4 (crc32c b).toNat
/-- The safety log (R561). -/
def winLog (s : State) (o : Nat) : Nat :=
  match s.evs.log.find? fun r => r.num % 256 == o / 64 with
  | some r => field (logBytes r) (o % 64) 4
  | none => ones
/-- The balancing and thermal state (R706). -/
def winTherm (s : State) (o : Nat) : Nat :=
  let ch (c i : Nat) : Word × Word × List Word := at' (s.therm c).ch i (0, 0, [])
  if o < 0x2000 then (ch (o / 0x40) (o % 0x40 / 4)).1.toNat
  else if o < 0x4000 then (ch (o % 0x2000 / 0x40) (o % 0x40 / 4)).2.1.toNat
  else if o < 0x4200 then (s.therm ((o - 0x4000) / 4)).dth.toNat
  else if o < 0x4400 then (s.therm ((o - 0x4200) / 4)).pass % M32
  else 0
/-- A word of a window, or of the safety log, for a source. -/
def winWord (s : State) (src : Src) (o : Nat) : Nat :=
  let pg := at' s.sys.pages (pageOf src) {}
  if o < 0x300000 then s.winLog (o - 0x1C4000)
  else if o < 0x380000 then s.winJournal (o - 0x300000)
  else if o < 0x3A0000 then s.winTrace (pg.trc * 0x20000 + (o - 0x380000))
  else if o < 0x3B0000 then s.winBench pg.bnc (o - 0x3A0000)
  else if o < 0x3C0000 then (if pg.mem < 88 then s.winMem0 (pg.mem * 0x10000 + (o - 0x3B0000)) else s.winMem1 ((pg.mem - 88) * 0x10000 + (o - 0x3B0000)))
  else if o < 0x3E0000 then s.winSpoil (o - 0x3C0000)
  else if o < 0x3E8000 then s.winEvent (o - 0x3E0000)
  else if o < 0x3F0000 then s.winTherm (o - 0x3E8000)
  else if o < 0x3F1000 then field s.mesh.snapPage (o - 0x3F0000) 4
  else 0
/-- The offset lies in a window. -/
def isWindow (o : Nat) : Bool := decide (0x1C4000 ≤ o ∧ o < 0x1C8000) || decide (0x300000 ≤ o ∧ o < 0x400000)
/-- The offset lies in the trace window while the load buffer is open, so that a write goes to it (R55, R703). -/
def isBuffer (s : State) (o : Nat) : Bool := s.img.bufOpen && decide (0x380000 ≤ o ∧ o < 0x3A0000)
end Sys2Proof.Machine.State
end

