-- ==== Sys2Proof/Machine/Registers.lean ====
section
/-! DEFINITION. Direct register and window accesses by every interface, REG_WRITE, and fuse programming (R13 to R18, R55, R102, R104, R105, R604, R605, R658, R678, R697 to R704, R742). -/
namespace Sys2Proof.Machine
namespace State

/-! ## Reads -/

/-- A word of the MSI-X table, or of its pending-bit array, in which nothing is ever pending (R694, log entry 40). -/
def msixWord (s : State) (o : Nat) : Nat := if o < 0x018400 then (at' s.sys.msix ((o - 0x018000) / 4) 0).toNat else 0
def isMsix (o : Nat) : Bool := decide (0x018000 ≤ o ∧ o < 0x018408)
/-- One word read: its value, and what the read does (R14, R16, R140, R173, R695, R698). -/
def readWord (src : Src) (wide : Bool) (o : Nat) (s : State) : Nat × State :=
  if !s.domOn src o then (0, s)
  else if isWindow o then (s.winWord src o, s.drawn)
  else if isMsix o then (s.msixWord o, s)
  else
    match s.regAt src o with
    | none => (0, s)
    | some r =>
      let (v, s') := match r.narrow with
        | some (v, f) => if wide then (r.val, s) else (v, f s)
        | none => (r.val, s)
      (v, (match r.rd with | some f => f s' | none => s').drawn)
/-- Words read at once: each as it stands at that instant. -/
def readWords (src : Src) (wide : Bool) : List Nat → State → Bytes × State
  | [], s => ([], s)
  | o :: os, s =>
    let (v, s) := s.readWord src wide o
    let (b, s) := readWords src wide os s
    (le 4 v ++ b, s)
/-- Word offsets of an access. -/
def wordsOf (o n : Nat) : List Nat := (List.range (n / 4)).map fun i => o + 4 * i
/-- A read of n bytes at this node. During a warm reset only PWR_STS reads; everything else is all ones with a spoil record (R658). -/
def directRead (src : Src) (o n : Nat) (s : State) : Bytes × State :=
  if s.pwr.warm then
    let ws := wordsOf o n
    let s := if ws.all (· == 0x220000) then s else s.spoilDirect src o 0x11 5
    (ws.flatMap fun w => if w = 0x220000 then le 4 s.pwrSts else le 4 ones, s)
  else s.readWords src (n == 8 && decide (o < 0x300000)) (wordsOf o n)

/-! ## Writes -/

/-- An LK write discarded: a lock violation (R17). -/
def lockViolation (src : Src) (sess o : Nat) (s : State) : State :=
  (s.onSafe fun x => { x with evt := setBit x.evt 4 }).event 0x0780 (le 1 src.code ++ le 1 0 ++ le 2 sess ++ le 4 o)
/-- The effect of a write that the register at an offset takes, by a source and a session; no journal entry of its own.
A bit that hardware set in the same instant stays set (R15). -/
def regPut (src : Src) (sess o : Nat) (r : Reg) (v : Nat) (s : State) : State :=
  match r.wr with
  | .ro | .pwr => s
  | .rw f | .free f | .part _ f => f v s
  | .clr vec m f =>
    let hit := clears (v &&& m &&& r.val) (s.setNow o)
    let s := f hit s
    match vec with
    | some k => if hit = 0 then s else s.cleared k
    | none => s
  | .lk f => f src.code sess v s
/-- The value a register would hold. -/
def valAt (s : State) (src : Src) (o : Nat) : Nat := match s.regAt src o with | some r => r.val | none => 0
/-- The write needs no journal entry and is open at a STANDBY: the exempt registers, W1C writes, and PWR's own. -/
def openWrite (r : Option Reg) (o : Nat) : Bool :=
  exempt o || decide (0x220000 ≤ o ∧ o < 0x240000) || (match r with | some { wr := .clr _ _ _, .. } => true | _ => false)
/-- A direct write of one register word (R697). -/
def writeReg (src : Src) (o v : Nat) (s : State) : State :=
  if s.pwr.warm then s.spoilDirect src o 0x11 5
  else
    let r := s.regAt src o
    if s.standby && !openWrite r o then s.spoilDirect src o 0x10 3
    else if !s.domOn src o then s.spoilDirect src o 0x09 o
    else if isMsix o then (if o < 0x018400 then s.onSys fun y => { y with msix := y.msix.set ((o - 0x018000) / 4) (BitVec.ofNat 32 v) } else s)
    else
      match r with
      | none => s
      | some r =>
        let put (s : State) : State := s.regPut src 0 o r v
        let journalled (s : State) : State := if (put s).valAt src o = r.val then put s else put (s.jDirect src o (BitVec.ofNat 32 v))
        match r.wr with
        | .ro => s
        | .rw _ => journalled s
        | .part m _ => if (v ^^^ r.val) &&& m ≠ 0 then s.denied src o else journalled s
        | .free _ | .clr _ _ _ => put s
        | .lk _ => (s.lockViolation src 0 o).spoilDirect src o 0x12 0
        | .pwr =>
          match (if o = 0x22000C then s.softRefusal (BitVec.ofNat 32 v) else s.ctlRefusal (BitVec.ofNat 32 v)) with
          | some d => s.pwrRefuse src 0 o d
          | none =>
            let s := if o = 0x22000C ∧ v = 0 then s else s.jDirect src o (BitVec.ofNat 32 v)
            if o = 0x22000C then s.softWrite src (BitVec.ofNat 32 v) else s.ctlWrite src (BitVec.ofNat 32 v)
/-- A direct write to a window: to the load buffer while it is open, at a STANDBY too (R678), else refused (R55, R703); beyond the last window the offsets are
reserved (R697, R702). -/
def writeWindow (src : Src) (o : Nat) (b : Bytes) (s : State) : State :=
  if s.pwr.warm then s.spoilDirect src o 0x11 5
  else if 0x3F1000 ≤ o then s
  else if s.standby && !s.isBuffer o then s.spoilDirect src o 0x10 3
  else if !s.domOn src o then s.spoilDirect src o 0x09 o
  else if s.isBuffer o then
    s.onImg fun i => { i with buf := Sparse.putAll 0 i.buf ((at' s.sys.pages (pageOf src) {}).trc * 0x20000 + (o - 0x380000)) b }
  else s.denied src o
/-- A direct write of bytes at this node, a word at a time below the windows. -/
def directWrite (src : Src) (o : Nat) (b : Bytes) (s : State) : State :=
  if isWindow o then s.writeWindow src o b
  else each (wordsOf 0 b.length) (fun k s => s.writeReg src (o + k) (field b k 4)) s

/-! ## Interfaces (R102, R104, R604, R701) -/

/-- An access that BAR0 takes (R102). -/
def barOk (o n : Nat) : Bool :=
  if o < 0x300000 then (n == 4 && o % 4 == 0) || (n == 8 && o % 8 == 0)
  else decide (o + n ≤ 0x400000) && decide (4 ≤ n) && n % 4 == 0 && o % 4 == 0 && decide (o % 64 + n ≤ 64)
/-- A BAR0 access that it does not take. -/
def barBad (src : Src) (o : Nat) (s : State) : State := (s.spoilDirect src o 0x13 o).emit .unsupported
/-- A read by an interface. -/
def readBy (ifc : Iface) (o n : Nat) (s : State) : State :=
  if ifc = .pcie ∧ !barOk o n then s.barBad ifc.src o
  else if s.viewed ifc.src o then s.remoteRead o n
  else
    let (b, s) := s.directRead ifc.src o n
    s.emit (.read b)
/-- A write by an interface. -/
def writeBy (ifc : Iface) (o : Nat) (b : Bytes) (s : State) : State :=
  if ifc = .pcie ∧ !barOk o b.length then s.barBad ifc.src o
  else if s.viewed ifc.src o then each (wordsOf 0 b.length) (fun k s => s.remoteWrite (o + k) (fieldW b k)) s
  else s.directWrite ifc.src o b
/-- A service SPI transaction (R104): a word left part-way is discarded. The addresses wrap in the 4 MiB space, and bits 1:0 of
the first, which R104 says are zero, are not looked at (DESIGN CHOICE, log entry 186). -/
def spi (b : Bytes) (s : State) : State :=
  let a := ofBe (slice b 1 3) % 0x400000 / 4 * 4
  let at_ (i : Nat) : Nat := (a + 4 * i) % 0x400000
  match b.head? with
  | some 0x02 => each (List.range ((b.length - 4) / 4)) (fun i s => s.directWrite .directSpi (at_ i) (slice b (4 + 4 * i) 4)) s
  | some 0x0B =>
    each (List.range ((b.length - 8) / 4)) (fun i s =>
      let (r, s) := s.directRead .directSpi (at_ i) 4
      s.emit (.read r)) s
  | _ => s
/-- A JTAG access by its 64-bit register (R701). -/
def jtag (dr : Nat) (s : State) : State :=
  let o := bits dr 53 32 * 4
  let h := s.host.spoilHead
  let ends (s : State) : State := s.onSys fun y => { y with jtagDone := true, jtagDenied := s.host.spoilHead != h }
  match bits dr 63 62 with
  | 1 =>
    let (b, s) := s.directRead .directJtag o 4
    ends (s.onSys fun y => { y with jtagData := fieldW b 0 })
  | 2 => ends (s.directWrite .directJtag o (le 4 dr))
  | _ => s
end State
open State

/-! ## REG_WRITE (R700) -/

/-- The register a record names, as its source sees it. -/
def regOf (h : RecHdr) (p : Bytes) (s : State) : Option Reg := s.regAt h.src (field p 0 4)
/-- REG_WRITE. An LK register takes it from the unlocking session alone; PWR_CTL and PWR_SOFT act after the completion (R656). -/
def cmdRegWrite : Cmd where
  opcode := 0x0B00
  lens := (· == 8)
  fields := fun h p s =>
    let o := field p 0 4
    firstBad [target0 h, (decide (0x300000 ≤ o) || (regOf h p s).isNone || !s.domOn h.src o, 0)]
  block := fun h p s =>
    let o := field p 0 4
    let v := fieldW p 4
    match regOf h p s with
    | some { wr := .part m _, val, .. } => if (v.toNat ^^^ val) &&& m ≠ 0 then some { code := 0x14, spoil := o } else none
    | some { wr := .lk _, .. } => if s.safe.unlocked && s.safe.unlockSess == h.sess then none else some { code := 0x12 }
    | some { wr := .pwr, .. } => (if o = 0x22000C then s.softRefusal v else s.ctlRefusal v).map .block
    | _ => none
  act := fun h p s =>
    match regOf h p s with
    | some r => (s.regPut h.src h.sess (field p 0 4) r (field p 4 4), {})
    | none => (s, {})
  deny := fun h r s =>
    if r.code = 0x12 then s.lockViolation h.src h.sess 0x1C000C
    else if r.code = 0x11 then s.onPwr fun x => { x with refused := true, detail := r.detail }
    else s
  post := fun h p s =>
    let o := field p 0 4
    if o = 0x220004 then s.ctlWrite h.src (fieldW p 4) else if o = 0x22000C then s.softWrite h.src (fieldW p 4) else s
/-- REG_WRITE. -/
def execRegWrite (t : Nat) (h : RecHdr) (off : Nat) (v : Word) (s : State) : Host.Outcome State Fault Refusal :=
  .next (hostRow cmdRegWrite t h (le 4 off ++ le 4 v.toNat) s)
/-- SAFE_CTL_WRITE: by REG_WRITE from a ring or mailbox; a direct write is discarded (R558, R572). -/
def execSafeCtlWrite (t : Nat) (h : RecHdr) (v : Word) (s : State) : Host.Outcome State Fault Refusal :=
  match h.src with
  | .directPcie | .directSpi | .directJtag | .mesh => .next (s.run t fun s =>
      if s.viewed h.src 0x1C000C then s.remoteWrite 0x1C000C v else s.writeReg h.src 0x1C000C v.toNat)
  | _ => .next (hostRow cmdRegWrite t h (le 4 0x1C000C ++ le 4 v.toNat) s)

/-! ## Direct accesses' rows -/

/-- REGISTER_WRITE: size bytes of v at an offset. -/
def execRegisterWrite (t : Nat) (ifc : Iface) (off size : Nat) (v : Nat) (s : State) : Host.Outcome State Fault Refusal :=
  .next (s.run t (writeBy ifc (off % 0x400000) (le size v)))
/-- LOAD_BUFFER_WRITE. -/
def execLoadBufferWrite (t : Nat) (ifc : Iface) (off : Nat) (bytes : Bytes) (s : State) : Host.Outcome State Fault Refusal :=
  .next (s.run t (writeBy ifc (0x380000 + off % 0x20000) bytes))
/-- RC_READ: a read of registers or of a window, of any size; BAR0 takes those of R102 and completes the others with
Unsupported Request. -/
def execRcRead (t : Nat) (ifc : Iface) (off size : Nat) (s : State) : Host.Outcome State Fault Refusal :=
  .next (s.run t (readBy ifc (off % 0x400000) size))
/-- REMOTE_REGISTER_ACCESS: a BAR0 access of any size, carried to the node MESH_VIEW names where R604 says so. -/
def execRemoteRegisterAccess (t : Nat) (write : Bool) (off size v : Nat) (s : State) : Host.Outcome State Fault Refusal :=
  .next (s.run t (if write then writeBy .pcie (off % 0x400000) (le size v) else readBy .pcie (off % 0x400000) size))
/-- SPI_TRANSACTION. -/
def execSpiTransaction (t : Nat) (bytes : Bytes) (s : State) : Host.Outcome State Fault Refusal := .next (s.run t (spi bytes))
/-- REGACC: while the AON supply is good and RESET_N is high. -/
def execRegacc (t : Nat) (dr : Nat) (s : State) : Host.Outcome State Fault Refusal :=
  .next (s.runIf t (fun s => at' s.pwr.good 0 true && !s.pwr.resetLow) (jtag dr))
/-- FUSE_PROG: key is what FUSE_KEY holds. -/
def execFuseProg (t : Nat) (key : Bytes) (vppOk tempOk : Bool) (s : State) : Host.Outcome State Fault Refusal :=
  .next (s.run t fun s =>
    let k := padTo 32 (key.take 32)
    let ok := vppOk && tempOk && (s.mode.mode == 0 || s.img.hostWait) && !s.sys.keySet && s.sys.fused.isNone
    s.onSys fun y => if ok then { y with fuseKey := k, fused := some k } else { y with fuseKey := k, fuseErr := true })

end Sys2Proof.Machine
end

