-- ==== Sys2Proof/Machine/MeshCmds.lean ====
section
/-! DEFINITION. Commands of the mesh block (R589, R597 to R600, R606, R607). -/
namespace Sys2Proof.Machine
namespace State

/-- Bits 23:16 of the base offset of each block that PWR_SOFT resets, in the order of its bits (R600, R654). -/
def resetBlocks : List Nat := [0x06, 0x08, 0x0C, 0x10, 0x14, 0x16, 0x18, 0x1A, 0x1E, 0x20]
/-- Least lead of a scheduled operation (R596). -/
def leadTicks (s : State) : Nat := s.diam * 1408 + Config.us
/-- A time is too soon, or more than 1 s away (R607). -/
def badLead (time : Nat) (s : State) : Bool := decide (time < s.sysTime + s.leadTicks) || decide (s.sysTime + Config.sec < time)
/-- A declared node is not UP. -/
def partitioned (s : State) : Bool := s.others.any fun n => !s.convUp n
/-- Causes common to the commands of the mesh, of those but MESH_BIND (R607). -/
def meshCauses (s : State) : List (Bool × Nat) := [(s.cfg.mesh.shape == 0, 1), (s.partitioned, 2)]
/-- The command is sent to node 0 (R606). -/
def headNode (h : RecHdr) : Bool × Nat := (h.node != 0, noField)
/-- The record that waits for every node's mode before a warm reset of the mesh. -/
def resetCmd (s : State) : Option OpenCmd := s.host.opens.find? fun o => o.kind == 7
/-- Schedule a reset on every node: the block of kind 1 goes first, with the TAG of its RESET. -/
def resetTake (time kind block : Nat) (s : State) : State :=
  let t := s.mesh.tag
  (s.onMesh fun m => { m with reset := some (time, kind, block, t) }).sendSymbols
    ((if kind = 1 then [(6, block)] else []) ++ [(5, time % 2 ^ 48 + kind * 2 ^ 48)])
/-- Period that contains a time. -/
def periodOf (time : Nat) (s : State) : Nat := time / s.tick % M32
/-- A node's MODE_STS has come back to a waiting reset: refused unless every node is in OFF (R600). -/
def resetReply (n : Nat) (v : Word) (s : State) : State :=
  match s.resetCmd with
  | none => s
  | some o =>
    if !o.left.contains n then s
    else if bits v.toNat 31 28 ≠ 0 ∨ s.mode.mode ≠ 0 then s.refuseOpen o (.block 5)
    else
      let o' := { o with left := o.left.filter (· != n) }
      let s := s.onHost fun x => { x with opens := x.opens.map fun p => if p == o then o' else p }
      let time := field o.pay 0 8
      if !o'.left.isEmpty then s
      else if s.badLead time then s.refuseOpen o' (.block 3)
      else (s.resetTake time 0 (field o.pay 9 1)).answerOpen o' { status := 2, per := some (s.periodOf time) }
/-- An offset that a broadcast may not name: the HOST block, an LK register, one reserved for commands or a window (R607). -/
def bcastBad (o : Nat) (v : Word) (s : State) : Bool :=
  decide (0x010000 ≤ o ∧ o < 0x020000) || isWindow o ||
  match s.regAt .mesh o with
  | some { wr := .lk _, .. } => true
  | some { wr := .part m _, val, .. } => (v.toNat ^^^ val) &&& m != 0
  | _ => false
end State
open State

/-- MESH_BIND. In HOST-WAIT no image declares a shape. -/
def cmdMeshBind : Cmd where
  opcode := 0x0801
  lens := (· == 8)
  fields := fun h p _ => firstBad [headNode h, target0 h, (decide (63 < field p 0 1), 0), zeros p 2 2]
  block := fun _ p s => blockCause
    [(s.inForce && s.cfg.mesh.shape == 0, 1),
     (decide (field p 1 1 < 1 ∨ 16 < field p 1 1) || s.convUp (field p 0 1) || field p 0 1 == s.node, 6)]
  act := fun _ p s =>
    let n := field p 0 1
    let s := (s.convRise n).onConv n fun c => { c with bound := true, path := field p 4 4, hops := field p 1 1 }
    (s, {})
/-- MESH_BARRIER. -/
def cmdMeshBarrier : Cmd where
  opcode := 0x0802
  lens := noPayload
  fields := fun h _ _ => firstBad [headNode h, target0 h]
  block := fun _ _ s => blockCause (s.meshCauses ++ [(s.mesh.bar.isSome, 4)])
  act := fun _ _ s =>
    let n := (s.mesh.barNo + 1) % 65536
    let s := s.onMesh fun m => { m with barNo := n, bar := some (n, [0], s.now), barSentAt := s.now }
    (s.sendSymbol 2 n, { wait := some (3, n) })
/-- MESH_SNAPSHOT. -/
def cmdMeshSnapshot : Cmd where
  opcode := 0x0803
  lens := (· == 8)
  fields := fun h _ _ => firstBad [headNode h, target0 h]
  block := fun _ p s => blockCause (s.meshCauses ++ [(s.badLead (field p 0 8), 3), (s.mesh.snap.isSome, 4)])
  act := fun _ p s =>
    let time := field p 0 8
    let s := s.onMesh fun m => { m with snap := some (time, m.tag), snapT := time }
    (s.sendSymbol 4 (time % 2 ^ 48), { status := 2, per := some (s.periodOf time) })
/-- MESH_RESET. Kind 0 first asks every node for its mode. -/
def cmdMeshReset : Cmd where
  opcode := 0x0804
  lens := (· == 12)
  fields := fun h p _ => firstBad
    [headNode h, target0 h, (decide (2 < field p 8 1), 8), (field p 8 1 == 1 && !resetBlocks.contains (field p 9 1), 9), zeros p 10 2]
  block := fun _ p s => blockCause (s.meshCauses ++
    [(s.badLead (field p 0 8), 3), (s.mesh.reset.isSome || s.resetCmd.isSome, 4), (field p 8 1 == 0 && s.mode.mode != 0, 5)])
  act := fun _ p s =>
    let time := field p 0 8; let kind := field p 8 1; let block := field p 9 1
    if kind = 0 ∧ s.others ≠ [] then (each s.others (fun n s => s.ask n 0x160000 2) s, { wait := some (7, 0), left := s.others })
    else (s.resetTake time kind block, { status := 2, per := some (s.periodOf time) })
/-- MESH_BCAST_REG: every node writes its own register, this one now. -/
def cmdMeshBcastReg : Cmd where
  opcode := 0x0805
  lens := (· == 8)
  fields := fun h p _ => firstBad [headNode h, target0 h, (field p 0 4 % 4 != 0 || decide (0x400000 ≤ field p 0 4), 0)]
  block := fun _ p s => blockCause (s.meshCauses ++ [(s.bcastBad (field p 0 4) (fieldW p 4), 7)])
  act := fun _ p s =>
    let t := s.mesh.tag; let o := field p 0 4; let v := field p 4 4
    ((s.writeReg .mesh o v).sendSymbol 1 (o * 2 ^ 34 + v), { wait := some (6, t) })
/-- MESH_BIND. -/
def execMeshBind (t : Nat) (h : RecHdr) (nodeId hops path : Nat) (s : State) : Host.Outcome State Fault Refusal :=
  .next (hostRow cmdMeshBind t h (le 1 nodeId ++ le 1 hops ++ le 2 0 ++ le 4 path) s)
/-- MESH_BARRIER. -/
def execMeshBarrier (t : Nat) (h : RecHdr) (s : State) : Host.Outcome State Fault Refusal := .next (hostRow cmdMeshBarrier t h [] s)
/-- MESH_SNAPSHOT. -/
def execMeshSnapshot (t : Nat) (h : RecHdr) (time : Nat) (s : State) : Host.Outcome State Fault Refusal :=
  .next (hostRow cmdMeshSnapshot t h (le 8 time) s)
/-- MESH_RESET. -/
def execMeshReset (t : Nat) (h : RecHdr) (time kind block : Nat) (s : State) : Host.Outcome State Fault Refusal :=
  .next (hostRow cmdMeshReset t h (le 8 time ++ le 1 kind ++ le 1 block ++ le 2 0) s)
/-- MESH_BCAST_REG. -/
def execMeshBcastReg (t : Nat) (h : RecHdr) (off : Nat) (v : Word) (s : State) : Host.Outcome State Fault Refusal :=
  .next (hostRow cmdMeshBcastReg t h (le 4 off ++ le 4 v.toNat) s)

end Sys2Proof.Machine
end

