-- ==== Sys2Proof/Machine/AllCmds.lean ====
section
/-! DEFINITION. Every command that a record may carry (R107), by opcode. -/
namespace Sys2Proof.Machine

/-- Commands of classes 0x00 to 0x04. -/
def cmdsLow : List Cmd :=
  [cmdSessionOpen, cmdSessionClose, cmdKeepalive, cmdResume, cmdTakeControl, cmdReleaseControl,
   cmdImgBufOpen, cmdImgBufClose, cmdImgSlotErase, cmdImgSlotWrite, cmdImgSetBoot, cmdImgLoad, cmdImgRecheck, cmdImgArm, cmdImgSwap,
   cmdImgDisarm, cmdImgFwWrite, cmdImgFwSwitch,
   cmdModeSet, cmdSetpoint, cmdModeLossClear, cmdOvlSet,
   cmdRefStage, cmdRefCommit, cmdRefDiscard,
   cmdLoopOpen, cmdLoopClose, cmdLoopManual, cmdCoefWrite, cmdRcCtl, cmdTraceArm, cmdTraceStop, cmdTraceForce]
/-- Commands of the other classes. -/
def cmdsHigh : List Cmd :=
  [cmdThermReinit, cmdBalShare, cmdEvsMark,
   cmdTripRelease, cmdCmpThresh, cmdCmpCheck, cmdSafeUnlock, cmdSafeLock, cmdSafePassSet,
   cmdMeshBind, cmdMeshBarrier, cmdMeshSnapshot, cmdMeshReset, cmdMeshBcastReg,
   cmdPairSwitch, cmdPairFailback, cmdPairResync,
   cmdClkTimeLoad, cmdLaneTest, cmdLaneRetrain, cmdLaneSleep, cmdLaneWake,
   cmdCellRejoin, cmdCellAdmit, cmdCellBypass, cmdCellExclude, cmdCellFwLoad,
   cmdAdcCal, cmdAdcInject, cmdTdacSet, cmdTdacConnect, cmdRegWrite]
/-- The command of an opcode. -/
def look (op : Nat) : Option Cmd := (cmdsLow ++ cmdsHigh).find? (·.opcode == op)

end Sys2Proof.Machine
end

