-- ==== Sys2Proof/Machine/Remote.lean ====
section
/-! DEFINITION. Rows that take records as bytes, from the head or from the pair partner: they may carry any command (R118, R134, R135, R420, R590, R599, R600, R621, R624). -/
namespace Sys2Proof.Machine
namespace State

/-! ## Results of commands carried out elsewhere (R134, R135, R420) -/

/-- The result of a forwarded command. -/
def forwardReply (n : Nat) (r : RemoteOut) (o : OpenCmd) (s : State) : State :=
  if r.status = 3 then s.refuseOpen o { code := r.code, detail := if r.code = 0x10 ∨ r.code = 0x11 then r.detail else 0, spoil := r.detail }
  else if r.status = 7 then s.openUnknown o r.code n
  else s.answerOpen o { status := r.status, per := some r.period, late := r.late }
/-- Every node would take a mesh mode change: it is scheduled everywhere. -/
def meshModeTake (o : OpenCmd) (s : State) : State :=
  let b := s.boundaryAfter
  let s := s.onModeQ fun q => { q with sched := some { period := b, mode := field o.pay 0 1 } }
  (s.sendSymbol 7 (b + field o.pay 0 1 * M32)).answerOpen o { status := 2, per := some b }
/-- A node's answer to a mesh mode change. Out of OFF, SYNTHETIC is in force on every node or on none (R684). -/
def meshModeReply (n : Nat) (r : RemoteOut) (o : OpenCmd) (s : State) : State :=
  if r.status = 3 then s.refuseOpen o { code := r.code, detail := r.detail % 256, spoil := r.detail % 256 + 256 * n }
  else if s.mode.mode = 0 ∧ r.detail % 2 ≠ bit (s.overlay 4) then s.refuseOpen o { code := 0x10, detail := 0x0B, spoil := 0x0B + 256 * n }
  else
    let o' := { o with left := o.left.filter (· != n) }
    let s := s.onHost fun x => { x with opens := x.opens.map fun p => if p == o then o' else p }
    if o'.left.isEmpty then s.meshModeTake o' else s
/-- A result item of a node. -/
def resultTake (n sess seq : Nat) (r : RemoteOut) (s : State) : State :=
  match s.host.opens.find? fun o => (o.kind == 1 || o.kind == 2) && o.left.contains n && o.h.sess == sess && o.h.seq == seq with
  | none => s
  | some o => if o.kind = 1 then s.forwardReply n r o else s.meshModeReply n r o

/-! ## Items of a node's conversation (R134, R590) -/

/-- A record from the head: its conditions are judged here; role and session were at the head. A mesh mode change is only judged (R420). -/
def recordTake (h : RecHdr) (op : Nat) (p : Bytes) (s : State) : State :=
  let h := { h with src := .mesh }
  -- sessions exist on the head alone (R112)
  if op / 256 = 0 then s.reject h op 3 { code := 0x0D, spoil := s.node } 0 none
  else
  match look op with
  | none => s.reject h op 3 { code := 0x08 } 0 none
  | some cmd =>
    match s.judge cmd h p true with
    | some r => (cmd.deny h r s).reject h op 3 r 0 none
    | none =>
      if op = 0x0201 ∧ field p 1 1 = 1 then s.deliver h { sess := h.sess, seq := h.seq, opcode := op, status := 2, period := s.per }
      else s.accept cmd h p none
/-- The answer of the oldest register read asked of a node. -/
def readTake (n : Nat) (v : Word) (s : State) : State :=
  match (s.conv n).asks with
  | [] => s
  | a :: l =>
    let s := s.onConv n fun c => { c with asks := l }
    if a.1 = 0 then s.emit (.read (le 4 v.toNat)) else if a.1 = 1 then s.loadReply n v else s.resetReply n v
/-- One item, acted on once. -/
def itemTake (n : Nat) (i : Item) (s : State) : State :=
  match i with
  | .empty => s
  | .record h op p => s.recordTake h op p
  | .result sess seq r => s.resultTake n sess seq r
  | .read off =>
    let (b, s) := s.directRead .mesh off 4
    s.sendItem n (.readResult (fieldW b 0))
  | .write off v => s.directWrite .mesh off (le 4 v.toNat)
  | .readResult v => s.readTake n v
  | .safeNotice per => if s.inForce then s.onModeQ fun q => { q with peer := q.peer ++ [(per % M32, n)] } else s
  | .part off b => if s.img.bufOpen then s.onImg fun i => { i with buf := Sparse.putAll 0 i.buf off b } else s

/-! ## Snapshot and scheduled reset (R599, R600, R602) -/

/-- Offsets of the registers a snapshot copies, from 0x040 on. -/
def snapRegs : List Nat :=
  ((List.range 128).map fun c => 0x081000 + 0x40 * c) ++ ((List.range 128).map fun c => 0x081030 + 0x40 * c) ++
  ((List.range 128).map fun c => 0x142004 + 0x10 * c) ++
  ((List.range 128).map fun i => 0x181040 + 0x100 * (i / 32) + 4 * (i % 32)) ++ ((List.range 24).map fun i => 0x183004 + 0x10 * i)
/-- The snapshot page without its CRC. -/
def snapBody (s : State) (time tag : Nat) : Bytes :=
  le 8 time ++ le 4 s.per ++ le 4 tag ++ le 4 (s.valAt .mesh 0x160000) ++ le 4 s.seamPath ++
    le 4 (maskOf 4 s.portUp) ++ le 4 (s.valAt .mesh 0x1A0010) ++ le 4 (s.valAt .mesh 0x1A0014) ++ le 4 (s.valAt .mesh 0x1C0000) ++ le 24 0 ++
    snapRegs.flatMap fun o => le 4 (s.valAt .mesh o)
/-- Take the snapshot due. -/
def snapTake (s : State) : State :=
  match s.mesh.snap with
  | none => s
  | some (time, tag) =>
    let b := s.snapBody time tag
    s.onMesh fun m => { m with snap := none, snapPage := b ++ le 4 (crc32c b).toNat, snapT := time }
/-- Offsets at which an RC register may lie, block by block. -/
def rcOffsets : List Nat :=
  [0x0C, 0x14, 0x010028, 0x020038, 0x0C0030, 0x0C0034, 0x0C0038, 0x100008, 0x140008, 0x140204, 0x200028, 0x20002C, 0x200030, 0x200034] ++
  ((List.range 40).flatMap fun l => [8, 0xC, 0x10].map fun k => 0x061000 + 0x40 * l + k) ++
  ((List.range 16).map fun q => 0x080100 + 0x10 * q) ++
  ((List.range 128).flatMap fun c => [0x20, 0x24, 0x28, 0x2C].map fun k => 0x081000 + 0x40 * c + k) ++
  ((List.range 16).map fun b => 0x10100C + 0x40 * b) ++
  ((List.range 4).flatMap fun a => [0x10, 0x14, 0x18].map fun k => 0x181000 + 0x100 * a + k) ++
  ((List.range 24).map fun n => 0x1A1008 + 0x10 * n) ++
  ((List.range 4).map fun p => 0x1E0104 + 0x10 * p) ++ ((List.range 64).map fun c => 0x1E1004 + 0x10 * c)
/-- Every RC counter cleared, as a read clears it. -/
def rcClear (s : State) : State :=
  each rcOffsets (fun o s => match s.regAt .mesh o with | some { rd := some f, .. } => f s | _ => s) s
/-- Carry out the scheduled reset: a warm reset, the soft reset of a block, or every RC counter cleared. -/
def resetAct (s : State) : State :=
  match s.mesh.reset with
  | none => s
  | some (_, kind, block, _) =>
    let s := s.onMesh fun m => { m with reset := none }
    if kind = 0 then s.warmStart .mesh
    else if kind = 1 then
      match resetBlocks.findIdx? (· == block) with
      | none => s
      | some i =>
        match s.softRefusal (BitVec.ofNat 32 (2 ^ i)) with
        | some d => s.pwrRefuse .mesh 0 0x22000C d
        | none => s.softStart .mesh (2 ^ i)
    else s.rcClear
/-- A snapshot is due. -/
def snapDue (s : State) : Bool := match s.mesh.snap with | some (a, _) => decide (a ≤ s.sysTime) | none => false
/-- A reset is due, after a snapshot of its tick. -/
def resetDue (s : State) : Bool := match s.mesh.reset with | some (a, _, _, _) => decide (a ≤ s.sysTime) && !s.snapDue | none => false

/-! ## Mirrored commands (R142, R621, R622) -/

/-- A command that waits for the partner no longer does: its owning block has it. -/
def openPerform (o : OpenCmd) (s : State) : State :=
  match look o.opcode with
  | some cmd => (s.openDrop o).perform cmd o
  | none => s.openDrop o
/-- Every command held or in flight goes to its owning block in the order of acceptance. -/
def heldPerform (s : State) : State :=
  let l := s.host.opens.filter (·.kind == 4)
  (each l openPerform (s.onPair fun p => { p with holding := false, flight := [] })).heldOut
/-- The partner has acknowledged CMD frames up to a mirror number. -/
def cmdAcked (ack : Nat) (s : State) : State :=
  let done := s.pair.flight.filter fun x => !later 32 x.1.mirrorNo ack
  let s := s.onPair fun p => { p with acked := ack, flight := p.flight.filter fun x => later 32 x.1.mirrorNo ack }
  each done (fun x s =>
    match s.host.opens.find? fun o => o.kind == 4 && o.arg == x.1.mirrorNo with
    | some o => s.openPerform o
    | none => s) s
/-- It has acknowledged journal entries: the completions that wait for them are written. -/
def jnlAcked (ack : Nat) (s : State) : State :=
  ((s.onPair fun p => { p with ackedJnl := ack }).onHost fun x =>
    { x with held := x.held.map fun k => { k with mir := k.mir && !decide (k.jidx < ack) } }).heldFlush
/-- The partner is no longer healthy, or no longer heard: a handover is cancelled (R636), the hold restarts (R635). -/
def peerLost (s : State) : State :=
  s.onPair fun p =>
    { p with peerHealthy := false, peerArmed := none, fbFrom := none, handover := none, evt := if p.handover.isSome then setBit p.evt 6 else p.evt }
/-- HEALTH of the STANDBY. -/
def healthTake (f : HealthFrame) (s : State) : State :=
  let was := s.pair.peerHealthy
  let word := f.word
  let ok := word.testBit 63
  let s := s.onPair fun p => { p with peer := word, peerAt := some s.now, healthMiss := 0 }
  let s :=
    if ok then s.onPair fun p => { p with peerHealthy := true, fbFrom := if p.fbFrom.isSome then p.fbFrom else if p.member then some s.now else none }
    else if was then (s.peerLost).healthLost word
    else s.peerLost
  let s := s.onPair fun p => { p with peerArmed := f.armed, peerMarks := f.marks }
  let s := (if s.pair.mirror then s.cmdAcked f.ackCmd else s).jnlAcked f.ackJnl
  if s.pair.holding && !word.testBit 62 then s.heldPerform else s
/-- Two HEALTH frames in a row are missed (R637). -/
def healthGone (s : State) : State := (s.mirrorLost.peerLost).heldPerform
/-- Outputs that a STANDBY's application of a mirrored command keeps: what leaves the node for others or the host is the ACTIVE's. -/
def standbyOut : Out → Bool
  | .port .. | .frame .. | .completion .. | .msix _ => false
  | _ => true
/-- Apply a mirrored command as its owning block would; entries, completions and what goes to other nodes are the ACTIVE's. -/
def mirrorApply (c : CmdFrame) (s : State) : State :=
  match look c.opcode with
  | none => s
  | some cmd =>
    let n := s.out.length
    let r := (cmd.act c.h c.payload s).1
    { r with out := s.out ++ (r.out.drop n).filter standbyOut, jnl := s.jnl, mesh := { r.mesh with convs := s.mesh.convs, gops := s.mesh.gops, ports := s.mesh.ports } }
/-- CMD received: kept until its entry comes, acknowledged, applied. -/
def cmdTake (c : CmdFrame) (s : State) : State :=
  ((s.onPair fun p => { p with got := c.mirrorNo, cmds := p.cmds ++ [c] }).mirrorApply c).sendHealth
end State
open State

/-! ## Rows -/

/-- RECORD_FETCH. -/
def execRecordFetch (t : Nat) (bytes : Bytes) (s : State) : Host.Outcome State Fault Refusal := .next (s.run t (fetch look bytes))
/-- REMOTE_RESULT. -/
def execRemoteResult (t : Nat) (node sess seq : Nat) (r : RemoteOut) (s : State) : Host.Outcome State Fault Refusal :=
  .next (s.run t (resultTake node sess seq r))
/-- DATA. -/
def execData (t : Nat) (x : PortRx) (item : Item) (s : State) : Host.Outcome State Fault Refusal :=
  .next (s.run t (meshIn x 1 fun h _ => meshEpoch h.src h.epoch (dataIn h.src h.seq (itemTake h.src item))))
/-- BCAST_REG: every node writes its own register. -/
def execBcastReg (t : Nat) (x : PortRx) (s : State) : Host.Outcome State Fault Refusal :=
  .next (s.run t (symbolIn 1 x fun y s => (s.writeReg .mesh (bits y.arg 55 34) (y.arg % M32), true)))
/-- SNAPSHOT_EXECUTE. -/
def execSnapshotExecute (t : Nat) (s : State) : Host.Outcome State Fault Refusal := .next (s.runIf t snapDue snapTake)
/-- SCHEDULED_RESET_EXECUTE. -/
def execScheduledResetExecute (t : Nat) (s : State) : Host.Outcome State Fault Refusal := .next (s.runIf t resetDue resetAct)
/-- CMD. -/
def execCmd (t : Nat) (p : PortRx) (c : CmdFrame) (s : State) : Host.Outcome State Fault Refusal := .next (s.runIf t mirrored (pairIn p (cmdTake c)))
/-- HEALTH. -/
def execHealth (t : Nat) (p : PortRx) (f : HealthFrame) (s : State) : Host.Outcome State Fault Refusal :=
  .next (s.runIf t (fun s => s.inForce && s.pair.st == 4) (pairIn p (healthTake f)))
/-- HEALTH_MISSED. -/
def execHealthMissed (t : Nat) (s : State) : Host.Outcome State Fault Refusal :=
  .next (s.runIf t
    (fun s => s.pair.st == 4 && (!s.pair.mirrorOff || s.pair.holding) && (match s.pair.peerAt with | some a => decide (a + 2 * s.tick ≤ s.now) | none => false)) healthGone)

end Sys2Proof.Machine
end

