-- ==== Sys2Proof/Machine/Dispatch.lean ====
section
/-! DEFINITION. One arm per command of spec/opcode_table.json, in the table's order: each calls its meaning. -/
namespace Sys2Proof.Machine

/-- The effect of a command on everything but the queue. -/
def exec (i : Instr) (s : State) : Host.Outcome State Fault Refusal :=
  match i with
  | .sampleLatch t => Sys2Proof.Machine.execSampleLatch t s
  | .benchStart t => Sys2Proof.Machine.execBenchStart t s
  | .benchFinishDeadline t => Sys2Proof.Machine.execBenchFinishDeadline t s
  | .benchFaultEscalation t => Sys2Proof.Machine.execBenchFaultEscalation t s
  | .outputPhase t => Sys2Proof.Machine.execOutputPhase t s
  | .traceDone t => Sys2Proof.Machine.execTraceDone t s
  | .commitLanding t g => Sys2Proof.Machine.execCommitLanding t g s
  | .compileStart t mismatch slow => Sys2Proof.Machine.execCompileStart t mismatch slow s
  | .compileStop t => Sys2Proof.Machine.execCompileStop t s
  | .shipSlot t c => Sys2Proof.Machine.execShipSlot t c s
  | .localSetDeadline t g => Sys2Proof.Machine.execLocalSetDeadline t g s
  | .edgeFrameShip t seam => Sys2Proof.Machine.execEdgeFrameShip t seam s
  | .edgePeriodOpening t => Sys2Proof.Machine.execEdgePeriodOpening t s
  | .lpwmTransition t j => Sys2Proof.Machine.execLpwmTransition t j s
  | .benchArithmetic t b op d x y z => Sys2Proof.Machine.execBenchArithmetic t b op d x y z s
  | .benchSelect t b op d x y z => Sys2Proof.Machine.execBenchSelect t b op d x y z s
  | .benchLane t b op d x y => Sys2Proof.Machine.execBenchLane t b op d x y s
  | .benchConvert t b op d x scale => Sys2Proof.Machine.execBenchConvert t b op d x scale s
  | .benchEstimate t b rsqrt d x => Sys2Proof.Machine.execBenchEstimate t b rsqrt d x s
  | .benchLoad t b d addr n => Sys2Proof.Machine.execBenchLoad t b d addr n s
  | .benchStore t b x addr n => Sys2Proof.Machine.execBenchStore t b x addr n s
  | .benchLoop t b len count => Sys2Proof.Machine.execBenchLoop t b len count s
  | .benchEnd t b => Sys2Proof.Machine.execBenchEnd t b s
  | .cordicRequest t b fn d x => Sys2Proof.Machine.execCordicRequest t b fn d x s
  | .cordicResult t b => Sys2Proof.Machine.execCordicResult t b s
  | .sortRequest t b n => Sys2Proof.Machine.execSortRequest t b n s
  | .sortResult t b => Sys2Proof.Machine.execSortResult t b s
  | .rcRequest t b loop x => Sys2Proof.Machine.execRcRequest t b loop x s
  | .rcResult t b => Sys2Proof.Machine.execRcResult t b s
  | .armSort t arm => Sys2Proof.Machine.execArmSort t arm s
  | .armSortResult t arm => Sys2Proof.Machine.execArmSortResult t arm s
  | .interpStart t => Sys2Proof.Machine.execInterpStart t s
  | .interpDeadline t late => Sys2Proof.Machine.execInterpDeadline t late s
  | .thermalPass t => Sys2Proof.Machine.execThermalPass t s
  | .thermalDeadline t late => Sys2Proof.Machine.execThermalDeadline t late s
  | .derateRestartEnd t c => Sys2Proof.Machine.execDerateRestartEnd t c s
  | .balListSend t arm => Sys2Proof.Machine.execBalListSend t arm s
  | .balListReceive t x => Sys2Proof.Machine.execBalListReceive t x s
  | .balMerge t arm => Sys2Proof.Machine.execBalMerge t arm s
  | .balSliceReceive t x => Sys2Proof.Machine.execBalSliceReceive t x s
  | .balSliceDeadline t arm => Sys2Proof.Machine.execBalSliceDeadline t arm s
  | .mergeLost t arm => Sys2Proof.Machine.execMergeLost t arm s
  | .sramUncorrectableError t region bench offset => Sys2Proof.Machine.execSramUncorrectableError t region bench offset s
  | .sramCorrectedError t region bench => Sys2Proof.Machine.execSramCorrectedError t region bench s
  | .scrubPass t => Sys2Proof.Machine.execScrubPass t s
  | .imgBufOpen t h => Sys2Proof.Machine.execImgBufOpen t h s
  | .imgBufClose t h => Sys2Proof.Machine.execImgBufClose t h s
  | .imgSlotErase t h slot => Sys2Proof.Machine.execImgSlotErase t h slot s
  | .slotEraseDone t slot => Sys2Proof.Machine.execSlotEraseDone t slot s
  | .imgSlotWrite t h slot len => Sys2Proof.Machine.execImgSlotWrite t h slot len s
  | .slotWriteDone t slot => Sys2Proof.Machine.execSlotWriteDone t slot s
  | .imgSetBoot t h slot => Sys2Proof.Machine.execImgSetBoot t h slot s
  | .imgLoad t h source len => Sys2Proof.Machine.execImgLoad t h source len s
  | .imageValidationDone t desc => Sys2Proof.Machine.execImageValidationDone t desc s
  | .presenceFitWindow t => Sys2Proof.Machine.execPresenceFitWindow t s
  | .bootValidation t => Sys2Proof.Machine.execBootValidation t s
  | .imgRecheck t h => Sys2Proof.Machine.execImgRecheck t h s
  | .imgArm t h source len => Sys2Proof.Machine.execImgArm t h source len s
  | .armingDone t desc => Sys2Proof.Machine.execArmingDone t desc s
  | .imgSwap t h period => Sys2Proof.Machine.execImgSwap t h period s
  | .imgDisarm t h => Sys2Proof.Machine.execImgDisarm t h s
  | .swapBoundary t => Sys2Proof.Machine.execSwapBoundary t s
  | .swapCancel t ecc => Sys2Proof.Machine.execSwapCancel t ecc s
  | .imgFwWrite t h len => Sys2Proof.Machine.execImgFwWrite t h len s
  | .fwWriteDone t good => Sys2Proof.Machine.execFwWriteDone t good s
  | .imgFwSwitch t h => Sys2Proof.Machine.execImgFwSwitch t h s
  | .fwSwitchRestart t => Sys2Proof.Machine.execFwSwitchRestart t s
  | .fwSwitchDone t started => Sys2Proof.Machine.execFwSwitchDone t started s
  | .sessionOpen t h ctx role => Sys2Proof.Machine.execSessionOpen t h ctx role s
  | .sessionClose t h => Sys2Proof.Machine.execSessionClose t h s
  | .keepalive t h => Sys2Proof.Machine.execKeepalive t h s
  | .resume t h lastSeq => Sys2Proof.Machine.execResume t h lastSeq s
  | .takeControl t h => Sys2Proof.Machine.execTakeControl t h s
  | .releaseControl t h => Sys2Proof.Machine.execReleaseControl t h s
  | .hostSessCtlStart t ifc ctx => Sys2Proof.Machine.execHostSessCtlStart t ifc ctx s
  | .hostSqTailWrite t ifc ctx v => Sys2Proof.Machine.execHostSqTailWrite t ifc ctx v s
  | .hostCqHeadWrite t ifc ctx v => Sys2Proof.Machine.execHostCqHeadWrite t ifc ctx v s
  | .recordFetch t bytes => Sys2Proof.Machine.execRecordFetch t bytes s
  | .hostMbxDoorbell t m => Sys2Proof.Machine.execHostMbxDoorbell t m s
  | .ringAccessFailure t ctx => Sys2Proof.Machine.execRingAccessFailure t ctx s
  | .leaseExpiry t ctx => Sys2Proof.Machine.execLeaseExpiry t ctx s
  | .parkKeepExpiry t ctx => Sys2Proof.Machine.execParkKeepExpiry t ctx s
  | .hostLossPolicy t => Sys2Proof.Machine.execHostLossPolicy t s
  | .journalSpill t => Sys2Proof.Machine.execJournalSpill t s
  | .remoteResult t node sess seq r => Sys2Proof.Machine.execRemoteResult t node sess seq r s
  | .regWrite t h off v => Sys2Proof.Machine.execRegWrite t h off v s
  | .registerWrite t ifc off size v => Sys2Proof.Machine.execRegisterWrite t ifc off size v s
  | .loadBufferWrite t ifc off bytes => Sys2Proof.Machine.execLoadBufferWrite t ifc off bytes s
  | .rcRead t ifc off size => Sys2Proof.Machine.execRcRead t ifc off size s
  | .clkTimeLoRead t ifc wide => Sys2Proof.Machine.execClkTimeLoRead t ifc wide s
  | .jnlLoRead t ifc tail wide => Sys2Proof.Machine.execJnlLoRead t ifc tail wide s
  | .remoteRegisterAccess t write off size v => Sys2Proof.Machine.execRemoteRegisterAccess t write off size v s
  | .spiTransaction t bytes => Sys2Proof.Machine.execSpiTransaction t bytes s
  | .regacc t dr => Sys2Proof.Machine.execRegacc t dr s
  | .fuseProg t key vppOk tempOk => Sys2Proof.Machine.execFuseProg t key vppOk tempOk s
  | .refFrequencyCount t count => Sys2Proof.Machine.execRefFrequencyCount t count s
  | .refCountRetry t count => Sys2Proof.Machine.execRefCountRetry t count s
  | .bandFound t => Sys2Proof.Machine.execBandFound t s
  | .acquisitionTimeout t => Sys2Proof.Machine.execAcquisitionTimeout t s
  | .lockSearchRetry t => Sys2Proof.Machine.execLockSearchRetry t s
  | .lockDeclared t cycles peak => Sys2Proof.Machine.execLockDeclared t cycles peak s
  | .alignmentDone t => Sys2Proof.Machine.execAlignmentDone t s
  | .referenceLoss t => Sys2Proof.Machine.execReferenceLoss t s
  | .lossOfLock t cycles least clamp => Sys2Proof.Machine.execLossOfLock t cycles least clamp s
  | .referenceReturn t mesh band err => Sys2Proof.Machine.execReferenceReturn t mesh band err s
  | .slewDone t => Sys2Proof.Machine.execSlewDone t s
  | .refChangeRelock t => Sys2Proof.Machine.execRefChangeRelock t s
  | .meshReferenceLoss t => Sys2Proof.Machine.execMeshReferenceLoss t s
  | .meshReferenceSwitch t => Sys2Proof.Machine.execMeshReferenceSwitch t s
  | .clkTimeLoad t h time => Sys2Proof.Machine.execClkTimeLoad t h time s
  | .timeLoadAct t => Sys2Proof.Machine.execTimeLoadAct t s
  | .outpllLocked t cycles peak => Sys2Proof.Machine.execOutpllLocked t cycles peak s
  | .outpllLossOfLock t cycles least => Sys2Proof.Machine.execOutpllLossOfLock t cycles least s
  | .clkOutpllCfgWrite t ifc v => Sys2Proof.Machine.execClkOutpllCfgWrite t ifc v s
  | .clkOutCfgWrite t ifc n v => Sys2Proof.Machine.execClkOutCfgWrite t ifc n v s
  | .clkOutFstepWrite t ifc n v => Sys2Proof.Machine.execClkOutFstepWrite t ifc n v s
  | .trimSample t target => Sys2Proof.Machine.execTrimSample t target s
  | .dieSensorSample t readings => Sys2Proof.Machine.execDieSensorSample t readings s
  | .dieFastRateEnd t => Sys2Proof.Machine.execDieFastRateEnd t s
  | .dieShutdown t => Sys2Proof.Machine.execDieShutdown t s
  | .eventRecordWrite t => Sys2Proof.Machine.execEventRecordWrite t s
  | .eventSectorErase t => Sys2Proof.Machine.execEventSectorErase t s
  | .laneTest t h lane test loop => Sys2Proof.Machine.execLaneTest t h lane test loop s
  | .laneRetrain t h lane dir => Sys2Proof.Machine.execLaneRetrain t h lane dir s
  | .laneSleep t h lane dir => Sys2Proof.Machine.execLaneSleep t h lane dir s
  | .laneWake t h lane dir => Sys2Proof.Machine.execLaneWake t h lane dir s
  | .cdrLock t l => Sys2Proof.Machine.execCdrLock t l s
  | .attemptTimeout t l signal cdr => Sys2Proof.Machine.execAttemptTimeout t l signal cdr s
  | .retryGapEnd t l => Sys2Proof.Machine.execRetryGapEnd t l s
  | .markerReceived t x => Sys2Proof.Machine.execMarkerReceived t x s
  | .markerLost t l => Sys2Proof.Machine.execMarkerLost t l s
  | .blockLost t l => Sys2Proof.Machine.execBlockLost t l s
  | .signalLoss t l => Sys2Proof.Machine.execSignalLoss t l s
  | .hiBer t l bad => Sys2Proof.Machine.execHiBer t l bad s
  | .retrainAdaptationDone t l => Sys2Proof.Machine.execRetrainAdaptationDone t l s
  | .txRetrainDone t l => Sys2Proof.Machine.execTxRetrainDone t l s
  | .rxWakeDone t l => Sys2Proof.Machine.execRxWakeDone t l s
  | .txWakeDone t l => Sys2Proof.Machine.execTxWakeDone t l s
  | .markerSend t q => Sys2Proof.Machine.execMarkerSend t q s
  | .farLoopOn t x => Sys2Proof.Machine.execFarLoopOn t x s
  | .farLoopOff t x => Sys2Proof.Machine.execFarLoopOff t x s
  | .sleepNotice t x => Sys2Proof.Machine.execSleepNotice t x s
  | .feed t x => Sys2Proof.Machine.execFeed t x s
  | .babbleCut t c => Sys2Proof.Machine.execBabbleCut t c s
  | .ack t x => Sys2Proof.Machine.execAck t x s
  | .nak t x => Sys2Proof.Machine.execNak t x s
  | .identityAnswer t x => Sys2Proof.Machine.execIdentityAnswer t x s
  | .cellTripBlock t x => Sys2Proof.Machine.execCellTripBlock t x s
  | .identQueryTimer t => Sys2Proof.Machine.execIdentQueryTimer t s
  | .ctrlRetryTimeout t c => Sys2Proof.Machine.execCtrlRetryTimeout t c s
  | .cellLostTimeout t c => Sys2Proof.Machine.execCellLostTimeout t c s
  | .preTimeoutExpiry t c => Sys2Proof.Machine.execPreTimeoutExpiry t c s
  | .fwRebootTimeout t c => Sys2Proof.Machine.execFwRebootTimeout t c s
  | .tripBlockRepeat t seam => Sys2Proof.Machine.execTripBlockRepeat t seam s
  | .cellRejoin t h => Sys2Proof.Machine.execCellRejoin t h s
  | .cellAdmit t h serial => Sys2Proof.Machine.execCellAdmit t h serial s
  | .cellBypass t h => Sys2Proof.Machine.execCellBypass t h s
  | .cellExclude t h => Sys2Proof.Machine.execCellExclude t h s
  | .cellFwLoad t h off len crc => Sys2Proof.Machine.execCellFwLoad t h off len crc s
  | .cellBypassTimeout t c => Sys2Proof.Machine.execCellBypassTimeout t c s
  | .refStage t h g slot vals => Sys2Proof.Machine.execRefStage t h g slot vals s
  | .refCommit t h g => Sys2Proof.Machine.execRefCommit t h g s
  | .refDiscard t h g => Sys2Proof.Machine.execRefDiscard t h g s
  | .wordFrameReceive t x => Sys2Proof.Machine.execWordFrameReceive t x s
  | .blankingStart t b => Sys2Proof.Machine.execBlankingStart t b s
  | .blankingEnd t b => Sys2Proof.Machine.execBlankingEnd t b s
  | .loopOpen t h loop source => Sys2Proof.Machine.execLoopOpen t h loop source s
  | .loopClose t h loop => Sys2Proof.Machine.execLoopClose t h loop s
  | .loopManual t h loop vals => Sys2Proof.Machine.execLoopManual t h loop vals s
  | .coefWrite t h loop idx vals => Sys2Proof.Machine.execCoefWrite t h loop idx vals s
  | .rcCtl t h loop action => Sys2Proof.Machine.execRcCtl t h loop action s
  | .traceArm t h => Sys2Proof.Machine.execTraceArm t h s
  | .traceStop t h => Sys2Proof.Machine.execTraceStop t h s
  | .traceForce t h => Sys2Proof.Machine.execTraceForce t h s
  | .thermReinit t h => Sys2Proof.Machine.execThermReinit t h s
  | .balShare t h enable => Sys2Proof.Machine.execBalShare t h enable s
  | .evsMark t h data => Sys2Proof.Machine.execEvsMark t h data s
  | .modeSet t h mode scope => Sys2Proof.Machine.execModeSet t h mode scope s
  | .setpoint t h sp v => Sys2Proof.Machine.execSetpoint t h sp v s
  | .modeLossClear t h => Sys2Proof.Machine.execModeLossClear t h s
  | .ovlSet t h set clear group => Sys2Proof.Machine.execOvlSet t h set clear group s
  | .meshModeBoundary t => Sys2Proof.Machine.execMeshModeBoundary t s
  | .safeNoticeReceived t node period => Sys2Proof.Machine.execSafeNoticeReceived t node period s
  | .prechargeP1Timeout t => Sys2Proof.Machine.execPrechargeP1Timeout t s
  | .prechargeP2Timeout t => Sys2Proof.Machine.execPrechargeP2Timeout t s
  | .prechargeRelayOff t => Sys2Proof.Machine.execPrechargeRelayOff t s
  | .prechargeComplete t => Sys2Proof.Machine.execPrechargeComplete t s
  | .startMaxExpiry t => Sys2Proof.Machine.execStartMaxExpiry t s
  | .runStartConditions t => Sys2Proof.Machine.execRunStartConditions t s
  | .gridCoastDetect t => Sys2Proof.Machine.execGridCoastDetect t s
  | .gridReturn t => Sys2Proof.Machine.execGridReturn t s
  | .resyncComplete t => Sys2Proof.Machine.execResyncComplete t s
  | .coastMaxExpiry t => Sys2Proof.Machine.execCoastMaxExpiry t s
  | .overloadCount t => Sys2Proof.Machine.execOverloadCount t s
  | .flyingStartFound t => Sys2Proof.Machine.execFlyingStartFound t s
  | .fsTmaxExpiry t => Sys2Proof.Machine.execFsTmaxExpiry t s
  | .catchTExpiry t => Sys2Proof.Machine.execCatchTExpiry t s
  | .driveCoastEnd t => Sys2Proof.Machine.execDriveCoastEnd t s
  | .zeroSpeedCount t => Sys2Proof.Machine.execZeroSpeedCount t s
  | .brkFault t => Sys2Proof.Machine.execBrkFault t s
  | .feedbackLost t b w => Sys2Proof.Machine.execFeedbackLost t b w s
  | .dwellEnd t k => Sys2Proof.Machine.execDwellEnd t k s
  | .adcRunStart t a => Sys2Proof.Machine.execAdcRunStart t a s
  | .adcConversionDone t a nv => Sys2Proof.Machine.execAdcConversionDone t a nv s
  | .adcWake t a => Sys2Proof.Machine.execAdcWake t a s
  | .injectedRequest t a j => Sys2Proof.Machine.execInjectedRequest t a j s
  | .adcInject t h d => Sys2Proof.Machine.execAdcInject t h d s
  | .adcCal t h => Sys2Proof.Machine.execAdcCal t h s
  | .calibrationRunning t a => Sys2Proof.Machine.execCalibrationRunning t a s
  | .calibrationEnd t a ofs gain => Sys2Proof.Machine.execCalibrationEnd t a ofs gain s
  | .tdacSet t h code => Sys2Proof.Machine.execTdacSet t h code s
  | .tdacConnect t h input => Sys2Proof.Machine.execTdacConnect t h input s
  | .sieveOutput t sv stream => Sys2Proof.Machine.execSieveOutput t sv stream s
  | .sieveStuck t k level stream => Sys2Proof.Machine.execSieveStuck t k level stream s
  | .sdcStartStop t k => Sys2Proof.Machine.execSdcStartStop t k s
  | .comparatorStageChange t k nv => Sys2Proof.Machine.execComparatorStageChange t k nv s
  | .sampledWindow t k nv => Sys2Proof.Machine.execSampledWindow t k nv s
  | .cmpCheck t h => Sys2Proof.Machine.execCmpCheck t h s
  | .cmpCheckEnd t k steps => Sys2Proof.Machine.execCmpCheckEnd t k steps s
  | .cmpPowerupChecks t => Sys2Proof.Machine.execCmpPowerupChecks t s
  | .cmpThresh t h lo hi => Sys2Proof.Machine.execCmpThresh t h lo hi s
  | .thresholdStep t k => Sys2Proof.Machine.execThresholdStep t k s
  | .tripPinFilter t k high samples => Sys2Proof.Machine.execTripPinFilter t k high samples s
  | .tripnLow t low => Sys2Proof.Machine.execTripnLow t low s
  | .tripnIgnoreEnd t => Sys2Proof.Machine.execTripnIgnoreEnd t s
  | .tripRelease t h => Sys2Proof.Machine.execTripRelease t h s
  | .tripReleaseLanding t => Sys2Proof.Machine.execTripReleaseLanding t s
  | .sinChannelTaken t ch high held => Sys2Proof.Machine.execSinChannelTaken t ch high held s
  | .discrepancy t p => Sys2Proof.Machine.execDiscrepancy t p s
  | .safeRstEdge t held => Sys2Proof.Machine.execSafeRstEdge t held s
  | .rstStuck t => Sys2Proof.Machine.execRstStuck t s
  | .gatePowerRequest t => Sys2Proof.Machine.execGatePowerRequest t s
  | .testPulse t => Sys2Proof.Machine.execTestPulse t s
  | .testPulseEnd t => Sys2Proof.Machine.execTestPulseEnd t s
  | .soffReadbackFailure t b => Sys2Proof.Machine.execSoffReadbackFailure t b s
  | .livenessTimeout t => Sys2Proof.Machine.execLivenessTimeout t s
  | .safeClockCheck t safeCycles aonCycles => Sys2Proof.Machine.execSafeClockCheck t safeCycles aonCycles s
  | .vddSafeFault t => Sys2Proof.Machine.execVddSafeFault t s
  | .safeUnlock t h len pass => Sys2Proof.Machine.execSafeUnlock t h len pass s
  | .safeLock t h => Sys2Proof.Machine.execSafeLock t h s
  | .safePassSet t h salt len pass => Sys2Proof.Machine.execSafePassSet t h salt len pass s
  | .unlockTimeout t => Sys2Proof.Machine.execUnlockTimeout t s
  | .lockoutEnd t => Sys2Proof.Machine.execLockoutEnd t s
  | .safeCtlWrite t h v => Sys2Proof.Machine.execSafeCtlWrite t h v s
  | .discSend t => Sys2Proof.Machine.execDiscSend t s
  | .discReceive t x d => Sys2Proof.Machine.execDiscReceive t x d s
  | .data t x item => Sys2Proof.Machine.execData t x item s
  | .meshAck t x seq status => Sys2Proof.Machine.execMeshAck t x seq status s
  | .dataRetransmit t node => Sys2Proof.Machine.execDataRetransmit t node s
  | .nodeSilent t node => Sys2Proof.Machine.execNodeSilent t node s
  | .emptyDataSend t node => Sys2Proof.Machine.execEmptyDataSend t node s
  | .isolated t => Sys2Proof.Machine.execIsolated t s
  | .timeFrame t x cnt t1 cnt4 t4 => Sys2Proof.Machine.execTimeFrame t x cnt t1 cnt4 t4 s
  | .portDownUp t p => Sys2Proof.Machine.execPortDownUp t p s
  | .linkFrame t x link up => Sys2Proof.Machine.execLinkFrame t x link up s
  | .meshTripFlood t x => Sys2Proof.Machine.execMeshTripFlood t x s
  | .floodRepeat t => Sys2Proof.Machine.execFloodRepeat t s
  | .bcastReg t x => Sys2Proof.Machine.execBcastReg t x s
  | .barArrive t x => Sys2Proof.Machine.execBarArrive t x s
  | .barRelease t x => Sys2Proof.Machine.execBarRelease t x s
  | .barArriveResend t => Sys2Proof.Machine.execBarArriveResend t s
  | .barrierTimeout t => Sys2Proof.Machine.execBarrierTimeout t s
  | .snap t x => Sys2Proof.Machine.execSnap t x s
  | .snapshotExecute t => Sys2Proof.Machine.execSnapshotExecute t s
  | .resetSymbol t x => Sys2Proof.Machine.execResetSymbol t x s
  | .resetBlockSymbol t x => Sys2Proof.Machine.execResetBlockSymbol t x s
  | .scheduledResetExecute t => Sys2Proof.Machine.execScheduledResetExecute t s
  | .modeSymbol t x => Sys2Proof.Machine.execModeSymbol t x s
  | .lossSymbol t x => Sys2Proof.Machine.execLossSymbol t x s
  | .safeSymbol t x => Sys2Proof.Machine.execSafeSymbol t x s
  | .tloadAt t x => Sys2Proof.Machine.execTloadAt t x s
  | .tloadVal t x => Sys2Proof.Machine.execTloadVal t x s
  | .confirm t x => Sys2Proof.Machine.execConfirm t x s
  | .confirmWindowExpiry t => Sys2Proof.Machine.execConfirmWindowExpiry t s
  | .meshBind t h nodeId hops path => Sys2Proof.Machine.execMeshBind t h nodeId hops path s
  | .meshBarrier t h => Sys2Proof.Machine.execMeshBarrier t h s
  | .meshSnapshot t h time => Sys2Proof.Machine.execMeshSnapshot t h time s
  | .meshReset t h time kind block => Sys2Proof.Machine.execMeshReset t h time kind block s
  | .meshBcastReg t h off v => Sys2Proof.Machine.execMeshBcastReg t h off v s
  | .input t p x => Sys2Proof.Machine.execInput t p x s
  | .refs t p r => Sys2Proof.Machine.execRefs t p r s
  | .cmd t p c => Sys2Proof.Machine.execCmd t p c s
  | .jnl t p e => Sys2Proof.Machine.execJnl t p e s
  | .health t p f => Sys2Proof.Machine.execHealth t p f s
  | .resign t p cause => Sys2Proof.Machine.execResign t p cause s
  | .handover t p h => Sys2Proof.Machine.execHandover t p h s
  | .sync t p page bytes => Sys2Proof.Machine.execSync t p page bytes s
  | .syncEnd t => Sys2Proof.Machine.execSyncEnd t s
  | .cmdMirrorTimeout t => Sys2Proof.Machine.execCmdMirrorTimeout t s
  | .healthMissed t => Sys2Proof.Machine.execHealthMissed t s
  | .standbyCompile t => Sys2Proof.Machine.execStandbyCompile t s
  | .standbyBenchStart t => Sys2Proof.Machine.execStandbyBenchStart t s
  | .fence t epoch => Sys2Proof.Machine.execFence t epoch s
  | .waitingTimeout t => Sys2Proof.Machine.execWaitingTimeout t s
  | .detachedTimeout t => Sys2Proof.Machine.execDetachedTimeout t s
  | .partnerEdgeSeen t x => Sys2Proof.Machine.execPartnerEdgeSeen t x s
  | .handoverBoundary t => Sys2Proof.Machine.execHandoverBoundary t s
  | .failbackHoldExpiry t => Sys2Proof.Machine.execFailbackHoldExpiry t s
  | .pairSwitch t h period => Sys2Proof.Machine.execPairSwitch t h period s
  | .pairFailback t h enable => Sys2Proof.Machine.execPairFailback t h enable s
  | .pairResync t h => Sys2Proof.Machine.execPairResync t h s
  | .powerOnReset t => Sys2Proof.Machine.execPowerOnReset t s
  | .porReleaseTimer t member => Sys2Proof.Machine.execPorReleaseTimer t member s
  | .riseWindowExpiry t => Sys2Proof.Machine.execRiseWindowExpiry t s
  | .supplyFall t k => Sys2Proof.Machine.execSupplyFall t k s
  | .resetN t => Sys2Proof.Machine.execResetN t s
  | .firmwareBootDone t activeOk otherOk => Sys2Proof.Machine.execFirmwareBootDone t activeOk otherOk s
  | .warm t ifc => Sys2Proof.Machine.execWarm t ifc s
  | .warmResetEnd t => Sys2Proof.Machine.execWarmResetEnd t s
  | .reload t ifc => Sys2Proof.Machine.execReload t ifc s
  | .powerStateRequest t ifc target => Sys2Proof.Machine.execPowerStateRequest t ifc target s
  | .powerStateChangeDone t => Sys2Proof.Machine.execPowerStateChangeDone t s
  | .wakeTimerExpiry t => Sys2Proof.Machine.execWakeTimerExpiry t s
  | .laneSoftReset t ifc => Sys2Proof.Machine.execLaneSoftReset t ifc s
  | .seamSoftReset t ifc => Sys2Proof.Machine.execSeamSoftReset t ifc s
  | .edgSoftReset t ifc => Sys2Proof.Machine.execEdgSoftReset t ifc s
  | .bncSoftReset t ifc => Sys2Proof.Machine.execBncSoftReset t ifc s
  | .balSoftReset t ifc => Sys2Proof.Machine.execBalSoftReset t ifc s
  | .modeSoftReset t ifc => Sys2Proof.Machine.execModeSoftReset t ifc s
  | .adcSoftReset t ifc => Sys2Proof.Machine.execAdcSoftReset t ifc s
  | .cmpSoftReset t ifc => Sys2Proof.Machine.execCmpSoftReset t ifc s
  | .meshSoftReset t ifc => Sys2Proof.Machine.execMeshSoftReset t ifc s
  | .pairSoftReset t ifc => Sys2Proof.Machine.execPairSoftReset t ifc s
  | .softResetDone t => Sys2Proof.Machine.execSoftResetDone t s
  | .supplyRise t k => Sys2Proof.Machine.execSupplyRise t k s
  | .resetNRelease t member => Sys2Proof.Machine.execResetNRelease t member s
  | .safeRstRelease t held => Sys2Proof.Machine.execSafeRstRelease t held s
  | .vddSafeRecovery t => Sys2Proof.Machine.execVddSafeRecovery t s
  | .pcieReferenceClockChange t present link => Sys2Proof.Machine.execPcieReferenceClockChange t present link s
  | .txSleepDone t l => Sys2Proof.Machine.execTxSleepDone t l s
  | .prbsCheckerLock t l lock errors => Sys2Proof.Machine.execPrbsCheckerLock t l lock errors s
  | .copyWindowExpiry t c => Sys2Proof.Machine.execCopyWindowExpiry t c s
  | .sieveLeavesStuck t k stream => Sys2Proof.Machine.execSieveLeavesStuck t k stream s

end Sys2Proof.Machine
end

