-- ==== Sys2Proof/Safety.lean ====
section
/-! DEFINITION. The terms claims use: parts of the state, frames, and a command that goes through. -/
namespace Sys2Proof.Machine

/-- A key in force is one that has been fused (R72). -/
def State.keyed (s : State) : Bool := !s.sys.keySet || s.sys.fused.isSome
/-- The parts of State; fuse and key are parts of sys that few commands touch: the key fuses, and the key read from them; keyed is no
part of its own, but a fact about both; out also stands for the W1C bits set in the present instant. -/
inductive Part
  | now | ofs | out | free | pending
  | sys | pwr | clk | img | host | jnl | lane | seam | edg | comp | bnc | bal | evs | mode | modeQ | adc | cmp | safe | mesh | pair | fuse | key | keyed | pts
  deriving DecidableEq, Repr
/-- Number of a part, in the order of State's fields. -/
def Part.num : Part → Nat
  | .now => 0 | .ofs => 1 | .out => 2 | .free => 3 | .pending => 4
  | .sys => 5 | .pwr => 6 | .clk => 7 | .img => 8 | .host => 9 | .jnl => 10 | .lane => 11 | .seam => 12 | .edg => 13 | .comp => 14
  | .bnc => 15 | .bal => 16 | .evs => 17 | .mode => 18 | .modeQ => 19 | .adc => 20 | .cmp => 21 | .safe => 22 | .mesh => 23 | .pair => 24 | .fuse => 25 | .key => 26 | .keyed => 27 | .pts => 28
/-- The part is the same in both states. -/
def Part.same : Part → State → State → Prop
  | .now, s, u => u.now = s.now | .ofs, s, u => u.ofs = s.ofs | .out, s, u => (u.out, u.sets) = (s.out, s.sets) | .free, s, u => u.free = s.free
  | .pending, s, u => u.pending = s.pending | .sys, s, u => u.sys = s.sys | .pwr, s, u => u.pwr = s.pwr | .clk, s, u => u.clk = s.clk
  | .img, s, u => u.img = s.img | .host, s, u => u.host = s.host | .jnl, s, u => u.jnl = s.jnl | .lane, s, u => u.lane = s.lane
  | .seam, s, u => u.seam = s.seam | .edg, s, u => u.edg = s.edg | .comp, s, u => u.comp = s.comp | .bnc, s, u => u.bnc = s.bnc
  | .bal, s, u => u.bal = s.bal | .evs, s, u => u.evs = s.evs | .mode, s, u => u.mode = s.mode | .modeQ, s, u => u.modeQ = s.modeQ
  | .adc, s, u => u.adc = s.adc | .cmp, s, u => u.cmp = s.cmp | .safe, s, u => u.safe = s.safe | .mesh, s, u => u.mesh = s.mesh
  | .pair, s, u => u.pair = s.pair | .fuse, s, u => u.sys.fused = s.sys.fused
  | .key, s, u => (u.sys.keySet, u.sys.keyHash) = (s.sys.keySet, s.sys.keyHash)
  | .keyed, s, u => u.keyed = s.keyed | .pts, s, u => u.pts = s.pts
/-- Nothing but the parts listed, the time and what is sent has changed. -/
def Only (l : List Part) (s u : State) : Prop := ∀ p : Part, p ∉ .now :: .out :: l → p.same s u
/-- A command goes through: it answers a next state with a property, and nothing but the parts listed has changed. -/
def Gives (c : Instr) (s : State) (l : List Part) (F : State → Prop) : Prop := ∃ u : State, exec c s = .next u ∧ Only l s u ∧ F u
/-- The same for a command that acts on a state b, which its frame or what was due has brought about first. -/
def GivesOn (c : Instr) (s b : State) (l : List Part) (F : State → Prop) : Prop := ∃ u : State, exec c s = .next u ∧ Only l b u ∧ F u

/-- A direct access reaches a register of this device: BAR0 does not show another node, no warm reset runs, the register's
domain is on, and the device is no STANDBY (R604, R658, R678, R698). -/
structure Reaches (src : Src) (off dom : Nat) (s : State) : Prop where
  here : s.viewed src off = false
  awake : s.pwr.warm = false
  on : s.pwr.dom.testBit (dom - 1) = true
  serves : s.standby = false

/-! ## Bench instructions (R325 to R327) -/

/-- A bench may issue an instruction: its program runs, and has not run past its end. -/
structure Issues (k : Nat) (s : State) : Prop where
  runs : s.benchRuns k = true
  fetches : (s.bench k).pc < (s.benchDecl k).progLen
/-- The state once a bench holds what the shared units owe it by the cycle of its next instruction (R340 to R343). -/
def State.served (k : Nat) (s : State) : State := s.unitsDue k (s.bench k).cyc
/-- A bench after it has issued an instruction: the program goes on, one cycle is counted. -/
def Bench.issued (q : Bench) : Bench :=
  { q with pc := (State.advance q.pc q.loops).1, loops := (State.advance q.pc q.loops).2, cyc := q.cyc + 1 }

/-! ## Frames from cells (R208, R237, R239, R240, R251, R266) -/

/-- A stretch of a seam lane brings one frame, whole: its header and payload; the lane takes frames of its seam's cells. -/
structure Brings (x : LaneRx) (typ : Nat) (f : FrameHdr) (p : Bytes) (s : State) : Prop where
  low : x.lane < 32
  takes : s.laneTakes x.lane = true
  hears : s.seamDeaf x.lane = false
  whole : ∃ b, cellFrames x = [some b] ∧ cellType b = typ ∧ cellHdr (1 - x.lane % 2) b = f ∧ cellPay b = p
  seam : f.cell / 8 = x.lane / 2
/-- The frame lies within its cell's allowance, its epoch is the one in force, no copy of it has been seen, and cells are in service. -/
structure Hears (f : FrameHdr) (kind tag : Nat) (s : State) : Prop where
  real : s.cellsReal = true
  epoch : f.epoch = s.seam.epoch
  room : (((s.talk f.cell).frames.find? (·.1 == f.path)).map (·.2)).getD 0 < State.allowance (s.talk f.cell)
  new : (s.talk f.cell).seen.find? (fun x => x.period == f.period && x.kind == kind && x.tag == tag) = none
  known : f.cell < s.seam.talks.length ∧ f.cell < s.seam.cells.length

/-! ## An arming that stops (R88, R91, R95) -/

/-- Its slot shows again what it showed before; where nothing was arming, the slots are as they were. -/
def Unarmed (i j : Img) : Prop :=
  (i.swapSt ≠ 1 → j.slotA = i.slotA ∧ j.slotB = i.slotB) ∧
  ∀ c, i.swap = some c → i.swapSt = 1 →
    j.slotA = (if c.source = 0 then c.was else i.slotA) ∧ j.slotB = (if c.source = 1 then c.was else i.slotB)

/-! ## Frames from other nodes (R575, R580, R581, R586, R588) -/

/-- The port takes what comes in, and a stretch of it brings one frame, whole and with a CRC that holds. -/
structure PortBrings (x : PortRx) (h : MHdr) (p : Bytes) (s : State) : Prop where
  takes : s.portTakes x.port = true
  whole : meshFrames x = [(h, p, meshCrc h p)]
/-- The frame is for this node: under PATH with no hop left, else by DST. -/
structure FrameFor (x : PortRx) (h : MHdr) (p : Bytes) (s : State) : Prop extends PortBrings x h p s where
  mine : s.isForMe h = true
/-- The state a frame for this node is acted on in: one that comes from elsewhere than the partner has gone on to it (R579); the
route of one that came by PATH is kept for the answer (R586). -/
def State.brought (s : State) (x : PortRx) (h : MHdr) (p : Bytes) : State :=
  let r := if s.cfg.topo.pair && x.port != 0 && !h.mirror && h.dst != 0xFF then State.relay 0 h { h with mirror := true } p (meshCrc h p) s else s
  let n := s.senderOf x.port h
  if h.path ∧ n < 64 ∧ !(s.conv n).bound then r.onConv n fun c => { c with back := some (reversed x.port h.word) } else r
/-- A frame of this node for a node, and the port it leaves by: by PATH where a route is bound, or where that node's own frames came
by PATH (the HOPS of such a reverse route are stated nowhere: w); else by the tables. -/
def State.outFrame (s : State) (n typ seq : Nat) (m : MBody) (w : Nat) : Nat × MFrame :=
  let h : MHdr := { typ := typ, dst := n, src := s.nodeId, epoch := s.seam.epoch, seq := seq }
  if (s.conv n).bound then
    ((s.conv n).path % 4, { hdr := { h with path := true, hops := (s.conv n).hops - 1, word := (s.conv n).path / 4 }, body := m })
  else match (s.conv n).back with
    | some r => (r % 4, { hdr := { h with path := true, hops := w % 16, word := r / 4 }, body := m })
    | none => (s.routePort n, { hdr := h, body := m })
/-- A frame has joined those that wait at the output of its route (R581, R583); MESH is otherwise the same. -/
def Queued (n typ seq : Nat) (m : MBody) (s u : State) : Prop :=
  ∃ w, u.mesh = { s.mesh with ports := modAt s.mesh.ports (s.outFrame n typ seq m w).1 fun x => { x with queue := x.queue ++ [(s.outFrame n typ seq m w).2] } }
/-- A frame waits at the output of its route, where the route has a port. -/
def Waits (n typ seq : Nat) (m : MBody) (s u : State) : Prop :=
  ∃ w, ∀ k f, s.outFrame n typ seq m w = (k, f) → k < s.mesh.ports.length → f ∈ (at' u.mesh.ports k {}).queue

/-! ## Register accesses (R13 to R18, R604, R697, R698) -/

/-- A direct access by a source reaches a register of this device: it is no window and no MSI-X word, BAR0 does not show another
node, no warm reset runs, the register's domain is on, and the register is defined. -/
structure Serves (src : Src) (off : Nat) (r : Reg) (s : State) : Prop where
  low : off < 0x300000 ∧ ¬(0x1C4000 ≤ off ∧ off < 0x1C8000) ∧ ¬(0x018000 ≤ off ∧ off < 0x018408)
  here : s.viewed src off = false
  awake : s.pwr.warm = false
  on : s.domOn src off = true
  reg : s.regAt src off = some r

/-! ## GLOBAL symbols and frames of other nodes (R582, R626) -/

/-- A stretch of a peer port brings one symbol of an operation, whole: the first copy of another node's within 100 us, at a node with an
image in force. It is passed on and acted on. -/
structure FirstCopy (op : Nat) (x : PortRx) (y : Sym) (s : State) : Prop where
  takes : s.portTakes x.port = true
  brings : portSymbols op x = [y]
  live : s.inForce = true
  other : y.origin ≠ s.node
  new : (s.mesh.seenSym.filter fun x => decide (s.now < x.2.2.2 + 100 * Config.us)).any (fun x => x.1 == op && x.2.1 == y.origin && x.2.2.1 == y.tag) = false
/-- A symbol leaves by a port, twice. -/
def Sends (op p : Nat) (y : Sym) (u : State) : Prop := Out.port p [(true, symbolBytes op y), (true, symbolBytes op y)] ∈ u.out
/-- A symbol is passed on: it leaves by every port of its way but the one it came by (R597, R598). -/
def PassedOn (op : Nat) (x : PortRx) (y : Sym) (v u : State) : Prop := ∀ p ∈ v.symbolPorts op y.origin, p ≠ x.port → Sends op p y u
/-- A frame of another node of the mesh, of the authority epoch last heard from it, or the first of any. -/
structure InEpoch (n e : Nat) (s : State) : Prop where
  other : n ≠ s.nodeId
  known : n < 64 ∧ n < s.mesh.convs.length
  epoch : (s.conv n).epoch = some e ∨ (s.conv n).epoch = none

/-! ## Records that are accepted (R106 to R146, R749, R750) -/

/-- The record of a command as its source holds it: the bytes of R106 with their CRC. -/
def State.recRaw (cmd : Cmd) (h : RecHdr) (p : Bytes) : Bytes := let b := State.recBytes h cmd.opcode p; b ++ le 4 (crc32c b).toNat
/-- The state once a record has been taken from its source. -/
def State.recTaken (cmd : Cmd) (h : RecHdr) (p : Bytes) (s : State) : State := s.takeFrom h.src h.ring (State.recRaw cmd h p) id
/-- A record waits at its source, and it is its source's turn (R115, R117, R118). -/
def State.atHand (raw : Bytes) (h : RecHdr) (s : State) : Prop :=
  match h.src with
  | .ring => h.ring < 32 ∧ s.nextSource = some h.ring
  | .mbx0 => (s.mbx 0).busy = false ∧ (s.rung 0 raw).nextSource = some 32
  | .mbx1 => (s.mbx 1).busy = false ∧ (s.rung 1 raw).nextSource = some 33
  | _ => False
/-- A command that carries a record of a kind from its source: what it does is what the record does. -/
def Carries (c : Instr) (cmd : Cmd) (t : Nat) (h : RecHdr) (p : Bytes) : Prop := ∀ s : State, exec c s = .next (s.hostRow cmd t h p)
/-- A record is waiting at its source at this instant and is taken, with lengths that fit its command (R749). -/
structure Arrives (cmd : Cmd) (h : RecHdr) (p : Bytes) (s : State) : Prop where
  takes : s.hostTakes = true
  source : s.atHand (State.recRaw cmd h p) h
  size : p.length ≤ 232 ∧ cmd.lens p.length = true
/-- Such a record passes the session checks too (R749). -/
structure Hosted (cmd : Cmd) (h : RecHdr) (p : Bytes) (s : State) : Prop where
  came : Arrives cmd h p s
  session : (s.recTaken cmd h p).sessionCheck h cmd.opcode = none
/-- SESSION_OPEN and RESUME consume no number (R146). -/
def unsequencedOp (op : Nat) : Bool := op == 1 || op == 4
/-- The state in which the conditions of a record are judged: its lease renewed, unless it opens a session or would resume a
parked one, and its number consumed. -/
def State.intake (cmd : Cmd) (h : RecHdr) (p : Bytes) (s : State) : State :=
  let c := State.ctxOf h.sess
  let v := s.recTaken cmd h p
  if cmd.opcode = 1 ∨ (cmd.opcode = 4 ∧ v.isParked c) then v
  else if cmd.opcode = 4 then v.renew c
  else (v.renew c).onCtx c fun x => { x with e := (x.e + 1) % M32, consumed := x.consumed + 1 }
/-- A record of a command is waiting at its source at this instant and every check lets it through, at a device that
mirrors to no partner. -/
structure Accepts (cmd : Cmd) (h : RecHdr) (p : Bytes) (s : State) : Prop where
  came : Arrives cmd h p s
  session : (s.recTaken cmd h p).sessionCheck h cmd.opcode = none
  next : unsequencedOp cmd.opcode = false →
    serialDiff 32 h.seq (((s.recTaken cmd h p).renew (State.ctxOf h.sess)).ctx (State.ctxOf h.sess)).e = 0
  own : h.node = (s.intake cmd h p).node ∨ cmd.opcode = 0x0201 ∧ field p 1 1 = 1
  judged : (s.intake cmd h p).judge cmd h p ((s.intake cmd h p).roleOk h cmd.opcode) = none
  alone : (s.intake cmd h p).pair.mirror = false ∧ (s.intake cmd h p).pair.holding = false
  acts : cmd.opcode ≠ 3
/-- What the completions held back may touch besides HOST, once they go out: where one answers a record of the head, MESH, which carries it there
with a free value. -/
def State.heldParts (s : State) : List Part :=
  if s.host.held.any (·.h.src == .mesh) || s.host.opens.any (fun o => o.kind == 9 && o.h.src == .mesh) then [.mesh, .free] else []

/-- A completion goes back to where a record came from, in u: into the slot of its ring that is next in v, with the phase of v, or into its mailbox. -/
def Told (h : RecHdr) (k : Cpl) (v u : State) : Prop :=
  (if h.src = .ring then
    .completion .ring h.ring ((v.ctx h.ring).cqBase + 32 * (v.ctx h.ring).cqTail) (State.cplBytes k (v.ctx h.ring).phase)
  else .completion h.src 0 0 (State.cplBytes k false)) ∈ u.out
/-- A record is rejected: its completion is sent, and one spoil record is left (R132). CODE is given for REFUSED and NAK alone (R109). -/
def Rejected (h : RecHdr) (op status : Nat) (r : Refuse) (expSeq : Nat) (v u : State) : Prop :=
  Told h { sess := h.sess, status := status, code := if status = 4 then 0 else r.code, seq := h.seq, opcode := op, detail := r.detail, exp := expSeq } v u ∧
  u.host.spoilHead = (v.host.spoilHead + 1) % 2 ^ 32 ∧
  u.host.spoils.head? = some { time := v.sysTime, sess := h.sess, src := h.src.code, code := r.code, seq := h.seq, opcode := op, node := h.node,
                               target := h.target, detail := r.spoil }
/-- A session's sequence state is as it was: its expected number, how many it has consumed, its completions kept (R130). -/
def Unconsumed (c : Nat) (v u : State) : Prop :=
  (u.ctx c).e = (v.ctx c).e ∧ (u.ctx c).consumed = (v.ctx c).consumed ∧ (u.ctx c).cache = (v.ctx c).cache

/-! ## Causes of SAFE (R418, R451) -/

/-- The cause with the lowest code among some (R451). -/
def Lowest (l : List (Nat × Nat)) (c : Nat × Nat) : Prop := c ∈ l ∧ ∀ d ∈ l, c.1 ≤ d.1
/-- SAFE has been entered at an instant, by the lowest of some causes (R418, R451). -/
def SafeBy (l : List (Nat × Nat)) (now : Nat) (u : State) : Prop :=
  ∃ c, Lowest l c ∧ u.mode.mode = 8 ∧ u.mode.reason = c.1 ∧ u.mode.index = c.2 ∧ u.mode.safeAt = now

/-! ## Identity queries (R259, R262, R627) -/

/-- Between v and u a position is asked for its identity: the query is open under its new TAG and has left on the seam. -/
def IdentAsked (c : Nat) (v u : State) : Prop :=
  (u.talk c).ctrl = some { op := 1, tag := ((v.talk c).tag + 1) % 256, arg := 0, data := [], why := 7, sends := 1, sentAt := v.now } ∧
  (u.talk c).identTag = some (((v.talk c).tag + 1) % 256) ∧
  ∀ l ∈ v.seamTx (c / 8), Out.lane l (cellBlocks 3 c v.per v.seam.epoch (ctrlPay 1 (((v.talk c).tag + 1) % 256) 0 [])) ∈ u.out

/-! ## Frames of the pair partner (R579, R618) -/

/-- A stretch of P0 brings one PAIR frame, for this node. -/
structure FromPartner (x : PortRx) (h : MHdr) (p : Bytes) (s : State) : Prop extends FrameFor x h p s where
  link : x.port = 0
  typ : h.typ = 6

/-! ## Line coding (R201 to R203, R575, R580) -/

/-- What a block is before the scrambler: its kind to a receiver. -/
def blkKind (b : Bool × Bytes) : BKind := if b.1 then (if isMarker b.2 then .marker else ctlKind b.2) else .data
/-- No scrambled control block of a stretch has by chance the form of a marker, which a receiver would take it for (R203, R204). -/
def NoFalseMarker (pre : Nat) (l : List (Bool × Bytes)) : Prop :=
  ∀ x ∈ (shout pre l).zip l, x.2.1 = true → isMarker x.2.2 = false → isMarker (le 8 x.1.pay) = false
/-- The port-blocks of a port as its two lanes carry them (R575). -/
def evenHalf (l : List (Bool × Bytes)) : List (Bool × Bytes) := l.map fun b => (b.1, b.2.take 8)
def oddHalf (l : List (Bool × Bytes)) : List (Bool × Bytes) := l.map fun b => (b.1, b.2.drop 8)
/-- A header fits its fields (R580). -/
structure HeaderInFields (h : MHdr) : Prop where
  typ : h.typ < 256
  dst : h.dst < 256
  src : h.src < 256
  hops : h.hops < 16
  epoch : h.epoch < 2 ^ 16
  seq : h.seq < 2 ^ 32
  word : h.word < 2 ^ 32

end Sys2Proof.Machine
end

