-- ==== Sys2Proof/Certificates/Slice0/Obligations.lean ====
section
/-! DEFINITION. The statements about the controller that the provers are given. -/
open Sys2Proof Sys2Proof.Machine

/-- A step takes the command that has waited longest and has its effect, with the rest of the queue left waiting in its order; commands
leave the queue alone.
Where the spec leaves a choice, the model's: log entries 3, 9. -/
def Obligations.StepRunsTheFrontCommand : Prop :=
  ∀ (c : Instr) (rest : List Instr) (s : State), s.pending = c :: rest → step s = exec c { s with pending := rest } ∧
    ∃ u, step s = .next u ∧ u.pending = rest

/-- With no command waiting, a step takes no time and changes nothing but the frames that wait at the peer ports (log entries 3 and 193, the model's
choice): each port that sends its own port-blocks sends the frame that is next by class and order of arrival (R581); what waits at a port that does not
send is lost; where no frame waits nothing changes. -/
def Obligations.EmptyQueueIdles : Prop :=
  ∀ s : State, s.pending = [] → ∃ u, step s = .next u ∧ u.now = s.now ∧ Only [.mesh] s u ∧
    (∀ p < 4, p < s.mesh.ports.length →
      (s.portSends p = false → (at' u.mesh.ports p {}).queue = []) ∧
      (s.portSends p = true →
        (nextFrame (at' s.mesh.ports p {}).queue = none → (at' u.mesh.ports p {}).queue = (at' s.mesh.ports p {}).queue) ∧
        ∀ f, nextFrame (at' s.mesh.ports p {}).queue = some f →
          (at' u.mesh.ports p {}).queue = (at' s.mesh.ports p {}).queue.erase f ∧ frameOut p f ∈ u.out)) ∧
    ((∀ p < 4, (at' s.mesh.ports p {}).queue = []) → u = { s with out := [] })

/-- No command of the table ends a run: each answers a next state, whatever its operands and the state, without touching the queue
(the spec gives every error an outcome the part goes on from: a completion, a spoil record, an event bit).
Where the spec leaves a choice, the model's: log entries 1, 2. -/
def Obligations.EveryCommandGoesOn : Prop := ∀ (c : Instr) (s : State), ∃ u, exec c s = .next u ∧ u.pending = s.pending

/-- The part when power-on reset is released (R419, R647, R648): mode and target OFF, SYSPLL OFF, no image in force, every session context closed and no
holder of control, the safety island in INIT with its outputs off, and the model's queue and stores empty; the key invariant holds.
Where the spec leaves a choice, the model's: log entries 7, 8. -/
def Obligations.ResetState : Prop :=
  State.reset.pending = [] ∧ State.reset.keyed = true ∧ State.reset.mode.mode = 0 ∧ State.reset.mode.target = 0 ∧ State.reset.clk.st = 0 ∧
  State.reset.clk.started = false ∧ State.reset.img.desc = none ∧ State.reset.inForce = false ∧ State.reset.host.ctrl = none ∧
  (∀ c, (State.reset.ctx c).st = 0) ∧ State.reset.safe.st = 0 ∧ State.reset.jnl.head = 0 ∧ State.reset.host.spoils = [] ∧
  Sparse.wf 0 State.reset.img.buf = true

/-- The key fuses are one-time (R72): a step keeps the invariant that a key in force is a key fused, and what has been fused stays fused. -/
def Obligations.KeyFusesAreKept : Prop :=
  ∀ s u : State, s.keyed = true → step s = .next u → u.keyed = true ∧ ∀ k, s.sys.fused = some k → u.sys.fused = some k

/-- The sequence check (R130 to R132): a record of the number expected is consumed, also where its command is refused; a number answered before
gets its answer again, marked DUP, one still to be answered waits for that answer, and another record under such a number is a conflict; a number
ahead is a gap and one behind is stale. What is not consumed changes nothing of the session's sequence, and neither does a record that fails a session
check. Every rejection leaves one spoil record.
Where the spec leaves a choice, the model's: log entry 183. -/
def Obligations.RecordsInSequence : Prop :=
  ∀ (c : Instr) (cmd : Cmd) (t : Nat) (h : RecHdr) (p : Bytes) (s v : State) (x : Ctx) (y : Word), Carries c cmd t h p → Arrives cmd h p (s.begin t) →
    cmd.opcode ≠ 1 → cmd.opcode ≠ 3 → cmd.opcode ≠ 4 → v = (s.begin t).recTaken cmd h p → x = v.ctx (State.ctxOf h.sess) →
    y = crc32c (State.recBytes h cmd.opcode p) →
    (∀ r, v.sessionCheck h cmd.opcode = some r → Gives c s [.host] fun u =>
      Rejected h cmd.opcode 5 r (v.expOf h) v u ∧ Unconsumed (State.ctxOf h.sess) v u) ∧
    (v.sessionCheck h cmd.opcode = none →
      (∀ r w, serialDiff 32 h.seq x.e = 0 →
        w = (v.renew (State.ctxOf h.sess)).onCtx (State.ctxOf h.sess) (fun z => { z with e := (z.e + 1) % 2 ^ 32, consumed := z.consumed + 1 }) →
        h.node = w.node → w.judge cmd h p (w.roleOk h cmd.opcode) = some r → cmd.deny h r w = w →
        Gives c s [.host] fun u => Rejected h cmd.opcode 3 r ((x.e + 1) % 2 ^ 32) v u ∧ (u.ctx (State.ctxOf h.sess)).e = (x.e + 1) % 2 ^ 32 ∧
          (u.ctx (State.ctxOf h.sess)).consumed = x.consumed + 1 ∧ (u.ctx (State.ctxOf h.sess)).cache = ({ seq := h.seq, crc := y, cpl := {
            sess := h.sess, status := 3, code := r.code, seq := h.seq, opcode := cmd.opcode, detail := r.detail, exp := (x.e + 1) % 2 ^ 32 } } ::
              x.cache).filter fun z => decide (serialDiff 32 ((x.e + 1) % 2 ^ 32) z.seq ≤ 256)) ∧
      (∀ k, 1 ≤ serialDiff 32 x.e h.seq → serialDiff 32 x.e h.seq ≤ min 256 x.consumed → x.cache.find? (·.seq == h.seq) = some k →
        (k.crc = y → Gives c s [.host] fun u => Told h { k.cpl with dup := true } v u ∧ u.host.spoilHead = v.host.spoilHead ∧
          Unconsumed (State.ctxOf h.sess) v u) ∧
        (k.crc ≠ y → Gives c s [.host] fun u => Rejected h cmd.opcode 5 { code := 7, spoil := k.crc.toNat } x.e v u ∧
          Unconsumed (State.ctxOf h.sess) v u)) ∧
      (∀ o, 1 ≤ serialDiff 32 x.e h.seq → serialDiff 32 x.e h.seq ≤ min 256 x.consumed → x.cache.find? (·.seq == h.seq) = none →
        v.host.opens.find? (fun z => z.h.sess == h.sess && z.h.seq == h.seq && z.kind != 9) = some o →
        (o.crc = y → Gives c s [.host] fun u => (∃ z ∈ u.host.opens, z.kind = 9 ∧ z.h = h) ∧ u.host.spoilHead = v.host.spoilHead ∧
          Unconsumed (State.ctxOf h.sess) v u) ∧
        (o.crc ≠ y → Gives c s [.host] fun u => Rejected h cmd.opcode 5 { code := 7, spoil := o.crc.toNat } x.e v u ∧
          Unconsumed (State.ctxOf h.sess) v u)) ∧
      (¬(1 ≤ serialDiff 32 x.e h.seq ∧ serialDiff 32 x.e h.seq ≤ min 256 x.consumed) → 1 ≤ serialDiff 32 h.seq x.e →
        (serialDiff 32 h.seq x.e ≤ 2 ^ 31 - 1 → Gives c s [.host] fun u => Rejected h cmd.opcode 4 { code := 5, spoil := x.e } x.e v u ∧
          Unconsumed (State.ctxOf h.sess) v u) ∧
        (2 ^ 31 ≤ serialDiff 32 h.seq x.e → Gives c s [.host] fun u => Rejected h cmd.opcode 5 { code := 6, spoil := x.e } x.e v u ∧
          Unconsumed (State.ctxOf h.sess) v u)))

/-- A command of classes 0x01 to 0x0B from a session without CONTROL (R108): its number is consumed, its completion and its one spoil record say ROLE,
and nothing but HOST changes, for this node and for another alike. -/
def Obligations.ControlRoleRequired : Prop :=
  ∀ (c : Instr) (cmd : Cmd) (t : Nat) (h : RecHdr) (p : Bytes) (s v w : State) (x : Ctx), Carries c cmd t h p → Arrives cmd h p (s.begin t) →
    1 ≤ cmd.opcode / 256 → cmd.opcode / 256 ≤ 11 → v = (s.begin t).recTaken cmd h p → v.sessionCheck h cmd.opcode = none →
    x = v.ctx (State.ctxOf h.sess) → serialDiff 32 h.seq x.e = 0 → v.host.ctrl ≠ some (State.ctxOf h.sess) →
    w = (v.renew (State.ctxOf h.sess)).onCtx (State.ctxOf h.sess) (fun z => { z with e := (z.e + 1) % 2 ^ 32, consumed := z.consumed + 1 }) →
    cmd.deny h { code := 0x0A, spoil := w.ctrlSess } w = w →
    Gives c s [.host] fun u => Rejected h cmd.opcode 3 { code := 0x0A, spoil := w.ctrlSess } ((x.e + 1) % 2 ^ 32) v u ∧
      (u.ctx (State.ctxOf h.sess)).e = (x.e + 1) % 2 ^ 32 ∧ u.host.ctrl = s.host.ctrl

/-- A node that is not the head (R112): SESSION_OPEN and every record from a mailbox are refused with NOT_HEAD, and no session context changes. -/
def Obligations.SessionsOnlyOnTheHead : Prop :=
  ∀ (c : Instr) (cmd : Cmd) (t : Nat) (h : RecHdr) (p : Bytes) (s v : State), Carries c cmd t h p → Arrives cmd h p (s.begin t) →
    cmd.opcode = 1 ∨ h.src = .mbx0 ∨ h.src = .mbx1 → v = (s.begin t).recTaken cmd h p → v.node ≠ 0 →
    Gives c s [.host] fun u => Rejected h cmd.opcode 5 { code := 0x0D, spoil := v.node } (v.expOf h) v u ∧
      Unconsumed (State.ctxOf h.sess) v u ∧ ∀ k, (u.ctx k).st = (s.ctx k).st ∧ (u.ctx k).sess = (s.ctx k).sess

/-- A completion ring with no free slot (R115): no record is taken from the submission ring of its context, whatever the record says: the
ring's head, the turn among the sources, every sequence and the spoil log stay.
Where the spec leaves a choice, the model's: log entry 184. -/
def Obligations.FullCompletionRing : Prop :=
  ∀ (c : Instr) (cmd : Cmd) (t : Nat) (h : RecHdr) (p : Bytes) (s : State), Carries c cmd t h p → h.src = .ring →
    State.cqFull (s.ctx h.ring) = true →
    Gives c s [] fun u => (u.ctx h.ring).sqHead = (s.ctx h.ring).sqHead ∧ u.host.turn = s.host.turn ∧
      (∀ k, Unconsumed k s u) ∧ u.host.spoilHead = s.host.spoilHead

/-- KEEPALIVE (R126): whatever its number, it is answered with STATUS ALIVE and the number expected next; it consumes and caches nothing, and
only HOST changes, so nothing is journalled. -/
def Obligations.KeepaliveIsAProbe : Prop :=
  ∀ (s v : State) (t : Nat) (h : RecHdr), Hosted cmdKeepalive h [] (s.begin t) → v = (s.begin t).recTaken cmdKeepalive h [] →
    Gives (.keepalive t h) s [.host] fun u => Unconsumed (State.ctxOf h.sess) v u ∧
      Told h { sess := h.sess, status := 6, seq := h.seq, opcode := 3, exp := (v.ctx (State.ctxOf h.sess)).e } v u

/-- RESUME (R124): a session whose role has passed to another is resumed without it, and the other keeps it. -/
def Obligations.ResumedAsObserver : Prop :=
  ∀ (s : State) (t q c : Nat) (h : RecHdr), Accepts cmdResume h (le 4 q) (s.begin t) → s.host.ctrl = some c → c ≠ State.ctxOf h.sess →
    Gives (.resume t h q) s ([.host, .jnl] ++ s.heldParts) fun u => (u.ctx (State.ctxOf h.sess)).st = 1 ∧ u.host.ctrl = some c ∧
      u.host.ctrl ≠ some (State.ctxOf h.sess)

/-- A host-loss policy scheduled or applied stays so (R128): a session opened or resumed and control taken leave MODE as it stands.
Where the spec leaves a choice, the model's: log entry 22. -/
def Obligations.HostLossPolicyStays : Prop :=
  ∀ (s : State) (t : Nat) (h : RecHdr),
    (∀ c r, Accepts cmdSessionOpen h (le 1 c ++ le 1 r ++ le 2 0) (s.begin t) →
      Gives (.sessionOpen t h c r) s ([.host, .jnl] ++ s.heldParts) fun u => u.modeQ = s.modeQ ∧ u.mode = s.mode) ∧
    (∀ q, Accepts cmdResume h (le 4 q) (s.begin t) → Gives (.resume t h q) s ([.host, .jnl] ++ s.heldParts) fun u => u.modeQ = s.modeQ ∧ u.mode = s.mode) ∧
    (Accepts cmdTakeControl h [] (s.begin t) → Gives (.takeControl t h) s ([.host, .jnl] ++ s.heldParts) fun u => u.modeQ = s.modeQ ∧ u.mode = s.mode)

/-- Session commands (R119, R122 to R128, R144): what an accepted one leaves of its context and of the control role. KEEPALIVE renews the
lease and is answered, but consumes and journals nothing.
Where the spec leaves a choice, the model's: log entries 22, 71, 185. -/
def Obligations.SessionsAndTheirCommands : Prop :=
  (∀ (s b : State) (t c r : Nat) (h : RecHdr), Accepts cmdSessionOpen h (le 1 c ++ le 1 r ++ le 2 0) (s.begin t) → b = s.begin t → c < 32 → r < 2 →
    c < s.host.ctxs.length →
    Gives (.sessionOpen t h c r) s ([.host, .jnl] ++ s.heldParts) fun u => (u.ctx c).st = 1 ∧ (u.ctx c).sess = 32 * (b.ctx c).gen + c ∧
      (u.ctx c).e = (h.seq + 1) % 2 ^ 32 ∧ (u.ctx c).leaseEnd = b.now + s.host.leaseMs * Config.ms ∧
      u.host.ctrl = (if r = 1 then some c else s.host.ctrl)) ∧
  (∀ (s b : State) (t : Nat) (h : RecHdr), Accepts cmdSessionClose h [] (s.begin t) → b = s.begin t →
    Gives (.sessionClose t h) s ([.host, .jnl, .evs, .modeQ, .safe, .mesh] ++ s.heldParts) fun u => (u.ctx (State.ctxOf h.sess)).st = 0 ∧
      (u.ctx (State.ctxOf h.sess)).gen = (if (b.ctx (State.ctxOf h.sess)).gen = 2047 then 1 else (b.ctx (State.ctxOf h.sess)).gen + 1) ∧
      u.host.ctrl = (if s.host.ctrl = some (State.ctxOf h.sess) then none else s.host.ctrl) ∧
      (s.host.ctrl = some (State.ctxOf h.sess) → s.mode.mode ≠ 0 → u.modeQ.lossSched = s.modeQ.lossSched ++ [b.boundaryAfter])) ∧
  (∀ (s b : State) (t : Nat) (h : RecHdr), Hosted cmdKeepalive h [] (s.begin t) → b = s.begin t →
    Gives (.keepalive t h) s [.host] fun u => (u.ctx (State.ctxOf h.sess)).leaseEnd = b.now + s.host.leaseMs * Config.ms ∧
      (u.ctx (State.ctxOf h.sess)).e = (b.ctx (State.ctxOf h.sess)).e ∧ (u.ctx (State.ctxOf h.sess)).st = (b.ctx (State.ctxOf h.sess)).st ∧
      u.host.ctrl = s.host.ctrl) ∧
  (∀ (s b : State) (t q : Nat) (h : RecHdr), Accepts cmdResume h (le 4 q) (s.begin t) → b = s.begin t →
    Gives (.resume t h q) s ([.host, .jnl] ++ s.heldParts) fun u => (u.ctx (State.ctxOf h.sess)).st = 1 ∧ (u.ctx (State.ctxOf h.sess)).sess = h.sess ∧
      (u.ctx (State.ctxOf h.sess)).sqHead = 0 ∧ (u.ctx (State.ctxOf h.sess)).cqHead = 0 ∧ (u.ctx (State.ctxOf h.sess)).sqTail = 0 ∧
      (u.ctx (State.ctxOf h.sess)).e = (b.ctx (State.ctxOf h.sess)).e ∧
      (u.ctx (State.ctxOf h.sess)).leaseEnd = b.now + s.host.leaseMs * Config.ms ∧ u.host.ctrl = s.host.ctrl) ∧
  (∀ (s b : State) (t : Nat) (h : RecHdr), Accepts cmdTakeControl h [] (s.begin t) → b = s.begin t →
    Gives (.takeControl t h) s ([.host, .jnl] ++ s.heldParts) fun u => u.host.ctrl = some (State.ctxOf h.sess) ∧
      (u.ctx (State.ctxOf h.sess)).e = ((b.ctx (State.ctxOf h.sess)).e + 1) % 2 ^ 32) ∧
  (∀ (s b : State) (t : Nat) (h : RecHdr), Accepts cmdReleaseControl h [] (s.begin t) → b = s.begin t →
    Gives (.releaseControl t h) s ([.host, .jnl, .modeQ, .mesh] ++ s.heldParts) fun u => u.host.ctrl = none ∧
      (u.ctx (State.ctxOf h.sess)).e = ((b.ctx (State.ctxOf h.sess)).e + 1) % 2 ^ 32 ∧
      (s.mode.mode ≠ 0 → u.modeQ.lossSched = s.modeQ.lossSched ++ [b.boundaryAfter]))

/-- Ring registers, mailboxes, leases and the journal's own events (R115 to R125, R140, R143, R751): START judges the rings; a bad tail or
head is not applied; leases expire and parked sessions close; the journal is spilled and read.
Where the spec leaves a choice, the model's: log entries 65, 152, 182. -/
def Obligations.RingsLeasesAndJournal : Prop :=
  (∀ (s b : State) (t c : Nat) (ifc : Iface), b = s.begin t → b.pwr.warm = false → b.pwr.dom.testBit 2 = true → (b.ctx c).st = 1 →
    Gives (.hostSessCtlStart t ifc c) s [.host] fun u => u.host = (if ringValid (b.ctx c) then b.onCtx c fun x => { x with
        st := 2, sqHead := 0, cqTail := 0, phase := true, ringErr := false }
      else b.onCtx c fun x => { x with
        ringErr := true }).host) ∧
  (∀ (s b : State) (t c v : Nat) (ifc : Iface), b = s.begin t → b.pwr.warm = false → b.pwr.dom.testBit 2 = true →
    Gives (.hostSqTailWrite t ifc c v) s [.host] fun u => u.host = (if (b.ctx c).st = 2 ∧ (b.ctx c).sqSize ≤ v ∧ ((b.ctx c).sqSize ≠ 0 ∨ v ≠ 0) then
        b.onCtx c fun x => { x with
        ringErr := true }
      else b.onCtx c fun x => { x with
        sqTail := v % 2 ^ 32 }).host) ∧
  (∀ (s b : State) (t c v : Nat) (ifc : Iface), b = s.begin t → b.pwr.warm = false → b.pwr.dom.testBit 2 = true → c < s.host.ctxs.length →
    ((b.ctx c).st = 2 ∧ (b.ctx c).cqSize ≤ v ∧ ((b.ctx c).cqSize ≠ 0 ∨ v ≠ 0) →
      Gives (.hostCqHeadWrite t ifc c v) s [.host] fun u => (u.ctx c).cqHead = (b.ctx c).cqHead ∧ (u.ctx c).ringErr = true) ∧
    ((b.ctx c).st = 2 → v < (b.ctx c).cqSize →
      Gives (.hostCqHeadWrite t ifc c v) s [.host] fun u => (u.ctx c).cqHead = v % 2 ^ 32 ∧ (u.ctx c).ringErr = (b.ctx c).ringErr)) ∧
  (∀ (s b : State) (t m : Nat), b = s.begin t → b.pwr.warm = false → b.pwr.dom.testBit 2 = true →
    Gives (.hostMbxDoorbell t m) s [.host] fun u => u.host = (if (b.mbx m).busy then b.onMbx m fun x => { x with
        dbLost := true }
      else b.onMbx m fun x => { x with
        busy := true, done := false }).host) ∧
  (∀ (s b : State) (t c : Nat), b = s.begin t →
    Gives (.ringAccessFailure t c) s [.host] fun u => u.host = (b.onCtx c fun x => { x with
      ringErr := true }).host) ∧
  (∀ (s b : State) (t c : Nat), b = s.begin t → (b.ctx c).st = 1 ∨ (b.ctx c).st = 2 → (b.ctx c).leaseEnd ≤ b.now →
    Gives (.leaseExpiry t c) s [.host, .jnl, .evs, .modeQ, .safe, .mesh] fun u => u.host = (b.onCtx c fun x => { x with
        st := 3, parkEnd := b.now + s.host.parkKeep * Config.sec }).host ∧ u.jnl.next = s.jnl.next + 1 ∧
      (s.host.ctrl = some c → s.mode.mode ≠ 0 → u.modeQ.lossSched = s.modeQ.lossSched ++ [b.boundaryAfter]) ∧
      (b.safe.unlocked = true → b.safe.unlockSess = (b.ctx c).sess → u.safe.unlocked = false)) ∧
  (∀ (s b : State) (t c : Nat), b = s.begin t → (b.ctx c).st = 3 → (b.ctx c).parkEnd ≤ b.now →
    Gives (.parkKeepExpiry t c) s [.host, .jnl] fun u => u.host = (b.closeCtx c).host ∧ (u.ctx c).st = 0 ∧ (u.ctx c).cache = [] ∧
      u.host.ctrl ≠ some c) ∧
  (∀ (s b : State) (t i : Nat) (e : JEntry), b = s.begin t → b.jnl.spillEn = true → b.jnl.head = i + 1 → b.jnl.spillDev = i % 2 ^ 32 →
    b.jnl.ring.find? (fun x => x.index == i) = some e → serialDiff 32 b.jnl.spillDev b.jnl.spillHost < 2 ^ b.jnl.spillLog →
    Gives (.journalSpill t) s [.jnl] fun u => u.jnl = { s.jnl with
        spillDev := (i + 1) % 2 ^ 32 } ∧
      Out.spill ((s.jnl.spillBase + 64 * (i % 2 ^ s.jnl.spillLog)) % 2 ^ 64)
        (if e.damaged then List.replicate 64 0xFF else State.jBytes e ++ le 4 e.chain.toNat) ∈ u.out) ∧
  (∀ (s b : State) (t : Nat) (ifc : Iface), b = s.begin t → b.viewed ifc.src 0x020000 = false → b.pwr.warm = false → b.pwr.dom.testBit 2 = true →
    Gives (.jnlLoRead t ifc false false) s [.jnl] fun u => u.jnl = { s.jnl with
        headHi := some (s.jnl.head / 2 ^ 32) } ∧ Out.read (le 4 s.jnl.head) ∈ u.out) ∧
  (∀ (s b : State) (t : Nat) (ifc : Iface), b = s.begin t → b.viewed ifc.src 0x020008 = false → b.pwr.warm = false → b.pwr.dom.testBit 2 = true →
    Gives (.jnlLoRead t ifc true false) s [.jnl] fun u => u.jnl = { s.jnl with
        tailHi := some (b.jTail / 2 ^ 32) } ∧ Out.read (le 4 b.jTail) ∈ u.out)

/-- Period boundaries and numbers (R33). -/
def Obligations.PeriodNumbers : Prop :=
  ∀ s : State, 0 < s.kF →
    (s.inPer = 0 ↔ ∃ k, s.sysTime = k * (16 * s.kF)) ∧
    (∀ k, s.sysTime - s.inPer = k * (16 * s.kF) → s.per = k % 2 ^ 32) ∧
    s.per = s.sysTime / (16 * s.kF) % 2 ^ 32

/-- Errors of on-chip memory (R29, R30, R712 to R714): an uncorrectable error is reported with its region and address, and handled as
its region says; corrected errors are counted; the scrub. The sample latch and the output phase of a period (R37, R39, R334, R513).
Where the spec leaves a choice, the model's: log entries 38, 62, 63, 66, 174. -/
def Obligations.MemoryErrorsAndThePeriod : Prop :=
  (∀ (s b : State) (t r k o : Nat), b = s.begin t → r < 14 → b.pwr.dom.testBit (State.regionDom r - 1) = true →
    Gives (.sramUncorrectableError t r k o) s
      [.ofs, .free, .sys, .pwr, .clk, .img, .host, .jnl, .lane, .seam, .edg, .comp, .bnc, .bal, .evs, .mode, .modeQ, .adc, .cmp, .safe, .mesh, .pair]
      fun u => u.sys = { s.sys with
        eccUe := true, ueCnt := sat32 s.sys.ueCnt 1, region := r, ueBench := if r < 2 then k % 16 else 0, ueOfs := o / 8 * 8 % 2 ^ 23, gpioHiz := u.sys.gpioHiz } ∧
      (r ≠ 2 → r ≠ 8 → u.sys.gpioHiz = s.sys.gpioHiz) ∧
      (r = 2 → b.inForce = true → o / 8 * 8 % 2 ^ 23 < b.img.workLen → u.inForce = false) ∧
      (r = 6 → (o / 8 * 8 % 2 ^ 23) / 16384 < b.bnc.loops.length → (u.loopS ((o / 8 * 8 % 2 ^ 23) / 16384)).tab = []) ∧
      (r = 7 → ∀ e, b.jnl.ring.find? (fun e => e.index % 8192 == (o / 8 * 8 % 2 ^ 23) / 64) = some e →
        u.jnl.dmg = e.index ∧ u.jnl.damaged = true ∧ ∀ x ∈ u.jnl.ring, x.index = e.index → x.damaged = true) ∧
      (r = 8 → b.img.bufOpen = false → u.bnc.trace.invalid = true) ∧
      (r = 9 → u.img.fwRun = false)) ∧
  (∀ (s b : State) (t r k : Nat), b = s.begin t → r < 14 → b.pwr.dom.testBit (State.regionDom r - 1) = true →
    Gives (.sramCorrectedError t r k) s [.sys, .bnc] fun u => u.sys.eccCe = true ∧
      (r < 2 → u.bnc = (b.onBench (k % 16) fun q => { q with
        ecc := sat32 q.ecc 1 }).bnc ∧ u.sys.ceCnt = s.sys.ceCnt) ∧
      (2 ≤ r → u.bnc = s.bnc ∧ u.sys.ceCnt = sat32 s.sys.ceCnt 1 ∧ (4294967295 ≤ s.sys.ceCnt + 1 → u.sys.ceSat = true))) ∧
  (∀ (s b : State) (t : Nat), b = s.begin t → b.pwr.dom.testBit 4 = true → b.pwr.st < 2 →
    Gives (.scrubPass t) s [.sys] fun u => u.sys = { s.sys with
      scrub := (s.sys.scrub + 1) % 2 ^ 32, scrubLate := s.sys.scrubLate || decide (s.sys.scrubAt + Config.sec < b.now), scrubAt := max b.now t }) ∧
  (∀ (s b : State) (t : Nat), b = s.begin t → b.atPoint 0 0 = true →
    Gives (.sampleLatch t) s [.free, .sys, .clk, .host, .jnl, .lane, .seam, .edg, .comp, .bnc, .bal, .evs, .mode, .modeQ, .adc, .cmp, .safe, .mesh, .pair, .pts] fun u =>
      u.safe.tickAt = b.now ∧ u.bnc.bad = false ∧ u.bnc.meshNew = [] ∧
      u.modeQ.tpRun = if u.modeQ.ovl.testBit 2 then some u.modeQ.tpGroup else none) ∧
  (∀ (s b : State) (t : Nat), b = s.begin t → b.lagged.atPoint 3 b.kO = true →
    Gives (.outputPhase t) s [.free, .edg, .comp, .bnc, .bal, .mesh, .pts] fun u =>
      (∀ k, k < 16 → b.releases k = true → (∀ d ∈ b.cfg.loops, d.bench = k → (b.loopS d.num).st ≠ 1) →
        (u.bench k).rel = Sparse.gets 0 (b.bench k).mem 0x2000 512) ∧
      (b.standby = false → u.bal.released = maskOf 16 (b.arms.filter fun a => (b.arm a).rank.isSome).contains))

/-- IMG_ID (R98): reads the identity of the image in force, and 0 when none is; a write changes nothing. -/
def Obligations.ImageIdRegister : Prop :=
  ∀ (s b : State) (t v : Nat) (ifc : Iface), b = s.begin t → b.viewed ifc.src 0x240008 = false → b.pwr.warm = false →
    b.domOn ifc.src 0x240008 = true →
    (Gives (.rcRead t ifc 0x240008 4) s [.free] fun u => Out.read (le 4 ((if b.inForce then b.img.id else 0) % 2 ^ 32)) ∈ u.out) ∧
    (b.standby = false → Gives (.registerWrite t ifc 0x240008 4 v) s [] fun _ => True)

/-- Slots, the load buffer and the validations of an image (R54 to R58, R70, R73, R77 to R80, R85, R86, R94 to R99): the buffer opens and closes, a
slot is erased and written, the slot to boot from is set, a validation starts, fails, waits for OFF and for what it asked and brings the bytes
that passed into force.
Where the spec leaves a choice, the model's: log entries 15, 20, 134, 135, 136, 175, 176, 178, 179. -/
def Obligations.ImageSlotsAndLoading : Prop :=
  (∀ (s b : State) (t : Nat) (h : RecHdr), Accepts cmdImgBufOpen h [] (s.begin t) → b = s.begin t →
    Gives (.imgBufOpen t h) s ([.img, .host, .jnl, .bnc] ++ s.heldParts) fun u => u.img = { s.img with
      bufOpen := true
      buf := [] } ∧ u.bnc.trace.st = 0 ∧ u.bnc.trace.rows = []) ∧
  (∀ (s b : State) (t : Nat) (h : RecHdr), Accepts cmdImgBufClose h [] (s.begin t) → b = s.begin t →
    Gives (.imgBufClose t h) s ([.img, .host, .jnl] ++ s.heldParts) fun u => u.img = { s.img with
      bufOpen := false
      buf := [] }) ∧
  (∀ (s b : State) (t k : Nat) (h : RecHdr), Accepts cmdImgSlotErase h (le 4 k) (s.begin t) → b = s.begin t → k < 2 ^ 32 →
    Gives (.imgSlotErase t h k) s ([.img, .host, .jnl] ++ s.heldParts) fun u => u.img = { s.img with
      erasing := s.img.erasing ++ [k]
      val := s.img.val.map fun v => { v with moved := v.moved || v.source == k }
      heldMoved := s.img.heldMoved || (match s.img.held with | some x => x.2.1 == k | none => false)
      flashA := if k = 0 then [] else s.img.flashA
      flashB := if k = 0 then s.img.flashB else [] }) ∧
  (∀ (s b : State) (t k : Nat), b = s.begin t → s.img.erasing.contains k = true →
    Gives (.slotEraseDone t k) s [.img] fun u => u.img = { s.img with
      erasing := s.img.erasing.filter (· != k)
      reason := 1
      slotA := if k = 0 then 0 else s.img.slotA
      slotB := if k = 1 then 0 else s.img.slotB
      irq := true }) ∧
  (∀ (s b : State) (t k n : Nat) (h : RecHdr), Accepts cmdImgSlotWrite h (le 4 k ++ le 4 n) (s.begin t) → b = s.begin t → k < 2 ^ 32 → n < 2 ^ 32 →
    Gives (.imgSlotWrite t h k n) s ([.img, .host, .jnl] ++ s.heldParts) fun u => u.img = { s.img with
      writing := s.img.writing ++ [(k, n, Sparse.within 0 n s.img.buf)]
      val := s.img.val.map fun v => { v with moved := v.moved || v.source == k }
      heldMoved := s.img.heldMoved || (match s.img.held with | some x => x.2.1 == k | none => false)
      flashA := if k = 0 then [] else s.img.flashA
      flashB := if k = 0 then s.img.flashB else [] }) ∧
  (∀ (s b : State) (t k n : Nat) (c : List Host.Cell) (f : List Host.Cell), b = s.begin t → s.img.writing.find? (·.1 == k) = some (k, n, c) → k < 2 →
    f = Sparse.putAll 0xFF (Image.cells 0xFF (State.cellBytes c 0 0 n)) 0x1FF000 (Image.commitRec n ((at' s.img.wcnt k 0 + 1) % M32)) →
    Gives (.slotWriteDone t k) s [.img] fun u => (if k = 0 then u.img.flashA else u.img.flashB) = f ∧
      (if k = 0 then u.img.flashB else u.img.flashA) = (if k = 0 then s.img.flashB else s.img.flashA) ∧ u.img.irq = true ∧
      u.img.writing = s.img.writing.filter (·.1 != k) ∧
      ∀ x, (b.putSlot k f).imageCheck k 0 = x → (if k = 0 then u.img.slotA else u.img.slotB) = (match x.2 with | none => 8 | some y => y.st) ∧
        u.img.reason = (match x.2 with | none => 0 | some y => y.reason)) ∧
  (∀ (s b : State) (t k : Nat) (h : RecHdr), Accepts cmdImgSetBoot h (le 4 k) (s.begin t) → b = s.begin t → k < 2 ^ 32 →
    Gives (.imgSetBoot t h k) s ([.host, .jnl, .evs] ++ s.heldParts) fun u => u.evs = { s.evs with
      bootSlot := k }) ∧
  (∀ (s b : State) (t k n : Nat) (h : RecHdr), Accepts cmdImgLoad h (le 4 k ++ le 4 n) (s.begin t) → b = s.begin t → k < 2 ^ 32 → n < 2 ^ 32 →
    Gives (.imgLoad t h k n) s ([.img, .host, .jnl] ++ s.heldParts) fun u => u.img.cand = 6 ∧ (b.staged = true → u.img.swapSt = 5 ∧ u.img.swapReason = 0x49 ∧ u.img.swap = none) ∧
      (∃ w, u.img.val = some { kind := 1, source := k, len := n, was := w } ∧ (b.img.swapSt ≠ 1 → w = if k = 0 then s.img.slotA else s.img.slotB)) ∧
      (k = 0 → u.img.slotA = 6) ∧ (k = 1 → u.img.slotB = 6)) ∧
  (∀ (s b : State) (t : Nat) (h : RecHdr), Accepts cmdImgRecheck h [] (s.begin t) → b = s.begin t →
    Gives (.imgRecheck t h) s ([.img, .host, .jnl] ++ s.heldParts) fun u => u.img = { s.img with
      val := s.img.held.map fun x => { kind := 2, source := x.2.1, moved := s.img.heldMoved } }) ∧
  (∀ (s b : State) (t : Nat), b = s.begin t → s.img.fwRun = true → s.img.desc = none → s.img.val = none → s.img.hostWait = false ∨ s.pwr.reload = true →
    Gives (.bootValidation t) s [.img] fun u => u.img.run = 6 ∧ u.img.val = some { kind := 0, source := s.evs.bootSlot, fell := false, was := if s.evs.bootSlot = 0 then s.img.slotA else s.img.slotB } ∧
      (s.evs.bootSlot = 0 → u.img.slotA = 6) ∧ (s.evs.bootSlot = 1 → u.img.slotB = 6)) ∧
  (∀ (s b : State) (t : Nat) (v : Val) (d : ImgDesc), b = s.begin t → s.img.val = some v → v.desc = some d →
    b.presentAll d v = true ∨ v.at9 + d.host.discWin * Config.ms ≤ b.now → Gives (.presenceFitWindow t) s [.img] fun u => u.img = { s.img with
      val := some { v with ended9 := true } }) ∧
  (∀ (s b : State) (t : Nat) (v : Val) (d : ImgDesc), b = s.begin t → s.img.val = some v → v.kind = 1 → s.mode.mode ≠ 0 → s.img.hostWait = false →
    Gives (.imageValidationDone t d) s [] fun u => u.img.val = some v) ∧
  (∀ (s b : State) (t : Nat) (v : Val) (d : ImgDesc) (y : Bytes), b = s.begin t → s.img.val = some v → v.desc = none →
    (v.kind = 1 → s.mode.mode = 0 ∨ s.img.hostWait = true) →
    (∀ x, b.imageCheck v.source v.len = (y, some x) → x.st ≠ 5 → v.kind = 1 → s.img.hostWait = false → s.img.desc = none →
      Gives (.imageValidationDone t d) s [.img] fun u => u.img.cand = x.st ∧ u.img.reason = x.reason ∧ u.img.diagSect = x.sect ∧ u.img.diagOfs = x.ofs ∧
        u.img.val = none ∧ u.img.irq = true ∧ (v.source = 0 → v.moved = false → u.img.slotA = x.st)) ∧
    (b.valBytes v = (y, none) → (v.kind = 2 → ∃ a, s.img.held = some (d, a)) → b.fit d = none → b.presentAll d v = false → Gives (.imageValidationDone t d) s [.img, .pwr, .lane] fun u =>
      u.img = { s.img with
        val := some { v with
          desc := some d
          at9 := b.now
          bytes := Image.cells 0 y
          blen := y.length } }) ∧
    (b.valBytes v = (y, none) → (v.kind = 2 → ∃ a, s.img.held = some (d, a)) → b.fit d = none → s.pwr.reload = false → b.presentAll d v = true → b.presence d v (Image.idOf y) = none →
      ∃ u z, exec (.imageValidationDone t d) s = .next u ∧ Only [.img, .pwr, .lane] b z ∧ z.img.val = none ∧ z.img.reason = 0 ∧ (v.kind = 1 → z.img.cand = 5) ∧
        Only [] (z.bringInForce d y v.source v.fell) u ∧ u.img.desc = some d ∧ u.img.run = 5 ∧ u.img.src = v.source + 1 ∧ u.img.id = Image.idOf y ∧
        u.img.hostWait = false)) ∧
  (∀ (s b : State) (t : Nat) (v : Val) (d e : ImgDesc) (y : Bytes), b = s.begin t → s.img.val = some v → v.desc = some d → v.ended9 = true →
    (v.kind = 1 → s.mode.mode = 0 ∨ s.img.hostWait = true) → y = State.cellBytes v.bytes 0 0 v.blen →
    (∀ x, b.presence d v (Image.idOf y) = some x → x.st ≠ 5 → v.kind = 1 → s.img.hostWait = false → s.img.desc = none →
      Gives (.imageValidationDone t e) s [.img] fun u => u.img.cand = x.st ∧ u.img.reason = x.reason ∧ u.img.diagSect = x.sect ∧ u.img.diagOfs = x.ofs ∧
        u.img.val = none ∧ u.img.irq = true ∧ (v.source = 0 → v.moved = false → u.img.slotA = x.st)) ∧
    (b.presence d v (Image.idOf y) = none → s.pwr.reload = false →
      ∃ u z, exec (.imageValidationDone t e) s = .next u ∧ Only [.img] b z ∧ z.img.val = none ∧ z.img.reason = 0 ∧ (v.kind = 1 → z.img.cand = 5) ∧
        Only [] (z.bringInForce d y v.source v.fell) u ∧ u.img.desc = some d ∧ u.img.run = 5 ∧ u.img.src = v.source + 1 ∧ u.img.id = Image.idOf y ∧
        u.img.hostWait = false))

/-- Hot swap and the firmware banks (R87 to R92, R96, R687 to R692): a candidate is armed, scheduled, disarmed, cancelled or takes effect at its
boundary; the inactive bank is written, judged, and the cores restart from it.
Where the spec leaves a choice, the model's: log entries 33, 34, 64, 142, 143, 177, 180. -/
def Obligations.ImageSwapAndFirmware : Prop :=
  (∀ (s b : State) (t k n : Nat) (h : RecHdr), Accepts cmdImgArm h (le 4 k ++ le 4 n) (s.begin t) → b = s.begin t → k < 2 ^ 32 → n < 2 ^ 32 →
    Gives (.imgArm t h k n) s ([.img, .host, .jnl] ++ s.heldParts) fun u => u.img = { s.img with
      swapSt := 1
      swapReason := 0
      swapLate := false
      swapSects := 0
      swapPer := 0
      swap := some { source := k, len := n, was := if k = 0 then s.img.slotA else s.img.slotB }
      slotA := if k = 0 then 6 else s.img.slotA
      slotB := if k = 1 then 6 else s.img.slotB
      irq := u.img.irq }) ∧
  (∀ (s b : State) (t : Nat) (c : Cand) (d : ImgDesc) (y : Bytes), b = s.begin t → s.img.swap = some c → s.img.swapSt = 1 →
    (∀ x, b.imageCheck c.source c.len = (y, some x) → Gives (.armingDone t d) s [.img] fun u => u.img.swapSt = 5 ∧ u.img.swapReason = x.reason ∧
      u.img.swap = none ∧ u.img.diagSect = x.sect ∧ u.img.diagOfs = x.ofs ∧ u.img.irq = true ∧ u.img.desc = s.img.desc ∧
      (c.source = 0 → u.img.slotA = x.st) ∧ (c.source < 2 → u.img.reason = x.reason)) ∧
    (∀ w ts, b.imageCheck c.source c.len = (y, none) → State.armEnds.fitCandidate d b = none → w = b.workBytes → ts = swapDiff w y →
      ((∃ k ∈ ts, (match Image.find w k with | some e => e.flags.testBit 0 | none => false) = false) →
        Gives (.armingDone t d) s [.img] fun u => u.img.swapSt = 5 ∧ u.img.swapReason = 0x40 ∧ u.img.swap = none ∧ u.img.irq = true ∧
          u.img.diagSect = s.img.diagSect ∧ u.img.diagOfs = s.img.diagOfs ∧ (c.source = 0 → u.img.slotA = if c.was = 5 then 5 else 8)) ∧
      ((∀ k ∈ ts, (match Image.find w k with | some e => e.flags.testBit 0 | none => false) = true) →
        2097152 < w.length + (ts.map fun k => (Image.sectBytes y k).length).sum →
        Gives (.armingDone t d) s [.img] fun u => u.img.swapSt = 5 ∧ u.img.swapReason = 0x41 ∧ u.img.swap = none ∧ u.img.irq = true) ∧
      ((∀ k ∈ ts, (match Image.find w k with | some e => e.flags.testBit 0 | none => false) = true) →
        w.length + (ts.map fun k => (Image.sectBytes y k).length).sum ≤ 2097152 →
        Gives (.armingDone t d) s [.img] fun u => u.img.swapSt = 2 ∧ u.img.swapReason = 0 ∧ u.img.irq = true ∧
          (c.source = 0 → u.img.slotA = if c.was = 5 then 5 else 8) ∧
          u.img.swapSects = maskOf 10 (fun k => ts.contains (k + 1)) ∧
          u.img.swap = some { c with
            desc := some (swapDesc s.cfg d ts)
            bytes := Image.cells 0 y
            len := y.length
            id := Image.idOf y
            sects := maskOf 10 fun k => ts.contains (k + 1) }))) ∧
  (∀ (s b : State) (t n : Nat) (h : RecHdr), Accepts cmdImgSwap h (le 4 n) (s.begin t) → b = s.begin t → n < 2 ^ 32 → b.role ≠ 1 → s.pair.handover = none →
    Gives (.imgSwap t h n) s ([.img, .host, .jnl] ++ s.heldParts) fun u => u.img = { s.img with
      swapSt := 3
      swapPer := if 2 ≤ serialDiff 32 n b.per ∧ serialDiff 32 n b.per ≤ 2 ^ 24 then n else b.perPlus 2
      swapLate := !decide (2 ≤ serialDiff 32 n b.per ∧ serialDiff 32 n b.per ≤ 2 ^ 24) }) ∧
  (∀ (s b : State) (t : Nat) (h : RecHdr), Accepts cmdImgDisarm h [] (s.begin t) → b = s.begin t →
    Gives (.imgDisarm t h) s ([.img, .host, .jnl] ++ s.heldParts) fun u => u.img = { s.img with
      swapSt := 0
      swapReason := 0
      swapLate := false
      swapSects := 0
      swapPer := 0
      swap := none
      slotA := u.img.slotA
      slotB := u.img.slotB
      irq := u.img.irq } ∧ Unarmed s.img u.img ∧ (s.img.swapSt = 1 → u.img.irq = true) ∧ (s.img.swapSt ≠ 1 → u.img.irq = s.img.irq)) ∧
  (∀ (s b : State) (t : Nat) (c : Cand), b = s.begin t → b.timeline = true → s.img.swapSt = 3 → b.inPer < 16 → serialDiff 32 b.per s.img.swapPer < 2 ^ 31 →
    s.img.swap = some c → Gives (.swapBoundary t) s [.clk, .img, .host, .jnl, .lane, .evs, .adc, .safe] fun u => u.img = { s.img with
      desc := some (c.desc.getD s.cfg)
      work := c.bytes
      workLen := c.len
      id := c.id
      src := c.source + 1
      fellBack := false
      irq := true
      swapSt := 4
      swap := none
      sigChecked := s.sys.keySet
      bank := 1 - s.img.bank } ∧
      (c.sects.testBit 9 = true → u.host.loss = (c.desc.getD s.cfg).host.loss ∧ u.host.leaseMs = (c.desc.getD s.cfg).host.leaseMs)) ∧
  (∀ (s b : State) (t : Nat) (e : Bool), b = s.begin t →
    (b.staged = true → Gives (.swapCancel t e) s [.img] fun u => u.img = { s.img with
      swapSt := 5
      swapReason := if e then 0x4A else 0x49
      swapLate := false
      swapSects := 0
      swapPer := 0
      swap := none
      slotA := u.img.slotA
      slotB := u.img.slotB
      irq := true } ∧ Unarmed s.img u.img) ∧
    (b.staged = false → Gives (.swapCancel t e) s [] fun _ => True)) ∧
  (∀ (s b : State) (t n : Nat) (h : RecHdr), Accepts cmdImgFwWrite h (le 4 n) (s.begin t) → b = s.begin t → n < 2 ^ 32 →
    Gives (.imgFwWrite t h n) s ([.img, .host, .jnl, .evs] ++ s.heldParts) fun u => u.img = { s.img with
      fwLen := n
      fwSt := 1 } ∧ u.evs = { s.evs with
      fwGood := s.evs.fwGood.set (1 - s.evs.fwBank) false }) ∧
  (∀ (s b : State) (t : Nat), b = s.begin t → s.img.fwSt = 1 →
    (Gives (.fwWriteDone t true) s [.img, .evs] fun u => u.img = { s.img with
      fwSt := 2
      irq := true } ∧ u.evs = { s.evs with
      fwGood := s.evs.fwGood.set (1 - s.evs.fwBank) true }) ∧
    Gives (.fwWriteDone t false) s [.img, .free] fun u => u.img = { s.img with
      fwSt := 5
      fwReason := b.freeWord.toNat % 256
      irq := true }) ∧
  (∀ (s b : State) (t : Nat) (h : RecHdr), Accepts cmdImgFwSwitch h [] (s.begin t) → b = s.begin t →
    Gives (.imgFwSwitch t h) s ([.img, .host, .jnl] ++ s.heldParts) fun u => u.img = { s.img with
      fwAt := some (if b.timeline = true then b.nextS else b.now)
      fwSt := 3 }) ∧
  (∀ (s b : State) (t a : Nat), b = s.begin t → s.img.fwAt = some a → a ≤ b.now →
    Gives (.fwSwitchRestart t) s [.img, .evs, .pair] fun u => u.img = { s.img with
      fwAt := none
      fwSince := some b.now
      fwRun := false }) ∧
  (∀ (s b : State) (t a : Nat), b = s.begin t → s.img.fwSince = some a →
    (b.now ≤ a + 24 * Config.ms → (Gives (.fwSwitchDone t true) s [.img, .evs] fun u => u.evs = { s.evs with
        fwBank := 1 - s.evs.fwBank } ∧ u.img = { s.img with
        fwSince := none
        fwRun := true
        fwSt := 4
        irq := true }) ∧
      Gives (.fwSwitchDone t false) s [] fun u => u.evs = s.evs) ∧
    (a + 24 * Config.ms < b.now → ∀ started, Gives (.fwSwitchDone t started) s [.img, .free] fun u => u.evs = s.evs ∧ u.img = { s.img with
      fwSince := none
      fwRun := true
      fwSt := 5
      fwReason := b.freeWord.toNat % 256
      irq := true }))

/-- Register accesses (R13 to R18, R55, R102, R104, R572, R604, R697 to R701): a direct write has the register's own effect and, for an RW
register, a journal entry; RO ignores, bits reserved for commands refuse to change, a W1C register loses the bits written 1 that hardware does not set in the same instant, an LK register counts a violation; a read gives the
value and clears an RC register; accesses of the node shown, the load buffer, the service SPI, REGACC; the key fuses once.
Where the spec leaves a choice, the model's: log entries 1, 23, 26, 27, 29, 47, 186. -/
def Obligations.RegisterAccesses : Prop :=
  (∀ (s b : State) (t off v : Nat) (ifc : Iface) (r : Reg) (f : Nat → State → State), b = s.begin t → off % 4 = 0 →
    Serves ifc.src off r b → b.standby = false → r.wr = .rw f →
    ∃ u j, exec (.registerWrite t ifc off 4 v) s = .next u ∧ Only [] (f (v % 2 ^ 32) { b with jnl := j }) u) ∧
  (∀ (s b : State) (t off v : Nat) (ifc : Iface) (r : Reg), b = s.begin t → off % 4 = 0 → Serves ifc.src off r b → b.standby = false →
    (r.wr = .ro → Gives (.registerWrite t ifc off 4 v) s [] fun _ => True) ∧
    (∀ (m : Nat) (f : Nat → State → State), r.wr = .part m f → ((v % 2 ^ 32) ^^^ r.val) &&& m ≠ 0 → Gives (.registerWrite t ifc off 4 v) s [.host] fun u =>
      u.host = (b.denied ifc.src off).host) ∧
    (∀ (vec : Option Nat) (m : Nat) (f : Nat → State → State), r.wr = .clr vec m f → ∃ u hit, exec (.registerWrite t ifc off 4 v) s = .next u ∧
      Only [] (f hit b) u ∧ ∀ i, hit.testBit i = ((v % 2 ^ 32).testBit i && m.testBit i && r.val.testBit i && !(b.setNow off).testBit i)) ∧
    (∀ (g : Nat → Nat → Nat → State → State), r.wr = .lk g → Gives (.registerWrite t ifc off 4 v) s [.host, .safe, .evs] fun u => u.safe = { s.safe with
        evt := setBit s.safe.evt 4 })) ∧
  (∀ (s b : State) (t off : Nat) (ifc : Iface) (r : Reg), b = s.begin t → off % 4 = 0 → Serves ifc.src off r b → r.narrow = none →
    ∃ u, exec (.rcRead t ifc off 4) s = .next u ∧ Only [.free] (match r.rd with | some f => f b | none => b) u ∧
      (r.rd = none → Out.read (le 4 r.val) ∈ u.out)) ∧
  (∀ (s b : State) (t off : Nat) (ifc : Iface) (bytes : Bytes), b = s.begin t → off < 0x20000 →
    ifc = .pcie ∧ State.barOk (0x380000 + off) bytes.length = true ∨ ifc = .spi ∨ ifc = .jtag →
    b.viewed ifc.src (0x380000 + off) = false → b.pwr.warm = false → b.domOn ifc.src (0x380000 + off) = true → b.img.bufOpen = true →
    Gives (.loadBufferWrite t ifc off bytes) s [.img] fun u => u.img = { s.img with
      buf := Sparse.putAll 0 s.img.buf ((at' s.sys.pages (State.pageOf ifc.src) {}).trc * 0x20000 + off) bytes }) ∧
  (∀ (s b : State) (t off v : Nat), b = s.begin t → State.barOk off 4 = true → off < 0x400000 → b.viewed .directPcie off = true →
    b.convUp s.mesh.viewNode = true →
    (Gives (.remoteRegisterAccess t true off 4 v) s [.mesh, .free] fun u => u.mesh = (b.sendItem s.mesh.viewNode (.write off (BitVec.ofNat 32 v))).mesh) ∧
    (Gives (.remoteRegisterAccess t false off 4 v) s [.mesh, .free] fun u => u.mesh = (b.ask s.mesh.viewNode off 0).mesh)) ∧
  (∀ (s b : State) (t off v : Nat), b = s.begin t → State.barOk off 4 = true → off < 0x400000 → b.viewed .directPcie off = true →
    b.convUp s.mesh.viewNode = false →
    Gives (.remoteRegisterAccess t false off 4 v) s [.host] fun u => Out.read [0xFF, 0xFF, 0xFF, 0xFF] ∈ u.out) ∧
  (∀ (s b : State) (t : Nat) (bytes : Bytes) (r : Reg) (f : Nat → State → State), b = s.begin t → bytes.length = 8 → bytes.head? = some 0x02 →
    ofBe (slice bytes 1 3) % 4 = 0 → Serves .directSpi (ofBe (slice bytes 1 3)) r b → b.standby = false → r.wr = .rw f →
    ∃ u j, exec (.spiTransaction t bytes) s = .next u ∧ Only [] (f (field bytes 4 4) { b with jnl := j }) u) ∧
  (∀ (s b : State) (t dr : Nat) (r : Reg), b = s.begin t → at' b.pwr.good 0 true = true → b.pwr.resetLow = false → bits dr 63 62 = 1 →
    Serves .directJtag (bits dr 53 32 * 4) r b → r.narrow = none → r.rd = none →
    Gives (.regacc t dr) s [.sys, .free] fun u => u.sys = { s.sys with
      jtagData := BitVec.ofNat 32 r.val, jtagDone := true, jtagDenied := false }) ∧
  (∀ (s b : State) (t dr : Nat) (r : Reg) (f : Nat → State → State), b = s.begin t → at' b.pwr.good 0 true = true → b.pwr.resetLow = false →
    bits dr 63 62 = 2 → Serves .directJtag (bits dr 53 32 * 4) r b → b.standby = false → r.wr = .rw f →
    ∃ u j, exec (.regacc t dr) s = .next u ∧ Only [.sys] (f (dr % 2 ^ 32) { b with jnl := j }) u ∧ u.sys.jtagDone = true) ∧
  (∀ (s b : State) (t : Nat) (key : Bytes) (vpp temp : Bool), b = s.begin t →
    Gives (.fuseProg t key vpp temp) s [.sys, .fuse] fun u =>
      (vpp = true → temp = true → s.mode.mode = 0 ∨ s.img.hostWait = true → s.sys.keySet = false → s.sys.fused = none →
        u.sys = { s.sys with
          fuseKey := padTo 32 (key.take 32), fused := some (padTo 32 (key.take 32)) }) ∧
      (vpp = false ∨ temp = false ∨ s.sys.keySet = true ∨ s.sys.fused ≠ none → u.sys = { s.sys with
          fuseKey := padTo 32 (key.take 32), fuseErr := true })) ∧
  (∀ (s b : State) (t : Nat) (h : RecHdr) (v : Word), Accepts cmdRegWrite h (le 4 0x1C000C ++ le 4 v.toNat) (s.begin t) → b = s.begin t →
    Gives (.safeCtlWrite t h v) s ([.host, .jnl, .safe, .evs] ++ s.heldParts) fun u => u.safe.testEn = v.toNat.testBit 31 ∧
      u.safe.unlockMin = if 1 ≤ v.toNat % 64 ∧ v.toNat % 64 ≤ 60 then v.toNat % 64 else s.safe.unlockMin) ∧
  (∀ (s b : State) (t off : Nat) (h : RecHdr) (v : Word) (r : Reg), Accepts cmdRegWrite h (le 4 off ++ le 4 v.toNat) (s.begin t) → b = s.begin t →
    off < 2 ^ 32 → off ≠ 0x220004 → off ≠ 0x22000C → (∀ x j, ({ b with host := x, jnl := j } : State).regAt h.src off = some r) →
    ∃ u x j w, exec (.regWrite t h off v) s = .next u ∧ w = State.regPut h.src h.sess off r v.toNat { b with host := x, jnl := j } ∧
      Only [.host, .jnl, .mesh, .free] w u ∧ (w.heldParts = [] → Only [.host, .jnl] w u))

/-- SYSPLL from the count of its reference to lock (R154, R157, R158, R162, R172): the count finds the band and the search begins on
the fallback oscillator; the band is found in 6 steps of 64 reference cycles, lock declared once the phase error stayed inside the window for N cycles, and the alignment made; system time begins at the first lock; four searches
in a row without lock set LOCK_FAIL and wait 10 ms.
Where the spec leaves a choice, the model's: log entries 1, 2, 188. -/
def Obligations.SyspllSearch : Prop :=
  (∀ (s b : State) (t n : Nat), b = s.begin t → b.pwr.dom.testBit 14 = true → b.clk.st = 0 → b.clk.refBad = false → 920 ≤ n → n ≤ 1140 →
    Gives (.refFrequencyCount t n) s [.ofs, .clk] fun u => u.sysTime = b.sysTime ∧
      u.clk.refFreq = 2 ∧ u.clk.refPresent = true ∧ u.clk.refBad = false ∧ u.clk.st = 1 ∧ u.clk.onFallback = true ∧ u.clk.stepAt = b.now ∧
      u.clk.fails = 0 ∧ u.clk.waiting = false ∧ u.clk.sysUse = s.clk.sysLock) ∧
  (∀ (s b : State) (t n : Nat), b = s.begin t → b.pwr.dom.testBit 14 = true → b.clk.st = 0 → b.clk.refBad = false →
    n < 230 ∨ 285 < n ∧ n < 460 ∨ 570 < n ∧ n < 920 ∨ 1140 < n ∧ n < 1437 ∨ 1778 < n →
    Gives (.refFrequencyCount t n) s [.ofs, .clk] fun u => u.ofs = s.ofs ∧ u.clk = { s.clk with refPresent := n != 0, refBad := true, countAt := b.now }) ∧
  (∀ (s b : State) (t n : Nat), b = s.begin t → b.pwr.dom.testBit 14 = true → b.clk.st = 0 → b.clk.refBad = true →
    b.clk.countAt + 1280000 ≤ b.now → 1437 ≤ n → n ≤ 1778 →
    Gives (.refCountRetry t n) s [.ofs, .clk] fun u => u.sysTime = b.sysTime ∧ u.clk.refFreq = 3 ∧ u.clk.refPresent = true ∧ u.clk.refBad = false ∧ u.clk.st = 1) ∧
  (∀ (s b : State) (t : Nat), b = s.begin t → b.clk.st = 1 → b.clk.waiting = false →
    100 * b.clk.stepAt + 384 * State.refCycle b.clk.refFreq ≤ 100 * b.now →
    Gives (.bandFound t) s [.clk] fun u => u.clk = { s.clk with st := 2, stepAt := b.now }) ∧
  (∀ (s b : State) (t : Nat), b = s.begin t → b.clk.st = 2 → b.clk.stepAt + 1920000 ≤ b.now → 3 ≤ b.clk.fails →
    Gives (.acquisitionTimeout t) s [.clk] fun u => u.clk = { s.clk with
      st := 1, stepAt := b.now, fails := s.clk.fails + 1, waiting := true, evt := setBit s.clk.evt 14 }) ∧
  (∀ (s b : State) (t : Nat), b = s.begin t → b.clk.st = 2 → b.clk.stepAt + 1920000 ≤ b.now → b.clk.fails < 3 →
    Gives (.acquisitionTimeout t) s [.clk] fun u => u.clk = { s.clk with
      st := 1, stepAt := b.now, fails := s.clk.fails + 1, waiting := false }) ∧
  (∀ (s b : State) (t : Nat), b = s.begin t → b.clk.st = 1 → b.clk.waiting = true → b.clk.stepAt + 128000000 ≤ b.now →
    Gives (.lockSearchRetry t) s [.clk] fun u => u.clk = { s.clk with waiting := false, stepAt := b.now }) ∧
  (∀ (s b : State) (t cycles peak : Nat), b = s.begin t → b.clk.st = 2 → cycles < b.clk.sysUse.n ∨ b.clk.sysUse.w < peak →
    Gives (.lockDeclared t cycles peak) s [] fun _ => True) ∧
  (∀ (s b : State) (t cycles peak : Nat), b = s.begin t → b.clk.st = 2 → b.clk.sysUse.n ≤ cycles → peak ≤ b.clk.sysUse.w →
    100 * b.clk.stepAt + cycles * State.refCycle b.clk.refFreq ≤ 100 * b.now →
    Gives (.lockDeclared t cycles peak) s [.clk] fun u => u.clk = { s.clk with st := 3, stepAt := b.now }) ∧
  (∀ (s b : State) (t : Nat), b = s.begin t → b.clk.st = 3 → b.clk.started = false →
    Gives (.alignmentDone t) s [.ofs, .clk] fun u => u.sysTime = 0 ∧ u.clk.started = true ∧ u.clk.st = 4 ∧ u.clk.onFallback = false) ∧
  (∀ (s b : State) (t : Nat), b = s.begin t → b.clk.st = 3 → b.clk.started = true →
    Gives (.alignmentDone t) s [.ofs, .clk] fun u => u.sysTime = b.sysTime ∧ u.clk.st = 4 ∧ u.clk.onFallback = false)

/-- What SYSPLL does when its reference goes and comes back (R155, R159, R162, R163, R166, R167, R175): HOLDOVER, a slew back by the error
against the nearest alignment point, a relock to another band in OFF, and SAFE when the lock itself is lost outside OFF. System time never steps.
Where the spec leaves a choice, the model's: log entries 2, 5, 187, 188. -/
def Obligations.ReferenceLossAndReturn : Prop :=
  (∀ (s b : State) (t : Nat), b = s.begin t → b.clk.st = 4 → b.clk.onMesh = false →
    Gives (.referenceLoss t) s [.ofs, .clk] fun u => u.sysTime = b.sysTime ∧ u.clk.st = 5 ∧ u.clk.refPresent = false ∧ u.clk.slewing = false ∧ u.clk.stepAt = b.now ∧
      u.clk.evt = setBit (setBit s.clk.evt 13) 12) ∧
  (∀ (s b : State) (t : Nat), b = s.begin t → b.clk.st = 5 → b.clk.slewing = true → b.clk.onMesh = false →
    Gives (.referenceLoss t) s [.ofs, .clk] fun u => u.sysTime = b.sysTime ∧ u.clk = { s.clk with
      refPresent := false, slewing := false, holdErr := 0, evt := setBit s.clk.evt 13 }) ∧
  (∀ (s b : State) (t : Nat), b = s.begin t → b.clk.onHeld = true → b.clk.onMesh = true →
    Gives (.referenceLoss t) s [.ofs, .clk] fun u => u.ofs = s.ofs ∧ u.clk = { s.clk with refPresent := false, onHeld := false, evt := setBit s.clk.evt 13 }) ∧
  (∀ (s b : State) (t : Nat), b = s.begin t → b.clk.st ≠ 4 → b.clk.st ≠ 5 → b.clk.onHeld = false →
    Gives (.referenceLoss t) s [.ofs, .clk] fun u => u.ofs = s.ofs ∧ u.clk = { s.clk with refPresent := false }) ∧
  (∀ (s b : State) (t cycles least : Nat) (clamp : Bool), b = s.begin t → b.clk.st = 4 ∨ b.clk.st = 5 → b.mode.mode = 0 →
    clamp = true ∨ b.clk.sysUse.lol ≤ cycles ∧ min (4 * b.clk.sysUse.w) 1023 < least →
    Gives (.lossOfLock t cycles least clamp) s [.ofs, .clk] fun u => u.sysTime = b.sysTime ∧ u.clk.st = 1 ∧ u.clk.onFallback = true ∧ u.clk.onMesh = false ∧
      u.clk.sysUse = s.clk.sysLock ∧ u.clk.evt = setBit s.clk.evt 15) ∧
  (∀ (s b : State) (t cycles least : Nat), b = s.begin t → cycles < b.clk.sysUse.lol ∨ least ≤ min (4 * b.clk.sysUse.w) 1023 →
    Gives (.lossOfLock t cycles least false) s [] fun _ => True) ∧
  (∀ (s b : State) (t cycles least : Nat) (clamp : Bool), b = s.begin t → b.clk.st = 4 ∨ b.clk.st = 5 → b.mode.mode ≠ 0 → b.mode.mode ≠ 8 →
    b.activeCovered = false → clamp = true ∨ b.clk.sysUse.lol ≤ cycles ∧ min (4 * b.clk.sysUse.w) 1023 < least →
    Gives (.lossOfLock t cycles least clamp) s [.ofs, .free, .sys, .clk, .host, .jnl, .lane, .seam, .edg, .comp, .bnc, .bal, .evs, .mode, .modeQ, .adc, .cmp, .mesh, .pair] fun u =>
      u.mode.mode = 8 ∧ u.mode.reason = 2 ∧ u.mode.cls = 0 ∧ u.comp.done = false ∧ u.comp.cells = [] ∧ (b.role = 1 → u.pair.heartbeat = false)) ∧
  (∀ (s b : State) (t band : Nat) (err : Int), b = s.begin t → b.clk.st = 5 → b.clk.slewing = false → b.clk.onMesh = false →
    band = b.clk.refFreq →
    Gives (.referenceReturn t false band err) s [.ofs, .clk] fun u => u.clk = { s.clk with
      refPresent := true, slewing := true, stepAt := b.now
      holdErr := let a := State.alignTicks band; let r := b.sysTime % a; if 2 * r < a then (r : Int) else (r : Int) - a }) ∧
  (∀ (s b : State) (t band : Nat) (err : Int), b = s.begin t → b.clk.st = 5 → b.clk.slewing = false → b.clk.onMesh = true →
    band = b.clk.refFreq →
    Gives (.referenceReturn t false band err) s [.ofs, .clk] fun u => u.ofs = s.ofs ∧ u.clk = { s.clk with refPresent := true, onHeld := true }) ∧
  (∀ (s b : State) (t band : Nat) (err : Int), b = s.begin t → b.clk.st = 5 → b.clk.slewing = false →
    band ≠ b.clk.refFreq → b.mode.mode ≠ 0 → b.img.hostWait = false →
    Gives (.referenceReturn t false band err) s [.ofs, .clk] fun u => u.ofs = s.ofs ∧ u.clk = { s.clk with refPresent := true, refChanged := true, newBand := band }) ∧
  (∀ (s b : State) (t band : Nat) (err : Int), b = s.begin t → b.clk.st = 5 → b.clk.slewing = false → b.clk.onMesh = true →
    256 < err.natAbs →
    Gives (.referenceReturn t true band err) s [.ofs, .clk] fun u => u.ofs = s.ofs ∧ u.clk = { s.clk with diverged := true }) ∧
  (∀ (s b : State) (t band : Nat) (err : Int), b = s.begin t → b.clk.st = 5 → b.clk.slewing = false → b.clk.onMesh = true →
    1 ≤ err.natAbs → err.natAbs ≤ 256 →
    Gives (.referenceReturn t true band err) s [.ofs, .clk] fun u => u.sysTime = b.sysTime ∧ u.clk = { s.clk with
      slewing := true, holdErr := err, stepAt := b.now, onHeld := false }) ∧
  (∀ (s b : State) (t : Nat), b = s.begin t → b.clk.st = 5 → b.clk.slewing = true → b.clk.started = true → b.slewErr.natAbs ≤ 1 →
    Gives (.slewDone t) s [.ofs, .clk] fun u => u.sysTime = b.sysTime ∧ u.clk.st = 4 ∧ u.clk.slewing = false ∧ u.clk.holdErr = 0 ∧ u.clk.refChanged = false ∧
      u.clk.diverged = false) ∧
  (∀ (s b : State) (t : Nat), b = s.begin t → b.clk.st = 5 → b.clk.refChanged = true → b.img.hostWait = true →
    Gives (.refChangeRelock t) s [.ofs, .clk] fun u => u.sysTime = b.sysTime ∧ u.clk.st = 1 ∧ u.clk.refFreq = s.clk.newBand ∧ u.clk.onFallback = true) ∧
  (∀ (s b : State) (t : Nat), b = s.begin t → b.locked = true → b.clk.onMesh = true →
    Gives (.meshReferenceLoss t) s [.ofs, .clk] fun u => u.sysTime = b.sysTime ∧ u.clk.st = 5 ∧ u.clk.slewing = false ∧ u.clk.evt.testBit 13 = true ∧
      u.clk.onHeld = s.clk.refPresent) ∧
  (∀ (s b : State) (t : Nat), b = s.begin t → b.clk.st = 4 → b.inForce = true → b.cfg.topo.timeMesh = true → b.clk.onMesh = false →
    b.mesh.timeTaken = true →
    Gives (.meshReferenceSwitch t) s [.clk] fun u => u.clk = { s.clk with onMesh := true, meshPort := b.masterPort % 4, meshOnce := true })

/-- System time, OUTPLL, the clock outputs and the trims (R172 to R174, R176, R178, R180, R182, R185, R186): a time load waits for the
first multiple of 2,048 ticks at least 1 us ahead and then sets the time; OUTPLL's lock and its loss; what the CLK registers take; the
latched read of the time; a trim moves one step toward the one called for.
Where the spec leaves a choice, the model's: log entries 5, 79, 80, 81, 189. -/
def Obligations.SystemTimeAndOutputs : Prop :=
  (∀ (s : State) (t time : Nat) (h : RecHdr), Accepts cmdClkTimeLoad h (le 8 time) (s.begin t) → s.cfg.mesh.shape = 0 → time < 2 ^ 64 →
    Gives (.clkTimeLoad t h time) s ([.host, .jnl, .clk, .free, .mesh] ++ s.heldParts) fun u =>
      (s.heldParts = [] → u.mesh = s.mesh ∧ u.free = s.free) ∧ u.clk = { s.clk with
        load := some { time := time, at_ := ((s.begin t).sysTime + 12800 + 2047) / 2048 * 2048, sure := false } }) ∧
  (∀ (s b : State) (t : Nat) (l : TLoad), b = s.begin t → b.clk.load = some l → l.at_ ≤ b.sysTime → l.bad = 0 → l.remote = true →
    b.clk.started = true → b.clk.slewing = false →
    Gives (.timeLoadAct t) s [.ofs, .clk, .adc] fun u => u.adc = { s.adc with svs := s.adc.svs.map fun x => { x with bitAt := u.sysTime } } ∧ u.clk = { s.clk with load := none } ∧ u.ofs < 2 ^ 64 ∧
      (u.sysTime + l.at_) % 2 ^ 64 = (l.time + b.now + s.ofs) % 2 ^ 64) ∧
  (∀ (s b : State) (t cycles peak : Nat), b = s.begin t → b.clk.outSt = 1 → b.locked = true → b.clk.outUse.n ≤ cycles → peak ≤ b.clk.outUse.w →
    b.clk.outAt + 256 * (384 + cycles) ≤ b.now →
    Gives (.outpllLocked t cycles peak) s [.clk] fun u => u.clk.outSt = 2 ∧
      u.clk.outs.map (·.run) = s.clk.outs.map fun o => (b.onClk fun c => { c with outSt := 2 }).outMay o) ∧
  (∀ (s b : State) (t cycles least : Nat), b = s.begin t → b.clk.outSt = 2 → b.clk.outUse.lol ≤ cycles → min (4 * b.clk.outUse.w) 1023 < least →
    Gives (.outpllLossOfLock t cycles least) s [.clk] fun u => u.clk.outSt = 1 ∧ u.clk.evt = setBit s.clk.evt 11 ∧ ∀ o ∈ u.clk.outs, o.run = false) ∧
  (∀ (s b : State) (t : Nat) (ifc : Iface) (v : Word), b = s.begin t → Reaches ifc.src 0x040030 4 b →
    60 ≤ bits v.toNat 31 24 → bits v.toNat 31 24 < 80 →
    Gives (.clkOutpllCfgWrite t ifc v) s [.clk, .jnl] fun u => u.clk.pllM = bits v.toNat 31 24 ∧ u.clk.pllF = bits v.toNat 19 0 ∧
      u.clk.outSt = (if s.locked then 1 else 0) ∧ ∀ o ∈ u.clk.outs, o.run = false) ∧
  (∀ (s b : State) (t n : Nat) (ifc : Iface) (v : Word), b = s.begin t → Reaches ifc.src (0x040040 + 0x10 * n) 4 b → n < s.clk.outs.length →
    8 ≤ bits v.toNat 11 0 → bits v.toNat 11 0 ≤ 4000 →
    Gives (.clkOutCfgWrite t ifc n v) s [.clk, .jnl] fun u =>
      let o := at' u.clk.outs n {}
      o.en = tbit v.toNat 31 ∧ o.offZ = tbit v.toNat 30 ∧ o.fmt = bits v.toNat 29 28 ∧ o.div = bits v.toNat 11 0) ∧
  (∀ (s b : State) (t n : Nat) (ifc : Iface) (v : Word), b = s.begin t → Reaches ifc.src (0x040044 + 0x10 * n) 4 b →
    Gives (.clkOutFstepWrite t ifc n v) s [.clk, .jnl] fun u => u.clk = { s.clk with
      outs := modAt s.clk.outs n fun o =>
        { o with base := if o.run then b.fnow o else toSigned 16 v.toNat, at_ := b.now, target := toSigned 16 v.toNat } }) ∧
  (∀ (s b : State) (t : Nat) (ifc : Iface), b = s.begin t → Reaches ifc.src 0x040020 4 b →
    Gives (.clkTimeLoRead t ifc false) s [.clk] fun u => u.clk = { s.clk with hiLatch := some (b.sysTime / 2 ^ 32) } ∧
      Out.read (le 4 b.sysTime) ∈ u.out) ∧
  (∀ (s b : State) (t g : Nat) (d : Bytes) (k : Nat), b = s.begin t → g < 8 → b.cfg.cal.trims.find? (State.trimTarget · == g) = some d → b.inForce = true → b.img.fwSt ≠ 3 →
    (b.dieBad (State.trimPrimary d) = false ∧ k = State.trimPrimary d ∨
      b.dieBad (State.trimPrimary d) = true ∧ b.dieBad (State.trimAlternate d) = false ∧ k = State.trimAlternate d) →
    State.trim80 (State.trimPoints d) (at' b.bal.die k 0) % 80 = 0 → (g < 2 ∨ 6 ≤ g ∨ (at' b.adc.adcs (g - 2) {}).st ≠ 3) →
    Gives (.trimSample t g) s [.free, .clk] fun u => u.free = s.free ∧ u.clk = { s.clk with
      trims := s.clk.trims.set g (
        let v := at' s.clk.trims g 0; let want := at' b.cfg.cal.trimBase g 0 + State.trim80 (State.trimPoints d) (at' b.bal.die k 0) / 80
        if v < want then v + 1 else if want < v then v - 1 else v) }) ∧
  (∀ (s b : State) (t g : Nat) (d : Bytes), b = s.begin t → g < 8 → b.cfg.cal.trims.find? (State.trimTarget · == g) = some d → b.inForce = true → b.img.fwSt ≠ 3 →
    b.dieBad (State.trimPrimary d) = true → b.dieBad (State.trimAlternate d) = true →
    Gives (.trimSample t g) s [.free, .clk] fun u => u.free = s.free ∧ u.clk = { s.clk with evt := setBit s.clk.evt 10 })

/-- Receivers of lanes (R204, R208, R209, R212, R221, R228, R235): lock of the clock recovery, an attempt that times out and the next one,
the second of two markers in order that takes the receiver UP, what is lost and counted, and the returns to clock recovery.
Where the spec leaves a choice, the model's: log entries 72, 73, 190, 207, 210. -/
def Obligations.LaneBringUp : Prop :=
  (∀ (s b : State) (t l : Nat), b = s.begin t → (b.ln l).rx = 3 → (b.ln l).gap = false →
    Gives (.cdrLock t l) s [.lane] fun u => u.lane = (b.onLane1 l fun x => { x with rx := 4, lastCnt := none }).lane) ∧
  (∀ (s b : State) (t l : Nat) (signal cdr : Bool), b = s.begin t → (b.ln l).rx = 3 → (b.ln l).gap = false →
    (b.ln l).attemptAt + 64000000 ≤ b.now →
    Gives (.attemptTimeout t l signal cdr) s [.lane] fun u => u.lane = (b.onLane1 l fun x =>
      { x with retry := sat32 x.retry 1, gap := true, attemptAt := b.now
               evt := let e := if signal then x.evt else setBit x.evt 15; if cdr then setBit e 9 else e }).lane) ∧
  (∀ (s b : State) (t l : Nat), b = s.begin t → (b.ln l).rx = 3 → (b.ln l).gap = true → (b.ln l).attemptAt + 128000000 ≤ b.now →
    Gives (.retryGapEnd t l) s [.lane] fun u => u.lane = (b.onLane1 l fun x =>
      { x with rx := 3, attemptAt := b.now, gap := false, lastCnt := none, hiBer := false, emphOn := x.emph, swingOn := x.swing }).lane) ∧
  (∀ (s b : State) (t c : Nat) (x : LaneRx) (m : Bytes), b = s.begin t → x.lane < 32 → laneHear x = [(.marker, m)] → x.slot = 16384 →
    b.laneHears x.lane = true → (b.ln x.lane).rx = 4 → (b.ln x.lane).lastCnt = some c →
    field m 1 1 = x.lane ^^^ 1 → field m 2 1 = b.node → field m 3 1 = (c + 1) % 256 →
    b.sentAt (x.lane / 2) (State.rxPathA x.lane) ((c + 1) % 256) = none →
    Gives (.markerReceived t x) s [.lane] fun u => u.lane = (b.onLane1 x.lane fun y =>
      { y with rx := 5, retry := 0, evt := setBit y.evt 10, m1 := x.lane ^^^ 1, m2 := b.node, m3 := (c + 1) % 256
               lastCnt := some ((c + 1) % 256), lastMrk := b.now, mrkTime := b.sysTime, miswired := false }).lane) ∧
  (∀ (s b : State) (t d : Nat) (x : LaneRx) (m : Bytes), b = s.begin t → x.lane < 32 → laneHear x = [(.marker, m)] →
    b.laneHears x.lane = true → (b.ln x.lane).rx = 5 → field m 1 1 = x.lane ^^^ 1 → field m 2 1 = b.node →
    b.sentAt (x.lane / 2) (State.rxPathA x.lane) (field m 3 1) = some d →
    Gives (.markerReceived t x) s [.lane] fun u => u.lane = { (b.onLane1 x.lane fun y =>
      { y with m1 := x.lane ^^^ 1, m2 := b.node, m3 := field m 3 1, lastCnt := some (field m 3 1), lastMrk := b.now, mrkTime := b.sysTime }).lane with
      dly := modAt b.lane.dly (x.lane / 2) fun p =>
        if x.lane % 2 = 1 then ((b.sysTime + 2 ^ 64 - d) % 2 ^ 64, p.2) else (p.1, (b.sysTime + 2 ^ 64 - d) % 2 ^ 64) }) ∧
  (∀ (s b : State) (t : Nat) (x : LaneRx) (m : Bytes), b = s.begin t → x.lane < 40 → laneHear x = [(.marker, m)] →
    b.laneHears x.lane = true → b.originOk x.lane (field m 1 1) (field m 2 1) = false →
    Gives (.markerReceived t x) s [.lane] fun u => u.lane = (b.onLane1 x.lane fun y =>
      { y with rx := 4, miswired := true, evt := setBit y.evt 11, m1 := field m 1 1, m2 := field m 2 1, m3 := field m 3 1
               lastCnt := none, lastMrk := b.now, mrkTime := b.sysTime }).lane) ∧
  (∀ (s b : State) (t : Nat) (x : LaneRx) (w : Bytes), b = s.begin t → x.lane < 40 → laneHear x = [(.other, w)] →
    b.laneHears x.lane = true →
    Gives (.markerReceived t x) s [.lane] fun u => u.lane = (b.onLane1 x.lane fun y => { y with mrkErr := sat32 y.mrkErr 1 }).lane) ∧
  (∀ (s b : State) (t l : Nat), b = s.begin t → (b.ln l).rx = 5 → 31 * State.mrkTicks (b.ln l).rate ≤ 8 * (b.now - (b.ln l).lastMrk) →
    Gives (.markerLost t l) s [.lane] fun u => u.lane = (b.onLane1 l fun x =>
      { x with rx := 4, lastCnt := none, evt := setBit x.evt 13 }).lane) ∧
  (∀ (s b : State) (t l : Nat), b = s.begin t → b.laneHears l = true →
    Gives (.blockLost t l) s [.lane] fun u => u.lane = (b.onLane1 l fun x =>
      { State.toCdr b.now x with evt := setBit x.evt 14, ber := sat32 x.ber 16 }).lane) ∧
  (∀ (s b : State) (t l : Nat), b = s.begin t → (b.ln l).rx = 3 ∨ (b.ln l).rx = 4 ∨ (b.ln l).rx = 5 → State.nearEnd (b.ln l) = false →
    (b.ln l).noticeAt = none →
    Gives (.signalLoss t l) s [.lane] fun u => u.lane = (b.onLane1 l fun x =>
      { State.toCdr b.now x with partnerSleep := false, evt := setBit x.evt 15, farHeld := false }).lane) ∧
  (∀ (s b : State) (t l n : Nat), b = s.begin t → (b.ln l).rx = 3 ∨ (b.ln l).rx = 4 ∨ (b.ln l).rx = 5 → State.nearEnd (b.ln l) = false →
    (b.ln l).noticeAt = some n → b.now ≤ n + 12800 →
    Gives (.signalLoss t l) s [.lane] fun u => u.lane = (b.onLane1 l fun x =>
      { State.toCdr b.now x with partnerSleep := true, farHeld := false }).lane) ∧
  (∀ (s b : State) (t l : Nat), b = s.begin t → State.nearEnd (b.ln l) = true → Gives (.signalLoss t l) s [] fun _ => True) ∧
  (∀ (s b : State) (t l bad : Nat), b = s.begin t → (b.ln l).rx = 4 ∨ (b.ln l).rx = 5 →
    Gives (.hiBer t l bad) s [.lane] fun u => u.lane = (b.onLane1 l fun x =>
      { x with ber := sat32 x.ber bad, hiBer := decide (16 ≤ bad), evt := if 16 ≤ bad ∧ x.hiBer = false then setBit x.evt 12 else x.evt }).lane) ∧
  (∀ (s b : State) (t l : Nat), b = s.begin t → (b.ln l).rx = 6 →
    Gives (.retrainAdaptationDone t l) s [.lane] fun u => u.lane = (b.onLane1 l (State.toCdr b.now)).lane)

/-- Transmitters, lane commands and sleeping receivers (R203, R205, R207, R208, R220, R221, R225, R226, R228): a transmitter's settings
come into force when a retrain or a wake ends; a marker with its count goes out on every transmitter of the quad that is on, at the first
block of a group of 16,384, and its send time is kept; and the lane commands received are acted on.
Where the spec leaves a choice, the model's: log entries 72, 74, 190, 206, 209. -/
def Obligations.LaneTransmitters : Prop :=
  (∀ (s b : State) (t l : Nat), b = s.begin t → (b.ln l).txRetrain = true →
    Gives (.txRetrainDone t l) s [.lane] fun u => u.lane = (b.onLane1 l fun x =>
      { x with txRetrain := false, emphOn := x.emph, swingOn := x.swing }).lane) ∧
  (∀ (s b : State) (t l : Nat), b = s.begin t → (b.ln l).rx = 2 → (b.ln l).rxAt + 256000 ≤ b.now →
    Gives (.rxWakeDone t l) s [.lane] fun u => u.lane = (b.onLane1 l fun x =>
      { x with rx := 3, attemptAt := b.now, gap := false, lastCnt := none, hiBer := false, emphOn := x.emph, swingOn := x.swing }).lane) ∧
  (∀ (s b : State) (t l : Nat), b = s.begin t → l < b.lane.lanes.length → (b.ln l).tx = 2 →
    Gives (.txWakeDone t l) s [.lane] fun u => u.lane = (b.onLane1 l fun x =>
      { x with tx := 3, emphOn := x.emph, swingOn := x.swing }).lane ∧
      ((b.ln l).test = 3 ∨ (b.ln l).test = 4 ∧ (b.ln l).loop = 3 → Out.lane l (List.replicate 8 (true, cmdBytes 1 0)) ∈ u.out)) ∧
  (∀ (s b : State) (t l : Nat), b = s.begin t → (b.ln l).tx = 3 → (b.ln l).txSleeping = true →
    (b.ln l).txAt + State.blockTicks (b.ln l).rate 32 ≤ b.now →
    Gives (.txSleepDone t l) s [.lane] fun u => u.lane = (b.onLane1 l fun x => { x with tx := 1, txSleeping := false }).lane) ∧
  (∀ (s b : State) (t q k : Nat), b = s.begin t → q < 8 → b.mrkLanes q ≠ [] → b.mrkDue q = some k →
    Gives (.markerSend t q) s [.lane] fun u =>
      (∀ i < 4, b.laneSends (4 * q + i) = true → Out.lane (4 * q + i) [(true, markerBytes (4 * q + i) b.node (b.mrk q).cnt)] ∈ u.out) ∧
      u.lane = { b.lane with mrk := modAt b.lane.mrk q fun m =>
        { cnt := ((b.mrk q).cnt + 1) % 256, base := some (m.base.getD b.now), groups := k, sent := (b.sysTime :: m.sent).take 256 } }) ∧
  (∀ (s b : State) (t q k : Nat), b = s.begin t → q = 8 ∨ q = 9 → b.mrkLanes q ≠ [] → b.mrkDue q = some k →
    Gives (.markerSend t q) s [.lane, .mesh, .free] fun u =>
      (∀ i < 4, b.laneSends (4 * q + i) = true → Out.lane (4 * q + i) [(true, markerBytes (4 * q + i) b.node (b.mrk q).cnt)] ∈ u.out) ∧
      u.lane = { b.lane with mrk := modAt b.lane.mrk q fun m =>
        { cnt := ((b.mrk q).cnt + 1) % 256, base := some (m.base.getD b.now), groups := k, sent := (b.sysTime :: m.sent).take 256 } }) ∧
  (∀ (s b : State) (t : Nat) (x : LaneRx), b = s.begin t → b.cmdHeard 1 x = true →
    Gives (.farLoopOn t x) s [.lane] fun u => u.lane = (b.onLane1 x.lane fun y =>
      if 32 ≤ x.lane ∧ b.portCarries ((x.lane - 32) / 2) = true then { y with mrkErr := sat32 y.mrkErr 1 } else { y with farHeld := true }).lane) ∧
  (∀ (s b : State) (t : Nat) (x : LaneRx), b = s.begin t → b.cmdHeard 2 x = true →
    Gives (.farLoopOff t x) s [.lane] fun u => u.lane = (b.onLane1 x.lane fun y => { y with farHeld := false }).lane) ∧
  (∀ (s b : State) (t : Nat) (x : LaneRx), b = s.begin t → b.cmdHeard 3 x = true →
    Gives (.sleepNotice t x) s [.lane] fun u => u.lane = (b.onLane1 x.lane fun y => { y with noticeAt := some b.now }).lane) ∧
  (∀ (s b : State) (t : Nat) (x : LaneRx) (d1 : Nat), b = s.begin t → d1 = 1 ∨ d1 = 2 ∨ d1 = 3 → b.cmdHeard d1 x = false →
    Gives (if d1 = 1 then .farLoopOn t x else if d1 = 2 then .farLoopOff t x else .sleepNotice t x) s [] fun _ => True) ∧
  (∀ (s b : State) (t l errors : Nat) (lock : Bool), b = s.begin t → (b.ln l).test = 4 →
    Gives (.prbsCheckerLock t l lock errors) s [.lane] fun u => u.lane = (b.onLane1 l fun x =>
      { x with prbsLock := lock, prbsErr := sat32 x.prbsErr errors }).lane)

/-- LANE_TEST, LANE_RETRAIN, LANE_SLEEP and LANE_WAKE, accepted (R221, R225 to R228): the lane runs the test, its receiver and
transmitter retrain, sleep, or wake.
Where the spec leaves a choice, the model's: log entries 74, 75, 206. -/
def Obligations.LaneCommands : Prop :=
  (∀ (s : State) (t lane test loop : Nat) (h : RecHdr),
    Accepts cmdLaneTest h (le 1 lane ++ le 1 test ++ le 1 loop ++ le 1 0) (s.begin t) → lane < 40 → 0 < test → test < 3 → loop = 0 →
    ((s.begin t).ln lane).rx ≠ 0 → ((s.begin t).ln lane).tx ≠ 0 →
    Gives (.laneTest t h lane test loop) s ([.host, .jnl, .lane] ++ s.heldParts) fun u => u.lane = ((s.begin t).onLane1 lane fun x =>
      { x with test := test, loop := 0, prbsLock := false }).lane) ∧
  (∀ (s : State) (t lane : Nat) (h : RecHdr), Accepts cmdLaneRetrain h (le 1 lane ++ le 1 3 ++ le 2 0) (s.begin t) → lane < 40 →
    ((s.begin t).ln lane).rx = 5 → ((s.begin t).ln lane).tx = 3 →
    Gives (.laneRetrain t h lane 3) s ([.host, .jnl, .lane] ++ s.heldParts) fun u => u.lane = ((s.begin t).onLane1 lane fun x =>
      { x with rx := 6, rxAt := max s.now t, gap := false, hiBer := false, lastCnt := none, txRetrain := true, txAt := max s.now t }).lane) ∧
  (∀ (s : State) (t lane : Nat) (h : RecHdr), Accepts cmdLaneSleep h (le 1 lane ++ le 1 3 ++ le 2 0) (s.begin t) → lane < 40 →
    ((s.begin t).ln lane).rx ≠ 0 → ((s.begin t).ln lane).tx = 3 → ((s.begin t).ln lane).txSleeping = false →
    Gives (.laneSleep t h lane 3) s ([.host, .jnl, .lane] ++ s.heldParts) fun u => u.lane = ((s.begin t).onLane1 lane fun x =>
      { x with rx := 1, rxSleep := true, gap := false, lastCnt := none, hiBer := false
               txSleep := true, txSleeping := true, txAt := max s.now t }).lane) ∧
  (∀ (s : State) (t lane : Nat) (h : RecHdr), Accepts cmdLaneWake h (le 1 lane ++ le 1 3 ++ le 2 0) (s.begin t) → lane < 40 →
    ((s.begin t).ln lane).rx = 1 → ((s.begin t).ln lane).tx = 1 →
    Gives (.laneWake t h lane 3) s ([.host, .jnl, .lane] ++ s.heldParts) fun u => u.lane = ((s.begin t).onLane1 lane fun x =>
      { x with rx := 2, rxAt := max s.now t, rxSleep := false, tx := 2, txAt := max s.now t, txSleep := false, txSleeping := false }).lane)

/-- The cell conversation (R242 to R278, R429): frames taken from cells, identity and its queries, repeats and time-outs, and
the cell commands; what each does to the cell's context.
Where the spec leaves a choice, the model's: log entries 82, 83, 86, 88, 195, 196. -/
def Obligations.CellConversation : Prop :=
  (∀ (s b : State) (t : Nat) (x : LaneRx) (f : FrameHdr) (p : Bytes), b = s.begin t → Brings x 2 f p b → Hears f 2 0 b → p.length = 24 →
    later 32 f.period b.per = true → (b.cell f.cell).st = 2 → (feedOf p).status.testBit 0 = true →
    (feedOf p).status.testBit 2 = false → (feedOf p).status.testBit 3 = false → (feedOf p).status.testBit 5 = false →
    (feedOf p).status.testBit 9 = false → State.echo (b.talk f.cell) (feedOf p) ≠ some false →
    Gives (.feed t x) s [.seam] fun u => (u.talk f.cell).feed = some (f.period, feedOf p) ∧ (u.cell f.cell).st = 2 ∧ (u.cell f.cell).tlock = true ∧
      (u.cell f.cell).holdCnt = (feedOf p).holdCnt % 256 ∧ (u.talk f.cell).heardAt = b.now) ∧
  (∀ (s b : State) (t : Nat) (x : LaneRx) (f : FrameHdr) (p : Bytes), b = s.begin t → Brings x 2 f p b → Hears f 2 0 b → p.length = 24 →
    later 32 f.period b.per = false →
    Gives (.feed t x) s [.seam] fun u => u.seam.cells = (b.onCell f.cell fun x => { x with
      miss := if State.missCounts x then x.miss else sat32 x.miss 1 }).seam.cells ∧ (u.talk f.cell).feed = (b.talk f.cell).feed) ∧
  (∀ (s b : State) (t : Nat) (x : LaneRx), b = s.begin t → b.cellsReal = true → x.lane < 32 → b.laneTakes x.lane = true →
    b.seamDeaf x.lane = false → cellFrames x = [none] →
    Gives (.feed t x) s [.seam] fun u => u.seam = (b.pathErr x.lane).seam) ∧
  (∀ (s b : State) (t : Nat) (x : LaneRx) (f : FrameHdr) (p : Bytes), b = s.begin t → Brings x 4 f p b → field p 0 1 = 1 → p ≠ [] →
    Hears f 4 (field p 0 2) b → (b.talk f.cell).sent.find? (·.1 == f.period) = some (f.period, fieldW p 4) →
    (b.cell f.cell).st = 1 → (b.cell f.cell).jstep = 6 → (b.talk f.cell).m0 = f.period →
    Gives (.ack t x) s [.seam] fun u => (u.talk f.cell).acked = some (f.period, fieldW p 4) ∧ (u.cell f.cell).st = 2 ∧ (u.cell f.cell).reason = 0) ∧
  (∀ (s b : State) (t : Nat) (x : LaneRx) (f : FrameHdr) (p : Bytes), b = s.begin t → Brings x 5 f p b → field p 0 1 = 1 → p.length = 8 →
    Hears f 5 (field p 0 2) b → (b.cell f.cell).st = 2 → field p 2 1 ≠ 3 →
    Gives (.nak t x) s [.seam] fun u => (u.cell f.cell).st = 3 ∧ (u.cell f.cell).nakCnt = sat32 (b.cell f.cell).nakCnt 1 ∧
      (u.cell f.cell).lastNak = field p 2 1 % 256) ∧
  (∀ (s b : State) (t c : Nat), b = s.begin t → c < b.seam.cells.length → (b.cell c).st = 1 → 128 < (b.talk c).excess →
    Gives (.babbleCut t c) s [.seam, .mode] fun u => (u.cell c).st = 6 ∧ (u.cell c).reason = 9) ∧
  (∀ (s b : State) (t : Nat) (x : LaneRx) (f : FrameHdr) (p : Bytes) (d : IdentData), b = s.begin t → Brings x 4 f p b → d = identOf (p.drop 8) →
    b.isIdentity f.cell p = true → Hears f 4 (field p 0 2) b → b.step9 = none → b.declared f.cell = true →
    (b.cell f.cell).st = 0 → (b.talk f.cell).ident = none → (b.talk f.cell).queue = [] →
    (b.talk f.cell).seat = none → d.typ = (b.kind f.cell).typ → d.rating = (b.kind f.cell).rating → (b.kind f.cell).minFw ≤ d.fw →
    Gives (.identityAnswer t x) s [.img, .seam, .pair] fun u => (u.cell f.cell).st = 1 ∧ (u.cell f.cell).jstep = 2 ∧
      (u.talk f.cell).seat = some d.serial ∧ (u.cell f.cell).serial = d.serial ∧ (u.cell f.cell).fw = d.fw ∧ (u.cell f.cell).caps = d.caps) ∧
  (∀ (s b : State) (t c : Nat), b = s.begin t → b.maySend = true → b.inForce = true → b.step9 = none → c ∈ b.cfg.cells.map (·.idx) →
    (b.cell c).st = 0 → (b.talk c).ctrl = none → (b.talk c).queue = [] → c < b.seam.talks.length →
    b.seam.identAt + b.seam.identMs * 12800000 ≤ b.now →
    Gives (.identQueryTimer t) s [.seam] fun u => u.seam.identAt = b.now ∧ IdentAsked c b u) ∧
  (∀ (s b : State) (t c : Nat) (o : CtrlOp), b = s.begin t → (b.talk c).ctrl = some o → o.op ≠ 15 → o.sentAt + 1280000 ≤ b.now → o.sends < 3 →
    Gives (.ctrlRetryTimeout t c) s [.seam] fun u => u.seam = (b.onTalk c fun k => { k with
      ctrl := some { o with sends := o.sends + 1, sentAt := b.now }, sentNow := k.sentNow + 1 }).seam ∧
      ∀ l ∈ b.seamTx (c / 8), Out.lane l (cellBlocks 3 c b.per b.seam.epoch (ctrlPay o.op o.tag o.arg o.data)) ∈ u.out) ∧
  (∀ (s b : State) (t c : Nat), b = s.begin t → b.cellsReal = true → (b.cell c).st = 2 →
    (b.talk c).heardAt + (b.img.safety.holdPeriods + 2) * b.tick ≤ b.now →
    Gives (.cellLostTimeout t c) s [.seam, .mode] fun u => (u.cell c).st = 4 ∧ (u.cell c).reason = 15) ∧
  (∀ (s b : State) (t c : Nat), b = s.begin t → (b.cell c).st = 1 → (b.cell c).jstep = 5 → (b.talk c).preOn = true →
    (b.talk c).j5At + (b.kind c).preTimeout * 12800000000 ≤ b.now →
    Gives (.preTimeoutExpiry t c) s [.seam, .mode] fun u => (u.cell c).st = 6 ∧ (u.cell c).reason = 8) ∧
  (∀ (s b : State) (t c a : Nat), b = s.begin t → (b.cell c).st = 7 → (b.talk c).fwAt = some a → a + (b.kind c).fwRebootMs * 12800000 ≤ b.now →
    Gives (.fwRebootTimeout t c) s [.seam, .mode] fun u => (u.cell c).st = 6 ∧ (u.cell c).reason = 12) ∧
  (∀ (s b : State) (t q : Nat), b = s.begin t → (at' b.seam.seams q {}).trip = true → b.maySendTrip = true → b.tripDue q = true →
    Gives (.tripBlockRepeat t q) s [] fun u =>
      ∀ l ∈ b.seamTx q, Out.lane l [(true, tripBytes (at' b.seam.seams q {}).tripSrc b.node)] ∈ u.out) ∧
  (∀ (s b : State) (t c : Nat) (x : Seen), b = s.begin t → c < b.seam.cells.length → (b.talk c).seen = [x] → x.both = false →
    x.at_ + b.copyWindow c ≤ b.now → x.path = 1 → b.pathUp (c / 8) true = true →
    Gives (.copyWindowExpiry t c) s [.seam] fun u => (u.cell c).missA = sat16 (b.cell c).missA 1 ∧ (u.cell c).evt = setBit (b.cell c).evt 2 ∧
      (u.cell c).missB = (b.cell c).missB) ∧
  (∀ (s b : State) (t c a : Nat), b = s.begin t → (b.talk c).bypAt = some a → a + 1280000000 ≤ b.now → b.energised = true → (b.cell c).st ≠ 5 →
    Gives (.cellBypassTimeout t c) s [.seam, .modeQ] fun u => u.seam = (b.onTalk c fun k => { k with bypAt := none }).seam ∧
      u.modeQ = { s.modeQ with
      causes := s.modeQ.causes ++ [(11, c)] }) ∧
  (∀ (s b : State) (t : Nat) (h : RecHdr), Accepts cmdCellRejoin h [] (s.begin t) → b = s.begin t → h.target < b.seam.cells.length →
    Gives (.cellRejoin t h) s ([.host, .jnl, .seam] ++ s.heldParts) fun u => (u.cell h.target).st = 1 ∧ (u.cell h.target).jstep = 1) ∧
  (∀ (s b : State) (t n : Nat) (h : RecHdr), Accepts cmdCellAdmit h (le 8 n) (s.begin t) → b = s.begin t → n < 2 ^ 64 →
    h.target < b.seam.cells.length → h.target < b.seam.talks.length →
    Gives (.cellAdmit t h n) s ([.host, .jnl, .seam] ++ s.heldParts) fun u => (u.cell h.target).st = 1 ∧ (u.cell h.target).jstep = 1 ∧
      (u.talk h.target).seat = some n) ∧
  (∀ (s b : State) (t : Nat) (h : RecHdr), Accepts cmdCellBypass h [] (s.begin t) → b = s.begin t → h.target < b.seam.talks.length →
    Gives (.cellBypass t h) s ([.host, .jnl, .seam] ++ s.heldParts) fun u => (u.talk h.target).bypReq = true ∧ u.seam.cells = s.seam.cells) ∧
  (∀ (s b : State) (t : Nat) (h : RecHdr), Accepts cmdCellExclude h [] (s.begin t) → b = s.begin t → h.target < b.seam.cells.length →
    Gives (.cellExclude t h) s ([.host, .jnl, .seam, .mode] ++ s.heldParts) fun u => (u.cell h.target).st = 6 ∧ (u.cell h.target).reason = 13) ∧
  (∀ (s b : State) (t o n : Nat) (w : Word) (h : RecHdr), Accepts cmdCellFwLoad h (le 4 o ++ le 4 n ++ le 4 w.toNat) (s.begin t) → b = s.begin t →
    o < 2 ^ 32 → n < 2 ^ 32 → h.target < b.seam.cells.length → h.target < b.seam.talks.length →
    Gives (.cellFwLoad t h o n w) s ([.host, .jnl, .seam] ++ s.heldParts) fun u => (u.cell h.target).st = 7 ∧ (u.talk h.target).fwOfs = o ∧
      (u.talk h.target).fwLen = n ∧ (u.talk h.target).fwCrc = w ∧ (u.talk h.target).fwPos = 0)

/-- The edge scheduler (R26, R27, R42 to R47, R299 to R309, R318): a commit lands three to six EDGE cycles after it was presented, those of one
source in their order, before, in or after the cut; the compile freezes the references; it stops at the second bad one of sixteen; late sets are
withheld; frames are shipped; an output follows its set from the opening, edge by edge; and the reference commands.
Where the spec leaves a choice, the model's: log entries 99, 100, 102, 103, 104, 199. -/
def Obligations.EdgeScheduler : Prop :=
  (∀ (s b : State) (t : Nat) (f : Flight) (q : List Flight), b = s.begin t → b.edg.flights = f :: q → f.at_ + 48 ≤ b.now →
    (∀ x ∈ b.edg.flights, b.now < x.at_ + 96) → b.directOk f.g f.vals = true → b.cyc < b.kO + 16 → f.src ≠ 1 →
    Gives (.commitLanding t f.g) s [.edg] fun u => u.edg = { (b.onGrp f.g fun g => { b.settled g with
        lper := b.per, lcyc := b.cyc, llate := false, committed := f.vals ++ (b.settled g).committed.drop f.vals.length }).edg with
      flights := q, lastLate := false, lastGrp := f.g }) ∧
  (∀ (s b : State) (t : Nat) (f : Flight) (q : List Flight), b = s.begin t → b.edg.flights = f :: q → f.at_ + 48 ≤ b.now →
    (∀ x ∈ b.edg.flights, b.now < x.at_ + 96) → b.directOk f.g f.vals = true → b.kO + 16 ≤ b.cyc → b.cyc ≤ b.kO + 31 → f.src ≠ 1 →
    Gives (.commitLanding t f.g) s [.edg] fun u => u.edg = { (b.onGrp f.g fun g => { b.settled g with
        lper := b.per, lcyc := b.cyc, llate := true
        cut := some (f.vals ++ ((b.settled g).cut.getD (b.settled g).committed).drop f.vals.length) }).edg with
      flights := q, late := true, lastLate := true, lastGrp := f.g, rldLate := setBit s.edg.rldLate f.g }) ∧
  (∀ (s b : State) (t : Nat) (f : Flight) (q : List Flight), b = s.begin t → b.edg.flights = f :: q → f.at_ + 48 ≤ b.now →
    (∀ x ∈ b.edg.flights, b.now < x.at_ + 96) → b.directOk f.g f.vals = true → b.kO + 32 ≤ b.cyc → b.reached 5 = true → f.src ≠ 1 →
    Gives (.commitLanding t f.g) s [.edg] fun u => u.edg = { (b.onGrp f.g fun g => { b.settled g with
        lper := b.per, lcyc := b.cyc, llate := false, committed := f.vals ++ (b.settled g).committed.drop f.vals.length }).edg with
      flights := q, lastLate := false, lastGrp := f.g }) ∧
  (∀ (s b : State) (t : Nat) (f : Flight) (q : List Flight), b = s.begin t → b.edg.flights = f :: q → f.at_ + 48 ≤ b.now →
    (∀ x ∈ b.edg.flights, b.now < x.at_ + 96) → b.directOk f.g f.vals = false →
    Gives (.commitLanding t f.g) s [.edg] fun u => u.edg = { s.edg with flights := q, directBad := true }) ∧
  (∀ (s b : State) (t : Nat) (f k : Flight), b = s.begin t → b.edg.flights = [f, k] → f.src = k.src → f.g ≠ k.g →
    (∀ x ∈ b.edg.flights, b.now < x.at_ + 96) → Gives (.commitLanding t k.g) s [] fun u => u.edg = s.edg) ∧
  (∀ (s b : State) (t : Nat), b = s.begin t → b.atPoint 5 (b.kO + 32) = true → (∀ x ∈ b.edg.flights, b.now < x.at_ + 96) →
    b.edg.stopped = false → b.cfg.topo.pair = false → b.pair.taking = false →
    Gives (.compileStart t [] []) s [.free, .seam, .edg, .comp, .mode, .pair, .pts] fun u => u.comp.per = b.perPlus 1 ∧ u.comp.done = true ∧
      u.edg.grps.map (·.frozen) = s.edg.grps.map (fun g => (b.settled g).committed) ∧
      u.edg.grps.map (·.committed) = s.edg.grps.map (fun g => (b.settled g).cut.getD (b.settled g).committed) ∧ u.reached 5 = true) ∧
  (∀ (s b : State) (t : Nat), b = s.begin t → b.compileBad = true → b.edg.stopped = false → b.role ≠ 1 →
    Gives (.compileStop t) s [.edg, .comp, .modeQ, .cmp] fun u => u.edg = { s.edg with
      stopped := true, lpwm := s.edg.lpwm.map State.lpwmOff } ∧ u.comp = { s.comp with
      done := false, cells := [], locals := [], slow := [], hist := [], bad := false } ∧
      u.modeQ = { s.modeQ with
      causes := s.modeQ.causes ++ [(3, 0)] }) ∧
  (∀ (s b : State) (t c : Nat) (x : ESet), b = s.begin t → b.comp.done = true → c ∈ b.comp.slow → c < 128 → (c, x) ∈ b.comp.cells →
    b.shipSlot c = b.sinceC →
    Gives (.shipSlot t c) s [.seam, .edg, .comp] fun u => u.comp.cells = s.comp.cells.filter (·.1 != c) ∧ u.comp.bad = true ∧
      u.edg.flt = setBit s.edg.flt 30 ∧ u.edg.fltLocal = false ∧ u.edg.fltIdx = c ∧ u.edg.cmpCnt = sat32 s.edg.cmpCnt 1 ∧
      ((b.cell c).st = 2 → (u.cell c).st = 3)) ∧
  (∀ (s b : State) (t g : Nat), b = s.begin t → b.comp.done = true → 128 + g ∈ b.comp.slow → b.comp.locals.any (·.1 == g) = true →
    b.comp.per = b.per → b.timeline = true → b.cyc = b.kO - 64 →
    Gives (.localSetDeadline t g) s [.edg, .comp] fun u => u.comp.locals = s.comp.locals.filter (fun x => !(b.unitOf g).contains x.1) ∧
      u.comp.bad = true ∧ u.edg.flt = setBit s.edg.flt 30 ∧ u.edg.fltLocal = true) ∧
  (∀ (s b : State) (t c l : Nat) (x : ESet), b = s.begin t → b.comp.done = true → b.edg.stopped = false → b.maySendEdge = true →
    b.modeQ.ovl.testBit 4 = false → at' b.cfg.topo.shipOfs (c / 8) 0 = b.sinceC / 16 → b.comp.cells = [(c, x)] → b.comp.slow = [] →
    Gives (.edgeFrameShip t (c / 8)) s [.seam, .comp] fun u => u.comp = { s.comp with
      cells := [] } ∧ u.seam = (b.onTalk c fun k => { k with
      cur := x, sent := ((s.comp.per, State.setCrc x) :: k.sent).take 4, sentNow := k.sentNow + 1 }).seam ∧
      (l ∈ b.seamTx (c / 8) → Out.lane l (cellBlocks 1 c s.comp.per s.seam.epoch (State.edgePay x)) ∈ u.out)) ∧
  (∀ (s b : State) (t j : Nat) (y : LSet), b = s.begin t → b.atPoint 4 b.kO = true → b.cfg.topo.pair = false → b.outsHiz = false →
    j < b.edg.lpwm.length → b.gateShut b.per j = false → b.edg.stopped = false → b.mode.mode ≠ 0 → (b.outDecl j).edges = true →
    b.groupEnabled (b.outDecl j).group = true → b.comp.done = true → b.comp.per = b.per →
    (b.comp.locals.flatMap (·.2)).find? (·.out == j) = some y →
    Gives (.edgePeriodOpening t) s [.sys, .seam, .edg, .comp, .cmp, .pair, .pts] fun u =>
      (at' u.edg.lpwm j {}).run = true ∧ (at' u.edg.lpwm j {}).level = y.init ∧ (at' u.edg.lpwm j {}).todo = y.words ∧
      (at' u.edg.lpwm j {}).hiz = false ∧ (at' u.edg.lpwm j {}).gated = false ∧ u.sys.gpioOut = s.comp.gpio ∧ u.reached 4 = true) ∧
  (∀ (s b : State) (t : Nat), b = s.begin t → b.atPoint 4 b.kO = false → Gives (.edgePeriodOpening t) s [] fun u => u.edg = s.edg) ∧
  (∀ (s b : State) (t j : Nat) (w : Nat × Bool) (r : List (Nat × Bool)), b = s.begin t → (at' b.edg.lpwm j {}).run = true →
    (at' b.edg.lpwm j {}).todo = w :: r → w.1 = (b.inPer + b.tick - 16 * b.kO) % b.tick → (∀ v ∈ r, w.1 < v.1) →
    Gives (.lpwmTransition t j) s [.edg, .cmp] fun u => u.edg = { s.edg with
      lpwm := modAt s.edg.lpwm j fun x => { x with level := w.2, todo := r } }) ∧
  (∀ (s b : State) (t g o : Nat) (v : List Word) (h : RecHdr), Accepts cmdRefStage h (le 1 g ++ le 1 0 ++ le 2 o ++ v.flatMap fun w => le 4 w.toNat) (s.begin t) →
    b = s.begin t → g < 64 → o < 128 →
    Gives (.refStage t h g o v) s ([.host, .jnl, .edg] ++ s.heldParts) fun u => u.edg = (b.onGrp g fun x => { x with
      staging := x.staging.take o ++ v ++ x.staging.drop (o + v.length) }).edg) ∧
  (∀ (s b : State) (t g : Nat) (h : RecHdr), Accepts cmdRefCommit h (le 4 g) (s.begin t) → b = s.begin t → g < 64 →
    Gives (.refCommit t h g) s ([.host, .jnl, .edg] ++ s.heldParts) fun u => u.edg = { s.edg with
      flights := s.edg.flights ++ [{ g := g, vals := (b.grp g).staging, src := 1, at_ := b.now }] }) ∧
  (∀ (s b : State) (t g : Nat) (h : RecHdr), Accepts cmdRefDiscard h (le 4 g) (s.begin t) → b = s.begin t → g < 64 →
    Gives (.refDiscard t h g) s ([.host, .jnl, .edg] ++ s.heldParts) fun u => u.edg = (b.onGrp g fun x => { x with
      staging := x.cut.getD x.committed }).edg)

/-- The bench instructions and the shared units (R325 to R332, R340 to R343, R357): a bench that may issue one executes it, moves on
and counts a cycle; the results of the units arrive.
Where the spec leaves a choice, the model's: log entries 4, 13, 14, 17, 18, 105, 106, 107. -/
def Obligations.BenchInstructions : Prop :=
  (∀ (s b : State) (t k d x y z : Nat) (op : ArithOp), b = s.begin t → Issues k b →
    Gives (.benchArithmetic t k op d x y z) s [.bnc] fun u => u.bnc = ((b.served k).onBench k fun q => { q.issued with
      regs := q.regs.set d (State.lanes3 (State.arith op) ((b.served k).benchReg k x) ((b.served k).benchReg k y) ((b.served k).benchReg k z)) }).bnc) ∧
  (∀ (s b : State) (t k d x y z : Nat) (op : SelOp), b = s.begin t → Issues k b →
    Gives (.benchSelect t k op d x y z) s [.bnc] fun u => u.bnc = ((b.served k).onBench k fun q => { q.issued with
      regs := q.regs.set d (State.lanes3 (State.sel op) ((b.served k).benchReg k x) ((b.served k).benchReg k y) ((b.served k).benchReg k z)) }).bnc) ∧
  (∀ (s b : State) (t k d x y : Nat) (op : LaneOp), b = s.begin t → Issues k b →
    Gives (.benchLane t k op d x y) s [.free, .bnc] fun u => u.free = s.free + 2 ∧ u.bnc = ((b.served k).onBench k fun q => { q.issued with
      regs := q.regs.set d (State.laneOp (Config.freeWord s.free) (Config.freeWord (s.free + 1)) op ((b.served k).benchReg k x) ((b.served k).benchReg k y)) }).bnc) ∧
  (∀ (s b : State) (t k d x : Nat) (op : ConvOp) (scale : Word), b = s.begin t → Issues k b →
    Gives (.benchConvert t k op d x scale) s [.bnc] fun u => u.bnc = ((b.served k).onBench k fun q => { q.issued with
      regs := q.regs.set d ((List.range 4).map fun i => State.convertW op (at' ((b.served k).benchReg k x) i 0) scale) }).bnc) ∧
  (∀ (s b : State) (t k d x : Nat) (r : Bool), b = s.begin t → Issues k b →
    Gives (.benchEstimate t k r d x) s [.bnc] fun u => u.bnc = ((b.served k).onBench k fun q => { q.issued with
      regs := q.regs.set d ((List.range 4).map fun i =>
        State.nanOr [at' ((b.served k).benchReg k x) i 0] (Config.estimate (bit r) (at' ((b.served k).benchReg k x) i 0))) }).bnc) ∧
  (∀ (s b : State) (t k d addr n : Nat), b = s.begin t → Issues k b → State.loadOk addr n = true →
    Gives (.benchLoad t k d addr n) s [.bnc] fun u => u.bnc = ((b.served k).onBench k fun q => { q.issued with
      regs := q.regs.set d (Sparse.gets 0 q.mem (addr / 4) n ++ ((b.served k).benchReg k d).drop n) }).bnc) ∧
  (∀ (s b : State) (t k x addr n : Nat), b = s.begin t → Issues k b → State.storeOk addr n = true →
    Gives (.benchStore t k x addr n) s [.bnc] fun u => u.bnc = ((b.served k).onBench k fun q => { q.issued with
      mem := Sparse.putAll 0 q.mem (addr / 4) (((b.served k).benchReg k x).take n) }).bnc) ∧
  (∀ (s b : State) (t k len n : Nat), b = s.begin t → Issues k b →
    Gives (.benchLoop t k len n) s [.bnc] fun u => u.bnc = ((b.served k).onBench k fun q => { q with
      pc := q.pc + 1, cyc := q.cyc + 1, loops := { first := q.pc + 1, last := q.pc + len, left := n } :: q.loops }).bnc) ∧
  (∀ (s b : State) (t k : Nat), b = s.begin t → Issues k b → (b.bench k).cyc + 1 = (b.benchDecl k).cb → b.lagged.inPer ≤ b.deadline →
    Gives (.benchEnd t k) s [.free, .bnc] fun u => u.bnc = (b.onBench k fun q => { q with
      cyc := q.cyc + 1, last := q.cyc + 1, ended := true, running := false
      slack := some (match q.slack with
        | some m => min m (b.benchCycles (b.deadline - b.lagged.inPer))
        | none => b.benchCycles (b.deadline - b.lagged.inPer)) }).bnc) ∧
  (∀ (s b : State) (t k : Nat), b = s.begin t → Issues k b → b.deadline < b.lagged.inPer →
    Gives (.benchEnd t k) s [.bnc] fun u => u.bnc = (b.benchFault k 31 true).bnc) ∧
  (∀ (s b : State) (t k fn d x : Nat), b = s.begin t → Issues k b → (b.bench k).cyc % 16 = k →
    Gives (.cordicRequest t k fn d x) s [.bnc] fun u => u.bnc = ((b.served k).onBench k fun q => { q.issued with
      cordic := q.cordic ++ [(q.cyc + 24, d, State.cordicOf fn ((b.served k).benchReg k x))] }).bnc) ∧
  (∀ (s b : State) (t k c d : Nat) (v : List Word) (r : List (Nat × Nat × List Word)), b = s.begin t → (b.bench k).cordic = (c, d, v) :: r →
    b.benchAfter b.bnc.startAt c = true → (∀ y ∈ r, c < y.1) →
    Gives (.cordicResult t k) s [.bnc] fun u => u.bnc = (b.onBench k fun q => { q with
      regs := q.regs.set d v, cordic := r }).bnc) ∧
  (∀ (s b : State) (t k n : Nat), b = s.begin t → Issues k b → (b.bench k).cyc ∈ (b.benchDecl k).sortCycles → n ≤ 128 →
    (Sparse.gets 0 ((b.served k).bench k).mem 15936 n).any F32.isNaN = false →
    Gives (.sortRequest t k n) s [.free, .bnc] fun u => u.bnc = ((b.served k).onBench k fun q => { q.issued with
      sort := some (q.cyc + 64 + (n + 3) / 4, State.ranksOf (Sparse.gets 0 q.mem 15936 n)) }).bnc) ∧
  (∀ (s b : State) (t k c : Nat) (r : List Nat), b = s.begin t → (b.bench k).sort = some (c, r) → b.benchAfter b.bnc.startAt c = true →
    Gives (.sortResult t k) s [.bnc] fun u => u.bnc = ((b.putRanks k r).onBench k fun q => { q with
      sort := none }).bnc) ∧
  (∀ (s b : State) (t k l x : Nat) (d : LoopDecl) (r : RcDecl) (q : Loop) (w : Word), b = s.begin t → Issues k b → (b.bench k).cyc % 16 = k →
    l ∉ (b.bench k).rcUsed → b.loopDecl l = some d → d.rc = some r →
    State.rcStep r (b.loopS l) (Config.freeWord s.free) ((b.served k).benchReg k x) = (q, w, false) →
    Gives (.rcRequest t k l x) s [.free, .bnc] fun u => u.free = s.free + 1 ∧
      u.bnc = (((b.served k).onLoop l fun _ => q).onBench k fun q => { q.issued with
      rcUsed := l :: q.rcUsed, rc := q.rc ++ [(q.cyc + 40, l, w)] }).bnc) ∧
  (∀ (s b : State) (t k c l : Nat) (w : Word) (r : List (Nat × Nat × Word)), b = s.begin t → (b.bench k).rc = (c, l, w) :: r →
    b.benchAfter b.bnc.startAt c = true → (∀ y ∈ r, c < y.1) →
    Gives (.rcResult t k) s [.bnc] fun u => u.bnc = (b.onBench k fun q => { q with
      mem := Sparse.putAll 0 q.mem ((0xF800 + 4 * l) / 4) [w], rc := r }).bnc) ∧
  (∀ (s b : State) (t k : Nat) (op : ArithOp) (d x y z : Nat), b = s.begin t → b.benchRuns k = true →
    (b.benchDecl k).progLen ≤ (b.bench k).pc →
    Gives (.benchArithmetic t k op d x y z) s [.bnc] fun u => u.bnc = (b.benchFault k 30 true).bnc)

/-- The benches' period, loops, gain schedules and the trace (R38, R327 to R338, R345 to R366): a bench starts at its program's
beginning; one still running at its finish deadline faults; faults escalate to SAFE; the interpolator passes; loop commands wait for
the next bench start; the trace is armed, forced, stopped and done.
Where the spec leaves a choice, the model's: log entries 107, 109. -/
def Obligations.BenchesLoopsAndTrace : Prop :=
  (∀ (s b : State) (t k : Nat), b = s.begin t → b.atPoint 1 80 = true → b.reached 0 = true → b.cfg.topo.pair = false ∨ b.pair.st ≠ 3 → k < 16 →
    b.benchOn k = true → k < b.bnc.benches.length →
    Gives (.benchStart t) s [.bnc, .pts] fun u => (u.bench k).pc = 0 ∧ (u.bench k).cyc = 0 ∧ (u.bench k).loops = [] ∧ (u.bench k).ended = false ∧
      (u.bench k).running = (!(b.bench k).faulted && b.pwr.st == 0) ∧ u.bnc.startAt = b.now) ∧
  (∀ (s b : State) (t k : Nat), b = s.begin t → b.lagged.atPoint 2 (b.kO - 8) = true → k < 16 → (b.bench k).running = true →
    (b.bench k).ended = false → (∀ j, j ≠ k → (b.bench j).running = false) →
    Gives (.benchFinishDeadline t) s [.bnc, .bal, .pts] fun u => u.bnc.flt = setBit s.bnc.flt 31 ∧ u.bnc.fltBench = k ∧ u.bnc.fltCnt = sat32 s.bnc.fltCnt 1 ∧
      (u.bench k).running = false ∧ (u.bench k).withheld = true) ∧
  (∀ (s b : State) (t : Nat), b = s.begin t → b.bnc.escalated = false → b.bnc.bad = true → b.bnc.hist.any id = true → b.role ≠ 1 →
    Gives (.benchFaultEscalation t) s [.bnc, .modeQ] fun u => u.bnc = { s.bnc with
      escalated := true } ∧ u.modeQ = { s.modeQ with
      causes := s.modeQ.causes ++ [(4, s.bnc.fltBench)] }) ∧
  (∀ (s b : State) (t : Nat), b = s.begin t → b.bnc.escalated = false → b.bnc.bad = true → b.bnc.hist.any id = true → b.role = 1 →
    b.activeCovered = false →
    Gives (.benchFaultEscalation t) s [.bnc, .modeQ, .pair] fun u => u.bnc = { s.bnc with
      escalated := true } ∧ u.modeQ = { s.modeQ with
      causes := s.modeQ.causes ++ [(4, s.bnc.fltBench)] } ∧ u.pair = { s.pair with
      heartbeat := false }) ∧
  (∀ (s b : State) (t : Nat) (g : GainTable), b = s.begin t → b.atPoint 6 80 = true → b.reached 0 = true → b.cfg.gains = [g] →
    b.gainVarsOk g = true → b.bnc.gsNext = [] → b.bal.tblAt ≠ b.absPer →
    Gives (.interpStart t) s [.bnc, .pts] fun u => u.bnc = { s.bnc with
      gsNext := b.gainTable g, gsPer := b.perPlus 1, gsLast := 40 + (g.k + 3) / 4, gsRun := true }) ∧
  (∀ (s b : State) (t : Nat), b = s.begin t → b.atPoint 7 (b.kF - 160) = true → b.bnc.gsRun = true →
    Gives (.interpDeadline t []) s [.bnc, .pts] fun u => u.bnc = { s.bnc with
      gsRun := false }) ∧
  (∀ (s b : State) (t n : Nat), b = s.begin t → b.atPoint 7 (b.kF - 160) = true → b.bnc.gsRun = true → (b.bnc.gsNext.any fun y => y.1 == n) = true →
    Gives (.interpDeadline t [n]) s [.bnc, .pts] fun u => u.bnc = { s.bnc with
      gsRun := false, gsNext := s.bnc.gsNext.filter fun y => y.1 != n, flt := setBit s.bnc.flt 26, fltTable := n }) ∧
  (∀ (s b : State) (t : Nat), b = s.begin t → b.bnc.trace.st = 2 → b.bnc.trace.left = 0 →
    Gives (.traceDone t) s [.bnc] fun u => u.bnc.trace = { s.bnc.trace with
      st := 3, doneEvt := true }) ∧
  (∀ (s b : State) (t l m : Nat) (h : RecHdr), Accepts cmdLoopOpen h (le 1 l ++ le 1 m ++ le 2 0) (s.begin t) → b = s.begin t → l < 32 → m < 2 →
    Gives (.loopOpen t h l m) s ([.host, .jnl, .bnc] ++ s.heldParts) fun u => u.bnc = { (b.onLoop l fun x => { x with cmdOpen := true }).bnc with
      cmds := s.bnc.cmds ++ [(b.perPlus 1, .open_ l (m == 1))] }) ∧
  (∀ (s b : State) (t l : Nat) (h : RecHdr), Accepts cmdLoopClose h (le 1 l ++ le 3 0) (s.begin t) → b = s.begin t → l < 32 →
    Gives (.loopClose t h l) s ([.host, .jnl, .bnc] ++ s.heldParts) fun u => u.bnc = { (b.onLoop l fun x => { x with cmdOpen := false }).bnc with
      cmds := s.bnc.cmds ++ [(b.perPlus 1, .close l)] }) ∧
  (∀ (s b : State) (t l : Nat) (v : List Word) (h : RecHdr), Accepts cmdLoopManual h (le 1 l ++ le 3 0 ++ v.flatMap fun w => le 4 w.toNat) (s.begin t) →
    b = s.begin t → l < 32 →
    Gives (.loopManual t h l v) s ([.host, .jnl, .bnc] ++ s.heldParts) fun u => u.bnc = { s.bnc with
      cmds := s.bnc.cmds ++ [(b.perPlus 1, .manual l v)] }) ∧
  (∀ (s b : State) (t l i : Nat) (v : List Word) (h : RecHdr) (d : LoopDecl),
    Accepts cmdCoefWrite h (le 1 l ++ le 1 0 ++ le 2 i ++ v.flatMap fun w => le 4 w.toNat) (s.begin t) →
    b = s.begin t → l < 32 → i < 512 → b.loopDecl l = some d →
    Gives (.coefWrite t h l i v) s ([.host, .jnl, .bnc] ++ s.heldParts) fun u => u.bnc = { s.bnc with
      cmds := s.bnc.cmds ++ [(b.perPlus 1, .coef d.bench i v)] }) ∧
  (∀ (s b : State) (t l a : Nat) (h : RecHdr), Accepts cmdRcCtl h (le 1 l ++ le 1 a ++ le 2 0) (s.begin t) → b = s.begin t → l < 32 → a < 4 →
    Gives (.rcCtl t h l a) s ([.host, .jnl, .bnc] ++ s.heldParts) fun u => u.bnc = { s.bnc with
      cmds := s.bnc.cmds ++ [(b.perPlus 1, .rc l a)] }) ∧
  (∀ (s b : State) (t : Nat) (h : RecHdr), Accepts cmdTraceArm h [] (s.begin t) → b = s.begin t →
    Gives (.traceArm t h) s ([.host, .jnl, .bnc] ++ s.heldParts) fun u => u.bnc.trace = { s.bnc.trace with
      st := 1, rows := [], count := 0, nArm := b.per, left := 0, force := false, evFault := false, evTrip := false
      evMode := false, lastLvl := none, probes := (State.probesOn s.bnc.trace).length, trigRow := 0 }) ∧
  (∀ (s : State) (t : Nat) (h : RecHdr), Accepts cmdTraceStop h [] (s.begin t) →
    Gives (.traceStop t h) s ([.host, .jnl, .bnc] ++ s.heldParts) fun u => u.bnc.trace = { s.bnc.trace with
      st := 4 }) ∧
  (∀ (s : State) (t : Nat) (h : RecHdr), Accepts cmdTraceForce h [] (s.begin t) →
    Gives (.traceForce t h) s ([.host, .jnl, .bnc] ++ s.heldParts) fun u => u.bnc.trace = { s.bnc.trace with
      force := true })

/-- Balancing, the thermal pass, the die sensors and the event ring (R377 to R382, R390 to R405): an arm's keys are sorted and
ranked; lists, the merge and slices of a spread arm; the thermal network's step; die sensor samples; event records are written; and
THERM_REINIT, BAL_SHARE and EVS_MARK.
Where the spec leaves a choice, the model's: log entries 38, 112, 113, 114, 115, 214, 215. -/
def Obligations.BalancingAndEvents : Prop :=
  (∀ (s b : State) (t a : Nat), b = s.begin t → b.timeline = true → b.armOn a = true → 0 ∉ (b.arm a).steps →
    b.benchAfter (b.now - b.lagged.inPer + 1280) (b.armDecl a).sortCycle = true →
    Gives (.armSort t a) s [.bal] fun u => u.bal = (b.onArm a fun x => { x with sorting := true, sortAt := b.now, steps := 0 :: x.steps }).bal) ∧
  (∀ (s b : State) (t a : Nat), b = s.begin t → b.timeline = true → b.armOn a = true → (b.arm a).sorting = true →
    b.benchAfter (b.arm a).sortAt (State.sortTime (b.arm a).keys.length) = true → b.lagged.inPer ≤ b.deadline → (b.armDecl a).spread = false →
    Gives (.armSortResult t a) s [.bal] fun u => u.bal = (b.onArm a fun x => { x with
      sorting := false, list := some (b.ownList a)
      rank := some ((List.range (b.ownList a).length).map fun i => ((at' (b.ownList a) i { key := 0, cell := 0, node := 0 }).cell, i)) }).bal) ∧
  (∀ (s b : State) (t a : Nat) (l : List BalKey), b = s.begin t → b.armStep a 1 (b.armDecl a).listAt = true → b.balSends a = true →
    (b.arm a).list = some l → (b.armDecl a).master ≠ b.node →
    Gives (.balListSend t a) s [.free, .bal, .mesh] fun u =>
      Queued (b.armDecl a).master 4 0 (.balList { period := b.per, arm := a, node := b.node, count := l.length } l) b u ∧
      u.bal = (b.onArm a fun x => { x with steps := 1 :: x.steps }).bal) ∧
  (∀ (s b : State) (t : Nat) (x : PortRx) (h : MHdr) (p : Bytes), b = (s.begin t).brought x h p → FrameFor x h p (s.begin t) → h.typ = 4 → b.timeline = true →
    b.balSends (balHdrOf p).arm = true → (b.armDecl (balHdrOf p).arm).master = b.node →
    (balHdrOf p).node ∈ (b.armDecl (balHdrOf p).arm).nodes → (balHdrOf p).period = b.per → (balHdrOf p).node ≠ b.node →
    Gives (.balListReceive t x) s [.bal, .mesh] fun u => u.mesh = b.mesh ∧ u.bal = (b.onArm (balHdrOf p).arm fun x => { x with
      lists := ((balHdrOf p).node, b.per, balKeys p) :: x.lists.filter (·.1 != (balHdrOf p).node) }).bal) ∧
  (∀ (s b : State) (t a m : Nat) (own l : List BalKey), b = s.begin t → b.armStep a 2 (b.armDecl a).mergeAt = true → b.balSends a = true →
    (b.armDecl a).master = b.node → (b.armDecl a).nodes = [b.node, m] → m ≠ b.node → (b.arm a).list = some own →
    (b.arm a).lists = [(m, b.per, l)] → b.bal.missM < 65536 →
    Gives (.balMerge t a) s [.free, .bal, .mesh] fun u =>
      let all := State.keySort (own ++ l)
      let rank (k : BalKey) := (all.takeWhile (· != k)).length
      u.bal = (b.onArm a fun x => { x with
        missRun := 0, slice := some (b.per, own.map rank, b.masterDir a, all.length), steps := 2 :: x.steps }).bal ∧
      Queued m 4 0 (.balSlice { period := b.per, arm := a, node := m, count := all.length, dirNeg := b.masterDir a } (l.map rank)) b u) ∧
  (∀ (s b : State) (t : Nat) (x : PortRx) (h : MHdr) (p : Bytes), b = (s.begin t).brought x h p → FrameFor x h p (s.begin t) → h.typ = 4 → b.timeline = true →
    b.armOn (balHdrOf p).arm = true → (b.armDecl (balHdrOf p).arm).spread = true → (b.armDecl (balHdrOf p).arm).master ≠ b.node →
    (balHdrOf p).node = b.node → (balHdrOf p).period = b.per →
    Gives (.balSliceReceive t x) s [.bal, .mesh] fun u => u.mesh = b.mesh ∧ u.bal = (b.onArm (balHdrOf p).arm fun y => { y with
      slice := some (b.per, balRanks p (b.ownList (balHdrOf p).arm).length, (balHdrOf p).dirNeg, (balHdrOf p).count) }).bal) ∧
  (∀ (s b : State) (t a n : Nat) (own : List BalKey) (r : List Nat) (dir : Bool), b = s.begin t → b.armStep a 3 (b.kO - 40) = true →
    (b.armDecl a).spread = true → (b.arm a).list = some own → (b.arm a).slice = some (b.per, r, dir, n) →
    r.length = own.length → (b.armDecl a).master ≠ b.node →
    Gives (.balSliceDeadline t a) s [.bal] fun u => u.bal = (b.onArm a fun x => { x with
      rank := some ((own.map (·.cell)).zip r), rankN := n, n := n, dirNeg := dir, missRun := 0, steps := 3 :: x.steps }).bal) ∧
  (∀ (s b : State) (t a : Nat), b = s.begin t → b.armStep a 3 (b.kO - 40) = true → (b.armDecl a).spread = true → (b.arm a).slice = none →
    Gives (.balSliceDeadline t a) s [.bal] fun u => u.bal = { (b.onArm a fun x => { x with
      rank := none, missRun := min 255 (x.missRun + 1), steps := 3 :: x.steps }).bal with
      missS := sat16 s.bal.missS 1 }) ∧
  (∀ (s b : State) (t a : Nat), b = s.begin t → b.armOn a = true → 8 ≤ (b.arm a).missRun → b.bal.flt.testBit 31 = false →
    Gives (.mergeLost t a) s [.bal, .evs, .modeQ] fun u => u.bal = { s.bal with
      flt := setBit s.bal.flt 31, fltArm := a } ∧ u.modeQ = { s.modeQ with
      causes := s.modeQ.causes ++ [(13, a)] }) ∧
  (∀ (s b : State) (t c : Nat), b = s.begin t → b.atPoint 8 80 = true → b.reached 0 = true → b.thermCells = [c] → c < b.bal.cells.length →
    (b.therm c).ch ≠ [] → (b.cell c).stale = true → b.bal.tblAt ≠ b.absPer →
    Gives (.thermalPass t) s [.free, .seam, .bal, .evs, .modeQ, .pts] fun u =>
      u.bal.prevCells = s.bal.cells ∧ (u.therm c).pass = (b.therm c).pass + 1 ∧ (u.therm c).pwr = (b.powers c).foldl F32.add 0 ∧
      (u.therm c).dth = F32.add (b.therm c).dth (F32.mul (b.bOf (b.kind c).tauH)
        (F32.sub (F32.mul (b.kind c).rH ((b.powers c).foldl F32.add 0)) (b.therm c).dth))) ∧
  (∀ (s b : State) (t : Nat), b = s.begin t → b.atPoint 9 (b.kF - 80) = true → b.reached 8 = true →
    Gives (.thermalDeadline t []) s [.bal, .pts] fun u => u.bal = { s.bal with
      prevCells := [] }) ∧
  (∀ (s b : State) (t c : Nat), b = s.begin t → (b.therm c).restart = true →
    (b.therm c).restartAt + (b.kind c).derateRestart * 12800000000 ≤ b.now →
    Gives (.derateRestartEnd t c) s [.bal] fun u => u.bal = (b.onTherm c fun x => { x with restart := false }).bal) ∧
  (∀ (s b : State) (t : Nat) (x : Int), b = s.begin t → b.bal.dieFail = 0 → b.bal.dieLost = false → b.bal.dieFast = false →
    -240 < x → x < 8 * ((b.bal.dieWarnSet : Int) - 10) → x < 1080 →
    Gives (.dieSensorSample t (List.replicate 8 x)) s [.bal, .evs, .modeQ] fun u => u.bal = { s.bal with
      die := List.replicate 8 x, dieDis := List.replicate 8 0, dieHot := 0, dieWarn := false, dieLow := false, dieHotRun := 0 }) ∧
  (∀ (s b : State) (t : Nat), b = s.begin t → b.bal.dieFast = true → b.bal.dieQuietAt + 128000000 ≤ b.now →
    Gives (.dieFastRateEnd t) s [.bal] fun u => u.bal = { s.bal with
      dieFast := false }) ∧
  (∀ (s b : State) (t : Nat) (r : EvRec) (q : List EvRec), b = s.begin t → b.evs.queue = r :: q → b.evReady = true →
    Gives (.eventRecordWrite t) s [.evs] fun u => u.evs = { s.evs with
      queue := q, ring := ({ r with num := s.evs.head } :: s.evs.ring).take 1024, head := (s.evs.head + 1) % 2 ^ 32, writeAt := b.now }) ∧
  (∀ (s b : State) (t : Nat) (r : EvRec), b = s.begin t → r ∈ b.evs.ring → b.evs.head ≠ 0 → State.evSector r.num = State.evAhead b.evs →
    Gives (.eventSectorErase t) s [.evs] fun u => u.evs = { s.evs with
      ring := s.evs.ring.filter fun r => State.evSector r.num != State.evAhead s.evs }) ∧
  (∀ (s b : State) (t : Nat) (h : RecHdr), Accepts cmdThermReinit h [] (s.begin t) → b = s.begin t →
    Gives (.thermReinit t h) s ([.host, .jnl, .bal] ++ s.heldParts) fun u => u.bal = (b.onTherm h.target fun x =>
      let dth := F32.sub (b.ntcC h.target) (b.tCool h.target)
      let tj := F32.add (b.tCool h.target) dth
      let n := (b.kind h.target).chans.length
      { x with dth := dth, ch := List.replicate n (tj, 0, [0, 0, 0, 0]), tj := tj, hotCh := 0, pwr := 0, lad := List.replicate n 0 }).bal) ∧
  (∀ (s : State) (t en : Nat) (h : RecHdr), Accepts cmdBalShare h (le 1 en ++ le 3 0) (s.begin t) → en < 2 →
    Gives (.balShare t h en) s ([.host, .jnl, .bal] ++ s.heldParts) fun u => u.bal = ((s.begin t).onArm h.target fun x =>
      { x with shareCmd := some (en == 1) }).bal) ∧
  (∀ (s b : State) (t : Nat) (h : RecHdr) (d : Bytes), Accepts cmdEvsMark h d (s.begin t) → b = s.begin t → d.length = 12 → b.evs.recent = [] → b.evs.queue.length < 16 →
    Gives (.evsMark t h d) s ([.host, .jnl, .evs] ++ s.heldParts) fun u => u.evs.queue = s.evs.queue ++
      [{ time := b.sysTime, boot := s.evs.boot, code := 0x05FF, rep := State.repsOf s.evs 0x05FF, data := d, at_ := b.now }])

/-- What the mode does by itself at S(n) (R417, R422 to R440, R443, R447): precharge ends or times out, a run mode starts or does not, the grid coasts
and returns, overload ends in SAFE, a drive finds its motor, its links recover, the brake and a feedback fail, a dwell ends.
Where the spec leaves a choice, the model's: log entries 32, 116, 118, 125. -/
def Obligations.ModeMachine : Prop :=
  (∀ (s b : State) (t : Nat), b = s.begin t → b.decides = true → b.inSub 1 9 = true → s.mode.cnt.stepAt + s.mp.preTmaxS * Config.sec ≤ b.now →
    b.activeCovered = false → Gives (.prechargeP1Timeout t) s [.free, .clk, .lane, .seam, .edg, .bnc, .bal, .evs, .mode, .modeQ, .adc, .cmp, .mesh]
      (SafeBy ((16, 0) :: b.rowCauses) b.now)) ∧
  (∀ (s b : State) (t : Nat), b = s.begin t → b.decides = true → b.inSub 1 10 = true → s.mode.cnt.stepAt + s.mp.mainTMs * Config.ms ≤ b.now →
    b.activeCovered = false → Gives (.prechargeP2Timeout t) s [.free, .clk, .lane, .seam, .edg, .bnc, .bal, .evs, .mode, .modeQ, .adc, .cmp, .mesh]
      (SafeBy ((16, 0) :: b.rowCauses) b.now)) ∧
  (∀ (s b : State) (t : Nat), b = s.begin t → b.timeline = true → b.inSub 1 11 = true → s.mode.cnt.stepAt + 50 * Config.ms ≤ b.now →
    Gives (.prechargeRelayOff t) s [.mode] fun u => u.mode.cnt.relayOff = true ∧ u.mode.mode = s.mode.mode ∧ u.mode.sub = s.mode.sub) ∧
  (∀ (s b : State) (t : Nat), b = s.begin t → b.decides = true → b.inSub 1 11 = true → s.mode.cnt.stepAt + 100 * Config.ms ≤ b.now →
    Gives (.prechargeComplete t) s [.clk, .lane, .seam, .edg, .bnc, .bal, .mode, .modeQ, .adc] fun u => u.mode.mode = 2 ∧ u.mode.target = s.mode.target ∧
      u.mode.sub = (if 3 ≤ s.mode.target then 1 else 0) ∧ (3 ≤ s.mode.target → u.mode.cnt.targetAt = b.now)) ∧
  (∀ (s b : State) (t : Nat), b = s.begin t → b.decides = true → b.inSub 2 1 = true → s.mode.cnt.targetAt + s.mp.startMaxMs * Config.ms ≤ b.now →
    Gives (.startMaxExpiry t) s [.bnc, .mode] fun u => u.mode.mode = 2 ∧ u.mode.sub = 0 ∧ u.mode.target = 2 ∧ u.mode.evt.testBit 7 = true) ∧
  (∀ (s b : State) (t : Nat), b = s.begin t → b.decides = true → b.inSub 2 1 = true → b.startOk = true →
    Gives (.runStartConditions t) s [.clk, .lane, .seam, .edg, .bnc, .bal, .mode, .modeQ, .adc] fun u => u.mode.mode = s.mode.target ∧
      u.mode.sub = (if s.mode.target = 6 then 6 else 2)) ∧
  (∀ (s b : State) (t : Nat), b = s.begin t → b.decides = true → b.inSub 3 2 = true → s.mp.coastDet ≤ s.mode.cnt.coast →
    Gives (.gridCoastDetect t) s [.bnc, .mode] fun u => u.mode.mode = 3 ∧ u.mode.sub = 4 ∧ u.mode.evt.testBit 4 = true ∧ u.mode.cnt.coastAt = b.now) ∧
  (∀ (s b : State) (t : Nat), b = s.begin t → b.decides = true → b.inSub 3 4 = true → b.periodsOf (s.mp.retTMs * Config.ms) ≤ s.mode.cnt.ret →
    Gives (.gridReturn t) s [.bnc, .mode] fun u => u.mode.mode = 3 ∧ u.mode.sub = 5 ∧ u.mode.cnt.resync = 0) ∧
  (∀ (s b : State) (t : Nat), b = s.begin t → b.decides = true → b.inSub 3 5 = true → s.mp.resyncN ≤ s.mode.cnt.resync →
    Gives (.resyncComplete t) s [.bnc, .mode] fun u => u.mode.mode = 3 ∧ u.mode.sub = 2 ∧ u.mode.evt.testBit 3 = true) ∧
  (∀ (s b : State) (t : Nat), b = s.begin t → b.decides = true → b.inSub 3 4 = true ∨ b.inSub 3 5 = true →
    s.mode.cnt.coastAt + s.mp.coastMaxMs * Config.ms ≤ b.now → b.activeCovered = false →
    Gives (.coastMaxExpiry t) s [.free, .clk, .lane, .seam, .edg, .bnc, .bal, .evs, .mode, .modeQ, .adc, .cmp, .mesh]
      (SafeBy ((14, 0) :: b.rowCauses) b.now)) ∧
  (∀ (s b : State) (t : Nat), b = s.begin t → b.decides = true → s.mode.mode = 4 ∨ s.mode.mode = 5 →
    b.periodsOf (s.mp.limTMs * Config.ms) ≤ s.mode.cnt.lim → b.activeCovered = false →
    Gives (.overloadCount t) s [.free, .clk, .lane, .seam, .edg, .bnc, .bal, .evs, .mode, .modeQ, .adc, .cmp, .mesh]
      (SafeBy ((15, 0) :: b.rowCauses) b.now)) ∧
  (∀ (s b : State) (t : Nat), b = s.begin t → b.decides = true → b.driveSub 6 = true → s.dp.fsN ≤ s.mode.cnt.fs →
    Gives (.flyingStartFound t) s [.bnc, .mode] fun u => u.mode.mode = s.mode.mode ∧ u.mode.sub = 7 ∧ u.mode.fsF = (s.mvar s.mv.fsF).getD 0 ∧
      u.mode.cnt.catchAt = b.now) ∧
  (∀ (s b : State) (t : Nat), b = s.begin t → b.decides = true → b.driveSub 6 = true → s.mode.cnt.searchAt + s.dp.fsTmaxMs * Config.ms ≤ b.now →
    Gives (.fsTmaxExpiry t) s [.clk, .lane, .seam, .edg, .bnc, .bal, .evs, .mode, .modeQ, .adc] fun u =>
      if s.dp.assumeStop then u.mode.mode = s.mode.mode ∧ u.mode.sub = 7 ∧ u.mode.fsF = 0 ∧ u.mode.cnt.catchAt = b.now
      else u.mode.mode = 2 ∧ u.mode.sub = 0 ∧ u.mode.target = 2 ∧ u.mode.evt.testBit 6 = true) ∧
  (∀ (s b : State) (t : Nat), b = s.begin t → b.decides = true → b.driveSub 7 = true → s.mode.cnt.catchAt + s.dp.catchTMs * Config.ms ≤ b.now →
    Gives (.catchTExpiry t) s [.bnc, .mode] fun u => u.mode.mode = s.mode.mode ∧ u.mode.sub = 2) ∧
  (∀ (s b : State) (t : Nat), b = s.begin t → b.decides = true → b.driveSub 4 = true → 1000 ≤ s.mode.cnt.low →
    Gives (.driveCoastEnd t) s [.bnc, .mode] fun u => u.mode.mode = s.mode.mode ∧ u.mode.sub = 6 ∧ u.mode.cnt.searchAt = b.now ∧ u.mode.cnt.fs = 0) ∧
  (∀ (s b : State) (t : Nat), b = s.begin t → b.decides = true → s.mode.mode = 7 → s.dp.zeroT ≤ s.mode.cnt.zero →
    Gives (.zeroSpeedCount t) s [.clk, .lane, .seam, .edg, .bnc, .bal, .mode, .modeQ, .adc] fun u => u.mode.mode = 2 ∧ u.mode.sub = 0) ∧
  (∀ (s b : State) (t j : Nat), b = s.begin t → b.decides = true → s.mode.brkFault = false → s.dp.brkOut = some j →
    b.periodsOf (s.dp.brkCheckUs * Config.us) ≤ s.mode.cnt.brk →
    Gives (.brkFault t) s [.bnc, .evs, .mode] fun u => u.mode.brkFault = true ∧ u.mode.evt.testBit 5 = true) ∧
  (∀ (s b : State) (t k w : Nat) (x : FbWatch), b = s.begin t → b.decides = true → b.watch k w = some x → x.lost = false → b.fbOver x = true →
    b.fbLive x = true → b.mode.mode ≠ 0 → b.mode.mode ≠ 8 → b.activeCovered = false → 1 < (b.inputDecl k w).cls → (∀ y ∈ s.mode.fb, y.onAlt = false) →
    Gives (.feedbackLost t k w) s [.free, .clk, .lane, .seam, .edg, .bnc, .bal, .evs, .mode, .modeQ, .adc, .cmp, .mesh] fun u =>
      u.mode.mode = 8 ∧ u.mode.reason = 10 ∧ u.mode.index = k * 512 + w) ∧
  (∀ (s b : State) (t k w : Nat) (x : FbWatch), b = s.begin t → b.decides = true → b.watch k w = some x → x.lost = false → b.fbOver x = true →
    b.fbLive x = true → (b.inputDecl k w).cls = 0 → (∀ y ∈ s.mode.fb, y.onAlt = false) →
    Gives (.feedbackLost t k w) s [.bnc, .mode] fun u =>
      u.mode.mode = s.mode.mode ∧ u.mode.fbLost = k * 512 + w ∧ u.mode.evt.testBit 2 = true) ∧
  (∀ (s b : State) (t k : Nat), b = s.begin t → b.decides = true → (at' s.mode.sps k {}).dwell = 1 →
    Gives (.dwellEnd t k) s [.bnc, .mode] fun u => u.mode.sps = modAt s.mode.sps k fun p => { p with
      dwell := 0 })

/-- The commands of the mode and what reaches it from outside (R127, R412, R417, R420, R421, R444, R448, R454, R679): a mode change lands for the next
decision or is scheduled on the mesh, a set-point is commanded, the host-loss policy acts, overlays begin and end, a SAFE notice waits.
Where the spec leaves a choice, the model's: log entries 41, 123, 129, 131. -/
def Obligations.ModeCommands : Prop :=
  (∀ (s b : State) (t m scope : Nat) (h : RecHdr), Accepts cmdModeSet h (le 1 m ++ le 1 scope ++ le 2 0) (s.begin t) → b = s.begin t → m < 256 →
    scope = 0 ∨ scope = 1 → Gives (.modeSet t h m scope) s ([.free, .host, .jnl, .modeQ, .mesh] ++ s.heldParts) fun u =>
      u.modeQ.cmds = (if scope = 0 then s.modeQ.cmds ++ [.set m] else s.modeQ.cmds) ∧
      u.modeQ.sched = if scope = 1 ∧ (List.range s.cfg.mesh.nodes).filter (· != s.node) = [] then some { period := b.boundaryAfter, mode := m } else s.modeQ.sched) ∧
  (∀ (s b : State) (t k : Nat) (h : RecHdr) (v : Word), Accepts cmdSetpoint h (le 1 k ++ le 3 0 ++ le 4 v.toNat) (s.begin t) → b = s.begin t → k < 256 →
    Gives (.setpoint t h k v) s ([.host, .jnl, .modeQ] ++ s.heldParts) fun u => u.modeQ = { s.modeQ with
      spCmds := s.modeQ.spCmds ++ [(k, v)] }) ∧
  (∀ (s b : State) (t : Nat) (h : RecHdr), Accepts cmdModeLossClear h [] (s.begin t) → b = s.begin t →
    Gives (.modeLossClear t h) s ([.host, .jnl, .mode] ++ s.heldParts) fun u => u.mode = { s.mode with
      loss := false }) ∧
  (∀ (s b : State) (t set clear g x : Nat) (h : RecHdr), Accepts cmdOvlSet h (le 1 set ++ le 1 clear ++ le 1 g ++ le 1 0) (s.begin t) → b = s.begin t →
    set < 256 → clear < 256 → g < 256 → x = s.modeQ.ovl ^^^ (clear &&& s.modeQ.ovl) →
    Gives (.ovlSet t h set clear g) s ([.host, .jnl, .lane, .seam, .edg, .bal, .modeQ, .adc, .cmp] ++ s.heldParts) fun u => u.modeQ.ovl = x ||| (set &&& (31 - x % 32))) ∧
  (∀ (s b : State) (t p : Nat), b = s.begin t → b.timeline = true → b.cyc = 0 → p ∈ s.modeQ.lossSched → later 32 p b.per = false →
    (s.host.loss ≠ 2 → ∃ u, exec (.hostLossPolicy t) s = .next u ∧ Only [.free, .jnl, .mode, .modeQ, .bnc] s u ∧ u.mode.loss = true ∧ u.mode.lossPol = s.host.loss ∧
      u.modeQ.lossSched = s.modeQ.lossSched.filter (later 32 · b.per) ∧ u.mode.mode = s.mode.mode) ∧
    (s.host.loss = 2 → ∃ u z, exec (.hostLossPolicy t) s = .next u ∧ Only [.free, .jnl, .mode, .modeQ] b z ∧ z.mode.loss = true ∧ z.mode.lossPol = 2 ∧
      z.modeQ.lossSched = s.modeQ.lossSched.filter (later 32 · b.per) ∧ Only [.bnc] (z.setMode false 0) u)) ∧
  (∀ (s b : State) (t : Nat) (x : Sched), b = s.begin t → b.timeline = true → b.cyc = 0 → s.modeQ.sched = some x → later 32 x.period b.per = false →
    ∃ u z, exec (.meshModeBoundary t) s = .next u ∧ Only [.modeQ] b z ∧ z.modeQ = { s.modeQ with
      sched := none } ∧ Only [.bnc] (z.setMode false x.mode) u) ∧
  (∀ (s b : State) (t n p : Nat), b = s.begin t → b.inForce = true → n ≠ b.node →
    Gives (.safeNoticeReceived t n p) s [.modeQ] fun u => u.modeQ = { s.modeQ with
      peer := s.modeQ.peer ++ [(p % 2 ^ 32, n)] })

/-- The ADC sequencer's own events (R464 to R472, R478, R479): a run wakes a powered-down ADC within 300 ns; a run that
finds the last one unfinished is counted; the ADC wakes; a conversion's result is stored with its channel, run and code; an
injected request is queued; calibration begins, and ends with its offset and gain.
Where the spec leaves a choice, the model's: log entries 76, 201. -/
def Obligations.AdcSequencing : Prop :=
  (∀ (s b : State) (t a : Nat), b = s.begin t → b.adcOn = true → (b.adcDecl a).entries ≠ [] → (b.adcDecl a).free = true →
    (b.adc1 a).entry = none → (b.adc1 a).job = none → (b.adc1 a).st = 2 → (b.adc1 a).cal ≠ 1 → (b.adc1 a).runAt ≠ b.now + 1 →
    Gives (.adcRunStart t a) s [.adc] fun u => u.adc = { s.adc with
      adcs := modAt s.adc.adcs a fun x =>
        { x with runs := x.runs + 1, entry := some 0, runAt := b.now + 1, wakeAt := some (x.wakeAt.getD (b.now + 3840)) } }) ∧
  (∀ (s b : State) (t a e : Nat), b = s.begin t → b.adcOn = true → (b.adcDecl a).entries ≠ [] → (b.adcDecl a).free = false →
    b.runInstant (b.adcDecl a) = true → (b.adc1 a).entry = some e → (b.adc1 a).st ≠ 0 → (b.adc1 a).st ≠ 4 →
    (b.adc1 a).runAt ≠ b.now + 1 →
    Gives (.adcRunStart t a) s [.adc] fun u => u.adc = { s.adc with
      flt := setBit s.adc.flt 31, fltAdc := a
      adcs := modAt s.adc.adcs a fun x => { x with seqOvr := sat32 x.seqOvr 1, runAt := b.now + 1 } }) ∧
  (∀ (s b : State) (t a w : Nat), b = s.begin t → (b.adc1 a).st = 2 → (b.adc1 a).wakeAt = some w → w = b.now →
    (b.adc1 a).entry = none → (b.adc1 a).queue = [] → (b.adcDecl a).pd = false →
    Gives (.adcWake t a) s [.adc] fun u => u.adc = { s.adc with
      adcs := modAt s.adc.adcs a fun x => { x with st := 1, wakeAt := none } }) ∧
  (∀ (s b : State) (t a e : Nat) (nv : Int), b = s.begin t → (b.adc1 a).st = 3 → (b.adc1 a).jobAt + 2560 = b.now →
    (b.adc1 a).job = some (.entry e) → (b.adcDecl a).entries.length = e + 1 → (b.adcDecl a).free = false →
    (b.adcDecl a).pd = false → (b.entryDecl a e).shared = false → State.outOfSpan nv = false → (b.adc1 a).loose = none → at' b.clk.trimDue (2 + a) none = none →
    b.isDoubt a (b.entryDecl a e).ch (b.adc1 a).jobAt false = false → (b.adc1 a).queue = [] →
    Gives (.adcConversionDone t a nv) s [.free, .clk, .adc, .evs] fun u =>
      let r : AdcRes := { ch := (b.entryDecl a e).ch, run := (b.adc1 a).runs % 256, code := b.code a nv, num := b.now + 1 }
      u.adc = { s.adc with
        adcs := modAt s.adc.adcs a fun x =>
          { x with
            st := 1, job := none, entry := none, res := x.res.set e r, chan := x.chan.set r.ch r
            resWas := x.resWas.set e (at' x.res e {}), chanWas := x.chanWas.set r.ch (at' x.chan r.ch {}) } } ∧
      u.clk = s.clk ∧ u.free = s.free) ∧
  (∀ (s b : State) (t a j c : Nat), b = s.begin t → b.adcOn = true → b.timeline = true →
    b.injDecl a j = some { ch := c, trig := .phase b.cyc } → (b.adc1 a).st = 3 → (b.adc1 a).queue = [] →
    b.inPer = 16 * b.cyc → at' (b.adc1 a).asked j 0 ≠ b.now + 1 →
    Gives (.injectedRequest t a j) s [.adc] fun u => u.adc = { s.adc with
      adcs := modAt s.adc.adcs a fun x => { x with queue := [(b.sysTime / 64, a, j)], asked := x.asked.set j (b.now + 1) } }) ∧
  (∀ (s b : State) (t a : Nat), b = s.begin t → (b.adc1 a).cal = 1 → (b.adc1 a).job = none → (b.adc1 a).queue = [] →
    (b.adc1 a).st = 1 → (b.adc1 (State.partner a)).st = 0 →
    Gives (.calibrationRunning t a) s [.adc] fun u => u.adc = { s.adc with
      adcs := modAt s.adc.adcs a fun x => { x with st := 4, cal := 2, entry := none, wakeAt := none, calAt := b.now } }) ∧
  (∀ (s b : State) (t a : Nat) (ofs : Int) (gain : Word), b = s.begin t → (b.adc1 a).st = 4 → (b.adc1 a).calAt + 512000 = b.now →
    State.calFails ofs gain = false → (b.adc1 a).held = [] → (b.adc1 a).entry = none → (b.adc1 a).queue = [] → (b.adcDecl a).pd = false →
    Gives (.calibrationEnd t a ofs gain) s [.adc, .evs] fun u => u.adc = { s.adc with
      flt := setBit s.adc.flt 22, fltAdc := a
      adcs := modAt s.adc.adcs a fun x =>
        { x with st := 1, cal := 3, ofs := ofs, gain := gain, calBad := false, calCnt := sat16 x.calCnt 1, powerCal := false, held := [] } })

/-- Modulator clocks and sieves (R487 to R491): a clock takes its declared state and its sieves count their bits anew; an
output that is exact after enough bits is the normalised sinc sum of the latest bits and is valid; 64 equal bits set STUCK and leave an
event record; a differing bit ends STUCK.
Where the spec leaves a choice, the model's: log entries 77, 202. -/
def Obligations.ModulatorSieves : Prop :=
  (∀ (s b : State) (t k : Nat), b = s.begin t → k < 6 → at' b.adc.sdcRun k false ≠ b.sdcWanted k →
    Gives (.sdcStartStop t k) s [.adc] fun u => u.adc = { s.adc with
      sdcRun := s.adc.sdcRun.set k (b.sdcWanted k)
      svs := s.adc.svs.mapIdx fun i x => if (b.sieveDecl i).clk = k then { x with got := 0, hist := [], valid := false, bitAt := b.sysTime } else x }) ∧
  (∀ (s b : State) (t i n : Nat) (d : SieveDecl) (stream hist : List Bool) (y : Int), b = s.begin t → d = b.sieveDecl i → n = d.order * d.osr → d.en = true →
    at' b.adc.sdcRun d.clk false = true → 512 ≤ b.sysTime → (b.sysTime - 512 + d.ofs * b.bitTicks i) % (d.osr * b.bitTicks i) = 0 →
    b.bitsFit i (b.sysTime - 512) stream = true → (b.sieve i).bitAt / b.bitTicks i ≤ (b.sysTime - 512) / b.bitTicks i →
    (b.sieve i).stuck = false → n ≤ (b.sieve i).got + stream.length → hist = (stream.reverse ++ (b.sieve i).hist).take n → 0 < d.osr →
    State.sincSum d.order d.osr (hist.map fun x => if x then 1 else -1) * 1073741824 = y * (d.osr : Int) ^ d.order →
    y.natAbs < 1006632960 →
    Gives (.sieveOutput t i stream) s [.free, .adc] fun u => u.free = s.free ∧ u.adc = { s.adc with
      svs := modAt s.adc.svs i fun x =>
        { x with hist := (stream.reverse ++ x.hist).take (max 64 n), got := min (max 64 n) (x.got + stream.length), bitAt := b.sysTime - 512
                 out := y, valid := true, settling := false, cnt := (x.cnt + 1) % 2 ^ 32
                 good := y, num := b.now + 1, goodWas := x.good, numWas := x.num } }) ∧
  (∀ (s b : State) (t i n : Nat) (level : Bool) (stream : List Bool), b = s.begin t → n = (b.sieveDecl i).order * (b.sieveDecl i).osr → (b.sieveDecl i).en = true →
    at' b.adc.sdcRun (b.sieveDecl i).clk false = true → (b.sieve i).stuck = false → b.bitsFit i b.sysTime stream = true →
    64 ≤ stream.length + (b.sieve i).hist.length → (∀ x ∈ (stream.reverse ++ (b.sieve i).hist).take 64, x = level) →
    Gives (.sieveStuck t i level stream) s [.evs, .adc] fun u => u.evs = (b.event 0x0682 (le 1 i ++ le 1 (bit level))).evs ∧
      u.adc = { s.adc with
        flt := setBit s.adc.flt 24, fltSieve := i
        svs := modAt s.adc.svs i fun x => { x with hist := (stream.reverse ++ x.hist).take (max 64 n), got := min (max 64 n) (x.got + stream.length), bitAt := b.sysTime
                                                   stuck := true, level := level, valid := false, evt := setBit x.evt 14 } }) ∧
  (∀ (s b : State) (t i : Nat) (same : List Bool), b = s.begin t → (b.sieve i).stuck = true → (∀ x ∈ same, x = (b.sieve i).level) →
    b.bitsFit i b.sysTime (same ++ [!(b.sieve i).level]) = true →
    Gives (.sieveLeavesStuck t i (same ++ [!(b.sieve i).level])) s [.adc] fun u => u.adc = { s.adc with
      svs := modAt s.adc.svs i fun x => { x with stuck := false, got := 1, hist := [!(b.sieve i).level], bitAt := b.sysTime } })

/-- ADC_CAL, ADC_INJECT, TDAC_SET and TDAC_CONNECT, accepted (R471, R472, R479, R483, R484): calibration waits on the ADC named,
an injected request joins the ADC's queue, the DAC takes its code, and is switched into the input named with DOUBT for 3 us.
Where the spec leaves a choice, the model's: log entry 78. -/
def Obligations.AdcCommands : Prop :=
  (∀ (s : State) (t : Nat) (h : RecHdr), Accepts cmdAdcCal h [] (s.begin t) →
    Gives (.adcCal t h) s ([.host, .jnl, .adc] ++ s.heldParts) fun u => u.adc = { s.adc with
      adcs := modAt s.adc.adcs h.target fun x => { x with cal := 1 } }) ∧
  (∀ (s : State) (t d : Nat) (h : RecHdr) (i : InjDecl), Accepts cmdAdcInject h (le 1 d ++ le 3 0) (s.begin t) →
    ((s.begin t).adc1 h.target).st = 3 → ((s.begin t).adc1 h.target).queue = [] → ((s.begin t).injDecl h.target (field (le 1 d ++ le 3 0) 0 1)) = some i →
    Gives (.adcInject t h d) s ([.host, .jnl, .adc] ++ s.heldParts) fun u => u.adc = { s.adc with
      adcs := modAt s.adc.adcs h.target fun x => { x with queue := [((s.begin t).sysTime / 64, h.target, field (le 1 d ++ le 3 0) 0 1)] } }) ∧
  (∀ (s : State) (t code : Nat) (h : RecHdr), Accepts cmdTdacSet h (le 2 code ++ le 2 0) (s.begin t) →
    (at' s.adc.tdac h.target (0, none)).2 = none →
    Gives (.tdacSet t h code) s ([.host, .jnl, .adc] ++ s.heldParts) fun u => u.adc = { s.adc with
      tdac := s.adc.tdac.set h.target (field (le 2 code ++ le 2 0) 0 2, none) }) ∧
  (∀ (s : State) (t input : Nat) (h : RecHdr), Accepts cmdTdacConnect h (le 1 input ++ le 3 0) (s.begin t) →
    (at' s.adc.tdac h.target (0, none)).2 = none → field (le 1 input ++ le 3 0) 0 1 ≠ 0xFF →
    Gives (.tdacConnect t h input) s ([.host, .jnl, .adc] ++ s.heldParts) fun u =>
      let n := field (le 1 input ++ le 3 0) 0 1
      u.adc = { s.adc with
        tdac := s.adc.tdac.set h.target ((at' s.adc.tdac h.target (0, none)).1, some n)
        doubt := (n, max s.now t, max s.now t + 38400) :: s.adc.doubt.filter fun d => decide (max s.now t < d.2.2 + 2560) })

/-- Comparators, trip pins, TRIPN, the trip latches and their commands (R503 to R525, R241): a comparator over its threshold latches its
trip, one in its sampled window takes its input; self-checks begin and end; thresholds move one code; a blanking timer starts
and ends; pins, TRIPN and cells latch theirs; a release clears a latch when it lands.
Where the spec leaves a choice, the model's: log entries 12, 97, 198, 200, 203. -/
def Obligations.ComparatorsAndTrips : Prop :=
  (∀ (s b : State) (t k : Nat) (nv : Int), b = s.begin t → b.inForce = true → (b.cmpDecl k).si = 0 → (b.cmpDecl k).sense = 1 →
    (b.cmp1 k).on = true → (b.cmp1 k).checking = false → State.thrLevel (b.cmp1 k).thrHi (State.cmpTrim k b) < 16 * nv →
    b.cmpBlanked k = false → b.latched k = false →
    Gives (.comparatorStageChange t k nv) s [.free, .seam, .edg, .bnc, .evs, .cmp, .mesh] fun u =>
      u.cmp.latch = s.cmp.latch.set k true ∧ (u.cmp1 k).fired = true ∧
      (u.cmp1 k).hi = some true ∧ (u.cmp1 k).firing = true ∧ (u.cmp1 k).cnt = if (b.cmp1 k).firing then (b.cmp1 k).cnt else sat32 (b.cmp1 k).cnt 1) ∧
  (∀ (s b : State) (t k : Nat) (nv : Int), b = s.begin t → (b.cmpDecl k).si ≠ 0 → (b.cmpDecl k).sense = 1 →
    (b.cmp1 k).on = true → (b.cmp1 k).checking = false → (b.cmp1 k).failed = false →
    1792 ≤ b.sysTime % ((b.cmpDecl k).si * 12800) → b.sysTime % ((b.cmpDecl k).si * 12800) ≤ 2560 →
    (b.cmp1 k).winAt ≠ b.sysTime / ((b.cmpDecl k).si * 12800) + 1 →
    16 * nv < State.thrLevel (b.cmp1 k).thrHi (State.cmpTrim k b) - (b.cmpDecl k).hyst * 23437500 →
    Gives (.sampledWindow t k nv) s [.cmp] fun u =>
      (u.cmp1 k).hi = some false ∧ (u.cmp1 k).firing = false ∧ (u.cmp1 k).nv = some nv ∧ u.cmp.latch = s.cmp.latch) ∧
  (∀ (s b : State) (t k : Nat) (nv : Int), b = s.begin t → (b.cmpDecl k).si ≠ 0 →
    Gives (.comparatorStageChange t k nv) s [.cmp] fun u => u.cmp = { s.cmp with
      cmps := modAt s.cmp.cmps k fun x => { x with nv := some nv } }) ∧
  (∀ (s b : State) (t k : Nat) (l : List Nat), b = s.begin t → b.pwr.dom.testBit 13 = true → b.inForce = true →
    b.cmp.cmps.any (·.checking) = false → b.cmp.checks = k :: l →
    Gives (.cmpPowerupChecks t) s [.cmp] fun u => u.cmp = { s.cmp with
      cmps := modAt s.cmp.cmps k fun x => { x with checking := true, frozen := x.firing, checkAt := b.now } }) ∧
  (∀ (s b : State) (t k : Nat), b = s.begin t → (b.cmp1 k).checking = true → (b.cmp1 k).checkAt + 51200 = b.now →
    b.cmp.checks = [k] → (b.cmp1 k).nv = none → (b.wire k).safety = false →
    Gives (.cmpCheckEnd t k [(0, 1), (1, 0), (1, 0), (0, 1)]) s [.cmp] fun u => u.cmp = { s.cmp with
      checks := [], flt := s.cmp.flt ||| 0x10000000, fltCmp := k
      cmps := modAt s.cmp.cmps k fun x => { x with checking := false, failed := false, on := true, hi := none, lo := none, firing := false, chgAt := if x.firing then b.now + 1 else x.chgAt } }) ∧
  (∀ (s b : State) (t k : Nat), b = s.begin t → k < b.cmp.cmps.length → (b.cmp1 k).tgtLo = (b.cmp1 k).thrLo →
    (b.cmp1 k).thrHi < (b.cmp1 k).tgtHi → (b.cmp1 k).thrAt + 1280 = b.now →
    Gives (.thresholdStep t k) s [.free, .seam, .edg, .bnc, .evs, .cmp, .mesh] fun u =>
      (u.cmp1 k).thrHi = (b.cmp1 k).thrHi + 1 ∧ (u.cmp1 k).thrLo = (b.cmp1 k).thrLo ∧ (u.cmp1 k).thrAt = b.now) ∧
  (∀ (s b : State) (t n : Nat) (w : Nat × Nat), b = s.begin t → w ∈ at' b.cmp.blanks n [] → w.1 = b.now →
    Gives (.blankingStart t n) s [.cmp] fun u => u.cmp = { s.cmp with
      blankOn := s.cmp.blankOn.set n true }) ∧
  (∀ (s b : State) (t n : Nat), b = s.begin t → (∃ w ∈ at' b.cmp.blanks n [], w.2 = b.now) → b.blankActive n = false →
    Gives (.blankingEnd t n) s [.free, .seam, .edg, .bnc, .evs, .cmp, .mesh] fun u =>
      u.cmp.blankOn = s.cmp.blankOn.set n false ∧ ∀ w ∈ at' s.cmp.blanks n [], b.now < w.2 → w ∈ at' u.cmp.blanks n []) ∧
  (∀ (s b : State) (t n k : Nat), b = s.begin t → (∃ w ∈ at' b.cmp.blanks n [], w.2 = b.now) → b.blankActive n = false → k < 24 →
    (∀ j < 24, (b.cmpDecl j).blank.testBit n = decide (j = k)) → b.cmpFires k = true → b.cmpBlanked k = false → b.latched k = false →
    b.inForce = true →
    Gives (.blankingEnd t n) s [.free, .seam, .edg, .bnc, .evs, .cmp, .mesh] fun u => u.cmp.latch = s.cmp.latch.set k true) ∧
  (∀ (s b : State) (t i n : Nat) (high : Bool), b = s.begin t → b.pwr.dom.testBit 13 = true → high ≠ (b.wire (24 + i)).actLow →
    (b.wire (24 + i)).filt < n → i < 8 → b.inForce = true → b.latched (24 + i) = false →
    Gives (.tripPinFilter t i high n) s [.free, .seam, .edg, .bnc, .evs, .cmp, .mesh] fun u =>
      u.cmp.pinHigh = s.cmp.pinHigh.set i high ∧ u.cmp.pinAct = s.cmp.pinAct.set i true ∧ u.cmp.latch = s.cmp.latch.set (24 + i) true) ∧
  (∀ (s b : State) (t i n : Nat) (high : Bool), b = s.begin t → b.pwr.dom.testBit 13 = true → high = (b.wire (24 + i)).actLow → 0 < n →
    Gives (.tripPinFilter t i high n) s [.cmp] fun u => u.cmp = { s.cmp with
      pinHigh := s.cmp.pinHigh.set i high, pinAct := s.cmp.pinAct.set i false }) ∧
  (∀ (s b : State) (t : Nat), b = s.begin t → b.cmp.driving = false → (b.cmp.ignoring = true → b.cmp.ignoreEnd + 640 ≤ b.now) → b.inForce = true → b.latched 32 = false →
    Gives (.tripnLow t true) s [.free, .seam, .edg, .bnc, .evs, .cmp, .mesh] fun u => u.cmp.busLow = true ∧ u.cmp.latch = s.cmp.latch.set 32 true) ∧
  (∀ (s b : State) (t : Nat), b = s.begin t → b.cmp.ignoring = true → b.cmp.driving = false → b.cmp.ignoreEnd ≤ b.now → b.cmp.busLow = false →
    Gives (.tripnIgnoreEnd t) s [.cmp] fun u => u.cmp = { s.cmp with
      ignoring := false }) ∧
  (∀ (s : State) (t w : Nat) (h : RecHdr), Accepts cmdTripRelease h [] (s.begin t) → h.target = w → w < 35 →
    Gives (.tripRelease t h) s ([.host, .jnl, .cmp] ++ s.heldParts) fun u => u.cmp = { s.cmp with
      releases := s.cmp.releases ++ [w] }) ∧
  (∀ (s : State) (t lo hi : Nat) (h : RecHdr), Accepts cmdCmpThresh h (le 2 lo ++ le 2 hi) (s.begin t) → lo < 1024 → hi < 1024 →
    Gives (.cmpThresh t h lo hi) s ([.host, .jnl, .cmp] ++ s.heldParts) fun u => u.cmp = { s.cmp with
      cmps := modAt s.cmp.cmps h.target fun x => { x with tgtLo := lo, tgtHi := hi, thrAt := max s.now t } }) ∧
  (∀ (s : State) (t : Nat) (h : RecHdr), Accepts cmdCmpCheck h [] (s.begin t) →
    Gives (.cmpCheck t h) s ([.host, .jnl, .cmp] ++ s.heldParts) fun u => u.cmp = { s.cmp with
      cmps := modAt s.cmp.cmps h.target fun x => { x with checking := true, frozen := x.firing, checkAt := max s.now t } }) ∧
  (∀ (s b : State) (t w : Nat), b = s.begin t → b.cmp.releases = [w] → b.stillFires w = false →
    Gives (.tripReleaseLanding t) s [.seam, .comp, .cmp] fun u => u.cmp.releases = [] ∧ u.latched w = false ∧ ∀ i, i ≠ w → u.latched i = s.latched i) ∧
  (∀ (s b : State) (t : Nat) (x : LaneRx), b = s.begin t → x.lane < 32 → b.laneHears x.lane = true → laneKind .trip x ≠ [] → b.inForce = true →
    b.latched 34 = false →
    Gives (.cellTripBlock t x) s [.free, .seam, .edg, .bnc, .evs, .cmp, .mesh] fun u =>
      u.cmp.latch = s.cmp.latch.set 34 true ∧ u.cmp.cellAt = some b.now ∧ u.cmp.cellSeam = x.lane / 2)

/-- The safety island (R538 to R553): an open channel of a pair latches it; a discrepancy; the counted reset edge leaves LATCHED only with
every pair closed; SAFE_RST; gate power; test pulses; readback, liveness and clock failures; undervoltage.
Where the spec leaves a choice, the model's: log entries 89, 92, 93, 94. -/
def Obligations.SafetyIsland : Prop :=
  (∀ (s b : State) (t ch held : Nat) (high : Bool), b = s.begin t → ch < 8 →
    State.rc ((b.pairDecl (ch / 2)).filtMs * Config.ms) ≤ held → b.pairUsed (ch / 2) = true → ch / 2 < s.safe.pairs.length →
    at' (s.safe.sin.set ch high) (2 * (ch / 2)) false = false ∨
      at' (s.safe.sin.set ch high) (2 * (ch / 2) + 1) false = (b.pairDecl (ch / 2)).anti →
    b.safe.st = 2 ∨ b.safe.st = 3 →
    Gives (.sinChannelTaken t ch high held) s [.free, .seam, .edg, .bnc, .evs, .cmp, .safe, .mesh] fun u => u.safe.sin = s.safe.sin.set ch high ∧
      u.safe.st = 1 ∧ u.safe.cause = 2 ∧ u.safe.pair = ch / 2 ∧ u.safe.soffA = false ∧ u.safe.soffB = false ∧ u.safe.pulse = none ∧
      (b.inForce = true → b.latched 36 = false → u.cmp.latch = s.cmp.latch.set 36 true)) ∧
  (∀ (s b : State) (t ch held : Nat) (high : Bool), b = s.begin t → ch < 8 →
    State.rc ((b.pairDecl (ch / 2)).filtMs * Config.ms) ≤ held →
    b.pairUsed (ch / 2) = false ∨ b.safe.st = 0 ∨ b.safe.st = 1 ∨ b.safe.st = 4 ∨ ch / 2 < s.safe.pairs.length ∧
      at' (s.safe.sin.set ch high) (2 * (ch / 2)) false = true ∧ at' (s.safe.sin.set ch high) (2 * (ch / 2) + 1) false ≠ (b.pairDecl (ch / 2)).anti →
    Gives (.sinChannelTaken t ch high held) s [.safe] fun u => u.safe.sin = s.safe.sin.set ch high ∧ u.safe.st = s.safe.st ∧ u.safe.cause = s.safe.cause ∧
      u.safe.soffA = s.safe.soffA ∧ u.safe.soffB = s.safe.soffB) ∧
  (∀ (s b : State) (t p a : Nat), b = s.begin t → b.pairUsed p = true → (b.pairS p).disAt = some a →
    a + State.rc ((b.pairDecl p).discMs * Config.ms) ≤ b.now → b.safe.st = 1 ∨ b.safe.st = 2 ∨ b.safe.st = 3 →
    Gives (.discrepancy t p) s [.free, .seam, .edg, .bnc, .evs, .cmp, .safe, .mesh] fun u => u.safe = { State.soffOff s.safe with
      pairs := modAt s.safe.pairs p fun q => { q with disc := true, discOpen := false }
      st := 1, cause := 3, pair := p, evt := if s.safe.st = 1 then s.safe.evt else setBit s.safe.evt 0 } ∧
      (b.inForce = true → b.latched 36 = false → u.cmp.latch = s.cmp.latch.set 36 true)) ∧
  (∀ (s b : State) (t held : Nat), b = s.begin t → State.rc (20 * Config.ms) ≤ held → b.safe.rst = false → b.safe.rstFree = true → b.safe.st = 1 → b.pairsReady = true → b.safe.vddBad = false →
    Gives (.safeRstEdge t held) s [.seam, .comp, .cmp, .safe] fun u => u.safe = { s.safe with
      rst := true, rstFree := false, rstAt := b.now, st := 2 } ∧ u.cmp.latch = s.cmp.latch.mapIdx fun i x => x && i != 36) ∧
  (∀ (s b : State) (t held : Nat), b = s.begin t → State.rc (20 * Config.ms) ≤ held → b.safe.rst = false → b.safe.rstFree = true →
    ¬(b.safe.st = 1 ∧ b.pairsReady = true ∧ b.safe.vddBad = false) →
    Gives (.safeRstEdge t held) s [.safe] fun u => u.safe = { s.safe with
      rst := true, rstFree := false, rstAt := b.now, evt := setBit s.safe.evt 2 }) ∧
  (∀ (s b : State) (t held : Nat), b = s.begin t → State.rc (20 * Config.ms) ≤ held →
    Gives (.safeRstRelease t held) s [.safe] fun u => u.safe = { s.safe with
      rst := false, rstFree := true, rstStuck := false }) ∧
  (∀ (s b : State) (t : Nat), b = s.begin t → b.safe.rst = true → b.safe.rstStuck = false → b.safe.rstAt + State.rc (2 * Config.sec) ≤ b.now →
    Gives (.rstStuck t) s [.evs, .safe] fun u => u.safe = { s.safe with
      rstStuck := true, evt := setBit s.safe.evt 3 } ∧ u.evs = (b.event 0x0783 []).evs) ∧
  (∀ (s b : State) (t : Nat), b = s.begin t →
    Gives (.gatePowerRequest t) s [.safe] fun u => u.safe.gpReq = s.modeQ.gpReq ∧
      (s.safe.st = 2 → s.modeQ.gpReq = true → u.safe = { s.safe with
        gpReq := true, st := 3, soffA := true, soffB := true, testAt := b.now, tickAt := b.now, pulse := none }) ∧
      (s.safe.st = 3 → s.modeQ.gpReq = false → u.safe = { s.safe with
        gpReq := false, st := 2, soffA := false, soffB := false, pulse := none }) ∧
      (s.safe.st ≠ 2 → s.safe.st ≠ 3 → u.safe = { s.safe with
        gpReq := s.modeQ.gpReq })) ∧
  (∀ (s b : State) (t : Nat), b = s.begin t → b.safe.st = 3 → b.safe.testEn = true → b.safe.pulse = none → b.safe.soffA = true → b.safe.soffB = true →
    b.safe.testAt + State.rc (10 * Config.sec) ≤ b.now →
    Gives (.testPulse t) s [.safe] fun u => u.safe = { s.safe with
      testAt := b.now, pulse := some s.safe.testNextB, soffA := s.safe.testNextB, soffB := !s.safe.testNextB }) ∧
  (∀ (s b : State) (t : Nat) (x : Bool), b = s.begin t → b.safe.pulse = some x → b.safe.testAt + State.rc (200 * Config.us) ≤ b.now →
    Gives (.testPulseEnd t) s [.safe] fun u => u.safe = { s.safe with
      soffA := true, soffB := true, pulse := none, testNextB := !x, tested := (s.safe.tested + 1) % 2 ^ 31 }) ∧
  (∀ (s b : State) (t : Nat) (x : Bool), b = s.begin t → b.safe.st ≠ 0 →
    Gives (.soffReadbackFailure t x) s [.free, .seam, .edg, .bnc, .evs, .cmp, .safe, .mesh] fun u => u.safe = { State.soffOff s.safe with
      st := 4, cause := if x then 6 else 5, evt := setBit s.safe.evt 1 } ∧
      (b.inForce = true → b.latched 36 = false → u.cmp.latch = s.cmp.latch.set 36 true)) ∧
  (∀ (s b : State) (t : Nat) (d : SafetyDesc), b = s.begin t → b.safe.st = 3 → b.safe.desc = some d →
    b.safe.tickAt + State.rc (d.liveMs * Config.ms) ≤ b.now →
    Gives (.livenessTimeout t) s [.free, .seam, .edg, .bnc, .evs, .cmp, .safe, .mesh] fun u => u.safe = { State.soffOff s.safe with
      st := 1, cause := 4, evt := setBit s.safe.evt 0 } ∧
      (b.inForce = true → b.latched 36 = false → u.cmp.latch = s.cmp.latch.set 36 true)) ∧
  (∀ (s b : State) (t x a : Nat), b = s.begin t → b.safe.st ≠ 0 → 100 * x < 130 * a ∨ 195 * a < 100 * x →
    Gives (.safeClockCheck t x a) s [.free, .seam, .edg, .bnc, .evs, .cmp, .safe, .mesh] fun u => u.safe = { State.soffOff s.safe with
      st := 4, cause := 7, evt := setBit s.safe.evt 1 } ∧
      (b.inForce = true → b.latched 36 = false → u.cmp.latch = s.cmp.latch.set 36 true)) ∧
  (∀ (s b : State) (t : Nat), b = s.begin t →
    Gives (.vddSafeFault t) s [.free, .seam, .edg, .bnc, .evs, .cmp, .safe, .mesh] fun u => u.safe = { State.soffOff s.safe with
      vddBad := true, st := 0 } ∧ (b.inForce = true → b.latched 36 = false → u.cmp.latch = s.cmp.latch.set 36 true)) ∧
  (∀ (s b : State) (t : Nat), b = s.begin t → b.safe.vddBad = true →
    Gives (.vddSafeRecovery t) s [.free, .seam, .edg, .bnc, .evs, .cmp, .safe, .mesh] fun u => u.safe = { State.soffOff s.safe with
      vddBad := false, st := 0, rst := false, rstFree := false, rstStuck := false, testNextB := false, tested := 0
      pairs := List.replicate 4 {} })

/-- The passphrase and the lock of the safety section (R556 to R559, R567): a matching passphrase unlocks for the session that sent it; the
fifth failure begins a lockout; setting a passphrase; locking; and the ends of an unlock and of a lockout.
Where the spec leaves a choice, the model's: log entries 90, 91, 92. -/
def Obligations.PassphraseAndLock : Prop :=
  (∀ (s b : State) (t : Nat) (pass : Bytes) (h : RecHdr), Accepts cmdSafeUnlock h (le 1 pass.length ++ le 3 0 ++ pass) (s.begin t) → b = s.begin t →
    Gives (.safeUnlock t h pass.length pass) s ([.host, .jnl, .evs, .safe] ++ s.heldParts) fun u => u.safe = { s.safe with
      unlocked := true, unlockSess := h.sess, unlockEnd := b.now + s.safe.unlockMin * 60 * Config.sec } ∧ u.evs.fails = 0 ∧
      u.evs.logHead = (s.evs.logHead + 1) % 2 ^ 32) ∧
  (∀ (s b : State) (t : Nat) (h : RecHdr), Accepts cmdSafeLock h [] (s.begin t) → b = s.begin t → b.safe.unlocked = true →
    Gives (.safeLock t h) s ([.host, .jnl, .evs, .safe] ++ s.heldParts) fun u => u.safe = { s.safe with
      unlocked := false, unlockSess := 0 } ∧ u.evs.logHead = (s.evs.logHead + 1) % 2 ^ 32) ∧
  (∀ (s b : State) (t : Nat) (salt pass : Bytes) (h : RecHdr),
    Accepts cmdSafePassSet h (salt ++ le 1 pass.length ++ le 3 0 ++ pass) (s.begin t) → b = s.begin t → salt.length = 16 →
    Gives (.safePassSet t h salt pass.length pass) s ([.host, .jnl, .evs] ++ s.heldParts) fun u => u.evs.salt = salt ∧
      u.evs.hash = some (sha256 (salt ++ pass)) ∧ u.evs.logHead = (s.evs.logHead + 1) % 2 ^ 32) ∧
  (∀ (s b : State) (t : Nat), b = s.begin t → b.safe.unlocked = true → b.safe.unlockEnd ≤ b.now →
    Gives (.unlockTimeout t) s [.evs, .safe] fun u => u.safe = { s.safe with
      unlocked := false, unlockSess := 0 } ∧ u.evs = (b.logAdd 6 7 b.safe.unlockSess 0 0 0 []).evs) ∧
  (∀ (s b : State) (t a : Nat), b = s.begin t → b.evs.lockout = some a → a ≤ b.now →
    Gives (.lockoutEnd t) s [.evs] fun u => u.evs = { s.evs with
      lockout := none, fails := 0 })

/-- The mesh between nodes (R304, R581 to R594, R601, R603, R626): frames passed on, and counted where their CRC fails; discovery, DATA in order and
its acknowledgement, resends, a node LOST when it does not answer or is silent, isolation, the offset to the time master, links down and up,
trip floods, words and commits from other nodes.
Where the spec leaves a choice, the model's: log entries 36, 155, 157, 158, 159, 162, 191, 193, 194, 212. -/
def Obligations.MeshConversations : Prop :=
  (∀ (s b : State) (t q st crc : Nat) (x : PortRx) (h : MHdr) (p : Bytes), b = s.begin t → b.portTakes x.port = true → meshFrames x = [(h, p, crc)] →
    h.typ = 2 →
    (b.isForMe h = true → crc ≠ meshCrc h p → Gives (.meshAck t x q st) s [.mesh] fun u => u.mesh.convs = b.mesh.convs ∧
      (x.port < b.mesh.ports.length → (at' u.mesh.ports x.port {}).crc = sat32 (at' b.mesh.ports x.port {}).crc 1)) ∧
    (b.isForMe h = false → crc = meshCrc h p → h.path = true → Gives (.meshAck t x q st) s [.mesh] fun u => ∀ h', h' = { h with
        word := h.word / 4 % 2 ^ 30 + x.port % 4 * 2 ^ 30, hops := h.hops - 1 } →
      u.mesh = { b.mesh with ports := modAt b.mesh.ports (h.word % 4) fun y => { y with
        queue := y.queue ++ [{ hdr := h', body := .relay p (meshCrc h' p) }] } }) ∧
    (b.isForMe h = false → crc = meshCrc h p → h.path = false → b.ownDesc.isSome = true → Gives (.meshAck t x q st) s [.mesh] fun u =>
      u.mesh = { b.mesh with ports := modAt b.mesh.ports (b.routePort h.dst) fun y => { y with
        queue := y.queue ++ [{ hdr := h, body := .relay p crc }] } })) ∧
  (∀ (s b : State) (t : Nat), b = s.begin t → b.mesh.discAt + 100 * Config.us ≤ b.now →
    Gives (.discSend t) s [.mesh] fun u => u.mesh = { s.mesh with
      discAt := b.now, ports := u.mesh.ports } ∧
      ∀ p < s.mesh.ports.length, p < 4 → b.portSends p = true → (at' b.mesh.ports p {}).used = true ∨ b.img.hostWait = true →
        (at' u.mesh.ports p {}).queue = (at' s.mesh.ports p {}).queue ++
          [{ hdr := { typ := 7, dst := 0xFF, src := b.nodeId, epoch := b.seam.epoch }, body := .disc b.discData }]) ∧
  (∀ (s b : State) (t : Nat) (d : DiscData) (x : PortRx) (h : MHdr) (p : Bytes), b = (s.begin t).brought x h p → FrameFor x h p (s.begin t) → h.typ = 7 →
    x.port < b.mesh.ports.length → d.node < 64 → d.node < b.mesh.convs.length → b.inForce = false ∨ d.node ≠ b.node →
    Gives (.discReceive t x d) s [.mesh] fun u => (u.conv d.node).st = 1 ∧ (u.conv d.node).disc = some d ∧ (u.conv d.node).heardAt = b.now ∧
      (at' u.mesh.ports x.port {}).nbr = d.node % 64 ∧ ((b.conv d.node).st ≠ 1 → (u.conv d.node).seq = 0 ∧ (u.conv d.node).exp = 0)) ∧
  (∀ (s b : State) (t n q st : Nat) (x : PortRx) (h : MHdr) (p : Bytes), b = (s.begin t).brought x h p → FrameFor x h p (s.begin t) → h.typ = 2 →
    n = (s.begin t).senderOf x.port h →
    (InEpoch n h.epoch b →
      (∀ f, st < 2 → (b.conv n).out.find? (·.seq == q) = some f → (b.conv n).queue = [] →
        Gives (.meshAck t x q st) s [.mesh] fun u => (u.conv n).out = (b.conv n).out.filter (·.seq != q) ∧ (u.conv n).heardAt = b.now ∧
          (u.conv n).epoch = some h.epoch) ∧
      (∀ f i l, st < 2 → (b.conv n).out.find? (·.seq == q) = some f → (b.conv n).queue = i :: l →
        Gives (.meshAck t x q st) s [.free, .mesh] fun u => (u.conv n).queue = l ∧ Waits n 1 (b.conv n).seq (.item i) b u) ∧
      (2 ≤ st ∨ (b.conv n).out.find? (·.seq == q) = none →
        Gives (.meshAck t x q st) s [.mesh] fun u => (u.conv n).out = (b.conv n).out ∧ (u.conv n).heardAt = b.now ∧ (u.conv n).epoch = some h.epoch)) ∧
    (∀ e, (b.conv n).epoch = some e → h.epoch ≠ e → later 16 h.epoch e = false →
      Gives (.meshAck t x q st) s [.mesh] fun u => u.mesh = b.mesh) ∧
    (∀ e, (b.conv n).epoch = some e → h.epoch ≠ e → later 16 h.epoch e = true → b.convUp n = true → n ≠ b.nodeId → n < 64 → n < b.mesh.convs.length →
      Gives (.meshAck t x q st) s [.free, .host, .jnl, .evs, .mesh, .pair] fun u => (u.conv n).st = 1 ∧ (u.conv n).epoch = some h.epoch ∧
        (u.conv n).seq = 0 ∧ (u.conv n).exp = 0 ∧ (u.conv n).out = [])) ∧
  (∀ (s b : State) (t n : Nat) (i : Item) (x : PortRx) (h : MHdr) (p : Bytes), b = (s.begin t).brought x h p → FrameFor x h p (s.begin t) → h.typ = 1 →
    n = (s.begin t).senderOf x.port h → InEpoch n h.epoch b →
    (b.role ≠ 2 → h.seq = (b.conv n).exp → ∃ u z, exec (.data t x i) s = .next u ∧ Only [.free, .mesh] b z ∧ (z.conv n).exp = (h.seq + 1) % 2 ^ 32 ∧
      (z.conv n).heardAt = b.now ∧ Waits n 2 0 (.ack h.seq 0) b z ∧ Only [] (z.itemTake n i) u) ∧
    (b.role ≠ 2 → h.seq ≠ (b.conv n).exp → Gives (.data t x i) s [.free, .mesh] fun u => (u.conv n).exp = (b.conv n).exp ∧
      Waits n 2 0 (.ack h.seq (if later 32 (b.conv n).exp h.seq then 1 else 2)) b u) ∧
    (b.role = 2 → Gives (.data t x i) s [.mesh] fun u => u.mesh.ports = b.mesh.ports ∧
      (u.conv n).exp = if h.seq = (b.conv n).exp then (h.seq + 1) % 2 ^ 32 else (b.conv n).exp)) ∧
  (∀ (s b : State) (t n : Nat), b = s.begin t → b.convUp n = true → b.overdue n ≠ [] → n < s.mesh.convs.length →
    ((∀ f ∈ b.overdue n, f.sends < 3) → Gives (.dataRetransmit t n) s [.free, .mesh] fun u =>
      (u.conv n).retry = sat32 (b.conv n).retry (b.overdue n).length ∧ ∀ f ∈ b.overdue n, Waits n 1 f.seq (.item f.item) b u) ∧
    (∀ f ∈ b.overdue n, 3 ≤ f.sends → Gives (.dataRetransmit t n) s [.free, .mesh, .host, .jnl, .evs, .pair] fun u =>
      (u.conv n).st = 2 ∧ (u.conv n).lostAt = b.now)) ∧
  (∀ (s b : State) (t n : Nat), b = s.begin t → (b.conv n).heardAt + Config.ms ≤ b.now → n < s.mesh.convs.length →
    (b.convUp n = true → Gives (.nodeSilent t n) s [.free, .mesh, .host, .jnl, .evs, .pair] fun u => (u.conv n).st = 2 ∧ (u.conv n).lostAt = b.now) ∧
    (b.convUp n = false → Gives (.nodeSilent t n) s [.mesh] fun u => (u.conv n).disc = none)) ∧
  (∀ (s b : State) (t n : Nat), b = s.begin t → b.convUp n = true → (b.conv n).out = [] → (b.conv n).queue = [] →
    (b.conv n).sentAt + 100 * Config.us ≤ b.now →
    Gives (.emptyDataSend t n) s [.free, .mesh] fun u => Waits n 1 (b.conv n).seq (.item .empty) b u) ∧
  (∀ (s b : State) (t : Nat), b = s.begin t → b.inForce = true → b.node ≠ 0 → b.mesh.isolated = false → (b.conv 0).st = 2 →
    (b.conv 0).lostAt + s.cfg.mesh.isoMs * Config.ms ≤ b.now →
    Gives (.isolated t) s [.mesh, .modeQ, .evs] fun u => u.mesh.isolated = true ∧ u.modeQ.lossSched = s.modeQ.lossSched ++ [b.perPlus 1] ∧
      Out.msix 39 ∈ u.out) ∧
  (∀ (s b : State) (t k cnt t1 t2 t3 cnt4 t4 : Nat) (l : List Int) (x : PortRx) (h : MHdr) (p : Bytes), b = (s.begin t).brought x h p →
    FrameFor x h p (s.begin t) → h.typ = 5 → (s.begin t).inForce = true → k = x.port → k < b.mesh.ports.length →
    (b.ln (32 + 2 * k)).m3 = cnt → t2 = (b.ln (32 + 2 * k)).mrkTime →
    (b.mrk (8 + k / 2)).sent[((b.mrk (8 + k / 2)).cnt + 255 - cnt4) % 256]? = some t3 →
    l = (State.offset2 t1 t2 t3 t4 (at' b.cfg.mesh.asymP k 0) :: (at' b.mesh.ports k {}).offsets).take 16 →
    (l.length < 16 → Gives (.timeFrame t x cnt t1 cnt4 t4) s [.mesh, .free] fun u => (at' u.mesh.ports k {}).offsets = l) ∧
    (l.length = 16 → ¬(b.cfg.topo.pair = true ∧ k = 0) → b.cfg.mesh.shape ≠ 0 → b.node ≠ b.cfg.mesh.master → k = b.masterPort →
      Gives (.timeFrame t x cnt t1 cnt4 t4) s [.ofs, .clk, .mesh, .free] fun u =>
        u.mesh.okRun = (if l.sum.natAbs ≤ 384 then b.mesh.okRun + 1 else 0) ∧
        u.mesh.badRun = (if l.sum.natAbs ≤ 384 then 0 else b.mesh.badRun + 1) ∧
        u.mesh.timeOk = (if b.mesh.timeOk then decide (u.mesh.badRun < 2) else decide (8 ≤ u.mesh.okRun)) ∧
        (l.sum % 32 = 0 → u.mesh.timeErr = l.sum / 32))) ∧
  (∀ (s b : State) (t p k : Nat), b = s.begin t → p < 4 → p < s.mesh.ports.length → b.portUp p ≠ (at' s.mesh.ports p {}).up → b.linkOf p = some k →
    p ≠ 0 ∨ b.role ≠ 1 →
    Gives (.portDownUp t p) s [.mesh, .evs] fun u => (at' u.mesh.ports p {}).up = b.portUp p ∧ (k ∈ u.mesh.down ↔ b.portUp p = false) ∧
      ∀ o ∈ u.bcastPorts b.nodeId, o < s.mesh.ports.length → { hdr := { typ := 8, dst := 0xFF, src := b.nodeId, epoch := b.seam.epoch }
                                                               body := .link k (b.portUp p) : MFrame } ∈ (at' u.mesh.ports o {}).queue) ∧
  (∀ (s b : State) (t k : Nat) (up : Bool) (x : PortRx) (h : MHdr) (p : Bytes), b = s.begin t → PortBrings x h p b → h.typ = 8 → b.ownDesc.isSome = true →
    Gives (.linkFrame t x k up) s [.mesh] fun u => (k ∈ u.mesh.down ↔ up = false) ∧
      ∀ o ∈ u.bcastPorts h.src, o ≠ x.port → o < s.mesh.ports.length → ∀ h', h' = (if b.cfg.topo.pair && o == 0 then { h with mirror := true } else h) →
        { hdr := h', body := .relay p (meshCrc h' p) : MFrame } ∈ (at' u.mesh.ports o {}).queue) ∧
  (∀ (s b : State) (t o c : Nat) (x : PortRx), b = s.begin t → b.portTakes x.port = true → portFloods x = [(o, c)] → b.ownDesc.isSome = true →
    (s.mesh.floods.filter fun f => decide (b.now < f.2.2 + 10 * Config.us)).any (fun f => f.1 == o && f.2.1 == c) = false →
    (b.inForce = false ∨ o = b.node → Gives (.meshTripFlood t x) s [.mesh] fun u =>
      ∀ p < 4, p ≠ x.port → b.portSends p = true → Out.port p [(true, floodBytes o c)] ∈ u.out) ∧
    (b.inForce = true → o ≠ b.node → b.latched 33 = false → Gives (.meshTripFlood t x) s [.free, .seam, .edg, .bnc, .evs, .cmp, .mesh] fun u =>
      u.cmp.latch = s.cmp.latch.set 33 true)) ∧
  (∀ (s b : State) (t : Nat), b = s.begin t → s.cfg.mesh.shape ≠ 0 → b.flooding = true → b.floodDue = true →
    Gives (.floodRepeat t) s [.mesh] fun u => u.mesh = { s.mesh with
      floodCnt := (s.mesh.floodCnt + 1) % 256, floodAt := b.now } ∧
      ∀ p < 4, b.portSends p = true → Out.port p [(true, floodBytes s.node s.mesh.floodCnt)] ∈ u.out) ∧
  (∀ (s b : State) (t n : Nat) (x : PortRx) (h : MHdr) (p : Bytes), b = (s.begin t).brought x h p → FrameFor x h p (s.begin t) → h.typ = 3 →
    (s.begin t).inForce = true → n = (s.begin t).senderOf x.port h → InEpoch n h.epoch b →
    (field p 0 4 = b.per → field p 4 1 = 0 → Gives (.wordFrameReceive t x) s [.mesh, .bnc] fun u =>
      ∀ y ∈ wordEntries p, (n, y.1 / 512, y.1 % 512, y.2) ∈ u.bnc.meshIn) ∧
    (∀ d, field p 0 4 = b.per → field p 4 1 = 1 → b.group (field p 5 1) = some d → d.owner = Owner.mesh n →
      Gives (.wordFrameReceive t x) s [.mesh, .edg] fun u => u.edg.flights = b.edg.flights ++
        [{ g := field p 5 1, vals := (wordEntries p).foldl (fun v y => v.set y.1 y.2) (State.committedNow (b.grp (field p 5 1))), src := 2, node := n
           at_ := b.now }]) ∧
    (∀ d, field p 0 4 = b.per → field p 4 1 = 1 → b.group (field p 5 1) = some d → d.owner ≠ Owner.mesh n →
      Gives (.wordFrameReceive t x) s [.mesh, .edg] fun u => u.edg.owner = true ∧ u.edg.flights = b.edg.flights) ∧
    (field p 0 4 ≠ b.per ∨ 2 ≤ field p 4 1 → Gives (.wordFrameReceive t x) s [.mesh] fun u => (u.conv n).heardAt = b.now ∧ (u.conv n).epoch = some h.epoch))

/-- GLOBAL symbols (R127, R420, R421, R582, R594, R597 to R602): the first copy within 100 us leaves by every other port of its way
and is acted on: barriers are counted and
released, snapshots, resets, mode changes, loss policies and time loads are scheduled, SAFE notices kept, confirmations
collected; and what was scheduled is carried out at its tick.
Where the spec leaves a choice, the model's: log entries 56, 81, 160, 161, 190, 211. -/
def Obligations.MeshSymbols : Prop :=
  (∀ (s b : State) (t : Nat) (x : PortRx) (y : Sym), b = s.begin t → FirstCopy 2 x y b → b.isHead = false →
    Gives (.barArrive t x) s [.free, .host, .jnl, .mesh] fun u => PassedOn 2 x y b u ∧
      ∃ l a, u.mesh.bar = some (y.arg % 65536, l, a) ∧ y.origin ∈ l) ∧
  (∀ (s b : State) (t a : Nat) (l : List Nat) (x : PortRx) (y : Sym), b = s.begin t → FirstCopy 2 x y b → b.isHead = true → b.mesh.bar = some (y.arg % 65536, l, a) →
    (∀ n < s.cfg.mesh.nodes, n ∈ l ∨ n = y.origin) →
    Gives (.barArrive t x) s [.free, .host, .jnl, .mesh] fun u => u.mesh.bar = none) ∧
  (∀ (s b : State) (t : Nat) (x : PortRx) (y : Sym), b = s.begin t → FirstCopy 3 x y b →
    Gives (.barRelease t x) s [.mesh] fun u => PassedOn 3 x y b u ∧ (∀ n l a, u.mesh.bar = some (n, l, a) ↔
      b.mesh.bar = some (n, l, a) ∧ n ≠ y.arg % 65536)) ∧
  (∀ (s b : State) (t n a : Nat) (l : List Nat), b = s.begin t → b.mesh.bar = some (n, l, a) → b.node ∈ l → b.mesh.barSentAt + Config.us ≤ b.now →
    Gives (.barArriveResend t) s [.mesh] fun u => u.mesh.barSentAt = b.now ∧ u.mesh.bar = s.mesh.bar ∧
      (s.cfg.mesh.shape ≠ 0 → ∀ p ∈ b.symbolPorts 2 s.node, Sends 2 p { origin := s.node, tag := s.mesh.tag, arg := n } u)) ∧
  (∀ (s b : State) (t n a : Nat) (l : List Nat), b = s.begin t → b.mesh.bar = some (n, l, a) → b.isHead = true → a + 100 * Config.us ≤ b.now →
    Gives (.barrierTimeout t) s [.free, .host, .jnl, .mesh] fun u => u.mesh.bar = none) ∧
  (∀ (s b : State) (t a : Nat) (x : PortRx) (y : Sym), b = s.begin t → FirstCopy 4 x y b → a = b.near48 y.arg →
    (b.sysTime < a → Gives (.snap t x) s [.mesh] fun u => PassedOn 4 x y b u ∧ u.mesh.snap = some (a, y.tag) ∧ u.mesh.snapT = a) ∧
    (a ≤ b.sysTime → Gives (.snap t x) s [.mesh] fun u => PassedOn 4 x y b u ∧ u.mesh.snap = s.mesh.snap)) ∧
  (∀ (s b : State) (t a k : Nat) (x : PortRx) (y : Sym), b = s.begin t → FirstCopy 5 x y b → a = b.near48 y.arg → k = bits y.arg 51 48 →
    (b.sysTime < a → k < 3 → Gives (.resetSymbol t x) s [.mesh] fun u => PassedOn 5 x y b u ∧
      ∃ c, u.mesh.reset = some (a, k, c, y.tag) ∧ (s.mesh.resetBlk = some (y.origin, y.tag, c) ∨ c = 0)) ∧
    (a ≤ b.sysTime ∨ 3 ≤ k → Gives (.resetSymbol t x) s [.mesh] fun u => PassedOn 5 x y b u ∧ u.mesh.reset = s.mesh.reset)) ∧
  (∀ (s b : State) (t : Nat) (x : PortRx) (y : Sym), b = s.begin t → FirstCopy 6 x y b →
    Gives (.resetBlockSymbol t x) s [.mesh] fun u => PassedOn 6 x y b u ∧
      (s.mesh.reset = none → u.mesh.resetBlk = some (y.origin, y.tag, y.arg % 256)) ∧
      (∀ a k c, s.mesh.reset = some (a, k, c, y.tag) → u.mesh.reset = some (a, k, y.arg % 256, y.tag))) ∧
  (∀ (s b : State) (t : Nat) (x : PortRx) (y : Sym), b = s.begin t → FirstCopy 7 x y b →
    Gives (.modeSymbol t x) s [.mesh, .modeQ] fun u => PassedOn 7 x y b u ∧
      u.modeQ.sched = if later 32 (y.arg % 2 ^ 32) b.per then some { period := y.arg % 2 ^ 32, mode := bits y.arg 35 32 } else s.modeQ.sched) ∧
  (∀ (s b : State) (t : Nat) (x : PortRx) (y : Sym), b = s.begin t → FirstCopy 8 x y b →
    Gives (.lossSymbol t x) s [.mesh, .modeQ] fun u => PassedOn 8 x y b u ∧
      u.modeQ.lossSched = if later 32 (y.arg % 2 ^ 32) b.per then s.modeQ.lossSched ++ [y.arg % 2 ^ 32] else s.modeQ.lossSched) ∧
  (∀ (s b : State) (t : Nat) (x : PortRx) (y : Sym), b = s.begin t → FirstCopy 9 x y b →
    Gives (.safeSymbol t x) s [.mesh, .modeQ] fun u => PassedOn 9 x y b u ∧ u.modeQ.peer = s.modeQ.peer ++ [(y.arg % 2 ^ 32, y.origin)]) ∧
  (∀ (s b : State) (t a : Nat) (x : PortRx) (y : Sym), b = s.begin t → FirstCopy 10 x y b → a = b.near48 y.arg →
    Gives (.tloadAt t x) s [.mesh, .clk] fun u => PassedOn 10 x y b u ∧
      u.clk.loadAt = if b.sysTime < a then some (y.origin, y.tag, a) else s.clk.loadAt) ∧
  (∀ (s b : State) (t a : Nat) (x : PortRx) (y : Sym), b = s.begin t → FirstCopy 11 x y b → s.clk.loadAt = some (y.origin, y.tag, a) →
    Gives (.tloadVal t x) s [.mesh, .clk] fun u => PassedOn 11 x y b u ∧ u.clk.loadAt = none ∧
      u.clk.load = some { time := y.arg % 2 ^ 53 * 2048 % 2 ^ 64, at_ := a, sure := true, remote := true }) ∧
  (∀ (s b : State) (t : Nat) (x : PortRx) (y : Sym), b = s.begin t → FirstCopy 12 x y b →
    Gives (.confirm t x) s [.mesh] fun u => PassedOn 12 x y b u ∧
      ∀ g ∈ s.mesh.gops, g.tag = y.arg % 256 → g.op = bits y.arg 15 8 → ∃ g' ∈ u.mesh.gops, g'.op = g.op ∧ g'.tag = g.tag ∧ y.origin ∈ g'.got) ∧
  (∀ (s b : State) (t : Nat) (g : Gop), b = s.begin t → b.mesh.gops.filter (fun g => decide (g.endAt ≤ b.now)) = [g] →
    Gives (.confirmWindowExpiry t) s [.free, .host, .jnl, .evs, .mesh] fun u => g ∉ u.mesh.gops ∧
      (∀ n < 64, u.mesh.miss.testBit n = (decide (n < s.cfg.mesh.nodes) && n != s.node && !g.got.contains n))) ∧
  (∀ (s b : State) (t off : Nat) (x : PortRx) (y : Sym) (r : Reg) (f : Nat → State → State), b = s.begin t → FirstCopy 1 x y b → off = bits y.arg 55 34 →
    (∀ m o, Serves .mesh off r { b with mesh := m, out := o }) → b.standby = false → r.wr = .rw f →
    ∃ u m o j, exec (.bcastReg t x) s = .next u ∧ Only [.mesh] (f (y.arg % 2 ^ 32) { b with mesh := m, out := o, jnl := j }) u) ∧
  (∀ (s b : State) (t time tag : Nat), b = s.begin t → b.mesh.snap = some (time, tag) → time ≤ b.sysTime →
    Gives (.snapshotExecute t) s [.mesh] fun u => u.mesh.snap = none ∧ u.mesh.snapT = time ∧
      u.mesh.snapPage = b.snapBody time tag ++ le 4 (crc32c (b.snapBody time tag)).toNat) ∧
  (∀ (s b : State) (t time kind c tag i : Nat), b = s.begin t → b.mesh.reset = some (time, kind, c, tag) → time ≤ b.sysTime → b.snapDue = false →
    ∃ u z, exec (.scheduledResetExecute t) s = .next u ∧ Only [.mesh] b z ∧ z.mesh.reset = none ∧
      (kind = 0 → Only [] (z.warmStart .mesh) u) ∧
      (kind = 1 → State.resetBlocks.findIdx? (· == c) = some i → b.softRefusal (BitVec.ofNat 32 (2 ^ i)) = none → Only [] (z.softStart .mesh (2 ^ i)) u) ∧
      (kind = 2 → Only [] z.rcClear u))

/-- Records taken in turn (R118, R749), the results of forwarded ones (R134, R135, R420), and the commands of the mesh (R589, R597 to R600, R606,
R607): a node is bound by its path, a barrier opens, a snapshot and a reset are scheduled, a register is written on every node.
Where the spec leaves a choice, the model's: log entries 21, 52, 53, 54, 55, 56, 217. -/
def Obligations.MeshCommands : Prop :=
  (∀ (s b : State) (t i : Nat) (bytes : Bytes), b = s.begin t → b.hostTakes = true → b.nextSource = some i → i < 32 → i < s.host.ctxs.length →
    24 ≤ field bytes 0 2 → field bytes 0 2 ≤ 256 → fieldW bytes (field bytes 0 2 - 4) = crc32c (slice bytes 0 (field bytes 0 2 - 4)) →
    field bytes 16 2 ≤ 232 → field bytes 0 2 = 24 + (field bytes 16 2 + 3) / 4 * 4 →
    ∃ u z, exec (.recordFetch t bytes) s = .next u ∧ Only [.host] b z ∧ z.host.turn = (i + 1) % 34 ∧
      (z.ctx i).sqHead = ((b.ctx i).sqHead + 1) % (b.ctx i).sqSize ∧
      Only [] (z.process (look (field bytes 8 2))
        { src := .ring
          ring := i
          sess := field bytes 2 2
          seq := field bytes 4 4
          node := field bytes 10 1
          flags := field bytes 11 1
          target := field bytes 12 4 }
        (field bytes 8 2) (slice bytes 20 (field bytes 16 2)) (crc32c (slice bytes 0 (field bytes 0 2 - 4)))) u) ∧
  (∀ (s b : State) (t n sess seq : Nat) (r : RemoteOut) (o : OpenCmd), b = s.begin t →
    b.host.opens.find? (fun o => (o.kind == 1 || o.kind == 2) && o.left.contains n && o.h.sess == sess && o.h.seq == seq) = some o →
    (o.kind = 1 → r.status ≠ 3 →
      Gives (.remoteResult t n sess seq r) s [.free, .host, .jnl, .modeQ, .mesh, .pair] fun u => o ∉ u.host.opens) ∧
    (o.kind = 1 → r.status = 3 → o.h.src = .ring ∨ o.h.src = .mbx0 ∨ o.h.src = .mbx1 →
      Gives (.remoteResult t n sess seq r) s [.free, .host, .jnl, .modeQ, .mesh, .pair] fun u =>
        Told o.h { sess := o.h.sess
                   status := 3
                   code := r.code
                   seq := o.h.seq
                   opcode := o.opcode
                   detail := if r.code = 0x10 ∨ r.code = 0x11 then r.detail else 0
                   exp := (b.ctx (State.ctxOf o.h.sess)).e } b u) ∧
    (o.kind = 2 → r.status ≠ 3 → b.mode.mode ≠ 0 ∨ r.detail % 2 = bit (b.overlay 4) → o.left.filter (· != n) = [] →
      Gives (.remoteResult t n sess seq r) s [.free, .host, .jnl, .modeQ, .mesh, .pair] fun u =>
        u.modeQ.sched = some { period := b.boundaryAfter, mode := field o.pay 0 1 })) ∧
  (∀ (s b : State) (t n hops path : Nat) (h : RecHdr), Accepts cmdMeshBind h (le 1 n ++ le 1 hops ++ le 2 0 ++ le 4 path) (s.begin t) → b = s.begin t →
    n < 64 → hops < 256 → path < 2 ^ 32 → n < s.mesh.convs.length →
    Gives (.meshBind t h n hops path) s ([.host, .jnl, .mesh] ++ s.heldParts) fun u => (u.conv n).st = 1 ∧ (u.conv n).bound = true ∧ (u.conv n).path = path ∧
      (u.conv n).hops = hops) ∧
  (∀ (s b : State) (t : Nat) (h : RecHdr), Accepts cmdMeshBarrier h [] (s.begin t) → b = s.begin t →
    Gives (.meshBarrier t h) s ([.host, .jnl, .mesh] ++ s.heldParts) fun u => u.mesh.barNo = (s.mesh.barNo + 1) % 65536 ∧ u.mesh.barSentAt = b.now ∧
      u.mesh.bar = some ((s.mesh.barNo + 1) % 65536, [0], b.now)) ∧
  (∀ (s b : State) (t time : Nat) (h : RecHdr), Accepts cmdMeshSnapshot h (le 8 time) (s.begin t) → b = s.begin t → time < 2 ^ 64 →
    Gives (.meshSnapshot t h time) s ([.host, .jnl, .mesh] ++ s.heldParts) fun u => u.mesh.snap = some (time, s.mesh.tag) ∧ u.mesh.snapT = time) ∧
  (∀ (s b : State) (t time kind block : Nat) (h : RecHdr), Accepts cmdMeshReset h (le 8 time ++ le 1 kind ++ le 1 block ++ le 2 0) (s.begin t) →
    b = s.begin t → time < 2 ^ 64 → kind < 3 → block < 256 →
    Gives (.meshReset t h time kind block) s ([.free, .host, .jnl, .mesh] ++ s.heldParts) fun u =>
      u.mesh.reset = if kind = 0 ∧ b.others ≠ [] then s.mesh.reset else some (time, kind, block, s.mesh.tag)) ∧
  (∀ (s b : State) (t off : Nat) (h : RecHdr) (v : Word) (r : Reg) (f : Nat → State → State),
    Accepts cmdMeshBcastReg h (le 4 off ++ le 4 v.toNat) (s.begin t) → b = s.begin t → off < 2 ^ 32 →
    (∀ x j, Serves .mesh off r { b with host := x, jnl := j }) → b.standby = false → r.wr = .rw f →
    ∃ u x j, exec (.meshBcastReg t h off v) s = .next u ∧ Only [.free, .host, .jnl, .mesh] (f v.toNat { b with host := x, jnl := j }) u)

/-- What the ACTIVE mirrors to its STANDBY and hears from it (R142, R618, R620 to R622, R624, R625, R637): input sets, the heartbeat with its
references, journal entries, commands, pages of state, the end of synchronisation, an acknowledgement that does not come, health heard or missed.
Where the spec leaves a choice, the model's: log entries 33, 37, 57, 130, 164, 165, 191, 216. -/
def Obligations.PairMirror : Prop :=
  (∀ (s b : State) (t : Nat) (x : PortRx) (h : MHdr) (p : Bytes) (i : InputSet), FromPartner x h p (s.begin t) → b = (s.begin t).brought x h p →
    b.mirrored = true →
    (i.period ≠ b.per ∨ s.pair.st = 2 → GivesOn (.input t x i) s b [.pair] fun u => u.pair = { s.pair with
      input := some i }) ∧
    (i.period = b.per → s.pair.st = 3 → GivesOn (.input t x i) s b [.evs, .pair] fun u => u.pair.input = some i ∧ u.pair.st = 3 ∧
      ((∀ x ∈ b.tolWords, F32.le (F32.abs (F32.sub (b.lm x.1 (0x7000 + 4 * x.2.1)) (at' (at' i.words x.1 []) x.2.1 0))) x.2.2 = true) →
        u.pair.adcBad = [] ∧ u.pair.adcRun = s.pair.adcRun + 1))) ∧
  (∀ (s b : State) (t : Nat) (x : PortRx) (h : MHdr) (p : Bytes) (r : RefsFrame), FromPartner x h p (s.begin t) → b = (s.begin t).brought x h p →
    b.inForce = true → s.cfg.topo.pair = true →
    (s.pair.st = 1 ∨ s.pair.st = 5 ∨ s.pair.st = 6 → GivesOn (.refs t x r) s b [.host, .jnl, .evs, .pair] fun u => u.pair.st = 2 ∧ u.pair.syncAt = b.now ∧
      u.pair.refs = some r ∧ u.pair.refsAt = some b.now ∧ u.pair.health.testBit 62 = false ∧ u.pair.flight = []) ∧
    (s.pair.st = 4 → later 16 r.epoch s.seam.epoch = true → GivesOn (.refs t x r) s b [.sys, .host, .jnl, .edg, .cmp, .evs, .pair] fun u =>
      u.pair.st = 6 ∧ u.pair.heartbeat = false) ∧
    (s.pair.st = 3 → GivesOn (.refs t x r) s b [.free, .clk, .lane, .seam, .edg, .comp, .bnc, .bal, .evs, .mode, .modeQ, .adc, .pair] fun u =>
      u.pair.refs = some r ∧ u.pair.refsAt = some b.now ∧ u.comp.ranks = r.ranks ∧ u.mode.mode = r.mode ∧ u.mode.target = r.target ∧
      u.mode.sub = r.sub ∧ u.seam.epoch = (if later 16 r.epoch s.seam.epoch = true then r.epoch % 65536 else s.seam.epoch) ∧
      (r.mirrorOff = true ∨ later 32 r.mirrorNo s.pair.got = true → u.pair.health.testBit 62 = false))) ∧
  (∀ (s b : State) (t : Nat) (x : PortRx) (h : MHdr) (p : Bytes) (e : JEntry), FromPartner x h p (s.begin t) → b = (s.begin t).brought x h p →
    b.mirrored = true → GivesOn (.jnl t x e) s b [.img, .host, .jnl, .modeQ, .pair] fun u => u.jnl = { s.jnl with
      ring := (e :: s.jnl.ring).take 8192
      head := e.index + 1
      next := e.index + 1
      prev := e.chain
      wrapped := s.jnl.wrapped || (decide (8192 ≤ s.jnl.ring.length) && !s.jnl.lapped)
      lapped := s.jnl.lapped || decide (8192 ≤ s.jnl.ring.length) } ∧ u.pair = { s.pair with
      gotJnl := e.index + 1
      cmds := s.pair.cmds.filter fun c => !State.recordsCmd e c } ∧
      (e.result ≠ 2 → u.img = s.img ∧ u.modeQ = s.modeQ) ∧
      (s.pair.cmds.find? (State.recordsCmd e) = none → ¬(e.src < 3 ∧ e.flags.testBit 2 = true) → u.host = s.host) ∧
      (∀ c, s.pair.cmds.find? (State.recordsCmd e) = some c → c.opcode ≠ 1 → c.opcode ≠ 4 → (s.ctx (State.ctxOf c.h.sess)).st ≠ 0 →
        (s.ctx (State.ctxOf c.h.sess)).sess = c.h.sess → (u.ctx (State.ctxOf c.h.sess)).e = (c.h.seq + 1) % 2 ^ 32) ∧
      (e.result = 2 → e.opcode = 0x0109 → s.img.swapSt = 3 → u.img.swapPer = e.effPeriod)) ∧
  (∀ (s b : State) (t page : Nat) (x : PortRx) (h : MHdr) (p bytes : Bytes), FromPartner x h p (s.begin t) → b = (s.begin t).brought x h p →
    b.mirrored = true → s.pair.st = 2 →
    GivesOn (.sync t x page bytes) s b [.host, .jnl, .edg, .bnc, .bal, .mesh] fun u => u.jnl = (syncPage page bytes b.syncOf).jnl ∧
      u.host.ctrl = (syncPage page bytes b.syncOf).ctrl ∧ u.host.ctxs = s.host.ctxs.mapIdx (fun c _ => at' (syncPage page bytes b.syncOf).ctxs c {}) ∧
      u.bal.arms = s.bal.arms.mapIdx (fun a _ => at' (syncPage page bytes b.syncOf).arms a {}) ∧
      u.edg.chans = s.edg.chans.mapIdx (fun c _ => at' (syncPage page bytes b.syncOf).chans c [])) ∧
  (∀ (s b : State) (t page : Nat) (x : PortRx) (h : MHdr) (p bytes : Bytes), FromPartner x h p (s.begin t) → b = (s.begin t).brought x h p →
    b.mirrored = true → s.pair.st = 3 →
    GivesOn (.sync t x page bytes) s b [.host, .jnl, .edg, .bnc, .bal, .evs, .mesh, .pair] fun u => u.pair.st = 2 ∧ u.pair.syncAt = b.now ∧
      u.pair.health.testBit 62 = false ∧ (b.healthy = true → u.pair.handover = none)) ∧
  (∀ (s b : State) (t : Nat), b = s.begin t → b.timeline = true → s.cfg.topo.pair = true → b.cyc = 0 → b.now ≤ s.pair.syncAt + 200 * Config.ms →
    (s.pair.st = 2 → Gives (.syncEnd t) s [.evs, .pair] fun u => u.pair.st = 3 ∧ u.pair.cmds = [] ∧ u.pair.health.testBit 62 = true) ∧
    (s.pair.st = 4 → s.pair.syncOut = true → Gives (.syncEnd t) s [.pair] fun u => u.pair.mirror = true ∧ u.pair.mirrorOff = false ∧
      u.pair.syncOut = false ∧ u.pair.acked = s.pair.sent ∧ u.pair.st = 4)) ∧
  (∀ (s b : State) (t : Nat) (x : PortRx) (h : MHdr) (p : Bytes) (c : CmdFrame) (cmd : Cmd), FromPartner x h p (s.begin t) →
    b = (s.begin t).brought x h p → b.mirrored = true → look c.opcode = some cmd →
    ∃ u z, exec (.cmd t x c) s = .next u ∧ Only [.pair] b z ∧ z.pair = { s.pair with
      got := c.mirrorNo
      cmds := s.pair.cmds ++ [c] } ∧
      Only [.jnl, .mesh] (cmd.act c.h c.payload z).1 u ∧ u.jnl = s.jnl ∧ u.mesh.convs = b.mesh.convs ∧ u.mesh.gops = b.mesh.gops ∧
      u.mesh.ports = b.mesh.ports) ∧
  (∀ (s b : State) (t : Nat) (x : CmdFrame × Nat) (l : List (CmdFrame × Nat)), b = s.begin t → s.pair.st = 4 → s.pair.mirror = true →
    s.pair.flight = x :: l → x.2 + 2 * Config.us ≤ b.now → Gives (.cmdMirrorTimeout t) s [.pair] fun u => u.pair = { s.pair with
      mirrorOff := true
      mirror := false
      holding := true }) ∧
  (∀ (s b : State) (t : Nat) (x : PortRx) (h : MHdr) (p : Bytes) (f : HealthFrame), FromPartner x h p (s.begin t) → b = (s.begin t).brought x h p →
    b.inForce = true → s.pair.st = 4 →
    (s.pair.holding = false → s.pair.flight = [] → s.host.held = [] → GivesOn (.health t x f) s b [.evs, .pair] fun u =>
      u.pair.peer = f.word ∧ u.pair.peerAt = some b.now ∧ u.pair.healthMiss = 0 ∧ u.pair.peerHealthy = f.word.testBit 63 ∧
      u.pair.peerArmed = f.armed ∧ u.pair.peerMarks = f.marks ∧ u.pair.ackedJnl = f.ackJnl ∧ u.pair.st = 4) ∧
    (s.pair.holding = true → s.pair.mirror = false → s.host.held = [] → f.word.testBit 62 = false →
      ∃ u z, exec (.health t x f) s = .next u ∧ Only [.evs, .pair] b z ∧ z.pair.peer = f.word ∧ z.pair.peerHealthy = f.word.testBit 63 ∧
        z.pair.peerArmed = f.armed ∧ Only [] z.heldPerform u)) ∧
  (∀ (s b : State) (t a : Nat), b = s.begin t → s.pair.st = 4 → s.pair.mirrorOff = false ∨ s.pair.holding = true → s.pair.peerAt = some a →
    a + 2 * b.tick ≤ b.now → ∃ u z, exec (.healthMissed t) s = .next u ∧ Only [.free, .host, .mesh, .evs, .pair] b z ∧ z.pair.mirror = false ∧
      z.pair.mirrorOff = true ∧ z.pair.peerHealthy = false ∧ z.pair.peerArmed = none ∧ z.pair.handover = none ∧ z.pair.fbFrom = none ∧
      Only [] z.heldPerform u)

/-- Authority over a pair (R627 to R637): the STANDBY's bench start and compile, takeover and detachment, resignation, fencing, the states
a member waits in, frames of the partner seen, handover and failback, and the commands that ask for them (R639, R640).
Where the spec leaves a choice, the model's: log entries 67, 132, 156, 166, 168, 204, 205. -/
def Obligations.PairAuthority : Prop :=
  (∀ (s b : State) (t c : Nat) (x : PortRx) (h : MHdr) (p : Bytes), b = s.begin t → FromPartner x h p b → b.mirrored = true → s.pair.st = 3 →
    Gives (.resign t x c) s [.mesh, .pair] fun u => u.pair = { s.pair with
      resigned := some c } ∧ u.mesh = (b.brought x h p).mesh) ∧
  (∀ (s b : State) (t n : Nat) (x : PortRx) (h : MHdr) (p : Bytes), b = s.begin t → FromPartner x h p b → b.mirrored = true → s.pair.st = 3 →
    Gives (.handover t x n) s [.mesh, .pair] fun u => u.pair = { s.pair with
      handover := some n } ∧ u.mesh = (b.brought x h p).mesh) ∧
  (∀ (s b y : State) (t : Nat), b = s.begin t → y = b.lagged → s.cfg.topo.pair = true → s.pair.st = 3 → y.atPoint 1 80 = true →
    (y.onInput = false → Gives (.standbyBenchStart t) s [.bnc, .pair, .mode, .pts] fun u => u.pair = { s.pair with
      ownCnt := sat32 s.pair.ownCnt 1 } ∧ u.mode = s.mode) ∧
    (∀ i, s.pair.input = some i → i.period = y.per → Gives (.standbyBenchStart t) s [.bnc, .mode, .pts] fun u => u.mode = { s.mode with
      vars := i.vars })) ∧
  (∀ (s b v y : State) (t : Nat), b = s.begin t → v = b.landDue → y = v.lagged → s.cfg.topo.pair = true → s.pair.st = 3 →
    b.lagged.atPoint 5 (b.kO + 32) = true →
    (∀ r, s.pair.refs = some r → r.period = y.per → s.pair.resigned = none → ∃ u, exec (.standbyCompile t) s = .next u ∧
      Only [.free, .seam, .edg, .comp, .evs, .pair, .pts] v u ∧ u.comp.per = y.perPlus 1 ∧ u.comp.done = true ∧ u.pair.st = 3 ∧ u.pair.missRun = 0) ∧
    ((∀ r, s.pair.refs = some r → r.period ≠ y.per) → s.pair.resigned = none → s.pair.missRun = 0 → ∃ u, exec (.standbyCompile t) s = .next u ∧
      Only [.comp, .pair, .pts] v u ∧ u.pair.hbMiss = sat32 s.pair.hbMiss 1 ∧ u.pair.missRun = 1 ∧ u.comp.done = false ∧ u.pair.st = 3) ∧
    ((∀ r, s.pair.refs = some r → r.period ≠ y.per) → s.pair.resigned = none → 1 ≤ s.pair.missRun → y.partnerShips = true →
      ∃ u, exec (.standbyCompile t) s = .next u ∧ Only [.comp, .evs, .pair, .pts] v u ∧ u.pair.st = 5 ∧ u.pair.health.testBit 62 = false) ∧
    ((∀ r, s.pair.refs = some r → r.period ≠ y.per) → s.pair.resigned = none → 1 ≤ s.pair.missRun → y.partnerShips = false → y.healthy = true →
      ∃ u, exec (.standbyCompile t) s = .next u ∧ Only [.free, .host, .jnl, .seam, .edg, .comp, .evs, .mesh, .pair, .pts] v u ∧ u.pair.st = 4 ∧
        u.pair.heartbeat = true ∧ u.pair.takePer = y.perPlus 1 ∧ u.seam.epoch = (s.seam.epoch + 1) % 65536) ∧
    (∀ c, s.pair.resigned = some c → y.healthy = true →
      ∃ u, exec (.standbyCompile t) s = .next u ∧ Only [.free, .host, .jnl, .seam, .edg, .comp, .evs, .mesh, .pair, .pts] v u ∧ u.pair.st = 4 ∧
        u.pair.heartbeat = true ∧ u.pair.takePer = y.perPlus 1 ∧ u.seam.epoch = (s.seam.epoch + 1) % 65536)) ∧
  (∀ (s b : State) (t e : Nat), b = s.begin t → s.pair.st = 4 → later 16 e s.seam.epoch = true →
    Gives (.fence t e) s [.sys, .host, .jnl, .edg, .cmp, .evs, .pair] fun u => u.sys.gpioHiz = true ∧ u.pair = { s.pair with
      st := 6
      heartbeat := false
      mirror := false
      handover := none
      taking := false
      takeSafe := false
      syncOut := false
      flight := []
      holding := false
      evt := setBit s.pair.evt 3 }) ∧
  (∀ (s b : State) (t c : Nat), b = s.begin t → b.inForce = true → s.pair.st = 1 →
    b.lastSign + (if s.pair.member then 1100 else 100) * Config.ms ≤ b.now → Gives (.waitingTimeout t) s [.seam, .pair] fun u => u.pair.st = 4 ∧
      u.pair.taking = true ∧ u.pair.takeAt = b.now ∧
      (c ∈ s.cfg.cells.map (·.idx) → b.modeQ.ovl.testBit 4 = false → b.step9 = none → (b.cell c).st = 0 → (b.talk c).ctrl = none →
        (b.talk c).queue = [] → c < b.seam.talks.length → IdentAsked c b u)) ∧
  (∀ (s b : State) (t : Nat), b = s.begin t → b.inForce = true → s.pair.st = 3 ∨ s.pair.st = 5 → b.healthy = false →
    b.lastSign + 1100 * Config.ms ≤ b.now → ∃ u z, exec (.detachedTimeout t) s = .next u ∧ Only [.seam, .pair] b z ∧ z.pair.st = 4 ∧
      z.pair.taking = true ∧ z.pair.takeSafe = true ∧ Only [.host, .jnl, .safe, .evs] (z.enterSafe 17 0xFFFF) u ∧ ∀ c < 32, (u.ctx c).st = 0) ∧
  (∀ (s b : State) (t : Nat) (x : LaneRx) (f : FrameHdr) (p : Bytes), b = s.begin t → Brings x 1 f p b → b.inForce = true → s.cfg.topo.pair = true →
    b.ownsPath (State.rxPathA x.lane) = false →
    (s.pair.st = 4 → later 16 f.epoch s.seam.epoch = true → Gives (.partnerEdgeSeen t x) s [.sys, .host, .jnl, .edg, .cmp, .evs, .pair] fun u =>
      u.pair.st = 6 ∧ u.pair.heartbeat = false) ∧
    (¬(s.pair.st = 4 ∧ later 16 f.epoch s.seam.epoch = true) → Gives (.partnerEdgeSeen t x) s [.pair] fun u => u.pair = { s.pair with
      edgeSeen := ((f.cell / 8, f.period) :: s.pair.edgeSeen).take 64
      edgeAt := some b.now
      st := if s.pair.st = 1 ∧ b.portUp 0 = false then 5 else s.pair.st })) ∧
  (∀ (s b : State) (t : Nat), b = s.begin t → b.timeline = true → b.cyc = 0 → s.pair.handover = some b.per →
    (s.pair.st = 3 → Gives (.handoverBoundary t) s [.host, .jnl, .seam, .evs, .mesh, .pair] fun u => u.pair.st = 4 ∧ u.pair.heartbeat = true ∧
      u.pair.mirror = true ∧ u.pair.takePer = b.perPlus 1 ∧ u.pair.handover = none ∧ u.seam.epoch = (s.seam.epoch + 1) % 65536) ∧
    (s.pair.st = 4 → Gives (.handoverBoundary t) s [.free, .host, .jnl, .evs, .mesh, .pair] fun u => u.pair.st = 3 ∧ u.pair.mirror = false ∧
      u.pair.handover = none ∧ u.pair.health.testBit 62 = true ∧ u.pair.flight = [])) ∧
  (∀ (s b : State) (t a : Nat), b = s.begin t → s.pair.st = 4 → s.pair.member = true → s.pair.fbSuspend = false → s.pair.handover = none →
    s.cfg.topo.failbackHoldS ≠ 0 → b.partnerHealthy = true → s.pair.fbFrom = some a → a + s.cfg.topo.failbackHoldS * Config.sec ≤ b.now →
    Gives (.failbackHoldExpiry t) s [.pair] fun u => u.pair = { s.pair with
      handover := some (b.perPlus 16) } ∧ ∀ o ∈ b.pairOut (.handover (b.perPlus 16)), o ∈ u.out) ∧
  (∀ (s b : State) (t n : Nat) (h : RecHdr), Accepts cmdPairSwitch h (le 4 n) (s.begin t) → b = s.begin t → n < 2 ^ 32 →
    Gives (.pairSwitch t h n) s ([.host, .jnl, .pair] ++ s.heldParts) fun u => u.pair = { s.pair with
      handover := some (if n = 0 then b.perPlus 16 else n) }) ∧
  (∀ (s b : State) (t e : Nat) (h : RecHdr), Accepts cmdPairFailback h (le 1 e ++ le 3 0) (s.begin t) → b = s.begin t → e < 256 →
    Gives (.pairFailback t h e) s ([.host, .jnl, .pair] ++ s.heldParts) fun u => u.pair = { s.pair with
      fbSuspend := e == 0 }) ∧
  (∀ (s b : State) (t : Nat) (h : RecHdr), Accepts cmdPairResync h [] (s.begin t) → b = s.begin t →
    Gives (.pairResync t h) s ([.free, .host, .jnl, .mesh, .pair] ++ s.heldParts) fun u => u.pair = { s.pair with
      syncOut := true
      mirror := false
      syncAt := b.now })

/-- Supplies, power-on resets, firmware boot, warm reset, image reload, PARK wake, die shutdown and the reference clock (R24, R398, R647 to
R656, R661): what each leaves. A power-on reset clears every block but non-volatile memory, fuses and what pins show.
Where the spec leaves a choice, the model's: log entries 7, 137, 149, 150, 153, 154. -/
def Obligations.SuppliesAndResets : Prop :=
  (∀ (s b : State) (t : Nat), b = s.begin t → b.pwr.upDue = true → b.pwr.por = false → b.pwr.resetLow = false →
    Gives (.powerOnReset t) s [.pwr, .jnl, .evs] fun u => u.evs = { s.evs with
      boot := (s.evs.boot + 1) % 2 ^ 32 } ∧
      u.jnl.next = s.jnl.next + 1 ∧ u.pwr = { s.pwr with
      upDue := false, dom := 0xC13F }) ∧
  (∀ (s b : State) (t : Nat) (m : Bool), b = s.begin t → b.pwr.por = true → b.pwr.resetLow = false → b.supplies = true → b.pwr.riseLate = false →
    b.riseClosed = false → b.pwr.goodAt + 2 * Config.ms ≤ b.now →
    Gives (.porReleaseTimer t m) s [.pwr] fun u => u.pwr = { s.pwr with
      por := false, upDue := true, memberSel := m }) ∧
  (∀ (s b : State) (t : Nat), b = s.begin t → b.pwr.por = true → b.riseClosed = true →
    Gives (.riseWindowExpiry t) s [.pwr] fun u => u.pwr = { s.pwr with
      riseLate := true }) ∧
  (∀ (s b : State) (t i : Nat), b = s.begin t → at' b.pwr.good i true = false →
    Gives (.supplyRise t i) s [.pwr] fun u => u.pwr.good = s.pwr.good.set i true ∧ u.pwr.goodAt = b.now ∧
      ((∀ x ∈ s.pwr.good, x = false) → u.pwr.riseAt = b.now ∧ u.pwr.riseLate = false) ∧
      ((∃ x ∈ s.pwr.good, x = true) → u.pwr.riseAt = s.pwr.riseAt ∧ u.pwr.riseLate = s.pwr.riseLate ∧ (s.pwr.riseMet = true → u.pwr.riseMet = true)) ∧
      ((∀ x ∈ u.pwr.good, x = true) → b.now ≤ u.pwr.riseAt + 100 * Config.ms → u.pwr.riseMet = true)) ∧
  (∀ (s b : State) (t i : Nat), b = s.begin t → at' b.pwr.good i false = true →
    Gives (.supplyFall t i) s [.ofs, .sys, .pwr, .clk, .img, .host, .jnl, .lane, .seam, .edg, .comp, .bnc, .bal, .evs, .mode, .modeQ, .adc, .cmp,
      .safe, .mesh, .pair, .key, .pts] fun u => u.pwr.good = s.pwr.good.set i false ∧ u.pwr.por = true ∧ u.mode = {} ∧ u.jnl = {} ∧ u.edg = {} ∧ u.lane = {} ∧
      u.host.ctxs = ({} : HostB).ctxs ∧ u.img.desc = none ∧ u.img.flashA = s.img.flashA ∧ u.img.flashB = s.img.flashB ∧ u.evs.log = s.evs.log ∧
      u.safe.st = 0 ∧ u.safe.sin = s.safe.sin ∧
      (i ≠ 0 → u.evs = s.evs ∧ (s.pwr.por = false → u.pwr.cause = 2)) ∧ (i = 0 → u.evs.queue = [] ∧ u.pwr.cause = 1)) ∧
  (∀ (s b : State) (t : Nat), b = s.begin t →
    Gives (.resetN t) s [.ofs, .sys, .pwr, .clk, .img, .host, .jnl, .lane, .seam, .edg, .comp, .bnc, .bal, .evs, .mode, .modeQ, .adc, .cmp,
      .safe, .mesh, .pair, .key, .pts] fun u => u.pwr.resetLow = true ∧ u.mode = {} ∧ u.jnl = {} ∧ u.edg = {} ∧ u.lane = {} ∧ u.evs = s.evs ∧
      u.img.desc = none ∧ u.img.flashA = s.img.flashA ∧ u.img.flashB = s.img.flashB ∧ u.safe.st = 0 ∧ (s.pwr.por = false → u.pwr.cause = 3)) ∧
  (∀ (s b : State) (t : Nat) (m : Bool), b = s.begin t → b.pwr.resetLow = true →
    Gives (.resetNRelease t m) s [.pwr] fun u => u.pwr.resetLow = false ∧ u.pwr.memberSel = m ∧ (s.pwr.por = false → u.pwr.upDue = true) ∧
      (s.pwr.por = true → b.supplies = true → u.pwr.riseLate = false ∧
        (s.pwr.riseLate = true → u.pwr.riseMet = true ∧ u.pwr.goodAt = b.now))) ∧
  (∀ (s b : State) (t : Nat) (x y : Bool), b = s.begin t → b.locked = true → b.pwr.dom.testBit 3 = true → b.img.fwRun = false → b.pwr.fwFail = false →
    b.img.fwSince = none →
    Gives (.firmwareBootDone t x y) s [.free, .sys, .pwr, .clk, .img, .host, .jnl, .lane, .seam, .edg, .comp, .bnc, .bal, .evs, .mode, .modeQ, .adc, .cmp, .safe,
      .mesh, .pair] fun u => (x = true → u.img.fwRun = true ∧ u.evs.fwBank = s.evs.fwBank) ∧
      (x = false → y = true → u.img.fwRun = true ∧ u.evs.fwBank = 1 - s.evs.fwBank) ∧
      (x = false → y = false → u.pwr.fwFail = true ∧ u.img.hostWait = true)) ∧
  (∀ (s b : State) (t : Nat) (ifc : Iface), b = s.begin t → b.viewed ifc.src 0x220004 = false → b.pwrBusy = false → b.pwr.target < 4 →
    Gives (.warm t ifc) s [.free, .sys, .pwr, .clk, .img, .host, .jnl, .lane, .seam, .edg, .bnc, .bal, .evs, .mode, .modeQ, .adc, .cmp, .safe, .mesh,
      .pair] fun u => u.pwr = { s.pwr with
        warm := true, busy := true, cause := 4, causeSrc := ifc.src.code, warmCnt := sat16 s.pwr.warmCnt 1, soft := 0, reload := false } ∧
      u.safe.unlocked = false ∧ (∀ c, (u.cell c).st = 0) ∧ u.img.erasing = [] ∧ u.img.writing = [] ∧
      u.img.fwSt = 0 ∧ (∀ c, (u.ctx c).st = 0 ∨ (u.ctx c).st = 3)) ∧
  (∀ (s b : State) (t : Nat), b = s.begin t → b.pwr.warm = true →
    Gives (.warmResetEnd t) s [.sys, .pwr, .jnl, .seam, .edg, .cmp, .pair] fun u => u.pwr = { s.pwr with
      warm := false, busy := false } ∧ u.jnl.next = s.jnl.next + 1 ∧ (∀ x ∈ u.edg.lpwm, x.run = false)) ∧
  (∀ (s b : State) (t : Nat) (ifc : Iface), b = s.begin t → b.viewed ifc.src 0x220004 = false → b.pwrBusy = false → b.pwr.target < 4 →
    b.mode.mode = 0 ∨ b.img.hostWait = true →
    Gives (.reload t ifc) s [.free, .sys, .pwr, .clk, .img, .host, .jnl, .lane, .seam, .edg, .comp, .bnc, .bal, .evs, .mode, .modeQ, .adc, .cmp, .safe,
      .mesh, .pair] fun u => u.pwr = { s.pwr with
        reload := true, busy := true, cause := 5, causeSrc := ifc.src.code, reloadCnt := sat16 s.pwr.reloadCnt 1 } ∧
      u.img.desc = none ∧ u.img.hostWait = s.img.hostWait ∧ u.cmp.latch = List.replicate 37 false ∧ (∀ c ∈ u.mesh.convs, c.st = 0)) ∧
  (∀ (s b : State) (t a : Nat), b = s.begin t → b.pwr.parked = true → b.pwr.wakeAt = some a → a ≤ b.now + b.pwr.wake * Config.sec / 10 →
    Gives (.wakeTimerExpiry t) s [.ofs, .sys, .pwr, .clk, .img, .host, .jnl, .lane, .seam, .edg, .comp, .bnc, .bal, .evs, .mode, .modeQ, .adc, .cmp,
      .safe, .mesh, .pair, .key, .pts] fun u => u.pwr.cause = 7 ∧ u.pwr.parked = false ∧ u.pwr.upDue = true ∧ u.evs = s.evs ∧ u.mode = {} ∧ u.jnl = {} ∧
      u.safe = { s.safe with
        gpReq := false, unlocked := false, unlockSess := 0 }) ∧
  (∀ (s b : State) (t : Nat) (p : Bool) (l : Option (Nat × Nat)), b = s.begin t →
    Gives (.pcieReferenceClockChange t p l) s [.host] fun u => u.host = { s.host with
      refPresent := p, onSyspll := !p, linkUp := l.isSome, speed := (l.map (·.1)).getD 0, width := (l.map (·.2)).getD 0 }) ∧
  (∀ (s b : State) (t : Nat), b = s.begin t → 2 ≤ b.bal.dieHotRun → b.pwr.parked = false →
    Gives (.dieShutdown t) s [.ofs, .free, .sys, .pwr, .clk, .img, .host, .jnl, .lane, .seam, .edg, .comp, .bnc, .bal, .evs, .mode, .modeQ, .adc, .cmp,
      .safe, .mesh, .pair, .key, .pts] fun u => u.pwr.parked = true ∧ u.pwr.dom = 3 ∧ u.pwr.wakeAt = none ∧ u.bal.dieShut = true ∧ u.mode = {} ∧ u.jnl = {} ∧
      u.img.desc = none) ∧
  (∀ (s b : State) (t : Nat), b = s.begin t → 2 ≤ b.bal.dieHotRun → b.pwr.parked = true → b.bal.dieShut = false →
    Gives (.dieShutdown t) s [.pwr, .bal, .evs] fun u => u.pwr = { s.pwr with
      wakeAt := none } ∧ u.bal = { s.bal with
      dieShut := true })

/-- Power states and soft resets (R654, R656, R660, R661): a change of power state begins and ends; a block's soft reset takes its
block's actions and is journalled.
Where the spec leaves a choice, the model's: log entries 35, 146. -/
def Obligations.PowerStatesAndSoftResets : Prop :=
  (∀ (s b : State) (t n : Nat) (ifc : Iface), b = s.begin t → n < 4 → b.viewed ifc.src 0x220004 = false → b.pwrBusy = false → b.mode.mode = 0 →
    b.img.hostWait = false → b.dozeLive = false →
    Gives (.powerStateRequest t ifc n) s [.ofs, .free, .sys, .pwr, .clk, .img, .host, .jnl, .lane, .seam, .edg, .comp, .bnc, .bal, .evs, .mode, .modeQ,
      .adc, .cmp, .safe, .mesh, .pair, .key, .pts] fun u =>
      (n = s.pwr.st → u.pwr = { s.pwr with
        target := n }) ∧
      (n = 3 → u.pwr.parked = true ∧ u.pwr.dom = 3 ∧ u.mode = {} ∧
        u.pwr.wakeAt = if s.pwr.wake = 0 then none else some (b.now + s.pwr.wake * Config.sec)) ∧
      (n ≠ 3 → n ≠ s.pwr.st → u.pwr.st = 3 ∧ u.pwr.busy = true ∧ u.pwr.target = n) ∧
      (n = 1 → s.pwr.st = 0 → u.pwr.dom = clrBit (clrBit s.pwr.dom 7) 12)) ∧
  (∀ (s b : State) (t : Nat), b = s.begin t → b.pwr.st = 3 →
    Gives (.powerStateChangeDone t) s [.sys, .pwr] fun u => u.pwr = { s.pwr with
      st := s.pwr.target
      busy := false } ∧ u.sys = { s.sys with
      scrubAt := b.now }) ∧
  (∀ (s b : State) (t : Nat) (ifc : Iface), b = s.begin t → b.viewed ifc.src 0x22000C = false → b.pwrBusy = false → b.mode.mode = 0 →
    b.img.hostWait = false → Gives (.laneSoftReset t ifc) s [.pwr, .jnl, .lane, .seam] fun u => u.pwr = { s.pwr with
      soft := 1
      busy := true
      cause := 6
      causeSrc := ifc.src.code } ∧
      (∀ c, (u.cell c).st = 0) ∧ (∀ l ∈ u.lane.lanes, l.test = 0 ∧ l.loop = 0)) ∧
  (∀ (s b : State) (t : Nat) (ifc : Iface), b = s.begin t → b.viewed ifc.src 0x22000C = false → b.pwrBusy = false → b.mode.mode = 0 →
    b.img.hostWait = false → Gives (.seamSoftReset t ifc) s [.pwr, .jnl, .seam] fun u => u.pwr = { s.pwr with
      soft := 2
      busy := true
      cause := 6
      causeSrc := ifc.src.code } ∧
      (∀ c, (u.cell c).st = 0) ∧ (∀ c ∈ u.seam.cells, c.jstep = 0 ∧ c.reason = 0)) ∧
  (∀ (s b : State) (t : Nat) (ifc : Iface), b = s.begin t → b.viewed ifc.src 0x22000C = false → b.pwrBusy = false → b.mode.mode = 0 →
    b.img.hostWait = false → Gives (.edgSoftReset t ifc) s [.pwr, .jnl, .edg] fun u => u.pwr = { s.pwr with
      soft := 4
      busy := true
      cause := 6
      causeSrc := ifc.src.code } ∧
      (∀ x ∈ u.edg.lpwm, x.carry = {}) ∧ u.edg.chans = List.replicate 128 (List.replicate 16 {}) ∧ u.edg.lastLate = false) ∧
  (∀ (s b : State) (t : Nat) (ifc : Iface), b = s.begin t → b.viewed ifc.src 0x22000C = false → b.pwrBusy = false → b.mode.mode = 0 →
    b.img.hostWait = false → Gives (.bncSoftReset t ifc) s [.pwr, .jnl, .bnc] fun u => u.pwr = { s.pwr with
      soft := 8
      busy := true
      cause := 6
      causeSrc := ifc.src.code } ∧
      u.bnc.cmds = [] ∧ u.bnc.trace.st ≠ 1 ∧ u.bnc.trace.st ≠ 2 ∧
      (∀ x ∈ u.bnc.loops, x.per = 0 ∧ x.tab = [])) ∧
  (∀ (s b : State) (t : Nat) (ifc : Iface), b = s.begin t → b.viewed ifc.src 0x22000C = false → b.pwrBusy = false → b.mode.mode = 0 →
    b.img.hostWait = false → Gives (.balSoftReset t ifc) s [.pwr, .jnl, .bal] fun u => u.pwr = { s.pwr with
      soft := 16
      busy := true
      cause := 6
      causeSrc := ifc.src.code } ∧
      (∀ a ∈ u.bal.arms, a.n = 0 ∧ a.missRun = 0) ∧
      (∀ c ∈ b.thermCells, c < s.bal.cells.length → (u.therm c).pwr = 0 ∧ (u.therm c).hotCh = 0)) ∧
  (∀ (s b : State) (t : Nat) (ifc : Iface), b = s.begin t → b.viewed ifc.src 0x22000C = false → b.pwrBusy = false → b.mode.mode = 0 →
    b.img.hostWait = false → Gives (.modeSoftReset t ifc) s [.pwr, .jnl, .lane, .seam, .edg, .bal, .mode, .modeQ, .adc] fun u => u.pwr = { s.pwr with
      soft := 32
      busy := true
      cause := 6
      causeSrc := ifc.src.code } ∧
      u.mode.sps = List.replicate 16 {} ∧ u.mode.sub = 0 ∧ u.modeQ.sched = none ∧
      u.modeQ.ovl = s.modeQ.ovl ^^^ (0x17 &&& s.modeQ.ovl) ∧ u.modeQ.ended = false) ∧
  (∀ (s b : State) (t : Nat) (ifc : Iface), b = s.begin t → b.viewed ifc.src 0x22000C = false → b.pwrBusy = false → b.mode.mode = 0 →
    b.img.hostWait = false → Gives (.adcSoftReset t ifc) s [.pwr, .jnl, .adc] fun u => u.pwr = { s.pwr with
      soft := 64
      busy := true
      cause := 6
      causeSrc := ifc.src.code } ∧
      (b.pwr.dom.testBit 12 = true → ∀ x ∈ u.adc.adcs, x.st = 4 ∧ x.calAt = b.now ∧ x.entry = none)) ∧
  (∀ (s b : State) (t : Nat) (ifc : Iface), b = s.begin t → b.viewed ifc.src 0x22000C = false → b.pwrBusy = false → b.mode.mode = 0 →
    b.img.hostWait = false → b.anyTrip = false → Gives (.cmpSoftReset t ifc) s [.pwr, .jnl, .free, .seam, .edg, .bnc, .evs, .cmp, .mesh] fun u => u.pwr = { s.pwr with
      soft := 128
      busy := true
      cause := 6
      causeSrc := ifc.src.code } ∧
      (b.pwr.dom.testBit 13 = true → b.inForce = true → 
        u.cmp.checks = (List.range 24).filter fun k => (b.cmpDecl k).sense != 0)) ∧
  (∀ (s b : State) (t : Nat) (ifc : Iface), b = s.begin t → b.viewed ifc.src 0x22000C = false → b.pwrBusy = false → b.mode.mode = 0 →
    b.img.hostWait = false → Gives (.meshSoftReset t ifc) s [.pwr, .jnl, .free, .clk, .host, .modeQ, .mesh, .pair] fun u => u.pwr = { s.pwr with
      soft := 256
      busy := true
      cause := 6
      causeSrc := ifc.src.code } ∧
      (∀ c ∈ u.mesh.convs, c.st = 0 ∧ c.out = [] ∧ c.queue = [])) ∧
  (∀ (s b : State) (t : Nat) (ifc : Iface), b = s.begin t → b.viewed ifc.src 0x22000C = false → b.pwrBusy = false → b.mode.mode = 0 →
    b.img.hostWait = false → Gives (.pairSoftReset t ifc) s [.pwr, .jnl, .free, .host, .mesh, .pair] fun u => u.pwr = { s.pwr with
      soft := 512
      busy := true
      cause := 6
      causeSrc := ifc.src.code } ∧
      u.pair.st = (if b.cfg.topo.pair then 1 else 0) ∧ u.pair.mirror = false ∧ u.pair.taking = false ∧
      u.pair.bist = 0 ∧ u.pair.healthPer = 0) ∧
  (∀ (s b : State) (t : Nat), b = s.begin t → b.pwr.soft ≠ 0 →
    Gives (.softResetDone t) s [.pwr, .jnl] fun u => u.pwr = { s.pwr with
      soft := 0
      busy := false } ∧ u.jnl.next = s.jnl.next + 1)

/-- What a transmitter puts on a line is what a receiver in step with its scrambler reads (R201). A cell frame is read with its TYPE, its cell, PERIOD,
EPOCH and payload, whatever they are (R236, R239, R240); over the two lanes of a port a mesh frame is read with its header, its payload and its CRC (R575,
R580). A scrambled control block that by chance has the form of a marker would be taken for one; that one case is left out by name.
Where the spec leaves a choice, the model's: log entries 207, 208. -/
def Obligations.LinesAreReadBack : Prop :=
  (∀ (lane pre slot typ c period epoch n : Nat) (pay : Bytes), typ < 8 → c < 128 → period < 2 ^ 32 → epoch < 2 ^ 16 → n < 64 → pay.length = 8 * n →
    NoFalseMarker pre (cellBlocks typ c period epoch pay) →
    ∃ b, cellFrames { lane := lane, pre := pre, slot := slot, blocks := shout pre (cellBlocks typ c period epoch pay) } = [some b] ∧ cellType b = typ ∧
      (∀ path, cellHdr path b = { cell := c, path := path, period := period, epoch := epoch }) ∧ cellPay b = pay) ∧
  (∀ (port even odd pe po slot crc n : Nat) (h : MHdr) (pay : Bytes), HeaderInFields h → n < 2 ^ 16 → pay.length = 16 * n → crc < 2 ^ 32 →
    NoFalseMarker pe (evenHalf (meshBlocks h pay crc)) → NoFalseMarker po (oddHalf (meshBlocks h pay crc)) →
    meshFrames { port := port, even := { lane := even, pre := pe, slot := slot, blocks := shout pe (evenHalf (meshBlocks h pay crc)) },
                 odd := { lane := odd, pre := po, slot := slot, blocks := shout po (oddHalf (meshBlocks h pay crc)) } } = [(h, pay, crc)])
end

