-- ==== Sys2Proof/Laws/State.lean ====
section
/-! SUPPORT. What each update of State leaves and changes, field by field. -/
namespace Sys2Proof.Machine.State

variable (s : State)

/-! onSys -/
@[simp] theorem onSys_now (f : Sys → Sys) : (s.onSys f).now = s.now := (rfl)
@[simp] theorem onSys_ofs (f : Sys → Sys) : (s.onSys f).ofs = s.ofs := (rfl)
@[simp] theorem onSys_out (f : Sys → Sys) : (s.onSys f).out = s.out := (rfl)
@[simp] theorem onSys_sets (f : Sys → Sys) : (s.onSys f).sets = s.sets := (rfl)
@[simp] theorem onSys_pts (f : Sys → Sys) : (s.onSys f).pts = s.pts := (rfl)
@[simp] theorem onSys_free (f : Sys → Sys) : (s.onSys f).free = s.free := (rfl)
@[simp] theorem onSys_pending (f : Sys → Sys) : (s.onSys f).pending = s.pending := (rfl)
@[simp] theorem onSys_sys (f : Sys → Sys) : (s.onSys f).sys = f s.sys := (rfl)
@[simp] theorem onSys_pwr (f : Sys → Sys) : (s.onSys f).pwr = s.pwr := (rfl)
@[simp] theorem onSys_clk (f : Sys → Sys) : (s.onSys f).clk = s.clk := (rfl)
@[simp] theorem onSys_img (f : Sys → Sys) : (s.onSys f).img = s.img := (rfl)
@[simp] theorem onSys_host (f : Sys → Sys) : (s.onSys f).host = s.host := (rfl)
@[simp] theorem onSys_jnl (f : Sys → Sys) : (s.onSys f).jnl = s.jnl := (rfl)
@[simp] theorem onSys_lane (f : Sys → Sys) : (s.onSys f).lane = s.lane := (rfl)
@[simp] theorem onSys_seam (f : Sys → Sys) : (s.onSys f).seam = s.seam := (rfl)
@[simp] theorem onSys_edg (f : Sys → Sys) : (s.onSys f).edg = s.edg := (rfl)
@[simp] theorem onSys_comp (f : Sys → Sys) : (s.onSys f).comp = s.comp := (rfl)
@[simp] theorem onSys_bnc (f : Sys → Sys) : (s.onSys f).bnc = s.bnc := (rfl)
@[simp] theorem onSys_bal (f : Sys → Sys) : (s.onSys f).bal = s.bal := (rfl)
@[simp] theorem onSys_evs (f : Sys → Sys) : (s.onSys f).evs = s.evs := (rfl)
@[simp] theorem onSys_mode (f : Sys → Sys) : (s.onSys f).mode = s.mode := (rfl)
@[simp] theorem onSys_modeQ (f : Sys → Sys) : (s.onSys f).modeQ = s.modeQ := (rfl)
@[simp] theorem onSys_adc (f : Sys → Sys) : (s.onSys f).adc = s.adc := (rfl)
@[simp] theorem onSys_cmp (f : Sys → Sys) : (s.onSys f).cmp = s.cmp := (rfl)
@[simp] theorem onSys_safe (f : Sys → Sys) : (s.onSys f).safe = s.safe := (rfl)
@[simp] theorem onSys_mesh (f : Sys → Sys) : (s.onSys f).mesh = s.mesh := (rfl)
@[simp] theorem onSys_pair (f : Sys → Sys) : (s.onSys f).pair = s.pair := (rfl)

/-! onPwr -/
@[simp] theorem onPwr_now (f : Pwr → Pwr) : (s.onPwr f).now = s.now := (rfl)
@[simp] theorem onPwr_ofs (f : Pwr → Pwr) : (s.onPwr f).ofs = s.ofs := (rfl)
@[simp] theorem onPwr_out (f : Pwr → Pwr) : (s.onPwr f).out = s.out := (rfl)
@[simp] theorem onPwr_sets (f : Pwr → Pwr) : (s.onPwr f).sets = s.sets := (rfl)
@[simp] theorem onPwr_pts (f : Pwr → Pwr) : (s.onPwr f).pts = s.pts := (rfl)
@[simp] theorem onPwr_free (f : Pwr → Pwr) : (s.onPwr f).free = s.free := (rfl)
@[simp] theorem onPwr_pending (f : Pwr → Pwr) : (s.onPwr f).pending = s.pending := (rfl)
@[simp] theorem onPwr_sys (f : Pwr → Pwr) : (s.onPwr f).sys = s.sys := (rfl)
@[simp] theorem onPwr_pwr (f : Pwr → Pwr) : (s.onPwr f).pwr = f s.pwr := (rfl)
@[simp] theorem onPwr_clk (f : Pwr → Pwr) : (s.onPwr f).clk = s.clk := (rfl)
@[simp] theorem onPwr_img (f : Pwr → Pwr) : (s.onPwr f).img = s.img := (rfl)
@[simp] theorem onPwr_host (f : Pwr → Pwr) : (s.onPwr f).host = s.host := (rfl)
@[simp] theorem onPwr_jnl (f : Pwr → Pwr) : (s.onPwr f).jnl = s.jnl := (rfl)
@[simp] theorem onPwr_lane (f : Pwr → Pwr) : (s.onPwr f).lane = s.lane := (rfl)
@[simp] theorem onPwr_seam (f : Pwr → Pwr) : (s.onPwr f).seam = s.seam := (rfl)
@[simp] theorem onPwr_edg (f : Pwr → Pwr) : (s.onPwr f).edg = s.edg := (rfl)
@[simp] theorem onPwr_comp (f : Pwr → Pwr) : (s.onPwr f).comp = s.comp := (rfl)
@[simp] theorem onPwr_bnc (f : Pwr → Pwr) : (s.onPwr f).bnc = s.bnc := (rfl)
@[simp] theorem onPwr_bal (f : Pwr → Pwr) : (s.onPwr f).bal = s.bal := (rfl)
@[simp] theorem onPwr_evs (f : Pwr → Pwr) : (s.onPwr f).evs = s.evs := (rfl)
@[simp] theorem onPwr_mode (f : Pwr → Pwr) : (s.onPwr f).mode = s.mode := (rfl)
@[simp] theorem onPwr_modeQ (f : Pwr → Pwr) : (s.onPwr f).modeQ = s.modeQ := (rfl)
@[simp] theorem onPwr_adc (f : Pwr → Pwr) : (s.onPwr f).adc = s.adc := (rfl)
@[simp] theorem onPwr_cmp (f : Pwr → Pwr) : (s.onPwr f).cmp = s.cmp := (rfl)
@[simp] theorem onPwr_safe (f : Pwr → Pwr) : (s.onPwr f).safe = s.safe := (rfl)
@[simp] theorem onPwr_mesh (f : Pwr → Pwr) : (s.onPwr f).mesh = s.mesh := (rfl)
@[simp] theorem onPwr_pair (f : Pwr → Pwr) : (s.onPwr f).pair = s.pair := (rfl)

/-! onClk -/
@[simp] theorem onClk_now (f : Clk → Clk) : (s.onClk f).now = s.now := (rfl)
@[simp] theorem onClk_ofs (f : Clk → Clk) : (s.onClk f).ofs = s.ofs := (rfl)
@[simp] theorem onClk_out (f : Clk → Clk) : (s.onClk f).out = s.out := (rfl)
@[simp] theorem onClk_sets (f : Clk → Clk) : (s.onClk f).sets = s.sets := (rfl)
@[simp] theorem onClk_pts (f : Clk → Clk) : (s.onClk f).pts = s.pts := (rfl)
@[simp] theorem onClk_free (f : Clk → Clk) : (s.onClk f).free = s.free := (rfl)
@[simp] theorem onClk_pending (f : Clk → Clk) : (s.onClk f).pending = s.pending := (rfl)
@[simp] theorem onClk_sys (f : Clk → Clk) : (s.onClk f).sys = s.sys := (rfl)
@[simp] theorem onClk_pwr (f : Clk → Clk) : (s.onClk f).pwr = s.pwr := (rfl)
@[simp] theorem onClk_clk (f : Clk → Clk) : (s.onClk f).clk = f s.clk := (rfl)
@[simp] theorem onClk_img (f : Clk → Clk) : (s.onClk f).img = s.img := (rfl)
@[simp] theorem onClk_host (f : Clk → Clk) : (s.onClk f).host = s.host := (rfl)
@[simp] theorem onClk_jnl (f : Clk → Clk) : (s.onClk f).jnl = s.jnl := (rfl)
@[simp] theorem onClk_lane (f : Clk → Clk) : (s.onClk f).lane = s.lane := (rfl)
@[simp] theorem onClk_seam (f : Clk → Clk) : (s.onClk f).seam = s.seam := (rfl)
@[simp] theorem onClk_edg (f : Clk → Clk) : (s.onClk f).edg = s.edg := (rfl)
@[simp] theorem onClk_comp (f : Clk → Clk) : (s.onClk f).comp = s.comp := (rfl)
@[simp] theorem onClk_bnc (f : Clk → Clk) : (s.onClk f).bnc = s.bnc := (rfl)
@[simp] theorem onClk_bal (f : Clk → Clk) : (s.onClk f).bal = s.bal := (rfl)
@[simp] theorem onClk_evs (f : Clk → Clk) : (s.onClk f).evs = s.evs := (rfl)
@[simp] theorem onClk_mode (f : Clk → Clk) : (s.onClk f).mode = s.mode := (rfl)
@[simp] theorem onClk_modeQ (f : Clk → Clk) : (s.onClk f).modeQ = s.modeQ := (rfl)
@[simp] theorem onClk_adc (f : Clk → Clk) : (s.onClk f).adc = s.adc := (rfl)
@[simp] theorem onClk_cmp (f : Clk → Clk) : (s.onClk f).cmp = s.cmp := (rfl)
@[simp] theorem onClk_safe (f : Clk → Clk) : (s.onClk f).safe = s.safe := (rfl)
@[simp] theorem onClk_mesh (f : Clk → Clk) : (s.onClk f).mesh = s.mesh := (rfl)
@[simp] theorem onClk_pair (f : Clk → Clk) : (s.onClk f).pair = s.pair := (rfl)

/-! onImg -/
@[simp] theorem onImg_now (f : Img → Img) : (s.onImg f).now = s.now := (rfl)
@[simp] theorem onImg_ofs (f : Img → Img) : (s.onImg f).ofs = s.ofs := (rfl)
@[simp] theorem onImg_out (f : Img → Img) : (s.onImg f).out = s.out := (rfl)
@[simp] theorem onImg_sets (f : Img → Img) : (s.onImg f).sets = s.sets := (rfl)
@[simp] theorem onImg_pts (f : Img → Img) : (s.onImg f).pts = s.pts := (rfl)
@[simp] theorem onImg_free (f : Img → Img) : (s.onImg f).free = s.free := (rfl)
@[simp] theorem onImg_pending (f : Img → Img) : (s.onImg f).pending = s.pending := (rfl)
@[simp] theorem onImg_sys (f : Img → Img) : (s.onImg f).sys = s.sys := (rfl)
@[simp] theorem onImg_pwr (f : Img → Img) : (s.onImg f).pwr = s.pwr := (rfl)
@[simp] theorem onImg_clk (f : Img → Img) : (s.onImg f).clk = s.clk := (rfl)
@[simp] theorem onImg_img (f : Img → Img) : (s.onImg f).img = f s.img := (rfl)
@[simp] theorem onImg_host (f : Img → Img) : (s.onImg f).host = s.host := (rfl)
@[simp] theorem onImg_jnl (f : Img → Img) : (s.onImg f).jnl = s.jnl := (rfl)
@[simp] theorem onImg_lane (f : Img → Img) : (s.onImg f).lane = s.lane := (rfl)
@[simp] theorem onImg_seam (f : Img → Img) : (s.onImg f).seam = s.seam := (rfl)
@[simp] theorem onImg_edg (f : Img → Img) : (s.onImg f).edg = s.edg := (rfl)
@[simp] theorem onImg_comp (f : Img → Img) : (s.onImg f).comp = s.comp := (rfl)
@[simp] theorem onImg_bnc (f : Img → Img) : (s.onImg f).bnc = s.bnc := (rfl)
@[simp] theorem onImg_bal (f : Img → Img) : (s.onImg f).bal = s.bal := (rfl)
@[simp] theorem onImg_evs (f : Img → Img) : (s.onImg f).evs = s.evs := (rfl)
@[simp] theorem onImg_mode (f : Img → Img) : (s.onImg f).mode = s.mode := (rfl)
@[simp] theorem onImg_modeQ (f : Img → Img) : (s.onImg f).modeQ = s.modeQ := (rfl)
@[simp] theorem onImg_adc (f : Img → Img) : (s.onImg f).adc = s.adc := (rfl)
@[simp] theorem onImg_cmp (f : Img → Img) : (s.onImg f).cmp = s.cmp := (rfl)
@[simp] theorem onImg_safe (f : Img → Img) : (s.onImg f).safe = s.safe := (rfl)
@[simp] theorem onImg_mesh (f : Img → Img) : (s.onImg f).mesh = s.mesh := (rfl)
@[simp] theorem onImg_pair (f : Img → Img) : (s.onImg f).pair = s.pair := (rfl)

/-! onHost -/
@[simp] theorem onHost_now (f : HostB → HostB) : (s.onHost f).now = s.now := (rfl)
@[simp] theorem onHost_ofs (f : HostB → HostB) : (s.onHost f).ofs = s.ofs := (rfl)
@[simp] theorem onHost_out (f : HostB → HostB) : (s.onHost f).out = s.out := (rfl)
@[simp] theorem onHost_sets (f : HostB → HostB) : (s.onHost f).sets = s.sets := (rfl)
@[simp] theorem onHost_pts (f : HostB → HostB) : (s.onHost f).pts = s.pts := (rfl)
@[simp] theorem onHost_free (f : HostB → HostB) : (s.onHost f).free = s.free := (rfl)
@[simp] theorem onHost_pending (f : HostB → HostB) : (s.onHost f).pending = s.pending := (rfl)
@[simp] theorem onHost_sys (f : HostB → HostB) : (s.onHost f).sys = s.sys := (rfl)
@[simp] theorem onHost_pwr (f : HostB → HostB) : (s.onHost f).pwr = s.pwr := (rfl)
@[simp] theorem onHost_clk (f : HostB → HostB) : (s.onHost f).clk = s.clk := (rfl)
@[simp] theorem onHost_img (f : HostB → HostB) : (s.onHost f).img = s.img := (rfl)
@[simp] theorem onHost_host (f : HostB → HostB) : (s.onHost f).host = f s.host := (rfl)
@[simp] theorem onHost_jnl (f : HostB → HostB) : (s.onHost f).jnl = s.jnl := (rfl)
@[simp] theorem onHost_lane (f : HostB → HostB) : (s.onHost f).lane = s.lane := (rfl)
@[simp] theorem onHost_seam (f : HostB → HostB) : (s.onHost f).seam = s.seam := (rfl)
@[simp] theorem onHost_edg (f : HostB → HostB) : (s.onHost f).edg = s.edg := (rfl)
@[simp] theorem onHost_comp (f : HostB → HostB) : (s.onHost f).comp = s.comp := (rfl)
@[simp] theorem onHost_bnc (f : HostB → HostB) : (s.onHost f).bnc = s.bnc := (rfl)
@[simp] theorem onHost_bal (f : HostB → HostB) : (s.onHost f).bal = s.bal := (rfl)
@[simp] theorem onHost_evs (f : HostB → HostB) : (s.onHost f).evs = s.evs := (rfl)
@[simp] theorem onHost_mode (f : HostB → HostB) : (s.onHost f).mode = s.mode := (rfl)
@[simp] theorem onHost_modeQ (f : HostB → HostB) : (s.onHost f).modeQ = s.modeQ := (rfl)
@[simp] theorem onHost_adc (f : HostB → HostB) : (s.onHost f).adc = s.adc := (rfl)
@[simp] theorem onHost_cmp (f : HostB → HostB) : (s.onHost f).cmp = s.cmp := (rfl)
@[simp] theorem onHost_safe (f : HostB → HostB) : (s.onHost f).safe = s.safe := (rfl)
@[simp] theorem onHost_mesh (f : HostB → HostB) : (s.onHost f).mesh = s.mesh := (rfl)
@[simp] theorem onHost_pair (f : HostB → HostB) : (s.onHost f).pair = s.pair := (rfl)

/-! onJnl -/
@[simp] theorem onJnl_now (f : Jnl → Jnl) : (s.onJnl f).now = s.now := (rfl)
@[simp] theorem onJnl_ofs (f : Jnl → Jnl) : (s.onJnl f).ofs = s.ofs := (rfl)
@[simp] theorem onJnl_out (f : Jnl → Jnl) : (s.onJnl f).out = s.out := (rfl)
@[simp] theorem onJnl_sets (f : Jnl → Jnl) : (s.onJnl f).sets = s.sets := (rfl)
@[simp] theorem onJnl_pts (f : Jnl → Jnl) : (s.onJnl f).pts = s.pts := (rfl)
@[simp] theorem onJnl_free (f : Jnl → Jnl) : (s.onJnl f).free = s.free := (rfl)
@[simp] theorem onJnl_pending (f : Jnl → Jnl) : (s.onJnl f).pending = s.pending := (rfl)
@[simp] theorem onJnl_sys (f : Jnl → Jnl) : (s.onJnl f).sys = s.sys := (rfl)
@[simp] theorem onJnl_pwr (f : Jnl → Jnl) : (s.onJnl f).pwr = s.pwr := (rfl)
@[simp] theorem onJnl_clk (f : Jnl → Jnl) : (s.onJnl f).clk = s.clk := (rfl)
@[simp] theorem onJnl_img (f : Jnl → Jnl) : (s.onJnl f).img = s.img := (rfl)
@[simp] theorem onJnl_host (f : Jnl → Jnl) : (s.onJnl f).host = s.host := (rfl)
@[simp] theorem onJnl_jnl (f : Jnl → Jnl) : (s.onJnl f).jnl = f s.jnl := (rfl)
@[simp] theorem onJnl_lane (f : Jnl → Jnl) : (s.onJnl f).lane = s.lane := (rfl)
@[simp] theorem onJnl_seam (f : Jnl → Jnl) : (s.onJnl f).seam = s.seam := (rfl)
@[simp] theorem onJnl_edg (f : Jnl → Jnl) : (s.onJnl f).edg = s.edg := (rfl)
@[simp] theorem onJnl_comp (f : Jnl → Jnl) : (s.onJnl f).comp = s.comp := (rfl)
@[simp] theorem onJnl_bnc (f : Jnl → Jnl) : (s.onJnl f).bnc = s.bnc := (rfl)
@[simp] theorem onJnl_bal (f : Jnl → Jnl) : (s.onJnl f).bal = s.bal := (rfl)
@[simp] theorem onJnl_evs (f : Jnl → Jnl) : (s.onJnl f).evs = s.evs := (rfl)
@[simp] theorem onJnl_mode (f : Jnl → Jnl) : (s.onJnl f).mode = s.mode := (rfl)
@[simp] theorem onJnl_modeQ (f : Jnl → Jnl) : (s.onJnl f).modeQ = s.modeQ := (rfl)
@[simp] theorem onJnl_adc (f : Jnl → Jnl) : (s.onJnl f).adc = s.adc := (rfl)
@[simp] theorem onJnl_cmp (f : Jnl → Jnl) : (s.onJnl f).cmp = s.cmp := (rfl)
@[simp] theorem onJnl_safe (f : Jnl → Jnl) : (s.onJnl f).safe = s.safe := (rfl)
@[simp] theorem onJnl_mesh (f : Jnl → Jnl) : (s.onJnl f).mesh = s.mesh := (rfl)
@[simp] theorem onJnl_pair (f : Jnl → Jnl) : (s.onJnl f).pair = s.pair := (rfl)

/-! onLane -/
@[simp] theorem onLane_now (f : LaneB → LaneB) : (s.onLane f).now = s.now := (rfl)
@[simp] theorem onLane_ofs (f : LaneB → LaneB) : (s.onLane f).ofs = s.ofs := (rfl)
@[simp] theorem onLane_out (f : LaneB → LaneB) : (s.onLane f).out = s.out := (rfl)
@[simp] theorem onLane_sets (f : LaneB → LaneB) : (s.onLane f).sets = s.sets := (rfl)
@[simp] theorem onLane_pts (f : LaneB → LaneB) : (s.onLane f).pts = s.pts := (rfl)
@[simp] theorem onLane_free (f : LaneB → LaneB) : (s.onLane f).free = s.free := (rfl)
@[simp] theorem onLane_pending (f : LaneB → LaneB) : (s.onLane f).pending = s.pending := (rfl)
@[simp] theorem onLane_sys (f : LaneB → LaneB) : (s.onLane f).sys = s.sys := (rfl)
@[simp] theorem onLane_pwr (f : LaneB → LaneB) : (s.onLane f).pwr = s.pwr := (rfl)
@[simp] theorem onLane_clk (f : LaneB → LaneB) : (s.onLane f).clk = s.clk := (rfl)
@[simp] theorem onLane_img (f : LaneB → LaneB) : (s.onLane f).img = s.img := (rfl)
@[simp] theorem onLane_host (f : LaneB → LaneB) : (s.onLane f).host = s.host := (rfl)
@[simp] theorem onLane_jnl (f : LaneB → LaneB) : (s.onLane f).jnl = s.jnl := (rfl)
@[simp] theorem onLane_lane (f : LaneB → LaneB) : (s.onLane f).lane = f s.lane := (rfl)
@[simp] theorem onLane_seam (f : LaneB → LaneB) : (s.onLane f).seam = s.seam := (rfl)
@[simp] theorem onLane_edg (f : LaneB → LaneB) : (s.onLane f).edg = s.edg := (rfl)
@[simp] theorem onLane_comp (f : LaneB → LaneB) : (s.onLane f).comp = s.comp := (rfl)
@[simp] theorem onLane_bnc (f : LaneB → LaneB) : (s.onLane f).bnc = s.bnc := (rfl)
@[simp] theorem onLane_bal (f : LaneB → LaneB) : (s.onLane f).bal = s.bal := (rfl)
@[simp] theorem onLane_evs (f : LaneB → LaneB) : (s.onLane f).evs = s.evs := (rfl)
@[simp] theorem onLane_mode (f : LaneB → LaneB) : (s.onLane f).mode = s.mode := (rfl)
@[simp] theorem onLane_modeQ (f : LaneB → LaneB) : (s.onLane f).modeQ = s.modeQ := (rfl)
@[simp] theorem onLane_adc (f : LaneB → LaneB) : (s.onLane f).adc = s.adc := (rfl)
@[simp] theorem onLane_cmp (f : LaneB → LaneB) : (s.onLane f).cmp = s.cmp := (rfl)
@[simp] theorem onLane_safe (f : LaneB → LaneB) : (s.onLane f).safe = s.safe := (rfl)
@[simp] theorem onLane_mesh (f : LaneB → LaneB) : (s.onLane f).mesh = s.mesh := (rfl)
@[simp] theorem onLane_pair (f : LaneB → LaneB) : (s.onLane f).pair = s.pair := (rfl)

/-! onSeam -/
@[simp] theorem onSeam_now (f : SeamB → SeamB) : (s.onSeam f).now = s.now := (rfl)
@[simp] theorem onSeam_ofs (f : SeamB → SeamB) : (s.onSeam f).ofs = s.ofs := (rfl)
@[simp] theorem onSeam_out (f : SeamB → SeamB) : (s.onSeam f).out = s.out := (rfl)
@[simp] theorem onSeam_sets (f : SeamB → SeamB) : (s.onSeam f).sets = s.sets := (rfl)
@[simp] theorem onSeam_pts (f : SeamB → SeamB) : (s.onSeam f).pts = s.pts := (rfl)
@[simp] theorem onSeam_free (f : SeamB → SeamB) : (s.onSeam f).free = s.free := (rfl)
@[simp] theorem onSeam_pending (f : SeamB → SeamB) : (s.onSeam f).pending = s.pending := (rfl)
@[simp] theorem onSeam_sys (f : SeamB → SeamB) : (s.onSeam f).sys = s.sys := (rfl)
@[simp] theorem onSeam_pwr (f : SeamB → SeamB) : (s.onSeam f).pwr = s.pwr := (rfl)
@[simp] theorem onSeam_clk (f : SeamB → SeamB) : (s.onSeam f).clk = s.clk := (rfl)
@[simp] theorem onSeam_img (f : SeamB → SeamB) : (s.onSeam f).img = s.img := (rfl)
@[simp] theorem onSeam_host (f : SeamB → SeamB) : (s.onSeam f).host = s.host := (rfl)
@[simp] theorem onSeam_jnl (f : SeamB → SeamB) : (s.onSeam f).jnl = s.jnl := (rfl)
@[simp] theorem onSeam_lane (f : SeamB → SeamB) : (s.onSeam f).lane = s.lane := (rfl)
@[simp] theorem onSeam_seam (f : SeamB → SeamB) : (s.onSeam f).seam = f s.seam := (rfl)
@[simp] theorem onSeam_edg (f : SeamB → SeamB) : (s.onSeam f).edg = s.edg := (rfl)
@[simp] theorem onSeam_comp (f : SeamB → SeamB) : (s.onSeam f).comp = s.comp := (rfl)
@[simp] theorem onSeam_bnc (f : SeamB → SeamB) : (s.onSeam f).bnc = s.bnc := (rfl)
@[simp] theorem onSeam_bal (f : SeamB → SeamB) : (s.onSeam f).bal = s.bal := (rfl)
@[simp] theorem onSeam_evs (f : SeamB → SeamB) : (s.onSeam f).evs = s.evs := (rfl)
@[simp] theorem onSeam_mode (f : SeamB → SeamB) : (s.onSeam f).mode = s.mode := (rfl)
@[simp] theorem onSeam_modeQ (f : SeamB → SeamB) : (s.onSeam f).modeQ = s.modeQ := (rfl)
@[simp] theorem onSeam_adc (f : SeamB → SeamB) : (s.onSeam f).adc = s.adc := (rfl)
@[simp] theorem onSeam_cmp (f : SeamB → SeamB) : (s.onSeam f).cmp = s.cmp := (rfl)
@[simp] theorem onSeam_safe (f : SeamB → SeamB) : (s.onSeam f).safe = s.safe := (rfl)
@[simp] theorem onSeam_mesh (f : SeamB → SeamB) : (s.onSeam f).mesh = s.mesh := (rfl)
@[simp] theorem onSeam_pair (f : SeamB → SeamB) : (s.onSeam f).pair = s.pair := (rfl)

/-! onEdg -/
@[simp] theorem onEdg_now (f : Edg → Edg) : (s.onEdg f).now = s.now := (rfl)
@[simp] theorem onEdg_ofs (f : Edg → Edg) : (s.onEdg f).ofs = s.ofs := (rfl)
@[simp] theorem onEdg_out (f : Edg → Edg) : (s.onEdg f).out = s.out := (rfl)
@[simp] theorem onEdg_sets (f : Edg → Edg) : (s.onEdg f).sets = s.sets := (rfl)
@[simp] theorem onEdg_pts (f : Edg → Edg) : (s.onEdg f).pts = s.pts := (rfl)
@[simp] theorem onEdg_free (f : Edg → Edg) : (s.onEdg f).free = s.free := (rfl)
@[simp] theorem onEdg_pending (f : Edg → Edg) : (s.onEdg f).pending = s.pending := (rfl)
@[simp] theorem onEdg_sys (f : Edg → Edg) : (s.onEdg f).sys = s.sys := (rfl)
@[simp] theorem onEdg_pwr (f : Edg → Edg) : (s.onEdg f).pwr = s.pwr := (rfl)
@[simp] theorem onEdg_clk (f : Edg → Edg) : (s.onEdg f).clk = s.clk := (rfl)
@[simp] theorem onEdg_img (f : Edg → Edg) : (s.onEdg f).img = s.img := (rfl)
@[simp] theorem onEdg_host (f : Edg → Edg) : (s.onEdg f).host = s.host := (rfl)
@[simp] theorem onEdg_jnl (f : Edg → Edg) : (s.onEdg f).jnl = s.jnl := (rfl)
@[simp] theorem onEdg_lane (f : Edg → Edg) : (s.onEdg f).lane = s.lane := (rfl)
@[simp] theorem onEdg_seam (f : Edg → Edg) : (s.onEdg f).seam = s.seam := (rfl)
@[simp] theorem onEdg_edg (f : Edg → Edg) : (s.onEdg f).edg = f s.edg := (rfl)
@[simp] theorem onEdg_comp (f : Edg → Edg) : (s.onEdg f).comp = s.comp := (rfl)
@[simp] theorem onEdg_bnc (f : Edg → Edg) : (s.onEdg f).bnc = s.bnc := (rfl)
@[simp] theorem onEdg_bal (f : Edg → Edg) : (s.onEdg f).bal = s.bal := (rfl)
@[simp] theorem onEdg_evs (f : Edg → Edg) : (s.onEdg f).evs = s.evs := (rfl)
@[simp] theorem onEdg_mode (f : Edg → Edg) : (s.onEdg f).mode = s.mode := (rfl)
@[simp] theorem onEdg_modeQ (f : Edg → Edg) : (s.onEdg f).modeQ = s.modeQ := (rfl)
@[simp] theorem onEdg_adc (f : Edg → Edg) : (s.onEdg f).adc = s.adc := (rfl)
@[simp] theorem onEdg_cmp (f : Edg → Edg) : (s.onEdg f).cmp = s.cmp := (rfl)
@[simp] theorem onEdg_safe (f : Edg → Edg) : (s.onEdg f).safe = s.safe := (rfl)
@[simp] theorem onEdg_mesh (f : Edg → Edg) : (s.onEdg f).mesh = s.mesh := (rfl)
@[simp] theorem onEdg_pair (f : Edg → Edg) : (s.onEdg f).pair = s.pair := (rfl)

/-! onComp -/
@[simp] theorem onComp_now (f : Comp → Comp) : (s.onComp f).now = s.now := (rfl)
@[simp] theorem onComp_ofs (f : Comp → Comp) : (s.onComp f).ofs = s.ofs := (rfl)
@[simp] theorem onComp_out (f : Comp → Comp) : (s.onComp f).out = s.out := (rfl)
@[simp] theorem onComp_sets (f : Comp → Comp) : (s.onComp f).sets = s.sets := (rfl)
@[simp] theorem onComp_pts (f : Comp → Comp) : (s.onComp f).pts = s.pts := (rfl)
@[simp] theorem onComp_free (f : Comp → Comp) : (s.onComp f).free = s.free := (rfl)
@[simp] theorem onComp_pending (f : Comp → Comp) : (s.onComp f).pending = s.pending := (rfl)
@[simp] theorem onComp_sys (f : Comp → Comp) : (s.onComp f).sys = s.sys := (rfl)
@[simp] theorem onComp_pwr (f : Comp → Comp) : (s.onComp f).pwr = s.pwr := (rfl)
@[simp] theorem onComp_clk (f : Comp → Comp) : (s.onComp f).clk = s.clk := (rfl)
@[simp] theorem onComp_img (f : Comp → Comp) : (s.onComp f).img = s.img := (rfl)
@[simp] theorem onComp_host (f : Comp → Comp) : (s.onComp f).host = s.host := (rfl)
@[simp] theorem onComp_jnl (f : Comp → Comp) : (s.onComp f).jnl = s.jnl := (rfl)
@[simp] theorem onComp_lane (f : Comp → Comp) : (s.onComp f).lane = s.lane := (rfl)
@[simp] theorem onComp_seam (f : Comp → Comp) : (s.onComp f).seam = s.seam := (rfl)
@[simp] theorem onComp_edg (f : Comp → Comp) : (s.onComp f).edg = s.edg := (rfl)
@[simp] theorem onComp_comp (f : Comp → Comp) : (s.onComp f).comp = f s.comp := (rfl)
@[simp] theorem onComp_bnc (f : Comp → Comp) : (s.onComp f).bnc = s.bnc := (rfl)
@[simp] theorem onComp_bal (f : Comp → Comp) : (s.onComp f).bal = s.bal := (rfl)
@[simp] theorem onComp_evs (f : Comp → Comp) : (s.onComp f).evs = s.evs := (rfl)
@[simp] theorem onComp_mode (f : Comp → Comp) : (s.onComp f).mode = s.mode := (rfl)
@[simp] theorem onComp_modeQ (f : Comp → Comp) : (s.onComp f).modeQ = s.modeQ := (rfl)
@[simp] theorem onComp_adc (f : Comp → Comp) : (s.onComp f).adc = s.adc := (rfl)
@[simp] theorem onComp_cmp (f : Comp → Comp) : (s.onComp f).cmp = s.cmp := (rfl)
@[simp] theorem onComp_safe (f : Comp → Comp) : (s.onComp f).safe = s.safe := (rfl)
@[simp] theorem onComp_mesh (f : Comp → Comp) : (s.onComp f).mesh = s.mesh := (rfl)
@[simp] theorem onComp_pair (f : Comp → Comp) : (s.onComp f).pair = s.pair := (rfl)

/-! onBnc -/
@[simp] theorem onBnc_now (f : Bnc → Bnc) : (s.onBnc f).now = s.now := (rfl)
@[simp] theorem onBnc_ofs (f : Bnc → Bnc) : (s.onBnc f).ofs = s.ofs := (rfl)
@[simp] theorem onBnc_out (f : Bnc → Bnc) : (s.onBnc f).out = s.out := (rfl)
@[simp] theorem onBnc_sets (f : Bnc → Bnc) : (s.onBnc f).sets = s.sets := (rfl)
@[simp] theorem onBnc_pts (f : Bnc → Bnc) : (s.onBnc f).pts = s.pts := (rfl)
@[simp] theorem onBnc_free (f : Bnc → Bnc) : (s.onBnc f).free = s.free := (rfl)
@[simp] theorem onBnc_pending (f : Bnc → Bnc) : (s.onBnc f).pending = s.pending := (rfl)
@[simp] theorem onBnc_sys (f : Bnc → Bnc) : (s.onBnc f).sys = s.sys := (rfl)
@[simp] theorem onBnc_pwr (f : Bnc → Bnc) : (s.onBnc f).pwr = s.pwr := (rfl)
@[simp] theorem onBnc_clk (f : Bnc → Bnc) : (s.onBnc f).clk = s.clk := (rfl)
@[simp] theorem onBnc_img (f : Bnc → Bnc) : (s.onBnc f).img = s.img := (rfl)
@[simp] theorem onBnc_host (f : Bnc → Bnc) : (s.onBnc f).host = s.host := (rfl)
@[simp] theorem onBnc_jnl (f : Bnc → Bnc) : (s.onBnc f).jnl = s.jnl := (rfl)
@[simp] theorem onBnc_lane (f : Bnc → Bnc) : (s.onBnc f).lane = s.lane := (rfl)
@[simp] theorem onBnc_seam (f : Bnc → Bnc) : (s.onBnc f).seam = s.seam := (rfl)
@[simp] theorem onBnc_edg (f : Bnc → Bnc) : (s.onBnc f).edg = s.edg := (rfl)
@[simp] theorem onBnc_comp (f : Bnc → Bnc) : (s.onBnc f).comp = s.comp := (rfl)
@[simp] theorem onBnc_bnc (f : Bnc → Bnc) : (s.onBnc f).bnc = f s.bnc := (rfl)
@[simp] theorem onBnc_bal (f : Bnc → Bnc) : (s.onBnc f).bal = s.bal := (rfl)
@[simp] theorem onBnc_evs (f : Bnc → Bnc) : (s.onBnc f).evs = s.evs := (rfl)
@[simp] theorem onBnc_mode (f : Bnc → Bnc) : (s.onBnc f).mode = s.mode := (rfl)
@[simp] theorem onBnc_modeQ (f : Bnc → Bnc) : (s.onBnc f).modeQ = s.modeQ := (rfl)
@[simp] theorem onBnc_adc (f : Bnc → Bnc) : (s.onBnc f).adc = s.adc := (rfl)
@[simp] theorem onBnc_cmp (f : Bnc → Bnc) : (s.onBnc f).cmp = s.cmp := (rfl)
@[simp] theorem onBnc_safe (f : Bnc → Bnc) : (s.onBnc f).safe = s.safe := (rfl)
@[simp] theorem onBnc_mesh (f : Bnc → Bnc) : (s.onBnc f).mesh = s.mesh := (rfl)
@[simp] theorem onBnc_pair (f : Bnc → Bnc) : (s.onBnc f).pair = s.pair := (rfl)

/-! onBal -/
@[simp] theorem onBal_now (f : Bal → Bal) : (s.onBal f).now = s.now := (rfl)
@[simp] theorem onBal_ofs (f : Bal → Bal) : (s.onBal f).ofs = s.ofs := (rfl)
@[simp] theorem onBal_out (f : Bal → Bal) : (s.onBal f).out = s.out := (rfl)
@[simp] theorem onBal_sets (f : Bal → Bal) : (s.onBal f).sets = s.sets := (rfl)
@[simp] theorem onBal_pts (f : Bal → Bal) : (s.onBal f).pts = s.pts := (rfl)
@[simp] theorem onBal_free (f : Bal → Bal) : (s.onBal f).free = s.free := (rfl)
@[simp] theorem onBal_pending (f : Bal → Bal) : (s.onBal f).pending = s.pending := (rfl)
@[simp] theorem onBal_sys (f : Bal → Bal) : (s.onBal f).sys = s.sys := (rfl)
@[simp] theorem onBal_pwr (f : Bal → Bal) : (s.onBal f).pwr = s.pwr := (rfl)
@[simp] theorem onBal_clk (f : Bal → Bal) : (s.onBal f).clk = s.clk := (rfl)
@[simp] theorem onBal_img (f : Bal → Bal) : (s.onBal f).img = s.img := (rfl)
@[simp] theorem onBal_host (f : Bal → Bal) : (s.onBal f).host = s.host := (rfl)
@[simp] theorem onBal_jnl (f : Bal → Bal) : (s.onBal f).jnl = s.jnl := (rfl)
@[simp] theorem onBal_lane (f : Bal → Bal) : (s.onBal f).lane = s.lane := (rfl)
@[simp] theorem onBal_seam (f : Bal → Bal) : (s.onBal f).seam = s.seam := (rfl)
@[simp] theorem onBal_edg (f : Bal → Bal) : (s.onBal f).edg = s.edg := (rfl)
@[simp] theorem onBal_comp (f : Bal → Bal) : (s.onBal f).comp = s.comp := (rfl)
@[simp] theorem onBal_bnc (f : Bal → Bal) : (s.onBal f).bnc = s.bnc := (rfl)
@[simp] theorem onBal_bal (f : Bal → Bal) : (s.onBal f).bal = f s.bal := (rfl)
@[simp] theorem onBal_evs (f : Bal → Bal) : (s.onBal f).evs = s.evs := (rfl)
@[simp] theorem onBal_mode (f : Bal → Bal) : (s.onBal f).mode = s.mode := (rfl)
@[simp] theorem onBal_modeQ (f : Bal → Bal) : (s.onBal f).modeQ = s.modeQ := (rfl)
@[simp] theorem onBal_adc (f : Bal → Bal) : (s.onBal f).adc = s.adc := (rfl)
@[simp] theorem onBal_cmp (f : Bal → Bal) : (s.onBal f).cmp = s.cmp := (rfl)
@[simp] theorem onBal_safe (f : Bal → Bal) : (s.onBal f).safe = s.safe := (rfl)
@[simp] theorem onBal_mesh (f : Bal → Bal) : (s.onBal f).mesh = s.mesh := (rfl)
@[simp] theorem onBal_pair (f : Bal → Bal) : (s.onBal f).pair = s.pair := (rfl)

/-! onEvs -/
@[simp] theorem onEvs_now (f : Evs → Evs) : (s.onEvs f).now = s.now := (rfl)
@[simp] theorem onEvs_ofs (f : Evs → Evs) : (s.onEvs f).ofs = s.ofs := (rfl)
@[simp] theorem onEvs_out (f : Evs → Evs) : (s.onEvs f).out = s.out := (rfl)
@[simp] theorem onEvs_sets (f : Evs → Evs) : (s.onEvs f).sets = s.sets := (rfl)
@[simp] theorem onEvs_pts (f : Evs → Evs) : (s.onEvs f).pts = s.pts := (rfl)
@[simp] theorem onEvs_free (f : Evs → Evs) : (s.onEvs f).free = s.free := (rfl)
@[simp] theorem onEvs_pending (f : Evs → Evs) : (s.onEvs f).pending = s.pending := (rfl)
@[simp] theorem onEvs_sys (f : Evs → Evs) : (s.onEvs f).sys = s.sys := (rfl)
@[simp] theorem onEvs_pwr (f : Evs → Evs) : (s.onEvs f).pwr = s.pwr := (rfl)
@[simp] theorem onEvs_clk (f : Evs → Evs) : (s.onEvs f).clk = s.clk := (rfl)
@[simp] theorem onEvs_img (f : Evs → Evs) : (s.onEvs f).img = s.img := (rfl)
@[simp] theorem onEvs_host (f : Evs → Evs) : (s.onEvs f).host = s.host := (rfl)
@[simp] theorem onEvs_jnl (f : Evs → Evs) : (s.onEvs f).jnl = s.jnl := (rfl)
@[simp] theorem onEvs_lane (f : Evs → Evs) : (s.onEvs f).lane = s.lane := (rfl)
@[simp] theorem onEvs_seam (f : Evs → Evs) : (s.onEvs f).seam = s.seam := (rfl)
@[simp] theorem onEvs_edg (f : Evs → Evs) : (s.onEvs f).edg = s.edg := (rfl)
@[simp] theorem onEvs_comp (f : Evs → Evs) : (s.onEvs f).comp = s.comp := (rfl)
@[simp] theorem onEvs_bnc (f : Evs → Evs) : (s.onEvs f).bnc = s.bnc := (rfl)
@[simp] theorem onEvs_bal (f : Evs → Evs) : (s.onEvs f).bal = s.bal := (rfl)
@[simp] theorem onEvs_evs (f : Evs → Evs) : (s.onEvs f).evs = f s.evs := (rfl)
@[simp] theorem onEvs_mode (f : Evs → Evs) : (s.onEvs f).mode = s.mode := (rfl)
@[simp] theorem onEvs_modeQ (f : Evs → Evs) : (s.onEvs f).modeQ = s.modeQ := (rfl)
@[simp] theorem onEvs_adc (f : Evs → Evs) : (s.onEvs f).adc = s.adc := (rfl)
@[simp] theorem onEvs_cmp (f : Evs → Evs) : (s.onEvs f).cmp = s.cmp := (rfl)
@[simp] theorem onEvs_safe (f : Evs → Evs) : (s.onEvs f).safe = s.safe := (rfl)
@[simp] theorem onEvs_mesh (f : Evs → Evs) : (s.onEvs f).mesh = s.mesh := (rfl)
@[simp] theorem onEvs_pair (f : Evs → Evs) : (s.onEvs f).pair = s.pair := (rfl)

/-! onMode -/
@[simp] theorem onMode_now (f : ModeB → ModeB) : (s.onMode f).now = s.now := (rfl)
@[simp] theorem onMode_ofs (f : ModeB → ModeB) : (s.onMode f).ofs = s.ofs := (rfl)
@[simp] theorem onMode_out (f : ModeB → ModeB) : (s.onMode f).out = s.out := (rfl)
@[simp] theorem onMode_sets (f : ModeB → ModeB) : (s.onMode f).sets = s.sets := (rfl)
@[simp] theorem onMode_pts (f : ModeB → ModeB) : (s.onMode f).pts = s.pts := (rfl)
@[simp] theorem onMode_free (f : ModeB → ModeB) : (s.onMode f).free = s.free := (rfl)
@[simp] theorem onMode_pending (f : ModeB → ModeB) : (s.onMode f).pending = s.pending := (rfl)
@[simp] theorem onMode_sys (f : ModeB → ModeB) : (s.onMode f).sys = s.sys := (rfl)
@[simp] theorem onMode_pwr (f : ModeB → ModeB) : (s.onMode f).pwr = s.pwr := (rfl)
@[simp] theorem onMode_clk (f : ModeB → ModeB) : (s.onMode f).clk = s.clk := (rfl)
@[simp] theorem onMode_img (f : ModeB → ModeB) : (s.onMode f).img = s.img := (rfl)
@[simp] theorem onMode_host (f : ModeB → ModeB) : (s.onMode f).host = s.host := (rfl)
@[simp] theorem onMode_jnl (f : ModeB → ModeB) : (s.onMode f).jnl = s.jnl := (rfl)
@[simp] theorem onMode_lane (f : ModeB → ModeB) : (s.onMode f).lane = s.lane := (rfl)
@[simp] theorem onMode_seam (f : ModeB → ModeB) : (s.onMode f).seam = s.seam := (rfl)
@[simp] theorem onMode_edg (f : ModeB → ModeB) : (s.onMode f).edg = s.edg := (rfl)
@[simp] theorem onMode_comp (f : ModeB → ModeB) : (s.onMode f).comp = s.comp := (rfl)
@[simp] theorem onMode_bnc (f : ModeB → ModeB) : (s.onMode f).bnc = s.bnc := (rfl)
@[simp] theorem onMode_bal (f : ModeB → ModeB) : (s.onMode f).bal = s.bal := (rfl)
@[simp] theorem onMode_evs (f : ModeB → ModeB) : (s.onMode f).evs = s.evs := (rfl)
@[simp] theorem onMode_mode (f : ModeB → ModeB) : (s.onMode f).mode = f s.mode := (rfl)
@[simp] theorem onMode_modeQ (f : ModeB → ModeB) : (s.onMode f).modeQ = s.modeQ := (rfl)
@[simp] theorem onMode_adc (f : ModeB → ModeB) : (s.onMode f).adc = s.adc := (rfl)
@[simp] theorem onMode_cmp (f : ModeB → ModeB) : (s.onMode f).cmp = s.cmp := (rfl)
@[simp] theorem onMode_safe (f : ModeB → ModeB) : (s.onMode f).safe = s.safe := (rfl)
@[simp] theorem onMode_mesh (f : ModeB → ModeB) : (s.onMode f).mesh = s.mesh := (rfl)
@[simp] theorem onMode_pair (f : ModeB → ModeB) : (s.onMode f).pair = s.pair := (rfl)

/-! onModeQ -/
@[simp] theorem onModeQ_now (f : ModeQ → ModeQ) : (s.onModeQ f).now = s.now := (rfl)
@[simp] theorem onModeQ_ofs (f : ModeQ → ModeQ) : (s.onModeQ f).ofs = s.ofs := (rfl)
@[simp] theorem onModeQ_out (f : ModeQ → ModeQ) : (s.onModeQ f).out = s.out := (rfl)
@[simp] theorem onModeQ_sets (f : ModeQ → ModeQ) : (s.onModeQ f).sets = s.sets := (rfl)
@[simp] theorem onModeQ_pts (f : ModeQ → ModeQ) : (s.onModeQ f).pts = s.pts := (rfl)
@[simp] theorem onModeQ_free (f : ModeQ → ModeQ) : (s.onModeQ f).free = s.free := (rfl)
@[simp] theorem onModeQ_pending (f : ModeQ → ModeQ) : (s.onModeQ f).pending = s.pending := (rfl)
@[simp] theorem onModeQ_sys (f : ModeQ → ModeQ) : (s.onModeQ f).sys = s.sys := (rfl)
@[simp] theorem onModeQ_pwr (f : ModeQ → ModeQ) : (s.onModeQ f).pwr = s.pwr := (rfl)
@[simp] theorem onModeQ_clk (f : ModeQ → ModeQ) : (s.onModeQ f).clk = s.clk := (rfl)
@[simp] theorem onModeQ_img (f : ModeQ → ModeQ) : (s.onModeQ f).img = s.img := (rfl)
@[simp] theorem onModeQ_host (f : ModeQ → ModeQ) : (s.onModeQ f).host = s.host := (rfl)
@[simp] theorem onModeQ_jnl (f : ModeQ → ModeQ) : (s.onModeQ f).jnl = s.jnl := (rfl)
@[simp] theorem onModeQ_lane (f : ModeQ → ModeQ) : (s.onModeQ f).lane = s.lane := (rfl)
@[simp] theorem onModeQ_seam (f : ModeQ → ModeQ) : (s.onModeQ f).seam = s.seam := (rfl)
@[simp] theorem onModeQ_edg (f : ModeQ → ModeQ) : (s.onModeQ f).edg = s.edg := (rfl)
@[simp] theorem onModeQ_comp (f : ModeQ → ModeQ) : (s.onModeQ f).comp = s.comp := (rfl)
@[simp] theorem onModeQ_bnc (f : ModeQ → ModeQ) : (s.onModeQ f).bnc = s.bnc := (rfl)
@[simp] theorem onModeQ_bal (f : ModeQ → ModeQ) : (s.onModeQ f).bal = s.bal := (rfl)
@[simp] theorem onModeQ_evs (f : ModeQ → ModeQ) : (s.onModeQ f).evs = s.evs := (rfl)
@[simp] theorem onModeQ_mode (f : ModeQ → ModeQ) : (s.onModeQ f).mode = s.mode := (rfl)
@[simp] theorem onModeQ_modeQ (f : ModeQ → ModeQ) : (s.onModeQ f).modeQ = f s.modeQ := (rfl)
@[simp] theorem onModeQ_adc (f : ModeQ → ModeQ) : (s.onModeQ f).adc = s.adc := (rfl)
@[simp] theorem onModeQ_cmp (f : ModeQ → ModeQ) : (s.onModeQ f).cmp = s.cmp := (rfl)
@[simp] theorem onModeQ_safe (f : ModeQ → ModeQ) : (s.onModeQ f).safe = s.safe := (rfl)
@[simp] theorem onModeQ_mesh (f : ModeQ → ModeQ) : (s.onModeQ f).mesh = s.mesh := (rfl)
@[simp] theorem onModeQ_pair (f : ModeQ → ModeQ) : (s.onModeQ f).pair = s.pair := (rfl)

/-! onAdc -/
@[simp] theorem onAdc_now (f : AdcB → AdcB) : (s.onAdc f).now = s.now := (rfl)
@[simp] theorem onAdc_ofs (f : AdcB → AdcB) : (s.onAdc f).ofs = s.ofs := (rfl)
@[simp] theorem onAdc_out (f : AdcB → AdcB) : (s.onAdc f).out = s.out := (rfl)
@[simp] theorem onAdc_sets (f : AdcB → AdcB) : (s.onAdc f).sets = s.sets := (rfl)
@[simp] theorem onAdc_pts (f : AdcB → AdcB) : (s.onAdc f).pts = s.pts := (rfl)
@[simp] theorem onAdc_free (f : AdcB → AdcB) : (s.onAdc f).free = s.free := (rfl)
@[simp] theorem onAdc_pending (f : AdcB → AdcB) : (s.onAdc f).pending = s.pending := (rfl)
@[simp] theorem onAdc_sys (f : AdcB → AdcB) : (s.onAdc f).sys = s.sys := (rfl)
@[simp] theorem onAdc_pwr (f : AdcB → AdcB) : (s.onAdc f).pwr = s.pwr := (rfl)
@[simp] theorem onAdc_clk (f : AdcB → AdcB) : (s.onAdc f).clk = s.clk := (rfl)
@[simp] theorem onAdc_img (f : AdcB → AdcB) : (s.onAdc f).img = s.img := (rfl)
@[simp] theorem onAdc_host (f : AdcB → AdcB) : (s.onAdc f).host = s.host := (rfl)
@[simp] theorem onAdc_jnl (f : AdcB → AdcB) : (s.onAdc f).jnl = s.jnl := (rfl)
@[simp] theorem onAdc_lane (f : AdcB → AdcB) : (s.onAdc f).lane = s.lane := (rfl)
@[simp] theorem onAdc_seam (f : AdcB → AdcB) : (s.onAdc f).seam = s.seam := (rfl)
@[simp] theorem onAdc_edg (f : AdcB → AdcB) : (s.onAdc f).edg = s.edg := (rfl)
@[simp] theorem onAdc_comp (f : AdcB → AdcB) : (s.onAdc f).comp = s.comp := (rfl)
@[simp] theorem onAdc_bnc (f : AdcB → AdcB) : (s.onAdc f).bnc = s.bnc := (rfl)
@[simp] theorem onAdc_bal (f : AdcB → AdcB) : (s.onAdc f).bal = s.bal := (rfl)
@[simp] theorem onAdc_evs (f : AdcB → AdcB) : (s.onAdc f).evs = s.evs := (rfl)
@[simp] theorem onAdc_mode (f : AdcB → AdcB) : (s.onAdc f).mode = s.mode := (rfl)
@[simp] theorem onAdc_modeQ (f : AdcB → AdcB) : (s.onAdc f).modeQ = s.modeQ := (rfl)
@[simp] theorem onAdc_adc (f : AdcB → AdcB) : (s.onAdc f).adc = f s.adc := (rfl)
@[simp] theorem onAdc_cmp (f : AdcB → AdcB) : (s.onAdc f).cmp = s.cmp := (rfl)
@[simp] theorem onAdc_safe (f : AdcB → AdcB) : (s.onAdc f).safe = s.safe := (rfl)
@[simp] theorem onAdc_mesh (f : AdcB → AdcB) : (s.onAdc f).mesh = s.mesh := (rfl)
@[simp] theorem onAdc_pair (f : AdcB → AdcB) : (s.onAdc f).pair = s.pair := (rfl)

/-! onCmp -/
@[simp] theorem onCmp_now (f : CmpB → CmpB) : (s.onCmp f).now = s.now := (rfl)
@[simp] theorem onCmp_ofs (f : CmpB → CmpB) : (s.onCmp f).ofs = s.ofs := (rfl)
@[simp] theorem onCmp_out (f : CmpB → CmpB) : (s.onCmp f).out = s.out := (rfl)
@[simp] theorem onCmp_sets (f : CmpB → CmpB) : (s.onCmp f).sets = s.sets := (rfl)
@[simp] theorem onCmp_pts (f : CmpB → CmpB) : (s.onCmp f).pts = s.pts := (rfl)
@[simp] theorem onCmp_free (f : CmpB → CmpB) : (s.onCmp f).free = s.free := (rfl)
@[simp] theorem onCmp_pending (f : CmpB → CmpB) : (s.onCmp f).pending = s.pending := (rfl)
@[simp] theorem onCmp_sys (f : CmpB → CmpB) : (s.onCmp f).sys = s.sys := (rfl)
@[simp] theorem onCmp_pwr (f : CmpB → CmpB) : (s.onCmp f).pwr = s.pwr := (rfl)
@[simp] theorem onCmp_clk (f : CmpB → CmpB) : (s.onCmp f).clk = s.clk := (rfl)
@[simp] theorem onCmp_img (f : CmpB → CmpB) : (s.onCmp f).img = s.img := (rfl)
@[simp] theorem onCmp_host (f : CmpB → CmpB) : (s.onCmp f).host = s.host := (rfl)
@[simp] theorem onCmp_jnl (f : CmpB → CmpB) : (s.onCmp f).jnl = s.jnl := (rfl)
@[simp] theorem onCmp_lane (f : CmpB → CmpB) : (s.onCmp f).lane = s.lane := (rfl)
@[simp] theorem onCmp_seam (f : CmpB → CmpB) : (s.onCmp f).seam = s.seam := (rfl)
@[simp] theorem onCmp_edg (f : CmpB → CmpB) : (s.onCmp f).edg = s.edg := (rfl)
@[simp] theorem onCmp_comp (f : CmpB → CmpB) : (s.onCmp f).comp = s.comp := (rfl)
@[simp] theorem onCmp_bnc (f : CmpB → CmpB) : (s.onCmp f).bnc = s.bnc := (rfl)
@[simp] theorem onCmp_bal (f : CmpB → CmpB) : (s.onCmp f).bal = s.bal := (rfl)
@[simp] theorem onCmp_evs (f : CmpB → CmpB) : (s.onCmp f).evs = s.evs := (rfl)
@[simp] theorem onCmp_mode (f : CmpB → CmpB) : (s.onCmp f).mode = s.mode := (rfl)
@[simp] theorem onCmp_modeQ (f : CmpB → CmpB) : (s.onCmp f).modeQ = s.modeQ := (rfl)
@[simp] theorem onCmp_adc (f : CmpB → CmpB) : (s.onCmp f).adc = s.adc := (rfl)
@[simp] theorem onCmp_cmp (f : CmpB → CmpB) : (s.onCmp f).cmp = f s.cmp := (rfl)
@[simp] theorem onCmp_safe (f : CmpB → CmpB) : (s.onCmp f).safe = s.safe := (rfl)
@[simp] theorem onCmp_mesh (f : CmpB → CmpB) : (s.onCmp f).mesh = s.mesh := (rfl)
@[simp] theorem onCmp_pair (f : CmpB → CmpB) : (s.onCmp f).pair = s.pair := (rfl)

/-! onSafe -/
@[simp] theorem onSafe_now (f : Safe → Safe) : (s.onSafe f).now = s.now := (rfl)
@[simp] theorem onSafe_ofs (f : Safe → Safe) : (s.onSafe f).ofs = s.ofs := (rfl)
@[simp] theorem onSafe_out (f : Safe → Safe) : (s.onSafe f).out = s.out := (rfl)
@[simp] theorem onSafe_sets (f : Safe → Safe) : (s.onSafe f).sets = s.sets := (rfl)
@[simp] theorem onSafe_pts (f : Safe → Safe) : (s.onSafe f).pts = s.pts := (rfl)
@[simp] theorem onSafe_free (f : Safe → Safe) : (s.onSafe f).free = s.free := (rfl)
@[simp] theorem onSafe_pending (f : Safe → Safe) : (s.onSafe f).pending = s.pending := (rfl)
@[simp] theorem onSafe_sys (f : Safe → Safe) : (s.onSafe f).sys = s.sys := (rfl)
@[simp] theorem onSafe_pwr (f : Safe → Safe) : (s.onSafe f).pwr = s.pwr := (rfl)
@[simp] theorem onSafe_clk (f : Safe → Safe) : (s.onSafe f).clk = s.clk := (rfl)
@[simp] theorem onSafe_img (f : Safe → Safe) : (s.onSafe f).img = s.img := (rfl)
@[simp] theorem onSafe_host (f : Safe → Safe) : (s.onSafe f).host = s.host := (rfl)
@[simp] theorem onSafe_jnl (f : Safe → Safe) : (s.onSafe f).jnl = s.jnl := (rfl)
@[simp] theorem onSafe_lane (f : Safe → Safe) : (s.onSafe f).lane = s.lane := (rfl)
@[simp] theorem onSafe_seam (f : Safe → Safe) : (s.onSafe f).seam = s.seam := (rfl)
@[simp] theorem onSafe_edg (f : Safe → Safe) : (s.onSafe f).edg = s.edg := (rfl)
@[simp] theorem onSafe_comp (f : Safe → Safe) : (s.onSafe f).comp = s.comp := (rfl)
@[simp] theorem onSafe_bnc (f : Safe → Safe) : (s.onSafe f).bnc = s.bnc := (rfl)
@[simp] theorem onSafe_bal (f : Safe → Safe) : (s.onSafe f).bal = s.bal := (rfl)
@[simp] theorem onSafe_evs (f : Safe → Safe) : (s.onSafe f).evs = s.evs := (rfl)
@[simp] theorem onSafe_mode (f : Safe → Safe) : (s.onSafe f).mode = s.mode := (rfl)
@[simp] theorem onSafe_modeQ (f : Safe → Safe) : (s.onSafe f).modeQ = s.modeQ := (rfl)
@[simp] theorem onSafe_adc (f : Safe → Safe) : (s.onSafe f).adc = s.adc := (rfl)
@[simp] theorem onSafe_cmp (f : Safe → Safe) : (s.onSafe f).cmp = s.cmp := (rfl)
@[simp] theorem onSafe_safe (f : Safe → Safe) : (s.onSafe f).safe = f s.safe := (rfl)
@[simp] theorem onSafe_mesh (f : Safe → Safe) : (s.onSafe f).mesh = s.mesh := (rfl)
@[simp] theorem onSafe_pair (f : Safe → Safe) : (s.onSafe f).pair = s.pair := (rfl)

/-! onMesh -/
@[simp] theorem onMesh_now (f : Mesh → Mesh) : (s.onMesh f).now = s.now := (rfl)
@[simp] theorem onMesh_ofs (f : Mesh → Mesh) : (s.onMesh f).ofs = s.ofs := (rfl)
@[simp] theorem onMesh_out (f : Mesh → Mesh) : (s.onMesh f).out = s.out := (rfl)
@[simp] theorem onMesh_sets (f : Mesh → Mesh) : (s.onMesh f).sets = s.sets := (rfl)
@[simp] theorem onMesh_pts (f : Mesh → Mesh) : (s.onMesh f).pts = s.pts := (rfl)
@[simp] theorem onMesh_free (f : Mesh → Mesh) : (s.onMesh f).free = s.free := (rfl)
@[simp] theorem onMesh_pending (f : Mesh → Mesh) : (s.onMesh f).pending = s.pending := (rfl)
@[simp] theorem onMesh_sys (f : Mesh → Mesh) : (s.onMesh f).sys = s.sys := (rfl)
@[simp] theorem onMesh_pwr (f : Mesh → Mesh) : (s.onMesh f).pwr = s.pwr := (rfl)
@[simp] theorem onMesh_clk (f : Mesh → Mesh) : (s.onMesh f).clk = s.clk := (rfl)
@[simp] theorem onMesh_img (f : Mesh → Mesh) : (s.onMesh f).img = s.img := (rfl)
@[simp] theorem onMesh_host (f : Mesh → Mesh) : (s.onMesh f).host = s.host := (rfl)
@[simp] theorem onMesh_jnl (f : Mesh → Mesh) : (s.onMesh f).jnl = s.jnl := (rfl)
@[simp] theorem onMesh_lane (f : Mesh → Mesh) : (s.onMesh f).lane = s.lane := (rfl)
@[simp] theorem onMesh_seam (f : Mesh → Mesh) : (s.onMesh f).seam = s.seam := (rfl)
@[simp] theorem onMesh_edg (f : Mesh → Mesh) : (s.onMesh f).edg = s.edg := (rfl)
@[simp] theorem onMesh_comp (f : Mesh → Mesh) : (s.onMesh f).comp = s.comp := (rfl)
@[simp] theorem onMesh_bnc (f : Mesh → Mesh) : (s.onMesh f).bnc = s.bnc := (rfl)
@[simp] theorem onMesh_bal (f : Mesh → Mesh) : (s.onMesh f).bal = s.bal := (rfl)
@[simp] theorem onMesh_evs (f : Mesh → Mesh) : (s.onMesh f).evs = s.evs := (rfl)
@[simp] theorem onMesh_mode (f : Mesh → Mesh) : (s.onMesh f).mode = s.mode := (rfl)
@[simp] theorem onMesh_modeQ (f : Mesh → Mesh) : (s.onMesh f).modeQ = s.modeQ := (rfl)
@[simp] theorem onMesh_adc (f : Mesh → Mesh) : (s.onMesh f).adc = s.adc := (rfl)
@[simp] theorem onMesh_cmp (f : Mesh → Mesh) : (s.onMesh f).cmp = s.cmp := (rfl)
@[simp] theorem onMesh_safe (f : Mesh → Mesh) : (s.onMesh f).safe = s.safe := (rfl)
@[simp] theorem onMesh_mesh (f : Mesh → Mesh) : (s.onMesh f).mesh = f s.mesh := (rfl)
@[simp] theorem onMesh_pair (f : Mesh → Mesh) : (s.onMesh f).pair = s.pair := (rfl)

/-! onPair -/
@[simp] theorem onPair_now (f : PairB → PairB) : (s.onPair f).now = s.now := (rfl)
@[simp] theorem onPair_ofs (f : PairB → PairB) : (s.onPair f).ofs = s.ofs := (rfl)
@[simp] theorem onPair_out (f : PairB → PairB) : (s.onPair f).out = s.out := (rfl)
@[simp] theorem onPair_sets (f : PairB → PairB) : (s.onPair f).sets = s.sets := (rfl)
@[simp] theorem onPair_pts (f : PairB → PairB) : (s.onPair f).pts = s.pts := (rfl)
@[simp] theorem onPair_free (f : PairB → PairB) : (s.onPair f).free = s.free := (rfl)
@[simp] theorem onPair_pending (f : PairB → PairB) : (s.onPair f).pending = s.pending := (rfl)
@[simp] theorem onPair_sys (f : PairB → PairB) : (s.onPair f).sys = s.sys := (rfl)
@[simp] theorem onPair_pwr (f : PairB → PairB) : (s.onPair f).pwr = s.pwr := (rfl)
@[simp] theorem onPair_clk (f : PairB → PairB) : (s.onPair f).clk = s.clk := (rfl)
@[simp] theorem onPair_img (f : PairB → PairB) : (s.onPair f).img = s.img := (rfl)
@[simp] theorem onPair_host (f : PairB → PairB) : (s.onPair f).host = s.host := (rfl)
@[simp] theorem onPair_jnl (f : PairB → PairB) : (s.onPair f).jnl = s.jnl := (rfl)
@[simp] theorem onPair_lane (f : PairB → PairB) : (s.onPair f).lane = s.lane := (rfl)
@[simp] theorem onPair_seam (f : PairB → PairB) : (s.onPair f).seam = s.seam := (rfl)
@[simp] theorem onPair_edg (f : PairB → PairB) : (s.onPair f).edg = s.edg := (rfl)
@[simp] theorem onPair_comp (f : PairB → PairB) : (s.onPair f).comp = s.comp := (rfl)
@[simp] theorem onPair_bnc (f : PairB → PairB) : (s.onPair f).bnc = s.bnc := (rfl)
@[simp] theorem onPair_bal (f : PairB → PairB) : (s.onPair f).bal = s.bal := (rfl)
@[simp] theorem onPair_evs (f : PairB → PairB) : (s.onPair f).evs = s.evs := (rfl)
@[simp] theorem onPair_mode (f : PairB → PairB) : (s.onPair f).mode = s.mode := (rfl)
@[simp] theorem onPair_modeQ (f : PairB → PairB) : (s.onPair f).modeQ = s.modeQ := (rfl)
@[simp] theorem onPair_adc (f : PairB → PairB) : (s.onPair f).adc = s.adc := (rfl)
@[simp] theorem onPair_cmp (f : PairB → PairB) : (s.onPair f).cmp = s.cmp := (rfl)
@[simp] theorem onPair_safe (f : PairB → PairB) : (s.onPair f).safe = s.safe := (rfl)
@[simp] theorem onPair_mesh (f : PairB → PairB) : (s.onPair f).mesh = s.mesh := (rfl)
@[simp] theorem onPair_pair (f : PairB → PairB) : (s.onPair f).pair = f s.pair := (rfl)

/-! emit -/
@[simp] theorem emit_now (o : Out) : (s.emit o).now = s.now := (rfl)
@[simp] theorem emit_ofs (o : Out) : (s.emit o).ofs = s.ofs := (rfl)
@[simp] theorem emit_out (o : Out) : (s.emit o).out = s.out ++ [o] := (rfl)
@[simp] theorem emit_sets (o : Out) : (s.emit o).sets = s.sets := (rfl)
@[simp] theorem emit_pts (o : Out) : (s.emit o).pts = s.pts := (rfl)
@[simp] theorem emit_free (o : Out) : (s.emit o).free = s.free := (rfl)
@[simp] theorem emit_pending (o : Out) : (s.emit o).pending = s.pending := (rfl)
@[simp] theorem emit_sys (o : Out) : (s.emit o).sys = s.sys := (rfl)
@[simp] theorem emit_pwr (o : Out) : (s.emit o).pwr = s.pwr := (rfl)
@[simp] theorem emit_clk (o : Out) : (s.emit o).clk = s.clk := (rfl)
@[simp] theorem emit_img (o : Out) : (s.emit o).img = s.img := (rfl)
@[simp] theorem emit_host (o : Out) : (s.emit o).host = s.host := (rfl)
@[simp] theorem emit_jnl (o : Out) : (s.emit o).jnl = s.jnl := (rfl)
@[simp] theorem emit_lane (o : Out) : (s.emit o).lane = s.lane := (rfl)
@[simp] theorem emit_seam (o : Out) : (s.emit o).seam = s.seam := (rfl)
@[simp] theorem emit_edg (o : Out) : (s.emit o).edg = s.edg := (rfl)
@[simp] theorem emit_comp (o : Out) : (s.emit o).comp = s.comp := (rfl)
@[simp] theorem emit_bnc (o : Out) : (s.emit o).bnc = s.bnc := (rfl)
@[simp] theorem emit_bal (o : Out) : (s.emit o).bal = s.bal := (rfl)
@[simp] theorem emit_evs (o : Out) : (s.emit o).evs = s.evs := (rfl)
@[simp] theorem emit_mode (o : Out) : (s.emit o).mode = s.mode := (rfl)
@[simp] theorem emit_modeQ (o : Out) : (s.emit o).modeQ = s.modeQ := (rfl)
@[simp] theorem emit_adc (o : Out) : (s.emit o).adc = s.adc := (rfl)
@[simp] theorem emit_cmp (o : Out) : (s.emit o).cmp = s.cmp := (rfl)
@[simp] theorem emit_safe (o : Out) : (s.emit o).safe = s.safe := (rfl)
@[simp] theorem emit_mesh (o : Out) : (s.emit o).mesh = s.mesh := (rfl)
@[simp] theorem emit_pair (o : Out) : (s.emit o).pair = s.pair := (rfl)

/-! emits -/
@[simp] theorem emits_now (l : List Out) : (s.emits l).now = s.now := (rfl)
@[simp] theorem emits_ofs (l : List Out) : (s.emits l).ofs = s.ofs := (rfl)
@[simp] theorem emits_out (l : List Out) : (s.emits l).out = s.out ++ l := (rfl)
@[simp] theorem emits_sets (l : List Out) : (s.emits l).sets = s.sets := (rfl)
@[simp] theorem emits_pts (l : List Out) : (s.emits l).pts = s.pts := (rfl)
@[simp] theorem emits_free (l : List Out) : (s.emits l).free = s.free := (rfl)
@[simp] theorem emits_pending (l : List Out) : (s.emits l).pending = s.pending := (rfl)
@[simp] theorem emits_sys (l : List Out) : (s.emits l).sys = s.sys := (rfl)
@[simp] theorem emits_pwr (l : List Out) : (s.emits l).pwr = s.pwr := (rfl)
@[simp] theorem emits_clk (l : List Out) : (s.emits l).clk = s.clk := (rfl)
@[simp] theorem emits_img (l : List Out) : (s.emits l).img = s.img := (rfl)
@[simp] theorem emits_host (l : List Out) : (s.emits l).host = s.host := (rfl)
@[simp] theorem emits_jnl (l : List Out) : (s.emits l).jnl = s.jnl := (rfl)
@[simp] theorem emits_lane (l : List Out) : (s.emits l).lane = s.lane := (rfl)
@[simp] theorem emits_seam (l : List Out) : (s.emits l).seam = s.seam := (rfl)
@[simp] theorem emits_edg (l : List Out) : (s.emits l).edg = s.edg := (rfl)
@[simp] theorem emits_comp (l : List Out) : (s.emits l).comp = s.comp := (rfl)
@[simp] theorem emits_bnc (l : List Out) : (s.emits l).bnc = s.bnc := (rfl)
@[simp] theorem emits_bal (l : List Out) : (s.emits l).bal = s.bal := (rfl)
@[simp] theorem emits_evs (l : List Out) : (s.emits l).evs = s.evs := (rfl)
@[simp] theorem emits_mode (l : List Out) : (s.emits l).mode = s.mode := (rfl)
@[simp] theorem emits_modeQ (l : List Out) : (s.emits l).modeQ = s.modeQ := (rfl)
@[simp] theorem emits_adc (l : List Out) : (s.emits l).adc = s.adc := (rfl)
@[simp] theorem emits_cmp (l : List Out) : (s.emits l).cmp = s.cmp := (rfl)
@[simp] theorem emits_safe (l : List Out) : (s.emits l).safe = s.safe := (rfl)
@[simp] theorem emits_mesh (l : List Out) : (s.emits l).mesh = s.mesh := (rfl)
@[simp] theorem emits_pair (l : List Out) : (s.emits l).pair = s.pair := (rfl)

/-! drawn -/
@[simp] theorem drawn_now : (s.drawn).now = s.now := (rfl)
@[simp] theorem drawn_ofs : (s.drawn).ofs = s.ofs := (rfl)
@[simp] theorem drawn_out : (s.drawn).out = s.out := (rfl)
@[simp] theorem drawn_sets : (s.drawn).sets = s.sets := (rfl)
@[simp] theorem drawn_pts : (s.drawn).pts = s.pts := (rfl)
@[simp] theorem drawn_free : (s.drawn).free = s.free + 1 := (rfl)
@[simp] theorem drawn_pending : (s.drawn).pending = s.pending := (rfl)
@[simp] theorem drawn_sys : (s.drawn).sys = s.sys := (rfl)
@[simp] theorem drawn_pwr : (s.drawn).pwr = s.pwr := (rfl)
@[simp] theorem drawn_clk : (s.drawn).clk = s.clk := (rfl)
@[simp] theorem drawn_img : (s.drawn).img = s.img := (rfl)
@[simp] theorem drawn_host : (s.drawn).host = s.host := (rfl)
@[simp] theorem drawn_jnl : (s.drawn).jnl = s.jnl := (rfl)
@[simp] theorem drawn_lane : (s.drawn).lane = s.lane := (rfl)
@[simp] theorem drawn_seam : (s.drawn).seam = s.seam := (rfl)
@[simp] theorem drawn_edg : (s.drawn).edg = s.edg := (rfl)
@[simp] theorem drawn_comp : (s.drawn).comp = s.comp := (rfl)
@[simp] theorem drawn_bnc : (s.drawn).bnc = s.bnc := (rfl)
@[simp] theorem drawn_bal : (s.drawn).bal = s.bal := (rfl)
@[simp] theorem drawn_evs : (s.drawn).evs = s.evs := (rfl)
@[simp] theorem drawn_mode : (s.drawn).mode = s.mode := (rfl)
@[simp] theorem drawn_modeQ : (s.drawn).modeQ = s.modeQ := (rfl)
@[simp] theorem drawn_adc : (s.drawn).adc = s.adc := (rfl)
@[simp] theorem drawn_cmp : (s.drawn).cmp = s.cmp := (rfl)
@[simp] theorem drawn_safe : (s.drawn).safe = s.safe := (rfl)
@[simp] theorem drawn_mesh : (s.drawn).mesh = s.mesh := (rfl)
@[simp] theorem drawn_pair : (s.drawn).pair = s.pair := (rfl)

/-! begin -/
@[simp] theorem begin_now (t : Nat) : (s.begin t).now = max s.now t := (rfl)
@[simp] theorem begin_ofs (t : Nat) : (s.begin t).ofs = s.ofs := (rfl)
@[simp] theorem begin_out (t : Nat) : (s.begin t).out = [] := (rfl)
@[simp] theorem begin_sets (t : Nat) : (s.begin t).sets = if s.now < t then [] else s.sets := (rfl)
@[simp] theorem begin_pts (t : Nat) : (s.begin t).pts = s.pts := (rfl)
@[simp] theorem begin_free (t : Nat) : (s.begin t).free = s.free := (rfl)
@[simp] theorem begin_pending (t : Nat) : (s.begin t).pending = s.pending := (rfl)
@[simp] theorem begin_sys (t : Nat) : (s.begin t).sys = s.sys := (rfl)
@[simp] theorem begin_pwr (t : Nat) : (s.begin t).pwr = s.pwr := (rfl)
@[simp] theorem begin_clk (t : Nat) : (s.begin t).clk = s.clk := (rfl)
@[simp] theorem begin_img (t : Nat) : (s.begin t).img = s.img := (rfl)
@[simp] theorem begin_host (t : Nat) : (s.begin t).host = s.host := (rfl)
@[simp] theorem begin_jnl (t : Nat) : (s.begin t).jnl = s.jnl := (rfl)
@[simp] theorem begin_lane (t : Nat) : (s.begin t).lane = s.lane := (rfl)
@[simp] theorem begin_seam (t : Nat) : (s.begin t).seam = s.seam := (rfl)
@[simp] theorem begin_edg (t : Nat) : (s.begin t).edg = s.edg := (rfl)
@[simp] theorem begin_comp (t : Nat) : (s.begin t).comp = s.comp := (rfl)
@[simp] theorem begin_bnc (t : Nat) : (s.begin t).bnc = s.bnc := (rfl)
@[simp] theorem begin_bal (t : Nat) : (s.begin t).bal = s.bal := (rfl)
@[simp] theorem begin_evs (t : Nat) : (s.begin t).evs = s.evs := (rfl)
@[simp] theorem begin_mode (t : Nat) : (s.begin t).mode = s.mode := (rfl)
@[simp] theorem begin_modeQ (t : Nat) : (s.begin t).modeQ = s.modeQ := (rfl)
@[simp] theorem begin_adc (t : Nat) : (s.begin t).adc = s.adc := (rfl)
@[simp] theorem begin_cmp (t : Nat) : (s.begin t).cmp = s.cmp := (rfl)
@[simp] theorem begin_safe (t : Nat) : (s.begin t).safe = s.safe := (rfl)
@[simp] theorem begin_mesh (t : Nat) : (s.begin t).mesh = s.mesh := (rfl)
@[simp] theorem begin_pair (t : Nat) : (s.begin t).pair = s.pair := (rfl)

/-! noteSets -/
@[simp] theorem noteSets_now (l : List (Nat × Nat)) : (s.noteSets l).now = s.now := (rfl)
@[simp] theorem noteSets_ofs (l : List (Nat × Nat)) : (s.noteSets l).ofs = s.ofs := (rfl)
@[simp] theorem noteSets_out (l : List (Nat × Nat)) : (s.noteSets l).out = s.out := (rfl)
@[simp] theorem noteSets_sets (l : List (Nat × Nat)) : (s.noteSets l).sets = s.sets ++ l := (rfl)
@[simp] theorem noteSets_pts (l : List (Nat × Nat)) : (s.noteSets l).pts = s.pts := (rfl)
@[simp] theorem noteSets_free (l : List (Nat × Nat)) : (s.noteSets l).free = s.free := (rfl)
@[simp] theorem noteSets_pending (l : List (Nat × Nat)) : (s.noteSets l).pending = s.pending := (rfl)
@[simp] theorem noteSets_sys (l : List (Nat × Nat)) : (s.noteSets l).sys = s.sys := (rfl)
@[simp] theorem noteSets_pwr (l : List (Nat × Nat)) : (s.noteSets l).pwr = s.pwr := (rfl)
@[simp] theorem noteSets_clk (l : List (Nat × Nat)) : (s.noteSets l).clk = s.clk := (rfl)
@[simp] theorem noteSets_img (l : List (Nat × Nat)) : (s.noteSets l).img = s.img := (rfl)
@[simp] theorem noteSets_host (l : List (Nat × Nat)) : (s.noteSets l).host = s.host := (rfl)
@[simp] theorem noteSets_jnl (l : List (Nat × Nat)) : (s.noteSets l).jnl = s.jnl := (rfl)
@[simp] theorem noteSets_lane (l : List (Nat × Nat)) : (s.noteSets l).lane = s.lane := (rfl)
@[simp] theorem noteSets_seam (l : List (Nat × Nat)) : (s.noteSets l).seam = s.seam := (rfl)
@[simp] theorem noteSets_edg (l : List (Nat × Nat)) : (s.noteSets l).edg = s.edg := (rfl)
@[simp] theorem noteSets_comp (l : List (Nat × Nat)) : (s.noteSets l).comp = s.comp := (rfl)
@[simp] theorem noteSets_bnc (l : List (Nat × Nat)) : (s.noteSets l).bnc = s.bnc := (rfl)
@[simp] theorem noteSets_bal (l : List (Nat × Nat)) : (s.noteSets l).bal = s.bal := (rfl)
@[simp] theorem noteSets_evs (l : List (Nat × Nat)) : (s.noteSets l).evs = s.evs := (rfl)
@[simp] theorem noteSets_mode (l : List (Nat × Nat)) : (s.noteSets l).mode = s.mode := (rfl)
@[simp] theorem noteSets_modeQ (l : List (Nat × Nat)) : (s.noteSets l).modeQ = s.modeQ := (rfl)
@[simp] theorem noteSets_adc (l : List (Nat × Nat)) : (s.noteSets l).adc = s.adc := (rfl)
@[simp] theorem noteSets_cmp (l : List (Nat × Nat)) : (s.noteSets l).cmp = s.cmp := (rfl)
@[simp] theorem noteSets_safe (l : List (Nat × Nat)) : (s.noteSets l).safe = s.safe := (rfl)
@[simp] theorem noteSets_mesh (l : List (Nat × Nat)) : (s.noteSets l).mesh = s.mesh := (rfl)
@[simp] theorem noteSets_pair (l : List (Nat × Nat)) : (s.noteSets l).pair = s.pair := (rfl)

end Sys2Proof.Machine.State
end

