-- ==== Sys2Proof/Laws/Run.lean ====
section
/-! SUPPORT. What the start and end of a command, and the shared records, leave unchanged. -/
namespace Sys2Proof.Machine.State
set_option linter.all false

variable (s : State)

/-! finish: only the output grows -/
@[simp] theorem finish_now (p h : Nat) : (s.finish p h).now = s.now := by
  unfold finish; simp only; split <;> rfl
@[simp] theorem finish_ofs (p h : Nat) : (s.finish p h).ofs = s.ofs := by
  unfold finish; simp only; split <;> rfl
@[simp] theorem finish_sets (p h : Nat) : (s.finish p h).sets = s.sets := by
  unfold finish; simp only; split <;> rfl
@[simp] theorem finish_pts (p h : Nat) : (s.finish p h).pts = s.pts := by
  unfold finish; simp only; split <;> rfl
@[simp] theorem finish_free (p h : Nat) : (s.finish p h).free = s.free := by
  unfold finish; simp only; split <;> rfl
@[simp] theorem finish_pending (p h : Nat) : (s.finish p h).pending = s.pending := by
  unfold finish; simp only; split <;> rfl
@[simp] theorem finish_sys (p h : Nat) : (s.finish p h).sys = s.sys := by
  unfold finish; simp only; split <;> rfl
@[simp] theorem finish_pwr (p h : Nat) : (s.finish p h).pwr = s.pwr := by
  unfold finish; simp only; split <;> rfl
@[simp] theorem finish_clk (p h : Nat) : (s.finish p h).clk = s.clk := by
  unfold finish; simp only; split <;> rfl
@[simp] theorem finish_img (p h : Nat) : (s.finish p h).img = s.img := by
  unfold finish; simp only; split <;> rfl
@[simp] theorem finish_host (p h : Nat) : (s.finish p h).host = s.host := by
  unfold finish; simp only; split <;> rfl
@[simp] theorem finish_jnl (p h : Nat) : (s.finish p h).jnl = s.jnl := by
  unfold finish; simp only; split <;> rfl
@[simp] theorem finish_lane (p h : Nat) : (s.finish p h).lane = s.lane := by
  unfold finish; simp only; split <;> rfl
@[simp] theorem finish_seam (p h : Nat) : (s.finish p h).seam = s.seam := by
  unfold finish; simp only; split <;> rfl
@[simp] theorem finish_edg (p h : Nat) : (s.finish p h).edg = s.edg := by
  unfold finish; simp only; split <;> rfl
@[simp] theorem finish_comp (p h : Nat) : (s.finish p h).comp = s.comp := by
  unfold finish; simp only; split <;> rfl
@[simp] theorem finish_bnc (p h : Nat) : (s.finish p h).bnc = s.bnc := by
  unfold finish; simp only; split <;> rfl
@[simp] theorem finish_bal (p h : Nat) : (s.finish p h).bal = s.bal := by
  unfold finish; simp only; split <;> rfl
@[simp] theorem finish_evs (p h : Nat) : (s.finish p h).evs = s.evs := by
  unfold finish; simp only; split <;> rfl
@[simp] theorem finish_mode (p h : Nat) : (s.finish p h).mode = s.mode := by
  unfold finish; simp only; split <;> rfl
@[simp] theorem finish_modeQ (p h : Nat) : (s.finish p h).modeQ = s.modeQ := by
  unfold finish; simp only; split <;> rfl
@[simp] theorem finish_adc (p h : Nat) : (s.finish p h).adc = s.adc := by
  unfold finish; simp only; split <;> rfl
@[simp] theorem finish_cmp (p h : Nat) : (s.finish p h).cmp = s.cmp := by
  unfold finish; simp only; split <;> rfl
@[simp] theorem finish_safe (p h : Nat) : (s.finish p h).safe = s.safe := by
  unfold finish; simp only; split <;> rfl
@[simp] theorem finish_mesh (p h : Nat) : (s.finish p h).mesh = s.mesh := by
  unfold finish; simp only; split <;> rfl
@[simp] theorem finish_pair (p h : Nat) : (s.finish p h).pair = s.pair := by
  unfold finish; simp only; split <;> rfl

/-! run: the effect at the instant -/
@[simp] theorem run_now (t : Nat) (f : State → State) : (s.run t f).now = (f (s.begin t)).now := finish_now (f (s.begin t)) s.pend s.jnl.head
@[simp] theorem run_ofs (t : Nat) (f : State → State) : (s.run t f).ofs = (f (s.begin t)).ofs := finish_ofs (f (s.begin t)) s.pend s.jnl.head
@[simp] theorem run_pts (t : Nat) (f : State → State) : (s.run t f).pts = (f (s.begin t)).pts := finish_pts (f (s.begin t)) s.pend s.jnl.head
@[simp] theorem run_free (t : Nat) (f : State → State) : (s.run t f).free = (f (s.begin t)).free := finish_free (f (s.begin t)) s.pend s.jnl.head
@[simp] theorem run_pending (t : Nat) (f : State → State) : (s.run t f).pending = (f (s.begin t)).pending := finish_pending (f (s.begin t)) s.pend s.jnl.head
@[simp] theorem run_sys (t : Nat) (f : State → State) : (s.run t f).sys = (f (s.begin t)).sys := finish_sys (f (s.begin t)) s.pend s.jnl.head
@[simp] theorem run_pwr (t : Nat) (f : State → State) : (s.run t f).pwr = (f (s.begin t)).pwr := finish_pwr (f (s.begin t)) s.pend s.jnl.head
@[simp] theorem run_clk (t : Nat) (f : State → State) : (s.run t f).clk = (f (s.begin t)).clk := finish_clk (f (s.begin t)) s.pend s.jnl.head
@[simp] theorem run_img (t : Nat) (f : State → State) : (s.run t f).img = (f (s.begin t)).img := finish_img (f (s.begin t)) s.pend s.jnl.head
@[simp] theorem run_host (t : Nat) (f : State → State) : (s.run t f).host = (f (s.begin t)).host := finish_host (f (s.begin t)) s.pend s.jnl.head
@[simp] theorem run_jnl (t : Nat) (f : State → State) : (s.run t f).jnl = (f (s.begin t)).jnl := finish_jnl (f (s.begin t)) s.pend s.jnl.head
@[simp] theorem run_lane (t : Nat) (f : State → State) : (s.run t f).lane = (f (s.begin t)).lane := finish_lane (f (s.begin t)) s.pend s.jnl.head
@[simp] theorem run_seam (t : Nat) (f : State → State) : (s.run t f).seam = (f (s.begin t)).seam := finish_seam (f (s.begin t)) s.pend s.jnl.head
@[simp] theorem run_edg (t : Nat) (f : State → State) : (s.run t f).edg = (f (s.begin t)).edg := finish_edg (f (s.begin t)) s.pend s.jnl.head
@[simp] theorem run_comp (t : Nat) (f : State → State) : (s.run t f).comp = (f (s.begin t)).comp := finish_comp (f (s.begin t)) s.pend s.jnl.head
@[simp] theorem run_bnc (t : Nat) (f : State → State) : (s.run t f).bnc = (f (s.begin t)).bnc := finish_bnc (f (s.begin t)) s.pend s.jnl.head
@[simp] theorem run_bal (t : Nat) (f : State → State) : (s.run t f).bal = (f (s.begin t)).bal := finish_bal (f (s.begin t)) s.pend s.jnl.head
@[simp] theorem run_evs (t : Nat) (f : State → State) : (s.run t f).evs = (f (s.begin t)).evs := finish_evs (f (s.begin t)) s.pend s.jnl.head
@[simp] theorem run_mode (t : Nat) (f : State → State) : (s.run t f).mode = (f (s.begin t)).mode := finish_mode (f (s.begin t)) s.pend s.jnl.head
@[simp] theorem run_modeQ (t : Nat) (f : State → State) : (s.run t f).modeQ = (f (s.begin t)).modeQ := finish_modeQ (f (s.begin t)) s.pend s.jnl.head
@[simp] theorem run_adc (t : Nat) (f : State → State) : (s.run t f).adc = (f (s.begin t)).adc := finish_adc (f (s.begin t)) s.pend s.jnl.head
@[simp] theorem run_cmp (t : Nat) (f : State → State) : (s.run t f).cmp = (f (s.begin t)).cmp := finish_cmp (f (s.begin t)) s.pend s.jnl.head
@[simp] theorem run_safe (t : Nat) (f : State → State) : (s.run t f).safe = (f (s.begin t)).safe := finish_safe (f (s.begin t)) s.pend s.jnl.head
@[simp] theorem run_mesh (t : Nat) (f : State → State) : (s.run t f).mesh = (f (s.begin t)).mesh := finish_mesh (f (s.begin t)) s.pend s.jnl.head
@[simp] theorem run_pair (t : Nat) (f : State → State) : (s.run t f).pair = (f (s.begin t)).pair := finish_pair (f (s.begin t)) s.pend s.jnl.head
/-- Where its condition holds a conditional command is its effect. -/
theorem runIf_of (t : Nat) (c : State → Bool) (f : State → State) (h : c (s.begin t) = true) : s.runIf t c f = s.run t f := by
  simp only [runIf, h, if_true]
/-- Elsewhere only time passes. -/
theorem runIf_not (t : Nat) (c : State → Bool) (f : State → State) (h : c (s.begin t) = false) : s.runIf t c f = s.run t id := by
  simp [runIf, h]

/-! event -/
@[simp] theorem event_now (c : Nat) (d : Bytes) : (s.event c d).now = s.now := (rfl)
@[simp] theorem event_ofs (c : Nat) (d : Bytes) : (s.event c d).ofs = s.ofs := (rfl)
@[simp] theorem event_out (c : Nat) (d : Bytes) : (s.event c d).out = s.out := (rfl)
@[simp] theorem event_sets (c : Nat) (d : Bytes) : (s.event c d).sets = s.sets := (rfl)
@[simp] theorem event_pts (c : Nat) (d : Bytes) : (s.event c d).pts = s.pts := (rfl)
@[simp] theorem event_free (c : Nat) (d : Bytes) : (s.event c d).free = s.free := (rfl)
@[simp] theorem event_pending (c : Nat) (d : Bytes) : (s.event c d).pending = s.pending := (rfl)
@[simp] theorem event_sys (c : Nat) (d : Bytes) : (s.event c d).sys = s.sys := (rfl)
@[simp] theorem event_pwr (c : Nat) (d : Bytes) : (s.event c d).pwr = s.pwr := (rfl)
@[simp] theorem event_clk (c : Nat) (d : Bytes) : (s.event c d).clk = s.clk := (rfl)
@[simp] theorem event_img (c : Nat) (d : Bytes) : (s.event c d).img = s.img := (rfl)
@[simp] theorem event_host (c : Nat) (d : Bytes) : (s.event c d).host = s.host := (rfl)
@[simp] theorem event_jnl (c : Nat) (d : Bytes) : (s.event c d).jnl = s.jnl := (rfl)
@[simp] theorem event_lane (c : Nat) (d : Bytes) : (s.event c d).lane = s.lane := (rfl)
@[simp] theorem event_seam (c : Nat) (d : Bytes) : (s.event c d).seam = s.seam := (rfl)
@[simp] theorem event_edg (c : Nat) (d : Bytes) : (s.event c d).edg = s.edg := (rfl)
@[simp] theorem event_comp (c : Nat) (d : Bytes) : (s.event c d).comp = s.comp := (rfl)
@[simp] theorem event_bnc (c : Nat) (d : Bytes) : (s.event c d).bnc = s.bnc := (rfl)
@[simp] theorem event_bal (c : Nat) (d : Bytes) : (s.event c d).bal = s.bal := (rfl)
@[simp] theorem event_mode (c : Nat) (d : Bytes) : (s.event c d).mode = s.mode := (rfl)
@[simp] theorem event_modeQ (c : Nat) (d : Bytes) : (s.event c d).modeQ = s.modeQ := (rfl)
@[simp] theorem event_adc (c : Nat) (d : Bytes) : (s.event c d).adc = s.adc := (rfl)
@[simp] theorem event_cmp (c : Nat) (d : Bytes) : (s.event c d).cmp = s.cmp := (rfl)
@[simp] theorem event_safe (c : Nat) (d : Bytes) : (s.event c d).safe = s.safe := (rfl)
@[simp] theorem event_mesh (c : Nat) (d : Bytes) : (s.event c d).mesh = s.mesh := (rfl)
@[simp] theorem event_pair (c : Nat) (d : Bytes) : (s.event c d).pair = s.pair := (rfl)

/-! jAdd -/
@[simp] theorem jAdd_now (e : JEntry) (k : Bool) : (s.jAdd e k).now = s.now := (rfl)
@[simp] theorem jAdd_ofs (e : JEntry) (k : Bool) : (s.jAdd e k).ofs = s.ofs := (rfl)
@[simp] theorem jAdd_out (e : JEntry) (k : Bool) : (s.jAdd e k).out = s.out := (rfl)
@[simp] theorem jAdd_sets (e : JEntry) (k : Bool) : (s.jAdd e k).sets = s.sets := (rfl)
@[simp] theorem jAdd_pts (e : JEntry) (k : Bool) : (s.jAdd e k).pts = s.pts := (rfl)
@[simp] theorem jAdd_free (e : JEntry) (k : Bool) : (s.jAdd e k).free = s.free := (rfl)
@[simp] theorem jAdd_pending (e : JEntry) (k : Bool) : (s.jAdd e k).pending = s.pending := (rfl)
@[simp] theorem jAdd_sys (e : JEntry) (k : Bool) : (s.jAdd e k).sys = s.sys := (rfl)
@[simp] theorem jAdd_pwr (e : JEntry) (k : Bool) : (s.jAdd e k).pwr = s.pwr := (rfl)
@[simp] theorem jAdd_clk (e : JEntry) (k : Bool) : (s.jAdd e k).clk = s.clk := (rfl)
@[simp] theorem jAdd_img (e : JEntry) (k : Bool) : (s.jAdd e k).img = s.img := (rfl)
@[simp] theorem jAdd_host (e : JEntry) (k : Bool) : (s.jAdd e k).host = s.host := (rfl)
@[simp] theorem jAdd_lane (e : JEntry) (k : Bool) : (s.jAdd e k).lane = s.lane := (rfl)
@[simp] theorem jAdd_seam (e : JEntry) (k : Bool) : (s.jAdd e k).seam = s.seam := (rfl)
@[simp] theorem jAdd_edg (e : JEntry) (k : Bool) : (s.jAdd e k).edg = s.edg := (rfl)
@[simp] theorem jAdd_comp (e : JEntry) (k : Bool) : (s.jAdd e k).comp = s.comp := (rfl)
@[simp] theorem jAdd_bnc (e : JEntry) (k : Bool) : (s.jAdd e k).bnc = s.bnc := (rfl)
@[simp] theorem jAdd_bal (e : JEntry) (k : Bool) : (s.jAdd e k).bal = s.bal := (rfl)
@[simp] theorem jAdd_evs (e : JEntry) (k : Bool) : (s.jAdd e k).evs = s.evs := (rfl)
@[simp] theorem jAdd_mode (e : JEntry) (k : Bool) : (s.jAdd e k).mode = s.mode := (rfl)
@[simp] theorem jAdd_modeQ (e : JEntry) (k : Bool) : (s.jAdd e k).modeQ = s.modeQ := (rfl)
@[simp] theorem jAdd_adc (e : JEntry) (k : Bool) : (s.jAdd e k).adc = s.adc := (rfl)
@[simp] theorem jAdd_cmp (e : JEntry) (k : Bool) : (s.jAdd e k).cmp = s.cmp := (rfl)
@[simp] theorem jAdd_safe (e : JEntry) (k : Bool) : (s.jAdd e k).safe = s.safe := (rfl)
@[simp] theorem jAdd_mesh (e : JEntry) (k : Bool) : (s.jAdd e k).mesh = s.mesh := (rfl)
@[simp] theorem jAdd_pair (e : JEntry) (k : Bool) : (s.jAdd e k).pair = s.pair := (rfl)

/-! jKnow -/
@[simp] theorem jKnow_now (i : Nat) (f : JEntry → JEntry) : (s.jKnow i f).now = s.now := (rfl)
@[simp] theorem jKnow_ofs (i : Nat) (f : JEntry → JEntry) : (s.jKnow i f).ofs = s.ofs := (rfl)
@[simp] theorem jKnow_out (i : Nat) (f : JEntry → JEntry) : (s.jKnow i f).out = s.out := (rfl)
@[simp] theorem jKnow_sets (i : Nat) (f : JEntry → JEntry) : (s.jKnow i f).sets = s.sets := (rfl)
@[simp] theorem jKnow_pts (i : Nat) (f : JEntry → JEntry) : (s.jKnow i f).pts = s.pts := (rfl)
@[simp] theorem jKnow_free (i : Nat) (f : JEntry → JEntry) : (s.jKnow i f).free = s.free := (rfl)
@[simp] theorem jKnow_pending (i : Nat) (f : JEntry → JEntry) : (s.jKnow i f).pending = s.pending := (rfl)
@[simp] theorem jKnow_sys (i : Nat) (f : JEntry → JEntry) : (s.jKnow i f).sys = s.sys := (rfl)
@[simp] theorem jKnow_pwr (i : Nat) (f : JEntry → JEntry) : (s.jKnow i f).pwr = s.pwr := (rfl)
@[simp] theorem jKnow_clk (i : Nat) (f : JEntry → JEntry) : (s.jKnow i f).clk = s.clk := (rfl)
@[simp] theorem jKnow_img (i : Nat) (f : JEntry → JEntry) : (s.jKnow i f).img = s.img := (rfl)
@[simp] theorem jKnow_host (i : Nat) (f : JEntry → JEntry) : (s.jKnow i f).host = s.host := (rfl)
@[simp] theorem jKnow_lane (i : Nat) (f : JEntry → JEntry) : (s.jKnow i f).lane = s.lane := (rfl)
@[simp] theorem jKnow_seam (i : Nat) (f : JEntry → JEntry) : (s.jKnow i f).seam = s.seam := (rfl)
@[simp] theorem jKnow_edg (i : Nat) (f : JEntry → JEntry) : (s.jKnow i f).edg = s.edg := (rfl)
@[simp] theorem jKnow_comp (i : Nat) (f : JEntry → JEntry) : (s.jKnow i f).comp = s.comp := (rfl)
@[simp] theorem jKnow_bnc (i : Nat) (f : JEntry → JEntry) : (s.jKnow i f).bnc = s.bnc := (rfl)
@[simp] theorem jKnow_bal (i : Nat) (f : JEntry → JEntry) : (s.jKnow i f).bal = s.bal := (rfl)
@[simp] theorem jKnow_evs (i : Nat) (f : JEntry → JEntry) : (s.jKnow i f).evs = s.evs := (rfl)
@[simp] theorem jKnow_mode (i : Nat) (f : JEntry → JEntry) : (s.jKnow i f).mode = s.mode := (rfl)
@[simp] theorem jKnow_modeQ (i : Nat) (f : JEntry → JEntry) : (s.jKnow i f).modeQ = s.modeQ := (rfl)
@[simp] theorem jKnow_adc (i : Nat) (f : JEntry → JEntry) : (s.jKnow i f).adc = s.adc := (rfl)
@[simp] theorem jKnow_cmp (i : Nat) (f : JEntry → JEntry) : (s.jKnow i f).cmp = s.cmp := (rfl)
@[simp] theorem jKnow_safe (i : Nat) (f : JEntry → JEntry) : (s.jKnow i f).safe = s.safe := (rfl)
@[simp] theorem jKnow_mesh (i : Nat) (f : JEntry → JEntry) : (s.jKnow i f).mesh = s.mesh := (rfl)
@[simp] theorem jKnow_pair (i : Nat) (f : JEntry → JEntry) : (s.jKnow i f).pair = s.pair := (rfl)

/-! jEvent -/
@[simp] theorem jEvent_now (o a q : Nat) (d : Bytes) : (s.jEvent o a q d).now = s.now := (rfl)
@[simp] theorem jEvent_ofs (o a q : Nat) (d : Bytes) : (s.jEvent o a q d).ofs = s.ofs := (rfl)
@[simp] theorem jEvent_out (o a q : Nat) (d : Bytes) : (s.jEvent o a q d).out = s.out := (rfl)
@[simp] theorem jEvent_sets (o a q : Nat) (d : Bytes) : (s.jEvent o a q d).sets = s.sets := (rfl)
@[simp] theorem jEvent_pts (o a q : Nat) (d : Bytes) : (s.jEvent o a q d).pts = s.pts := (rfl)
@[simp] theorem jEvent_free (o a q : Nat) (d : Bytes) : (s.jEvent o a q d).free = s.free := (rfl)
@[simp] theorem jEvent_pending (o a q : Nat) (d : Bytes) : (s.jEvent o a q d).pending = s.pending := (rfl)
@[simp] theorem jEvent_sys (o a q : Nat) (d : Bytes) : (s.jEvent o a q d).sys = s.sys := (rfl)
@[simp] theorem jEvent_pwr (o a q : Nat) (d : Bytes) : (s.jEvent o a q d).pwr = s.pwr := (rfl)
@[simp] theorem jEvent_clk (o a q : Nat) (d : Bytes) : (s.jEvent o a q d).clk = s.clk := (rfl)
@[simp] theorem jEvent_img (o a q : Nat) (d : Bytes) : (s.jEvent o a q d).img = s.img := (rfl)
@[simp] theorem jEvent_host (o a q : Nat) (d : Bytes) : (s.jEvent o a q d).host = s.host := (rfl)
@[simp] theorem jEvent_lane (o a q : Nat) (d : Bytes) : (s.jEvent o a q d).lane = s.lane := (rfl)
@[simp] theorem jEvent_seam (o a q : Nat) (d : Bytes) : (s.jEvent o a q d).seam = s.seam := (rfl)
@[simp] theorem jEvent_edg (o a q : Nat) (d : Bytes) : (s.jEvent o a q d).edg = s.edg := (rfl)
@[simp] theorem jEvent_comp (o a q : Nat) (d : Bytes) : (s.jEvent o a q d).comp = s.comp := (rfl)
@[simp] theorem jEvent_bnc (o a q : Nat) (d : Bytes) : (s.jEvent o a q d).bnc = s.bnc := (rfl)
@[simp] theorem jEvent_bal (o a q : Nat) (d : Bytes) : (s.jEvent o a q d).bal = s.bal := (rfl)
@[simp] theorem jEvent_evs (o a q : Nat) (d : Bytes) : (s.jEvent o a q d).evs = s.evs := (rfl)
@[simp] theorem jEvent_mode (o a q : Nat) (d : Bytes) : (s.jEvent o a q d).mode = s.mode := (rfl)
@[simp] theorem jEvent_modeQ (o a q : Nat) (d : Bytes) : (s.jEvent o a q d).modeQ = s.modeQ := (rfl)
@[simp] theorem jEvent_adc (o a q : Nat) (d : Bytes) : (s.jEvent o a q d).adc = s.adc := (rfl)
@[simp] theorem jEvent_cmp (o a q : Nat) (d : Bytes) : (s.jEvent o a q d).cmp = s.cmp := (rfl)
@[simp] theorem jEvent_safe (o a q : Nat) (d : Bytes) : (s.jEvent o a q d).safe = s.safe := (rfl)
@[simp] theorem jEvent_mesh (o a q : Nat) (d : Bytes) : (s.jEvent o a q d).mesh = s.mesh := (rfl)
@[simp] theorem jEvent_pair (o a q : Nat) (d : Bytes) : (s.jEvent o a q d).pair = s.pair := (rfl)

/-! jEventAt -/
@[simp] theorem jEventAt_now (m o a : Nat) : (s.jEventAt m o a).now = s.now := (rfl)
@[simp] theorem jEventAt_ofs (m o a : Nat) : (s.jEventAt m o a).ofs = s.ofs := (rfl)
@[simp] theorem jEventAt_out (m o a : Nat) : (s.jEventAt m o a).out = s.out := (rfl)
@[simp] theorem jEventAt_sets (m o a : Nat) : (s.jEventAt m o a).sets = s.sets := (rfl)
@[simp] theorem jEventAt_pts (m o a : Nat) : (s.jEventAt m o a).pts = s.pts := (rfl)
@[simp] theorem jEventAt_free (m o a : Nat) : (s.jEventAt m o a).free = s.free := (rfl)
@[simp] theorem jEventAt_pending (m o a : Nat) : (s.jEventAt m o a).pending = s.pending := (rfl)
@[simp] theorem jEventAt_sys (m o a : Nat) : (s.jEventAt m o a).sys = s.sys := (rfl)
@[simp] theorem jEventAt_pwr (m o a : Nat) : (s.jEventAt m o a).pwr = s.pwr := (rfl)
@[simp] theorem jEventAt_clk (m o a : Nat) : (s.jEventAt m o a).clk = s.clk := (rfl)
@[simp] theorem jEventAt_img (m o a : Nat) : (s.jEventAt m o a).img = s.img := (rfl)
@[simp] theorem jEventAt_host (m o a : Nat) : (s.jEventAt m o a).host = s.host := (rfl)
@[simp] theorem jEventAt_lane (m o a : Nat) : (s.jEventAt m o a).lane = s.lane := (rfl)
@[simp] theorem jEventAt_seam (m o a : Nat) : (s.jEventAt m o a).seam = s.seam := (rfl)
@[simp] theorem jEventAt_edg (m o a : Nat) : (s.jEventAt m o a).edg = s.edg := (rfl)
@[simp] theorem jEventAt_comp (m o a : Nat) : (s.jEventAt m o a).comp = s.comp := (rfl)
@[simp] theorem jEventAt_bnc (m o a : Nat) : (s.jEventAt m o a).bnc = s.bnc := (rfl)
@[simp] theorem jEventAt_bal (m o a : Nat) : (s.jEventAt m o a).bal = s.bal := (rfl)
@[simp] theorem jEventAt_evs (m o a : Nat) : (s.jEventAt m o a).evs = s.evs := (rfl)
@[simp] theorem jEventAt_mode (m o a : Nat) : (s.jEventAt m o a).mode = s.mode := (rfl)
@[simp] theorem jEventAt_modeQ (m o a : Nat) : (s.jEventAt m o a).modeQ = s.modeQ := (rfl)
@[simp] theorem jEventAt_adc (m o a : Nat) : (s.jEventAt m o a).adc = s.adc := (rfl)
@[simp] theorem jEventAt_cmp (m o a : Nat) : (s.jEventAt m o a).cmp = s.cmp := (rfl)
@[simp] theorem jEventAt_safe (m o a : Nat) : (s.jEventAt m o a).safe = s.safe := (rfl)
@[simp] theorem jEventAt_mesh (m o a : Nat) : (s.jEventAt m o a).mesh = s.mesh := (rfl)
@[simp] theorem jEventAt_pair (m o a : Nat) : (s.jEventAt m o a).pair = s.pair := (rfl)

/-! jDirect -/
@[simp] theorem jDirect_now (src : Src) (o : Nat) (v : Word) : (s.jDirect src o v).now = s.now := (rfl)
@[simp] theorem jDirect_ofs (src : Src) (o : Nat) (v : Word) : (s.jDirect src o v).ofs = s.ofs := (rfl)
@[simp] theorem jDirect_out (src : Src) (o : Nat) (v : Word) : (s.jDirect src o v).out = s.out := (rfl)
@[simp] theorem jDirect_sets (src : Src) (o : Nat) (v : Word) : (s.jDirect src o v).sets = s.sets := (rfl)
@[simp] theorem jDirect_pts (src : Src) (o : Nat) (v : Word) : (s.jDirect src o v).pts = s.pts := (rfl)
@[simp] theorem jDirect_free (src : Src) (o : Nat) (v : Word) : (s.jDirect src o v).free = s.free := (rfl)
@[simp] theorem jDirect_pending (src : Src) (o : Nat) (v : Word) : (s.jDirect src o v).pending = s.pending := (rfl)
@[simp] theorem jDirect_sys (src : Src) (o : Nat) (v : Word) : (s.jDirect src o v).sys = s.sys := (rfl)
@[simp] theorem jDirect_pwr (src : Src) (o : Nat) (v : Word) : (s.jDirect src o v).pwr = s.pwr := (rfl)
@[simp] theorem jDirect_clk (src : Src) (o : Nat) (v : Word) : (s.jDirect src o v).clk = s.clk := (rfl)
@[simp] theorem jDirect_img (src : Src) (o : Nat) (v : Word) : (s.jDirect src o v).img = s.img := (rfl)
@[simp] theorem jDirect_host (src : Src) (o : Nat) (v : Word) : (s.jDirect src o v).host = s.host := (rfl)
@[simp] theorem jDirect_lane (src : Src) (o : Nat) (v : Word) : (s.jDirect src o v).lane = s.lane := (rfl)
@[simp] theorem jDirect_seam (src : Src) (o : Nat) (v : Word) : (s.jDirect src o v).seam = s.seam := (rfl)
@[simp] theorem jDirect_edg (src : Src) (o : Nat) (v : Word) : (s.jDirect src o v).edg = s.edg := (rfl)
@[simp] theorem jDirect_comp (src : Src) (o : Nat) (v : Word) : (s.jDirect src o v).comp = s.comp := (rfl)
@[simp] theorem jDirect_bnc (src : Src) (o : Nat) (v : Word) : (s.jDirect src o v).bnc = s.bnc := (rfl)
@[simp] theorem jDirect_bal (src : Src) (o : Nat) (v : Word) : (s.jDirect src o v).bal = s.bal := (rfl)
@[simp] theorem jDirect_evs (src : Src) (o : Nat) (v : Word) : (s.jDirect src o v).evs = s.evs := (rfl)
@[simp] theorem jDirect_mode (src : Src) (o : Nat) (v : Word) : (s.jDirect src o v).mode = s.mode := (rfl)
@[simp] theorem jDirect_modeQ (src : Src) (o : Nat) (v : Word) : (s.jDirect src o v).modeQ = s.modeQ := (rfl)
@[simp] theorem jDirect_adc (src : Src) (o : Nat) (v : Word) : (s.jDirect src o v).adc = s.adc := (rfl)
@[simp] theorem jDirect_cmp (src : Src) (o : Nat) (v : Word) : (s.jDirect src o v).cmp = s.cmp := (rfl)
@[simp] theorem jDirect_safe (src : Src) (o : Nat) (v : Word) : (s.jDirect src o v).safe = s.safe := (rfl)
@[simp] theorem jDirect_mesh (src : Src) (o : Nat) (v : Word) : (s.jDirect src o v).mesh = s.mesh := (rfl)
@[simp] theorem jDirect_pair (src : Src) (o : Nat) (v : Word) : (s.jDirect src o v).pair = s.pair := (rfl)

/-! logAdd -/
@[simp] theorem logAdd_now (k src se tg ol nw : Nat) (d : Bytes) : (s.logAdd k src se tg ol nw d).now = s.now := (rfl)
@[simp] theorem logAdd_ofs (k src se tg ol nw : Nat) (d : Bytes) : (s.logAdd k src se tg ol nw d).ofs = s.ofs := (rfl)
@[simp] theorem logAdd_out (k src se tg ol nw : Nat) (d : Bytes) : (s.logAdd k src se tg ol nw d).out = s.out := (rfl)
@[simp] theorem logAdd_sets (k src se tg ol nw : Nat) (d : Bytes) : (s.logAdd k src se tg ol nw d).sets = s.sets := (rfl)
@[simp] theorem logAdd_pts (k src se tg ol nw : Nat) (d : Bytes) : (s.logAdd k src se tg ol nw d).pts = s.pts := (rfl)
@[simp] theorem logAdd_free (k src se tg ol nw : Nat) (d : Bytes) : (s.logAdd k src se tg ol nw d).free = s.free := (rfl)
@[simp] theorem logAdd_pending (k src se tg ol nw : Nat) (d : Bytes) : (s.logAdd k src se tg ol nw d).pending = s.pending := (rfl)
@[simp] theorem logAdd_sys (k src se tg ol nw : Nat) (d : Bytes) : (s.logAdd k src se tg ol nw d).sys = s.sys := (rfl)
@[simp] theorem logAdd_pwr (k src se tg ol nw : Nat) (d : Bytes) : (s.logAdd k src se tg ol nw d).pwr = s.pwr := (rfl)
@[simp] theorem logAdd_clk (k src se tg ol nw : Nat) (d : Bytes) : (s.logAdd k src se tg ol nw d).clk = s.clk := (rfl)
@[simp] theorem logAdd_img (k src se tg ol nw : Nat) (d : Bytes) : (s.logAdd k src se tg ol nw d).img = s.img := (rfl)
@[simp] theorem logAdd_host (k src se tg ol nw : Nat) (d : Bytes) : (s.logAdd k src se tg ol nw d).host = s.host := (rfl)
@[simp] theorem logAdd_jnl (k src se tg ol nw : Nat) (d : Bytes) : (s.logAdd k src se tg ol nw d).jnl = s.jnl := (rfl)
@[simp] theorem logAdd_lane (k src se tg ol nw : Nat) (d : Bytes) : (s.logAdd k src se tg ol nw d).lane = s.lane := (rfl)
@[simp] theorem logAdd_seam (k src se tg ol nw : Nat) (d : Bytes) : (s.logAdd k src se tg ol nw d).seam = s.seam := (rfl)
@[simp] theorem logAdd_edg (k src se tg ol nw : Nat) (d : Bytes) : (s.logAdd k src se tg ol nw d).edg = s.edg := (rfl)
@[simp] theorem logAdd_comp (k src se tg ol nw : Nat) (d : Bytes) : (s.logAdd k src se tg ol nw d).comp = s.comp := (rfl)
@[simp] theorem logAdd_bnc (k src se tg ol nw : Nat) (d : Bytes) : (s.logAdd k src se tg ol nw d).bnc = s.bnc := (rfl)
@[simp] theorem logAdd_bal (k src se tg ol nw : Nat) (d : Bytes) : (s.logAdd k src se tg ol nw d).bal = s.bal := (rfl)
@[simp] theorem logAdd_mode (k src se tg ol nw : Nat) (d : Bytes) : (s.logAdd k src se tg ol nw d).mode = s.mode := (rfl)
@[simp] theorem logAdd_modeQ (k src se tg ol nw : Nat) (d : Bytes) : (s.logAdd k src se tg ol nw d).modeQ = s.modeQ := (rfl)
@[simp] theorem logAdd_adc (k src se tg ol nw : Nat) (d : Bytes) : (s.logAdd k src se tg ol nw d).adc = s.adc := (rfl)
@[simp] theorem logAdd_cmp (k src se tg ol nw : Nat) (d : Bytes) : (s.logAdd k src se tg ol nw d).cmp = s.cmp := (rfl)
@[simp] theorem logAdd_safe (k src se tg ol nw : Nat) (d : Bytes) : (s.logAdd k src se tg ol nw d).safe = s.safe := (rfl)
@[simp] theorem logAdd_mesh (k src se tg ol nw : Nat) (d : Bytes) : (s.logAdd k src se tg ol nw d).mesh = s.mesh := (rfl)
@[simp] theorem logAdd_pair (k src se tg ol nw : Nat) (d : Bytes) : (s.logAdd k src se tg ol nw d).pair = s.pair := (rfl)

/-! spoil -/
@[simp] theorem spoil_now (r : Spoil) : (s.spoil r).now = s.now := (rfl)
@[simp] theorem spoil_ofs (r : Spoil) : (s.spoil r).ofs = s.ofs := (rfl)
@[simp] theorem spoil_out (r : Spoil) : (s.spoil r).out = s.out := (rfl)
@[simp] theorem spoil_sets (r : Spoil) : (s.spoil r).sets = s.sets := (rfl)
@[simp] theorem spoil_pts (r : Spoil) : (s.spoil r).pts = s.pts := (rfl)
@[simp] theorem spoil_free (r : Spoil) : (s.spoil r).free = s.free := (rfl)
@[simp] theorem spoil_pending (r : Spoil) : (s.spoil r).pending = s.pending := (rfl)
@[simp] theorem spoil_sys (r : Spoil) : (s.spoil r).sys = s.sys := (rfl)
@[simp] theorem spoil_pwr (r : Spoil) : (s.spoil r).pwr = s.pwr := (rfl)
@[simp] theorem spoil_clk (r : Spoil) : (s.spoil r).clk = s.clk := (rfl)
@[simp] theorem spoil_img (r : Spoil) : (s.spoil r).img = s.img := (rfl)
@[simp] theorem spoil_jnl (r : Spoil) : (s.spoil r).jnl = s.jnl := (rfl)
@[simp] theorem spoil_lane (r : Spoil) : (s.spoil r).lane = s.lane := (rfl)
@[simp] theorem spoil_seam (r : Spoil) : (s.spoil r).seam = s.seam := (rfl)
@[simp] theorem spoil_edg (r : Spoil) : (s.spoil r).edg = s.edg := (rfl)
@[simp] theorem spoil_comp (r : Spoil) : (s.spoil r).comp = s.comp := (rfl)
@[simp] theorem spoil_bnc (r : Spoil) : (s.spoil r).bnc = s.bnc := (rfl)
@[simp] theorem spoil_bal (r : Spoil) : (s.spoil r).bal = s.bal := (rfl)
@[simp] theorem spoil_evs (r : Spoil) : (s.spoil r).evs = s.evs := (rfl)
@[simp] theorem spoil_mode (r : Spoil) : (s.spoil r).mode = s.mode := (rfl)
@[simp] theorem spoil_modeQ (r : Spoil) : (s.spoil r).modeQ = s.modeQ := (rfl)
@[simp] theorem spoil_adc (r : Spoil) : (s.spoil r).adc = s.adc := (rfl)
@[simp] theorem spoil_cmp (r : Spoil) : (s.spoil r).cmp = s.cmp := (rfl)
@[simp] theorem spoil_safe (r : Spoil) : (s.spoil r).safe = s.safe := (rfl)
@[simp] theorem spoil_mesh (r : Spoil) : (s.spoil r).mesh = s.mesh := (rfl)
@[simp] theorem spoil_pair (r : Spoil) : (s.spoil r).pair = s.pair := (rfl)

/-! spoilDirect -/
@[simp] theorem spoilDirect_now (src : Src) (o c d : Nat) : (s.spoilDirect src o c d).now = s.now := (rfl)
@[simp] theorem spoilDirect_ofs (src : Src) (o c d : Nat) : (s.spoilDirect src o c d).ofs = s.ofs := (rfl)
@[simp] theorem spoilDirect_out (src : Src) (o c d : Nat) : (s.spoilDirect src o c d).out = s.out := (rfl)
@[simp] theorem spoilDirect_sets (src : Src) (o c d : Nat) : (s.spoilDirect src o c d).sets = s.sets := (rfl)
@[simp] theorem spoilDirect_pts (src : Src) (o c d : Nat) : (s.spoilDirect src o c d).pts = s.pts := (rfl)
@[simp] theorem spoilDirect_free (src : Src) (o c d : Nat) : (s.spoilDirect src o c d).free = s.free := (rfl)
@[simp] theorem spoilDirect_pending (src : Src) (o c d : Nat) : (s.spoilDirect src o c d).pending = s.pending := (rfl)
@[simp] theorem spoilDirect_sys (src : Src) (o c d : Nat) : (s.spoilDirect src o c d).sys = s.sys := (rfl)
@[simp] theorem spoilDirect_pwr (src : Src) (o c d : Nat) : (s.spoilDirect src o c d).pwr = s.pwr := (rfl)
@[simp] theorem spoilDirect_clk (src : Src) (o c d : Nat) : (s.spoilDirect src o c d).clk = s.clk := (rfl)
@[simp] theorem spoilDirect_img (src : Src) (o c d : Nat) : (s.spoilDirect src o c d).img = s.img := (rfl)
@[simp] theorem spoilDirect_jnl (src : Src) (o c d : Nat) : (s.spoilDirect src o c d).jnl = s.jnl := (rfl)
@[simp] theorem spoilDirect_lane (src : Src) (o c d : Nat) : (s.spoilDirect src o c d).lane = s.lane := (rfl)
@[simp] theorem spoilDirect_seam (src : Src) (o c d : Nat) : (s.spoilDirect src o c d).seam = s.seam := (rfl)
@[simp] theorem spoilDirect_edg (src : Src) (o c d : Nat) : (s.spoilDirect src o c d).edg = s.edg := (rfl)
@[simp] theorem spoilDirect_comp (src : Src) (o c d : Nat) : (s.spoilDirect src o c d).comp = s.comp := (rfl)
@[simp] theorem spoilDirect_bnc (src : Src) (o c d : Nat) : (s.spoilDirect src o c d).bnc = s.bnc := (rfl)
@[simp] theorem spoilDirect_bal (src : Src) (o c d : Nat) : (s.spoilDirect src o c d).bal = s.bal := (rfl)
@[simp] theorem spoilDirect_evs (src : Src) (o c d : Nat) : (s.spoilDirect src o c d).evs = s.evs := (rfl)
@[simp] theorem spoilDirect_mode (src : Src) (o c d : Nat) : (s.spoilDirect src o c d).mode = s.mode := (rfl)
@[simp] theorem spoilDirect_modeQ (src : Src) (o c d : Nat) : (s.spoilDirect src o c d).modeQ = s.modeQ := (rfl)
@[simp] theorem spoilDirect_adc (src : Src) (o c d : Nat) : (s.spoilDirect src o c d).adc = s.adc := (rfl)
@[simp] theorem spoilDirect_cmp (src : Src) (o c d : Nat) : (s.spoilDirect src o c d).cmp = s.cmp := (rfl)
@[simp] theorem spoilDirect_safe (src : Src) (o c d : Nat) : (s.spoilDirect src o c d).safe = s.safe := (rfl)
@[simp] theorem spoilDirect_mesh (src : Src) (o c d : Nat) : (s.spoilDirect src o c d).mesh = s.mesh := (rfl)
@[simp] theorem spoilDirect_pair (src : Src) (o c d : Nat) : (s.spoilDirect src o c d).pair = s.pair := (rfl)

/-! denied -/
@[simp] theorem denied_now (src : Src) (o : Nat) : (s.denied src o).now = s.now := (rfl)
@[simp] theorem denied_ofs (src : Src) (o : Nat) : (s.denied src o).ofs = s.ofs := (rfl)
@[simp] theorem denied_out (src : Src) (o : Nat) : (s.denied src o).out = s.out := (rfl)
@[simp] theorem denied_sets (src : Src) (o : Nat) : (s.denied src o).sets = s.sets := (rfl)
@[simp] theorem denied_pts (src : Src) (o : Nat) : (s.denied src o).pts = s.pts := (rfl)
@[simp] theorem denied_free (src : Src) (o : Nat) : (s.denied src o).free = s.free := (rfl)
@[simp] theorem denied_pending (src : Src) (o : Nat) : (s.denied src o).pending = s.pending := (rfl)
@[simp] theorem denied_sys (src : Src) (o : Nat) : (s.denied src o).sys = s.sys := (rfl)
@[simp] theorem denied_pwr (src : Src) (o : Nat) : (s.denied src o).pwr = s.pwr := (rfl)
@[simp] theorem denied_clk (src : Src) (o : Nat) : (s.denied src o).clk = s.clk := (rfl)
@[simp] theorem denied_img (src : Src) (o : Nat) : (s.denied src o).img = s.img := (rfl)
@[simp] theorem denied_jnl (src : Src) (o : Nat) : (s.denied src o).jnl = s.jnl := (rfl)
@[simp] theorem denied_lane (src : Src) (o : Nat) : (s.denied src o).lane = s.lane := (rfl)
@[simp] theorem denied_seam (src : Src) (o : Nat) : (s.denied src o).seam = s.seam := (rfl)
@[simp] theorem denied_edg (src : Src) (o : Nat) : (s.denied src o).edg = s.edg := (rfl)
@[simp] theorem denied_comp (src : Src) (o : Nat) : (s.denied src o).comp = s.comp := (rfl)
@[simp] theorem denied_bnc (src : Src) (o : Nat) : (s.denied src o).bnc = s.bnc := (rfl)
@[simp] theorem denied_bal (src : Src) (o : Nat) : (s.denied src o).bal = s.bal := (rfl)
@[simp] theorem denied_evs (src : Src) (o : Nat) : (s.denied src o).evs = s.evs := (rfl)
@[simp] theorem denied_mode (src : Src) (o : Nat) : (s.denied src o).mode = s.mode := (rfl)
@[simp] theorem denied_modeQ (src : Src) (o : Nat) : (s.denied src o).modeQ = s.modeQ := (rfl)
@[simp] theorem denied_adc (src : Src) (o : Nat) : (s.denied src o).adc = s.adc := (rfl)
@[simp] theorem denied_cmp (src : Src) (o : Nat) : (s.denied src o).cmp = s.cmp := (rfl)
@[simp] theorem denied_safe (src : Src) (o : Nat) : (s.denied src o).safe = s.safe := (rfl)
@[simp] theorem denied_mesh (src : Src) (o : Nat) : (s.denied src o).mesh = s.mesh := (rfl)
@[simp] theorem denied_pair (src : Src) (o : Nat) : (s.denied src o).pair = s.pair := (rfl)

/-! sendSymbols -/
@[simp] theorem sendSymbols_now (l : List (Nat × Nat)) : (s.sendSymbols l).now = s.now := by
  unfold sendSymbols; split <;> rfl
@[simp] theorem sendSymbols_ofs (l : List (Nat × Nat)) : (s.sendSymbols l).ofs = s.ofs := by
  unfold sendSymbols; split <;> rfl
@[simp] theorem sendSymbols_sets (l : List (Nat × Nat)) : (s.sendSymbols l).sets = s.sets := by
  unfold sendSymbols; split <;> rfl
@[simp] theorem sendSymbols_pts (l : List (Nat × Nat)) : (s.sendSymbols l).pts = s.pts := by
  unfold sendSymbols; split <;> rfl
@[simp] theorem sendSymbols_free (l : List (Nat × Nat)) : (s.sendSymbols l).free = s.free := by
  unfold sendSymbols; split <;> rfl
@[simp] theorem sendSymbols_pending (l : List (Nat × Nat)) : (s.sendSymbols l).pending = s.pending := by
  unfold sendSymbols; split <;> rfl
@[simp] theorem sendSymbols_sys (l : List (Nat × Nat)) : (s.sendSymbols l).sys = s.sys := by
  unfold sendSymbols; split <;> rfl
@[simp] theorem sendSymbols_pwr (l : List (Nat × Nat)) : (s.sendSymbols l).pwr = s.pwr := by
  unfold sendSymbols; split <;> rfl
@[simp] theorem sendSymbols_clk (l : List (Nat × Nat)) : (s.sendSymbols l).clk = s.clk := by
  unfold sendSymbols; split <;> rfl
@[simp] theorem sendSymbols_img (l : List (Nat × Nat)) : (s.sendSymbols l).img = s.img := by
  unfold sendSymbols; split <;> rfl
@[simp] theorem sendSymbols_host (l : List (Nat × Nat)) : (s.sendSymbols l).host = s.host := by
  unfold sendSymbols; split <;> rfl
@[simp] theorem sendSymbols_jnl (l : List (Nat × Nat)) : (s.sendSymbols l).jnl = s.jnl := by
  unfold sendSymbols; split <;> rfl
@[simp] theorem sendSymbols_lane (l : List (Nat × Nat)) : (s.sendSymbols l).lane = s.lane := by
  unfold sendSymbols; split <;> rfl
@[simp] theorem sendSymbols_seam (l : List (Nat × Nat)) : (s.sendSymbols l).seam = s.seam := by
  unfold sendSymbols; split <;> rfl
@[simp] theorem sendSymbols_edg (l : List (Nat × Nat)) : (s.sendSymbols l).edg = s.edg := by
  unfold sendSymbols; split <;> rfl
@[simp] theorem sendSymbols_comp (l : List (Nat × Nat)) : (s.sendSymbols l).comp = s.comp := by
  unfold sendSymbols; split <;> rfl
@[simp] theorem sendSymbols_bnc (l : List (Nat × Nat)) : (s.sendSymbols l).bnc = s.bnc := by
  unfold sendSymbols; split <;> rfl
@[simp] theorem sendSymbols_bal (l : List (Nat × Nat)) : (s.sendSymbols l).bal = s.bal := by
  unfold sendSymbols; split <;> rfl
@[simp] theorem sendSymbols_evs (l : List (Nat × Nat)) : (s.sendSymbols l).evs = s.evs := by
  unfold sendSymbols; split <;> rfl
@[simp] theorem sendSymbols_mode (l : List (Nat × Nat)) : (s.sendSymbols l).mode = s.mode := by
  unfold sendSymbols; split <;> rfl
@[simp] theorem sendSymbols_modeQ (l : List (Nat × Nat)) : (s.sendSymbols l).modeQ = s.modeQ := by
  unfold sendSymbols; split <;> rfl
@[simp] theorem sendSymbols_adc (l : List (Nat × Nat)) : (s.sendSymbols l).adc = s.adc := by
  unfold sendSymbols; split <;> rfl
@[simp] theorem sendSymbols_cmp (l : List (Nat × Nat)) : (s.sendSymbols l).cmp = s.cmp := by
  unfold sendSymbols; split <;> rfl
@[simp] theorem sendSymbols_safe (l : List (Nat × Nat)) : (s.sendSymbols l).safe = s.safe := by
  unfold sendSymbols; split <;> rfl
@[simp] theorem sendSymbols_pair (l : List (Nat × Nat)) : (s.sendSymbols l).pair = s.pair := by
  unfold sendSymbols; split <;> rfl

/-! sendSymbol -/
@[simp] theorem sendSymbol_now (o a : Nat) : (s.sendSymbol o a).now = s.now := sendSymbols_now _ _
@[simp] theorem sendSymbol_ofs (o a : Nat) : (s.sendSymbol o a).ofs = s.ofs := sendSymbols_ofs _ _
@[simp] theorem sendSymbol_sets (o a : Nat) : (s.sendSymbol o a).sets = s.sets := sendSymbols_sets _ _
@[simp] theorem sendSymbol_pts (o a : Nat) : (s.sendSymbol o a).pts = s.pts := sendSymbols_pts _ _
@[simp] theorem sendSymbol_free (o a : Nat) : (s.sendSymbol o a).free = s.free := sendSymbols_free _ _
@[simp] theorem sendSymbol_pending (o a : Nat) : (s.sendSymbol o a).pending = s.pending := sendSymbols_pending _ _
@[simp] theorem sendSymbol_sys (o a : Nat) : (s.sendSymbol o a).sys = s.sys := sendSymbols_sys _ _
@[simp] theorem sendSymbol_pwr (o a : Nat) : (s.sendSymbol o a).pwr = s.pwr := sendSymbols_pwr _ _
@[simp] theorem sendSymbol_clk (o a : Nat) : (s.sendSymbol o a).clk = s.clk := sendSymbols_clk _ _
@[simp] theorem sendSymbol_img (o a : Nat) : (s.sendSymbol o a).img = s.img := sendSymbols_img _ _
@[simp] theorem sendSymbol_host (o a : Nat) : (s.sendSymbol o a).host = s.host := sendSymbols_host _ _
@[simp] theorem sendSymbol_jnl (o a : Nat) : (s.sendSymbol o a).jnl = s.jnl := sendSymbols_jnl _ _
@[simp] theorem sendSymbol_lane (o a : Nat) : (s.sendSymbol o a).lane = s.lane := sendSymbols_lane _ _
@[simp] theorem sendSymbol_seam (o a : Nat) : (s.sendSymbol o a).seam = s.seam := sendSymbols_seam _ _
@[simp] theorem sendSymbol_edg (o a : Nat) : (s.sendSymbol o a).edg = s.edg := sendSymbols_edg _ _
@[simp] theorem sendSymbol_comp (o a : Nat) : (s.sendSymbol o a).comp = s.comp := sendSymbols_comp _ _
@[simp] theorem sendSymbol_bnc (o a : Nat) : (s.sendSymbol o a).bnc = s.bnc := sendSymbols_bnc _ _
@[simp] theorem sendSymbol_bal (o a : Nat) : (s.sendSymbol o a).bal = s.bal := sendSymbols_bal _ _
@[simp] theorem sendSymbol_evs (o a : Nat) : (s.sendSymbol o a).evs = s.evs := sendSymbols_evs _ _
@[simp] theorem sendSymbol_mode (o a : Nat) : (s.sendSymbol o a).mode = s.mode := sendSymbols_mode _ _
@[simp] theorem sendSymbol_modeQ (o a : Nat) : (s.sendSymbol o a).modeQ = s.modeQ := sendSymbols_modeQ _ _
@[simp] theorem sendSymbol_adc (o a : Nat) : (s.sendSymbol o a).adc = s.adc := sendSymbols_adc _ _
@[simp] theorem sendSymbol_cmp (o a : Nat) : (s.sendSymbol o a).cmp = s.cmp := sendSymbols_cmp _ _
@[simp] theorem sendSymbol_safe (o a : Nat) : (s.sendSymbol o a).safe = s.safe := sendSymbols_safe _ _
@[simp] theorem sendSymbol_pair (o a : Nat) : (s.sendSymbol o a).pair = s.pair := sendSymbols_pair _ _

/-! cleared -/
@[simp] theorem cleared_now (v : Nat) : (s.cleared v).now = s.now := by
  unfold cleared; split <;> rfl
@[simp] theorem cleared_ofs (v : Nat) : (s.cleared v).ofs = s.ofs := by
  unfold cleared; split <;> rfl
@[simp] theorem cleared_sets (v : Nat) : (s.cleared v).sets = s.sets := by
  unfold cleared; split <;> rfl
@[simp] theorem cleared_pts (v : Nat) : (s.cleared v).pts = s.pts := by
  unfold cleared; split <;> rfl
@[simp] theorem cleared_free (v : Nat) : (s.cleared v).free = s.free := by
  unfold cleared; split <;> rfl
@[simp] theorem cleared_pending (v : Nat) : (s.cleared v).pending = s.pending := by
  unfold cleared; split <;> rfl
@[simp] theorem cleared_sys (v : Nat) : (s.cleared v).sys = s.sys := by
  unfold cleared; split <;> rfl
@[simp] theorem cleared_pwr (v : Nat) : (s.cleared v).pwr = s.pwr := by
  unfold cleared; split <;> rfl
@[simp] theorem cleared_clk (v : Nat) : (s.cleared v).clk = s.clk := by
  unfold cleared; split <;> rfl
@[simp] theorem cleared_img (v : Nat) : (s.cleared v).img = s.img := by
  unfold cleared; split <;> rfl
@[simp] theorem cleared_host (v : Nat) : (s.cleared v).host = s.host := by
  unfold cleared; split <;> rfl
@[simp] theorem cleared_jnl (v : Nat) : (s.cleared v).jnl = s.jnl := by
  unfold cleared; split <;> rfl
@[simp] theorem cleared_lane (v : Nat) : (s.cleared v).lane = s.lane := by
  unfold cleared; split <;> rfl
@[simp] theorem cleared_seam (v : Nat) : (s.cleared v).seam = s.seam := by
  unfold cleared; split <;> rfl
@[simp] theorem cleared_edg (v : Nat) : (s.cleared v).edg = s.edg := by
  unfold cleared; split <;> rfl
@[simp] theorem cleared_comp (v : Nat) : (s.cleared v).comp = s.comp := by
  unfold cleared; split <;> rfl
@[simp] theorem cleared_bnc (v : Nat) : (s.cleared v).bnc = s.bnc := by
  unfold cleared; split <;> rfl
@[simp] theorem cleared_bal (v : Nat) : (s.cleared v).bal = s.bal := by
  unfold cleared; split <;> rfl
@[simp] theorem cleared_evs (v : Nat) : (s.cleared v).evs = s.evs := by
  unfold cleared; split <;> rfl
@[simp] theorem cleared_mode (v : Nat) : (s.cleared v).mode = s.mode := by
  unfold cleared; split <;> rfl
@[simp] theorem cleared_modeQ (v : Nat) : (s.cleared v).modeQ = s.modeQ := by
  unfold cleared; split <;> rfl
@[simp] theorem cleared_adc (v : Nat) : (s.cleared v).adc = s.adc := by
  unfold cleared; split <;> rfl
@[simp] theorem cleared_cmp (v : Nat) : (s.cleared v).cmp = s.cmp := by
  unfold cleared; split <;> rfl
@[simp] theorem cleared_safe (v : Nat) : (s.cleared v).safe = s.safe := by
  unfold cleared; split <;> rfl
@[simp] theorem cleared_mesh (v : Nat) : (s.cleared v).mesh = s.mesh := by
  unfold cleared; split <;> rfl
@[simp] theorem cleared_pair (v : Nat) : (s.cleared v).pair = s.pair := by
  unfold cleared; split <;> rfl

/-! relock -/
@[simp] theorem relock_now (src se : Nat) : (s.relock src se).now = s.now := by
  unfold relock; split <;> rfl
@[simp] theorem relock_ofs (src se : Nat) : (s.relock src se).ofs = s.ofs := by
  unfold relock; split <;> rfl
@[simp] theorem relock_out (src se : Nat) : (s.relock src se).out = s.out := by
  unfold relock; split <;> rfl
@[simp] theorem relock_sets (src se : Nat) : (s.relock src se).sets = s.sets := by
  unfold relock; split <;> rfl
@[simp] theorem relock_pts (src se : Nat) : (s.relock src se).pts = s.pts := by
  unfold relock; split <;> rfl
@[simp] theorem relock_free (src se : Nat) : (s.relock src se).free = s.free := by
  unfold relock; split <;> rfl
@[simp] theorem relock_pending (src se : Nat) : (s.relock src se).pending = s.pending := by
  unfold relock; split <;> rfl
@[simp] theorem relock_sys (src se : Nat) : (s.relock src se).sys = s.sys := by
  unfold relock; split <;> rfl
@[simp] theorem relock_pwr (src se : Nat) : (s.relock src se).pwr = s.pwr := by
  unfold relock; split <;> rfl
@[simp] theorem relock_clk (src se : Nat) : (s.relock src se).clk = s.clk := by
  unfold relock; split <;> rfl
@[simp] theorem relock_img (src se : Nat) : (s.relock src se).img = s.img := by
  unfold relock; split <;> rfl
@[simp] theorem relock_host (src se : Nat) : (s.relock src se).host = s.host := by
  unfold relock; split <;> rfl
@[simp] theorem relock_jnl (src se : Nat) : (s.relock src se).jnl = s.jnl := by
  unfold relock; split <;> rfl
@[simp] theorem relock_lane (src se : Nat) : (s.relock src se).lane = s.lane := by
  unfold relock; split <;> rfl
@[simp] theorem relock_seam (src se : Nat) : (s.relock src se).seam = s.seam := by
  unfold relock; split <;> rfl
@[simp] theorem relock_edg (src se : Nat) : (s.relock src se).edg = s.edg := by
  unfold relock; split <;> rfl
@[simp] theorem relock_comp (src se : Nat) : (s.relock src se).comp = s.comp := by
  unfold relock; split <;> rfl
@[simp] theorem relock_bnc (src se : Nat) : (s.relock src se).bnc = s.bnc := by
  unfold relock; split <;> rfl
@[simp] theorem relock_bal (src se : Nat) : (s.relock src se).bal = s.bal := by
  unfold relock; split <;> rfl
@[simp] theorem relock_mode (src se : Nat) : (s.relock src se).mode = s.mode := by
  unfold relock; split <;> rfl
@[simp] theorem relock_modeQ (src se : Nat) : (s.relock src se).modeQ = s.modeQ := by
  unfold relock; split <;> rfl
@[simp] theorem relock_adc (src se : Nat) : (s.relock src se).adc = s.adc := by
  unfold relock; split <;> rfl
@[simp] theorem relock_cmp (src se : Nat) : (s.relock src se).cmp = s.cmp := by
  unfold relock; split <;> rfl
@[simp] theorem relock_mesh (src se : Nat) : (s.relock src se).mesh = s.mesh := by
  unfold relock; split <;> rfl
@[simp] theorem relock_pair (src se : Nat) : (s.relock src se).pair = s.pair := by
  unfold relock; split <;> rfl

end Sys2Proof.Machine.State
end

