-- ==== Sys2Proof/Laws/Frame.lean ====
section
/-! SUPPORT. Which parts of the state an operation may touch: the notion, and its composition. Bit i of a mask stands for the part numbered i. -/
namespace Sys2Proof.Machine

/-- Every part outside the mask is the same. -/
structure Frame (m : Nat) (s u : State) : Prop where
  keeps : ∀ p : Part, m.testBit p.num = false → p.same s u

/-- Bits of a list of parts. -/
def maskOfParts (l : List Part) : Nat := l.foldl (fun m p => setBit m p.num) 0
theorem Part.same_refl (p : Part) (s : State) : p.same s s := by cases p <;> rfl
theorem Part.same_trans {p : Part} {s u v : State} (h : p.same s u) (k : p.same u v) : p.same s v := by
  cases p <;> exact Eq.trans k h
theorem Part.same_symm {p : Part} {s u : State} (h : p.same s u) : p.same u s := by
  cases p <;> exact Eq.symm h
@[simp] theorem Frame.self (m : Nat) (s : State) : Frame m s s = True := eq_true ⟨fun p _ => p.same_refl s⟩
theorem Frame.trans {m : Nat} {s u v : State} (h : Frame m s u) (k : Frame m u v) : Frame m s v :=
  ⟨fun p q => Part.same_trans (h.keeps p q) (k.keeps p q)⟩
/-- A frame holds with a wider mask. -/
theorem Frame.widen {m n : Nat} {s u : State} (h : Frame m s u) (k : m ||| n = n) : Frame n s u := ⟨fun p q => h.keeps p (by
  have : (m ||| n).testBit p.num = false := by rw [k]; exact q
  rw [Nat.testBit_or] at this
  cases hm : m.testBit p.num
  · rfl
  · rw [hm] at this; cases this)⟩
/-- A part of a mask inside another. -/
theorem Mask.sub {k m n : Nat} (h : m ||| n = n) (hk : k ||| m = m) : k ||| n = n := by rw [← h, ← Nat.or_assoc, hk]
/-- A last operation inside the mask does not matter to a frame. -/
theorem Frame.last {m n : Nat} {s u v : State} (h : Frame m u v) (k : m ||| n = n) : Frame n s v = Frame n s u :=
  propext ⟨fun f => ⟨fun p q => Part.same_trans (f.keeps p q) (Part.same_symm ((h.widen k).keeps p q))⟩, fun f => f.trans (h.widen k)⟩
theorem Frame.ite {m : Nat} {s a b : State} {c : Prop} {d : Decidable c} :
    Frame m s (if c then a else b) = ((c → Frame m s a) ∧ (¬c → Frame m s b)) := by
  by_cases h : c <;> simp [h]
theorem Frame.cond {m : Nat} {s a b : State} {c : Bool} (ha : Frame m s a) (hb : Frame m s b) : Frame m s (if c then a else b) := by
  cases c <;> assumption
@[simp] theorem Frame.each {α : Type} {m : Nat} {s u : State} {l : List α} {f : α → State → State} (h : ∀ a v, Frame m v (f a v)) :
    Frame m s (each l f u) = Frame m s u := by
  have key : ∀ (l : List α) (u : State), Frame m u (Machine.each l f u) := by
    intro l
    induction l with
    | nil => intro u; simp [Machine.each]
    | cons a l ih =>
      intro u
      have := ih (f a u)
      exact (h a u).trans this
  exact Frame.last (key l u) (Nat.or_self m)
/-- The same of an operation that answers beside whether it was executed. -/
def Frame1 (m : Nat) (s : State) (r : State × Bool) : Prop := Frame m s r.1
@[simp] theorem Frame1.mk {m : Nat} {s u : State} {b : Bool} : Frame1 m s (u, b) = Frame m s u := rfl
theorem Frame1.of {m : Nat} {s u : State} {b : Bool} (h : Frame m s u) : Frame1 m s (u, b) := h
theorem Frame1.ite {m : Nat} {s : State} {a b : State × Bool} {c : Prop} {d : Decidable c} (ha : c → Frame1 m s a) (hb : ¬c → Frame1 m s b) :
    Frame1 m s (if c then a else b) := by
  by_cases h : c <;> simp [h, ha, hb]
/-- A change of SYS that leaves fuses and key alone. -/
@[simp] theorem State.onSys_frame {m : Nat} {s u : State} {f : Sys → Sys} (hf : ∀ y, (f y).fused = y.fused)
    (hs : ∀ y, (f y).keySet = y.keySet) (hk : ∀ y, (f y).keyHash = y.keyHash) (h : 32 ||| m = m) : Frame m s (u.onSys f) = Frame m s u :=
  Frame.last (m := 32) ⟨fun p q => by
    cases p <;> first | rfl | exact hf _ | exact Prod.ext (hs _) (hk _) | (show (!(f u.sys).keySet || (f u.sys).fused.isSome) = (!u.sys.keySet || u.sys.fused.isSome); rw [hs, hf]) | cases q⟩ h
@[simp] theorem State.onPwr_frame {m : Nat} {s u : State} {f : Pwr → Pwr} (h : 64 ||| m = m) : Frame m s (u.onPwr f) = Frame m s u :=
  Frame.last (m := 64) ⟨fun p q => by cases p <;> first | rfl | cases q⟩ h
@[simp] theorem State.onClk_frame {m : Nat} {s u : State} {f : Clk → Clk} (h : 128 ||| m = m) : Frame m s (u.onClk f) = Frame m s u :=
  Frame.last (m := 128) ⟨fun p q => by cases p <;> first | rfl | cases q⟩ h
@[simp] theorem State.onImg_frame {m : Nat} {s u : State} {f : Img → Img} (h : 256 ||| m = m) : Frame m s (u.onImg f) = Frame m s u :=
  Frame.last (m := 256) ⟨fun p q => by cases p <;> first | rfl | cases q⟩ h
@[simp] theorem State.onHost_frame {m : Nat} {s u : State} {f : HostB → HostB} (h : 512 ||| m = m) : Frame m s (u.onHost f) = Frame m s u :=
  Frame.last (m := 512) ⟨fun p q => by cases p <;> first | rfl | cases q⟩ h
@[simp] theorem State.onJnl_frame {m : Nat} {s u : State} {f : Jnl → Jnl} (h : 1024 ||| m = m) : Frame m s (u.onJnl f) = Frame m s u :=
  Frame.last (m := 1024) ⟨fun p q => by cases p <;> first | rfl | cases q⟩ h
@[simp] theorem State.onLane_frame {m : Nat} {s u : State} {f : LaneB → LaneB} (h : 2048 ||| m = m) : Frame m s (u.onLane f) = Frame m s u :=
  Frame.last (m := 2048) ⟨fun p q => by cases p <;> first | rfl | cases q⟩ h
@[simp] theorem State.onSeam_frame {m : Nat} {s u : State} {f : SeamB → SeamB} (h : 4096 ||| m = m) : Frame m s (u.onSeam f) = Frame m s u :=
  Frame.last (m := 4096) ⟨fun p q => by cases p <;> first | rfl | cases q⟩ h
@[simp] theorem State.onEdg_frame {m : Nat} {s u : State} {f : Edg → Edg} (h : 8192 ||| m = m) : Frame m s (u.onEdg f) = Frame m s u :=
  Frame.last (m := 8192) ⟨fun p q => by cases p <;> first | rfl | cases q⟩ h
@[simp] theorem State.onComp_frame {m : Nat} {s u : State} {f : Comp → Comp} (h : 16384 ||| m = m) : Frame m s (u.onComp f) = Frame m s u :=
  Frame.last (m := 16384) ⟨fun p q => by cases p <;> first | rfl | cases q⟩ h
@[simp] theorem State.onBnc_frame {m : Nat} {s u : State} {f : Bnc → Bnc} (h : 32768 ||| m = m) : Frame m s (u.onBnc f) = Frame m s u :=
  Frame.last (m := 32768) ⟨fun p q => by cases p <;> first | rfl | cases q⟩ h
@[simp] theorem State.onBal_frame {m : Nat} {s u : State} {f : Bal → Bal} (h : 65536 ||| m = m) : Frame m s (u.onBal f) = Frame m s u :=
  Frame.last (m := 65536) ⟨fun p q => by cases p <;> first | rfl | cases q⟩ h
@[simp] theorem State.onEvs_frame {m : Nat} {s u : State} {f : Evs → Evs} (h : 131072 ||| m = m) : Frame m s (u.onEvs f) = Frame m s u :=
  Frame.last (m := 131072) ⟨fun p q => by cases p <;> first | rfl | cases q⟩ h
@[simp] theorem State.onMode_frame {m : Nat} {s u : State} {f : ModeB → ModeB} (h : 262144 ||| m = m) : Frame m s (u.onMode f) = Frame m s u :=
  Frame.last (m := 262144) ⟨fun p q => by cases p <;> first | rfl | cases q⟩ h
@[simp] theorem State.onModeQ_frame {m : Nat} {s u : State} {f : ModeQ → ModeQ} (h : 524288 ||| m = m) : Frame m s (u.onModeQ f) = Frame m s u :=
  Frame.last (m := 524288) ⟨fun p q => by cases p <;> first | rfl | cases q⟩ h
@[simp] theorem State.onAdc_frame {m : Nat} {s u : State} {f : AdcB → AdcB} (h : 1048576 ||| m = m) : Frame m s (u.onAdc f) = Frame m s u :=
  Frame.last (m := 1048576) ⟨fun p q => by cases p <;> first | rfl | cases q⟩ h
@[simp] theorem State.onCmp_frame {m : Nat} {s u : State} {f : CmpB → CmpB} (h : 2097152 ||| m = m) : Frame m s (u.onCmp f) = Frame m s u :=
  Frame.last (m := 2097152) ⟨fun p q => by cases p <;> first | rfl | cases q⟩ h
@[simp] theorem State.onSafe_frame {m : Nat} {s u : State} {f : Safe → Safe} (h : 4194304 ||| m = m) : Frame m s (u.onSafe f) = Frame m s u :=
  Frame.last (m := 4194304) ⟨fun p q => by cases p <;> first | rfl | cases q⟩ h
@[simp] theorem State.onMesh_frame {m : Nat} {s u : State} {f : Mesh → Mesh} (h : 8388608 ||| m = m) : Frame m s (u.onMesh f) = Frame m s u :=
  Frame.last (m := 8388608) ⟨fun p q => by cases p <;> first | rfl | cases q⟩ h
@[simp] theorem State.onPair_frame {m : Nat} {s u : State} {f : PairB → PairB} (h : 16777216 ||| m = m) : Frame m s (u.onPair f) = Frame m s u :=
  Frame.last (m := 16777216) ⟨fun p q => by cases p <;> first | rfl | cases q⟩ h
@[simp] theorem State.emit_frame {m : Nat} {s u : State} {o : Out} (h : 4 ||| m = m) : Frame m s (u.emit o) = Frame m s u :=
  Frame.last (m := 4) ⟨fun p q => by cases p <;> first | rfl | cases q⟩ h
@[simp] theorem State.emits_frame {m : Nat} {s u : State} {l : List Out} (h : 4 ||| m = m) : Frame m s (u.emits l) = Frame m s u :=
  Frame.last (m := 4) ⟨fun p q => by cases p <;> first | rfl | cases q⟩ h
@[simp] theorem State.drawn_frame {m : Nat} {s u : State}  (h : 8 ||| m = m) : Frame m s (u.drawn) = Frame m s u :=
  Frame.last (m := 8) ⟨fun p q => by cases p <;> first | rfl | cases q⟩ h
@[simp] theorem State.begin_frame {m : Nat} {s u : State} {t : Nat} (h : 5 ||| m = m) : Frame m s (u.begin t) = Frame m s u :=
  Frame.last (m := 5) ⟨fun p q => by cases p <;> first | rfl | cases q⟩ h
@[simp] theorem State.noteSets_frame {m : Nat} {s u : State} {l : List (Nat × Nat)} (h : 4 ||| m = m) : Frame m s (u.noteSets l) = Frame m s u :=
  Frame.last (m := 4) ⟨fun p q => by cases p <;> first | rfl | cases q⟩ h
@[simp] theorem State.reach_frame {m : Nat} {s u : State} {i : Nat} (h : 268435456 ||| m = m) : Frame m s (u.reach i) = Frame m s u :=
  Frame.last (m := 268435456) ⟨fun p q => by cases p <;> first | rfl | cases q⟩ h
theorem Part.num_inj {p q : Part} (h : p.num = q.num) : p = q := by
  have k : ∀ r : Part, [Part.now, .ofs, .out, .free, .pending, .sys, .pwr, .clk, .img, .host, .jnl, .lane, .seam, .edg, .comp, .bnc, .bal, .evs,
      .mode, .modeQ, .adc, .cmp, .safe, .mesh, .pair, .fuse, .key, .keyed, .pts][r.num]? = some r := by intro r; cases r <;> rfl
  exact Option.some.inj ((k p).symm.trans ((congrArg _ h).trans (k q)))
/-- The parts of a list cover a mask. -/
theorem Frame.only {m : Nat} {s u : State} {l : List Part} (h : Frame m s u) (k : m ||| maskOfParts (.now :: .out :: l) = maskOfParts (.now :: .out :: l)) :
    Only l s u := by
  intro p hp
  refine (h.widen k).keeps p ?_
  have key : ∀ (l : List Part) (m : Nat), m.testBit p.num = false → p ∉ l → (l.foldl (fun m q => setBit m q.num) m).testBit p.num = false := by
    intro l
    induction l with
    | nil => intro m hm _; exact hm
    | cons q l ih =>
      intro m hm hn
      rw [List.foldl_cons]
      refine ih _ ?_ (fun h => hn (List.mem_cons_of_mem _ h))
      have hq : q.num ≠ p.num := by
        intro e
        refine hn ?_
        exact (Part.num_inj e).symm ▸ List.mem_cons_self
      rw [setBit, Nat.testBit_or, hm, Nat.one_shiftLeft, Nat.testBit_two_pow_of_ne hq]
      rfl
  exact key _ 0 (by simp) hp

end Sys2Proof.Machine
end

