-- ==== Sys2Proof/Laws/FrameHost.lean ====
section
/-! SUPPORT. What the shared operations, lines, records and sessions may touch. -/
namespace Sys2Proof.Machine
set_option linter.all false

/-! ## Ops -/

@[simp] theorem State.portPut_frame {m : Nat} {s u : State} {a0 : Nat} {a1 : MFrame} (h : 8388612 ||| m = m) : Frame m s (State.portPut a0 a1 u) = Frame m s u := by
  refine Frame.last (m := 8388612) ?_ h
  unfold State.portPut
  simp [↓Frame.ite]
@[simp] theorem State.meshSend_frame {m : Nat} {s u : State} {a0 : Nat} {a1 : Nat} {a2 : Nat} {a3 : MBody} (h : 8388620 ||| m = m) : Frame m s (State.meshSend a0 a1 a2 a3 u) = Frame m s u := by
  refine Frame.last (m := 8388620) ?_ h
  unfold State.meshSend
  repeat' (first | (simp [↓Frame.ite]; done) | split | (refine ⟨fun _ => ?_, fun _ => ?_⟩) | (intro _) | (refine Eq.mpr (Frame.each ?_) ?_) | (refine Eq.mpr (State.laneStep_frame ?_ rfl) ?_) | (refine Eq.mpr (State.healthStep_frame ?_ rfl) ?_) | simp [↓Frame.ite])
@[simp] theorem State.pairSend_frame {m : Nat} {s u : State} {a0 : PairMsg} (h : 4 ||| m = m) : Frame m s (State.pairSend a0 u) = Frame m s u := by
  refine Frame.last (m := 4) ?_ h
  unfold State.pairSend
  simp
@[simp] theorem State.portsSend_frame {m : Nat} {s u : State} (h : 8388612 ||| m = m) : Frame m s (State.portsSend u) = Frame m s u := by
  refine Frame.last (m := 8388612) ?_ h
  unfold State.portsSend
  refine (?_ : Frame 8388612 u { u with out := [] }).trans (Eq.mpr (Frame.each fun p v => ?_) (by simp))
  · exact ⟨fun p q => by cases p <;> first | rfl | cases q⟩
  · simp only []
    refine Frame.ite.mpr ⟨fun _ => by simp, fun _ => ?_⟩
    split <;> simp
theorem State.lagged_same (s : State) (p : Part) (h : p ≠ .ofs) : p.same s s.lagged := by
  unfold State.lagged
  split
  · exact p.same_refl s
  · cases p <;> first | rfl | exact absurd rfl h
@[simp] theorem State.underLag_frame {m : Nat} {s u : State} {f : State → State} (hf : ∀ v, Frame m v (f v)) :
    Frame m s (State.underLag f u) = Frame m s u := by
  refine Frame.last (m := m) ?_ (Nat.or_self m)
  unfold State.underLag
  refine Frame.ite.mpr ⟨fun _ => hf u, fun _ => ⟨fun p q => ?_⟩⟩
  by_cases hp : p = .ofs
  · subst hp; rfl
  · refine Part.same_trans (State.lagged_same u p hp) (Part.same_trans ((hf u.lagged).keeps p q) ?_)
    cases p <;> first | rfl | exact absurd rfl hp
@[simp] theorem State.finish_frame {m : Nat} {s u : State} {a0 : Nat} {a1 : Nat} (h : 4 ||| m = m) : Frame m s (State.finish a0 a1 u) = Frame m s u := by
  refine Frame.last (m := 4) ?_ h
  unfold State.finish
  simp [↓Frame.ite]
@[simp] theorem State.cleared_frame {m : Nat} {s u : State} {a0 : Nat} (h : 4 ||| m = m) : Frame m s (State.cleared a0 u) = Frame m s u := by
  refine Frame.last (m := 4) ?_ h
  unfold State.cleared
  simp [↓Frame.ite]
@[simp] theorem State.event_frame {m : Nat} {s u : State} {a0 : Nat} {a1 : Bytes} (h : 131072 ||| m = m) : Frame m s (State.event a0 a1 u) = Frame m s u := by
  refine Frame.last (m := 131072) ?_ h
  unfold State.event
  simp
@[simp] theorem State.jAdd_frame {m : Nat} {s u : State} {a0 : JEntry} {a1 : Bool} (h : 1024 ||| m = m) : Frame m s (State.jAdd a0 a1 u) = Frame m s u := by
  refine Frame.last (m := 1024) ?_ h
  unfold State.jAdd
  simp
@[simp] theorem State.jKnow_frame {m : Nat} {s u : State} {a0 : Nat} {a1 : JEntry → JEntry} (h : 1024 ||| m = m) : Frame m s (State.jKnow a0 a1 u) = Frame m s u := by
  refine Frame.last (m := 1024) ?_ h
  unfold State.jKnow
  simp
@[simp] theorem State.jEvent_frame {m : Nat} {s u : State} {a0 : Nat} {a1 : Nat} {a2 : Nat} {a3 : Bytes} (h : 1024 ||| m = m) : Frame m s (State.jEvent a0 a1 a2 a3 u) = Frame m s u := by
  refine Frame.last (m := 1024) ?_ h
  unfold State.jEvent
  simp
@[simp] theorem State.jEventAt_frame {m : Nat} {s u : State} {a0 : Nat} {a1 : Nat} {a2 : Nat} (h : 1024 ||| m = m) : Frame m s (State.jEventAt a0 a1 a2 u) = Frame m s u := by
  refine Frame.last (m := 1024) ?_ h
  unfold State.jEventAt
  simp
@[simp] theorem State.jGone_frame {m : Nat} {s u : State} {a0 : Nat} (h : 16778752 ||| m = m) : Frame m s (State.jGone a0 u) = Frame m s u := by
  refine Frame.last (m := 16778752) ?_ h
  unfold State.jGone
  simp
@[simp] theorem State.jDirect_frame {m : Nat} {s u : State} {a0 : Src} {a1 : Nat} {a2 : Word} (h : 1024 ||| m = m) : Frame m s (State.jDirect a0 a1 a2 u) = Frame m s u := by
  refine Frame.last (m := 1024) ?_ h
  unfold State.jDirect
  simp
@[simp] theorem State.logAdd_frame {m : Nat} {s u : State} {a0 : Nat} {a1 : Nat} {a2 : Nat} {a3 : Nat} {a4 : Nat} {a5 : Nat} {a6 : Bytes} (h : 131072 ||| m = m) : Frame m s (State.logAdd a0 a1 a2 a3 a4 a5 a6 u) = Frame m s u := by
  refine Frame.last (m := 131072) ?_ h
  unfold State.logAdd
  simp
@[simp] theorem State.relock_frame {m : Nat} {s u : State} {a0 : Nat} {a1 : Nat} (h : 4325376 ||| m = m) : Frame m s (State.relock a0 a1 u) = Frame m s u := by
  refine Frame.last (m := 4325376) ?_ h
  unfold State.relock
  simp [↓Frame.ite]
@[simp] theorem State.sendSymbols_frame {m : Nat} {s u : State} {a0 : List (Nat × Nat)} (h : 8388612 ||| m = m) : Frame m s (State.sendSymbols a0 u) = Frame m s u := by
  refine Frame.last (m := 8388612) ?_ h
  unfold State.sendSymbols
  simp [↓Frame.ite]
@[simp] theorem State.sendSymbol_frame {m : Nat} {s u : State} {a0 : Nat} {a1 : Nat} (h : 8388612 ||| m = m) : Frame m s (State.sendSymbol a0 a1 u) = Frame m s u := by
  refine Frame.last (m := 8388612) ?_ h
  unfold State.sendSymbol
  simp
@[simp] theorem State.onConv_frame {m : Nat} {s u : State} {a0 : Nat} {a1 : Conv → Conv} (h : 8388608 ||| m = m) : Frame m s (State.onConv a0 a1 u) = Frame m s u := by
  refine Frame.last (m := 8388608) ?_ h
  unfold State.onConv
  simp
@[simp] theorem State.dataSend_frame {m : Nat} {s u : State} {a0 : Nat} {a1 : Item} (h : 8388620 ||| m = m) : Frame m s (State.dataSend a0 a1 u) = Frame m s u := by
  refine Frame.last (m := 8388620) ?_ h
  unfold State.dataSend
  simp
@[simp] theorem State.sendItem_frame {m : Nat} {s u : State} {a0 : Nat} {a1 : Item} (h : 8388620 ||| m = m) : Frame m s (State.sendItem a0 a1 u) = Frame m s u := by
  refine Frame.last (m := 8388620) ?_ h
  unfold State.sendItem
  simp [↓Frame.ite]
@[simp] theorem State.spoil_frame {m : Nat} {s u : State} {a0 : Spoil} (h : 512 ||| m = m) : Frame m s (State.spoil a0 u) = Frame m s u := by
  refine Frame.last (m := 512) ?_ h
  unfold State.spoil
  simp
@[simp] theorem State.spoilDirect_frame {m : Nat} {s u : State} {a0 : Src} {a1 : Nat} {a2 : Nat} {a3 : Nat} (h : 512 ||| m = m) : Frame m s (State.spoilDirect a0 a1 a2 a3 u) = Frame m s u := by
  refine Frame.last (m := 512) ?_ h
  unfold State.spoilDirect
  simp
@[simp] theorem State.denied_frame {m : Nat} {s u : State} {a0 : Src} {a1 : Nat} (h : 512 ||| m = m) : Frame m s (State.denied a0 a1 u) = Frame m s u := by
  refine Frame.last (m := 512) ?_ h
  unfold State.denied
  simp

/-! ## Host -/

@[simp] theorem State.onCtx_frame {m : Nat} {s u : State} {a0 : Nat} {a1 : Ctx → Ctx} (h : 512 ||| m = m) : Frame m s (State.onCtx a0 a1 u) = Frame m s u := by
  refine Frame.last (m := 512) ?_ h
  unfold State.onCtx
  simp
@[simp] theorem State.onMbx_frame {m : Nat} {s u : State} {a0 : Nat} {a1 : Mbx → Mbx} (h : 512 ||| m = m) : Frame m s (State.onMbx a0 a1 u) = Frame m s u := by
  refine Frame.last (m := 512) ?_ h
  unfold State.onMbx
  simp
@[simp] theorem State.deliver_frame {m : Nat} {s u : State} {a0 : RecHdr} {a1 : Cpl} (h : 8389132 ||| m = m) : Frame m s (State.deliver a0 a1 u) = Frame m s u := by
  refine Frame.last (m := 8389132) ?_ h
  unfold State.deliver
  (repeat' split) <;> simp
@[simp] theorem State.cacheCpl_frame {m : Nat} {s u : State} {a0 : Nat} {a1 : Word} {a2 : Cpl} (h : 512 ||| m = m) : Frame m s (State.cacheCpl a0 a1 a2 u) = Frame m s u := by
  refine Frame.last (m := 512) ?_ h
  unfold State.cacheCpl
  simp
@[simp] theorem State.reject_frame {m : Nat} {s u : State} {a0 : RecHdr} {a1 : Nat} {a2 : Nat} {a3 : Refuse} {a4 : Nat} {a5 : Option Word} (h : 8389132 ||| m = m) : Frame m s (State.reject a0 a1 a2 a3 a4 a5 u) = Frame m s u := by
  refine Frame.last (m := 8389132) ?_ h
  unfold State.reject
  (repeat' split) <;> simp
@[simp] theorem State.answerCopies_frame {m : Nat} {s u : State} {a0 : Nat} {a1 : Cpl} (h : 8389132 ||| m = m) : Frame m s (State.answerCopies a0 a1 u) = Frame m s u := by
  refine Frame.last (m := 8389132) ?_ h
  unfold State.answerCopies
  simp
@[simp] theorem State.release_frame {m : Nat} {s u : State} {a0 : Held} (h : 8389132 ||| m = m) : Frame m s (State.release a0 u) = Frame m s u := by
  refine Frame.last (m := 8389132) ?_ h
  unfold State.release
  (repeat' split) <;> simp
@[simp] theorem State.heldFlush_frame {m : Nat} {s u : State} (h : 8389132 ||| m = m) : Frame m s (State.heldFlush u) = Frame m s u := by
  refine Frame.last (m := 8389132) ?_ h
  unfold State.heldFlush
  simp
@[simp] theorem State.heldOut_frame {m : Nat} {s u : State} (h : 8389132 ||| m = m) : Frame m s (State.heldOut u) = Frame m s u := by
  refine Frame.last (m := 8389132) ?_ h
  unfold State.heldOut
  simp
@[simp] theorem State.finishCpl_frame {m : Nat} {s u : State} {a0 : Held} (h : 8389132 ||| m = m) : Frame m s (State.finishCpl a0 u) = Frame m s u := by
  refine Frame.last (m := 8389132) ?_ h
  unfold State.finishCpl
  simp [↓Frame.ite]
@[simp] theorem State.answer_frame {m : Nat} {s u : State} {a0 : OpenCmd} {a1 : Answer} (h : 8390156 ||| m = m) : Frame m s (State.answer a0 a1 u) = Frame m s u := by
  refine Frame.last (m := 8390156) ?_ h
  unfold State.answer
  simp
/-- What a command's own parts may touch. -/
structure CmdOk (m : Nat) (cmd : Cmd) : Prop where
  act : ∀ h p v, Frame m v (cmd.act h p v).1
  deny : ∀ h r v, Frame m v (cmd.deny h r v)
  post : ∀ h p v, Frame m v (cmd.post h p v)
@[simp] theorem State.perform_frame {m : Nat} {s u : State} {cmd : Cmd} {o : OpenCmd} (hc : CmdOk m cmd) (h : 8390156 ||| m = m) :
    Frame m s (State.perform cmd o u) = Frame m s u := by
  have h1 : 512 ||| m = m := Mask.sub h rfl
  refine Frame.last (m := m) ?_ (Nat.or_self m)
  have k := hc.act o.h o.pay u
  unfold State.perform
  simp only []
  split
  · exact Frame.trans (by simpa [h] using k) (hc.post _ _ _)
  · simpa [h1] using k
@[simp] theorem State.accept_frame {m : Nat} {s u : State} {cmd : Cmd} {r : RecHdr} {p : Bytes} {c : Option Word} (hc : CmdOk m cmd)
    (h : 25167372 ||| m = m) : Frame m s (State.accept cmd r p c u) = Frame m s u := by
  have hs : ∀ k, k ||| 25167372 = 25167372 → k ||| m = m := fun k e => Mask.sub h e
  have h5 : 8390156 ||| m = m := hs _ rfl
  refine Frame.last (m := m) ?_ (Nat.or_self m)
  unfold State.accept
  simp [↓Frame.ite, hc, hs, h5]
@[simp] theorem State.openDrop_frame {m : Nat} {s u : State} {a0 : OpenCmd} (h : 512 ||| m = m) : Frame m s (State.openDrop a0 u) = Frame m s u := by
  refine Frame.last (m := 512) ?_ h
  unfold State.openDrop
  simp
@[simp] theorem State.dropFlight_frame {m : Nat} {s u : State} (h : 16778752 ||| m = m) : Frame m s (State.dropFlight u) = Frame m s u := by
  refine Frame.last (m := 16778752) ?_ h
  unfold State.dropFlight
  simp
@[simp] theorem State.answerOpen_frame {m : Nat} {s u : State} {a0 : OpenCmd} {a1 : Answer} (h : 8390156 ||| m = m) : Frame m s (State.answerOpen a0 a1 u) = Frame m s u := by
  refine Frame.last (m := 8390156) ?_ h
  unfold State.answerOpen
  simp
@[simp] theorem State.refuseOpen_frame {m : Nat} {s u : State} {a0 : OpenCmd} {a1 : Refuse} (h : 25167372 ||| m = m) : Frame m s (State.refuseOpen a0 a1 u) = Frame m s u := by
  refine Frame.last (m := 25167372) ?_ h
  unfold State.refuseOpen
  simp
@[simp] theorem State.openUnknown_frame {m : Nat} {s u : State} {a0 : OpenCmd} {a1 : Nat} {a2 : Nat} (h : 8390156 ||| m = m) : Frame m s (State.openUnknown a0 a1 a2 u) = Frame m s u := by
  refine Frame.last (m := 8390156) ?_ h
  unfold State.openUnknown
  simp [↓Frame.ite]
@[simp] theorem State.renew_frame {m : Nat} {s u : State} {a0 : Nat} (h : 512 ||| m = m) : Frame m s (State.renew a0 u) = Frame m s u := by
  refine Frame.last (m := 512) ?_ h
  unfold State.renew
  simp
@[simp] theorem State.evControl_frame {m : Nat} {s u : State} {a0 : Nat} (h : 1024 ||| m = m) : Frame m s (State.evControl a0 u) = Frame m s u := by
  refine Frame.last (m := 1024) ?_ h
  unfold State.evControl
  simp [↓Frame.ite]
@[simp] theorem State.hostLossCheck_frame {m : Nat} {s u : State} (h : 8912900 ||| m = m) : Frame m s (State.hostLossCheck u) = Frame m s u := by
  refine Frame.last (m := 8912900) ?_ h
  unfold State.hostLossCheck
  simp [↓Frame.ite]
@[simp] theorem State.closeCtx_frame {m : Nat} {s u : State} {a0 : Nat} (h : 512 ||| m = m) : Frame m s (State.closeCtx a0 u) = Frame m s u := by
  refine Frame.last (m := 512) ?_ h
  unfold State.closeCtx
  simp
@[simp] theorem State.duplicate_frame {m : Nat} {s u : State} {a0 : RecHdr} {a1 : Cpl} (h : 8389132 ||| m = m) : Frame m s (State.duplicate a0 a1 u) = Frame m s u := by
  refine Frame.last (m := 8389132) ?_ h
  unfold State.duplicate
  simp

/-! ## Conv -/

@[simp] theorem State.dataAcked_frame {m : Nat} {s u : State} {a0 : Nat} {a1 : Nat} (h : 8388620 ||| m = m) : Frame m s (State.dataAcked a0 a1 u) = Frame m s u := by
  refine Frame.last (m := 8388620) ?_ h
  unfold State.dataAcked
  repeat' (first | (simp [↓Frame.ite]; done) | split | (refine ⟨fun _ => ?_, fun _ => ?_⟩) | (intro _) | (refine Eq.mpr (Frame.each ?_) ?_) | (refine Eq.mpr (State.laneStep_frame ?_ rfl) ?_) | (refine Eq.mpr (State.healthStep_frame ?_ rfl) ?_) | simp [↓Frame.ite])
@[simp] theorem State.convEnds_frame {m : Nat} {s u : State} {a0 : Nat} (h : 25167372 ||| m = m) : Frame m s (State.convEnds a0 u) = Frame m s u := by
  refine Frame.last (m := 25167372) ?_ h
  unfold State.convEnds
  repeat' (first | (simp [↓Frame.ite]; done) | split | (refine ⟨fun _ => ?_, fun _ => ?_⟩) | (intro _) | (refine Eq.mpr (Frame.each ?_) ?_) | (refine Eq.mpr (State.laneStep_frame ?_ rfl) ?_) | (refine Eq.mpr (State.healthStep_frame ?_ rfl) ?_) | simp [↓Frame.ite])
@[simp] theorem State.convLost_frame {m : Nat} {s u : State} {a0 : Nat} {a1 : Nat} (h : 25298444 ||| m = m) : Frame m s (State.convLost a0 a1 u) = Frame m s u := by
  refine Frame.last (m := 25298444) ?_ h
  unfold State.convLost
  simp
@[simp] theorem State.convRise_frame {m : Nat} {s u : State} {a0 : Nat} (h : 8388608 ||| m = m) : Frame m s (State.convRise a0 u) = Frame m s u := by
  refine Frame.last (m := 8388608) ?_ h
  unfold State.convRise
  simp
@[simp] theorem State.convsDown_frame {m : Nat} {s u : State} (h : 25167372 ||| m = m) : Frame m s (State.convsDown u) = Frame m s u := by
  refine Frame.last (m := 25167372) ?_ h
  unfold State.convsDown
  simp
@[simp] theorem State.ask_frame {m : Nat} {s u : State} {a0 : Nat} {a1 : Nat} {a2 : Nat} (h : 8388620 ||| m = m) : Frame m s (State.ask a0 a1 a2 u) = Frame m s u := by
  refine Frame.last (m := 8388620) ?_ h
  unfold State.ask
  simp
@[simp] theorem State.remoteRead_frame {m : Nat} {s u : State} {a0 : Nat} {a1 : Nat} (h : 8389132 ||| m = m) : Frame m s (State.remoteRead a0 a1 u) = Frame m s u := by
  refine Frame.last (m := 8389132) ?_ h
  unfold State.remoteRead
  simp [↓Frame.ite]
@[simp] theorem State.remoteWrite_frame {m : Nat} {s u : State} {a0 : Nat} {a1 : Word} (h : 8389132 ||| m = m) : Frame m s (State.remoteWrite a0 a1 u) = Frame m s u := by
  refine Frame.last (m := 8389132) ?_ h
  unfold State.remoteWrite
  simp [↓Frame.ite]

/-! ## Pipeline -/

@[simp] theorem State.nak_frame {m : Nat} {s u : State} {a0 : RecHdr} {a1 : Nat} {a2 : Refuse} (h : 8389132 ||| m = m) : Frame m s (State.nak a0 a1 a2 u) = Frame m s u := by
  refine Frame.last (m := 8389132) ?_ h
  unfold State.nak
  simp
@[simp] theorem State.refuse_frame {m : Nat} {s u : State} {a0 : RecHdr} {a1 : Nat} {a2 : Word} {a3 : Refuse} (h : 8389132 ||| m = m) : Frame m s (State.refuse a0 a1 a2 a3 u) = Frame m s u := by
  refine Frame.last (m := 8389132) ?_ h
  unfold State.refuse
  simp
@[simp] theorem State.forward_frame {m : Nat} {s u : State} {a0 : RecHdr} {a1 : Nat} {a2 : Bytes} {a3 : Option Word} (h : 8390156 ||| m = m) : Frame m s (State.forward a0 a1 a2 a3 u) = Frame m s u := by
  refine Frame.last (m := 8390156) ?_ h
  unfold State.forward
  simp [↓Frame.ite]
@[simp] theorem State.consumed_frame {m : Nat} {s u : State} {cmd : Option Cmd} {r : RecHdr} {op : Nat} {p : Bytes} {c : Word}
    (hc : ∀ x, cmd = some x → CmdOk m x) (h : 25167372 ||| m = m) : Frame m s (State.consumed cmd r op p c u) = Frame m s u := by
  have hs : ∀ k, k ||| 25167372 = 25167372 → k ||| m = m := fun k e => Mask.sub h e
  refine Frame.last (m := m) ?_ (Nat.or_self m)
  unfold State.consumed
  simp only []
  split
  · simp [hs]
  · rename_i x
    have hx := hc x rfl
    split
    · simp [hs]
    · split
      · refine Eq.mpr (State.refuse_frame (hs _ rfl)) ?_
        exact Frame.trans (by simp [hs]) (hx.deny _ _ _)
      · simp [hx, hs]
@[simp] theorem State.again_frame {m : Nat} {s u : State} {a0 : RecHdr} {a1 : Nat} {a2 : Word} {a3 : Word} {a4 : Nat} (h : 8389132 ||| m = m) : Frame m s (State.again a0 a1 a2 a3 a4 u) = Frame m s u := by
  refine Frame.last (m := 8389132) ?_ h
  unfold State.again
  simp [↓Frame.ite]
@[simp] theorem State.sequence_frame {m : Nat} {s u : State} {cmd : Option Cmd} {r : RecHdr} {op : Nat} {p : Bytes} {c : Word}
    (hc : ∀ x, cmd = some x → CmdOk m x) (h : 25167372 ||| m = m) : Frame m s (State.sequence cmd r op p c u) = Frame m s u := by
  have hs : ∀ k, k ||| 25167372 = 25167372 → k ||| m = m := fun k e => Mask.sub h e
  refine Frame.last (m := m) ?_ (Nat.or_self m)
  unfold State.sequence
  simp only []
  repeat' (first
    | (simp [hs]; done)
    | (with_reducible refine Frame.ite.mpr ⟨fun _ => ?_, fun _ => ?_⟩)
    | (refine Eq.mpr (State.consumed_frame hc h) ?_)
    | split)
@[simp] theorem State.unsequenced_frame {m : Nat} {s u : State} {cmd : Cmd} {r : RecHdr} {p : Bytes} (hc : CmdOk m cmd)
    (h : 25167372 ||| m = m) : Frame m s (State.unsequenced cmd r p u) = Frame m s u := by
  have hs : ∀ k, k ||| 25167372 = 25167372 → k ||| m = m := fun k e => Mask.sub h e
  refine Frame.last (m := m) ?_ (Nat.or_self m)
  unfold State.unsequenced
  repeat' (first | (simp [hc, hs]; done) | split)
@[simp] theorem State.framed_frame {m : Nat} {s u : State} {cmd : Option Cmd} {r : RecHdr} {op : Nat} {p : Bytes} {c : Word}
    (hc : ∀ x, cmd = some x → CmdOk m x) (h : 25167372 ||| m = m) : Frame m s (State.framed cmd r op p c u) = Frame m s u := by
  have hs : ∀ k, k ||| 25167372 = 25167372 → k ||| m = m := fun k e => Mask.sub h e
  refine Frame.last (m := m) ?_ (Nat.or_self m)
  unfold State.framed
  repeat' (first
    | (simp [↓Frame.ite, hs]; done)
    | (refine Eq.mpr (State.sequence_frame hc h) ?_)
    | (refine Eq.mpr (State.unsequenced_frame (hc _ rfl) h) ?_)
    | split)
@[simp] theorem State.process_frame {m : Nat} {s u : State} {cmd : Option Cmd} {r : RecHdr} {op : Nat} {p : Bytes} {c : Word}
    (hc : ∀ x, cmd = some x → CmdOk m x) (h : 25167372 ||| m = m) : Frame m s (State.process cmd r op p c u) = Frame m s u := by
  have hs : ∀ k, k ||| 25167372 = 25167372 → k ||| m = m := fun k e => Mask.sub h e
  refine Frame.last (m := m) ?_ (Nat.or_self m)
  unfold State.process
  refine Frame.ite.mpr ⟨fun _ => ?_, fun _ => ?_⟩
  · simp [hs]
  · exact Eq.mpr (State.framed_frame hc h) (by simp)
@[simp] theorem State.turned_frame {m : Nat} {s u : State} {a0 : Nat} (h : 512 ||| m = m) : Frame m s (State.turned a0 u) = Frame m s u := by
  refine Frame.last (m := 512) ?_ h
  unfold State.turned
  simp
@[simp] theorem State.takeRing_frame {m : Nat} {s u : State} {f : State → State} {c : Nat} (hf : ∀ v, Frame m v (f v)) (h : 512 ||| m = m) :
    Frame m s (State.takeRing c f u) = Frame m s u := by
  have hl : ∀ v w, Frame m v (f w) = Frame m v w := fun v w => Frame.last (hf w) (Nat.or_self m)
  have hs : ∀ k, k ||| 512 = 512 → k ||| m = m := fun k e => Mask.sub h e
  refine Frame.last (m := m) ?_ (Nat.or_self m)
  unfold State.takeRing
  simp [↓Frame.ite, hl, hs]
@[simp] theorem State.takeMbx_frame {m : Nat} {s u : State} {f : State → State} {c : Nat} (hf : ∀ v, Frame m v (f v)) (h : 512 ||| m = m) :
    Frame m s (State.takeMbx c f u) = Frame m s u := by
  have hl : ∀ v w, Frame m v (f w) = Frame m v w := fun v w => Frame.last (hf w) (Nat.or_self m)
  have hs : ∀ k, k ||| 512 = 512 → k ||| m = m := fun k e => Mask.sub h e
  refine Frame.last (m := m) ?_ (Nat.or_self m)
  unfold State.takeMbx
  simp [↓Frame.ite, hl, hs]
@[simp] theorem State.rung_frame {m : Nat} {s u : State} {a0 : Nat} {a1 : Bytes} (h : 512 ||| m = m) : Frame m s (State.rung a0 a1 u) = Frame m s u := by
  refine Frame.last (m := 512) ?_ h
  unfold State.rung
  simp
@[simp] theorem State.takeFrom_frame {m : Nat} {s u : State} {f : State → State} {src : Src} {c : Nat} {raw : Bytes} (hf : ∀ v, Frame m v (f v)) (h : 512 ||| m = m) :
    Frame m s (State.takeFrom src c raw f u) = Frame m s u := by
  have hl : ∀ v w, Frame m v (f w) = Frame m v w := fun v w => Frame.last (hf w) (Nat.or_self m)
  have hs : ∀ k, k ||| 512 = 512 → k ||| m = m := fun k e => Mask.sub h e
  refine Frame.last (m := m) ?_ (Nat.or_self m)
  unfold State.takeFrom
  simp only []
  repeat' (first | (simp [↓Frame.ite, hl, hs]; done) | split | (with_reducible refine Frame.ite.mpr ⟨fun _ => ?_, fun _ => ?_⟩) | (refine ⟨fun _ => ?_, fun _ => ?_⟩) | (intro _) | (refine Eq.mpr (Frame.each ?_) ?_) | (with_reducible refine Eq.mpr (hl _ _) ?_) | simp [↓Frame.ite, hl, hs])
theorem State.hostRow_frame {m : Nat} {s u : State} {cmd : Cmd} {t : Nat} {r : RecHdr} {p : Bytes} (hc : CmdOk m cmd) (h : 25167373 ||| m = m) :
    Frame m s (State.hostRow cmd t r p u) = Frame m s u := by
  have hs : ∀ k, k ||| 25167373 = 25167373 → k ||| m = m := fun k e => Mask.sub h e
  refine Frame.last (m := m) ?_ (Nat.or_self m)
  unfold State.hostRow State.run
  refine Eq.mpr (State.noteSets_frame (hs _ rfl)) (Eq.mpr (State.finish_frame (hs _ rfl)) ?_)
  refine Eq.mpr (State.takeFrom_frame (fun v => Eq.mpr (State.process_frame (fun x e => by cases e; exact hc) (hs _ rfl)) (by simp)) (hs _ rfl)) ?_
  simp [hs]
@[simp] theorem State.rawRecord_frame {m : Nat} {s u : State} {look : Nat → Option Cmd} {src : Src} {n : Nat} {b : Bytes}
    (hc : ∀ op x, look op = some x → CmdOk m x) (h : 25167372 ||| m = m) : Frame m s (State.rawRecord look src n b u) = Frame m s u := by
  have hs : ∀ k, k ||| 25167372 = 25167372 → k ||| m = m := fun k e => Mask.sub h e
  refine Frame.last (m := m) ?_ (Nat.or_self m)
  unfold State.rawRecord
  simp only []
  repeat' (first
    | (simp [hs]; done)
    | (with_reducible refine Frame.ite.mpr ⟨fun _ => ?_, fun _ => ?_⟩)
    | (refine Eq.mpr (State.process_frame (hc _) h) ?_))
@[simp] theorem State.fetch_frame {m : Nat} {s u : State} {look : Nat → Option Cmd} {b : Bytes}
    (hc : ∀ op x, look op = some x → CmdOk m x) (h : 25167372 ||| m = m) : Frame m s (State.fetch look b u) = Frame m s u := by
  have h1 : 512 ||| m = m := Mask.sub h rfl
  refine Frame.last (m := m) ?_ (Nat.or_self m)
  unfold State.fetch
  refine Frame.ite.mpr ⟨fun _ => by simp, fun _ => ?_⟩
  split
  · simp
  · refine Frame.ite.mpr ⟨fun _ => ?_, fun _ => ?_⟩
    · exact Eq.mpr (State.takeRing_frame (fun v => Eq.mpr (State.rawRecord_frame hc h) (by simp)) h1) (by simp)
    · exact Eq.mpr (State.takeMbx_frame (fun v => Eq.mpr (State.rawRecord_frame hc h) (by simp)) h1) (by simp)
@[simp] theorem State.doorbell_frame {m : Nat} {s u : State} {a0 : Nat} (h : 512 ||| m = m) : Frame m s (State.doorbell a0 u) = Frame m s u := by
  refine Frame.last (m := 512) ?_ h
  unfold State.doorbell
  simp

/-! ## Session -/

@[simp] theorem State.relockSession_frame {m : Nat} {s u : State} {a0 : Nat} (h : 4325376 ||| m = m) : Frame m s (State.relockSession a0 u) = Frame m s u := by
  refine Frame.last (m := 4325376) ?_ h
  unfold State.relockSession
  simp [↓Frame.ite]
@[simp] theorem State.setCtrl_frame {m : Nat} {s u : State} {a0 : Option Nat} (h : 512 ||| m = m) : Frame m s (State.setCtrl a0 u) = Frame m s u := by
  refine Frame.last (m := 512) ?_ h
  unfold State.setCtrl
  simp
@[simp] theorem State.start_frame {m : Nat} {s u : State} {a0 : Nat} (h : 512 ||| m = m) : Frame m s (State.start a0 u) = Frame m s u := by
  refine Frame.last (m := 512) ?_ h
  unfold State.start
  simp
@[simp] theorem State.ringFail_frame {m : Nat} {s u : State} {a0 : Nat} (h : 512 ||| m = m) : Frame m s (State.ringFail a0 u) = Frame m s u := by
  refine Frame.last (m := 512) ?_ h
  unfold State.ringFail
  simp
@[simp] theorem State.sqTailWrite_frame {m : Nat} {s u : State} {a0 : Nat} {a1 : Nat} (h : 512 ||| m = m) : Frame m s (State.sqTailWrite a0 a1 u) = Frame m s u := by
  refine Frame.last (m := 512) ?_ h
  unfold State.sqTailWrite
  simp [↓Frame.ite]
@[simp] theorem State.cqHeadWrite_frame {m : Nat} {s u : State} {a0 : Nat} {a1 : Nat} (h : 512 ||| m = m) : Frame m s (State.cqHeadWrite a0 a1 u) = Frame m s u := by
  refine Frame.last (m := 512) ?_ h
  unfold State.cqHeadWrite
  simp [↓Frame.ite]
@[simp] theorem State.writable_frame {m : Nat} {s u : State} {f : State → State} {src : Src} {d o : Nat} (hf : ∀ v, Frame m v (f v)) (h : 512 ||| m = m) :
    Frame m s (State.writable src d o f u) = Frame m s u := by
  have hl : ∀ v w, Frame m v (f w) = Frame m v w := fun v w => Frame.last (hf w) (Nat.or_self m)
  have hs : ∀ k, k ||| 512 = 512 → k ||| m = m := fun k e => Mask.sub h e
  refine Frame.last (m := m) ?_ (Nat.or_self m)
  unfold State.writable
  simp [↓Frame.ite, hl, hs]
@[simp] theorem State.readable_frame {m : Nat} {s u : State} {f : State → State} {src : Src} {d o n : Nat} (hf : ∀ v, Frame m v (f v)) (h : 8389132 ||| m = m) :
    Frame m s (State.readable src d o n f u) = Frame m s u := by
  have hl : ∀ v w, Frame m v (f w) = Frame m v w := fun v w => Frame.last (hf w) (Nat.or_self m)
  have hs : ∀ k, k ||| 8389132 = 8389132 → k ||| m = m := fun k e => Mask.sub h e
  refine Frame.last (m := m) ?_ (Nat.or_self m)
  unfold State.readable
  simp [↓Frame.ite, hl, hs]
@[simp] theorem State.park_frame {m : Nat} {s u : State} {a0 : Nat} (h : 13239812 ||| m = m) : Frame m s (State.park a0 u) = Frame m s u := by
  refine Frame.last (m := 13239812) ?_ h
  unfold State.park
  simp [↓Frame.ite]
@[simp] theorem State.parkClose_frame {m : Nat} {s u : State} {a0 : Nat} (h : 1536 ||| m = m) : Frame m s (State.parkClose a0 u) = Frame m s u := by
  refine Frame.last (m := 1536) ?_ h
  unfold State.parkClose
  simp
@[simp] theorem State.spill_frame {m : Nat} {s u : State} {n : Nat} (h : 1028 ||| m = m) : Frame m s (State.spill n u) = Frame m s u := by
  refine Frame.last (m := 1028) ?_ h
  induction n generalizing u with
  | zero => simp [State.spill]
  | succ n ih =>
    have hl : ∀ v w, Frame 1028 v (State.spill n w) = Frame 1028 v w := fun v w => Frame.last ih rfl
    unfold State.spill
    repeat' (first | (simp [↓Frame.ite, hl]; done) | split | (refine ⟨fun _ => ?_, fun _ => ?_⟩) | simp [↓Frame.ite, hl])
@[simp] theorem State.jnlLo_frame {m : Nat} {s u : State} {a0 : Bool} {a1 : Bool} (h : 1028 ||| m = m) : Frame m s (State.jnlLo a0 a1 u) = Frame m s u := by
  refine Frame.last (m := 1028) ?_ h
  unfold State.jnlLo
  simp [↓Frame.ite]

/-! ## Wire -/

@[simp] theorem State.seamSend_frame {m : Nat} {s u : State} {a0 : Nat} {a1 : List (Bool × Bytes)} (h : 4 ||| m = m) : Frame m s (State.seamSend a0 a1 u) = Frame m s u := by
  refine Frame.last (m := 4) ?_ h
  unfold State.seamSend
  simp
@[simp] theorem State.pathErr_frame {m : Nat} {s u : State} {a0 : Nat} (h : 4096 ||| m = m) : Frame m s (State.pathErr a0 u) = Frame m s u := by
  refine Frame.last (m := 4096) ?_ h
  unfold State.pathErr
  simp
@[simp] theorem State.seamIn_frame {m : Nat} {s u : State} {f : FrameHdr → Bytes → State → State} {x : LaneRx} {n : Nat} (hf : ∀ a b v, Frame m v (f a b v)) (h : 4096 ||| m = m) :
    Frame m s (State.seamIn x n f u) = Frame m s u := by
  have hl : ∀ a b v w, Frame m v (f a b w) = Frame m v w := fun a b v w => Frame.last (hf a b w) (Nat.or_self m)
  have hs : ∀ k, k ||| 4096 = 4096 → k ||| m = m := fun k e => Mask.sub h e
  refine Frame.last (m := m) ?_ (Nat.or_self m)
  unfold State.seamIn
  simp only []
  repeat' (first | (simp [↓Frame.ite, hl, hs]; done) | split | (with_reducible refine Frame.ite.mpr ⟨fun _ => ?_, fun _ => ?_⟩) | (refine ⟨fun _ => ?_, fun _ => ?_⟩) | (intro _) | (refine Eq.mpr (Frame.each ?_) ?_) | (with_reducible refine Eq.mpr (hl _ _) ?_) | simp [↓Frame.ite, hl, hs])
@[simp] theorem State.crcErr_frame {m : Nat} {s u : State} {a0 : Nat} {a1 : Nat} (h : 25165824 ||| m = m) : Frame m s (State.crcErr a0 a1 u) = Frame m s u := by
  refine Frame.last (m := 25165824) ?_ h
  unfold State.crcErr
  simp [↓Frame.ite]
@[simp] theorem State.relay_frame {m : Nat} {s u : State} {a0 : Nat} {a1 : MHdr} {a2 : MHdr} {a3 : Bytes} {a4 : Nat} (h : 8388612 ||| m = m) : Frame m s (State.relay a0 a1 a2 a3 a4 u) = Frame m s u := by
  refine Frame.last (m := 8388612) ?_ h
  unfold State.relay
  simp
@[simp] theorem State.frameTake_frame {m : Nat} {s u : State} {f : MHdr → Bytes → State → State} {p : Nat} {y : MHdr} {b : Bytes} (hf : ∀ a b v, Frame m v (f a b v)) (h : 8388608 ||| m = m) :
    Frame m s (State.frameTake p f y b u) = Frame m s u := by
  have hl : ∀ a b v w, Frame m v (f a b w) = Frame m v w := fun a b v w => Frame.last (hf a b w) (Nat.or_self m)
  have hs : ∀ k, k ||| 8388608 = 8388608 → k ||| m = m := fun k e => Mask.sub h e
  refine Frame.last (m := m) ?_ (Nat.or_self m)
  unfold State.frameTake
  simp [↓Frame.ite, hl, hs]
@[simp] theorem State.frameIn_frame {m : Nat} {s u : State} {f : MHdr → Bytes → State → State} {p : Nat} {b : Bool} {y : MHdr × Bytes × Nat} (hf : ∀ a b v, Frame m v (f a b v)) (h : 25165828 ||| m = m) :
    Frame m s (State.frameIn p b f y u) = Frame m s u := by
  have hl : ∀ a b v w, Frame m v (f a b w) = Frame m v w := fun a b v w => Frame.last (hf a b w) (Nat.or_self m)
  have hs : ∀ k, k ||| 25165828 = 25165828 → k ||| m = m := fun k e => Mask.sub h e
  refine Frame.last (m := m) ?_ (Nat.or_self m)
  unfold State.frameIn
  simp only []
  repeat' (first | (simp [↓Frame.ite, hl, hs]; done) | split | (with_reducible refine Frame.ite.mpr ⟨fun _ => ?_, fun _ => ?_⟩) | (refine ⟨fun _ => ?_, fun _ => ?_⟩) | (intro _) | (refine Eq.mpr (Frame.each ?_) ?_) | (with_reducible refine Eq.mpr (hl _ _) ?_) | simp [↓Frame.ite, hl, hs])
@[simp] theorem State.meshIn_frame {m : Nat} {s u : State} {f : MHdr → Bytes → State → State} {x : PortRx} {n : Nat} (hf : ∀ a b v, Frame m v (f a b v)) (h : 25165828 ||| m = m) :
    Frame m s (State.meshIn x n f u) = Frame m s u := by
  have hl : ∀ a b v w, Frame m v (f a b w) = Frame m v w := fun a b v w => Frame.last (hf a b w) (Nat.or_self m)
  have hs : ∀ k, k ||| 25165828 = 25165828 → k ||| m = m := fun k e => Mask.sub h e
  refine Frame.last (m := m) ?_ (Nat.or_self m)
  unfold State.meshIn
  repeat' (first | (simp [↓Frame.ite, hl, hs]; done) | split | (with_reducible refine Frame.ite.mpr ⟨fun _ => ?_, fun _ => ?_⟩) | (refine ⟨fun _ => ?_, fun _ => ?_⟩) | (intro _) | (refine Eq.mpr (Frame.each ?_) ?_) | simp [↓Frame.ite, hl, hs])
@[simp] theorem State.pairIn_frame {m : Nat} {s u : State} {f : State → State} {x : PortRx} (hf : ∀ v, Frame m v (f v)) (h : 25165828 ||| m = m) :
    Frame m s (State.pairIn x f u) = Frame m s u := by
  have hl : ∀ v w, Frame m v (f w) = Frame m v w := fun v w => Frame.last (hf w) (Nat.or_self m)
  have hs : ∀ k, k ||| 25165828 = 25165828 → k ||| m = m := fun k e => Mask.sub h e
  refine Frame.last (m := m) ?_ (Nat.or_self m)
  unfold State.pairIn
  simp [↓Frame.ite, hl, hs]

/-! ## Trips -/

@[simp] theorem State.onCell_frame {m : Nat} {s u : State} {a0 : Nat} {a1 : Cell → Cell} (h : 4096 ||| m = m) : Frame m s (State.onCell a0 a1 u) = Frame m s u := by
  refine Frame.last (m := 4096) ?_ h
  unfold State.onCell
  simp
@[simp] theorem State.onTalk_frame {m : Nat} {s u : State} {a0 : Nat} {a1 : Talk → Talk} (h : 4096 ||| m = m) : Frame m s (State.onTalk a0 a1 u) = Frame m s u := by
  refine Frame.last (m := 4096) ?_ h
  unfold State.onTalk
  simp
@[simp] theorem State.cellEvt_frame {m : Nat} {s u : State} {a0 : Nat} {a1 : Nat} (h : 4096 ||| m = m) : Frame m s (State.cellEvt a0 a1 u) = Frame m s u := by
  refine Frame.last (m := 4096) ?_ h
  unfold State.cellEvt
  simp
@[simp] theorem State.cellTo_frame {m : Nat} {s u : State} {a0 : Nat} {a1 : Nat} {a2 : Nat} (h : 4096 ||| m = m) : Frame m s (State.cellTo a0 a1 a2 u) = Frame m s u := by
  refine Frame.last (m := 4096) ?_ h
  unfold State.cellTo
  simp [↓Frame.ite]
@[simp] theorem State.ctrlOut_frame {m : Nat} {s u : State} {a0 : Nat} {a1 : CtrlOp} (h : 4 ||| m = m) : Frame m s (State.ctrlOut a0 a1 u) = Frame m s u := by
  refine Frame.last (m := 4) ?_ h
  unfold State.ctrlOut
  simp
@[simp] theorem State.putCtrl_frame {m : Nat} {s u : State} {a0 : Nat} {a1 : CtrlOp} {a2 : List CtrlOp} (h : 4100 ||| m = m) : Frame m s (State.putCtrl a0 a1 a2 u) = Frame m s u := by
  refine Frame.last (m := 4100) ?_ h
  unfold State.putCtrl
  simp
@[simp] theorem State.sendCtrl_frame {m : Nat} {s u : State} {a0 : Nat} {a1 : Nat} {a2 : Nat} {a3 : Bytes} {a4 : Nat} (h : 4100 ||| m = m) : Frame m s (State.sendCtrl a0 a1 a2 a3 a4 u) = Frame m s u := by
  refine Frame.last (m := 4100) ?_ h
  unfold State.sendCtrl
  repeat' (first | (simp [↓Frame.ite]; done) | split | (refine ⟨fun _ => ?_, fun _ => ?_⟩) | (intro _) | (refine Eq.mpr (Frame.each ?_) ?_) | (refine Eq.mpr (State.laneStep_frame ?_ rfl) ?_) | (refine Eq.mpr (State.healthStep_frame ?_ rfl) ?_) | simp [↓Frame.ite])
@[simp] theorem State.ctrlNext_frame {m : Nat} {s u : State} {a0 : Nat} (h : 4100 ||| m = m) : Frame m s (State.ctrlNext a0 u) = Frame m s u := by
  refine Frame.last (m := 4100) ?_ h
  unfold State.ctrlNext
  (repeat' split) <;> simp
@[simp] theorem State.outsTo_frame {m : Nat} {s u : State} {a0 : Nat → Lpwm → Lpwm} (h : 2105344 ||| m = m) : Frame m s (State.outsTo a0 u) = Frame m s u := by
  refine Frame.last (m := 2105344) ?_ h
  unfold State.outsTo
  simp
@[simp] theorem State.closeGates_frame {m : Nat} {s u : State} {a0 : Nat} (h : 2105344 ||| m = m) : Frame m s (State.closeGates a0 u) = Frame m s u := by
  refine Frame.last (m := 2105344) ?_ h
  unfold State.closeGates
  simp
@[simp] theorem State.allOff_frame {m : Nat} {s u : State} (h : 2105344 ||| m = m) : Frame m s (State.allOff u) = Frame m s u := by
  refine Frame.last (m := 2105344) ?_ h
  unfold State.allOff
  simp
@[simp] theorem State.tripSend_frame {m : Nat} {s u : State} {a0 : Nat} {a1 : Nat} {a2 : Nat} (h : 4 ||| m = m) : Frame m s (State.tripSend a0 a1 a2 u) = Frame m s u := by
  refine Frame.last (m := 4) ?_ h
  unfold State.tripSend
  simp
@[simp] theorem State.tripSeams_frame {m : Nat} {s u : State} {a0 : Nat} {a1 : Nat} (h : 4100 ||| m = m) : Frame m s (State.tripSeams a0 a1 u) = Frame m s u := by
  refine Frame.last (m := 4100) ?_ h
  unfold State.tripSeams
  simp [↓Frame.ite]
@[simp] theorem State.driveTripn_frame {m : Nat} {s u : State} (h : 2097152 ||| m = m) : Frame m s (State.driveTripn u) = Frame m s u := by
  refine Frame.last (m := 2097152) ?_ h
  unfold State.driveTripn
  simp
@[simp] theorem State.floodStart_frame {m : Nat} {s u : State} (h : 8388612 ||| m = m) : Frame m s (State.floodStart u) = Frame m s u := by
  refine Frame.last (m := 8388612) ?_ h
  unfold State.floodStart
  simp
@[simp] theorem State.fireTrip_frame {m : Nat} {s u : State} {a0 : Nat} (h : 10661900 ||| m = m) : Frame m s (State.fireTrip a0 u) = Frame m s u := by
  refine Frame.last (m := 10661900) ?_ h
  unfold State.fireTrip
  simp [↓Frame.ite]
@[simp] theorem State.clearTrips_frame {m : Nat} {s u : State} {a0 : List Nat} (h : 2117636 ||| m = m) : Frame m s (State.clearTrips a0 u) = Frame m s u := by
  refine Frame.last (m := 2117636) ?_ h
  unfold State.clearTrips
  repeat' (first | (simp [↓Frame.ite]; done) | split | (refine ⟨fun _ => ?_, fun _ => ?_⟩) | (intro _) | (refine Eq.mpr (Frame.each ?_) ?_) | (refine Eq.mpr (State.laneStep_frame ?_ rfl) ?_) | (refine Eq.mpr (State.healthStep_frame ?_ rfl) ?_) | simp [↓Frame.ite])
@[simp] theorem State.internalTrip_frame {m : Nat} {s u : State} (h : 10661900 ||| m = m) : Frame m s (State.internalTrip u) = Frame m s u := by
  refine Frame.last (m := 10661900) ?_ h
  unfold State.internalTrip
  simp

end Sys2Proof.Machine
end

