-- ==== Sys2Proof/Laws/FrameField.lean ====
section
/-! SUPPORT. What the operations of lanes, converters, clock, cells and edges may touch. -/
namespace Sys2Proof.Machine
set_option linter.all false

/-! ## Lanes -/

@[simp] theorem State.onLane1_frame {m : Nat} {s u : State} {a0 : Nat} {a1 : LaneS → LaneS} (h : 2048 ||| m = m) : Frame m s (State.onLane1 a0 a1 u) = Frame m s u := by
  refine Frame.last (m := 2048) ?_ h
  unfold State.onLane1
  simp
@[simp] theorem State.laneStep_frame {m : Nat} {s u : State} {f : State → State} (hf : ∀ v, Frame m v (f v)) (h : 4 ||| m = m) :
    Frame m s (State.laneStep f u) = Frame m s u := by
  have hl : ∀ v w, Frame m v (f w) = Frame m v w := fun v w => Frame.last (hf w) (Nat.or_self m)
  have hs : ∀ k, k ||| 4 = 4 → k ||| m = m := fun k e => Mask.sub h e
  refine Frame.last (m := m) ?_ (Nat.or_self m)
  unfold State.laneStep
  simp [↓Frame.ite, hl, hs]
@[simp] theorem State.laneEvt_frame {m : Nat} {s u : State} {a0 : Nat} {a1 : Nat} (h : 2048 ||| m = m) : Frame m s (State.laneEvt a0 a1 u) = Frame m s u := by
  refine Frame.last (m := 2048) ?_ h
  unfold State.laneEvt
  simp
@[simp] theorem State.bringUp_frame {m : Nat} {s u : State} {a0 : Nat} (h : 2048 ||| m = m) : Frame m s (State.bringUp a0 u) = Frame m s u := by
  refine Frame.last (m := 2048) ?_ h
  unfold State.bringUp
  simp
@[simp] theorem State.laneStart_frame {m : Nat} {s u : State} {a0 : Nat} (h : 2048 ||| m = m) : Frame m s (State.laneStart a0 u) = Frame m s u := by
  refine Frame.last (m := 2048) ?_ h
  unfold State.laneStart
  simp
@[simp] theorem State.laneCmd_frame {m : Nat} {s u : State} {a0 : Nat} {a1 : Nat} (h : 4 ||| m = m) : Frame m s (State.laneCmd a0 a1 u) = Frame m s u := by
  refine Frame.last (m := 4) ?_ h
  unfold State.laneCmd
  simp [↓Frame.ite]
@[simp] theorem State.testEnd_frame {m : Nat} {s u : State} {a0 : Nat} (h : 2052 ||| m = m) : Frame m s (State.testEnd a0 u) = Frame m s u := by
  refine Frame.last (m := 2052) ?_ h
  unfold State.testEnd
  simp [↓Frame.ite]
@[simp] theorem State.testsEnd_frame {m : Nat} {s u : State} (h : 2052 ||| m = m) : Frame m s (State.testsEnd u) = Frame m s u := by
  refine Frame.last (m := 2052) ?_ h
  unfold State.testsEnd
  exact Eq.mpr (State.laneStep_frame (fun v => Eq.mpr (Frame.each fun a v => by simp) (by simp)) rfl) (by simp)
@[simp] theorem State.txSleepStart_frame {m : Nat} {s u : State} {a0 : Nat} (h : 2052 ||| m = m) : Frame m s (State.txSleepStart a0 u) = Frame m s u := by
  refine Frame.last (m := 2052) ?_ h
  unfold State.txSleepStart
  simp [↓Frame.ite]
@[simp] theorem State.rxSleepStart_frame {m : Nat} {s u : State} {a0 : Nat} (h : 2048 ||| m = m) : Frame m s (State.rxSleepStart a0 u) = Frame m s u := by
  refine Frame.last (m := 2048) ?_ h
  unfold State.rxSleepStart
  simp
@[simp] theorem State.txWakeStart_frame {m : Nat} {s u : State} {a0 : Nat} (h : 2048 ||| m = m) : Frame m s (State.txWakeStart a0 u) = Frame m s u := by
  refine Frame.last (m := 2048) ?_ h
  unfold State.txWakeStart
  simp
@[simp] theorem State.rxWakeStart_frame {m : Nat} {s u : State} {a0 : Nat} (h : 2048 ||| m = m) : Frame m s (State.rxWakeStart a0 u) = Frame m s u := by
  refine Frame.last (m := 2048) ?_ h
  unfold State.rxWakeStart
  simp
@[simp] theorem State.lanesSet_frame {m : Nat} {s u : State} {a0 : ImgDesc} (h : 2052 ||| m = m) : Frame m s (State.lanesSet a0 u) = Frame m s u := by
  refine Frame.last (m := 2052) ?_ h
  unfold State.lanesSet
  repeat' (first | (simp [↓Frame.ite]; done) | split | (refine ⟨fun _ => ?_, fun _ => ?_⟩) | (intro _) | (refine Eq.mpr (Frame.each ?_) ?_) | (refine Eq.mpr (State.laneStep_frame ?_ rfl) ?_) | (refine Eq.mpr (State.healthStep_frame ?_ rfl) ?_) | simp [↓Frame.ite])
@[simp] theorem State.lanesWait_frame {m : Nat} {s u : State} {a0 : Bool} (h : 2052 ||| m = m) : Frame m s (State.lanesWait a0 u) = Frame m s u := by
  refine Frame.last (m := 2052) ?_ h
  unfold State.lanesWait
  repeat' (first | (simp [↓Frame.ite]; done) | split | (refine ⟨fun _ => ?_, fun _ => ?_⟩) | (intro _) | (refine Eq.mpr (Frame.each ?_) ?_) | (refine Eq.mpr (State.laneStep_frame ?_ rfl) ?_) | (refine Eq.mpr (State.healthStep_frame ?_ rfl) ?_) | simp [↓Frame.ite])
@[simp] theorem State.delayTake_frame {m : Nat} {s u : State} {a0 : Nat} {a1 : Nat} (h : 2048 ||| m = m) : Frame m s (State.delayTake a0 a1 u) = Frame m s u := by
  refine Frame.last (m := 2048) ?_ h
  unfold State.delayTake
  (repeat' split) <;> simp
@[simp] theorem State.marker_frame {m : Nat} {s u : State} {a0 : Nat} {a1 : Nat} {a2 : Bytes} (h : 2048 ||| m = m) : Frame m s (State.marker a0 a1 a2 u) = Frame m s u := by
  refine Frame.last (m := 2048) ?_ h
  unfold State.marker
  simp [↓Frame.ite]
@[simp] theorem State.markersIn_frame {m : Nat} {s u : State} {a0 : LaneRx} (h : 2048 ||| m = m) : Frame m s (State.markersIn a0 u) = Frame m s u := by
  refine Frame.last (m := 2048) ?_ h
  unfold State.markersIn
  simp [↓Frame.ite]
@[simp] theorem State.timeFrame_frame {m : Nat} {s u : State} {a0 : Nat} (h : 8388612 ||| m = m) : Frame m s (State.timeFrame a0 u) = Frame m s u := by
  refine Frame.last (m := 8388612) ?_ h
  unfold State.timeFrame
  simp

/-! ## Adc -/

@[simp] theorem State.onAdc1_frame {m : Nat} {s u : State} {a0 : Nat} {a1 : Adc1 → Adc1} (h : 1048576 ||| m = m) : Frame m s (State.onAdc1 a0 a1 u) = Frame m s u := by
  refine Frame.last (m := 1048576) ?_ h
  unfold State.onAdc1
  simp
@[simp] theorem State.onSieve_frame {m : Nat} {s u : State} {a0 : Nat} {a1 : Sieve → Sieve} (h : 1048576 ||| m = m) : Frame m s (State.onSieve a0 a1 u) = Frame m s u := by
  refine Frame.last (m := 1048576) ?_ h
  unfold State.onSieve
  simp
@[simp] theorem State.adcFlt_frame {m : Nat} {s u : State} {a0 : Nat} {a1 : Nat} (h : 1048576 ||| m = m) : Frame m s (State.adcFlt a0 a1 u) = Frame m s u := by
  refine Frame.last (m := 1048576) ?_ h
  unfold State.adcFlt
  simp
@[simp] theorem State.trimSettle_frame {m : Nat} {s u : State} {a0 : Nat} (h : 128 ||| m = m) : Frame m s (State.trimSettle a0 u) = Frame m s u := by
  refine Frame.last (m := 128) ?_ h
  unfold State.trimSettle
  (repeat' split) <;> simp
@[simp] theorem State.jobStart_frame {m : Nat} {s u : State} {a0 : Nat} {a1 : AdcJob} (h : 1048576 ||| m = m) : Frame m s (State.jobStart a0 a1 u) = Frame m s u := by
  refine Frame.last (m := 1048576) ?_ h
  unfold State.jobStart
  simp
@[simp] theorem State.adcNext_frame {m : Nat} {s u : State} {a0 : Nat} (h : 1048576 ||| m = m) : Frame m s (State.adcNext a0 u) = Frame m s u := by
  refine Frame.last (m := 1048576) ?_ h
  unfold State.adcNext
  repeat' (first | (simp [↓Frame.ite]; done) | split | (refine ⟨fun _ => ?_, fun _ => ?_⟩) | (intro _) | (refine Eq.mpr (Frame.each ?_) ?_) | (refine Eq.mpr (State.laneStep_frame ?_ rfl) ?_) | (refine Eq.mpr (State.healthStep_frame ?_ rfl) ?_) | simp [↓Frame.ite])
@[simp] theorem State.adcWakeUp_frame {m : Nat} {s u : State} {a0 : Nat} (h : 1048576 ||| m = m) : Frame m s (State.adcWakeUp a0 u) = Frame m s u := by
  refine Frame.last (m := 1048576) ?_ h
  unfold State.adcWakeUp
  simp [↓Frame.ite]
@[simp] theorem State.askedNow_frame {m : Nat} {s u : State} {a0 : Nat} {a1 : Nat} (h : 1048576 ||| m = m) : Frame m s (State.askedNow a0 a1 u) = Frame m s u := by
  refine Frame.last (m := 1048576) ?_ h
  unfold State.askedNow
  simp
@[simp] theorem State.injQueue_frame {m : Nat} {s u : State} {a0 : Nat} {a1 : Nat} {a2 : Nat} (h : 1048576 ||| m = m) : Frame m s (State.injQueue a0 a1 a2 u) = Frame m s u := by
  refine Frame.last (m := 1048576) ?_ h
  unfold State.injQueue
  simp [↓Frame.ite]
@[simp] theorem State.injRequest_frame {m : Nat} {s u : State} {a0 : Nat} {a1 : Nat} (h : 1048576 ||| m = m) : Frame m s (State.injRequest a0 a1 u) = Frame m s u := by
  refine Frame.last (m := 1048576) ?_ h
  unfold State.injRequest
  (repeat' split) <;> simp
@[simp] theorem State.plausCheck_frame {m : Nat} {s u : State} {a0 : Nat} {a1 : Nat} (h : 1179648 ||| m = m) : Frame m s (State.plausCheck a0 a1 u) = Frame m s u := by
  refine Frame.last (m := 1179648) ?_ h
  unfold State.plausCheck
  repeat' (first | (simp [↓Frame.ite]; done) | split | (refine ⟨fun _ => ?_, fun _ => ?_⟩) | (intro _) | (refine Eq.mpr (Frame.each ?_) ?_) | (refine Eq.mpr (State.laneStep_frame ?_ rfl) ?_) | (refine Eq.mpr (State.healthStep_frame ?_ rfl) ?_) | simp [↓Frame.ite])
@[simp] theorem State.convDone_frame {m : Nat} {s u : State} {a : Nat} {n : Int} (h : 1179784 ||| m = m) :
    Frame m s (State.convDone a n u) = Frame m s u := by
  refine Frame.last (m := 1179784) ?_ h
  unfold State.convDone
  extract_lets +onlyGivenNames x
  split
  · simp
  · extract_lets +onlyGivenNames ch wild w ovr doubt r s1 s2 s3 s4 s5 s6
    have h1 : Frame 1179784 u s1 := Frame.ite.mpr ⟨fun _ => by simp, fun _ => by simp⟩
    have h2 : Frame 1179784 u s2 := Frame.ite.mpr ⟨fun _ => by simp [h1], fun _ => h1⟩
    have h3 : Frame 1179784 u s3 := Frame.ite.mpr ⟨fun _ => by simp [h2], fun _ => h2⟩
    have h4 : Frame 1179784 u s4 := by simp [s4, h3]
    have h5 : Frame 1179784 u s5 := by
      refine Frame.ite.mpr ⟨fun _ => ?_, fun _ => h3⟩
      split
      · simp [h4]
      · exact h4
    have h6 : Frame 1179784 u s6 := by simp [s6, h5]
    clear_value s6
    split
    · simp [h6]
    · refine Eq.mpr (State.adcNext_frame rfl) ?_
      exact Frame.ite.mpr ⟨fun _ => by simp [h6], fun _ => by simp [h6]⟩
@[simp] theorem State.adcUp_frame {m : Nat} {s u : State} (h : 1048576 ||| m = m) : Frame m s (State.adcUp u) = Frame m s u := by
  refine Frame.last (m := 1048576) ?_ h
  unfold State.adcUp
  simp
@[simp] theorem State.adcDown_frame {m : Nat} {s u : State} (h : 1048576 ||| m = m) : Frame m s (State.adcDown u) = Frame m s u := by
  refine Frame.last (m := 1048576) ?_ h
  unfold State.adcDown
  simp
@[simp] theorem State.calEnd_frame {m : Nat} {s u : State} {a0 : Nat} {a1 : Int} {a2 : Word} (h : 1179648 ||| m = m) : Frame m s (State.calEnd a0 a1 a2 u) = Frame m s u := by
  refine Frame.last (m := 1179648) ?_ h
  unfold State.calEnd
  simp [↓Frame.ite]
@[simp] theorem State.latchAdc_frame {m : Nat} {s u : State} (h : 1048576 ||| m = m) : Frame m s (State.latchAdc u) = Frame m s u := by
  refine Frame.last (m := 1048576) ?_ h
  unfold State.latchAdc
  simp
@[simp] theorem State.bitsTake_frame {m : Nat} {s u : State} {a0 : Nat} {a1 : Nat} {a2 : List Bool} (h : 1048576 ||| m = m) : Frame m s (State.bitsTake a0 a1 a2 u) = Frame m s u := by
  refine Frame.last (m := 1048576) ?_ h
  unfold State.bitsTake
  simp
@[simp] theorem State.doubtFor_frame {m : Nat} {s u : State} {a0 : Option Nat} {a1 : Nat} (h : 1048576 ||| m = m) : Frame m s (State.doubtFor a0 a1 u) = Frame m s u := by
  refine Frame.last (m := 1048576) ?_ h
  unfold State.doubtFor
  (repeat' split) <;> simp
@[simp] theorem State.tdacTo_frame {m : Nat} {s u : State} {a0 : Nat} {a1 : Option Nat} (h : 1048576 ||| m = m) : Frame m s (State.tdacTo a0 a1 u) = Frame m s u := by
  refine Frame.last (m := 1048576) ?_ h
  unfold State.tdacTo
  simp [↓Frame.ite]
@[simp] theorem State.tdacsOff_frame {m : Nat} {s u : State} (h : 1048576 ||| m = m) : Frame m s (State.tdacsOff u) = Frame m s u := by
  refine Frame.last (m := 1048576) ?_ h
  unfold State.tdacsOff
  simp

/-! ## ModeOps -/

@[simp] theorem State.loadFail_frame {m : Nat} {s u : State} {a0 : Nat} (h : 128 ||| m = m) : Frame m s (State.loadFail a0 u) = Frame m s u := by
  refine Frame.last (m := 128) ?_ h
  unfold State.loadFail
  simp
@[simp] theorem State.cellsAbsent_frame {m : Nat} {s u : State} (h : 4096 ||| m = m) : Frame m s (State.cellsAbsent u) = Frame m s u := by
  refine Frame.last (m := 4096) ?_ h
  unfold State.cellsAbsent
  simp
@[simp] theorem State.synthBegin_frame {m : Nat} {s u : State} (h : 2109440 ||| m = m) : Frame m s (State.synthBegin u) = Frame m s u := by
  refine Frame.last (m := 2109440) ?_ h
  unfold State.synthBegin
  simp
@[simp] theorem State.synthEnd_frame {m : Nat} {s u : State} (h : 77824 ||| m = m) : Frame m s (State.synthEnd u) = Frame m s u := by
  refine Frame.last (m := 77824) ?_ h
  unfold State.synthEnd
  simp
@[simp] theorem State.ovlEnd_frame {m : Nat} {s u : State} {a0 : Nat} {a1 : Bool} (h : 1652740 ||| m = m) : Frame m s (State.ovlEnd a0 a1 u) = Frame m s u := by
  refine Frame.last (m := 1652740) ?_ h
  unfold State.ovlEnd
  simp [↓Frame.ite]
@[simp] theorem State.modeTo_frame {m : Nat} {s u : State} {a0 : Nat} {a1 : Bool} (h : 1947780 ||| m = m) : Frame m s (State.modeTo a0 a1 u) = Frame m s u := by
  refine Frame.last (m := 1947780) ?_ h
  unfold State.modeTo
  simp [↓Frame.ite]
@[simp] theorem State.lpwmHiz_frame {m : Nat} {s u : State} (h : 2105376 ||| m = m) : Frame m s (State.lpwmHiz u) = Frame m s u := by
  refine Frame.last (m := 2105376) ?_ h
  unfold State.lpwmHiz
  simp
@[simp] theorem State.fence_frame {m : Nat} {s u : State} {a0 : Nat} {a1 : Nat} (h : 19015200 ||| m = m) : Frame m s (State.fence a0 a1 u) = Frame m s u := by
  refine Frame.last (m := 19015200) ?_ h
  unfold State.fence
  simp
@[simp] theorem State.resign_frame {m : Nat} {s u : State} {a0 : Nat} (h : 19015204 ||| m = m) : Frame m s (State.resign a0 u) = Frame m s u := by
  refine Frame.last (m := 19015204) ?_ h
  unfold State.resign
  simp
@[simp] theorem State.safeEvent_frame {m : Nat} {s u : State} {a0 : Nat} {a1 : Nat} (h : 131072 ||| m = m) : Frame m s (State.safeEvent a0 a1 u) = Frame m s u := by
  refine Frame.last (m := 131072) ?_ h
  unfold State.safeEvent
  simp
@[simp] theorem State.enterSafe_frame {m : Nat} {s u : State} {a0 : Nat} {a1 : Nat} (h : 29343404 ||| m = m) : Frame m s (State.enterSafe a0 a1 u) = Frame m s u := by
  refine Frame.last (m := 29343404) ?_ h
  unfold State.enterSafe
  simp [↓Frame.ite]
@[simp] theorem State.cause_frame {m : Nat} {s u : State} {a0 : Nat} {a1 : Nat} (h : 524288 ||| m = m) : Frame m s (State.cause a0 a1 u) = Frame m s u := by
  refine Frame.last (m := 524288) ?_ h
  unfold State.cause
  simp
@[simp] theorem State.heartbeatStop_frame {m : Nat} {s u : State} {a0 : Nat} {a1 : Nat} (h : 19539492 ||| m = m) : Frame m s (State.heartbeatStop a0 a1 u) = Frame m s u := by
  refine Frame.last (m := 19539492) ?_ h
  unfold State.heartbeatStop
  simp [↓Frame.ite]
@[simp] theorem State.safeOff_frame {m : Nat} {s u : State} (h : 2158596 ||| m = m) : Frame m s (State.safeOff u) = Frame m s u := by
  refine Frame.last (m := 2158596) ?_ h
  unfold State.safeOff
  simp [↓Frame.ite]

/-! ## Clock -/

@[simp] theorem State.outsSync_frame {m : Nat} {s u : State} (h : 128 ||| m = m) : Frame m s (State.outsSync u) = Frame m s u := by
  refine Frame.last (m := 128) ?_ h
  unfold State.outsSync
  simp
@[simp] theorem State.outpllRelock_frame {m : Nat} {s u : State} (h : 128 ||| m = m) : Frame m s (State.outpllRelock u) = Frame m s u := by
  refine Frame.last (m := 128) ?_ h
  unfold State.outpllRelock
  simp
@[simp] theorem State.slewStop_frame {m : Nat} {s u : State} (h : 130 ||| m = m) : Frame m s (State.slewStop u) = Frame m s u := by
  refine Frame.last (m := 130) ?_ h
  exact ⟨fun p q => by cases p <;> first | rfl | cases q⟩
@[simp] theorem State.slewStart_frame {m : Nat} {s u : State} {a0 : Int} (h : 130 ||| m = m) : Frame m s (State.slewStart a0 u) = Frame m s u := by
  refine Frame.last (m := 130) ?_ h
  unfold State.slewStart
  simp
@[simp] theorem State.searchStart_frame {m : Nat} {s u : State} (h : 130 ||| m = m) : Frame m s (State.searchStart u) = Frame m s u := by
  refine Frame.last (m := 130) ?_ h
  unfold State.searchStart
  simp
@[simp] theorem State.refCount_frame {m : Nat} {s u : State} {a0 : Nat} (h : 130 ||| m = m) : Frame m s (State.refCount a0 u) = Frame m s u := by
  refine Frame.last (m := 130) ?_ h
  unfold State.refCount
  (repeat' split) <;> simp
@[simp] theorem State.enterLocked_frame {m : Nat} {s u : State} (h : 130 ||| m = m) : Frame m s (State.enterLocked u) = Frame m s u := by
  refine Frame.last (m := 130) ?_ h
  unfold State.enterLocked
  simp [↓Frame.ite]
@[simp] theorem State.timeStart_frame {m : Nat} {s u : State} (h : 130 ||| m = m) : Frame m s (State.timeStart u) = Frame m s u := by
  refine Frame.last (m := 130) ?_ h
  unfold State.timeStart
  split
  · simp
  · exact ⟨fun p q => by cases p <;> first | rfl | cases q⟩
@[simp] theorem State.holdover_frame {m : Nat} {s u : State} (h : 130 ||| m = m) : Frame m s (State.holdover u) = Frame m s u := by
  refine Frame.last (m := 130) ?_ h
  unfold State.holdover
  simp
@[simp] theorem State.refRelock_frame {m : Nat} {s u : State} (h : 130 ||| m = m) : Frame m s (State.refRelock u) = Frame m s u := by
  refine Frame.last (m := 130) ?_ h
  unfold State.refRelock
  simp
@[simp] theorem State.compileGone_frame {m : Nat} {s u : State} (h : 16384 ||| m = m) : Frame m s (State.compileGone u) = Frame m s u := by
  refine Frame.last (m := 16384) ?_ h
  unfold State.compileGone
  simp
@[simp] theorem State.clockLost_frame {m : Nat} {s u : State} (h : 29359788 ||| m = m) : Frame m s (State.clockLost u) = Frame m s u := by
  refine Frame.last (m := 29359788) ?_ h
  unfold State.clockLost
  simp [↓Frame.ite]
@[simp] theorem State.writeOutpll_frame {m : Nat} {s u : State} {a0 : Word} (h : 128 ||| m = m) : Frame m s (State.writeOutpll a0 u) = Frame m s u := by
  refine Frame.last (m := 128) ?_ h
  unfold State.writeOutpll
  simp [↓Frame.ite]
@[simp] theorem State.setOut_frame {m : Nat} {s u : State} {a0 : Nat} {a1 : OutCfg} (h : 128 ||| m = m) : Frame m s (State.setOut a0 a1 u) = Frame m s u := by
  refine Frame.last (m := 128) ?_ h
  unfold State.setOut
  simp
@[simp] theorem State.writeOutCfg_frame {m : Nat} {s u : State} {a0 : Nat} {a1 : Word} (h : 128 ||| m = m) : Frame m s (State.writeOutCfg a0 a1 u) = Frame m s u := by
  refine Frame.last (m := 128) ?_ h
  unfold State.writeOutCfg
  simp [↓Frame.ite]
@[simp] theorem State.writeFstep_frame {m : Nat} {s u : State} {a0 : Nat} {a1 : Word} (h : 128 ||| m = m) : Frame m s (State.writeFstep a0 a1 u) = Frame m s u := by
  refine Frame.last (m := 128) ?_ h
  unfold State.writeFstep
  simp
@[simp] theorem State.clkCal_frame {m : Nat} {s u : State} {a0 : CalDecl} (h : 128 ||| m = m) : Frame m s (State.clkCal a0 u) = Frame m s u := by
  refine Frame.last (m := 128) ?_ h
  unfold State.clkCal
  simp [↓Frame.ite]
@[simp] theorem State.direct_frame {m : Nat} {s u : State} {f : State → State} {i : Iface} {d o : Nat} {v : Word} {c : State → Bool}
    (hf : ∀ v, Frame m v (f v)) (h : 8390156 ||| m = m) : Frame m s (State.direct i d o v c f u) = Frame m s u := by
  have hl : ∀ v w, Frame m v (f w) = Frame m v w := fun v w => Frame.last (hf w) (Nat.or_self m)
  have hs : ∀ k, k ||| 8390156 = 8390156 → k ||| m = m := fun k e => Mask.sub h e
  refine Frame.last (m := m) ?_ (Nat.or_self m)
  unfold State.direct
  refine Frame.ite.mpr ⟨fun _ => by simp [hs], fun _ => Frame.ite.mpr ⟨fun _ => by simp [hs], fun _ => ?_⟩⟩
  exact Eq.mpr (State.writable_frame (fun v => Eq.mpr (hl _ _) (Frame.ite.mpr ⟨fun _ => by simp [hs], fun _ => by simp⟩)) (hs _ rfl)) (by simp)
@[simp] theorem State.refReturn_frame {m : Nat} {s u : State} {a0 : Nat} (h : 130 ||| m = m) : Frame m s (State.refReturn a0 u) = Frame m s u := by
  refine Frame.last (m := 130) ?_ h
  unfold State.refReturn
  simp [↓Frame.ite]
@[simp] theorem State.meshReturn_frame {m : Nat} {s u : State} {a0 : Int} (h : 130 ||| m = m) : Frame m s (State.meshReturn a0 u) = Frame m s u := by
  refine Frame.last (m := 130) ?_ h
  unfold State.meshReturn
  simp [↓Frame.ite]
@[simp] theorem State.clkImage_frame {m : Nat} {s u : State} (h : 8388738 ||| m = m) : Frame m s (State.clkImage u) = Frame m s u := by
  refine Frame.last (m := 8388738) ?_ h
  unfold State.clkImage
  simp [↓Frame.ite]
@[simp] theorem State.loadTake_frame {m : Nat} {s u : State} {a0 : Nat} (h : 8388740 ||| m = m) : Frame m s (State.loadTake a0 u) = Frame m s u := by
  refine Frame.last (m := 8388740) ?_ h
  unfold State.loadTake
  simp
@[simp] theorem State.loadReply_frame {m : Nat} {s u : State} {a0 : Nat} {a1 : Word} (h : 25167500 ||| m = m) : Frame m s (State.loadReply a0 a1 u) = Frame m s u := by
  refine Frame.last (m := 25167500) ?_ h
  unfold State.loadReply
  (repeat' split) <;> simp [↓Frame.ite]
@[simp] theorem State.loadAct_frame {m : Nat} {s u : State} (h : 26216078 ||| m = m) : Frame m s (State.loadAct u) = Frame m s u := by
  have ofs_frame : ∀ (s u : State) (k : Nat),
      Frame 26216078 s { u with ofs := k } = Frame 26216078 s u := fun s u k =>
    Frame.last (m := 2) ⟨fun p q => by cases p <;> first | rfl | cases q⟩ rfl
  refine Frame.last (m := 26216078) ?_ h
  unfold State.loadAct
  split
  · simp
  · extract_lets +onlyGivenNames s1 cmd
    have h1 : Frame 26216078 u s1 := by simp [s1]
    clear_value s1 cmd
    refine Frame.ite.mpr ⟨fun _ => ?_, fun _ => ?_⟩
    · split <;> simp [h1]
    · extract_lets +onlyGivenNames s2 s3
      have h2 : Frame 26216078 u s2 := (ofs_frame _ _ _).mpr h1
      clear_value s2
      have h3 : Frame 26216078 u s3 := by simp [s3, h2]
      clear_value s3
      split <;> simp [h3]
@[simp] theorem State.trimPut_frame {m : Nat} {s u : State} {a0 : Nat} {a1 : Int} (h : 128 ||| m = m) : Frame m s (State.trimPut a0 a1 u) = Frame m s u := by
  refine Frame.last (m := 128) ?_ h
  unfold State.trimPut
  simp

/-! ## Cells -/

@[simp] theorem State.sendBypass_frame {m : Nat} {s u : State} {a0 : Nat} (h : 4100 ||| m = m) : Frame m s (State.sendBypass a0 u) = Frame m s u := by
  refine Frame.last (m := 4100) ?_ h
  unfold State.sendBypass
  simp
@[simp] theorem State.cellLeft_frame {m : Nat} {s u : State} {a0 : Nat} (h : 266244 ||| m = m) : Frame m s (State.cellLeft a0 u) = Frame m s u := by
  refine Frame.last (m := 266244) ?_ h
  unfold State.cellLeft
  simp [↓Frame.ite]
@[simp] theorem State.exclude_frame {m : Nat} {s u : State} {a0 : Nat} {a1 : Nat} {a2 : Bool} (h : 266244 ||| m = m) : Frame m s (State.exclude a0 a1 a2 u) = Frame m s u := by
  refine Frame.last (m := 266244) ?_ h
  unfold State.exclude
  simp [↓Frame.ite]
@[simp] theorem State.lose_frame {m : Nat} {s u : State} {a0 : Nat} {a1 : Nat} (h : 266244 ||| m = m) : Frame m s (State.lose a0 a1 u) = Frame m s u := by
  refine Frame.last (m := 266244) ?_ h
  unfold State.lose
  simp
@[simp] theorem State.setMismatch_frame {m : Nat} {s u : State} {a0 : Nat} (h : 266244 ||| m = m) : Frame m s (State.setMismatch a0 u) = Frame m s u := by
  refine Frame.last (m := 266244) ?_ h
  unfold State.setMismatch
  simp [↓Frame.ite]
@[simp] theorem State.bypassed_frame {m : Nat} {s u : State} {a0 : Nat} (h : 4096 ||| m = m) : Frame m s (State.bypassed a0 u) = Frame m s u := by
  refine Frame.last (m := 4096) ?_ h
  unfold State.bypassed
  simp
@[simp] theorem State.jStep_frame {m : Nat} {s u : State} {a0 : Nat} {a1 : Nat} (h : 4096 ||| m = m) : Frame m s (State.jStep a0 a1 u) = Frame m s u := by
  refine Frame.last (m := 4096) ?_ h
  unfold State.jStep
  simp
@[simp] theorem State.joinStart_frame {m : Nat} {s u : State} {a0 : Nat} (h : 4100 ||| m = m) : Frame m s (State.joinStart a0 u) = Frame m s u := by
  refine Frame.last (m := 4100) ?_ h
  unfold State.joinStart
  simp
@[simp] theorem State.joinFail_frame {m : Nat} {s u : State} {a0 : Nat} (h : 266244 ||| m = m) : Frame m s (State.joinFail a0 u) = Frame m s u := by
  refine Frame.last (m := 266244) ?_ h
  unfold State.joinFail
  simp [↓Frame.ite]
@[simp] theorem State.j5Start_frame {m : Nat} {s u : State} {a0 : Nat} (h : 4100 ||| m = m) : Frame m s (State.j5Start a0 u) = Frame m s u := by
  refine Frame.last (m := 4100) ?_ h
  unfold State.j5Start
  simp [↓Frame.ite]
@[simp] theorem State.toJ5_frame {m : Nat} {s u : State} {a0 : Nat} (h : 4100 ||| m = m) : Frame m s (State.toJ5 a0 u) = Frame m s u := by
  refine Frame.last (m := 4100) ?_ h
  unfold State.toJ5
  simp [↓Frame.ite]
@[simp] theorem State.j5Stop_frame {m : Nat} {s u : State} {a0 : Nat} (h : 4100 ||| m = m) : Frame m s (State.j5Stop a0 u) = Frame m s u := by
  refine Frame.last (m := 4100) ?_ h
  unfold State.j5Stop
  simp
@[simp] theorem State.toJ6_frame {m : Nat} {s u : State} {a0 : Nat} (h : 4100 ||| m = m) : Frame m s (State.toJ6 a0 u) = Frame m s u := by
  refine Frame.last (m := 4100) ?_ h
  unfold State.toJ6
  simp
@[simp] theorem State.j4Check_frame {m : Nat} {s u : State} {a0 : Nat} (h : 266244 ||| m = m) : Frame m s (State.j4Check a0 u) = Frame m s u := by
  refine Frame.last (m := 266244) ?_ h
  unfold State.j4Check
  simp [↓Frame.ite]
@[simp] theorem State.filterClear_frame {m : Nat} {s u : State} {a0 : Nat} (h : 4100 ||| m = m) : Frame m s (State.filterClear a0 u) = Frame m s u := by
  refine Frame.last (m := 4100) ?_ h
  unfold State.filterClear
  repeat' (first | (simp [↓Frame.ite]; done) | split | (refine ⟨fun _ => ?_, fun _ => ?_⟩) | (intro _) | (refine Eq.mpr (Frame.each ?_) ?_) | (refine Eq.mpr (State.laneStep_frame ?_ rfl) ?_) | (refine Eq.mpr (State.healthStep_frame ?_ rfl) ?_) | simp [↓Frame.ite])
@[simp] theorem State.fwFail_frame {m : Nat} {s u : State} {a0 : Nat} (h : 266244 ||| m = m) : Frame m s (State.fwFail a0 u) = Frame m s u := by
  refine Frame.last (m := 266244) ?_ h
  unfold State.fwFail
  simp
@[simp] theorem State.fwNext_frame {m : Nat} {s u : State} {a0 : Nat} (h : 4100 ||| m = m) : Frame m s (State.fwNext a0 u) = Frame m s u := by
  refine Frame.last (m := 4100) ?_ h
  unfold State.fwNext
  simp [↓Frame.ite]
@[simp] theorem State.joinAck_frame {m : Nat} {s u : State} {a0 : Nat} {a1 : CtrlOp} {a2 : Bytes} (h : 266244 ||| m = m) : Frame m s (State.joinAck a0 a1 a2 u) = Frame m s u := by
  refine Frame.last (m := 266244) ?_ h
  unfold State.joinAck
  (repeat' split) <;> simp [↓Frame.ite]
@[simp] theorem State.ctrlAck_frame {m : Nat} {s u : State} {a0 : Nat} {a1 : CtrlOp} {a2 : Word} {a3 : Bytes} (h : 266244 ||| m = m) : Frame m s (State.ctrlAck a0 a1 a2 a3 u) = Frame m s u := by
  refine Frame.last (m := 266244) ?_ h
  unfold State.ctrlAck
  (repeat' split) <;> simp [↓Frame.ite]
@[simp] theorem State.ctrlFail_frame {m : Nat} {s u : State} {a0 : Nat} {a1 : CtrlOp} {a2 : Nat} (h : 266244 ||| m = m) : Frame m s (State.ctrlFail a0 a1 a2 u) = Frame m s u := by
  refine Frame.last (m := 266244) ?_ h
  unfold State.ctrlFail
  (repeat' split) <;> simp [↓Frame.ite]
@[simp] theorem State.epochLater_frame {m : Nat} {s u : State} {a0 : Nat} {a1 : Nat} (h : 19019296 ||| m = m) : Frame m s (State.epochLater a0 a1 u) = Frame m s u := by
  refine Frame.last (m := 19019296) ?_ h
  unfold State.epochLater
  simp [↓Frame.ite]
@[simp] theorem State.cellHeard_frame {m : Nat} {s u : State} {a0 : Nat} (h : 4096 ||| m = m) : Frame m s (State.cellHeard a0 u) = Frame m s u := by
  refine Frame.last (m := 4096) ?_ h
  unfold State.cellHeard
  simp
@[simp] theorem State.allowed_frame {m : Nat} {s u : State} {f : State → State} {x : FrameHdr} {p : Bytes} (hf : ∀ v, Frame m v (f v)) (h : 4096 ||| m = m) :
    Frame m s (State.allowed x p f u) = Frame m s u := by
  have hl : ∀ v w, Frame m v (f w) = Frame m v w := fun v w => Frame.last (hf w) (Nat.or_self m)
  have hs : ∀ k, k ||| 4096 = 4096 → k ||| m = m := fun k e => Mask.sub h e
  refine Frame.last (m := m) ?_ (Nat.or_self m)
  unfold State.allowed
  simp [↓Frame.ite, hl, hs]
@[simp] theorem State.firstCopy_frame {m : Nat} {s u : State} {f : State → State} {c p q k t : Nat} {d : Word} (hf : ∀ v, Frame m v (f v)) (h : 4096 ||| m = m) :
    Frame m s (State.firstCopy c p q k t d f u) = Frame m s u := by
  have hl : ∀ v w, Frame m v (f w) = Frame m v w := fun v w => Frame.last (hf w) (Nat.or_self m)
  have hs : ∀ k, k ||| 4096 = 4096 → k ||| m = m := fun k e => Mask.sub h e
  refine Frame.last (m := m) ?_ (Nat.or_self m)
  unfold State.firstCopy
  simp only []
  repeat' (first | (simp [↓Frame.ite, hl, hs]; done) | split | (with_reducible refine Frame.ite.mpr ⟨fun _ => ?_, fun _ => ?_⟩) | (refine ⟨fun _ => ?_, fun _ => ?_⟩) | (intro _) | (refine Eq.mpr (Frame.each ?_) ?_) | (with_reducible refine Eq.mpr (hl _ _) ?_) | simp [↓Frame.ite, hl, hs])
@[simp] theorem State.epochOk_frame {m : Nat} {s u : State} {f : State → State} {c e : Nat} (hf : ∀ v, Frame m v (f v)) (h : 19019296 ||| m = m) :
    Frame m s (State.epochOk c e f u) = Frame m s u := by
  have hl : ∀ v w, Frame m v (f w) = Frame m v w := fun v w => Frame.last (hf w) (Nat.or_self m)
  have hs : ∀ k, k ||| 19019296 = 19019296 → k ||| m = m := fun k e => Mask.sub h e
  refine Frame.last (m := m) ?_ (Nat.or_self m)
  unfold State.epochOk
  simp [↓Frame.ite, hl, hs]
@[simp] theorem State.noteEpoch_frame {m : Nat} {s u : State} {a0 : Nat} (h : 16777216 ||| m = m) : Frame m s (State.noteEpoch a0 u) = Frame m s u := by
  refine Frame.last (m := 16777216) ?_ h
  unfold State.noteEpoch
  simp
@[simp] theorem State.epochTo_frame {m : Nat} {s u : State} {a0 : Nat} (h : 4100 ||| m = m) : Frame m s (State.epochTo a0 u) = Frame m s u := by
  refine Frame.last (m := 4100) ?_ h
  unfold State.epochTo
  simp
@[simp] theorem State.identQuery_frame {m : Nat} {s u : State} {a0 : Nat} (h : 4100 ||| m = m) : Frame m s (State.identQuery a0 u) = Frame m s u := by
  refine Frame.last (m := 4100) ?_ h
  unfold State.identQuery
  simp [↓Frame.ite]
@[simp] theorem State.takeBegin_frame {m : Nat} {s u : State} (h : 16781316 ||| m = m) : Frame m s (State.takeBegin u) = Frame m s u := by
  refine Frame.last (m := 16781316) ?_ h
  unfold State.takeBegin
  simp
@[simp] theorem State.takeEnd_frame {m : Nat} {s u : State} (h : 16913412 ||| m = m) : Frame m s (State.takeEnd u) = Frame m s u := by
  refine Frame.last (m := 16913412) ?_ h
  unfold State.takeEnd
  simp [↓Frame.ite]
@[simp] theorem State.feedState_frame {m : Nat} {s u : State} {a0 : Nat} {a1 : FeedVals} (h : 266244 ||| m = m) : Frame m s (State.feedState a0 a1 u) = Frame m s u := by
  refine Frame.last (m := 266244) ?_ h
  unfold State.feedState
  simp [↓Frame.ite]
@[simp] theorem State.feedTake_frame {m : Nat} {s u : State} {a0 : Nat} {a1 : Nat} {a2 : FeedVals} (h : 266244 ||| m = m) : Frame m s (State.feedTake a0 a1 a2 u) = Frame m s u := by
  refine Frame.last (m := 266244) ?_ h
  unfold State.feedTake
  simp [↓Frame.ite]
@[simp] theorem State.feedIn_frame {m : Nat} {s u : State} {x : FrameHdr} {p : Bytes} (h : 19281444 ||| m = m) :
    Frame m s (State.feedIn x p u) = Frame m s u := by
  refine Frame.last (m := 19281444) ?_ h
  unfold State.feedIn
  refine Frame.ite.mpr ⟨fun _ => by simp, fun _ => ?_⟩
  exact Eq.mpr (State.epochOk_frame (fun v => Eq.mpr (State.firstCopy_frame (fun w => Frame.ite.mpr ⟨fun _ => by simp, fun _ => by simp⟩) rfl) (by simp)) rfl) (by simp)
@[simp] theorem State.cutCell_frame {m : Nat} {s u : State} {a0 : Nat} (h : 266244 ||| m = m) : Frame m s (State.cutCell a0 u) = Frame m s u := by
  refine Frame.last (m := 266244) ?_ h
  unfold State.cutCell
  repeat' (first | (simp [↓Frame.ite]; done) | split | (refine ⟨fun _ => ?_, fun _ => ?_⟩) | (intro _) | (refine Eq.mpr (Frame.each ?_) ?_) | (refine Eq.mpr (State.laneStep_frame ?_ rfl) ?_) | (refine Eq.mpr (State.healthStep_frame ?_ rfl) ?_) | simp [↓Frame.ite])
@[simp] theorem State.ackTake_frame {m : Nat} {s u : State} {a0 : FrameHdr} {a1 : Nat} {a2 : Nat} {a3 : Word} {a4 : Bytes} (h : 266244 ||| m = m) : Frame m s (State.ackTake a0 a1 a2 a3 a4 u) = Frame m s u := by
  refine Frame.last (m := 266244) ?_ h
  unfold State.ackTake
  repeat' (first | (simp [↓Frame.ite]; done) | split | (refine ⟨fun _ => ?_, fun _ => ?_⟩) | (intro _) | (refine Eq.mpr (Frame.each ?_) ?_) | (refine Eq.mpr (State.laneStep_frame ?_ rfl) ?_) | (refine Eq.mpr (State.healthStep_frame ?_ rfl) ?_) | simp [↓Frame.ite])
@[simp] theorem State.nakTake_frame {m : Nat} {s u : State} {a0 : FrameHdr} {a1 : Nat} {a2 : Nat} {a3 : Nat} {a4 : Word} (h : 17043460 ||| m = m) : Frame m s (State.nakTake a0 a1 a2 a3 a4 u) = Frame m s u := by
  refine Frame.last (m := 17043460) ?_ h
  unfold State.nakTake
  repeat' (first | (simp [↓Frame.ite]; done) | split | (refine ⟨fun _ => ?_, fun _ => ?_⟩) | (intro _) | (refine Eq.mpr (Frame.each ?_) ?_) | (refine Eq.mpr (State.laneStep_frame ?_ rfl) ?_) | (refine Eq.mpr (State.healthStep_frame ?_ rfl) ?_) | simp [↓Frame.ite])
@[simp] theorem State.answerCopy_frame {m : Nat} {s u : State} {f : State → State} {x : FrameHdr} {n : Nat} {p : Bytes} (hf : ∀ v, Frame m v (f v))
    (h : 4096 ||| m = m) : Frame m s (State.answerCopy x n p f u) = Frame m s u := by
  have hl : ∀ v w, Frame m v (f w) = Frame m v w := fun v w => Frame.last (hf w) (Nat.or_self m)
  refine Frame.last (m := m) ?_ (Nat.or_self m)
  unfold State.answerCopy
  exact Eq.mpr (State.firstCopy_frame (fun v => Eq.mpr (hl _ _) (by simp [h])) h) (by simp)
@[simp] theorem State.ackIn_frame {m : Nat} {s u : State} {x : FrameHdr} {p : Bytes} (h : 19281444 ||| m = m) :
    Frame m s (State.ackIn x p u) = Frame m s u := by
  refine Frame.last (m := 19281444) ?_ h
  unfold State.ackIn
  refine Frame.ite.mpr ⟨fun _ => by simp, fun _ => ?_⟩
  exact Eq.mpr (State.epochOk_frame (fun v => Eq.mpr (State.answerCopy_frame (fun w => by simp) rfl) (by simp)) rfl) (by simp)
@[simp] theorem State.nakIn_frame {m : Nat} {s u : State} {x : FrameHdr} {p : Bytes} (h : 19281444 ||| m = m) :
    Frame m s (State.nakIn x p u) = Frame m s u := by
  refine Frame.last (m := 19281444) ?_ h
  unfold State.nakIn
  refine Frame.ite.mpr ⟨fun _ => by simp, fun _ => ?_⟩
  exact Eq.mpr (State.epochOk_frame (fun v => Eq.mpr (State.answerCopy_frame (fun w => by simp) rfl) (by simp)) rfl) (by simp)
@[simp] theorem State.identAdmit_frame {m : Nat} {s u : State} {a0 : Nat} {a1 : IdentData} (h : 266244 ||| m = m) : Frame m s (State.identAdmit a0 a1 u) = Frame m s u := by
  refine Frame.last (m := 266244) ?_ h
  unfold State.identAdmit
  simp [↓Frame.ite]
@[simp] theorem State.identTake_frame {m : Nat} {s u : State} {a0 : FrameHdr} {a1 : IdentData} (h : 266500 ||| m = m) : Frame m s (State.identTake a0 a1 u) = Frame m s u := by
  refine Frame.last (m := 266500) ?_ h
  unfold State.identTake
  repeat' (first | (simp [↓Frame.ite]; done) | split | (refine ⟨fun _ => ?_, fun _ => ?_⟩) | (intro _) | (refine Eq.mpr (Frame.each ?_) ?_) | (refine Eq.mpr (State.laneStep_frame ?_ rfl) ?_) | (refine Eq.mpr (State.healthStep_frame ?_ rfl) ?_) | simp [↓Frame.ite])
@[simp] theorem State.identIn_frame {m : Nat} {s u : State} {a0 : FrameHdr} {a1 : Bytes} (h : 19281700 ||| m = m) : Frame m s (State.identIn a0 a1 u) = Frame m s u := by
  refine Frame.last (m := 19281700) ?_ h
  unfold State.identIn
  repeat' (first | (simp [↓Frame.ite]; done) | split | (refine ⟨fun _ => ?_, fun _ => ?_⟩) | (intro _) | (refine Eq.mpr (Frame.each ?_) ?_) | (refine Eq.mpr (State.laneStep_frame ?_ rfl) ?_) | (refine Eq.mpr (State.healthStep_frame ?_ rfl) ?_) | simp [↓Frame.ite])
@[simp] theorem State.cellPump_frame {m : Nat} {s u : State} {a0 : Nat} (h : 266244 ||| m = m) : Frame m s (State.cellPump a0 u) = Frame m s u := by
  refine Frame.last (m := 266244) ?_ h
  unfold State.cellPump
  repeat' (first | (simp [↓Frame.ite]; done) | split | (refine ⟨fun _ => ?_, fun _ => ?_⟩) | (intro _) | (refine Eq.mpr (Frame.each ?_) ?_) | (refine Eq.mpr (State.laneStep_frame ?_ rfl) ?_) | (refine Eq.mpr (State.healthStep_frame ?_ rfl) ?_) | simp [↓Frame.ite])
@[simp] theorem State.timeSend_frame {m : Nat} {s u : State} {a0 : Nat} (h : 4108 ||| m = m) : Frame m s (State.timeSend a0 u) = Frame m s u := by
  refine Frame.last (m := 4108) ?_ h
  unfold State.timeSend
  repeat' (first | (simp [↓Frame.ite]; done) | split | (refine ⟨fun _ => ?_, fun _ => ?_⟩) | (intro _) | (refine Eq.mpr (Frame.each ?_) ?_) | (refine Eq.mpr (State.laneStep_frame ?_ rfl) ?_) | (refine Eq.mpr (State.healthStep_frame ?_ rfl) ?_) | simp [↓Frame.ite])
@[simp] theorem State.cellsPeriod_frame {m : Nat} {s u : State} (h : 266252 ||| m = m) : Frame m s (State.cellsPeriod u) = Frame m s u := by
  refine Frame.last (m := 266252) ?_ h
  unfold State.cellsPeriod
  simp [↓Frame.ite]
@[simp] theorem State.cellLatch_frame {m : Nat} {s u : State} {a0 : Nat} (h : 4100 ||| m = m) : Frame m s (State.cellLatch a0 u) = Frame m s u := by
  refine Frame.last (m := 4100) ?_ h
  unfold State.cellLatch
  repeat' (first | (simp [↓Frame.ite]; done) | split | (refine ⟨fun _ => ?_, fun _ => ?_⟩) | (intro _) | (refine Eq.mpr (Frame.each ?_) ?_) | (refine Eq.mpr (State.laneStep_frame ?_ rfl) ?_) | (refine Eq.mpr (State.healthStep_frame ?_ rfl) ?_) | simp [↓Frame.ite])
@[simp] theorem State.cellsLatch_frame {m : Nat} {s u : State} (h : 4100 ||| m = m) : Frame m s (State.cellsLatch u) = Frame m s u := by
  refine Frame.last (m := 4100) ?_ h
  unfold State.cellsLatch
  simp [↓Frame.ite]

/-! ## Edg -/

@[simp] theorem State.onGrp_frame {m : Nat} {s u : State} {a0 : Nat} {a1 : Grp → Grp} (h : 8192 ||| m = m) : Frame m s (State.onGrp a0 a1 u) = Frame m s u := by
  refine Frame.last (m := 8192) ?_ h
  unfold State.onGrp
  simp
@[simp] theorem State.readGrp_frame {m : Nat} {s u : State} {a0 : Nat} (h : 8192 ||| m = m) : Frame m s (State.readGrp a0 u) = Frame m s u := by
  refine Frame.last (m := 8192) ?_ h
  unfold State.readGrp
  simp
@[simp] theorem State.edgFault_frame {m : Nat} {s u : State} {a0 : Nat} {a1 : Bool} {a2 : Nat} (h : 8192 ||| m = m) : Frame m s (State.edgFault a0 a1 a2 u) = Frame m s u := by
  refine Frame.last (m := 8192) ?_ h
  unfold State.edgFault
  simp
@[simp] theorem State.edgCount_frame {m : Nat} {s u : State} {a0 : Bool} {a1 : Nat} {a2 : List Wave} (h : 8192 ||| m = m) : Frame m s (State.edgCount a0 a1 a2 u) = Frame m s u := by
  refine Frame.last (m := 8192) ?_ h
  unfold State.edgCount
  simp [↓Frame.ite]
@[simp] theorem State.holdCell_frame {m : Nat} {s u : State} {a0 : Nat} (h : 4096 ||| m = m) : Frame m s (State.holdCell a0 u) = Frame m s u := by
  refine Frame.last (m := 4096) ?_ h
  unfold State.holdCell
  simp [↓Frame.ite]
@[simp] theorem State.withholdCell_frame {m : Nat} {s u : State} {a0 : Nat} {a1 : Nat} (h : 28672 ||| m = m) : Frame m s (State.withholdCell a0 a1 u) = Frame m s u := by
  refine Frame.last (m := 28672) ?_ h
  unfold State.withholdCell
  simp
@[simp] theorem State.withholdLocal_frame {m : Nat} {s u : State} {a0 : Nat} {a1 : Nat} (h : 24576 ||| m = m) : Frame m s (State.withholdLocal a0 a1 u) = Frame m s u := by
  refine Frame.last (m := 24576) ?_ h
  unfold State.withholdLocal
  simp
@[simp] theorem State.freeze_frame {m : Nat} {s u : State} (h : 8192 ||| m = m) : Frame m s (State.freeze u) = Frame m s u := by
  refine Frame.last (m := 8192) ?_ h
  unfold State.freeze
  simp
@[simp] theorem State.edgeDrop_frame {m : Nat} {s u : State} (h : 28680 ||| m = m) : Frame m s (State.edgeDrop u) = Frame m s u := by
  refine Frame.last (m := 28680) ?_ h
  unfold State.edgeDrop
  simp
@[simp] theorem State.rankStale_frame {m : Nat} {s u : State} (h : 24576 ||| m = m) : Frame m s (State.rankStale u) = Frame m s u := by
  refine Frame.last (m := 24576) ?_ h
  unfold State.rankStale
  repeat' (first | (simp [↓Frame.ite]; done) | split | (refine ⟨fun _ => ?_, fun _ => ?_⟩) | (intro _) | (refine Eq.mpr (Frame.each ?_) ?_) | (refine Eq.mpr (State.laneStep_frame ?_ rfl) ?_) | (refine Eq.mpr (State.healthStep_frame ?_ rfl) ?_) | simp [↓Frame.ite])
@[simp] theorem State.putCell_frame {m : Nat} {s u : State} {a0 : Nat} {a1 : Nat} (h : 24576 ||| m = m) : Frame m s (State.putCell a0 a1 u) = Frame m s u := by
  refine Frame.last (m := 24576) ?_ h
  unfold State.putCell
  repeat' (first | (simp [↓Frame.ite]; done) | split | (refine ⟨fun _ => ?_, fun _ => ?_⟩) | (intro _) | (refine Eq.mpr (Frame.each ?_) ?_) | (refine Eq.mpr (State.laneStep_frame ?_ rfl) ?_) | (refine Eq.mpr (State.healthStep_frame ?_ rfl) ?_) | simp [↓Frame.ite])
@[simp] theorem State.putLocals_frame {m : Nat} {s u : State} {a0 : Nat} (h : 24576 ||| m = m) : Frame m s (State.putLocals a0 u) = Frame m s u := by
  refine Frame.last (m := 24576) ?_ h
  unfold State.putLocals
  simp
@[simp] theorem State.compile_frame {m : Nat} {s u : State} {a0 : List Nat} {a1 : List Nat} (h : 28680 ||| m = m) : Frame m s (State.compile a0 a1 u) = Frame m s u := by
  refine Frame.last (m := 28680) ?_ h
  unfold State.compile
  simp [↓Frame.ite]
@[simp] theorem State.noEdges_frame {m : Nat} {s u : State} (h : 4096 ||| m = m) : Frame m s (State.noEdges u) = Frame m s u := by
  refine Frame.last (m := 4096) ?_ h
  unfold State.noEdges
  simp
@[simp] theorem State.shipCell_frame {m : Nat} {s u : State} {a0 : Nat} {a1 : ESet} (h : 20484 ||| m = m) : Frame m s (State.shipCell a0 a1 u) = Frame m s u := by
  refine Frame.last (m := 20484) ?_ h
  unfold State.shipCell
  simp [↓Frame.ite]
@[simp] theorem State.heartbeat_frame {m : Nat} {s u o : State} (h : 16777220 ||| m = m) : Frame m s (State.heartbeat o u) = Frame m s u := by
  refine Frame.last (m := 16777220) ?_ h
  unfold State.heartbeat
  simp [↓Frame.ite]
@[simp] theorem State.opening_frame {m : Nat} {s u : State} (h : 18903072 ||| m = m) : Frame m s (State.opening u) = Frame m s u := by
  refine Frame.last (m := 18903072) ?_ h
  unfold State.opening
  simp
@[simp] theorem State.atTime_frame {m : Nat} {s u : State} {n : Nat} (h : 1 ||| m = m) : Frame m s (State.atTime u n) = Frame m s u := by
  refine Frame.last (m := 1) ?_ h
  exact ⟨fun p q => by cases p <;> first | rfl | cases q⟩
@[simp] theorem State.land_frame {m : Nat} {s u : State} {a0 : Flight} (h : 8398349 ||| m = m) : Frame m s (State.land a0 u) = Frame m s u := by
  refine Frame.last (m := 8398349) ?_ h
  unfold State.land
  repeat' (first | (simp [↓Frame.ite]; done) | split | (refine ⟨fun _ => ?_, fun _ => ?_⟩) | (intro _) | (refine Eq.mpr (Frame.each ?_) ?_) | (refine Eq.mpr (State.laneStep_frame ?_ rfl) ?_) | (refine Eq.mpr (State.healthStep_frame ?_ rfl) ?_) | simp [↓Frame.ite])
@[simp] theorem State.commit_frame {m : Nat} {s u : State} {a0 : Flight} (h : 8192 ||| m = m) : Frame m s (State.commit a0 u) = Frame m s u := by
  refine Frame.last (m := 8192) ?_ h
  unfold State.commit
  simp
@[simp] theorem State.landFlight_frame {m : Nat} {s u : State} {a0 : Flight} (h : 8398349 ||| m = m) : Frame m s (State.landFlight a0 u) = Frame m s u := by
  refine Frame.last (m := 8398349) ?_ h
  unfold State.landFlight
  simp
@[simp] theorem State.landDue_frame {m : Nat} {s u : State} (h : 8398349 ||| m = m) : Frame m s (State.landDue u) = Frame m s u := by
  refine Frame.last (m := 8398349) ?_ h
  unfold State.landDue
  simp

end Sys2Proof.Machine
end

