-- ==== Sys2Proof/Laws/FrameControl.lean ====
section
/-! SUPPORT. What the operations of benches, balancing, modes and the period may touch. -/
namespace Sys2Proof.Machine
set_option linter.all false

/-! ## Bench -/

@[simp] theorem State.onBench_frame {m : Nat} {s u : State} {a0 : Nat} {a1 : Bench → Bench} (h : 32768 ||| m = m) : Frame m s (State.onBench a0 a1 u) = Frame m s u := by
  refine Frame.last (m := 32768) ?_ h
  unfold State.onBench
  simp
@[simp] theorem State.onLoop_frame {m : Nat} {s u : State} {a0 : Nat} {a1 : Loop → Loop} (h : 32768 ||| m = m) : Frame m s (State.onLoop a0 a1 u) = Frame m s u := by
  refine Frame.last (m := 32768) ?_ h
  unfold State.onLoop
  simp
@[simp] theorem State.lmPut_frame {m : Nat} {s u : State} {a0 : Nat} {a1 : Nat} {a2 : List Word} (h : 32768 ||| m = m) : Frame m s (State.lmPut a0 a1 a2 u) = Frame m s u := by
  refine Frame.last (m := 32768) ?_ h
  unfold State.lmPut
  simp
@[simp] theorem State.setReg_frame {m : Nat} {s u : State} {a0 : Nat} {a1 : Nat} {a2 : List Word} (h : 32768 ||| m = m) : Frame m s (State.setReg a0 a1 a2 u) = Frame m s u := by
  refine Frame.last (m := 32768) ?_ h
  unfold State.setReg
  simp
@[simp] theorem State.benchFault_frame {m : Nat} {s u : State} {a0 : Nat} {a1 : Nat} {a2 : Bool} (h : 32768 ||| m = m) : Frame m s (State.benchFault a0 a1 a2 u) = Frame m s u := by
  refine Frame.last (m := 32768) ?_ h
  unfold State.benchFault
  simp
@[simp] theorem State.benchDead_frame {m : Nat} {s u : State} {a0 : Nat} (h : 32768 ||| m = m) : Frame m s (State.benchDead a0 u) = Frame m s u := by
  refine Frame.last (m := 32768) ?_ h
  unfold State.benchDead
  simp
@[simp] theorem State.overrun_frame {m : Nat} {s u : State} (h : 32768 ||| m = m) : Frame m s (State.overrun u) = Frame m s u := by
  refine Frame.last (m := 32768) ?_ h
  unfold State.overrun
  simp
@[simp] theorem State.rankLate_frame {m : Nat} {s u : State} {a0 : Nat} (h : 65536 ||| m = m) : Frame m s (State.rankLate a0 u) = Frame m s u := by
  refine Frame.last (m := 65536) ?_ h
  unfold State.rankLate
  simp
@[simp] theorem State.ranksDue_frame {m : Nat} {s u : State} (h : 65536 ||| m = m) : Frame m s (State.ranksDue u) = Frame m s u := by
  refine Frame.last (m := 65536) ?_ h
  unfold State.ranksDue
  simp
@[simp] theorem State.benchStop_frame {m : Nat} {s u : State} {a0 : Nat} (h : 32776 ||| m = m) : Frame m s (State.benchStop a0 u) = Frame m s u := by
  refine Frame.last (m := 32776) ?_ h
  unfold State.benchStop
  simp [↓Frame.ite]
@[simp] theorem State.cordicDue_frame {m : Nat} {s u : State} {a0 : Nat} {a1 : Nat} (h : 32768 ||| m = m) : Frame m s (State.cordicDue a0 a1 u) = Frame m s u := by
  refine Frame.last (m := 32768) ?_ h
  unfold State.cordicDue
  simp
@[simp] theorem State.rcDue_frame {m : Nat} {s u : State} {a0 : Nat} {a1 : Nat} (h : 32768 ||| m = m) : Frame m s (State.rcDue a0 a1 u) = Frame m s u := by
  refine Frame.last (m := 32768) ?_ h
  unfold State.rcDue
  simp
@[simp] theorem State.putRanks_frame {m : Nat} {s u : State} {a0 : Nat} {a1 : List Nat} (h : 32768 ||| m = m) : Frame m s (State.putRanks a0 a1 u) = Frame m s u := by
  refine Frame.last (m := 32768) ?_ h
  unfold State.putRanks
  simp
@[simp] theorem State.sortDue_frame {m : Nat} {s u : State} {a0 : Nat} {a1 : Nat} (h : 32768 ||| m = m) : Frame m s (State.sortDue a0 a1 u) = Frame m s u := by
  refine Frame.last (m := 32768) ?_ h
  unfold State.sortDue
  (repeat' split) <;> simp
@[simp] theorem State.unitsDue_frame {m : Nat} {s u : State} {a0 : Nat} {a1 : Nat} (h : 32768 ||| m = m) : Frame m s (State.unitsDue a0 a1 u) = Frame m s u := by
  refine Frame.last (m := 32768) ?_ h
  unfold State.unitsDue
  simp
@[simp] theorem State.issue_frame {m : Nat} {s u : State} {f : State → State} {b : Nat} (hf : ∀ v, Frame m v (f v)) (h : 32768 ||| m = m) :
    Frame m s (State.issue b f u) = Frame m s u := by
  have hl : ∀ v w, Frame m v (f w) = Frame m v w := fun v w => Frame.last (hf w) (Nat.or_self m)
  have hs : ∀ k, k ||| 32768 = 32768 → k ||| m = m := fun k e => Mask.sub h e
  refine Frame.last (m := m) ?_ (Nat.or_self m)
  unfold State.issue
  simp [↓Frame.ite, hl, hs]
@[simp] theorem State.loopEffect_frame {m : Nat} {s u : State} {a0 : Nat} {a1 : LoopCmd} (h : 32768 ||| m = m) : Frame m s (State.loopEffect a0 a1 u) = Frame m s u := by
  refine Frame.last (m := 32768) ?_ h
  unfold State.loopEffect
  (repeat' split) <;> simp
@[simp] theorem State.loopsStart_frame {m : Nat} {s u : State} (h : 32768 ||| m = m) : Frame m s (State.loopsStart u) = Frame m s u := by
  refine Frame.last (m := 32768) ?_ h
  unfold State.loopsStart
  simp
@[simp] theorem State.gainsApply_frame {m : Nat} {s u : State} (h : 32768 ||| m = m) : Frame m s (State.gainsApply u) = Frame m s u := by
  refine Frame.last (m := 32768) ?_ h
  unfold State.gainsApply
  simp [↓Frame.ite]
@[simp] theorem State.inControl_frame {m : Nat} {s u : State} {a0 : Nat} {a1 : Nat} (h : 32768 ||| m = m) : Frame m s (State.inControl a0 a1 u) = Frame m s u := by
  refine Frame.last (m := 32768) ?_ h
  unfold State.inControl
  simp
@[simp] theorem State.benchesClose_frame {m : Nat} {s u : State} (h : 32768 ||| m = m) : Frame m s (State.benchesClose u) = Frame m s u := by
  refine Frame.last (m := 32768) ?_ h
  unfold State.benchesClose
  simp
@[simp] theorem State.benchesStart_frame {m : Nat} {s u : State} (h : 32768 ||| m = m) : Frame m s (State.benchesStart u) = Frame m s u := by
  refine Frame.last (m := 32768) ?_ h
  unfold State.benchesStart
  simp
@[simp] theorem State.benchRelease_frame {m : Nat} {s u : State} {a0 : Nat} (h : 32768 ||| m = m) : Frame m s (State.benchRelease a0 u) = Frame m s u := by
  refine Frame.last (m := 32768) ?_ h
  unfold State.benchRelease
  simp [↓Frame.ite]
@[simp] theorem State.drawnBy_frame {m : Nat} {s u : State} {n : Nat} (h : 8 ||| m = m) : Frame m s (State.drawnBy n u) = Frame m s u := by
  refine Frame.last (m := 8) ?_ h
  exact ⟨fun p q => by cases p <;> first | rfl | cases q⟩
@[simp] theorem State.gainsLost_frame {m : Nat} {s u : State} (h : 32776 ||| m = m) : Frame m s (State.gainsLost u) = Frame m s u := by
  refine Frame.last (m := 32776) ?_ h
  unfold State.gainsLost
  simp
@[simp] theorem State.interp_frame {m : Nat} {s u : State} (h : 32776 ||| m = m) : Frame m s (State.interp u) = Frame m s u := by
  refine Frame.last (m := 32776) ?_ h
  unfold State.interp
  extract_lets s1 ok bad s2 s3
  have h1 : Frame 32776 u s1 := by simp [s1]
  clear_value s1
  have h2 : Frame 32776 u s2 := by simp only [s2]; exact Eq.mpr (State.onBnc_frame rfl) h1
  clear_value s2
  have h3 : Frame 32776 u s3 := Frame.ite.mpr ⟨fun _ => by simp [h2], fun _ => h2⟩
  clear_value s3
  simp [h3]
@[simp] theorem State.onTrace_frame {m : Nat} {s u : State} {a0 : Trace → Trace} (h : 32768 ||| m = m) : Frame m s (State.onTrace a0 u) = Frame m s u := by
  refine Frame.last (m := 32768) ?_ h
  unfold State.onTrace
  simp
@[simp] theorem State.traceRow_frame {m : Nat} {s u : State} (h : 32768 ||| m = m) : Frame m s (State.traceRow u) = Frame m s u := by
  refine Frame.last (m := 32768) ?_ h
  unfold State.traceRow
  simp [↓Frame.ite]
@[simp] theorem State.stateReload_frame {m : Nat} {s u : State} (h : 32768 ||| m = m) : Frame m s (State.stateReload u) = Frame m s u := by
  refine Frame.last (m := 32768) ?_ h
  unfold State.stateReload
  simp
@[simp] theorem State.coefReload_frame {m : Nat} {s u : State} (h : 32768 ||| m = m) : Frame m s (State.coefReload u) = Frame m s u := by
  refine Frame.last (m := 32768) ?_ h
  unfold State.coefReload
  repeat' (first | (simp [↓Frame.ite]; done) | split | (refine ⟨fun _ => ?_, fun _ => ?_⟩) | (intro _) | (refine Eq.mpr (Frame.each ?_) ?_) | (refine Eq.mpr (State.laneStep_frame ?_ rfl) ?_) | (refine Eq.mpr (State.healthStep_frame ?_ rfl) ?_) | simp [↓Frame.ite])
@[simp] theorem State.loopsReload_frame {m : Nat} {s u : State} (h : 32768 ||| m = m) : Frame m s (State.loopsReload u) = Frame m s u := by
  refine Frame.last (m := 32768) ?_ h
  unfold State.loopsReload
  simp
@[simp] theorem State.benchesLoad_frame {m : Nat} {s u : State} (h : 32768 ||| m = m) : Frame m s (State.benchesLoad u) = Frame m s u := by
  refine Frame.last (m := 32768) ?_ h
  unfold State.benchesLoad
  simp
@[simp] theorem loopQueue_frame {m : Nat} {s u : State} {c : LoopCmd} (h : 32768 ||| m = m) : Frame m s (loopQueue c u).1 = Frame m s u := by
  unfold loopQueue
  simp [h]

/-! ## Thermal -/

@[simp] theorem State.onArm_frame {m : Nat} {s u : State} {a0 : Nat} {a1 : Arm → Arm} (h : 65536 ||| m = m) : Frame m s (State.onArm a0 a1 u) = Frame m s u := by
  refine Frame.last (m := 65536) ?_ h
  unfold State.onArm
  simp
@[simp] theorem State.onTherm_frame {m : Nat} {s u : State} {a0 : Nat} {a1 : ThermCell → ThermCell} (h : 65536 ||| m = m) : Frame m s (State.onTherm a0 a1 u) = Frame m s u := by
  refine Frame.last (m := 65536) ?_ h
  unfold State.onTherm
  simp
@[simp] theorem State.armLatch_frame {m : Nat} {s u : State} {a0 : Nat} (h : 65536 ||| m = m) : Frame m s (State.armLatch a0 u) = Frame m s u := by
  refine Frame.last (m := 65536) ?_ h
  unfold State.armLatch
  simp
@[simp] theorem State.balLatch_frame {m : Nat} {s u : State} (h : 65536 ||| m = m) : Frame m s (State.balLatch u) = Frame m s u := by
  refine Frame.last (m := 65536) ?_ h
  unfold State.balLatch
  simp
@[simp] theorem State.thermRestart_frame {m : Nat} {s u : State} {a0 : Nat} (h : 65536 ||| m = m) : Frame m s (State.thermRestart a0 u) = Frame m s u := by
  refine Frame.last (m := 65536) ?_ h
  unfold State.thermRestart
  simp
@[simp] theorem State.thermStep_frame {m : Nat} {s u : State} {a0 : List Word} {a1 : Nat} (h : 65536 ||| m = m) : Frame m s (State.thermStep a0 a1 u) = Frame m s u := by
  refine Frame.last (m := 65536) ?_ h
  unfold State.thermStep
  simp [↓Frame.ite]
@[simp] theorem State.thermEnter_frame {m : Nat} {s u : State} {a0 : Nat} {a1 : Nat} (h : 724996 ||| m = m) : Frame m s (State.thermEnter a0 a1 u) = Frame m s u := by
  refine Frame.last (m := 724996) ?_ h
  unfold State.thermEnter
  simp [↓Frame.ite]
@[simp] theorem State.armDerate_frame {m : Nat} {s u : State} {a0 : Nat} (h : 65536 ||| m = m) : Frame m s (State.armDerate a0 u) = Frame m s u := by
  refine Frame.last (m := 65536) ?_ h
  unfold State.armDerate
  simp
@[simp] theorem State.thermPass_frame {m : Nat} {s u : State} (h : 725004 ||| m = m) : Frame m s (State.thermPass u) = Frame m s u := by
  refine Frame.last (m := 725004) ?_ h
  unfold State.thermPass
  simp
@[simp] theorem State.thermRedo_frame {m : Nat} {s u : State} {a0 : Nat} (h : 65536 ||| m = m) : Frame m s (State.thermRedo a0 u) = Frame m s u := by
  refine Frame.last (m := 65536) ?_ h
  unfold State.thermRedo
  simp
@[simp] theorem State.thermLate_frame {m : Nat} {s u : State} {a0 : List Nat} (h : 65536 ||| m = m) : Frame m s (State.thermLate a0 u) = Frame m s u := by
  refine Frame.last (m := 65536) ?_ h
  unfold State.thermLate
  simp [↓Frame.ite]
@[simp] theorem State.tableLost_frame {m : Nat} {s u : State} (h : 98312 ||| m = m) : Frame m s (State.tableLost u) = Frame m s u := by
  refine Frame.last (m := 98312) ?_ h
  unfold State.tableLost
  simp [↓Frame.ite]

/-! ## Bal -/

@[simp] theorem State.armDid_frame {m : Nat} {s u : State} {a0 : Nat} {a1 : Nat} (h : 65536 ||| m = m) : Frame m s (State.armDid a0 a1 u) = Frame m s u := by
  refine Frame.last (m := 65536) ?_ h
  unfold State.armDid
  simp
@[simp] theorem State.sortDone_frame {m : Nat} {s u : State} {a0 : Nat} (h : 65536 ||| m = m) : Frame m s (State.sortDone a0 u) = Frame m s u := by
  refine Frame.last (m := 65536) ?_ h
  unfold State.sortDone
  simp [↓Frame.ite]
@[simp] theorem State.takeList_frame {m : Nat} {s u : State} {a0 : BalHdr} {a1 : List BalKey} (h : 65536 ||| m = m) : Frame m s (State.takeList a0 a1 u) = Frame m s u := by
  refine Frame.last (m := 65536) ?_ h
  unfold State.takeList
  simp
@[simp] theorem State.takeSlice_frame {m : Nat} {s u : State} {a0 : BalHdr} {a1 : List Nat} (h : 65536 ||| m = m) : Frame m s (State.takeSlice a0 a1 u) = Frame m s u := by
  refine Frame.last (m := 65536) ?_ h
  unfold State.takeSlice
  simp
@[simp] theorem State.merge_frame {m : Nat} {s u : State} {a0 : Nat} (h : 8454156 ||| m = m) : Frame m s (State.merge a0 u) = Frame m s u := by
  refine Frame.last (m := 8454156) ?_ h
  unfold State.merge
  simp [↓Frame.ite]
@[simp] theorem State.sliceDue_frame {m : Nat} {s u : State} {a0 : Nat} (h : 65536 ||| m = m) : Frame m s (State.sliceDue a0 u) = Frame m s u := by
  refine Frame.last (m := 65536) ?_ h
  unfold State.sliceDue
  repeat' (first | (simp [↓Frame.ite]; done) | split | (refine ⟨fun _ => ?_, fun _ => ?_⟩) | (intro _) | (refine Eq.mpr (Frame.each ?_) ?_) | (refine Eq.mpr (State.laneStep_frame ?_ rfl) ?_) | (refine Eq.mpr (State.healthStep_frame ?_ rfl) ?_) | simp [↓Frame.ite])
@[simp] theorem State.balRelease_frame {m : Nat} {s u : State} (h : 81920 ||| m = m) : Frame m s (State.balRelease u) = Frame m s u := by
  refine Frame.last (m := 81920) ?_ h
  unfold State.balRelease
  repeat' (first | (simp [↓Frame.ite]; done) | split | (refine ⟨fun _ => ?_, fun _ => ?_⟩) | (intro _) | (refine Eq.mpr (Frame.each ?_) ?_) | (refine Eq.mpr (State.laneStep_frame ?_ rfl) ?_) | (refine Eq.mpr (State.healthStep_frame ?_ rfl) ?_) | simp [↓Frame.ite])
@[simp] theorem State.dieFails_frame {m : Nat} {s u : State} {a0 : Nat} (h : 196608 ||| m = m) : Frame m s (State.dieFails a0 u) = Frame m s u := by
  refine Frame.last (m := 196608) ?_ h
  unfold State.dieFails
  simp
@[simp] theorem State.dieSample_frame {m : Nat} {s u : State} {a0 : List Int} (h : 720900 ||| m = m) : Frame m s (State.dieSample a0 u) = Frame m s u := by
  refine Frame.last (m := 720900) ?_ h
  unfold State.dieSample
  simp [↓Frame.ite]
@[simp] theorem State.evWrite_frame {m : Nat} {s u : State} (h : 131072 ||| m = m) : Frame m s (State.evWrite u) = Frame m s u := by
  refine Frame.last (m := 131072) ?_ h
  unfold State.evWrite
  (repeat' split) <;> simp

/-! ## Comparators -/

@[simp] theorem State.onCmp1_frame {m : Nat} {s u : State} {a0 : Nat} {a1 : Cmp1 → Cmp1} (h : 2097152 ||| m = m) : Frame m s (State.onCmp1 a0 a1 u) = Frame m s u := by
  refine Frame.last (m := 2097152) ?_ h
  unfold State.onCmp1
  simp
@[simp] theorem State.cmpEval_frame {m : Nat} {s u : State} {a0 : Nat} (h : 10661900 ||| m = m) : Frame m s (State.cmpEval a0 u) = Frame m s u := by
  refine Frame.last (m := 10661900) ?_ h
  unfold State.cmpEval
  simp [↓Frame.ite]
@[simp] theorem State.cmpStages_frame {m : Nat} {s u : State} {a0 : Nat} (h : 2097152 ||| m = m) : Frame m s (State.cmpStages a0 u) = Frame m s u := by
  refine Frame.last (m := 2097152) ?_ h
  unfold State.cmpStages
  simp
@[simp] theorem State.cmpFollow_frame {m : Nat} {s u : State} {a0 : Nat} (h : 10661900 ||| m = m) : Frame m s (State.cmpFollow a0 u) = Frame m s u := by
  refine Frame.last (m := 10661900) ?_ h
  unfold State.cmpFollow
  simp [↓Frame.ite]
@[simp] theorem State.cmpStart_frame {m : Nat} {s u : State} {a0 : Nat} (h : 10661900 ||| m = m) : Frame m s (State.cmpStart a0 u) = Frame m s u := by
  refine Frame.last (m := 10661900) ?_ h
  unfold State.cmpStart
  simp
@[simp] theorem State.cmpUp_frame {m : Nat} {s u : State} (h : 10661900 ||| m = m) : Frame m s (State.cmpUp u) = Frame m s u := by
  refine Frame.last (m := 10661900) ?_ h
  unfold State.cmpUp
  simp
@[simp] theorem State.cmpDown_frame {m : Nat} {s u : State} (h : 2097152 ||| m = m) : Frame m s (State.cmpDown u) = Frame m s u := by
  refine Frame.last (m := 2097152) ?_ h
  unfold State.cmpDown
  simp
@[simp] theorem State.checkBegin_frame {m : Nat} {s u : State} {a0 : Nat} (h : 2097152 ||| m = m) : Frame m s (State.checkBegin a0 u) = Frame m s u := by
  refine Frame.last (m := 2097152) ?_ h
  unfold State.checkBegin
  simp
@[simp] theorem State.checkEnd_frame {m : Nat} {s u : State} {a0 : Nat} {a1 : List (Nat × Nat)} (h : 10661900 ||| m = m) : Frame m s (State.checkEnd a0 a1 u) = Frame m s u := by
  refine Frame.last (m := 10661900) ?_ h
  unfold State.checkEnd
  repeat' (first | (simp [↓Frame.ite]; done) | split | (refine ⟨fun _ => ?_, fun _ => ?_⟩) | (intro _) | (refine Eq.mpr (Frame.each ?_) ?_) | (refine Eq.mpr (State.laneStep_frame ?_ rfl) ?_) | (refine Eq.mpr (State.healthStep_frame ?_ rfl) ?_) | simp [↓Frame.ite])
@[simp] theorem State.checksBegin_frame {m : Nat} {s u : State} (h : 2097152 ||| m = m) : Frame m s (State.checksBegin u) = Frame m s u := by
  refine Frame.last (m := 2097152) ?_ h
  unfold State.checksBegin
  (repeat' split) <;> simp

/-! ## Inputs -/

@[simp] theorem State.varsLatch_frame {m : Nat} {s u : State} (h : 327680 ||| m = m) : Frame m s (State.varsLatch u) = Frame m s u := by
  refine Frame.last (m := 327680) ?_ h
  unfold State.varsLatch
  simp
@[simp] theorem State.putInputs_frame {m : Nat} {s u : State} {a0 : Nat} {a1 : List Word} {a2 : List Bool} (h : 32768 ||| m = m) : Frame m s (State.putInputs a0 a1 a2 u) = Frame m s u := by
  refine Frame.last (m := 32768) ?_ h
  unfold State.putInputs
  simp
@[simp] theorem State.inputsLatch_frame {m : Nat} {s u : State} (h : 32768 ||| m = m) : Frame m s (State.inputsLatch u) = Frame m s u := by
  refine Frame.last (m := 32768) ?_ h
  unfold State.inputsLatch
  simp
@[simp] theorem State.modeWords_frame {m : Nat} {s u : State} (h : 32768 ||| m = m) : Frame m s (State.modeWords u) = Frame m s u := by
  refine Frame.last (m := 32768) ?_ h
  unfold State.modeWords
  repeat' (first | (simp [↓Frame.ite]; done) | split | (refine ⟨fun _ => ?_, fun _ => ?_⟩) | (intro _) | (refine Eq.mpr (Frame.each ?_) ?_) | (refine Eq.mpr (State.laneStep_frame ?_ rfl) ?_) | (refine Eq.mpr (State.healthStep_frame ?_ rfl) ?_) | simp [↓Frame.ite])
@[simp] theorem State.cmpWords_frame {m : Nat} {s u : State} (h : 2097152 ||| m = m) : Frame m s (State.cmpWords u) = Frame m s u := by
  refine Frame.last (m := 2097152) ?_ h
  unfold State.cmpWords
  simp
@[simp] theorem State.modelCell_frame {m : Nat} {s u : State} {a0 : CellDecl} (h : 4096 ||| m = m) : Frame m s (State.modelCell a0 u) = Frame m s u := by
  refine Frame.last (m := 4096) ?_ h
  unfold State.modelCell
  repeat' (first | (simp [↓Frame.ite]; done) | split | (refine ⟨fun _ => ?_, fun _ => ?_⟩) | (intro _) | (refine Eq.mpr (Frame.each ?_) ?_) | (refine Eq.mpr (State.laneStep_frame ?_ rfl) ?_) | (refine Eq.mpr (State.healthStep_frame ?_ rfl) ?_) | simp [↓Frame.ite])
@[simp] theorem State.modelCells_frame {m : Nat} {s u : State} (h : 4096 ||| m = m) : Frame m s (State.modelCells u) = Frame m s u := by
  refine Frame.last (m := 4096) ?_ h
  unfold State.modelCells
  simp [↓Frame.ite]

/-! ## Island -/

@[simp] theorem State.islandLatch_frame {m : Nat} {s u : State} {a0 : Nat} {a1 : Nat} (h : 14856204 ||| m = m) : Frame m s (State.islandLatch a0 a1 u) = Frame m s u := by
  refine Frame.last (m := 14856204) ?_ h
  unfold State.islandLatch
  simp [↓Frame.ite]
@[simp] theorem State.islandFault_frame {m : Nat} {s u : State} {a0 : Nat} (h : 14856204 ||| m = m) : Frame m s (State.islandFault a0 u) = Frame m s u := by
  refine Frame.last (m := 14856204) ?_ h
  unfold State.islandFault
  simp
@[simp] theorem State.islandInit_frame {m : Nat} {s u : State} (h : 14856204 ||| m = m) : Frame m s (State.islandInit u) = Frame m s u := by
  refine Frame.last (m := 14856204) ?_ h
  unfold State.islandInit
  simp
@[simp] theorem State.islandPower_frame {m : Nat} {s u : State} (h : 14856204 ||| m = m) : Frame m s (State.islandPower u) = Frame m s u := by
  refine Frame.last (m := 14856204) ?_ h
  unfold State.islandPower
  simp
@[simp] theorem State.onPairS_frame {m : Nat} {s u : State} {a0 : Nat} {a1 : PairS → PairS} (h : 4194304 ||| m = m) : Frame m s (State.onPairS a0 a1 u) = Frame m s u := by
  refine Frame.last (m := 4194304) ?_ h
  unfold State.onPairS
  simp
@[simp] theorem State.pairEval_frame {m : Nat} {s u : State} {a0 : Nat} (h : 4194304 ||| m = m) : Frame m s (State.pairEval a0 u) = Frame m s u := by
  refine Frame.last (m := 4194304) ?_ h
  unfold State.pairEval
  simp
@[simp] theorem State.demand_frame {m : Nat} {s u : State} {a0 : Nat} (h : 14856204 ||| m = m) : Frame m s (State.demand a0 u) = Frame m s u := by
  refine Frame.last (m := 14856204) ?_ h
  unfold State.demand
  simp [↓Frame.ite]
@[simp] theorem State.countedEdge_frame {m : Nat} {s u : State} (h : 6311940 ||| m = m) : Frame m s (State.countedEdge u) = Frame m s u := by
  refine Frame.last (m := 6311940) ?_ h
  unfold State.countedEdge
  simp [↓Frame.ite]
@[simp] theorem State.gatePower_frame {m : Nat} {s u : State} (h : 4194304 ||| m = m) : Frame m s (State.gatePower u) = Frame m s u := by
  refine Frame.last (m := 4194304) ?_ h
  unfold State.gatePower
  simp
@[simp] theorem State.islandImage_frame {m : Nat} {s u : State} {a0 : SafetyDesc} {a1 : Bool} (h : 14856204 ||| m = m) : Frame m s (State.islandImage a0 a1 u) = Frame m s u := by
  refine Frame.last (m := 14856204) ?_ h
  unfold State.islandImage
  simp [↓Frame.ite]
@[simp] theorem State.startupClear_frame {m : Nat} {s u : State} (h : 4194304 ||| m = m) : Frame m s (State.startupClear u) = Frame m s u := by
  refine Frame.last (m := 4194304) ?_ h
  unfold State.startupClear
  simp

/-! ## Modes -/

@[simp] theorem State.onCnt_frame {m : Nat} {s u : State} {a0 : ModeCnt → ModeCnt} (h : 262144 ||| m = m) : Frame m s (State.onCnt a0 u) = Frame m s u := by
  refine Frame.last (m := 262144) ?_ h
  unfold State.onCnt
  simp
@[simp] theorem State.onSp_frame {m : Nat} {s u : State} {a0 : Nat} {a1 : Sp → Sp} (h : 262144 ||| m = m) : Frame m s (State.onSp a0 a1 u) = Frame m s u := by
  refine Frame.last (m := 262144) ?_ h
  unfold State.onSp
  simp
@[simp] theorem State.subTo_frame {m : Nat} {s u : State} {a0 : Nat} (h : 262144 ||| m = m) : Frame m s (State.subTo a0 u) = Frame m s u := by
  refine Frame.last (m := 262144) ?_ h
  unfold State.subTo
  simp
@[simp] theorem State.modeEvt_frame {m : Nat} {s u : State} {a0 : Nat} (h : 262144 ||| m = m) : Frame m s (State.modeEvt a0 u) = Frame m s u := by
  refine Frame.last (m := 262144) ?_ h
  unfold State.modeEvt
  simp
@[simp] theorem State.targetTo_frame {m : Nat} {s u : State} {a0 : Nat} (h : 262144 ||| m = m) : Frame m s (State.targetTo a0 u) = Frame m s u := by
  refine Frame.last (m := 262144) ?_ h
  unfold State.targetTo
  simp
@[simp] theorem State.spStart_frame {m : Nat} {s u : State} {a0 : Bool} {a1 : Nat} {a2 : Word} (h : 262144 ||| m = m) : Frame m s (State.spStart a0 a1 a2 u) = Frame m s u := by
  refine Frame.last (m := 262144) ?_ h
  unfold State.spStart
  simp
@[simp] theorem State.spCmd_frame {m : Nat} {s u : State} {a0 : Nat} {a1 : Word} (h : 262144 ||| m = m) : Frame m s (State.spCmd a0 a1 u) = Frame m s u := by
  refine Frame.last (m := 262144) ?_ h
  unfold State.spCmd
  simp
@[simp] theorem State.spLock_frame {m : Nat} {s u : State} {a0 : Nat} (h : 262144 ||| m = m) : Frame m s (State.spLock a0 u) = Frame m s u := by
  refine Frame.last (m := 262144) ?_ h
  unfold State.spLock
  simp
@[simp] theorem State.spsUnlock_frame {m : Nat} {s u : State} (h : 262144 ||| m = m) : Frame m s (State.spsUnlock u) = Frame m s u := by
  refine Frame.last (m := 262144) ?_ h
  unfold State.spsUnlock
  simp
@[simp] theorem State.limiters_frame {m : Nat} {s u : State} (h : 262144 ||| m = m) : Frame m s (State.limiters u) = Frame m s u := by
  refine Frame.last (m := 262144) ?_ h
  unfold State.limiters
  repeat' (first | (simp [↓Frame.ite]; done) | split | (refine ⟨fun _ => ?_, fun _ => ?_⟩) | (intro _) | (refine Eq.mpr (Frame.each ?_) ?_) | (refine Eq.mpr (State.laneStep_frame ?_ rfl) ?_) | (refine Eq.mpr (State.healthStep_frame ?_ rfl) ?_) | simp [↓Frame.ite])
@[simp] theorem State.factors_frame {m : Nat} {s u : State} (h : 262144 ||| m = m) : Frame m s (State.factors u) = Frame m s u := by
  refine Frame.last (m := 262144) ?_ h
  unfold State.factors
  simp
@[simp] theorem State.precharge_frame {m : Nat} {s u : State} {a0 : Nat} (h : 1947780 ||| m = m) : Frame m s (State.precharge a0 u) = Frame m s u := by
  refine Frame.last (m := 1947780) ?_ h
  unfold State.precharge
  simp
@[simp] theorem State.j5Wait_frame {m : Nat} {s u : State} (h : 4096 ||| m = m) : Frame m s (State.j5Wait u) = Frame m s u := by
  refine Frame.last (m := 4096) ?_ h
  unfold State.j5Wait
  simp
@[simp] theorem State.preTake_frame {m : Nat} {s u : State} (h : 262144 ||| m = m) : Frame m s (State.preTake u) = Frame m s u := by
  refine Frame.last (m := 262144) ?_ h
  unfold State.preTake
  simp
@[simp] theorem State.offClears_frame {m : Nat} {s u : State} (h : 262144 ||| m = m) : Frame m s (State.offClears u) = Frame m s u := by
  refine Frame.last (m := 262144) ?_ h
  unfold State.offClears
  simp
@[simp] theorem State.offBenches_frame {m : Nat} {s u : State} (h : 32768 ||| m = m) : Frame m s (State.offBenches u) = Frame m s u := by
  refine Frame.last (m := 32768) ?_ h
  unfold State.offBenches
  simp [↓Frame.ite]
@[simp] theorem State.transfer_frame {m : Nat} {s u : State} {a0 : Bool} {a1 : Nat} (h : 1947788 ||| m = m) : Frame m s (State.transfer a0 a1 u) = Frame m s u := by
  refine Frame.last (m := 1947788) ?_ h
  unfold State.transfer
  repeat' (first | (simp [↓Frame.ite]; done) | split | (refine ⟨fun _ => ?_, fun _ => ?_⟩) | (intro _) | (refine Eq.mpr (Frame.each ?_) ?_) | (refine Eq.mpr (State.laneStep_frame ?_ rfl) ?_) | (refine Eq.mpr (State.healthStep_frame ?_ rfl) ?_) | simp [↓Frame.ite])
@[simp] theorem State.setMode_frame {m : Nat} {s u : State} {a0 : Bool} {a1 : Nat} (h : 29359788 ||| m = m) : Frame m s (State.setMode a0 a1 u) = Frame m s u := by
  refine Frame.last (m := 29359788) ?_ h
  unfold State.setMode
  simp [↓Frame.ite]
@[simp] theorem State.startRun_frame {m : Nat} {s u : State} (h : 1947780 ||| m = m) : Frame m s (State.startRun u) = Frame m s u := by
  refine Frame.last (m := 1947780) ?_ h
  unfold State.startRun
  repeat' (first | (simp [↓Frame.ite]; done) | split | (refine ⟨fun _ => ?_, fun _ => ?_⟩) | (intro _) | (refine Eq.mpr (Frame.each ?_) ?_) | (refine Eq.mpr (State.laneStep_frame ?_ rfl) ?_) | (refine Eq.mpr (State.healthStep_frame ?_ rfl) ?_) | simp [↓Frame.ite])
@[simp] theorem State.counts_frame {m : Nat} {s u : State} (h : 262144 ||| m = m) : Frame m s (State.counts u) = Frame m s u := by
  refine Frame.last (m := 262144) ?_ h
  unfold State.counts
  simp
@[simp] theorem State.fbLatch_frame {m : Nat} {s u : State} (h : 262144 ||| m = m) : Frame m s (State.fbLatch u) = Frame m s u := by
  refine Frame.last (m := 262144) ?_ h
  unfold State.fbLatch
  simp
@[simp] theorem State.fbInit_frame {m : Nat} {s u : State} (h : 262144 ||| m = m) : Frame m s (State.fbInit u) = Frame m s u := by
  refine Frame.last (m := 262144) ?_ h
  unfold State.fbInit
  simp
@[simp] theorem State.modeCmd_frame {m : Nat} {s u : State} {a0 : ModeCmd} (h : 29359788 ||| m = m) : Frame m s (State.modeCmd a0 u) = Frame m s u := by
  refine Frame.last (m := 29359788) ?_ h
  unfold State.modeCmd
  (repeat' split) <;> simp
@[simp] theorem State.takeCmds_frame {m : Nat} {s u : State} (h : 29359788 ||| m = m) : Frame m s (State.takeCmds u) = Frame m s u := by
  refine Frame.last (m := 29359788) ?_ h
  unfold State.takeCmds
  simp
@[simp] theorem State.enterLowest_frame {m : Nat} {s u : State} {a0 : List (Nat × Nat)} (h : 29343404 ||| m = m) : Frame m s (State.enterLowest a0 u) = Frame m s u := by
  refine Frame.last (m := 29343404) ?_ h
  unfold State.enterLowest
  (repeat' split) <;> simp [↓Frame.ite]
@[simp] theorem State.takeCauses_frame {m : Nat} {s u : State} (h : 29343404 ||| m = m) : Frame m s (State.takeCauses u) = Frame m s u := by
  refine Frame.last (m := 29343404) ?_ h
  unfold State.takeCauses
  simp [↓Frame.ite]
@[simp] theorem State.driveCoast_frame {m : Nat} {s u : State} (h : 262144 ||| m = m) : Frame m s (State.driveCoast u) = Frame m s u := by
  refine Frame.last (m := 262144) ?_ h
  unfold State.driveCoast
  simp [↓Frame.ite]
@[simp] theorem State.maintain_frame {m : Nat} {s u : State} (h : 1947780 ||| m = m) : Frame m s (State.maintain u) = Frame m s u := by
  refine Frame.last (m := 1947780) ?_ h
  unfold State.maintain
  (repeat' split) <;> simp [↓Frame.ite]
@[simp] theorem State.shown_frame {m : Nat} {s u : State} (h : 262144 ||| m = m) : Frame m s (State.shown u) = Frame m s u := by
  refine Frame.last (m := 262144) ?_ h
  unfold State.shown
  simp
@[simp] theorem State.modeLatch_frame {m : Nat} {s u : State} (h : 29359788 ||| m = m) : Frame m s (State.modeLatch u) = Frame m s u := by
  refine Frame.last (m := 29359788) ?_ h
  unfold State.modeLatch
  simp [↓Frame.ite]
@[simp] theorem State.lossTake_frame {m : Nat} {s u : State} (h : 29359788 ||| m = m) : Frame m s (State.lossTake u) = Frame m s u := by
  refine Frame.last (m := 29359788) ?_ h
  unfold State.lossTake
  simp [↓Frame.ite]
@[simp] theorem State.fbCritical_frame {m : Nat} {s u : State} {a0 : Nat} {a1 : Nat} (h : 29343404 ||| m = m) : Frame m s (State.fbCritical a0 a1 u) = Frame m s u := by
  refine Frame.last (m := 29343404) ?_ h
  unfold State.fbCritical
  simp
@[simp] theorem State.fbTake_frame {m : Nat} {s u : State} {a0 : Nat} {a1 : Nat} (h : 29343404 ||| m = m) : Frame m s (State.fbTake a0 a1 u) = Frame m s u := by
  refine Frame.last (m := 29343404) ?_ h
  unfold State.fbTake
  repeat' (first | (simp [↓Frame.ite]; done) | split | (refine ⟨fun _ => ?_, fun _ => ?_⟩) | (intro _) | (refine Eq.mpr (Frame.each ?_) ?_) | (refine Eq.mpr (State.laneStep_frame ?_ rfl) ?_) | (refine Eq.mpr (State.healthStep_frame ?_ rfl) ?_) | simp [↓Frame.ite])
@[simp] theorem State.ovlBegin_frame {m : Nat} {s u : State} {a0 : Nat} {a1 : Nat} (h : 2633728 ||| m = m) : Frame m s (State.ovlBegin a0 a1 u) = Frame m s u := by
  refine Frame.last (m := 2633728) ?_ h
  unfold State.ovlBegin
  simp [↓Frame.ite]

/-! ## Period -/

@[simp] theorem State.healthPut_frame {m : Nat} {s u : State} {a0 : Nat} {a1 : Bool} (h : 16777216 ||| m = m) : Frame m s (State.healthPut a0 a1 u) = Frame m s u := by
  refine Frame.last (m := 16777216) ?_ h
  unfold State.healthPut
  simp
@[simp] theorem State.healthStep_frame {m : Nat} {s u : State} {f : State → State} (hf : ∀ v, Frame m v (f v)) (h : 16908288 ||| m = m) :
    Frame m s (State.healthStep f u) = Frame m s u := by
  have hl : ∀ v w, Frame m v (f w) = Frame m v w := fun v w => Frame.last (hf w) (Nat.or_self m)
  have hs : ∀ k, k ||| 16908288 = 16908288 → k ||| m = m := fun k e => Mask.sub h e
  refine Frame.last (m := m) ?_ (Nat.or_self m)
  unfold State.healthStep
  simp [↓Frame.ite, hl, hs]
@[simp] theorem State.pathsCheck_frame {m : Nat} {s u : State} (h : 16777216 ||| m = m) : Frame m s (State.pathsCheck u) = Frame m s u := by
  refine Frame.last (m := 16777216) ?_ h
  unfold State.pathsCheck
  (repeat' split) <;> simp
@[simp] theorem State.healthLatch_frame {m : Nat} {s u : State} (h : 16908288 ||| m = m) : Frame m s (State.healthLatch u) = Frame m s u := by
  refine Frame.last (m := 16908288) ?_ h
  unfold State.healthLatch
  simp [↓Frame.ite]
@[simp] theorem State.periodTick_frame {m : Nat} {s u : State} (h : 4227072 ||| m = m) : Frame m s (State.periodTick u) = Frame m s u := by
  refine Frame.last (m := 4227072) ?_ h
  unfold State.periodTick
  simp
@[simp] theorem State.latch_frame {m : Nat} {s u : State} (h : 33554092 ||| m = m) : Frame m s (State.latch u) = Frame m s u := by
  refine Frame.last (m := 33554092) ?_ h
  unfold State.latch
  simp [↓Frame.ite]
@[simp] theorem State.outPhase_frame {m : Nat} {s u : State} (h : 8511500 ||| m = m) : Frame m s (State.outPhase u) = Frame m s u := by
  refine Frame.last (m := 8511500) ?_ h
  unfold State.outPhase
  simp [↓Frame.ite]

end Sys2Proof.Machine
end

