-- ==== Sys2Proof/Laws/FrameSystem.lean ====
section
/-! SUPPORT. What the operations of the image, power, mesh and pair may touch. -/
namespace Sys2Proof.Machine
set_option linter.all false

/-! ## Image -/

@[simp] theorem State.putSlot_frame {m : Nat} {s u : State} {a0 : Nat} {a1 : List Host.Cell} (h : 256 ||| m = m) : Frame m s (State.putSlot a0 a1 u) = Frame m s u := by
  refine Frame.last (m := 256) ?_ h
  unfold State.putSlot
  simp
@[simp] theorem State.imgSts_frame {m : Nat} {s u : State} {a0 : Img → Img} (h : 256 ||| m = m) : Frame m s (State.imgSts a0 u) = Frame m s u := by
  refine Frame.last (m := 256) ?_ h
  unfold State.imgSts
  simp
@[simp] theorem State.imgIrq_frame {m : Nat} {s u : State} (h : 256 ||| m = m) : Frame m s (State.imgIrq u) = Frame m s u := by
  refine Frame.last (m := 256) ?_ h
  unfold State.imgIrq
  simp
@[simp] theorem State.slotSt_frame {m : Nat} {s u : State} {a0 : Nat} {a1 : Nat} (h : 256 ||| m = m) : Frame m s (State.slotSt a0 a1 u) = Frame m s u := by
  refine Frame.last (m := 256) ?_ h
  unfold State.slotSt
  simp
@[simp] theorem State.imgReason_frame {m : Nat} {s u : State} {a0 : Option Image.Bad} (h : 256 ||| m = m) : Frame m s (State.imgReason a0 u) = Frame m s u := by
  refine Frame.last (m := 256) ?_ h
  unfold State.imgReason
  simp
@[simp] theorem State.armStops_frame {m : Nat} {s u : State} (h : 256 ||| m = m) : Frame m s (State.armStops u) = Frame m s u := by
  refine Frame.last (m := 256) ?_ h
  unfold State.armStops
  (repeat' split) <;> simp
@[simp] theorem State.swapEnds_frame {m : Nat} {s u : State} {a0 : Nat} {a1 : Nat} (h : 256 ||| m = m) : Frame m s (State.swapEnds a0 a1 u) = Frame m s u := by
  refine Frame.last (m := 256) ?_ h
  unfold State.swapEnds
  simp
@[simp] theorem State.swapCancel_frame {m : Nat} {s u : State} {a0 : Nat} (h : 256 ||| m = m) : Frame m s (State.swapCancel a0 u) = Frame m s u := by
  refine Frame.last (m := 256) ?_ h
  unfold State.swapCancel
  simp [↓Frame.ite]
@[simp] theorem State.valAbandon_frame {m : Nat} {s u : State} (h : 256 ||| m = m) : Frame m s (State.valAbandon u) = Frame m s u := by
  refine Frame.last (m := 256) ?_ h
  unfold State.valAbandon
  (repeat' split) <;> simp
@[simp] theorem State.gopDiscard_frame {m : Nat} {s u : State} (h : 8914572 ||| m = m) : Frame m s (State.gopDiscard u) = Frame m s u := by
  refine Frame.last (m := 8914572) ?_ h
  unfold State.gopDiscard
  simp [↓Frame.ite]
@[simp] theorem State.pairWaiting_frame {m : Nat} {s u : State} (h : 25167372 ||| m = m) : Frame m s (State.pairWaiting u) = Frame m s u := by
  refine Frame.last (m := 25167372) ?_ h
  unfold State.pairWaiting
  simp
@[simp] theorem State.modeGone_frame {m : Nat} {s u : State} (h : 1947780 ||| m = m) : Frame m s (State.modeGone u) = Frame m s u := by
  refine Frame.last (m := 1947780) ?_ h
  unfold State.modeGone
  simp
@[simp] theorem State.controlGone_frame {m : Nat} {s u : State} (h : 122912 ||| m = m) : Frame m s (State.controlGone u) = Frame m s u := by
  refine Frame.last (m := 122912) ?_ h
  unfold State.controlGone
  simp
@[simp] theorem State.hostTiming_frame {m : Nat} {s u : State} {a0 : HostPolicy} (h : 512 ||| m = m) : Frame m s (State.hostTiming a0 u) = Frame m s u := by
  refine Frame.last (m := 512) ?_ h
  unfold State.hostTiming
  simp
@[simp] theorem State.imageDrop_frame {m : Nat} {s u : State} (h : 33554348 ||| m = m) : Frame m s (State.imageDrop u) = Frame m s u := by
  refine Frame.last (m := 33554348) ?_ h
  unfold State.imageDrop
  simp
@[simp] theorem State.hostWait_frame {m : Nat} {s u : State} {a0 : Nat} (h : 33554412 ||| m = m) : Frame m s (State.hostWait a0 u) = Frame m s u := by
  refine Frame.last (m := 33554412) ?_ h
  unfold State.hostWait
  simp [↓Frame.ite]
@[simp] theorem State.policy_frame {m : Nat} {s u : State} {a0 : HostPolicy} (h : 131584 ||| m = m) : Frame m s (State.policy a0 u) = Frame m s u := by
  refine Frame.last (m := 131584) ?_ h
  unfold State.policy
  simp
@[simp] theorem State.imageRecord_frame {m : Nat} {s u : State} {a0 : Bytes} {a1 : Nat} {a2 : Nat} {a3 : Bool} (h : 4326400 ||| m = m) : Frame m s (State.imageRecord a0 a1 a2 a3 u) = Frame m s u := by
  refine Frame.last (m := 4326400) ?_ h
  unfold State.imageRecord
  simp [↓Frame.ite]
@[simp] theorem State.groupsInit_frame {m : Nat} {s u : State} (h : 8192 ||| m = m) : Frame m s (State.groupsInit u) = Frame m s u := by
  refine Frame.last (m := 8192) ?_ h
  unfold State.groupsInit
  simp
@[simp] theorem State.adcImage_frame {m : Nat} {s u : State} {a0 : Bool} (h : 1048576 ||| m = m) : Frame m s (State.adcImage a0 u) = Frame m s u := by
  refine Frame.last (m := 1048576) ?_ h
  unfold State.adcImage
  simp [↓Frame.ite]
@[simp] theorem State.bringInForce_frame {m : Nat} {s u : State} {a0 : ImgDesc} {a1 : Bytes} {a2 : Nat} {a3 : Bool} (h : 33554414 ||| m = m) : Frame m s (State.bringInForce a0 a1 a2 a3 u) = Frame m s u := by
  refine Frame.last (m := 33554414) ?_ h
  unfold State.bringInForce
  simp [↓Frame.ite]
@[simp] theorem State.bootStart_frame {m : Nat} {s u : State} {a0 : Nat} {a1 : Bool} (h : 256 ||| m = m) : Frame m s (State.bootStart a0 a1 u) = Frame m s u := by
  refine Frame.last (m := 256) ?_ h
  unfold State.bootStart
  simp
@[simp] theorem State.lanesBack_frame {m : Nat} {s u : State} (h : 2052 ||| m = m) : Frame m s (State.lanesBack u) = Frame m s u := by
  refine Frame.last (m := 2052) ?_ h
  unfold State.lanesBack
  (repeat' split) <;> simp
@[simp] theorem State.reloadEnd_frame {m : Nat} {s u : State} (h : 1088 ||| m = m) : Frame m s (State.reloadEnd u) = Frame m s u := by
  refine Frame.last (m := 1088) ?_ h
  unfold State.reloadEnd
  simp
@[simp] theorem State.valEnds_frame {m : Nat} {s u : State} {a0 : Val} {a1 : ImgDesc} {a2 : Bytes} {a3 : Option Image.Bad} (h : 33554414 ||| m = m) : Frame m s (State.valEnds a0 a1 a2 a3 u) = Frame m s u := by
  refine Frame.last (m := 33554414) ?_ h
  unfold State.valEnds
  simp [↓Frame.ite]
@[simp] theorem State.valStep_frame {m : Nat} {s u : State} {a0 : ImgDesc} (h : 33554414 ||| m = m) : Frame m s (State.valStep a0 u) = Frame m s u := by
  refine Frame.last (m := 33554414) ?_ h
  unfold State.valStep
  repeat' (first | (simp [↓Frame.ite]; done) | split | (refine ⟨fun _ => ?_, fun _ => ?_⟩) | (intro _) | (refine Eq.mpr (Frame.each ?_) ?_) | (refine Eq.mpr (State.laneStep_frame ?_ rfl) ?_) | (refine Eq.mpr (State.healthStep_frame ?_ rfl) ?_) | simp [↓Frame.ite])
@[simp] theorem State.slotMoved_frame {m : Nat} {s u : State} {a0 : Nat} (h : 256 ||| m = m) : Frame m s (State.slotMoved a0 u) = Frame m s u := by
  refine Frame.last (m := 256) ?_ h
  unfold State.slotMoved
  simp
@[simp] theorem State.traceDrop_frame {m : Nat} {s u : State} (h : 32768 ||| m = m) : Frame m s (State.traceDrop u) = Frame m s u := by
  refine Frame.last (m := 32768) ?_ h
  unfold State.traceDrop
  simp
@[simp] theorem State.armEnds_frame {m : Nat} {s u : State} {a0 : ImgDesc} (h : 256 ||| m = m) : Frame m s (State.armEnds a0 u) = Frame m s u := by
  refine Frame.last (m := 256) ?_ h
  unfold State.armEnds
  repeat' (first | (simp [↓Frame.ite]; done) | split | (refine ⟨fun _ => ?_, fun _ => ?_⟩) | (intro _) | (refine Eq.mpr (Frame.each ?_) ?_) | (refine Eq.mpr (State.laneStep_frame ?_ rfl) ?_) | (refine Eq.mpr (State.healthStep_frame ?_ rfl) ?_) | simp [↓Frame.ite])
@[simp] theorem State.swapTrims_frame {m : Nat} {s u : State} {a0 : CalDecl} {a1 : CalDecl} (h : 1048704 ||| m = m) : Frame m s (State.swapTrims a0 a1 u) = Frame m s u := by
  refine Frame.last (m := 1048704) ?_ h
  unfold State.swapTrims
  simp
@[simp] theorem State.swapTake_frame {m : Nat} {s u : State} {a0 : Cand} (h : 5377920 ||| m = m) : Frame m s (State.swapTake a0 u) = Frame m s u := by
  refine Frame.last (m := 5377920) ?_ h
  unfold State.swapTake
  simp [↓Frame.ite]
@[simp] theorem State.setBank_frame {m : Nat} {s u : State} {a0 : Nat} {a1 : Bool} (h : 131072 ||| m = m) : Frame m s (State.setBank a0 a1 u) = Frame m s u := by
  refine Frame.last (m := 131072) ?_ h
  unfold State.setBank
  simp
@[simp] theorem State.fwTo_frame {m : Nat} {s u : State} {a0 : Nat} (h : 256 ||| m = m) : Frame m s (State.fwTo a0 u) = Frame m s u := by
  refine Frame.last (m := 256) ?_ h
  unfold State.fwTo
  simp
@[simp] theorem State.fwFailed_frame {m : Nat} {s u : State} (h : 264 ||| m = m) : Frame m s (State.fwFailed u) = Frame m s u := by
  refine Frame.last (m := 264) ?_ h
  unfold State.fwFailed
  simp
@[simp] theorem fwDeny_frame {m : Nat} {s u : State} {a0 : RecHdr} {a1 : Refuse} (h : 256 ||| m = m) : Frame m s (fwDeny a0 a1 u) = Frame m s u := by
  refine Frame.last (m := 256) ?_ h
  unfold fwDeny
  simp [↓Frame.ite]

/-! ## Power -/

/-- Every part but time, free values, the queue and the fuses; the key stays one that was fused. -/
@[simp] theorem State.volatileLost_frame {m : Nat} {s u : State} {k : Bool} (h : 369098726 ||| m = m) : Frame m s (State.volatileLost k u) = Frame m s u :=
  Frame.last (m := 369098726) ⟨fun p q => by
    cases p <;> first
      | rfl
      | (cases q; done)
      | (show (!(u.sys.keySet || u.sys.fused.isSome) || u.sys.fused.isSome) = (!u.sys.keySet || u.sys.fused.isSome)
         cases u.sys.keySet <;> cases u.sys.fused.isSome <;> rfl)⟩ h
@[simp] theorem State.powerReset_frame {m : Nat} {s u : State} {a0 : Nat} {a1 : Bool} {a2 : Bool} (h : 369098726 ||| m = m) : Frame m s (State.powerReset a0 a1 a2 u) = Frame m s u := by
  refine Frame.last (m := 369098726) ?_ h
  unfold State.powerReset
  simp
@[simp] theorem State.powerUp_frame {m : Nat} {s u : State} (h : 132160 ||| m = m) : Frame m s (State.powerUp u) = Frame m s u := by
  refine Frame.last (m := 132160) ?_ h
  unfold State.powerUp
  simp
@[simp] theorem State.imgWarm_frame {m : Nat} {s u : State} (h : 256 ||| m = m) : Frame m s (State.imgWarm u) = Frame m s u := by
  refine Frame.last (m := 256) ?_ h
  unfold State.imgWarm
  simp [↓Frame.ite]
@[simp] theorem State.seamWarm_frame {m : Nat} {s u : State} (h : 4096 ||| m = m) : Frame m s (State.seamWarm u) = Frame m s u := by
  refine Frame.last (m := 4096) ?_ h
  unfold State.seamWarm
  simp
@[simp] theorem State.edgWarm_frame {m : Nat} {s u : State} (h : 8192 ||| m = m) : Frame m s (State.edgWarm u) = Frame m s u := by
  refine Frame.last (m := 8192) ?_ h
  unfold State.edgWarm
  simp
@[simp] theorem State.traceStopped_frame {m : Nat} {s u : State} (h : 32768 ||| m = m) : Frame m s (State.traceStopped u) = Frame m s u := by
  refine Frame.last (m := 32768) ?_ h
  unfold State.traceStopped
  simp
@[simp] theorem State.balWarm_frame {m : Nat} {s u : State} (h : 65536 ||| m = m) : Frame m s (State.balWarm u) = Frame m s u := by
  refine Frame.last (m := 65536) ?_ h
  unfold State.balWarm
  simp
@[simp] theorem State.modeWarm_frame {m : Nat} {s u : State} (h : 786432 ||| m = m) : Frame m s (State.modeWarm u) = Frame m s u := by
  refine Frame.last (m := 786432) ?_ h
  unfold State.modeWarm
  simp
@[simp] theorem State.cmpWarm_frame {m : Nat} {s u : State} (h : 2097152 ||| m = m) : Frame m s (State.cmpWarm u) = Frame m s u := by
  refine Frame.last (m := 2097152) ?_ h
  unfold State.cmpWarm
  simp
@[simp] theorem State.meshWarm_frame {m : Nat} {s u : State} (h : 8914572 ||| m = m) : Frame m s (State.meshWarm u) = Frame m s u := by
  refine Frame.last (m := 8914572) ?_ h
  unfold State.meshWarm
  simp
@[simp] theorem State.hostWarm_frame {m : Nat} {s u : State} (h : 512 ||| m = m) : Frame m s (State.hostWarm u) = Frame m s u := by
  refine Frame.last (m := 512) ?_ h
  unfold State.hostWarm
  simp
@[simp] theorem State.warmStart_frame {m : Nat} {s u : State} {src : Src} (h : 33538028 ||| m = m) : Frame m s (State.warmStart src u) = Frame m s u := by
  refine Frame.last (m := 33538028) ?_ h
  unfold State.warmStart
  extract_lets s1 s2 s3 s4 s5 s6
  have h1 : Frame 33538028 u s1 := by simp [s1]
  have h2 : Frame 33538028 u s2 := Frame.ite.mpr ⟨fun _ => h1, fun _ => by simp [h1]⟩
  clear_value s2
  have h3 : Frame 33538028 u s3 := by simp [s3, h2]
  clear_value s3
  have h4 : Frame 33538028 u s4 := by simp [s4, h3]
  clear_value s4
  have h5 : Frame 33538028 u s5 := by simp [s5, h4]
  clear_value s5
  have h6 : Frame 33538028 u s6 := by simp [s6, h5]
  clear_value s6
  simp [h6]
@[simp] theorem State.tripAgain_frame {m : Nat} {s u : State} {a0 : Nat} (h : 4100 ||| m = m) : Frame m s (State.tripAgain a0 u) = Frame m s u := by
  refine Frame.last (m := 4100) ?_ h
  unfold State.tripAgain
  simp [↓Frame.ite]
@[simp] theorem State.warmEnd_frame {m : Nat} {s u : State} (h : 18887780 ||| m = m) : Frame m s (State.warmEnd u) = Frame m s u := by
  refine Frame.last (m := 18887780) ?_ h
  unfold State.warmEnd
  simp [↓Frame.ite]
@[simp] theorem State.reloadStart_frame {m : Nat} {s u : State} {a0 : Src} (h : 33554412 ||| m = m) : Frame m s (State.reloadStart a0 u) = Frame m s u := by
  refine Frame.last (m := 33554412) ?_ h
  unfold State.reloadStart
  simp
@[simp] theorem State.softBlock_frame {m : Nat} {s u : State} {a0 : Nat} (h : 29343372 ||| m = m) : Frame m s (State.softBlock a0 u) = Frame m s u := by
  refine Frame.last (m := 29343372) ?_ h
  unfold State.softBlock
  repeat' (first | (simp [↓Frame.ite]; done) | split | (refine ⟨fun _ => ?_, fun _ => ?_⟩) | (intro _) | (refine Eq.mpr (Frame.each ?_) ?_) | (refine Eq.mpr (State.laneStep_frame ?_ rfl) ?_) | (refine Eq.mpr (State.healthStep_frame ?_ rfl) ?_) | simp [↓Frame.ite])
@[simp] theorem State.softStart_frame {m : Nat} {s u : State} {a0 : Src} {a1 : Nat} (h : 29343436 ||| m = m) : Frame m s (State.softStart a0 a1 u) = Frame m s u := by
  refine Frame.last (m := 29343436) ?_ h
  unfold State.softStart
  simp
@[simp] theorem State.idleDown_frame {m : Nat} {s u : State} (h : 1081408 ||| m = m) : Frame m s (State.idleDown u) = Frame m s u := by
  refine Frame.last (m := 1081408) ?_ h
  unfold State.idleDown
  simp
@[simp] theorem State.idleUp_frame {m : Nat} {s u : State} (h : 1081408 ||| m = m) : Frame m s (State.idleUp u) = Frame m s u := by
  refine Frame.last (m := 1081408) ?_ h
  unfold State.idleUp
  simp [↓Frame.ite]
@[simp] theorem State.dozeDown_frame {m : Nat} {s u : State} (h : 6148 ||| m = m) : Frame m s (State.dozeDown u) = Frame m s u := by
  refine Frame.last (m := 6148) ?_ h
  unfold State.dozeDown
  repeat' (first | (simp [↓Frame.ite]; done) | split | (refine ⟨fun _ => ?_, fun _ => ?_⟩) | (intro _) | (refine Eq.mpr (Frame.each ?_) ?_) | (refine Eq.mpr (State.laneStep_frame ?_ rfl) ?_) | (refine Eq.mpr (State.healthStep_frame ?_ rfl) ?_) | simp [↓Frame.ite])
@[simp] theorem State.dozeUp_frame {m : Nat} {s u : State} (h : 2048 ||| m = m) : Frame m s (State.dozeUp u) = Frame m s u := by
  refine Frame.last (m := 2048) ?_ h
  unfold State.dozeUp
  simp
@[simp] theorem State.goPark_frame {m : Nat} {s u : State} {a0 : Nat} (h : 369098726 ||| m = m) : Frame m s (State.goPark a0 u) = Frame m s u := by
  refine Frame.last (m := 369098726) ?_ h
  unfold State.goPark
  simp
@[simp] theorem State.parkRecord_frame {m : Nat} {s u : State} (h : 131080 ||| m = m) : Frame m s (State.parkRecord u) = Frame m s u := by
  refine Frame.last (m := 131080) ?_ h
  unfold State.parkRecord
  simp
@[simp] theorem State.goTo_frame {m : Nat} {s u : State} {a0 : Nat} (h : 369098734 ||| m = m) : Frame m s (State.goTo a0 u) = Frame m s u := by
  refine Frame.last (m := 369098734) ?_ h
  unfold State.goTo
  simp [↓Frame.ite]
@[simp] theorem State.pwrRefuse_frame {m : Nat} {s u : State} {a0 : Src} {a1 : Nat} {a2 : Nat} {a3 : Nat} (h : 576 ||| m = m) : Frame m s (State.pwrRefuse a0 a1 a2 a3 u) = Frame m s u := by
  refine Frame.last (m := 576) ?_ h
  unfold State.pwrRefuse
  simp
@[simp] theorem State.ctlWrite_frame {m : Nat} {s u : State} {a0 : Src} {a1 : Word} (h : 369098734 ||| m = m) : Frame m s (State.ctlWrite a0 a1 u) = Frame m s u := by
  refine Frame.last (m := 369098734) ?_ h
  unfold State.ctlWrite
  simp [↓Frame.ite]
@[simp] theorem State.softWrite_frame {m : Nat} {s u : State} {a0 : Src} {a1 : Word} (h : 29343436 ||| m = m) : Frame m s (State.softWrite a0 a1 u) = Frame m s u := by
  refine Frame.last (m := 29343436) ?_ h
  unfold State.softWrite
  simp [↓Frame.ite]
@[simp] theorem State.pwrDirect_frame {m : Nat} {s u : State} {a0 : Iface} {a1 : Nat} {a2 : Word} (h : 369098734 ||| m = m) : Frame m s (State.pwrDirect a0 a1 a2 u) = Frame m s u := by
  refine Frame.last (m := 369098734) ?_ h
  unfold State.pwrDirect
  repeat' (first | (simp [↓Frame.ite]; done) | split | (refine ⟨fun _ => ?_, fun _ => ?_⟩) | (intro _) | (refine Eq.mpr (Frame.each ?_) ?_) | (refine Eq.mpr (State.laneStep_frame ?_ rfl) ?_) | (refine Eq.mpr (State.healthStep_frame ?_ rfl) ?_) | simp [↓Frame.ite])

/-! ## Mesh -/

@[simp] theorem State.portsPut_frame {m : Nat} {s u : State} {a0 : List Nat} {a1 : Nat} {a2 : MBody} (h : 8388612 ||| m = m) : Frame m s (State.portsPut a0 a1 a2 u) = Frame m s u := by
  refine Frame.last (m := 8388612) ?_ h
  unfold State.portsPut
  simp
@[simp] theorem State.takeStart_frame {m : Nat} {s u : State} (h : 16781316 ||| m = m) : Frame m s (State.takeStart u) = Frame m s u := by
  refine Frame.last (m := 16781316) ?_ h
  unfold State.takeStart
  simp
@[simp] theorem State.syncBegin_frame {m : Nat} {s u : State} (h : 16909824 ||| m = m) : Frame m s (State.syncBegin u) = Frame m s u := by
  refine Frame.last (m := 16909824) ?_ h
  unfold State.syncBegin
  simp
@[simp] theorem State.syncSend_frame {m : Nat} {s u : State} (h : 25166348 ||| m = m) : Frame m s (State.syncSend u) = Frame m s u := by
  refine Frame.last (m := 25166348) ?_ h
  unfold State.syncSend
  simp
@[simp] theorem State.discPartner_frame {m : Nat} {s u : State} {a0 : DiscData} (h : 25302540 ||| m = m) : Frame m s (State.discPartner a0 u) = Frame m s u := by
  refine Frame.last (m := 25302540) ?_ h
  unfold State.discPartner
  simp [↓Frame.ite]
@[simp] theorem State.discTake_frame {m : Nat} {s u : State} {a0 : Nat} {a1 : DiscData} (h : 25302540 ||| m = m) : Frame m s (State.discTake a0 a1 u) = Frame m s u := by
  refine Frame.last (m := 25302540) ?_ h
  unfold State.discTake
  simp [↓Frame.ite]
@[simp] theorem State.meshEpoch_frame {m : Nat} {s u : State} {f : State → State} {n e : Nat} (hf : ∀ v, Frame m v (f v)) (h : 25298444 ||| m = m) :
    Frame m s (State.meshEpoch n e f u) = Frame m s u := by
  have hl : ∀ v w, Frame m v (f w) = Frame m v w := fun v w => Frame.last (hf w) (Nat.or_self m)
  have hs : ∀ k, k ||| 25298444 = 25298444 → k ||| m = m := fun k e => Mask.sub h e
  refine Frame.last (m := m) ?_ (Nat.or_self m)
  unfold State.meshEpoch
  simp only []
  repeat' (first | (simp [↓Frame.ite, hl, hs]; done) | split | (with_reducible refine Frame.ite.mpr ⟨fun _ => ?_, fun _ => ?_⟩) | (refine ⟨fun _ => ?_, fun _ => ?_⟩) | (intro _) | (refine Eq.mpr (Frame.each ?_) ?_) | (with_reducible refine Eq.mpr (hl _ _) ?_) | simp [↓Frame.ite, hl, hs])
@[simp] theorem State.heard_frame {m : Nat} {s u : State} {a0 : Nat} (h : 8388608 ||| m = m) : Frame m s (State.heard a0 u) = Frame m s u := by
  refine Frame.last (m := 8388608) ?_ h
  unfold State.heard
  simp
@[simp] theorem State.dataIn_frame {m : Nat} {s u : State} {f : State → State} {n q : Nat} (hf : ∀ v, Frame m v (f v)) (h : 8388620 ||| m = m) :
    Frame m s (State.dataIn n q f u) = Frame m s u := by
  have hl : ∀ v w, Frame m v (f w) = Frame m v w := fun v w => Frame.last (hf w) (Nat.or_self m)
  have hs : ∀ k, k ||| 8388620 = 8388620 → k ||| m = m := fun k e => Mask.sub h e
  refine Frame.last (m := m) ?_ (Nat.or_self m)
  unfold State.dataIn
  simp [↓Frame.ite, hl, hs]
@[simp] theorem State.sendAgain_frame {m : Nat} {s u : State} {a0 : Nat} {a1 : List DFrame} (h : 8388620 ||| m = m) : Frame m s (State.sendAgain a0 a1 u) = Frame m s u := by
  refine Frame.last (m := 8388620) ?_ h
  unfold State.sendAgain
  simp
@[simp] theorem State.resend_frame {m : Nat} {s u : State} {a0 : Nat} (h : 25298444 ||| m = m) : Frame m s (State.resend a0 u) = Frame m s u := by
  refine Frame.last (m := 25298444) ?_ h
  unfold State.resend
  simp [↓Frame.ite]
@[simp] theorem State.linkChange_frame {m : Nat} {s u : State} {a0 : Nat} {a1 : Bool} (h : 8388608 ||| m = m) : Frame m s (State.linkChange a0 a1 u) = Frame m s u := by
  refine Frame.last (m := 8388608) ?_ h
  unfold State.linkChange
  simp
@[simp] theorem State.mirrorLost_frame {m : Nat} {s u : State} (h : 25297420 ||| m = m) : Frame m s (State.mirrorLost u) = Frame m s u := by
  refine Frame.last (m := 25297420) ?_ h
  unfold State.mirrorLost
  simp [↓Frame.ite]
@[simp] theorem State.portChange_frame {m : Nat} {s u : State} {a0 : Nat} (h : 25297420 ||| m = m) : Frame m s (State.portChange a0 u) = Frame m s u := by
  refine Frame.last (m := 25297420) ?_ h
  unfold State.portChange
  repeat' (first | (simp [↓Frame.ite]; done) | split | (refine ⟨fun _ => ?_, fun _ => ?_⟩) | (intro _) | (refine Eq.mpr (Frame.each ?_) ?_) | (refine Eq.mpr (State.laneStep_frame ?_ rfl) ?_) | (refine Eq.mpr (State.healthStep_frame ?_ rfl) ?_) | simp [↓Frame.ite])
@[simp] theorem State.wholeTicks_frame {m : Nat} {s u : State} {a b : Int} (h : 8 ||| m = m) : Frame m s (State.wholeTicks a b u).2 = Frame m s u := by
  refine Frame.last (m := 8) ?_ h
  unfold State.wholeTicks
  split <;> simp
@[simp] theorem State.steer_frame {m : Nat} {s u : State} {a0 : Int} (h : 130 ||| m = m) : Frame m s (State.steer a0 u) = Frame m s u := by
  refine Frame.last (m := 130) ?_ h
  unfold State.steer
  simp [↓Frame.ite]
@[simp] theorem State.timeTake1_frame {m : Nat} {s u : State} {p : Nat} {e : Int} (h : 8388610 ||| m = m) : Frame m s (State.timeTake1 p e u) = Frame m s u := by
  refine Frame.last (m := 8388610) ?_ h
  exact ⟨fun p q => by cases p <;> first | rfl | cases q⟩
@[simp] theorem State.meshTime_frame {m : Nat} {s u : State} {a0 : Nat} {a1 : Int} (h : 8388746 ||| m = m) : Frame m s (State.meshTime a0 a1 u) = Frame m s u := by
  refine Frame.last (m := 8388746) ?_ h
  unfold State.meshTime
  simp [↓Frame.ite]
@[simp] theorem State.pairTime_frame {m : Nat} {s u : State} {a0 : Int} (h : 16908426 ||| m = m) : Frame m s (State.pairTime a0 u) = Frame m s u := by
  refine Frame.last (m := 16908426) ?_ h
  unfold State.pairTime
  simp [↓Frame.ite]
@[simp] theorem State.timeTake_frame {m : Nat} {s u : State} {a0 : Nat} {a1 : Nat} {a2 : Nat} {a3 : Nat} {a4 : Nat} (h : 25297034 ||| m = m) : Frame m s (State.timeTake a0 a1 a2 a3 a4 u) = Frame m s u := by
  refine Frame.last (m := 25297034) ?_ h
  unfold State.timeTake
  repeat' (first | (simp [↓Frame.ite]; done) | split | (refine ⟨fun _ => ?_, fun _ => ?_⟩) | (intro _) | (refine Eq.mpr (Frame.each ?_) ?_) | (refine Eq.mpr (State.laneStep_frame ?_ rfl) ?_) | (refine Eq.mpr (State.healthStep_frame ?_ rfl) ?_) | simp [↓Frame.ite])
@[simp] theorem State.floodIn_frame {m : Nat} {s u : State} {a0 : Nat} {a1 : Nat} {a2 : Nat} (h : 10661900 ||| m = m) : Frame m s (State.floodIn a0 a1 a2 u) = Frame m s u := by
  refine Frame.last (m := 10661900) ?_ h
  unfold State.floodIn
  simp [↓Frame.ite]
@[simp] theorem State.symbolTake_frame {m : Nat} {s u : State} {f : Sym → State → State × Bool} {a b : Nat} {y : Sym} (hf : ∀ y v, Frame1 m v (f y v))
    (h : 8388612 ||| m = m) : Frame m s (State.symbolTake a b f y u) = Frame m s u := by
  have hl : ∀ y v w, Frame m v (f y w).1 = Frame m v w := fun y v w => Frame.last (hf y w) (Nat.or_self m)
  have hs : ∀ k, k ||| 8388612 = 8388612 → k ||| m = m := fun k e => Mask.sub h e
  refine Frame.last (m := m) ?_ (Nat.or_self m)
  unfold State.symbolTake
  simp only []
  refine Frame.ite.mpr ⟨fun _ => by simp, fun _ => ?_⟩
  refine Frame.ite.mpr ⟨fun _ => by simp [hs], fun _ => ?_⟩
  refine Frame.ite.mpr ⟨fun _ => ?_, fun _ => ?_⟩
  · refine Eq.mpr (State.sendSymbol_frame (hs _ rfl)) (Eq.mpr (hl _ _ _) ?_)
    simp [hs]
  · refine Eq.mpr (hl _ _ _) ?_
    simp [hs]
@[simp] theorem State.symbolIn_frame {m : Nat} {s u : State} {f : Sym → State → State × Bool} {n : Nat} {x : PortRx} (hf : ∀ y v, Frame1 m v (f y v))
    (h : 8388612 ||| m = m) : Frame m s (State.symbolIn n x f u) = Frame m s u := by
  refine Frame.last (m := m) ?_ (Nat.or_self m)
  unfold State.symbolIn
  refine Frame.ite.mpr ⟨fun _ => by simp, fun _ => ?_⟩
  exact Eq.mpr (Frame.each fun y v => Eq.mpr (State.symbolTake_frame hf h) (by simp)) (by simp)
theorem State.timed_frame {m : Nat} {u : State} {a : Nat} {f : State → State} (hf : ∀ v, Frame m v (f v)) : Frame1 m u (State.timed a f u) := by
  unfold State.timed
  exact Frame1.ite (fun _ => by simp) fun _ => hf u
theorem State.boundary_frame {m : Nat} {u : State} {a : Nat} {f : State → State} (hf : ∀ v, Frame m v (f v)) : Frame1 m u (State.boundary a f u) := by
  unfold State.boundary
  exact Frame1.ite (fun _ => hf u) fun _ => by simp
@[simp] theorem State.resetPlan_frame {m : Nat} {s u : State} {a0 : Sym} {a1 : Nat} (h : 8388608 ||| m = m) : Frame m s (State.resetPlan a0 a1 u) = Frame m s u := by
  refine Frame.last (m := 8388608) ?_ h
  unfold State.resetPlan
  simp
@[simp] theorem State.resetBlock_frame {m : Nat} {s u : State} {a0 : Sym} (h : 8388608 ||| m = m) : Frame m s (State.resetBlock a0 u) = Frame m s u := by
  refine Frame.last (m := 8388608) ?_ h
  unfold State.resetBlock
  simp
@[simp] theorem State.tloadVal_frame {m : Nat} {s u : State} {a0 : Sym} (h : 128 ||| m = m) : Frame m s (State.tloadVal a0 u) = Frame m s u := by
  refine Frame.last (m := 128) ?_ h
  unfold State.tloadVal
  (repeat' split) <;> simp
@[simp] theorem State.confirmed_frame {m : Nat} {s u : State} {a0 : Sym} (h : 8388608 ||| m = m) : Frame m s (State.confirmed a0 u) = Frame m s u := by
  refine Frame.last (m := 8388608) ?_ h
  unfold State.confirmed
  simp
@[simp] theorem State.windowEnd_frame {m : Nat} {s u : State} {a0 : Gop} (h : 8521228 ||| m = m) : Frame m s (State.windowEnd a0 u) = Frame m s u := by
  refine Frame.last (m := 8521228) ?_ h
  unfold State.windowEnd
  repeat' (first | (simp [↓Frame.ite]; done) | split | (refine ⟨fun _ => ?_, fun _ => ?_⟩) | (intro _) | (refine Eq.mpr (Frame.each ?_) ?_) | (refine Eq.mpr (State.laneStep_frame ?_ rfl) ?_) | (refine Eq.mpr (State.healthStep_frame ?_ rfl) ?_) | simp [↓Frame.ite])
@[simp] theorem State.barTry_frame {m : Nat} {s u : State} (h : 8388612 ||| m = m) : Frame m s (State.barTry u) = Frame m s u := by
  refine Frame.last (m := 8388612) ?_ h
  unfold State.barTry
  (repeat' split) <;> simp
@[simp] theorem State.barDone_frame {m : Nat} {s u : State} (h : 8390156 ||| m = m) : Frame m s (State.barDone u) = Frame m s u := by
  refine Frame.last (m := 8390156) ?_ h
  unfold State.barDone
  repeat' (first | (simp [↓Frame.ite]; done) | split | (refine ⟨fun _ => ?_, fun _ => ?_⟩) | (intro _) | (refine Eq.mpr (Frame.each ?_) ?_) | (refine Eq.mpr (State.laneStep_frame ?_ rfl) ?_) | (refine Eq.mpr (State.healthStep_frame ?_ rfl) ?_) | simp [↓Frame.ite])
@[simp] theorem State.barArrive_frame {m : Nat} {s u : State} {a0 : Sym} (h : 8390156 ||| m = m) : Frame m s (State.barArrive a0 u) = Frame m s u := by
  refine Frame.last (m := 8390156) ?_ h
  unfold State.barArrive
  simp [↓Frame.ite]
@[simp] theorem State.wordsIn_frame {m : Nat} {s u : State} {a0 : Nat} {a1 : List (Nat × Word)} (h : 32768 ||| m = m) : Frame m s (State.wordsIn a0 a1 u) = Frame m s u := by
  refine Frame.last (m := 32768) ?_ h
  unfold State.wordsIn
  simp
@[simp] theorem State.wordCommit_frame {m : Nat} {s u : State} {a0 : Nat} {a1 : Nat} {a2 : List (Nat × Word)} (h : 8192 ||| m = m) : Frame m s (State.wordCommit a0 a1 a2 u) = Frame m s u := by
  refine Frame.last (m := 8192) ?_ h
  unfold State.wordCommit
  simp [↓Frame.ite]

/-! ## Pair -/

@[simp] theorem State.healthLost_frame {m : Nat} {s u : State} {a0 : Nat} (h : 16908288 ||| m = m) : Frame m s (State.healthLost a0 u) = Frame m s u := by
  refine Frame.last (m := 16908288) ?_ h
  unfold State.healthLost
  simp
@[simp] theorem State.runCheck_frame {m : Nat} {s u : State} {a0 : Nat} {a1 : Bool} {a2 : List Bool} {a3 : Nat} (h : 16777216 ||| m = m) : Frame m s (State.runCheck a0 a1 a2 a3 u) = Frame m s u := by
  refine Frame.last (m := 16777216) ?_ h
  unfold State.runCheck
  simp [↓Frame.ite]
@[simp] theorem State.shadowEvent_frame {m : Nat} {s u : State} {a0 : Nat} {a1 : Nat} (h : 131072 ||| m = m) : Frame m s (State.shadowEvent a0 a1 u) = Frame m s u := by
  refine Frame.last (m := 131072) ?_ h
  unfold State.shadowEvent
  simp
@[simp] theorem State.shadowCheck_frame {m : Nat} {s u : State} {a0 : Option (Nat × Nat)} (h : 16908288 ||| m = m) : Frame m s (State.shadowCheck a0 u) = Frame m s u := by
  refine Frame.last (m := 16908288) ?_ h
  unfold State.shadowCheck
  (repeat' split) <;> simp
@[simp] theorem State.setCheck_frame {m : Nat} {s u : State} {a0 : Bool} (h : 16908296 ||| m = m) : Frame m s (State.setCheck a0 u) = Frame m s u := by
  refine Frame.last (m := 16908296) ?_ h
  unfold State.setCheck
  simp [↓Frame.ite]
@[simp] theorem State.adcCheck_frame {m : Nat} {s u : State} {a0 : InputSet} (h : 16908288 ||| m = m) : Frame m s (State.adcCheck a0 u) = Frame m s u := by
  refine Frame.last (m := 16908288) ?_ h
  unfold State.adcCheck
  simp [↓Frame.ite]
@[simp] theorem State.refsMode_frame {m : Nat} {s u : State} {a0 : RefsFrame} (h : 1947780 ||| m = m) : Frame m s (State.refsMode a0 u) = Frame m s u := by
  refine Frame.last (m := 1947780) ?_ h
  unfold State.refsMode
  simp
@[simp] theorem State.refsSets_frame {m : Nat} {s u : State} {a0 : RefsFrame} (h : 24576 ||| m = m) : Frame m s (State.refsSets a0 u) = Frame m s u := by
  refine Frame.last (m := 24576) ?_ h
  unfold State.refsSets
  simp
@[simp] theorem State.refsTake_frame {m : Nat} {s u : State} {r : RefsFrame} (h : 20971180 ||| m = m) : Frame m s (State.refsTake r u) = Frame m s u := by
  refine Frame.last (m := 20971180) ?_ h
  unfold State.refsTake
  extract_lets +onlyGivenNames s1
  have h1 : Frame 20971180 u s1 := by simp [s1]
  clear_value s1
  split
  · exact Frame.ite.mpr ⟨fun _ => by simp [h1], fun _ => h1⟩
  all_goals first
    | (simp [h1]; done)
    | (extract_lets own s2 s3 s4 s5
       have h2 : Frame 20971180 u s2 := by simp [s2, h1]
       clear_value s2
       have h3 : Frame 20971180 u s3 := Frame.ite.mpr ⟨fun _ => by simp [h2], fun _ => h2⟩
       clear_value s3
       have h4 : Frame 20971180 u s4 := by simp [s4, h3]
       clear_value s4
       have h5 : Frame 20971180 u s5 := Frame.ite.mpr ⟨fun _ => h4, fun _ => by simp [h4]⟩
       clear_value s5
       exact Frame.ite.mpr ⟨fun _ => Eq.mpr (State.healthStep_frame (fun v => by simp) rfl) h5, fun _ => h5⟩)
@[simp] theorem State.seqCarry_frame {m : Nat} {s u : State} {a0 : Nat} {a1 : Nat} {a2 : Nat} (h : 512 ||| m = m) : Frame m s (State.seqCarry a0 a1 a2 u) = Frame m s u := by
  refine Frame.last (m := 512) ?_ h
  unfold State.seqCarry
  simp [↓Frame.ite]
@[simp] theorem State.cmdCarry_frame {m : Nat} {s u : State} {a0 : CmdFrame} {a1 : JEntry} (h : 512 ||| m = m) : Frame m s (State.cmdCarry a0 a1 u) = Frame m s u := by
  refine Frame.last (m := 512) ?_ h
  unfold State.cmdCarry
  simp [↓Frame.ite]
@[simp] theorem State.landCarry_frame {m : Nat} {s u : State} {a0 : JEntry} (h : 524544 ||| m = m) : Frame m s (State.landCarry a0 u) = Frame m s u := by
  refine Frame.last (m := 524544) ?_ h
  unfold State.landCarry
  simp [↓Frame.ite]
@[simp] theorem State.jnlTake_frame {m : Nat} {s u : State} {a0 : JEntry} (h : 17303296 ||| m = m) : Frame m s (State.jnlTake a0 u) = Frame m s u := by
  refine Frame.last (m := 17303296) ?_ h
  unfold State.jnlTake
  repeat' (first | (simp [↓Frame.ite]; done) | split | (refine ⟨fun _ => ?_, fun _ => ?_⟩) | (intro _) | (refine Eq.mpr (Frame.each ?_) ?_) | (refine Eq.mpr (State.laneStep_frame ?_ rfl) ?_) | (refine Eq.mpr (State.healthStep_frame ?_ rfl) ?_) | simp [↓Frame.ite])
@[simp] theorem State.inputUse_frame {m : Nat} {s u : State} {a0 : InputSet} (h : 294912 ||| m = m) : Frame m s (State.inputUse a0 u) = Frame m s u := by
  refine Frame.last (m := 294912) ?_ h
  unfold State.inputUse
  simp
@[simp] theorem State.standbyStart_frame {m : Nat} {s u : State} (h : 17072128 ||| m = m) : Frame m s (State.standbyStart u) = Frame m s u := by
  refine Frame.last (m := 17072128) ?_ h
  unfold State.standbyStart
  (repeat' split) <;> simp
@[simp] theorem State.sendHealth_frame {m : Nat} {s u : State} (h : 4 ||| m = m) : Frame m s (State.sendHealth u) = Frame m s u := by
  refine Frame.last (m := 4) ?_ h
  unfold State.sendHealth
  simp
@[simp] theorem State.sessionsCarry_frame {m : Nat} {s u : State} (h : 512 ||| m = m) : Frame m s (State.sessionsCarry u) = Frame m s u := by
  refine Frame.last (m := 512) ?_ h
  unfold State.sessionsCarry
  simp
@[simp] theorem State.entriesCarry_frame {m : Nat} {s u : State} (h : 16778752 ||| m = m) : Frame m s (State.entriesCarry u) = Frame m s u := by
  refine Frame.last (m := 16778752) ?_ h
  unfold State.entriesCarry
  simp
@[simp] theorem State.takeRecords_frame {m : Nat} {s u : State} {a0 : Nat} {a1 : Nat} {a2 : Nat} (h : 16909312 ||| m = m) : Frame m s (State.takeRecords a0 a1 a2 u) = Frame m s u := by
  refine Frame.last (m := 16909312) ?_ h
  unfold State.takeRecords
  simp
@[simp] theorem State.claim_frame {m : Nat} {s u : State} {a0 : Nat} (h : 25327117 ||| m = m) : Frame m s (State.claim a0 u) = Frame m s u := by
  refine Frame.last (m := 25327117) ?_ h
  unfold State.claim
  simp
@[simp] theorem State.detach_frame {m : Nat} {s u : State} (h : 16908288 ||| m = m) : Frame m s (State.detach u) = Frame m s u := by
  refine Frame.last (m := 16908288) ?_ h
  unfold State.detach
  simp
@[simp] theorem State.standbyCompile_frame {m : Nat} {s u : State} (h : 25327117 ||| m = m) : Frame m s (State.standbyCompile u) = Frame m s u := by
  refine Frame.last (m := 25327117) ?_ h
  unfold State.standbyCompile
  simp [↓Frame.ite]
@[simp] theorem State.handoverAt_frame {m : Nat} {s u : State} {a0 : Nat} (h : 16777220 ||| m = m) : Frame m s (State.handoverAt a0 u) = Frame m s u := by
  refine Frame.last (m := 16777220) ?_ h
  unfold State.handoverAt
  simp
@[simp] theorem State.handoverTake_frame {m : Nat} {s u : State} (h : 25302540 ||| m = m) : Frame m s (State.handoverTake u) = Frame m s u := by
  refine Frame.last (m := 25302540) ?_ h
  unfold State.handoverTake
  simp [↓Frame.ite]
@[simp] theorem State.syncEnd_frame {m : Nat} {s u : State} (h : 16908288 ||| m = m) : Frame m s (State.syncEnd u) = Frame m s u := by
  refine Frame.last (m := 16908288) ?_ h
  unfold State.syncEnd
  simp [↓Frame.ite]
@[simp] theorem State.syncPut_frame {m : Nat} {s u : State} {a0 : SyncParts} (h : 8496640 ||| m = m) : Frame m s (State.syncPut a0 u) = Frame m s u := by
  refine Frame.last (m := 8496640) ?_ h
  unfold State.syncPut
  simp
@[simp] theorem State.syncTake_frame {m : Nat} {s u : State} {a0 : Nat} {a1 : Bytes} (h : 25404928 ||| m = m) : Frame m s (State.syncTake a0 a1 u) = Frame m s u := by
  refine Frame.last (m := 25404928) ?_ h
  unfold State.syncTake
  simp [↓Frame.ite]
@[simp] theorem State.partnerEdge_frame {m : Nat} {s u : State} {a0 : FrameHdr} (h : 19015200 ||| m = m) : Frame m s (State.partnerEdge a0 u) = Frame m s u := by
  refine Frame.last (m := 19015200) ?_ h
  unfold State.partnerEdge
  simp [↓Frame.ite]

/-! ## Sram -/

@[simp] theorem State.freePair_frame {m : Nat} {s u : State} {a0 : Nat} {a1 : Nat} (h : 32776 ||| m = m) : Frame m s (State.freePair a0 a1 u) = Frame m s u := by
  refine Frame.last (m := 32776) ?_ h
  unfold State.freePair
  simp
@[simp] theorem State.benchEcc_frame {m : Nat} {s u : State} {a0 : Nat} {a1 : Nat} (h : 32776 ||| m = m) : Frame m s (State.benchEcc a0 a1 u) = Frame m s u := by
  refine Frame.last (m := 32776) ?_ h
  unfold State.benchEcc
  simp [↓Frame.ite]
@[simp] theorem State.valEcc_frame {m : Nat} {s u : State} {a0 : Nat} (h : 33554414 ||| m = m) : Frame m s (State.valEcc a0 u) = Frame m s u := by
  refine Frame.last (m := 33554414) ?_ h
  unfold State.valEcc
  (repeat' split) <;> simp
@[simp] theorem State.armEcc_frame {m : Nat} {s u : State} {a0 : Nat} (h : 256 ||| m = m) : Frame m s (State.armEcc a0 u) = Frame m s u := by
  refine Frame.last (m := 256) ?_ h
  unfold State.armEcc
  (repeat' split) <;> simp
@[simp] theorem State.workEcc_frame {m : Nat} {s u : State} {a0 : Nat} (h : 33554414 ||| m = m) : Frame m s (State.workEcc a0 u) = Frame m s u := by
  refine Frame.last (m := 33554414) ?_ h
  unfold State.workEcc
  simp [↓Frame.ite]
@[simp] theorem State.edgeEcc_frame {m : Nat} {s u : State} (h : 28680 ||| m = m) : Frame m s (State.edgeEcc u) = Frame m s u := by
  refine Frame.last (m := 28680) ?_ h
  unfold State.edgeEcc
  simp [↓Frame.ite]
@[simp] theorem State.contextEcc_frame {m : Nat} {s u : State} {a0 : Nat} (h : 266252 ||| m = m) : Frame m s (State.contextEcc a0 u) = Frame m s u := by
  refine Frame.last (m := 266252) ?_ h
  unfold State.contextEcc
  simp [↓Frame.ite]
@[simp] theorem State.tableEcc_frame {m : Nat} {s u : State} {a0 : Nat} (h : 98568 ||| m = m) : Frame m s (State.tableEcc a0 u) = Frame m s u := by
  refine Frame.last (m := 98568) ?_ h
  unfold State.tableEcc
  simp [↓Frame.ite]
@[simp] theorem State.meshEcc_frame {m : Nat} {s u : State} (h : 8388620 ||| m = m) : Frame m s (State.meshEcc u) = Frame m s u := by
  refine Frame.last (m := 8388620) ?_ h
  unfold State.meshEcc
  simp [↓Frame.ite]
@[simp] theorem State.journalEcc_frame {m : Nat} {s u : State} {a0 : Nat} (h : 1024 ||| m = m) : Frame m s (State.journalEcc a0 u) = Frame m s u := by
  refine Frame.last (m := 1024) ?_ h
  unfold State.journalEcc
  (repeat' split) <;> simp
@[simp] theorem State.traceEcc_frame {m : Nat} {s u : State} {a0 : Nat} (h : 32768 ||| m = m) : Frame m s (State.traceEcc a0 u) = Frame m s u := by
  refine Frame.last (m := 32768) ?_ h
  unfold State.traceEcc
  simp
@[simp] theorem State.bufferEcc_frame {m : Nat} {s u : State} {a0 : Nat} (h : 33554414 ||| m = m) : Frame m s (State.bufferEcc a0 u) = Frame m s u := by
  refine Frame.last (m := 33554414) ?_ h
  unfold State.bufferEcc
  simp [↓Frame.ite]
@[simp] theorem State.cacheEcc_frame {m : Nat} {s u : State} (h : 13239820 ||| m = m) : Frame m s (State.cacheEcc u) = Frame m s u := by
  refine Frame.last (m := 13239820) ?_ h
  unfold State.cacheEcc
  simp [↓Frame.ite]
@[simp] theorem State.mirrorEcc_frame {m : Nat} {s u : State} (h : 25298444 ||| m = m) : Frame m s (State.mirrorEcc u) = Frame m s u := by
  refine Frame.last (m := 25298444) ?_ h
  unfold State.mirrorEcc
  simp [↓Frame.ite]
@[simp] theorem State.thermEcc_frame {m : Nat} {s u : State} (h : 65544 ||| m = m) : Frame m s (State.thermEcc u) = Frame m s u := by
  refine Frame.last (m := 65544) ?_ h
  unfold State.thermEcc
  simp [↓Frame.ite]
@[simp] theorem State.regionEcc_frame {m : Nat} {s u : State} {a0 : Nat} {a1 : Nat} {a2 : Nat} (h : 33554414 ||| m = m) : Frame m s (State.regionEcc a0 a1 a2 u) = Frame m s u := by
  refine Frame.last (m := 33554414) ?_ h
  unfold State.regionEcc
  (repeat' split) <;> simp
@[simp] theorem State.sramUe_frame {m : Nat} {s u : State} {a0 : Nat} {a1 : Nat} {a2 : Nat} (h : 33554414 ||| m = m) : Frame m s (State.sramUe a0 a1 a2 u) = Frame m s u := by
  refine Frame.last (m := 33554414) ?_ h
  unfold State.sramUe
  simp
@[simp] theorem State.sramCe_frame {m : Nat} {s u : State} {a0 : Nat} {a1 : Nat} (h : 32800 ||| m = m) : Frame m s (State.sramCe a0 a1 u) = Frame m s u := by
  refine Frame.last (m := 32800) ?_ h
  unfold State.sramCe
  simp [↓Frame.ite]

end Sys2Proof.Machine
end

