-- ==== Sys2Proof/Laws/FrameRegs.lean ====
section
/-! SUPPORT. What register accesses, commands and what other nodes send may touch. -/
namespace Sys2Proof.Machine
set_option linter.all false

/-! ## RegsA -/

@[simp] theorem State.pageWrite_frame {m : Nat} {s u : State} {a0 : Src} {a1 : Nat} (h : 32 ||| m = m) : Frame m s (State.pageWrite a0 a1 u) = Frame m s u := by
  refine Frame.last (m := 32) ?_ h
  unfold State.pageWrite
  simp
@[simp] theorem State.sysErrClear_frame {m : Nat} {s u : State} {a0 : Nat} (h : 32 ||| m = m) : Frame m s (State.sysErrClear a0 u) = Frame m s u := by
  refine Frame.last (m := 32) ?_ h
  unfold State.sysErrClear
  simp
@[simp] theorem State.mbxWrite_frame {m : Nat} {s u : State} {a0 : Nat} {a1 : Nat} {a2 : Nat} (h : 512 ||| m = m) : Frame m s (State.mbxWrite a0 a1 a2 u) = Frame m s u := by
  refine Frame.last (m := 512) ?_ h
  unfold State.mbxWrite
  simp
@[simp] theorem State.ringWrite_frame {m : Nat} {s u : State} {a0 : Nat} {a1 : Ctx → Ctx} (h : 512 ||| m = m) : Frame m s (State.ringWrite a0 a1 u) = Frame m s u := by
  refine Frame.last (m := 512) ?_ h
  unfold State.ringWrite
  simp
@[simp] theorem State.spillWrite_frame {m : Nat} {s u : State} {a0 : Jnl → Jnl} (h : 1028 ||| m = m) : Frame m s (State.spillWrite a0 u) = Frame m s u := by
  refine Frame.last (m := 1028) ?_ h
  unfold State.spillWrite
  simp [↓Frame.ite]

/-! ## RegsB -/

@[simp] theorem State.rldClear_frame {m : Nat} {s u : State} {a0 : Nat} (h : 8192 ||| m = m) : Frame m s (State.rldClear a0 u) = Frame m s u := by
  refine Frame.last (m := 8192) ?_ h
  unfold State.rldClear
  simp
@[simp] theorem State.traceSet_frame {m : Nat} {s u : State} {a0 : Trace → Trace} (h : 32768 ||| m = m) : Frame m s (State.traceSet a0 u) = Frame m s u := by
  refine Frame.last (m := 32768) ?_ h
  unfold State.traceSet
  simp [↓Frame.ite]

/-! ## RegsC -/

@[simp] theorem State.safeCtlPut_frame {m : Nat} {s u : State} {a0 : Nat} {a1 : Nat} {a2 : Nat} (h : 4325376 ||| m = m) : Frame m s (State.safeCtlPut a0 a1 a2 u) = Frame m s u := by
  refine Frame.last (m := 4325376) ?_ h
  unfold State.safeCtlPut
  simp [↓Frame.ite]

/-! ## Registers -/

/-- What a write to a register may touch, but PWR's own. -/
def WrOk (m : Nat) : Write → Prop
  | .ro | .pwr => True
  | .rw f | .free f | .part _ f | .clr _ _ f => ∀ v s, Frame m s (f v s)
  | .lk f => ∀ a b v s, Frame m s (f a b v s)
/-- What an access to a register may touch, but PWR's writes. -/
structure RegOk (m : Nat) (r : Reg) : Prop where
  wr : WrOk m r.wr
  rd : ∀ f, r.rd = some f → ∀ s, Frame m s (f s)
  narrow : ∀ v f, r.narrow = some (v, f) → ∀ s, Frame m s (f s)
def RegsOk (m : Nat) (o : Option Reg) : Prop := ∀ r, o = some r → RegOk m r
theorem RegsOk.none {m : Nat} : RegsOk m none := fun _ e => by cases e
theorem RegsOk.ite {m : Nat} {a b : Option Reg} {c : Prop} {d : Decidable c} (ha : RegsOk m a) (hb : RegsOk m b) : RegsOk m (if c then a else b) := by
  by_cases h : c <;> simpa [h]
theorem RegsOk.ro {m v : Nat} : RegsOk m (rRO v) := fun _ e => by
  cases e; exact ⟨trivial, fun _ e => by (cases e), fun _ _ e => by (cases e)⟩
theorem RegsOk.rw {m v : Nat} {f : Nat → State → State} (h : ∀ v s, Frame m s (f v s)) : RegsOk m (rRW v f) := fun _ e => by
  cases e; exact ⟨h, fun _ e => by (cases e), fun _ _ e => by (cases e)⟩
theorem RegsOk.free {m v : Nat} {f : Nat → State → State} (h : ∀ v s, Frame m s (f v s)) : RegsOk m (rFree v f) := fun _ e => by
  cases e; exact ⟨h, fun _ e => by (cases e), fun _ _ e => by (cases e)⟩
theorem RegsOk.clr {m v k : Nat} {vec : Option Nat} {f : Nat → State → State} (h : ∀ v s, Frame m s (f v s)) : RegsOk m (rClr v vec k f) :=
  fun _ e => by cases e; exact ⟨h, fun _ e => by (cases e), fun _ _ e => by (cases e)⟩
theorem RegsOk.rc {m v : Nat} {f : State → State} (h : ∀ s, Frame m s (f s)) : RegsOk m (rRC v f) := fun _ e => by
  cases e; exact ⟨trivial, fun _ e => by cases e; exact h, fun _ _ e => by (cases e)⟩
theorem RegsOk.narrow {m v w : Nat} {f : State → State} (h : ∀ s, Frame m s (f s)) :
    RegsOk m (some ({ val := v, narrow := some (w, f) } : Reg)) := fun _ e => by
  cases e; exact ⟨trivial, fun _ e => by (cases e), fun _ _ e => by cases e; exact h⟩
theorem RegsOk.part {m v k : Nat} {f : Nat → State → State} (h : ∀ v s, Frame m s (f v s)) :
    RegsOk m (some ({ val := v, wr := .part k f } : Reg)) := fun _ e => by
  cases e; exact ⟨h, fun _ e => by (cases e), fun _ _ e => by (cases e)⟩
theorem RegsOk.lk {m v : Nat} {f : Nat → Nat → Nat → State → State} (h : ∀ a b v s, Frame m s (f a b v s)) :
    RegsOk m (some ({ val := v, wr := .lk f } : Reg)) := fun _ e => by
  cases e; exact ⟨h, fun _ e => by (cases e), fun _ _ e => by (cases e)⟩
theorem RegsOk.pwr {m v : Nat} : RegsOk m (some ({ val := v, wr := .pwr } : Reg)) := fun _ e => by
  cases e; exact ⟨trivial, fun _ e => by (cases e), fun _ _ e => by (cases e)⟩
theorem State.regSys_ok (s : State) (src : Src) (o : Nat) : RegsOk 33538028 (State.regSys s src o) := by
  unfold State.regSys
  repeat' (with_reducible first | exact RegsOk.none | exact RegsOk.ro | exact RegsOk.pwr | (apply RegsOk.ite) | (apply RegsOk.rw; intro v s; simp; done) | (apply RegsOk.free; intro v s; simp [↓Frame.ite]; done) | (apply RegsOk.clr; intro v s; simp; done) | (apply RegsOk.rc; intro s; simp; done) | (apply RegsOk.narrow; intro s; simp; done) | (apply RegsOk.part; intro v s; simp; done) | (apply RegsOk.lk; intro a b v s; simp; done) | split)
theorem State.regCtx_ok (s : State) (c k : Nat) : RegsOk 33538028 (State.regCtx s c k) := by
  unfold State.regCtx
  repeat' (with_reducible first | exact RegsOk.none | exact RegsOk.ro | exact RegsOk.pwr | (apply RegsOk.ite) | (apply RegsOk.rw; intro v s; simp; done) | (apply RegsOk.free; intro v s; simp [↓Frame.ite]; done) | (apply RegsOk.clr; intro v s; simp; done) | (apply RegsOk.rc; intro s; simp; done) | (apply RegsOk.narrow; intro s; simp; done) | (apply RegsOk.part; intro v s; simp; done) | (apply RegsOk.lk; intro a b v s; simp; done) | split)
theorem State.regMbx_ok (s : State) (m k : Nat) : RegsOk 33538028 (State.regMbx s m k) := by
  unfold State.regMbx
  repeat' (with_reducible first | exact RegsOk.none | exact RegsOk.ro | exact RegsOk.pwr | (apply RegsOk.ite) | (apply RegsOk.rw; intro v s; simp; done) | (apply RegsOk.free; intro v s; simp [↓Frame.ite]; done) | (apply RegsOk.clr; intro v s; simp; done) | (apply RegsOk.rc; intro s; simp; done) | (apply RegsOk.narrow; intro s; simp; done) | (apply RegsOk.part; intro v s; simp; done) | (apply RegsOk.lk; intro a b v s; simp; done) | split)
theorem State.regHost_ok (s : State) (o : Nat) : RegsOk 33538028 (State.regHost s o) := by
  unfold State.regHost
  repeat' (with_reducible first | exact RegsOk.none | exact RegsOk.ro | exact RegsOk.pwr | apply State.regCtx_ok | apply State.regMbx_ok | (apply RegsOk.ite) | (apply RegsOk.rw; intro v s; simp; done) | (apply RegsOk.free; intro v s; simp [↓Frame.ite]; done) | (apply RegsOk.clr; intro v s; simp; done) | (apply RegsOk.rc; intro s; simp; done) | (apply RegsOk.narrow; intro s; simp; done) | (apply RegsOk.part; intro v s; simp; done) | (apply RegsOk.lk; intro a b v s; simp; done) | split)
theorem State.regJnl_ok (s : State) (o : Nat) : RegsOk 33538028 (State.regJnl s o) := by
  unfold State.regJnl
  repeat' (with_reducible first | exact RegsOk.none | exact RegsOk.ro | exact RegsOk.pwr | (apply RegsOk.ite) | (apply RegsOk.rw; intro v s; simp; done) | (apply RegsOk.free; intro v s; simp [↓Frame.ite]; done) | (apply RegsOk.clr; intro v s; simp; done) | (apply RegsOk.rc; intro s; simp; done) | (apply RegsOk.narrow; intro s; simp; done) | (apply RegsOk.part; intro v s; simp; done) | (apply RegsOk.lk; intro a b v s; simp; done) | split)
theorem State.regOut_ok (s : State) (n k : Nat) : RegsOk 33538028 (State.regOut s n k) := by
  unfold State.regOut
  repeat' (with_reducible first | exact RegsOk.none | exact RegsOk.ro | exact RegsOk.pwr | (apply RegsOk.ite) | (apply RegsOk.rw; intro v s; simp; done) | (apply RegsOk.free; intro v s; simp [↓Frame.ite]; done) | (apply RegsOk.clr; intro v s; simp; done) | (apply RegsOk.rc; intro s; simp; done) | (apply RegsOk.narrow; intro s; simp; done) | (apply RegsOk.part; intro v s; simp; done) | (apply RegsOk.lk; intro a b v s; simp; done) | split)
theorem State.regClk_ok (s : State) (o : Nat) : RegsOk 33538028 (State.regClk s o) := by
  unfold State.regClk
  repeat' (with_reducible first | exact RegsOk.none | exact RegsOk.ro | exact RegsOk.pwr | apply State.regOut_ok | (apply RegsOk.ite) | (apply RegsOk.rw; intro v s; simp; done) | (apply RegsOk.free; intro v s; simp [↓Frame.ite]; done) | (apply RegsOk.clr; intro v s; simp; done) | (apply RegsOk.rc; intro s; simp; done) | (apply RegsOk.narrow; intro s; simp; done) | (apply RegsOk.part; intro v s; simp; done) | (apply RegsOk.lk; intro a b v s; simp; done) | split)
theorem State.regLn_ok (s : State) (l k : Nat) : RegsOk 33538028 (State.regLn s l k) := by
  unfold State.regLn
  repeat' (with_reducible first | exact RegsOk.none | exact RegsOk.ro | exact RegsOk.pwr | (apply RegsOk.ite) | (apply RegsOk.rw; intro v s; simp; done) | (apply RegsOk.free; intro v s; simp [↓Frame.ite]; done) | (apply RegsOk.clr; intro v s; simp; done) | (apply RegsOk.rc; intro s; simp; done) | (apply RegsOk.narrow; intro s; simp; done) | (apply RegsOk.part; intro v s; simp; done) | (apply RegsOk.lk; intro a b v s; simp; done) | split)
theorem State.regDly_ok (s : State) (q k : Nat) : RegsOk 33538028 (State.regDly s q k) := by
  unfold State.regDly
  repeat' (with_reducible first | exact RegsOk.none | exact RegsOk.ro | exact RegsOk.pwr | (apply RegsOk.ite) | (apply RegsOk.rw; intro v s; simp; done) | (apply RegsOk.free; intro v s; simp [↓Frame.ite]; done) | (apply RegsOk.clr; intro v s; simp; done) | (apply RegsOk.rc; intro s; simp; done) | (apply RegsOk.narrow; intro s; simp; done) | (apply RegsOk.part; intro v s; simp; done) | (apply RegsOk.lk; intro a b v s; simp; done) | split)
theorem State.regLane_ok (s : State) (o : Nat) : RegsOk 33538028 (State.regLane s o) := by
  unfold State.regLane
  repeat' (with_reducible first | exact RegsOk.none | exact RegsOk.ro | exact RegsOk.pwr | apply State.regLn_ok | apply State.regDly_ok | (apply RegsOk.ite) | (apply RegsOk.rw; intro v s; simp; done) | (apply RegsOk.free; intro v s; simp [↓Frame.ite]; done) | (apply RegsOk.clr; intro v s; simp; done) | (apply RegsOk.rc; intro s; simp; done) | (apply RegsOk.narrow; intro s; simp; done) | (apply RegsOk.part; intro v s; simp; done) | (apply RegsOk.lk; intro a b v s; simp; done) | split)
theorem State.regSeamQ_ok (s : State) (q k : Nat) : RegsOk 33538028 (State.regSeamQ s q k) := by
  unfold State.regSeamQ
  repeat' (with_reducible first | exact RegsOk.none | exact RegsOk.ro | exact RegsOk.pwr | (apply RegsOk.ite) | (apply RegsOk.rw; intro v s; simp; done) | (apply RegsOk.free; intro v s; simp [↓Frame.ite]; done) | (apply RegsOk.clr; intro v s; simp; done) | (apply RegsOk.rc; intro s; simp; done) | (apply RegsOk.narrow; intro s; simp; done) | (apply RegsOk.part; intro v s; simp; done) | (apply RegsOk.lk; intro a b v s; simp; done) | split)
theorem State.regCell_ok (s : State) (c k : Nat) : RegsOk 33538028 (State.regCell s c k) := by
  unfold State.regCell
  repeat' (with_reducible first | exact RegsOk.none | exact RegsOk.ro | exact RegsOk.pwr | (apply RegsOk.ite) | (apply RegsOk.rw; intro v s; simp; done) | (apply RegsOk.free; intro v s; simp [↓Frame.ite]; done) | (apply RegsOk.clr; intro v s; simp; done) | (apply RegsOk.rc; intro s; simp; done) | (apply RegsOk.narrow; intro s; simp; done) | (apply RegsOk.part; intro v s; simp; done) | (apply RegsOk.lk; intro a b v s; simp; done) | split)
theorem State.regSeam_ok (s : State) (o : Nat) : RegsOk 33538028 (State.regSeam s o) := by
  unfold State.regSeam
  repeat' (with_reducible first | exact RegsOk.none | exact RegsOk.ro | exact RegsOk.pwr | apply State.regSeamQ_ok | apply State.regCell_ok | (apply RegsOk.ite) | (apply RegsOk.rw; intro v s; simp; done) | (apply RegsOk.free; intro v s; simp [↓Frame.ite]; done) | (apply RegsOk.clr; intro v s; simp; done) | (apply RegsOk.rc; intro s; simp; done) | (apply RegsOk.narrow; intro s; simp; done) | (apply RegsOk.part; intro v s; simp; done) | (apply RegsOk.lk; intro a b v s; simp; done) | split)
theorem State.regGrp_ok (s : State) (g k : Nat) : RegsOk 33538028 (State.regGrp s g k) := by
  unfold State.regGrp
  repeat' (with_reducible first | exact RegsOk.none | exact RegsOk.ro | exact RegsOk.pwr | (apply RegsOk.ite) | (apply RegsOk.rw; intro v s; simp; done) | (apply RegsOk.free; intro v s; simp [↓Frame.ite]; done) | (apply RegsOk.clr; intro v s; simp; done) | (apply RegsOk.rc; intro s; simp; done) | (apply RegsOk.narrow; intro s; simp; done) | (apply RegsOk.part; intro v s; simp; done) | (apply RegsOk.lk; intro a b v s; simp; done) | split)
theorem State.regLpwm_ok (s : State) (j k : Nat) : RegsOk 33538028 (State.regLpwm s j k) := by
  unfold State.regLpwm
  repeat' (with_reducible first | exact RegsOk.none | exact RegsOk.ro | exact RegsOk.pwr | (apply RegsOk.ite) | (apply RegsOk.rw; intro v s; simp; done) | (apply RegsOk.free; intro v s; simp [↓Frame.ite]; done) | (apply RegsOk.clr; intro v s; simp; done) | (apply RegsOk.rc; intro s; simp; done) | (apply RegsOk.narrow; intro s; simp; done) | (apply RegsOk.part; intro v s; simp; done) | (apply RegsOk.lk; intro a b v s; simp; done) | split)
theorem State.regEdg_ok (s : State) (o : Nat) : RegsOk 33538028 (State.regEdg s o) := by
  unfold State.regEdg
  repeat' (with_reducible first | exact RegsOk.none | exact RegsOk.ro | exact RegsOk.pwr | apply State.regGrp_ok | apply State.regLpwm_ok | (apply RegsOk.ite) | (apply RegsOk.rw; intro v s; simp; done) | (apply RegsOk.free; intro v s; simp [↓Frame.ite]; done) | (apply RegsOk.clr; intro v s; simp; done) | (apply RegsOk.rc; intro s; simp; done) | (apply RegsOk.narrow; intro s; simp; done) | (apply RegsOk.part; intro v s; simp; done) | (apply RegsOk.lk; intro a b v s; simp; done) | split)
theorem State.regBench_ok (s : State) (b k : Nat) : RegsOk 33538028 (State.regBench s b k) := by
  unfold State.regBench
  repeat' (with_reducible first | exact RegsOk.none | exact RegsOk.ro | exact RegsOk.pwr | (apply RegsOk.ite) | (apply RegsOk.rw; intro v s; simp; done) | (apply RegsOk.free; intro v s; simp [↓Frame.ite]; done) | (apply RegsOk.clr; intro v s; simp; done) | (apply RegsOk.rc; intro s; simp; done) | (apply RegsOk.narrow; intro s; simp; done) | (apply RegsOk.part; intro v s; simp; done) | (apply RegsOk.lk; intro a b v s; simp; done) | split)
theorem State.regLoop_ok (s : State) (l k : Nat) : RegsOk 33538028 (State.regLoop s l k) := by
  unfold State.regLoop
  repeat' (with_reducible first | exact RegsOk.none | exact RegsOk.ro | exact RegsOk.pwr | (apply RegsOk.ite) | (apply RegsOk.rw; intro v s; simp; done) | (apply RegsOk.free; intro v s; simp [↓Frame.ite]; done) | (apply RegsOk.clr; intro v s; simp; done) | (apply RegsOk.rc; intro s; simp; done) | (apply RegsOk.narrow; intro s; simp; done) | (apply RegsOk.part; intro v s; simp; done) | (apply RegsOk.lk; intro a b v s; simp; done) | split)
theorem State.regTrace_ok (s : State) (o : Nat) : RegsOk 33538028 (State.regTrace s o) := by
  unfold State.regTrace
  repeat' (with_reducible first | exact RegsOk.none | exact RegsOk.ro | exact RegsOk.pwr | (apply RegsOk.ite) | (apply RegsOk.rw; intro v s; simp; done) | (apply RegsOk.free; intro v s; simp [↓Frame.ite]; done) | (apply RegsOk.clr; intro v s; simp; done) | (apply RegsOk.rc; intro s; simp; done) | (apply RegsOk.narrow; intro s; simp; done) | (apply RegsOk.part; intro v s; simp; done) | (apply RegsOk.lk; intro a b v s; simp; done) | split)
theorem State.regBnc_ok (s : State) (o : Nat) : RegsOk 33538028 (State.regBnc s o) := by
  unfold State.regBnc
  repeat' (with_reducible first | exact RegsOk.none | exact RegsOk.ro | exact RegsOk.pwr | apply State.regBench_ok | apply State.regLoop_ok | apply State.regTrace_ok | (apply RegsOk.ite) | (apply RegsOk.rw; intro v s; simp; done) | (apply RegsOk.free; intro v s; simp [↓Frame.ite]; done) | (apply RegsOk.clr; intro v s; simp; done) | (apply RegsOk.rc; intro s; simp; done) | (apply RegsOk.narrow; intro s; simp; done) | (apply RegsOk.part; intro v s; simp; done) | (apply RegsOk.lk; intro a b v s; simp; done) | split)
theorem State.regArm_ok (s : State) (a k : Nat) : RegsOk 33538028 (State.regArm s a k) := by
  unfold State.regArm
  repeat' (with_reducible first | exact RegsOk.none | exact RegsOk.ro | exact RegsOk.pwr | (apply RegsOk.ite) | (apply RegsOk.rw; intro v s; simp; done) | (apply RegsOk.free; intro v s; simp [↓Frame.ite]; done) | (apply RegsOk.clr; intro v s; simp; done) | (apply RegsOk.rc; intro s; simp; done) | (apply RegsOk.narrow; intro s; simp; done) | (apply RegsOk.part; intro v s; simp; done) | (apply RegsOk.lk; intro a b v s; simp; done) | split)
theorem State.regTherm_ok (s : State) (c k : Nat) : RegsOk 33538028 (State.regTherm s c k) := by
  unfold State.regTherm
  repeat' (with_reducible first | exact RegsOk.none | exact RegsOk.ro | exact RegsOk.pwr | (apply RegsOk.ite) | (apply RegsOk.rw; intro v s; simp; done) | (apply RegsOk.free; intro v s; simp [↓Frame.ite]; done) | (apply RegsOk.clr; intro v s; simp; done) | (apply RegsOk.rc; intro s; simp; done) | (apply RegsOk.narrow; intro s; simp; done) | (apply RegsOk.part; intro v s; simp; done) | (apply RegsOk.lk; intro a b v s; simp; done) | split)
theorem State.regBal_ok (s : State) (o : Nat) : RegsOk 33538028 (State.regBal s o) := by
  unfold State.regBal
  repeat' (with_reducible first | exact RegsOk.none | exact RegsOk.ro | exact RegsOk.pwr | apply State.regArm_ok | apply State.regTherm_ok | (apply RegsOk.ite) | (apply RegsOk.rw; intro v s; simp; done) | (apply RegsOk.free; intro v s; simp [↓Frame.ite]; done) | (apply RegsOk.clr; intro v s; simp; done) | (apply RegsOk.rc; intro s; simp; done) | (apply RegsOk.narrow; intro s; simp; done) | (apply RegsOk.part; intro v s; simp; done) | (apply RegsOk.lk; intro a b v s; simp; done) | split)
theorem State.regSp_ok (s : State) (i k : Nat) : RegsOk 33538028 (State.regSp s i k) := by
  unfold State.regSp
  repeat' (with_reducible first | exact RegsOk.none | exact RegsOk.ro | exact RegsOk.pwr | (apply RegsOk.ite) | (apply RegsOk.rw; intro v s; simp; done) | (apply RegsOk.free; intro v s; simp [↓Frame.ite]; done) | (apply RegsOk.clr; intro v s; simp; done) | (apply RegsOk.rc; intro s; simp; done) | (apply RegsOk.narrow; intro s; simp; done) | (apply RegsOk.part; intro v s; simp; done) | (apply RegsOk.lk; intro a b v s; simp; done) | split)
theorem State.regMode_ok (s : State) (o : Nat) : RegsOk 33538028 (State.regMode s o) := by
  unfold State.regMode
  repeat' (with_reducible first | exact RegsOk.none | exact RegsOk.ro | exact RegsOk.pwr | apply State.regSp_ok | (apply RegsOk.ite) | (apply RegsOk.rw; intro v s; simp; done) | (apply RegsOk.free; intro v s; simp [↓Frame.ite]; done) | (apply RegsOk.clr; intro v s; simp; done) | (apply RegsOk.rc; intro s; simp; done) | (apply RegsOk.narrow; intro s; simp; done) | (apply RegsOk.part; intro v s; simp; done) | (apply RegsOk.lk; intro a b v s; simp; done) | split)
theorem State.regAdc1_ok (s : State) (a k : Nat) : RegsOk 33538028 (State.regAdc1 s a k) := by
  unfold State.regAdc1
  repeat' (with_reducible first | exact RegsOk.none | exact RegsOk.ro | exact RegsOk.pwr | (apply RegsOk.ite) | (apply RegsOk.rw; intro v s; simp; done) | (apply RegsOk.free; intro v s; simp [↓Frame.ite]; done) | (apply RegsOk.clr; intro v s; simp; done) | (apply RegsOk.rc; intro s; simp; done) | (apply RegsOk.narrow; intro s; simp; done) | (apply RegsOk.part; intro v s; simp; done) | (apply RegsOk.lk; intro a b v s; simp; done) | split)
theorem State.regSieve_ok (s : State) (i k : Nat) : RegsOk 33538028 (State.regSieve s i k) := by
  unfold State.regSieve
  repeat' (with_reducible first | exact RegsOk.none | exact RegsOk.ro | exact RegsOk.pwr | (apply RegsOk.ite) | (apply RegsOk.rw; intro v s; simp; done) | (apply RegsOk.free; intro v s; simp [↓Frame.ite]; done) | (apply RegsOk.clr; intro v s; simp; done) | (apply RegsOk.rc; intro s; simp; done) | (apply RegsOk.narrow; intro s; simp; done) | (apply RegsOk.part; intro v s; simp; done) | (apply RegsOk.lk; intro a b v s; simp; done) | split)
theorem State.regAdc_ok (s : State) (o : Nat) : RegsOk 33538028 (State.regAdc s o) := by
  unfold State.regAdc
  repeat' (with_reducible first | exact RegsOk.none | exact RegsOk.ro | exact RegsOk.pwr | apply State.regAdc1_ok | apply State.regSieve_ok | (apply RegsOk.ite) | (apply RegsOk.rw; intro v s; simp; done) | (apply RegsOk.free; intro v s; simp [↓Frame.ite]; done) | (apply RegsOk.clr; intro v s; simp; done) | (apply RegsOk.rc; intro s; simp; done) | (apply RegsOk.narrow; intro s; simp; done) | (apply RegsOk.part; intro v s; simp; done) | (apply RegsOk.lk; intro a b v s; simp; done) | split)
theorem State.regCmp1_ok (s : State) (n k : Nat) : RegsOk 33538028 (State.regCmp1 s n k) := by
  unfold State.regCmp1
  repeat' (with_reducible first | exact RegsOk.none | exact RegsOk.ro | exact RegsOk.pwr | (apply RegsOk.ite) | (apply RegsOk.rw; intro v s; simp; done) | (apply RegsOk.free; intro v s; simp [↓Frame.ite]; done) | (apply RegsOk.clr; intro v s; simp; done) | (apply RegsOk.rc; intro s; simp; done) | (apply RegsOk.narrow; intro s; simp; done) | (apply RegsOk.part; intro v s; simp; done) | (apply RegsOk.lk; intro a b v s; simp; done) | split)
theorem State.regCmp_ok (s : State) (o : Nat) : RegsOk 33538028 (State.regCmp s o) := by
  unfold State.regCmp
  repeat' (with_reducible first | exact RegsOk.none | exact RegsOk.ro | exact RegsOk.pwr | apply State.regCmp1_ok | (apply RegsOk.ite) | (apply RegsOk.rw; intro v s; simp; done) | (apply RegsOk.free; intro v s; simp [↓Frame.ite]; done) | (apply RegsOk.clr; intro v s; simp; done) | (apply RegsOk.rc; intro s; simp; done) | (apply RegsOk.narrow; intro s; simp; done) | (apply RegsOk.part; intro v s; simp; done) | (apply RegsOk.lk; intro a b v s; simp; done) | split)
theorem State.regSafe_ok (s : State) (o : Nat) : RegsOk 33538028 (State.regSafe s o) := by
  unfold State.regSafe
  repeat' (with_reducible first | exact RegsOk.none | exact RegsOk.ro | exact RegsOk.pwr | (apply RegsOk.ite) | (apply RegsOk.rw; intro v s; simp; done) | (apply RegsOk.free; intro v s; simp [↓Frame.ite]; done) | (apply RegsOk.clr; intro v s; simp; done) | (apply RegsOk.rc; intro s; simp; done) | (apply RegsOk.narrow; intro s; simp; done) | (apply RegsOk.part; intro v s; simp; done) | (apply RegsOk.lk; intro a b v s; simp; done) | split)
theorem State.regPort_ok (s : State) (p k : Nat) : RegsOk 33538028 (State.regPort s p k) := by
  unfold State.regPort
  repeat' (with_reducible first | exact RegsOk.none | exact RegsOk.ro | exact RegsOk.pwr | (apply RegsOk.ite) | (apply RegsOk.rw; intro v s; simp; done) | (apply RegsOk.free; intro v s; simp [↓Frame.ite]; done) | (apply RegsOk.clr; intro v s; simp; done) | (apply RegsOk.rc; intro s; simp; done) | (apply RegsOk.narrow; intro s; simp; done) | (apply RegsOk.part; intro v s; simp; done) | (apply RegsOk.lk; intro a b v s; simp; done) | split)
theorem State.regNode_ok (s : State) (n k : Nat) : RegsOk 33538028 (State.regNode s n k) := by
  unfold State.regNode
  repeat' (with_reducible first | exact RegsOk.none | exact RegsOk.ro | exact RegsOk.pwr | (apply RegsOk.ite) | (apply RegsOk.rw; intro v s; simp; done) | (apply RegsOk.free; intro v s; simp [↓Frame.ite]; done) | (apply RegsOk.clr; intro v s; simp; done) | (apply RegsOk.rc; intro s; simp; done) | (apply RegsOk.narrow; intro s; simp; done) | (apply RegsOk.part; intro v s; simp; done) | (apply RegsOk.lk; intro a b v s; simp; done) | split)
theorem State.regMesh_ok (s : State) (o : Nat) : RegsOk 33538028 (State.regMesh s o) := by
  unfold State.regMesh
  repeat' (with_reducible first | exact RegsOk.none | exact RegsOk.ro | exact RegsOk.pwr | apply State.regPort_ok | apply State.regNode_ok | (apply RegsOk.ite) | (apply RegsOk.rw; intro v s; simp; done) | (apply RegsOk.free; intro v s; simp [↓Frame.ite]; done) | (apply RegsOk.clr; intro v s; simp; done) | (apply RegsOk.rc; intro s; simp; done) | (apply RegsOk.narrow; intro s; simp; done) | (apply RegsOk.part; intro v s; simp; done) | (apply RegsOk.lk; intro a b v s; simp; done) | split)
theorem State.regPair_ok (s : State) (o : Nat) : RegsOk 33538028 (State.regPair s o) := by
  unfold State.regPair
  repeat' (with_reducible first | exact RegsOk.none | exact RegsOk.ro | exact RegsOk.pwr | (apply RegsOk.ite) | (apply RegsOk.rw; intro v s; simp; done) | (apply RegsOk.free; intro v s; simp [↓Frame.ite]; done) | (apply RegsOk.clr; intro v s; simp; done) | (apply RegsOk.rc; intro s; simp; done) | (apply RegsOk.narrow; intro s; simp; done) | (apply RegsOk.part; intro v s; simp; done) | (apply RegsOk.lk; intro a b v s; simp; done) | split)
theorem State.regPwr_ok (s : State) (o : Nat) : RegsOk 33538028 (State.regPwr s o) := by
  unfold State.regPwr
  repeat' (with_reducible first | exact RegsOk.none | exact RegsOk.ro | exact RegsOk.pwr | (apply RegsOk.ite) | (apply RegsOk.rw; intro v s; simp; done) | (apply RegsOk.free; intro v s; simp [↓Frame.ite]; done) | (apply RegsOk.clr; intro v s; simp; done) | (apply RegsOk.rc; intro s; simp; done) | (apply RegsOk.narrow; intro s; simp; done) | (apply RegsOk.part; intro v s; simp; done) | (apply RegsOk.lk; intro a b v s; simp; done) | split)
theorem State.regImg_ok (s : State) (o : Nat) : RegsOk 33538028 (State.regImg s o) := by
  unfold State.regImg
  repeat' (with_reducible first | exact RegsOk.none | exact RegsOk.ro | exact RegsOk.pwr | (apply RegsOk.ite) | (apply RegsOk.rw; intro v s; simp; done) | (apply RegsOk.free; intro v s; simp [↓Frame.ite]; done) | (apply RegsOk.clr; intro v s; simp; done) | (apply RegsOk.rc; intro s; simp; done) | (apply RegsOk.narrow; intro s; simp; done) | (apply RegsOk.part; intro v s; simp; done) | (apply RegsOk.lk; intro a b v s; simp; done) | split)
/-- Every register's accesses leave time, the queue, the compile, the fuses and the key alone. -/
theorem State.regAt_ok (s : State) (src : Src) (o : Nat) : RegsOk 33538028 (s.regAt src o) := by
  unfold State.regAt
  repeat' (with_reducible first | exact RegsOk.none | apply RegsOk.ite | apply State.regSys_ok | apply State.regHost_ok | apply State.regJnl_ok | apply State.regClk_ok | apply State.regLane_ok | apply State.regSeam_ok | apply State.regEdg_ok | apply State.regBnc_ok | apply State.regBal_ok | apply State.regMode_ok | apply State.regAdc_ok | apply State.regCmp_ok | apply State.regSafe_ok | apply State.regMesh_ok | apply State.regPair_ok | apply State.regPwr_ok | apply State.regImg_ok)
theorem State.regPut_frame {m : Nat} {s u : State} {src : Src} {se o : Nat} {r : Reg} {v : Nat} (hr : RegOk m r) (h : 4 ||| m = m) :
    Frame m s (State.regPut src se o r v u) = Frame m s u := by
  refine Frame.last (m := m) ?_ (Nat.or_self m)
  have hw := hr.wr
  unfold State.regPut
  revert hw
  cases r.wr with
  | ro | pwr => intro _; simp
  | rw f => intro hw; exact hw _ _
  | free f => intro hw; exact hw _ _
  | part k f => intro hw; exact hw _ _
  | lk f => intro hw; exact hw _ _ _ _
  | clr vec k f =>
    intro hw
    simp only []
    split
    · exact Frame.ite.mpr ⟨fun _ => hw _ _, fun _ => Eq.mpr (State.cleared_frame h) (hw _ _)⟩
    · exact hw _ _
@[simp] theorem State.readWord_frame {m : Nat} {s u : State} {src : Src} {w : Bool} {o : Nat} (h : 33538028 ||| m = m) :
    Frame m s (State.readWord src w o u).2 = Frame m s u := by
  refine Frame.last (m := 33538028) ?_ h
  have hr := State.regAt_ok u src o
  unfold State.readWord
  split
  · simp
  · split
    · simp
    · split
      · simp
      · split
        · simp
        · rename_i r e
          have hk := hr r e
          have key : ∀ s', Frame 33538028 u s' → Frame 33538028 u (State.drawn (match r.rd with | some f => f s' | none => s')) := fun s' hs => by
            refine Eq.mpr (State.drawn_frame rfl) ?_
            split
            · rename_i f ef
              exact hs.trans (hk.rd f ef _)
            · exact hs
          have hq : Frame 33538028 u (match r.narrow with | some (v, f) => if w then (r.val, u) else (v, f u) | none => (r.val, u)).2 := by
            split
            · rename_i v f en
              split
              · simp
              · exact hk.narrow v f en _
            · simp
          exact key _ hq
@[simp] theorem State.readWords_frame {m : Nat} {s u : State} {src : Src} {w : Bool} {l : List Nat} (h : 33538028 ||| m = m) :
    Frame m s (State.readWords src w l u).2 = Frame m s u := by
  refine Frame.last (m := 33538028) ?_ h
  induction l generalizing u with
  | nil => simp [State.readWords]
  | cons o l ih =>
    unfold State.readWords
    exact Frame.trans (by simp) ih
@[simp] theorem State.directRead_frame {m : Nat} {s u : State} {src : Src} {o n : Nat} (h : 33538028 ||| m = m) :
    Frame m s (State.directRead src o n u).2 = Frame m s u := by
  refine Frame.last (m := 33538028) ?_ h
  unfold State.directRead
  split
  · simp only []
    exact Frame.ite.mpr ⟨fun _ => by simp, fun _ => by simp⟩
  · simp
@[simp] theorem State.lockViolation_frame {m : Nat} {s u : State} {a0 : Src} {a1 : Nat} {a2 : Nat} (h : 4325376 ||| m = m) : Frame m s (State.lockViolation a0 a1 a2 u) = Frame m s u := by
  refine Frame.last (m := 4325376) ?_ h
  unfold State.lockViolation
  simp
@[simp] theorem State.writeReg_frame {m : Nat} {s u : State} {src : Src} {o v : Nat} (h : 369098734 ||| m = m) :
    Frame m s (State.writeReg src o v u) = Frame m s u := by
  refine Frame.last (m := 369098734) ?_ h
  have hr := State.regAt_ok u src o
  unfold State.writeReg
  simp only []
  repeat' (first
    | (simp; done)
    | (with_reducible refine Frame.ite.mpr ⟨fun _ => ?_, fun _ => ?_⟩))
  split
  · simp
  · rename_i r e
    have hk : RegOk 369098734 r := by
      have := hr r e
      refine ⟨?_, fun f e s => (this.rd f e s).widen rfl, fun v f e s => (this.narrow v f e s).widen rfl⟩
      have hw := this.wr
      revert hw
      cases r.wr <;> intro hw <;> first | trivial | exact fun v s => (hw v s).widen rfl | exact fun a b v s => (hw a b v s).widen rfl
    have hp : ∀ s, Frame 369098734 s (s.regPut src 0 o r v) := fun s => by simpa using (State.regPut_frame (s := s) (u := s) hk rfl)
    have hj : ∀ s : State, Frame 369098734 s (if State.valAt (s.regPut src 0 o r v) src o = r.val then s.regPut src 0 o r v
        else (s.jDirect src o (BitVec.ofNat 32 v)).regPut src 0 o r v) := fun s =>
      Frame.ite.mpr ⟨fun _ => hp _, fun _ => Frame.trans (by simp) (hp _)⟩
    split
    · simp
    · exact hj u
    · exact Frame.ite.mpr ⟨fun _ => by simp, fun _ => hj u⟩
    · exact hp _
    · exact hp _
    · simp
    · split
      · simp
      · refine Frame.ite.mpr ⟨fun _ => Eq.mpr (State.softWrite_frame rfl) ?_, fun _ => Eq.mpr (State.ctlWrite_frame rfl) ?_⟩
        · exact Frame.ite.mpr ⟨fun _ => by simp, fun _ => by simp⟩
        · exact Frame.ite.mpr ⟨fun _ => by simp, fun _ => by simp⟩
@[simp] theorem State.writeWindow_frame {m : Nat} {s u : State} {a0 : Src} {a1 : Nat} {a2 : Bytes} (h : 768 ||| m = m) : Frame m s (State.writeWindow a0 a1 a2 u) = Frame m s u := by
  refine Frame.last (m := 768) ?_ h
  unfold State.writeWindow
  simp [↓Frame.ite]
@[simp] theorem State.directWrite_frame {m : Nat} {s u : State} {a0 : Src} {a1 : Nat} {a2 : Bytes} (h : 369098734 ||| m = m) : Frame m s (State.directWrite a0 a1 a2 u) = Frame m s u := by
  refine Frame.last (m := 369098734) ?_ h
  unfold State.directWrite
  simp [↓Frame.ite]
@[simp] theorem State.barBad_frame {m : Nat} {s u : State} {a0 : Src} {a1 : Nat} (h : 516 ||| m = m) : Frame m s (State.barBad a0 a1 u) = Frame m s u := by
  refine Frame.last (m := 516) ?_ h
  unfold State.barBad
  simp
@[simp] theorem State.readBy_frame {m : Nat} {s u : State} {i : Iface} {o n : Nat} (h : 33538028 ||| m = m) :
    Frame m s (State.readBy i o n u) = Frame m s u := by
  refine Frame.last (m := 33538028) ?_ h
  unfold State.readBy
  refine Frame.ite.mpr ⟨fun _ => by simp, fun _ => Frame.ite.mpr ⟨fun _ => by simp, fun _ => ?_⟩⟩
  exact Eq.mpr (State.emit_frame rfl) (Eq.mpr (State.directRead_frame rfl) (by simp))
@[simp] theorem State.writeBy_frame {m : Nat} {s u : State} {a0 : Iface} {a1 : Nat} {a2 : Bytes} (h : 369098734 ||| m = m) : Frame m s (State.writeBy a0 a1 a2 u) = Frame m s u := by
  refine Frame.last (m := 369098734) ?_ h
  unfold State.writeBy
  simp [↓Frame.ite]
@[simp] theorem State.spi_frame {m : Nat} {s u : State} {a0 : Bytes} (h : 369098734 ||| m = m) : Frame m s (State.spi a0 u) = Frame m s u := by
  refine Frame.last (m := 369098734) ?_ h
  unfold State.spi
  (repeat' split) <;> simp
@[simp] theorem State.jtag_frame {m : Nat} {s u : State} {a0 : Nat} (h : 369098734 ||| m = m) : Frame m s (State.jtag a0 u) = Frame m s u := by
  refine Frame.last (m := 369098734) ?_ h
  unfold State.jtag
  (repeat' split) <;> simp

/-! ## MeshCmds -/

@[simp] theorem State.resetTake_frame {m : Nat} {s u : State} {a0 : Nat} {a1 : Nat} {a2 : Nat} (h : 8388612 ||| m = m) : Frame m s (State.resetTake a0 a1 a2 u) = Frame m s u := by
  refine Frame.last (m := 8388612) ?_ h
  unfold State.resetTake
  simp
@[simp] theorem State.resetReply_frame {m : Nat} {s u : State} {a0 : Nat} {a1 : Word} (h : 25167372 ||| m = m) : Frame m s (State.resetReply a0 a1 u) = Frame m s u := by
  refine Frame.last (m := 25167372) ?_ h
  unfold State.resetReply
  (repeat' split) <;> simp [↓Frame.ite]

/-! ## Remote -/

theorem cmdAdcCal_ok : CmdOk 26215948 cmdAdcCal := by
  constructor
  · intro h p v
    try simp only [cmdAdcCal]
    repeat' (first | (simp [↓Frame.ite]; done) | split | (with_reducible refine Frame.ite.mpr ⟨fun _ => ?_, fun _ => ?_⟩) | (refine ⟨fun _ => ?_, fun _ => ?_⟩) | (intro _) | (refine Eq.mpr (Frame.each ?_) ?_) | simp [↓Frame.ite])
  · intro h p v
    try simp only [cmdAdcCal]
    repeat' (first | (simp [↓Frame.ite]; done) | split | (with_reducible refine Frame.ite.mpr ⟨fun _ => ?_, fun _ => ?_⟩) | (refine ⟨fun _ => ?_, fun _ => ?_⟩) | (intro _) | (refine Eq.mpr (Frame.each ?_) ?_) | simp [↓Frame.ite])
  · intro h p v
    try simp only [cmdAdcCal]
    repeat' (first | (simp [↓Frame.ite]; done) | split | (with_reducible refine Frame.ite.mpr ⟨fun _ => ?_, fun _ => ?_⟩) | (refine ⟨fun _ => ?_, fun _ => ?_⟩) | (intro _) | (refine Eq.mpr (Frame.each ?_) ?_) | simp [↓Frame.ite])
theorem cmdAdcInject_ok : CmdOk 26215948 cmdAdcInject := by
  constructor
  · intro h p v
    try simp only [cmdAdcInject]
    repeat' (first | (simp [↓Frame.ite]; done) | split | (with_reducible refine Frame.ite.mpr ⟨fun _ => ?_, fun _ => ?_⟩) | (refine ⟨fun _ => ?_, fun _ => ?_⟩) | (intro _) | (refine Eq.mpr (Frame.each ?_) ?_) | simp [↓Frame.ite])
  · intro h p v
    try simp only [cmdAdcInject]
    repeat' (first | (simp [↓Frame.ite]; done) | split | (with_reducible refine Frame.ite.mpr ⟨fun _ => ?_, fun _ => ?_⟩) | (refine ⟨fun _ => ?_, fun _ => ?_⟩) | (intro _) | (refine Eq.mpr (Frame.each ?_) ?_) | simp [↓Frame.ite])
  · intro h p v
    try simp only [cmdAdcInject]
    repeat' (first | (simp [↓Frame.ite]; done) | split | (with_reducible refine Frame.ite.mpr ⟨fun _ => ?_, fun _ => ?_⟩) | (refine ⟨fun _ => ?_, fun _ => ?_⟩) | (intro _) | (refine Eq.mpr (Frame.each ?_) ?_) | simp [↓Frame.ite])
theorem cmdBalShare_ok : CmdOk 25232908 cmdBalShare := by
  constructor
  · intro h p v
    try simp only [cmdBalShare]
    repeat' (first | (simp [↓Frame.ite]; done) | split | (with_reducible refine Frame.ite.mpr ⟨fun _ => ?_, fun _ => ?_⟩) | (refine ⟨fun _ => ?_, fun _ => ?_⟩) | (intro _) | (refine Eq.mpr (Frame.each ?_) ?_) | simp [↓Frame.ite])
  · intro h p v
    try simp only [cmdBalShare]
    repeat' (first | (simp [↓Frame.ite]; done) | split | (with_reducible refine Frame.ite.mpr ⟨fun _ => ?_, fun _ => ?_⟩) | (refine ⟨fun _ => ?_, fun _ => ?_⟩) | (intro _) | (refine Eq.mpr (Frame.each ?_) ?_) | simp [↓Frame.ite])
  · intro h p v
    try simp only [cmdBalShare]
    repeat' (first | (simp [↓Frame.ite]; done) | split | (with_reducible refine Frame.ite.mpr ⟨fun _ => ?_, fun _ => ?_⟩) | (refine ⟨fun _ => ?_, fun _ => ?_⟩) | (intro _) | (refine Eq.mpr (Frame.each ?_) ?_) | simp [↓Frame.ite])
theorem cmdCellAdmit_ok : CmdOk 25171468 cmdCellAdmit := by
  constructor
  · intro h p v
    try simp only [cmdCellAdmit]
    repeat' (first | (simp [↓Frame.ite]; done) | split | (with_reducible refine Frame.ite.mpr ⟨fun _ => ?_, fun _ => ?_⟩) | (refine ⟨fun _ => ?_, fun _ => ?_⟩) | (intro _) | (refine Eq.mpr (Frame.each ?_) ?_) | simp [↓Frame.ite])
  · intro h p v
    try simp only [cmdCellAdmit]
    repeat' (first | (simp [↓Frame.ite]; done) | split | (with_reducible refine Frame.ite.mpr ⟨fun _ => ?_, fun _ => ?_⟩) | (refine ⟨fun _ => ?_, fun _ => ?_⟩) | (intro _) | (refine Eq.mpr (Frame.each ?_) ?_) | simp [↓Frame.ite])
  · intro h p v
    try simp only [cmdCellAdmit]
    repeat' (first | (simp [↓Frame.ite]; done) | split | (with_reducible refine Frame.ite.mpr ⟨fun _ => ?_, fun _ => ?_⟩) | (refine ⟨fun _ => ?_, fun _ => ?_⟩) | (intro _) | (refine Eq.mpr (Frame.each ?_) ?_) | simp [↓Frame.ite])
theorem cmdCellBypass_ok : CmdOk 25171468 cmdCellBypass := by
  constructor
  · intro h p v
    try simp only [cmdCellBypass]
    repeat' (first | (simp [↓Frame.ite]; done) | split | (with_reducible refine Frame.ite.mpr ⟨fun _ => ?_, fun _ => ?_⟩) | (refine ⟨fun _ => ?_, fun _ => ?_⟩) | (intro _) | (refine Eq.mpr (Frame.each ?_) ?_) | simp [↓Frame.ite])
  · intro h p v
    try simp only [cmdCellBypass]
    repeat' (first | (simp [↓Frame.ite]; done) | split | (with_reducible refine Frame.ite.mpr ⟨fun _ => ?_, fun _ => ?_⟩) | (refine ⟨fun _ => ?_, fun _ => ?_⟩) | (intro _) | (refine Eq.mpr (Frame.each ?_) ?_) | simp [↓Frame.ite])
  · intro h p v
    try simp only [cmdCellBypass]
    repeat' (first | (simp [↓Frame.ite]; done) | split | (with_reducible refine Frame.ite.mpr ⟨fun _ => ?_, fun _ => ?_⟩) | (refine ⟨fun _ => ?_, fun _ => ?_⟩) | (intro _) | (refine Eq.mpr (Frame.each ?_) ?_) | simp [↓Frame.ite])
theorem cmdCellExclude_ok : CmdOk 25433612 cmdCellExclude := by
  constructor
  · intro h p v
    try simp only [cmdCellExclude]
    repeat' (first | (simp [↓Frame.ite]; done) | split | (with_reducible refine Frame.ite.mpr ⟨fun _ => ?_, fun _ => ?_⟩) | (refine ⟨fun _ => ?_, fun _ => ?_⟩) | (intro _) | (refine Eq.mpr (Frame.each ?_) ?_) | simp [↓Frame.ite])
  · intro h p v
    try simp only [cmdCellExclude]
    repeat' (first | (simp [↓Frame.ite]; done) | split | (with_reducible refine Frame.ite.mpr ⟨fun _ => ?_, fun _ => ?_⟩) | (refine ⟨fun _ => ?_, fun _ => ?_⟩) | (intro _) | (refine Eq.mpr (Frame.each ?_) ?_) | simp [↓Frame.ite])
  · intro h p v
    try simp only [cmdCellExclude]
    repeat' (first | (simp [↓Frame.ite]; done) | split | (with_reducible refine Frame.ite.mpr ⟨fun _ => ?_, fun _ => ?_⟩) | (refine ⟨fun _ => ?_, fun _ => ?_⟩) | (intro _) | (refine Eq.mpr (Frame.each ?_) ?_) | simp [↓Frame.ite])
theorem cmdCellFwLoad_ok : CmdOk 25171468 cmdCellFwLoad := by
  constructor
  · intro h p v
    try simp only [cmdCellFwLoad]
    repeat' (first | (simp [↓Frame.ite]; done) | split | (with_reducible refine Frame.ite.mpr ⟨fun _ => ?_, fun _ => ?_⟩) | (refine ⟨fun _ => ?_, fun _ => ?_⟩) | (intro _) | (refine Eq.mpr (Frame.each ?_) ?_) | simp [↓Frame.ite])
  · intro h p v
    try simp only [cmdCellFwLoad]
    repeat' (first | (simp [↓Frame.ite]; done) | split | (with_reducible refine Frame.ite.mpr ⟨fun _ => ?_, fun _ => ?_⟩) | (refine ⟨fun _ => ?_, fun _ => ?_⟩) | (intro _) | (refine Eq.mpr (Frame.each ?_) ?_) | simp [↓Frame.ite])
  · intro h p v
    try simp only [cmdCellFwLoad]
    repeat' (first | (simp [↓Frame.ite]; done) | split | (with_reducible refine Frame.ite.mpr ⟨fun _ => ?_, fun _ => ?_⟩) | (refine ⟨fun _ => ?_, fun _ => ?_⟩) | (intro _) | (refine Eq.mpr (Frame.each ?_) ?_) | simp [↓Frame.ite])
theorem cmdCellRejoin_ok : CmdOk 25171468 cmdCellRejoin := by
  constructor
  · intro h p v
    try simp only [cmdCellRejoin]
    repeat' (first | (simp [↓Frame.ite]; done) | split | (with_reducible refine Frame.ite.mpr ⟨fun _ => ?_, fun _ => ?_⟩) | (refine ⟨fun _ => ?_, fun _ => ?_⟩) | (intro _) | (refine Eq.mpr (Frame.each ?_) ?_) | simp [↓Frame.ite])
  · intro h p v
    try simp only [cmdCellRejoin]
    repeat' (first | (simp [↓Frame.ite]; done) | split | (with_reducible refine Frame.ite.mpr ⟨fun _ => ?_, fun _ => ?_⟩) | (refine ⟨fun _ => ?_, fun _ => ?_⟩) | (intro _) | (refine Eq.mpr (Frame.each ?_) ?_) | simp [↓Frame.ite])
  · intro h p v
    try simp only [cmdCellRejoin]
    repeat' (first | (simp [↓Frame.ite]; done) | split | (with_reducible refine Frame.ite.mpr ⟨fun _ => ?_, fun _ => ?_⟩) | (refine ⟨fun _ => ?_, fun _ => ?_⟩) | (intro _) | (refine Eq.mpr (Frame.each ?_) ?_) | simp [↓Frame.ite])
theorem cmdClkTimeLoad_ok : CmdOk 25167500 cmdClkTimeLoad := by
  constructor
  · intro h p v
    try simp only [cmdClkTimeLoad]
    repeat' (first | (simp [↓Frame.ite]; done) | split | (with_reducible refine Frame.ite.mpr ⟨fun _ => ?_, fun _ => ?_⟩) | (refine ⟨fun _ => ?_, fun _ => ?_⟩) | (intro _) | (refine Eq.mpr (Frame.each ?_) ?_) | simp [↓Frame.ite])
  · intro h p v
    try simp only [cmdClkTimeLoad]
    repeat' (first | (simp [↓Frame.ite]; done) | split | (with_reducible refine Frame.ite.mpr ⟨fun _ => ?_, fun _ => ?_⟩) | (refine ⟨fun _ => ?_, fun _ => ?_⟩) | (intro _) | (refine Eq.mpr (Frame.each ?_) ?_) | simp [↓Frame.ite])
  · intro h p v
    try simp only [cmdClkTimeLoad]
    repeat' (first | (simp [↓Frame.ite]; done) | split | (with_reducible refine Frame.ite.mpr ⟨fun _ => ?_, fun _ => ?_⟩) | (refine ⟨fun _ => ?_, fun _ => ?_⟩) | (intro _) | (refine Eq.mpr (Frame.each ?_) ?_) | simp [↓Frame.ite])
theorem cmdCmpCheck_ok : CmdOk 27264524 cmdCmpCheck := by
  constructor
  · intro h p v
    try simp only [cmdCmpCheck]
    repeat' (first | (simp [↓Frame.ite]; done) | split | (with_reducible refine Frame.ite.mpr ⟨fun _ => ?_, fun _ => ?_⟩) | (refine ⟨fun _ => ?_, fun _ => ?_⟩) | (intro _) | (refine Eq.mpr (Frame.each ?_) ?_) | simp [↓Frame.ite])
  · intro h p v
    try simp only [cmdCmpCheck]
    repeat' (first | (simp [↓Frame.ite]; done) | split | (with_reducible refine Frame.ite.mpr ⟨fun _ => ?_, fun _ => ?_⟩) | (refine ⟨fun _ => ?_, fun _ => ?_⟩) | (intro _) | (refine Eq.mpr (Frame.each ?_) ?_) | simp [↓Frame.ite])
  · intro h p v
    try simp only [cmdCmpCheck]
    repeat' (first | (simp [↓Frame.ite]; done) | split | (with_reducible refine Frame.ite.mpr ⟨fun _ => ?_, fun _ => ?_⟩) | (refine ⟨fun _ => ?_, fun _ => ?_⟩) | (intro _) | (refine Eq.mpr (Frame.each ?_) ?_) | simp [↓Frame.ite])
theorem cmdCmpThresh_ok : CmdOk 27264524 cmdCmpThresh := by
  constructor
  · intro h p v
    try simp only [cmdCmpThresh]
    repeat' (first | (simp [↓Frame.ite]; done) | split | (with_reducible refine Frame.ite.mpr ⟨fun _ => ?_, fun _ => ?_⟩) | (refine ⟨fun _ => ?_, fun _ => ?_⟩) | (intro _) | (refine Eq.mpr (Frame.each ?_) ?_) | simp [↓Frame.ite])
  · intro h p v
    try simp only [cmdCmpThresh]
    repeat' (first | (simp [↓Frame.ite]; done) | split | (with_reducible refine Frame.ite.mpr ⟨fun _ => ?_, fun _ => ?_⟩) | (refine ⟨fun _ => ?_, fun _ => ?_⟩) | (intro _) | (refine Eq.mpr (Frame.each ?_) ?_) | simp [↓Frame.ite])
  · intro h p v
    try simp only [cmdCmpThresh]
    repeat' (first | (simp [↓Frame.ite]; done) | split | (with_reducible refine Frame.ite.mpr ⟨fun _ => ?_, fun _ => ?_⟩) | (refine ⟨fun _ => ?_, fun _ => ?_⟩) | (intro _) | (refine Eq.mpr (Frame.each ?_) ?_) | simp [↓Frame.ite])
theorem cmdCoefWrite_ok : CmdOk 25200140 cmdCoefWrite := by
  constructor
  · intro h p v
    try simp only [cmdCoefWrite]
    repeat' (first | (simp [↓Frame.ite]; done) | split | (with_reducible refine Frame.ite.mpr ⟨fun _ => ?_, fun _ => ?_⟩) | (refine ⟨fun _ => ?_, fun _ => ?_⟩) | (intro _) | (refine Eq.mpr (Frame.each ?_) ?_) | simp [↓Frame.ite])
  · intro h p v
    try simp only [cmdCoefWrite]
    repeat' (first | (simp [↓Frame.ite]; done) | split | (with_reducible refine Frame.ite.mpr ⟨fun _ => ?_, fun _ => ?_⟩) | (refine ⟨fun _ => ?_, fun _ => ?_⟩) | (intro _) | (refine Eq.mpr (Frame.each ?_) ?_) | simp [↓Frame.ite])
  · intro h p v
    try simp only [cmdCoefWrite]
    repeat' (first | (simp [↓Frame.ite]; done) | split | (with_reducible refine Frame.ite.mpr ⟨fun _ => ?_, fun _ => ?_⟩) | (refine ⟨fun _ => ?_, fun _ => ?_⟩) | (intro _) | (refine Eq.mpr (Frame.each ?_) ?_) | simp [↓Frame.ite])
theorem cmdEvsMark_ok : CmdOk 25298444 cmdEvsMark := by
  constructor
  · intro h p v
    try simp only [cmdEvsMark]
    repeat' (first | (simp [↓Frame.ite]; done) | split | (with_reducible refine Frame.ite.mpr ⟨fun _ => ?_, fun _ => ?_⟩) | (refine ⟨fun _ => ?_, fun _ => ?_⟩) | (intro _) | (refine Eq.mpr (Frame.each ?_) ?_) | simp [↓Frame.ite])
  · intro h p v
    try simp only [cmdEvsMark]
    repeat' (first | (simp [↓Frame.ite]; done) | split | (with_reducible refine Frame.ite.mpr ⟨fun _ => ?_, fun _ => ?_⟩) | (refine ⟨fun _ => ?_, fun _ => ?_⟩) | (intro _) | (refine Eq.mpr (Frame.each ?_) ?_) | simp [↓Frame.ite])
  · intro h p v
    try simp only [cmdEvsMark]
    repeat' (first | (simp [↓Frame.ite]; done) | split | (with_reducible refine Frame.ite.mpr ⟨fun _ => ?_, fun _ => ?_⟩) | (refine ⟨fun _ => ?_, fun _ => ?_⟩) | (intro _) | (refine Eq.mpr (Frame.each ?_) ?_) | simp [↓Frame.ite])
theorem cmdImgArm_ok : CmdOk 25167628 cmdImgArm := by
  constructor
  · intro h p v
    try simp only [cmdImgArm]
    repeat' (first | (simp [↓Frame.ite]; done) | split | (with_reducible refine Frame.ite.mpr ⟨fun _ => ?_, fun _ => ?_⟩) | (refine ⟨fun _ => ?_, fun _ => ?_⟩) | (intro _) | (refine Eq.mpr (Frame.each ?_) ?_) | simp [↓Frame.ite])
  · intro h p v
    try simp only [cmdImgArm]
    repeat' (first | (simp [↓Frame.ite]; done) | split | (with_reducible refine Frame.ite.mpr ⟨fun _ => ?_, fun _ => ?_⟩) | (refine ⟨fun _ => ?_, fun _ => ?_⟩) | (intro _) | (refine Eq.mpr (Frame.each ?_) ?_) | simp [↓Frame.ite])
  · intro h p v
    try simp only [cmdImgArm]
    repeat' (first | (simp [↓Frame.ite]; done) | split | (with_reducible refine Frame.ite.mpr ⟨fun _ => ?_, fun _ => ?_⟩) | (refine ⟨fun _ => ?_, fun _ => ?_⟩) | (intro _) | (refine Eq.mpr (Frame.each ?_) ?_) | simp [↓Frame.ite])
theorem cmdImgBufClose_ok : CmdOk 25167628 cmdImgBufClose := by
  constructor
  · intro h p v
    try simp only [cmdImgBufClose]
    repeat' (first | (simp [↓Frame.ite]; done) | split | (with_reducible refine Frame.ite.mpr ⟨fun _ => ?_, fun _ => ?_⟩) | (refine ⟨fun _ => ?_, fun _ => ?_⟩) | (intro _) | (refine Eq.mpr (Frame.each ?_) ?_) | simp [↓Frame.ite])
  · intro h p v
    try simp only [cmdImgBufClose]
    repeat' (first | (simp [↓Frame.ite]; done) | split | (with_reducible refine Frame.ite.mpr ⟨fun _ => ?_, fun _ => ?_⟩) | (refine ⟨fun _ => ?_, fun _ => ?_⟩) | (intro _) | (refine Eq.mpr (Frame.each ?_) ?_) | simp [↓Frame.ite])
  · intro h p v
    try simp only [cmdImgBufClose]
    repeat' (first | (simp [↓Frame.ite]; done) | split | (with_reducible refine Frame.ite.mpr ⟨fun _ => ?_, fun _ => ?_⟩) | (refine ⟨fun _ => ?_, fun _ => ?_⟩) | (intro _) | (refine Eq.mpr (Frame.each ?_) ?_) | simp [↓Frame.ite])
theorem cmdImgBufOpen_ok : CmdOk 25200396 cmdImgBufOpen := by
  constructor
  · intro h p v
    try simp only [cmdImgBufOpen]
    repeat' (first | (simp [↓Frame.ite]; done) | split | (with_reducible refine Frame.ite.mpr ⟨fun _ => ?_, fun _ => ?_⟩) | (refine ⟨fun _ => ?_, fun _ => ?_⟩) | (intro _) | (refine Eq.mpr (Frame.each ?_) ?_) | simp [↓Frame.ite])
  · intro h p v
    try simp only [cmdImgBufOpen]
    repeat' (first | (simp [↓Frame.ite]; done) | split | (with_reducible refine Frame.ite.mpr ⟨fun _ => ?_, fun _ => ?_⟩) | (refine ⟨fun _ => ?_, fun _ => ?_⟩) | (intro _) | (refine Eq.mpr (Frame.each ?_) ?_) | simp [↓Frame.ite])
  · intro h p v
    try simp only [cmdImgBufOpen]
    repeat' (first | (simp [↓Frame.ite]; done) | split | (with_reducible refine Frame.ite.mpr ⟨fun _ => ?_, fun _ => ?_⟩) | (refine ⟨fun _ => ?_, fun _ => ?_⟩) | (intro _) | (refine Eq.mpr (Frame.each ?_) ?_) | simp [↓Frame.ite])
theorem cmdImgDisarm_ok : CmdOk 25167628 cmdImgDisarm := by
  constructor
  · intro h p v
    try simp only [cmdImgDisarm]
    repeat' (first | (simp [↓Frame.ite]; done) | split | (with_reducible refine Frame.ite.mpr ⟨fun _ => ?_, fun _ => ?_⟩) | (refine ⟨fun _ => ?_, fun _ => ?_⟩) | (intro _) | (refine Eq.mpr (Frame.each ?_) ?_) | simp [↓Frame.ite])
  · intro h p v
    try simp only [cmdImgDisarm]
    repeat' (first | (simp [↓Frame.ite]; done) | split | (with_reducible refine Frame.ite.mpr ⟨fun _ => ?_, fun _ => ?_⟩) | (refine ⟨fun _ => ?_, fun _ => ?_⟩) | (intro _) | (refine Eq.mpr (Frame.each ?_) ?_) | simp [↓Frame.ite])
  · intro h p v
    try simp only [cmdImgDisarm]
    repeat' (first | (simp [↓Frame.ite]; done) | split | (with_reducible refine Frame.ite.mpr ⟨fun _ => ?_, fun _ => ?_⟩) | (refine ⟨fun _ => ?_, fun _ => ?_⟩) | (intro _) | (refine Eq.mpr (Frame.each ?_) ?_) | simp [↓Frame.ite])
theorem cmdImgFwSwitch_ok : CmdOk 25167628 cmdImgFwSwitch := by
  constructor
  · intro h p v
    try simp only [cmdImgFwSwitch]
    repeat' (first | (simp [↓Frame.ite]; done) | split | (with_reducible refine Frame.ite.mpr ⟨fun _ => ?_, fun _ => ?_⟩) | (refine ⟨fun _ => ?_, fun _ => ?_⟩) | (intro _) | (refine Eq.mpr (Frame.each ?_) ?_) | simp [↓Frame.ite])
  · intro h p v
    try simp only [cmdImgFwSwitch]
    repeat' (first | (simp [↓Frame.ite]; done) | split | (with_reducible refine Frame.ite.mpr ⟨fun _ => ?_, fun _ => ?_⟩) | (refine ⟨fun _ => ?_, fun _ => ?_⟩) | (intro _) | (refine Eq.mpr (Frame.each ?_) ?_) | simp [↓Frame.ite])
  · intro h p v
    try simp only [cmdImgFwSwitch]
    repeat' (first | (simp [↓Frame.ite]; done) | split | (with_reducible refine Frame.ite.mpr ⟨fun _ => ?_, fun _ => ?_⟩) | (refine ⟨fun _ => ?_, fun _ => ?_⟩) | (intro _) | (refine Eq.mpr (Frame.each ?_) ?_) | simp [↓Frame.ite])
theorem cmdImgFwWrite_ok : CmdOk 25298700 cmdImgFwWrite := by
  constructor
  · intro h p v
    try simp only [cmdImgFwWrite]
    repeat' (first | (simp [↓Frame.ite]; done) | split | (with_reducible refine Frame.ite.mpr ⟨fun _ => ?_, fun _ => ?_⟩) | (refine ⟨fun _ => ?_, fun _ => ?_⟩) | (intro _) | (refine Eq.mpr (Frame.each ?_) ?_) | simp [↓Frame.ite])
  · intro h p v
    try simp only [cmdImgFwWrite]
    repeat' (first | (simp [↓Frame.ite]; done) | split | (with_reducible refine Frame.ite.mpr ⟨fun _ => ?_, fun _ => ?_⟩) | (refine ⟨fun _ => ?_, fun _ => ?_⟩) | (intro _) | (refine Eq.mpr (Frame.each ?_) ?_) | simp [↓Frame.ite])
  · intro h p v
    try simp only [cmdImgFwWrite]
    repeat' (first | (simp [↓Frame.ite]; done) | split | (with_reducible refine Frame.ite.mpr ⟨fun _ => ?_, fun _ => ?_⟩) | (refine ⟨fun _ => ?_, fun _ => ?_⟩) | (intro _) | (refine Eq.mpr (Frame.each ?_) ?_) | simp [↓Frame.ite])
theorem cmdImgLoad_ok : CmdOk 25167628 cmdImgLoad := by
  constructor
  · intro h p v
    try simp only [cmdImgLoad]
    repeat' (first | (simp [↓Frame.ite]; done) | split | (with_reducible refine Frame.ite.mpr ⟨fun _ => ?_, fun _ => ?_⟩) | (refine ⟨fun _ => ?_, fun _ => ?_⟩) | (intro _) | (refine Eq.mpr (Frame.each ?_) ?_) | simp [↓Frame.ite])
  · intro h p v
    try simp only [cmdImgLoad]
    repeat' (first | (simp [↓Frame.ite]; done) | split | (with_reducible refine Frame.ite.mpr ⟨fun _ => ?_, fun _ => ?_⟩) | (refine ⟨fun _ => ?_, fun _ => ?_⟩) | (intro _) | (refine Eq.mpr (Frame.each ?_) ?_) | simp [↓Frame.ite])
  · intro h p v
    try simp only [cmdImgLoad]
    repeat' (first | (simp [↓Frame.ite]; done) | split | (with_reducible refine Frame.ite.mpr ⟨fun _ => ?_, fun _ => ?_⟩) | (refine ⟨fun _ => ?_, fun _ => ?_⟩) | (intro _) | (refine Eq.mpr (Frame.each ?_) ?_) | simp [↓Frame.ite])
theorem cmdImgRecheck_ok : CmdOk 25167628 cmdImgRecheck := by
  constructor
  · intro h p v
    try simp only [cmdImgRecheck]
    repeat' (first | (simp [↓Frame.ite]; done) | split | (with_reducible refine Frame.ite.mpr ⟨fun _ => ?_, fun _ => ?_⟩) | (refine ⟨fun _ => ?_, fun _ => ?_⟩) | (intro _) | (refine Eq.mpr (Frame.each ?_) ?_) | simp [↓Frame.ite])
  · intro h p v
    try simp only [cmdImgRecheck]
    repeat' (first | (simp [↓Frame.ite]; done) | split | (with_reducible refine Frame.ite.mpr ⟨fun _ => ?_, fun _ => ?_⟩) | (refine ⟨fun _ => ?_, fun _ => ?_⟩) | (intro _) | (refine Eq.mpr (Frame.each ?_) ?_) | simp [↓Frame.ite])
  · intro h p v
    try simp only [cmdImgRecheck]
    repeat' (first | (simp [↓Frame.ite]; done) | split | (with_reducible refine Frame.ite.mpr ⟨fun _ => ?_, fun _ => ?_⟩) | (refine ⟨fun _ => ?_, fun _ => ?_⟩) | (intro _) | (refine Eq.mpr (Frame.each ?_) ?_) | simp [↓Frame.ite])
theorem cmdImgSetBoot_ok : CmdOk 25298444 cmdImgSetBoot := by
  constructor
  · intro h p v
    try simp only [cmdImgSetBoot]
    repeat' (first | (simp [↓Frame.ite]; done) | split | (with_reducible refine Frame.ite.mpr ⟨fun _ => ?_, fun _ => ?_⟩) | (refine ⟨fun _ => ?_, fun _ => ?_⟩) | (intro _) | (refine Eq.mpr (Frame.each ?_) ?_) | simp [↓Frame.ite])
  · intro h p v
    try simp only [cmdImgSetBoot]
    repeat' (first | (simp [↓Frame.ite]; done) | split | (with_reducible refine Frame.ite.mpr ⟨fun _ => ?_, fun _ => ?_⟩) | (refine ⟨fun _ => ?_, fun _ => ?_⟩) | (intro _) | (refine Eq.mpr (Frame.each ?_) ?_) | simp [↓Frame.ite])
  · intro h p v
    try simp only [cmdImgSetBoot]
    repeat' (first | (simp [↓Frame.ite]; done) | split | (with_reducible refine Frame.ite.mpr ⟨fun _ => ?_, fun _ => ?_⟩) | (refine ⟨fun _ => ?_, fun _ => ?_⟩) | (intro _) | (refine Eq.mpr (Frame.each ?_) ?_) | simp [↓Frame.ite])
theorem cmdImgSlotErase_ok : CmdOk 25167628 cmdImgSlotErase := by
  constructor
  · intro h p v
    try simp only [cmdImgSlotErase]
    repeat' (first | (simp [↓Frame.ite]; done) | split | (with_reducible refine Frame.ite.mpr ⟨fun _ => ?_, fun _ => ?_⟩) | (refine ⟨fun _ => ?_, fun _ => ?_⟩) | (intro _) | (refine Eq.mpr (Frame.each ?_) ?_) | simp [↓Frame.ite])
  · intro h p v
    try simp only [cmdImgSlotErase]
    repeat' (first | (simp [↓Frame.ite]; done) | split | (with_reducible refine Frame.ite.mpr ⟨fun _ => ?_, fun _ => ?_⟩) | (refine ⟨fun _ => ?_, fun _ => ?_⟩) | (intro _) | (refine Eq.mpr (Frame.each ?_) ?_) | simp [↓Frame.ite])
  · intro h p v
    try simp only [cmdImgSlotErase]
    repeat' (first | (simp [↓Frame.ite]; done) | split | (with_reducible refine Frame.ite.mpr ⟨fun _ => ?_, fun _ => ?_⟩) | (refine ⟨fun _ => ?_, fun _ => ?_⟩) | (intro _) | (refine Eq.mpr (Frame.each ?_) ?_) | simp [↓Frame.ite])
theorem cmdImgSlotWrite_ok : CmdOk 25167628 cmdImgSlotWrite := by
  constructor
  · intro h p v
    try simp only [cmdImgSlotWrite]
    repeat' (first | (simp [↓Frame.ite]; done) | split | (with_reducible refine Frame.ite.mpr ⟨fun _ => ?_, fun _ => ?_⟩) | (refine ⟨fun _ => ?_, fun _ => ?_⟩) | (intro _) | (refine Eq.mpr (Frame.each ?_) ?_) | simp [↓Frame.ite])
  · intro h p v
    try simp only [cmdImgSlotWrite]
    repeat' (first | (simp [↓Frame.ite]; done) | split | (with_reducible refine Frame.ite.mpr ⟨fun _ => ?_, fun _ => ?_⟩) | (refine ⟨fun _ => ?_, fun _ => ?_⟩) | (intro _) | (refine Eq.mpr (Frame.each ?_) ?_) | simp [↓Frame.ite])
  · intro h p v
    try simp only [cmdImgSlotWrite]
    repeat' (first | (simp [↓Frame.ite]; done) | split | (with_reducible refine Frame.ite.mpr ⟨fun _ => ?_, fun _ => ?_⟩) | (refine ⟨fun _ => ?_, fun _ => ?_⟩) | (intro _) | (refine Eq.mpr (Frame.each ?_) ?_) | simp [↓Frame.ite])
theorem cmdImgSwap_ok : CmdOk 25167628 cmdImgSwap := by
  constructor
  · intro h p v
    try simp only [cmdImgSwap]
    repeat' (first | (simp [↓Frame.ite]; done) | split | (with_reducible refine Frame.ite.mpr ⟨fun _ => ?_, fun _ => ?_⟩) | (refine ⟨fun _ => ?_, fun _ => ?_⟩) | (intro _) | (refine Eq.mpr (Frame.each ?_) ?_) | simp [↓Frame.ite])
  · intro h p v
    try simp only [cmdImgSwap]
    repeat' (first | (simp [↓Frame.ite]; done) | split | (with_reducible refine Frame.ite.mpr ⟨fun _ => ?_, fun _ => ?_⟩) | (refine ⟨fun _ => ?_, fun _ => ?_⟩) | (intro _) | (refine Eq.mpr (Frame.each ?_) ?_) | simp [↓Frame.ite])
  · intro h p v
    try simp only [cmdImgSwap]
    repeat' (first | (simp [↓Frame.ite]; done) | split | (with_reducible refine Frame.ite.mpr ⟨fun _ => ?_, fun _ => ?_⟩) | (refine ⟨fun _ => ?_, fun _ => ?_⟩) | (intro _) | (refine Eq.mpr (Frame.each ?_) ?_) | simp [↓Frame.ite])
theorem cmdKeepalive_ok : CmdOk 25167372 cmdKeepalive := by
  constructor
  · intro h p v
    try simp only [cmdKeepalive]
    repeat' (first | (simp [↓Frame.ite]; done) | split | (with_reducible refine Frame.ite.mpr ⟨fun _ => ?_, fun _ => ?_⟩) | (refine ⟨fun _ => ?_, fun _ => ?_⟩) | (intro _) | (refine Eq.mpr (Frame.each ?_) ?_) | simp [↓Frame.ite])
  · intro h p v
    try simp only [cmdKeepalive]
    repeat' (first | (simp [↓Frame.ite]; done) | split | (with_reducible refine Frame.ite.mpr ⟨fun _ => ?_, fun _ => ?_⟩) | (refine ⟨fun _ => ?_, fun _ => ?_⟩) | (intro _) | (refine Eq.mpr (Frame.each ?_) ?_) | simp [↓Frame.ite])
  · intro h p v
    try simp only [cmdKeepalive]
    repeat' (first | (simp [↓Frame.ite]; done) | split | (with_reducible refine Frame.ite.mpr ⟨fun _ => ?_, fun _ => ?_⟩) | (refine ⟨fun _ => ?_, fun _ => ?_⟩) | (intro _) | (refine Eq.mpr (Frame.each ?_) ?_) | simp [↓Frame.ite])
theorem cmdLaneRetrain_ok : CmdOk 25169420 cmdLaneRetrain := by
  constructor
  · intro h p v
    try simp only [cmdLaneRetrain]
    repeat' (first | (simp [↓Frame.ite]; done) | split | (with_reducible refine Frame.ite.mpr ⟨fun _ => ?_, fun _ => ?_⟩) | (refine ⟨fun _ => ?_, fun _ => ?_⟩) | (intro _) | (refine Eq.mpr (Frame.each ?_) ?_) | simp [↓Frame.ite])
  · intro h p v
    try simp only [cmdLaneRetrain]
    repeat' (first | (simp [↓Frame.ite]; done) | split | (with_reducible refine Frame.ite.mpr ⟨fun _ => ?_, fun _ => ?_⟩) | (refine ⟨fun _ => ?_, fun _ => ?_⟩) | (intro _) | (refine Eq.mpr (Frame.each ?_) ?_) | simp [↓Frame.ite])
  · intro h p v
    try simp only [cmdLaneRetrain]
    repeat' (first | (simp [↓Frame.ite]; done) | split | (with_reducible refine Frame.ite.mpr ⟨fun _ => ?_, fun _ => ?_⟩) | (refine ⟨fun _ => ?_, fun _ => ?_⟩) | (intro _) | (refine Eq.mpr (Frame.each ?_) ?_) | simp [↓Frame.ite])
theorem cmdLaneSleep_ok : CmdOk 25169420 cmdLaneSleep := by
  constructor
  · intro h p v
    try simp only [cmdLaneSleep]
    repeat' (first | (simp [↓Frame.ite]; done) | split | (with_reducible refine Frame.ite.mpr ⟨fun _ => ?_, fun _ => ?_⟩) | (refine ⟨fun _ => ?_, fun _ => ?_⟩) | (intro _) | (refine Eq.mpr (Frame.each ?_) ?_) | simp [↓Frame.ite])
  · intro h p v
    try simp only [cmdLaneSleep]
    repeat' (first | (simp [↓Frame.ite]; done) | split | (with_reducible refine Frame.ite.mpr ⟨fun _ => ?_, fun _ => ?_⟩) | (refine ⟨fun _ => ?_, fun _ => ?_⟩) | (intro _) | (refine Eq.mpr (Frame.each ?_) ?_) | simp [↓Frame.ite])
  · intro h p v
    try simp only [cmdLaneSleep]
    repeat' (first | (simp [↓Frame.ite]; done) | split | (with_reducible refine Frame.ite.mpr ⟨fun _ => ?_, fun _ => ?_⟩) | (refine ⟨fun _ => ?_, fun _ => ?_⟩) | (intro _) | (refine Eq.mpr (Frame.each ?_) ?_) | simp [↓Frame.ite])
theorem cmdLaneTest_ok : CmdOk 25169420 cmdLaneTest := by
  constructor
  · intro h p v
    try simp only [cmdLaneTest]
    repeat' (first | (simp [↓Frame.ite]; done) | split | (with_reducible refine Frame.ite.mpr ⟨fun _ => ?_, fun _ => ?_⟩) | (refine ⟨fun _ => ?_, fun _ => ?_⟩) | (intro _) | (refine Eq.mpr (Frame.each ?_) ?_) | simp [↓Frame.ite])
  · intro h p v
    try simp only [cmdLaneTest]
    repeat' (first | (simp [↓Frame.ite]; done) | split | (with_reducible refine Frame.ite.mpr ⟨fun _ => ?_, fun _ => ?_⟩) | (refine ⟨fun _ => ?_, fun _ => ?_⟩) | (intro _) | (refine Eq.mpr (Frame.each ?_) ?_) | simp [↓Frame.ite])
  · intro h p v
    try simp only [cmdLaneTest]
    repeat' (first | (simp [↓Frame.ite]; done) | split | (with_reducible refine Frame.ite.mpr ⟨fun _ => ?_, fun _ => ?_⟩) | (refine ⟨fun _ => ?_, fun _ => ?_⟩) | (intro _) | (refine Eq.mpr (Frame.each ?_) ?_) | simp [↓Frame.ite])
theorem cmdLaneWake_ok : CmdOk 25169420 cmdLaneWake := by
  constructor
  · intro h p v
    try simp only [cmdLaneWake]
    repeat' (first | (simp [↓Frame.ite]; done) | split | (with_reducible refine Frame.ite.mpr ⟨fun _ => ?_, fun _ => ?_⟩) | (refine ⟨fun _ => ?_, fun _ => ?_⟩) | (intro _) | (refine Eq.mpr (Frame.each ?_) ?_) | simp [↓Frame.ite])
  · intro h p v
    try simp only [cmdLaneWake]
    repeat' (first | (simp [↓Frame.ite]; done) | split | (with_reducible refine Frame.ite.mpr ⟨fun _ => ?_, fun _ => ?_⟩) | (refine ⟨fun _ => ?_, fun _ => ?_⟩) | (intro _) | (refine Eq.mpr (Frame.each ?_) ?_) | simp [↓Frame.ite])
  · intro h p v
    try simp only [cmdLaneWake]
    repeat' (first | (simp [↓Frame.ite]; done) | split | (with_reducible refine Frame.ite.mpr ⟨fun _ => ?_, fun _ => ?_⟩) | (refine ⟨fun _ => ?_, fun _ => ?_⟩) | (intro _) | (refine Eq.mpr (Frame.each ?_) ?_) | simp [↓Frame.ite])
theorem cmdLoopClose_ok : CmdOk 25200140 cmdLoopClose := by
  constructor
  · intro h p v
    try simp only [cmdLoopClose]
    repeat' (first | (simp [↓Frame.ite]; done) | split | (with_reducible refine Frame.ite.mpr ⟨fun _ => ?_, fun _ => ?_⟩) | (refine ⟨fun _ => ?_, fun _ => ?_⟩) | (intro _) | (refine Eq.mpr (Frame.each ?_) ?_) | simp [↓Frame.ite])
  · intro h p v
    try simp only [cmdLoopClose]
    repeat' (first | (simp [↓Frame.ite]; done) | split | (with_reducible refine Frame.ite.mpr ⟨fun _ => ?_, fun _ => ?_⟩) | (refine ⟨fun _ => ?_, fun _ => ?_⟩) | (intro _) | (refine Eq.mpr (Frame.each ?_) ?_) | simp [↓Frame.ite])
  · intro h p v
    try simp only [cmdLoopClose]
    repeat' (first | (simp [↓Frame.ite]; done) | split | (with_reducible refine Frame.ite.mpr ⟨fun _ => ?_, fun _ => ?_⟩) | (refine ⟨fun _ => ?_, fun _ => ?_⟩) | (intro _) | (refine Eq.mpr (Frame.each ?_) ?_) | simp [↓Frame.ite])
theorem cmdLoopManual_ok : CmdOk 25200140 cmdLoopManual := by
  constructor
  · intro h p v
    try simp only [cmdLoopManual]
    repeat' (first | (simp [↓Frame.ite]; done) | split | (with_reducible refine Frame.ite.mpr ⟨fun _ => ?_, fun _ => ?_⟩) | (refine ⟨fun _ => ?_, fun _ => ?_⟩) | (intro _) | (refine Eq.mpr (Frame.each ?_) ?_) | simp [↓Frame.ite])
  · intro h p v
    try simp only [cmdLoopManual]
    repeat' (first | (simp [↓Frame.ite]; done) | split | (with_reducible refine Frame.ite.mpr ⟨fun _ => ?_, fun _ => ?_⟩) | (refine ⟨fun _ => ?_, fun _ => ?_⟩) | (intro _) | (refine Eq.mpr (Frame.each ?_) ?_) | simp [↓Frame.ite])
  · intro h p v
    try simp only [cmdLoopManual]
    repeat' (first | (simp [↓Frame.ite]; done) | split | (with_reducible refine Frame.ite.mpr ⟨fun _ => ?_, fun _ => ?_⟩) | (refine ⟨fun _ => ?_, fun _ => ?_⟩) | (intro _) | (refine Eq.mpr (Frame.each ?_) ?_) | simp [↓Frame.ite])
theorem cmdLoopOpen_ok : CmdOk 25200140 cmdLoopOpen := by
  constructor
  · intro h p v
    try simp only [cmdLoopOpen]
    repeat' (first | (simp [↓Frame.ite]; done) | split | (with_reducible refine Frame.ite.mpr ⟨fun _ => ?_, fun _ => ?_⟩) | (refine ⟨fun _ => ?_, fun _ => ?_⟩) | (intro _) | (refine Eq.mpr (Frame.each ?_) ?_) | simp [↓Frame.ite])
  · intro h p v
    try simp only [cmdLoopOpen]
    repeat' (first | (simp [↓Frame.ite]; done) | split | (with_reducible refine Frame.ite.mpr ⟨fun _ => ?_, fun _ => ?_⟩) | (refine ⟨fun _ => ?_, fun _ => ?_⟩) | (intro _) | (refine Eq.mpr (Frame.each ?_) ?_) | simp [↓Frame.ite])
  · intro h p v
    try simp only [cmdLoopOpen]
    repeat' (first | (simp [↓Frame.ite]; done) | split | (with_reducible refine Frame.ite.mpr ⟨fun _ => ?_, fun _ => ?_⟩) | (refine ⟨fun _ => ?_, fun _ => ?_⟩) | (intro _) | (refine Eq.mpr (Frame.each ?_) ?_) | simp [↓Frame.ite])
theorem cmdMeshBarrier_ok : CmdOk 25167372 cmdMeshBarrier := by
  constructor
  · intro h p v
    try simp only [cmdMeshBarrier]
    repeat' (first | (simp [↓Frame.ite]; done) | split | (with_reducible refine Frame.ite.mpr ⟨fun _ => ?_, fun _ => ?_⟩) | (refine ⟨fun _ => ?_, fun _ => ?_⟩) | (intro _) | (refine Eq.mpr (Frame.each ?_) ?_) | simp [↓Frame.ite])
  · intro h p v
    try simp only [cmdMeshBarrier]
    repeat' (first | (simp [↓Frame.ite]; done) | split | (with_reducible refine Frame.ite.mpr ⟨fun _ => ?_, fun _ => ?_⟩) | (refine ⟨fun _ => ?_, fun _ => ?_⟩) | (intro _) | (refine Eq.mpr (Frame.each ?_) ?_) | simp [↓Frame.ite])
  · intro h p v
    try simp only [cmdMeshBarrier]
    repeat' (first | (simp [↓Frame.ite]; done) | split | (with_reducible refine Frame.ite.mpr ⟨fun _ => ?_, fun _ => ?_⟩) | (refine ⟨fun _ => ?_, fun _ => ?_⟩) | (intro _) | (refine Eq.mpr (Frame.each ?_) ?_) | simp [↓Frame.ite])
theorem cmdMeshBcastReg_ok : CmdOk 369098734 cmdMeshBcastReg := by
  constructor
  · intro h p v
    try simp only [cmdMeshBcastReg]
    repeat' (first | (simp [↓Frame.ite]; done) | split | (with_reducible refine Frame.ite.mpr ⟨fun _ => ?_, fun _ => ?_⟩) | (refine ⟨fun _ => ?_, fun _ => ?_⟩) | (intro _) | (refine Eq.mpr (Frame.each ?_) ?_) | simp [↓Frame.ite])
  · intro h p v
    try simp only [cmdMeshBcastReg]
    repeat' (first | (simp [↓Frame.ite]; done) | split | (with_reducible refine Frame.ite.mpr ⟨fun _ => ?_, fun _ => ?_⟩) | (refine ⟨fun _ => ?_, fun _ => ?_⟩) | (intro _) | (refine Eq.mpr (Frame.each ?_) ?_) | simp [↓Frame.ite])
  · intro h p v
    try simp only [cmdMeshBcastReg]
    repeat' (first | (simp [↓Frame.ite]; done) | split | (with_reducible refine Frame.ite.mpr ⟨fun _ => ?_, fun _ => ?_⟩) | (refine ⟨fun _ => ?_, fun _ => ?_⟩) | (intro _) | (refine Eq.mpr (Frame.each ?_) ?_) | simp [↓Frame.ite])
theorem cmdMeshBind_ok : CmdOk 25167372 cmdMeshBind := by
  constructor
  · intro h p v
    try simp only [cmdMeshBind]
    repeat' (first | (simp [↓Frame.ite]; done) | split | (with_reducible refine Frame.ite.mpr ⟨fun _ => ?_, fun _ => ?_⟩) | (refine ⟨fun _ => ?_, fun _ => ?_⟩) | (intro _) | (refine Eq.mpr (Frame.each ?_) ?_) | simp [↓Frame.ite])
  · intro h p v
    try simp only [cmdMeshBind]
    repeat' (first | (simp [↓Frame.ite]; done) | split | (with_reducible refine Frame.ite.mpr ⟨fun _ => ?_, fun _ => ?_⟩) | (refine ⟨fun _ => ?_, fun _ => ?_⟩) | (intro _) | (refine Eq.mpr (Frame.each ?_) ?_) | simp [↓Frame.ite])
  · intro h p v
    try simp only [cmdMeshBind]
    repeat' (first | (simp [↓Frame.ite]; done) | split | (with_reducible refine Frame.ite.mpr ⟨fun _ => ?_, fun _ => ?_⟩) | (refine ⟨fun _ => ?_, fun _ => ?_⟩) | (intro _) | (refine Eq.mpr (Frame.each ?_) ?_) | simp [↓Frame.ite])
theorem cmdMeshReset_ok : CmdOk 25167372 cmdMeshReset := by
  constructor
  · intro h p v
    try simp only [cmdMeshReset]
    repeat' (first | (simp [↓Frame.ite]; done) | split | (with_reducible refine Frame.ite.mpr ⟨fun _ => ?_, fun _ => ?_⟩) | (refine ⟨fun _ => ?_, fun _ => ?_⟩) | (intro _) | (refine Eq.mpr (Frame.each ?_) ?_) | simp [↓Frame.ite])
  · intro h p v
    try simp only [cmdMeshReset]
    repeat' (first | (simp [↓Frame.ite]; done) | split | (with_reducible refine Frame.ite.mpr ⟨fun _ => ?_, fun _ => ?_⟩) | (refine ⟨fun _ => ?_, fun _ => ?_⟩) | (intro _) | (refine Eq.mpr (Frame.each ?_) ?_) | simp [↓Frame.ite])
  · intro h p v
    try simp only [cmdMeshReset]
    repeat' (first | (simp [↓Frame.ite]; done) | split | (with_reducible refine Frame.ite.mpr ⟨fun _ => ?_, fun _ => ?_⟩) | (refine ⟨fun _ => ?_, fun _ => ?_⟩) | (intro _) | (refine Eq.mpr (Frame.each ?_) ?_) | simp [↓Frame.ite])
theorem cmdMeshSnapshot_ok : CmdOk 25167372 cmdMeshSnapshot := by
  constructor
  · intro h p v
    try simp only [cmdMeshSnapshot]
    repeat' (first | (simp [↓Frame.ite]; done) | split | (with_reducible refine Frame.ite.mpr ⟨fun _ => ?_, fun _ => ?_⟩) | (refine ⟨fun _ => ?_, fun _ => ?_⟩) | (intro _) | (refine Eq.mpr (Frame.each ?_) ?_) | simp [↓Frame.ite])
  · intro h p v
    try simp only [cmdMeshSnapshot]
    repeat' (first | (simp [↓Frame.ite]; done) | split | (with_reducible refine Frame.ite.mpr ⟨fun _ => ?_, fun _ => ?_⟩) | (refine ⟨fun _ => ?_, fun _ => ?_⟩) | (intro _) | (refine Eq.mpr (Frame.each ?_) ?_) | simp [↓Frame.ite])
  · intro h p v
    try simp only [cmdMeshSnapshot]
    repeat' (first | (simp [↓Frame.ite]; done) | split | (with_reducible refine Frame.ite.mpr ⟨fun _ => ?_, fun _ => ?_⟩) | (refine ⟨fun _ => ?_, fun _ => ?_⟩) | (intro _) | (refine Eq.mpr (Frame.each ?_) ?_) | simp [↓Frame.ite])
theorem cmdModeLossClear_ok : CmdOk 25429516 cmdModeLossClear := by
  constructor
  · intro h p v
    try simp only [cmdModeLossClear]
    repeat' (first | (simp [↓Frame.ite]; done) | split | (with_reducible refine Frame.ite.mpr ⟨fun _ => ?_, fun _ => ?_⟩) | (refine ⟨fun _ => ?_, fun _ => ?_⟩) | (intro _) | (refine Eq.mpr (Frame.each ?_) ?_) | simp [↓Frame.ite])
  · intro h p v
    try simp only [cmdModeLossClear]
    repeat' (first | (simp [↓Frame.ite]; done) | split | (with_reducible refine Frame.ite.mpr ⟨fun _ => ?_, fun _ => ?_⟩) | (refine ⟨fun _ => ?_, fun _ => ?_⟩) | (intro _) | (refine Eq.mpr (Frame.each ?_) ?_) | simp [↓Frame.ite])
  · intro h p v
    try simp only [cmdModeLossClear]
    repeat' (first | (simp [↓Frame.ite]; done) | split | (with_reducible refine Frame.ite.mpr ⟨fun _ => ?_, fun _ => ?_⟩) | (refine ⟨fun _ => ?_, fun _ => ?_⟩) | (intro _) | (refine Eq.mpr (Frame.each ?_) ?_) | simp [↓Frame.ite])
theorem cmdModeSet_ok : CmdOk 25691660 cmdModeSet := by
  constructor
  · intro h p v
    try simp only [cmdModeSet]
    repeat' (first | (simp [↓Frame.ite]; done) | split | (with_reducible refine Frame.ite.mpr ⟨fun _ => ?_, fun _ => ?_⟩) | (refine ⟨fun _ => ?_, fun _ => ?_⟩) | (intro _) | (refine Eq.mpr (Frame.each ?_) ?_) | simp [↓Frame.ite])
  · intro h p v
    try simp only [cmdModeSet]
    repeat' (first | (simp [↓Frame.ite]; done) | split | (with_reducible refine Frame.ite.mpr ⟨fun _ => ?_, fun _ => ?_⟩) | (refine ⟨fun _ => ?_, fun _ => ?_⟩) | (intro _) | (refine Eq.mpr (Frame.each ?_) ?_) | simp [↓Frame.ite])
  · intro h p v
    try simp only [cmdModeSet]
    repeat' (first | (simp [↓Frame.ite]; done) | split | (with_reducible refine Frame.ite.mpr ⟨fun _ => ?_, fun _ => ?_⟩) | (refine ⟨fun _ => ?_, fun _ => ?_⟩) | (intro _) | (refine Eq.mpr (Frame.each ?_) ?_) | simp [↓Frame.ite])
theorem cmdOvlSet_ok : CmdOk 28917260 cmdOvlSet := by
  constructor
  · intro h p v
    try simp only [cmdOvlSet]
    repeat' (first | (simp [↓Frame.ite]; done) | split | (with_reducible refine Frame.ite.mpr ⟨fun _ => ?_, fun _ => ?_⟩) | (refine ⟨fun _ => ?_, fun _ => ?_⟩) | (intro _) | (refine Eq.mpr (Frame.each ?_) ?_) | simp [↓Frame.ite])
  · intro h p v
    try simp only [cmdOvlSet]
    repeat' (first | (simp [↓Frame.ite]; done) | split | (with_reducible refine Frame.ite.mpr ⟨fun _ => ?_, fun _ => ?_⟩) | (refine ⟨fun _ => ?_, fun _ => ?_⟩) | (intro _) | (refine Eq.mpr (Frame.each ?_) ?_) | simp [↓Frame.ite])
  · intro h p v
    try simp only [cmdOvlSet]
    repeat' (first | (simp [↓Frame.ite]; done) | split | (with_reducible refine Frame.ite.mpr ⟨fun _ => ?_, fun _ => ?_⟩) | (refine ⟨fun _ => ?_, fun _ => ?_⟩) | (intro _) | (refine Eq.mpr (Frame.each ?_) ?_) | simp [↓Frame.ite])
theorem cmdPairFailback_ok : CmdOk 25167372 cmdPairFailback := by
  constructor
  · intro h p v
    try simp only [cmdPairFailback]
    repeat' (first | (simp [↓Frame.ite]; done) | split | (with_reducible refine Frame.ite.mpr ⟨fun _ => ?_, fun _ => ?_⟩) | (refine ⟨fun _ => ?_, fun _ => ?_⟩) | (intro _) | (refine Eq.mpr (Frame.each ?_) ?_) | simp [↓Frame.ite])
  · intro h p v
    try simp only [cmdPairFailback]
    repeat' (first | (simp [↓Frame.ite]; done) | split | (with_reducible refine Frame.ite.mpr ⟨fun _ => ?_, fun _ => ?_⟩) | (refine ⟨fun _ => ?_, fun _ => ?_⟩) | (intro _) | (refine Eq.mpr (Frame.each ?_) ?_) | simp [↓Frame.ite])
  · intro h p v
    try simp only [cmdPairFailback]
    repeat' (first | (simp [↓Frame.ite]; done) | split | (with_reducible refine Frame.ite.mpr ⟨fun _ => ?_, fun _ => ?_⟩) | (refine ⟨fun _ => ?_, fun _ => ?_⟩) | (intro _) | (refine Eq.mpr (Frame.each ?_) ?_) | simp [↓Frame.ite])
theorem cmdPairResync_ok : CmdOk 25167372 cmdPairResync := by
  constructor
  · intro h p v
    try simp only [cmdPairResync]
    repeat' (first | (simp [↓Frame.ite]; done) | split | (with_reducible refine Frame.ite.mpr ⟨fun _ => ?_, fun _ => ?_⟩) | (refine ⟨fun _ => ?_, fun _ => ?_⟩) | (intro _) | (refine Eq.mpr (Frame.each ?_) ?_) | simp [↓Frame.ite])
  · intro h p v
    try simp only [cmdPairResync]
    repeat' (first | (simp [↓Frame.ite]; done) | split | (with_reducible refine Frame.ite.mpr ⟨fun _ => ?_, fun _ => ?_⟩) | (refine ⟨fun _ => ?_, fun _ => ?_⟩) | (intro _) | (refine Eq.mpr (Frame.each ?_) ?_) | simp [↓Frame.ite])
  · intro h p v
    try simp only [cmdPairResync]
    repeat' (first | (simp [↓Frame.ite]; done) | split | (with_reducible refine Frame.ite.mpr ⟨fun _ => ?_, fun _ => ?_⟩) | (refine ⟨fun _ => ?_, fun _ => ?_⟩) | (intro _) | (refine Eq.mpr (Frame.each ?_) ?_) | simp [↓Frame.ite])
theorem cmdPairSwitch_ok : CmdOk 25167372 cmdPairSwitch := by
  constructor
  · intro h p v
    try simp only [cmdPairSwitch]
    repeat' (first | (simp [↓Frame.ite]; done) | split | (with_reducible refine Frame.ite.mpr ⟨fun _ => ?_, fun _ => ?_⟩) | (refine ⟨fun _ => ?_, fun _ => ?_⟩) | (intro _) | (refine Eq.mpr (Frame.each ?_) ?_) | simp [↓Frame.ite])
  · intro h p v
    try simp only [cmdPairSwitch]
    repeat' (first | (simp [↓Frame.ite]; done) | split | (with_reducible refine Frame.ite.mpr ⟨fun _ => ?_, fun _ => ?_⟩) | (refine ⟨fun _ => ?_, fun _ => ?_⟩) | (intro _) | (refine Eq.mpr (Frame.each ?_) ?_) | simp [↓Frame.ite])
  · intro h p v
    try simp only [cmdPairSwitch]
    repeat' (first | (simp [↓Frame.ite]; done) | split | (with_reducible refine Frame.ite.mpr ⟨fun _ => ?_, fun _ => ?_⟩) | (refine ⟨fun _ => ?_, fun _ => ?_⟩) | (intro _) | (refine Eq.mpr (Frame.each ?_) ?_) | simp [↓Frame.ite])
theorem cmdRcCtl_ok : CmdOk 25200140 cmdRcCtl := by
  constructor
  · intro h p v
    try simp only [cmdRcCtl]
    repeat' (first | (simp [↓Frame.ite]; done) | split | (with_reducible refine Frame.ite.mpr ⟨fun _ => ?_, fun _ => ?_⟩) | (refine ⟨fun _ => ?_, fun _ => ?_⟩) | (intro _) | (refine Eq.mpr (Frame.each ?_) ?_) | simp [↓Frame.ite])
  · intro h p v
    try simp only [cmdRcCtl]
    repeat' (first | (simp [↓Frame.ite]; done) | split | (with_reducible refine Frame.ite.mpr ⟨fun _ => ?_, fun _ => ?_⟩) | (refine ⟨fun _ => ?_, fun _ => ?_⟩) | (intro _) | (refine Eq.mpr (Frame.each ?_) ?_) | simp [↓Frame.ite])
  · intro h p v
    try simp only [cmdRcCtl]
    repeat' (first | (simp [↓Frame.ite]; done) | split | (with_reducible refine Frame.ite.mpr ⟨fun _ => ?_, fun _ => ?_⟩) | (refine ⟨fun _ => ?_, fun _ => ?_⟩) | (intro _) | (refine Eq.mpr (Frame.each ?_) ?_) | simp [↓Frame.ite])
theorem cmdRefCommit_ok : CmdOk 25175564 cmdRefCommit := by
  constructor
  · intro h p v
    try simp only [cmdRefCommit]
    repeat' (first | (simp [↓Frame.ite]; done) | split | (with_reducible refine Frame.ite.mpr ⟨fun _ => ?_, fun _ => ?_⟩) | (refine ⟨fun _ => ?_, fun _ => ?_⟩) | (intro _) | (refine Eq.mpr (Frame.each ?_) ?_) | simp [↓Frame.ite])
  · intro h p v
    try simp only [cmdRefCommit]
    repeat' (first | (simp [↓Frame.ite]; done) | split | (with_reducible refine Frame.ite.mpr ⟨fun _ => ?_, fun _ => ?_⟩) | (refine ⟨fun _ => ?_, fun _ => ?_⟩) | (intro _) | (refine Eq.mpr (Frame.each ?_) ?_) | simp [↓Frame.ite])
  · intro h p v
    try simp only [cmdRefCommit]
    repeat' (first | (simp [↓Frame.ite]; done) | split | (with_reducible refine Frame.ite.mpr ⟨fun _ => ?_, fun _ => ?_⟩) | (refine ⟨fun _ => ?_, fun _ => ?_⟩) | (intro _) | (refine Eq.mpr (Frame.each ?_) ?_) | simp [↓Frame.ite])
theorem cmdRefDiscard_ok : CmdOk 25175564 cmdRefDiscard := by
  constructor
  · intro h p v
    try simp only [cmdRefDiscard]
    repeat' (first | (simp [↓Frame.ite]; done) | split | (with_reducible refine Frame.ite.mpr ⟨fun _ => ?_, fun _ => ?_⟩) | (refine ⟨fun _ => ?_, fun _ => ?_⟩) | (intro _) | (refine Eq.mpr (Frame.each ?_) ?_) | simp [↓Frame.ite])
  · intro h p v
    try simp only [cmdRefDiscard]
    repeat' (first | (simp [↓Frame.ite]; done) | split | (with_reducible refine Frame.ite.mpr ⟨fun _ => ?_, fun _ => ?_⟩) | (refine ⟨fun _ => ?_, fun _ => ?_⟩) | (intro _) | (refine Eq.mpr (Frame.each ?_) ?_) | simp [↓Frame.ite])
  · intro h p v
    try simp only [cmdRefDiscard]
    repeat' (first | (simp [↓Frame.ite]; done) | split | (with_reducible refine Frame.ite.mpr ⟨fun _ => ?_, fun _ => ?_⟩) | (refine ⟨fun _ => ?_, fun _ => ?_⟩) | (intro _) | (refine Eq.mpr (Frame.each ?_) ?_) | simp [↓Frame.ite])
theorem cmdRefStage_ok : CmdOk 25175564 cmdRefStage := by
  constructor
  · intro h p v
    try simp only [cmdRefStage]
    repeat' (first | (simp [↓Frame.ite]; done) | split | (with_reducible refine Frame.ite.mpr ⟨fun _ => ?_, fun _ => ?_⟩) | (refine ⟨fun _ => ?_, fun _ => ?_⟩) | (intro _) | (refine Eq.mpr (Frame.each ?_) ?_) | simp [↓Frame.ite])
  · intro h p v
    try simp only [cmdRefStage]
    repeat' (first | (simp [↓Frame.ite]; done) | split | (with_reducible refine Frame.ite.mpr ⟨fun _ => ?_, fun _ => ?_⟩) | (refine ⟨fun _ => ?_, fun _ => ?_⟩) | (intro _) | (refine Eq.mpr (Frame.each ?_) ?_) | simp [↓Frame.ite])
  · intro h p v
    try simp only [cmdRefStage]
    repeat' (first | (simp [↓Frame.ite]; done) | split | (with_reducible refine Frame.ite.mpr ⟨fun _ => ?_, fun _ => ?_⟩) | (refine ⟨fun _ => ?_, fun _ => ?_⟩) | (intro _) | (refine Eq.mpr (Frame.each ?_) ?_) | simp [↓Frame.ite])
theorem cmdRegWrite_ok : CmdOk 369098734 cmdRegWrite := by
  constructor
  · intro h p v
    simp only [cmdRegWrite]
    split
    · rename_i r e
      have hr := State.regAt_ok v h.src (field p 0 4)
      have := hr r e
      have hk : RegOk 369098734 r := by
        refine ⟨?_, fun f e s => (this.rd f e s).widen rfl, fun v f e s => (this.narrow v f e s).widen rfl⟩
        have hw := this.wr
        revert hw
        cases r.wr <;> intro hw <;> first | trivial | exact fun v s => (hw v s).widen rfl | exact fun a b v s => (hw a b v s).widen rfl
      exact Eq.mpr (State.regPut_frame hk rfl) (by simp)
    · simp
  · intro h p v
    simp only [cmdRegWrite]
    exact Frame.ite.mpr ⟨fun _ => by simp, fun _ => Frame.ite.mpr ⟨fun _ => by simp, fun _ => by simp⟩⟩
  · intro h p v
    simp only [cmdRegWrite]
    exact Frame.ite.mpr ⟨fun _ => by simp, fun _ => Frame.ite.mpr ⟨fun _ => by simp, fun _ => by simp⟩⟩
theorem cmdReleaseControl_ok : CmdOk 25691660 cmdReleaseControl := by
  constructor
  · intro h p v
    try simp only [cmdReleaseControl]
    repeat' (first | (simp [↓Frame.ite]; done) | split | (with_reducible refine Frame.ite.mpr ⟨fun _ => ?_, fun _ => ?_⟩) | (refine ⟨fun _ => ?_, fun _ => ?_⟩) | (intro _) | (refine Eq.mpr (Frame.each ?_) ?_) | simp [↓Frame.ite])
  · intro h p v
    try simp only [cmdReleaseControl]
    repeat' (first | (simp [↓Frame.ite]; done) | split | (with_reducible refine Frame.ite.mpr ⟨fun _ => ?_, fun _ => ?_⟩) | (refine ⟨fun _ => ?_, fun _ => ?_⟩) | (intro _) | (refine Eq.mpr (Frame.each ?_) ?_) | simp [↓Frame.ite])
  · intro h p v
    try simp only [cmdReleaseControl]
    repeat' (first | (simp [↓Frame.ite]; done) | split | (with_reducible refine Frame.ite.mpr ⟨fun _ => ?_, fun _ => ?_⟩) | (refine ⟨fun _ => ?_, fun _ => ?_⟩) | (intro _) | (refine Eq.mpr (Frame.each ?_) ?_) | simp [↓Frame.ite])
theorem cmdResume_ok : CmdOk 25167372 cmdResume := by
  constructor
  · intro h p v
    try simp only [cmdResume]
    repeat' (first | (simp [↓Frame.ite]; done) | split | (with_reducible refine Frame.ite.mpr ⟨fun _ => ?_, fun _ => ?_⟩) | (refine ⟨fun _ => ?_, fun _ => ?_⟩) | (intro _) | (refine Eq.mpr (Frame.each ?_) ?_) | simp [↓Frame.ite])
  · intro h p v
    try simp only [cmdResume]
    repeat' (first | (simp [↓Frame.ite]; done) | split | (with_reducible refine Frame.ite.mpr ⟨fun _ => ?_, fun _ => ?_⟩) | (refine ⟨fun _ => ?_, fun _ => ?_⟩) | (intro _) | (refine Eq.mpr (Frame.each ?_) ?_) | simp [↓Frame.ite])
  · intro h p v
    try simp only [cmdResume]
    repeat' (first | (simp [↓Frame.ite]; done) | split | (with_reducible refine Frame.ite.mpr ⟨fun _ => ?_, fun _ => ?_⟩) | (refine ⟨fun _ => ?_, fun _ => ?_⟩) | (intro _) | (refine Eq.mpr (Frame.each ?_) ?_) | simp [↓Frame.ite])
theorem cmdSafeLock_ok : CmdOk 29492748 cmdSafeLock := by
  constructor
  · intro h p v
    try simp only [cmdSafeLock]
    repeat' (first | (simp [↓Frame.ite]; done) | split | (with_reducible refine Frame.ite.mpr ⟨fun _ => ?_, fun _ => ?_⟩) | (refine ⟨fun _ => ?_, fun _ => ?_⟩) | (intro _) | (refine Eq.mpr (Frame.each ?_) ?_) | simp [↓Frame.ite])
  · intro h p v
    try simp only [cmdSafeLock]
    repeat' (first | (simp [↓Frame.ite]; done) | split | (with_reducible refine Frame.ite.mpr ⟨fun _ => ?_, fun _ => ?_⟩) | (refine ⟨fun _ => ?_, fun _ => ?_⟩) | (intro _) | (refine Eq.mpr (Frame.each ?_) ?_) | simp [↓Frame.ite])
  · intro h p v
    try simp only [cmdSafeLock]
    repeat' (first | (simp [↓Frame.ite]; done) | split | (with_reducible refine Frame.ite.mpr ⟨fun _ => ?_, fun _ => ?_⟩) | (refine ⟨fun _ => ?_, fun _ => ?_⟩) | (intro _) | (refine Eq.mpr (Frame.each ?_) ?_) | simp [↓Frame.ite])
theorem cmdSafePassSet_ok : CmdOk 25298444 cmdSafePassSet := by
  constructor
  · intro h p v
    try simp only [cmdSafePassSet]
    repeat' (first | (simp [↓Frame.ite]; done) | split | (with_reducible refine Frame.ite.mpr ⟨fun _ => ?_, fun _ => ?_⟩) | (refine ⟨fun _ => ?_, fun _ => ?_⟩) | (intro _) | (refine Eq.mpr (Frame.each ?_) ?_) | simp [↓Frame.ite])
  · intro h p v
    try simp only [cmdSafePassSet]
    repeat' (first | (simp [↓Frame.ite]; done) | split | (with_reducible refine Frame.ite.mpr ⟨fun _ => ?_, fun _ => ?_⟩) | (refine ⟨fun _ => ?_, fun _ => ?_⟩) | (intro _) | (refine Eq.mpr (Frame.each ?_) ?_) | simp [↓Frame.ite])
  · intro h p v
    try simp only [cmdSafePassSet]
    repeat' (first | (simp [↓Frame.ite]; done) | split | (with_reducible refine Frame.ite.mpr ⟨fun _ => ?_, fun _ => ?_⟩) | (refine ⟨fun _ => ?_, fun _ => ?_⟩) | (intro _) | (refine Eq.mpr (Frame.each ?_) ?_) | simp [↓Frame.ite])
theorem cmdSafeUnlock_ok : CmdOk 29492748 cmdSafeUnlock := by
  constructor
  · intro h p v
    try simp only [cmdSafeUnlock]
    repeat' (first | (simp [↓Frame.ite]; done) | split | (with_reducible refine Frame.ite.mpr ⟨fun _ => ?_, fun _ => ?_⟩) | (refine ⟨fun _ => ?_, fun _ => ?_⟩) | (intro _) | (refine Eq.mpr (Frame.each ?_) ?_) | simp [↓Frame.ite])
  · intro h p v
    try simp only [cmdSafeUnlock]
    repeat' (first | (simp [↓Frame.ite]; done) | split | (with_reducible refine Frame.ite.mpr ⟨fun _ => ?_, fun _ => ?_⟩) | (refine ⟨fun _ => ?_, fun _ => ?_⟩) | (intro _) | (refine Eq.mpr (Frame.each ?_) ?_) | simp [↓Frame.ite])
  · intro h p v
    try simp only [cmdSafeUnlock]
    repeat' (first | (simp [↓Frame.ite]; done) | split | (with_reducible refine Frame.ite.mpr ⟨fun _ => ?_, fun _ => ?_⟩) | (refine ⟨fun _ => ?_, fun _ => ?_⟩) | (intro _) | (refine Eq.mpr (Frame.each ?_) ?_) | simp [↓Frame.ite])
theorem cmdSessionClose_ok : CmdOk 30017036 cmdSessionClose := by
  constructor
  · intro h p v
    try simp only [cmdSessionClose]
    repeat' (first | (simp [↓Frame.ite]; done) | split | (with_reducible refine Frame.ite.mpr ⟨fun _ => ?_, fun _ => ?_⟩) | (refine ⟨fun _ => ?_, fun _ => ?_⟩) | (intro _) | (refine Eq.mpr (Frame.each ?_) ?_) | simp [↓Frame.ite])
  · intro h p v
    try simp only [cmdSessionClose]
    repeat' (first | (simp [↓Frame.ite]; done) | split | (with_reducible refine Frame.ite.mpr ⟨fun _ => ?_, fun _ => ?_⟩) | (refine ⟨fun _ => ?_, fun _ => ?_⟩) | (intro _) | (refine Eq.mpr (Frame.each ?_) ?_) | simp [↓Frame.ite])
  · intro h p v
    try simp only [cmdSessionClose]
    repeat' (first | (simp [↓Frame.ite]; done) | split | (with_reducible refine Frame.ite.mpr ⟨fun _ => ?_, fun _ => ?_⟩) | (refine ⟨fun _ => ?_, fun _ => ?_⟩) | (intro _) | (refine Eq.mpr (Frame.each ?_) ?_) | simp [↓Frame.ite])
theorem cmdSessionOpen_ok : CmdOk 25167372 cmdSessionOpen := by
  constructor
  · intro h p v
    try simp only [cmdSessionOpen]
    repeat' (first | (simp [↓Frame.ite]; done) | split | (with_reducible refine Frame.ite.mpr ⟨fun _ => ?_, fun _ => ?_⟩) | (refine ⟨fun _ => ?_, fun _ => ?_⟩) | (intro _) | (refine Eq.mpr (Frame.each ?_) ?_) | simp [↓Frame.ite])
  · intro h p v
    try simp only [cmdSessionOpen]
    repeat' (first | (simp [↓Frame.ite]; done) | split | (with_reducible refine Frame.ite.mpr ⟨fun _ => ?_, fun _ => ?_⟩) | (refine ⟨fun _ => ?_, fun _ => ?_⟩) | (intro _) | (refine Eq.mpr (Frame.each ?_) ?_) | simp [↓Frame.ite])
  · intro h p v
    try simp only [cmdSessionOpen]
    repeat' (first | (simp [↓Frame.ite]; done) | split | (with_reducible refine Frame.ite.mpr ⟨fun _ => ?_, fun _ => ?_⟩) | (refine ⟨fun _ => ?_, fun _ => ?_⟩) | (intro _) | (refine Eq.mpr (Frame.each ?_) ?_) | simp [↓Frame.ite])
theorem cmdSetpoint_ok : CmdOk 25691660 cmdSetpoint := by
  constructor
  · intro h p v
    try simp only [cmdSetpoint]
    repeat' (first | (simp [↓Frame.ite]; done) | split | (with_reducible refine Frame.ite.mpr ⟨fun _ => ?_, fun _ => ?_⟩) | (refine ⟨fun _ => ?_, fun _ => ?_⟩) | (intro _) | (refine Eq.mpr (Frame.each ?_) ?_) | simp [↓Frame.ite])
  · intro h p v
    try simp only [cmdSetpoint]
    repeat' (first | (simp [↓Frame.ite]; done) | split | (with_reducible refine Frame.ite.mpr ⟨fun _ => ?_, fun _ => ?_⟩) | (refine ⟨fun _ => ?_, fun _ => ?_⟩) | (intro _) | (refine Eq.mpr (Frame.each ?_) ?_) | simp [↓Frame.ite])
  · intro h p v
    try simp only [cmdSetpoint]
    repeat' (first | (simp [↓Frame.ite]; done) | split | (with_reducible refine Frame.ite.mpr ⟨fun _ => ?_, fun _ => ?_⟩) | (refine ⟨fun _ => ?_, fun _ => ?_⟩) | (intro _) | (refine Eq.mpr (Frame.each ?_) ?_) | simp [↓Frame.ite])
theorem cmdTakeControl_ok : CmdOk 25167372 cmdTakeControl := by
  constructor
  · intro h p v
    try simp only [cmdTakeControl]
    repeat' (first | (simp [↓Frame.ite]; done) | split | (with_reducible refine Frame.ite.mpr ⟨fun _ => ?_, fun _ => ?_⟩) | (refine ⟨fun _ => ?_, fun _ => ?_⟩) | (intro _) | (refine Eq.mpr (Frame.each ?_) ?_) | simp [↓Frame.ite])
  · intro h p v
    try simp only [cmdTakeControl]
    repeat' (first | (simp [↓Frame.ite]; done) | split | (with_reducible refine Frame.ite.mpr ⟨fun _ => ?_, fun _ => ?_⟩) | (refine ⟨fun _ => ?_, fun _ => ?_⟩) | (intro _) | (refine Eq.mpr (Frame.each ?_) ?_) | simp [↓Frame.ite])
  · intro h p v
    try simp only [cmdTakeControl]
    repeat' (first | (simp [↓Frame.ite]; done) | split | (with_reducible refine Frame.ite.mpr ⟨fun _ => ?_, fun _ => ?_⟩) | (refine ⟨fun _ => ?_, fun _ => ?_⟩) | (intro _) | (refine Eq.mpr (Frame.each ?_) ?_) | simp [↓Frame.ite])
theorem cmdTdacConnect_ok : CmdOk 26215948 cmdTdacConnect := by
  constructor
  · intro h p v
    try simp only [cmdTdacConnect]
    repeat' (first | (simp [↓Frame.ite]; done) | split | (with_reducible refine Frame.ite.mpr ⟨fun _ => ?_, fun _ => ?_⟩) | (refine ⟨fun _ => ?_, fun _ => ?_⟩) | (intro _) | (refine Eq.mpr (Frame.each ?_) ?_) | simp [↓Frame.ite])
  · intro h p v
    try simp only [cmdTdacConnect]
    repeat' (first | (simp [↓Frame.ite]; done) | split | (with_reducible refine Frame.ite.mpr ⟨fun _ => ?_, fun _ => ?_⟩) | (refine ⟨fun _ => ?_, fun _ => ?_⟩) | (intro _) | (refine Eq.mpr (Frame.each ?_) ?_) | simp [↓Frame.ite])
  · intro h p v
    try simp only [cmdTdacConnect]
    repeat' (first | (simp [↓Frame.ite]; done) | split | (with_reducible refine Frame.ite.mpr ⟨fun _ => ?_, fun _ => ?_⟩) | (refine ⟨fun _ => ?_, fun _ => ?_⟩) | (intro _) | (refine Eq.mpr (Frame.each ?_) ?_) | simp [↓Frame.ite])
theorem cmdTdacSet_ok : CmdOk 26215948 cmdTdacSet := by
  constructor
  · intro h p v
    try simp only [cmdTdacSet]
    repeat' (first | (simp [↓Frame.ite]; done) | split | (with_reducible refine Frame.ite.mpr ⟨fun _ => ?_, fun _ => ?_⟩) | (refine ⟨fun _ => ?_, fun _ => ?_⟩) | (intro _) | (refine Eq.mpr (Frame.each ?_) ?_) | simp [↓Frame.ite])
  · intro h p v
    try simp only [cmdTdacSet]
    repeat' (first | (simp [↓Frame.ite]; done) | split | (with_reducible refine Frame.ite.mpr ⟨fun _ => ?_, fun _ => ?_⟩) | (refine ⟨fun _ => ?_, fun _ => ?_⟩) | (intro _) | (refine Eq.mpr (Frame.each ?_) ?_) | simp [↓Frame.ite])
  · intro h p v
    try simp only [cmdTdacSet]
    repeat' (first | (simp [↓Frame.ite]; done) | split | (with_reducible refine Frame.ite.mpr ⟨fun _ => ?_, fun _ => ?_⟩) | (refine ⟨fun _ => ?_, fun _ => ?_⟩) | (intro _) | (refine Eq.mpr (Frame.each ?_) ?_) | simp [↓Frame.ite])
theorem cmdThermReinit_ok : CmdOk 25232908 cmdThermReinit := by
  constructor
  · intro h p v
    try simp only [cmdThermReinit]
    repeat' (first | (simp [↓Frame.ite]; done) | split | (with_reducible refine Frame.ite.mpr ⟨fun _ => ?_, fun _ => ?_⟩) | (refine ⟨fun _ => ?_, fun _ => ?_⟩) | (intro _) | (refine Eq.mpr (Frame.each ?_) ?_) | simp [↓Frame.ite])
  · intro h p v
    try simp only [cmdThermReinit]
    repeat' (first | (simp [↓Frame.ite]; done) | split | (with_reducible refine Frame.ite.mpr ⟨fun _ => ?_, fun _ => ?_⟩) | (refine ⟨fun _ => ?_, fun _ => ?_⟩) | (intro _) | (refine Eq.mpr (Frame.each ?_) ?_) | simp [↓Frame.ite])
  · intro h p v
    try simp only [cmdThermReinit]
    repeat' (first | (simp [↓Frame.ite]; done) | split | (with_reducible refine Frame.ite.mpr ⟨fun _ => ?_, fun _ => ?_⟩) | (refine ⟨fun _ => ?_, fun _ => ?_⟩) | (intro _) | (refine Eq.mpr (Frame.each ?_) ?_) | simp [↓Frame.ite])
theorem cmdTraceArm_ok : CmdOk 25200140 cmdTraceArm := by
  constructor
  · intro h p v
    try simp only [cmdTraceArm]
    repeat' (first | (simp [↓Frame.ite]; done) | split | (with_reducible refine Frame.ite.mpr ⟨fun _ => ?_, fun _ => ?_⟩) | (refine ⟨fun _ => ?_, fun _ => ?_⟩) | (intro _) | (refine Eq.mpr (Frame.each ?_) ?_) | simp [↓Frame.ite])
  · intro h p v
    try simp only [cmdTraceArm]
    repeat' (first | (simp [↓Frame.ite]; done) | split | (with_reducible refine Frame.ite.mpr ⟨fun _ => ?_, fun _ => ?_⟩) | (refine ⟨fun _ => ?_, fun _ => ?_⟩) | (intro _) | (refine Eq.mpr (Frame.each ?_) ?_) | simp [↓Frame.ite])
  · intro h p v
    try simp only [cmdTraceArm]
    repeat' (first | (simp [↓Frame.ite]; done) | split | (with_reducible refine Frame.ite.mpr ⟨fun _ => ?_, fun _ => ?_⟩) | (refine ⟨fun _ => ?_, fun _ => ?_⟩) | (intro _) | (refine Eq.mpr (Frame.each ?_) ?_) | simp [↓Frame.ite])
theorem cmdTraceForce_ok : CmdOk 25200140 cmdTraceForce := by
  constructor
  · intro h p v
    try simp only [cmdTraceForce]
    repeat' (first | (simp [↓Frame.ite]; done) | split | (with_reducible refine Frame.ite.mpr ⟨fun _ => ?_, fun _ => ?_⟩) | (refine ⟨fun _ => ?_, fun _ => ?_⟩) | (intro _) | (refine Eq.mpr (Frame.each ?_) ?_) | simp [↓Frame.ite])
  · intro h p v
    try simp only [cmdTraceForce]
    repeat' (first | (simp [↓Frame.ite]; done) | split | (with_reducible refine Frame.ite.mpr ⟨fun _ => ?_, fun _ => ?_⟩) | (refine ⟨fun _ => ?_, fun _ => ?_⟩) | (intro _) | (refine Eq.mpr (Frame.each ?_) ?_) | simp [↓Frame.ite])
  · intro h p v
    try simp only [cmdTraceForce]
    repeat' (first | (simp [↓Frame.ite]; done) | split | (with_reducible refine Frame.ite.mpr ⟨fun _ => ?_, fun _ => ?_⟩) | (refine ⟨fun _ => ?_, fun _ => ?_⟩) | (intro _) | (refine Eq.mpr (Frame.each ?_) ?_) | simp [↓Frame.ite])
theorem cmdTraceStop_ok : CmdOk 25200140 cmdTraceStop := by
  constructor
  · intro h p v
    try simp only [cmdTraceStop]
    repeat' (first | (simp [↓Frame.ite]; done) | split | (with_reducible refine Frame.ite.mpr ⟨fun _ => ?_, fun _ => ?_⟩) | (refine ⟨fun _ => ?_, fun _ => ?_⟩) | (intro _) | (refine Eq.mpr (Frame.each ?_) ?_) | simp [↓Frame.ite])
  · intro h p v
    try simp only [cmdTraceStop]
    repeat' (first | (simp [↓Frame.ite]; done) | split | (with_reducible refine Frame.ite.mpr ⟨fun _ => ?_, fun _ => ?_⟩) | (refine ⟨fun _ => ?_, fun _ => ?_⟩) | (intro _) | (refine Eq.mpr (Frame.each ?_) ?_) | simp [↓Frame.ite])
  · intro h p v
    try simp only [cmdTraceStop]
    repeat' (first | (simp [↓Frame.ite]; done) | split | (with_reducible refine Frame.ite.mpr ⟨fun _ => ?_, fun _ => ?_⟩) | (refine ⟨fun _ => ?_, fun _ => ?_⟩) | (intro _) | (refine Eq.mpr (Frame.each ?_) ?_) | simp [↓Frame.ite])
theorem cmdTripRelease_ok : CmdOk 27264524 cmdTripRelease := by
  constructor
  · intro h p v
    try simp only [cmdTripRelease]
    repeat' (first | (simp [↓Frame.ite]; done) | split | (with_reducible refine Frame.ite.mpr ⟨fun _ => ?_, fun _ => ?_⟩) | (refine ⟨fun _ => ?_, fun _ => ?_⟩) | (intro _) | (refine Eq.mpr (Frame.each ?_) ?_) | simp [↓Frame.ite])
  · intro h p v
    try simp only [cmdTripRelease]
    repeat' (first | (simp [↓Frame.ite]; done) | split | (with_reducible refine Frame.ite.mpr ⟨fun _ => ?_, fun _ => ?_⟩) | (refine ⟨fun _ => ?_, fun _ => ?_⟩) | (intro _) | (refine Eq.mpr (Frame.each ?_) ?_) | simp [↓Frame.ite])
  · intro h p v
    try simp only [cmdTripRelease]
    repeat' (first | (simp [↓Frame.ite]; done) | split | (with_reducible refine Frame.ite.mpr ⟨fun _ => ?_, fun _ => ?_⟩) | (refine ⟨fun _ => ?_, fun _ => ?_⟩) | (intro _) | (refine Eq.mpr (Frame.each ?_) ?_) | simp [↓Frame.ite])
theorem CmdOk.widen {m n : Nat} {c : Cmd} (h : CmdOk m c) (k : m ||| n = n) : CmdOk n c :=
  ⟨fun a b v => (h.act a b v).widen k, fun a b v => (h.deny a b v).widen k, fun a b v => (h.post a b v).widen k⟩
/-- No command touches time, the queue or the fuses. -/
theorem look_ok {op : Nat} {x : Cmd} (h : look op = some x) : CmdOk 369098734 x := by
  have hm := List.mem_of_find?_eq_some h
  simp only [cmdsLow, cmdsHigh, List.cons_append, List.nil_append, List.mem_cons, List.not_mem_nil, or_false] at hm
  rcases hm with rfl | rfl | rfl | rfl | rfl | rfl | rfl | rfl | rfl | rfl | rfl | rfl | rfl | rfl | rfl | rfl | rfl | rfl | rfl | rfl | rfl | rfl | rfl | rfl | rfl | rfl | rfl | rfl | rfl | rfl | rfl | rfl | rfl | rfl | rfl | rfl | rfl | rfl | rfl | rfl | rfl | rfl | rfl | rfl | rfl | rfl | rfl | rfl | rfl | rfl | rfl | rfl | rfl | rfl | rfl | rfl | rfl | rfl | rfl | rfl | rfl | rfl | rfl | rfl | rfl
  all_goals first
    | exact cmdAdcCal_ok.widen rfl
    | exact cmdAdcInject_ok.widen rfl
    | exact cmdBalShare_ok.widen rfl
    | exact cmdCellAdmit_ok.widen rfl
    | exact cmdCellBypass_ok.widen rfl
    | exact cmdCellExclude_ok.widen rfl
    | exact cmdCellFwLoad_ok.widen rfl
    | exact cmdCellRejoin_ok.widen rfl
    | exact cmdClkTimeLoad_ok.widen rfl
    | exact cmdCmpCheck_ok.widen rfl
    | exact cmdCmpThresh_ok.widen rfl
    | exact cmdCoefWrite_ok.widen rfl
    | exact cmdEvsMark_ok.widen rfl
    | exact cmdImgArm_ok.widen rfl
    | exact cmdImgBufClose_ok.widen rfl
    | exact cmdImgBufOpen_ok.widen rfl
    | exact cmdImgDisarm_ok.widen rfl
    | exact cmdImgFwSwitch_ok.widen rfl
    | exact cmdImgFwWrite_ok.widen rfl
    | exact cmdImgLoad_ok.widen rfl
    | exact cmdImgRecheck_ok.widen rfl
    | exact cmdImgSetBoot_ok.widen rfl
    | exact cmdImgSlotErase_ok.widen rfl
    | exact cmdImgSlotWrite_ok.widen rfl
    | exact cmdImgSwap_ok.widen rfl
    | exact cmdKeepalive_ok.widen rfl
    | exact cmdLaneRetrain_ok.widen rfl
    | exact cmdLaneSleep_ok.widen rfl
    | exact cmdLaneTest_ok.widen rfl
    | exact cmdLaneWake_ok.widen rfl
    | exact cmdLoopClose_ok.widen rfl
    | exact cmdLoopManual_ok.widen rfl
    | exact cmdLoopOpen_ok.widen rfl
    | exact cmdMeshBarrier_ok.widen rfl
    | exact cmdMeshBcastReg_ok.widen rfl
    | exact cmdMeshBind_ok.widen rfl
    | exact cmdMeshReset_ok.widen rfl
    | exact cmdMeshSnapshot_ok.widen rfl
    | exact cmdModeLossClear_ok.widen rfl
    | exact cmdModeSet_ok.widen rfl
    | exact cmdOvlSet_ok.widen rfl
    | exact cmdPairFailback_ok.widen rfl
    | exact cmdPairResync_ok.widen rfl
    | exact cmdPairSwitch_ok.widen rfl
    | exact cmdRcCtl_ok.widen rfl
    | exact cmdRefCommit_ok.widen rfl
    | exact cmdRefDiscard_ok.widen rfl
    | exact cmdRefStage_ok.widen rfl
    | exact cmdRegWrite_ok.widen rfl
    | exact cmdReleaseControl_ok.widen rfl
    | exact cmdResume_ok.widen rfl
    | exact cmdSafeLock_ok.widen rfl
    | exact cmdSafePassSet_ok.widen rfl
    | exact cmdSafeUnlock_ok.widen rfl
    | exact cmdSessionClose_ok.widen rfl
    | exact cmdSessionOpen_ok.widen rfl
    | exact cmdSetpoint_ok.widen rfl
    | exact cmdTakeControl_ok.widen rfl
    | exact cmdTdacConnect_ok.widen rfl
    | exact cmdTdacSet_ok.widen rfl
    | exact cmdThermReinit_ok.widen rfl
    | exact cmdTraceArm_ok.widen rfl
    | exact cmdTraceForce_ok.widen rfl
    | exact cmdTraceStop_ok.widen rfl
    | exact cmdTripRelease_ok.widen rfl
@[simp] theorem State.forwardReply_frame {m : Nat} {s u : State} {a0 : Nat} {a1 : RemoteOut} {a2 : OpenCmd} (h : 25167372 ||| m = m) : Frame m s (State.forwardReply a0 a1 a2 u) = Frame m s u := by
  refine Frame.last (m := 25167372) ?_ h
  unfold State.forwardReply
  simp [↓Frame.ite]
@[simp] theorem State.meshModeTake_frame {m : Nat} {s u : State} {a0 : OpenCmd} (h : 8914444 ||| m = m) : Frame m s (State.meshModeTake a0 u) = Frame m s u := by
  refine Frame.last (m := 8914444) ?_ h
  unfold State.meshModeTake
  simp
@[simp] theorem State.meshModeReply_frame {m : Nat} {s u : State} {a0 : Nat} {a1 : RemoteOut} {a2 : OpenCmd} (h : 25691660 ||| m = m) : Frame m s (State.meshModeReply a0 a1 a2 u) = Frame m s u := by
  refine Frame.last (m := 25691660) ?_ h
  unfold State.meshModeReply
  simp [↓Frame.ite]
@[simp] theorem State.resultTake_frame {m : Nat} {s u : State} {a0 : Nat} {a1 : Nat} {a2 : Nat} {a3 : RemoteOut} (h : 25691660 ||| m = m) : Frame m s (State.resultTake a0 a1 a2 a3 u) = Frame m s u := by
  refine Frame.last (m := 25691660) ?_ h
  unfold State.resultTake
  (repeat' split) <;> simp
@[simp] theorem State.recordTake_frame {m : Nat} {s u : State} {r : RecHdr} {op : Nat} {p : Bytes} (h : 369098734 ||| m = m) :
    Frame m s (State.recordTake r op p u) = Frame m s u := by
  refine Frame.last (m := 369098734) ?_ h
  unfold State.recordTake
  simp only []
  refine Frame.ite.mpr ⟨fun _ => by simp, fun _ => ?_⟩
  split
  · simp
  · rename_i cmd e
    have hc := look_ok e
    split
    · exact Eq.mpr (State.reject_frame rfl) (hc.deny _ _ _)
    · exact Frame.ite.mpr ⟨fun _ => by simp, fun _ => Eq.mpr (State.accept_frame hc rfl) (by simp)⟩
@[simp] theorem State.readTake_frame {m : Nat} {s u : State} {a0 : Nat} {a1 : Word} (h : 25167500 ||| m = m) : Frame m s (State.readTake a0 a1 u) = Frame m s u := by
  refine Frame.last (m := 25167500) ?_ h
  unfold State.readTake
  (repeat' split) <;> simp
@[simp] theorem State.itemTake_frame {m : Nat} {s u : State} {a0 : Nat} {a1 : Item} (h : 369098734 ||| m = m) : Frame m s (State.itemTake a0 a1 u) = Frame m s u := by
  refine Frame.last (m := 369098734) ?_ h
  unfold State.itemTake
  repeat' (first | (simp [↓Frame.ite]; done) | split | (refine ⟨fun _ => ?_, fun _ => ?_⟩) | (intro _) | (refine Eq.mpr (Frame.each ?_) ?_) | (refine Eq.mpr (State.laneStep_frame ?_ rfl) ?_) | (refine Eq.mpr (State.healthStep_frame ?_ rfl) ?_) | simp [↓Frame.ite])
@[simp] theorem State.snapTake_frame {m : Nat} {s u : State} (h : 33538020 ||| m = m) : Frame m s (State.snapTake u) = Frame m s u := by
  refine Frame.last (m := 33538020) ?_ h
  unfold State.snapTake
  (repeat' split) <;> simp
@[simp] theorem State.rcClear_frame {m : Nat} {s u : State} (h : 33538028 ||| m = m) : Frame m s (State.rcClear u) = Frame m s u := by
  refine Frame.last (m := 33538028) ?_ h
  unfold State.rcClear
  refine Eq.mpr (Frame.each fun o v => ?_) (by simp)
  split
  · rename_i f n e
    exact (State.regAt_ok v .mesh o _ e).rd f rfl v
  · simp
@[simp] theorem State.resetAct_frame {m : Nat} {s u : State} (h : 33538028 ||| m = m) : Frame m s (State.resetAct u) = Frame m s u := by
  refine Frame.last (m := 33538028) ?_ h
  unfold State.resetAct
  repeat' (first | (simp [↓Frame.ite]; done) | split | (refine ⟨fun _ => ?_, fun _ => ?_⟩) | (intro _) | (refine Eq.mpr (Frame.each ?_) ?_) | (refine Eq.mpr (State.laneStep_frame ?_ rfl) ?_) | (refine Eq.mpr (State.healthStep_frame ?_ rfl) ?_) | simp [↓Frame.ite])
@[simp] theorem State.openPerform_frame {m : Nat} {s u : State} {o : OpenCmd} (h : 369098734 ||| m = m) :
    Frame m s (State.openPerform o u) = Frame m s u := by
  refine Frame.last (m := 369098734) ?_ h
  unfold State.openPerform
  split
  · rename_i cmd e
    exact Eq.mpr (State.perform_frame (look_ok e) rfl) (by simp)
  · simp
@[simp] theorem State.heldPerform_frame {m : Nat} {s u : State} (h : 369098734 ||| m = m) : Frame m s (State.heldPerform u) = Frame m s u := by
  refine Frame.last (m := 369098734) ?_ h
  unfold State.heldPerform
  simp
@[simp] theorem State.cmdAcked_frame {m : Nat} {s u : State} {a0 : Nat} (h : 369098734 ||| m = m) : Frame m s (State.cmdAcked a0 u) = Frame m s u := by
  refine Frame.last (m := 369098734) ?_ h
  unfold State.cmdAcked
  repeat' (first | (simp [↓Frame.ite]; done) | split | (refine ⟨fun _ => ?_, fun _ => ?_⟩) | (intro _) | (refine Eq.mpr (Frame.each ?_) ?_) | (refine Eq.mpr (State.laneStep_frame ?_ rfl) ?_) | (refine Eq.mpr (State.healthStep_frame ?_ rfl) ?_) | simp [↓Frame.ite])
@[simp] theorem State.jnlAcked_frame {m : Nat} {s u : State} {a0 : Nat} (h : 25166348 ||| m = m) : Frame m s (State.jnlAcked a0 u) = Frame m s u := by
  refine Frame.last (m := 25166348) ?_ h
  unfold State.jnlAcked
  simp
@[simp] theorem State.peerLost_frame {m : Nat} {s u : State} (h : 16777216 ||| m = m) : Frame m s (State.peerLost u) = Frame m s u := by
  refine Frame.last (m := 16777216) ?_ h
  unfold State.peerLost
  simp
@[simp] theorem State.healthTake_frame {m : Nat} {s u : State} {a0 : HealthFrame} (h : 369098734 ||| m = m) : Frame m s (State.healthTake a0 u) = Frame m s u := by
  refine Frame.last (m := 369098734) ?_ h
  unfold State.healthTake
  repeat' (first | (simp [↓Frame.ite]; done) | split | (refine ⟨fun _ => ?_, fun _ => ?_⟩) | (intro _) | (refine Eq.mpr (Frame.each ?_) ?_) | (refine Eq.mpr (State.laneStep_frame ?_ rfl) ?_) | (refine Eq.mpr (State.healthStep_frame ?_ rfl) ?_) | simp [↓Frame.ite])
@[simp] theorem State.healthGone_frame {m : Nat} {s u : State} (h : 369098734 ||| m = m) : Frame m s (State.healthGone u) = Frame m s u := by
  refine Frame.last (m := 369098734) ?_ h
  unfold State.healthGone
  simp
@[simp] theorem State.mirrorApply_frame {m : Nat} {s u : State} {c : CmdFrame} (h : 369098734 ||| m = m) :
    Frame m s (State.mirrorApply c u) = Frame m s u := by
  refine Frame.last (m := 369098734) ?_ h
  unfold State.mirrorApply
  split
  · simp
  · rename_i cmd e
    have k := (look_ok e).act c.h c.payload u
    exact k.trans ⟨fun p q => by cases p <;> first | rfl | cases q⟩
@[simp] theorem State.cmdTake_frame {m : Nat} {s u : State} {a0 : CmdFrame} (h : 369098734 ||| m = m) : Frame m s (State.cmdTake a0 u) = Frame m s u := by
  refine Frame.last (m := 369098734) ?_ h
  unfold State.cmdTake
  simp

end Sys2Proof.Machine
end

