-- ==== Sys2Proof/Laws/Accept.lean ====
section
/-! SUPPORT. What an accepted record does (R136, R750): one lemma for every host command. -/
namespace Sys2Proof.Machine
open State

theorem ite_cases {α : Type} {P : α → Prop} {c : Prop} {d : Decidable c} {a b : α} (ha : P a) (hb : P b) : P (if c then a else b) := by
  by_cases h : c <;> simpa [h]
theorem setBit_or (m i : Nat) : m ||| setBit m i = setBit m i := by rw [setBit, ← Nat.or_assoc, Nat.or_self]
theorem foldl_or (k : List Part) (m : Nat) : m ||| k.foldl (fun m p => setBit m p.num) m = k.foldl (fun m p => setBit m p.num) m := by
  induction k generalizing m with
  | nil => exact Nat.or_self m
  | cons p k ih => exact Mask.sub (ih (setBit m p.num)) (setBit_or m p.num)
theorem mask_append (l k : List Part) : maskOfParts l ||| maskOfParts (l ++ k) = maskOfParts (l ++ k) := by
  unfold maskOfParts
  rw [List.foldl_append]
  exact foldl_or k _
theorem mask_suffix (l : List Part) : 8388616 ||| maskOfParts (l ++ [.mesh, .free]) = maskOfParts (l ++ [.mesh, .free]) := by
  unfold maskOfParts
  rw [List.foldl_append]
  generalize l.foldl (fun m p => setBit m p.num) 0 = a
  show 8388616 ||| (a ||| 8388608 ||| 8) = a ||| 8388608 ||| 8
  rw [Nat.or_assoc, show (8388608 ||| 8 : Nat) = 8388616 from rfl, Nat.or_comm a, ← Nat.or_assoc, Nat.or_self]
theorem recTaken_frame {s : State} {cmd : Cmd} {h : RecHdr} {p : Bytes} : Frame 512 s (s.recTaken cmd h p) := by
  unfold State.recTaken
  simp
theorem intake_frame {s : State} {cmd : Cmd} {h : RecHdr} {p : Bytes} : Frame 512 s (s.intake cmd h p) := by
  unfold State.intake
  refine Frame.ite.mpr ⟨fun _ => recTaken_frame, fun _ => Frame.ite.mpr ⟨fun _ => ?_, fun _ => ?_⟩⟩
  · exact Eq.mpr (State.renew_frame rfl) recTaken_frame
  · exact Eq.mpr (State.onCtx_frame rfl) (Eq.mpr (State.renew_frame rfl) recTaken_frame)
/-- A record whose turn it is goes on with the state it has been taken from. -/
theorem takeFrom_ready {s : State} {cmd : Cmd} {h : RecHdr} {p : Bytes} (ha : Arrives cmd h p s) (k : State → State) :
    s.takeFrom h.src h.ring (recRaw cmd h p) k = k (s.recTaken cmd h p) := by
  have hs := ha.source
  have ht := ha.takes
  unfold State.recTaken State.takeFrom
  revert hs
  unfold State.atHand
  cases h.src <;> intro hs <;> simp_all [State.takeRing, State.takeMbx]
/-- An accepted record reaches its acceptance with its number consumed. -/
theorem hostRow_accept {s : State} {cmd : Cmd} {t : Nat} {h : RecHdr} {p : Bytes} (ha : Accepts cmd h p (s.begin t)) :
    ∃ (c : Option Word) (l : List (Nat × Nat)), hostRow cmd t h p s =
      State.noteSets l (State.finish s.pend s.jnl.head (((s.begin t).intake cmd h p).accept cmd h p c)) := by
  have hn := ha.next
  have ho := ha.own
  have hj := ha.judged
  have hsz := ha.came.size
  have hse := ha.session
  have h3 := ha.acts
  have hraw : recBytes h cmd.opcode p ++ le 4 (crc32c (recBytes h cmd.opcode p)).toNat = recRaw cmd h p := rfl
  unfold hostRow State.run
  generalize setsOf _ _ = L
  simp only [hraw, takeFrom_ready ha.came]
  unfold State.process State.framed
  have hl : ¬232 < p.length := by omega
  simp only [hl, decide_false, Bool.false_or, hsz.2, Bool.not_true, Bool.false_eq_true, if_false, hse, h3]
  by_cases h1 : cmd.opcode = 1
  · have hi : (s.begin t).intake cmd h p = (s.begin t).recTaken cmd h p := by simp [State.intake, h1]
    rw [hi] at ho hj ⊢
    have hnode : h.node = ((s.begin t).recTaken cmd h p).node := by
      rcases ho with ho | ⟨hb, _⟩
      · exact ho
      · rw [h1] at hb; cases hb
    have hr : ((s.begin t).recTaken cmd h p).roleOk h cmd.opcode = true := by simp [State.roleOk, h1]
    rw [hr] at hj
    refine ⟨none, L, ?_⟩
    simp only [h1, if_true, State.unsequenced, hnode, ne_eq, not_true_eq_false, if_false, hj]
  · by_cases h4 : cmd.opcode = 4
    · have hi : (s.begin t).intake cmd h p = (if ((s.begin t).recTaken cmd h p).isParked (ctxOf h.sess) then (s.begin t).recTaken cmd h p
          else ((s.begin t).recTaken cmd h p).renew (ctxOf h.sess)) := by
        simp only [State.intake, h4]
        by_cases hq : ((s.begin t).recTaken cmd h p).isParked (ctxOf h.sess) <;> simp [hq]
      rw [hi] at ho hj ⊢
      generalize hw : (if ((s.begin t).recTaken cmd h p).isParked (ctxOf h.sess) then (s.begin t).recTaken cmd h p
          else ((s.begin t).recTaken cmd h p).renew (ctxOf h.sess)) = w at *
      have hnode : h.node = w.node := by
        rcases ho with ho | ⟨hb, _⟩
        · exact ho
        · rw [h4] at hb; cases hb
      have hr : w.roleOk h cmd.opcode = true := by simp [State.roleOk, h4]
      rw [hr] at hj
      refine ⟨none, L, ?_⟩
      simp only [h4, show ((4 : Nat) = 1) = False from by decide, if_true, if_false, true_and, hw, State.unsequenced, hnode, ne_eq, not_true_eq_false, hj]
    · have hu : unsequencedOp cmd.opcode = false := by simp [unsequencedOp, h1, h4]
      have hd := hn hu
      have hi : (s.begin t).intake cmd h p = (((s.begin t).recTaken cmd h p).renew (ctxOf h.sess)).onCtx (ctxOf h.sess) fun x =>
          { x with e := (x.e + 1) % M32, consumed := x.consumed + 1 } := by simp [State.intake, h1, h4]
      rw [hi] at ho hj ⊢
      refine ⟨some (crc32c (recBytes h cmd.opcode p)), L, ?_⟩
      simp only [h1, h4, if_false, false_and, State.sequence, hd, if_true, State.consumed]
      have hf : ¬(h.node ≠ State.node ((((s.begin t).recTaken cmd h p).renew (ctxOf h.sess)).onCtx (ctxOf h.sess) fun x =>
          { x with e := (x.e + 1) % M32, consumed := x.consumed + 1 }) ∧ ¬(cmd.opcode = 0x0201 ∧ field p 1 1 = 1)) := by
        rintro ⟨ha, hc⟩
        rcases ho with ho | ho
        · exact ha ho
        · exact hc ho
      rw [if_neg hf, hj]
/-- An accepted record, in three parts: the state its effect starts from differs from that before it in HOST and the
journal alone; its effect; the answer. -/
theorem hostRow_accepts {s : State} {cmd : Cmd} {t : Nat} {h : RecHdr} {p : Bytes} (ha : Accepts cmd h p (s.begin t)) :
    ∃ s3 o l, Frame 1536 (s.begin t) s3 ∧ s3.host = ((s.begin t).intake cmd h p).host ∧ o.h = h ∧ o.pay = p ∧
      hostRow cmd t h p s = State.noteSets l (State.finish s.pend s.jnl.head (s3.perform cmd o)) := by
  obtain ⟨c, l, e⟩ := hostRow_accept ha
  have hal := ha.alone
  rw [e]
  unfold State.accept
  have hf : Frame 1536 (s.begin t) ((s.begin t).intake cmd h p) := intake_frame.widen rfl
  simp only [State.jAdd_pair, hal.1, hal.2, Bool.false_eq_true, if_false]
  exact ⟨_, _, l, Eq.mpr (State.jAdd_frame rfl) hf, State.jAdd_host .., rfl, rfl, rfl⟩

/-! ## Answers: nothing else leaves HOST while no completion that waits answers a record of the head -/

/-- No completion that waits, and no copy, answers a record of the head. -/
def Quiet (x : HostB) : Prop := (∀ k ∈ x.held, k.h.src ≠ .mesh) ∧ ∀ o ∈ x.opens, o.kind = 9 → o.h.src ≠ .mesh
theorem quiet_of {s : State} (h : s.heldParts = []) : Quiet s.host := by
  unfold State.heldParts at h
  split at h
  · cases h
  · rename_i hn
    simp only [Bool.or_eq_true, not_or, Bool.not_eq_true, List.any_eq_false, Bool.and_eq_true, beq_iff_eq, not_and] at hn
    exact ⟨hn.1, hn.2⟩
/-- What waits is the same. -/
def SameWait (x y : HostB) : Prop := y.held = x.held ∧ y.opens = x.opens
theorem Quiet.same {x y : HostB} (h : Quiet x) (k : SameWait x y) : Quiet y := ⟨k.1 ▸ h.1, k.2 ▸ h.2⟩
theorem deliver_wait {s : State} {h : RecHdr} {k : Cpl} (hs : h.src ≠ .mesh) : SameWait s.host (s.deliver h k).host := by
  unfold State.deliver
  split
  · exact ⟨rfl, rfl⟩
  · rw [if_neg hs]
    split
    · exact ⟨rfl, rfl⟩
    · exact ⟨rfl, rfl⟩
/-- A host's answer touches nothing of the mesh. -/
theorem deliver_own {s : State} {h : RecHdr} {k : Cpl} (hs : h.src ≠ .mesh) : Frame 516 s (s.deliver h k) := by
  unfold State.deliver
  split
  · simp
  · rw [if_neg hs]
    split
    · simp
    · simp
/-- A fold over a list in which each step keeps an invariant and a frame. -/
theorem each_own {α : Type} {m : Nat} {P : State → Prop} {f : α → State → State} {l : List α}
    (hf : ∀ a ∈ l, ∀ v, P v → Frame m v (f a v) ∧ P (f a v)) {s : State} (hs : P s) : Frame m s (each l f s) ∧ P (each l f s) := by
  unfold each
  induction l generalizing s with
  | nil => exact ⟨by simp, hs⟩
  | cons a l ih =>
    have h1 := hf a List.mem_cons_self s hs
    have h2 := ih (fun b hb => hf b (List.mem_cons_of_mem _ hb)) h1.2
    exact ⟨h1.1.trans h2.1, h2.2⟩
theorem cacheCpl_own {s : State} {c : Nat} {w : Word} {k : Cpl} : Frame 516 s (s.cacheCpl c w k) ∧ SameWait s.host (s.cacheCpl c w k).host :=
  ⟨by unfold State.cacheCpl; simp, rfl, rfl⟩
theorem answerCopies_own {s : State} {a : Nat} {k : Cpl} (hq : Quiet s.host) :
    Frame 516 s (s.answerCopies a k) ∧ Quiet (s.answerCopies a k).host := by
  unfold State.answerCopies
  have h0 : Quiet (s.onHost fun x => { x with opens := x.opens.filter fun d => !isCopy a k.seq d }).host :=
    ⟨hq.1, fun o ho => hq.2 o ((List.mem_filter.mp ho).1)⟩
  have h1 := each_own (m := 516) (P := fun v => Quiet v.host) (l := s.host.opens.filter (isCopy a k.seq))
    (f := fun d s => s.deliver d.h { k with dup := true }) (fun d hd v hv => by
      have hm := List.mem_filter.mp hd
      have h9 : d.kind = 9 := by
        have := hm.2
        simp only [isCopy, Bool.and_eq_true, beq_iff_eq] at this
        exact this.1.1
      have hn := hq.2 d hm.1 h9
      exact ⟨deliver_own hn, hv.same (deliver_wait hn)⟩) h0
  exact ⟨Frame.trans (by simp) h1.1, h1.2⟩
theorem release_own {s : State} {k : Held} (hs : k.h.src ≠ .mesh) (hq : Quiet s.host) : Frame 516 s (s.release k) ∧ Quiet (s.release k).host := by
  unfold State.release
  have key : ∀ v : State, Quiet v.host → Frame 516 v ((v.deliver k.h k.cpl).answerCopies k.h.sess k.cpl) ∧
      Quiet ((v.deliver k.h k.cpl).answerCopies k.h.sess k.cpl).host := fun v hv => by
    have h1 := answerCopies_own (a := k.h.sess) (k := k.cpl) (hv.same (deliver_wait (s := v) (k := k.cpl) hs))
    exact ⟨(deliver_own hs).trans h1.1, h1.2⟩
  cases k.crc with
  | none => exact key s hq
  | some w =>
    have h1 := cacheCpl_own (s := s) (c := k.ctx) (w := w) (k := k.cpl)
    have h2 := key _ (hq.same h1.2)
    exact ⟨h1.1.trans h2.1, h2.2⟩
theorem heldFlush_own {s : State} (hq : Quiet s.host) : Frame 516 s s.heldFlush ∧ Quiet s.heldFlush.host := by
  unfold State.heldFlush
  have h0 : Quiet (s.onHost fun x => { x with held := x.held.filter fun k => !s.unheld k }).host :=
    ⟨fun k hk => hq.1 k ((List.mem_filter.mp hk).1), hq.2⟩
  have h1 := each_own (m := 516) (P := fun v => Quiet v.host) (l := s.host.held.filter s.unheld) (f := release)
    (fun k hk v hv => release_own (hq.1 k ((List.mem_filter.mp hk).1)) hv) h0
  exact ⟨Frame.trans (by simp) h1.1, h1.2⟩
theorem finishCpl_own {s : State} {k : Held} (hs : k.h.src ≠ .mesh) (hq : Quiet s.host) : Frame 516 s (s.finishCpl k) := by
  unfold State.finishCpl
  refine Frame.ite.mpr ⟨fun _ => ?_, fun _ => ?_⟩
  · have h1 := release_own hs hq
    exact h1.1.trans (heldFlush_own h1.2).1
  · have h0 : Quiet (s.onHost fun x => { x with held := x.held ++ [k] }).host :=
      ⟨fun k' hk => (List.mem_append.mp hk).elim (hq.1 k') fun h => by rw [List.mem_singleton.mp h]; exact hs, hq.2⟩
    exact Frame.trans (by simp) (heldFlush_own h0).1
theorem answer_own {s : State} {o : OpenCmd} {a : Answer} (hs : o.h.src ≠ .mesh) (hq : Quiet s.host) : Frame 1540 s (s.answer o a) := by
  unfold State.answer
  have h1 : Frame 1540 s (s.jKnow o.jidx (settle o a s)) := by simp
  exact h1.trans ((finishCpl_own (s := s.jKnow o.jidx (settle o a s)) hs (by rw [State.jKnow_host]; exact hq)).widen rfl)
/-- Nothing outside HOST, the journal and what is sent differs from an accepted command's effect, while nothing that waits answers the head. -/
theorem perform_own {s : State} {cmd : Cmd} {o : OpenCmd} (hs : o.h.src ≠ .mesh) (hp : ∀ v, cmd.post o.h o.pay v = v)
    (hq : Quiet (cmd.act o.h o.pay s).1.host) : Frame 1540 (cmd.act o.h o.pay s).1 (s.perform cmd o) := by
  unfold State.perform
  simp only [hp]
  split
  · exact answer_own hs hq
  · simp

/-! ## Of MESH, an answer changes but what conversations and ports hold -/

/-- What of a conversation an answer does not change: whether it is up, its route, the SEQ expected. -/
def Conv.link (c : Conv) : Nat × Bool × Nat × Nat × Option Nat × Nat := (c.st, c.bound, c.path, c.hops, c.back, c.exp)
/-- MESH is the same but for what its conversations still have to send and what waits at its ports. -/
def MeshSame (s u : State) : Prop := ∃ c p, u.mesh = { s.mesh with convs := c, ports := p } ∧ c.map Conv.link = s.mesh.convs.map Conv.link
theorem MeshSame.of {s u : State} (h : u.mesh = s.mesh) : MeshSame s u := ⟨s.mesh.convs, s.mesh.ports, h, rfl⟩
theorem Conv.link_modAt {l : List Conv} {n : Nat} {f : Conv → Conv} (h : ∀ c, (f c).link = c.link) : (modAt l n f).map Conv.link = l.map Conv.link := by
  refine List.ext_getElem? fun i => ?_
  rw [List.getElem?_map, List.getElem?_map, modAt, List.getElem?_modify]
  cases l[i]? with
  | none => rfl
  | some c => by_cases e : n = i <;> simp [h, e]
theorem MeshSame.onConv {s : State} {n : Nat} {f : Conv → Conv} (h : ∀ c, (f c).link = c.link) : MeshSame s (s.onConv n f) :=
  ⟨_, _, rfl, Conv.link_modAt h⟩
theorem MeshSame.conv {s u : State} (h : MeshSame s u) (n : Nat) : (u.conv n).link = (s.conv n).link := by
  obtain ⟨c, p, e, k⟩ := h
  have e1 : ∀ l : List Conv, (l.getD n {}).link = (l.map Conv.link).getD n (Conv.link {}) := fun l => by
    simp only [List.getD, List.getElem?_map]
    cases l[n]? <;> rfl
  show (u.mesh.convs.getD n {}).link = (s.mesh.convs.getD n {}).link
  rw [e, e1, e1]
  exact congrArg (List.getD · n (Conv.link {})) k
theorem MeshSame.trans {s u v : State} (h : MeshSame s u) (k : MeshSame u v) : MeshSame s v := by
  obtain ⟨c, p, h, g⟩ := h
  obtain ⟨c', p', k, g'⟩ := k
  exact ⟨c', p', by rw [k, h], g'.trans (by rw [h]; exact g)⟩
theorem MeshSame.ite {s a b : State} {c : Prop} {d : Decidable c} (ha : MeshSame s a) (hb : MeshSame s b) : MeshSame s (if c then a else b) := by
  by_cases h : c <;> simpa [h]
theorem MeshSame.each {α : Type} {f : α → State → State} {l : List α} (hf : ∀ a v, MeshSame v (f a v)) {s : State} : MeshSame s (each l f s) := by
  unfold Machine.each
  induction l generalizing s with
  | nil => exact .of rfl
  | cons a l ih => exact (hf a s).trans ih
theorem portPut_same {s : State} {p : Nat} {f : MFrame} : MeshSame s (s.portPut p f) := by
  unfold State.portPut
  exact .ite (.ite (.of rfl) (.of rfl)) ⟨_, _, rfl, rfl⟩
theorem meshSend_same {s : State} {n a b : Nat} {c : MBody} : MeshSame s (s.meshSend n a b c) := by
  unfold State.meshSend
  refine .ite portPut_same ?_
  split
  · exact (portPut_same).trans (.of rfl)
  · exact portPut_same
theorem sendItem_same {s : State} {n : Nat} {i : Item} : MeshSame s (s.sendItem n i) := by
  unfold State.sendItem State.dataSend
  refine .ite (.of rfl) (.ite (.onConv fun _ => rfl) ?_)
  refine MeshSame.trans ?_ meshSend_same
  exact .onConv fun _ => rfl
theorem deliver_same {s : State} {h : RecHdr} {k : Cpl} : MeshSame s (s.deliver h k) := by
  unfold State.deliver
  split
  · exact .of rfl
  · exact .ite sendItem_same (.ite (.of rfl) (.of rfl))
theorem answerCopies_same {s : State} {a : Nat} {k : Cpl} : MeshSame s (s.answerCopies a k) :=
  MeshSame.trans (.of rfl) (MeshSame.each fun d v => deliver_same)
theorem release_same {s : State} {k : Held} : MeshSame s (s.release k) := by
  unfold State.release
  cases k.crc with
  | none => exact deliver_same.trans answerCopies_same
  | some w =>
    show MeshSame s (((s.cacheCpl k.ctx w k.cpl).deliver k.h k.cpl).answerCopies k.h.sess k.cpl)
    exact MeshSame.trans (u := s.cacheCpl k.ctx w k.cpl) (.of rfl) (deliver_same.trans answerCopies_same)
theorem heldFlush_same {s : State} : MeshSame s s.heldFlush := MeshSame.trans (.of rfl) (MeshSame.each fun _ _ => release_same)
theorem finishCpl_same {s : State} {k : Held} : MeshSame s (s.finishCpl k) := by
  unfold State.finishCpl
  exact .ite (release_same.trans heldFlush_same) (MeshSame.trans (.of rfl) heldFlush_same)
theorem answer_same {s : State} {o : OpenCmd} {a : Answer} : MeshSame s (s.answer o a) :=
  MeshSame.trans (.of (State.jKnow_mesh ..)) finishCpl_same
theorem perform_same {s : State} {cmd : Cmd} {o : OpenCmd} (hp : ∀ v, cmd.post o.h o.pay v = v) : MeshSame (cmd.act o.h o.pay s).1 (s.perform cmd o) := by
  unfold State.perform
  simp only [hp]
  split
  · exact answer_same
  · exact .of rfl
theorem perform_wide {s : State} {cmd : Cmd} {o : OpenCmd} (hp : ∀ v, cmd.post o.h o.pay v = v) :
    Frame 8390156 (cmd.act o.h o.pay s).1 (s.perform cmd o) := by
  unfold State.perform
  simp only [hp]
  split <;> simp
theorem Accepts.notMesh {s : State} {cmd : Cmd} {h : RecHdr} {p : Bytes} (ha : Accepts cmd h p s) : h.src ≠ .mesh := by
  have hs := ha.came.source
  intro e
  unfold State.atHand at hs
  rw [e] at hs
  exact hs
theorem recTaken_wait {s : State} {cmd : Cmd} {h : RecHdr} {p : Bytes} : SameWait s.host (s.recTaken cmd h p).host := by
  unfold State.recTaken State.takeFrom State.takeRing State.takeMbx
  simp only []
  repeat' split
  all_goals exact ⟨rfl, rfl⟩
theorem intake_wait {s : State} {cmd : Cmd} {h : RecHdr} {p : Bytes} : SameWait s.host (s.intake cmd h p).host := by
  have h0 := recTaken_wait (s := s) (cmd := cmd) (h := h) (p := p)
  unfold State.intake
  simp only []
  split
  · exact h0
  · split <;> exact h0
/-- A state but for HOST and the journal. -/
def State.withHJ (s : State) (x : HostB) (j : Jnl) : State := { s with host := x, jnl := j }
@[simp] theorem State.withHJ_now {s : State} {x : HostB} {j : Jnl} : (s.withHJ x j).now = s.now := (rfl)
@[simp] theorem State.withHJ_ofs {s : State} {x : HostB} {j : Jnl} : (s.withHJ x j).ofs = s.ofs := (rfl)
@[simp] theorem State.withHJ_out {s : State} {x : HostB} {j : Jnl} : (s.withHJ x j).out = s.out := (rfl)
@[simp] theorem State.withHJ_sets {s : State} {x : HostB} {j : Jnl} : (s.withHJ x j).sets = s.sets := (rfl)
@[simp] theorem State.withHJ_pts {s : State} {x : HostB} {j : Jnl} : (s.withHJ x j).pts = s.pts := (rfl)
@[simp] theorem State.withHJ_free {s : State} {x : HostB} {j : Jnl} : (s.withHJ x j).free = s.free := (rfl)
@[simp] theorem State.withHJ_pending {s : State} {x : HostB} {j : Jnl} : (s.withHJ x j).pending = s.pending := (rfl)
@[simp] theorem State.withHJ_sys {s : State} {x : HostB} {j : Jnl} : (s.withHJ x j).sys = s.sys := (rfl)
@[simp] theorem State.withHJ_pwr {s : State} {x : HostB} {j : Jnl} : (s.withHJ x j).pwr = s.pwr := (rfl)
@[simp] theorem State.withHJ_clk {s : State} {x : HostB} {j : Jnl} : (s.withHJ x j).clk = s.clk := (rfl)
@[simp] theorem State.withHJ_img {s : State} {x : HostB} {j : Jnl} : (s.withHJ x j).img = s.img := (rfl)
@[simp] theorem State.withHJ_lane {s : State} {x : HostB} {j : Jnl} : (s.withHJ x j).lane = s.lane := (rfl)
@[simp] theorem State.withHJ_seam {s : State} {x : HostB} {j : Jnl} : (s.withHJ x j).seam = s.seam := (rfl)
@[simp] theorem State.withHJ_edg {s : State} {x : HostB} {j : Jnl} : (s.withHJ x j).edg = s.edg := (rfl)
@[simp] theorem State.withHJ_comp {s : State} {x : HostB} {j : Jnl} : (s.withHJ x j).comp = s.comp := (rfl)
@[simp] theorem State.withHJ_bnc {s : State} {x : HostB} {j : Jnl} : (s.withHJ x j).bnc = s.bnc := (rfl)
@[simp] theorem State.withHJ_bal {s : State} {x : HostB} {j : Jnl} : (s.withHJ x j).bal = s.bal := (rfl)
@[simp] theorem State.withHJ_evs {s : State} {x : HostB} {j : Jnl} : (s.withHJ x j).evs = s.evs := (rfl)
@[simp] theorem State.withHJ_mode {s : State} {x : HostB} {j : Jnl} : (s.withHJ x j).mode = s.mode := (rfl)
@[simp] theorem State.withHJ_modeQ {s : State} {x : HostB} {j : Jnl} : (s.withHJ x j).modeQ = s.modeQ := (rfl)
@[simp] theorem State.withHJ_adc {s : State} {x : HostB} {j : Jnl} : (s.withHJ x j).adc = s.adc := (rfl)
@[simp] theorem State.withHJ_cmp {s : State} {x : HostB} {j : Jnl} : (s.withHJ x j).cmp = s.cmp := (rfl)
@[simp] theorem State.withHJ_safe {s : State} {x : HostB} {j : Jnl} : (s.withHJ x j).safe = s.safe := (rfl)
@[simp] theorem State.withHJ_mesh {s : State} {x : HostB} {j : Jnl} : (s.withHJ x j).mesh = s.mesh := (rfl)
@[simp] theorem State.withHJ_pair {s : State} {x : HostB} {j : Jnl} : (s.withHJ x j).pair = s.pair := (rfl)
@[simp] theorem State.withHJ_host {s : State} {x : HostB} {j : Jnl} : (s.withHJ x j).host = x := (rfl)
@[simp] theorem State.withHJ_jnl {s : State} {x : HostB} {j : Jnl} : (s.withHJ x j).jnl = j := (rfl)
theorem Frame.withHJ {s u : State} (h : Frame 1536 s u) : ∃ x j, u = s.withHJ x j := by
  refine ⟨u.host, u.jnl, ?_⟩
  have k := h.keeps
  have e1 := k .now rfl
  have e2 := k .ofs rfl
  have e3 := k .out rfl
  have e4 := k .free rfl
  have e5 := k .pending rfl
  have e6 := k .sys rfl
  have e7 := k .pwr rfl
  have e8 := k .clk rfl
  have e9 := k .img rfl
  have e10 := k .lane rfl
  have e11 := k .seam rfl
  have e12 := k .edg rfl
  have e13 := k .comp rfl
  have e14 := k .bnc rfl
  have e15 := k .bal rfl
  have e16 := k .evs rfl
  have e17 := k .mode rfl
  have e18 := k .modeQ rfl
  have e19 := k .adc rfl
  have e20 := k .cmp rfl
  have e21 := k .safe rfl
  have e22 := k .mesh rfl
  have e23 := k .pair rfl
  have e24 := k .pts rfl
  clear k h
  cases s
  cases u
  simp only [Part.same, Prod.mk.injEq] at *
  obtain ⟨e3, e25⟩ := e3
  subst_vars
  rfl
/-- What the state after an accepted command holds of its effect v: what answers may touch differs alone. -/
structure After (calm : Prop) (v u : State) : Prop where
  wide : Frame 8390156 v u
  mesh : MeshSame v u
  own : calm → Frame 1540 v u
/-- What a claim about an accepted command needs: its effect on a state that differs in HOST and the journal alone. -/
theorem Accepts.givesAt {s : State} {cmd : Cmd} {t m : Nat} {h : RecHdr} {p : Bytes} {c : Instr} {l : List Part} {F : State → Prop}
    (ha : Accepts cmd h p (s.begin t)) (e : exec c s = .next (hostRow cmd t h p s)) (hp : ∀ v, cmd.post h p v = v)
    (hm : ∀ x j v, v = (s.begin t).withHJ x j → Frame m v (cmd.act h p v).1) (hq : ∀ v : State, Quiet v.host → Quiet (cmd.act h p v).1.host)
    (hc : (maskOfParts (.now :: .out :: l)) = m ||| 1541 ||| maskOfParts (.now :: .out :: l))
    (hf : ∀ x j u, x = ((s.begin t).intake cmd h p).host → After (s.heldParts = []) (cmd.act h p ((s.begin t).withHJ x j)).1 u → F u) :
    Gives c s (l ++ s.heldParts) F := by
  obtain ⟨s3, o, l3, h3, hx, rfl, rfl, e3⟩ := hostRow_accepts ha
  have hu : After (s.heldParts = []) (cmd.act o.h o.pay s3).1 (hostRow cmd t o.h o.pay s) := by
    rw [e3]
    refine ⟨?_, ?_, fun hh => ?_⟩
    · exact Eq.mpr (State.noteSets_frame rfl) (Eq.mpr (State.finish_frame rfl) (perform_wide hp))
    · exact (perform_same hp).trans (.of (by simp))
    · refine Eq.mpr (State.noteSets_frame rfl) (Eq.mpr (State.finish_frame rfl) (perform_own ha.notMesh hp (hq _ ?_)))
      rw [hx]
      exact (quiet_of hh).same intake_wait
  refine ⟨_, e, ?_, ?_⟩
  case refine_2 =>
    obtain ⟨x, j, e4⟩ := h3.withHJ
    have hx' : x = ((s.begin t).intake cmd o.h o.pay).host := by rw [← hx, e4, State.withHJ_host]
    rw [e4] at hu
    exact hf x j _ hx' hu
  obtain ⟨x3, j3, e5⟩ := h3.withHJ
  have hb : Frame 5 s (s.begin t) := by simp
  have hmo : ∀ (l : List Part) (k : List Part), maskOfParts l ||| maskOfParts (l ++ k) = maskOfParts (l ++ k) := mask_append
  have key : ∀ k, k ||| (m ||| 1541) = m ||| 1541 → k ||| maskOfParts (.now :: .out :: (l ++ s.heldParts)) = maskOfParts (.now :: .out :: (l ++ s.heldParts)) := fun k hk => by
    have h1 : k ||| maskOfParts (.now :: .out :: l) = maskOfParts (.now :: .out :: l) := by
      rw [hc]
      exact Mask.sub (by rw [← Nat.or_assoc, Nat.or_self]) hk
    exact Mask.sub (hmo (.now :: .out :: l) s.heldParts) h1
  have hlast : Frame (maskOfParts (.now :: .out :: (l ++ s.heldParts))) (cmd.act o.h o.pay s3).1 (hostRow cmd t o.h o.pay s) := by
    by_cases hh : s.heldParts = []
    · refine (hu.own hh).widen (key 1540 ?_)
      rw [Nat.or_comm, Nat.or_assoc]; rfl
    · refine hu.wide.widen ?_
      have h1 : s.heldParts = [.mesh, .free] := by
        revert hh
        unfold State.heldParts
        split <;> simp
      have h2 : 1540 ||| maskOfParts (.now :: .out :: (l ++ s.heldParts)) = maskOfParts (.now :: .out :: (l ++ s.heldParts)) :=
        key 1540 (by rw [Nat.or_comm, Nat.or_assoc]; rfl)
      have h3 : 8388616 ||| maskOfParts (.now :: .out :: (l ++ s.heldParts)) = maskOfParts (.now :: .out :: (l ++ s.heldParts)) := by
        rw [h1]
        exact mask_suffix (.now :: .out :: l)
      calc 8390156 ||| _ = 1540 ||| (8388616 ||| maskOfParts (.now :: .out :: (l ++ s.heldParts))) := by rw [← Nat.or_assoc, show (1540 ||| 8388616 : Nat) = 8390156 from rfl]
        _ = _ := by rw [h3, h2]
  refine ((((hb.widen (key 5 ?_)).trans (h3.widen (key 1536 ?_))).trans ((hm x3 j3 s3 e5).widen (key m ?_))).trans hlast) |>.only (by rw [Nat.or_self])
  all_goals first | (rw [← Nat.or_assoc, Nat.or_self]; done) | (rw [Nat.or_comm, Nat.or_assoc]; rfl)
/-- The same for an effect whose footprint is the same on every state. -/
theorem Accepts.givesPost {s : State} {cmd : Cmd} {t m : Nat} {h : RecHdr} {p : Bytes} {c : Instr} {l : List Part} {F : State → Prop}
    (ha : Accepts cmd h p (s.begin t)) (e : exec c s = .next (hostRow cmd t h p s)) (hp : ∀ v, cmd.post h p v = v)
    (hm : ∀ v, Frame m v (cmd.act h p v).1) (hq : ∀ v : State, Quiet v.host → Quiet (cmd.act h p v).1.host)
    (hc : (maskOfParts (.now :: .out :: l)) = m ||| 1541 ||| maskOfParts (.now :: .out :: l))
    (hf : ∀ x j u, x = ((s.begin t).intake cmd h p).host → After (s.heldParts = []) (cmd.act h p ((s.begin t).withHJ x j)).1 u → F u) :
    Gives c s (l ++ s.heldParts) F :=
  ha.givesAt e hp (fun _ _ v _ => hm v) hq hc hf
/-- The same for a command that does nothing after its answer. -/
theorem Accepts.gives {s : State} {cmd : Cmd} {t m : Nat} {h : RecHdr} {p : Bytes} {c : Instr} {l : List Part} {F : State → Prop}
    (ha : Accepts cmd h p (s.begin t)) (e : exec c s = .next (hostRow cmd t h p s)) (hp : cmd.post = fun _ _ v => v)
    (hm : ∀ v, Frame m v (cmd.act h p v).1) (hq : ∀ v : State, Quiet v.host → Quiet (cmd.act h p v).1.host)
    (hc : (maskOfParts (.now :: .out :: l)) = m ||| 1541 ||| maskOfParts (.now :: .out :: l))
    (hf : ∀ x j u, x = ((s.begin t).intake cmd h p).host → After (s.heldParts = []) (cmd.act h p ((s.begin t).withHJ x j)).1 u → F u) :
    Gives c s (l ++ s.heldParts) F := ha.givesPost e (fun v => by rw [hp]) hm hq hc hf
/-- The same for an effect that leaves HOST alone. -/
theorem Accepts.gives0 {s : State} {cmd : Cmd} {t m : Nat} {h : RecHdr} {p : Bytes} {c : Instr} {l : List Part} {F : State → Prop}
    (ha : Accepts cmd h p (s.begin t)) (e : exec c s = .next (hostRow cmd t h p s)) (hp : cmd.post = fun _ _ v => v)
    (hm : ∀ v, Frame m v (cmd.act h p v).1) (hb : m.testBit 9 = false)
    (hc : (maskOfParts (.now :: .out :: l)) = m ||| 1541 ||| maskOfParts (.now :: .out :: l))
    (hf : ∀ x j u, x = ((s.begin t).intake cmd h p).host → After (s.heldParts = []) (cmd.act h p ((s.begin t).withHJ x j)).1 u → F u) :
    Gives c s (l ++ s.heldParts) F :=
  ha.gives e hp hm (fun v hv => by rw [show (cmd.act h p v).1.host = v.host from (hm v).keeps .host hb]; exact hv) hc hf

end Sys2Proof.Machine
end

