-- ==== Sys2Proof/Laws/Bytes.lean ====
section
/-! SUPPORT. Fields of payloads and records: what a field reads from a string written field by field. -/
namespace Sys2Proof.Machine

@[simp] theorem le_length (n v : Nat) : (le n v).length = n := by
  induction n generalizing v with
  | zero => rfl
  | succ n ih => simp [le, ih]
theorem ofLe_le (n v : Nat) : ofLe (le n v) = v % 256 ^ n := by
  induction n generalizing v with
  | zero => simp [le, ofLe, Nat.mod_one]
  | succ n ih =>
    have hp : 256 ^ (n + 1) = 256 * 256 ^ n := by rw [Nat.pow_succ, Nat.mul_comm]
    simp only [le, ofLe, ih, BitVec.toNat_ofNat, hp, Nat.mod_mul]
/-- The first field. -/
theorem field_le (n v : Nat) (r : Bytes) : field (le n v ++ r) 0 n = v % 256 ^ n := by
  have h : slice (le n v ++ r) 0 n = le n v := by
    simp [slice]
  rw [field, h, ofLe_le]
/-- A later field. -/
theorem field_skip (n v k m : Nat) (r : Bytes) (h : n ≤ k) : field (le n v ++ r) k m = field r (k - n) m := by
  have h0 : (le n v).drop k = [] := List.drop_eq_nil_of_le (by simpa using h)
  simp [field, slice, List.drop_append, h0]
/-- The only field. -/
theorem field_only (n v : Nat) : field (le n v) 0 n = v % 256 ^ n := by
  have := field_le n v []
  rwa [List.append_nil] at this

end Sys2Proof.Machine
end

