-- ==== Sys2Proof/Laws/Coding.lean ====
section
/-! SUPPORT. What a transmitter puts on a lane a receiver reads back: the scrambler and its inverse, blocks, frames (R201, R236 to R240, R580, R581). -/
namespace Sys2Proof.Machine

/-! ## The scrambler -/

theorem scramble_lt (p d : Nat) : scramble p d < 2 ^ 64 := by
  unfold scramble
  dsimp only
  have h1 := Nat.mod_lt (d ^^^ (p % 2 ^ 58 >>> 19) ^^^ (p % 2 ^ 58)) (Nat.two_pow_pos 39)
  have h2 := Nat.mod_lt ((d >>> 39) ^^^ ((p % 2 ^ 58 + 2 ^ 58 * ((d ^^^ (p % 2 ^ 58 >>> 19) ^^^ (p % 2 ^ 58)) % 2 ^ 39)) >>> 58) ^^^
    ((p % 2 ^ 58 + 2 ^ 58 * ((d ^^^ (p % 2 ^ 58 >>> 19) ^^^ (p % 2 ^ 58)) % 2 ^ 39)) >>> 39)) (Nat.two_pow_pos 25)
  omega
theorem testBit_low_add (a b n i : Nat) (h : b < 2 ^ n) : (b + 2 ^ n * a).testBit i = if i < n then b.testBit i else a.testBit (i - n) := by
  rw [Nat.add_comm, Nat.testBit_two_pow_mul_add a h]
/-- The descrambler undoes the scrambler (R201). -/
theorem descramble_scramble (p d : Nat) (hd : d < 2 ^ 64) : descramble p (scramble p d) = d := by
  have hp : p % 2 ^ 58 < 2 ^ 58 := Nat.mod_lt _ (Nat.two_pow_pos _)
  unfold descramble
  dsimp only
  rw [Nat.mod_eq_of_lt (scramble_lt p d)]
  refine Nat.eq_of_testBit_eq fun i => ?_
  have lo (x : Nat) : x % 2 ^ 39 < 2 ^ 39 := Nat.mod_lt _ (Nat.two_pow_pos _)
  by_cases hi : i < 64
  · simp only [Nat.testBit_mod_two_pow, Nat.testBit_xor, Nat.testBit_shiftRight, testBit_low_add _ _ _ _ hp, hi, decide_true, Bool.true_and, scramble,
      testBit_low_add _ _ _ _ (lo _)]
    by_cases h1 : i < 39
    · simp [h1, show ¬(58 + i < 58) by omega, show 19 + i < 58 by omega, show i < 58 by omega, show 58 + i - 58 = i by omega]
      cases d.testBit i <;> cases p.testBit (19 + i) <;> cases p.testBit i <;> rfl
    · by_cases h2 : i < 58
      · simp [h1, h2, show ¬(58 + i < 58) by omega, show ¬(19 + i < 58) by omega, show 58 + i - 58 = i by omega, show 19 + i - 58 < 39 by omega,
          show 39 + (i - 39) = i by omega, show i - 39 < 25 by omega, show 58 + (i - 39) - 58 = 19 + i - 58 by omega, show ¬(58 + (i - 39) < 58) by omega]
        generalize d.testBit i = a, d.testBit (19 + i - 58) = b, (decide (19 + (19 + i - 58) < 58) && p.testBit (19 + (19 + i - 58))) = c,
          (decide (19 + i - 58 < 58) && p.testBit (19 + i - 58)) = e, p.testBit i = f
        cases a <;> cases b <;> cases c <;> cases e <;> cases f <;> rfl
      · simp [h1, h2, show ¬(58 + i < 58) by omega, show ¬(19 + i < 58) by omega, show 58 + i - 58 = i by omega, show 19 + i - 58 < 39 by omega,
          show 39 + (i - 39) = i by omega, show i - 39 < 25 by omega, show 58 + (i - 39) - 58 = 19 + i - 58 by omega, show i - 58 < 39 by omega, show ¬(58 + (i - 39) < 58) by omega]
        generalize d.testBit i = a, d.testBit (19 + i - 58) = b, (decide (19 + (19 + i - 58) < 58) && p.testBit (19 + (19 + i - 58))) = c,
          (decide (19 + i - 58 < 58) && p.testBit (19 + i - 58)) = e, d.testBit (i - 58) = f,
          (decide (19 + (i - 58) < 58) && p.testBit (19 + (i - 58))) = g, (decide (i - 58 < 58) && p.testBit (i - 58)) = k
        cases a <;> cases b <;> cases c <;> cases e <;> cases f <;> cases g <;> cases k <;> rfl
  · rw [Nat.testBit_mod_two_pow]
    simp [hi, Nat.testBit_lt_two_pow (Nat.lt_of_lt_of_le hd (Nat.pow_le_pow_right (by omega) (show 64 ≤ i by omega)))]

/-! ## Blocks -/

theorem le_ofLe (b : Bytes) : le b.length (ofLe b) = b := by
  induction b with
  | nil => rfl
  | cons x r ih =>
    have h1 : (x.toNat + 256 * ofLe r) / 256 = ofLe r := by have := x.isLt; omega
    have h2 : BitVec.ofNat 8 (x.toNat + 256 * ofLe r) = x := by
      apply BitVec.eq_of_toNat_eq
      have := x.isLt
      rw [BitVec.toNat_ofNat]
      omega
    simp [le, ofLe, h1, h2, ih]
theorem ofLe_lt (b : Bytes) : ofLe b < 256 ^ b.length := by
  induction b with
  | nil => simp [ofLe]
  | cons x r ih =>
    have := x.isLt
    simp only [ofLe, List.length_cons, Nat.pow_succ]
    omega
theorem slice_whole (b : Bytes) : slice b 0 b.length = b := by simp [slice]
theorem field_whole {b : Bytes} {n : Nat} (h : b.length = n) : field b 0 n = ofLe b := by rw [field, ← h, slice_whole]
theorem le_field {b : Bytes} {n : Nat} (h : b.length = n) : le n (field b 0 n) = b := by
  subst h
  rw [field_whole rfl, le_ofLe]
theorem field_lt64 {b : Bytes} (h : b.length = 8) : field b 0 8 < 2 ^ 64 := by
  have := ofLe_lt b
  rw [field_whole h]
  rw [h] at this
  omega
/-- A receiver that was in step reads the blocks that were sent (R201 to R203). -/
theorem hear_shout (pre : Nat) (l : List (Bool × Bytes)) (h8 : ∀ b ∈ l, b.2.length = 8) (hm : NoFalseMarker pre l) :
    hear pre (shout pre l) = l.map fun b => (blkKind b, b.2) := by
  induction l generalizing pre with
  | nil => rfl
  | cons a r ih =>
    obtain ⟨c, b⟩ := a
    have hb : b.length = 8 := h8 _ List.mem_cons_self
    have hr (p : Nat) (k : NoFalseMarker p r) := ih p (fun x m => h8 x (List.mem_cons_of_mem _ m)) k
    by_cases hk : (c && isMarker b) = true
    · have e : shout pre ((c, b) :: r) = { hdr := 2, pay := field b 0 8 } :: shout pre r := by simp only [shout, hk, if_true]
      have hm' : NoFalseMarker pre r := fun x m => hm x (by rw [e]; exact List.mem_cons_of_mem _ m)
      simp only [Bool.and_eq_true] at hk
      rw [e]
      simp only [hear, le_field hb, hk.2, and_self, if_true, hr pre hm', List.map_cons, blkKind, hk.1]
    · have e : shout pre ((c, b) :: r) = { hdr := if c then 2 else 1, pay := scramble pre (field b 0 8) } :: shout (lineState (scramble pre (field b 0 8))) r := by
        simp only [shout, hk, if_false, Bool.false_eq_true]
      have hm' : NoFalseMarker (lineState (scramble pre (field b 0 8))) r := fun x m => hm x (by rw [e]; exact List.mem_cons_of_mem _ m)
      have h0 : c = true → isMarker b = false → isMarker (le 8 (scramble pre (field b 0 8))) = false :=
        hm (({ hdr := if c then 2 else 1, pay := scramble pre (field b 0 8) } : Blk), (c, b)) (by rw [e]; exact List.mem_cons_self)
      have hn : ¬((if c = true then 2 else 1) = 2 ∧ isMarker (le 8 (scramble pre (field b 0 8))) = true) := by
        rintro ⟨k1, k2⟩
        cases c with
        | false => simp at k1
        | true =>
          simp only [Bool.true_and, Bool.not_eq_true] at hk
          rw [h0 rfl hk] at k2
          exact Bool.false_ne_true k2
      rw [e]
      simp only [hear, if_neg hn, descramble_scramble _ _ (field_lt64 hb), le_field hb, hr _ hm', List.map_cons, blkKind]
      cases c with
      | false => simp
      | true =>
        simp only [Bool.true_and, Bool.not_eq_true] at hk
        simp [hk]

/-! ## Frames -/

theorem slice_append_left (a b : Bytes) (o n : Nat) (h : o + n ≤ a.length) : slice (a ++ b) o n = slice a o n := by
  unfold slice
  rw [List.drop_append_of_le_length (by omega), List.take_append_of_le_length (by rw [List.length_drop]; omega)]
theorem slice_append_right (a b : Bytes) (o n : Nat) (h : a.length ≤ o) : slice (a ++ b) o n = slice b (o - a.length) n := by
  unfold slice
  rw [List.drop_append, List.drop_eq_nil_of_le h, List.nil_append]
/-- A string cut into pieces of k bytes is the string again. -/
theorem pieces (k n : Nat) (b : Bytes) (h : b.length = k * n) : ((List.range n).map fun i => slice b (k * i) k).flatten = b := by
  induction n generalizing b with
  | zero => simpa using (List.length_eq_zero_iff.1 (by simpa using h)).symm
  | succ n ih =>
    have hk : k ≤ b.length := by rw [h, Nat.mul_succ]; omega
    have e : b = b.take k ++ b.drop k := (List.take_append_drop k b).symm
    have hl : (b.take k).length = k := by rw [List.length_take]; omega
    have h0 : slice b (k * 0) k = b.take k := by
      simp only [slice, Nat.mul_zero, List.drop_zero, hl, Nat.sub_self, List.replicate_zero, List.append_nil]
    rw [List.range_succ_eq_map, List.map_cons, List.map_map, List.flatten_cons, h0]
    have h1 : (fun i => slice b (k * i) k) ∘ Nat.succ = fun i => slice (b.drop k) (k * i) k := by
      funext i
      show slice b (k * (i + 1)) k = _
      have : slice b (k * (i + 1)) k = slice (b.take k ++ b.drop k) (k * (i + 1)) k := by rw [← e]
      rw [this, slice_append_right _ _ _ _ (by rw [hl, Nat.mul_succ]; omega), hl, Nat.mul_succ, Nat.add_sub_cancel]
    rw [h1, ih _ (by rw [List.length_drop, h, Nat.mul_succ]; omega)]
    exact e.symm
/-- The data blocks of a frame pass in, and its end block ends it. -/
theorem scan_data (lenOf : Bytes → Nat) (thru : BKind → Bool) (ht : thru .data = false) (ds : List Bytes) (body : Bytes) (r : List (BKind × Bytes)) :
    frameScan lenOf thru (.inside ds.length body) (ds.map (fun d => (BKind.data, d)) ++ r) = frameScan lenOf thru (.inside 0 (body ++ ds.flatten)) r := by
  induction ds generalizing body with
  | nil => simp
  | cons d l ih =>
    simp only [List.length_cons, List.map_cons, List.cons_append, frameScan, frameNext, ht, Bool.false_eq_true, if_false, if_true, List.nil_append, ih,
      List.flatten_cons, List.append_assoc]
/-- One whole frame alone on a line. -/
theorem scan_frame (lenOf : Bytes → Nat) (thru : BKind → Bool) (ht : thru .data = false) (hf : thru .fin = false) (hdr : Bytes) (ds : List Bytes) (e : Bytes)
    (hl : lenOf hdr = ds.length) :
    frameScan lenOf thru (.wait true) ((BKind.data, hdr) :: ds.map (fun d => (BKind.data, d)) ++ [(BKind.fin, e)]) = [some (hdr ++ ds.flatten, e)] := by
  rw [List.cons_append]
  have h1 : frameScan lenOf thru (.wait true) ((BKind.data, hdr) :: (ds.map (fun d => (BKind.data, d)) ++ [(BKind.fin, e)])) =
      frameScan lenOf thru (.inside ds.length hdr) (ds.map (fun d => (BKind.data, d)) ++ [(BKind.fin, e)]) := by
    simp [frameScan, frameNext, ht, hl]
  rw [h1, scan_data lenOf thru ht]
  simp [frameScan, frameNext, hf]

theorem slice_length (b : Bytes) (o n : Nat) : (slice b o n).length = n := by
  simp [slice]
theorem blkKind_data (b : Bytes) : blkKind (false, b) = .data := rfl
theorem fin_kind (b : Bytes) : blkKind (true, 0xE1 :: b) = .fin := by
  have h1 : isMarker (0xE1 :: b) = false := by
    have : slice (0xE1 :: b) 0 1 = [0xE1] := by simp [slice]
    unfold isMarker
    rw [this]
    rfl
  have h2 : field (0xE1 :: b) 0 1 = 0xE1 := by simp [field, slice, ofLe]
  unfold blkKind ctlKind
  rw [h1, h2]
  rfl
/-! ## Mesh frames -/

theorem mhdr_read (h : MHdr) (n : Nat) (r : Bytes) (hf : HeaderInFields h) (hn : n < 2 ^ 16) : mhdrOf (mhdrBytes h n ++ r) = h ∧ field (mhdrBytes h n ++ r) 4 2 = n := by
  obtain ⟨h1, h2, h3, h4, h5, h6, h7⟩ := hf
  obtain ⟨typ, dst, src, path, mirror, hops, epoch, seq, word⟩ := h
  dsimp only at h1 h2 h3 h4 h5 h6 h7
  have e : mhdrBytes { typ := typ, dst := dst, src := src, path := path, mirror := mirror, hops := hops, epoch := epoch, seq := seq, word := word } n ++ r =
      le 1 typ ++ (le 1 dst ++ (le 1 src ++ (le 1 (bit path + 2 * bit mirror + 16 * (hops % 16)) ++ (le 2 n ++ (le 2 epoch ++ (le 4 seq ++ (le 4 word ++ r))))))) := by
    simp only [mhdrBytes, mhdrFlags, List.append_assoc]
  have hb : bit path < 2 ∧ bit mirror < 2 := by cases path <;> cases mirror <;> simp [bit]
  have f : (bit path + 2 * bit mirror + 16 * (hops % 16)) % 256 = bit path + 2 * bit mirror + 16 * hops := by omega
  have b0 : (bit path + 2 * bit mirror + 16 * hops).testBit 0 = path := by
    rw [Nat.testBit_zero]
    cases path <;> cases mirror <;> simp [bit] <;> omega
  have b1 : (bit path + 2 * bit mirror + 16 * hops).testBit 1 = mirror := by
    rw [Nat.testBit_eq_decide_div_mod_eq]
    cases path <;> cases mirror <;> simp [bit] <;> omega
  have b2 : bits (bit path + 2 * bit mirror + 16 * hops) 7 4 = hops := by
    unfold bits
    simp only [Nat.shiftRight_eq_div_pow]
    omega
  constructor
  · rw [e, mhdrOf]
    simp only [field_skip, field_le, Nat.reduceLeDiff, Nat.reduceSub, Nat.le_refl, Nat.sub_self, f, b0, b1, b2, Nat.reducePow]
    congr 1 <;> omega
  · rw [e]
    simp only [field_skip, field_le, Nat.reduceLeDiff, Nat.reduceSub]
    omega

end Sys2Proof.Machine
end

