-- ==== Sys2Proof/Laws/Memory.lean ====
section
/-! SUPPORT. Laws of the addressed memories (load buffer, flash slots, working copy, bench memories, repetitive tables): a place reads what was last
written to it, a write leaves every other place alone, and every operation keeps the canonical form. -/
namespace Sys2Proof.Machine.Sparse
variable {α : Type} [DecidableEq α] {d : α}

/-- Below its first place a canonical store reads as the default. -/
theorem get_below {l : List (Nat × α)} {b i : Nat} (h : wfFrom d b l = true) (hi : i < b) : get d l i = d := by
  cases l with
  | nil => rfl
  | cons x r =>
    obtain ⟨j, v⟩ := x
    simp only [wfFrom, Bool.and_eq_true, decide_eq_true_eq] at h
    have : i < j := by omega
    simp [get, this, Nat.ne_of_lt this]
theorem wfFrom_mono {l : List (Nat × α)} {a b : Nat} (h : wfFrom d b l = true) (hab : a ≤ b) : wfFrom d a l = true := by
  cases l with
  | nil => rfl
  | cons x r =>
    simp only [wfFrom, Bool.and_eq_true, decide_eq_true_eq] at h ⊢
    exact ⟨⟨by omega, h.1.2⟩, h.2⟩
theorem put_wfFrom {l : List (Nat × α)} {b i : Nat} {v : α} (h : wfFrom d b l = true) (hb : b ≤ i) : wfFrom d b (put d l i v) = true := by
  induction l generalizing b with
  | nil => by_cases hv : v = d <;> simp [put, wfFrom, hv, hb]
  | cons x r ih =>
    obtain ⟨j, w⟩ := x
    simp only [wfFrom, Bool.and_eq_true, decide_eq_true_eq] at h
    obtain ⟨⟨h1, h2⟩, h3⟩ := h
    unfold put
    by_cases hij : i < j
    · by_cases hv : v = d
      · simp [hij, hv, wfFrom, h1, h2, h3]
      · simp only [if_pos hij, if_neg hv, wfFrom, Bool.and_eq_true, decide_eq_true_eq]
        exact ⟨⟨hb, hv⟩, ⟨by omega, h2⟩, h3⟩
    · rw [if_neg hij]
      by_cases he : i = j
      · subst he
        by_cases hv : v = d
        · simpa [hv] using wfFrom_mono h3 (by omega)
        · simp [hv, wfFrom, h1, h3]
      · simp only [if_neg he, wfFrom, Bool.and_eq_true, decide_eq_true_eq]
        exact ⟨⟨h1, h2⟩, ih h3 (by omega)⟩
/-- A write keeps the canonical form. -/
theorem put_wf {l : List (Nat × α)} {i : Nat} {v : α} (h : wf d l = true) : wf d (put d l i v) = true := put_wfFrom h (Nat.zero_le i)
theorem putAll_wf {l : List (Nat × α)} {i : Nat} {vs : List α} (h : wf d l = true) : wf d (putAll d l i vs) = true := by
  induction vs generalizing l i with
  | nil => exact h
  | cons v r ih => exact ih (put_wf h)
theorem filter_wfFrom {l : List (Nat × α)} {b : Nat} (p : Nat × α → Bool) (h : wfFrom d b l = true) : wfFrom d b (l.filter p) = true := by
  induction l generalizing b with
  | nil => rfl
  | cons x r ih =>
    obtain ⟨j, w⟩ := x
    simp only [wfFrom, Bool.and_eq_true, decide_eq_true_eq] at h
    obtain ⟨⟨h1, h2⟩, h3⟩ := h
    rw [List.filter_cons]
    split
    · simp only [wfFrom, Bool.and_eq_true, decide_eq_true_eq]
      exact ⟨⟨h1, h2⟩, ih h3⟩
    · exact wfFrom_mono (ih h3) (by omega)
theorem within_wf {l : List (Nat × α)} {a b : Nat} (h : wf d l = true) : wf d (within a b l) = true := filter_wfFrom _ h
theorem clear_wf {l : List (Nat × α)} {a b : Nat} (h : wf d l = true) : wf d (clear a b l) = true := filter_wfFrom _ h
theorem ofList_wf {l : List α} : wf d (ofList d l) = true := by
  have k : ∀ (l : List α) (i b : Nat), b ≤ i → wfFrom d b (ofList.go d i l) = true := by
    intro l
    induction l with
    | nil => intro _ _ _; rfl
    | cons v r ih =>
      intro i b hb
      unfold ofList.go
      split
      · exact ih _ _ (by omega)
      · rename_i hv
        simp only [wfFrom, Bool.and_eq_true, decide_eq_true_eq]
        exact ⟨⟨hb, hv⟩, ih _ _ (Nat.le_refl _)⟩
  exact k l 0 0 (Nat.le_refl 0)

/-- A place reads what was written to it. -/
theorem get_put_same {l : List (Nat × α)} {b i : Nat} {v : α} (h : wfFrom d b l = true) : get d (put d l i v) i = v := by
  induction l generalizing b with
  | nil => by_cases hv : v = d <;> simp [put, get, hv]
  | cons x r ih =>
    obtain ⟨j, w⟩ := x
    simp only [wfFrom, Bool.and_eq_true, decide_eq_true_eq] at h
    obtain ⟨⟨h1, h2⟩, h3⟩ := h
    unfold put
    by_cases hij : i < j
    · by_cases hv : v = d <;> simp [hij, hv, get, Nat.ne_of_lt hij]
    · rw [if_neg hij]
      by_cases he : i = j
      · subst he
        by_cases hv : v = d
        · simpa [hv] using get_below h3 (Nat.lt_succ_self i)
        · simp [hv, get]
      · simpa [he, get, hij] using ih h3
/-- A write leaves every other place alone. -/
theorem get_put_other {l : List (Nat × α)} {b i k : Nat} {v : α} (h : wfFrom d b l = true) (hk : k ≠ i) : get d (put d l i v) k = get d l k := by
  induction l generalizing b with
  | nil => by_cases hv : v = d <;> simp [put, get, hv, hk]
  | cons x r ih =>
    obtain ⟨j, w⟩ := x
    simp only [wfFrom, Bool.and_eq_true, decide_eq_true_eq] at h
    obtain ⟨⟨h1, h2⟩, h3⟩ := h
    unfold put
    by_cases hij : i < j
    · by_cases hv : v = d
      · simp [hij, hv]
      · simp only [if_pos hij, if_neg hv]
        rw [get, if_neg hk]
        split
        · have : k < j := by omega
          simp [get, Nat.ne_of_lt this, this]
        · rfl
    · rw [if_neg hij]
      by_cases he : i = j
      · subst he
        by_cases hv : v = d
        · simp only [if_true, if_pos hv]
          by_cases hki : k < i
          · rw [get_below h3 (show k < i + 1 by omega)]
            simp [get, hk, hki]
          · simp [get, hk, hki]
        · simp [hv, get, hk]
      · simp only [if_neg he, get]
        split
        · rfl
        · split
          · rfl
          · exact ih h3

end Sys2Proof.Machine.Sparse

namespace Sys2Proof.Machine
/-- The memories are canonical right after reset: nothing is listed. -/
theorem reset_memories_wf : Sparse.wf 0 State.reset.img.buf = true ∧ (∀ b ∈ State.reset.bnc.benches, Sparse.wf 0 b.mem = true) ∧
    (∀ l ∈ State.reset.bnc.loops, Sparse.wf 0 l.tab = true) := by decide +kernel
end Sys2Proof.Machine
end

