-- ==== Sys2Proof/Laws/Rows.lean ====
section
/-! SUPPORT. Which parts of the state each command may touch: one lemma per command, and what a claim about a command needs from it. -/
namespace Sys2Proof.Machine
set_option linter.all false

/-- An outcome that goes on, with a frame. -/
inductive Goes (m : Nat) (s : State) : Host.Outcome State Fault Refusal → Prop
  | mk' (u : State) (h : Frame m s u) : Goes m s (.next u)
theorem Goes.mk {m : Nat} (s u : State) (h : Frame m s u) : Goes m s (.next u) := .mk' u h
/-- A claim about a command, from its frame and what its next state holds. -/
theorem Goes.gives {c : Instr} {m : Nat} {s : State} {l : List Part} {F : State → Prop} (h : Goes m s (exec c s))
    (k : m ||| maskOfParts (.now :: .out :: l) = maskOfParts (.now :: .out :: l)) (hf : ∀ u, exec c s = .next u → F u) : Gives c s l F := by
  cases e : exec c s with
  | next u =>
    rw [e] at h
    cases h with
    | mk' _ h => exact ⟨u, e, h.only k, hf u e⟩
  | fault f => cases f
  | refused r => rw [e] at h; cases h

/-- A command at an instant touches what its effect touches, time and what is sent. -/
@[simp] theorem State.run_frame {m : Nat} {s u : State} {t : Nat} {f : State → State} (hf : ∀ v, Frame m v (f v)) (h : 5 ||| m = m) :
    Frame m s (State.run t f u) = Frame m s u := by
  have hs : ∀ k, k ||| 5 = 5 → k ||| m = m := fun k e => Mask.sub h e
  refine Frame.last (m := m) ?_ (Nat.or_self m)
  unfold State.run
  refine Eq.mpr (State.noteSets_frame (hs _ rfl)) (Eq.mpr (State.finish_frame (hs _ rfl)) ?_)
  exact Frame.trans (by simp [hs]) (hf _)
@[simp] theorem State.runIf_frame {m : Nat} {s u : State} {t : Nat} {c : State → Bool} {f : State → State} (hf : ∀ v, Frame m v (f v)) (h : 5 ||| m = m) :
    Frame m s (State.runIf t c f u) = Frame m s u := by
  unfold State.runIf
  refine State.run_frame (fun v => ?_) h
  cases c (State.begin t u)
  · simp
  · exact hf v
theorem execAck_goes {u : State} {a0 : Nat} {a1 : LaneRx} : Goes 19281445 u (execAck a0 a1 u) := by
  refine Goes.mk _ _ (Eq.mpr (State.runIf_frame (fun v => ?_) rfl) (by simp))
  repeat' (first | (simp [↓Frame.ite]; done) | (with_reducible refine Frame.ite.mpr ⟨fun _ => ?_, fun _ => ?_⟩) | split | (refine ⟨fun _ => ?_, fun _ => ?_⟩) | (intro _) | (refine Eq.mpr (State.seamIn_frame ?_ rfl) ?_) | (refine Eq.mpr (State.allowed_frame ?_ rfl) ?_) | simp [↓Frame.ite])
theorem execAcquisitionTimeout_goes {u : State} {a0 : Nat} : Goes 133 u (execAcquisitionTimeout a0 u) := by
  refine Goes.mk _ _ (Eq.mpr (State.runIf_frame (fun v => ?_) rfl) (by simp))
  simp
theorem execAdcCal_goes {u : State} {a0 : Nat} {a1 : RecHdr} : Goes 26215949 u (execAdcCal a0 a1 u) := by
  exact Goes.mk _ _ (Eq.mpr (State.hostRow_frame (cmdAdcCal_ok.widen rfl) rfl) (by simp))
theorem execAdcConversionDone_goes {u : State} {a0 : Nat} {a1 : Nat} {a2 : Int} : Goes 1179789 u (execAdcConversionDone a0 a1 a2 u) := by
  refine Goes.mk _ _ (Eq.mpr (State.runIf_frame (fun v => ?_) rfl) (by simp))
  simp
theorem execAdcInject_goes {u : State} {a0 : Nat} {a1 : RecHdr} {a2 : Nat} : Goes 26215949 u (execAdcInject a0 a1 a2 u) := by
  exact Goes.mk _ _ (Eq.mpr (State.hostRow_frame (cmdAdcInject_ok.widen rfl) rfl) (by simp))
theorem execAdcRunStart_goes {u : State} {a0 : Nat} {a1 : Nat} : Goes 1048581 u (execAdcRunStart a0 a1 u) := by
  refine Goes.mk _ _ (Eq.mpr (State.runIf_frame (fun v => ?_) rfl) (by simp))
  simp [↓Frame.ite]
theorem execAdcSoftReset_goes {u : State} {a0 : Nat} {a1 : Iface} : Goes 369098735 u (execAdcSoftReset a0 a1 u) := by
  refine Goes.mk _ _ (Eq.mpr (State.run_frame (fun v => ?_) rfl) (by simp))
  simp
theorem execAdcWake_goes {u : State} {a0 : Nat} {a1 : Nat} : Goes 1048581 u (execAdcWake a0 a1 u) := by
  refine Goes.mk _ _ (Eq.mpr (State.runIf_frame (fun v => ?_) rfl) (by simp))
  simp
theorem execAlignmentDone_goes {u : State} {a0 : Nat} : Goes 135 u (execAlignmentDone a0 u) := by
  refine Goes.mk _ _ (Eq.mpr (State.runIf_frame (fun v => ?_) rfl) (by simp))
  simp
theorem execArmSort_goes {u : State} {a0 : Nat} {a1 : Nat} : Goes 65541 u (execArmSort a0 a1 u) := by
  refine Goes.mk _ _ (Eq.mpr (State.runIf_frame (fun v => ?_) rfl) (by simp))
  simp
theorem execArmSortResult_goes {u : State} {a0 : Nat} {a1 : Nat} : Goes 65541 u (execArmSortResult a0 a1 u) := by
  refine Goes.mk _ _ (Eq.mpr (State.runIf_frame (fun v => ?_) rfl) (by simp))
  simp
theorem execArmingDone_goes {u : State} {a0 : Nat} {a1 : ImgDesc} : Goes 261 u (execArmingDone a0 a1 u) := by
  refine Goes.mk _ _ (Eq.mpr (State.run_frame (fun v => ?_) rfl) (by simp))
  simp
theorem execAttemptTimeout_goes {u : State} {a0 : Nat} {a1 : Nat} {a2 : Bool} {a3 : Bool} : Goes 2053 u (execAttemptTimeout a0 a1 a2 a3 u) := by
  refine Goes.mk _ _ (Eq.mpr (State.runIf_frame (fun v => ?_) rfl) (by simp))
  simp
theorem execBabbleCut_goes {u : State} {a0 : Nat} {a1 : Nat} : Goes 266245 u (execBabbleCut a0 a1 u) := by
  refine Goes.mk _ _ (Eq.mpr (State.runIf_frame (fun v => ?_) rfl) (by simp))
  simp
theorem execBalListReceive_goes {u : State} {a0 : Nat} {a1 : PortRx} : Goes 25231365 u (execBalListReceive a0 a1 u) := by
  refine Goes.mk _ _ (Eq.mpr (State.run_frame (fun v => ?_) rfl) (by simp))
  simp [↓Frame.ite]
theorem execBalListSend_goes {u : State} {a0 : Nat} {a1 : Nat} : Goes 8454157 u (execBalListSend a0 a1 u) := by
  refine Goes.mk _ _ (Eq.mpr (State.runIf_frame (fun v => ?_) rfl) (by simp))
  simp [↓Frame.ite]
theorem execBalMerge_goes {u : State} {a0 : Nat} {a1 : Nat} : Goes 8454157 u (execBalMerge a0 a1 u) := by
  refine Goes.mk _ _ (Eq.mpr (State.runIf_frame (fun v => ?_) rfl) (by simp))
  simp
theorem execBalShare_goes {u : State} {a0 : Nat} {a1 : RecHdr} {a2 : Nat} : Goes 25232909 u (execBalShare a0 a1 a2 u) := by
  exact Goes.mk _ _ (Eq.mpr (State.hostRow_frame (cmdBalShare_ok.widen rfl) rfl) (by simp))
theorem execBalSliceDeadline_goes {u : State} {a0 : Nat} {a1 : Nat} : Goes 65541 u (execBalSliceDeadline a0 a1 u) := by
  refine Goes.mk _ _ (Eq.mpr (State.runIf_frame (fun v => ?_) rfl) (by simp))
  simp
theorem execBalSliceReceive_goes {u : State} {a0 : Nat} {a1 : PortRx} : Goes 25231365 u (execBalSliceReceive a0 a1 u) := by
  refine Goes.mk _ _ (Eq.mpr (State.run_frame (fun v => ?_) rfl) (by simp))
  simp [↓Frame.ite]
theorem execBalSoftReset_goes {u : State} {a0 : Nat} {a1 : Iface} : Goes 369098735 u (execBalSoftReset a0 a1 u) := by
  refine Goes.mk _ _ (Eq.mpr (State.run_frame (fun v => ?_) rfl) (by simp))
  simp
theorem execBandFound_goes {u : State} {a0 : Nat} : Goes 133 u (execBandFound a0 u) := by
  refine Goes.mk _ _ (Eq.mpr (State.runIf_frame (fun v => ?_) rfl) (by simp))
  simp
theorem execBarArrive_goes {u : State} {a0 : Nat} {a1 : PortRx} : Goes 8390157 u (execBarArrive a0 a1 u) := by
  exact Goes.mk _ _ (Eq.mpr (State.run_frame (fun v => Eq.mpr (State.symbolIn_frame (fun y w => Frame1.of (by simp)) rfl) (by simp)) rfl) (by simp))
theorem execBarArriveResend_goes {u : State} {a0 : Nat} : Goes 8388613 u (execBarArriveResend a0 u) := by
  refine Goes.mk _ _ (Eq.mpr (State.runIf_frame (fun v => ?_) rfl) (by simp))
  repeat' (first | (simp [↓Frame.ite]; done) | (with_reducible refine Frame.ite.mpr ⟨fun _ => ?_, fun _ => ?_⟩) | split | (refine ⟨fun _ => ?_, fun _ => ?_⟩) | (intro _) | simp [↓Frame.ite])
theorem execBarRelease_goes {u : State} {a0 : Nat} {a1 : PortRx} : Goes 8388613 u (execBarRelease a0 a1 u) := by
  exact Goes.mk _ _ (Eq.mpr (State.run_frame (fun v => Eq.mpr (State.symbolIn_frame (fun y w => Frame1.of (by simp)) rfl) (by simp)) rfl) (by simp))
theorem execBarrierTimeout_goes {u : State} {a0 : Nat} : Goes 8390157 u (execBarrierTimeout a0 u) := by
  refine Goes.mk _ _ (Eq.mpr (State.runIf_frame (fun v => ?_) rfl) (by simp))
  repeat' (first | (simp [↓Frame.ite]; done) | (with_reducible refine Frame.ite.mpr ⟨fun _ => ?_, fun _ => ?_⟩) | split | (refine ⟨fun _ => ?_, fun _ => ?_⟩) | (intro _) | simp [↓Frame.ite])
theorem execBcastReg_goes {u : State} {a0 : Nat} {a1 : PortRx} : Goes 369098735 u (execBcastReg a0 a1 u) := by
  exact Goes.mk _ _ (Eq.mpr (State.run_frame (fun v => Eq.mpr (State.symbolIn_frame (fun y w => Frame1.of (by simp)) rfl) (by simp)) rfl) (by simp))
theorem execBenchArithmetic_goes {u : State} {a0 : Nat} {a1 : Nat} {a2 : ArithOp} {a3 : Nat} {a4 : Nat} {a5 : Nat} {a6 : Nat} : Goes 32773 u (execBenchArithmetic a0 a1 a2 a3 a4 a5 a6 u) := by
  refine Goes.mk _ _ (Eq.mpr (State.runIf_frame (fun v => ?_) rfl) (by simp))
  simp
theorem execBenchConvert_goes {u : State} {a0 : Nat} {a1 : Nat} {a2 : ConvOp} {a3 : Nat} {a4 : Nat} {a5 : Word} : Goes 32773 u (execBenchConvert a0 a1 a2 a3 a4 a5 u) := by
  refine Goes.mk _ _ (Eq.mpr (State.runIf_frame (fun v => ?_) rfl) (by simp))
  simp
theorem execBenchEnd_goes {u : State} {a0 : Nat} {a1 : Nat} : Goes 32781 u (execBenchEnd a0 a1 u) := by
  refine Goes.mk _ _ (Eq.mpr (State.runIf_frame (fun v => ?_) rfl) (by simp))
  simp [↓Frame.ite]
theorem execBenchEstimate_goes {u : State} {a0 : Nat} {a1 : Nat} {a2 : Bool} {a3 : Nat} {a4 : Nat} : Goes 32773 u (execBenchEstimate a0 a1 a2 a3 a4 u) := by
  refine Goes.mk _ _ (Eq.mpr (State.runIf_frame (fun v => ?_) rfl) (by simp))
  simp
theorem execBenchFaultEscalation_goes {u : State} {a0 : Nat} : Goes 19572261 u (execBenchFaultEscalation a0 u) := by
  refine Goes.mk _ _ (Eq.mpr (State.runIf_frame (fun v => ?_) rfl) (by simp))
  simp
theorem execBenchFinishDeadline_goes {u : State} {a0 : Nat} : Goes 268533765 u (execBenchFinishDeadline a0 u) := by
  refine Goes.mk _ _ (Eq.mpr (State.runIf_frame (fun v => ?_) rfl) (by simp))
  simp
theorem execBenchLane_goes {u : State} {a0 : Nat} {a1 : Nat} {a2 : LaneOp} {a3 : Nat} {a4 : Nat} {a5 : Nat} : Goes 32781 u (execBenchLane a0 a1 a2 a3 a4 a5 u) := by
  refine Goes.mk _ _ (Eq.mpr (State.runIf_frame (fun v => ?_) rfl) (by simp))
  simp
theorem execBenchLoad_goes {u : State} {a0 : Nat} {a1 : Nat} {a2 : Nat} {a3 : Nat} {a4 : Nat} : Goes 32773 u (execBenchLoad a0 a1 a2 a3 a4 u) := by
  refine Goes.mk _ _ (Eq.mpr (State.runIf_frame (fun v => ?_) rfl) (by simp))
  simp [↓Frame.ite]
theorem execBenchLoop_goes {u : State} {a0 : Nat} {a1 : Nat} {a2 : Nat} {a3 : Nat} : Goes 32773 u (execBenchLoop a0 a1 a2 a3 u) := by
  refine Goes.mk _ _ (Eq.mpr (State.runIf_frame (fun v => ?_) rfl) (by simp))
  simp [↓Frame.ite]
theorem execBenchSelect_goes {u : State} {a0 : Nat} {a1 : Nat} {a2 : SelOp} {a3 : Nat} {a4 : Nat} {a5 : Nat} {a6 : Nat} : Goes 32773 u (execBenchSelect a0 a1 a2 a3 a4 a5 a6 u) := by
  refine Goes.mk _ _ (Eq.mpr (State.runIf_frame (fun v => ?_) rfl) (by simp))
  simp
theorem execBenchStart_goes {u : State} {a0 : Nat} : Goes 268468229 u (execBenchStart a0 u) := by
  refine Goes.mk _ _ (Eq.mpr (State.runIf_frame (fun v => ?_) rfl) (by simp))
  simp
theorem execBenchStore_goes {u : State} {a0 : Nat} {a1 : Nat} {a2 : Nat} {a3 : Nat} {a4 : Nat} : Goes 32773 u (execBenchStore a0 a1 a2 a3 a4 u) := by
  refine Goes.mk _ _ (Eq.mpr (State.runIf_frame (fun v => ?_) rfl) (by simp))
  simp [↓Frame.ite]
theorem execBlankingEnd_goes {u : State} {a0 : Nat} {a1 : Nat} : Goes 10661901 u (execBlankingEnd a0 a1 u) := by
  refine Goes.mk _ _ (Eq.mpr (State.runIf_frame (fun v => ?_) rfl) (by simp))
  simp
theorem execBlankingStart_goes {u : State} {a0 : Nat} {a1 : Nat} : Goes 2097157 u (execBlankingStart a0 a1 u) := by
  refine Goes.mk _ _ (Eq.mpr (State.runIf_frame (fun v => ?_) rfl) (by simp))
  simp
theorem execBlockLost_goes {u : State} {a0 : Nat} {a1 : Nat} : Goes 2053 u (execBlockLost a0 a1 u) := by
  refine Goes.mk _ _ (Eq.mpr (State.runIf_frame (fun v => ?_) rfl) (by simp))
  simp
theorem execBncSoftReset_goes {u : State} {a0 : Nat} {a1 : Iface} : Goes 369098735 u (execBncSoftReset a0 a1 u) := by
  refine Goes.mk _ _ (Eq.mpr (State.run_frame (fun v => ?_) rfl) (by simp))
  simp
theorem execBootValidation_goes {u : State} {a0 : Nat} : Goes 261 u (execBootValidation a0 u) := by
  refine Goes.mk _ _ (Eq.mpr (State.runIf_frame (fun v => ?_) rfl) (by simp))
  simp
theorem execBrkFault_goes {u : State} {a0 : Nat} : Goes 425989 u (execBrkFault a0 u) := by
  refine Goes.mk _ _ (Eq.mpr (State.run_frame (fun v => ?_) rfl) (by simp))
  repeat' (first | (simp [↓Frame.ite]; done) | (with_reducible refine Frame.ite.mpr ⟨fun _ => ?_, fun _ => ?_⟩) | split | (refine ⟨fun _ => ?_, fun _ => ?_⟩) | (intro _) | simp [↓Frame.ite])
theorem execCalibrationEnd_goes {u : State} {a0 : Nat} {a1 : Nat} {a2 : Int} {a3 : Word} : Goes 1179653 u (execCalibrationEnd a0 a1 a2 a3 u) := by
  refine Goes.mk _ _ (Eq.mpr (State.runIf_frame (fun v => ?_) rfl) (by simp))
  simp
theorem execCalibrationRunning_goes {u : State} {a0 : Nat} {a1 : Nat} : Goes 1048581 u (execCalibrationRunning a0 a1 u) := by
  refine Goes.mk _ _ (Eq.mpr (State.runIf_frame (fun v => ?_) rfl) (by simp))
  simp
theorem execCatchTExpiry_goes {u : State} {a0 : Nat} : Goes 294917 u (execCatchTExpiry a0 u) := by
  refine Goes.mk _ _ (Eq.mpr (State.run_frame (fun v => ?_) rfl) (by simp))
  repeat' (first | (simp [↓Frame.ite]; done) | (with_reducible refine Frame.ite.mpr ⟨fun _ => ?_, fun _ => ?_⟩) | split | (refine ⟨fun _ => ?_, fun _ => ?_⟩) | (intro _) | (refine Eq.mpr (Frame.each ?_) ?_) | simp [↓Frame.ite])
theorem execCdrLock_goes {u : State} {a0 : Nat} {a1 : Nat} : Goes 2053 u (execCdrLock a0 a1 u) := by
  refine Goes.mk _ _ (Eq.mpr (State.runIf_frame (fun v => ?_) rfl) (by simp))
  simp
theorem execCellAdmit_goes {u : State} {a0 : Nat} {a1 : RecHdr} {a2 : Nat} : Goes 25171469 u (execCellAdmit a0 a1 a2 u) := by
  exact Goes.mk _ _ (Eq.mpr (State.hostRow_frame (cmdCellAdmit_ok.widen rfl) rfl) (by simp))
theorem execCellBypass_goes {u : State} {a0 : Nat} {a1 : RecHdr} : Goes 25171469 u (execCellBypass a0 a1 u) := by
  exact Goes.mk _ _ (Eq.mpr (State.hostRow_frame (cmdCellBypass_ok.widen rfl) rfl) (by simp))
theorem execCellBypassTimeout_goes {u : State} {a0 : Nat} {a1 : Nat} : Goes 528389 u (execCellBypassTimeout a0 a1 u) := by
  refine Goes.mk _ _ (Eq.mpr (State.runIf_frame (fun v => ?_) rfl) (by simp))
  simp [↓Frame.ite]
theorem execCellExclude_goes {u : State} {a0 : Nat} {a1 : RecHdr} : Goes 25433613 u (execCellExclude a0 a1 u) := by
  exact Goes.mk _ _ (Eq.mpr (State.hostRow_frame (cmdCellExclude_ok.widen rfl) rfl) (by simp))
theorem execCellFwLoad_goes {u : State} {a0 : Nat} {a1 : RecHdr} {a2 : Nat} {a3 : Nat} {a4 : Word} : Goes 25171469 u (execCellFwLoad a0 a1 a2 a3 a4 u) := by
  exact Goes.mk _ _ (Eq.mpr (State.hostRow_frame (cmdCellFwLoad_ok.widen rfl) rfl) (by simp))
theorem execCellLostTimeout_goes {u : State} {a0 : Nat} {a1 : Nat} : Goes 266245 u (execCellLostTimeout a0 a1 u) := by
  refine Goes.mk _ _ (Eq.mpr (State.runIf_frame (fun v => ?_) rfl) (by simp))
  simp
theorem execCellRejoin_goes {u : State} {a0 : Nat} {a1 : RecHdr} : Goes 25171469 u (execCellRejoin a0 a1 u) := by
  exact Goes.mk _ _ (Eq.mpr (State.hostRow_frame (cmdCellRejoin_ok.widen rfl) rfl) (by simp))
theorem execCellTripBlock_goes {u : State} {a0 : Nat} {a1 : LaneRx} : Goes 10661901 u (execCellTripBlock a0 a1 u) := by
  refine Goes.mk _ _ (Eq.mpr (State.runIf_frame (fun v => ?_) rfl) (by simp))
  simp
theorem execClkOutCfgWrite_goes {u : State} {a0 : Nat} {a1 : Iface} {a2 : Nat} {a3 : Word} : Goes 8390285 u (execClkOutCfgWrite a0 a1 a2 a3 u) := by
  refine Goes.mk _ _ (Eq.mpr (State.run_frame (fun v => ?_) rfl) (by simp))
  simp
theorem execClkOutFstepWrite_goes {u : State} {a0 : Nat} {a1 : Iface} {a2 : Nat} {a3 : Word} : Goes 8390285 u (execClkOutFstepWrite a0 a1 a2 a3 u) := by
  refine Goes.mk _ _ (Eq.mpr (State.run_frame (fun v => ?_) rfl) (by simp))
  simp
theorem execClkOutpllCfgWrite_goes {u : State} {a0 : Nat} {a1 : Iface} {a2 : Word} : Goes 8390285 u (execClkOutpllCfgWrite a0 a1 a2 u) := by
  refine Goes.mk _ _ (Eq.mpr (State.run_frame (fun v => ?_) rfl) (by simp))
  simp
theorem execClkTimeLoRead_goes {u : State} {a0 : Nat} {a1 : Iface} {a2 : Bool} : Goes 8389261 u (execClkTimeLoRead a0 a1 a2 u) := by
  refine Goes.mk _ _ (Eq.mpr (State.run_frame (fun v => ?_) rfl) (by simp))
  simp [↓Frame.ite]
theorem execClkTimeLoad_goes {u : State} {a0 : Nat} {a1 : RecHdr} {a2 : Nat} : Goes 25167501 u (execClkTimeLoad a0 a1 a2 u) := by
  exact Goes.mk _ _ (Eq.mpr (State.hostRow_frame (cmdClkTimeLoad_ok.widen rfl) rfl) (by simp))
theorem execCmd_goes {u : State} {a0 : Nat} {a1 : PortRx} {a2 : CmdFrame} : Goes 369098735 u (execCmd a0 a1 a2 u) := by
  refine Goes.mk _ _ (Eq.mpr (State.run_frame (fun v => ?_) rfl) (by simp))
  repeat' (first | (simp [↓Frame.ite]; done) | (with_reducible refine Frame.ite.mpr ⟨fun _ => ?_, fun _ => ?_⟩) | split | (refine ⟨fun _ => ?_, fun _ => ?_⟩) | (intro _) | simp [↓Frame.ite])
theorem execCmdMirrorTimeout_goes {u : State} {a0 : Nat} : Goes 16777221 u (execCmdMirrorTimeout a0 u) := by
  refine Goes.mk _ _ (Eq.mpr (State.runIf_frame (fun v => ?_) rfl) (by simp))
  simp
theorem execCmpCheck_goes {u : State} {a0 : Nat} {a1 : RecHdr} : Goes 27264525 u (execCmpCheck a0 a1 u) := by
  exact Goes.mk _ _ (Eq.mpr (State.hostRow_frame (cmdCmpCheck_ok.widen rfl) rfl) (by simp))
theorem execCmpCheckEnd_goes {u : State} {a0 : Nat} {a1 : Nat} {a2 : List (Nat × Nat)} : Goes 10661901 u (execCmpCheckEnd a0 a1 a2 u) := by
  refine Goes.mk _ _ (Eq.mpr (State.runIf_frame (fun v => ?_) rfl) (by simp))
  simp
theorem execCmpPowerupChecks_goes {u : State} {a0 : Nat} : Goes 2097157 u (execCmpPowerupChecks a0 u) := by
  refine Goes.mk _ _ (Eq.mpr (State.runIf_frame (fun v => ?_) rfl) (by simp))
  simp
theorem execCmpSoftReset_goes {u : State} {a0 : Nat} {a1 : Iface} : Goes 369098735 u (execCmpSoftReset a0 a1 u) := by
  refine Goes.mk _ _ (Eq.mpr (State.run_frame (fun v => ?_) rfl) (by simp))
  simp
theorem execCmpThresh_goes {u : State} {a0 : Nat} {a1 : RecHdr} {a2 : Nat} {a3 : Nat} : Goes 27264525 u (execCmpThresh a0 a1 a2 a3 u) := by
  exact Goes.mk _ _ (Eq.mpr (State.hostRow_frame (cmdCmpThresh_ok.widen rfl) rfl) (by simp))
theorem execCoastMaxExpiry_goes {u : State} {a0 : Nat} : Goes 29343405 u (execCoastMaxExpiry a0 u) := by
  refine Goes.mk _ _ (Eq.mpr (State.run_frame (fun v => ?_) rfl) (by simp))
  repeat' (first | (simp [↓Frame.ite]; done) | (with_reducible refine Frame.ite.mpr ⟨fun _ => ?_, fun _ => ?_⟩) | split | (refine ⟨fun _ => ?_, fun _ => ?_⟩) | (intro _) | simp [↓Frame.ite])
theorem execCoefWrite_goes {u : State} {a0 : Nat} {a1 : RecHdr} {a2 : Nat} {a3 : Nat} {a4 : List Word} : Goes 25200141 u (execCoefWrite a0 a1 a2 a3 a4 u) := by
  exact Goes.mk _ _ (Eq.mpr (State.hostRow_frame (cmdCoefWrite_ok.widen rfl) rfl) (by simp))
theorem execCommitLanding_goes {u : State} {a0 : Nat} {a1 : Nat} : Goes 8398349 u (execCommitLanding a0 a1 u) := by
  refine Goes.mk _ _ (Eq.mpr (State.run_frame (fun v => ?_) rfl) (by simp))
  repeat' (first | (simp [↓Frame.ite]; done) | (with_reducible refine Frame.ite.mpr ⟨fun _ => ?_, fun _ => ?_⟩) | split | (refine ⟨fun _ => ?_, fun _ => ?_⟩) | (intro _) | simp [↓Frame.ite])
theorem execComparatorStageChange_goes {u : State} {a0 : Nat} {a1 : Nat} {a2 : Int} : Goes 10661901 u (execComparatorStageChange a0 a1 a2 u) := by
  refine Goes.mk _ _ (Eq.mpr (State.run_frame (fun v => ?_) rfl) (by simp))
  simp
theorem execCompileStart_goes {u : State} {a0 : Nat} {a1 : List Nat} {a2 : List Nat} : Goes 294024717 u (execCompileStart a0 a1 a2 u) := by
  refine Goes.mk _ _ (Eq.mpr (State.runIf_frame (fun v => ?_) rfl) (by simp))
  simp [↓Frame.ite]
theorem execCompileStop_goes {u : State} {a0 : Nat} : Goes 19555877 u (execCompileStop a0 u) := by
  refine Goes.mk _ _ (Eq.mpr (State.runIf_frame (fun v => ?_) rfl) (by simp))
  simp
theorem execConfirm_goes {u : State} {a0 : Nat} {a1 : PortRx} : Goes 8388613 u (execConfirm a0 a1 u) := by
  exact Goes.mk _ _ (Eq.mpr (State.run_frame (fun v => Eq.mpr (State.symbolIn_frame (fun y w => Frame1.of (by simp)) rfl) (by simp)) rfl) (by simp))
theorem execConfirmWindowExpiry_goes {u : State} {a0 : Nat} : Goes 8521229 u (execConfirmWindowExpiry a0 u) := by
  refine Goes.mk _ _ (Eq.mpr (State.run_frame (fun v => ?_) rfl) (by simp))
  simp
theorem execCopyWindowExpiry_goes {u : State} {a0 : Nat} {a1 : Nat} : Goes 4101 u (execCopyWindowExpiry a0 a1 u) := by
  refine Goes.mk _ _ (Eq.mpr (State.run_frame (fun v => ?_) rfl) (by simp))
  simp [↓Frame.ite]
theorem execCordicRequest_goes {u : State} {a0 : Nat} {a1 : Nat} {a2 : Nat} {a3 : Nat} {a4 : Nat} : Goes 32773 u (execCordicRequest a0 a1 a2 a3 a4 u) := by
  refine Goes.mk _ _ (Eq.mpr (State.runIf_frame (fun v => ?_) rfl) (by simp))
  simp [↓Frame.ite]
theorem execCordicResult_goes {u : State} {a0 : Nat} {a1 : Nat} : Goes 32773 u (execCordicResult a0 a1 u) := by
  refine Goes.mk _ _ (Eq.mpr (State.runIf_frame (fun v => ?_) rfl) (by simp))
  repeat' (first | (simp [↓Frame.ite]; done) | (with_reducible refine Frame.ite.mpr ⟨fun _ => ?_, fun _ => ?_⟩) | split | (refine ⟨fun _ => ?_, fun _ => ?_⟩) | (intro _) | simp [↓Frame.ite])
theorem execCtrlRetryTimeout_goes {u : State} {a0 : Nat} {a1 : Nat} : Goes 266245 u (execCtrlRetryTimeout a0 a1 u) := by
  refine Goes.mk _ _ (Eq.mpr (State.runIf_frame (fun v => ?_) rfl) (by simp))
  repeat' (first | (simp [↓Frame.ite]; done) | (with_reducible refine Frame.ite.mpr ⟨fun _ => ?_, fun _ => ?_⟩) | split | (refine ⟨fun _ => ?_, fun _ => ?_⟩) | (intro _) | simp [↓Frame.ite])
theorem execData_goes {u : State} {a0 : Nat} {a1 : PortRx} {a2 : Item} : Goes 369098735 u (execData a0 a1 a2 u) := by
  refine Goes.mk _ _ (Eq.mpr (State.run_frame (fun v => ?_) rfl) (by simp))
  repeat' (first | (simp [↓Frame.ite]; done) | (with_reducible refine Frame.ite.mpr ⟨fun _ => ?_, fun _ => ?_⟩) | split | (refine ⟨fun _ => ?_, fun _ => ?_⟩) | (intro _) | (refine Eq.mpr (State.meshIn_frame ?_ rfl) ?_) | (refine Eq.mpr (State.meshEpoch_frame ?_ rfl) ?_) | (refine Eq.mpr (State.dataIn_frame ?_ rfl) ?_) | simp [↓Frame.ite])
theorem execDataRetransmit_goes {u : State} {a0 : Nat} {a1 : Nat} : Goes 25298445 u (execDataRetransmit a0 a1 u) := by
  refine Goes.mk _ _ (Eq.mpr (State.runIf_frame (fun v => ?_) rfl) (by simp))
  simp
theorem execDerateRestartEnd_goes {u : State} {a0 : Nat} {a1 : Nat} : Goes 65541 u (execDerateRestartEnd a0 a1 u) := by
  refine Goes.mk _ _ (Eq.mpr (State.runIf_frame (fun v => ?_) rfl) (by simp))
  simp
theorem execDetachedTimeout_goes {u : State} {a0 : Nat} : Goes 33537709 u (execDetachedTimeout a0 u) := by
  refine Goes.mk _ _ (Eq.mpr (State.runIf_frame (fun v => ?_) rfl) (by simp))
  simp
theorem execDieFastRateEnd_goes {u : State} {a0 : Nat} : Goes 65541 u (execDieFastRateEnd a0 u) := by
  refine Goes.mk _ _ (Eq.mpr (State.runIf_frame (fun v => ?_) rfl) (by simp))
  simp
theorem execDieSensorSample_goes {u : State} {a0 : Nat} {a1 : List Int} : Goes 720901 u (execDieSensorSample a0 a1 u) := by
  refine Goes.mk _ _ (Eq.mpr (State.run_frame (fun v => ?_) rfl) (by simp))
  simp
theorem execDieShutdown_goes {u : State} {a0 : Nat} : Goes 369098735 u (execDieShutdown a0 u) := by
  refine Goes.mk _ _ (Eq.mpr (State.runIf_frame (fun v => ?_) rfl) (by simp))
  simp [↓Frame.ite]
theorem execDiscReceive_goes {u : State} {a0 : Nat} {a1 : PortRx} {a2 : DiscData} : Goes 25302541 u (execDiscReceive a0 a1 a2 u) := by
  refine Goes.mk _ _ (Eq.mpr (State.run_frame (fun v => ?_) rfl) (by simp))
  simp
theorem execDiscSend_goes {u : State} {a0 : Nat} : Goes 8388613 u (execDiscSend a0 u) := by
  refine Goes.mk _ _ (Eq.mpr (State.runIf_frame (fun v => ?_) rfl) (by simp))
  simp
theorem execDiscrepancy_goes {u : State} {a0 : Nat} {a1 : Nat} : Goes 14856205 u (execDiscrepancy a0 a1 u) := by
  refine Goes.mk _ _ (Eq.mpr (State.runIf_frame (fun v => ?_) rfl) (by simp))
  simp [↓Frame.ite]
theorem execDriveCoastEnd_goes {u : State} {a0 : Nat} : Goes 294917 u (execDriveCoastEnd a0 u) := by
  refine Goes.mk _ _ (Eq.mpr (State.run_frame (fun v => ?_) rfl) (by simp))
  repeat' (first | (simp [↓Frame.ite]; done) | (with_reducible refine Frame.ite.mpr ⟨fun _ => ?_, fun _ => ?_⟩) | split | (refine ⟨fun _ => ?_, fun _ => ?_⟩) | (intro _) | simp [↓Frame.ite])
theorem execDwellEnd_goes {u : State} {a0 : Nat} {a1 : Nat} : Goes 294917 u (execDwellEnd a0 a1 u) := by
  refine Goes.mk _ _ (Eq.mpr (State.run_frame (fun v => ?_) rfl) (by simp))
  repeat' (first | (simp [↓Frame.ite]; done) | (with_reducible refine Frame.ite.mpr ⟨fun _ => ?_, fun _ => ?_⟩) | split | (refine ⟨fun _ => ?_, fun _ => ?_⟩) | (intro _) | simp [↓Frame.ite])
theorem execEdgSoftReset_goes {u : State} {a0 : Nat} {a1 : Iface} : Goes 369098735 u (execEdgSoftReset a0 a1 u) := by
  refine Goes.mk _ _ (Eq.mpr (State.run_frame (fun v => ?_) rfl) (by simp))
  simp
theorem execEdgeFrameShip_goes {u : State} {a0 : Nat} {a1 : Nat} : Goes 20485 u (execEdgeFrameShip a0 a1 u) := by
  refine Goes.mk _ _ (Eq.mpr (State.runIf_frame (fun v => ?_) rfl) (by simp))
  simp
theorem execEdgePeriodOpening_goes {u : State} {a0 : Nat} : Goes 287338533 u (execEdgePeriodOpening a0 u) := by
  refine Goes.mk _ _ (Eq.mpr (State.runIf_frame (fun v => ?_) rfl) (by simp))
  simp
theorem execEmptyDataSend_goes {u : State} {a0 : Nat} {a1 : Nat} : Goes 8388621 u (execEmptyDataSend a0 a1 u) := by
  refine Goes.mk _ _ (Eq.mpr (State.runIf_frame (fun v => ?_) rfl) (by simp))
  simp
theorem execEventRecordWrite_goes {u : State} {a0 : Nat} : Goes 131077 u (execEventRecordWrite a0 u) := by
  refine Goes.mk _ _ (Eq.mpr (State.run_frame (fun v => ?_) rfl) (by simp))
  repeat' (first | (simp [↓Frame.ite]; done) | (with_reducible refine Frame.ite.mpr ⟨fun _ => ?_, fun _ => ?_⟩) | split | (refine ⟨fun _ => ?_, fun _ => ?_⟩) | (intro _) | simp [↓Frame.ite])
theorem execEventSectorErase_goes {u : State} {a0 : Nat} : Goes 131077 u (execEventSectorErase a0 u) := by
  refine Goes.mk _ _ (Eq.mpr (State.runIf_frame (fun v => ?_) rfl) (by simp))
  simp
theorem execEvsMark_goes {u : State} {a0 : Nat} {a1 : RecHdr} {a2 : Bytes} : Goes 25298445 u (execEvsMark a0 a1 a2 u) := by
  exact Goes.mk _ _ (Eq.mpr (State.hostRow_frame (cmdEvsMark_ok.widen rfl) rfl) (by simp))
theorem execFailbackHoldExpiry_goes {u : State} {a0 : Nat} : Goes 16777221 u (execFailbackHoldExpiry a0 u) := by
  refine Goes.mk _ _ (Eq.mpr (State.runIf_frame (fun v => ?_) rfl) (by simp))
  simp
theorem execFarLoopOff_goes {u : State} {a0 : Nat} {a1 : LaneRx} : Goes 2053 u (execFarLoopOff a0 a1 u) := by
  refine Goes.mk _ _ (Eq.mpr (State.runIf_frame (fun v => ?_) rfl) (by simp))
  simp
theorem execFarLoopOn_goes {u : State} {a0 : Nat} {a1 : LaneRx} : Goes 2053 u (execFarLoopOn a0 a1 u) := by
  refine Goes.mk _ _ (Eq.mpr (State.runIf_frame (fun v => ?_) rfl) (by simp))
  simp
theorem execFeed_goes {u : State} {a0 : Nat} {a1 : LaneRx} : Goes 19281445 u (execFeed a0 a1 u) := by
  refine Goes.mk _ _ (Eq.mpr (State.runIf_frame (fun v => ?_) rfl) (by simp))
  repeat' (first | (simp [↓Frame.ite]; done) | (with_reducible refine Frame.ite.mpr ⟨fun _ => ?_, fun _ => ?_⟩) | split | (refine ⟨fun _ => ?_, fun _ => ?_⟩) | (intro _) | (refine Eq.mpr (State.seamIn_frame ?_ rfl) ?_) | (refine Eq.mpr (State.allowed_frame ?_ rfl) ?_) | simp [↓Frame.ite])
theorem execFeedbackLost_goes {u : State} {a0 : Nat} {a1 : Nat} {a2 : Nat} : Goes 29343405 u (execFeedbackLost a0 a1 a2 u) := by
  refine Goes.mk _ _ (Eq.mpr (State.run_frame (fun v => ?_) rfl) (by simp))
  repeat' (first | (simp [↓Frame.ite]; done) | (with_reducible refine Frame.ite.mpr ⟨fun _ => ?_, fun _ => ?_⟩) | split | (refine ⟨fun _ => ?_, fun _ => ?_⟩) | (intro _) | simp [↓Frame.ite])
theorem execFence_goes {u : State} {a0 : Nat} {a1 : Nat} : Goes 19015205 u (execFence a0 a1 u) := by
  refine Goes.mk _ _ (Eq.mpr (State.runIf_frame (fun v => ?_) rfl) (by simp))
  simp
theorem execFirmwareBootDone_goes {u : State} {a0 : Nat} {a1 : Bool} {a2 : Bool} : Goes 33554413 u (execFirmwareBootDone a0 a1 a2 u) := by
  refine Goes.mk _ _ (Eq.mpr (State.runIf_frame (fun v => ?_) rfl) (by simp))
  simp [↓Frame.ite]
theorem execFloodRepeat_goes {u : State} {a0 : Nat} : Goes 8388613 u (execFloodRepeat a0 u) := by
  refine Goes.mk _ _ (Eq.mpr (State.runIf_frame (fun v => ?_) rfl) (by simp))
  simp
theorem execFlyingStartFound_goes {u : State} {a0 : Nat} : Goes 294917 u (execFlyingStartFound a0 u) := by
  refine Goes.mk _ _ (Eq.mpr (State.run_frame (fun v => ?_) rfl) (by simp))
  repeat' (first | (simp [↓Frame.ite]; done) | (with_reducible refine Frame.ite.mpr ⟨fun _ => ?_, fun _ => ?_⟩) | split | (refine ⟨fun _ => ?_, fun _ => ?_⟩) | (intro _) | simp [↓Frame.ite])
theorem execFsTmaxExpiry_goes {u : State} {a0 : Nat} : Goes 2078853 u (execFsTmaxExpiry a0 u) := by
  refine Goes.mk _ _ (Eq.mpr (State.run_frame (fun v => ?_) rfl) (by simp))
  repeat' (first | (simp [↓Frame.ite]; done) | (with_reducible refine Frame.ite.mpr ⟨fun _ => ?_, fun _ => ?_⟩) | split | (refine ⟨fun _ => ?_, fun _ => ?_⟩) | (intro _) | simp [↓Frame.ite])
theorem execFuseProg_goes {u : State} {a0 : Nat} {a1 : Bytes} {a2 : Bool} {a3 : Bool} : Goes 33554469 u (execFuseProg a0 a1 a2 a3 u) := by
  refine Goes.mk _ _ (Eq.mpr (State.run_frame (fun v => ⟨fun p q => ?_⟩) rfl) (by simp))
  cases p <;> first | rfl | (cases q; done) | (simp only [Part.same, State.onSys]; split <;> rfl) | (simp only [Part.same, State.keyed, State.onSys]; split <;> rename_i hk <;> simp_all)
theorem execFwRebootTimeout_goes {u : State} {a0 : Nat} {a1 : Nat} : Goes 266245 u (execFwRebootTimeout a0 a1 u) := by
  refine Goes.mk _ _ (Eq.mpr (State.runIf_frame (fun v => ?_) rfl) (by simp))
  simp
theorem execFwSwitchDone_goes {u : State} {a0 : Nat} {a1 : Bool} : Goes 131341 u (execFwSwitchDone a0 a1 u) := by
  refine Goes.mk _ _ (Eq.mpr (State.run_frame (fun v => ?_) rfl) (by simp))
  repeat' (first | (simp [↓Frame.ite]; done) | (with_reducible refine Frame.ite.mpr ⟨fun _ => ?_, fun _ => ?_⟩) | split | (refine ⟨fun _ => ?_, fun _ => ?_⟩) | (intro _) | simp [↓Frame.ite])
theorem execFwSwitchRestart_goes {u : State} {a0 : Nat} : Goes 16908549 u (execFwSwitchRestart a0 u) := by
  refine Goes.mk _ _ (Eq.mpr (State.runIf_frame (fun v => ?_) rfl) (by simp))
  simp
theorem execFwWriteDone_goes {u : State} {a0 : Nat} {a1 : Bool} : Goes 131341 u (execFwWriteDone a0 a1 u) := by
  refine Goes.mk _ _ (Eq.mpr (State.runIf_frame (fun v => ?_) rfl) (by simp))
  simp [↓Frame.ite]
theorem execGatePowerRequest_goes {u : State} {a0 : Nat} : Goes 4194309 u (execGatePowerRequest a0 u) := by
  refine Goes.mk _ _ (Eq.mpr (State.run_frame (fun v => ?_) rfl) (by simp))
  simp
theorem execGridCoastDetect_goes {u : State} {a0 : Nat} : Goes 294917 u (execGridCoastDetect a0 u) := by
  refine Goes.mk _ _ (Eq.mpr (State.run_frame (fun v => ?_) rfl) (by simp))
  repeat' (first | (simp [↓Frame.ite]; done) | (with_reducible refine Frame.ite.mpr ⟨fun _ => ?_, fun _ => ?_⟩) | split | (refine ⟨fun _ => ?_, fun _ => ?_⟩) | (intro _) | simp [↓Frame.ite])
theorem execGridReturn_goes {u : State} {a0 : Nat} : Goes 294917 u (execGridReturn a0 u) := by
  refine Goes.mk _ _ (Eq.mpr (State.run_frame (fun v => ?_) rfl) (by simp))
  repeat' (first | (simp [↓Frame.ite]; done) | (with_reducible refine Frame.ite.mpr ⟨fun _ => ?_, fun _ => ?_⟩) | split | (refine ⟨fun _ => ?_, fun _ => ?_⟩) | (intro _) | simp [↓Frame.ite])
theorem execHandover_goes {u : State} {a0 : Nat} {a1 : PortRx} {a2 : Nat} : Goes 25165829 u (execHandover a0 a1 a2 u) := by
  refine Goes.mk _ _ (Eq.mpr (State.runIf_frame (fun v => ?_) rfl) (by simp))
  simp
theorem execHandoverBoundary_goes {u : State} {a0 : Nat} : Goes 25302541 u (execHandoverBoundary a0 u) := by
  refine Goes.mk _ _ (Eq.mpr (State.runIf_frame (fun v => ?_) rfl) (by simp))
  simp
theorem execHealth_goes {u : State} {a0 : Nat} {a1 : PortRx} {a2 : HealthFrame} : Goes 369098735 u (execHealth a0 a1 a2 u) := by
  refine Goes.mk _ _ (Eq.mpr (State.runIf_frame (fun v => ?_) rfl) (by simp))
  simp
theorem execHealthMissed_goes {u : State} {a0 : Nat} : Goes 369098735 u (execHealthMissed a0 u) := by
  refine Goes.mk _ _ (Eq.mpr (State.runIf_frame (fun v => ?_) rfl) (by simp))
  simp
theorem execHiBer_goes {u : State} {a0 : Nat} {a1 : Nat} {a2 : Nat} : Goes 2053 u (execHiBer a0 a1 a2 u) := by
  refine Goes.mk _ _ (Eq.mpr (State.runIf_frame (fun v => ?_) rfl) (by simp))
  simp
theorem execHostCqHeadWrite_goes {u : State} {a0 : Nat} {a1 : Iface} {a2 : Nat} {a3 : Nat} : Goes 517 u (execHostCqHeadWrite a0 a1 a2 a3 u) := by
  refine Goes.mk _ _ (Eq.mpr (State.run_frame (fun v => ?_) rfl) (by simp))
  simp
theorem execHostLossPolicy_goes {u : State} {a0 : Nat} : Goes 29359789 u (execHostLossPolicy a0 u) := by
  refine Goes.mk _ _ (Eq.mpr (State.runIf_frame (fun v => ?_) rfl) (by simp))
  simp
theorem execHostMbxDoorbell_goes {u : State} {a0 : Nat} {a1 : Nat} : Goes 517 u (execHostMbxDoorbell a0 a1 u) := by
  refine Goes.mk _ _ (Eq.mpr (State.run_frame (fun v => ?_) rfl) (by simp))
  simp
theorem execHostSessCtlStart_goes {u : State} {a0 : Nat} {a1 : Iface} {a2 : Nat} : Goes 517 u (execHostSessCtlStart a0 a1 a2 u) := by
  refine Goes.mk _ _ (Eq.mpr (State.run_frame (fun v => ?_) rfl) (by simp))
  simp
theorem execHostSqTailWrite_goes {u : State} {a0 : Nat} {a1 : Iface} {a2 : Nat} {a3 : Nat} : Goes 517 u (execHostSqTailWrite a0 a1 a2 a3 u) := by
  refine Goes.mk _ _ (Eq.mpr (State.run_frame (fun v => ?_) rfl) (by simp))
  simp
theorem execIdentQueryTimer_goes {u : State} {a0 : Nat} : Goes 4101 u (execIdentQueryTimer a0 u) := by
  refine Goes.mk _ _ (Eq.mpr (State.runIf_frame (fun v => ?_) rfl) (by simp))
  simp
theorem execIdentityAnswer_goes {u : State} {a0 : Nat} {a1 : LaneRx} : Goes 19281701 u (execIdentityAnswer a0 a1 u) := by
  refine Goes.mk _ _ (Eq.mpr (State.runIf_frame (fun v => ?_) rfl) (by simp))
  repeat' (first | (simp [↓Frame.ite]; done) | (with_reducible refine Frame.ite.mpr ⟨fun _ => ?_, fun _ => ?_⟩) | split | (refine ⟨fun _ => ?_, fun _ => ?_⟩) | (intro _) | (refine Eq.mpr (State.seamIn_frame ?_ rfl) ?_) | (refine Eq.mpr (State.allowed_frame ?_ rfl) ?_) | simp [↓Frame.ite])
theorem execImageValidationDone_goes {u : State} {a0 : Nat} {a1 : ImgDesc} : Goes 33554415 u (execImageValidationDone a0 a1 u) := by
  refine Goes.mk _ _ (Eq.mpr (State.run_frame (fun v => ?_) rfl) (by simp))
  simp
theorem execImgArm_goes {u : State} {a0 : Nat} {a1 : RecHdr} {a2 : Nat} {a3 : Nat} : Goes 25167629 u (execImgArm a0 a1 a2 a3 u) := by
  exact Goes.mk _ _ (Eq.mpr (State.hostRow_frame (cmdImgArm_ok.widen rfl) rfl) (by simp))
theorem execImgBufClose_goes {u : State} {a0 : Nat} {a1 : RecHdr} : Goes 25167629 u (execImgBufClose a0 a1 u) := by
  exact Goes.mk _ _ (Eq.mpr (State.hostRow_frame (cmdImgBufClose_ok.widen rfl) rfl) (by simp))
theorem execImgBufOpen_goes {u : State} {a0 : Nat} {a1 : RecHdr} : Goes 25200397 u (execImgBufOpen a0 a1 u) := by
  exact Goes.mk _ _ (Eq.mpr (State.hostRow_frame (cmdImgBufOpen_ok.widen rfl) rfl) (by simp))
theorem execImgDisarm_goes {u : State} {a0 : Nat} {a1 : RecHdr} : Goes 25167629 u (execImgDisarm a0 a1 u) := by
  exact Goes.mk _ _ (Eq.mpr (State.hostRow_frame (cmdImgDisarm_ok.widen rfl) rfl) (by simp))
theorem execImgFwSwitch_goes {u : State} {a0 : Nat} {a1 : RecHdr} : Goes 25167629 u (execImgFwSwitch a0 a1 u) := by
  exact Goes.mk _ _ (Eq.mpr (State.hostRow_frame (cmdImgFwSwitch_ok.widen rfl) rfl) (by simp))
theorem execImgFwWrite_goes {u : State} {a0 : Nat} {a1 : RecHdr} {a2 : Nat} : Goes 25298701 u (execImgFwWrite a0 a1 a2 u) := by
  exact Goes.mk _ _ (Eq.mpr (State.hostRow_frame (cmdImgFwWrite_ok.widen rfl) rfl) (by simp))
theorem execImgLoad_goes {u : State} {a0 : Nat} {a1 : RecHdr} {a2 : Nat} {a3 : Nat} : Goes 25167629 u (execImgLoad a0 a1 a2 a3 u) := by
  exact Goes.mk _ _ (Eq.mpr (State.hostRow_frame (cmdImgLoad_ok.widen rfl) rfl) (by simp))
theorem execImgRecheck_goes {u : State} {a0 : Nat} {a1 : RecHdr} : Goes 25167629 u (execImgRecheck a0 a1 u) := by
  exact Goes.mk _ _ (Eq.mpr (State.hostRow_frame (cmdImgRecheck_ok.widen rfl) rfl) (by simp))
theorem execImgSetBoot_goes {u : State} {a0 : Nat} {a1 : RecHdr} {a2 : Nat} : Goes 25298445 u (execImgSetBoot a0 a1 a2 u) := by
  exact Goes.mk _ _ (Eq.mpr (State.hostRow_frame (cmdImgSetBoot_ok.widen rfl) rfl) (by simp))
theorem execImgSlotErase_goes {u : State} {a0 : Nat} {a1 : RecHdr} {a2 : Nat} : Goes 25167629 u (execImgSlotErase a0 a1 a2 u) := by
  exact Goes.mk _ _ (Eq.mpr (State.hostRow_frame (cmdImgSlotErase_ok.widen rfl) rfl) (by simp))
theorem execImgSlotWrite_goes {u : State} {a0 : Nat} {a1 : RecHdr} {a2 : Nat} {a3 : Nat} : Goes 25167629 u (execImgSlotWrite a0 a1 a2 a3 u) := by
  exact Goes.mk _ _ (Eq.mpr (State.hostRow_frame (cmdImgSlotWrite_ok.widen rfl) rfl) (by simp))
theorem execImgSwap_goes {u : State} {a0 : Nat} {a1 : RecHdr} {a2 : Nat} : Goes 25167629 u (execImgSwap a0 a1 a2 u) := by
  exact Goes.mk _ _ (Eq.mpr (State.hostRow_frame (cmdImgSwap_ok.widen rfl) rfl) (by simp))
theorem execInjectedRequest_goes {u : State} {a0 : Nat} {a1 : Nat} {a2 : Nat} : Goes 1048581 u (execInjectedRequest a0 a1 a2 u) := by
  refine Goes.mk _ _ (Eq.mpr (State.runIf_frame (fun v => ?_) rfl) (by simp))
  simp
theorem execInput_goes {u : State} {a0 : Nat} {a1 : PortRx} {a2 : InputSet} : Goes 25296901 u (execInput a0 a1 a2 u) := by
  refine Goes.mk _ _ (Eq.mpr (State.runIf_frame (fun v => ?_) rfl) (by simp))
  simp [↓Frame.ite]
theorem execInterpDeadline_goes {u : State} {a0 : Nat} {a1 : List Nat} : Goes 268468229 u (execInterpDeadline a0 a1 u) := by
  refine Goes.mk _ _ (Eq.mpr (State.runIf_frame (fun v => ?_) rfl) (by simp))
  simp
theorem execInterpStart_goes {u : State} {a0 : Nat} : Goes 268468237 u (execInterpStart a0 u) := by
  refine Goes.mk _ _ (Eq.mpr (State.runIf_frame (fun v => ?_) rfl) (by simp))
  simp
theorem execIsolated_goes {u : State} {a0 : Nat} : Goes 9043973 u (execIsolated a0 u) := by
  refine Goes.mk _ _ (Eq.mpr (State.runIf_frame (fun v => ?_) rfl) (by simp))
  simp
theorem execJnl_goes {u : State} {a0 : Nat} {a1 : PortRx} {a2 : JEntry} : Goes 25691909 u (execJnl a0 a1 a2 u) := by
  refine Goes.mk _ _ (Eq.mpr (State.run_frame (fun v => ?_) rfl) (by simp))
  repeat' (first | (simp [↓Frame.ite]; done) | (with_reducible refine Frame.ite.mpr ⟨fun _ => ?_, fun _ => ?_⟩) | split | (refine ⟨fun _ => ?_, fun _ => ?_⟩) | (intro _) | simp [↓Frame.ite])
theorem execJnlLoRead_goes {u : State} {a0 : Nat} {a1 : Iface} {a2 : Bool} {a3 : Bool} : Goes 8390157 u (execJnlLoRead a0 a1 a2 a3 u) := by
  refine Goes.mk _ _ (Eq.mpr (State.run_frame (fun v => ?_) rfl) (by simp))
  simp
theorem execJournalSpill_goes {u : State} {a0 : Nat} : Goes 1029 u (execJournalSpill a0 u) := by
  refine Goes.mk _ _ (Eq.mpr (State.runIf_frame (fun v => ?_) rfl) (by simp))
  simp
theorem execKeepalive_goes {u : State} {a0 : Nat} {a1 : RecHdr} : Goes 25167373 u (execKeepalive a0 a1 u) := by
  exact Goes.mk _ _ (Eq.mpr (State.hostRow_frame (cmdKeepalive_ok.widen rfl) rfl) (by simp))
theorem execLaneRetrain_goes {u : State} {a0 : Nat} {a1 : RecHdr} {a2 : Nat} {a3 : Nat} : Goes 25169421 u (execLaneRetrain a0 a1 a2 a3 u) := by
  exact Goes.mk _ _ (Eq.mpr (State.hostRow_frame (cmdLaneRetrain_ok.widen rfl) rfl) (by simp))
theorem execLaneSleep_goes {u : State} {a0 : Nat} {a1 : RecHdr} {a2 : Nat} {a3 : Nat} : Goes 25169421 u (execLaneSleep a0 a1 a2 a3 u) := by
  exact Goes.mk _ _ (Eq.mpr (State.hostRow_frame (cmdLaneSleep_ok.widen rfl) rfl) (by simp))
theorem execLaneSoftReset_goes {u : State} {a0 : Nat} {a1 : Iface} : Goes 369098735 u (execLaneSoftReset a0 a1 u) := by
  refine Goes.mk _ _ (Eq.mpr (State.run_frame (fun v => ?_) rfl) (by simp))
  simp
theorem execLaneTest_goes {u : State} {a0 : Nat} {a1 : RecHdr} {a2 : Nat} {a3 : Nat} {a4 : Nat} : Goes 25169421 u (execLaneTest a0 a1 a2 a3 a4 u) := by
  exact Goes.mk _ _ (Eq.mpr (State.hostRow_frame (cmdLaneTest_ok.widen rfl) rfl) (by simp))
theorem execLaneWake_goes {u : State} {a0 : Nat} {a1 : RecHdr} {a2 : Nat} {a3 : Nat} : Goes 25169421 u (execLaneWake a0 a1 a2 a3 u) := by
  exact Goes.mk _ _ (Eq.mpr (State.hostRow_frame (cmdLaneWake_ok.widen rfl) rfl) (by simp))
theorem execLeaseExpiry_goes {u : State} {a0 : Nat} {a1 : Nat} : Goes 13239813 u (execLeaseExpiry a0 a1 u) := by
  refine Goes.mk _ _ (Eq.mpr (State.runIf_frame (fun v => ?_) rfl) (by simp))
  simp
theorem execLinkFrame_goes {u : State} {a0 : Nat} {a1 : PortRx} {a2 : Nat} {a3 : Bool} : Goes 25165829 u (execLinkFrame a0 a1 a2 a3 u) := by
  refine Goes.mk _ _ (Eq.mpr (State.runIf_frame (fun v => ?_) rfl) (by simp))
  simp
theorem execLivenessTimeout_goes {u : State} {a0 : Nat} : Goes 14856205 u (execLivenessTimeout a0 u) := by
  refine Goes.mk _ _ (Eq.mpr (State.runIf_frame (fun v => ?_) rfl) (by simp))
  simp
theorem execLoadBufferWrite_goes {u : State} {a0 : Nat} {a1 : Iface} {a2 : Nat} {a3 : Bytes} : Goes 369098735 u (execLoadBufferWrite a0 a1 a2 a3 u) := by
  refine Goes.mk _ _ (Eq.mpr (State.run_frame (fun v => ?_) rfl) (by simp))
  simp
theorem execLocalSetDeadline_goes {u : State} {a0 : Nat} {a1 : Nat} : Goes 24581 u (execLocalSetDeadline a0 a1 u) := by
  refine Goes.mk _ _ (Eq.mpr (State.runIf_frame (fun v => ?_) rfl) (by simp))
  simp
theorem execLockDeclared_goes {u : State} {a0 : Nat} {a1 : Nat} {a2 : Nat} : Goes 133 u (execLockDeclared a0 a1 a2 u) := by
  refine Goes.mk _ _ (Eq.mpr (State.runIf_frame (fun v => ?_) rfl) (by simp))
  simp
theorem execLockSearchRetry_goes {u : State} {a0 : Nat} : Goes 133 u (execLockSearchRetry a0 u) := by
  refine Goes.mk _ _ (Eq.mpr (State.runIf_frame (fun v => ?_) rfl) (by simp))
  simp
theorem execLockoutEnd_goes {u : State} {a0 : Nat} : Goes 131077 u (execLockoutEnd a0 u) := by
  refine Goes.mk _ _ (Eq.mpr (State.runIf_frame (fun v => ?_) rfl) (by simp))
  simp
theorem execLoopClose_goes {u : State} {a0 : Nat} {a1 : RecHdr} {a2 : Nat} : Goes 25200141 u (execLoopClose a0 a1 a2 u) := by
  exact Goes.mk _ _ (Eq.mpr (State.hostRow_frame (cmdLoopClose_ok.widen rfl) rfl) (by simp))
theorem execLoopManual_goes {u : State} {a0 : Nat} {a1 : RecHdr} {a2 : Nat} {a3 : List Word} : Goes 25200141 u (execLoopManual a0 a1 a2 a3 u) := by
  exact Goes.mk _ _ (Eq.mpr (State.hostRow_frame (cmdLoopManual_ok.widen rfl) rfl) (by simp))
theorem execLoopOpen_goes {u : State} {a0 : Nat} {a1 : RecHdr} {a2 : Nat} {a3 : Nat} : Goes 25200141 u (execLoopOpen a0 a1 a2 a3 u) := by
  exact Goes.mk _ _ (Eq.mpr (State.hostRow_frame (cmdLoopOpen_ok.widen rfl) rfl) (by simp))
theorem execLossOfLock_goes {u : State} {a0 : Nat} {a1 : Nat} {a2 : Nat} {a3 : Bool} : Goes 29359791 u (execLossOfLock a0 a1 a2 a3 u) := by
  refine Goes.mk _ _ (Eq.mpr (State.runIf_frame (fun v => ?_) rfl) (by simp))
  simp
theorem execLossSymbol_goes {u : State} {a0 : Nat} {a1 : PortRx} : Goes 8912901 u (execLossSymbol a0 a1 u) := by
  exact Goes.mk _ _ (Eq.mpr (State.run_frame (fun v => Eq.mpr (State.symbolIn_frame (fun y w => State.boundary_frame (fun z => by simp)) rfl) (by simp)) rfl) (by simp))
theorem execLpwmTransition_goes {u : State} {a0 : Nat} {a1 : Nat} : Goes 2105349 u (execLpwmTransition a0 a1 u) := by
  refine Goes.mk _ _ (Eq.mpr (State.runIf_frame (fun v => ?_) rfl) (by simp))
  simp
theorem execMarkerLost_goes {u : State} {a0 : Nat} {a1 : Nat} : Goes 2053 u (execMarkerLost a0 a1 u) := by
  refine Goes.mk _ _ (Eq.mpr (State.runIf_frame (fun v => ?_) rfl) (by simp))
  simp
theorem execMarkerReceived_goes {u : State} {a0 : Nat} {a1 : LaneRx} : Goes 2053 u (execMarkerReceived a0 a1 u) := by
  refine Goes.mk _ _ (Eq.mpr (State.run_frame (fun v => ?_) rfl) (by simp))
  simp
theorem execMarkerSend_goes {u : State} {a0 : Nat} {a1 : Nat} : Goes 8390661 u (execMarkerSend a0 a1 u) := by
  refine Goes.mk _ _ (Eq.mpr (State.runIf_frame (fun v => ?_) rfl) (by simp))
  simp [↓Frame.ite]
theorem execMergeLost_goes {u : State} {a0 : Nat} {a1 : Nat} : Goes 720901 u (execMergeLost a0 a1 u) := by
  refine Goes.mk _ _ (Eq.mpr (State.runIf_frame (fun v => ?_) rfl) (by simp))
  simp
theorem execMeshAck_goes {u : State} {a0 : Nat} {a1 : PortRx} {a2 : Nat} {a3 : Nat} : Goes 25298445 u (execMeshAck a0 a1 a2 a3 u) := by
  refine Goes.mk _ _ (Eq.mpr (State.run_frame (fun v => ?_) rfl) (by simp))
  repeat' (first | (simp [↓Frame.ite]; done) | (with_reducible refine Frame.ite.mpr ⟨fun _ => ?_, fun _ => ?_⟩) | split | (refine ⟨fun _ => ?_, fun _ => ?_⟩) | (intro _) | (refine Eq.mpr (State.meshIn_frame ?_ rfl) ?_) | (refine Eq.mpr (State.meshEpoch_frame ?_ rfl) ?_) | simp [↓Frame.ite])
theorem execMeshBarrier_goes {u : State} {a0 : Nat} {a1 : RecHdr} : Goes 25167373 u (execMeshBarrier a0 a1 u) := by
  exact Goes.mk _ _ (Eq.mpr (State.hostRow_frame (cmdMeshBarrier_ok.widen rfl) rfl) (by simp))
theorem execMeshBcastReg_goes {u : State} {a0 : Nat} {a1 : RecHdr} {a2 : Nat} {a3 : Word} : Goes 369098735 u (execMeshBcastReg a0 a1 a2 a3 u) := by
  exact Goes.mk _ _ (Eq.mpr (State.hostRow_frame (cmdMeshBcastReg_ok.widen rfl) rfl) (by simp))
theorem execMeshBind_goes {u : State} {a0 : Nat} {a1 : RecHdr} {a2 : Nat} {a3 : Nat} {a4 : Nat} : Goes 25167373 u (execMeshBind a0 a1 a2 a3 a4 u) := by
  exact Goes.mk _ _ (Eq.mpr (State.hostRow_frame (cmdMeshBind_ok.widen rfl) rfl) (by simp))
theorem execMeshModeBoundary_goes {u : State} {a0 : Nat} : Goes 29359789 u (execMeshModeBoundary a0 u) := by
  refine Goes.mk _ _ (Eq.mpr (State.runIf_frame (fun v => ?_) rfl) (by simp))
  repeat' (first | (simp [↓Frame.ite]; done) | (with_reducible refine Frame.ite.mpr ⟨fun _ => ?_, fun _ => ?_⟩) | split | (refine ⟨fun _ => ?_, fun _ => ?_⟩) | (intro _) | simp [↓Frame.ite])
theorem execMeshReferenceLoss_goes {u : State} {a0 : Nat} : Goes 135 u (execMeshReferenceLoss a0 u) := by
  refine Goes.mk _ _ (Eq.mpr (State.runIf_frame (fun v => ?_) rfl) (by simp))
  simp
theorem execMeshReferenceSwitch_goes {u : State} {a0 : Nat} : Goes 133 u (execMeshReferenceSwitch a0 u) := by
  refine Goes.mk _ _ (Eq.mpr (State.runIf_frame (fun v => ?_) rfl) (by simp))
  simp
theorem execMeshReset_goes {u : State} {a0 : Nat} {a1 : RecHdr} {a2 : Nat} {a3 : Nat} {a4 : Nat} : Goes 25167373 u (execMeshReset a0 a1 a2 a3 a4 u) := by
  exact Goes.mk _ _ (Eq.mpr (State.hostRow_frame (cmdMeshReset_ok.widen rfl) rfl) (by simp))
theorem execMeshSnapshot_goes {u : State} {a0 : Nat} {a1 : RecHdr} {a2 : Nat} : Goes 25167373 u (execMeshSnapshot a0 a1 a2 u) := by
  exact Goes.mk _ _ (Eq.mpr (State.hostRow_frame (cmdMeshSnapshot_ok.widen rfl) rfl) (by simp))
theorem execMeshSoftReset_goes {u : State} {a0 : Nat} {a1 : Iface} : Goes 369098735 u (execMeshSoftReset a0 a1 u) := by
  refine Goes.mk _ _ (Eq.mpr (State.run_frame (fun v => ?_) rfl) (by simp))
  simp
theorem execMeshTripFlood_goes {u : State} {a0 : Nat} {a1 : PortRx} : Goes 10661901 u (execMeshTripFlood a0 a1 u) := by
  refine Goes.mk _ _ (Eq.mpr (State.runIf_frame (fun v => ?_) rfl) (by simp))
  simp
theorem execModeLossClear_goes {u : State} {a0 : Nat} {a1 : RecHdr} : Goes 25429517 u (execModeLossClear a0 a1 u) := by
  exact Goes.mk _ _ (Eq.mpr (State.hostRow_frame (cmdModeLossClear_ok.widen rfl) rfl) (by simp))
theorem execModeSet_goes {u : State} {a0 : Nat} {a1 : RecHdr} {a2 : Nat} {a3 : Nat} : Goes 25691661 u (execModeSet a0 a1 a2 a3 u) := by
  exact Goes.mk _ _ (Eq.mpr (State.hostRow_frame (cmdModeSet_ok.widen rfl) rfl) (by simp))
theorem execModeSoftReset_goes {u : State} {a0 : Nat} {a1 : Iface} : Goes 369098735 u (execModeSoftReset a0 a1 u) := by
  refine Goes.mk _ _ (Eq.mpr (State.run_frame (fun v => ?_) rfl) (by simp))
  simp
theorem execModeSymbol_goes {u : State} {a0 : Nat} {a1 : PortRx} : Goes 8912901 u (execModeSymbol a0 a1 u) := by
  exact Goes.mk _ _ (Eq.mpr (State.run_frame (fun v => Eq.mpr (State.symbolIn_frame (fun y w => State.boundary_frame (fun z => by simp)) rfl) (by simp)) rfl) (by simp))
theorem execNak_goes {u : State} {a0 : Nat} {a1 : LaneRx} : Goes 19281445 u (execNak a0 a1 u) := by
  refine Goes.mk _ _ (Eq.mpr (State.runIf_frame (fun v => ?_) rfl) (by simp))
  repeat' (first | (simp [↓Frame.ite]; done) | (with_reducible refine Frame.ite.mpr ⟨fun _ => ?_, fun _ => ?_⟩) | split | (refine ⟨fun _ => ?_, fun _ => ?_⟩) | (intro _) | (refine Eq.mpr (State.seamIn_frame ?_ rfl) ?_) | (refine Eq.mpr (State.allowed_frame ?_ rfl) ?_) | simp [↓Frame.ite])
theorem execNodeSilent_goes {u : State} {a0 : Nat} {a1 : Nat} : Goes 25298445 u (execNodeSilent a0 a1 u) := by
  refine Goes.mk _ _ (Eq.mpr (State.runIf_frame (fun v => ?_) rfl) (by simp))
  simp [↓Frame.ite]
theorem execOutpllLocked_goes {u : State} {a0 : Nat} {a1 : Nat} {a2 : Nat} : Goes 133 u (execOutpllLocked a0 a1 a2 u) := by
  refine Goes.mk _ _ (Eq.mpr (State.runIf_frame (fun v => ?_) rfl) (by simp))
  simp
theorem execOutpllLossOfLock_goes {u : State} {a0 : Nat} {a1 : Nat} {a2 : Nat} : Goes 133 u (execOutpllLossOfLock a0 a1 a2 u) := by
  refine Goes.mk _ _ (Eq.mpr (State.runIf_frame (fun v => ?_) rfl) (by simp))
  simp
theorem execOutputPhase_goes {u : State} {a0 : Nat} : Goes 276946957 u (execOutputPhase a0 u) := by
  refine Goes.mk _ _ (Eq.mpr (State.runIf_frame (fun v => ?_) rfl) (by simp))
  simp
theorem execOverloadCount_goes {u : State} {a0 : Nat} : Goes 29343405 u (execOverloadCount a0 u) := by
  refine Goes.mk _ _ (Eq.mpr (State.run_frame (fun v => ?_) rfl) (by simp))
  repeat' (first | (simp [↓Frame.ite]; done) | (with_reducible refine Frame.ite.mpr ⟨fun _ => ?_, fun _ => ?_⟩) | split | (refine ⟨fun _ => ?_, fun _ => ?_⟩) | (intro _) | simp [↓Frame.ite])
theorem execOvlSet_goes {u : State} {a0 : Nat} {a1 : RecHdr} {a2 : Nat} {a3 : Nat} {a4 : Nat} : Goes 28917261 u (execOvlSet a0 a1 a2 a3 a4 u) := by
  exact Goes.mk _ _ (Eq.mpr (State.hostRow_frame (cmdOvlSet_ok.widen rfl) rfl) (by simp))
theorem execPairFailback_goes {u : State} {a0 : Nat} {a1 : RecHdr} {a2 : Nat} : Goes 25167373 u (execPairFailback a0 a1 a2 u) := by
  exact Goes.mk _ _ (Eq.mpr (State.hostRow_frame (cmdPairFailback_ok.widen rfl) rfl) (by simp))
theorem execPairResync_goes {u : State} {a0 : Nat} {a1 : RecHdr} : Goes 25167373 u (execPairResync a0 a1 u) := by
  exact Goes.mk _ _ (Eq.mpr (State.hostRow_frame (cmdPairResync_ok.widen rfl) rfl) (by simp))
theorem execPairSoftReset_goes {u : State} {a0 : Nat} {a1 : Iface} : Goes 369098735 u (execPairSoftReset a0 a1 u) := by
  refine Goes.mk _ _ (Eq.mpr (State.run_frame (fun v => ?_) rfl) (by simp))
  simp
theorem execPairSwitch_goes {u : State} {a0 : Nat} {a1 : RecHdr} {a2 : Nat} : Goes 25167373 u (execPairSwitch a0 a1 a2 u) := by
  exact Goes.mk _ _ (Eq.mpr (State.hostRow_frame (cmdPairSwitch_ok.widen rfl) rfl) (by simp))
theorem execParkKeepExpiry_goes {u : State} {a0 : Nat} {a1 : Nat} : Goes 1541 u (execParkKeepExpiry a0 a1 u) := by
  refine Goes.mk _ _ (Eq.mpr (State.runIf_frame (fun v => ?_) rfl) (by simp))
  simp
theorem execPartnerEdgeSeen_goes {u : State} {a0 : Nat} {a1 : LaneRx} : Goes 19019301 u (execPartnerEdgeSeen a0 a1 u) := by
  refine Goes.mk _ _ (Eq.mpr (State.runIf_frame (fun v => ?_) rfl) (by simp))
  simp
theorem execPcieReferenceClockChange_goes {u : State} {a0 : Nat} {a1 : Bool} {a2 : Option (Nat × Nat)} : Goes 517 u (execPcieReferenceClockChange a0 a1 a2 u) := by
  refine Goes.mk _ _ (Eq.mpr (State.run_frame (fun v => ?_) rfl) (by simp))
  simp
theorem execPorReleaseTimer_goes {u : State} {a0 : Nat} {a1 : Bool} : Goes 69 u (execPorReleaseTimer a0 a1 u) := by
  refine Goes.mk _ _ (Eq.mpr (State.runIf_frame (fun v => ?_) rfl) (by simp))
  simp
theorem execPortDownUp_goes {u : State} {a0 : Nat} {a1 : Nat} : Goes 25297421 u (execPortDownUp a0 a1 u) := by
  refine Goes.mk _ _ (Eq.mpr (State.runIf_frame (fun v => ?_) rfl) (by simp))
  simp
theorem execPowerOnReset_goes {u : State} {a0 : Nat} : Goes 132165 u (execPowerOnReset a0 u) := by
  refine Goes.mk _ _ (Eq.mpr (State.runIf_frame (fun v => ?_) rfl) (by simp))
  simp
theorem execPowerStateChangeDone_goes {u : State} {a0 : Nat} : Goes 101 u (execPowerStateChangeDone a0 u) := by
  refine Goes.mk _ _ (Eq.mpr (State.runIf_frame (fun v => ?_) rfl) (by simp))
  simp
theorem execPowerStateRequest_goes {u : State} {a0 : Nat} {a1 : Iface} {a2 : Nat} : Goes 369098735 u (execPowerStateRequest a0 a1 a2 u) := by
  refine Goes.mk _ _ (Eq.mpr (State.run_frame (fun v => ?_) rfl) (by simp))
  simp
theorem execPrbsCheckerLock_goes {u : State} {a0 : Nat} {a1 : Nat} {a2 : Bool} {a3 : Nat} : Goes 2053 u (execPrbsCheckerLock a0 a1 a2 a3 u) := by
  refine Goes.mk _ _ (Eq.mpr (State.runIf_frame (fun v => ?_) rfl) (by simp))
  simp
theorem execPreTimeoutExpiry_goes {u : State} {a0 : Nat} {a1 : Nat} : Goes 266245 u (execPreTimeoutExpiry a0 a1 u) := by
  refine Goes.mk _ _ (Eq.mpr (State.runIf_frame (fun v => ?_) rfl) (by simp))
  simp
theorem execPrechargeComplete_goes {u : State} {a0 : Nat} : Goes 1947781 u (execPrechargeComplete a0 u) := by
  refine Goes.mk _ _ (Eq.mpr (State.run_frame (fun v => ?_) rfl) (by simp))
  repeat' (first | (simp [↓Frame.ite]; done) | (with_reducible refine Frame.ite.mpr ⟨fun _ => ?_, fun _ => ?_⟩) | split | (refine ⟨fun _ => ?_, fun _ => ?_⟩) | (intro _) | (refine Eq.mpr (Frame.each ?_) ?_) | simp [↓Frame.ite])
theorem execPrechargeP1Timeout_goes {u : State} {a0 : Nat} : Goes 29343405 u (execPrechargeP1Timeout a0 u) := by
  refine Goes.mk _ _ (Eq.mpr (State.run_frame (fun v => ?_) rfl) (by simp))
  repeat' (first | (simp [↓Frame.ite]; done) | (with_reducible refine Frame.ite.mpr ⟨fun _ => ?_, fun _ => ?_⟩) | split | (refine ⟨fun _ => ?_, fun _ => ?_⟩) | (intro _) | simp [↓Frame.ite])
theorem execPrechargeP2Timeout_goes {u : State} {a0 : Nat} : Goes 29343405 u (execPrechargeP2Timeout a0 u) := by
  refine Goes.mk _ _ (Eq.mpr (State.run_frame (fun v => ?_) rfl) (by simp))
  repeat' (first | (simp [↓Frame.ite]; done) | (with_reducible refine Frame.ite.mpr ⟨fun _ => ?_, fun _ => ?_⟩) | split | (refine ⟨fun _ => ?_, fun _ => ?_⟩) | (intro _) | simp [↓Frame.ite])
theorem execPrechargeRelayOff_goes {u : State} {a0 : Nat} : Goes 262149 u (execPrechargeRelayOff a0 u) := by
  refine Goes.mk _ _ (Eq.mpr (State.runIf_frame (fun v => ?_) rfl) (by simp))
  simp
theorem execPresenceFitWindow_goes {u : State} {a0 : Nat} : Goes 261 u (execPresenceFitWindow a0 u) := by
  refine Goes.mk _ _ (Eq.mpr (State.runIf_frame (fun v => ?_) rfl) (by simp))
  simp
theorem execRcCtl_goes {u : State} {a0 : Nat} {a1 : RecHdr} {a2 : Nat} {a3 : Nat} : Goes 25200141 u (execRcCtl a0 a1 a2 a3 u) := by
  exact Goes.mk _ _ (Eq.mpr (State.hostRow_frame (cmdRcCtl_ok.widen rfl) rfl) (by simp))
theorem execRcRead_goes {u : State} {a0 : Nat} {a1 : Iface} {a2 : Nat} {a3 : Nat} : Goes 33538029 u (execRcRead a0 a1 a2 a3 u) := by
  refine Goes.mk _ _ (Eq.mpr (State.run_frame (fun v => ?_) rfl) (by simp))
  simp
theorem execRcRequest_goes {u : State} {a0 : Nat} {a1 : Nat} {a2 : Nat} {a3 : Nat} : Goes 32781 u (execRcRequest a0 a1 a2 a3 u) := by
  refine Goes.mk _ _ (Eq.mpr (State.runIf_frame (fun v => ?_) rfl) (by simp))
  repeat' (first | (simp [↓Frame.ite]; done) | (with_reducible refine Frame.ite.mpr ⟨fun _ => ?_, fun _ => ?_⟩) | split | (refine ⟨fun _ => ?_, fun _ => ?_⟩) | (intro _) | (refine Eq.mpr (State.issue_frame ?_ rfl) ?_) | simp [↓Frame.ite])
theorem execRcResult_goes {u : State} {a0 : Nat} {a1 : Nat} : Goes 32773 u (execRcResult a0 a1 u) := by
  refine Goes.mk _ _ (Eq.mpr (State.runIf_frame (fun v => ?_) rfl) (by simp))
  repeat' (first | (simp [↓Frame.ite]; done) | (with_reducible refine Frame.ite.mpr ⟨fun _ => ?_, fun _ => ?_⟩) | split | (refine ⟨fun _ => ?_, fun _ => ?_⟩) | (intro _) | simp [↓Frame.ite])
theorem execRecordFetch_goes {u : State} {a0 : Nat} {a1 : Bytes} : Goes 369098735 u (execRecordFetch a0 a1 u) := by
  exact Goes.mk _ _ (Eq.mpr (State.run_frame (fun v => Eq.mpr (State.fetch_frame (fun _ _ e => (look_ok e).widen rfl) rfl) (by simp)) rfl) (by simp))
theorem execRefChangeRelock_goes {u : State} {a0 : Nat} : Goes 135 u (execRefChangeRelock a0 u) := by
  refine Goes.mk _ _ (Eq.mpr (State.runIf_frame (fun v => ?_) rfl) (by simp))
  simp
theorem execRefCommit_goes {u : State} {a0 : Nat} {a1 : RecHdr} {a2 : Nat} : Goes 25175565 u (execRefCommit a0 a1 a2 u) := by
  exact Goes.mk _ _ (Eq.mpr (State.hostRow_frame (cmdRefCommit_ok.widen rfl) rfl) (by simp))
theorem execRefCountRetry_goes {u : State} {a0 : Nat} {a1 : Nat} : Goes 135 u (execRefCountRetry a0 a1 u) := by
  refine Goes.mk _ _ (Eq.mpr (State.runIf_frame (fun v => ?_) rfl) (by simp))
  simp
theorem execRefDiscard_goes {u : State} {a0 : Nat} {a1 : RecHdr} {a2 : Nat} : Goes 25175565 u (execRefDiscard a0 a1 a2 u) := by
  exact Goes.mk _ _ (Eq.mpr (State.hostRow_frame (cmdRefDiscard_ok.widen rfl) rfl) (by simp))
theorem execRefFrequencyCount_goes {u : State} {a0 : Nat} {a1 : Nat} : Goes 135 u (execRefFrequencyCount a0 a1 u) := by
  refine Goes.mk _ _ (Eq.mpr (State.runIf_frame (fun v => ?_) rfl) (by simp))
  simp
theorem execRefStage_goes {u : State} {a0 : Nat} {a1 : RecHdr} {a2 : Nat} {a3 : Nat} {a4 : List Word} : Goes 25175565 u (execRefStage a0 a1 a2 a3 a4 u) := by
  exact Goes.mk _ _ (Eq.mpr (State.hostRow_frame (cmdRefStage_ok.widen rfl) rfl) (by simp))
theorem execReferenceLoss_goes {u : State} {a0 : Nat} : Goes 135 u (execReferenceLoss a0 u) := by
  refine Goes.mk _ _ (Eq.mpr (State.run_frame (fun v => ?_) rfl) (by simp))
  simp [↓Frame.ite]
theorem execReferenceReturn_goes {u : State} {a0 : Nat} {a1 : Bool} {a2 : Nat} {a3 : Int} : Goes 135 u (execReferenceReturn a0 a1 a2 a3 u) := by
  refine Goes.mk _ _ (Eq.mpr (State.run_frame (fun v => ?_) rfl) (by simp))
  repeat' (first | (simp [↓Frame.ite]; done) | (with_reducible refine Frame.ite.mpr ⟨fun _ => ?_, fun _ => ?_⟩) | split | (refine ⟨fun _ => ?_, fun _ => ?_⟩) | (intro _) | simp [↓Frame.ite])
theorem execRefs_goes {u : State} {a0 : Nat} {a1 : PortRx} {a2 : RefsFrame} : Goes 29359789 u (execRefs a0 a1 a2 u) := by
  refine Goes.mk _ _ (Eq.mpr (State.runIf_frame (fun v => ?_) rfl) (by simp))
  simp
theorem execRegWrite_goes {u : State} {a0 : Nat} {a1 : RecHdr} {a2 : Nat} {a3 : Word} : Goes 369098735 u (execRegWrite a0 a1 a2 a3 u) := by
  exact Goes.mk _ _ (Eq.mpr (State.hostRow_frame (cmdRegWrite_ok.widen rfl) rfl) (by simp))
theorem execRegacc_goes {u : State} {a0 : Nat} {a1 : Nat} : Goes 369098735 u (execRegacc a0 a1 u) := by
  refine Goes.mk _ _ (Eq.mpr (State.runIf_frame (fun v => ?_) rfl) (by simp))
  simp
theorem execRegisterWrite_goes {u : State} {a0 : Nat} {a1 : Iface} {a2 : Nat} {a3 : Nat} {a4 : Nat} : Goes 369098735 u (execRegisterWrite a0 a1 a2 a3 a4 u) := by
  refine Goes.mk _ _ (Eq.mpr (State.run_frame (fun v => ?_) rfl) (by simp))
  simp
theorem execReleaseControl_goes {u : State} {a0 : Nat} {a1 : RecHdr} : Goes 25691661 u (execReleaseControl a0 a1 u) := by
  exact Goes.mk _ _ (Eq.mpr (State.hostRow_frame (cmdReleaseControl_ok.widen rfl) rfl) (by simp))
theorem execReload_goes {u : State} {a0 : Nat} {a1 : Iface} : Goes 369098735 u (execReload a0 a1 u) := by
  refine Goes.mk _ _ (Eq.mpr (State.run_frame (fun v => ?_) rfl) (by simp))
  simp
theorem execRemoteRegisterAccess_goes {u : State} {a0 : Nat} {a1 : Bool} {a2 : Nat} {a3 : Nat} {a4 : Nat} : Goes 369098735 u (execRemoteRegisterAccess a0 a1 a2 a3 a4 u) := by
  refine Goes.mk _ _ (Eq.mpr (State.run_frame (fun v => ?_) rfl) (by simp))
  repeat' (first | (simp [↓Frame.ite]; done) | (with_reducible refine Frame.ite.mpr ⟨fun _ => ?_, fun _ => ?_⟩) | split | (refine ⟨fun _ => ?_, fun _ => ?_⟩) | (intro _) | simp [↓Frame.ite])
theorem execRemoteResult_goes {u : State} {a0 : Nat} {a1 : Nat} {a2 : Nat} {a3 : Nat} {a4 : RemoteOut} : Goes 25691661 u (execRemoteResult a0 a1 a2 a3 a4 u) := by
  refine Goes.mk _ _ (Eq.mpr (State.run_frame (fun v => ?_) rfl) (by simp))
  simp
theorem execResetBlockSymbol_goes {u : State} {a0 : Nat} {a1 : PortRx} : Goes 8388613 u (execResetBlockSymbol a0 a1 u) := by
  exact Goes.mk _ _ (Eq.mpr (State.run_frame (fun v => Eq.mpr (State.symbolIn_frame (fun y w => Frame1.of (by simp)) rfl) (by simp)) rfl) (by simp))
theorem execResetN_goes {u : State} {a0 : Nat} : Goes 369098727 u (execResetN a0 u) := by
  refine Goes.mk _ _ (Eq.mpr (State.run_frame (fun v => ?_) rfl) (by simp))
  simp
theorem execResetNRelease_goes {u : State} {a0 : Nat} {a1 : Bool} : Goes 69 u (execResetNRelease a0 a1 u) := by
  refine Goes.mk _ _ (Eq.mpr (State.runIf_frame (fun v => ?_) rfl) (by simp))
  simp
theorem execResetSymbol_goes {u : State} {a0 : Nat} {a1 : PortRx} : Goes 8388613 u (execResetSymbol a0 a1 u) := by
  exact Goes.mk _ _ (Eq.mpr (State.run_frame (fun v => Eq.mpr (State.symbolIn_frame (fun y w => Frame1.ite (fun _ => State.timed_frame (fun z => by simp)) (fun _ => by simp)) rfl) (by simp)) rfl) (by simp))
theorem execResign_goes {u : State} {a0 : Nat} {a1 : PortRx} {a2 : Nat} : Goes 25165829 u (execResign a0 a1 a2 u) := by
  refine Goes.mk _ _ (Eq.mpr (State.runIf_frame (fun v => ?_) rfl) (by simp))
  simp
theorem execResume_goes {u : State} {a0 : Nat} {a1 : RecHdr} {a2 : Nat} : Goes 25167373 u (execResume a0 a1 a2 u) := by
  exact Goes.mk _ _ (Eq.mpr (State.hostRow_frame (cmdResume_ok.widen rfl) rfl) (by simp))
theorem execResyncComplete_goes {u : State} {a0 : Nat} : Goes 294917 u (execResyncComplete a0 u) := by
  refine Goes.mk _ _ (Eq.mpr (State.run_frame (fun v => ?_) rfl) (by simp))
  repeat' (first | (simp [↓Frame.ite]; done) | (with_reducible refine Frame.ite.mpr ⟨fun _ => ?_, fun _ => ?_⟩) | split | (refine ⟨fun _ => ?_, fun _ => ?_⟩) | (intro _) | (refine Eq.mpr (Frame.each ?_) ?_) | simp [↓Frame.ite])
theorem execRetrainAdaptationDone_goes {u : State} {a0 : Nat} {a1 : Nat} : Goes 2053 u (execRetrainAdaptationDone a0 a1 u) := by
  refine Goes.mk _ _ (Eq.mpr (State.runIf_frame (fun v => ?_) rfl) (by simp))
  simp
theorem execRetryGapEnd_goes {u : State} {a0 : Nat} {a1 : Nat} : Goes 2053 u (execRetryGapEnd a0 a1 u) := by
  refine Goes.mk _ _ (Eq.mpr (State.runIf_frame (fun v => ?_) rfl) (by simp))
  simp
theorem execRingAccessFailure_goes {u : State} {a0 : Nat} {a1 : Nat} : Goes 517 u (execRingAccessFailure a0 a1 u) := by
  refine Goes.mk _ _ (Eq.mpr (State.run_frame (fun v => ?_) rfl) (by simp))
  simp
theorem execRiseWindowExpiry_goes {u : State} {a0 : Nat} : Goes 69 u (execRiseWindowExpiry a0 u) := by
  refine Goes.mk _ _ (Eq.mpr (State.runIf_frame (fun v => ?_) rfl) (by simp))
  simp
theorem execRstStuck_goes {u : State} {a0 : Nat} : Goes 4325381 u (execRstStuck a0 u) := by
  refine Goes.mk _ _ (Eq.mpr (State.runIf_frame (fun v => ?_) rfl) (by simp))
  simp
theorem execRunStartConditions_goes {u : State} {a0 : Nat} : Goes 1947781 u (execRunStartConditions a0 u) := by
  refine Goes.mk _ _ (Eq.mpr (State.run_frame (fun v => ?_) rfl) (by simp))
  repeat' (first | (simp [↓Frame.ite]; done) | (with_reducible refine Frame.ite.mpr ⟨fun _ => ?_, fun _ => ?_⟩) | split | (refine ⟨fun _ => ?_, fun _ => ?_⟩) | (intro _) | simp [↓Frame.ite])
theorem execRxWakeDone_goes {u : State} {a0 : Nat} {a1 : Nat} : Goes 2053 u (execRxWakeDone a0 a1 u) := by
  refine Goes.mk _ _ (Eq.mpr (State.runIf_frame (fun v => ?_) rfl) (by simp))
  simp
theorem execSafeClockCheck_goes {u : State} {a0 : Nat} {a1 : Nat} {a2 : Nat} : Goes 14856205 u (execSafeClockCheck a0 a1 a2 u) := by
  refine Goes.mk _ _ (Eq.mpr (State.runIf_frame (fun v => ?_) rfl) (by simp))
  simp
theorem execSafeCtlWrite_goes {u : State} {a0 : Nat} {a1 : RecHdr} {a2 : Word} : Goes 369098735 u (execSafeCtlWrite a0 a1 a2 u) := by
  unfold execSafeCtlWrite
  split
  · exact Goes.mk _ _ (Eq.mpr (State.run_frame (fun v => Frame.ite.mpr ⟨fun _ => by simp, fun _ => by simp⟩) rfl) (by simp))
  · exact Goes.mk _ _ (Eq.mpr (State.run_frame (fun v => Frame.ite.mpr ⟨fun _ => by simp, fun _ => by simp⟩) rfl) (by simp))
  · exact Goes.mk _ _ (Eq.mpr (State.run_frame (fun v => Frame.ite.mpr ⟨fun _ => by simp, fun _ => by simp⟩) rfl) (by simp))
  · exact Goes.mk _ _ (Eq.mpr (State.run_frame (fun v => Frame.ite.mpr ⟨fun _ => by simp, fun _ => by simp⟩) rfl) (by simp))
  · exact Goes.mk _ _ (Eq.mpr (State.hostRow_frame (cmdRegWrite_ok.widen rfl) rfl) (by simp))
theorem execSafeLock_goes {u : State} {a0 : Nat} {a1 : RecHdr} : Goes 29492749 u (execSafeLock a0 a1 u) := by
  exact Goes.mk _ _ (Eq.mpr (State.hostRow_frame (cmdSafeLock_ok.widen rfl) rfl) (by simp))
theorem execSafeNoticeReceived_goes {u : State} {a0 : Nat} {a1 : Nat} {a2 : Nat} : Goes 524293 u (execSafeNoticeReceived a0 a1 a2 u) := by
  refine Goes.mk _ _ (Eq.mpr (State.runIf_frame (fun v => ?_) rfl) (by simp))
  simp
theorem execSafePassSet_goes {u : State} {a0 : Nat} {a1 : RecHdr} {a2 : Bytes} {a3 : Nat} {a4 : Bytes} : Goes 25298445 u (execSafePassSet a0 a1 a2 a3 a4 u) := by
  exact Goes.mk _ _ (Eq.mpr (State.hostRow_frame (cmdSafePassSet_ok.widen rfl) rfl) (by simp))
theorem execSafeRstEdge_goes {u : State} {a0 : Nat} {a1 : Nat} : Goes 6311941 u (execSafeRstEdge a0 a1 u) := by
  refine Goes.mk _ _ (Eq.mpr (State.runIf_frame (fun v => ?_) rfl) (by simp))
  simp [↓Frame.ite]
theorem execSafeRstRelease_goes {u : State} {a0 : Nat} {a1 : Nat} : Goes 4194309 u (execSafeRstRelease a0 a1 u) := by
  refine Goes.mk _ _ (Eq.mpr (State.runIf_frame (fun v => ?_) rfl) (by simp))
  simp
theorem execSafeSymbol_goes {u : State} {a0 : Nat} {a1 : PortRx} : Goes 8912901 u (execSafeSymbol a0 a1 u) := by
  exact Goes.mk _ _ (Eq.mpr (State.run_frame (fun v => Eq.mpr (State.symbolIn_frame (fun y w => Frame1.of (by simp)) rfl) (by simp)) rfl) (by simp))
theorem execSafeUnlock_goes {u : State} {a0 : Nat} {a1 : RecHdr} {a2 : Nat} {a3 : Bytes} : Goes 29492749 u (execSafeUnlock a0 a1 a2 a3 u) := by
  exact Goes.mk _ _ (Eq.mpr (State.hostRow_frame (cmdSafeUnlock_ok.widen rfl) rfl) (by simp))
theorem execSampleLatch_goes {u : State} {a0 : Nat} : Goes 301989549 u (execSampleLatch a0 u) := by
  refine Goes.mk _ _ (Eq.mpr (State.runIf_frame (fun v => ?_) rfl) (by simp))
  simp
theorem execSampledWindow_goes {u : State} {a0 : Nat} {a1 : Nat} {a2 : Int} : Goes 10661901 u (execSampledWindow a0 a1 a2 u) := by
  refine Goes.mk _ _ (Eq.mpr (State.runIf_frame (fun v => ?_) rfl) (by simp))
  simp
theorem execScheduledResetExecute_goes {u : State} {a0 : Nat} : Goes 33538029 u (execScheduledResetExecute a0 u) := by
  refine Goes.mk _ _ (Eq.mpr (State.run_frame (fun v => ?_) rfl) (by simp))
  repeat' (first | (simp [↓Frame.ite]; done) | (with_reducible refine Frame.ite.mpr ⟨fun _ => ?_, fun _ => ?_⟩) | split | (refine ⟨fun _ => ?_, fun _ => ?_⟩) | (intro _) | simp [↓Frame.ite])
theorem execScrubPass_goes {u : State} {a0 : Nat} : Goes 37 u (execScrubPass a0 u) := by
  refine Goes.mk _ _ (Eq.mpr (State.runIf_frame (fun v => ?_) rfl) (by simp))
  simp
theorem execSdcStartStop_goes {u : State} {a0 : Nat} {a1 : Nat} : Goes 1048581 u (execSdcStartStop a0 a1 u) := by
  refine Goes.mk _ _ (Eq.mpr (State.runIf_frame (fun v => ?_) rfl) (by simp))
  simp
theorem execSeamSoftReset_goes {u : State} {a0 : Nat} {a1 : Iface} : Goes 369098735 u (execSeamSoftReset a0 a1 u) := by
  refine Goes.mk _ _ (Eq.mpr (State.run_frame (fun v => ?_) rfl) (by simp))
  simp
theorem execSessionClose_goes {u : State} {a0 : Nat} {a1 : RecHdr} : Goes 30017037 u (execSessionClose a0 a1 u) := by
  exact Goes.mk _ _ (Eq.mpr (State.hostRow_frame (cmdSessionClose_ok.widen rfl) rfl) (by simp))
theorem execSessionOpen_goes {u : State} {a0 : Nat} {a1 : RecHdr} {a2 : Nat} {a3 : Nat} : Goes 25167373 u (execSessionOpen a0 a1 a2 a3 u) := by
  exact Goes.mk _ _ (Eq.mpr (State.hostRow_frame (cmdSessionOpen_ok.widen rfl) rfl) (by simp))
theorem execSetpoint_goes {u : State} {a0 : Nat} {a1 : RecHdr} {a2 : Nat} {a3 : Word} : Goes 25691661 u (execSetpoint a0 a1 a2 a3 u) := by
  exact Goes.mk _ _ (Eq.mpr (State.hostRow_frame (cmdSetpoint_ok.widen rfl) rfl) (by simp))
theorem execShipSlot_goes {u : State} {a0 : Nat} {a1 : Nat} : Goes 28677 u (execShipSlot a0 a1 u) := by
  refine Goes.mk _ _ (Eq.mpr (State.runIf_frame (fun v => ?_) rfl) (by simp))
  simp
theorem execSieveLeavesStuck_goes {u : State} {a0 : Nat} {a1 : Nat} {a2 : List Bool} : Goes 1048581 u (execSieveLeavesStuck a0 a1 a2 u) := by
  refine Goes.mk _ _ (Eq.mpr (State.runIf_frame (fun v => ?_) rfl) (by simp))
  simp
theorem execSieveOutput_goes {u : State} {a0 : Nat} {a1 : Nat} {a2 : List Bool} : Goes 1048589 u (execSieveOutput a0 a1 a2 u) := by
  refine Goes.mk _ _ (Eq.mpr (State.runIf_frame (fun v => ?_) rfl) (by simp))
  simp [↓Frame.ite]
theorem execSieveStuck_goes {u : State} {a0 : Nat} {a1 : Nat} {a2 : Bool} {a3 : List Bool} : Goes 1179653 u (execSieveStuck a0 a1 a2 a3 u) := by
  refine Goes.mk _ _ (Eq.mpr (State.runIf_frame (fun v => ?_) rfl) (by simp))
  simp
theorem execSignalLoss_goes {u : State} {a0 : Nat} {a1 : Nat} : Goes 2053 u (execSignalLoss a0 a1 u) := by
  refine Goes.mk _ _ (Eq.mpr (State.runIf_frame (fun v => ?_) rfl) (by simp))
  simp
theorem execSinChannelTaken_goes {u : State} {a0 : Nat} {a1 : Nat} {a2 : Bool} {a3 : Nat} : Goes 14856205 u (execSinChannelTaken a0 a1 a2 a3 u) := by
  refine Goes.mk _ _ (Eq.mpr (State.runIf_frame (fun v => ?_) rfl) (by simp))
  simp
theorem execSleepNotice_goes {u : State} {a0 : Nat} {a1 : LaneRx} : Goes 2053 u (execSleepNotice a0 a1 u) := by
  refine Goes.mk _ _ (Eq.mpr (State.runIf_frame (fun v => ?_) rfl) (by simp))
  simp
theorem execSlewDone_goes {u : State} {a0 : Nat} : Goes 135 u (execSlewDone a0 u) := by
  refine Goes.mk _ _ (Eq.mpr (State.runIf_frame (fun v => ?_) rfl) (by simp))
  simp
theorem execSlotEraseDone_goes {u : State} {a0 : Nat} {a1 : Nat} : Goes 261 u (execSlotEraseDone a0 a1 u) := by
  refine Goes.mk _ _ (Eq.mpr (State.runIf_frame (fun v => ?_) rfl) (by simp))
  simp
theorem execSlotWriteDone_goes {u : State} {a0 : Nat} {a1 : Nat} : Goes 261 u (execSlotWriteDone a0 a1 u) := by
  refine Goes.mk _ _ (Eq.mpr (State.run_frame (fun v => ?_) rfl) (by simp))
  repeat' (first | (simp [↓Frame.ite]; done) | (with_reducible refine Frame.ite.mpr ⟨fun _ => ?_, fun _ => ?_⟩) | split | (refine ⟨fun _ => ?_, fun _ => ?_⟩) | (intro _) | simp [↓Frame.ite])
theorem execSnap_goes {u : State} {a0 : Nat} {a1 : PortRx} : Goes 8388613 u (execSnap a0 a1 u) := by
  exact Goes.mk _ _ (Eq.mpr (State.run_frame (fun v => Eq.mpr (State.symbolIn_frame (fun y w => State.timed_frame (fun z => by simp)) rfl) (by simp)) rfl) (by simp))
theorem execSnapshotExecute_goes {u : State} {a0 : Nat} : Goes 33538021 u (execSnapshotExecute a0 u) := by
  refine Goes.mk _ _ (Eq.mpr (State.run_frame (fun v => ?_) rfl) (by simp))
  repeat' (first | (simp [↓Frame.ite]; done) | (with_reducible refine Frame.ite.mpr ⟨fun _ => ?_, fun _ => ?_⟩) | split | (refine ⟨fun _ => ?_, fun _ => ?_⟩) | (intro _) | simp [↓Frame.ite])
theorem execSoffReadbackFailure_goes {u : State} {a0 : Nat} {a1 : Bool} : Goes 14856205 u (execSoffReadbackFailure a0 a1 u) := by
  refine Goes.mk _ _ (Eq.mpr (State.runIf_frame (fun v => ?_) rfl) (by simp))
  simp
theorem execSoftResetDone_goes {u : State} {a0 : Nat} : Goes 1093 u (execSoftResetDone a0 u) := by
  refine Goes.mk _ _ (Eq.mpr (State.runIf_frame (fun v => ?_) rfl) (by simp))
  simp
theorem execSortRequest_goes {u : State} {a0 : Nat} {a1 : Nat} {a2 : Nat} : Goes 32781 u (execSortRequest a0 a1 a2 u) := by
  refine Goes.mk _ _ (Eq.mpr (State.runIf_frame (fun v => Eq.mpr (State.issue_frame (fun w => ?_) rfl) (by simp)) rfl) (by simp))
  refine Frame.ite.mpr ⟨fun _ => by simp, fun _ => ?_⟩
  exact Eq.mpr (State.onBench_frame rfl) ⟨fun p q => by cases p <;> first | rfl | cases q⟩
theorem execSortResult_goes {u : State} {a0 : Nat} {a1 : Nat} : Goes 32773 u (execSortResult a0 a1 u) := by
  refine Goes.mk _ _ (Eq.mpr (State.runIf_frame (fun v => ?_) rfl) (by simp))
  repeat' (first | (simp [↓Frame.ite]; done) | (with_reducible refine Frame.ite.mpr ⟨fun _ => ?_, fun _ => ?_⟩) | split | (refine ⟨fun _ => ?_, fun _ => ?_⟩) | (intro _) | simp [↓Frame.ite])
theorem execSpiTransaction_goes {u : State} {a0 : Nat} {a1 : Bytes} : Goes 369098735 u (execSpiTransaction a0 a1 u) := by
  refine Goes.mk _ _ (Eq.mpr (State.run_frame (fun v => ?_) rfl) (by simp))
  simp
theorem execSramCorrectedError_goes {u : State} {a0 : Nat} {a1 : Nat} {a2 : Nat} : Goes 32805 u (execSramCorrectedError a0 a1 a2 u) := by
  refine Goes.mk _ _ (Eq.mpr (State.runIf_frame (fun v => ?_) rfl) (by simp))
  simp
theorem execSramUncorrectableError_goes {u : State} {a0 : Nat} {a1 : Nat} {a2 : Nat} {a3 : Nat} : Goes 33554415 u (execSramUncorrectableError a0 a1 a2 a3 u) := by
  refine Goes.mk _ _ (Eq.mpr (State.runIf_frame (fun v => ?_) rfl) (by simp))
  simp
theorem execStandbyBenchStart_goes {u : State} {a0 : Nat} : Goes 285507589 u (execStandbyBenchStart a0 u) := by
  refine Goes.mk _ _ (Eq.mpr (State.runIf_frame (fun v => ?_) rfl) (by simp))
  simp
theorem execStandbyCompile_goes {u : State} {a0 : Nat} : Goes 293762573 u (execStandbyCompile a0 u) := by
  refine Goes.mk _ _ (Eq.mpr (State.runIf_frame (fun v => ?_) rfl) (by simp))
  simp
theorem execStartMaxExpiry_goes {u : State} {a0 : Nat} : Goes 294917 u (execStartMaxExpiry a0 u) := by
  refine Goes.mk _ _ (Eq.mpr (State.run_frame (fun v => ?_) rfl) (by simp))
  repeat' (first | (simp [↓Frame.ite]; done) | (with_reducible refine Frame.ite.mpr ⟨fun _ => ?_, fun _ => ?_⟩) | split | (refine ⟨fun _ => ?_, fun _ => ?_⟩) | (intro _) | simp [↓Frame.ite])
theorem execSupplyFall_goes {u : State} {a0 : Nat} {a1 : Nat} : Goes 369098727 u (execSupplyFall a0 a1 u) := by
  refine Goes.mk _ _ (Eq.mpr (State.runIf_frame (fun v => ?_) rfl) (by simp))
  simp [↓Frame.ite]
theorem execSupplyRise_goes {u : State} {a0 : Nat} {a1 : Nat} : Goes 69 u (execSupplyRise a0 a1 u) := by
  refine Goes.mk _ _ (Eq.mpr (State.runIf_frame (fun v => ?_) rfl) (by simp))
  simp
theorem execSwapBoundary_goes {u : State} {a0 : Nat} : Goes 5377925 u (execSwapBoundary a0 u) := by
  refine Goes.mk _ _ (Eq.mpr (State.runIf_frame (fun v => ?_) rfl) (by simp))
  repeat' (first | (simp [↓Frame.ite]; done) | (with_reducible refine Frame.ite.mpr ⟨fun _ => ?_, fun _ => ?_⟩) | split | (refine ⟨fun _ => ?_, fun _ => ?_⟩) | (intro _) | simp [↓Frame.ite])
theorem execSwapCancel_goes {u : State} {a0 : Nat} {a1 : Bool} : Goes 261 u (execSwapCancel a0 a1 u) := by
  refine Goes.mk _ _ (Eq.mpr (State.run_frame (fun v => ?_) rfl) (by simp))
  simp
theorem execSync_goes {u : State} {a0 : Nat} {a1 : PortRx} {a2 : Nat} {a3 : Bytes} : Goes 25404933 u (execSync a0 a1 a2 a3 u) := by
  refine Goes.mk _ _ (Eq.mpr (State.runIf_frame (fun v => ?_) rfl) (by simp))
  simp
theorem execSyncEnd_goes {u : State} {a0 : Nat} : Goes 16908293 u (execSyncEnd a0 u) := by
  refine Goes.mk _ _ (Eq.mpr (State.runIf_frame (fun v => ?_) rfl) (by simp))
  simp
theorem execTakeControl_goes {u : State} {a0 : Nat} {a1 : RecHdr} : Goes 25167373 u (execTakeControl a0 a1 u) := by
  exact Goes.mk _ _ (Eq.mpr (State.hostRow_frame (cmdTakeControl_ok.widen rfl) rfl) (by simp))
theorem execTdacConnect_goes {u : State} {a0 : Nat} {a1 : RecHdr} {a2 : Nat} : Goes 26215949 u (execTdacConnect a0 a1 a2 u) := by
  exact Goes.mk _ _ (Eq.mpr (State.hostRow_frame (cmdTdacConnect_ok.widen rfl) rfl) (by simp))
theorem execTdacSet_goes {u : State} {a0 : Nat} {a1 : RecHdr} {a2 : Nat} : Goes 26215949 u (execTdacSet a0 a1 a2 u) := by
  exact Goes.mk _ _ (Eq.mpr (State.hostRow_frame (cmdTdacSet_ok.widen rfl) rfl) (by simp))
theorem execTestPulse_goes {u : State} {a0 : Nat} : Goes 4194309 u (execTestPulse a0 u) := by
  refine Goes.mk _ _ (Eq.mpr (State.runIf_frame (fun v => ?_) rfl) (by simp))
  simp
theorem execTestPulseEnd_goes {u : State} {a0 : Nat} : Goes 4194309 u (execTestPulseEnd a0 u) := by
  refine Goes.mk _ _ (Eq.mpr (State.runIf_frame (fun v => ?_) rfl) (by simp))
  simp
theorem execThermReinit_goes {u : State} {a0 : Nat} {a1 : RecHdr} : Goes 25232909 u (execThermReinit a0 a1 u) := by
  exact Goes.mk _ _ (Eq.mpr (State.hostRow_frame (cmdThermReinit_ok.widen rfl) rfl) (by simp))
theorem execThermalDeadline_goes {u : State} {a0 : Nat} {a1 : List Nat} : Goes 268500997 u (execThermalDeadline a0 a1 u) := by
  refine Goes.mk _ _ (Eq.mpr (State.runIf_frame (fun v => ?_) rfl) (by simp))
  simp
theorem execThermalPass_goes {u : State} {a0 : Nat} : Goes 269160461 u (execThermalPass a0 u) := by
  refine Goes.mk _ _ (Eq.mpr (State.runIf_frame (fun v => ?_) rfl) (by simp))
  simp
theorem execThresholdStep_goes {u : State} {a0 : Nat} {a1 : Nat} : Goes 10661901 u (execThresholdStep a0 a1 u) := by
  refine Goes.mk _ _ (Eq.mpr (State.runIf_frame (fun v => ?_) rfl) (by simp))
  simp
theorem execTimeFrame_goes {u : State} {a0 : Nat} {a1 : PortRx} {a2 : Nat} {a3 : Nat} {a4 : Nat} {a5 : Nat} : Goes 25297039 u (execTimeFrame a0 a1 a2 a3 a4 a5 u) := by
  refine Goes.mk _ _ (Eq.mpr (State.runIf_frame (fun v => ?_) rfl) (by simp))
  simp
theorem execTimeLoadAct_goes {u : State} {a0 : Nat} : Goes 26216079 u (execTimeLoadAct a0 u) := by
  refine Goes.mk _ _ (Eq.mpr (State.runIf_frame (fun v => ?_) rfl) (by simp))
  simp
theorem execTloadAt_goes {u : State} {a0 : Nat} {a1 : PortRx} : Goes 8388741 u (execTloadAt a0 a1 u) := by
  exact Goes.mk _ _ (Eq.mpr (State.run_frame (fun v => Eq.mpr (State.symbolIn_frame (fun y w => State.timed_frame (fun z => by simp)) rfl) (by simp)) rfl) (by simp))
theorem execTloadVal_goes {u : State} {a0 : Nat} {a1 : PortRx} : Goes 8388741 u (execTloadVal a0 a1 u) := by
  exact Goes.mk _ _ (Eq.mpr (State.run_frame (fun v => Eq.mpr (State.symbolIn_frame (fun y w => Frame1.of (by simp)) rfl) (by simp)) rfl) (by simp))
theorem execTraceArm_goes {u : State} {a0 : Nat} {a1 : RecHdr} : Goes 25200141 u (execTraceArm a0 a1 u) := by
  exact Goes.mk _ _ (Eq.mpr (State.hostRow_frame (cmdTraceArm_ok.widen rfl) rfl) (by simp))
theorem execTraceDone_goes {u : State} {a0 : Nat} : Goes 32773 u (execTraceDone a0 u) := by
  refine Goes.mk _ _ (Eq.mpr (State.runIf_frame (fun v => ?_) rfl) (by simp))
  simp
theorem execTraceForce_goes {u : State} {a0 : Nat} {a1 : RecHdr} : Goes 25200141 u (execTraceForce a0 a1 u) := by
  exact Goes.mk _ _ (Eq.mpr (State.hostRow_frame (cmdTraceForce_ok.widen rfl) rfl) (by simp))
theorem execTraceStop_goes {u : State} {a0 : Nat} {a1 : RecHdr} : Goes 25200141 u (execTraceStop a0 a1 u) := by
  exact Goes.mk _ _ (Eq.mpr (State.hostRow_frame (cmdTraceStop_ok.widen rfl) rfl) (by simp))
theorem execTrimSample_goes {u : State} {a0 : Nat} {a1 : Nat} : Goes 141 u (execTrimSample a0 a1 u) := by
  refine Goes.mk _ _ (Eq.mpr (State.runIf_frame (fun v => ?_) rfl) (by simp))
  repeat' (first | (simp [↓Frame.ite]; done) | (with_reducible refine Frame.ite.mpr ⟨fun _ => ?_, fun _ => ?_⟩) | split | (refine ⟨fun _ => ?_, fun _ => ?_⟩) | (intro _) | simp [↓Frame.ite])
theorem execTripBlockRepeat_goes {u : State} {a0 : Nat} {a1 : Nat} : Goes 5 u (execTripBlockRepeat a0 a1 u) := by
  refine Goes.mk _ _ (Eq.mpr (State.runIf_frame (fun v => ?_) rfl) (by simp))
  simp
theorem execTripPinFilter_goes {u : State} {a0 : Nat} {a1 : Nat} {a2 : Bool} {a3 : Nat} : Goes 10661901 u (execTripPinFilter a0 a1 a2 a3 u) := by
  refine Goes.mk _ _ (Eq.mpr (State.runIf_frame (fun v => ?_) rfl) (by simp))
  simp [↓Frame.ite]
theorem execTripRelease_goes {u : State} {a0 : Nat} {a1 : RecHdr} : Goes 27264525 u (execTripRelease a0 a1 u) := by
  exact Goes.mk _ _ (Eq.mpr (State.hostRow_frame (cmdTripRelease_ok.widen rfl) rfl) (by simp))
theorem execTripReleaseLanding_goes {u : State} {a0 : Nat} : Goes 2117637 u (execTripReleaseLanding a0 u) := by
  refine Goes.mk _ _ (Eq.mpr (State.run_frame (fun v => ?_) rfl) (by simp))
  simp
theorem execTripnIgnoreEnd_goes {u : State} {a0 : Nat} : Goes 10661901 u (execTripnIgnoreEnd a0 u) := by
  refine Goes.mk _ _ (Eq.mpr (State.runIf_frame (fun v => ?_) rfl) (by simp))
  simp [↓Frame.ite]
theorem execTripnLow_goes {u : State} {a0 : Nat} {a1 : Bool} : Goes 10661901 u (execTripnLow a0 a1 u) := by
  refine Goes.mk _ _ (Eq.mpr (State.run_frame (fun v => ?_) rfl) (by simp))
  simp [↓Frame.ite]
theorem execTxRetrainDone_goes {u : State} {a0 : Nat} {a1 : Nat} : Goes 2053 u (execTxRetrainDone a0 a1 u) := by
  refine Goes.mk _ _ (Eq.mpr (State.runIf_frame (fun v => ?_) rfl) (by simp))
  simp
theorem execTxSleepDone_goes {u : State} {a0 : Nat} {a1 : Nat} : Goes 2053 u (execTxSleepDone a0 a1 u) := by
  refine Goes.mk _ _ (Eq.mpr (State.runIf_frame (fun v => ?_) rfl) (by simp))
  simp
theorem execTxWakeDone_goes {u : State} {a0 : Nat} {a1 : Nat} : Goes 2053 u (execTxWakeDone a0 a1 u) := by
  refine Goes.mk _ _ (Eq.mpr (State.runIf_frame (fun v => ?_) rfl) (by simp))
  simp [↓Frame.ite]
theorem execUnlockTimeout_goes {u : State} {a0 : Nat} : Goes 4325381 u (execUnlockTimeout a0 u) := by
  refine Goes.mk _ _ (Eq.mpr (State.runIf_frame (fun v => ?_) rfl) (by simp))
  simp
theorem execVddSafeFault_goes {u : State} {a0 : Nat} : Goes 14856205 u (execVddSafeFault a0 u) := by
  refine Goes.mk _ _ (Eq.mpr (State.run_frame (fun v => ?_) rfl) (by simp))
  simp
theorem execVddSafeRecovery_goes {u : State} {a0 : Nat} : Goes 14856205 u (execVddSafeRecovery a0 u) := by
  refine Goes.mk _ _ (Eq.mpr (State.runIf_frame (fun v => ?_) rfl) (by simp))
  simp
theorem execWaitingTimeout_goes {u : State} {a0 : Nat} : Goes 16781317 u (execWaitingTimeout a0 u) := by
  refine Goes.mk _ _ (Eq.mpr (State.runIf_frame (fun v => ?_) rfl) (by simp))
  simp
theorem execWakeTimerExpiry_goes {u : State} {a0 : Nat} : Goes 369098727 u (execWakeTimerExpiry a0 u) := by
  refine Goes.mk _ _ (Eq.mpr (State.runIf_frame (fun v => ?_) rfl) (by simp))
  simp
theorem execWarm_goes {u : State} {a0 : Nat} {a1 : Iface} : Goes 369098735 u (execWarm a0 a1 u) := by
  refine Goes.mk _ _ (Eq.mpr (State.run_frame (fun v => ?_) rfl) (by simp))
  simp
theorem execWarmResetEnd_goes {u : State} {a0 : Nat} : Goes 18887781 u (execWarmResetEnd a0 u) := by
  refine Goes.mk _ _ (Eq.mpr (State.run_frame (fun v => ?_) rfl) (by simp))
  repeat' (first | (simp [↓Frame.ite]; done) | (with_reducible refine Frame.ite.mpr ⟨fun _ => ?_, fun _ => ?_⟩) | split | (refine ⟨fun _ => ?_, fun _ => ?_⟩) | (intro _) | simp [↓Frame.ite])
theorem execWordFrameReceive_goes {u : State} {a0 : Nat} {a1 : PortRx} : Goes 25339405 u (execWordFrameReceive a0 a1 u) := by
  refine Goes.mk _ _ (Eq.mpr (State.runIf_frame (fun v => ?_) rfl) (by simp))
  repeat' (first | (simp [↓Frame.ite]; done) | (with_reducible refine Frame.ite.mpr ⟨fun _ => ?_, fun _ => ?_⟩) | split | (refine ⟨fun _ => ?_, fun _ => ?_⟩) | (intro _) | (refine Eq.mpr (State.meshIn_frame ?_ rfl) ?_) | (refine Eq.mpr (State.meshEpoch_frame ?_ rfl) ?_) | simp [↓Frame.ite])
theorem execZeroSpeedCount_goes {u : State} {a0 : Nat} : Goes 1947781 u (execZeroSpeedCount a0 u) := by
  refine Goes.mk _ _ (Eq.mpr (State.run_frame (fun v => ?_) rfl) (by simp))
  repeat' (first | (simp [↓Frame.ite]; done) | (with_reducible refine Frame.ite.mpr ⟨fun _ => ?_, fun _ => ?_⟩) | split | (refine ⟨fun _ => ?_, fun _ => ?_⟩) | (intro _) | simp [↓Frame.ite])

end Sys2Proof.Machine
end

