-- ==== Sys2Proof/Laws/Tables.lean ====
section
/-! SUPPORT. Tables: what changing one entry leaves, and when an entry is in range. -/
namespace Sys2Proof.Machine

section
variable {α : Type} {l : List α} {i j : Nat} {f g : α → α} {d : α}
@[simp] theorem modAt_length : (modAt l i f).length = l.length := List.length_modify ..
@[simp] theorem modAt_modAt : modAt (modAt l i f) i g = modAt l i fun x => g (f x) := by
  simp only [modAt]
  induction l generalizing i with
  | nil => simp
  | cons a l ih => cases i <;> simp_all
theorem modAt_congr (d : α) (h : f (l.getD i d) = g (l.getD i d)) : modAt l i f = modAt l i g := by
  simp only [modAt]
  induction l generalizing i with
  | nil => simp
  | cons a l ih => cases i <;> simp_all
/-- A change that changes nothing of the entry. -/
theorem modAt_id (d : α) (h : f (l.getD i d) = l.getD i d) : modAt l i f = l := by
  simp only [modAt]
  induction l generalizing i with
  | nil => simp
  | cons a l ih => cases i <;> simp_all
theorem getD_modAt (h : i < l.length) : (modAt l i f).getD i d = f (l.getD i d) := by
  simp [modAt, List.getD, h]
theorem getD_modAt_ne (h : i ≠ j) : (modAt l i f).getD j d = l.getD j d := by
  simp [modAt, List.getD, h]
@[simp] theorem getElem_modAt {h : j < (modAt l i f).length} :
    (modAt l i f)[j] = if i = j then f (l[j]'(by simpa using h)) else l[j]'(by simpa using h) := by
  simp [modAt, List.getElem_modify]
@[simp] theorem getElem?_modAt : (modAt l i f)[j]? = if i = j then l[j]?.map f else l[j]? := by
  simp only [modAt, List.getElem?_modify]
  split <;> simp
/-- An entry with a property the default has not is in range. -/
theorem lt_of_getD (p : α → Prop) (h : p (l.getD i d)) (hd : ¬p d) : i < l.length := by
  refine Nat.lt_of_not_le fun hn => ?_
  rw [List.getD, List.getElem?_eq_none hn] at h
  exact hd h
end

/-- The effect of a command whose condition holds, and its start and end. -/
theorem State.runIf_goes {s : State} {t : Nat} {c : State → Bool} {f : State → State} (h : c (s.begin t) = true) :
    s.runIf t c f = State.noteSets (State.setsOf f (s.begin t)) (State.finish s.pend s.jnl.head (f (s.begin t))) := by simp [State.runIf, State.run, h]

/-! ## Entries of the tables of State -/
namespace State
variable {s : State} {i j : Nat}

@[simp] theorem onAdc1_now {f : Adc1 → Adc1} : (s.onAdc1 i f).now = s.now := (rfl)
@[simp] theorem onAdc1_ofs {f : Adc1 → Adc1} : (s.onAdc1 i f).ofs = s.ofs := (rfl)
@[simp] theorem onAdc1_out {f : Adc1 → Adc1} : (s.onAdc1 i f).out = s.out := (rfl)
@[simp] theorem onAdc1_sets {f : Adc1 → Adc1} : (s.onAdc1 i f).sets = s.sets := (rfl)
@[simp] theorem onAdc1_pts {f : Adc1 → Adc1} : (s.onAdc1 i f).pts = s.pts := (rfl)
@[simp] theorem onAdc1_free {f : Adc1 → Adc1} : (s.onAdc1 i f).free = s.free := (rfl)
@[simp] theorem onAdc1_pending {f : Adc1 → Adc1} : (s.onAdc1 i f).pending = s.pending := (rfl)
@[simp] theorem onAdc1_sys {f : Adc1 → Adc1} : (s.onAdc1 i f).sys = s.sys := (rfl)
@[simp] theorem onAdc1_pwr {f : Adc1 → Adc1} : (s.onAdc1 i f).pwr = s.pwr := (rfl)
@[simp] theorem onAdc1_clk {f : Adc1 → Adc1} : (s.onAdc1 i f).clk = s.clk := (rfl)
@[simp] theorem onAdc1_img {f : Adc1 → Adc1} : (s.onAdc1 i f).img = s.img := (rfl)
@[simp] theorem onAdc1_host {f : Adc1 → Adc1} : (s.onAdc1 i f).host = s.host := (rfl)
@[simp] theorem onAdc1_jnl {f : Adc1 → Adc1} : (s.onAdc1 i f).jnl = s.jnl := (rfl)
@[simp] theorem onAdc1_lane {f : Adc1 → Adc1} : (s.onAdc1 i f).lane = s.lane := (rfl)
@[simp] theorem onAdc1_seam {f : Adc1 → Adc1} : (s.onAdc1 i f).seam = s.seam := (rfl)
@[simp] theorem onAdc1_edg {f : Adc1 → Adc1} : (s.onAdc1 i f).edg = s.edg := (rfl)
@[simp] theorem onAdc1_comp {f : Adc1 → Adc1} : (s.onAdc1 i f).comp = s.comp := (rfl)
@[simp] theorem onAdc1_bnc {f : Adc1 → Adc1} : (s.onAdc1 i f).bnc = s.bnc := (rfl)
@[simp] theorem onAdc1_bal {f : Adc1 → Adc1} : (s.onAdc1 i f).bal = s.bal := (rfl)
@[simp] theorem onAdc1_evs {f : Adc1 → Adc1} : (s.onAdc1 i f).evs = s.evs := (rfl)
@[simp] theorem onAdc1_mode {f : Adc1 → Adc1} : (s.onAdc1 i f).mode = s.mode := (rfl)
@[simp] theorem onAdc1_modeQ {f : Adc1 → Adc1} : (s.onAdc1 i f).modeQ = s.modeQ := (rfl)
@[simp] theorem onAdc1_adc {f : Adc1 → Adc1} : (s.onAdc1 i f).adc = { s.adc with adcs := modAt s.adc.adcs i f } := (rfl)
@[simp] theorem onAdc1_cmp {f : Adc1 → Adc1} : (s.onAdc1 i f).cmp = s.cmp := (rfl)
@[simp] theorem onAdc1_safe {f : Adc1 → Adc1} : (s.onAdc1 i f).safe = s.safe := (rfl)
@[simp] theorem onAdc1_mesh {f : Adc1 → Adc1} : (s.onAdc1 i f).mesh = s.mesh := (rfl)
@[simp] theorem onAdc1_pair {f : Adc1 → Adc1} : (s.onAdc1 i f).pair = s.pair := (rfl)
theorem adc1_onAdc1 {f : Adc1 → Adc1} (h : i < s.adc.adcs.length) : (s.onAdc1 i f).adc1 i = f (s.adc1 i) := getD_modAt h
theorem adc1_onAdc1_ne {f : Adc1 → Adc1} (h : i ≠ j) : (s.onAdc1 i f).adc1 j = s.adc1 j := getD_modAt_ne h
@[simp] theorem onSieve_now {f : Sieve → Sieve} : (s.onSieve i f).now = s.now := (rfl)
@[simp] theorem onSieve_ofs {f : Sieve → Sieve} : (s.onSieve i f).ofs = s.ofs := (rfl)
@[simp] theorem onSieve_out {f : Sieve → Sieve} : (s.onSieve i f).out = s.out := (rfl)
@[simp] theorem onSieve_sets {f : Sieve → Sieve} : (s.onSieve i f).sets = s.sets := (rfl)
@[simp] theorem onSieve_pts {f : Sieve → Sieve} : (s.onSieve i f).pts = s.pts := (rfl)
@[simp] theorem onSieve_free {f : Sieve → Sieve} : (s.onSieve i f).free = s.free := (rfl)
@[simp] theorem onSieve_pending {f : Sieve → Sieve} : (s.onSieve i f).pending = s.pending := (rfl)
@[simp] theorem onSieve_sys {f : Sieve → Sieve} : (s.onSieve i f).sys = s.sys := (rfl)
@[simp] theorem onSieve_pwr {f : Sieve → Sieve} : (s.onSieve i f).pwr = s.pwr := (rfl)
@[simp] theorem onSieve_clk {f : Sieve → Sieve} : (s.onSieve i f).clk = s.clk := (rfl)
@[simp] theorem onSieve_img {f : Sieve → Sieve} : (s.onSieve i f).img = s.img := (rfl)
@[simp] theorem onSieve_host {f : Sieve → Sieve} : (s.onSieve i f).host = s.host := (rfl)
@[simp] theorem onSieve_jnl {f : Sieve → Sieve} : (s.onSieve i f).jnl = s.jnl := (rfl)
@[simp] theorem onSieve_lane {f : Sieve → Sieve} : (s.onSieve i f).lane = s.lane := (rfl)
@[simp] theorem onSieve_seam {f : Sieve → Sieve} : (s.onSieve i f).seam = s.seam := (rfl)
@[simp] theorem onSieve_edg {f : Sieve → Sieve} : (s.onSieve i f).edg = s.edg := (rfl)
@[simp] theorem onSieve_comp {f : Sieve → Sieve} : (s.onSieve i f).comp = s.comp := (rfl)
@[simp] theorem onSieve_bnc {f : Sieve → Sieve} : (s.onSieve i f).bnc = s.bnc := (rfl)
@[simp] theorem onSieve_bal {f : Sieve → Sieve} : (s.onSieve i f).bal = s.bal := (rfl)
@[simp] theorem onSieve_evs {f : Sieve → Sieve} : (s.onSieve i f).evs = s.evs := (rfl)
@[simp] theorem onSieve_mode {f : Sieve → Sieve} : (s.onSieve i f).mode = s.mode := (rfl)
@[simp] theorem onSieve_modeQ {f : Sieve → Sieve} : (s.onSieve i f).modeQ = s.modeQ := (rfl)
@[simp] theorem onSieve_adc {f : Sieve → Sieve} : (s.onSieve i f).adc = { s.adc with svs := modAt s.adc.svs i f } := (rfl)
@[simp] theorem onSieve_cmp {f : Sieve → Sieve} : (s.onSieve i f).cmp = s.cmp := (rfl)
@[simp] theorem onSieve_safe {f : Sieve → Sieve} : (s.onSieve i f).safe = s.safe := (rfl)
@[simp] theorem onSieve_mesh {f : Sieve → Sieve} : (s.onSieve i f).mesh = s.mesh := (rfl)
@[simp] theorem onSieve_pair {f : Sieve → Sieve} : (s.onSieve i f).pair = s.pair := (rfl)
theorem sieve_onSieve {f : Sieve → Sieve} (h : i < s.adc.svs.length) : (s.onSieve i f).sieve i = f (s.sieve i) := getD_modAt h
theorem sieve_onSieve_ne {f : Sieve → Sieve} (h : i ≠ j) : (s.onSieve i f).sieve j = s.sieve j := getD_modAt_ne h
@[simp] theorem onBench_now {f : Bench → Bench} : (s.onBench i f).now = s.now := (rfl)
@[simp] theorem onBench_ofs {f : Bench → Bench} : (s.onBench i f).ofs = s.ofs := (rfl)
@[simp] theorem onBench_out {f : Bench → Bench} : (s.onBench i f).out = s.out := (rfl)
@[simp] theorem onBench_sets {f : Bench → Bench} : (s.onBench i f).sets = s.sets := (rfl)
@[simp] theorem onBench_pts {f : Bench → Bench} : (s.onBench i f).pts = s.pts := (rfl)
@[simp] theorem onBench_free {f : Bench → Bench} : (s.onBench i f).free = s.free := (rfl)
@[simp] theorem onBench_pending {f : Bench → Bench} : (s.onBench i f).pending = s.pending := (rfl)
@[simp] theorem onBench_sys {f : Bench → Bench} : (s.onBench i f).sys = s.sys := (rfl)
@[simp] theorem onBench_pwr {f : Bench → Bench} : (s.onBench i f).pwr = s.pwr := (rfl)
@[simp] theorem onBench_clk {f : Bench → Bench} : (s.onBench i f).clk = s.clk := (rfl)
@[simp] theorem onBench_img {f : Bench → Bench} : (s.onBench i f).img = s.img := (rfl)
@[simp] theorem onBench_host {f : Bench → Bench} : (s.onBench i f).host = s.host := (rfl)
@[simp] theorem onBench_jnl {f : Bench → Bench} : (s.onBench i f).jnl = s.jnl := (rfl)
@[simp] theorem onBench_lane {f : Bench → Bench} : (s.onBench i f).lane = s.lane := (rfl)
@[simp] theorem onBench_seam {f : Bench → Bench} : (s.onBench i f).seam = s.seam := (rfl)
@[simp] theorem onBench_edg {f : Bench → Bench} : (s.onBench i f).edg = s.edg := (rfl)
@[simp] theorem onBench_comp {f : Bench → Bench} : (s.onBench i f).comp = s.comp := (rfl)
@[simp] theorem onBench_bnc {f : Bench → Bench} : (s.onBench i f).bnc = { s.bnc with benches := modAt s.bnc.benches i f } := (rfl)
@[simp] theorem onBench_bal {f : Bench → Bench} : (s.onBench i f).bal = s.bal := (rfl)
@[simp] theorem onBench_evs {f : Bench → Bench} : (s.onBench i f).evs = s.evs := (rfl)
@[simp] theorem onBench_mode {f : Bench → Bench} : (s.onBench i f).mode = s.mode := (rfl)
@[simp] theorem onBench_modeQ {f : Bench → Bench} : (s.onBench i f).modeQ = s.modeQ := (rfl)
@[simp] theorem onBench_adc {f : Bench → Bench} : (s.onBench i f).adc = s.adc := (rfl)
@[simp] theorem onBench_cmp {f : Bench → Bench} : (s.onBench i f).cmp = s.cmp := (rfl)
@[simp] theorem onBench_safe {f : Bench → Bench} : (s.onBench i f).safe = s.safe := (rfl)
@[simp] theorem onBench_mesh {f : Bench → Bench} : (s.onBench i f).mesh = s.mesh := (rfl)
@[simp] theorem onBench_pair {f : Bench → Bench} : (s.onBench i f).pair = s.pair := (rfl)
theorem bench_onBench {f : Bench → Bench} (h : i < s.bnc.benches.length) : (s.onBench i f).bench i = f (s.bench i) := getD_modAt h
theorem bench_onBench_ne {f : Bench → Bench} (h : i ≠ j) : (s.onBench i f).bench j = s.bench j := getD_modAt_ne h
@[simp] theorem onLoop_now {f : Loop → Loop} : (s.onLoop i f).now = s.now := (rfl)
@[simp] theorem onLoop_ofs {f : Loop → Loop} : (s.onLoop i f).ofs = s.ofs := (rfl)
@[simp] theorem onLoop_out {f : Loop → Loop} : (s.onLoop i f).out = s.out := (rfl)
@[simp] theorem onLoop_sets {f : Loop → Loop} : (s.onLoop i f).sets = s.sets := (rfl)
@[simp] theorem onLoop_pts {f : Loop → Loop} : (s.onLoop i f).pts = s.pts := (rfl)
@[simp] theorem onLoop_free {f : Loop → Loop} : (s.onLoop i f).free = s.free := (rfl)
@[simp] theorem onLoop_pending {f : Loop → Loop} : (s.onLoop i f).pending = s.pending := (rfl)
@[simp] theorem onLoop_sys {f : Loop → Loop} : (s.onLoop i f).sys = s.sys := (rfl)
@[simp] theorem onLoop_pwr {f : Loop → Loop} : (s.onLoop i f).pwr = s.pwr := (rfl)
@[simp] theorem onLoop_clk {f : Loop → Loop} : (s.onLoop i f).clk = s.clk := (rfl)
@[simp] theorem onLoop_img {f : Loop → Loop} : (s.onLoop i f).img = s.img := (rfl)
@[simp] theorem onLoop_host {f : Loop → Loop} : (s.onLoop i f).host = s.host := (rfl)
@[simp] theorem onLoop_jnl {f : Loop → Loop} : (s.onLoop i f).jnl = s.jnl := (rfl)
@[simp] theorem onLoop_lane {f : Loop → Loop} : (s.onLoop i f).lane = s.lane := (rfl)
@[simp] theorem onLoop_seam {f : Loop → Loop} : (s.onLoop i f).seam = s.seam := (rfl)
@[simp] theorem onLoop_edg {f : Loop → Loop} : (s.onLoop i f).edg = s.edg := (rfl)
@[simp] theorem onLoop_comp {f : Loop → Loop} : (s.onLoop i f).comp = s.comp := (rfl)
@[simp] theorem onLoop_bnc {f : Loop → Loop} : (s.onLoop i f).bnc = { s.bnc with loops := modAt s.bnc.loops i f } := (rfl)
@[simp] theorem onLoop_bal {f : Loop → Loop} : (s.onLoop i f).bal = s.bal := (rfl)
@[simp] theorem onLoop_evs {f : Loop → Loop} : (s.onLoop i f).evs = s.evs := (rfl)
@[simp] theorem onLoop_mode {f : Loop → Loop} : (s.onLoop i f).mode = s.mode := (rfl)
@[simp] theorem onLoop_modeQ {f : Loop → Loop} : (s.onLoop i f).modeQ = s.modeQ := (rfl)
@[simp] theorem onLoop_adc {f : Loop → Loop} : (s.onLoop i f).adc = s.adc := (rfl)
@[simp] theorem onLoop_cmp {f : Loop → Loop} : (s.onLoop i f).cmp = s.cmp := (rfl)
@[simp] theorem onLoop_safe {f : Loop → Loop} : (s.onLoop i f).safe = s.safe := (rfl)
@[simp] theorem onLoop_mesh {f : Loop → Loop} : (s.onLoop i f).mesh = s.mesh := (rfl)
@[simp] theorem onLoop_pair {f : Loop → Loop} : (s.onLoop i f).pair = s.pair := (rfl)
theorem loopS_onLoop {f : Loop → Loop} (h : i < s.bnc.loops.length) : (s.onLoop i f).loopS i = f (s.loopS i) := getD_modAt h
theorem loopS_onLoop_ne {f : Loop → Loop} (h : i ≠ j) : (s.onLoop i f).loopS j = s.loopS j := getD_modAt_ne h
@[simp] theorem onCmp1_now {f : Cmp1 → Cmp1} : (s.onCmp1 i f).now = s.now := (rfl)
@[simp] theorem onCmp1_ofs {f : Cmp1 → Cmp1} : (s.onCmp1 i f).ofs = s.ofs := (rfl)
@[simp] theorem onCmp1_out {f : Cmp1 → Cmp1} : (s.onCmp1 i f).out = s.out := (rfl)
@[simp] theorem onCmp1_sets {f : Cmp1 → Cmp1} : (s.onCmp1 i f).sets = s.sets := (rfl)
@[simp] theorem onCmp1_pts {f : Cmp1 → Cmp1} : (s.onCmp1 i f).pts = s.pts := (rfl)
@[simp] theorem onCmp1_free {f : Cmp1 → Cmp1} : (s.onCmp1 i f).free = s.free := (rfl)
@[simp] theorem onCmp1_pending {f : Cmp1 → Cmp1} : (s.onCmp1 i f).pending = s.pending := (rfl)
@[simp] theorem onCmp1_sys {f : Cmp1 → Cmp1} : (s.onCmp1 i f).sys = s.sys := (rfl)
@[simp] theorem onCmp1_pwr {f : Cmp1 → Cmp1} : (s.onCmp1 i f).pwr = s.pwr := (rfl)
@[simp] theorem onCmp1_clk {f : Cmp1 → Cmp1} : (s.onCmp1 i f).clk = s.clk := (rfl)
@[simp] theorem onCmp1_img {f : Cmp1 → Cmp1} : (s.onCmp1 i f).img = s.img := (rfl)
@[simp] theorem onCmp1_host {f : Cmp1 → Cmp1} : (s.onCmp1 i f).host = s.host := (rfl)
@[simp] theorem onCmp1_jnl {f : Cmp1 → Cmp1} : (s.onCmp1 i f).jnl = s.jnl := (rfl)
@[simp] theorem onCmp1_lane {f : Cmp1 → Cmp1} : (s.onCmp1 i f).lane = s.lane := (rfl)
@[simp] theorem onCmp1_seam {f : Cmp1 → Cmp1} : (s.onCmp1 i f).seam = s.seam := (rfl)
@[simp] theorem onCmp1_edg {f : Cmp1 → Cmp1} : (s.onCmp1 i f).edg = s.edg := (rfl)
@[simp] theorem onCmp1_comp {f : Cmp1 → Cmp1} : (s.onCmp1 i f).comp = s.comp := (rfl)
@[simp] theorem onCmp1_bnc {f : Cmp1 → Cmp1} : (s.onCmp1 i f).bnc = s.bnc := (rfl)
@[simp] theorem onCmp1_bal {f : Cmp1 → Cmp1} : (s.onCmp1 i f).bal = s.bal := (rfl)
@[simp] theorem onCmp1_evs {f : Cmp1 → Cmp1} : (s.onCmp1 i f).evs = s.evs := (rfl)
@[simp] theorem onCmp1_mode {f : Cmp1 → Cmp1} : (s.onCmp1 i f).mode = s.mode := (rfl)
@[simp] theorem onCmp1_modeQ {f : Cmp1 → Cmp1} : (s.onCmp1 i f).modeQ = s.modeQ := (rfl)
@[simp] theorem onCmp1_adc {f : Cmp1 → Cmp1} : (s.onCmp1 i f).adc = s.adc := (rfl)
@[simp] theorem onCmp1_cmp {f : Cmp1 → Cmp1} : (s.onCmp1 i f).cmp = { s.cmp with cmps := modAt s.cmp.cmps i f } := (rfl)
@[simp] theorem onCmp1_safe {f : Cmp1 → Cmp1} : (s.onCmp1 i f).safe = s.safe := (rfl)
@[simp] theorem onCmp1_mesh {f : Cmp1 → Cmp1} : (s.onCmp1 i f).mesh = s.mesh := (rfl)
@[simp] theorem onCmp1_pair {f : Cmp1 → Cmp1} : (s.onCmp1 i f).pair = s.pair := (rfl)
theorem cmp1_onCmp1 {f : Cmp1 → Cmp1} (h : i < s.cmp.cmps.length) : (s.onCmp1 i f).cmp1 i = f (s.cmp1 i) := getD_modAt h
theorem cmp1_onCmp1_ne {f : Cmp1 → Cmp1} (h : i ≠ j) : (s.onCmp1 i f).cmp1 j = s.cmp1 j := getD_modAt_ne h
@[simp] theorem onGrp_now {f : Grp → Grp} : (s.onGrp i f).now = s.now := (rfl)
@[simp] theorem onGrp_ofs {f : Grp → Grp} : (s.onGrp i f).ofs = s.ofs := (rfl)
@[simp] theorem onGrp_out {f : Grp → Grp} : (s.onGrp i f).out = s.out := (rfl)
@[simp] theorem onGrp_sets {f : Grp → Grp} : (s.onGrp i f).sets = s.sets := (rfl)
@[simp] theorem onGrp_pts {f : Grp → Grp} : (s.onGrp i f).pts = s.pts := (rfl)
@[simp] theorem onGrp_free {f : Grp → Grp} : (s.onGrp i f).free = s.free := (rfl)
@[simp] theorem onGrp_pending {f : Grp → Grp} : (s.onGrp i f).pending = s.pending := (rfl)
@[simp] theorem onGrp_sys {f : Grp → Grp} : (s.onGrp i f).sys = s.sys := (rfl)
@[simp] theorem onGrp_pwr {f : Grp → Grp} : (s.onGrp i f).pwr = s.pwr := (rfl)
@[simp] theorem onGrp_clk {f : Grp → Grp} : (s.onGrp i f).clk = s.clk := (rfl)
@[simp] theorem onGrp_img {f : Grp → Grp} : (s.onGrp i f).img = s.img := (rfl)
@[simp] theorem onGrp_host {f : Grp → Grp} : (s.onGrp i f).host = s.host := (rfl)
@[simp] theorem onGrp_jnl {f : Grp → Grp} : (s.onGrp i f).jnl = s.jnl := (rfl)
@[simp] theorem onGrp_lane {f : Grp → Grp} : (s.onGrp i f).lane = s.lane := (rfl)
@[simp] theorem onGrp_seam {f : Grp → Grp} : (s.onGrp i f).seam = s.seam := (rfl)
@[simp] theorem onGrp_edg {f : Grp → Grp} : (s.onGrp i f).edg = { s.edg with grps := modAt s.edg.grps i f } := (rfl)
@[simp] theorem onGrp_comp {f : Grp → Grp} : (s.onGrp i f).comp = s.comp := (rfl)
@[simp] theorem onGrp_bnc {f : Grp → Grp} : (s.onGrp i f).bnc = s.bnc := (rfl)
@[simp] theorem onGrp_bal {f : Grp → Grp} : (s.onGrp i f).bal = s.bal := (rfl)
@[simp] theorem onGrp_evs {f : Grp → Grp} : (s.onGrp i f).evs = s.evs := (rfl)
@[simp] theorem onGrp_mode {f : Grp → Grp} : (s.onGrp i f).mode = s.mode := (rfl)
@[simp] theorem onGrp_modeQ {f : Grp → Grp} : (s.onGrp i f).modeQ = s.modeQ := (rfl)
@[simp] theorem onGrp_adc {f : Grp → Grp} : (s.onGrp i f).adc = s.adc := (rfl)
@[simp] theorem onGrp_cmp {f : Grp → Grp} : (s.onGrp i f).cmp = s.cmp := (rfl)
@[simp] theorem onGrp_safe {f : Grp → Grp} : (s.onGrp i f).safe = s.safe := (rfl)
@[simp] theorem onGrp_mesh {f : Grp → Grp} : (s.onGrp i f).mesh = s.mesh := (rfl)
@[simp] theorem onGrp_pair {f : Grp → Grp} : (s.onGrp i f).pair = s.pair := (rfl)
theorem grp_onGrp {f : Grp → Grp} (h : i < s.edg.grps.length) : (s.onGrp i f).grp i = f (s.grp i) := getD_modAt h
theorem grp_onGrp_ne {f : Grp → Grp} (h : i ≠ j) : (s.onGrp i f).grp j = s.grp j := getD_modAt_ne h
@[simp] theorem onCtx_now {f : Ctx → Ctx} : (s.onCtx i f).now = s.now := (rfl)
@[simp] theorem onCtx_ofs {f : Ctx → Ctx} : (s.onCtx i f).ofs = s.ofs := (rfl)
@[simp] theorem onCtx_out {f : Ctx → Ctx} : (s.onCtx i f).out = s.out := (rfl)
@[simp] theorem onCtx_sets {f : Ctx → Ctx} : (s.onCtx i f).sets = s.sets := (rfl)
@[simp] theorem onCtx_pts {f : Ctx → Ctx} : (s.onCtx i f).pts = s.pts := (rfl)
@[simp] theorem onCtx_free {f : Ctx → Ctx} : (s.onCtx i f).free = s.free := (rfl)
@[simp] theorem onCtx_pending {f : Ctx → Ctx} : (s.onCtx i f).pending = s.pending := (rfl)
@[simp] theorem onCtx_sys {f : Ctx → Ctx} : (s.onCtx i f).sys = s.sys := (rfl)
@[simp] theorem onCtx_pwr {f : Ctx → Ctx} : (s.onCtx i f).pwr = s.pwr := (rfl)
@[simp] theorem onCtx_clk {f : Ctx → Ctx} : (s.onCtx i f).clk = s.clk := (rfl)
@[simp] theorem onCtx_img {f : Ctx → Ctx} : (s.onCtx i f).img = s.img := (rfl)
@[simp] theorem onCtx_host {f : Ctx → Ctx} : (s.onCtx i f).host = { s.host with ctxs := modAt s.host.ctxs i f } := (rfl)
@[simp] theorem onCtx_jnl {f : Ctx → Ctx} : (s.onCtx i f).jnl = s.jnl := (rfl)
@[simp] theorem onCtx_lane {f : Ctx → Ctx} : (s.onCtx i f).lane = s.lane := (rfl)
@[simp] theorem onCtx_seam {f : Ctx → Ctx} : (s.onCtx i f).seam = s.seam := (rfl)
@[simp] theorem onCtx_edg {f : Ctx → Ctx} : (s.onCtx i f).edg = s.edg := (rfl)
@[simp] theorem onCtx_comp {f : Ctx → Ctx} : (s.onCtx i f).comp = s.comp := (rfl)
@[simp] theorem onCtx_bnc {f : Ctx → Ctx} : (s.onCtx i f).bnc = s.bnc := (rfl)
@[simp] theorem onCtx_bal {f : Ctx → Ctx} : (s.onCtx i f).bal = s.bal := (rfl)
@[simp] theorem onCtx_evs {f : Ctx → Ctx} : (s.onCtx i f).evs = s.evs := (rfl)
@[simp] theorem onCtx_mode {f : Ctx → Ctx} : (s.onCtx i f).mode = s.mode := (rfl)
@[simp] theorem onCtx_modeQ {f : Ctx → Ctx} : (s.onCtx i f).modeQ = s.modeQ := (rfl)
@[simp] theorem onCtx_adc {f : Ctx → Ctx} : (s.onCtx i f).adc = s.adc := (rfl)
@[simp] theorem onCtx_cmp {f : Ctx → Ctx} : (s.onCtx i f).cmp = s.cmp := (rfl)
@[simp] theorem onCtx_safe {f : Ctx → Ctx} : (s.onCtx i f).safe = s.safe := (rfl)
@[simp] theorem onCtx_mesh {f : Ctx → Ctx} : (s.onCtx i f).mesh = s.mesh := (rfl)
@[simp] theorem onCtx_pair {f : Ctx → Ctx} : (s.onCtx i f).pair = s.pair := (rfl)
theorem ctx_onCtx {f : Ctx → Ctx} (h : i < s.host.ctxs.length) : (s.onCtx i f).ctx i = f (s.ctx i) := getD_modAt h
theorem ctx_onCtx_ne {f : Ctx → Ctx} (h : i ≠ j) : (s.onCtx i f).ctx j = s.ctx j := getD_modAt_ne h
@[simp] theorem onMbx_now {f : Mbx → Mbx} : (s.onMbx i f).now = s.now := (rfl)
@[simp] theorem onMbx_ofs {f : Mbx → Mbx} : (s.onMbx i f).ofs = s.ofs := (rfl)
@[simp] theorem onMbx_out {f : Mbx → Mbx} : (s.onMbx i f).out = s.out := (rfl)
@[simp] theorem onMbx_sets {f : Mbx → Mbx} : (s.onMbx i f).sets = s.sets := (rfl)
@[simp] theorem onMbx_pts {f : Mbx → Mbx} : (s.onMbx i f).pts = s.pts := (rfl)
@[simp] theorem onMbx_free {f : Mbx → Mbx} : (s.onMbx i f).free = s.free := (rfl)
@[simp] theorem onMbx_pending {f : Mbx → Mbx} : (s.onMbx i f).pending = s.pending := (rfl)
@[simp] theorem onMbx_sys {f : Mbx → Mbx} : (s.onMbx i f).sys = s.sys := (rfl)
@[simp] theorem onMbx_pwr {f : Mbx → Mbx} : (s.onMbx i f).pwr = s.pwr := (rfl)
@[simp] theorem onMbx_clk {f : Mbx → Mbx} : (s.onMbx i f).clk = s.clk := (rfl)
@[simp] theorem onMbx_img {f : Mbx → Mbx} : (s.onMbx i f).img = s.img := (rfl)
@[simp] theorem onMbx_host {f : Mbx → Mbx} : (s.onMbx i f).host = { s.host with mbx := modAt s.host.mbx i f } := (rfl)
@[simp] theorem onMbx_jnl {f : Mbx → Mbx} : (s.onMbx i f).jnl = s.jnl := (rfl)
@[simp] theorem onMbx_lane {f : Mbx → Mbx} : (s.onMbx i f).lane = s.lane := (rfl)
@[simp] theorem onMbx_seam {f : Mbx → Mbx} : (s.onMbx i f).seam = s.seam := (rfl)
@[simp] theorem onMbx_edg {f : Mbx → Mbx} : (s.onMbx i f).edg = s.edg := (rfl)
@[simp] theorem onMbx_comp {f : Mbx → Mbx} : (s.onMbx i f).comp = s.comp := (rfl)
@[simp] theorem onMbx_bnc {f : Mbx → Mbx} : (s.onMbx i f).bnc = s.bnc := (rfl)
@[simp] theorem onMbx_bal {f : Mbx → Mbx} : (s.onMbx i f).bal = s.bal := (rfl)
@[simp] theorem onMbx_evs {f : Mbx → Mbx} : (s.onMbx i f).evs = s.evs := (rfl)
@[simp] theorem onMbx_mode {f : Mbx → Mbx} : (s.onMbx i f).mode = s.mode := (rfl)
@[simp] theorem onMbx_modeQ {f : Mbx → Mbx} : (s.onMbx i f).modeQ = s.modeQ := (rfl)
@[simp] theorem onMbx_adc {f : Mbx → Mbx} : (s.onMbx i f).adc = s.adc := (rfl)
@[simp] theorem onMbx_cmp {f : Mbx → Mbx} : (s.onMbx i f).cmp = s.cmp := (rfl)
@[simp] theorem onMbx_safe {f : Mbx → Mbx} : (s.onMbx i f).safe = s.safe := (rfl)
@[simp] theorem onMbx_mesh {f : Mbx → Mbx} : (s.onMbx i f).mesh = s.mesh := (rfl)
@[simp] theorem onMbx_pair {f : Mbx → Mbx} : (s.onMbx i f).pair = s.pair := (rfl)
theorem mbx_onMbx {f : Mbx → Mbx} (h : i < s.host.mbx.length) : (s.onMbx i f).mbx i = f (s.mbx i) := getD_modAt h
theorem mbx_onMbx_ne {f : Mbx → Mbx} (h : i ≠ j) : (s.onMbx i f).mbx j = s.mbx j := getD_modAt_ne h
@[simp] theorem onPairS_now {f : PairS → PairS} : (s.onPairS i f).now = s.now := (rfl)
@[simp] theorem onPairS_ofs {f : PairS → PairS} : (s.onPairS i f).ofs = s.ofs := (rfl)
@[simp] theorem onPairS_out {f : PairS → PairS} : (s.onPairS i f).out = s.out := (rfl)
@[simp] theorem onPairS_sets {f : PairS → PairS} : (s.onPairS i f).sets = s.sets := (rfl)
@[simp] theorem onPairS_pts {f : PairS → PairS} : (s.onPairS i f).pts = s.pts := (rfl)
@[simp] theorem onPairS_free {f : PairS → PairS} : (s.onPairS i f).free = s.free := (rfl)
@[simp] theorem onPairS_pending {f : PairS → PairS} : (s.onPairS i f).pending = s.pending := (rfl)
@[simp] theorem onPairS_sys {f : PairS → PairS} : (s.onPairS i f).sys = s.sys := (rfl)
@[simp] theorem onPairS_pwr {f : PairS → PairS} : (s.onPairS i f).pwr = s.pwr := (rfl)
@[simp] theorem onPairS_clk {f : PairS → PairS} : (s.onPairS i f).clk = s.clk := (rfl)
@[simp] theorem onPairS_img {f : PairS → PairS} : (s.onPairS i f).img = s.img := (rfl)
@[simp] theorem onPairS_host {f : PairS → PairS} : (s.onPairS i f).host = s.host := (rfl)
@[simp] theorem onPairS_jnl {f : PairS → PairS} : (s.onPairS i f).jnl = s.jnl := (rfl)
@[simp] theorem onPairS_lane {f : PairS → PairS} : (s.onPairS i f).lane = s.lane := (rfl)
@[simp] theorem onPairS_seam {f : PairS → PairS} : (s.onPairS i f).seam = s.seam := (rfl)
@[simp] theorem onPairS_edg {f : PairS → PairS} : (s.onPairS i f).edg = s.edg := (rfl)
@[simp] theorem onPairS_comp {f : PairS → PairS} : (s.onPairS i f).comp = s.comp := (rfl)
@[simp] theorem onPairS_bnc {f : PairS → PairS} : (s.onPairS i f).bnc = s.bnc := (rfl)
@[simp] theorem onPairS_bal {f : PairS → PairS} : (s.onPairS i f).bal = s.bal := (rfl)
@[simp] theorem onPairS_evs {f : PairS → PairS} : (s.onPairS i f).evs = s.evs := (rfl)
@[simp] theorem onPairS_mode {f : PairS → PairS} : (s.onPairS i f).mode = s.mode := (rfl)
@[simp] theorem onPairS_modeQ {f : PairS → PairS} : (s.onPairS i f).modeQ = s.modeQ := (rfl)
@[simp] theorem onPairS_adc {f : PairS → PairS} : (s.onPairS i f).adc = s.adc := (rfl)
@[simp] theorem onPairS_cmp {f : PairS → PairS} : (s.onPairS i f).cmp = s.cmp := (rfl)
@[simp] theorem onPairS_safe {f : PairS → PairS} : (s.onPairS i f).safe = { s.safe with pairs := modAt s.safe.pairs i f } := (rfl)
@[simp] theorem onPairS_mesh {f : PairS → PairS} : (s.onPairS i f).mesh = s.mesh := (rfl)
@[simp] theorem onPairS_pair {f : PairS → PairS} : (s.onPairS i f).pair = s.pair := (rfl)
@[simp] theorem onLane1_now {f : LaneS → LaneS} : (s.onLane1 i f).now = s.now := (rfl)
@[simp] theorem onLane1_ofs {f : LaneS → LaneS} : (s.onLane1 i f).ofs = s.ofs := (rfl)
@[simp] theorem onLane1_out {f : LaneS → LaneS} : (s.onLane1 i f).out = s.out := (rfl)
@[simp] theorem onLane1_sets {f : LaneS → LaneS} : (s.onLane1 i f).sets = s.sets := (rfl)
@[simp] theorem onLane1_pts {f : LaneS → LaneS} : (s.onLane1 i f).pts = s.pts := (rfl)
@[simp] theorem onLane1_free {f : LaneS → LaneS} : (s.onLane1 i f).free = s.free := (rfl)
@[simp] theorem onLane1_pending {f : LaneS → LaneS} : (s.onLane1 i f).pending = s.pending := (rfl)
@[simp] theorem onLane1_sys {f : LaneS → LaneS} : (s.onLane1 i f).sys = s.sys := (rfl)
@[simp] theorem onLane1_pwr {f : LaneS → LaneS} : (s.onLane1 i f).pwr = s.pwr := (rfl)
@[simp] theorem onLane1_clk {f : LaneS → LaneS} : (s.onLane1 i f).clk = s.clk := (rfl)
@[simp] theorem onLane1_img {f : LaneS → LaneS} : (s.onLane1 i f).img = s.img := (rfl)
@[simp] theorem onLane1_host {f : LaneS → LaneS} : (s.onLane1 i f).host = s.host := (rfl)
@[simp] theorem onLane1_jnl {f : LaneS → LaneS} : (s.onLane1 i f).jnl = s.jnl := (rfl)
@[simp] theorem onLane1_lane {f : LaneS → LaneS} : (s.onLane1 i f).lane = { s.lane with lanes := modAt s.lane.lanes i f } := (rfl)
@[simp] theorem onLane1_seam {f : LaneS → LaneS} : (s.onLane1 i f).seam = s.seam := (rfl)
@[simp] theorem onLane1_edg {f : LaneS → LaneS} : (s.onLane1 i f).edg = s.edg := (rfl)
@[simp] theorem onLane1_comp {f : LaneS → LaneS} : (s.onLane1 i f).comp = s.comp := (rfl)
@[simp] theorem onLane1_bnc {f : LaneS → LaneS} : (s.onLane1 i f).bnc = s.bnc := (rfl)
@[simp] theorem onLane1_bal {f : LaneS → LaneS} : (s.onLane1 i f).bal = s.bal := (rfl)
@[simp] theorem onLane1_evs {f : LaneS → LaneS} : (s.onLane1 i f).evs = s.evs := (rfl)
@[simp] theorem onLane1_mode {f : LaneS → LaneS} : (s.onLane1 i f).mode = s.mode := (rfl)
@[simp] theorem onLane1_modeQ {f : LaneS → LaneS} : (s.onLane1 i f).modeQ = s.modeQ := (rfl)
@[simp] theorem onLane1_adc {f : LaneS → LaneS} : (s.onLane1 i f).adc = s.adc := (rfl)
@[simp] theorem onLane1_cmp {f : LaneS → LaneS} : (s.onLane1 i f).cmp = s.cmp := (rfl)
@[simp] theorem onLane1_safe {f : LaneS → LaneS} : (s.onLane1 i f).safe = s.safe := (rfl)
@[simp] theorem onLane1_mesh {f : LaneS → LaneS} : (s.onLane1 i f).mesh = s.mesh := (rfl)
@[simp] theorem onLane1_pair {f : LaneS → LaneS} : (s.onLane1 i f).pair = s.pair := (rfl)
theorem ln_onLane1 {f : LaneS → LaneS} (h : i < s.lane.lanes.length) : (s.onLane1 i f).ln i = f (s.ln i) := getD_modAt h
theorem ln_onLane1_ne {f : LaneS → LaneS} (h : i ≠ j) : (s.onLane1 i f).ln j = s.ln j := getD_modAt_ne h
@[simp] theorem onSp_now {f : Sp → Sp} : (s.onSp i f).now = s.now := (rfl)
@[simp] theorem onSp_ofs {f : Sp → Sp} : (s.onSp i f).ofs = s.ofs := (rfl)
@[simp] theorem onSp_out {f : Sp → Sp} : (s.onSp i f).out = s.out := (rfl)
@[simp] theorem onSp_sets {f : Sp → Sp} : (s.onSp i f).sets = s.sets := (rfl)
@[simp] theorem onSp_pts {f : Sp → Sp} : (s.onSp i f).pts = s.pts := (rfl)
@[simp] theorem onSp_free {f : Sp → Sp} : (s.onSp i f).free = s.free := (rfl)
@[simp] theorem onSp_pending {f : Sp → Sp} : (s.onSp i f).pending = s.pending := (rfl)
@[simp] theorem onSp_sys {f : Sp → Sp} : (s.onSp i f).sys = s.sys := (rfl)
@[simp] theorem onSp_pwr {f : Sp → Sp} : (s.onSp i f).pwr = s.pwr := (rfl)
@[simp] theorem onSp_clk {f : Sp → Sp} : (s.onSp i f).clk = s.clk := (rfl)
@[simp] theorem onSp_img {f : Sp → Sp} : (s.onSp i f).img = s.img := (rfl)
@[simp] theorem onSp_host {f : Sp → Sp} : (s.onSp i f).host = s.host := (rfl)
@[simp] theorem onSp_jnl {f : Sp → Sp} : (s.onSp i f).jnl = s.jnl := (rfl)
@[simp] theorem onSp_lane {f : Sp → Sp} : (s.onSp i f).lane = s.lane := (rfl)
@[simp] theorem onSp_seam {f : Sp → Sp} : (s.onSp i f).seam = s.seam := (rfl)
@[simp] theorem onSp_edg {f : Sp → Sp} : (s.onSp i f).edg = s.edg := (rfl)
@[simp] theorem onSp_comp {f : Sp → Sp} : (s.onSp i f).comp = s.comp := (rfl)
@[simp] theorem onSp_bnc {f : Sp → Sp} : (s.onSp i f).bnc = s.bnc := (rfl)
@[simp] theorem onSp_bal {f : Sp → Sp} : (s.onSp i f).bal = s.bal := (rfl)
@[simp] theorem onSp_evs {f : Sp → Sp} : (s.onSp i f).evs = s.evs := (rfl)
@[simp] theorem onSp_mode {f : Sp → Sp} : (s.onSp i f).mode = { s.mode with sps := modAt s.mode.sps i f } := (rfl)
@[simp] theorem onSp_modeQ {f : Sp → Sp} : (s.onSp i f).modeQ = s.modeQ := (rfl)
@[simp] theorem onSp_adc {f : Sp → Sp} : (s.onSp i f).adc = s.adc := (rfl)
@[simp] theorem onSp_cmp {f : Sp → Sp} : (s.onSp i f).cmp = s.cmp := (rfl)
@[simp] theorem onSp_safe {f : Sp → Sp} : (s.onSp i f).safe = s.safe := (rfl)
@[simp] theorem onSp_mesh {f : Sp → Sp} : (s.onSp i f).mesh = s.mesh := (rfl)
@[simp] theorem onSp_pair {f : Sp → Sp} : (s.onSp i f).pair = s.pair := (rfl)
@[simp] theorem onConv_now {f : Conv → Conv} : (s.onConv i f).now = s.now := (rfl)
@[simp] theorem onConv_ofs {f : Conv → Conv} : (s.onConv i f).ofs = s.ofs := (rfl)
@[simp] theorem onConv_out {f : Conv → Conv} : (s.onConv i f).out = s.out := (rfl)
@[simp] theorem onConv_sets {f : Conv → Conv} : (s.onConv i f).sets = s.sets := (rfl)
@[simp] theorem onConv_pts {f : Conv → Conv} : (s.onConv i f).pts = s.pts := (rfl)
@[simp] theorem onConv_free {f : Conv → Conv} : (s.onConv i f).free = s.free := (rfl)
@[simp] theorem onConv_pending {f : Conv → Conv} : (s.onConv i f).pending = s.pending := (rfl)
@[simp] theorem onConv_sys {f : Conv → Conv} : (s.onConv i f).sys = s.sys := (rfl)
@[simp] theorem onConv_pwr {f : Conv → Conv} : (s.onConv i f).pwr = s.pwr := (rfl)
@[simp] theorem onConv_clk {f : Conv → Conv} : (s.onConv i f).clk = s.clk := (rfl)
@[simp] theorem onConv_img {f : Conv → Conv} : (s.onConv i f).img = s.img := (rfl)
@[simp] theorem onConv_host {f : Conv → Conv} : (s.onConv i f).host = s.host := (rfl)
@[simp] theorem onConv_jnl {f : Conv → Conv} : (s.onConv i f).jnl = s.jnl := (rfl)
@[simp] theorem onConv_lane {f : Conv → Conv} : (s.onConv i f).lane = s.lane := (rfl)
@[simp] theorem onConv_seam {f : Conv → Conv} : (s.onConv i f).seam = s.seam := (rfl)
@[simp] theorem onConv_edg {f : Conv → Conv} : (s.onConv i f).edg = s.edg := (rfl)
@[simp] theorem onConv_comp {f : Conv → Conv} : (s.onConv i f).comp = s.comp := (rfl)
@[simp] theorem onConv_bnc {f : Conv → Conv} : (s.onConv i f).bnc = s.bnc := (rfl)
@[simp] theorem onConv_bal {f : Conv → Conv} : (s.onConv i f).bal = s.bal := (rfl)
@[simp] theorem onConv_evs {f : Conv → Conv} : (s.onConv i f).evs = s.evs := (rfl)
@[simp] theorem onConv_mode {f : Conv → Conv} : (s.onConv i f).mode = s.mode := (rfl)
@[simp] theorem onConv_modeQ {f : Conv → Conv} : (s.onConv i f).modeQ = s.modeQ := (rfl)
@[simp] theorem onConv_adc {f : Conv → Conv} : (s.onConv i f).adc = s.adc := (rfl)
@[simp] theorem onConv_cmp {f : Conv → Conv} : (s.onConv i f).cmp = s.cmp := (rfl)
@[simp] theorem onConv_safe {f : Conv → Conv} : (s.onConv i f).safe = s.safe := (rfl)
@[simp] theorem onConv_mesh {f : Conv → Conv} : (s.onConv i f).mesh = { s.mesh with convs := modAt s.mesh.convs i f } := (rfl)
@[simp] theorem onConv_pair {f : Conv → Conv} : (s.onConv i f).pair = s.pair := (rfl)
theorem conv_onConv {f : Conv → Conv} (h : i < s.mesh.convs.length) : (s.onConv i f).conv i = f (s.conv i) := getD_modAt h
theorem conv_onConv_ne {f : Conv → Conv} (h : i ≠ j) : (s.onConv i f).conv j = s.conv j := getD_modAt_ne h
@[simp] theorem onArm_now {f : Arm → Arm} : (s.onArm i f).now = s.now := (rfl)
@[simp] theorem onArm_ofs {f : Arm → Arm} : (s.onArm i f).ofs = s.ofs := (rfl)
@[simp] theorem onArm_out {f : Arm → Arm} : (s.onArm i f).out = s.out := (rfl)
@[simp] theorem onArm_sets {f : Arm → Arm} : (s.onArm i f).sets = s.sets := (rfl)
@[simp] theorem onArm_pts {f : Arm → Arm} : (s.onArm i f).pts = s.pts := (rfl)
@[simp] theorem onArm_free {f : Arm → Arm} : (s.onArm i f).free = s.free := (rfl)
@[simp] theorem onArm_pending {f : Arm → Arm} : (s.onArm i f).pending = s.pending := (rfl)
@[simp] theorem onArm_sys {f : Arm → Arm} : (s.onArm i f).sys = s.sys := (rfl)
@[simp] theorem onArm_pwr {f : Arm → Arm} : (s.onArm i f).pwr = s.pwr := (rfl)
@[simp] theorem onArm_clk {f : Arm → Arm} : (s.onArm i f).clk = s.clk := (rfl)
@[simp] theorem onArm_img {f : Arm → Arm} : (s.onArm i f).img = s.img := (rfl)
@[simp] theorem onArm_host {f : Arm → Arm} : (s.onArm i f).host = s.host := (rfl)
@[simp] theorem onArm_jnl {f : Arm → Arm} : (s.onArm i f).jnl = s.jnl := (rfl)
@[simp] theorem onArm_lane {f : Arm → Arm} : (s.onArm i f).lane = s.lane := (rfl)
@[simp] theorem onArm_seam {f : Arm → Arm} : (s.onArm i f).seam = s.seam := (rfl)
@[simp] theorem onArm_edg {f : Arm → Arm} : (s.onArm i f).edg = s.edg := (rfl)
@[simp] theorem onArm_comp {f : Arm → Arm} : (s.onArm i f).comp = s.comp := (rfl)
@[simp] theorem onArm_bnc {f : Arm → Arm} : (s.onArm i f).bnc = s.bnc := (rfl)
@[simp] theorem onArm_bal {f : Arm → Arm} : (s.onArm i f).bal = { s.bal with arms := modAt s.bal.arms i f } := (rfl)
@[simp] theorem onArm_evs {f : Arm → Arm} : (s.onArm i f).evs = s.evs := (rfl)
@[simp] theorem onArm_mode {f : Arm → Arm} : (s.onArm i f).mode = s.mode := (rfl)
@[simp] theorem onArm_modeQ {f : Arm → Arm} : (s.onArm i f).modeQ = s.modeQ := (rfl)
@[simp] theorem onArm_adc {f : Arm → Arm} : (s.onArm i f).adc = s.adc := (rfl)
@[simp] theorem onArm_cmp {f : Arm → Arm} : (s.onArm i f).cmp = s.cmp := (rfl)
@[simp] theorem onArm_safe {f : Arm → Arm} : (s.onArm i f).safe = s.safe := (rfl)
@[simp] theorem onArm_mesh {f : Arm → Arm} : (s.onArm i f).mesh = s.mesh := (rfl)
@[simp] theorem onArm_pair {f : Arm → Arm} : (s.onArm i f).pair = s.pair := (rfl)
theorem arm_onArm {f : Arm → Arm} (h : i < s.bal.arms.length) : (s.onArm i f).arm i = f (s.arm i) := getD_modAt h
theorem arm_onArm_ne {f : Arm → Arm} (h : i ≠ j) : (s.onArm i f).arm j = s.arm j := getD_modAt_ne h
@[simp] theorem onTherm_now {f : ThermCell → ThermCell} : (s.onTherm i f).now = s.now := (rfl)
@[simp] theorem onTherm_ofs {f : ThermCell → ThermCell} : (s.onTherm i f).ofs = s.ofs := (rfl)
@[simp] theorem onTherm_out {f : ThermCell → ThermCell} : (s.onTherm i f).out = s.out := (rfl)
@[simp] theorem onTherm_sets {f : ThermCell → ThermCell} : (s.onTherm i f).sets = s.sets := (rfl)
@[simp] theorem onTherm_pts {f : ThermCell → ThermCell} : (s.onTherm i f).pts = s.pts := (rfl)
@[simp] theorem onTherm_free {f : ThermCell → ThermCell} : (s.onTherm i f).free = s.free := (rfl)
@[simp] theorem onTherm_pending {f : ThermCell → ThermCell} : (s.onTherm i f).pending = s.pending := (rfl)
@[simp] theorem onTherm_sys {f : ThermCell → ThermCell} : (s.onTherm i f).sys = s.sys := (rfl)
@[simp] theorem onTherm_pwr {f : ThermCell → ThermCell} : (s.onTherm i f).pwr = s.pwr := (rfl)
@[simp] theorem onTherm_clk {f : ThermCell → ThermCell} : (s.onTherm i f).clk = s.clk := (rfl)
@[simp] theorem onTherm_img {f : ThermCell → ThermCell} : (s.onTherm i f).img = s.img := (rfl)
@[simp] theorem onTherm_host {f : ThermCell → ThermCell} : (s.onTherm i f).host = s.host := (rfl)
@[simp] theorem onTherm_jnl {f : ThermCell → ThermCell} : (s.onTherm i f).jnl = s.jnl := (rfl)
@[simp] theorem onTherm_lane {f : ThermCell → ThermCell} : (s.onTherm i f).lane = s.lane := (rfl)
@[simp] theorem onTherm_seam {f : ThermCell → ThermCell} : (s.onTherm i f).seam = s.seam := (rfl)
@[simp] theorem onTherm_edg {f : ThermCell → ThermCell} : (s.onTherm i f).edg = s.edg := (rfl)
@[simp] theorem onTherm_comp {f : ThermCell → ThermCell} : (s.onTherm i f).comp = s.comp := (rfl)
@[simp] theorem onTherm_bnc {f : ThermCell → ThermCell} : (s.onTherm i f).bnc = s.bnc := (rfl)
@[simp] theorem onTherm_bal {f : ThermCell → ThermCell} : (s.onTherm i f).bal = { s.bal with cells := modAt s.bal.cells i f } := (rfl)
@[simp] theorem onTherm_evs {f : ThermCell → ThermCell} : (s.onTherm i f).evs = s.evs := (rfl)
@[simp] theorem onTherm_mode {f : ThermCell → ThermCell} : (s.onTherm i f).mode = s.mode := (rfl)
@[simp] theorem onTherm_modeQ {f : ThermCell → ThermCell} : (s.onTherm i f).modeQ = s.modeQ := (rfl)
@[simp] theorem onTherm_adc {f : ThermCell → ThermCell} : (s.onTherm i f).adc = s.adc := (rfl)
@[simp] theorem onTherm_cmp {f : ThermCell → ThermCell} : (s.onTherm i f).cmp = s.cmp := (rfl)
@[simp] theorem onTherm_safe {f : ThermCell → ThermCell} : (s.onTherm i f).safe = s.safe := (rfl)
@[simp] theorem onTherm_mesh {f : ThermCell → ThermCell} : (s.onTherm i f).mesh = s.mesh := (rfl)
@[simp] theorem onTherm_pair {f : ThermCell → ThermCell} : (s.onTherm i f).pair = s.pair := (rfl)
theorem therm_onTherm {f : ThermCell → ThermCell} (h : i < s.bal.cells.length) : (s.onTherm i f).therm i = f (s.therm i) := getD_modAt h
theorem therm_onTherm_ne {f : ThermCell → ThermCell} (h : i ≠ j) : (s.onTherm i f).therm j = s.therm j := getD_modAt_ne h
@[simp] theorem onCell_now {f : Cell → Cell} : (s.onCell i f).now = s.now := (rfl)
@[simp] theorem onCell_ofs {f : Cell → Cell} : (s.onCell i f).ofs = s.ofs := (rfl)
@[simp] theorem onCell_out {f : Cell → Cell} : (s.onCell i f).out = s.out := (rfl)
@[simp] theorem onCell_sets {f : Cell → Cell} : (s.onCell i f).sets = s.sets := (rfl)
@[simp] theorem onCell_pts {f : Cell → Cell} : (s.onCell i f).pts = s.pts := (rfl)
@[simp] theorem onCell_free {f : Cell → Cell} : (s.onCell i f).free = s.free := (rfl)
@[simp] theorem onCell_pending {f : Cell → Cell} : (s.onCell i f).pending = s.pending := (rfl)
@[simp] theorem onCell_sys {f : Cell → Cell} : (s.onCell i f).sys = s.sys := (rfl)
@[simp] theorem onCell_pwr {f : Cell → Cell} : (s.onCell i f).pwr = s.pwr := (rfl)
@[simp] theorem onCell_clk {f : Cell → Cell} : (s.onCell i f).clk = s.clk := (rfl)
@[simp] theorem onCell_img {f : Cell → Cell} : (s.onCell i f).img = s.img := (rfl)
@[simp] theorem onCell_host {f : Cell → Cell} : (s.onCell i f).host = s.host := (rfl)
@[simp] theorem onCell_jnl {f : Cell → Cell} : (s.onCell i f).jnl = s.jnl := (rfl)
@[simp] theorem onCell_lane {f : Cell → Cell} : (s.onCell i f).lane = s.lane := (rfl)
@[simp] theorem onCell_seam {f : Cell → Cell} : (s.onCell i f).seam = { s.seam with cells := modAt s.seam.cells i f } := (rfl)
@[simp] theorem onCell_edg {f : Cell → Cell} : (s.onCell i f).edg = s.edg := (rfl)
@[simp] theorem onCell_comp {f : Cell → Cell} : (s.onCell i f).comp = s.comp := (rfl)
@[simp] theorem onCell_bnc {f : Cell → Cell} : (s.onCell i f).bnc = s.bnc := (rfl)
@[simp] theorem onCell_bal {f : Cell → Cell} : (s.onCell i f).bal = s.bal := (rfl)
@[simp] theorem onCell_evs {f : Cell → Cell} : (s.onCell i f).evs = s.evs := (rfl)
@[simp] theorem onCell_mode {f : Cell → Cell} : (s.onCell i f).mode = s.mode := (rfl)
@[simp] theorem onCell_modeQ {f : Cell → Cell} : (s.onCell i f).modeQ = s.modeQ := (rfl)
@[simp] theorem onCell_adc {f : Cell → Cell} : (s.onCell i f).adc = s.adc := (rfl)
@[simp] theorem onCell_cmp {f : Cell → Cell} : (s.onCell i f).cmp = s.cmp := (rfl)
@[simp] theorem onCell_safe {f : Cell → Cell} : (s.onCell i f).safe = s.safe := (rfl)
@[simp] theorem onCell_mesh {f : Cell → Cell} : (s.onCell i f).mesh = s.mesh := (rfl)
@[simp] theorem onCell_pair {f : Cell → Cell} : (s.onCell i f).pair = s.pair := (rfl)
theorem cell_onCell {f : Cell → Cell} (h : i < s.seam.cells.length) : (s.onCell i f).cell i = f (s.cell i) := getD_modAt h
theorem cell_onCell_ne {f : Cell → Cell} (h : i ≠ j) : (s.onCell i f).cell j = s.cell j := getD_modAt_ne h
@[simp] theorem onTalk_now {f : Talk → Talk} : (s.onTalk i f).now = s.now := (rfl)
@[simp] theorem onTalk_ofs {f : Talk → Talk} : (s.onTalk i f).ofs = s.ofs := (rfl)
@[simp] theorem onTalk_out {f : Talk → Talk} : (s.onTalk i f).out = s.out := (rfl)
@[simp] theorem onTalk_sets {f : Talk → Talk} : (s.onTalk i f).sets = s.sets := (rfl)
@[simp] theorem onTalk_pts {f : Talk → Talk} : (s.onTalk i f).pts = s.pts := (rfl)
@[simp] theorem onTalk_free {f : Talk → Talk} : (s.onTalk i f).free = s.free := (rfl)
@[simp] theorem onTalk_pending {f : Talk → Talk} : (s.onTalk i f).pending = s.pending := (rfl)
@[simp] theorem onTalk_sys {f : Talk → Talk} : (s.onTalk i f).sys = s.sys := (rfl)
@[simp] theorem onTalk_pwr {f : Talk → Talk} : (s.onTalk i f).pwr = s.pwr := (rfl)
@[simp] theorem onTalk_clk {f : Talk → Talk} : (s.onTalk i f).clk = s.clk := (rfl)
@[simp] theorem onTalk_img {f : Talk → Talk} : (s.onTalk i f).img = s.img := (rfl)
@[simp] theorem onTalk_host {f : Talk → Talk} : (s.onTalk i f).host = s.host := (rfl)
@[simp] theorem onTalk_jnl {f : Talk → Talk} : (s.onTalk i f).jnl = s.jnl := (rfl)
@[simp] theorem onTalk_lane {f : Talk → Talk} : (s.onTalk i f).lane = s.lane := (rfl)
@[simp] theorem onTalk_seam {f : Talk → Talk} : (s.onTalk i f).seam = { s.seam with talks := modAt s.seam.talks i f } := (rfl)
@[simp] theorem onTalk_edg {f : Talk → Talk} : (s.onTalk i f).edg = s.edg := (rfl)
@[simp] theorem onTalk_comp {f : Talk → Talk} : (s.onTalk i f).comp = s.comp := (rfl)
@[simp] theorem onTalk_bnc {f : Talk → Talk} : (s.onTalk i f).bnc = s.bnc := (rfl)
@[simp] theorem onTalk_bal {f : Talk → Talk} : (s.onTalk i f).bal = s.bal := (rfl)
@[simp] theorem onTalk_evs {f : Talk → Talk} : (s.onTalk i f).evs = s.evs := (rfl)
@[simp] theorem onTalk_mode {f : Talk → Talk} : (s.onTalk i f).mode = s.mode := (rfl)
@[simp] theorem onTalk_modeQ {f : Talk → Talk} : (s.onTalk i f).modeQ = s.modeQ := (rfl)
@[simp] theorem onTalk_adc {f : Talk → Talk} : (s.onTalk i f).adc = s.adc := (rfl)
@[simp] theorem onTalk_cmp {f : Talk → Talk} : (s.onTalk i f).cmp = s.cmp := (rfl)
@[simp] theorem onTalk_safe {f : Talk → Talk} : (s.onTalk i f).safe = s.safe := (rfl)
@[simp] theorem onTalk_mesh {f : Talk → Talk} : (s.onTalk i f).mesh = s.mesh := (rfl)
@[simp] theorem onTalk_pair {f : Talk → Talk} : (s.onTalk i f).pair = s.pair := (rfl)
theorem talk_onTalk {f : Talk → Talk} (h : i < s.seam.talks.length) : (s.onTalk i f).talk i = f (s.talk i) := getD_modAt h
theorem talk_onTalk_ne {f : Talk → Talk} (h : i ≠ j) : (s.onTalk i f).talk j = s.talk j := getD_modAt_ne h
/-! Shared records do not depend on the blocks they do not read. -/
@[simp] theorem onSys_event {f : Sys → Sys} {c : Nat} {d : Bytes} : ((s.onSys f).event c d).evs = (s.event c d).evs := (rfl)
@[simp] theorem onSys_jEvent {f : Sys → Sys} {a c e : Nat} {d : Bytes} : ((s.onSys f).jEvent a c e d).jnl = (s.jEvent a c e d).jnl := (rfl)
@[simp] theorem onSys_sysTime {f : Sys → Sys} : (s.onSys f).sysTime = s.sysTime := (rfl)
@[simp] theorem onSys_cfg {f : Sys → Sys} : (s.onSys f).cfg = s.cfg := (rfl)
@[simp] theorem onSys_node {f : Sys → Sys} : (s.onSys f).node = s.node := (rfl)
@[simp] theorem onSys_inForce {f : Sys → Sys} : (s.onSys f).inForce = s.inForce := (rfl)
@[simp] theorem onSys_per {f : Sys → Sys} : (s.onSys f).per = s.per := (rfl)
@[simp] theorem onSys_timeline {f : Sys → Sys} : (s.onSys f).timeline = s.timeline := (rfl)
@[simp] theorem onSys_tick {f : Sys → Sys} : (s.onSys f).tick = s.tick := (rfl)
@[simp] theorem onSys_nextS {f : Sys → Sys} : (s.onSys f).nextS = s.nextS := (rfl)
@[simp] theorem onPwr_event {f : Pwr → Pwr} {c : Nat} {d : Bytes} : ((s.onPwr f).event c d).evs = (s.event c d).evs := (rfl)
@[simp] theorem onPwr_jEvent {f : Pwr → Pwr} {a c e : Nat} {d : Bytes} : ((s.onPwr f).jEvent a c e d).jnl = (s.jEvent a c e d).jnl := (rfl)
@[simp] theorem onPwr_sysTime {f : Pwr → Pwr} : (s.onPwr f).sysTime = s.sysTime := (rfl)
@[simp] theorem onPwr_cfg {f : Pwr → Pwr} : (s.onPwr f).cfg = s.cfg := (rfl)
@[simp] theorem onPwr_node {f : Pwr → Pwr} : (s.onPwr f).node = s.node := (rfl)
@[simp] theorem onPwr_inForce {f : Pwr → Pwr} : (s.onPwr f).inForce = s.inForce := (rfl)
@[simp] theorem onPwr_per {f : Pwr → Pwr} : (s.onPwr f).per = s.per := (rfl)
@[simp] theorem onPwr_timeline {f : Pwr → Pwr} : (s.onPwr f).timeline = s.timeline := (rfl)
@[simp] theorem onPwr_tick {f : Pwr → Pwr} : (s.onPwr f).tick = s.tick := (rfl)
@[simp] theorem onPwr_nextS {f : Pwr → Pwr} : (s.onPwr f).nextS = s.nextS := (rfl)
@[simp] theorem onClk_cfg {f : Clk → Clk} : (s.onClk f).cfg = s.cfg := (rfl)
@[simp] theorem onClk_node {f : Clk → Clk} : (s.onClk f).node = s.node := (rfl)
@[simp] theorem onClk_inForce {f : Clk → Clk} : (s.onClk f).inForce = s.inForce := (rfl)
@[simp] theorem onImg_event {f : Img → Img} {c : Nat} {d : Bytes} : ((s.onImg f).event c d).evs = (s.event c d).evs := (rfl)
@[simp] theorem onImg_sysTime {f : Img → Img} : (s.onImg f).sysTime = s.sysTime := (rfl)
@[simp] theorem onHost_event {f : HostB → HostB} {c : Nat} {d : Bytes} : ((s.onHost f).event c d).evs = (s.event c d).evs := (rfl)
@[simp] theorem onHost_jEvent {f : HostB → HostB} {a c e : Nat} {d : Bytes} : ((s.onHost f).jEvent a c e d).jnl = (s.jEvent a c e d).jnl := (rfl)
@[simp] theorem onHost_sysTime {f : HostB → HostB} : (s.onHost f).sysTime = s.sysTime := (rfl)
@[simp] theorem onHost_cfg {f : HostB → HostB} : (s.onHost f).cfg = s.cfg := (rfl)
@[simp] theorem onHost_node {f : HostB → HostB} : (s.onHost f).node = s.node := (rfl)
@[simp] theorem onHost_inForce {f : HostB → HostB} : (s.onHost f).inForce = s.inForce := (rfl)
@[simp] theorem onHost_per {f : HostB → HostB} : (s.onHost f).per = s.per := (rfl)
@[simp] theorem onHost_timeline {f : HostB → HostB} : (s.onHost f).timeline = s.timeline := (rfl)
@[simp] theorem onHost_tick {f : HostB → HostB} : (s.onHost f).tick = s.tick := (rfl)
@[simp] theorem onHost_nextS {f : HostB → HostB} : (s.onHost f).nextS = s.nextS := (rfl)
@[simp] theorem onJnl_event {f : Jnl → Jnl} {c : Nat} {d : Bytes} : ((s.onJnl f).event c d).evs = (s.event c d).evs := (rfl)
@[simp] theorem onJnl_sysTime {f : Jnl → Jnl} : (s.onJnl f).sysTime = s.sysTime := (rfl)
@[simp] theorem onJnl_cfg {f : Jnl → Jnl} : (s.onJnl f).cfg = s.cfg := (rfl)
@[simp] theorem onJnl_node {f : Jnl → Jnl} : (s.onJnl f).node = s.node := (rfl)
@[simp] theorem onJnl_inForce {f : Jnl → Jnl} : (s.onJnl f).inForce = s.inForce := (rfl)
@[simp] theorem onJnl_per {f : Jnl → Jnl} : (s.onJnl f).per = s.per := (rfl)
@[simp] theorem onJnl_timeline {f : Jnl → Jnl} : (s.onJnl f).timeline = s.timeline := (rfl)
@[simp] theorem onJnl_tick {f : Jnl → Jnl} : (s.onJnl f).tick = s.tick := (rfl)
@[simp] theorem onJnl_nextS {f : Jnl → Jnl} : (s.onJnl f).nextS = s.nextS := (rfl)
@[simp] theorem onLane_event {f : LaneB → LaneB} {c : Nat} {d : Bytes} : ((s.onLane f).event c d).evs = (s.event c d).evs := (rfl)
@[simp] theorem onLane_jEvent {f : LaneB → LaneB} {a c e : Nat} {d : Bytes} : ((s.onLane f).jEvent a c e d).jnl = (s.jEvent a c e d).jnl := (rfl)
@[simp] theorem onLane_sysTime {f : LaneB → LaneB} : (s.onLane f).sysTime = s.sysTime := (rfl)
@[simp] theorem onLane_cfg {f : LaneB → LaneB} : (s.onLane f).cfg = s.cfg := (rfl)
@[simp] theorem onLane_node {f : LaneB → LaneB} : (s.onLane f).node = s.node := (rfl)
@[simp] theorem onLane_inForce {f : LaneB → LaneB} : (s.onLane f).inForce = s.inForce := (rfl)
@[simp] theorem onLane_per {f : LaneB → LaneB} : (s.onLane f).per = s.per := (rfl)
@[simp] theorem onLane_timeline {f : LaneB → LaneB} : (s.onLane f).timeline = s.timeline := (rfl)
@[simp] theorem onLane_tick {f : LaneB → LaneB} : (s.onLane f).tick = s.tick := (rfl)
@[simp] theorem onLane_nextS {f : LaneB → LaneB} : (s.onLane f).nextS = s.nextS := (rfl)
@[simp] theorem onSeam_event {f : SeamB → SeamB} {c : Nat} {d : Bytes} : ((s.onSeam f).event c d).evs = (s.event c d).evs := (rfl)
@[simp] theorem onSeam_jEvent {f : SeamB → SeamB} {a c e : Nat} {d : Bytes} : ((s.onSeam f).jEvent a c e d).jnl = (s.jEvent a c e d).jnl := (rfl)
@[simp] theorem onSeam_sysTime {f : SeamB → SeamB} : (s.onSeam f).sysTime = s.sysTime := (rfl)
@[simp] theorem onSeam_cfg {f : SeamB → SeamB} : (s.onSeam f).cfg = s.cfg := (rfl)
@[simp] theorem onSeam_node {f : SeamB → SeamB} : (s.onSeam f).node = s.node := (rfl)
@[simp] theorem onSeam_inForce {f : SeamB → SeamB} : (s.onSeam f).inForce = s.inForce := (rfl)
@[simp] theorem onSeam_per {f : SeamB → SeamB} : (s.onSeam f).per = s.per := (rfl)
@[simp] theorem onSeam_timeline {f : SeamB → SeamB} : (s.onSeam f).timeline = s.timeline := (rfl)
@[simp] theorem onSeam_tick {f : SeamB → SeamB} : (s.onSeam f).tick = s.tick := (rfl)
@[simp] theorem onSeam_nextS {f : SeamB → SeamB} : (s.onSeam f).nextS = s.nextS := (rfl)
@[simp] theorem onEdg_event {f : Edg → Edg} {c : Nat} {d : Bytes} : ((s.onEdg f).event c d).evs = (s.event c d).evs := (rfl)
@[simp] theorem onEdg_jEvent {f : Edg → Edg} {a c e : Nat} {d : Bytes} : ((s.onEdg f).jEvent a c e d).jnl = (s.jEvent a c e d).jnl := (rfl)
@[simp] theorem onEdg_sysTime {f : Edg → Edg} : (s.onEdg f).sysTime = s.sysTime := (rfl)
@[simp] theorem onEdg_cfg {f : Edg → Edg} : (s.onEdg f).cfg = s.cfg := (rfl)
@[simp] theorem onEdg_node {f : Edg → Edg} : (s.onEdg f).node = s.node := (rfl)
@[simp] theorem onEdg_inForce {f : Edg → Edg} : (s.onEdg f).inForce = s.inForce := (rfl)
@[simp] theorem onEdg_per {f : Edg → Edg} : (s.onEdg f).per = s.per := (rfl)
@[simp] theorem onEdg_timeline {f : Edg → Edg} : (s.onEdg f).timeline = s.timeline := (rfl)
@[simp] theorem onEdg_tick {f : Edg → Edg} : (s.onEdg f).tick = s.tick := (rfl)
@[simp] theorem onEdg_nextS {f : Edg → Edg} : (s.onEdg f).nextS = s.nextS := (rfl)
@[simp] theorem onComp_event {f : Comp → Comp} {c : Nat} {d : Bytes} : ((s.onComp f).event c d).evs = (s.event c d).evs := (rfl)
@[simp] theorem onComp_jEvent {f : Comp → Comp} {a c e : Nat} {d : Bytes} : ((s.onComp f).jEvent a c e d).jnl = (s.jEvent a c e d).jnl := (rfl)
@[simp] theorem onComp_sysTime {f : Comp → Comp} : (s.onComp f).sysTime = s.sysTime := (rfl)
@[simp] theorem onComp_cfg {f : Comp → Comp} : (s.onComp f).cfg = s.cfg := (rfl)
@[simp] theorem onComp_node {f : Comp → Comp} : (s.onComp f).node = s.node := (rfl)
@[simp] theorem onComp_inForce {f : Comp → Comp} : (s.onComp f).inForce = s.inForce := (rfl)
@[simp] theorem onComp_per {f : Comp → Comp} : (s.onComp f).per = s.per := (rfl)
@[simp] theorem onComp_timeline {f : Comp → Comp} : (s.onComp f).timeline = s.timeline := (rfl)
@[simp] theorem onComp_tick {f : Comp → Comp} : (s.onComp f).tick = s.tick := (rfl)
@[simp] theorem onComp_nextS {f : Comp → Comp} : (s.onComp f).nextS = s.nextS := (rfl)
@[simp] theorem onBnc_event {f : Bnc → Bnc} {c : Nat} {d : Bytes} : ((s.onBnc f).event c d).evs = (s.event c d).evs := (rfl)
@[simp] theorem onBnc_jEvent {f : Bnc → Bnc} {a c e : Nat} {d : Bytes} : ((s.onBnc f).jEvent a c e d).jnl = (s.jEvent a c e d).jnl := (rfl)
@[simp] theorem onBnc_sysTime {f : Bnc → Bnc} : (s.onBnc f).sysTime = s.sysTime := (rfl)
@[simp] theorem onBnc_cfg {f : Bnc → Bnc} : (s.onBnc f).cfg = s.cfg := (rfl)
@[simp] theorem onBnc_node {f : Bnc → Bnc} : (s.onBnc f).node = s.node := (rfl)
@[simp] theorem onBnc_inForce {f : Bnc → Bnc} : (s.onBnc f).inForce = s.inForce := (rfl)
@[simp] theorem onBnc_per {f : Bnc → Bnc} : (s.onBnc f).per = s.per := (rfl)
@[simp] theorem onBnc_timeline {f : Bnc → Bnc} : (s.onBnc f).timeline = s.timeline := (rfl)
@[simp] theorem onBnc_tick {f : Bnc → Bnc} : (s.onBnc f).tick = s.tick := (rfl)
@[simp] theorem onBnc_nextS {f : Bnc → Bnc} : (s.onBnc f).nextS = s.nextS := (rfl)
@[simp] theorem onBal_event {f : Bal → Bal} {c : Nat} {d : Bytes} : ((s.onBal f).event c d).evs = (s.event c d).evs := (rfl)
@[simp] theorem onBal_jEvent {f : Bal → Bal} {a c e : Nat} {d : Bytes} : ((s.onBal f).jEvent a c e d).jnl = (s.jEvent a c e d).jnl := (rfl)
@[simp] theorem onBal_sysTime {f : Bal → Bal} : (s.onBal f).sysTime = s.sysTime := (rfl)
@[simp] theorem onBal_cfg {f : Bal → Bal} : (s.onBal f).cfg = s.cfg := (rfl)
@[simp] theorem onBal_node {f : Bal → Bal} : (s.onBal f).node = s.node := (rfl)
@[simp] theorem onBal_inForce {f : Bal → Bal} : (s.onBal f).inForce = s.inForce := (rfl)
@[simp] theorem onBal_per {f : Bal → Bal} : (s.onBal f).per = s.per := (rfl)
@[simp] theorem onBal_timeline {f : Bal → Bal} : (s.onBal f).timeline = s.timeline := (rfl)
@[simp] theorem onBal_tick {f : Bal → Bal} : (s.onBal f).tick = s.tick := (rfl)
@[simp] theorem onBal_nextS {f : Bal → Bal} : (s.onBal f).nextS = s.nextS := (rfl)
@[simp] theorem onEvs_sysTime {f : Evs → Evs} : (s.onEvs f).sysTime = s.sysTime := (rfl)
@[simp] theorem onEvs_cfg {f : Evs → Evs} : (s.onEvs f).cfg = s.cfg := (rfl)
@[simp] theorem onEvs_node {f : Evs → Evs} : (s.onEvs f).node = s.node := (rfl)
@[simp] theorem onEvs_inForce {f : Evs → Evs} : (s.onEvs f).inForce = s.inForce := (rfl)
@[simp] theorem onEvs_per {f : Evs → Evs} : (s.onEvs f).per = s.per := (rfl)
@[simp] theorem onEvs_timeline {f : Evs → Evs} : (s.onEvs f).timeline = s.timeline := (rfl)
@[simp] theorem onEvs_tick {f : Evs → Evs} : (s.onEvs f).tick = s.tick := (rfl)
@[simp] theorem onEvs_nextS {f : Evs → Evs} : (s.onEvs f).nextS = s.nextS := (rfl)
@[simp] theorem onMode_event {f : ModeB → ModeB} {c : Nat} {d : Bytes} : ((s.onMode f).event c d).evs = (s.event c d).evs := (rfl)
@[simp] theorem onMode_jEvent {f : ModeB → ModeB} {a c e : Nat} {d : Bytes} : ((s.onMode f).jEvent a c e d).jnl = (s.jEvent a c e d).jnl := (rfl)
@[simp] theorem onMode_sysTime {f : ModeB → ModeB} : (s.onMode f).sysTime = s.sysTime := (rfl)
@[simp] theorem onMode_cfg {f : ModeB → ModeB} : (s.onMode f).cfg = s.cfg := (rfl)
@[simp] theorem onMode_node {f : ModeB → ModeB} : (s.onMode f).node = s.node := (rfl)
@[simp] theorem onMode_inForce {f : ModeB → ModeB} : (s.onMode f).inForce = s.inForce := (rfl)
@[simp] theorem onMode_per {f : ModeB → ModeB} : (s.onMode f).per = s.per := (rfl)
@[simp] theorem onMode_timeline {f : ModeB → ModeB} : (s.onMode f).timeline = s.timeline := (rfl)
@[simp] theorem onMode_tick {f : ModeB → ModeB} : (s.onMode f).tick = s.tick := (rfl)
@[simp] theorem onMode_nextS {f : ModeB → ModeB} : (s.onMode f).nextS = s.nextS := (rfl)
@[simp] theorem onModeQ_event {f : ModeQ → ModeQ} {c : Nat} {d : Bytes} : ((s.onModeQ f).event c d).evs = (s.event c d).evs := (rfl)
@[simp] theorem onModeQ_jEvent {f : ModeQ → ModeQ} {a c e : Nat} {d : Bytes} : ((s.onModeQ f).jEvent a c e d).jnl = (s.jEvent a c e d).jnl := (rfl)
@[simp] theorem onModeQ_sysTime {f : ModeQ → ModeQ} : (s.onModeQ f).sysTime = s.sysTime := (rfl)
@[simp] theorem onModeQ_cfg {f : ModeQ → ModeQ} : (s.onModeQ f).cfg = s.cfg := (rfl)
@[simp] theorem onModeQ_node {f : ModeQ → ModeQ} : (s.onModeQ f).node = s.node := (rfl)
@[simp] theorem onModeQ_inForce {f : ModeQ → ModeQ} : (s.onModeQ f).inForce = s.inForce := (rfl)
@[simp] theorem onModeQ_per {f : ModeQ → ModeQ} : (s.onModeQ f).per = s.per := (rfl)
@[simp] theorem onModeQ_timeline {f : ModeQ → ModeQ} : (s.onModeQ f).timeline = s.timeline := (rfl)
@[simp] theorem onModeQ_tick {f : ModeQ → ModeQ} : (s.onModeQ f).tick = s.tick := (rfl)
@[simp] theorem onModeQ_nextS {f : ModeQ → ModeQ} : (s.onModeQ f).nextS = s.nextS := (rfl)
@[simp] theorem onAdc_event {f : AdcB → AdcB} {c : Nat} {d : Bytes} : ((s.onAdc f).event c d).evs = (s.event c d).evs := (rfl)
@[simp] theorem onAdc_jEvent {f : AdcB → AdcB} {a c e : Nat} {d : Bytes} : ((s.onAdc f).jEvent a c e d).jnl = (s.jEvent a c e d).jnl := (rfl)
@[simp] theorem onAdc_sysTime {f : AdcB → AdcB} : (s.onAdc f).sysTime = s.sysTime := (rfl)
@[simp] theorem onAdc_cfg {f : AdcB → AdcB} : (s.onAdc f).cfg = s.cfg := (rfl)
@[simp] theorem onAdc_node {f : AdcB → AdcB} : (s.onAdc f).node = s.node := (rfl)
@[simp] theorem onAdc_inForce {f : AdcB → AdcB} : (s.onAdc f).inForce = s.inForce := (rfl)
@[simp] theorem onAdc_per {f : AdcB → AdcB} : (s.onAdc f).per = s.per := (rfl)
@[simp] theorem onAdc_timeline {f : AdcB → AdcB} : (s.onAdc f).timeline = s.timeline := (rfl)
@[simp] theorem onAdc_tick {f : AdcB → AdcB} : (s.onAdc f).tick = s.tick := (rfl)
@[simp] theorem onAdc_nextS {f : AdcB → AdcB} : (s.onAdc f).nextS = s.nextS := (rfl)
@[simp] theorem onCmp_event {f : CmpB → CmpB} {c : Nat} {d : Bytes} : ((s.onCmp f).event c d).evs = (s.event c d).evs := (rfl)
@[simp] theorem onCmp_jEvent {f : CmpB → CmpB} {a c e : Nat} {d : Bytes} : ((s.onCmp f).jEvent a c e d).jnl = (s.jEvent a c e d).jnl := (rfl)
@[simp] theorem onCmp_sysTime {f : CmpB → CmpB} : (s.onCmp f).sysTime = s.sysTime := (rfl)
@[simp] theorem onCmp_cfg {f : CmpB → CmpB} : (s.onCmp f).cfg = s.cfg := (rfl)
@[simp] theorem onCmp_node {f : CmpB → CmpB} : (s.onCmp f).node = s.node := (rfl)
@[simp] theorem onCmp_inForce {f : CmpB → CmpB} : (s.onCmp f).inForce = s.inForce := (rfl)
@[simp] theorem onCmp_per {f : CmpB → CmpB} : (s.onCmp f).per = s.per := (rfl)
@[simp] theorem onCmp_timeline {f : CmpB → CmpB} : (s.onCmp f).timeline = s.timeline := (rfl)
@[simp] theorem onCmp_tick {f : CmpB → CmpB} : (s.onCmp f).tick = s.tick := (rfl)
@[simp] theorem onCmp_nextS {f : CmpB → CmpB} : (s.onCmp f).nextS = s.nextS := (rfl)
@[simp] theorem onSafe_event {f : Safe → Safe} {c : Nat} {d : Bytes} : ((s.onSafe f).event c d).evs = (s.event c d).evs := (rfl)
@[simp] theorem onSafe_jEvent {f : Safe → Safe} {a c e : Nat} {d : Bytes} : ((s.onSafe f).jEvent a c e d).jnl = (s.jEvent a c e d).jnl := (rfl)
@[simp] theorem onSafe_sysTime {f : Safe → Safe} : (s.onSafe f).sysTime = s.sysTime := (rfl)
@[simp] theorem onSafe_cfg {f : Safe → Safe} : (s.onSafe f).cfg = s.cfg := (rfl)
@[simp] theorem onSafe_node {f : Safe → Safe} : (s.onSafe f).node = s.node := (rfl)
@[simp] theorem onSafe_inForce {f : Safe → Safe} : (s.onSafe f).inForce = s.inForce := (rfl)
@[simp] theorem onSafe_per {f : Safe → Safe} : (s.onSafe f).per = s.per := (rfl)
@[simp] theorem onSafe_timeline {f : Safe → Safe} : (s.onSafe f).timeline = s.timeline := (rfl)
@[simp] theorem onSafe_tick {f : Safe → Safe} : (s.onSafe f).tick = s.tick := (rfl)
@[simp] theorem onSafe_nextS {f : Safe → Safe} : (s.onSafe f).nextS = s.nextS := (rfl)
@[simp] theorem onMesh_event {f : Mesh → Mesh} {c : Nat} {d : Bytes} : ((s.onMesh f).event c d).evs = (s.event c d).evs := (rfl)
@[simp] theorem onMesh_jEvent {f : Mesh → Mesh} {a c e : Nat} {d : Bytes} : ((s.onMesh f).jEvent a c e d).jnl = (s.jEvent a c e d).jnl := (rfl)
@[simp] theorem onMesh_sysTime {f : Mesh → Mesh} : (s.onMesh f).sysTime = s.sysTime := (rfl)
@[simp] theorem onMesh_cfg {f : Mesh → Mesh} : (s.onMesh f).cfg = s.cfg := (rfl)
@[simp] theorem onMesh_node {f : Mesh → Mesh} : (s.onMesh f).node = s.node := (rfl)
@[simp] theorem onMesh_inForce {f : Mesh → Mesh} : (s.onMesh f).inForce = s.inForce := (rfl)
@[simp] theorem onMesh_per {f : Mesh → Mesh} : (s.onMesh f).per = s.per := (rfl)
@[simp] theorem onMesh_timeline {f : Mesh → Mesh} : (s.onMesh f).timeline = s.timeline := (rfl)
@[simp] theorem onMesh_tick {f : Mesh → Mesh} : (s.onMesh f).tick = s.tick := (rfl)
@[simp] theorem onMesh_nextS {f : Mesh → Mesh} : (s.onMesh f).nextS = s.nextS := (rfl)
@[simp] theorem onPair_event {f : PairB → PairB} {c : Nat} {d : Bytes} : ((s.onPair f).event c d).evs = (s.event c d).evs := (rfl)
@[simp] theorem onPair_sysTime {f : PairB → PairB} : (s.onPair f).sysTime = s.sysTime := (rfl)
@[simp] theorem onPair_cfg {f : PairB → PairB} : (s.onPair f).cfg = s.cfg := (rfl)
@[simp] theorem onPair_node {f : PairB → PairB} : (s.onPair f).node = s.node := (rfl)
@[simp] theorem onPair_inForce {f : PairB → PairB} : (s.onPair f).inForce = s.inForce := (rfl)
@[simp] theorem onPair_per {f : PairB → PairB} : (s.onPair f).per = s.per := (rfl)
@[simp] theorem onPair_timeline {f : PairB → PairB} : (s.onPair f).timeline = s.timeline := (rfl)
@[simp] theorem onPair_tick {f : PairB → PairB} : (s.onPair f).tick = s.tick := (rfl)
@[simp] theorem onPair_nextS {f : PairB → PairB} : (s.onPair f).nextS = s.nextS := (rfl)
@[simp] theorem onAdc1_event {f : Adc1 → Adc1} {c : Nat} {d : Bytes} : ((s.onAdc1 i f).event c d).evs = (s.event c d).evs := (rfl)
@[simp] theorem onAdc1_jEvent {f : Adc1 → Adc1} {a c e : Nat} {d : Bytes} : ((s.onAdc1 i f).jEvent a c e d).jnl = (s.jEvent a c e d).jnl := (rfl)
@[simp] theorem onAdc1_sysTime {f : Adc1 → Adc1} : (s.onAdc1 i f).sysTime = s.sysTime := (rfl)
@[simp] theorem onAdc1_cfg {f : Adc1 → Adc1} : (s.onAdc1 i f).cfg = s.cfg := (rfl)
@[simp] theorem onAdc1_node {f : Adc1 → Adc1} : (s.onAdc1 i f).node = s.node := (rfl)
@[simp] theorem onAdc1_inForce {f : Adc1 → Adc1} : (s.onAdc1 i f).inForce = s.inForce := (rfl)
@[simp] theorem onAdc1_per {f : Adc1 → Adc1} : (s.onAdc1 i f).per = s.per := (rfl)
@[simp] theorem onAdc1_timeline {f : Adc1 → Adc1} : (s.onAdc1 i f).timeline = s.timeline := (rfl)
@[simp] theorem onAdc1_tick {f : Adc1 → Adc1} : (s.onAdc1 i f).tick = s.tick := (rfl)
@[simp] theorem onAdc1_nextS {f : Adc1 → Adc1} : (s.onAdc1 i f).nextS = s.nextS := (rfl)
@[simp] theorem onSieve_event {f : Sieve → Sieve} {c : Nat} {d : Bytes} : ((s.onSieve i f).event c d).evs = (s.event c d).evs := (rfl)
@[simp] theorem onSieve_jEvent {f : Sieve → Sieve} {a c e : Nat} {d : Bytes} : ((s.onSieve i f).jEvent a c e d).jnl = (s.jEvent a c e d).jnl := (rfl)
@[simp] theorem onSieve_sysTime {f : Sieve → Sieve} : (s.onSieve i f).sysTime = s.sysTime := (rfl)
@[simp] theorem onSieve_cfg {f : Sieve → Sieve} : (s.onSieve i f).cfg = s.cfg := (rfl)
@[simp] theorem onSieve_node {f : Sieve → Sieve} : (s.onSieve i f).node = s.node := (rfl)
@[simp] theorem onSieve_inForce {f : Sieve → Sieve} : (s.onSieve i f).inForce = s.inForce := (rfl)
@[simp] theorem onSieve_per {f : Sieve → Sieve} : (s.onSieve i f).per = s.per := (rfl)
@[simp] theorem onSieve_timeline {f : Sieve → Sieve} : (s.onSieve i f).timeline = s.timeline := (rfl)
@[simp] theorem onSieve_tick {f : Sieve → Sieve} : (s.onSieve i f).tick = s.tick := (rfl)
@[simp] theorem onSieve_nextS {f : Sieve → Sieve} : (s.onSieve i f).nextS = s.nextS := (rfl)
@[simp] theorem onBench_event {f : Bench → Bench} {c : Nat} {d : Bytes} : ((s.onBench i f).event c d).evs = (s.event c d).evs := (rfl)
@[simp] theorem onBench_jEvent {f : Bench → Bench} {a c e : Nat} {d : Bytes} : ((s.onBench i f).jEvent a c e d).jnl = (s.jEvent a c e d).jnl := (rfl)
@[simp] theorem onBench_sysTime {f : Bench → Bench} : (s.onBench i f).sysTime = s.sysTime := (rfl)
@[simp] theorem onBench_cfg {f : Bench → Bench} : (s.onBench i f).cfg = s.cfg := (rfl)
@[simp] theorem onBench_node {f : Bench → Bench} : (s.onBench i f).node = s.node := (rfl)
@[simp] theorem onBench_inForce {f : Bench → Bench} : (s.onBench i f).inForce = s.inForce := (rfl)
@[simp] theorem onBench_per {f : Bench → Bench} : (s.onBench i f).per = s.per := (rfl)
@[simp] theorem onBench_timeline {f : Bench → Bench} : (s.onBench i f).timeline = s.timeline := (rfl)
@[simp] theorem onBench_tick {f : Bench → Bench} : (s.onBench i f).tick = s.tick := (rfl)
@[simp] theorem onBench_nextS {f : Bench → Bench} : (s.onBench i f).nextS = s.nextS := (rfl)
@[simp] theorem onLoop_event {f : Loop → Loop} {c : Nat} {d : Bytes} : ((s.onLoop i f).event c d).evs = (s.event c d).evs := (rfl)
@[simp] theorem onLoop_jEvent {f : Loop → Loop} {a c e : Nat} {d : Bytes} : ((s.onLoop i f).jEvent a c e d).jnl = (s.jEvent a c e d).jnl := (rfl)
@[simp] theorem onLoop_sysTime {f : Loop → Loop} : (s.onLoop i f).sysTime = s.sysTime := (rfl)
@[simp] theorem onLoop_cfg {f : Loop → Loop} : (s.onLoop i f).cfg = s.cfg := (rfl)
@[simp] theorem onLoop_node {f : Loop → Loop} : (s.onLoop i f).node = s.node := (rfl)
@[simp] theorem onLoop_inForce {f : Loop → Loop} : (s.onLoop i f).inForce = s.inForce := (rfl)
@[simp] theorem onLoop_per {f : Loop → Loop} : (s.onLoop i f).per = s.per := (rfl)
@[simp] theorem onLoop_timeline {f : Loop → Loop} : (s.onLoop i f).timeline = s.timeline := (rfl)
@[simp] theorem onLoop_tick {f : Loop → Loop} : (s.onLoop i f).tick = s.tick := (rfl)
@[simp] theorem onLoop_nextS {f : Loop → Loop} : (s.onLoop i f).nextS = s.nextS := (rfl)
@[simp] theorem onCmp1_event {f : Cmp1 → Cmp1} {c : Nat} {d : Bytes} : ((s.onCmp1 i f).event c d).evs = (s.event c d).evs := (rfl)
@[simp] theorem onCmp1_jEvent {f : Cmp1 → Cmp1} {a c e : Nat} {d : Bytes} : ((s.onCmp1 i f).jEvent a c e d).jnl = (s.jEvent a c e d).jnl := (rfl)
@[simp] theorem onCmp1_sysTime {f : Cmp1 → Cmp1} : (s.onCmp1 i f).sysTime = s.sysTime := (rfl)
@[simp] theorem onCmp1_cfg {f : Cmp1 → Cmp1} : (s.onCmp1 i f).cfg = s.cfg := (rfl)
@[simp] theorem onCmp1_node {f : Cmp1 → Cmp1} : (s.onCmp1 i f).node = s.node := (rfl)
@[simp] theorem onCmp1_inForce {f : Cmp1 → Cmp1} : (s.onCmp1 i f).inForce = s.inForce := (rfl)
@[simp] theorem onCmp1_per {f : Cmp1 → Cmp1} : (s.onCmp1 i f).per = s.per := (rfl)
@[simp] theorem onCmp1_timeline {f : Cmp1 → Cmp1} : (s.onCmp1 i f).timeline = s.timeline := (rfl)
@[simp] theorem onCmp1_tick {f : Cmp1 → Cmp1} : (s.onCmp1 i f).tick = s.tick := (rfl)
@[simp] theorem onCmp1_nextS {f : Cmp1 → Cmp1} : (s.onCmp1 i f).nextS = s.nextS := (rfl)
@[simp] theorem onGrp_event {f : Grp → Grp} {c : Nat} {d : Bytes} : ((s.onGrp i f).event c d).evs = (s.event c d).evs := (rfl)
@[simp] theorem onGrp_jEvent {f : Grp → Grp} {a c e : Nat} {d : Bytes} : ((s.onGrp i f).jEvent a c e d).jnl = (s.jEvent a c e d).jnl := (rfl)
@[simp] theorem onGrp_sysTime {f : Grp → Grp} : (s.onGrp i f).sysTime = s.sysTime := (rfl)
@[simp] theorem onGrp_cfg {f : Grp → Grp} : (s.onGrp i f).cfg = s.cfg := (rfl)
@[simp] theorem onGrp_node {f : Grp → Grp} : (s.onGrp i f).node = s.node := (rfl)
@[simp] theorem onGrp_inForce {f : Grp → Grp} : (s.onGrp i f).inForce = s.inForce := (rfl)
@[simp] theorem onGrp_per {f : Grp → Grp} : (s.onGrp i f).per = s.per := (rfl)
@[simp] theorem onGrp_timeline {f : Grp → Grp} : (s.onGrp i f).timeline = s.timeline := (rfl)
@[simp] theorem onGrp_tick {f : Grp → Grp} : (s.onGrp i f).tick = s.tick := (rfl)
@[simp] theorem onGrp_nextS {f : Grp → Grp} : (s.onGrp i f).nextS = s.nextS := (rfl)
@[simp] theorem onCtx_event {f : Ctx → Ctx} {c : Nat} {d : Bytes} : ((s.onCtx i f).event c d).evs = (s.event c d).evs := (rfl)
@[simp] theorem onCtx_jEvent {f : Ctx → Ctx} {a c e : Nat} {d : Bytes} : ((s.onCtx i f).jEvent a c e d).jnl = (s.jEvent a c e d).jnl := (rfl)
@[simp] theorem onCtx_sysTime {f : Ctx → Ctx} : (s.onCtx i f).sysTime = s.sysTime := (rfl)
@[simp] theorem onCtx_cfg {f : Ctx → Ctx} : (s.onCtx i f).cfg = s.cfg := (rfl)
@[simp] theorem onCtx_node {f : Ctx → Ctx} : (s.onCtx i f).node = s.node := (rfl)
@[simp] theorem onCtx_inForce {f : Ctx → Ctx} : (s.onCtx i f).inForce = s.inForce := (rfl)
@[simp] theorem onCtx_per {f : Ctx → Ctx} : (s.onCtx i f).per = s.per := (rfl)
@[simp] theorem onCtx_timeline {f : Ctx → Ctx} : (s.onCtx i f).timeline = s.timeline := (rfl)
@[simp] theorem onCtx_tick {f : Ctx → Ctx} : (s.onCtx i f).tick = s.tick := (rfl)
@[simp] theorem onCtx_nextS {f : Ctx → Ctx} : (s.onCtx i f).nextS = s.nextS := (rfl)
@[simp] theorem onMbx_event {f : Mbx → Mbx} {c : Nat} {d : Bytes} : ((s.onMbx i f).event c d).evs = (s.event c d).evs := (rfl)
@[simp] theorem onMbx_jEvent {f : Mbx → Mbx} {a c e : Nat} {d : Bytes} : ((s.onMbx i f).jEvent a c e d).jnl = (s.jEvent a c e d).jnl := (rfl)
@[simp] theorem onMbx_sysTime {f : Mbx → Mbx} : (s.onMbx i f).sysTime = s.sysTime := (rfl)
@[simp] theorem onMbx_cfg {f : Mbx → Mbx} : (s.onMbx i f).cfg = s.cfg := (rfl)
@[simp] theorem onMbx_node {f : Mbx → Mbx} : (s.onMbx i f).node = s.node := (rfl)
@[simp] theorem onMbx_inForce {f : Mbx → Mbx} : (s.onMbx i f).inForce = s.inForce := (rfl)
@[simp] theorem onMbx_per {f : Mbx → Mbx} : (s.onMbx i f).per = s.per := (rfl)
@[simp] theorem onMbx_timeline {f : Mbx → Mbx} : (s.onMbx i f).timeline = s.timeline := (rfl)
@[simp] theorem onMbx_tick {f : Mbx → Mbx} : (s.onMbx i f).tick = s.tick := (rfl)
@[simp] theorem onMbx_nextS {f : Mbx → Mbx} : (s.onMbx i f).nextS = s.nextS := (rfl)
@[simp] theorem onPairS_event {f : PairS → PairS} {c : Nat} {d : Bytes} : ((s.onPairS i f).event c d).evs = (s.event c d).evs := (rfl)
@[simp] theorem onPairS_jEvent {f : PairS → PairS} {a c e : Nat} {d : Bytes} : ((s.onPairS i f).jEvent a c e d).jnl = (s.jEvent a c e d).jnl := (rfl)
@[simp] theorem onPairS_sysTime {f : PairS → PairS} : (s.onPairS i f).sysTime = s.sysTime := (rfl)
@[simp] theorem onPairS_cfg {f : PairS → PairS} : (s.onPairS i f).cfg = s.cfg := (rfl)
@[simp] theorem onPairS_node {f : PairS → PairS} : (s.onPairS i f).node = s.node := (rfl)
@[simp] theorem onPairS_inForce {f : PairS → PairS} : (s.onPairS i f).inForce = s.inForce := (rfl)
@[simp] theorem onPairS_per {f : PairS → PairS} : (s.onPairS i f).per = s.per := (rfl)
@[simp] theorem onPairS_timeline {f : PairS → PairS} : (s.onPairS i f).timeline = s.timeline := (rfl)
@[simp] theorem onPairS_tick {f : PairS → PairS} : (s.onPairS i f).tick = s.tick := (rfl)
@[simp] theorem onPairS_nextS {f : PairS → PairS} : (s.onPairS i f).nextS = s.nextS := (rfl)
@[simp] theorem onLane1_event {f : LaneS → LaneS} {c : Nat} {d : Bytes} : ((s.onLane1 i f).event c d).evs = (s.event c d).evs := (rfl)
@[simp] theorem onLane1_jEvent {f : LaneS → LaneS} {a c e : Nat} {d : Bytes} : ((s.onLane1 i f).jEvent a c e d).jnl = (s.jEvent a c e d).jnl := (rfl)
@[simp] theorem onLane1_sysTime {f : LaneS → LaneS} : (s.onLane1 i f).sysTime = s.sysTime := (rfl)
@[simp] theorem onLane1_cfg {f : LaneS → LaneS} : (s.onLane1 i f).cfg = s.cfg := (rfl)
@[simp] theorem onLane1_node {f : LaneS → LaneS} : (s.onLane1 i f).node = s.node := (rfl)
@[simp] theorem onLane1_inForce {f : LaneS → LaneS} : (s.onLane1 i f).inForce = s.inForce := (rfl)
@[simp] theorem onLane1_per {f : LaneS → LaneS} : (s.onLane1 i f).per = s.per := (rfl)
@[simp] theorem onLane1_timeline {f : LaneS → LaneS} : (s.onLane1 i f).timeline = s.timeline := (rfl)
@[simp] theorem onLane1_tick {f : LaneS → LaneS} : (s.onLane1 i f).tick = s.tick := (rfl)
@[simp] theorem onLane1_nextS {f : LaneS → LaneS} : (s.onLane1 i f).nextS = s.nextS := (rfl)
@[simp] theorem onSp_event {f : Sp → Sp} {c : Nat} {d : Bytes} : ((s.onSp i f).event c d).evs = (s.event c d).evs := (rfl)
@[simp] theorem onSp_jEvent {f : Sp → Sp} {a c e : Nat} {d : Bytes} : ((s.onSp i f).jEvent a c e d).jnl = (s.jEvent a c e d).jnl := (rfl)
@[simp] theorem onSp_sysTime {f : Sp → Sp} : (s.onSp i f).sysTime = s.sysTime := (rfl)
@[simp] theorem onSp_cfg {f : Sp → Sp} : (s.onSp i f).cfg = s.cfg := (rfl)
@[simp] theorem onSp_node {f : Sp → Sp} : (s.onSp i f).node = s.node := (rfl)
@[simp] theorem onSp_inForce {f : Sp → Sp} : (s.onSp i f).inForce = s.inForce := (rfl)
@[simp] theorem onSp_per {f : Sp → Sp} : (s.onSp i f).per = s.per := (rfl)
@[simp] theorem onSp_timeline {f : Sp → Sp} : (s.onSp i f).timeline = s.timeline := (rfl)
@[simp] theorem onSp_tick {f : Sp → Sp} : (s.onSp i f).tick = s.tick := (rfl)
@[simp] theorem onSp_nextS {f : Sp → Sp} : (s.onSp i f).nextS = s.nextS := (rfl)
@[simp] theorem onConv_event {f : Conv → Conv} {c : Nat} {d : Bytes} : ((s.onConv i f).event c d).evs = (s.event c d).evs := (rfl)
@[simp] theorem onConv_jEvent {f : Conv → Conv} {a c e : Nat} {d : Bytes} : ((s.onConv i f).jEvent a c e d).jnl = (s.jEvent a c e d).jnl := (rfl)
@[simp] theorem onConv_sysTime {f : Conv → Conv} : (s.onConv i f).sysTime = s.sysTime := (rfl)
@[simp] theorem onConv_cfg {f : Conv → Conv} : (s.onConv i f).cfg = s.cfg := (rfl)
@[simp] theorem onConv_node {f : Conv → Conv} : (s.onConv i f).node = s.node := (rfl)
@[simp] theorem onConv_inForce {f : Conv → Conv} : (s.onConv i f).inForce = s.inForce := (rfl)
@[simp] theorem onConv_per {f : Conv → Conv} : (s.onConv i f).per = s.per := (rfl)
@[simp] theorem onConv_timeline {f : Conv → Conv} : (s.onConv i f).timeline = s.timeline := (rfl)
@[simp] theorem onConv_tick {f : Conv → Conv} : (s.onConv i f).tick = s.tick := (rfl)
@[simp] theorem onConv_nextS {f : Conv → Conv} : (s.onConv i f).nextS = s.nextS := (rfl)
@[simp] theorem onArm_event {f : Arm → Arm} {c : Nat} {d : Bytes} : ((s.onArm i f).event c d).evs = (s.event c d).evs := (rfl)
@[simp] theorem onArm_jEvent {f : Arm → Arm} {a c e : Nat} {d : Bytes} : ((s.onArm i f).jEvent a c e d).jnl = (s.jEvent a c e d).jnl := (rfl)
@[simp] theorem onArm_sysTime {f : Arm → Arm} : (s.onArm i f).sysTime = s.sysTime := (rfl)
@[simp] theorem onArm_cfg {f : Arm → Arm} : (s.onArm i f).cfg = s.cfg := (rfl)
@[simp] theorem onArm_node {f : Arm → Arm} : (s.onArm i f).node = s.node := (rfl)
@[simp] theorem onArm_inForce {f : Arm → Arm} : (s.onArm i f).inForce = s.inForce := (rfl)
@[simp] theorem onArm_per {f : Arm → Arm} : (s.onArm i f).per = s.per := (rfl)
@[simp] theorem onArm_timeline {f : Arm → Arm} : (s.onArm i f).timeline = s.timeline := (rfl)
@[simp] theorem onArm_tick {f : Arm → Arm} : (s.onArm i f).tick = s.tick := (rfl)
@[simp] theorem onArm_nextS {f : Arm → Arm} : (s.onArm i f).nextS = s.nextS := (rfl)
@[simp] theorem onTherm_event {f : ThermCell → ThermCell} {c : Nat} {d : Bytes} : ((s.onTherm i f).event c d).evs = (s.event c d).evs := (rfl)
@[simp] theorem onTherm_jEvent {f : ThermCell → ThermCell} {a c e : Nat} {d : Bytes} : ((s.onTherm i f).jEvent a c e d).jnl = (s.jEvent a c e d).jnl := (rfl)
@[simp] theorem onTherm_sysTime {f : ThermCell → ThermCell} : (s.onTherm i f).sysTime = s.sysTime := (rfl)
@[simp] theorem onTherm_cfg {f : ThermCell → ThermCell} : (s.onTherm i f).cfg = s.cfg := (rfl)
@[simp] theorem onTherm_node {f : ThermCell → ThermCell} : (s.onTherm i f).node = s.node := (rfl)
@[simp] theorem onTherm_inForce {f : ThermCell → ThermCell} : (s.onTherm i f).inForce = s.inForce := (rfl)
@[simp] theorem onTherm_per {f : ThermCell → ThermCell} : (s.onTherm i f).per = s.per := (rfl)
@[simp] theorem onTherm_timeline {f : ThermCell → ThermCell} : (s.onTherm i f).timeline = s.timeline := (rfl)
@[simp] theorem onTherm_tick {f : ThermCell → ThermCell} : (s.onTherm i f).tick = s.tick := (rfl)
@[simp] theorem onTherm_nextS {f : ThermCell → ThermCell} : (s.onTherm i f).nextS = s.nextS := (rfl)
@[simp] theorem onCell_event {f : Cell → Cell} {c : Nat} {d : Bytes} : ((s.onCell i f).event c d).evs = (s.event c d).evs := (rfl)
@[simp] theorem onCell_jEvent {f : Cell → Cell} {a c e : Nat} {d : Bytes} : ((s.onCell i f).jEvent a c e d).jnl = (s.jEvent a c e d).jnl := (rfl)
@[simp] theorem onCell_sysTime {f : Cell → Cell} : (s.onCell i f).sysTime = s.sysTime := (rfl)
@[simp] theorem onCell_cfg {f : Cell → Cell} : (s.onCell i f).cfg = s.cfg := (rfl)
@[simp] theorem onCell_node {f : Cell → Cell} : (s.onCell i f).node = s.node := (rfl)
@[simp] theorem onCell_inForce {f : Cell → Cell} : (s.onCell i f).inForce = s.inForce := (rfl)
@[simp] theorem onCell_per {f : Cell → Cell} : (s.onCell i f).per = s.per := (rfl)
@[simp] theorem onCell_timeline {f : Cell → Cell} : (s.onCell i f).timeline = s.timeline := (rfl)
@[simp] theorem onCell_tick {f : Cell → Cell} : (s.onCell i f).tick = s.tick := (rfl)
@[simp] theorem onCell_nextS {f : Cell → Cell} : (s.onCell i f).nextS = s.nextS := (rfl)
@[simp] theorem onTalk_event {f : Talk → Talk} {c : Nat} {d : Bytes} : ((s.onTalk i f).event c d).evs = (s.event c d).evs := (rfl)
@[simp] theorem onTalk_jEvent {f : Talk → Talk} {a c e : Nat} {d : Bytes} : ((s.onTalk i f).jEvent a c e d).jnl = (s.jEvent a c e d).jnl := (rfl)
@[simp] theorem onTalk_sysTime {f : Talk → Talk} : (s.onTalk i f).sysTime = s.sysTime := (rfl)
@[simp] theorem onTalk_cfg {f : Talk → Talk} : (s.onTalk i f).cfg = s.cfg := (rfl)
@[simp] theorem onTalk_node {f : Talk → Talk} : (s.onTalk i f).node = s.node := (rfl)
@[simp] theorem onTalk_inForce {f : Talk → Talk} : (s.onTalk i f).inForce = s.inForce := (rfl)
@[simp] theorem onTalk_per {f : Talk → Talk} : (s.onTalk i f).per = s.per := (rfl)
@[simp] theorem onTalk_timeline {f : Talk → Talk} : (s.onTalk i f).timeline = s.timeline := (rfl)
@[simp] theorem onTalk_tick {f : Talk → Talk} : (s.onTalk i f).tick = s.tick := (rfl)
@[simp] theorem onTalk_nextS {f : Talk → Talk} : (s.onTalk i f).nextS = s.nextS := (rfl)

end State

end Sys2Proof.Machine
end

