-- ==== Sys2Proof/Laws/Steps.lean ====
section
/-! SUPPORT. Lemmas of the operations that the commands share, for statements about single commands: what an operation leaves alone, what a command that
is accepted or rejected does to HOST, what stays sent, and that every command goes on. -/
namespace Sys2Proof.Machine
set_option linter.all false
open State
theorem partner_ne (a : Nat) : partner a ≠ a := by
  intro h
  have : a ^^^ (a ^^^ 1) = 0 := by rw [show a ^^^ 1 = a from h, Nat.xor_self]
  rw [← Nat.xor_assoc, Nat.xor_self, Nat.zero_xor] at this
  cases this
theorem ne_partner (a : Nat) : a ≠ partner a := fun h => partner_ne a h.symm
theorem adc1_adcFlt {s : State} {i a b : Nat} : (adcFlt i a s).adc1 b = s.adc1 b := rfl
@[simp] theorem adcFlt_img {s : State} {i a : Nat} : (adcFlt i a s).img = s.img := (rfl)
@[simp] theorem adcFlt_now {s : State} {i a : Nat} : (adcFlt i a s).now = s.now := (rfl)
@[simp] theorem adcFlt_adcs {s : State} {i a : Nat} : (adcFlt i a s).adc.adcs = s.adc.adcs := (rfl)
@[simp] theorem laneStep_lane {f : State → State} {s : State} : (laneStep f s).lane = (f s).lane := by unfold laneStep; simp only []; split <;> rfl
@[simp] theorem laneStep_img {f : State → State} {s : State} : (laneStep f s).img = (f s).img := by unfold laneStep; simp only []; split <;> rfl
/-- What a command has sent stays sent. -/
theorem mem_finish {s : State} {p h : Nat} {o : Out} (k : o ∈ s.out) : o ∈ (s.finish p h).out := by
  unfold finish
  simp only [State.emits]
  split <;> simp [State.emits, k]
@[simp] theorem t30 : Nat.testBit 3 0 = true := rfl
@[simp] theorem t31 : Nat.testBit 3 1 = true := rfl
section
variable {s : State}
@[simp] theorem outsSync_st : (outsSync s).clk.st = s.clk.st := (rfl)
@[simp] theorem outsSync_refFreq : (outsSync s).clk.refFreq = s.clk.refFreq := (rfl)
@[simp] theorem outsSync_refPresent : (outsSync s).clk.refPresent = s.clk.refPresent := (rfl)
@[simp] theorem outsSync_refBad : (outsSync s).clk.refBad = s.clk.refBad := (rfl)
@[simp] theorem outsSync_onFallback : (outsSync s).clk.onFallback = s.clk.onFallback := (rfl)
@[simp] theorem outsSync_stepAt : (outsSync s).clk.stepAt = s.clk.stepAt := (rfl)
@[simp] theorem outsSync_fails : (outsSync s).clk.fails = s.clk.fails := (rfl)
@[simp] theorem outsSync_waiting : (outsSync s).clk.waiting = s.clk.waiting := (rfl)
@[simp] theorem outsSync_started : (outsSync s).clk.started = s.clk.started := (rfl)
@[simp] theorem outsSync_load : (outsSync s).clk.load = s.clk.load := (rfl)
@[simp] theorem outsSync_outSt : (outsSync s).clk.outSt = s.clk.outSt := (rfl)
@[simp] theorem outsSync_evt : (outsSync s).clk.evt = s.clk.evt := (rfl)
@[simp] theorem outsSync_slewing : (outsSync s).clk.slewing = s.clk.slewing := (rfl)
@[simp] theorem outsSync_holdErr : (outsSync s).clk.holdErr = s.clk.holdErr := (rfl)
@[simp] theorem outsSync_refChanged : (outsSync s).clk.refChanged = s.clk.refChanged := (rfl)
@[simp] theorem outsSync_diverged : (outsSync s).clk.diverged = s.clk.diverged := (rfl)
@[simp] theorem outsSync_pllM : (outsSync s).clk.pllM = s.clk.pllM := (rfl)
@[simp] theorem outsSync_pllF : (outsSync s).clk.pllF = s.clk.pllF := (rfl)
@[simp] theorem outsSync_now : (outsSync s).now = s.now := (rfl)
@[simp] theorem outsSync_ofs : (outsSync s).ofs = s.ofs := (rfl)
@[simp] theorem loadFail_clk {d : Nat} : (loadFail d s).clk = { s.clk with load := s.clk.load.map fun l => if l.sure then l else { l with bad := setBit l.bad d } } := (rfl)
@[simp] theorem loadFail_now {d : Nat} : (loadFail d s).now = s.now := (rfl)
@[simp] theorem loadFail_img {d : Nat} : (loadFail d s).img = s.img := (rfl)
@[simp] theorem outpllRelock_now : (outpllRelock s).now = s.now := (rfl)
@[simp] theorem outpllRelock_ofs : (outpllRelock s).ofs = s.ofs := (rfl)
end
theorem clockLost_off {s : State} (h : s.mode.mode = 0) : s.clockLost = s := by simp [clockLost, h]
@[simp] theorem outsSync_mode {s : State} : (outsSync s).mode = s.mode := (rfl)
@[simp] theorem loadFail_mode {d : Nat} {s : State} : (loadFail d s).mode = s.mode := (rfl)
theorem activeCovered_congr {s u : State} (h : u.pair = s.pair) (k : u.img = s.img) (n : u.now = s.now) : u.activeCovered = s.activeCovered := by
  unfold activeCovered partnerHealthy tick kF role cfg
  rw [h, k, n]
theorem modeTo_mode {s : State} {m : Nat} {own : Bool} : (s.modeTo m own).mode.mode = m := by
  unfold modeTo
  by_cases h : s.mode.mode = m
  · simp [h]
  · simp only [h, if_false]
    by_cases h0 : m = 0 <;> simp [h0]
theorem testBit_setBit {m i j : Nat} : (setBit m i).testBit j = (decide (i = j) || m.testBit j) := by
  rw [setBit, Nat.testBit_or, Nat.one_shiftLeft, Nat.testBit_two_pow, Bool.or_comm]
theorem outsSync_runs {s : State} : (outsSync s).clk.outs.map (·.run) = s.clk.outs.map s.outMay := by
  simp only [outsSync, onClk_clk, List.map_map]
  refine List.map_congr_left fun o _ => ?_
  simp only [Function.comp]
  cases h : s.outMay o <;> cases k : o.run <;> simp [k]
theorem outsSync_off {s : State} (h : s.clk.outSt ≠ 2) : ∀ o ∈ (outsSync s).clk.outs, o.run = false := by
  intro o ho
  have : o.run ∈ (outsSync s).clk.outs.map (·.run) := List.mem_map_of_mem ho
  rw [outsSync_runs, List.mem_map] at this
  obtain ⟨x, _, hx⟩ := this
  rw [← hx]
  simp [outMay, h]
theorem outsSync_getD {s : State} {n : Nat} : (at' (outsSync s).clk.outs n {}).en = (at' s.clk.outs n {}).en ∧
    (at' (outsSync s).clk.outs n {}).offZ = (at' s.clk.outs n {}).offZ ∧ (at' (outsSync s).clk.outs n {}).fmt = (at' s.clk.outs n {}).fmt ∧
    (at' (outsSync s).clk.outs n {}).div = (at' s.clk.outs n {}).div := by
  simp only [outsSync, onClk_clk, at', List.getD, List.getElem?_map]
  cases s.clk.outs[n]? with
  | none => simp
  | some o =>
    simp only [Option.map_some, Option.getD_some]
    by_cases h : (s.outMay o && o.run) = true <;> simp [h]
theorem Reaches.direct {ifc : Iface} {off dom : Nat} {b : State} (h : Reaches ifc.src off dom b) {v : Word} {c : State → Bool} {f : State → State} :
    State.direct ifc dom off v c f b = f (if c b then b.jDirect ifc.src off v else b) := by
  simp [State.direct, State.writable, h.here, h.awake, h.on, h.serves]
theorem Reaches.readable {src : Src} {off dom n : Nat} {b : State} (h : Reaches src off dom b) {f : State → State} :
    State.readable src dom off n f b = f b := by
  simp [State.readable, h.here, h.awake, h.on]
theorem jDirect_frame' {s : State} {src : Src} {o : Nat} {v : Word} {c : Bool} : Frame 1024 s (if c then s.jDirect src o v else s) := by
  cases c <;> simp
theorem jDirect_eq {s : State} {src : Src} {o : Nat} {v : Word} {c : Bool} : ∃ j, (if c then s.jDirect src o v else s) = s.withHJ s.host j := by
  cases c
  · exact ⟨s.jnl, rfl⟩
  · exact ⟨_, rfl⟩
section
variable {s : State} {w k : Nat}
theorem driveTripn_ex (y : State) (c : CmpB) (h : y.cmp = c) : ∃ d i e, y.driveTripn.cmp = { c with driving := d, ignoring := i, ignoreEnd := e } :=
  h ▸ ⟨_, _, _, rfl⟩
theorem stageNext_up {v thr h : Int} {o : Option Bool} (g : thr < v) : stageNext true v thr h o = some true := by simp [stageNext, g]
theorem stageNext_down {v thr h : Int} {o : Option Bool} (g : v < thr - h) (p : ¬thr < v) : stageNext true v thr h o = some false := by simp [stageNext, g, p]
/-- The stages of a comparator in service take its input. -/
theorem cmpStages_on {nv : Int} (hn : (s.cmp1 k).nv = some nv) (ho : (s.cmp1 k).on = true) (hc : (s.cmp1 k).checking = false) :
    s.cmpStages k = s.onCmp1 k fun x => { x with
      hi := stageNext true (16 * nv) (thrLevel (s.cmp1 k).thrHi (cmpTrim k s)) (((s.cmpDecl k).hyst : Int) * 23437500) (s.cmp1 k).hi
      lo := stageNext false (16 * nv) (thrLevel (s.cmp1 k).thrLo (cmpTrim k s)) (((s.cmpDecl k).hyst : Int) * 23437500) (s.cmp1 k).lo } := by
  unfold cmpStages
  simp only [onCmp1, onCmp]
  congr 2
  refine modAt_congr {} ?_
  simp only [cmp1, at'] at hn ho hc ⊢
  simp only [hn, ho, hc, Bool.not_true, Bool.or_self, Bool.false_eq_true, if_false]
theorem cmpStages_none (h : (s.cmp1 k).nv = none) : s.cmpStages k = s := by
  have e : modAt s.cmp.cmps k (fun x => match x.nv with
    | none => x
    | some nv => if !x.on || x.checking then x else { x with
      hi := stageNext true (16 * nv) (thrLevel x.thrHi (cmpTrim k s)) (((s.cmpDecl k).hyst : Int) * 23437500) x.hi
      lo := stageNext false (16 * nv) (thrLevel x.thrLo (cmpTrim k s)) (((s.cmpDecl k).hyst : Int) * 23437500) x.lo }) = s.cmp.cmps := by
    refine modAt_id {} ?_
    simp only [cmp1, at'] at h
    simp only [h]
  unfold cmpStages
  simp only [onCmp1, onCmp]
  exact congrArg (fun y => { s with cmp := { s.cmp with cmps := y } }) e
/-- A release: the latches it frees, TRIPN following; nothing else of CMP. -/
theorem clearTrips_eq {ws : List Nat} : ∃ d i e, (s.clearTrips ws).cmp = { s.cmp with
    latch := s.cmp.latch.mapIdx fun i x => x && !ws.contains i, driving := d, ignoring := i, ignoreEnd := e } := by
  have e : ∀ (l : List Nat) (f : Nat → State → State) (z : State), (∀ q z, (f q z).cmp = z.cmp) → (each l f z).cmp = z.cmp := by
    intro l f z h
    induction l generalizing z with
    | nil => rfl
    | cons a l ih => exact (ih (f a z)).trans (h a z)
  unfold clearTrips
  refine driveTripn_ex _ { s.cmp with latch := s.cmp.latch.mapIdx fun i x => x && !ws.contains i } ?_
  rw [e]
  · simp
  · intro q z
    rw [e]
    intro c z
    split
    · exact (by simp : Frame (4096 + 4) z (z.sendCtrl c 9 0 [] 4)).keeps .cmp rfl
    · rfl
theorem clearTrips_latch {ws : List Nat} : (s.clearTrips ws).cmp.latch = s.cmp.latch.mapIdx fun i x => x && !ws.contains i := by
  obtain ⟨_, _, _, h⟩ := clearTrips_eq (s := s) (ws := ws)
  rw [h]
theorem clearTrips_rel {ws : List Nat} : (s.clearTrips ws).cmp.releases = s.cmp.releases := by
  obtain ⟨_, _, _, h⟩ := clearTrips_eq (s := s) (ws := ws)
  rw [h]
theorem latched_finish {p q i : Nat} : (finish p q s).latched i = s.latched i := by simp [latched]
end
/-- A property every step of a list keeps. -/
theorem each_keeps {α : Type} (P : State → Prop) (l : List α) (f : α → State → State) (s : State) (h : P s) (k : ∀ a ∈ l, ∀ z, P z → P (f a z)) :
    P (each l f s) := by
  induction l generalizing s with
  | nil => exact h
  | cons a l ih => exact ih (f a s) (k a (.head _) s h) fun b hb => k b (.tail _ hb)
/-- A value every step of a list keeps. -/
theorem each_val {α β : Type} (r : State → β) (l : List α) (f : α → State → State) (s : State) (k : ∀ a z, r (f a z) = r z) :
    r (each l f s) = r s := each_keeps (fun z => r z = r s) l f s rfl fun a _ z h => (k a z).trans h
theorem thermEnter_bal {s : State} {o c : Nat} : ∃ f k, (s.thermEnter o c).bal = { s.bal with flt := f, fltCell := k } := by
  have hb : ∀ z : State, (z.sendBypass c).bal = z.bal := fun z => (by simp : Frame 8392708 z (z.sendBypass c)).keeps .bal rfl
  unfold thermEnter
  simp only []
  repeat' split
  all_goals first
    | exact ⟨_, _, rfl⟩
    | (rw [hb]; exact ⟨_, _, rfl⟩)
theorem thermStep_cells {s : State} {p : List Word} {c : Nat} (h : (s.therm c).ch.isEmpty = false) (hc : c < s.bal.cells.length) (hs : (s.cell c).stale = true) :
    ((s.thermStep p c).therm c).pass = (s.therm c).pass + 1 ∧ ((s.thermStep p c).therm c).pwr = p.foldl F32.add 0 ∧
    ((s.thermStep p c).therm c).dth = F32.add (s.therm c).dth (F32.mul (s.bOf (s.kind c).tauH) (F32.sub (F32.mul (s.kind c).rH (p.foldl F32.add 0)) (s.therm c).dth)) ∧
    (s.thermStep p c).bal.prevCells = s.bal.prevCells := by
  unfold thermStep
  simp only [h, hs, if_true, if_false, Bool.false_eq_true]
  rw [therm_onTherm hc]
  exact ⟨rfl, rfl, rfl, rfl⟩
theorem flatMap_le_length (l : List Word) : (l.flatMap fun v => le 4 v.toNat).length = 4 * l.length := by
  induction l with
  | nil => rfl
  | cons a l ih => simp [ih]; omega
/-- The words of a payload after a head of n bytes. -/
theorem payWords_eq (hd : Bytes) (l : List Word) : payWords (hd ++ l.flatMap fun v => le 4 v.toNat) hd.length = l := by
  have len : (hd ++ l.flatMap fun v => le 4 v.toNat).length - hd.length = 4 * l.length := by rw [List.length_append, flatMap_le_length]; omega
  have key : ∀ (l : List Word) (hd : Bytes) (i : Nat) (h : i < l.length), fieldW (hd ++ l.flatMap fun v => le 4 v.toNat) (hd.length + 4 * i) = l[i] := by
    intro l hd i h
    have e : field (hd ++ l.flatMap fun v => le 4 v.toNat) (hd.length + 4 * i) 4 = field (l.flatMap fun v => le 4 v.toNat) (4 * i) 4 := by
      have : List.drop (hd.length + 4 * i) hd = [] := List.drop_eq_nil_of_le (by omega)
      simp [field, slice, List.drop_append, this]
    rw [fieldW, e]
    clear e hd len
    induction l generalizing i with
    | nil => simp at h
    | cons a l ih =>
      simp only [List.flatMap_cons]
      cases i with
      | zero =>
        rw [Nat.mul_zero, field_le]
        exact BitVec.eq_of_toNat_eq (by have := a.isLt; simp; omega)
      | succ i =>
        rw [field_skip _ _ _ _ _ (by omega), show 4 * (i + 1) - 4 = 4 * i from by omega]
        exact ih i (by simpa using h)
  unfold payWords
  rw [len]
  have : 4 * l.length / 4 = l.length := by omega
  rw [this]
  refine List.ext_getElem (by simp) fun i h1 h2 => ?_
  simp only [List.getElem_map, List.getElem_range]
  exact key l hd i h2
/-- A property a step of a list establishes and every step keeps. -/
theorem each_sets {α : Type} (P : State → Prop) (l : List α) (f : α → State → State) (s : State) (a : α) (ha : a ∈ l) (I : State → Prop) (hI : I s)
    (hk : ∀ b z, I z → I (f b z)) (hs : ∀ z, I z → P (f a z)) (kp : ∀ b z, I z → P z → P (f b z)) : P (each l f s) := by
  induction l generalizing s with
  | nil => cases ha
  | cons b l ih =>
    by_cases h : a ∈ l
    · exact ih (f b s) h (hk b s hI)
    · have : b = a := by
        rcases List.mem_cons.mp ha with e | e
        · exact e.symm
        · exact absurd e h
      subst this
      exact (each_keeps (fun z => I z ∧ P z) l f (f b s) ⟨hk b s hI, hs s hI⟩ fun c _ z hz => ⟨hk c z hz.1, kp c z hz.1 hz.2⟩).2
section
variable {s : State} {k j : Nat} {v : Bool}
/-- A bench in range with a given FAULTED. -/
def atBench (k : Nat) (v : Bool) (z : State) : Prop := (z.bench k).faulted = v ∧ k < z.bnc.benches.length
theorem atBench_on {f : Bench → Bench} (h : atBench k v s) (hf : ∀ x, (f x).faulted = x.faulted) : atBench k v (s.onBench j f) := by
  refine ⟨?_, by simpa using h.2⟩
  by_cases e : j = k
  · subst e; rw [bench_onBench h.2, hf]; exact h.1
  · rw [bench_onBench_ne e]; exact h.1
theorem atBench_lmPut {a : Nat} {l : List Word} (h : atBench k v s) : atBench k v (s.lmPut j a l) := atBench_on h fun _ => rfl
theorem atBench_benches {f : Bnc → Bnc} (h : atBench k v s) (hf : ∀ x, (f x).benches = x.benches) : atBench k v (s.onBnc f) := by
  refine ⟨?_, by simpa [hf] using h.2⟩
  simpa [bench, hf] using h.1
theorem atBench_gains (h : atBench k v s) : atBench k v s.gainsApply := by
  unfold gainsApply
  split
  · exact h
  · exact each_keeps _ _ _ _ (atBench_benches h fun _ => rfl) fun _ _ _ h => atBench_lmPut h
theorem atBench_loops (h : atBench k v s) : atBench k v s.loopsStart := by
  refine each_keeps _ _ _ _ (atBench_benches h fun _ => rfl) fun c _ z h => ?_
  cases c <;> first | exact atBench_benches h fun _ => rfl | exact atBench_lmPut h
theorem atBench_control {w : Nat} (h : atBench k v s) : atBench k v (inControl w j s) :=
  atBench_lmPut (atBench_lmPut (atBench_lmPut h))
end
theorem startAt_bench {y : State} {k n : Nat} : (y.onBnc fun x => { x with startAt := n }).bench k = y.bench k := rfl
theorem startAt_eq {y : State} {n : Nat} : (y.onBnc fun x => { x with startAt := n }).bnc.startAt = n := rfl
theorem filter_range16 : ∀ k < 16, (List.range 16).filter (· == k) = [k] := by decide
/-! cells -/
section
variable {s : State} {c j : Nat}
/-- What a change of one talk leaves of every talk. -/
theorem talk_onTalk_inv {α : Type} (r : Talk → α) {f : Talk → Talk} (h : ∀ t, r (f t) = r t) : r ((s.onTalk c f).talk j) = r (s.talk j) := by
  by_cases e : c = j
  · subst e
    by_cases l : c < s.seam.talks.length
    · rw [talk_onTalk l, h]
    · have : modAt s.seam.talks c f = s.seam.talks := by
        simp only [modAt]
        exact List.modify_eq_self (by omega)
      simp only [talk, onTalk, onSeam_seam, this]
  · rw [talk_onTalk_ne e]
theorem onTalk_cell {f : Talk → Talk} : (s.onTalk c f).cell j = s.cell j := rfl
theorem onTalk_cells {f : Talk → Talk} : (s.onTalk c f).seam.cells = s.seam.cells := rfl
theorem onCell_talk {f : Cell → Cell} : (s.onCell c f).talk j = s.talk j := rfl
theorem onSeam_cell {f : SeamB → SeamB} (h : (f s.seam).cells = s.seam.cells) : (s.onSeam f).cell j = s.cell j := by
  simp only [cell, onSeam_seam, h]
theorem sendCtrl_cells {op a w : Nat} {d : Bytes} : (s.sendCtrl c op a d w).seam.cells = s.seam.cells := by
  unfold sendCtrl putCtrl
  split
  · rfl
  · simp only []
    split <;> rfl
theorem sendCtrl_cell {op a w : Nat} {d : Bytes} : (s.sendCtrl c op a d w).cell j = s.cell j := by simp only [cell, sendCtrl_cells]
theorem cellTo_cell {st r : Nat} (h : c < s.seam.cells.length) : ∃ e, (s.cellTo c st r).cell c = { s.cell c with
    st := st, reason := r, jstep := if st = 1 then (s.cell c).jstep else 0, evt := e } := by
  unfold cellTo
  simp only []
  split
  · rw [cell_onCell h]; exact ⟨_, rfl⟩
  · rw [cellEvt, cell_onCell (by simpa using h), cell_onCell h]; exact ⟨_, rfl⟩
theorem cellTo_talks {st r : Nat} : (s.cellTo c st r).seam.talks = s.seam.talks := by
  unfold cellTo
  simp only []
  split <;> rfl
theorem cellTo_talk {st r : Nat} : (s.cellTo c st r).talk j = s.talk j := by simp only [talk, cellTo_talks]
theorem sendBypass_cells : (s.sendBypass c).seam.cells = s.seam.cells := by
  unfold sendBypass
  rw [onTalk_cells, sendCtrl_cells]
theorem cellLeft_cells : (s.cellLeft c).seam.cells = s.seam.cells := by
  unfold cellLeft
  split
  · rfl
  · simp only []
    rw [onTalk_cells]
    split
    · rw [sendBypass_cells]; rfl
    · rfl
theorem exclude_cell {r : Nat} {b : Bool} (h : c < s.seam.cells.length) : ((s.exclude c r b).cell c).st = 6 ∧ ((s.exclude c r b).cell c).reason = r := by
  obtain ⟨e, h2⟩ := cellTo_cell (s := s.onTalk c talkDrop) (st := 6) (r := r) h
  have key : (s.exclude c r b).seam.cells = ((s.onTalk c talkDrop).cellTo c 6 r).seam.cells := by
    unfold exclude
    simp only []
    cases b
    · simp only [Bool.false_eq_true, if_false]; split
      · rw [cellLeft_cells]
      · rfl
    · simp only [if_true]; split
      · rw [cellLeft_cells, sendCtrl_cells]
      · rw [sendCtrl_cells]
  have key2 : (s.exclude c r b).cell c = ((s.onTalk c talkDrop).cellTo c 6 r).cell c := by simp only [cell, key]
  rw [key2, h2]
  exact ⟨rfl, rfl⟩
theorem joinStart_cell (h : c < s.seam.cells.length) : ((s.joinStart c).cell c).st = 1 ∧ ((s.joinStart c).cell c).jstep = 1 := by
  unfold joinStart
  simp only []
  rw [sendCtrl_cell, jStep, cell_onCell ?_]
  · exact ⟨rfl, rfl⟩
  · have : ∀ (z : State) (a b : Nat), (z.cellTo c a b).seam.cells.length = z.seam.cells.length := by
      intro z a b; unfold cellTo; simp only []; split <;> simp [cellEvt]
    rw [this]; exact h
theorem finish_cell {p q : Nat} : (finish p q s).cell j = s.cell j := by simp [cell]
theorem finish_talk {p q : Nat} : (finish p q s).talk j = s.talk j := by simp [talk]
theorem keeps_cell {x u : State} {m : Nat} (h : Frame m x u) (k : Part.same .seam x u) : u.cell j = x.cell j := by simp only [Part.same] at k; simp only [cell, k]
theorem cell_of {x u : State} (k : u.seam = x.seam) : u.cell j = x.cell j := by simp only [cell, k]
theorem talk_of {x u : State} (k : u.seam = x.seam) : u.talk j = x.talk j := by simp only [talk, k]
theorem filterClear_cells : (s.filterClear c).seam.cells = s.seam.cells := by
  unfold filterClear
  simp only []
  repeat' split
  all_goals simp only [sendCtrl_cells, onSeam_seam]
theorem cutCell_cell (h : c < s.seam.cells.length) : ((s.cutCell c).cell c).st = 6 ∧ ((s.cutCell c).cell c).reason = 9 := by
  unfold cutCell
  simp only []
  refine exclude_cell ?_
  repeat' split
  all_goals simp only [sendCtrl_cells, onSeam_seam]
  all_goals exact h
theorem Hears.epochOk {f : FrameHdr} {kind tag : Nat} {b : State} (h : Hears f kind tag b) (k : State → State) : State.epochOk f.cell f.epoch k b = k b := by
  have l0 : later 16 f.epoch b.seam.epoch = false := by
    have : (b.seam.epoch + 65536 - b.seam.epoch % 65536) % 65536 = 0 := by omega
    rw [h.epoch]; simp [later, serialDiff, this]
  unfold State.epochOk
  rw [if_neg (by simp [l0]), if_neg (by simp [h.epoch])]
theorem feedTake_quiet {p : Nat} {v : FeedVals} (hl : c < s.seam.cells.length) (hk : c < s.seam.talks.length) (h2 : (s.cell c).st = 2) (h0 : v.status.testBit 0 = true) (hb2 : v.status.testBit 2 = false)
    (hb3 : v.status.testBit 3 = false) (hb5 : v.status.testBit 5 = false) (hb9 : v.status.testBit 9 = false) (he : echo (s.talk c) v ≠ some false) :
    s.feedTake c p v = (s.onCell c fun x =>
      { x with
        tlock := true, byp := false, tripped := v.status.testBit 4, holdCnt := v.holdCnt % 256, holds := x.holds }).onTalk c fun t => { t with feed := some (p, v) } := by
  unfold feedTake
  simp only [h0, hb5, hb2, Bool.not_true, Bool.and_false, Bool.false_and, Bool.false_eq_true, if_false]
  unfold feedState
  have hc : ((onTalk c (fun t => { t with feed := some (p, v) }) (s.onCell c fun x =>
      { x with
        tlock := true, byp := false, tripped := v.status.testBit 4, holdCnt := v.holdCnt % 256, holds := x.holds })).cell c).st = 2 := by
    rw [onTalk_cell, cell_onCell hl]; exact h2
  have ht : echo ((onTalk c (fun t => { t with feed := some (p, v) }) (s.onCell c fun x =>
      { x with
        tlock := true, byp := false, tripped := v.status.testBit 4, holdCnt := v.holdCnt % 256, holds := x.holds })).talk c) v = echo (s.talk c) v := by
    rw [talk_onTalk (by exact hk)]; rfl
  simp only [hc, ht, hb3, hb5, hb9, hb2]
  simp [he]
end
/-! the edge scheduler -/
section
variable {s : State}
@[simp] theorem holdCell_edg {c : Nat} : (s.holdCell c).edg = s.edg := by
  unfold holdCell; split
  · exact (by simp : Frame 4096 s (s.cellTo c 3 0)).keeps .edg rfl
  · rfl
@[simp] theorem holdCell_comp {c : Nat} : (s.holdCell c).comp = s.comp := by
  unfold holdCell; split
  · exact (by simp : Frame 4096 s (s.cellTo c 3 0)).keeps .comp rfl
  · rfl
end
/-- The references of the groups are the same, and so are the period and DONE of the compile. -/
def SameRefs (z w : State) : Prop := w.comp.per = z.comp.per ∧ w.comp.done = z.comp.done ∧
  w.edg.grps.map (·.frozen) = z.edg.grps.map (·.frozen) ∧ w.edg.grps.map (·.committed) = z.edg.grps.map (·.committed)
theorem SameRefs.trans {z w x : State} (h : SameRefs z w) (k : SameRefs w x) : SameRefs z x :=
  ⟨k.1.trans h.1, k.2.1.trans h.2.1, k.2.2.1.trans h.2.2.1, k.2.2.2.trans h.2.2.2⟩
theorem SameRefs.refl {z : State} : SameRefs z z := ⟨rfl, rfl, rfl, rfl⟩
theorem SameRefs.each {α : Type} {l : List α} {f : α → State → State} {s : State} (k : ∀ a z, SameRefs z (f a z)) : SameRefs s (each l f s) :=
  each_keeps (SameRefs s) l f s .refl fun a _ z h => h.trans (k a z)
theorem SameRefs.edg {z : State} {f : Edg → Edg} (h : (f z.edg).grps = z.edg.grps) : SameRefs z (z.onEdg f) :=
  ⟨rfl, rfl, congrArg (List.map (·.frozen)) h, congrArg (List.map (·.committed)) h⟩
theorem SameRefs.comp {z : State} {f : Comp → Comp} (h : (f z.comp).per = z.comp.per) (k : (f z.comp).done = z.comp.done) : SameRefs z (z.onComp f) :=
  ⟨h, k, rfl, rfl⟩
theorem modAt_map {α β : Type} (g : α → β) (f : α → α) (h : ∀ a, g (f a) = g a) (l : List α) (i : Nat) : (modAt l i f).map g = l.map g := by
  simp only [modAt]
  induction l generalizing i with
  | nil => simp
  | cons a l ih => cases i <;> simp [h, ih]
theorem readGrp_refs {g : Nat} {z : State} : SameRefs z (readGrp g z) := by
  unfold readGrp
  refine .trans (w := z.onGrp g _) ⟨rfl, rfl, modAt_map _ _ ?_ _ _, modAt_map _ _ ?_ _ _⟩ (.edg rfl) <;> exact fun _ => rfl
theorem edgCount_refs {b : Bool} {i : Nat} {l : List Wave} {z : State} : SameRefs z (edgCount b i l z) := by
  unfold edgCount
  split
  · exact (SameRefs.edg rfl).trans (.edg rfl)
  · exact .edg rfl
theorem putCell_refs {k c : Nat} {z : State} : SameRefs z (putCell k c z) := by
  unfold putCell
  simp only []
  split
  · exact ((edgCount_refs.trans (.edg rfl)).trans (.comp rfl rfl)).trans (.edg rfl)
  · exact (edgCount_refs.trans (.edg rfl)).trans (.comp rfl rfl)
theorem putLocals_refs {p : Nat} {z : State} : SameRefs z (putLocals p z) := by
  unfold putLocals
  simp only []
  refine .trans ?_ (.comp rfl rfl)
  refine .trans ?_ (.edg rfl)
  exact edgCount_refs.trans (.each fun _ _ => .edg rfl)
theorem rankStale_refs {z : State} : SameRefs z z.rankStale := by
  unfold rankStale
  simp only []
  split
  · exact (SameRefs.comp rfl rfl).trans (.edg rfl)
  · exact .comp rfl rfl
theorem waits_img {y : State} : (if y.img.hostWait then y else ((y.imgSts fun i => { i with hostWait := true }).imgIrq)).img.hostWait = true := by
  cases h : y.img.hostWait
  · rfl
  · exact h
theorem bench_of {w x : State} {k : Nat} (h : x.bnc = w.bnc) : x.bench k = w.bench k := by unfold bench; rw [h]
/-- What decides a release of bench k, and what it releases. -/
def RelSame (k : Nat) (z w : State) : Prop := w.pwr = z.pwr ∧ w.img = z.img ∧ w.bnc.loops.map (·.st) = z.bnc.loops.map (·.st) ∧ (w.bench k).mem = (z.bench k).mem ∧
  (w.bench k).ended = (z.bench k).ended ∧ (w.bench k).withheld = (z.bench k).withheld ∧ (w.bench k).faulted = (z.bench k).faulted
theorem RelSame.refl {k : Nat} {z : State} : RelSame k z z := ⟨rfl, rfl, rfl, rfl, rfl, rfl, rfl⟩
theorem RelSame.trans {k : Nat} {z w x : State} (h : RelSame k z w) (g : RelSame k w x) : RelSame k z x :=
  ⟨g.1.trans h.1, g.2.1.trans h.2.1, g.2.2.1.trans h.2.2.1, g.2.2.2.1.trans h.2.2.2.1, g.2.2.2.2.1.trans h.2.2.2.2.1, g.2.2.2.2.2.1.trans h.2.2.2.2.2.1,
    g.2.2.2.2.2.2.trans h.2.2.2.2.2.2⟩
theorem onBench_of {α : Type} {k c : Nat} {f : Bench → Bench} {z : State} (r : Bench → α) (h : ∀ x, r (f x) = r x) : r ((onBench c f z).bench k) = r (z.bench k) := by
  show r ((modAt z.bnc.benches c f).getD k {}) = r (z.bnc.benches.getD k {})
  by_cases e : c = k
  · subst e
    by_cases l : c < z.bnc.benches.length
    · rw [getD_modAt l, h]
    · rw [List.getD_eq_getElem?_getD, List.getD_eq_getElem?_getD, List.getElem?_eq_none (by rw [modAt_length]; omega), List.getElem?_eq_none (by omega)]
  · rw [getD_modAt_ne e]
theorem benchRelease_same {k c : Nat} {z : State} : RelSame k z (benchRelease c z) := by
  unfold benchRelease
  split
  · exact .refl
  · simp only []
    refine RelSame.trans (w := onBench c (fun x => { x with rel := z.releaseWords c }) z) ⟨rfl, rfl, rfl, onBench_of (·.mem) fun _ => rfl,
      onBench_of (·.ended) fun _ => rfl, onBench_of (·.withheld) fun _ => rfl, onBench_of (·.faulted) fun _ => rfl⟩ ?_
    refine each_keeps (RelSame k _) _ _ _ .refl fun d _ w h => h.trans ⟨rfl, rfl, modAt_map _ _ ?_ _ _, rfl, rfl, rfl, rfl⟩
    exact fun _ => rfl
theorem benchRelease_other {k c : Nat} {z : State} (e : c ≠ k) : (benchRelease c z).bench k = z.bench k := by
  unfold benchRelease
  split
  · rfl
  · simp only []
    refine Eq.trans (each_keeps (fun w => w.bench k = (onBench c (fun x => { x with rel := z.releaseWords c }) z).bench k) _ _ _ rfl ?_) ?_
    · exact fun d _ w h => h
    exact getD_modAt_ne e
theorem RelSame.releases {k : Nat} {z w : State} (h : RelSame k z w) : w.releases k = z.releases k := by
  have e : w.cfg = z.cfg := congrArg (fun i : Img => i.desc.getD {}) h.2.1
  unfold State.releases benchOn benchDecl
  rw [e, h.1, h.2.2.2.2.1, h.2.2.2.2.2.1, h.2.2.2.2.2.2]
theorem loop_st {z w : State} (h : w.bnc.loops.map (·.st) = z.bnc.loops.map (·.st)) (d : Nat) : (w.loopS d).st = (z.loopS d).st := by
  have g : ∀ l : List Loop, (l.getD d {}).st = (l.map (·.st)).getD d 0 := fun l => by
    rw [List.getD_eq_getElem?_getD, List.getD_eq_getElem?_getD, List.getElem?_map]
    cases l[d]? <;> rfl
  show (w.bnc.loops.getD d {}).st = (z.bnc.loops.getD d {}).st
  rw [g, g, h]
theorem foldl_id {α β : Type} (f : β → α → β) (l : List α) (b : β) (h : ∀ a ∈ l, ∀ x, f x a = x) : l.foldl f b = b := by
  induction l generalizing b with
  | nil => rfl
  | cons a l ih => rw [List.foldl_cons, h a (.head _), ih _ fun c hc => h c (.tail _ hc)]
/-- A bench whose loops are all closed releases its OUT words. -/
theorem releaseWords_closed {k : Nat} {z : State} (h : ∀ d ∈ z.cfg.loops, d.bench = k → (z.loopS d.num).st ≠ 1) :
    z.releaseWords k = Sparse.gets 0 (z.bench k).mem 0x2000 512 := by
  unfold releaseWords
  simp only []
  refine foldl_id _ _ _ fun d hd x => if_neg fun c => h d hd c.1 c.2
theorem benchRelease_own {k : Nat} {z : State} (h : z.releases k = true) (hc : ∀ d ∈ z.cfg.loops, d.bench = k → (z.loopS d.num).st ≠ 1) (hk : k < z.bnc.benches.length) :
    ((benchRelease k z).bench k).rel = Sparse.gets 0 (z.bench k).mem 0x2000 512 := by
  unfold benchRelease
  rw [if_neg (by rw [h]; decide)]
  simp only []
  refine Eq.trans (each_keeps (fun w => (w.bench k).rel = ((onBench k (fun x => { x with rel := z.releaseWords k }) z).bench k).rel) _ _ _ rfl ?_) ?_
  · exact fun d _ w h => h
  refine (congrArg Bench.rel (getD_modAt hk)).trans ?_
  exact releaseWords_closed hc
theorem benchRelease_length {c : Nat} {z : State} : (benchRelease c z).bnc.benches.length = z.bnc.benches.length := by
  unfold benchRelease
  split
  · rfl
  · simp only []
    refine Eq.trans (each_keeps (fun w => w.bnc.benches.length = z.bnc.benches.length) _ _ _ ?_ ?_) rfl
    · exact modAt_length
    · exact fun d _ w h => h
theorem jFlush_next {l : List JWait} {j : Jnl} : (jFlush l j).next = j.next := by
  induction l generalizing j with
  | nil => rfl
  | cons w ws ih =>
    unfold jFlush
    split
    · exact ih
    · rfl
theorem jAdd_next {e : JEntry} {k : Bool} {z : State} : (jAdd e k z).jnl.next = z.jnl.next + 1 := by
  unfold jAdd
  simp only [onJnl_jnl]
  exact jFlush_next
theorem jEvent_next {o a q : Nat} {d : Bytes} {z : State} : (jEvent o a q d z).jnl.next = z.jnl.next + 1 := jAdd_next
theorem ctlWord_bits {z : State} (h : z.pwr.target < 4) : bits (z.ctlWord 0).toNat 31 30 = z.pwr.target ∧ tbit (z.ctlWord 0).toNat 0 = true ∧ tbit (z.ctlWord 0).toNat 1 = false ∧
    bits (z.ctlWord 1).toNat 31 30 = z.pwr.target ∧ tbit (z.ctlWord 1).toNat 0 = false ∧ tbit (z.ctlWord 1).toNat 1 = true := by
  unfold ctlWord
  have : z.pwr.target = 0 ∨ z.pwr.target = 1 ∨ z.pwr.target = 2 ∨ z.pwr.target = 3 := by omega
  rcases this with e | e | e | e <;> rw [e] <;> decide
theorem ctlWarm {z : State} (ht : z.pwr.target < 4) (hb : z.pwrBusy = false) : z.ctlRefusal (z.ctlWord 0) = none := by
  obtain ⟨e1, e2, e3, -⟩ := ctlWord_bits ht
  unfold ctlRefusal
  simp only [e1, e2, e3, hb, bne_self_eq_false]
  simp
theorem ctlReload {z : State} (ht : z.pwr.target < 4) (hb : z.pwrBusy = false) (hm : z.mode.mode = 0 ∨ z.img.hostWait = true) : z.ctlRefusal (z.ctlWord 1) = none := by
  obtain ⟨-, -, -, e1, e2, e3⟩ := ctlWord_bits ht
  unfold ctlRefusal
  simp only [e1, e2, e3, hb, bne_self_eq_false]
  rcases hm with h | h <;> simp [h]
theorem pwrDirect_ctl {z : State} {ifc : Iface} {v : Word} (hv : z.viewed ifc.src 0x220004 = false) (hw : z.pwr.warm = false) (h : z.ctlRefusal v = none) :
    pwrDirect ifc 0x220004 v z = (z.jDirect ifc.src 0x220004 v).ctlWrite ifc.src v := by
  unfold pwrDirect
  rw [if_neg (by rw [hv]; decide), if_neg (by rw [hw]; decide)]
  simp only [show ((0x220004 : Nat) == 0x22000C) = false from rfl, Bool.false_eq_true, if_false, h, Bool.false_and]
theorem notBusy {z : State} (h : z.pwrBusy = false) : z.pwr.warm = false := by
  unfold pwrBusy at h
  simp_all
theorem gopDiscard_host {z : State} (h : z.host.opens = []) : z.gopDiscard.host = z.host := by
  unfold gopDiscard
  extract_lets m any
  have k : ∀ (c : Bool) (a b : State), a.host = z.host → b.host = z.host → (if c then a else b).host = z.host := by
    intro c a b h1 h2
    cases c
    · exact h2
    · exact h1
  refine k _ _ _ rfl ?_
  rename_i a1 a2 a3
  have e : a3.host = z.host := rfl
  rw [e, h]
  exact e
theorem meshWarm_host {z : State} (h : z.host.opens = []) : z.meshWarm.host = z.host := by
  unfold meshWarm
  rw [onMesh_host]
  exact gopDiscard_host h
theorem imgSts_pwr {f : Img → Img} {z : State} : (imgSts f z).pwr = z.pwr := rfl
theorem imgSts_cmp {f : Img → Img} {z : State} : (imgSts f z).cmp = z.cmp := rfl
theorem seamWarm_cell {z : State} (c : Nat) : (at' z.seamWarm.seam.cells c {}).st = 0 := by
  show Cell.st (List.getD (List.map _ _) c _) = 0
  rw [List.getD_eq_getElem?_getD, List.getElem?_map]
  cases z.cellsAbsent.seam.cells[c]? <;> rfl
theorem mem_modAt {α : Type} {l : List α} {i : Nat} {f : α → α} {y : α} (h : y ∈ modAt l i f) : ∃ x ∈ l, y = x ∨ y = f x := by
  simp only [modAt] at h
  induction l generalizing i with
  | nil => simp at h
  | cons a l ih =>
    cases i with
    | zero =>
      simp only [List.modify_zero_cons, List.mem_cons] at h
      rcases h with rfl | h
      · exact ⟨a, .head _, .inr rfl⟩
      · exact ⟨y, .tail _ h, .inl rfl⟩
    | succ i =>
      simp only [List.modify_succ_cons, List.mem_cons] at h
      rcases h with rfl | h
      · exact ⟨y, .head _, .inl rfl⟩
      · obtain ⟨x, hx, e⟩ := ih h
        exact ⟨x, .tail _ hx, e⟩
theorem onBench_trace {b : Nat} {f : Bench → Bench} {z : State} : (onBench b f z).bnc.trace = z.bnc.trace := rfl
theorem lmPut_trace {b a : Nat} {l : List Word} {z : State} : (lmPut b a l z).bnc.trace = z.bnc.trace := rfl
theorem coefReload_trace {z : State} : z.coefReload.bnc.trace = z.bnc.trace := by
  unfold coefReload
  refine each_val (·.bnc.trace) _ _ _ ?_
  intro a v
  refine Eq.trans (each_val (·.bnc.trace) _ _ _ ?_) ?_
  · exact fun _ _ => lmPut_trace
  · exact onBench_trace
theorem stateReload_trace {z : State} : z.stateReload.bnc.trace = z.bnc.trace := by
  unfold stateReload
  exact each_val (·.bnc.trace) _ _ _ fun _ _ => onBench_trace
theorem traceStopped_st {z : State} : z.traceStopped.bnc.trace.st ≠ 1 ∧ z.traceStopped.bnc.trace.st ≠ 2 := by
  have e : z.traceStopped.bnc.trace.st = if z.bnc.trace.st = 1 ∨ z.bnc.trace.st = 2 then 4 else z.bnc.trace.st := rfl
  rw [e]
  split
  · decide
  · rename_i h
    exact ⟨fun e => h (.inl e), fun e => h (.inr e)⟩
theorem loopsReload_all {z : State} : z.loopsReload.bnc.trace = z.bnc.trace ∧ z.loopsReload.bnc.cmds = [] ∧ ∀ x ∈ z.loopsReload.bnc.loops, x.per = 0 ∧ x.tab = [] := by
  unfold loopsReload
  simp only []
  refine each_keeps (fun v : State => v.bnc.trace = z.bnc.trace ∧ v.bnc.cmds = [] ∧ ∀ x ∈ v.bnc.loops, x.per = 0 ∧ x.tab = []) _ _ _ ?_ ?_
  · refine ⟨rfl, rfl, ?_⟩
    intro x hx
    have hx' : x ∈ List.replicate 32 ({} : Loop) := hx
    rw [List.eq_of_mem_replicate hx']
    exact ⟨rfl, rfl⟩
  · rintro d _ v ⟨h1, h2, h4⟩
    refine ⟨h1, h2, ?_⟩
    intro x hx
    obtain ⟨y, hy, g⟩ := mem_modAt (by exact hx)
    rcases g with rfl | rfl
    · exact h4 _ hy
    · have := h4 _ hy
      exact ⟨this.1, this.2⟩
theorem boundary_of {w z : State} (h1 : w.now = z.now) (h2 : w.ofs = z.ofs) (h3 : w.img = z.img) (h4 : w.mesh = z.mesh) (h5 : w.clk = z.clk) : w.boundaryAfter = z.boundaryAfter := by
  cases w
  cases z
  simp only at h1 h2 h3 h4 h5
  subst h1 h2 h3 h4 h5
  rfl
/-- What an answer leaves of the sessions. -/
def CtxSame (z w : State) : Prop := w.host.ctrl = z.host.ctrl ∧ ∀ c, (w.ctx c).st = (z.ctx c).st ∧ (w.ctx c).sess = (z.ctx c).sess ∧ (w.ctx c).e = (z.ctx c).e ∧
  (w.ctx c).leaseEnd = (z.ctx c).leaseEnd ∧ (w.ctx c).gen = (z.ctx c).gen ∧ (w.ctx c).sqHead = (z.ctx c).sqHead ∧ (w.ctx c).sqTail = (z.ctx c).sqTail ∧ (w.ctx c).cqHead = (z.ctx c).cqHead
theorem CtxSame.trans {z w x : State} (h : CtxSame z w) (k : CtxSame w x) : CtxSame z x :=
  ⟨k.1.trans h.1, fun c => by
    obtain ⟨a1, a2, a3, a4, a5, a6, a7, a8⟩ := h.2 c
    obtain ⟨b1, b2, b3, b4, b5, b6, b7, b8⟩ := k.2 c
    exact ⟨b1.trans a1, b2.trans a2, b3.trans a3, b4.trans a4, b5.trans a5, b6.trans a6, b7.trans a7, b8.trans a8⟩⟩
theorem CtxSame.of {z w : State} (h : w.host.ctrl = z.host.ctrl) (k : w.host.ctxs = z.host.ctxs) : CtxSame z w :=
  ⟨h, fun c => by unfold ctx; rw [k]; exact ⟨rfl, rfl, rfl, rfl, rfl, rfl, rfl, rfl⟩⟩
theorem CtxSame.host {z w : State} (h : w.host = z.host) : CtxSame z w := .of (by rw [h]) (by rw [h])
theorem onCtx_of {α : Type} {k c : Nat} {f : Ctx → Ctx} {z : State} (r : Ctx → α) (h : ∀ x, r (f x) = r x) : r ((onCtx c f z).ctx k) = r (z.ctx k) := by
  show r ((modAt z.host.ctxs c f).getD k {}) = r (z.host.ctxs.getD k {})
  by_cases e : c = k
  · subst e
    by_cases l : c < z.host.ctxs.length
    · rw [getD_modAt l, h]
    · rw [List.getD_eq_getElem?_getD, List.getD_eq_getElem?_getD, List.getElem?_eq_none (by rw [modAt_length]; omega), List.getElem?_eq_none (by omega)]
  · rw [getD_modAt_ne e]
theorem CtxSame.onCtx {c : Nat} {f : Ctx → Ctx} {z : State} (h : ∀ x, (f x).st = x.st ∧ (f x).sess = x.sess ∧ (f x).e = x.e ∧ (f x).leaseEnd = x.leaseEnd ∧ (f x).gen = x.gen ∧
    (f x).sqHead = x.sqHead ∧ (f x).sqTail = x.sqTail ∧ (f x).cqHead = x.cqHead) : CtxSame z (onCtx c f z) :=
  ⟨rfl, fun k => ⟨onCtx_of _ fun x => (h x).1, onCtx_of _ fun x => (h x).2.1, onCtx_of _ fun x => (h x).2.2.1, onCtx_of _ fun x => (h x).2.2.2.1,
    onCtx_of _ fun x => (h x).2.2.2.2.1, onCtx_of _ fun x => (h x).2.2.2.2.2.1, onCtx_of _ fun x => (h x).2.2.2.2.2.2.1, onCtx_of _ fun x => (h x).2.2.2.2.2.2.2⟩⟩
theorem finish_same {p q : Nat} {z : State} : CtxSame z (finish p q z) := .host (finish_host ..)
theorem ctx_onCtx {c : Nat} {f : Ctx → Ctx} {z : State} (h : c < z.host.ctxs.length) : (onCtx c f z).ctx c = f (z.ctx c) := getD_modAt (d := ({} : Ctx)) h
theorem ctx_live {c : Nat} {z : State} (h : (z.ctx c).st ≠ 0) : c < z.host.ctxs.length := by
  apply Classical.byContradiction
  intro g
  apply h
  show ((z.host.ctxs.getD c {}) : Ctx).st = 0
  rw [List.getD_eq_getElem?_getD, List.getElem?_eq_none (by omega)]
  rfl
theorem finish_ctx {p q c : Nat} {z : State} : (finish p q z).ctx c = z.ctx c := by unfold ctx; rw [finish_host]
/-- What taking a record leaves of the sessions. -/
structure Kept (z w : State) : Prop where
  ctrl : w.host.ctrl = z.host.ctrl
  ms : w.host.leaseMs = z.host.leaseMs
  len : w.host.ctxs.length = z.host.ctxs.length
  st : ∀ c, (w.ctx c).st = (z.ctx c).st
  sess : ∀ c, (w.ctx c).sess = (z.ctx c).sess
  e : ∀ c, (w.ctx c).e = (z.ctx c).e
  gen : ∀ c, (w.ctx c).gen = (z.ctx c).gen
theorem Kept.of {z w : State} (h1 : w.host.ctrl = z.host.ctrl) (h2 : w.host.leaseMs = z.host.leaseMs) (h3 : w.host.ctxs = z.host.ctxs) : Kept z w :=
  ⟨h1, h2, by rw [h3], fun c => by unfold ctx; rw [h3], fun c => by unfold ctx; rw [h3], fun c => by unfold ctx; rw [h3], fun c => by unfold ctx; rw [h3]⟩
theorem Kept.trans {z w x : State} (h : Kept z w) (k : Kept w x) : Kept z x :=
  ⟨k.ctrl.trans h.ctrl, k.ms.trans h.ms, k.len.trans h.len, fun c => (k.st c).trans (h.st c), fun c => (k.sess c).trans (h.sess c), fun c => (k.e c).trans (h.e c), fun c => (k.gen c).trans (h.gen c)⟩
theorem Kept.host {z w : State} (h : w.host = z.host) : Kept z w := .of (by rw [h]) (by rw [h]) (by rw [h])
theorem Kept.onCtx {c : Nat} {f : Ctx → Ctx} {z : State} (h : ∀ x, (f x).st = x.st ∧ (f x).sess = x.sess ∧ (f x).e = x.e ∧ (f x).gen = x.gen) : Kept z (onCtx c f z) :=
  ⟨rfl, rfl, modAt_length, fun _ => onCtx_of (·.st) fun x => (h x).1, fun _ => onCtx_of (·.sess) fun x => (h x).2.1, fun _ => onCtx_of (·.e) fun x => (h x).2.2.1, fun _ => onCtx_of (·.gen) fun x => (h x).2.2.2⟩
theorem ite_safe {c : Prop} {d : Decidable c} {y w : State} (h : w.safe = y.safe) : (@ite _ c d y w).safe = y.safe := by
  split
  · rfl
  · exact h
theorem safeCtlPut_safe {a b v : Nat} {z : State} : (safeCtlPut a b v z).safe = { z.safe with testEn := tbit v 31, unlockMin := if 1 ≤ bits v 5 0 ∧ bits v 5 0 ≤ 60 then bits v 5 0 else z.safe.unlockMin } := by
  unfold safeCtlPut
  extract_lets old y
  refine Eq.trans (ite_safe (logAdd_safe ..)) ?_
  rfl
theorem slice_len {b : Bytes} {o n : Nat} : (slice b o n).length = n := by
  unfold slice
  simp only [List.length_append, List.length_replicate, List.length_take, List.length_drop]
  omega
theorem slice_slice {b : Bytes} {o n : Nat} : field (slice b o n) 0 n = field b o n := by
  unfold field
  refine congrArg ofLe ?_
  show (let x := ((slice b o n).drop 0).take n; x ++ List.replicate (n - x.length) 0) = _
  simp only [List.drop_zero]
  rw [List.take_of_length_le (Nat.le_of_eq slice_len), slice_len, Nat.sub_self]
  exact List.append_nil _
theorem ofLe_lt4 {b : Bytes} (h : b.length = 4) : ofLe b < 2 ^ 32 := by
  match b, h with
  | [a, c, d, e], _ =>
    have := a.isLt
    have := c.isLt
    have := d.isLt
    have := e.isLt
    simp only [ofLe]
    omega
theorem Serves.small {src : Src} {off : Nat} {r : Reg} {s : State} (h : Serves src off r s) : off % 0x400000 = off := Nat.mod_eq_of_lt (by have := h.low; omega)
theorem Serves.bar {src : Src} {off : Nat} {r : Reg} {s : State} {ifc : Iface} (hs : Serves src off r s) (ho : off % 4 = 0) : (ifc = .pcie ∧ (!barOk off 4) = true) = False := by
  rw [eq_iff_iff]
  refine ⟨fun g => ?_, False.elim⟩
  have hh : barOk off 4 = true := by
    unfold barOk
    rw [if_pos hs.low.1]
    simp [ho]
  rw [hh] at g
  exact absurd g.2 (by decide)
theorem Serves.notWindow {src : Src} {off : Nat} {r : Reg} {s : State} (h : Serves src off r s) : isWindow off = false := by
  unfold isWindow
  have := h.low
  simp only [Bool.or_eq_false_iff, decide_eq_false_iff_not]
  omega
theorem one_write {src : Src} {off v : Nat} {r : Reg} {s : State} (h : Serves src off r s) : s.directWrite src off (le 4 v) = s.writeReg src off (v % 2 ^ 32) := by
  unfold directWrite
  rw [h.notWindow, le_length]
  show each [0] _ _ = _
  simp only [each, List.foldl, Nat.add_zero, field_only]
  all_goals rfl
theorem Serves.read {src : Src} {off : Nat} {w : Bool} {r : Reg} {s : State} (h : Serves src off r s) (hn : r.narrow = none) :
    s.readWord src w off = (r.val, ((match r.rd with | some f => f s | none => s).drawn)) := by
  have hm : isMsix off = false := by unfold isMsix; exact decide_eq_false (by have := h.low.2.2; omega)
  unfold readWord
  simp only [h.on, h.notWindow, hm, h.reg, hn, Bool.not_true, if_false, Bool.false_eq_true]
  all_goals (cases r.rd <;> rfl)
theorem one_read {src : Src} {off : Nat} {r : Reg} {s : State} (h : Serves src off r s) (hn : r.narrow = none) :
    s.directRead src off 4 = (le 4 r.val, ((match r.rd with | some f => f s | none => s).drawn)) := by
  unfold directRead
  rw [h.awake]
  simp only [Bool.false_eq_true, if_false]
  show readWords src _ [off] s = _
  simp only [readWords, h.read hn, List.append_nil]
theorem sendSymbol_mesh {o a : Nat} {z : State} : ∃ tg gs, (sendSymbol o a z).mesh = { z.mesh with tag := tg, gops := gs } := by
  unfold sendSymbol sendSymbols
  split
  · exact ⟨_, _, rfl⟩
  · exact ⟨_, _, rfl⟩
theorem mem_sendSymbol {o a : Nat} {x : Out} {z : State} (h : x ∈ z.out) : x ∈ (sendSymbol o a z).out := by
  unfold sendSymbol sendSymbols
  split
  · exact h
  · exact List.mem_append_left _ h
/-- What a symbol leaves, after its effect and its confirmation. -/
theorem symbol_after {op c : Nat} {b : Bool} {z : State} : ∃ tg gs, (if b && confirmedOps.contains op then z.sendSymbol 0x0C c else z).mesh = { z.mesh with tag := tg, gops := gs } := by
  split
  · exact sendSymbol_mesh
  · exact ⟨_, _, rfl⟩
theorem mem_after {op c : Nat} {b : Bool} {x : Out} {z : State} (h : x ∈ z.out) : x ∈ (if b && confirmedOps.contains op then z.sendSymbol 0x0C c else z).out := by
  split
  · exact mem_sendSymbol h
  · exact h
theorem near48_congr {a : Nat} {z w : State} (h : z.sysTime = w.sysTime) : z.near48 a = w.near48 a := by
  unfold near48
  rw [h]
theorem testBit_foldl {p : Nat → Bool} {n : Nat} : ∀ (l : List Nat) (m : Nat), (l.foldl (fun m i => if p i then setBit m i else m) m).testBit n = (m.testBit n || (l.contains n && p n)) := by
  intro l
  induction l with
  | nil => intro m; simp
  | cons a l ih =>
    intro m
    rw [List.foldl_cons, ih, List.contains_cons]
    by_cases ha : n = a
    · subst ha
      by_cases hp : p n = true <;> simp [hp, testBit_setBit]
    · have : (n == a) = false := by simpa using ha
      rw [this]
      split
      · rw [testBit_setBit, show decide (a = n) = false from decide_eq_false fun e => ha e.symm]
        simp
      · simp
theorem testBit_maskOf {p : Nat → Bool} {n k : Nat} (h : n < k) : (maskOf k p).testBit n = p n := by
  unfold maskOf
  rw [testBit_foldl]
  simp [h]
theorem conv_of {z w : State} (h : w.mesh.convs = z.mesh.convs) (n : Nat) : w.conv n = z.conv n := by unfold conv; rw [h]
theorem conv_at {z w : State} {n : Nat} {f : Conv → Conv} (h : w.mesh.convs = modAt z.mesh.convs n f) (hn : n < z.mesh.convs.length) : w.conv n = f (z.conv n) := by
  unfold conv
  rw [h]
  exact getD_modAt hn
theorem finish_conv {p q n : Nat} {z : State} : (finish p q z).conv n = z.conv n := by unfold conv; rw [finish_mesh]
theorem linkChange_down {k : Nat} {up : Bool} {z : State} : k ∈ (linkChange k up z).mesh.down ↔ up = false := by
  show k ∈ (if up then z.mesh.down.filter (· != k) else if z.mesh.down.contains k then z.mesh.down else z.mesh.down ++ [k]) ↔ up = false
  cases up
  · simp only [Bool.false_eq_true, if_false, iff_true]
    split
    · rename_i h
      simpa using h
    · exact List.mem_append_right _ (List.mem_singleton.mpr rfl)
  · simp
theorem dropped_opens {o : OpenCmd} {z : State} : o ∉ (openDrop o z).host.opens := by
  show o ∉ List.filter _ _
  simp
theorem and_tt {a b : Bool} (h : a = true) (k : b = true) : (a && b) = true := by rw [h, k]; rfl
theorem modeWords_mode {z : State} : z.modeWords.mode = z.mode := (by simp : Frame 32768 z z.modeWords).keeps .mode rfl
theorem inSub_mode {m k : Nat} {z : State} (h : z.inSub m k = true) : z.mode.mode = m ∧ z.mode.sub = k := by
  unfold inSub at h
  simpa using h
theorem driveSub_mode {k : Nat} {z : State} (h : z.driveSub k = true) : (z.mode.mode = 6 ∨ z.mode.mode = 7) ∧ z.mode.sub = k := by
  unfold driveSub at h
  simpa using h
theorem modeTo_all {m : Nat} {own : Bool} {z : State} (h : z.mode.mode ≠ m) : (z.modeTo m own).mode = { z.mode with
    mode := m, sub := 0, per := (z.ovlEnd (ovlBanned m) own).per, evt := setBit z.mode.evt 8, sps := z.mode.sps.map fun p => { p with locked := false, tgt := p.cmd } } := by
  unfold modeTo
  rw [if_neg h]
  have e : (z.ovlEnd (ovlBanned m) own).mode = z.mode := (by simp : Frame 1652740 z (z.ovlEnd (ovlBanned m) own)).keeps .mode rfl
  generalize z.ovlEnd (ovlBanned m) own = y at e ⊢
  by_cases h0 : m = 0
  · simp only [h0, if_true]
    rw [← e]
    rfl
  · simp only [if_neg h0, loadFail_mode]
    rw [← e]
    rfl
theorem spStart_cell {f : Bool} {k : Nat} {x : Word} {z : State} : (spStart f k x z).mode = { z.mode with sps := modAt z.mode.sps k fun p => { p with x := x, r := 0, dwell := 0, fresh := f } } := rfl
/-- The mode differs in the set-points alone. -/
def SpsOnly (z w : State) : Prop := w.mode = { z.mode with sps := w.mode.sps }
theorem SpsOnly.trans {z w x : State} (h : SpsOnly z w) (k : SpsOnly w x) : SpsOnly z x := by
  unfold SpsOnly at *
  rw [k, h]
theorem SpsOnly.each {α : Type} {l : List α} {f : α → State → State} (h : ∀ a z, SpsOnly z (f a z)) : ∀ z : State, SpsOnly z (each l f z) := by
  induction l with
  | nil => exact fun z => rfl
  | cons a l ih => exact fun z => (h a z).trans (ih _)
/-- A lost input's own word: its watch is marked. -/
def fbMark (k w : Nat) (z : State) : State :=
  onMode (fun m => { m with fbLost := k * 512 + w }) (modeEvt 2 (z.onMode fun m => { m with fb := m.fb.map fun x => if x.bench = k ∧ x.word = w then { x with lost := true } else x }))
theorem fbMark_alt {k w : Nat} {z : State} (h : ∀ y ∈ z.mode.fb, y.onAlt = false) : ∀ y ∈ (fbMark k w z).mode.fb, y.onAlt = false := by
  intro y hy
  obtain ⟨x, hx, rfl⟩ := List.mem_map.mp (show y ∈ z.mode.fb.map _ from hy)
  split
  · exact h x hx
  · exact h x hx
theorem noAlt {l : List FbWatch} {p : FbWatch → Bool} (h : ∀ y ∈ l, y.onAlt = false) : (l.find? fun x => x.bench == k && x.onAlt && p x) = none := by
  rw [List.find?_eq_none]
  intro x hx
  rw [h x hx, Bool.and_false, Bool.false_and]
  exact Bool.false_ne_true
theorem fbTake_keep {k w : Nat} {z : State} (h : ∀ y ∈ z.mode.fb, y.onAlt = false) (hc : (z.inputDecl k w).cls = 0) : fbTake k w z = fbMark k w z := by
  unfold fbTake
  simp only [hc, if_true]
  have := noAlt (k := k) (p := fun x => ((fbMark k w z).inputDecl k x.word).alt == w) (fbMark_alt (k := k) (w := w) h)
  unfold fbMark at this
  rw [this]
  rfl
set_option maxHeartbeats 1000000 in
theorem setBit_on {m i : Nat} : (setBit m i).testBit i = true := by rw [testBit_setBit]; simp
theorem startRun_mode {z : State} (h : z.mode.mode ≠ z.mode.target) : z.startRun.mode.mode = z.mode.target ∧ z.startRun.mode.sub = (if z.mode.target = 6 then 6 else 2) := by
  unfold startRun
  extract_lets m y1 y2 y3
  have h1 : y1.mode.mode = m ∧ y1.mode.sub = (if m = 6 then 6 else 2) := ⟨modeTo_mode, rfl⟩
  have h2 : SpsOnly y1 y2 := SpsOnly.each (f := fun k s => s.spStart false k (s.startVal k)) (fun _ _ => rfl) _
  have h3 : y3.mode.mode = y1.mode.mode ∧ y3.mode.sub = y1.mode.sub := by
    show y2.mode.mode = _ ∧ y2.mode.sub = _
    rw [h2]
    exact ⟨rfl, rfl⟩
  have h4 : ∀ k x, (spStart false k x y3).mode.mode = m ∧ (spStart false k x y3).mode.sub = (if m = 6 then 6 else 2) := fun k x => ⟨h3.1.trans h1.1, h3.2.trans h1.2⟩
  have h5 : y3.mode.mode = m ∧ y3.mode.sub = (if m = 6 then 6 else 2) := ⟨h3.1.trans h1.1, h3.2.trans h1.2⟩
  split
  · exact h4 _ _
  · split
    · exact h4 _ _
    · exact h5
  · exact h5
theorem modeWords_modeQ {z : State} : z.modeWords.modeQ = z.modeQ := (by simp : Frame 32768 z z.modeWords).keeps .modeQ rfl
theorem ovlEnd_ovl {m : Nat} {own : Bool} {z : State} : (ovlEnd m own z).modeQ.ovl = z.modeQ.ovl ^^^ (m &&& z.modeQ.ovl) := by
  unfold ovlEnd
  simp only []
  split
  · rename_i h
    rw [h, Nat.xor_zero]
  · have f1 : ∀ y : State, y.testsEnd.modeQ = y.modeQ := fun y => (by simp : Frame 2052 y y.testsEnd).keeps .modeQ rfl
    have f2 : ∀ y : State, y.tdacsOff.modeQ = y.modeQ := fun y => (by simp : Frame 1048576 y y.tdacsOff).keeps .modeQ rfl
    have f3 : ∀ y : State, y.synthEnd.modeQ = y.modeQ := fun y => (by simp : Frame 77824 y y.synthEnd).keeps .modeQ rfl
    simp only [apply_ite State.modeQ, f1, f2, f3, ite_self]
    rfl
theorem healthPut_pair {b : Nat} {v : Bool} {s : State} : ∃ h l, (healthPut b v s).pair = { s.pair with
    health := h
    lastFail := l } ∧ h.testBit b = v := by
  by_cases g : s.pair.health.testBit b = v
  · exact ⟨s.pair.health, s.pair.lastFail, by show (if s.pair.health.testBit b = v then s.pair else _) = _; rw [if_pos g], g⟩
  · cases v with
    | true => exact ⟨_, s.pair.lastFail, by show (if s.pair.health.testBit b = true then s.pair else _) = _; rw [if_neg g]; rfl, setBit_on⟩
    | false =>
      refine ⟨_, b, by show (if s.pair.health.testBit b = false then s.pair else _) = _; rw [if_neg g]; rfl, ?_⟩
      have g : s.pair.health.testBit b = true := by simpa using g
      unfold clrBit
      rw [if_pos g, Nat.testBit_xor, g, Nat.one_shiftLeft, Nat.testBit_two_pow_self]
      rfl
/-- A loss of HEALTHY changes PAIR_EVT and may end a handover that waits, nothing else of the pair (R636, R641). -/
theorem healthStep_pair {f : State → State} {s : State} : ∃ e h, (healthStep f s).pair = { (f s).pair with
    evt := e
    handover := h } ∧ ((f s).pair.handover = none → h = none) := by
  unfold healthStep
  extract_lets x
  split
  · rw [event_pair, onPair_pair]
    split
    · exact ⟨_, none, rfl, fun _ => rfl⟩
    · exact ⟨_, x.pair.handover, rfl, id⟩
  · exact ⟨x.pair.evt, x.pair.handover, rfl, id⟩
/-- HEALTHY is lost by a member that is not ACTIVE: no handover waits any more (R636). -/
theorem healthStep_lost {f : State → State} {s : State} (h : s.healthy = true) (k : (f s).healthy = false) (n : (f s).pair.st ≠ 4) :
    (healthStep f s).pair.handover = none := by
  unfold healthStep
  extract_lets x
  rw [h, show x.healthy = false from k]
  simp only [Bool.not_false, Bool.and_self, if_true, event_pair, onPair_pair]
  by_cases c : x.pair.st ≠ 4 ∧ x.pair.handover.isSome = true
  · rw [if_pos c]
  · rw [if_neg c]
    have : x.pair.handover.isSome ≠ true := fun q => c ⟨n, q⟩
    simpa using this
theorem healthPut_val {α : Type} (r : PairB → α) (hr : ∀ (p : PairB) h l, r { p with health := h, lastFail := l } = r p) {b : Nat} {v : Bool} {s : State} :
    r (healthPut b v s).pair = r s.pair := by
  obtain ⟨h, l, k, _⟩ := healthPut_pair (b := b) (v := v) (s := s)
  rw [k]
  exact hr _ _ _
theorem healthStep_val {α : Type} (r : PairB → α) (hr : ∀ (p : PairB) e h, r { p with evt := e, handover := h } = r p) {f : State → State} {s : State} :
    r (healthStep f s).pair = r (f s).pair := by
  obtain ⟨e, h, k, _⟩ := healthStep_pair (f := f) (s := s)
  rw [k]
  exact hr _ _ _
theorem sendCtrl_epoch {c op a w : Nat} {d : Bytes} {s : State} : (sendCtrl c op a d w s).seam.epoch = s.seam.epoch := by
  unfold sendCtrl
  split
  · rfl
  · extract_lets t tag o y
    split
    · unfold putCtrl
      rfl
    · rfl
theorem cellTo_epoch {c a r : Nat} {s : State} : (cellTo c a r s).seam.epoch = s.seam.epoch := by
  unfold cellTo
  simp only []
  split <;> simp [cellEvt]
theorem joinStart_epoch {c : Nat} {s : State} : (joinStart c s).seam.epoch = s.seam.epoch := by
  unfold joinStart
  simp only []
  rw [sendCtrl_epoch]
  show (State.seam (jStep c 1 _)).epoch = _
  rw [show ∀ z : State, (jStep c 1 z).seam.epoch = z.seam.epoch from fun _ => rfl, cellTo_epoch]
  rfl
theorem epochTo_epoch {e : Nat} {s : State} : (epochTo e s).seam.epoch = e % 65536 := by
  unfold epochTo
  extract_lets y
  rw [each_val (fun z => z.seam.epoch) _ _ _ fun _ _ => joinStart_epoch]
  rfl
theorem epochTo_pair {e : Nat} {z : State} : (epochTo e z).pair = z.pair := (by simp : Frame 4100 z (epochTo e z)).keeps .pair rfl
theorem runCheck_val {α : Type} (r : PairB → α) (hr : ∀ (p : PairB) h l, r { p with health := h, lastFail := l } = r p) {b n : Nat} {o : Bool} {l : List Bool} {s : State} :
    r (runCheck b o l n s).pair = r s.pair := by
  unfold runCheck
  repeat' split
  all_goals first | rfl | exact healthPut_val r hr
theorem setCheck_val {α : Type} (r : PairB → α) (h1 : ∀ (p : PairB) h l, r { p with health := h, lastFail := l } = r p) (h2 : ∀ (p : PairB) e h, r { p with evt := e, handover := h } = r p)
    (h3 : ∀ (p : PairB) a b c d, r { p with setHist := a, setRun := b, setMism := c, cleanRun := d } = r p) {o : Bool} {s : State} :
    r (setCheck o s).pair = r s.pair := by
  unfold setCheck
  rw [healthStep_val r h2]
  extract_lets y x
  have e : r x.pair = r s.pair := (h3 _ _ _ _ _).trans (runCheck_val r h1)
  split
  · exact e
  · exact Eq.trans (congrArg r ((by simp [shadowEvent] : Frame 131080 x (shadowEvent (x.freeWord.toNat % 256) (x.freeWord.toNat / 256 % 256) x).drawn).keeps .pair rfl)) e
theorem cellsAbsent_epoch {z : State} : (cellsAbsent z).seam.epoch = z.seam.epoch := by
  unfold cellsAbsent
  rw [each_val (fun z => z.seam.epoch) _ _ _ fun c z => by
    rw [cellTo_epoch]
    rfl]
theorem synthEnd_epoch {z : State} : (synthEnd z).seam.epoch = z.seam.epoch := by
  unfold synthEnd
  extract_lets y m
  refine Eq.trans ?_ (cellsAbsent_epoch (z := z))
  rfl
theorem ovlEnd_epoch {m : Nat} {own : Bool} {z : State} : (ovlEnd m own z).seam.epoch = z.seam.epoch := by
  unfold ovlEnd
  simp only []
  split
  · rfl
  · have f1 : ∀ y : State, y.testsEnd.seam = y.seam := fun y => (by simp : Frame 2052 y y.testsEnd).keeps .seam rfl
    have f2 : ∀ y : State, y.tdacsOff.seam = y.seam := fun y => (by simp : Frame 1048576 y y.tdacsOff).keeps .seam rfl
    have f3 : ∀ y : State, y.synthEnd.seam.epoch = y.seam.epoch := fun y => synthEnd_epoch
    simp only [apply_ite State.seam, apply_ite SeamB.epoch, f1, f2, f3, ite_self]
    rfl
theorem modeTo_epoch {m : Nat} {own : Bool} {z : State} : (modeTo m own z).seam.epoch = z.seam.epoch := by
  unfold modeTo
  split
  · rfl
  · extract_lets y1 y2 y3 y4
    have e : y4.seam.epoch = z.seam.epoch := ovlEnd_epoch
    split <;> exact e
theorem refsSets_mode {r : RefsFrame} {z : State} : (refsSets r z).mode = z.mode := rfl
theorem refsSets_seam {r : RefsFrame} {z : State} : (refsSets r z).seam = z.seam := rfl
theorem refsMode_seam {r : RefsFrame} {z : State} : (refsMode r z).seam.epoch = z.seam.epoch := modeTo_epoch (m := r.mode) (own := true)
theorem refsMode_mode {r : RefsFrame} {z : State} : (refsMode r z).mode.mode = r.mode ∧ (refsMode r z).mode.target = r.target ∧ (refsMode r z).mode.sub = r.sub := by
  unfold refsMode
  generalize hx : modeTo r.mode true z = x
  have : x.mode.mode = r.mode := by rw [← hx]; exact modeTo_mode
  exact ⟨this, rfl, rfl⟩
theorem refsSets_ranks {r : RefsFrame} {z : State} : (refsSets r z).comp.ranks = r.ranks := rfl
theorem cmdAcked_nil {c : Nat} {z : State} (h : z.pair.flight = []) : z.cmdAcked c = z.onPair fun p => { p with acked := c } := by
  unfold cmdAcked
  simp only [h]
  refine congrArg (fun p => ({ z with pair := p } : State)) ?_
  show ({ z.pair with acked := c, flight := z.pair.flight.filter _ } : PairB) = _
  rw [h]
  show _ = ({ z.pair with acked := c } : PairB)
  rw [← h]
  simp [h]
theorem perPlus_of {z w : State} {n : Nat} (h1 : w.now = z.now) (h2 : w.ofs = z.ofs) (h3 : w.clk = z.clk) (h4 : w.img = z.img) : w.perPlus n = z.perPlus n := by
  cases w
  cases z
  simp only at h1 h2 h3 h4
  subst h1 h2 h3 h4
  rfl
theorem shadowCheck_val {α : Type} (r : PairB → α) (h1 : ∀ (p : PairB) h l, r { p with health := h, lastFail := l } = r p) (h2 : ∀ (p : PairB) e h, r { p with evt := e, handover := h } = r p)
    (h3 : ∀ (p : PairB) a b c d, r { p with mismHist := a, shadowRun := b, shadowMism := c, cleanRun := d } = r p) {o : Option (Nat × Nat)} {s : State} :
    r (shadowCheck o s).pair = r s.pair := by
  unfold shadowCheck
  rw [healthStep_val r h2]
  extract_lets y x
  have e : r x.pair = r s.pair := (h3 _ _ _ _ _).trans (runCheck_val r h1)
  split
  · exact e
  · exact e
theorem entriesCarry_pair {z : State} : z.entriesCarry.pair = { z.pair with
    cmds := [] } := by
  unfold entriesCarry
  extract_lets l
  rw [each_val (fun z => z.pair) _ _ _ fun c z => by
    exact Frame.keeps (m := 1536) (s := z) (by simp) .pair rfl]
  rfl
theorem entriesCarry_seam {z : State} : z.entriesCarry.seam = z.seam := (by simp : Frame 16778752 z z.entriesCarry).keeps .seam rfl
theorem takeRecords_pair {e c m : Nat} {z : State} : (takeRecords e c m z).pair = { z.pair with
    takePer := m
    evt := setBit z.pair.evt 4 } := by
  unfold takeRecords
  exact Frame.keeps (m := 132096) (s := z.onPair fun p => { p with takePer := m, evt := setBit p.evt 4 }) (by simp) .pair rfl
theorem heartbeat_some {o z : State} : ∃ c, (heartbeat o z).pair = { z.pair with
    setCrcs := c } := by
  unfold heartbeat
  split
  · extract_lets r s'
    split <;> exact ⟨_, rfl⟩
  · exact ⟨z.pair.setCrcs, rfl⟩
theorem sb_whole {z : State} (hw : (match z.pair.refs with | some r => r.period == z.per | none => false) = true) (hr : z.pair.resigned = none)
   (y : State) (hy : y = z.onPair fun p => { p with missRun := 0 }) (w : State) (h : w = (if y.onInput then y.shadowCheck y.shadowDiff else y)) (x : State) (hx : x = w.compile [] []) :
   standbyCompile z = (x.onPair fun p => { p with setCrcs := x.cellCrcs }).sendHealth := by
  unfold standbyCompile
  extract_lets w0 miss y0 w1 x1
  have e0 : w0 = true := hw
  have e1 : y0 = y := by rw [hy]; simp only [y0, e0, if_true]
  have e2 : y.pair.resigned = none := by rw [hy]; exact hr
  have e3 : x1 = x := by simp only [x1, w1, hx, h, e1]
  rw [e0, e1, e2, e3]
  clear_value x1 w1 y0 w0 miss
  rw [if_neg (by rw [Option.isSome_none, Bool.false_and]; exact Bool.false_ne_true), if_pos rfl]
theorem sb_lost {z : State} (hw : (match z.pair.refs with | some r => r.period == z.per | none => false) = false) (hr : z.pair.resigned = none)
   (y : State) (hy : y = (z.onPair fun p => { p with hbMiss := sat32 p.hbMiss 1, missRun := p.missRun + 1, evt := setBit p.evt 0, setCrcs := [] }).onComp fun k =>
      { k with done := false, cells := [], locals := [], slow := [] }) :
   standbyCompile z = (if 2 ≤ y.pair.missRun then if y.partnerShips then y.detach else if y.healthy then y.claim 0 else y.sendHealth else y.sendHealth) := by
  unfold standbyCompile
  extract_lets w0 miss y0
  have e0 : w0 = false := hw
  have e1 : y0 = y := by rw [hy]; simp only [y0, e0, Bool.false_eq_true, if_false, miss]
  have e2 : y.pair.resigned = none := by rw [hy]; exact hr
  rw [e0, e1, e2]
  clear_value y0 w0 miss
  rw [if_neg (by rw [Option.isSome_none, Bool.false_and]; exact Bool.false_ne_true), if_neg Bool.false_ne_true]
theorem handoverTake_up {z : State} (h : z.pair.st = 3) : (handoverTake z).pair.st = 4 ∧ (handoverTake z).pair.heartbeat = true ∧ (handoverTake z).pair.mirror = true ∧
    (handoverTake z).pair.takePer = z.perPlus 1 ∧ (handoverTake z).pair.handover = none ∧ (handoverTake z).seam.epoch = (z.seam.epoch + 1) % 65536 := by
  unfold handoverTake
  extract_lets m y ep y1
  rw [if_pos (show y.pair.st = 3 from h)]
  have k : (sessionsCarry y1.entriesCarry).pair = y1.entriesCarry.pair := rfl
  have p1 : y1.pair = _ := epochTo_pair
  have q1 : y1.seam.epoch = ep % 65536 := epochTo_epoch
  have q3 : (takeRecords ep 2 m y1.entriesCarry.sessionsCarry).seam = y1.seam := (by simp : Frame 16909824 y1 (takeRecords ep 2 m y1.entriesCarry.sessionsCarry)).keeps .seam rfl
  rw [takeRecords_pair, q3, q1, k, entriesCarry_pair, p1]
  exact ⟨rfl, rfl, rfl, rfl, rfl, Nat.mod_eq_of_lt (Nat.mod_lt _ (by decide))⟩
theorem imgSts_img {f : Img → Img} {z : State} : ∃ q, (imgSts f z).img = { f z.img with
    irq := q } := ⟨_, rfl⟩
/-! ### Records in sequence -/
theorem finish_host {a : Nat} {b : Nat} {z : State} : (finish a b z).host = z.host :=
  (Eq.mpr (State.finish_frame rfl) (Eq.mpr (Frame.self 4 z) trivial) : Frame 4 z (finish a b z)).keeps .host rfl
theorem ctx_host {z w : State} (h : w.host.ctxs = z.host.ctxs) (c : Nat) : w.ctx c = z.ctx c := by unfold ctx; rw [h]
theorem reject_own {h : RecHdr} {op st e : Nat} {r : Refuse} {o : Option Word} {z : State} (hs : h.src = .ring ∨ h.src = .mbx0 ∨ h.src = .mbx1) :
    Frame 516 z (reject h op st r e o z) := by
  have hm : h.src ≠ .mesh := by obtain hs | hs | hs := hs <;> rw [hs] <;> decide
  unfold reject
  simp only [hm, if_false]
  refine Frame.trans ?_ ((deliver_own hm).widen rfl)
  cases o
  · simp
  · simp
theorem renew_of {α : Type} {c k : Nat} {z : State} (g : Ctx → α) (hg : ∀ x l, g { x with leaseEnd := l } = g x) : g ((renew c z).ctx k) = g (z.ctx k) := by
  unfold renew
  exact onCtx_of g fun _ => hg _ _
theorem Goes.widen {m n : Nat} {s : State} {o : Host.Outcome State Fault Refusal} (h : Goes m s o) (k : m ||| n = n) : Goes n s o := by
  cases h with
  | mk' u f => exact .mk' u (f.widen k)
/-! The command processor. -/
theorem each_ctx {α : Type} {l : List α} {f : α → State → State} (h : ∀ a z, CtxSame z (f a z)) : ∀ z : State, CtxSame z (each l f z) := by
  induction l with
  | nil => exact fun z => .of rfl rfl
  | cons a l ih => exact fun z => (h a z).trans (ih (f a z))
theorem deliver_ctx {h : RecHdr} {k : Cpl} {z : State} : CtxSame z (deliver h k z) := by
  unfold deliver
  split
  · exact .of rfl rfl
  · split
    · exact .host ((by simp : ∀ i, Frame 8388620 z (sendItem 0 i z)) _ |>.keeps .host rfl)
    · split
      · simp only []
        have k : ∀ (f : Ctx → Ctx) (a b : Out), CtxSame z (onCtx h.ring f z) → CtxSame z (((onCtx h.ring f z).emit a).emit b) := fun f a b g => g.trans (.of rfl rfl)
        refine k _ _ _ (.onCtx fun x => ⟨rfl, rfl, rfl, rfl, rfl, rfl, rfl, rfl⟩)
      · exact .of rfl rfl
theorem cacheCpl_ctx {c : Nat} {w : Word} {k : Cpl} {z : State} : CtxSame z (cacheCpl c w k z) :=
  .onCtx fun x => by split <;> exact ⟨rfl, rfl, rfl, rfl, rfl, rfl, rfl, rfl⟩
theorem release_ctx {k : Held} {z : State} : CtxSame z (release k z) := by
  unfold release answerCopies
  have h0 : CtxSame z (match k.crc with | some w => cacheCpl k.ctx w k.cpl z | none => z) := by
    split
    · exact cacheCpl_ctx
    · exact .of rfl rfl
  exact (h0.trans deliver_ctx).trans (.trans (.of rfl rfl) (each_ctx (fun _ _ => deliver_ctx) _))
theorem finishCpl_ctx {k : Held} {z : State} : CtxSame z (finishCpl k z) := by
  have hf : ∀ y : State, CtxSame y (heldFlush y) := fun y => .trans (.of rfl rfl) (each_ctx (fun _ _ => release_ctx) _)
  unfold finishCpl
  split
  · exact release_ctx.trans (hf _)
  · exact .trans (.of rfl rfl) (hf _)
theorem answer_ctx {o : OpenCmd} {a : Answer} {z : State} : CtxSame z (answer o a z) :=
  .trans (.host ((by simp : Frame 1024 z (z.jKnow o.jidx (settle o a z))).keeps .host rfl)) finishCpl_ctx
/-- An accepted record of a command that answers at once: HOST is that before its effect with the record taken. -/
theorem hostRow_ctx {s : State} {cmd : Cmd} {t : Nat} {h : RecHdr} {p : Bytes} (ha : Accepts cmd h p (s.begin t)) (hw : ∀ z, (cmd.act h p z).2.wait = none) (hp : cmd.post = fun _ _ v => v) :
    ∃ s3, Frame 1536 (s.begin t) s3 ∧ s3.host = ((s.begin t).intake cmd h p).host ∧ CtxSame (cmd.act h p s3).1 (hostRow cmd t h p s) ∧
      Frame 8390156 (cmd.act h p s3).1 (hostRow cmd t h p s) := by
  obtain ⟨s3, o, l, f3, hx, rfl, rfl, e⟩ := hostRow_accepts ha
  refine ⟨s3, f3, hx, ?_, ?_⟩
  case refine_2 =>
    rw [e]
    exact Eq.mpr (State.noteSets_frame rfl) (Eq.mpr (State.finish_frame rfl) (perform_wide (by intro v; rw [hp])))
  rw [e]
  refine CtxSame.trans (w := s3.perform cmd o) ?_ (.host (show _ = _ by rw [noteSets_host, finish_host]))
  unfold perform
  simp only [hw, hp]
  exact answer_ctx
theorem recTaken_kept {cmd : Cmd} {h : RecHdr} {p : Bytes} {z : State} : Kept z (z.recTaken cmd h p) := by
  have k : ∀ (c : Nat) (f : Ctx → Ctx) (g : HostB → HostB), Kept z (State.onCtx c f z) → (∀ y, (g y).ctrl = y.ctrl ∧ (g y).leaseMs = y.leaseMs ∧ (g y).ctxs = y.ctxs) →
      Kept z ((State.onCtx c f z).onHost g) := fun c f g a b => a.trans (.of (b _).1 (b _).2.1 (b _).2.2)
  have km : ∀ (m : Nat) (r : Bytes), Kept z ((z.rung m r).takeMbx m id) := by
    intro m r
    unfold takeMbx
    split <;> exact .of rfl rfl rfl
  have kb : ∀ m : Nat, Kept z (if (z.mbx m).busy then onMbx m (fun x => { x with dbLost := true }) z else (z.rung m (recRaw cmd h p)).takeMbx m id) := by
    intro m
    split
    · exact .of rfl rfl rfl
    · exact km _ _
  have kr : Kept z (takeRing h.ring id z) := by
    unfold takeRing
    split
    · exact .trans (.onCtx (c := h.ring) (f := fun x => { x with sqHead := (x.sqHead + 1) % x.sqSize }) fun x => ⟨rfl, rfl, rfl, rfl⟩) (.of rfl rfl rfl)
    · exact .of rfl rfl rfl
  unfold recTaken takeFrom
  split
  · exact .of rfl rfl rfl
  · cases h.src
    case ring =>
      simp only []
      split
      · exact kr
      · exact .of rfl rfl rfl
    case mbx0 => exact kb 0
    case mbx1 => exact kb 1
    all_goals exact .of rfl rfl rfl
theorem sess_live {cmd : Cmd} {h : RecHdr} {p : Bytes} {z : State} (hs : (z.recTaken cmd h p).sessionCheck h cmd.opcode = none) (h1 : cmd.opcode ≠ 1) :
    (z.ctx (ctxOf h.sess)).st ≠ 0 ∧ (z.ctx (ctxOf h.sess)).sess = h.sess := by
  have k := @recTaken_kept cmd h p z
  rw [← k.st, ← k.sess]
  generalize z.recTaken cmd h p = y at hs
  unfold sessionCheck at hs
  simp only [h1, if_false] at hs
  split at hs
  · cases hs
  · split at hs
    · cases hs
    · split at hs
      · cases hs
      · rename_i g
        exact ⟨fun a => g (.inr (.inl a)), Classical.byContradiction fun a => g (.inr (.inr a))⟩
theorem loss_sched {z : State} (h : z.mode.mode ≠ 0) : z.hostLossCheck.modeQ.lossSched = z.modeQ.lossSched ++ [z.boundaryAfter] := by
  unfold hostLossCheck
  rw [if_neg h]
  have fs : ∀ v : State, (sendSymbol 8 z.boundaryAfter v).modeQ = v.modeQ := fun v => (by simp : Frame 8388612 v (sendSymbol 8 z.boundaryAfter v)).keeps .modeQ rfl
  exact congrArg (·.lossSched) (fs _)
/-- The state a sequenced command of an accepted record starts from, and its session. -/
theorem intake_seq {cmd : Cmd} {h : RecHdr} {p : Bytes} {z s3 : State} (hu : unsequencedOp cmd.opcode = false) (hs : (z.recTaken cmd h p).sessionCheck h cmd.opcode = none)
    (e : s3.host = (z.intake cmd h p).host) : s3.host.ctrl = z.host.ctrl ∧ ctxOf h.sess < s3.host.ctxs.length ∧ (s3.ctx (ctxOf h.sess)).e = ((z.ctx (ctxOf h.sess)).e + 1) % M32 ∧
      (s3.ctx (ctxOf h.sess)).gen = (z.ctx (ctxOf h.sess)).gen := by
  have h1 : cmd.opcode ≠ 1 := fun e => by simp [unsequencedOp, e] at hu
  have h4 : cmd.opcode ≠ 4 := fun e => by simp [unsequencedOp, e] at hu
  have hl := sess_live hs h1
  have k := @recTaken_kept cmd h p z
  have hlen : ctxOf h.sess < (z.recTaken cmd h p).host.ctxs.length := by rw [k.len]; exact ctx_live hl.1
  have ei : z.intake cmd h p = ((z.recTaken cmd h p).renew (ctxOf h.sess)).onCtx (ctxOf h.sess) fun x => { x with e := (x.e + 1) % M32, consumed := x.consumed + 1 } := by
    unfold intake
    simp only [h1, h4, false_and, or_self, if_false]
  have ec : s3.ctx (ctxOf h.sess) = (z.intake cmd h p).ctx (ctxOf h.sess) := by unfold ctx; rw [e]
  have hlen2 : ctxOf h.sess < ((z.recTaken cmd h p).renew (ctxOf h.sess)).host.ctxs.length := by
    unfold renew
    exact Nat.lt_of_lt_of_eq hlen modAt_length.symm
  refine ⟨?_, ?_, ?_, ?_⟩
  · rw [e, ei]; exact k.ctrl
  · rw [e, ei]; exact Nat.lt_of_lt_of_eq hlen2 modAt_length.symm
  · rw [ec, ei, ctx_onCtx hlen2]
    unfold renew
    rw [ctx_onCtx hlen]
    exact congrArg (fun q => (q + 1) % M32) (k.e _)
  · rw [ec, ei, ctx_onCtx hlen2]
    unfold renew
    rw [ctx_onCtx hlen]
    exact k.gen _
theorem intake_un {cmd : Cmd} {h : RecHdr} {p : Bytes} {z s3 : State} (hu : unsequencedOp cmd.opcode = true) (e : s3.host = (z.intake cmd h p).host) :
    Kept z s3 := by
  have ei : Kept z (z.intake cmd h p) := by
    have k := @recTaken_kept cmd h p z
    have kr : Kept z ((z.recTaken cmd h p).renew (ctxOf h.sess)) := k.trans (.onCtx fun x => ⟨rfl, rfl, rfl, rfl⟩)
    unfold intake
    simp only []
    split
    · exact k
    · split
      · exact kr
      · rename_i a b
        simp only [unsequencedOp, Bool.or_eq_true, beq_iff_eq] at hu
        exact absurd (hu.resolve_left fun q => a (.inl q)) b
  exact ei.trans (.host e)
theorem deliver_told {h : RecHdr} {k : Cpl} {z : State} {l : List (Nat × Nat)} {a b : Nat} (hs : h.src = .ring ∨ h.src = .mbx0 ∨ h.src = .mbx1) :
    Told h k z (noteSets l (finish a b (deliver h k z))) := by
  refine mem_finish (p := a) (h := b) ?_
  obtain hs | hs | hs := hs <;> unfold deliver <;> rw [hs] <;> simp [mbxOf, State.emit, State.emits]
theorem deliver_spoils {h : RecHdr} {k : Cpl} {z : State} {l : List (Nat × Nat)} {a b : Nat} (hs : h.src = .ring ∨ h.src = .mbx0 ∨ h.src = .mbx1) :
    (noteSets l (finish a b (deliver h k z))).host.spoilHead = z.host.spoilHead ∧ (noteSets l (finish a b (deliver h k z))).host.spoils = z.host.spoils := by
  rw [noteSets_host, finish_host]
  obtain hs | hs | hs := hs <;> unfold deliver <;> rw [hs] <;> exact ⟨rfl, rfl⟩
theorem deliver_seq {h : RecHdr} {k : Cpl} {z : State} {l : List (Nat × Nat)} {a b d : Nat} (hs : h.src = .ring ∨ h.src = .mbx0 ∨ h.src = .mbx1) :
    Unconsumed d z (noteSets l (finish a b (deliver h k z))) := by
  unfold Unconsumed
  rw [ctx_host (show (noteSets l (finish a b (deliver h k z))).host.ctxs = (deliver h k z).host.ctxs by rw [noteSets_host, finish_host])]
  obtain hs | hs | hs := hs <;> unfold deliver <;> rw [hs]
  · exact ⟨onCtx_of (·.e) fun _ => rfl, onCtx_of (·.consumed) fun _ => rfl, onCtx_of (·.cache) fun _ => rfl⟩
  · exact ⟨rfl, rfl, rfl⟩
  · exact ⟨rfl, rfl, rfl⟩
theorem Arrives.src {cmd : Cmd} {h : RecHdr} {p : Bytes} {z : State} (ha : Arrives cmd h p z) : h.src = .ring ∨ h.src = .mbx0 ∨ h.src = .mbx1 := by
  have hs := ha.source
  revert hs
  unfold atHand
  cases h.src <;> intro hs <;> simp_all
/-- A command that carries a record goes on with the record taken. -/
theorem Carries.exec {c : Instr} {cmd : Cmd} {t : Nat} {h : RecHdr} {p : Bytes} {s : State} (hc : Carries c cmd t h p) (ha : Arrives cmd h p (s.begin t)) :
    ∃ l, exec c s = .next (noteSets l (finish s.pend s.jnl.head (framed (some cmd) h cmd.opcode p (crc32c (recBytes h cmd.opcode p)) ((s.begin t).recTaken cmd h p)))) := by
  rw [hc s]
  refine ⟨_, congrArg (fun z => Host.Outcome.next (noteSets _ (finish _ _ z))) ?_⟩
  refine (takeFrom_ready ha _).trans ?_
  have hsz := ha.size
  unfold process
  simp [hsz.2, Nat.not_lt.mpr hsz.1]
theorem Carries.only {c : Instr} {cmd : Cmd} {t : Nat} {h : RecHdr} {p : Bytes} {s : State} {F : State → Prop} (hc : Carries c cmd t h p) (ha : Arrives cmd h p (s.begin t))
    (hf : Frame 516 ((s.begin t).recTaken cmd h p) (framed (some cmd) h cmd.opcode p (crc32c (recBytes h cmd.opcode p)) ((s.begin t).recTaken cmd h p)))
    (hF : ∀ l, F (noteSets l (finish s.pend s.jnl.head (framed (some cmd) h cmd.opcode p (crc32c (recBytes h cmd.opcode p)) ((s.begin t).recTaken cmd h p))))) : Gives c s [.host] F := by
  obtain ⟨l, e⟩ := hc.exec ha
  refine ⟨_, e, ?_, hF l⟩
  refine Frame.only (m := 517) (Eq.mpr (State.noteSets_frame rfl) (Eq.mpr (State.finish_frame rfl) ?_)) rfl
  refine Frame.trans ?_ (hf.widen rfl)
  exact Frame.trans (u := begin t s) (by simp) (recTaken_frame.widen rfl)
theorem reject_plain {h : RecHdr} {op st e a b : Nat} {r : Refuse} {z : State} {l : List (Nat × Nat)} (hs : h.src = .ring ∨ h.src = .mbx0 ∨ h.src = .mbx1) :
    Rejected h op st r e z (noteSets l (finish a b (reject h op st r e none z))) ∧ Unconsumed (ctxOf h.sess) z (noteSets l (finish a b (reject h op st r e none z))) := by
  have hm : h.src ≠ .mesh := by obtain hs | hs | hs := hs <;> rw [hs] <;> decide
  unfold reject
  simp only [hm, if_false]
  generalize hw : spoil _ z = w
  have hc : ∀ c, w.ctx c = z.ctx c := by intro c; rw [← hw]; rfl
  refine ⟨⟨?_, ?_, ?_⟩, ?_⟩
  · have := @deliver_told h (rejectCpl h op st r e) w l a b hs
    unfold Told at this ⊢
    rw [hc] at this
    exact this
  · rw [(deliver_spoils hs).1, ← hw]; rfl
  · rw [(deliver_spoils hs).2, ← hw]; rfl
  · have := @deliver_seq h (rejectCpl h op st r e) w l a b (ctxOf h.sess) hs
    unfold Unconsumed at this ⊢
    rw [hc] at this
    exact this
theorem reject_kept {h : RecHdr} {op st e a b : Nat} {r : Refuse} {y : Word} {z : State} {l : List (Nat × Nat)} (hs : h.src = .ring ∨ h.src = .mbx0 ∨ h.src = .mbx1)
    (hl : ctxOf h.sess < z.host.ctxs.length) (hst : (z.ctx (ctxOf h.sess)).st ≠ 0) : ∃ u, u = noteSets l (finish a b (reject h op st r e (some y) z)) ∧ Rejected h op st r e z u ∧
      (u.ctx (ctxOf h.sess)).e = (z.ctx (ctxOf h.sess)).e ∧ (u.ctx (ctxOf h.sess)).consumed = (z.ctx (ctxOf h.sess)).consumed ∧
      (u.ctx (ctxOf h.sess)).cache = ({ seq := h.seq, crc := y, cpl := rejectCpl h op st r e } ::
        (z.ctx (ctxOf h.sess)).cache).filter fun y => decide (serialDiff 32 (z.ctx (ctxOf h.sess)).e y.seq ≤ 256) := by
  have hm : h.src ≠ .mesh := by obtain hs | hs | hs := hs <;> rw [hs] <;> decide
  refine ⟨_, rfl, ?_⟩
  unfold reject
  simp only [hm, if_false]
  generalize hk : rejectCpl h op st r e = k
  have hseq : k.seq = h.seq := by rw [← hk]; rfl
  generalize hw : spoil _ z = w
  have hh : w.host.ctxs = z.host.ctxs := by rw [← hw]; rfl
  have q := @deliver_seq h k (cacheCpl (ctxOf h.sess) y k w) l a b (ctxOf h.sess) hs
  have hl' : ctxOf h.sess < w.host.ctxs.length := by rw [hh]; exact hl
  have hc : (cacheCpl (ctxOf h.sess) y k w).ctx (ctxOf h.sess) = { z.ctx (ctxOf h.sess) with cache := ({ seq := k.seq, crc := y, cpl := k } :: (z.ctx (ctxOf h.sess)).cache).filter fun y => decide (serialDiff 32 (z.ctx (ctxOf h.sess)).e y.seq ≤ 256) } := by
    unfold cacheCpl
    rw [ctx_onCtx hl', ctx_host hh, if_neg hst]
  refine ⟨⟨?_, ?_, ?_⟩, ?_, ?_, ?_⟩
  · have := @deliver_told h k (cacheCpl (ctxOf h.sess) y k w) l a b hs
    have hr : ∀ c, ((cacheCpl (ctxOf h.sess) y k w).ctx c).cqBase = (z.ctx c).cqBase ∧ ((cacheCpl (ctxOf h.sess) y k w).ctx c).cqTail = (z.ctx c).cqTail ∧
        ((cacheCpl (ctxOf h.sess) y k w).ctx c).phase = (z.ctx c).phase := by
      intro c
      have g : ∀ {α : Type} (f : Ctx → α), (∀ (x : Ctx) (c : List Cached), f { x with cache := c } = f x) → f ((cacheCpl (ctxOf h.sess) y k w).ctx c) = f (z.ctx c) := by
        intro α f hf
        unfold cacheCpl
        rw [onCtx_of f (fun x => by split; rfl; exact hf _ _), ctx_host hh]
      exact ⟨g (·.cqBase) fun _ _ => rfl, g (·.cqTail) fun _ _ => rfl, g (·.phase) fun _ _ => rfl⟩
    unfold Told at this ⊢
    rw [(hr _).1, (hr _).2.1, (hr _).2.2] at this
    rw [← hk] at this ⊢
    exact this
  · rw [(deliver_spoils hs).1, ← hw]; rfl
  · rw [(deliver_spoils hs).2, ← hw]; rfl
  · rw [q.1, hc]
  · rw [q.2.1, hc]
  · rw [q.2.2, hc, hseq]
/-- Every command goes on, and leaves the queue, the fuses but for FUSE_PROG, and the key invariant alone. -/
theorem every_goes (c : Instr) (s : State) : (∃ t k a b, c = .fuseProg t k a b) ∨ Goes 369098735 s (exec c s) := by
  cases c
  case sampleLatch => exact .inr (execSampleLatch_goes.widen rfl)
  case benchStart => exact .inr (execBenchStart_goes.widen rfl)
  case benchFinishDeadline => exact .inr (execBenchFinishDeadline_goes.widen rfl)
  case benchFaultEscalation => exact .inr (execBenchFaultEscalation_goes.widen rfl)
  case outputPhase => exact .inr (execOutputPhase_goes.widen rfl)
  case traceDone => exact .inr (execTraceDone_goes.widen rfl)
  case commitLanding => exact .inr (execCommitLanding_goes.widen rfl)
  case compileStart => exact .inr (execCompileStart_goes.widen rfl)
  case compileStop => exact .inr (execCompileStop_goes.widen rfl)
  case shipSlot => exact .inr (execShipSlot_goes.widen rfl)
  case localSetDeadline => exact .inr (execLocalSetDeadline_goes.widen rfl)
  case edgeFrameShip => exact .inr (execEdgeFrameShip_goes.widen rfl)
  case edgePeriodOpening => exact .inr (execEdgePeriodOpening_goes.widen rfl)
  case lpwmTransition => exact .inr (execLpwmTransition_goes.widen rfl)
  case benchArithmetic => exact .inr (execBenchArithmetic_goes.widen rfl)
  case benchSelect => exact .inr (execBenchSelect_goes.widen rfl)
  case benchLane => exact .inr (execBenchLane_goes.widen rfl)
  case benchConvert => exact .inr (execBenchConvert_goes.widen rfl)
  case benchEstimate => exact .inr (execBenchEstimate_goes.widen rfl)
  case benchLoad => exact .inr (execBenchLoad_goes.widen rfl)
  case benchStore => exact .inr (execBenchStore_goes.widen rfl)
  case benchLoop => exact .inr (execBenchLoop_goes.widen rfl)
  case benchEnd => exact .inr (execBenchEnd_goes.widen rfl)
  case cordicRequest => exact .inr (execCordicRequest_goes.widen rfl)
  case cordicResult => exact .inr (execCordicResult_goes.widen rfl)
  case sortRequest => exact .inr (execSortRequest_goes.widen rfl)
  case sortResult => exact .inr (execSortResult_goes.widen rfl)
  case rcRequest => exact .inr (execRcRequest_goes.widen rfl)
  case rcResult => exact .inr (execRcResult_goes.widen rfl)
  case armSort => exact .inr (execArmSort_goes.widen rfl)
  case armSortResult => exact .inr (execArmSortResult_goes.widen rfl)
  case interpStart => exact .inr (execInterpStart_goes.widen rfl)
  case interpDeadline => exact .inr (execInterpDeadline_goes.widen rfl)
  case thermalPass => exact .inr (execThermalPass_goes.widen rfl)
  case thermalDeadline => exact .inr (execThermalDeadline_goes.widen rfl)
  case derateRestartEnd => exact .inr (execDerateRestartEnd_goes.widen rfl)
  case balListSend => exact .inr (execBalListSend_goes.widen rfl)
  case balListReceive => exact .inr (execBalListReceive_goes.widen rfl)
  case balMerge => exact .inr (execBalMerge_goes.widen rfl)
  case balSliceReceive => exact .inr (execBalSliceReceive_goes.widen rfl)
  case balSliceDeadline => exact .inr (execBalSliceDeadline_goes.widen rfl)
  case mergeLost => exact .inr (execMergeLost_goes.widen rfl)
  case sramUncorrectableError => exact .inr (execSramUncorrectableError_goes.widen rfl)
  case sramCorrectedError => exact .inr (execSramCorrectedError_goes.widen rfl)
  case scrubPass => exact .inr (execScrubPass_goes.widen rfl)
  case imgBufOpen => exact .inr (execImgBufOpen_goes.widen rfl)
  case imgBufClose => exact .inr (execImgBufClose_goes.widen rfl)
  case imgSlotErase => exact .inr (execImgSlotErase_goes.widen rfl)
  case slotEraseDone => exact .inr (execSlotEraseDone_goes.widen rfl)
  case imgSlotWrite => exact .inr (execImgSlotWrite_goes.widen rfl)
  case slotWriteDone => exact .inr (execSlotWriteDone_goes.widen rfl)
  case imgSetBoot => exact .inr (execImgSetBoot_goes.widen rfl)
  case imgLoad => exact .inr (execImgLoad_goes.widen rfl)
  case imageValidationDone => exact .inr (execImageValidationDone_goes.widen rfl)
  case presenceFitWindow => exact .inr (execPresenceFitWindow_goes.widen rfl)
  case bootValidation => exact .inr (execBootValidation_goes.widen rfl)
  case imgRecheck => exact .inr (execImgRecheck_goes.widen rfl)
  case imgArm => exact .inr (execImgArm_goes.widen rfl)
  case armingDone => exact .inr (execArmingDone_goes.widen rfl)
  case imgSwap => exact .inr (execImgSwap_goes.widen rfl)
  case imgDisarm => exact .inr (execImgDisarm_goes.widen rfl)
  case swapBoundary => exact .inr (execSwapBoundary_goes.widen rfl)
  case swapCancel => exact .inr (execSwapCancel_goes.widen rfl)
  case imgFwWrite => exact .inr (execImgFwWrite_goes.widen rfl)
  case fwWriteDone => exact .inr (execFwWriteDone_goes.widen rfl)
  case imgFwSwitch => exact .inr (execImgFwSwitch_goes.widen rfl)
  case fwSwitchRestart => exact .inr (execFwSwitchRestart_goes.widen rfl)
  case fwSwitchDone => exact .inr (execFwSwitchDone_goes.widen rfl)
  case sessionOpen => exact .inr (execSessionOpen_goes.widen rfl)
  case sessionClose => exact .inr (execSessionClose_goes.widen rfl)
  case keepalive => exact .inr (execKeepalive_goes.widen rfl)
  case resume => exact .inr (execResume_goes.widen rfl)
  case takeControl => exact .inr (execTakeControl_goes.widen rfl)
  case releaseControl => exact .inr (execReleaseControl_goes.widen rfl)
  case hostSessCtlStart => exact .inr (execHostSessCtlStart_goes.widen rfl)
  case hostSqTailWrite => exact .inr (execHostSqTailWrite_goes.widen rfl)
  case hostCqHeadWrite => exact .inr (execHostCqHeadWrite_goes.widen rfl)
  case recordFetch => exact .inr (execRecordFetch_goes.widen rfl)
  case hostMbxDoorbell => exact .inr (execHostMbxDoorbell_goes.widen rfl)
  case ringAccessFailure => exact .inr (execRingAccessFailure_goes.widen rfl)
  case leaseExpiry => exact .inr (execLeaseExpiry_goes.widen rfl)
  case parkKeepExpiry => exact .inr (execParkKeepExpiry_goes.widen rfl)
  case hostLossPolicy => exact .inr (execHostLossPolicy_goes.widen rfl)
  case journalSpill => exact .inr (execJournalSpill_goes.widen rfl)
  case remoteResult => exact .inr (execRemoteResult_goes.widen rfl)
  case regWrite => exact .inr (execRegWrite_goes.widen rfl)
  case registerWrite => exact .inr (execRegisterWrite_goes.widen rfl)
  case loadBufferWrite => exact .inr (execLoadBufferWrite_goes.widen rfl)
  case rcRead => exact .inr (execRcRead_goes.widen rfl)
  case clkTimeLoRead => exact .inr (execClkTimeLoRead_goes.widen rfl)
  case jnlLoRead => exact .inr (execJnlLoRead_goes.widen rfl)
  case remoteRegisterAccess => exact .inr (execRemoteRegisterAccess_goes.widen rfl)
  case spiTransaction => exact .inr (execSpiTransaction_goes.widen rfl)
  case regacc => exact .inr (execRegacc_goes.widen rfl)
  case fuseProg => exact .inl ⟨_, _, _, _, rfl⟩
  case refFrequencyCount => exact .inr (execRefFrequencyCount_goes.widen rfl)
  case refCountRetry => exact .inr (execRefCountRetry_goes.widen rfl)
  case bandFound => exact .inr (execBandFound_goes.widen rfl)
  case acquisitionTimeout => exact .inr (execAcquisitionTimeout_goes.widen rfl)
  case lockSearchRetry => exact .inr (execLockSearchRetry_goes.widen rfl)
  case lockDeclared => exact .inr (execLockDeclared_goes.widen rfl)
  case alignmentDone => exact .inr (execAlignmentDone_goes.widen rfl)
  case referenceLoss => exact .inr (execReferenceLoss_goes.widen rfl)
  case lossOfLock => exact .inr (execLossOfLock_goes.widen rfl)
  case referenceReturn => exact .inr (execReferenceReturn_goes.widen rfl)
  case slewDone => exact .inr (execSlewDone_goes.widen rfl)
  case refChangeRelock => exact .inr (execRefChangeRelock_goes.widen rfl)
  case meshReferenceLoss => exact .inr (execMeshReferenceLoss_goes.widen rfl)
  case meshReferenceSwitch => exact .inr (execMeshReferenceSwitch_goes.widen rfl)
  case clkTimeLoad => exact .inr (execClkTimeLoad_goes.widen rfl)
  case timeLoadAct => exact .inr (execTimeLoadAct_goes.widen rfl)
  case outpllLocked => exact .inr (execOutpllLocked_goes.widen rfl)
  case outpllLossOfLock => exact .inr (execOutpllLossOfLock_goes.widen rfl)
  case clkOutpllCfgWrite => exact .inr (execClkOutpllCfgWrite_goes.widen rfl)
  case clkOutCfgWrite => exact .inr (execClkOutCfgWrite_goes.widen rfl)
  case clkOutFstepWrite => exact .inr (execClkOutFstepWrite_goes.widen rfl)
  case trimSample => exact .inr (execTrimSample_goes.widen rfl)
  case dieSensorSample => exact .inr (execDieSensorSample_goes.widen rfl)
  case dieFastRateEnd => exact .inr (execDieFastRateEnd_goes.widen rfl)
  case dieShutdown => exact .inr (execDieShutdown_goes.widen rfl)
  case eventRecordWrite => exact .inr (execEventRecordWrite_goes.widen rfl)
  case eventSectorErase => exact .inr (execEventSectorErase_goes.widen rfl)
  case laneTest => exact .inr (execLaneTest_goes.widen rfl)
  case laneRetrain => exact .inr (execLaneRetrain_goes.widen rfl)
  case laneSleep => exact .inr (execLaneSleep_goes.widen rfl)
  case laneWake => exact .inr (execLaneWake_goes.widen rfl)
  case cdrLock => exact .inr (execCdrLock_goes.widen rfl)
  case attemptTimeout => exact .inr (execAttemptTimeout_goes.widen rfl)
  case retryGapEnd => exact .inr (execRetryGapEnd_goes.widen rfl)
  case markerReceived => exact .inr (execMarkerReceived_goes.widen rfl)
  case markerLost => exact .inr (execMarkerLost_goes.widen rfl)
  case blockLost => exact .inr (execBlockLost_goes.widen rfl)
  case signalLoss => exact .inr (execSignalLoss_goes.widen rfl)
  case hiBer => exact .inr (execHiBer_goes.widen rfl)
  case retrainAdaptationDone => exact .inr (execRetrainAdaptationDone_goes.widen rfl)
  case txRetrainDone => exact .inr (execTxRetrainDone_goes.widen rfl)
  case rxWakeDone => exact .inr (execRxWakeDone_goes.widen rfl)
  case txWakeDone => exact .inr (execTxWakeDone_goes.widen rfl)
  case markerSend => exact .inr (execMarkerSend_goes.widen rfl)
  case farLoopOn => exact .inr (execFarLoopOn_goes.widen rfl)
  case farLoopOff => exact .inr (execFarLoopOff_goes.widen rfl)
  case sleepNotice => exact .inr (execSleepNotice_goes.widen rfl)
  case feed => exact .inr (execFeed_goes.widen rfl)
  case babbleCut => exact .inr (execBabbleCut_goes.widen rfl)
  case ack => exact .inr (execAck_goes.widen rfl)
  case nak => exact .inr (execNak_goes.widen rfl)
  case identityAnswer => exact .inr (execIdentityAnswer_goes.widen rfl)
  case cellTripBlock => exact .inr (execCellTripBlock_goes.widen rfl)
  case identQueryTimer => exact .inr (execIdentQueryTimer_goes.widen rfl)
  case ctrlRetryTimeout => exact .inr (execCtrlRetryTimeout_goes.widen rfl)
  case cellLostTimeout => exact .inr (execCellLostTimeout_goes.widen rfl)
  case preTimeoutExpiry => exact .inr (execPreTimeoutExpiry_goes.widen rfl)
  case fwRebootTimeout => exact .inr (execFwRebootTimeout_goes.widen rfl)
  case tripBlockRepeat => exact .inr (execTripBlockRepeat_goes.widen rfl)
  case cellRejoin => exact .inr (execCellRejoin_goes.widen rfl)
  case cellAdmit => exact .inr (execCellAdmit_goes.widen rfl)
  case cellBypass => exact .inr (execCellBypass_goes.widen rfl)
  case cellExclude => exact .inr (execCellExclude_goes.widen rfl)
  case cellFwLoad => exact .inr (execCellFwLoad_goes.widen rfl)
  case cellBypassTimeout => exact .inr (execCellBypassTimeout_goes.widen rfl)
  case refStage => exact .inr (execRefStage_goes.widen rfl)
  case refCommit => exact .inr (execRefCommit_goes.widen rfl)
  case refDiscard => exact .inr (execRefDiscard_goes.widen rfl)
  case wordFrameReceive => exact .inr (execWordFrameReceive_goes.widen rfl)
  case blankingStart => exact .inr (execBlankingStart_goes.widen rfl)
  case blankingEnd => exact .inr (execBlankingEnd_goes.widen rfl)
  case loopOpen => exact .inr (execLoopOpen_goes.widen rfl)
  case loopClose => exact .inr (execLoopClose_goes.widen rfl)
  case loopManual => exact .inr (execLoopManual_goes.widen rfl)
  case coefWrite => exact .inr (execCoefWrite_goes.widen rfl)
  case rcCtl => exact .inr (execRcCtl_goes.widen rfl)
  case traceArm => exact .inr (execTraceArm_goes.widen rfl)
  case traceStop => exact .inr (execTraceStop_goes.widen rfl)
  case traceForce => exact .inr (execTraceForce_goes.widen rfl)
  case thermReinit => exact .inr (execThermReinit_goes.widen rfl)
  case balShare => exact .inr (execBalShare_goes.widen rfl)
  case evsMark => exact .inr (execEvsMark_goes.widen rfl)
  case modeSet => exact .inr (execModeSet_goes.widen rfl)
  case setpoint => exact .inr (execSetpoint_goes.widen rfl)
  case modeLossClear => exact .inr (execModeLossClear_goes.widen rfl)
  case ovlSet => exact .inr (execOvlSet_goes.widen rfl)
  case meshModeBoundary => exact .inr (execMeshModeBoundary_goes.widen rfl)
  case safeNoticeReceived => exact .inr (execSafeNoticeReceived_goes.widen rfl)
  case prechargeP1Timeout => exact .inr (execPrechargeP1Timeout_goes.widen rfl)
  case prechargeP2Timeout => exact .inr (execPrechargeP2Timeout_goes.widen rfl)
  case prechargeRelayOff => exact .inr (execPrechargeRelayOff_goes.widen rfl)
  case prechargeComplete => exact .inr (execPrechargeComplete_goes.widen rfl)
  case startMaxExpiry => exact .inr (execStartMaxExpiry_goes.widen rfl)
  case runStartConditions => exact .inr (execRunStartConditions_goes.widen rfl)
  case gridCoastDetect => exact .inr (execGridCoastDetect_goes.widen rfl)
  case gridReturn => exact .inr (execGridReturn_goes.widen rfl)
  case resyncComplete => exact .inr (execResyncComplete_goes.widen rfl)
  case coastMaxExpiry => exact .inr (execCoastMaxExpiry_goes.widen rfl)
  case overloadCount => exact .inr (execOverloadCount_goes.widen rfl)
  case flyingStartFound => exact .inr (execFlyingStartFound_goes.widen rfl)
  case fsTmaxExpiry => exact .inr (execFsTmaxExpiry_goes.widen rfl)
  case catchTExpiry => exact .inr (execCatchTExpiry_goes.widen rfl)
  case driveCoastEnd => exact .inr (execDriveCoastEnd_goes.widen rfl)
  case zeroSpeedCount => exact .inr (execZeroSpeedCount_goes.widen rfl)
  case brkFault => exact .inr (execBrkFault_goes.widen rfl)
  case feedbackLost => exact .inr (execFeedbackLost_goes.widen rfl)
  case dwellEnd => exact .inr (execDwellEnd_goes.widen rfl)
  case adcRunStart => exact .inr (execAdcRunStart_goes.widen rfl)
  case adcConversionDone => exact .inr (execAdcConversionDone_goes.widen rfl)
  case adcWake => exact .inr (execAdcWake_goes.widen rfl)
  case injectedRequest => exact .inr (execInjectedRequest_goes.widen rfl)
  case adcInject => exact .inr (execAdcInject_goes.widen rfl)
  case adcCal => exact .inr (execAdcCal_goes.widen rfl)
  case calibrationRunning => exact .inr (execCalibrationRunning_goes.widen rfl)
  case calibrationEnd => exact .inr (execCalibrationEnd_goes.widen rfl)
  case tdacSet => exact .inr (execTdacSet_goes.widen rfl)
  case tdacConnect => exact .inr (execTdacConnect_goes.widen rfl)
  case sieveOutput => exact .inr (execSieveOutput_goes.widen rfl)
  case sieveStuck => exact .inr (execSieveStuck_goes.widen rfl)
  case sdcStartStop => exact .inr (execSdcStartStop_goes.widen rfl)
  case comparatorStageChange => exact .inr (execComparatorStageChange_goes.widen rfl)
  case sampledWindow => exact .inr (execSampledWindow_goes.widen rfl)
  case cmpCheck => exact .inr (execCmpCheck_goes.widen rfl)
  case cmpCheckEnd => exact .inr (execCmpCheckEnd_goes.widen rfl)
  case cmpPowerupChecks => exact .inr (execCmpPowerupChecks_goes.widen rfl)
  case cmpThresh => exact .inr (execCmpThresh_goes.widen rfl)
  case thresholdStep => exact .inr (execThresholdStep_goes.widen rfl)
  case tripPinFilter => exact .inr (execTripPinFilter_goes.widen rfl)
  case tripnLow => exact .inr (execTripnLow_goes.widen rfl)
  case tripnIgnoreEnd => exact .inr (execTripnIgnoreEnd_goes.widen rfl)
  case tripRelease => exact .inr (execTripRelease_goes.widen rfl)
  case tripReleaseLanding => exact .inr (execTripReleaseLanding_goes.widen rfl)
  case sinChannelTaken => exact .inr (execSinChannelTaken_goes.widen rfl)
  case discrepancy => exact .inr (execDiscrepancy_goes.widen rfl)
  case safeRstEdge => exact .inr (execSafeRstEdge_goes.widen rfl)
  case rstStuck => exact .inr (execRstStuck_goes.widen rfl)
  case gatePowerRequest => exact .inr (execGatePowerRequest_goes.widen rfl)
  case testPulse => exact .inr (execTestPulse_goes.widen rfl)
  case testPulseEnd => exact .inr (execTestPulseEnd_goes.widen rfl)
  case soffReadbackFailure => exact .inr (execSoffReadbackFailure_goes.widen rfl)
  case livenessTimeout => exact .inr (execLivenessTimeout_goes.widen rfl)
  case safeClockCheck => exact .inr (execSafeClockCheck_goes.widen rfl)
  case vddSafeFault => exact .inr (execVddSafeFault_goes.widen rfl)
  case safeUnlock => exact .inr (execSafeUnlock_goes.widen rfl)
  case safeLock => exact .inr (execSafeLock_goes.widen rfl)
  case safePassSet => exact .inr (execSafePassSet_goes.widen rfl)
  case unlockTimeout => exact .inr (execUnlockTimeout_goes.widen rfl)
  case lockoutEnd => exact .inr (execLockoutEnd_goes.widen rfl)
  case safeCtlWrite => exact .inr (execSafeCtlWrite_goes.widen rfl)
  case discSend => exact .inr (execDiscSend_goes.widen rfl)
  case discReceive => exact .inr (execDiscReceive_goes.widen rfl)
  case data => exact .inr (execData_goes.widen rfl)
  case meshAck => exact .inr (execMeshAck_goes.widen rfl)
  case dataRetransmit => exact .inr (execDataRetransmit_goes.widen rfl)
  case nodeSilent => exact .inr (execNodeSilent_goes.widen rfl)
  case emptyDataSend => exact .inr (execEmptyDataSend_goes.widen rfl)
  case isolated => exact .inr (execIsolated_goes.widen rfl)
  case timeFrame => exact .inr (execTimeFrame_goes.widen rfl)
  case portDownUp => exact .inr (execPortDownUp_goes.widen rfl)
  case linkFrame => exact .inr (execLinkFrame_goes.widen rfl)
  case meshTripFlood => exact .inr (execMeshTripFlood_goes.widen rfl)
  case floodRepeat => exact .inr (execFloodRepeat_goes.widen rfl)
  case bcastReg => exact .inr (execBcastReg_goes.widen rfl)
  case barArrive => exact .inr (execBarArrive_goes.widen rfl)
  case barRelease => exact .inr (execBarRelease_goes.widen rfl)
  case barArriveResend => exact .inr (execBarArriveResend_goes.widen rfl)
  case barrierTimeout => exact .inr (execBarrierTimeout_goes.widen rfl)
  case snap => exact .inr (execSnap_goes.widen rfl)
  case snapshotExecute => exact .inr (execSnapshotExecute_goes.widen rfl)
  case resetSymbol => exact .inr (execResetSymbol_goes.widen rfl)
  case resetBlockSymbol => exact .inr (execResetBlockSymbol_goes.widen rfl)
  case scheduledResetExecute => exact .inr (execScheduledResetExecute_goes.widen rfl)
  case modeSymbol => exact .inr (execModeSymbol_goes.widen rfl)
  case lossSymbol => exact .inr (execLossSymbol_goes.widen rfl)
  case safeSymbol => exact .inr (execSafeSymbol_goes.widen rfl)
  case tloadAt => exact .inr (execTloadAt_goes.widen rfl)
  case tloadVal => exact .inr (execTloadVal_goes.widen rfl)
  case confirm => exact .inr (execConfirm_goes.widen rfl)
  case confirmWindowExpiry => exact .inr (execConfirmWindowExpiry_goes.widen rfl)
  case meshBind => exact .inr (execMeshBind_goes.widen rfl)
  case meshBarrier => exact .inr (execMeshBarrier_goes.widen rfl)
  case meshSnapshot => exact .inr (execMeshSnapshot_goes.widen rfl)
  case meshReset => exact .inr (execMeshReset_goes.widen rfl)
  case meshBcastReg => exact .inr (execMeshBcastReg_goes.widen rfl)
  case input => exact .inr (execInput_goes.widen rfl)
  case refs => exact .inr (execRefs_goes.widen rfl)
  case cmd => exact .inr (execCmd_goes.widen rfl)
  case jnl => exact .inr (execJnl_goes.widen rfl)
  case health => exact .inr (execHealth_goes.widen rfl)
  case resign => exact .inr (execResign_goes.widen rfl)
  case handover => exact .inr (execHandover_goes.widen rfl)
  case sync => exact .inr (execSync_goes.widen rfl)
  case syncEnd => exact .inr (execSyncEnd_goes.widen rfl)
  case cmdMirrorTimeout => exact .inr (execCmdMirrorTimeout_goes.widen rfl)
  case healthMissed => exact .inr (execHealthMissed_goes.widen rfl)
  case standbyCompile => exact .inr (execStandbyCompile_goes.widen rfl)
  case standbyBenchStart => exact .inr (execStandbyBenchStart_goes.widen rfl)
  case fence => exact .inr (execFence_goes.widen rfl)
  case waitingTimeout => exact .inr (execWaitingTimeout_goes.widen rfl)
  case detachedTimeout => exact .inr (execDetachedTimeout_goes.widen rfl)
  case partnerEdgeSeen => exact .inr (execPartnerEdgeSeen_goes.widen rfl)
  case handoverBoundary => exact .inr (execHandoverBoundary_goes.widen rfl)
  case failbackHoldExpiry => exact .inr (execFailbackHoldExpiry_goes.widen rfl)
  case pairSwitch => exact .inr (execPairSwitch_goes.widen rfl)
  case pairFailback => exact .inr (execPairFailback_goes.widen rfl)
  case pairResync => exact .inr (execPairResync_goes.widen rfl)
  case powerOnReset => exact .inr (execPowerOnReset_goes.widen rfl)
  case porReleaseTimer => exact .inr (execPorReleaseTimer_goes.widen rfl)
  case riseWindowExpiry => exact .inr (execRiseWindowExpiry_goes.widen rfl)
  case supplyFall => exact .inr (execSupplyFall_goes.widen rfl)
  case resetN => exact .inr (execResetN_goes.widen rfl)
  case firmwareBootDone => exact .inr (execFirmwareBootDone_goes.widen rfl)
  case warm => exact .inr (execWarm_goes.widen rfl)
  case warmResetEnd => exact .inr (execWarmResetEnd_goes.widen rfl)
  case reload => exact .inr (execReload_goes.widen rfl)
  case powerStateRequest => exact .inr (execPowerStateRequest_goes.widen rfl)
  case powerStateChangeDone => exact .inr (execPowerStateChangeDone_goes.widen rfl)
  case wakeTimerExpiry => exact .inr (execWakeTimerExpiry_goes.widen rfl)
  case laneSoftReset => exact .inr (execLaneSoftReset_goes.widen rfl)
  case seamSoftReset => exact .inr (execSeamSoftReset_goes.widen rfl)
  case edgSoftReset => exact .inr (execEdgSoftReset_goes.widen rfl)
  case bncSoftReset => exact .inr (execBncSoftReset_goes.widen rfl)
  case balSoftReset => exact .inr (execBalSoftReset_goes.widen rfl)
  case modeSoftReset => exact .inr (execModeSoftReset_goes.widen rfl)
  case adcSoftReset => exact .inr (execAdcSoftReset_goes.widen rfl)
  case cmpSoftReset => exact .inr (execCmpSoftReset_goes.widen rfl)
  case meshSoftReset => exact .inr (execMeshSoftReset_goes.widen rfl)
  case pairSoftReset => exact .inr (execPairSoftReset_goes.widen rfl)
  case softResetDone => exact .inr (execSoftResetDone_goes.widen rfl)
  case supplyRise => exact .inr (execSupplyRise_goes.widen rfl)
  case resetNRelease => exact .inr (execResetNRelease_goes.widen rfl)
  case safeRstRelease => exact .inr (execSafeRstRelease_goes.widen rfl)
  case vddSafeRecovery => exact .inr (execVddSafeRecovery_goes.widen rfl)
  case pcieReferenceClockChange => exact .inr (execPcieReferenceClockChange_goes.widen rfl)
  case txSleepDone => exact .inr (execTxSleepDone_goes.widen rfl)
  case prbsCheckerLock => exact .inr (execPrbsCheckerLock_goes.widen rfl)
  case copyWindowExpiry => exact .inr (execCopyWindowExpiry_goes.widen rfl)
  case sieveLeavesStuck => exact .inr (execSieveLeavesStuck_goes.widen rfl)
/-- Two states give the same place to a completion. -/
def SameSlots (z v : State) : Prop := ∀ c, (z.ctx c).cqBase = (v.ctx c).cqBase ∧ (z.ctx c).cqTail = (v.ctx c).cqTail ∧ (z.ctx c).phase = (v.ctx c).phase
theorem SameSlots.trans {x y z : State} (h : SameSlots x y) (k : SameSlots y z) : SameSlots x z :=
  fun c => ⟨(h c).1.trans (k c).1, (h c).2.1.trans (k c).2.1, (h c).2.2.trans (k c).2.2⟩
theorem SameSlots.onCtx {c : Nat} {f : Ctx → Ctx} {v : State} (h : ∀ x, (f x).cqBase = x.cqBase ∧ (f x).cqTail = x.cqTail ∧ (f x).phase = x.phase) : SameSlots (onCtx c f v) v :=
  fun _ => ⟨onCtx_of (·.cqBase) fun x => (h x).1, onCtx_of (·.cqTail) fun x => (h x).2.1, onCtx_of (·.phase) fun x => (h x).2.2⟩
theorem SameSlots.renew {c : Nat} {v : State} : SameSlots (renew c v) v := .onCtx fun _ => ⟨rfl, rfl, rfl⟩
theorem Told.of {h : RecHdr} {k : Cpl} {z v u : State} (g : SameSlots z v) (t : Told h k z u) : Told h k v u := by
  unfold Told at t ⊢
  rw [(g _).1, (g _).2.1, (g _).2.2] at t
  exact t
theorem Rejected.of {h : RecHdr} {op st e : Nat} {r : Refuse} {z v u : State} (g : SameSlots z v) (hh : z.host.spoilHead = v.host.spoilHead) (ht : z.sysTime = v.sysTime)
    (t : Rejected h op st r e z u) : Rejected h op st r e v u := by
  refine ⟨t.1.of g, hh ▸ t.2.1, ?_⟩
  rw [← ht]
  exact t.2.2
theorem Unconsumed.of {c : Nat} {z v u : State} (h : Unconsumed c z u) (e : (z.ctx c).e = (v.ctx c).e) (d : (z.ctx c).consumed = (v.ctx c).consumed)
    (a : (z.ctx c).cache = (v.ctx c).cache) : Unconsumed c v u := ⟨h.1.trans e, h.2.1.trans d, h.2.2.trans a⟩
theorem Unconsumed.renewed {c k : Nat} {v u : State} (h : Unconsumed c (renew k v) u) : Unconsumed c v u :=
  h.of (renew_of (·.e) fun _ _ => rfl) (renew_of (·.consumed) fun _ _ => rfl) (renew_of (·.cache) fun _ _ => rfl)
section
variable {s : State} {l : List (Nat × Nat)}
@[simp] theorem noteSets_ctx {c : Nat} : (noteSets l s).ctx c = s.ctx c := (rfl)
@[simp] theorem noteSets_cell {c : Nat} : (noteSets l s).cell c = s.cell c := (rfl)
@[simp] theorem noteSets_talk {c : Nat} : (noteSets l s).talk c = s.talk c := (rfl)
@[simp] theorem noteSets_conv {c : Nat} : (noteSets l s).conv c = s.conv c := (rfl)
end
theorem SameWait.of_frame {m : Nat} {v w : State} (h : Frame m v w) (k : m.testBit 9 = false) : SameWait v.host w.host := by
  rw [show w.host = v.host from h.keeps .host k]
  exact ⟨rfl, rfl⟩
theorem SameWait.refl {x : HostB} : SameWait x x := ⟨rfl, rfl⟩
theorem SameWait.trans {x y z : HostB} (h : SameWait x y) (k : SameWait y z) : SameWait x z := ⟨k.1.trans h.1, k.2.trans h.2⟩
theorem evControl_wait {v : State} {b : Nat} : SameWait v.host (v.evControl b).host :=
  .of_frame (m := 1024) (by unfold evControl; exact Frame.ite.mpr ⟨fun _ => by simp, fun _ => by simp⟩) rfl
theorem hostLossCheck_wait {v : State} : SameWait v.host v.hostLossCheck.host :=
  .of_frame (m := 8912900) (by unfold hostLossCheck; exact Frame.ite.mpr ⟨fun _ => by simp, fun _ => by simp⟩) rfl
theorem relockSession_wait {v : State} {k : Nat} : SameWait v.host (v.relockSession k).host := by
  unfold relockSession
  split
  · exact .of_frame (m := 131072 + 4194304) (by simp) rfl
  · exact .refl
theorem sessionOpen_wait {h : RecHdr} {p : Bytes} {v : State} : SameWait v.host (cmdSessionOpen.act h p v).1.host := by
  simp only [cmdSessionOpen]
  split
  · exact .trans ⟨rfl, rfl⟩ evControl_wait
  · exact .trans ⟨rfl, rfl⟩ evControl_wait
theorem sessionClose_wait {h : RecHdr} {p : Bytes} {v : State} : SameWait v.host (cmdSessionClose.act h p v).1.host := by
  simp only [cmdSessionClose]
  have k : SameWait v.host (evControl v.ctrlSess (relockSession h.sess (closeCtx (ctxOf h.sess) v))).host :=
    .trans (y := (relockSession h.sess (closeCtx (ctxOf h.sess) v)).host) (.trans (y := (closeCtx (ctxOf h.sess) v).host) ⟨rfl, rfl⟩ relockSession_wait) evControl_wait
  split
  · exact k.trans hostLossCheck_wait
  · exact k
theorem resume_wait {h : RecHdr} {p : Bytes} {v : State} : SameWait v.host (cmdResume.act h p v).1.host := ⟨rfl, rfl⟩
theorem takeControl_wait {h : RecHdr} {p : Bytes} {v : State} : SameWait v.host (cmdTakeControl.act h p v).1.host :=
  .trans ⟨rfl, rfl⟩ evControl_wait
theorem releaseControl_wait {h : RecHdr} {p : Bytes} {v : State} : SameWait v.host (cmdReleaseControl.act h p v).1.host :=
  .trans (.trans (y := (evControl v.ctrlSess (setCtrl none v)).host) (.trans ⟨rfl, rfl⟩ evControl_wait) hostLossCheck_wait) .refl
theorem Only.held {l : List Part} {s u : State} (h : Only (l ++ s.heldParts) s u) (p : Part) (k : p ∉ .now :: .out :: (l ++ [.mesh, .free])) : p.same s u := by
  refine h p fun q => k ?_
  have : ∀ x ∈ s.heldParts, x ∈ [Part.mesh, Part.free] := by
    unfold State.heldParts
    split <;> simp
  simp only [List.mem_cons, List.mem_append] at q ⊢
  rcases q with q | q | q | q
  · exact .inl q
  · exact .inr (.inl q)
  · exact .inr (.inr (.inl q))
  · exact .inr (.inr (.inr (by simpa using this p q)))
/-- Nothing of sys has changed but that the GPIOs may be high-impedance. -/
def GpioSame (s u : State) : Prop := ∃ g, u.sys = { s.sys with gpioHiz := g }
theorem GpioSame.trans {s u v : State} (h : GpioSame s u) (k : GpioSame u v) : GpioSame s v := by
  obtain ⟨g, h⟩ := h
  obtain ⟨g', k⟩ := k
  exact ⟨g', by rw [k, h]⟩
theorem GpioSame.of_frame {m : Nat} {s u : State} (h : Frame m s u) (k : m.testBit 5 = false) : GpioSame s u := ⟨s.sys.gpioHiz, h.keeps .sys k⟩
theorem controlGone_sys {z : State} : z.controlGone.sys = { z.sys with gpioHiz := true } := rfl
theorem imageDrop_gpio {z : State} : GpioSame z z.imageDrop := by
  unfold imageDrop
  extract_lets a1 a2 a3 a4 a5 a6 a7 a8
  have f3 : Frame 33554316 z a3 := by simp [a3, a2, a1]
  have f4 : a4.sys = { a3.sys with gpioHiz := true } := by
    have k : Frame 1947780 a3 a3.modeGone := by simp
    have k := k.keeps .sys rfl
    simp only [Part.same] at k
    simp only [a4, controlGone_sys, k]
  have f5 : Frame 8390156 a4 a5 := Eq.mpr (Frame.each fun _ => by simp) (by simp)
  have f8 : Frame 33554316 a5 a8 := by simp [a8, a7, a6]
  exact ((GpioSame.of_frame f3 rfl).trans ⟨true, f4⟩).trans ((GpioSame.of_frame f5 rfl).trans ((GpioSame.of_frame f8 rfl).trans (.of_frame (m := 33554316) (by simp) rfl)))
theorem hostWait_gpio {n : Nat} {z : State} : GpioSame z (hostWait n z) := by
  unfold hostWait
  extract_lets a1 a2 a3 a4 a5
  have f2 : GpioSame a1 a2 := by
    simp only [a2]
    split
    · exact imageDrop_gpio
    · exact .of_frame (m := 0) (by simp) rfl
  refine (GpioSame.of_frame (m := 256) (by simp [a1]) rfl).trans (f2.trans ?_)
  have f3 : Frame 256 a2 a3 := by
    simp only [a3]
    exact Frame.ite.mpr ⟨fun _ => by simp, fun _ => by simp⟩
  exact (GpioSame.of_frame f3 rfl).trans (.of_frame (m := 33554380) (by simp [a5, a4]) rfl)
theorem valEnds_gpio {v : Val} {d : ImgDesc} {b : Bytes} {x : Image.Bad} {z : State} (h : x.st ≠ 5) : GpioSame z (z.valEnds v d b (some x)) := by
  unfold valEnds
  extract_lets st a1 a2 waits a3 a4 a5 a6
  have e : st = x.st := rfl
  have hw : ∀ y : State, GpioSame y (waits y) := by
    intro y
    simp only [waits]
    refine .trans ?_ (.trans hostWait_gpio ⟨_, rfl⟩)
    split
    · exact .of_frame (m := 2052) (by simp) rfl
    · exact .of_frame (m := 0) (by simp) rfl
  have f4 : Frame 256 z a4 := by
    simp only [a4, a3, a2, a1]
    repeat' (first | (refine Frame.ite.mpr ⟨fun _ => ?_, fun _ => ?_⟩) | (simp; done) | split)
  refine (GpioSame.of_frame f4 rfl).trans ?_
  rw [if_neg (by rw [e]; exact h)]
  repeat' split
  · exact .of_frame (m := 256) (by simp) rfl
  · exact (hw _).trans (.of_frame (m := 1088) (by simp) rfl)
  · exact hw _
  · exact hw _
  · exact .of_frame (m := 2052) (by simp) rfl
theorem hostWait_waits {n : Nat} {z : State} : (hostWait n z).img.hostWait = true := by
  unfold hostWait
  extract_lets a1 a2 a3 a4 a5
  have k : Frame 33554124 a3 (lanesWait (n == 4) a5).outsSync := by simp [a5, a4]
  exact (congrArg Img.hostWait (k.keeps .img rfl)).trans waits_img
theorem hostWait_not {n : Nat} {z : State} : (hostWait n z).inForce = false := by
  unfold inForce
  rw [hostWait_waits, Bool.not_true, Bool.and_false]
theorem mod_add3 {a b c m : Nat} : (a + (b + c) % m) % m = (a + b + c) % m := by rw [Nat.add_mod_mod, Nat.add_assoc]
theorem slewStop_sysTime {s : State} : s.slewStop.sysTime = s.sysTime := by
  show (if s.clk.started then (s.now + (s.ofs + s.slewAdds) % 2 ^ 64 + 0) % 2 ^ 64 else 0) = _
  rw [Nat.add_zero, mod_add3]
  rfl
theorem time_of {s u : State} (h : u.now = s.now) (h1 : u.ofs = s.ofs) (h2 : u.clk.started = s.clk.started) (h3 : u.clk.slewing = s.clk.slewing)
    (h4 : u.clk.holdErr = s.clk.holdErr) (h5 : u.clk.stepAt = s.clk.stepAt) : u.sysTime = s.sysTime := by
  simp only [sysTime, slewAdds, slewTicks, h, h1, h2, h3, h4, h5]
theorem still_of {s u : State} (h : u.now = s.now) (h1 : u.ofs = s.ofs) (h2 : u.clk.started = s.clk.started) (h3 : u.clk.slewing = false)
    (h4 : s.clk.slewing = false) : u.sysTime = s.sysTime := by
  simp only [sysTime, slewAdds, h, h1, h2, h3, h4, Bool.not_false, if_true]
theorem finish_time {s : State} {l : List (Nat × Nat)} {p q : Nat} : (noteSets l (finish p q s)).sysTime = s.sysTime :=
  time_of (by simp) (by simp) (by simp) (by simp) (by simp) (by simp)
theorem outsSync_clk {s : State} : s.outsSync.clk = { s.clk with outs := s.outsSync.clk.outs } := rfl
theorem searchStart_clk {s : State} : s.searchStart.clk = { s.clk with
    slewing := false, holdErr := 0, st := 1, onFallback := true, onMesh := false, onHeld := false, sysUse := s.clk.sysLock, stepAt := s.now, fails := 0,
    waiting := false, load := s.searchStart.clk.load, outs := s.searchStart.clk.outs } := rfl
theorem searchStart_time {s : State} : s.searchStart.sysTime = s.sysTime :=
  (still_of (s := s.slewStop) rfl rfl rfl rfl rfl).trans slewStop_sysTime
theorem outpllRelock_clk {s : State} : s.outpllRelock.clk = { s.clk with
    outSt := if pllOk s.clk.pllM s.clk.pllF && (s.clk.st == 4 || s.clk.st == 5) then 1 else 0, outUse := s.clk.outLock, outAt := s.now,
    outs := s.outpllRelock.clk.outs } := rfl
theorem enterLocked_clk {s : State} : s.enterLocked.clk = { s.clk with
    slewing := false, holdErr := 0, st := 4, onFallback := false, diverged := false, refChanged := false, onHeld := false,
    meshOnce := s.clk.meshOnce || s.clk.onMesh, refPresent := s.clk.refPresent || !s.clk.onMesh, started := true, fails := 0,
    outSt := s.enterLocked.clk.outSt, outUse := s.enterLocked.clk.outUse, outAt := s.enterLocked.clk.outAt, outs := s.enterLocked.clk.outs } := by
  unfold enterLocked
  simp only []
  split <;> rfl
theorem enterLocked_frame' {s : State} : (s.enterLocked).now = s.now ∧ (s.enterLocked).ofs = s.slewStop.ofs := by
  unfold enterLocked
  simp only []
  split <;> exact ⟨rfl, rfl⟩
theorem enterLocked_time {s : State} (h : s.clk.started = true) : s.enterLocked.sysTime = s.sysTime := by
  refine (still_of (u := s.enterLocked) (s := s.slewStop) enterLocked_frame'.1 enterLocked_frame'.2 ?_ ?_ rfl).trans slewStop_sysTime
  · rw [enterLocked_clk]; exact h.symm
  · rw [enterLocked_clk]
theorem holdover_time {s : State} : s.holdover.sysTime = s.sysTime := (still_of (s := s.slewStop) rfl rfl rfl rfl rfl).trans slewStop_sysTime
theorem slewStart_time {s : State} {e : Int} (h : 1 ≤ e.natAbs) : (s.slewStart e).sysTime = s.sysTime := by
  refine Eq.trans ?_ (slewStop_sysTime (s := s))
  have k : (s.slewStart e).slewAdds = 0 := by
    show (if !true then 0 else if e < 0 then min (e.natAbs - 1) ((s.now - s.now) / max 50000 Config.slewTicks) else (2 ^ 64 - min (e.natAbs - 1) ((s.now - s.now) / max 50000 Config.slewTicks)) % 2 ^ 64) = 0
    simp
  simp only [sysTime, k]
  rfl
theorem runIf_stays {s : State} {t : Nat} {c : State → Bool} {f : State → State} (h : c (begin t s) = false) : s.runIf t c f = noteSets (setsOf id (begin t s)) (finish s.pend s.jnl.head (begin t s)) := by
  rw [runIf_not s t c f h]
  rfl
/-- A command whose condition does not hold does nothing. -/
theorem gives_stays {i : Instr} {s : State} {t : Nat} {c : State → Bool} {f : State → State} (e : exec i s = .next (s.runIf t c f)) (h : c (begin t s) = false) :
    Gives i s [] fun _ => True := by
  refine ⟨_, e, ?_, trivial⟩
  rw [runIf_stays h]
  exact Frame.only (m := 5) (by simp) rfl
theorem enterSafe_run {s : State} {r i : Nat} (h0 : s.mode.mode ≠ 0) (h8 : s.mode.mode ≠ 8) (hc : s.activeCovered = false) :
    (s.enterSafe r i).mode.mode = 8 ∧ (s.enterSafe r i).mode.reason = r ∧ (s.enterSafe r i).mode.index = i ∧
    (s.enterSafe r i).mode.cls = causeClass r ∧ (s.enterSafe r i).mode.inOff = false ∧ (s.enterSafe r i).mode.safeAt = s.now := by
  unfold enterSafe
  simp only [h0, h8, hc, if_false, Bool.false_eq_true, and_false]
  have hn : (s.safeEvent r i).now = s.now := by
    have : Frame 131072 s (s.safeEvent r i) := by simp
    exact this.keeps .now rfl
  generalize hv : (s.safeEvent r i).modeTo 8 true = v
  have hm : v.mode.mode = 8 := hv ▸ modeTo_mode
  have hf : ∀ (w : State) (n : Nat), Frame 10661900 w (w.internalTrip.sendSymbol 9 n) := by intro w n; simp
  have he := fun n => (hf (v.onMode fun x => { x with reason := r, cls := causeClass r, index := i, inOff := false, safeAt := (s.safeEvent r i).now }) n).keeps .mode rfl
  simp only [Part.same] at he
  rw [he]
  simp [hm, hn]
theorem run_goes {s : State} {t : Nat} {f : State → State} : s.run t f = noteSets (setsOf f (begin t s)) (finish s.pend s.jnl.head (f (begin t s))) := rfl
/-- A direct write that reaches its register: what it journals, and then what the register does. -/
theorem Reaches.gives {ifc : Iface} {off dom t m : Nat} {s : State} {v : Word} {c : State → Bool} {f : State → State} {i : Instr} {l : List Part} {F : State → Prop}
    (h : Reaches ifc.src off dom (begin t s)) (e : exec i s = .next (s.run t (State.direct ifc dom off v c f))) (hf : ∀ w, Frame m w (f w))
    (k : m ||| maskOfParts (.now :: .out :: l) = maskOfParts (.now :: .out :: l))
    (k' : 1029 ||| maskOfParts (.now :: .out :: l) = maskOfParts (.now :: .out :: l))
    (hF : ∀ j a p q, F (noteSets a (finish p q (f ((begin t s).withHJ s.host j))))) : Gives i s l F := by
  refine ⟨_, e, ?_, ?_⟩
  · rw [run_goes, h.direct]
    refine Frame.only (m := maskOfParts (.now :: .out :: l)) ?_ (Nat.or_self _)
    have k4 : ∀ n, n ||| 1029 = 1029 → n ||| maskOfParts (.now :: .out :: l) = maskOfParts (.now :: .out :: l) := fun n e => Mask.sub k' e
    refine Eq.mpr (State.noteSets_frame (k4 _ rfl)) (Eq.mpr (State.finish_frame (k4 _ rfl)) ?_)
    refine Frame.trans (u := begin t s) ((by simp : Frame 5 s (begin t s)).widen (k4 _ rfl)) (Frame.trans (jDirect_frame'.widen (k4 _ rfl)) ((hf _).widen k))
  · rw [run_goes, h.direct]
    obtain ⟨j, hj⟩ := jDirect_eq (s := begin t s) (src := ifc.src) (o := off) (v := v) (c := c (begin t s))
    rw [hj]
    exact hF j _ _ _
theorem Serves.write {src : Src} {off v : Nat} {r : Reg} {s : State} (h : Serves src off r s) (hs : s.standby = false) : s.writeReg src off v =
    (let put (s : State) : State := s.regPut src 0 off r v
     let journalled (s : State) : State := if (put s).valAt src off = r.val then put s else put (s.jDirect src off (BitVec.ofNat 32 v))
     match r.wr with
     | .ro => s
     | .rw _ => journalled s
     | .part m _ => if (v ^^^ r.val) &&& m ≠ 0 then s.denied src off else journalled s
     | .free _ | .clr _ _ _ => put s
     | .lk _ => (s.lockViolation src 0 off).spoilDirect src off 0x12 0
     | .pwr =>
       match (if off = 0x22000C then s.softRefusal (BitVec.ofNat 32 v) else s.ctlRefusal (BitVec.ofNat 32 v)) with
       | some d => s.pwrRefuse src 0 off d
       | none =>
         let s := if off = 0x22000C ∧ v = 0 then s else s.jDirect src off (BitVec.ofNat 32 v)
         if off = 0x22000C then s.softWrite src (BitVec.ofNat 32 v) else s.ctlWrite src (BitVec.ofNat 32 v)) := by
  have hm : isMsix off = false := by unfold isMsix; exact decide_eq_false (by have := h.low.2.2; omega)
  unfold writeReg
  simp only [h.awake, hs, h.on, hm, h.reg, Bool.false_and, Bool.not_true, if_false, Bool.false_eq_true]
  all_goals (cases r.wr <;> rfl)
theorem Serves.writeRw {src : Src} {off v : Nat} {r : Reg} {f : Nat → State → State} {s : State} (h : Serves src off r s) (hs : s.standby = false) (hr : r.wr = .rw f) :
    ∃ j, s.writeReg src off v = f v { s with jnl := j } := by
  rw [h.write hs]
  simp only [hr]
  split
  · refine ⟨s.jnl, ?_⟩
    unfold regPut
    rw [hr]
  · refine ⟨(s.jDirect src off (BitVec.ofNat 32 v)).jnl, ?_⟩
    unfold regPut
    rw [hr]
    rfl
theorem Serves.writeClr {src : Src} {off v m : Nat} {r : Reg} {vec : Option Nat} {f : Nat → State → State} {s : State} (h : Serves src off r s) (hs : s.standby = false)
    (hr : r.wr = .clr vec m f) : s.writeReg src off v = s.regPut src 0 off r v := by
  rw [h.write hs]
  simp only [hr]
theorem clears_bit {m v i : Nat} : (clears m v).testBit i = (m.testBit i && !v.testBit i) := by
  unfold clears
  rw [Nat.testBit_xor, Nat.testBit_and]
  cases m.testBit i <;> cases v.testBit i <;> rfl
/-- What an accepted command does, where nothing follows its answer: its effect on a state that differs in HOST and the journal alone. -/
theorem acceptsPost {s : State} {cmd : Cmd} {t : Nat} {h : RecHdr} {p : Bytes} (ha : Accepts cmd h p (s.begin t)) (hp : ∀ v, cmd.post h p v = v) :
    ∃ x j, After (Quiet (cmd.act h p ((s.begin t).withHJ x j)).1.host) (cmd.act h p ((s.begin t).withHJ x j)).1 (hostRow cmd t h p s) := by
  obtain ⟨s3, o, l3, h3, hx, rfl, rfl, e3⟩ := hostRow_accepts ha
  obtain ⟨x, j, e4⟩ := h3.withHJ
  refine ⟨x, j, ?_⟩
  rw [e3, ← e4]
  refine ⟨?_, ?_, fun hh => ?_⟩
  · exact Eq.mpr (State.noteSets_frame rfl) (Eq.mpr (State.finish_frame rfl) (perform_wide hp))
  · exact (perform_same hp).trans (.of (by simp))
  · exact Eq.mpr (State.noteSets_frame rfl) (Eq.mpr (State.finish_frame rfl) (perform_own ha.notMesh hp hh))
theorem quiet_held {s : State} (h : s.heldParts = []) : Quiet s.host := quiet_of h
/-- A command whose effect is known at its instant. -/
theorem gives_as {i : Instr} {s w : State} {t m : Nat} {f : State → State} {l : List Part} {F : State → Prop} (e : exec i s = .next (s.run t f)) (h : f (begin t s) = w)
    (hm : Frame m (begin t s) w) (k : m ||| maskOfParts (.now :: .out :: l) = maskOfParts (.now :: .out :: l)) (hF : ∀ a p q, F (noteSets a (finish p q w))) : Gives i s l F := by
  refine ⟨_, e, ?_, ?_⟩
  · rw [run_goes, h]
    have k5 : 5 ||| maskOfParts (.now :: .out :: l) = maskOfParts (.now :: .out :: l) := Mask.sub (mask_append [.now, .out] l) rfl
    refine Frame.only (m := maskOfParts (.now :: .out :: l)) ?_ (Nat.or_self _)
    refine Eq.mpr (State.noteSets_frame (Mask.sub k5 rfl)) (Eq.mpr (State.finish_frame (Mask.sub k5 rfl)) ?_)
    exact Frame.trans ((by simp : Frame 5 s (begin t s)).widen k5) (hm.widen k)
  · rw [run_goes, h]
    exact hF _ _ _
theorem fin_only {z : State} {l : List (Nat × Nat)} {p q : Nat} {k : List Part} : Only k z (noteSets l (finish p q z)) :=
  Frame.only (m := 4) (by simp) (Mask.sub (mask_append [.now, .out] k) rfl)
theorem mem_laneStep {f : State → State} {s : State} {o : Out} (h : o ∈ (f s).out) : o ∈ (laneStep f s).out := by
  unfold laneStep
  dsimp only
  split
  · exact h
  · rw [emit_out]; exact List.mem_append_left _ h
/-- What a command has sent is in the state it leaves. -/
theorem mem_told {s : State} {a : List (Nat × Nat)} {p q : Nat} {o : Out} (h : o ∈ s.out) : o ∈ (noteSets a (finish p q s)).out := by
  rw [noteSets_out]
  exact mem_finish h
theorem each_sent {α : Type} {l : List α} {f : α → State → State} {s : State} {o : Out} (h : o ∈ s.out) (k : ∀ a z, o ∈ z.out → o ∈ (f a z).out) : o ∈ (each l f s).out :=
  each_keeps (fun z => o ∈ z.out) l f s h fun a _ z => k a z
theorem portPut_lane {p : Nat} {f : MFrame} {s : State} : (portPut p f s).lane = s.lane := (by simp : Frame 8388612 s (portPut p f s)).keeps .lane rfl
theorem timeFrame_lane {p : Nat} {s : State} : (timeFrame p s).lane = s.lane := portPut_lane
theorem mem_portPut {p : Nat} {f : MFrame} {s : State} {o : Out} (h : o ∈ s.out) : o ∈ (portPut p f s).out := by
  unfold portPut
  split
  · split
    · rw [emit_out]; exact List.mem_append_left _ h
    · exact h
  · exact h
theorem mem_timeFrame {p : Nat} {s : State} {o : Out} (h : o ∈ s.out) : o ∈ (timeFrame p s).out := mem_portPut h
/-- The same for a command that acts under a condition. -/
theorem gives_if {i : Instr} {s w : State} {t m : Nat} {c : State → Bool} {f : State → State} {l : List Part} {F : State → Prop} (e : exec i s = .next (s.runIf t c f))
    (hc : c (begin t s) = true) (h : f (begin t s) = w)
    (hm : Frame m (begin t s) w) (k : m ||| maskOfParts (.now :: .out :: l) = maskOfParts (.now :: .out :: l)) (hF : ∀ a p q, F (noteSets a (finish p q w))) : Gives i s l F :=
  gives_as (f := f) (by rw [e, runIf_goes hc]; rfl) h hm k hF
theorem relay_mesh {p crc : Nat} {h h' : MHdr} {pay : Bytes} {s : State} : ∃ q, (State.relay p h h' pay crc s).mesh = { s.mesh with ports := q } := by
  unfold State.relay State.portPut
  split
  · split <;> exact ⟨_, rfl⟩
  · exact ⟨_, rfl⟩
theorem relay_frame {p crc : Nat} {h h' : MHdr} {pay : Bytes} {s : State} : Frame 8388612 s (State.relay p h h' pay crc s) := by
  unfold State.relay
  simp
theorem brought_frame {x : PortRx} {h : MHdr} {p : Bytes} {s : State} : Frame 8388612 s (s.brought x h p) := by
  unfold State.brought
  simp only []
  split <;> split
  · refine Frame.trans (relay_frame (p := 0) (crc := meshCrc h p) (h := h) (h' := { h with mirror := true }) (pay := p)) ?_
    simp
  · simp
  · exact relay_frame
  · simp
theorem senderOf_congr {p : Nat} {h : MHdr} {s u : State} (e : u.mesh.convs = s.mesh.convs) : u.senderOf p h = s.senderOf p h := by
  unfold State.senderOf State.conv
  rw [e]
theorem FrameFor.isIn {x : PortRx} {h : MHdr} {p : Bytes} {s : State} {typ : Nat} {take : MHdr → Bytes → State → State} (hb : FrameFor x h p s) (ht : h.typ = typ)
    (h8 : typ ≠ 8) : meshIn x typ take s = take { h with src := s.senderOf x.port h } p (s.brought x h p) := by
  unfold meshIn
  rw [if_neg (by simp [hb.takes]), hb.whole]
  simp only [List.filter_cons, ht, BEq.rfl, if_true, List.filter_nil, each, List.foldl_cons, List.foldl_nil]
  have h8' : (typ == 8) = false := by simpa using h8
  have hm := hb.mine
  unfold frameIn
  simp only [h8', BEq.rfl, if_true, Bool.false_eq_true, if_false, hm]
  unfold State.brought State.frameTake
  simp only []
  have hp : ∀ r : State, (if s.cfg.topo.pair && x.port != 0 && !h.mirror && h.dst != 0xFF then State.relay 0 h (if s.cfg.topo.pair && true then { h with mirror := true } else h) p (meshCrc h p) s else s) = r →
      (if s.cfg.topo.pair && x.port != 0 && !h.mirror && h.dst != 0xFF then State.relay 0 h { h with mirror := true } p (meshCrc h p) s else s) = r ∧ r.mesh.convs = s.mesh.convs := by
    intro r e
    by_cases c : (s.cfg.topo.pair && x.port != 0 && !h.mirror && h.dst != 0xFF) = true
    · have c1 : s.cfg.topo.pair = true := by
        simp only [Bool.and_eq_true] at c
        exact c.1.1.1
      rw [if_pos c] at e ⊢
      simp only [c1, Bool.and_self, if_true] at e
      refine ⟨e, ?_⟩
      rw [← e]
      obtain ⟨q, eq⟩ := relay_mesh (p := 0) (crc := meshCrc h p) (h := h) (h' := { h with mirror := true }) (pay := p) (s := s)
      rw [eq]
    · rw [if_neg c] at e ⊢
      exact ⟨e, by rw [← e]⟩
  generalize hr : (if s.cfg.topo.pair && x.port != 0 && !h.mirror && h.dst != 0xFF then State.relay 0 h (if s.cfg.topo.pair && true then { h with mirror := true } else h) p (meshCrc h p) s else s) = r
  obtain ⟨e1, e2⟩ := hp r hr
  rw [e1, senderOf_congr e2]
  have e3 : ∀ n, r.conv n = s.conv n := fun n => by unfold State.conv; rw [e2]
  simp only [e3]
  rw [← ht]
theorem portPut_waits {p : Nat} {f : MFrame} {s : State} (h : meshClass f.hdr.typ ≠ 1) : portPut p f s =
    s.onMesh fun m => { m with ports := modAt m.ports p fun x => { x with queue := x.queue ++ [f] } } := by
  unfold portPut
  rw [if_neg h]
section
variable {s : State} {i : Nat}
@[simp] theorem reach_now : (reach i s).now = s.now := (rfl)
@[simp] theorem reach_ofs : (reach i s).ofs = s.ofs := (rfl)
@[simp] theorem reach_out : (reach i s).out = s.out := (rfl)
@[simp] theorem reach_free : (reach i s).free = s.free := (rfl)
@[simp] theorem reach_sets : (reach i s).sets = s.sets := (rfl)
@[simp] theorem reach_pending : (reach i s).pending = s.pending := (rfl)
@[simp] theorem reach_sys : (reach i s).sys = s.sys := (rfl)
@[simp] theorem reach_pwr : (reach i s).pwr = s.pwr := (rfl)
@[simp] theorem reach_clk : (reach i s).clk = s.clk := (rfl)
@[simp] theorem reach_img : (reach i s).img = s.img := (rfl)
@[simp] theorem reach_host : (reach i s).host = s.host := (rfl)
@[simp] theorem reach_jnl : (reach i s).jnl = s.jnl := (rfl)
@[simp] theorem reach_lane : (reach i s).lane = s.lane := (rfl)
@[simp] theorem reach_seam : (reach i s).seam = s.seam := (rfl)
@[simp] theorem reach_edg : (reach i s).edg = s.edg := (rfl)
@[simp] theorem reach_comp : (reach i s).comp = s.comp := (rfl)
@[simp] theorem reach_bnc : (reach i s).bnc = s.bnc := (rfl)
@[simp] theorem reach_bal : (reach i s).bal = s.bal := (rfl)
@[simp] theorem reach_evs : (reach i s).evs = s.evs := (rfl)
@[simp] theorem reach_mode : (reach i s).mode = s.mode := (rfl)
@[simp] theorem reach_modeQ : (reach i s).modeQ = s.modeQ := (rfl)
@[simp] theorem reach_adc : (reach i s).adc = s.adc := (rfl)
@[simp] theorem reach_cmp : (reach i s).cmp = s.cmp := (rfl)
@[simp] theorem reach_safe : (reach i s).safe = s.safe := (rfl)
@[simp] theorem reach_mesh : (reach i s).mesh = s.mesh := (rfl)
@[simp] theorem reach_pair : (reach i s).pair = s.pair := (rfl)
end
theorem meshSend_queued {n typ seq : Nat} {m : MBody} {s : State} (k : meshClass typ ≠ 1) : ∃ f w, s.meshSend n typ seq m =
    { s with mesh := { s.mesh with ports := modAt s.mesh.ports (s.outFrame n typ seq m w).1 fun x => { x with queue := x.queue ++ [(s.outFrame n typ seq m w).2] } }, free := f } := by
  unfold State.meshSend State.outFrame
  have e : at' s.mesh.convs n {} = s.conv n := rfl
  simp only [e]
  split
  · rw [portPut_waits k]
    exact ⟨s.free, 0, rfl⟩
  · generalize (s.conv n).back = q
    cases q with
    | some w =>
      simp only []
      rw [portPut_waits k]
      exact ⟨_, s.freeWord.toNat, rfl⟩
    | none =>
      simp only []
      rw [portPut_waits k]
      exact ⟨s.free, 0, rfl⟩
theorem arm_onArm_of {α : Type} {k c : Nat} {f : Arm → Arm} {z : State} (r : Arm → α) (h : ∀ x, r (f x) = r x) : r ((onArm c f z).arm k) = r (z.arm k) := by
  by_cases e : c = k
  · subst e
    by_cases hc : c < z.bal.arms.length
    · rw [arm_onArm hc, h]
    · show r ((modAt z.bal.arms c f).getD c {}) = r (z.bal.arms.getD c {})
      rw [List.getD_eq_getElem?_getD, List.getD_eq_getElem?_getD, List.getElem?_eq_none (by rw [modAt_length]; omega), List.getElem?_eq_none (by omega)]
  · rw [arm_onArm_ne e]
/-- What an instruction or a unit's result does to one bench: its registers, its memory and what the units still owe it. -/
def BenchOnly (k : Nat) (z w : State) : Prop := ∃ g : Bench → Bench, w = z.onBench k g ∧ ∀ x, ∃ r m c rc st, g x = { x with regs := r, mem := m, cordic := c, rc := rc, sort := st }
theorem BenchOnly.trans {k : Nat} {z w x : State} (h : BenchOnly k z w) (g : BenchOnly k w x) : BenchOnly k z x := by
  obtain ⟨f, rfl, hf⟩ := h
  obtain ⟨f', rfl, hf'⟩ := g
  refine ⟨fun y => f' (f y), ?_, fun y => ?_⟩
  · unfold onBench onBnc
    simp
  · show ∃ r m c rc st, f' (f y) = _
    obtain ⟨a1, a2, a3, a4, a5, e⟩ := hf y
    obtain ⟨b1, b2, b3, b4, b5, e'⟩ := hf' (f y)
    exact ⟨b1, b2, b3, b4, b5, by rw [e', e]⟩
theorem BenchOnly.refl {k : Nat} {z : State} : BenchOnly k z z := by
  refine ⟨id, ?_, fun y => ⟨_, _, _, _, _, rfl⟩⟩
  unfold onBench onBnc
  dsimp only
  rw [modAt_id {} rfl]
theorem BenchOnly.each {α : Type} {k : Nat} {f : α → State → State} (h : ∀ a z, BenchOnly k z (f a z)) : ∀ (l : List α) (z : State), BenchOnly k z (each l f z)
  | [], _ => .refl
  | a :: l, z => (h a z).trans (BenchOnly.each h l (f a z))
theorem BenchOnly.setReg {k r : Nat} {v : List Word} {z : State} : BenchOnly k z (setReg k r v z) := ⟨_, rfl, fun _ => ⟨_, _, _, _, _, rfl⟩⟩
theorem BenchOnly.lmPut {k a : Nat} {v : List Word} {z : State} : BenchOnly k z (lmPut k a v z) := ⟨_, rfl, fun _ => ⟨_, _, _, _, _, rfl⟩⟩
theorem unitsDue_only {k c : Nat} {z : State} : BenchOnly k z (unitsDue k c z) := by
  have h1 : ∀ z, BenchOnly k z (cordicDue k c z) := fun z => (BenchOnly.each (fun _ _ => .setReg) _ _).trans ⟨_, rfl, fun _ => ⟨_, _, _, _, _, rfl⟩⟩
  have h2 : ∀ z, BenchOnly k z (rcDue k c z) := fun z => (BenchOnly.each (fun _ _ => .lmPut) _ _).trans ⟨_, rfl, fun _ => ⟨_, _, _, _, _, rfl⟩⟩
  have h3 : ∀ z, BenchOnly k z (sortDue k c z) := fun z => by
    unfold sortDue
    split
    · split
      · exact BenchOnly.lmPut.trans ⟨_, rfl, fun _ => ⟨_, _, _, _, _, rfl⟩⟩
      · exact .refl
    · exact .refl
  exact ((h1 z).trans (h2 _)).trans (h3 _)
theorem Issues.goes {k : Nat} {b : State} (h : Issues k b) (f : State → State) : issue k f b = (f (b.served k)).onBench k fun x => Bench.issued x := by
  unfold issue
  rw [if_neg (Nat.not_le.mpr h.fetches)]
  rfl
theorem Issues.inRange {k : Nat} {b : State} (h : Issues k b) : k < b.bnc.benches.length := by
  have := h.runs
  unfold benchRuns at this
  refine lt_of_getD (fun x : Bench => x.running = true) (d := {}) ?_ (by decide)
  simp only [Bool.and_eq_true] at this
  exact this.1.1.1
/-- What the units bring leaves the rest of a bench as it was. -/
theorem served_bench {k : Nat} {b : State} : ∃ g : Bench → Bench, b.served k = b.onBench k g ∧ (∀ x, ∃ r m c rc st, g x = { x with regs := r, mem := m, cordic := c, rc := rc, sort := st }) ∧
    ((b.served k).bench k).cyc = (b.bench k).cyc ∧ ((b.served k).bench k).rcUsed = (b.bench k).rcUsed := by
  obtain ⟨g, e, hg⟩ := unitsDue_only (k := k) (c := (b.bench k).cyc) (z := b)
  refine ⟨g, e, hg, ?_, ?_⟩
  · unfold served
    rw [e]
    exact onBench_of (fun x => x.cyc) fun x => by obtain ⟨_, _, _, _, _, h⟩ := hg x; rw [h]
  · unfold served
    rw [e]
    exact onBench_of (fun x => x.rcUsed) fun x => by obtain ⟨_, _, _, _, _, h⟩ := hg x; rw [h]
theorem served_free {k : Nat} {b : State} : (b.served k).free = b.free := (by unfold served; simp : Frame 32768 b (b.served k)).keeps .free rfl
theorem served_loopS {k l : Nat} {b : State} : (b.served k).loopS l = b.loopS l := by
  obtain ⟨g, e, -⟩ := served_bench (k := k) (b := b)
  rw [e]
  rfl
theorem served_loopDecl {k l : Nat} {b : State} : (b.served k).loopDecl l = b.loopDecl l := by
  obtain ⟨g, e, -⟩ := served_bench (k := k) (b := b)
  rw [e]
  rfl
theorem served_benchDecl {k l : Nat} {b : State} : (b.served k).benchDecl l = b.benchDecl l := by
  obtain ⟨g, e, -⟩ := served_bench (k := k) (b := b)
  rw [e]
  rfl
theorem filter_late {α : Type} {c : Nat} {x : Nat × α} {r : List (Nat × α)} (h : x.1 = c) (k : ∀ y ∈ r, c < y.1) :
    ((x :: r).filter fun y => decide (y.1 ≤ c)) = [x] ∧ ((x :: r).filter fun y => !decide (y.1 ≤ c)) = r := by
  have h1 : r.filter (fun y => decide (y.1 ≤ c)) = [] := by
    rw [List.filter_eq_nil_iff]
    intro y hy
    have := k y hy
    simp
    omega
  have h2 : r.filter (fun y => !decide (y.1 ≤ c)) = r := by
    rw [List.filter_eq_self]
    intro y hy
    have := k y hy
    simp
    omega
  subst h
  exact ⟨by rw [List.filter_cons_of_pos (by simp), h1], by rw [List.filter_cons_of_neg (by simp), h2]⟩
section
variable {s : State} {k j : Nat} {v : Bool}
theorem unitsDue_other {c : Nat} (e : j ≠ k) : (unitsDue j c s).bench k = s.bench k := by
  obtain ⟨g, h, -⟩ := unitsDue_only (k := j) (c := c) (z := s)
  rw [h, bench_onBench_ne e]
/-- A step that begins a bench's program. -/
def beginOne (b : Nat) (s : State) : State := (s.unitsDue b (2 ^ 32)).onBench b fun x => { x with
  pc := 0, cyc := 0, loops := [], ended := false, running := !x.faulted && s.pwr.st == 0, rcUsed := [] }
theorem atBench_units {c : Nat} (h : atBench k v s) : atBench k v (unitsDue j c s) := by
  obtain ⟨g, e, hg⟩ := unitsDue_only (k := j) (c := c) (z := s)
  rw [e]
  exact atBench_on h fun x => by obtain ⟨_, _, _, _, _, h⟩ := hg x; rw [h]
/-- The benches of a list begin their programs. -/
theorem benches_begin {r : Bool} (l : List Nat) (hk : k ∈ l) (h : atBench k v s) (hr : (s.pwr.st == 0) = r) :
    ((each l beginOne s).bench k).pc = 0 ∧ ((each l beginOne s).bench k).cyc = 0 ∧ ((each l beginOne s).bench k).loops = [] ∧
    ((each l beginOne s).bench k).ended = false ∧ ((each l beginOne s).bench k).running = (!v && r) := by
  refine each_sets (fun z => (z.bench k).pc = 0 ∧ (z.bench k).cyc = 0 ∧ (z.bench k).loops = [] ∧ (z.bench k).ended = false ∧ (z.bench k).running = (!v && r))
    l _ s k hk (fun z => atBench k v z ∧ (z.pwr.st == 0) = r) ⟨h, hr⟩ ?_ ?_ ?_
  · exact fun b z h => ⟨atBench_on (atBench_units h.1) fun _ => rfl, by rw [(by simp [beginOne] : Frame 32768 z (beginOne b z)).keeps .pwr rfl]; exact h.2⟩
  · intro z h
    have h1 := atBench_units (j := k) (c := 2 ^ 32) h.1
    rw [beginOne, bench_onBench h1.2]
    exact ⟨rfl, rfl, rfl, rfl, by rw [h1.1, h.2]⟩
  · intro b z h p
    have h2 := atBench_units (j := b) (c := 2 ^ 32) h.1
    rw [beginOne]
    by_cases e : b = k
    · subst e; rw [bench_onBench h2.2]; exact ⟨rfl, rfl, rfl, rfl, by rw [h2.1, h.2]⟩
    · rw [bench_onBench_ne e, unitsDue_other e]; exact p
end
theorem benchesStart_eq {s z y : State} (hz : each s.gainsApply.loopsStart.liveBenches (inControl s.gainsApply.loopsStart.bnc.wh) s.gainsApply.loopsStart = z)
    (hy : each z.liveBenches beginOne z = y) : s.benchesStart = y.onBnc fun x => { x with startAt := y.now } := by
  subst hz hy; rfl
theorem benchesStart_live {s : State} {k : Nat} (h4 : k < 16) (h5 : s.benchOn k = true) (h6 : k < s.bnc.benches.length) :
    ∃ w, (s.benchesStart.bench k) = w ∧ (w.pc = 0 ∧ w.cyc = 0 ∧ w.loops = [] ∧ w.ended = false ∧ w.running = (!(s.bench k).faulted && s.pwr.st == 0)) ∧ s.benchesStart.bnc.startAt = s.now := by
  have lv : ∀ z : State, z.img = s.img → z.pwr = s.pwr → k ∈ z.liveBenches := by
    intro z e1 e2
    have : z.benchOn k = s.benchOn k := by simp only [benchOn, benchDecl, cfg, e1, e2]
    simp [liveBenches, h4, this, h5]
  have hx := each_keeps (atBench k (s.bench k).faulted) s.gainsApply.loopsStart.liveBenches (inControl s.gainsApply.loopsStart.bnc.wh)
    s.gainsApply.loopsStart (atBench_loops (atBench_gains ⟨rfl, h6⟩)) fun _ _ _ h => atBench_control h
  have hg : Frame 32772 s (each s.gainsApply.loopsStart.liveBenches (inControl s.gainsApply.loopsStart.bnc.wh) s.gainsApply.loopsStart) := by simp
  have q := benches_begin _ (lv _ (hg.keeps .img rfl) (hg.keeps .pwr rfl)) hx (congrArg (fun p : Pwr => p.st == 0) (hg.keeps .pwr rfl))
  have e := benchesStart_eq (s := s) rfl rfl
  exact ⟨_, (congrArg (·.bench k) e).trans startAt_bench, q, (congrArg (·.bnc.startAt) e).trans (startAt_eq.trans <| (each_val (·.now) _ beginOne _ fun _ z => (by simp [beginOne] : Frame 32768 z _).keeps .now rfl).trans (hg.keeps .now rfl))⟩
theorem gainsApply_nil {s : State} (h : s.bnc.gsNext = []) : s.gainsApply = s := by
  have hf : ∀ l : List Nat, (l.filter fun _ => true) = l := fun l => by simp
  unfold gainsApply
  split
  · rfl
  · simp only [h, each, List.foldl_nil, onBnc, List.any_nil, Bool.not_false, hf]
    refine congrArg (fun b => { s with bnc := b }) (?_ : _ = s.bnc)
    generalize s.bnc = b at h
    cases b
    cases h
    rfl
theorem Brings.isIn {x : LaneRx} {typ : Nat} {f : FrameHdr} {p : Bytes} {s : State} {act : FrameHdr → Bytes → State → State} (h : Brings x typ f p s) :
    seamIn x typ act s = act f p s := by
  obtain ⟨b, e, ht, hf, hp⟩ := h.whole
  unfold seamIn
  rw [if_neg (by rw [h.takes, h.hears]; have := h.low; simp; omega), e]
  simp only [each, List.foldl_cons, List.foldl_nil]
  rw [hf, hp, if_pos ⟨ht, h.seam⟩]
/-- A broken frame (R237). -/
theorem broken_isIn {x : LaneRx} {typ : Nat} {s : State} {act : FrameHdr → Bytes → State → State} (hl : x.lane < 32) (h : s.laneTakes x.lane = true)
    (k : s.seamDeaf x.lane = false) (e : cellFrames x = [none]) : seamIn x typ act s = s.pathErr x.lane := by
  unfold seamIn
  rw [if_neg (by rw [h, k]; simp; omega), e]
  rfl
/-- A frame of a cell counts against its allowance. -/
def counted (f : FrameHdr) (s : State) : State := s.onTalk f.cell fun t =>
  { t with frames := (f.path, ((((s.talk f.cell).frames.find? (·.1 == f.path)).map (·.2)).getD 0) + 1) :: t.frames.filter (·.1 != f.path) }
/-- A frame that is heard is counted and kept as a first copy. -/
def heardOnce (f : FrameHdr) (kind tag : Nat) (dg : Word) (s : State) : State := (counted f s).onTalk f.cell fun t =>
  { t with seen := ({ period := f.period, kind := kind, tag := tag, path := f.path, digest := dg, at_ := s.now } :: t.seen).take 16 }
theorem Hears.allowed {f : FrameHdr} {kind tag : Nat} {b : State} (h : Hears f kind tag b) {p : Bytes} {k : State → State} : State.allowed f p k b = k (counted f b) := by
  have hr := h.room
  unfold State.allowed
  dsimp only
  rw [if_neg (Nat.not_le.mpr hr)]
  rfl
theorem epochOk_same {c e : Nat} {k : State → State} {b : State} (h : e = b.seam.epoch) : State.epochOk c e k b = k b := by
  subst h
  have l0 : later 16 b.seam.epoch b.seam.epoch = false := by
    have : (b.seam.epoch + 65536 - b.seam.epoch % 65536) % 65536 = 0 := by omega
    simp [later, serialDiff, this]
  simp [State.epochOk, l0]
theorem Hears.counted_epoch {f : FrameHdr} {kind tag : Nat} {b : State} (h : Hears f kind tag b) : f.epoch = (counted f b).seam.epoch := h.epoch
theorem Hears.copy {f : FrameHdr} {kind tag : Nat} {b : State} (h : Hears f kind tag b) {dg : Word} {k : State → State} :
    firstCopy f.cell f.path f.period kind tag dg k (counted f b) = k (heardOnce f kind tag dg b) := by
  have e : ((counted f b).talk f.cell).seen = (b.talk f.cell).seen := talk_onTalk_inv (fun t => t.seen) fun _ => rfl
  unfold firstCopy
  dsimp only
  rw [e, h.new]
  rfl
theorem heardOnce_cell {f : FrameHdr} {kind tag c : Nat} {dg : Word} {b : State} : (heardOnce f kind tag dg b).cell c = b.cell c := rfl
theorem heardOnce_cells {f : FrameHdr} {kind tag : Nat} {dg : Word} {b : State} : (heardOnce f kind tag dg b).seam.cells = b.seam.cells := rfl
theorem heardOnce_frame {f : FrameHdr} {kind tag : Nat} {dg : Word} {b : State} : Frame 4096 b (heardOnce f kind tag dg b) := by
  unfold heardOnce counted
  simp
theorem heardOnce_talks {f : FrameHdr} {kind tag : Nat} {dg : Word} {b : State} : (heardOnce f kind tag dg b).seam.talks.length = b.seam.talks.length := by
  unfold heardOnce counted
  simp
/-- What a frame that is heard leaves of the conversation. -/
theorem heardOnce_talk {α : Type} (r : Talk → α) {f : FrameHdr} {kind tag c : Nat} {dg : Word} {b : State} (h : ∀ t a d, r { t with frames := a, seen := d } = r t) :
    r ((heardOnce f kind tag dg b).talk c) = r (b.talk c) := by
  refine (talk_onTalk_inv r fun t => h t t.frames _).trans ?_
  exact talk_onTalk_inv r fun t => h t _ t.seen
theorem cellHeard_cell {c d : Nat} {s : State} : (cellHeard c s).cell d = s.cell d := rfl
theorem cellHeard_cells {c : Nat} {s : State} : (cellHeard c s).seam.cells = s.seam.cells := rfl
theorem cellHeard_talks {c : Nat} {s : State} : (cellHeard c s).seam.talks.length = s.seam.talks.length := by unfold cellHeard; simp
theorem cellHeard_talk {α : Type} (r : Talk → α) {c d : Nat} {s : State} (h : ∀ t a, r { t with heardAt := a } = r t) : r ((cellHeard c s).talk d) = r (s.talk d) :=
  talk_onTalk_inv r fun t => h t _
theorem cellHeard_frame {c : Nat} {s : State} : Frame 4096 s (cellHeard c s) := by unfold cellHeard; simp
section
variable {s : State} {c j : Nat}
theorem ctrlOut_talk {o : CtrlOp} : (s.ctrlOut c o).talk j = s.talk j := rfl
theorem sendCtrl_talk {α : Type} (r : Talk → α) (h : ∀ t a b d e f g, r { t with ctrl := a, queue := b, tag := d, sentNow := e, identTag := f, ident := g } = r t) {op a w : Nat} {d : Bytes} :
    r ((s.sendCtrl c op a d w).talk j) = r (s.talk j) := by
  unfold sendCtrl putCtrl
  split
  · rfl
  · dsimp only
    split
    · rw [ctrlOut_talk]
      refine (talk_onTalk_inv r fun t => h t _ _ t.tag _ t.identTag t.ident).trans ?_
      exact talk_onTalk_inv r fun t => h t t.ctrl t.queue _ t.sentNow _ _
    · refine (talk_onTalk_inv r fun t => h t t.ctrl _ t.tag t.sentNow t.identTag t.ident).trans ?_
      exact talk_onTalk_inv r fun t => h t t.ctrl t.queue _ t.sentNow _ _
theorem sendCtrl_talks {op a w : Nat} {d : Bytes} : (s.sendCtrl c op a d w).seam.talks.length = s.seam.talks.length := by
  unfold sendCtrl putCtrl ctrlOut
  split
  · rfl
  · dsimp only
    split
    · show (onTalk c _ (onTalk c _ s)).seam.talks.length = _
      simp
    · simp
theorem sendBypass_bypReq (h : c < s.seam.talks.length) : ((s.sendBypass c).talk c).bypReq = true := by
  unfold sendBypass
  rw [talk_onTalk (by rw [sendCtrl_talks]; exact h)]
theorem joinStart_seat : ((s.joinStart c).talk j).seat = (s.talk j).seat := by
  unfold joinStart
  dsimp only
  rw [sendCtrl_talk (·.seat) fun _ _ _ _ _ _ _ => rfl]
  show (State.talk (jStep c 1 _) j).seat = _
  rw [jStep, onCell_talk, cellTo_talk]
  exact talk_onTalk_inv (·.seat) fun _ => rfl
end
section
variable {s : State} {c j : Nat}
theorem sendCtrl_talk_ne {op a w : Nat} {d : Bytes} (h : c ≠ j) : (s.sendCtrl c op a d w).talk j = s.talk j := by
  unfold sendCtrl putCtrl
  split
  · rfl
  · dsimp only
    split
    · rw [ctrlOut_talk, talk_onTalk_ne h, talk_onTalk_ne h]
    · rw [talk_onTalk_ne h, talk_onTalk_ne h]
theorem mem_sendCtrl {op a w : Nat} {d : Bytes} {o : Out} (h : o ∈ s.out) : o ∈ (s.sendCtrl c op a d w).out := by
  unfold sendCtrl putCtrl ctrlOut seamSend
  split
  · exact h
  · dsimp only
    split
    · exact List.mem_append_left _ h
    · exact h
theorem sendCtrl_identAt {op a w : Nat} {d : Bytes} : (s.sendCtrl c op a d w).seam.identAt = s.seam.identAt := by
  unfold sendCtrl putCtrl
  split
  · rfl
  · dsimp only
    split <;> rfl
end
theorem per_of {z w : State} (h1 : w.now = z.now) (h2 : w.ofs = z.ofs) (h3 : w.clk = z.clk) (h4 : w.img = z.img) : w.per = z.per := by
  simp only [per, absPer, sysTime, slewAdds, slewTicks, tick, kF, cfg, h1, h2, h3, h4]
section
variable {s : State}
theorem tripSeams_cmp {m i : Nat} : (s.tripSeams m i).cmp = s.cmp := (by simp [↓Frame.ite] : Frame 4100 s (s.tripSeams m i)).keeps .cmp rfl
/-- Closing gates, an output may start a window of a blanking timer; every window not over stays. -/
theorem closeGates_cmp {m : Nat} : ∃ bl, (s.closeGates m).cmp = { s.cmp with blanks := bl } ∧
    ∀ n, ∀ w ∈ at' s.cmp.blanks n [], s.now ≤ w.2 → w ∈ at' bl n [] := by
  refine ⟨_, rfl, fun n w hw hn => ?_⟩
  simp only [at', List.getD] at hw ⊢
  rw [List.getElem?_mapIdx]
  cases e : s.cmp.blanks[n]? with
  | none => simp [e] at hw
  | some ws =>
    simp only [e, Option.getD_some] at hw
    simp only [Option.map_some, Option.getD_some]
    split
    · simp [hw, hn]
    · exact hw
/-- A trip: latched with wiring in force, the fault flag, TRIPN following; of the windows of blanking timers those not over stay. -/
theorem fireTrip_eq {w : Nat} (h : s.inForce = true) (g : s.latched w = false) : ∃ fs fa d i e bl, ((s.fireTrip w).cmp = { s.cmp with
    latch := s.cmp.latch.set w true, flt := s.cmp.flt ||| 0x20000000, firstV := true, first := fs, firstAt := fa
    driving := d, ignoring := i, ignoreEnd := e, blanks := bl }) ∧ ∀ n, ∀ w ∈ at' s.cmp.blanks n [], s.now ≤ w.2 → w ∈ at' bl n [] := by
  unfold fireTrip
  rw [if_neg (by simp [h, g])]
  simp only []
  generalize hf : (!s.cmp.firstV || s.cmp.firstV && decide (w < s.cmp.first) && decide (s.now < s.cmp.firstAt + 131) && (s.cmp.firstAt == s.now || (BitVec.toNat s.freeWord).testBit 0)) = isFirst
  generalize hx : (if (s.cmp.firstV && decide (w < s.cmp.first) && decide (s.now < s.cmp.firstAt + 131) && s.cmp.firstAt != s.now) = true then s.drawn else s) = x
  have xc : x.cmp = s.cmp := by rw [← hx]; split <;> rfl
  have xn : x.now = s.now := by rw [← hx]; split <;> rfl
  generalize hy : event _ _ (onCmp _ x) = y
  have yc : y.cmp = { s.cmp with
      latch := s.cmp.latch.set w true, flt := s.cmp.flt ||| 0x20000000, firstV := true
      first := if isFirst then w else s.cmp.first
      firstAt := if isFirst then s.now else s.cmp.firstAt } := by
    rw [← hy, ← xc, ← xn]; rfl
  have yn : y.now = s.now := by rw [← hy]; exact xn
  obtain ⟨bl, e1, e2⟩ := closeGates_cmp (s := y) (m := y.scopeLpwm w)
  generalize hz : driveTripn (tripSeams _ _ _) = z
  obtain ⟨d, i, e, hd⟩ : ∃ d i e, z.cmp = { s.cmp with
      latch := s.cmp.latch.set w true, flt := s.cmp.flt ||| 0x20000000, firstV := true
      first := if isFirst then w else s.cmp.first
      firstAt := if isFirst then s.now else s.cmp.firstAt
      blanks := bl
      driving := d, ignoring := i, ignoreEnd := e } := by
    rw [← hz]
    refine driveTripn_ex _ { s.cmp with
      latch := s.cmp.latch.set w true, flt := s.cmp.flt ||| 0x20000000, firstV := true
      first := if isFirst then w else s.cmp.first
      firstAt := if isFirst then s.now else s.cmp.firstAt
      blanks := bl } ?_
    rw [tripSeams_cmp, e1]
    simp only [yc]
  refine ⟨_, _, d, i, e, bl, Eq.trans ?_ hd, ?_⟩
  · split
    · exact ((by simp : Frame 8421380 z (floodStart (z.onBnc fun b => { b with trace := { b.trace with evTrip := true } }))).keeps .cmp rfl)
    · rfl
  · intro n w hw hn
    exact e2 n w (by rw [yc]; exact hw) (by rw [yn]; exact hn)
/-- A trip leaves the comparators. -/
theorem fireTrip_cmp {w : Nat} : ∃ l f v fs fa d i e bl, ((s.fireTrip w).cmp = { s.cmp with
    latch := l, flt := f, firstV := v, first := fs, firstAt := fa, driving := d, ignoring := i, ignoreEnd := e, blanks := bl }) ∧
    ∀ n, ∀ w ∈ at' s.cmp.blanks n [], s.now ≤ w.2 → w ∈ at' bl n [] := by
  by_cases h : s.inForce = true ∧ s.latched w = false
  · obtain ⟨_, _, _, _, _, _, h⟩ := fireTrip_eq h.1 h.2
    exact ⟨_, _, _, _, _, _, _, _, _, h⟩
  · unfold fireTrip
    rw [if_pos (by simpa [Classical.or_iff_not_imp_left] using h)]
    exact ⟨_, _, _, _, _, _, _, _, _, rfl, fun _ _ h _ => h⟩
theorem fireTrip_blanks {w n : Nat} {x : Nat × Nat} (h : x ∈ at' s.cmp.blanks n []) (hn : s.now ≤ x.2) : x ∈ at' (s.fireTrip w).cmp.blanks n [] := by
  obtain ⟨_, _, _, _, _, _, _, _, _, e, hb⟩ := fireTrip_cmp (s := s) (w := w)
  rw [e]
  exact hb n x h hn
theorem fireTrip_now {w : Nat} : (s.fireTrip w).now = s.now := (by simp : Frame 10661900 s (s.fireTrip w)).keeps .now rfl
/-- A source that fires with wiring in force latches. -/
theorem fireTrip_latch {w : Nat} (h : s.inForce = true) (k : s.latched w = false) : (s.fireTrip w).cmp.latch = s.cmp.latch.set w true := by
  obtain ⟨_, _, _, _, _, _, h, _⟩ := fireTrip_eq h k
  rw [h]
@[simp] theorem fireTrip_cmps {w : Nat} : (s.fireTrip w).cmp.cmps = s.cmp.cmps := by obtain ⟨_, _, _, _, _, _, _, _, _, h, _⟩ := fireTrip_cmp (s := s) (w := w); rw [h]
@[simp] theorem fireTrip_blankOn {w : Nat} : (s.fireTrip w).cmp.blankOn = s.cmp.blankOn := by obtain ⟨_, _, _, _, _, _, _, _, _, h, _⟩ := fireTrip_cmp (s := s) (w := w); rw [h]
@[simp] theorem fireTrip_pinHigh {w : Nat} : (s.fireTrip w).cmp.pinHigh = s.cmp.pinHigh := by obtain ⟨_, _, _, _, _, _, _, _, _, h, _⟩ := fireTrip_cmp (s := s) (w := w); rw [h]
@[simp] theorem fireTrip_pinAct {w : Nat} : (s.fireTrip w).cmp.pinAct = s.cmp.pinAct := by obtain ⟨_, _, _, _, _, _, _, _, _, h, _⟩ := fireTrip_cmp (s := s) (w := w); rw [h]
@[simp] theorem fireTrip_busLow {w : Nat} : (s.fireTrip w).cmp.busLow = s.cmp.busLow := by obtain ⟨_, _, _, _, _, _, _, _, _, h, _⟩ := fireTrip_cmp (s := s) (w := w); rw [h]
@[simp] theorem fireTrip_cellAt {w : Nat} : (s.fireTrip w).cmp.cellAt = s.cmp.cellAt := by obtain ⟨_, _, _, _, _, _, _, _, _, h, _⟩ := fireTrip_cmp (s := s) (w := w); rw [h]
@[simp] theorem fireTrip_cellSeam {w : Nat} : (s.fireTrip w).cmp.cellSeam = s.cmp.cellSeam := by obtain ⟨_, _, _, _, _, _, _, _, _, h, _⟩ := fireTrip_cmp (s := s) (w := w); rw [h]
theorem cmpEval_cmps {k : Nat} : (s.cmpEval k).cmp.cmps = modAt s.cmp.cmps k fun x => { x with
    chgAt := if s.cmpFires k != x.firing then s.now + 1 else x.chgAt
    firing := s.cmpFires k, fired := x.fired || s.cmpFires k, cnt := if s.cmpFires k && !x.firing then sat32 x.cnt 1 else x.cnt } := by
  unfold cmpEval
  simp only []
  split
  · split <;> simp
  · simp
theorem cmpEval_quiet {k : Nat} (h : s.cmpFires k = false) : s.cmpEval k = s.onCmp1 k fun x => { x with
    chgAt := if x.firing then s.now + 1 else x.chgAt, firing := false } := by
  unfold cmpEval
  simp [h]
theorem cmpEval_latch {k : Nat} (h : s.cmpFires k = true) (hb : s.cmpBlanked k = false) (hl : s.latched k = false) (hf : s.inForce = true) :
    (s.cmpEval k).cmp.latch = s.cmp.latch.set k true := by
  have e1 : ∀ f : Cmp1 → Cmp1, (s.onCmp1 k f).cmpBlanked k = s.cmpBlanked k := fun _ => rfl
  have e2 : ∀ f : Cmp1 → Cmp1, (s.onCmp1 k f).latched k = s.latched k := fun _ => rfl
  unfold cmpEval
  simp only [e1, e2, h, hb, hl, Bool.not_false, Bool.and_self, if_true]
  split <;> exact fireTrip_latch hf hl
theorem cmpEval_blank {k : Nat} : (s.cmpEval k).cmp.blankOn = s.cmp.blankOn ∧ (s.cmpEval k).now = s.now ∧
    ∀ n, ∀ w ∈ at' s.cmp.blanks n [], s.now ≤ w.2 → w ∈ at' (s.cmpEval k).cmp.blanks n [] := by
  unfold cmpEval
  simp only []
  split
  · split <;> exact ⟨by simp, fireTrip_now, fun n w hw hn => fireTrip_blanks hw hn⟩
  · exact ⟨rfl, rfl, fun n w hw _ => hw⟩
theorem each_cmpEval_blank {l : List Nat} : (each l cmpEval s).cmp.blankOn = s.cmp.blankOn ∧
    ∀ n, ∀ w ∈ at' s.cmp.blanks n [], s.now ≤ w.2 → w ∈ at' (each l cmpEval s).cmp.blanks n [] := by
  induction l generalizing s with
  | nil => exact ⟨rfl, fun _ _ h _ => h⟩
  | cons a l ih =>
    have q := cmpEval_blank (s := s) (k := a)
    refine ⟨(ih (s := cmpEval a s)).1.trans q.1, fun n w hw hn => ?_⟩
    exact (ih (s := cmpEval a s)).2 n w (q.2.2 n w hw hn) (by rw [q.2.1]; exact hn)
/-- A comparator that follows its input keeps its threshold and the count of its move. -/
theorem cmpFollow_keeps {k : Nat} (h : k < s.cmp.cmps.length) : ((cmpFollow k s).cmp1 k).thrHi = (s.cmp1 k).thrHi ∧
    ((cmpFollow k s).cmp1 k).thrLo = (s.cmp1 k).thrLo ∧ ((cmpFollow k s).cmp1 k).thrAt = (s.cmp1 k).thrAt := by
  unfold cmpFollow
  split
  · have e1 : (cmpEval k (cmpStages k s)).cmp1 k = (modAt (cmpStages k s).cmp.cmps k _).getD k {} := congrArg (·.getD k {}) cmpEval_cmps
    rw [e1, getD_modAt (by simpa [cmpStages] using h)]
    simp only [cmpStages, onCmp1, onCmp]
    rw [getD_modAt h]
    simp only [cmp1, at']
    generalize s.cmp.cmps.getD k {} = x
    cases x.nv with
    | none => exact ⟨rfl, rfl, rfl⟩
    | some v => dsimp only; split <;> exact ⟨rfl, rfl, rfl⟩
  · exact ⟨rfl, rfl, rfl⟩
/-- Dropping a timer's windows that are over keeps every other one of it. -/
theorem blankEnd_mem {n : Nat} {w : Nat × Nat} (hw : w ∈ at' s.cmp.blanks n []) (h : s.now < w.2) :
    w ∈ at' (s.onCmp fun c => { c with blankOn := c.blankOn.set n false, blanks := modAt c.blanks n fun l => l.filter fun w => decide (s.now < w.2) }).cmp.blanks n [] := by
  simp only [onCmp_cmp, at'] at hw ⊢
  have l : n < s.cmp.blanks.length := by
    refine Decidable.byContradiction fun g => ?_
    simp [List.getD, List.getElem?_eq_none (by omega : s.cmp.blanks.length ≤ n)] at hw
  rw [getD_modAt l]
  exact List.mem_filter.mpr ⟨hw, by simpa using h⟩
theorem blankEnd_blanked {n k : Nat} (h : s.cmpBlanked k = false) :
    (s.onCmp fun c => { c with blankOn := c.blankOn.set n false, blanks := modAt c.blanks n fun l => l.filter fun w => decide (s.now < w.2) }).cmpBlanked k = false := by
  refine List.any_eq_false.mpr fun b hb => ?_
  have := List.any_eq_false.mp h b hb
  simp only [Bool.and_eq_true, not_and, Bool.not_eq_true] at this ⊢
  intro g
  have q := this g
  refine List.any_eq_false.mpr fun w hw => List.any_eq_false.mp q w ?_
  simp only [onCmp_cmp, at', List.getD] at hw ⊢
  rw [getElem?_modAt] at hw
  by_cases e : n = b
  · subst e
    cases z : s.cmp.blanks[n]? <;> simp [z] at hw ⊢
    exact hw.1
  · simpa [e] using hw
theorem range24_one : ∀ {k : Nat}, k < 24 → (List.range 24).filter (fun j => decide (j = k)) = [k] := by decide
end
section
variable {s : State}
/-- Nothing has to land while no commit has crossed for six EDGE cycles. -/
theorem landDue_none (h : ∀ x ∈ s.edg.flights, s.now < x.at_ + 96) : s.landDue = s := by
  unfold landDue
  rw [List.filter_eq_nil_iff.mpr fun x hx => by have h1 := h x hx; have h2 : decide (landBy x ≤ s.now) = false := decide_eq_false (by unfold landBy; omega); rw [h2]; exact Bool.false_ne_true]
  rfl
theorem landable_head {f : Flight} {q : List Flight} (h : s.edg.flights = f :: q) (a : f.at_ + 48 ≤ s.now) : s.landable f.g = some f := by
  unfold landable
  rw [h]
  simp [List.find?_cons, a]
theorem atTime_same {f : Flight} (h : s.now < f.at_ + 96) : s.atTime (landBy f) = s := by
  unfold atTime landBy
  rw [Nat.min_eq_left (by omega)]
/-- A commit that lands before the cut, or once the compile has begun. -/
theorem land_early {f : Flight} (n : s.now < f.at_ + 96) (h : s.directOk f.g f.vals = true)
    (hc : s.cyc < s.kO + 16 ∨ s.kO + 32 ≤ s.cyc ∧ s.reached 5 = true) (hs : f.src ≠ 1) :
    s.land f = (s.onGrp f.g fun g => { s.settled g with lper := s.per, lcyc := s.cyc, llate := false, committed := f.vals ++ (s.settled g).committed.drop f.vals.length }).onEdg
      fun e => { e with lastLate := false, lastGrp := f.g } := by
  have e : ∃ p, s.landing = (false, p) := by
    unfold landing
    rcases hc with hc | hc
    · exact ⟨_, if_pos hc⟩
    · exact ⟨_, by rw [if_neg (by omega), if_neg (by omega)]⟩
  obtain ⟨p, e⟩ := e
  have l : s.landed f = fun g => { s.settled g with lper := s.per, lcyc := s.cyc, llate := false, committed := f.vals ++ (s.settled g).committed.drop f.vals.length } := by
    funext g
    unfold landed
    have c : (decide (s.cyc < s.kO + 16) || decide (s.kO + 32 ≤ s.cyc) && s.reached 5) = true := by
      rcases hc with hc | hc <;> simp [hc]
    simp only [c, e, if_true]
  unfold land
  simp only [h, atTime_same n, e, l, hs, Bool.not_true, Bool.false_eq_true, if_false, Bool.or_false]
/-- A commit that lands in the cut. -/
theorem land_late {f : Flight} (n : s.now < f.at_ + 96) (h : s.directOk f.g f.vals = true) (hc : s.kO + 16 ≤ s.cyc) (hd : s.cyc ≤ s.kO + 31) (hs : f.src ≠ 1) :
    s.land f = (s.onGrp f.g fun g => { s.settled g with lper := s.per, lcyc := s.cyc, llate := true
                                                        cut := some (f.vals ++ ((s.settled g).cut.getD (s.settled g).committed).drop f.vals.length) }).onEdg
      fun e => { e with late := true, lastLate := true, lastGrp := f.g, rldLate := setBit e.rldLate f.g } := by
  have e : s.landing = (true, s.perPlus 2) := by unfold landing; rw [if_neg (by omega), if_pos hd]
  have l : s.landed f = fun g => { s.settled g with lper := s.per, lcyc := s.cyc, llate := true
                                                    cut := some (f.vals ++ ((s.settled g).cut.getD (s.settled g).committed).drop f.vals.length) } := by
    funext g
    unfold landed
    have c : (decide (s.cyc < s.kO + 16) || decide (s.kO + 32 ≤ s.cyc) && s.reached 5) = false := by
      rw [decide_eq_false (by omega), decide_eq_false (by omega : ¬s.kO + 32 ≤ s.cyc)]; rfl
    simp only [c, e, Bool.false_eq_true, if_false]
  unfold land
  simp only [h, atTime_same n, e, l, hs, Bool.not_true, Bool.false_eq_true, if_false, Bool.or_true, if_true]
/-- A step that leaves EDG and the compile alone leaves the references. -/
theorem SameRefs.frame {z w : State} {m : Nat} (h : Frame m z w) (a : m.testBit Part.edg.num = false) (b : m.testBit Part.comp.num = false) : SameRefs z w := by
  have e1 := h.keeps .edg a
  have e2 := h.keeps .comp b
  simp only [Part.same] at e1 e2
  refine ⟨?_, ?_, ?_, ?_⟩ <;> simp only [e1, e2]
theorem holdCell_refs {z : State} {c : Nat} : SameRefs z (holdCell c z) := .frame (m := 4096) (by simp) rfl rfl
theorem edgeDrop_refs {z : State} : SameRefs z z.edgeDrop := by
  unfold edgeDrop
  extract_lets cs s1 s2
  have e1 : SameRefs z s1 := .each fun c y => by
    simp only []
    refine SameRefs.trans (w := y.onEdg _) (.edg ?_) (holdCell_refs (c := c))
    rfl
  exact e1.trans (.trans (.comp (z := s1) rfl rfl) ⟨rfl, rfl, rfl, rfl⟩)
theorem compile_refs {k : List Nat} {z : State} : (z.compile [] k).comp.per = z.perPlus 1 ∧ (z.compile [] k).comp.done = true ∧
    (z.compile [] k).edg.grps.map (·.frozen) = z.edg.grps.map (fun g => (z.settled g).committed) ∧
    (z.compile [] k).edg.grps.map (·.committed) = z.edg.grps.map fun g => (z.settled g).cut.getD (z.settled g).committed := by
  unfold compile
  have hf : z.freeze.edg.grps = z.edg.grps.map fun g => { z.settled g with frozen := (z.settled g).committed, committed := (z.settled g).cut.getD (z.settled g).committed, cut := none } := rfl
  generalize z.freeze = y at hf ⊢
  extract_lets p trip parts cells s1 s2 s3 s4 s5 s6 s7
  have e2 : SameRefs y s2 := rankStale_refs.trans (.each fun _ _ => readGrp_refs)
  have e3 : SameRefs s2 s3 := .edg rfl
  have e6 : SameRefs s4 s6 := .trans (.each fun _ _ => putCell_refs) putLocals_refs
  have e23 := e2.trans e3
  have r : ∀ w : State, SameRefs s4 w → w.comp.per = p ∧ w.comp.done = true ∧ w.edg.grps.map (·.frozen) = z.edg.grps.map (fun g => (z.settled g).committed) ∧
      w.edg.grps.map (·.committed) = z.edg.grps.map fun g => (z.settled g).cut.getD (z.settled g).committed := by
    intro w h
    refine ⟨h.1, h.2.1, (h.2.2.1.trans e23.2.2.1).trans ?_, (h.2.2.2.trans e23.2.2.2).trans ?_⟩ <;> rw [hf, List.map_map] <;> rfl
  split
  · exact r _ (e6.trans edgeDrop_refs)
  · exact r _ e6
/-- A cell whose frame is withheld holds (R258). -/
theorem withholdCell_st {b c : Nat} (h : (s.cell c).st = 2) : ((withholdCell b c s).cell c).st = 3 := by
  have l : c < s.seam.cells.length := lt_of_getD (fun x : Cell => x.st = 2) h (by decide)
  unfold withholdCell
  extract_lets x prev ch s1 s2
  have e : (edgFault b false c s2).cell c = s.cell c := rfl
  unfold holdCell
  rw [if_pos (by rw [e]; exact h)]
  obtain ⟨v, q⟩ := cellTo_cell (s := edgFault b false c s2) (st := 3) (r := 0) (c := c) l
  rw [q]
theorem reach_reached {i : Nat} (h : i < 16) : (reach i s).reached i = true := by
  have l : i < (s.pts ++ List.replicate (16 - s.pts.length) 0).length := by simp; omega
  show (at' ((s.pts ++ List.replicate (16 - s.pts.length) 0).set i s.absPer) i 0 == s.absPer) = true
  simp only [at', List.getD, List.getElem?_set_self l]
  simp
theorem reached_of {u w : State} {i : Nat} (h0 : u.pts = w.pts) (h1 : u.now = w.now) (h2 : u.ofs = w.ofs) (h3 : u.clk = w.clk) (h4 : u.img = w.img) :
    u.reached i = w.reached i := by
  simp only [reached, absPer, sysTime, slewAdds, slewTicks, tick, kF, cfg, h0, h1, h2, h3, h4]
theorem reached_told {z : State} {a : List (Nat × Nat)} {p q i : Nat} : (noteSets a (finish p q z)).reached i = z.reached i :=
  reached_of (by simp) (by simp) (by simp) (by simp) (by simp)
theorem mapIdx_map {α β : Type} {l : List α} {f : α → β} : l.mapIdx (fun _ x => f x) = l.map f := by
  refine List.ext_getElem? fun i => ?_
  simp
theorem mapIdx_one {α : Type} {l : List α} {j : Nat} {f : α → α} : l.mapIdx (fun i x => if i = j then f x else x) = modAt l j f := by
  refine List.ext_getElem? fun i => ?_
  rw [List.getElem?_mapIdx, getElem?_modAt]
  cases l[i]? <;> simp [eq_comm] <;> split <;> simp_all
end
section
variable {s : State}
/-- A row with a condition that holds gives what its effect gives, within the effect's own frame. -/
theorem tight {c : Instr} {s : State} {t m : Nat} {l : List Part} {F : State → Prop} {cond : State → Bool} {f : State → State}
    (hr : exec c s = .next (runIf t cond f s)) (hc : cond (begin t s) = true) (fr : Frame m (begin t s) (f (begin t s)))
    (k : m ||| maskOfParts (.now :: .out :: l) = maskOfParts (.now :: .out :: l)) (h : ∀ a p q, F (noteSets a (finish p q (f (begin t s))))) : Gives c s l F :=
  gives_if hr hc rfl fr k h
theorem tightRun {c : Instr} {s : State} {t m : Nat} {l : List Part} {F : State → Prop} {f : State → State}
    (hr : exec c s = .next (run t f s)) (fr : Frame m (begin t s) (f (begin t s)))
    (k : m ||| maskOfParts (.now :: .out :: l) = maskOfParts (.now :: .out :: l)) (h : ∀ a p q, F (noteSets a (finish p q (f (begin t s))))) : Gives c s l F :=
  gives_as hr rfl fr k h
/-- The state in which a validation's result is known: REASON, the slot's state, CAND. -/
def valDone (v : Val) (r : Option Image.Bad) (st : Nat) (z : State) : State :=
  let a := (imgReason r z).onImg fun i => { i with val := none }
  let b := if v.source = 2 || v.moved then a else slotSt v.source st a
  let c := if v.kind = 1 then imgSts (fun i => { i with cand := st }) b else b
  if v.kind = 0 then c else c.imgIrq
theorem valDone_frame {v : Val} {r : Option Image.Bad} {st : Nat} {z : State} : Frame 256 z (valDone v r st z) := by
  unfold valDone
  simp only []
  repeat' split
  all_goals simp
theorem imgSts_keeps {α : Type} (g : Img → α) {f : Img → Img} {z : State} (h : ∀ i q, g { f i with irq := q } = g i) : g (imgSts f z).img = g z.img := by
  obtain ⟨q, e⟩ := imgSts_img (f := f) (z := z)
  rw [e, h]
theorem slotSt_keeps {α : Type} (g : Img → α) {k st : Nat} {z : State} (h : ∀ i a b q, g { i with slotA := a, slotB := b, irq := q } = g i) : g (slotSt k st z).img = g z.img := by
  unfold slotSt
  refine imgSts_keeps g fun i q => ?_
  split
  · exact h i st i.slotB q
  · split
    · exact h i i.slotA st q
    · exact h i i.slotA i.slotB q
/-- What a validation's end leaves alone: all but REASON, IMG_DIAG, the validation itself, CAND, the slots' states and IRQ. -/
theorem valDone_keeps {α : Type} (g : Img → α) {v : Val} {r : Option Image.Bad} {st : Nat} {z : State}
    (h : ∀ i a b c q, g { i with slotA := a, slotB := b, cand := c, irq := q } = g i) :
    g (valDone v r st z).img = g ((imgReason r z).onImg fun i => { i with val := none }).img := by
  unfold valDone
  simp only []
  generalize (imgReason r z).onImg (fun i => { i with val := none }) = a
  have e1 : g (if (decide (v.source = 2) || v.moved) = true then a else slotSt v.source st a).img = g a.img := by
    split
    · rfl
    · exact slotSt_keeps g fun i x y q => h i x y i.cand q
  generalize (if (decide (v.source = 2) || v.moved) = true then a else slotSt v.source st a) = b at e1
  have e2 : g (if v.kind = 1 then imgSts (fun i => { i with cand := st }) b else b).img = g a.img := by
    split
    · rw [imgSts_keeps g fun i q => h i i.slotA i.slotB st q, e1]
    · exact e1
  generalize (if v.kind = 1 then imgSts (fun i => { i with cand := st }) b else b) = c at e2
  split
  · exact e2
  · rw [← e2]; exact h c.img c.img.slotA c.img.slotB c.img.cand true
theorem valDone_cand {v : Val} {r : Option Image.Bad} {st : Nat} {z : State} (h : v.kind = 1) : (valDone v r st z).img.cand = st ∧ (valDone v r st z).img.irq = true := by
  unfold valDone
  simp only [h, if_true, if_neg (by decide : ¬(1 : Nat) = 0)]
  exact ⟨rfl, rfl⟩
theorem valDone_slotA {v : Val} {r : Option Image.Bad} {st : Nat} {z : State} (h : v.source = 0) (k : v.moved = false) : (valDone v r st z).img.slotA = st := by
  unfold valDone
  simp only [h, k]
  repeat' split
  all_goals first | rfl | (exfalso; simp_all)
theorem valEnds_fails {v : Val} {d : ImgDesc} {y : Bytes} {x : Image.Bad} {z : State} (hk : v.kind = 1) (hst : x.st ≠ 5) (hw : z.img.hostWait = false) (hd : z.img.desc = none) :
    valEnds v d y (some x) z = valDone v (some x) x.st z := by
  unfold valEnds
  extract_lets st z1 z2 waits z3 z4 reloading z5
  have e4 : z4 = valDone v (some x) x.st z := rfl
  have e : st = x.st := rfl
  have h1 : z4.img.hostWait = false := by
    rw [e4]; exact (valDone_keeps (·.hostWait) fun _ _ _ _ _ => rfl).trans hw
  have h2 : z4.img.desc = none := by
    rw [e4]; exact (valDone_keeps (·.desc) fun _ _ _ _ _ => rfl).trans hd
  rw [if_neg (by rw [e]; exact hst), if_neg (by rw [hk]; decide), if_neg (by rw [h1]; decide)]
  unfold lanesBack
  rw [h2, e4]
theorem valEnds_valid {v : Val} {d : ImgDesc} {y : Bytes} {z : State} (hr : z.pwr.reload = false) :
    valEnds v d y none z = bringInForce d y v.source v.fell (valDone v none 5 z) := by
  unfold valEnds
  extract_lets st z1 z2 waits z3 z4 reloading z5
  have e4 : z4 = valDone v none 5 z := rfl
  have e : reloading = false := by
    show z4.pwr.reload = false
    rw [e4, valDone_frame.keeps .pwr rfl]
    exact hr
  have e5 : z5 = bringInForce d y v.source v.fell (valDone v none 5 z) := rfl
  rw [if_pos rfl, if_neg (by rw [e]; decide), e5]
theorem bringInForce_img {d : ImgDesc} {y : Bytes} {k : Nat} {fell : Bool} {z : State} : (bringInForce d y k fell z).img.desc = some d ∧ (bringInForce d y k fell z).img.run = 5 ∧
    (bringInForce d y k fell z).img.src = k + 1 ∧ (bringInForce d y k fell z).img.id = Image.idOf y ∧ (bringInForce d y k fell z).img.hostWait = false := by
  unfold bringInForce
  extract_lets prev was sec y1 y2 y3 y4 y5 y6 y7 y8 y9 y10 y11
  have f : Frame 33554158 y2 (y11.islandImage (Image.safetyOf sec) (Image.sealOk y11.evs.hash sec)).outsSync := by
    have f9 : Frame 33554158 y2 y9 := by simp [y9, y8, y7, y6, y5, y4, y3]
    have f10 : Frame 33554158 y9 y10 := by
      simp only [y10]
      split <;> simp
    have f11 : Frame 33554158 y10 y11 := by
      simp only [y11]
      simp
    exact f9.trans (f10.trans (f11.trans (by simp)))
  rw [f.keeps .img rfl]
  exact ⟨rfl, rfl, rfl, rfl, rfl⟩
/-- A validation that failed, as IMAGE_VALIDATION_DONE shows it. -/
theorem img_failed {t : Nat} {d : ImgDesc} {v : Val} {x : Image.Bad} (e : valStep d (begin t s) = valDone v (some x) x.st (begin t s)) (hk : v.kind = 1) :
    Gives (.imageValidationDone t d) s [.img] fun u => u.img.cand = x.st ∧ u.img.reason = x.reason ∧ u.img.diagSect = x.sect ∧ u.img.diagOfs = x.ofs ∧
        u.img.val = none ∧ u.img.irq = true ∧ (v.source = 0 → v.moved = false → u.img.slotA = x.st) := by
  refine tightRun (m := 256) (t := t) rfl (by rw [e]; exact valDone_frame) rfl fun _ _ _ => ?_
  rw [e, noteSets_img, finish_img]
  refine ⟨(valDone_cand hk).1, ?_, ?_, ?_, ?_, (valDone_cand hk).2, valDone_slotA⟩
  · exact valDone_keeps (·.reason) fun _ _ _ _ _ => rfl
  · exact valDone_keeps (·.diagSect) fun _ _ _ _ _ => rfl
  · exact valDone_keeps (·.diagOfs) fun _ _ _ _ _ => rfl
  · exact valDone_keeps (·.val) fun _ _ _ _ _ => rfl
/-- A validation that ended VALID. -/
theorem img_valid {t m : Nat} {d d0 : ImgDesc} {v : Val} {y : Bytes} {z : State} {l : List Part}
    (e : valStep d0 (begin t s) = bringInForce d y v.source v.fell (valDone v none 5 z))
    (fr : Frame m (begin t s) (valDone v none 5 z)) (k : m ||| maskOfParts (.now :: .out :: l) = maskOfParts (.now :: .out :: l)) :
    ∃ u z, exec (.imageValidationDone t d0) s = .next u ∧ Only l (begin t s) z ∧ z.img.val = none ∧ z.img.reason = 0 ∧ (v.kind = 1 → z.img.cand = 5) ∧
        Only [] (z.bringInForce d y v.source v.fell) u ∧ u.img.desc = some d ∧ u.img.run = 5 ∧ u.img.src = v.source + 1 ∧ u.img.id = Image.idOf y ∧
        u.img.hostWait = false := by
  obtain ⟨b1, b2, b3, b4, b5⟩ := bringInForce_img (d := d) (y := y) (k := v.source) (fell := v.fell) (z := valDone v none 5 z)
  have r : run t (valStep d0) s = noteSets (setsOf (valStep d0) (begin t s)) (finish s.pend s.jnl.head (bringInForce d y v.source v.fell (valDone v none 5 z))) := by rw [run_goes, e]
  refine ⟨run t (valStep d0) s, valDone v none 5 z, rfl, Frame.only fr k,
    valDone_keeps (·.val) fun _ _ _ _ _ => rfl, valDone_keeps (·.reason) fun _ _ _ _ _ => rfl, fun h => (valDone_cand h).1, by rw [r]; exact fin_only, ?_⟩
  rw [r, noteSets_img, finish_img]
  exact ⟨b1, b2, b3, b4, b5⟩
end
section
variable {s : State}
theorem slotSt_img {k x : Nat} {z : State} : ∃ q, (slotSt k x z).img = { z.img with
    slotA := if k = 0 then x else z.img.slotA
    slotB := if k = 1 then x else z.img.slotB
    irq := q } ∧ (z.img.irq = true → q = true) := by
  unfold slotSt
  have hm : ∀ f : Img → Img, (f z.img).irq = z.img.irq → z.img.irq = true → (imgSts f z).img.irq = true := by
    intro f h k
    show ((f z.img).irq || _) = true
    rw [h, k]
    exact Bool.true_or _
  by_cases h : k = 0
  · subst h; exact ⟨_, rfl, hm _ rfl⟩
  · by_cases h1 : k = 1
    · subst h1; exact ⟨_, rfl, hm _ rfl⟩
    · simp only [h, h1, if_false]
      exact ⟨_, rfl, hm (fun i => i) rfl⟩
/-- An arming that stops gives its slot back the state it showed before; nothing else of IMG changes but IRQ. -/
theorem armStops_img {z : State} : ∃ a b q, z.armStops.img = { z.img with slotA := a, slotB := b, irq := q } ∧
    (z.img.swapSt ≠ 1 → a = z.img.slotA ∧ b = z.img.slotB ∧ q = z.img.irq) ∧
    (∀ c, z.img.swap = some c → z.img.swapSt = 1 → a = (if c.source = 0 then c.was else z.img.slotA) ∧ b = if c.source = 1 then c.was else z.img.slotB) ∧
    (z.img.irq = true → q = true) := by
  by_cases h : z.img.swapSt = 1
  · cases hs : z.img.swap with
    | none =>
      refine ⟨z.img.slotA, z.img.slotB, z.img.irq, ?_, fun g => absurd h g, fun c k => by simp at k, id⟩
      unfold armStops
      rw [hs]
    | some c =>
      obtain ⟨q, e, ei⟩ := slotSt_img (k := c.source) (x := c.was) (z := z)
      refine ⟨if c.source = 0 then c.was else z.img.slotA, if c.source = 1 then c.was else z.img.slotB, q, ?_, fun g => absurd h g, fun d hd _ => ?_, ei⟩
      · unfold armStops
        rw [hs]
        dsimp only
        rw [if_pos h, e]
      · obtain rfl := Option.some.inj hd
        exact ⟨rfl, rfl⟩
  · refine ⟨z.img.slotA, z.img.slotB, z.img.irq, ?_, fun _ => ⟨rfl, rfl, rfl⟩, fun d _ g => absurd g h, id⟩
    unfold armStops
    cases z.img.swap with
    | none => rfl
    | some c => simp only [h, if_false]
/-- A swap that ends without a change. -/
theorem swapEnds_img {st r : Nat} {z : State} : ∃ a b q, (swapEnds st r z).img = { z.img with
    swapSt := st, swapReason := r, swapLate := false, swapSects := 0, swapPer := 0, swap := none, slotA := a, slotB := b, irq := q || st == 5 } ∧
    Unarmed z.img (swapEnds st r z).img ∧ (z.img.swapSt ≠ 1 → q = z.img.irq) ∧ (z.img.irq = true → q = true) := by
  obtain ⟨a, b, q, e, e1, e2, e3⟩ := armStops_img (z := z)
  refine ⟨a, b, q, ?_, ⟨?_, ?_⟩, fun h => (e1 h).2.2, e3⟩
  · show ({ z.armStops.img with swapSt := st, swapReason := r, swapLate := false, swapSects := 0, swapPer := 0, swap := none, irq := z.armStops.img.irq || st == 5 } : Img) = _
    rw [e]
  · intro h
    have h1 := congrArg Img.slotA e
    have h2 := congrArg Img.slotB e
    exact ⟨h1.trans (e1 h).1, h2.trans (e1 h).2.1⟩
  · intro c hc h
    have h1 := congrArg Img.slotA e
    have h2 := congrArg Img.slotB e
    exact ⟨h1.trans (e2 c hc h).1, h2.trans (e2 c hc h).2⟩
theorem swapTake_all {c : Cand} {z : State} : (swapTake c z).img = { z.img with
    desc := some (c.desc.getD z.cfg)
    work := c.bytes
    workLen := c.len
    id := c.id
    src := c.source + 1
    fellBack := false
    irq := true
    swapSt := 4
    swap := none
    sigChecked := z.sys.keySet
    bank := 1 - z.img.bank } ∧
    (c.sects.testBit 9 = true → (swapTake c z).host.loss = (c.desc.getD z.cfg).host.loss ∧ (swapTake c z).host.leaseMs = (c.desc.getD z.cfg).host.leaseMs) := by
  unfold swapTake
  extract_lets s0 prev b d y1 y2 y3
  have f2 : Frame 4326400 y1 y2 := by simp [y2]
  have f3 : Frame 1050752 y2 y3 := by
    simp only [y3]
    split <;> simp
  have i3 : y3.img = y1.img := (f3.keeps .img rfl).trans (f2.keeps .img rfl)
  refine ⟨?_, fun h => ?_⟩
  · split
    · exact i3
    · exact i3
  · rw [if_pos h]
    exact ⟨rfl, rfl⟩
end
/-- No record waits that did not wait before, and no output is gone. -/
def Fewer (z w : State) : Prop := (∀ o ∈ w.host.opens, o ∈ z.host.opens) ∧ ∀ x ∈ z.out, x ∈ w.out
theorem Fewer.trans {z w x : State} (h : Fewer z w) (k : Fewer w x) : Fewer z x := ⟨fun o m => h.1 o (k.1 o m), fun o m => k.2 o (h.2 o m)⟩
theorem Fewer.of {z w : State} (h : w.host.opens = z.host.opens) (k : w.out = z.out) : Fewer z w := ⟨fun o m => h ▸ m, fun o m => by rw [k]; exact m⟩
theorem Fewer.each {α : Type} {l : List α} {f : α → State → State} (h : ∀ a z, Fewer z (f a z)) {z : State} : Fewer z (Machine.each l f z) := by
  unfold Machine.each
  induction l generalizing z with
  | nil => exact .of rfl rfl
  | cons a l ih => exact (h a z).trans ih
theorem Fewer.host {z w : State} (h : w.host = z.host) (k : ∀ x ∈ z.out, x ∈ w.out) : Fewer z w := ⟨fun o m => h ▸ m, k⟩
theorem meshSend_fewer {n a b : Nat} {c : MBody} {z : State} : Fewer z (z.meshSend n a b c) := by
  refine .host ((by simp : Frame 8388620 z (z.meshSend n a b c)).keeps .host rfl) fun x h => ?_
  unfold State.meshSend
  simp only []
  split
  · exact mem_portPut h
  · split
    · exact mem_portPut h
    · exact mem_portPut h
theorem sendItem_fewer {n : Nat} {i : Item} {z : State} : Fewer z (z.sendItem n i) := by
  unfold State.sendItem State.dataSend
  simp only []
  split
  · exact .of rfl rfl
  split
  · exact .of rfl rfl
  · refine Fewer.trans ?_ meshSend_fewer
    exact .of rfl rfl
theorem deliver_fewer {h : RecHdr} {k : Cpl} {z : State} : Fewer z (deliver h k z) := by
  unfold deliver
  split
  · exact ⟨fun o m => m, fun x m => List.mem_append_left _ m⟩
  · split
    · exact sendItem_fewer
    · split
      · exact ⟨fun o m => m, fun x m => List.mem_append_left _ (List.mem_append_left _ m)⟩
      · exact .of rfl rfl
theorem answerCopies_fewer {a : Nat} {k : Cpl} {z : State} : Fewer z (answerCopies a k z) := by
  refine Fewer.trans (w := z.onHost fun x => { x with opens := x.opens.filter fun d => !isCopy a k.seq d }) ?_ (Fewer.each fun d v => deliver_fewer)
  exact ⟨fun o m => (List.mem_filter.mp m).1, fun x m => m⟩
theorem release_fewer {k : Held} {z : State} : Fewer z (release k z) := by
  unfold release
  split
  · rename_i w _
    exact Fewer.trans (w := z.cacheCpl k.ctx w k.cpl) (.of rfl rfl) (deliver_fewer.trans answerCopies_fewer)
  · exact deliver_fewer.trans answerCopies_fewer
theorem heldFlush_fewer {z : State} : Fewer z z.heldFlush := Fewer.trans (.of rfl rfl) (Fewer.each fun _ _ => release_fewer)
theorem finishCpl_fewer {k : Held} {z : State} : Fewer z (finishCpl k z) := by
  unfold finishCpl
  split
  · exact release_fewer.trans heldFlush_fewer
  · exact Fewer.trans (.of rfl rfl) heldFlush_fewer
theorem jKnow_fewer {n : Nat} {f : JEntry → JEntry} {z : State} : Fewer z (z.jKnow n f) := .of (by rw [jKnow_host]) (by rw [jKnow_out])
theorem answer_fewer {o : OpenCmd} {a : Answer} {z : State} : Fewer z (z.answer o a) := jKnow_fewer.trans finishCpl_fewer
theorem openUnknown_fewer {o : OpenCmd} {c n : Nat} {z : State} : Fewer (z.openDrop o) (z.openUnknown o c n) := by
  unfold openUnknown
  simp only []
  split
  · exact jKnow_fewer.trans finishCpl_fewer
  · refine Fewer.trans ?_ finishCpl_fewer
    refine Fewer.trans (jKnow_fewer (n := o.jidx) (f := settle o { status := 7 } (openDrop o z))) ?_
    exact .of rfl rfl
theorem told_fewer {h : RecHdr} {k : Cpl} {v z w : State} {l : List (Nat × Nat)} {a b : Nat} (g : Told h k v z) (f : Fewer z w) : Told h k v (noteSets l (finish a b w)) :=
  mem_finish (p := a) (h := b) (f.2 _ g)
/-- A record refused after all gets its rejection. -/
theorem refuseOpen_told {o : OpenCmd} {r : Refuse} {z : State} {l : List (Nat × Nat)} {a b : Nat} (hs : o.h.src = .ring ∨ o.h.src = .mbx0 ∨ o.h.src = .mbx1) :
    Told o.h (rejectCpl o.h o.opcode 3 r (z.ctx (ctxOf o.h.sess)).e) z (noteSets l (finish a b (refuseOpen o r z))) := by
  have hm : o.h.src ≠ .mesh := by obtain hs | hs | hs := hs <;> rw [hs] <;> decide
  unfold refuseOpen
  simp only []
  refine told_fewer (z := reject o.h o.opcode 3 r (z.ctx (ctxOf o.h.sess)).e (keepCrc o) ((z.openDrop o).jGone o.jidx)) ?_ (answerCopies_fewer.trans heldFlush_fewer)
  unfold reject
  simp only [hm, if_false]
  generalize hw : spoil _ ((z.openDrop o).jGone o.jidx) = w
  have hh : w.host.ctxs = z.host.ctxs := by rw [← hw]; rfl
  generalize hk : rejectCpl o.h o.opcode 3 r (z.ctx (ctxOf o.h.sess)).e = k
  have key : ∀ y : State, (∀ {α : Type} (f : Ctx → α), (∀ (x : Ctx) (c : List Cached), f { x with cache := c } = f x) → ∀ c, f (y.ctx c) = f (z.ctx c)) → Told o.h k z (deliver o.h k y) := fun y g => by
    have e1 := g (·.cqBase) (fun _ _ => rfl) o.h.ring
    have e2 := g (·.cqTail) (fun _ _ => rfl) o.h.ring
    have e3 := g (·.phase) (fun _ _ => rfl) o.h.ring
    unfold Told
    rw [← e1, ← e2, ← e3]
    obtain hs | hs | hs := hs <;> unfold deliver <;> rw [hs] <;> simp [mbxOf, State.emit, State.emits]
  split
  · rename_i y _
    refine key _ fun f hf c => ?_
    unfold cacheCpl
    rw [onCtx_of f (fun x => by split; rfl; exact hf _ _), ctx_host hh]
  · exact key _ fun f hf c => congrArg f (ctx_host hh c)
theorem convRise_convs {n : Nat} {z : State} : (convRise n z).mesh.convs = modAt z.mesh.convs n fun c => { c with st := 1, seq := 0, exp := 0, out := [], queue := [], asks := [], back := none, heardAt := z.now, sentAt := z.now } := rfl
theorem onConv_id {n : Nat} {f : Conv → Conv} {z : State} (h : f (z.conv n) = z.conv n) : z.onConv n f = z := by
  unfold State.onConv State.onMesh
  simp only [show modAt z.mesh.convs n f = z.mesh.convs from modAt_id {} h]
theorem InEpoch.goes {n e : Nat} {z : State} (h : InEpoch n e z) (k : State → State) : meshEpoch n e k z = k (z.onConv n fun c => { c with epoch := some e }) := by
  have e1 : ¬(n = z.nodeId ∨ 64 ≤ n) := by have := h.other; have := h.known.1; omega
  unfold meshEpoch
  rw [if_neg e1]
  rcases h.epoch with h | h
  · rw [h, onConv_id (by rw [← h])]
    simp only [if_true]
  · rw [h]
/-- The state in which a symbol's effect starts. -/
def passed (op : Nat) (x : PortRx) (y : Sym) (live : List (Nat × Nat × Nat × Nat)) (z : State) : State :=
  (z.onMesh fun m => { m with seenSym := live }).emits (symbolOut (((z.onMesh fun m => { m with seenSym := live }).symbolPorts op y.origin).filter (· != x.port)) op y)
theorem FirstCopy.goes {op : Nat} {x : PortRx} {y : Sym} {z : State} (h : FirstCopy op x y z) : ∃ live, ∀ act,
    symbolIn op x act z = (let r := act y (passed op x y live z)
      if r.2 && confirmedOps.contains op then r.1.sendSymbol 0x0C (y.tag % 256 + 256 * op) else r.1) := by
  have h1 : z.ownDesc.isNone = false := by
    unfold ownDesc
    rw [h.live, if_pos rfl]
    have := h.live
    unfold inForce at this
    cases hd : z.img.desc
    · rw [hd] at this; exact absurd this (by simp)
    · rfl
  refine ⟨(op, y.origin, y.tag, z.now) :: (z.mesh.seenSym.filter fun x => decide (z.now < x.2.2.2 + 100 * Config.us)), fun act => ?_⟩
  unfold symbolIn
  rw [h.takes, h.brings]
  simp only [Bool.not_true, Bool.false_eq_true, if_false]
  show symbolTake op x.port act y z = _
  unfold symbolTake
  simp only [h1, h.new, Bool.false_eq_true, or_self, if_false]
  rw [if_neg]
  · rfl
  have h2 : (y.origin == z.node) = false := by simpa using h.other
  show ¬ ((!z.inForce || y.origin == z.node) = true)
  rw [h.live, h2]
  decide
theorem symbol_frame {op c : Nat} {b : Bool} {z : State} : Frame 8388612 z (if b && confirmedOps.contains op then z.sendSymbol 0x0C c else z) := by
  split <;> simp
theorem FirstCopy.done {op t : Nat} {x : PortRx} {y : Sym} {s : State} (h : FirstCopy op x y (s.begin t)) : ∃ live, ∀ (act : Sym → State → State × Bool) w ok,
    act y (passed op x y live (s.begin t)) = (w, ok) →
    ∃ v, s.run t (symbolIn op x act) = v ∧ (∀ x, x ∈ w.out → x ∈ v.out) ∧ (∃ tg gs, v.mesh = { w.mesh with tag := tg, gops := gs }) ∧
      (confirmedOps.contains op = false → v.mesh = w.mesh) ∧ Frame 8388612 w v := by
  obtain ⟨live, e⟩ := h.goes
  refine ⟨live, fun act w ok ha => ⟨_, rfl, ?_⟩⟩
  rw [run_goes, e, ha]
  refine ⟨fun x hx => mem_finish (p := s.pend) (h := s.jnl.head) (mem_after hx), ?_, fun hc => ?_, ?_⟩
  · rw [noteSets_mesh, finish_mesh]
    exact symbol_after
  · rw [noteSets_mesh, finish_mesh, hc]
    simp only [Bool.and_false, Bool.false_eq_true, if_false]
  · exact Eq.mpr (State.noteSets_frame rfl) (Eq.mpr (State.finish_frame rfl) symbol_frame)
theorem passed_sends {op : Nat} {x : PortRx} {y : Sym} {live : List (Nat × Nat × Nat × Nat)} {z u : State} (h : ∀ o, o ∈ (passed op x y live z).out → o ∈ u.out) :
    PassedOn op x y z u := fun p hp hx => h _ (List.mem_append_right _ (List.mem_map.mpr ⟨p, List.mem_filter.mpr ⟨hp, by simpa using hx⟩, rfl⟩))
theorem passed_mesh {op : Nat} {x : PortRx} {y : Sym} {live : List (Nat × Nat × Nat × Nat)} {z : State} : (passed op x y live z).mesh = { z.mesh with seenSym := live } := rfl
theorem passed_sysTime {op : Nat} {x : PortRx} {y : Sym} {live : List (Nat × Nat × Nat × Nat)} {z : State} : (passed op x y live z).sysTime = z.sysTime := rfl
theorem passed_per {op : Nat} {x : PortRx} {y : Sym} {live : List (Nat × Nat × Nat × Nat)} {z : State} : (passed op x y live z).per = z.per := rfl
theorem passed_near {op a : Nat} {x : PortRx} {y : Sym} {live : List (Nat × Nat × Nat × Nat)} {z : State} : (passed op x y live z).near48 a = z.near48 a := near48_congr rfl
theorem answerOpen_same {o : OpenCmd} {a : Answer} {z : State} : MeshSame z (answerOpen o a z) := MeshSame.trans (.of rfl) answer_same
theorem openUnknown_same {o : OpenCmd} {c n : Nat} {z : State} : MeshSame z (openUnknown o c n z) := by
  unfold openUnknown
  simp only []
  refine MeshSame.trans ?_ finishCpl_same
  split
  · exact .of (by rw [jKnow_mesh]; rfl)
  · exact .of (Eq.trans (b := (jKnow o.jidx (settle o { status := 7 } (openDrop o z)) (openDrop o z)).mesh) rfl (jKnow_mesh ..))
theorem barDone_bar {x : State} {n a : Nat} {l : List Nat} (h : x.mesh.bar = some (n, l, a)) (hc : (x.isHead && (List.range x.cfg.mesh.nodes).all l.contains) = true) : x.barDone.mesh.bar = none := by
  unfold barDone
  rw [h]
  simp only []
  rw [if_pos hc]
  obtain ⟨tg, gs, e3⟩ := sendSymbol_mesh (o := 3) (a := n) (z := onMesh (fun m => { m with bar := none }) x)
  generalize hf : List.find? _ _ = q
  cases q with
  | none =>
    rw [e3]
    rfl
  | some o =>
    obtain ⟨c, p, e4, -⟩ := answerOpen_same (o := o) (a := {}) (z := sendSymbol 3 n (onMesh (fun m => { m with bar := none }) x))
    simp only [e4, e3]
    rfl
theorem MeshSame.length {s u : State} (h : MeshSame s u) : u.mesh.convs.length = s.mesh.convs.length := by
  obtain ⟨c, p, e, k⟩ := h
  have := congrArg List.length k
  simpa [e] using this
theorem reject_same {h : RecHdr} {op st : Nat} {r : Refuse} {e : Nat} {c : Option Word} {z : State} : MeshSame z (reject h op st r e c z) := by
  unfold reject
  extract_lets k y1
  split
  · exact deliver_same
  · refine MeshSame.trans (u := y1) (.of rfl) ?_
    cases c with
    | none => exact deliver_same
    | some w => exact MeshSame.trans (u := cacheCpl (ctxOf h.sess) w k y1) (.of rfl) deliver_same
theorem jGone_mesh' {n : Nat} {z : State} : (z.jGone n).mesh = z.mesh := rfl
theorem refuseOpen_same {o : OpenCmd} {r : Refuse} {z : State} : MeshSame z (refuseOpen o r z) := by
  unfold refuseOpen
  simp only []
  exact (MeshSame.trans (u := (z.openDrop o).jGone o.jidx) (.of rfl) reject_same).trans (answerCopies_same.trans heldFlush_same)
theorem convEnds_same {n : Nat} {z : State} : MeshSame z (convEnds n z) := by
  unfold convEnds
  extract_lets c items y0 y1 y2
  have h1 : MeshSame y0 y1 := MeshSame.each fun o w => by
    split
    · exact refuseOpen_same
    · exact openUnknown_same
  have h2 : MeshSame y1 y2 := MeshSame.each fun a w => by
    split
    · exact .of rfl
    · split
      · exact refuseOpen_same
      · exact .of rfl
  refine MeshSame.trans (u := y0) (.onConv fun _ => rfl) (h1.trans (h2.trans (MeshSame.each fun i w => ?_)))
  split
  · exact .of rfl
  · exact .of rfl
theorem convLost_length {n c : Nat} {z : State} : (convLost n c z).mesh.convs.length = z.mesh.convs.length := by
  unfold convLost
  simp only []
  rw [event_mesh]
  show (modAt (convEnds n z).mesh.convs n _).length = _
  rw [modAt_length]
  exact convEnds_same.length
theorem convLost_conv {n c : Nat} {z : State} (h : n < z.mesh.convs.length) : ((convLost n c z).conv n).st = 2 ∧ ((convLost n c z).conv n).lostAt = z.now := by
  unfold convLost
  simp only []
  have hl : n < (convEnds n z).mesh.convs.length := by rw [convEnds_same.length]; exact h
  have e : ∀ (w : State) code d, (event code d (w.onMesh fun m => { m with evt := setBit m.evt 0 })).conv n = w.conv n := fun w code d => conv_of (by simp) n
  rw [e, conv_onConv hl]
  exact ⟨rfl, rfl⟩
/-- What a frame's route is taken from. -/
def SameWay (n : Nat) (z w : State) : Prop := (∀ typ seq m k, w.outFrame n typ seq m k = z.outFrame n typ seq m k) ∧ w.mesh.ports.length = z.mesh.ports.length
theorem SameWay.trans {n : Nat} {z w x : State} (h : SameWay n z w) (k : SameWay n w x) : SameWay n z x :=
  ⟨fun a b c d => (k.1 a b c d).trans (h.1 a b c d), k.2.trans h.2⟩
theorem SameWay.of {n : Nat} {z w : State} (h1 : w.img = z.img) (h2 : w.seam = z.seam) (h3 : w.mesh.down = z.mesh.down) (h4 : w.mesh.ports.length = z.mesh.ports.length)
    (h5 : ((w.conv n).bound, (w.conv n).path, (w.conv n).hops, (w.conv n).back) = ((z.conv n).bound, (z.conv n).path, (z.conv n).hops, (z.conv n).back)) : SameWay n z w := by
  simp only [Prod.mk.injEq] at h5
  refine ⟨fun typ seq m k => ?_, h4⟩
  have e1 : w.nodeId = z.nodeId := by unfold nodeId ownDesc inForce; rw [h1]
  have e2 : w.routePort n = z.routePort n := by unfold routePort meshDesc ownDesc inForce; rw [h3, h1]
  unfold outFrame
  rw [h5.1, h5.2.1, h5.2.2.1, h5.2.2.2, e1, e2, h2]
theorem onConv_way {n c : Nat} {f : Conv → Conv} {z : State} (h : ∀ x, ((f x).bound, (f x).path, (f x).hops, (f x).back) = (x.bound, x.path, x.hops, x.back)) : SameWay n z (z.onConv c f) := by
  refine .of rfl rfl rfl rfl ?_
  have : ∀ {α : Type} (r : Conv → α), (∀ x, r (f x) = r x) → r ((z.onConv c f).conv n) = r (z.conv n) := fun r hr => by
    by_cases e : c = n
    · subst e
      by_cases hl : c < z.mesh.convs.length
      · rw [conv_onConv hl]
        exact hr _
      · have e1 : z.onConv c f = z := by
          unfold State.onConv State.onMesh
          simp only [show modAt z.mesh.convs c f = z.mesh.convs from by unfold modAt; exact List.modify_eq_self (Nat.not_lt.mp hl)]
        rw [e1]
    · rw [conv_onConv_ne e]
  exact this (fun x => (x.bound, x.path, x.hops, x.back)) h
theorem meshSend_conv {n c typ seq : Nat} {m : MBody} {z : State} (k : meshClass typ ≠ 1) : (z.meshSend n typ seq m).conv c = z.conv c := by
  obtain ⟨f, w, e⟩ := meshSend_queued (n := n) (seq := seq) (m := m) (s := z) k
  rw [e]
  rfl
theorem meshSend_way {n c typ seq : Nat} {m : MBody} {z : State} (k : meshClass typ ≠ 1) : SameWay c z (z.meshSend n typ seq m) := by
  obtain ⟨f, w, e⟩ := meshSend_queued (n := n) (seq := seq) (m := m) (s := z) k
  rw [e]
  exact .of rfl rfl rfl modAt_length rfl
theorem at_modAt_mem {p k : Nat} {l : List PortS} {g : List MFrame} {f : MFrame} (h : f ∈ (at' l k {}).queue) : f ∈ (at' (modAt l p fun x => { x with queue := x.queue ++ g }) k {}).queue := by
  by_cases e : p = k
  · subst e
    by_cases hl : p < l.length
    · rw [show at' (modAt l p fun x => { x with queue := x.queue ++ g }) p {} = _ from getD_modAt hl]
      exact List.mem_append_left _ h
    · rw [show modAt l p (fun x : PortS => { x with queue := x.queue ++ g }) = l from by unfold modAt; exact List.modify_eq_self (Nat.not_lt.mp hl)]
      exact h
  · rw [show at' (modAt l p fun x => { x with queue := x.queue ++ g }) k {} = _ from getD_modAt_ne e]
    exact h
theorem meshSend_kept {n typ seq k : Nat} {m : MBody} {z : State} {f : MFrame} (c : meshClass typ ≠ 1) (h : f ∈ (at' z.mesh.ports k {}).queue) : f ∈ (at' (z.meshSend n typ seq m).mesh.ports k {}).queue := by
  obtain ⟨f', w, e⟩ := meshSend_queued (n := n) (seq := seq) (m := m) (s := z) c
  rw [e]
  exact at_modAt_mem h
theorem meshSend_waits {n typ seq : Nat} {m : MBody} {b z : State} (c : meshClass typ ≠ 1) (h : SameWay n b z) : Waits n typ seq m b (z.meshSend n typ seq m) := by
  obtain ⟨f', w, e⟩ := meshSend_queued (n := n) (seq := seq) (m := m) (s := z) c
  refine ⟨w, fun k f hf hk => ?_⟩
  rw [← h.2] at hk
  rw [e, h.1, hf]
  show f ∈ (at' (modAt z.mesh.ports k _) k {}).queue
  rw [show at' (modAt z.mesh.ports k fun x => { x with queue := x.queue ++ [f] }) k {} = _ from getD_modAt hk]
  exact List.mem_append_right _ (List.mem_singleton.mpr rfl)
theorem Waits.mesh {n typ seq : Nat} {m : MBody} {s u w : State} (h : Waits n typ seq m s u) (e : w.mesh = u.mesh) : Waits n typ seq m s w := by
  obtain ⟨k, h⟩ := h
  exact ⟨k, fun a f hf hk => by rw [e]; exact h a f hf hk⟩
theorem Waits.told {n typ seq : Nat} {m : MBody} {s u : State} {l : List (Nat × Nat)} {a b : Nat} (h : Waits n typ seq m s u) : Waits n typ seq m s (noteSets l (finish a b u)) :=
  h.mesh (by rw [noteSets_mesh, finish_mesh])
theorem told_conv {n : Nat} {z : State} {l : List (Nat × Nat)} {a b : Nat} : (noteSets l (finish a b z)).conv n = z.conv n := by unfold conv; rw [noteSets_mesh, finish_mesh]
/-- One frame handed to several outputs. -/
theorem eachPut_eq {F : MFrame} (k : meshClass F.hdr.typ ≠ 1) : ∀ (l : List Nat) (z : State), ∃ q, each l (fun p => portPut p F) z = { z with mesh := { z.mesh with ports := q } } ∧ q.length = z.mesh.ports.length ∧
    (∀ p, (at' q p {}).up = (at' z.mesh.ports p {}).up) ∧
    (∀ p, p ∈ l → p < z.mesh.ports.length → F ∈ (at' q p {}).queue) ∧ (∀ p f, f ∈ (at' z.mesh.ports p {}).queue → f ∈ (at' q p {}).queue) ∧
    (l.Nodup → ∀ p ∈ l, p < z.mesh.ports.length → (at' q p {}).queue = (at' z.mesh.ports p {}).queue ++ [F]) ∧
    ∀ p, p ∉ l → (at' q p {}).queue = (at' z.mesh.ports p {}).queue := by
  intro l
  induction l with
  | nil => exact fun z => ⟨z.mesh.ports, rfl, rfl, fun _ => rfl, fun p h => absurd h List.not_mem_nil, fun _ _ h => h, fun _ p h => absurd h List.not_mem_nil, fun p _ => rfl⟩
  | cons a l ih =>
    intro z
    obtain ⟨q, e, hl, hu, hm, hk, hn, ho⟩ := ih (z.onMesh fun m => { m with ports := modAt m.ports a fun x => { x with queue := x.queue ++ [F] } })
    have ha : a < z.mesh.ports.length → (at' (modAt z.mesh.ports a fun x => { x with queue := x.queue ++ [F] }) a {}).queue = (at' z.mesh.ports a {}).queue ++ [F] := fun h => by
      rw [show at' (modAt z.mesh.ports a fun x => { x with queue := x.queue ++ [F] }) a {} = _ from getD_modAt h]
    have hb : ∀ p, a ≠ p → at' (modAt z.mesh.ports a fun x => { x with queue := x.queue ++ [F] }) p {} = at' z.mesh.ports p {} := fun p h => getD_modAt_ne h
    have hlen : (modAt z.mesh.ports a fun x => { x with queue := x.queue ++ [F] }).length = z.mesh.ports.length := modAt_length
    refine ⟨q, ?_, hl.trans hlen, fun p => (hu p).trans ?_, fun p hp hlt => ?_, fun p f hf => hk p f (at_modAt_mem hf), fun hnd p hp hlt => ?_, fun p hp => ?_⟩
    · show each l _ (portPut a F z) = _
      rw [portPut_waits k]
      exact e
    · show (at' (modAt z.mesh.ports a _) p {}).up = _
      by_cases h : a = p
      · subst h
        by_cases hlt : a < z.mesh.ports.length
        · rw [show at' (modAt z.mesh.ports a fun x => { x with queue := x.queue ++ [F] }) a {} = _ from getD_modAt hlt]
        · rw [show modAt z.mesh.ports a (fun x : PortS => { x with queue := x.queue ++ [F] }) = z.mesh.ports from by unfold modAt; exact List.modify_eq_self (Nat.not_lt.mp hlt)]
      · rw [hb p h]
    · by_cases h : p ∈ l
      · exact hm p h (by rw [show (z.onMesh fun m => { m with ports := modAt m.ports a fun x => { x with queue := x.queue ++ [F] } }).mesh.ports.length = z.mesh.ports.length from hlen]; exact hlt)
      · have : p = a := (List.mem_cons.mp hp).resolve_right h
        subst this
        refine hk p F ?_
        show F ∈ (at' (modAt z.mesh.ports p _) p {}).queue
        rw [ha hlt]
        exact List.mem_append_right _ (List.mem_singleton.mpr rfl)
    · rw [List.nodup_cons] at hnd
      rcases List.mem_cons.mp hp with h | h
      · subst h
        rw [ho p hnd.1]
        exact ha hlt
      · rw [hn hnd.2 p h (by rw [show (z.onMesh fun m => { m with ports := modAt m.ports a fun x => { x with queue := x.queue ++ [F] } }).mesh.ports.length = z.mesh.ports.length from hlen]; exact hlt)]
        show (at' (modAt z.mesh.ports a _) p {}).queue ++ [F] = _
        rw [hb p (fun e => hnd.1 (e ▸ h))]
    · rw [List.mem_cons] at hp
      rw [ho p fun h => hp (.inr h)]
      show (at' (modAt z.mesh.ports a _) p {}).queue = _
      rw [hb p fun h => hp (.inl h.symm)]
theorem mesh_frame {z : State} {m : Mesh} : Frame 8388608 z { z with mesh := m } := by
  show Frame _ _ (z.onMesh fun _ => m)
  simp
theorem heard_conv {n : Nat} {z : State} (h : n < z.mesh.convs.length) : (z.heard n).conv n = { z.conv n with heardAt := z.now } := conv_onConv (s := z) (f := fun c => { c with heardAt := z.now }) h
theorem heard_length {n : Nat} {z : State} : (z.heard n).mesh.convs.length = z.mesh.convs.length := modAt_length
theorem heard_way {n c : Nat} {z : State} : SameWay n z (z.heard c) := onConv_way fun _ => rfl
theorem heard_mesh {n : Nat} {z : State} : Frame 8388608 z (z.heard n) := by unfold heard; simp
theorem dataSend_frame' {n : Nat} {i : Item} {z : State} : Frame 8388620 z (z.dataSend n i) := by unfold dataSend; simp
theorem dataSend_conv {n : Nat} {i : Item} {z : State} (h : n < z.mesh.convs.length) : (z.dataSend n i).conv n = { z.conv n with
    seq := ((z.conv n).seq + 1) % M32, out := (z.conv n).out ++ [{ seq := (z.conv n).seq, item := i, at_ := z.now }], sentAt := z.now } := by
  unfold dataSend
  simp only []
  rw [meshSend_conv (by decide), conv_onConv h]
theorem dataSend_waits {n : Nat} {i : Item} {b z : State} (h : SameWay n b z) : Waits n 1 (z.conv n).seq (.item i) b (z.dataSend n i) := by
  unfold dataSend
  exact meshSend_waits (by decide) (h.trans (onConv_way fun _ => rfl))
theorem dataAcked_none {n q : Nat} {z : State} (h : (z.conv n).out.find? (·.seq == q) = none) : z.dataAcked n q = z := by
  unfold dataAcked
  simp only [h]
/-- A conversation with an acknowledged frame gone. -/
def ackedOut (n q r : Nat) (z : State) : State := z.onConv n fun c => { c with out := c.out.filter (·.seq != q), rtt := r }
theorem ackedOut_conv {n q r : Nat} {z : State} (h : n < z.mesh.convs.length) : (ackedOut n q r z).conv n = { z.conv n with out := (z.conv n).out.filter (·.seq != q), rtt := r } := conv_onConv h
theorem ackedOut_length {n q r : Nat} {z : State} : (ackedOut n q r z).mesh.convs.length = z.mesh.convs.length := modAt_length
theorem ackedOut_way {n c q r : Nat} {z : State} : SameWay n z (ackedOut c q r z) := onConv_way fun _ => rfl
theorem dataAcked_last {n q : Nat} {z : State} {f : DFrame} (hl : n < z.mesh.convs.length) (h : (z.conv n).out.find? (·.seq == q) = some f) (k : (z.conv n).queue = []) :
    z.dataAcked n q = ackedOut n q ((z.now - f.at_) * 5 / 64) z := by
  unfold dataAcked
  simp only [h]
  have e := ackedOut_conv (q := q) (r := (z.now - f.at_) * 5 / 64) hl
  unfold ackedOut at e ⊢
  rw [e]
  simp only [k]
theorem dataAcked_next {n q : Nat} {z : State} {f : DFrame} {i : Item} {l : List Item} (hl : n < z.mesh.convs.length) (h : (z.conv n).out.find? (·.seq == q) = some f) (k : (z.conv n).queue = i :: l) :
    z.dataAcked n q = dataSend n i ((ackedOut n q ((z.now - f.at_) * 5 / 64) z).onConv n fun c => { c with queue := l }) := by
  unfold dataAcked
  simp only [h]
  have e := ackedOut_conv (q := q) (r := (z.now - f.at_) * 5 / 64) hl
  unfold ackedOut at e ⊢
  rw [e]
  simp only [k]
/-- What an acknowledgement brings, once its conversation is in its epoch. -/
theorem acked_next {n q : Nat} {z : State} {f : DFrame} {i : Item} {l : List Item} (hl : n < z.mesh.convs.length) (h : (z.conv n).out.find? (·.seq == q) = some f) (k : (z.conv n).queue = i :: l) :
    ((z.dataAcked n q).conv n).queue = l ∧ Waits n 1 (z.conv n).seq (.item i) z (z.dataAcked n q) := by
  rw [dataAcked_next hl h k]
  generalize hr : (z.now - f.at_) * 5 / 64 = r
  have hl1 : n < (ackedOut n q r z).mesh.convs.length := by rw [ackedOut_length]; exact hl
  have e : ((ackedOut n q r z).onConv n fun c => { c with queue := l }).conv n = _ := conv_onConv hl1
  rw [ackedOut_conv hl] at e
  have w : SameWay n z ((ackedOut n q r z).onConv n fun c => { c with queue := l }) := ackedOut_way.trans (onConv_way fun _ => rfl)
  have hl2 : n < ((ackedOut n q r z).onConv n fun c => { c with queue := l }).mesh.convs.length := Nat.lt_of_lt_of_eq hl1 modAt_length.symm
  generalize ((ackedOut n q r z).onConv n fun c => { c with queue := l }) = y at *
  refine ⟨by rw [dataSend_conv hl2, e], ?_⟩
  have := dataSend_waits (i := i) w
  rw [e] at this
  exact this
theorem dataAcked_frame' {n q : Nat} {z : State} : Frame 8388620 z (z.dataAcked n q) := by
  unfold dataAcked
  split
  · simp
  · simp only []
    split
    · simp
    · exact Frame.trans (by simp) dataSend_frame'
theorem Waits.from {n typ seq : Nat} {m : MBody} {s v u : State} (h : Waits n typ seq m v u) (e : SameWay n s v) : Waits n typ seq m s u := by
  obtain ⟨k, h⟩ := h
  refine ⟨k, fun a f hf hk => h a f ?_ ?_⟩
  · rw [e.1]; exact hf
  · rw [e.2]; exact hk
/-- The state a frame of a known epoch is acted on in. -/
def inEpoch (n e : Nat) (z : State) : State := z.onConv n fun c => { c with epoch := some e }
theorem inEpoch_conv {n e : Nat} {z : State} (h : n < z.mesh.convs.length) : (inEpoch n e z).conv n = { z.conv n with epoch := some e } := conv_onConv h
theorem inEpoch_length {n e : Nat} {z : State} : (inEpoch n e z).mesh.convs.length = z.mesh.convs.length := modAt_length
theorem inEpoch_way {n c e : Nat} {z : State} : SameWay n z (inEpoch c e z) := onConv_way fun _ => rfl
theorem inEpoch_frame {n e : Nat} {z : State} : Frame 8388608 z (inEpoch n e z) := by unfold inEpoch; simp
theorem InEpoch.goesIn {n e : Nat} {z : State} (h : InEpoch n e z) (k : State → State) : meshEpoch n e k z = k (inEpoch n e z) := h.goes k
/-- A conversation just heard in its epoch. -/
theorem InEpoch.heardConv {n e : Nat} {z : State} (h : InEpoch n e z) : ((inEpoch n e z).heard n).conv n = { z.conv n with epoch := some e, heardAt := z.now } := by
  have := heard_conv (z := inEpoch n e z) (by rw [inEpoch_length]; exact h.known.2)
  rw [this, inEpoch_conv h.known.2]
  rfl
theorem InEpoch.heardLen {n e : Nat} {z : State} (h : InEpoch n e z) : n < ((inEpoch n e z).heard n).mesh.convs.length := by
  rw [heard_length, inEpoch_length]
  exact h.known.2
theorem heardIn_way {n e : Nat} {z : State} : SameWay n z ((inEpoch n e z).heard n) := inEpoch_way.trans heard_way
theorem heardIn_frame {n e : Nat} {z : State} : Frame 8388608 z ((inEpoch n e z).heard n) := inEpoch_frame.trans heard_mesh
/-- A later epoch takes a conversation that is UP through LOST to UP. -/
def renewed (n e : Nat) (z : State) : State := (((z.convLost n (z.freeWord.toNat % 256)).drawn).convRise n).onConv n fun c => { c with epoch := some e }
theorem renewed_goes {n e e0 : Nat} {z : State} (h1 : (z.conv n).epoch = some e0) (h2 : e ≠ e0) (h3 : later 16 e e0 = true) (h4 : z.convUp n = true) (h5 : n ≠ z.nodeId) (h6 : n < 64) (k : State → State) :
    meshEpoch n e k z = k (renewed n e z) := by
  unfold meshEpoch
  rw [if_neg (by omega)]
  simp only [h1, h2, h3, h4, if_false, if_true]
  rfl
theorem renewed_conv {n e : Nat} {z : State} (h : n < z.mesh.convs.length) : ((renewed n e z).conv n).st = 1 ∧ ((renewed n e z).conv n).epoch = some e ∧ ((renewed n e z).conv n).seq = 0 ∧
    ((renewed n e z).conv n).exp = 0 ∧ ((renewed n e z).conv n).out = [] ∧ n < (renewed n e z).mesh.convs.length := by
  unfold renewed
  have h0 : n < (z.convLost n (z.freeWord.toNat % 256)).drawn.mesh.convs.length := by
    exact Nat.lt_of_lt_of_eq h (convLost_length (n := n) (c := z.freeWord.toNat % 256) (z := z)).symm
  generalize (z.convLost n (z.freeWord.toNat % 256)).drawn = y at *
  have h1 := conv_at (w := y.convRise n) convRise_convs h0
  have h2 : n < (y.convRise n).mesh.convs.length := by
    rw [convRise_convs, modAt_length]
    exact h0
  rw [conv_onConv h2, h1]
  exact ⟨rfl, rfl, rfl, rfl, rfl, Nat.lt_of_lt_of_eq h2 modAt_length.symm⟩
theorem renewed_frame {n e : Nat} {z : State} : Frame 25298445 z (renewed n e z) := by unfold renewed; simp
theorem sendAgain_conv {n : Nat} {l : List DFrame} {z : State} (h : n < z.mesh.convs.length) : ((sendAgain n l z).conv n).retry = sat32 (z.conv n).retry l.length := by
  unfold sendAgain
  simp only []
  have hk : ∀ (l : List DFrame) (y : State), (each l (fun f s => s.meshSend n 1 f.seq (.item f.item)) y).conv n = y.conv n := fun l => by
    induction l with
    | nil => exact fun y => rfl
    | cons a l ih => exact fun y => (ih _).trans (meshSend_conv (by decide))
  rw [hk, conv_onConv h]
theorem sendAgain_waits {n : Nat} {l : List DFrame} {z : State} {f : DFrame} (h : f ∈ l) : Waits n 1 f.seq (.item f.item) z (sendAgain n l z) := by
  unfold sendAgain
  simp only []
  generalize hy : z.onConv n _ = y
  have w : SameWay n z y := by rw [← hy]; exact onConv_way fun _ => rfl
  refine each_sets (fun v => Waits n 1 f.seq (.item f.item) z v) l _ y f h (fun v => SameWay n z v) w (fun b v k => k.trans (meshSend_way (by decide))) (fun v k => meshSend_waits (by decide) k) fun b v k q => ?_
  obtain ⟨c, q⟩ := q
  exact ⟨c, fun a g hg ha => meshSend_kept (by decide) (q a g hg ha)⟩
theorem SameWay.refl {n : Nat} {z : State} : SameWay n z z := ⟨fun _ _ _ _ => rfl, rfl⟩
theorem sent_waits {n : Nat} {i : Item} {z : State} : Waits n 1 (z.conv n).seq (.item i) z (z.dataSend n i) := dataSend_waits .refl
theorem wholeTicks_free {a d : Int} {z : State} : Frame 8 z (wholeTicks a d z).2 := by
  unfold wholeTicks
  split <;> simp
theorem meshTime_only {p : Nat} {k : Int} {z : State} : Frame 8388751 z (meshTime p k z) := by simp
theorem meshTime_runs {p : Nat} {k : Int} {z : State} : (meshTime p k z).mesh.okRun = (if k.natAbs ≤ 384 then z.mesh.okRun + 1 else 0) ∧
    (meshTime p k z).mesh.badRun = (if k.natAbs ≤ 384 then 0 else z.mesh.badRun + 1) ∧
    (meshTime p k z).mesh.timeOk = (if z.mesh.timeOk then decide ((meshTime p k z).mesh.badRun < 2) else decide (8 ≤ (meshTime p k z).mesh.okRun)) ∧
    (k % 32 = 0 → (meshTime p k z).mesh.timeErr = k / 32) := by
  obtain ⟨v, hm, e⟩ : ∃ v : State, (v.mesh.okRun = z.mesh.okRun ∧ v.mesh.badRun = z.mesh.badRun ∧ v.mesh.timeOk = z.mesh.timeOk) ∧ meshTime p k z = v.onMesh fun m =>
      let okRun := if decide (k.natAbs ≤ 12 * 32) then m.okRun + 1 else 0
      let badRun := if decide (k.natAbs ≤ 12 * 32) then 0 else m.badRun + 1
      let q := if m.timeOk then decide (badRun < 2) else decide (8 ≤ okRun)
      { m with timeErr := (z.wholeTicks k 32).1, okRun := okRun, badRun := badRun, timeOk := q, evt := if m.timeOk && !q then setBit m.evt 2 else m.evt } := by
    refine ⟨_, ?_, rfl⟩
    have fw : Frame 8 z (wholeTicks k 32 z).2 := wholeTicks_free
    rw [← fw.keeps .mesh rfl]
    split
    · exact ⟨rfl, rfl, rfl⟩
    · split
      · exact ⟨rfl, rfl, rfl⟩
      · split
        · unfold steer slewStart slewStop
          split <;> exact ⟨rfl, rfl, rfl⟩
        · exact ⟨rfl, rfl, rfl⟩
  rw [e, ← hm.1, ← hm.2.1, ← hm.2.2]
  have ec : ∀ {α : Type} (a b : α), (if decide (k.natAbs ≤ 12 * 32) = true then a else b) = if k.natAbs ≤ 384 then a else b := fun a b => by simp only [decide_eq_true_eq]
  refine ⟨ec _ _, ec _ _, rfl, fun e => ?_⟩
  show (wholeTicks k 32 z).1 = _
  unfold wholeTicks
  rw [if_pos e]
theorem portUp_of {p : Nat} {z w : State} (h : w.lane = z.lane) : w.portUp p = z.portUp p := by
  unfold portUp ln
  simp only [h]
theorem bcastPorts_of {n : Nat} {z w : State} (h1 : w.img = z.img) (h2 : w.mesh.down = z.mesh.down) (h3 : w.lane = z.lane) : w.bcastPorts n = z.bcastPorts n := by
  have e1 : w.meshDesc = z.meshDesc := by unfold meshDesc ownDesc inForce; rw [h1]
  have e2 : w.cfg = z.cfg := by unfold cfg; rw [h1]
  have e3 : w.portSends = z.portSends := funext fun p => by
    unfold portSends
    rw [portUp_of h3]
    unfold ln
    rw [h3]
  unfold bcastPorts
  rw [e1, e2, e3, h2]
theorem routePort_of {n : Nat} {z w : State} (h1 : w.img = z.img) (h2 : w.mesh.down = z.mesh.down) : w.routePort n = z.routePort n := by
  have e1 : w.meshDesc = z.meshDesc := by unfold meshDesc ownDesc inForce; rw [h1]
  unfold routePort
  rw [e1, h2]
theorem senderKept_frame {x : PortRx} {h : MHdr} {take : MHdr → Bytes → State → State} {p : Bytes} {z : State} : ∃ y, frameTake x.port take h p z = take { h with src := z.senderOf x.port h } p y ∧
    Frame 8388608 z y ∧ y.mesh.ports = z.mesh.ports ∧ y.mesh.down = z.mesh.down := by
  refine ⟨_, rfl, ?_⟩
  split
  · exact ⟨by simp, rfl, rfl⟩
  · exact ⟨by simp, rfl, rfl⟩
/-- A frame taken and then passed on by broadcast. -/
theorem eachRelay {h : MHdr} {p : Bytes} {f : Nat → MHdr} (k : ∀ o, meshClass (f o).typ ≠ 1) : ∀ (l : List Nat) (z : State), ∃ q,
    each l (fun o => State.relay o h (f o) p (meshCrc h p)) z = { z with mesh := { z.mesh with ports := q } } ∧ q.length = z.mesh.ports.length ∧
    (∀ o g, g ∈ (at' z.mesh.ports o {}).queue → g ∈ (at' q o {}).queue) ∧
    ∀ o ∈ l, o < z.mesh.ports.length → { hdr := f o, body := .relay p (meshCrc (f o) p) : MFrame } ∈ (at' q o {}).queue := by
  intro l
  induction l with
  | nil => exact fun z => ⟨z.mesh.ports, rfl, rfl, fun _ _ h => h, fun o h => absurd h List.not_mem_nil⟩
  | cons a l ih =>
    intro z
    obtain ⟨q, e, hl, hk, hm⟩ := ih (z.onMesh fun m => { m with ports := modAt m.ports a fun x => { x with queue := x.queue ++ [{ hdr := f a, body := .relay p (meshCrc (f a) p) }] } })
    have hlen : (modAt z.mesh.ports a fun x => { x with queue := x.queue ++ [{ hdr := f a, body := .relay p (meshCrc (f a) p) }] }).length = z.mesh.ports.length := modAt_length
    refine ⟨q, ?_, hl.trans hlen, fun o g hg => hk o g (at_modAt_mem hg), fun o ho hlt => ?_⟩
    · show each l _ (State.relay a h (f a) p (meshCrc h p) z) = _
      have er : State.relay a h (f a) p (meshCrc h p) z = z.onMesh fun m => { m with ports := modAt m.ports a fun x => { x with queue := x.queue ++ [{ hdr := f a, body := .relay p (meshCrc (f a) p) }] } } := by
        unfold State.relay
        rw [portPut_waits (k a), Nat.xor_self, Nat.zero_xor]
      rw [er]
      exact e
    · by_cases hh : o ∈ l
      · exact hm o hh (Nat.lt_of_lt_of_eq hlt hlen.symm)
      · have : o = a := (List.mem_cons.mp ho).resolve_right hh
        subst this
        refine hk o _ ?_
        show _ ∈ (at' (modAt z.mesh.ports o _) o {}).queue
        rw [show at' (modAt z.mesh.ports o fun x => { x with queue := x.queue ++ [{ hdr := f o, body := .relay p (meshCrc (f o) p) }] }) o {} = _ from getD_modAt hlt]
        exact List.mem_append_right _ (List.mem_singleton.mpr rfl)
theorem lossTake_soft {z : State} (h : z.host.loss ≠ 2) : Frame 787464 z z.lossTake ∧ z.lossTake.mode.loss = true ∧ z.lossTake.mode.lossPol = z.host.loss ∧ z.lossTake.modeQ.lossSched = z.modeQ.lossSched.filter (later 32 · z.per) ∧ z.lossTake.mode.mode = z.mode.mode := by
  unfold lossTake
  simp only [if_neg h]
  have key : ∀ (y : State) (l : List Nat), Frame 787456 z y → y.mode.loss = true → y.mode.lossPol = z.host.loss → y.mode.mode = z.mode.mode →
      y.modeQ.lossSched = z.modeQ.lossSched.filter (later 32 · z.per) → Frame 787464 z (each l (fun k s => s.spCmd k (if z.host.loss = 1 then (at' s.host.lossSp k none).getD (restVal (s.spDecl k) (at' s.mode.sps k {})) else restVal (s.spDecl k) (at' s.mode.sps k {}))) y) ∧
      (each l (fun k s => s.spCmd k (if z.host.loss = 1 then (at' s.host.lossSp k none).getD (restVal (s.spDecl k) (at' s.mode.sps k {})) else restVal (s.spDecl k) (at' s.mode.sps k {}))) y).mode.loss = true ∧ (each l (fun k s => s.spCmd k (if z.host.loss = 1 then (at' s.host.lossSp k none).getD (restVal (s.spDecl k) (at' s.mode.sps k {})) else restVal (s.spDecl k) (at' s.mode.sps k {}))) y).mode.lossPol = z.host.loss ∧
      (each l (fun k s => s.spCmd k (if z.host.loss = 1 then (at' s.host.lossSp k none).getD (restVal (s.spDecl k) (at' s.mode.sps k {})) else restVal (s.spDecl k) (at' s.mode.sps k {}))) y).modeQ.lossSched = z.modeQ.lossSched.filter (later 32 · z.per) ∧ (each l (fun k s => s.spCmd k (if z.host.loss = 1 then (at' s.host.lossSp k none).getD (restVal (s.spDecl k) (at' s.mode.sps k {})) else restVal (s.spDecl k) (at' s.mode.sps k {}))) y).mode.mode = z.mode.mode := by
    intro y l fy k1 k2 k3 k4
    have fw : Frame 262144 y (each l (fun k s => s.spCmd k (if z.host.loss = 1 then (at' s.host.lossSp k none).getD (restVal (s.spDecl k) (at' s.mode.sps k {})) else restVal (s.spDecl k) (at' s.mode.sps k {}))) y) := by simp [↓Frame.ite]
    have fs : SpsOnly y (each l (fun k s => s.spCmd k (if z.host.loss = 1 then (at' s.host.lossSp k none).getD (restVal (s.spDecl k) (at' s.mode.sps k {})) else restVal (s.spDecl k) (at' s.mode.sps k {}))) y) := SpsOnly.each (f := (fun k s => s.spCmd k (if z.host.loss = 1 then (at' s.host.lossSp k none).getD (restVal (s.spDecl k) (at' s.mode.sps k {})) else restVal (s.spDecl k) (at' s.mode.sps k {})))) (fun _ _ => rfl) _
    refine ⟨(fy.widen rfl).trans (fw.widen rfl), ?_⟩
    rw [fs, fw.keeps .modeQ rfl]
    exact ⟨k1, k2, k4, k3⟩
  exact key _ _ (by simp) (by simp) (by simp) (by simp) (by simp)
theorem ovlBegin_ovl {m g : Nat} {z : State} : (ovlBegin m g z).modeQ.ovl = z.modeQ.ovl ||| m := by
  unfold ovlBegin
  simp only []
  split
  · have f : ∀ y : State, y.synthBegin.modeQ = y.modeQ := fun y => (by simp : Frame 2109440 y y.synthBegin).keeps .modeQ rfl
    rw [f]
    rfl
  · rfl
theorem decided {t : Nat} {c : State → Bool} {f : State → State} {s : State} (h : (s.begin t).decides = true) (hc : c (s.begin t) = true) :
    ∃ u, s.decision t c f = .next u ∧ u.mode = (f (s.begin t)).mode := by
  refine ⟨_, rfl, ?_⟩
  rw [runIf_goes (by rw [h, hc]; rfl)]
  rw [noteSets_mode, finish_mode, modeWords_mode]
theorem lowest_foldl : ∀ (l : List (Nat × Nat)) (c : Nat × Nat), Lowest (c :: l) (l.foldl (fun b y => if y.1 < b.1 then y else b) c)
  | [], c => ⟨List.mem_singleton.mpr rfl, fun d hd => by rw [List.mem_singleton.mp hd]; exact Nat.le_refl _⟩
  | y :: l, c => by
    obtain ⟨h1, h2⟩ := lowest_foldl l (if y.1 < c.1 then y else c)
    have h3 := h2 _ List.mem_cons_self
    refine ⟨?_, ?_⟩
    · rcases List.mem_cons.mp h1 with h | h
      · rw [List.foldl_cons, h]
        split
        · exact List.mem_cons_of_mem _ List.mem_cons_self
        · exact List.mem_cons_self
      · exact List.mem_cons_of_mem _ (List.mem_cons_of_mem _ h)
    · intro d hd
      rw [List.foldl_cons]
      rcases List.mem_cons.mp hd with rfl | hd
      · split at h3 <;> rename_i g <;> simp only [g, if_true, if_false] <;> omega
      rcases List.mem_cons.mp hd with rfl | hd
      · split at h3 <;> rename_i g <;> simp only [g, if_true, if_false] <;> omega
      exact h2 d (List.mem_cons_of_mem _ hd)
theorem foldl_stays {c : Nat × Nat} : ∀ (l : List (Nat × Nat)), (∀ y ∈ l, c.1 ≤ y.1) → l.foldl (fun b y => if y.1 < b.1 then y else b) c = c
  | [], _ => rfl
  | y :: l, h => by
    rw [List.foldl_cons, if_neg (Nat.not_lt.mpr (h y List.mem_cons_self))]
    exact foldl_stays l fun z hz => h z (List.mem_cons_of_mem _ hz)
theorem rowCauses_ge {z : State} : ∀ y ∈ z.rowCauses, 10 ≤ y.1 := by
  unfold rowCauses
  intro y hy
  simp only [List.mem_append, List.mem_map] at hy
  rcases hy with ((⟨x, -, rfl⟩ | hy) | hy) | hy
  · exact Nat.le_refl _
  all_goals
    split at hy
    · rw [List.mem_singleton.mp hy]
      decide
    · exact absurd hy List.not_mem_nil
/-- The lowest of the causes takes a run mode to SAFE (R451). -/
theorem enterLowest_run {c : Nat × Nat} {l : List (Nat × Nat)} {s : State} (h0 : s.mode.mode ≠ 0) (h8 : s.mode.mode ≠ 8) (hc : s.activeCovered = false) :
    Lowest (c :: l) (l.foldl (fun b y => if y.1 < b.1 then y else b) c) ∧
    (s.enterLowest (c :: l)).mode.mode = 8 ∧ (s.enterLowest (c :: l)).mode.reason = (l.foldl (fun b y => if y.1 < b.1 then y else b) c).1 ∧
    (s.enterLowest (c :: l)).mode.index = (l.foldl (fun b y => if y.1 < b.1 then y else b) c).2 ∧ (s.enterLowest (c :: l)).mode.safeAt = s.now := by
  refine ⟨lowest_foldl l c, ?_⟩
  unfold enterLowest
  simp only []
  generalize l.foldl (fun b y => if y.1 < b.1 then y else b) c = x
  have key : ∀ y : State, y.mode.mode = s.mode.mode → y.activeCovered = s.activeCovered → y.now = s.now →
      (y.enterSafe x.1 x.2).mode.mode = 8 ∧ (y.enterSafe x.1 x.2).mode.reason = x.1 ∧ (y.enterSafe x.1 x.2).mode.index = x.2 ∧ (y.enterSafe x.1 x.2).mode.safeAt = s.now := by
    intro y k1 k2 k3
    obtain ⟨a, b, c, -, -, d⟩ := enterSafe_run (s := y) (r := x.1) (i := x.2) (by rw [k1]; exact h0) (by rw [k1]; exact h8) (by rw [k2]; exact hc)
    exact ⟨a, b, c, d.trans k3⟩
  split
  · exact key _ (by rfl) (by rfl) (by rfl)
  · exact key _ (by rfl) (by rfl) (by rfl)
theorem enterLowest_safe {x : Nat × Nat} {l : List (Nat × Nat)} {s u : State} (hx : x ∈ l) (h0 : s.mode.mode ≠ 0) (h8 : s.mode.mode ≠ 8) (hc : s.activeCovered = false)
    (hu : u.mode = (s.enterLowest l).mode) : SafeBy (x :: l) s.now u := by
  cases l with
  | nil => exact absurd hx List.not_mem_nil
  | cons c l =>
    obtain ⟨⟨a1, a2⟩, b⟩ := enterLowest_run (c := c) (l := l) h0 h8 hc
    refine ⟨_, ⟨List.mem_cons_of_mem _ a1, fun d hd => ?_⟩, by rw [hu]; exact b⟩
    rcases List.mem_cons.mp hd with rfl | hd
    · exact a2 _ hx
    · exact a2 _ hd
theorem enterSafe_fb {z : State} {r i : Nat} (h0 : z.mode.mode ≠ 0) (h8 : z.mode.mode ≠ 8) (hc : z.activeCovered = false) : (z.enterSafe r i).mode.fb = z.mode.fb := by
  unfold enterSafe
  simp only [h0, h8, hc, if_false, Bool.false_eq_true, and_false]
  have hq : (z.safeEvent r i).mode = z.mode := (by simp : Frame 131072 z (z.safeEvent r i)).keeps .mode rfl
  have hm := modeTo_all (m := 8) (own := true) (z := z.safeEvent r i) (by rw [hq]; exact h8)
  generalize hv : (z.safeEvent r i).modeTo 8 true = v at hm
  have hf : ∀ (w : State) (n : Nat), Frame 10661900 w (w.internalTrip.sendSymbol 9 n) := by intro w n; simp
  have he := fun n => (hf (v.onMode fun x => { x with reason := r, cls := causeClass r, index := i, inOff := false, safeAt := (z.safeEvent r i).now }) n).keeps .mode rfl
  simp only [Part.same] at he
  rw [he]
  show v.mode.fb = _
  rw [hm, hq]
/-- A critical input: SAFE with its own reason, none lower having a row (R443, R451). -/
theorem fbCritical_run {k w : Nat} {z : State} (h0 : z.mode.mode ≠ 0) (h8 : z.mode.mode ≠ 8) (hc : z.activeCovered = false) :
    (fbCritical k w z).mode.mode = 8 ∧ (fbCritical k w z).mode.reason = 10 ∧ (fbCritical k w z).mode.index = k * 512 + w ∧ (fbCritical k w z).mode.fb = z.mode.fb := by
  unfold fbCritical
  have e := foldl_stays (c := (10, k * 512 + w)) z.rowCauses rowCauses_ge
  obtain ⟨-, a, b, c, -⟩ := enterLowest_run (c := (10, k * 512 + w)) (l := z.rowCauses) h0 h8 hc
  rw [e] at b c
  refine ⟨a, b, c, ?_⟩
  unfold enterLowest
  simp only [e, if_true]
  exact (enterSafe_fb (by exact h0) (by exact h8) (by exact hc)).trans rfl
theorem fbTake_trip {k w : Nat} {z : State} (h : ∀ y ∈ z.mode.fb, y.onAlt = false) (hc : 1 < (z.inputDecl k w).cls) (m0 : z.mode.mode ≠ 0) (m8 : z.mode.mode ≠ 8) (ha : z.activeCovered = false) :
    fbTake k w z = fbCritical k w (fbMark k w z) := by
  unfold fbTake
  simp only []
  rw [if_neg (by omega), if_neg (by omega)]
  have h2 : ∀ y ∈ (fbCritical k w (fbMark k w z)).mode.fb, y.onAlt = false := by
    rw [(fbCritical_run (k := k) (w := w) (z := fbMark k w z) m0 m8 ha).2.2.2]
    exact fbMark_alt h
  have := noAlt (k := k) (p := fun x => ((fbCritical k w (fbMark k w z)).inputDecl k x.word).alt == w) h2
  unfold fbMark at this
  rw [this]
  rfl
theorem rowCauses_late {z : State} (h : (z.p1Late || z.p2Late) = true) : (16, 0) ∈ z.rowCauses := by
  unfold rowCauses
  rw [if_pos h]
  simp only [List.mem_append, List.mem_singleton, or_true]
theorem rowCauses_coast {z : State} (h : z.coastLate = true) : (14, 0) ∈ z.rowCauses := by
  unfold rowCauses
  rw [if_pos h]
  simp only [List.mem_append, List.mem_singleton, or_true, true_or]
theorem rowCauses_over {z : State} (h : z.overloaded = true) : (15, 0) ∈ z.rowCauses := by
  unfold rowCauses
  simp only [if_pos h, List.mem_append, List.mem_singleton, or_true, true_or]
theorem enterSafe_own {r i : Nat} {s : State} (h0 : s.mode.mode ≠ 0) (h8 : s.mode.mode ≠ 8) (hc : s.activeCovered = false) : Frame 12564620 s (s.enterSafe r i) := by
  unfold enterSafe
  simp only [h0, h8, hc, if_false, Bool.false_eq_true, and_false]
  simp
theorem enterLowest_own {l : List (Nat × Nat)} {s : State} (h0 : s.mode.mode ≠ 0) (h8 : s.mode.mode ≠ 8) (hc : s.activeCovered = false) : Frame 12564620 s (s.enterLowest l) := by
  unfold enterLowest
  cases l with
  | nil => simp
  | cons c l =>
    simp only []
    split
    · exact Frame.trans (by simp) (enterSafe_own (by exact h0) (by exact h8) (by exact hc))
    · exact enterSafe_own h0 h8 hc
/-- A row whose cause of SAFE holds at S(n): the lowest of the causes that have a row acts (R451). -/
theorem gives_lowest {i : Instr} {t : Nat} {x : Nat × Nat} {c : State → Bool} {s : State} (e : exec i s = s.decision t c fun s => s.enterLowest s.rowCauses)
    (hd : (begin t s).decides = true) (hc : c (begin t s) = true) (hx : x ∈ (begin t s).rowCauses) (h0 : (begin t s).mode.mode ≠ 0) (h8 : (begin t s).mode.mode ≠ 8)
    (ha : (begin t s).activeCovered = false) : Gives i s [.free, .clk, .lane, .seam, .edg, .bnc, .bal, .evs, .mode, .modeQ, .adc, .cmp, .mesh]
      (SafeBy (x :: (begin t s).rowCauses) (begin t s).now) := by
  refine gives_if (m := 12564620) e (and_tt hd hc) rfl ?_ rfl fun a p q => enterLowest_safe (l := (begin t s).rowCauses) hx h0 h8 ha ?_
  · exact (enterLowest_own (l := (begin t s).rowCauses) h0 h8 ha).trans (by simp)
  · rw [noteSets_mode, finish_mode, modeWords_mode]
theorem fbCritical_own {k w : Nat} {s : State} (h0 : s.mode.mode ≠ 0) (h8 : s.mode.mode ≠ 8) (hc : s.activeCovered = false) : Frame 12564620 s (s.fbCritical k w) := by
  unfold fbCritical
  exact enterLowest_own h0 h8 hc
/-- A position that is asked with the others: its query is open and has left (R249, R259). -/
theorem identAll {l : List Nat} {c : Nat} {v : State} (hm : c ∈ l) (h1 : v.maySend = true) (h3 : v.step9 = none) (h5 : (v.cell c).st = 0) (h6 : (v.talk c).ctrl = none)
    (h7 : (v.talk c).queue = []) (h8 : c < v.seam.talks.length) :
    Frame 4100 v (each l identQuery v) ∧ (each l identQuery v).seam.identAt = v.seam.identAt ∧ IdentAsked c v (each l identQuery v) := by
  unfold IdentAsked
  generalize hO : ({ op := 1, tag := ((v.talk c).tag + 1) % 256, arg := 0, data := [], why := 7, sends := 1, sentAt := v.now } : CtrlOp) = O
  have zQ : ∀ b z, Frame 4100 z (identQuery b z) ∧ (identQuery b z).seam.cells = z.seam.cells ∧ (identQuery b z).seam.epoch = z.seam.epoch ∧
      (identQuery b z).seam.talks.length = z.seam.talks.length ∧ (identQuery b z).seam.identAt = z.seam.identAt ∧ (∀ o ∈ z.out, o ∈ (identQuery b z).out) ∧
      (b ≠ c → (identQuery b z).talk c = z.talk c) := by
    intro b z
    refine ⟨by simp, ?_⟩
    unfold identQuery
    dsimp only
    split
    · exact ⟨rfl, rfl, rfl, rfl, fun _ h => h, fun _ => rfl⟩
    · exact ⟨sendCtrl_cells, sendCtrl_epoch, sendCtrl_talks, sendCtrl_identAt, fun _ h => mem_sendCtrl h, fun h => sendCtrl_talk_ne h⟩
  let Z : State → Prop := fun z => Frame 4100 v z ∧ z.seam.cells = v.seam.cells ∧ z.seam.epoch = v.seam.epoch ∧ z.seam.talks.length = v.seam.talks.length ∧ z.seam.identAt = v.seam.identAt
  let P : State → Prop := fun z => Z z ∧ (z.talk c).ctrl = some O ∧ (z.talk c).identTag = some (((v.talk c).tag + 1) % 256) ∧
        ∀ l ∈ v.seamTx (c / 8), Out.lane l (cellBlocks 3 c v.per v.seam.epoch (ctrlPay 1 (((v.talk c).tag + 1) % 256) 0 [])) ∈ z.out
  let I : State → Prop := fun z => Z z ∧ (z.talk c = v.talk c ∨ P z)
  have zZ : ∀ b z, Z z → Z (identQuery b z) := by
    rintro b z ⟨k1, k2, k3, k4, k5⟩
    obtain ⟨q1, q2, q3, q4, q5, -, -⟩ := zQ b z
    exact ⟨k1.trans q1, q2.trans k2, q3.trans k3, q4.trans k4, q5.trans k5⟩
  have zP : ∀ b z, P z → P (identQuery b z) := by
    rintro b z ⟨k1, k2, k3, k4⟩
    refine ⟨zZ b z k1, ?_⟩
    by_cases e : b = c
    · subst e
      have : identQuery b z = z := by
        unfold identQuery
        dsimp only
        rw [if_pos (by rw [k2, ← hO]; rfl)]
      rw [this]
      exact ⟨k2, k3, k4⟩
    · obtain ⟨-, -, -, -, -, q6, q7⟩ := zQ b z
      rw [q7 e]
      exact ⟨k2, k3, fun l hl => q6 _ (k4 l hl)⟩
  have zS : ∀ z, I z → P (identQuery c z) := by
    rintro z ⟨k, h | h⟩
    · obtain ⟨k1, k2, k3, k4, k5⟩ := k
      have e1 : z.maySend = true := by
        unfold maySend cfg
        rw [k1.keeps .modeQ rfl, k1.keeps .img rfl, k1.keeps .pair rfl]
        exact h1
      have e2 : z.step9 = none := by
        unfold step9
        rw [k1.keeps .img rfl]
        exact h3
      have e3 : (z.cell c).st = 0 := by
        have : z.cell c = v.cell c := by unfold cell; rw [k2]
        rw [this]
        exact h5
      have e4 : z.now = v.now := k1.keeps .now rfl
      have e5 : z.per = v.per := per_of (k1.keeps .now rfl) (k1.keeps .ofs rfl) (k1.keeps .clk rfl) (k1.keeps .img rfl)
      have e6 : z.seamTx (c / 8) = v.seamTx (c / 8) := by
        unfold seamTx ownsPath laneSends ln cfg
        rw [k1.keeps .lane rfl, k1.keeps .img rfl, k1.keeps .pair rfl]
      have hk : c < z.seam.talks.length := by rw [k4]; exact h8
      have key : identQuery c z = (onTalk c (fun t_1 => { t_1 with ctrl := some O, queue := [], sentNow := t_1.sentNow + 1 }) (z.onTalk c fun t_1 =>
          { t_1 with tag := ((v.talk c).tag + 1) % 256, identTag := some (((v.talk c).tag + 1) % 256), ident := none })).ctrlOut c { O with sends := 0, sentAt := 0 } := by
        unfold identQuery
        dsimp only
        rw [h, h6, h7, if_neg (by simp)]
        unfold sendCtrl
        rw [e1, e2, e3, if_neg (by simp)]
        dsimp only
        rw [h, h6, h7]
        unfold putCtrl
        rw [← hO, ← e4]
        rfl
      rw [key]
      refine ⟨⟨k1.trans (by simp), k2, k3, ?_, k5⟩, ?_, ?_, ?_⟩
      · show (onTalk c _ (onTalk c _ z)).seam.talks.length = _
        simpa using k4
      · rw [ctrlOut_talk, talk_onTalk (by simpa using hk)]
      · rw [ctrlOut_talk, talk_onTalk (by simpa using hk), talk_onTalk hk]
      · intro l hl
        refine List.mem_append_right _ (List.mem_map.mpr ⟨l, ?_, ?_⟩)
        · show l ∈ z.seamTx (c / 8)
          rw [e6]
          exact hl
        · show Out.lane l (cellBlocks 3 c z.per z.seam.epoch _) = _
          rw [e5, k3, ← hO]
    · exact zP c z h
  refine (fun hp : P _ => ⟨hp.1.1, hp.1.2.2.2.2, hp.2⟩) (each_sets P _ _ _ c hm I ?_ ?_ zS ?_)
  · exact ⟨⟨by simp, rfl, rfl, rfl, rfl⟩, .inl rfl⟩
  · rintro b z ⟨k, h | h⟩
    · by_cases e : b = c
      · subst e
        exact ⟨zZ b z k, .inr (zS z ⟨k, .inl h⟩)⟩
      · exact ⟨zZ b z k, .inl (((zQ b z).2.2.2.2.2.2 e).trans h)⟩
    · exact ⟨zZ b z k, .inr (zP b z h)⟩
  · exact fun b z _ h => zP b z h
theorem IdentAsked.told {c p q : Nat} {a : List (Nat × Nat)} {v w : State} (h : IdentAsked c v w) : IdentAsked c v (noteSets a (finish p q w)) := by
  obtain ⟨h1, h2, h3⟩ := h
  refine ⟨?_, ?_, fun l hl => mem_told (h3 l hl)⟩
  · rw [noteSets_talk, finish_talk]
    exact h1
  · rw [noteSets_talk, finish_talk]
    exact h2
/-- What a step under the lag does: its effect on the lagged clock's state, the clock as before. -/
theorem underLag_goes {f : State → State} {s : State} {m : Nat} (h : Frame m s.lagged (f s.lagged)) (k : m.testBit Part.ofs.num = false) : underLag f s = { f s.lagged with ofs := s.ofs } := by
  have ho : (f s.lagged).ofs = s.lagged.ofs := h.keeps .ofs k
  unfold underLag
  by_cases g : s.lag = 0
  · have e : s.lagged = s := by unfold lagged; rw [if_pos g]
    rw [if_pos g, e]
    rw [e] at ho
    rw [← ho]
  · rw [if_neg g]
/-- The clock of a member as it was, the rest of a state as it has become. -/
def unlag (o : Nat) (w : State) : State := { w with ofs := o }
theorem unlag_pair {o : Nat} {w : State} : (unlag o w).pair = w.pair := rfl
theorem unlag_mode {o : Nat} {w : State} : (unlag o w).mode = w.mode := rfl
theorem unlag_comp {o : Nat} {w : State} : (unlag o w).comp = w.comp := rfl
theorem unlag_seam {o : Nat} {w : State} : (unlag o w).seam = w.seam := rfl
theorem unlag_frame {s w : State} {m : Nat} (h : Frame m s.lagged w) : Frame m s { w with ofs := s.ofs } := by
  refine ⟨fun p q => ?_⟩
  by_cases hp : p = .ofs
  · subst hp; rfl
  · refine Part.same_trans (State.lagged_same s p hp) (Part.same_trans (h.keeps p q) ?_)
    cases p <;> first | rfl | exact absurd rfl hp
/-- A PAIR frame of the partner is acted on. -/
theorem FromPartner.isIn {x : PortRx} {h : MHdr} {p : Bytes} {s : State} {act : State → State} (hb : FromPartner x h p s) : pairIn x act s = act (s.brought x h p) := by
  unfold pairIn
  rw [if_pos hb.link]
  exact hb.toFrameFor.isIn hb.typ (by decide)
theorem FromPartner.frame {x : PortRx} {h : MHdr} {p : Bytes} {s : State} (hb : FromPartner x h p s) : Frame 8388608 s (s.brought x h p) := by
  unfold State.brought
  rw [hb.link]
  simp only [bne_self_eq_false, Bool.and_false, Bool.false_and, Bool.false_eq_true, if_false]
  split <;> simp
theorem dropFlight_pair {s : State} : s.dropFlight.pair = { s.pair with
    flight := []
    holding := false } := by
  unfold dropFlight
  refine (?_ : ∀ (l : List OpenCmd) (z : State), z.pair.flight = [] → (each l (fun o s => (s.openDrop o).jGone o.jidx) z).pair = z.pair) _ _ rfl
  intro l
  induction l with
  | nil => exact fun _ _ => rfl
  | cons o l ih =>
    intro z hz
    have e : ((z.openDrop o).jGone o.jidx).pair = z.pair := by
      show ({ z.pair with flight := z.pair.flight.map _ } : PairB) = z.pair
      rw [hz, List.map_nil, ← hz]
    exact (ih _ (by rw [e]; exact hz)).trans e
theorem fence_pair {c e : Nat} {s : State} : (fence c e s).pair = { s.pair with
    st := 6
    heartbeat := false
    mirror := false
    handover := none
    taking := false
    takeSafe := false
    syncOut := false
    flight := []
    holding := false
    evt := setBit s.pair.evt 3 } := by
  unfold fence
  extract_lets y
  refine ((by simp : Frame 2236448 y (event 0x0981 (le 1 c ++ le 1 0 ++ le 2 e) y.lpwmHiz)).keeps .pair rfl).trans ?_
  show ({ s.dropFlight.pair with st := 6, heartbeat := false, mirror := false, handover := none, taking := false, takeSafe := false, syncOut := false, evt := setBit s.dropFlight.pair.evt 3 } : PairB) = _
  rw [dropFlight_pair]
theorem fence_gpio {c e : Nat} {s : State} : (fence c e s).sys.gpioHiz = true := rfl
theorem holdCell_epoch {c : Nat} {z : State} : (holdCell c z).seam.epoch = z.seam.epoch := by
  unfold holdCell cellTo
  split
  · simp only []
    split <;> rfl
  · rfl
theorem edgeDrop_epoch {z : State} : z.edgeDrop.seam.epoch = z.seam.epoch := by
  unfold edgeDrop
  simp only []
  refine (each_val (fun z => z.seam.epoch) (z.comp.cells.map (·.1)) _ z ?_ : _)
  exact fun c y => holdCell_epoch
theorem compile_epoch {z : State} : (z.compile [] []).seam.epoch = z.seam.epoch := by
  unfold compile
  extract_lets p trip parts cells s1 s2 s3 s4 s5 s6
  have e : s6.seam = z.seam := (by simp [s6, s5, s4, s3, s2, s1] : Frame 24576 z s6).keeps .seam rfl
  split
  · exact edgeDrop_epoch.trans (congrArg SeamB.epoch e)
  · exact congrArg SeamB.epoch e
theorem claim_all {z : State} {c : Nat} : (z.claim c).pair.st = 4 ∧ (z.claim c).pair.heartbeat = true ∧ (z.claim c).pair.takePer = z.perPlus 1 ∧
    (z.claim c).seam.epoch = (z.seam.epoch + 1) % 65536 := by
  unfold claim
  extract_lets e m y1 y2 y3
  have p1 : y1.pair.st = 4 ∧ y1.pair.heartbeat = true := by
    simp only [y1]
    rw [epochTo_pair]
    exact ⟨rfl, rfl⟩
  have q1 : y1.seam.epoch = e % 65536 := epochTo_epoch
  have f2 : Frame 8398349 y1 y2 := by simp [y2]
  have p3 : y3.pair = { y2.pair with
      cmds := []
      takePer := m
      evt := setBit y2.pair.evt 4 } := by
    have k : (sessionsCarry y2.entriesCarry).pair = y2.entriesCarry.pair := rfl
    simp only [y3]
    rw [takeRecords_pair, k, entriesCarry_pair]
  have q3 : y3.seam = y2.seam := (by simp [y3] : Frame 16909824 y2 y3).keeps .seam rfl
  have fc : Frame 28680 y3 (y3.compile [] []) := by simp
  obtain ⟨c1, c2, c3⟩ := compile_refs (k := []) (z := y3)
  obtain ⟨cc, kc⟩ := heartbeat_some (o := y3) (z := y3.compile [] [])
  have fh : (heartbeat y3 (y3.compile [] [])).seam = (y3.compile [] []).seam := (by simp : Frame 16777220 (y3.compile [] []) (heartbeat y3 (y3.compile [] []))).keeps .seam rfl
  rw [kc, fh, fc.keeps .pair rfl, compile_epoch, q3, f2.keeps .seam rfl, q1, p3, f2.keeps .pair rfl]
  refine ⟨p1.1, p1.2, rfl, ?_⟩
  exact Nat.mod_eq_of_lt (Nat.mod_lt _ (by decide))
theorem handoverTake_down {z : State} (h : z.pair.st = 4) : Frame 25298444 z (handoverTake z) ∧ (handoverTake z).pair.st = 3 ∧ (handoverTake z).pair.mirror = false ∧
    (handoverTake z).pair.handover = none ∧ (handoverTake z).pair.health.testBit 62 = true ∧ (handoverTake z).pair.flight = [] := by
  unfold handoverTake
  extract_lets m y ep y1
  rw [if_neg (by rw [show y.pair.st = 4 from h]; decide)]
  obtain ⟨w, hw⟩ : ∃ w, w = y.dropFlight.heldOut := ⟨_, rfl⟩
  have fw : Frame 8389132 y.dropFlight w := by rw [hw]; simp
  have f1 : Frame 16778752 y y.dropFlight := by simp
  rw [← hw]
  obtain ⟨e, hd, k, kh⟩ := healthStep_pair (f := fun s => healthPut 62 true (onPair (fun p => { p with st := 3, mirror := false, got := p.sent, gotJnl := s.jnl.next }) s)) (s := w)
  obtain ⟨hh, l, k2, k3⟩ := healthPut_pair (b := 62) (v := true) (s := onPair (fun p => { p with st := 3, mirror := false, got := p.sent, gotJnl := w.jnl.next }) w)
  have wp : w.pair = { y.pair with
    flight := []
    holding := false } := (fw.keeps .pair rfl).trans dropFlight_pair
  refine ⟨?_, ?_⟩
  · exact Frame.trans (u := y) (by simp [y]) ((f1.widen rfl).trans ((fw.widen rfl).trans (by simp)))
  · rw [k]
    simp only [k2]
    exact ⟨rfl, rfl, kh (congrArg PairB.handover k2 |>.trans (congrArg PairB.handover wp)), k3, congrArg PairB.flight wp⟩
/-- A row that first lands what is due and then runs by the lagged clock (R619). -/
theorem lagRow {c : Instr} {t m : Nat} {cond : State → Bool} {g f : State → State} {s : State} {l : List Part} {F : State → Prop}
    (hr : exec c s = .next (runIf t cond (fun s => (g s).underLag f) s)) (hc : cond (begin t s) = true)
    (fr : Frame m (g (begin t s)).lagged (f (g (begin t s)).lagged)) (k0 : m.testBit Part.ofs.num = false)
    (k : m ||| maskOfParts (.now :: .out :: l) = maskOfParts (.now :: .out :: l))
    (h : ∀ a p q, F (noteSets a (finish p q (unlag (g (begin t s)).ofs (f (g (begin t s)).lagged))))) : ∃ u, exec c s = .next u ∧ Only l (g (begin t s)) u ∧ F u := by
  refine ⟨_, hr.trans (congrArg _ (runIf_goes hc)), ?_, ?_⟩
  · have k5 : 5 ||| maskOfParts (.now :: .out :: l) = maskOfParts (.now :: .out :: l) := Mask.sub (mask_append [.now, .out] l) rfl
    refine Frame.only (m := maskOfParts (.now :: .out :: l)) ?_ (Nat.or_self _)
    refine Eq.mpr (State.noteSets_frame (Mask.sub k5 rfl)) (Eq.mpr (State.finish_frame (Mask.sub k5 rfl)) ?_)
    rw [underLag_goes fr k0]
    exact (unlag_frame fr).widen k
  · rw [underLag_goes fr k0]
    exact h _ _ _
theorem lagGives {c : Instr} {t m : Nat} {cond : State → Bool} {f : State → State} {s : State} {l : List Part} {F : State → Prop}
    (hr : exec c s = .next (runIf t cond (underLag f) s)) (hc : cond (begin t s) = true)
    (fr : Frame m (begin t s).lagged (f (begin t s).lagged)) (k0 : m.testBit Part.ofs.num = false)
    (k : m ||| maskOfParts (.now :: .out :: l) = maskOfParts (.now :: .out :: l))
    (h : ∀ a p q, F (noteSets a (finish p q (unlag s.ofs (f (begin t s).lagged))))) : Gives c s l F :=
  gives_if hr hc (underLag_goes fr k0) (unlag_frame fr) k h
theorem benchesStart_keeps {z : State} : z.benchesStart.pair = z.pair ∧ z.benchesStart.mode = z.mode :=
  have f : Frame 32768 z z.benchesStart := by simp
  ⟨f.keeps .pair rfl, f.keeps .mode rfl⟩
/-- A healthy STANDBY whose partner has resigned claims at its compile, REFS whole or not (R629, R631). -/
theorem sb_resigned {z : State} {c : Nat} (hr : z.pair.resigned = some c) (hh : z.healthy = true) :
    ∃ w, Frame 16793600 z w ∧ w.pair.st = z.pair.st ∧ w.perPlus 1 = z.perPlus 1 ∧ standbyCompile z = w.claim 1 := by
  unfold standbyCompile
  extract_lets w0 miss y0
  have k : Frame 16793600 z y0 ∧ y0.pair.st = z.pair.st ∧ y0.perPlus 1 = z.perPlus 1 ∧ y0.pair.resigned = z.pair.resigned ∧ y0.healthy = z.healthy := by
    simp only [y0, miss]
    split
    · exact ⟨by simp, rfl, rfl, rfl, rfl⟩
    · exact ⟨by simp, rfl, rfl, rfl, rfl⟩
  obtain ⟨k1, k2, k3, k4, k5⟩ := k
  refine ⟨y0, k1, k2, k3, ?_⟩
  rw [k4, k5, hr, hh, Option.isSome_some, Bool.and_self, if_pos rfl]
theorem handoverTake_upFrame {z : State} (h : z.pair.st = 3) : Frame 25302532 z (handoverTake z) := by
  unfold handoverTake
  extract_lets m y ep y1
  rw [if_pos (show y.pair.st = 3 from h)]
  simp [y1, y]
theorem closeCtx_st {c n : Nat} {y : State} (h : n = c ∨ (y.ctx n).st = 0) : ((y.closeCtx c).ctx n).st = 0 := by
  show (((y.onCtx c _).ctx n).st : Nat) = 0
  by_cases e : c = n
  · subst e
    by_cases l : c < y.host.ctxs.length
    · rw [ctx_onCtx l]
    · have g : (y.onCtx c fun x => { x with st := 0, cache := [], consumed := 0, gen := if x.gen = 2047 then 1 else x.gen + 1 }).host.ctxs[c]? = none :=
        List.getElem?_eq_none (by rw [onCtx_host]; simpa using l)
      unfold State.ctx at'
      rw [List.getD_eq_getElem?_getD, g]
      rfl
  · rw [ctx_onCtx_ne e]
    rcases h with h | h
    · exact absurd h.symm e
    · exact h
/-- Every context a member closes is CLOSED, and one that was stays so. -/
theorem closeAll_ctx {n : Nat} (f : Nat → State → State) (hf : ∀ c z, (f c z).host = (z.closeCtx c).host) : ∀ (l : List Nat) (y : State),
    (n ∈ l ∨ (y.ctx n).st = 0) → ((each l f y).ctx n).st = 0
  | [], _, h => h.resolve_left List.not_mem_nil
  | c :: l, y, h => by
    refine closeAll_ctx f hf l (f c y) ?_
    have k : (f c y).ctx n = (y.closeCtx c).ctx n := by unfold State.ctx; rw [hf]
    rw [k]
    rcases h with h | h
    · rcases List.mem_cons.mp h with h | h
      · exact .inr (closeCtx_st (.inl h))
      · exact .inl h
    · exact .inr (closeCtx_st (.inr h))
theorem relockSession_host {x : Nat} {z : State} : (relockSession x z).host = z.host := (by simp : Frame 4325376 z (relockSession x z)).keeps .host rfl
theorem evControl_ctx {b c : Nat} {z : State} : (evControl b z).ctx c = z.ctx c := by
  unfold State.ctx
  rw [(by simp : Frame 1024 z (evControl b z)).keeps .host rfl]
theorem heldOut_quiet {v : State} (h : Quiet v.host) : Quiet v.heldOut.host := by
  unfold heldOut
  refine (heldFlush_own (s := v.onHost fun x => { x with held := x.held.map fun k => { k with mir := false } }) ⟨fun k hk => ?_, h.2⟩).2
  obtain ⟨x, hx, rfl⟩ := List.mem_map.mp hk
  exact h.1 x hx
theorem FromPartner.eq {x : PortRx} {h : MHdr} {p : Bytes} {s : State} (hb : FromPartner x h p s) : ∃ q, s.brought x h p = { s with mesh := q } := by
  unfold State.brought
  rw [hb.link]
  simp only [bne_self_eq_false, Bool.and_false, Bool.false_and, Bool.false_eq_true, if_false]
  split
  · exact ⟨_, rfl⟩
  · exact ⟨s.mesh, rfl⟩
theorem FromPartner.on {x : PortRx} {h : MHdr} {p : Bytes} {s b : State} (hb : FromPartner x h p s) (hB : b = s.brought x h p) : ∃ q, b = { s with mesh := q } := hB ▸ hb.eq
/-- A row that a PAIR frame brings: what it does beyond the frame's coming in. -/
theorem FromPartner.gives {c : Instr} {t m : Nat} {cond : State → Bool} {act : State → State} {s b w : State} {x : PortRx} {h : MHdr} {p : Bytes} {l : List Part} {F : State → Prop}
    (hr : exec c s = .next (runIf t cond (pairIn x act) s)) (hb : FromPartner x h p (begin t s)) (hB : b = (begin t s).brought x h p) (hc : cond (begin t s) = true)
    (hw : act b = w) (fr : Frame m b w) (k : m ||| maskOfParts (.now :: .out :: l) = maskOfParts (.now :: .out :: l)) (hF : ∀ a p q, F (noteSets a (finish p q w))) :
    GivesOn c s b l F := by
  subst hB
  refine ⟨_, hr.trans (congrArg _ (runIf_goes hc)), ?_, ?_⟩
  · have k5 : 5 ||| maskOfParts (.now :: .out :: l) = maskOfParts (.now :: .out :: l) := Mask.sub (mask_append [.now, .out] l) rfl
    refine Frame.only (m := maskOfParts (.now :: .out :: l)) ?_ (Nat.or_self _)
    refine Eq.mpr (State.noteSets_frame (Mask.sub k5 rfl)) (Eq.mpr (State.finish_frame (Mask.sub k5 rfl)) ?_)
    rw [hb.isIn, hw]
    exact fr.widen k
  · rw [hb.isIn, hw]
    exact hF _ _ _
theorem syncBegin_pair {s : State} : ∃ h l e hd, (syncBegin s).pair = { s.pair with
    st := 2
    syncAt := s.now
    resigned := none
    flight := []
    holding := false
    health := h
    lastFail := l
    evt := e
    handover := hd } ∧ h.testBit 62 = false := by
  unfold syncBegin
  obtain ⟨e, hd, k, _⟩ := healthStep_pair (f := fun s => healthPut 62 false (onPair (fun p => { p with st := 2, syncAt := s.now, resigned := none }) s.dropFlight)) (s := s)
  obtain ⟨h, l, k2, k3⟩ := healthPut_pair (b := 62) (v := false) (s := onPair (fun p => { p with st := 2, syncAt := s.now, resigned := none }) s.dropFlight)
  refine ⟨h, l, e, hd, ?_, k3⟩
  rw [k]
  simp only []
  rw [k2]
  show ({ s.dropFlight.pair with st := 2, syncAt := s.now, resigned := none, health := h, lastFail := l, evt := e, handover := hd } : PairB) = _
  rw [dropFlight_pair]
theorem healthyWord_sync {w : Nat} (h : w.testBit 62 = false) : healthyWord w = false := by
  unfold healthyWord
  rw [beq_eq_false_iff_ne]
  intro k
  have := congrArg (·.testBit 62) k
  simp only [Nat.testBit_and, h, Bool.false_and] at this
  exact absurd this (by decide)
/-- A healthy member that begins to synchronise waits for no handover (R636). -/
theorem syncBegin_unhands {s : State} (h : s.healthy = true) : (syncBegin s).pair.handover = none := by
  unfold syncBegin
  obtain ⟨hh, l, k2, k3⟩ := healthPut_pair (b := 62) (v := false) (s := onPair (fun p => { p with st := 2, syncAt := s.now, resigned := none }) s.dropFlight)
  refine healthStep_lost h ?_ ?_
  · unfold healthy
    rw [k2]
    have : healthyWord hh = false := healthyWord_sync k3
    rw [this]
    rfl
  · rw [k2]
    show (2 : Nat) ≠ 4
    decide
theorem healthTake_eq {f : HealthFrame} {y : State} : ∃ z, Frame 16908288 y z ∧ (z.pair.peer, z.pair.peerAt, z.pair.healthMiss, z.pair.peerHealthy) = (f.word, some y.now, 0, f.word.testBit 63) ∧
    (z.pair.peerArmed, z.pair.peerMarks) = (f.armed, f.marks) ∧
    (z.pair.st, z.pair.mirror, z.pair.holding, z.pair.flight) = (y.pair.st, y.pair.mirror, y.pair.holding, y.pair.flight) ∧
    healthTake f y = (if ((if z.pair.mirror then z.cmdAcked f.ackCmd else z).jnlAcked f.ackJnl).pair.holding && !f.word.testBit 62 then ((if z.pair.mirror then z.cmdAcked f.ackCmd else z).jnlAcked f.ackJnl).heldPerform
      else (if z.pair.mirror then z.cmdAcked f.ackCmd else z).jnlAcked f.ackJnl) := by
  unfold healthTake
  extract_lets was word ok y0 y1 y2 y3
  refine ⟨y2, ?_, ?_, rfl, ?_, rfl⟩
  · have f1 : Frame 16908288 y0 y1 := by
      simp only [y1]
      split
      · simp
      · split <;> simp
    exact Frame.trans (u := y0) (by simp [y0]) (f1.trans (by simp [y2]))
  · show (y1.pair.peer, y1.pair.peerAt, y1.pair.healthMiss, y1.pair.peerHealthy) = _
    have hk : ok = f.word.testBit 63 := rfl
    simp only [y1]
    split <;> rename_i g
    · rw [← hk, g]
      rfl
    · have g : f.word.testBit 63 = false := by rw [← hk]; simpa using g
      rw [g]
      split <;> rfl
  · show (y1.pair.st, y1.pair.mirror, y1.pair.holding, y1.pair.flight) = _
    simp only [y1]
    split
    · rfl
    · split <;> rfl
theorem heldFlush_nil {z : State} (h : z.host.held = []) : z.heldFlush = z := by
  unfold heldFlush
  simp only [h, List.filter_nil, each, List.foldl_nil]
  show ({ z with host := { z.host with held := z.host.held.filter _ } } : State) = z
  rw [h, List.filter_nil, ← h]
theorem jnlAcked_nil {c : Nat} {z : State} (h : z.host.held = []) : z.jnlAcked c = z.onPair fun p => { p with ackedJnl := c } := by
  have e : ((z.onPair fun p => { p with ackedJnl := c }).onHost fun x => { x with held := x.held.map fun k => { k with mir := k.mir && !decide (k.jidx < c) } }) = z.onPair fun p => { p with ackedJnl := c } := by
    show ({ z with pair := { z.pair with ackedJnl := c }, host := { z.host with held := z.host.held.map _ } } : State) = _
    rw [h, List.map_nil, ← h]
    rfl
  unfold jnlAcked
  rw [e]
  exact heldFlush_nil h
theorem jnlTake_all {e : JEntry} {y : State} : (jnlTake e y).jnl = { y.jnl with
      ring := (e :: y.jnl.ring).take 8192
      head := e.index + 1
      next := e.index + 1
      prev := e.chain
      wrapped := y.jnl.wrapped || (decide (8192 ≤ y.jnl.ring.length) && !y.jnl.lapped)
      lapped := y.jnl.lapped || decide (8192 ≤ y.jnl.ring.length) } ∧ (jnlTake e y).pair = { y.pair with
      gotJnl := e.index + 1
      cmds := y.pair.cmds.filter fun c => !State.recordsCmd e c } ∧
    (e.result ≠ 2 → (jnlTake e y).img = y.img ∧ (jnlTake e y).modeQ = y.modeQ) ∧
    (y.pair.cmds.find? (State.recordsCmd e) = none → ¬(e.src < 3 ∧ e.flags.testBit 2 = true) → (jnlTake e y).host = y.host) ∧
    (∀ c, y.pair.cmds.find? (State.recordsCmd e) = some c → c.opcode ≠ 1 → c.opcode ≠ 4 → (y.ctx (State.ctxOf c.h.sess)).st ≠ 0 →
        (y.ctx (State.ctxOf c.h.sess)).sess = c.h.sess → ((jnlTake e y).ctx (State.ctxOf c.h.sess)).e = (c.h.seq + 1) % 2 ^ 32) ∧
    (e.result = 2 → e.opcode = 0x0109 → y.img.swapSt = 3 → (jnlTake e y).img.swapPer = e.effPeriod) := by
  unfold jnlTake
  extract_lets y0 y1
  have f1 : Frame 512 y0 y1 := by
    simp only [y1]
    split
    · simp
    · split <;> simp
  have f2 : Frame 524544 y1 (landCarry e y1) := by simp
  have j0 : y0.pair = y.pair ∧ y0.host = y.host ∧ y0.img = y.img ∧ y0.modeQ = y.modeQ := ⟨rfl, rfl, rfl, rfl⟩
  have w : ∀ z : State, (z.onPair fun p => { p with gotJnl := e.index + 1, cmds := p.cmds.filter fun c => !recordsCmd e c }).jnl = z.jnl ∧
      (z.onPair fun p => { p with gotJnl := e.index + 1, cmds := p.cmds.filter fun c => !recordsCmd e c }).host = z.host ∧
      (z.onPair fun p => { p with gotJnl := e.index + 1, cmds := p.cmds.filter fun c => !recordsCmd e c }).img = z.img ∧
      (z.onPair fun p => { p with gotJnl := e.index + 1, cmds := p.cmds.filter fun c => !recordsCmd e c }).modeQ = z.modeQ := fun z => ⟨rfl, rfl, rfl, rfl⟩
  refine ⟨?_, ?_, fun h => ?_, fun h1 h2 => ?_, fun c h1 h2 h3 h4 h5 => ?_, fun h1 h2 h3 => ?_⟩
  · rw [(w _).1, f2.keeps .jnl rfl, f1.keeps .jnl rfl]
    rfl
  · show ({ (landCarry e y1).pair with gotJnl := _, cmds := _ } : PairB) = _
    rw [f2.keeps .pair rfl, f1.keeps .pair rfl]
    rfl
  · have g : landCarry e y1 = y1 := by unfold landCarry; rw [if_pos h]
    rw [(w _).2.2.1, (w _).2.2.2, g, f1.keeps .img rfl, f1.keeps .modeQ rfl]
    exact ⟨rfl, rfl⟩
  · have g : y1 = y0 := by
      simp only [y1]
      rw [show y0.pair.cmds.find? (recordsCmd e) = none from h1]
      simp only []
      rw [if_neg h2]
    rw [(w _).2.1, f2.keeps .host rfl, g]
    rfl
  · have g : y1 = y0.cmdCarry c e := by
      simp only [y1]
      rw [show y0.pair.cmds.find? (recordsCmd e) = some c from h1]
    have l : ctxOf c.h.sess < y0.host.ctxs.length := ctx_live (z := y0) h4
    have k : ((landCarry e y1).onPair fun p => { p with gotJnl := e.index + 1, cmds := p.cmds.filter fun c => !recordsCmd e c }).ctx (ctxOf c.h.sess) = y1.ctx (ctxOf c.h.sess) := by
      unfold State.ctx
      rw [(w _).2.1, f2.keeps .host rfl]
    rw [k, g]
    unfold cmdCarry
    rw [if_neg (by rintro (q | q) <;> contradiction)]
    have q1 : (y0.seqCarry c.opcode c.h.sess c.h.seq).ctx (ctxOf c.h.sess) = { y0.ctx (ctxOf c.h.sess) with
        e := (c.h.seq + 1) % 2 ^ 32
        consumed := (y0.ctx (ctxOf c.h.sess)).consumed + serialDiff 32 ((c.h.seq + 1) % 2 ^ 32) (y0.ctx (ctxOf c.h.sess)).e } := by
      unfold seqCarry
      rw [if_neg (by rintro (q | q) <;> contradiction), ctx_onCtx l, if_neg (by rintro (q | q) <;> contradiction)]
      rfl
    unfold cacheCpl
    rw [ctx_onCtx (by unfold seqCarry; split <;> simpa using l), q1]
    simp only []
    split <;> rfl
  · have g : landCarry e y1 = y1.onImg fun i => { i with swapPer := e.effPeriod, swapLate := e.flags.testBit 0 } := by
      have q : y1.img.swapSt = 3 := by rw [f1.keeps .img rfl]; exact h3
      unfold landCarry
      rw [if_neg (by omega), if_pos h2]
      show ({ y1 with img := if y1.img.swapSt = 3 then _ else _ } : State) = _
      rw [if_pos q]
      rfl
    rw [(w _).2.2.1, g]
    rfl
theorem adcCheck_all {i : InputSet} {y : State} (h2 : y.pair.st = 3) : (adcCheck i y).pair.st = 3 ∧
    ((∀ x ∈ y.tolWords, F32.le (F32.abs (F32.sub (y.lm x.1 (0x7000 + 4 * x.2.1)) (at' (at' i.words x.1 []) x.2.1 0))) x.2.2 = true) →
        (adcCheck i y).pair.adcBad = [] ∧ (adcCheck i y).pair.adcRun = y.pair.adcRun + 1) := by
  unfold adcCheck
  extract_lets bad count l
  have e2 : ∀ z v : State, v.pair.st = z.pair.st ∧ v.pair.adcBad = l ∧ v.pair.adcRun = (if bad.isEmpty then z.pair.adcRun + 1 else 0) → ∀ c1 c2 : Bool,
      (if c1 then healthPut 54 false v else if c2 then healthPut 54 true v else v).pair.st = z.pair.st ∧
      (if c1 then healthPut 54 false v else if c2 then healthPut 54 true v else v).pair.adcBad = l ∧
      (if c1 then healthPut 54 false v else if c2 then healthPut 54 true v else v).pair.adcRun = (if bad.isEmpty then z.pair.adcRun + 1 else 0) := by
    intro z v hy c1 c2
    have hp : ∀ k, (healthPut 54 k v).pair.st = v.pair.st ∧ (healthPut 54 k v).pair.adcBad = v.pair.adcBad ∧ (healthPut 54 k v).pair.adcRun = v.pair.adcRun :=
      fun k => ⟨healthPut_val (·.st) (fun _ _ _ => rfl), healthPut_val (·.adcBad) (fun _ _ _ => rfl), healthPut_val (·.adcRun) (fun _ _ _ => rfl)⟩
    cases c1 <;> cases c2 <;> simp only [Bool.false_eq_true, if_true, if_false] <;> first | exact hy | (rw [(hp _).1, (hp _).2.1, (hp _).2.2]; exact hy)
  rw [healthStep_val (·.st) (fun _ _ _ => rfl), healthStep_val (·.adcBad) (fun _ _ _ => rfl), healthStep_val (·.adcRun) (fun _ _ _ => rfl)]
  have e3 := e2 y (y.onPair fun p => { p with adcBad := l, adcRun := if bad.isEmpty then p.adcRun + 1 else 0 }) ⟨rfl, rfl, rfl⟩ (l.any fun x => decide (16 ≤ x.2.2))
      (decide (16 ≤ (if bad.isEmpty then y.pair.adcRun + 1 else 0)))
  simp only [decide_eq_true_eq] at e3
  refine ⟨e3.1.trans h2, fun hall => ?_⟩
  have hb : bad = [] := by
    apply List.filter_eq_nil_iff.mpr
    intro x hx
    rw [hall x hx]
    decide
  refine ⟨e3.2.1.trans ?_, e3.2.2.trans ?_⟩
  · simp only [l, hb]
    rfl
  · rw [hb]
    rfl
theorem refsTake_waits {r : RefsFrame} {z : State} (h : z.pair.st = 1 ∨ z.pair.st = 5 ∨ z.pair.st = 6) : Frame 16909824 z (refsTake r z) ∧ ∃ hh l e hd, (refsTake r z).pair = { z.pair with
    refsAt := some z.now
    st := 2
    syncAt := z.now
    resigned := none
    flight := []
    holding := false
    health := hh
    lastFail := l
    evt := e
    handover := hd
    refs := some r } ∧ hh.testBit 62 = false := by
  unfold refsTake
  extract_lets y own y1 y2
  have hy : y.pair.st = z.pair.st := rfl
  obtain ⟨hh, l, e, hd, k1, k2⟩ := syncBegin_pair (s := y)
  have k3 : (onPair (fun p => { p with refs := some r }) (syncBegin y)).pair = _ := congrArg (fun p : PairB => { p with refs := some r }) k1
  rcases h with h | h | h <;> rw [hy, h] <;> exact ⟨by simp [y], hh, l, e, hd, k3, k2⟩
theorem refsTake_fence {r : RefsFrame} {z : State} (h1 : z.pair.st = 4) (h2 : later 16 r.epoch z.seam.epoch = true) :
    refsTake r z = fence 0 r.epoch (z.onPair fun p => { p with refsAt := some z.now }) := by
  unfold refsTake
  extract_lets y own y1 y2
  have hy : y.pair.st = z.pair.st := rfl
  have he : y.seam.epoch = z.seam.epoch := rfl
  rw [hy, h1]
  simp only [he, h2, if_true]
  rfl
theorem refsTake_standby {r : RefsFrame} {z : State} (h : z.pair.st = 3) : Frame 18872460 z (refsTake r z) ∧ (refsTake r z).pair.refs = some r ∧ (refsTake r z).pair.refsAt = some z.now ∧
    (refsTake r z).comp.ranks = r.ranks ∧ (refsTake r z).mode.mode = r.mode ∧ (refsTake r z).mode.target = r.target ∧ (refsTake r z).mode.sub = r.sub ∧
    (refsTake r z).seam.epoch = (if later 16 r.epoch z.seam.epoch = true then r.epoch % 65536 else z.seam.epoch) ∧
    (r.mirrorOff = true ∨ later 32 r.mirrorNo z.pair.got = true → (refsTake r z).pair.health.testBit 62 = false) := by
  unfold refsTake
  extract_lets y own y1 y2 y3 y4
  have hy : y.pair.st = 3 := h
  have e1 : y1.pair = { z.pair with
    refsAt := some z.now
    refs := some r } := rfl
  have f2 : Frame 4100 y1 y2 := by
    simp only [y2]
    split
    · simp
    · simp
  have e2 : y2.pair = y1.pair := f2.keeps .pair rfl
  have s2 : y2.seam.epoch = if later 16 r.epoch z.seam.epoch = true then r.epoch % 65536 else z.seam.epoch := by
    simp only [y2]
    rw [show y1.seam = z.seam from rfl]
    split
    · exact epochTo_epoch
    · rfl
  have p3 : y3.pair = y2.pair := (by simp [y3] : Frame 1964164 y2 y3).keeps .pair rfl
  have m3 : y3.mode.mode = r.mode ∧ y3.mode.target = r.target ∧ y3.mode.sub = r.sub := by
    simp only [y3, refsSets_mode]
    exact refsMode_mode
  have c3 : y3.comp.ranks = r.ranks := refsSets_ranks
  have s3 : y3.seam.epoch = y2.seam.epoch := by
    simp only [y3, refsSets_seam]
    exact refsMode_seam
  have f4 : Frame 16908296 y3 y4 := by
    simp only [y4]
    split <;> simp
  have p4 : (y4.pair.refs, y4.pair.refsAt, y4.pair.got) = (y3.pair.refs, y3.pair.refsAt, y3.pair.got) := by
    simp only [y4]
    split
    · rfl
    · exact setCheck_val (fun p => (p.refs, p.refsAt, p.got)) (fun _ _ _ => rfl) (fun _ _ _ => rfl) fun _ _ _ _ _ => rfl
  rw [p3, e2, e1] at p4
  have p5 : y4.pair.refs = some r ∧ y4.pair.refsAt = some z.now ∧ y4.pair.got = z.pair.got :=
    ⟨congrArg (·.1) p4, congrArg (·.2.1) p4, congrArg (·.2.2) p4⟩
  have q4 : y4.mode = y3.mode ∧ y4.comp = y3.comp ∧ y4.seam = y3.seam := ⟨f4.keeps .mode rfl, f4.keeps .comp rfl, f4.keeps .seam rfl⟩
  rw [hy]
  simp only []
  have fz : Frame 18872460 z y4 := Frame.trans (u := y1) (by simp [y1, y]) ((f2.widen rfl).trans (Frame.trans (u := y3) (by simp [y3]) (f4.widen rfl)))
  clear_value y4 y3 y2
  split
  · have f5 : Frame 16908288 y4 (healthStep (healthPut 62 false) y4) := by simp
    refine ⟨fz.trans (by simp), ?_⟩
    rw [f5.keeps .mode rfl, f5.keeps .comp rfl, f5.keeps .seam rfl, q4.1, q4.2.1, q4.2.2, s3]
    obtain ⟨hh, l, k, k2⟩ := healthPut_pair (b := 62) (v := false) (s := y4)
    obtain ⟨e, hd, k3, _⟩ := healthStep_pair (f := healthPut 62 false) (s := y4)
    rw [k3, k]
    exact ⟨p5.1, p5.2.1, c3, m3.1, m3.2.1, m3.2.2, s2, fun _ => k2⟩
  · rename_i hn
    refine ⟨fz, ?_⟩
    rw [q4.1, q4.2.1, q4.2.2, s3]
    rw [p5.2.2] at hn
    exact ⟨p5.1, p5.2.1, c3, m3.1, m3.2.1, m3.2.2, s2, fun hh => absurd hh hn⟩
theorem syncTake_at2 {page : Nat} {bytes : Bytes} {y : State} (h : y.pair.st = 2) : ∃ u, syncTake page bytes y = u ∧ Frame 8496640 y u ∧ u.jnl = (syncPage page bytes y.syncOf).jnl ∧
    u.host.ctrl = (syncPage page bytes y.syncOf).ctrl ∧ u.host.ctxs = y.host.ctxs.mapIdx (fun c _ => at' (syncPage page bytes y.syncOf).ctxs c {}) ∧
    u.bal.arms = y.bal.arms.mapIdx (fun a _ => at' (syncPage page bytes y.syncOf).arms a {}) ∧
    u.edg.chans = y.edg.chans.mapIdx (fun c _ => at' (syncPage page bytes y.syncOf).chans c []) := by
  have e : syncTake page bytes y = syncPut (syncPage page bytes y.syncOf) y := by
    unfold syncTake
    rw [if_neg (by rw [h]; decide)]
  refine ⟨_, e, by simp, ?_⟩
  generalize syncPage page bytes y.syncOf = k
  exact ⟨rfl, rfl, rfl, rfl, rfl⟩
theorem syncPut_pair {x : SyncParts} {y : State} : (syncPut x y).pair = y.pair := Frame.keeps (m := 8496640) (s := y) (by simp) .pair rfl
theorem syncTake_at3 {page : Nat} {bytes : Bytes} {y : State} (h : y.pair.st = 3) : ∃ u, syncTake page bytes y = u ∧ Frame 25404928 y u ∧
    u.pair.st = 2 ∧ u.pair.syncAt = y.now ∧ u.pair.health.testBit 62 = false ∧ (y.healthy = true → u.pair.handover = none) := by
  have e : syncTake page bytes y = syncPut (syncPage page bytes y.syncBegin.syncOf) y.syncBegin := by
    unfold syncTake
    rw [if_pos h]
  refine ⟨_, e, by simp, ?_⟩
  obtain ⟨hh, l, ev, hd, k1, k2⟩ := syncBegin_pair (s := y)
  rw [syncPut_pair]
  refine ⟨by rw [k1], by rw [k1], by rw [k1]; exact k2, syncBegin_unhands⟩
theorem cmdTake_all {c : CmdFrame} {cmd : Cmd} {y : State} (hl : look c.opcode = some cmd) : ∃ z, Frame 16777216 y z ∧ z.pair = { y.pair with
      got := c.mirrorNo
      cmds := y.pair.cmds ++ [c] } ∧
    Frame 8389637 (cmd.act c.h c.payload z).1 (cmdTake c y) ∧ (cmdTake c y).jnl = y.jnl ∧ (cmdTake c y).mesh.convs = y.mesh.convs ∧
    (cmdTake c y).mesh.gops = y.mesh.gops ∧ (cmdTake c y).mesh.ports = y.mesh.ports := by
  obtain ⟨z, hz⟩ : ∃ z, z = y.onPair fun p => { p with got := c.mirrorNo, cmds := p.cmds ++ [c] } := ⟨_, rfl⟩
  have e : cmdTake c y = sendHealth (mirrorApply c z) := by
    rw [hz]
    rfl
  have j : z.jnl = y.jnl ∧ z.mesh = y.mesh := by
    rw [hz]
    exact ⟨rfl, rfl⟩
  refine ⟨z, by rw [hz]; simp, by rw [hz]; rfl, ?_⟩
  rw [e, ← j.1, ← j.2]
  clear hz e j
  have hfr : Frame 8389637 (cmd.act c.h c.payload z).1 (mirrorApply c z) ∧ (mirrorApply c z).jnl = z.jnl ∧ (mirrorApply c z).mesh.convs = z.mesh.convs ∧ (mirrorApply c z).mesh.gops = z.mesh.gops ∧
      (mirrorApply c z).mesh.ports = z.mesh.ports := by
    unfold mirrorApply
    rw [hl]
    dsimp only
    generalize (cmd.act c.h c.payload z).1 = r
    exact ⟨⟨fun p q => by cases p <;> first | rfl | cases q⟩, rfl, rfl, rfl, rfl⟩
  exact ⟨Eq.mpr (State.sendHealth_frame rfl) hfr.1, hfr.2⟩
theorem softDirect {z : State} {ifc : Iface} {v : Word} (hv : z.viewed ifc.src 0x22000C = false) (hb : z.pwrBusy = false) (hm : z.mode.mode = 0) (hw : z.img.hostWait = false) (h0 : v ≠ 0)
    (h1 : v.toNat < 1024) (h7 : tbit v.toNat 7 = true → z.anyTrip = false) {k n : Nat} (hn : v.toNat = n) (hk : members n 10 = [k]) :
    pwrDirect ifc 0x22000C v z = softBlock k (onPwr (fun p => { p with soft := n, busy := true, cause := 6, causeSrc := ifc.src.code }) (z.jDirect ifc.src 0x22000C v)) := by
  have hr : z.softRefusal v = none := by
    unfold softRefusal
    rw [if_neg h0]
    have h8 : ¬1024 ≤ v.toNat := by omega
    cases hh : tbit v.toNat 7
    · simp [hb, hm, h8, hw]
    · simp [hb, hm, h8, hw, h7 hh]
  unfold pwrDirect
  rw [if_neg (by rw [hv]; decide), if_neg (by rw [notBusy hb]; decide)]
  simp only [show ((0x22000C : Nat) == 0x22000C) = true from rfl, if_true, hr, Bool.true_and, beq_iff_eq, h0, if_false]
  unfold softWrite softStart
  rw [if_neg h0, hn, hk]
  rfl
/-- A soft reset of one block taken: its record, then the block's actions. -/
theorem softRun {c : Instr} {s : State} {t k n m : Nat} {ifc : Iface} {v : Word} {l : List Part} {F : State → Prop}
    (hr : exec c s = .next (run t (pwrDirect ifc 0x22000C v) s)) (hv : (begin t s).viewed ifc.src 0x22000C = false) (hb : (begin t s).pwrBusy = false) (hm : (begin t s).mode.mode = 0)
    (hw : (begin t s).img.hostWait = false) (h0 : v ≠ 0) (h1 : v.toNat < 1024) (h7 : tbit v.toNat 7 = true → (begin t s).anyTrip = false) (hn : v.toNat = n) (hk : members n 10 = [k])
    (fb : ∀ z, Frame m z (softBlock k z)) (hp : m.testBit Part.pwr.num = false) (hl : (1088 ||| m) ||| maskOfParts (.now :: .out :: l) = maskOfParts (.now :: .out :: l))
    (hF : ∀ z a p q, Frame 1088 (begin t s) z → z.pwr = { s.pwr with soft := n, busy := true, cause := 6, causeSrc := ifc.src.code } → F (noteSets a (finish p q (softBlock k z)))) :
    Gives c s l fun u => u.pwr = { s.pwr with soft := n, busy := true, cause := 6, causeSrc := ifc.src.code } ∧ F u := by
  have e : pwrDirect ifc 0x22000C v (begin t s) = _ := softDirect hv hb hm hw h0 h1 h7 hn hk
  generalize hz : onPwr (fun p => { p with soft := n, busy := true, cause := 6, causeSrc := ifc.src.code }) ((begin t s).jDirect ifc.src 0x22000C v) = z at e
  have fz : Frame 1088 (begin t s) z := by rw [← hz]; simp
  have pz : z.pwr = { s.pwr with soft := n, busy := true, cause := 6, causeSrc := ifc.src.code } := by rw [← hz]; simp
  refine gives_as (m := 1088 ||| m) hr e (Frame.trans (fz.widen (by rw [← Nat.or_assoc, Nat.or_self])) ((fb z).widen (by rw [Nat.or_comm 1088, ← Nat.or_assoc, Nat.or_self]))) (hl) fun a p q => ?_
  refine ⟨?_, hF z _ _ _ fz pz⟩
  rw [noteSets_pwr, finish_pwr, (fb z).keeps .pwr hp, pz]
theorem goTo_all {n : Nat} {z : State} (h2 : z.pwr.st ≠ 3) : (n = z.pwr.st → (goTo n z).pwr = { z.pwr with target := n }) ∧
    (n = 3 → (goTo n z).pwr.parked = true ∧ (goTo n z).pwr.dom = 3 ∧ (goTo n z).mode = {} ∧ (goTo n z).pwr.wakeAt = if z.pwr.wake = 0 then none else some (z.now + z.pwr.wake * Config.sec)) ∧
    (n ≠ 3 → n ≠ z.pwr.st → (goTo n z).pwr.st = 3 ∧ (goTo n z).pwr.busy = true ∧ (goTo n z).pwr.target = n) ∧
    (n = 1 → z.pwr.st = 0 → (goTo n z).pwr.dom = clrBit (clrBit z.pwr.dom 7) 12) := by
  have down : ∀ w : State, (w.ovlEnd 0x16 true).idleDown.pwr = { w.pwr with dom := clrBit (clrBit w.pwr.dom 7) 12 } := by
    intro w
    unfold idleDown
    rw [onBnc_pwr, onPwr_pwr]
    have : (w.ovlEnd 0x16 true).traceStopped.adcDown.pwr = w.pwr := (by simp : Frame 1685508 w (w.ovlEnd 0x16 true).traceStopped.adcDown).keeps .pwr rfl
    rw [this]
  have up : ∀ w : State, w.dozeUp.pwr = w.pwr := fun w => (by simp : Frame 2048 w w.dozeUp).keeps .pwr rfl
  have dd : ∀ w : State, w.dozeDown.pwr = w.pwr := fun w => (by simp : Frame 6148 w w.dozeDown).keeps .pwr rfl
  have iu : ∀ w : State, ∃ d, w.idleUp.pwr = { w.pwr with dom := d } := by
    intro w
    unfold idleUp
    extract_lets ub y nw
    have : ∀ v : State, v.adcDown.adcUp.pwr = v.pwr := fun v => (by simp : Frame 1048576 v v.adcDown.adcUp).keeps .pwr rfl
    split
    · exact ⟨_, this _⟩
    · exact ⟨_, (onBnc_pwr ..).trans (this _)⟩
  unfold goTo
  extract_lets st y
  have yp : y.pwr = { z.pwr with target := n } := rfl
  have yn : y.now = z.now := rfl
  by_cases c1 : n = z.pwr.st
  · rw [if_pos c1]
    exact ⟨fun _ => yp, fun e => absurd (c1.symm.trans e) h2, fun _ e => absurd c1 e, fun e e2 => by omega⟩
  · rw [if_neg c1]
    by_cases c2 : n = 3
    · rw [if_pos c2]
      refine ⟨fun e => absurd e c1, fun _ => ?_, fun e => absurd c2 e, fun e => by omega⟩
      have r1 : y.parkRecord.now = y.now := (by simp : Frame 131080 y y.parkRecord).keeps .now rfl
      unfold goPark
      refine ⟨rfl, rfl, ?_, ?_⟩
      · rw [onPwr_mode, onBal_mode]; rfl
      · rw [onPwr_pwr]
        show (if z.pwr.wake = 0 then none else some (_ + z.pwr.wake * Config.sec)) = _
        rw [← yn, ← r1]
        have : ((ovlEnd 23 true y.parkRecord).volatileLost true).now = y.parkRecord.now := (by simp : Frame 369098726 y.parkRecord ((ovlEnd 23 true y.parkRecord).volatileLost true)).keeps .now rfl
        rw [onBal_now, this]
    · rw [if_neg c2]
      rename_i w1 w2 _
      have q : ∀ (c1 c2 : Prop) [Decidable c1] [Decidable c2], (if c1 then (w1.ovlEnd 0x16 true).idleDown else if c2 then w1.dozeUp else w1).pwr.st = 3 ∧
          (if c1 then (w1.ovlEnd 0x16 true).idleDown else if c2 then w1.dozeUp else w1).pwr.busy = true ∧ (if c1 then (w1.ovlEnd 0x16 true).idleDown else if c2 then w1.dozeUp else w1).pwr.target = n := by
        intro c1 c2 _ _
        split
        · rw [down]; exact ⟨rfl, rfl, rfl⟩
        · split
          · rw [up]; exact ⟨rfl, rfl, rfl⟩
          · exact ⟨rfl, rfl, rfl⟩
      have q2 : w2.pwr.st = 3 ∧ w2.pwr.busy = true ∧ w2.pwr.target = n := q _ _
      refine ⟨fun e => absurd e c1, fun e => absurd e c2, fun _ _ => ?_, ?_⟩
      · split
        · rw [dd]; exact q2
        · split
          · obtain ⟨d, e⟩ := iu w2
            rw [e]
            exact q2
          · exact q2
      · intro e1 e2
        have e3 : st = 0 := e2
        rw [if_neg (by omega), if_neg (by omega)]
        have e4 : w2 = (w1.ovlEnd 0x16 true).idleDown := if_pos e3
        rw [e4, down]
        rfl
theorem softBlock_lane_frame {z : State} : Frame 6148 z (softBlock 0 z) := by
  unfold softBlock
  refine Eq.mpr (State.laneStep_frame (fun v => ?_) rfl) (by simp)
  refine Eq.mpr (Frame.each fun _ _ => Eq.mpr (State.laneStart_frame rfl) (by simp)) ?_
  refine Eq.mpr (State.seamWarm_frame rfl) (Eq.mpr (State.onLane_frame rfl) ?_)
  exact Eq.mpr (Frame.each fun _ _ => Eq.mpr (State.testEnd_frame rfl) (by simp)) (by simp)
theorem softBlock_seam_frame {z : State} : Frame 4100 z (softBlock 1 z) := by
  unfold softBlock
  simp
theorem softBlock_edg_frame {z : State} : Frame 8192 z (softBlock 2 z) := by
  unfold softBlock
  simp
theorem softBlock_bnc_frame {z : State} : Frame 32768 z (softBlock 3 z) := by
  unfold softBlock
  simp
theorem softBlock_bal_frame {z : State} : Frame 65536 z (softBlock 4 z) := by
  unfold softBlock
  exact Eq.mpr (Frame.each fun _ _ => Eq.mpr (State.thermRestart_frame rfl) (by simp)) (by simp)
theorem softBlock_mode_frame {z : State} : Frame 1914884 z (softBlock 5 z) := by
  unfold softBlock
  simp
theorem softBlock_adc_frame {z : State} : Frame 1048576 z (softBlock 6 z) := by
  unfold softBlock
  simp [↓Frame.ite]
theorem softBlock_cmp_frame {z : State} : Frame 10661900 z (softBlock 7 z) := by
  unfold softBlock
  simp [↓Frame.ite]
theorem softBlock_mesh_frame {z : State} : Frame 25691788 z (softBlock 8 z) := by
  unfold softBlock
  simp
theorem softBlock_pair_frame {z : State} : Frame 25167372 z (softBlock 9 z) := by
  unfold softBlock
  simp
@[simp] theorem fireTrip_checks {s : State} {w : Nat} : (s.fireTrip w).cmp.checks = s.cmp.checks := by
  obtain ⟨_, _, _, _, _, _, _, _, _, h, _⟩ := fireTrip_cmp (s := s) (w := w)
  rw [h]
theorem cmpEval_checks {s : State} {k : Nat} : (s.cmpEval k).cmp.checks = s.cmp.checks := by
  unfold cmpEval
  extract_lets f u y
  split
  · rw [fireTrip_checks]
    show (if _ then _ else y : State).cmp.checks = _
    split <;> rfl
  · rfl
theorem cmpStart_checks {z : State} (k : Nat) : (cmpStart k z).cmp.checks = z.cmp.checks := by
  unfold cmpStart cmpFollow
  split
  · rw [cmpEval_checks]
    show (cmpEval k _).cmp.checks = _
    rw [cmpEval_checks]
    rfl
  · rw [cmpEval_checks]
    rfl
theorem softBlock_lane {z : State} : (∀ c, (at' (softBlock 0 z).seam.cells c {}).st = 0) ∧ ∀ l ∈ (softBlock 0 z).lane.lanes, l.test = 0 ∧ l.loop = 0 := by
  generalize hw : ((each (List.range 40) testEnd z).onLane fun l => { l with lanes := l.lanes.map laneStop }) = w
  have ew : ∃ p, (softBlock 0 z).seam = (each p laneStart w.seamWarm).seam ∧ (softBlock 0 z).lane = (each p laneStart w.seamWarm).lane := by
    refine ⟨(List.range 40).filter fun l => (w.seamWarm).laneOn l && (((w.seamWarm).ln l).used || (w.seamWarm).img.hostWait), ?_⟩
    rw [← hw]
    unfold softBlock laneStep
    simp only []
    split <;> exact ⟨rfl, rfl⟩
  obtain ⟨p, e1, e2⟩ := ew
  have hl : ∀ y ∈ w.seamWarm.lane.lanes, y.test = 0 ∧ y.loop = 0 := by
    have : w.seamWarm.lane = w.lane := (by simp : Frame 4096 w w.seamWarm).keeps .lane rfl
    rw [this, ← hw]
    intro y hy
    simp only [onLane_lane, List.mem_map] at hy
    obtain ⟨x, -, rfl⟩ := hy
    exact ⟨rfl, rfl⟩
  rw [e1, e2]
  refine ⟨fun c => ?_, ?_⟩
  · rw [(Eq.mpr (Frame.each fun _ _ => Eq.mpr (State.laneStart_frame rfl) (by simp)) (by simp) : Frame 2048 w.seamWarm (each p laneStart w.seamWarm)).keeps .seam rfl]
    exact seamWarm_cell c
  · refine each_keeps (fun v => ∀ y ∈ v.lane.lanes, y.test = 0 ∧ y.loop = 0) _ _ _ hl ?_
    intro a _ v hv y hy
    have hy' : y ∈ modAt v.lane.lanes a _ := hy
    obtain ⟨x, hx, e⟩ := mem_modAt hy'
    rcases e with rfl | rfl
    · exact hv _ hx
    · have := hv _ hx
      simp only []
      split <;> split <;> exact this
theorem softBlock_seam {z : State} : (∀ c, (at' (softBlock 1 z).seam.cells c {}).st = 0) ∧ ∀ c ∈ (softBlock 1 z).seam.cells, c.jstep = 0 ∧ c.reason = 0 := by
  refine ⟨fun c => seamWarm_cell c, fun y hy => ?_⟩
  have hy' : y ∈ List.map _ _ := hy
  rw [List.mem_map] at hy'
  obtain ⟨x, -, rfl⟩ := hy'
  exact ⟨rfl, rfl⟩
theorem softBlock_edg {z : State} : (∀ x ∈ (softBlock 2 z).edg.lpwm, x.carry = {}) ∧ (softBlock 2 z).edg.chans = List.replicate 128 (List.replicate 16 {}) ∧ (softBlock 2 z).edg.lastLate = false := by
  refine ⟨?_, rfl, rfl⟩
  intro y hy
  have hy' : y ∈ List.map _ _ := hy
  rw [List.mem_map] at hy'
  obtain ⟨x, -, rfl⟩ := hy'
  rfl
theorem softBlock_bnc {z : State} : (softBlock 3 z).bnc.cmds = [] ∧ (softBlock 3 z).bnc.trace.st ≠ 1 ∧ (softBlock 3 z).bnc.trace.st ≠ 2 ∧
    ∀ x ∈ (softBlock 3 z).bnc.loops, x.per = 0 ∧ x.tab = [] := by
  have e : softBlock 3 z = z.traceStopped.coefReload.stateReload.loopsReload := by unfold softBlock; rfl
  rw [e, loopsReload_all.1, stateReload_trace, coefReload_trace]
  exact ⟨loopsReload_all.2.1, traceStopped_st.1, traceStopped_st.2, loopsReload_all.2.2⟩
theorem softBlock_bal {z : State} : (∀ a ∈ (softBlock 4 z).bal.arms, a.n = 0 ∧ a.missRun = 0) ∧
    ∀ c ∈ z.thermCells, c < z.bal.cells.length → (at' (softBlock 4 z).bal.cells c {}).pwr = 0 ∧ (at' (softBlock 4 z).bal.cells c {}).hotCh = 0 := by
  have e : softBlock 4 z = each z.balWarm.thermCells thermRestart z.balWarm := rfl
  have hc : z.balWarm.thermCells = z.thermCells := rfl
  rw [e, hc]
  refine ⟨?_, ?_⟩
  · refine each_keeps (fun v : State => ∀ a ∈ v.bal.arms, a.n = 0 ∧ a.missRun = 0) _ _ _ ?_ fun _ _ _ h => h
    intro a ha
    have ha' : a ∈ List.map _ _ := ha
    rw [List.mem_map] at ha'
    obtain ⟨x, -, rfl⟩ := ha'
    exact ⟨rfl, rfl⟩
  · intro c hc1 hl
    refine each_sets (fun v : State => (at' v.bal.cells c {}).pwr = 0 ∧ (at' v.bal.cells c {}).hotCh = 0) _ _ _ c hc1 (fun v => v.bal.cells.length = z.bal.cells.length) ?_ ?_ ?_ ?_
    · show (List.map _ _).length = _
      rw [List.length_map]
    · exact fun b v h => modAt_length.trans h
    · intro v h
      have : (thermRestart c v).therm c = _ := getD_modAt (d := ({} : ThermCell)) (by rw [h]; exact hl)
      unfold therm at this
      rw [this]
      exact ⟨rfl, rfl⟩
    · intro a v h hp
      by_cases g : a = c
      · subst g
        have : (thermRestart a v).therm a = _ := getD_modAt (d := ({} : ThermCell)) (by rw [h]; exact hl)
        unfold therm at this
        rw [this]
        exact ⟨rfl, rfl⟩
      · have : (thermRestart a v).therm c = v.therm c := getD_modAt_ne g
        unfold therm at this
        rw [this]
        exact hp
theorem softBlock_mode {z : State} : (softBlock 5 z).mode.sps = List.replicate 16 {} ∧ (softBlock 5 z).mode.sub = 0 ∧ (softBlock 5 z).modeQ.sched = none ∧
    (softBlock 5 z).modeQ.ovl = z.modeQ.ovl ^^^ (0x17 &&& z.modeQ.ovl) ∧ (softBlock 5 z).modeQ.ended = false := by
  refine ⟨rfl, rfl, rfl, ?_, rfl⟩
  show (z.ovlEnd 0x17 true).modeQ.ovl = _
  unfold ovlEnd
  extract_lets m
  split
  · rename_i h
    rw [show (0x17 &&& z.modeQ.ovl) = 0 from h, Nat.xor_zero]
  · have k1 : ∀ v : State, v.testsEnd.modeQ = v.modeQ := fun v => (by simp : Frame 2052 v v.testsEnd).keeps .modeQ rfl
    have k2 : ∀ v : State, v.tdacsOff.modeQ = v.modeQ := fun v => (by simp : Frame 1048576 v v.tdacsOff).keeps .modeQ rfl
    have k3 : ∀ v : State, v.synthEnd.modeQ = v.modeQ := fun v => (by simp : Frame 77824 v v.synthEnd).keeps .modeQ rfl
    have q : ∀ (c : Bool) (a b : State), a.modeQ = b.modeQ → (if c then a else b).modeQ = b.modeQ := by
      intro c a b h
      cases c
      · rfl
      · exact h
    rw [q _ _ _ (k3 _), q _ _ _ (k2 _), q _ _ _ (k1 _)]
    rfl
theorem softBlock_adc {z : State} (hd : z.pwr.dom.testBit 12 = true) : ∀ x ∈ (softBlock 6 z).adc.adcs, x.st = 4 ∧ x.calAt = z.now ∧ x.entry = none := by
  intro y hy
  have e : softBlock 6 z = z.adcUp := if_pos hd
  rw [e] at hy
  have hy' : y ∈ List.map _ _ := hy
  rw [List.mem_map] at hy'
  obtain ⟨x, -, rfl⟩ := hy'
  exact ⟨rfl, rfl, rfl⟩
theorem softBlock_cmp {z : State} (hd : z.pwr.dom.testBit 13 = true) (hi : z.inForce = true) : (softBlock 7 z).cmp.checks = (List.range 24).filter fun k => (z.cmpDecl k).sense != 0 := by
  have e : softBlock 7 z = z.cmpWarm.cmpUp.checksBegin := if_pos (by rw [hd, hi]; rfl)
  rw [e]
  have k1 : ∀ v : State, v.checksBegin.cmp.checks = v.cmp.checks := fun v => by unfold checksBegin; split <;> rfl
  rw [k1]
  unfold cmpUp
  exact each_keeps (fun v : State => v.cmp.checks = (List.range 24).filter fun k => ((z.cmpWarm).cmpDecl k).sense != 0) _ _ _ rfl fun k _ v h => (cmpStart_checks k).trans h
theorem softBlock_mesh {z : State} : ∀ c ∈ (softBlock 8 z).mesh.convs, c.st = 0 ∧ c.out = [] ∧ c.queue = [] := by
  intro c hc
  have hc' : c ∈ List.map _ _ := hc
  rw [List.mem_map] at hc'
  obtain ⟨x, -, rfl⟩ := hc'
  exact ⟨rfl, rfl, rfl⟩
theorem softBlock_pair {z : State} : (softBlock 9 z).pair.st = (if z.cfg.topo.pair then 1 else 0) ∧ (softBlock 9 z).pair.mirror = false ∧ (softBlock 9 z).pair.taking = false ∧
    (softBlock 9 z).pair.bist = 0 ∧ (softBlock 9 z).pair.healthPer = 0 := by
  refine ⟨?_, rfl, rfl, rfl, rfl⟩
  show (pairWaiting z).pair.st = _
  unfold pairWaiting
  extract_lets a3
  have f : Frame 25167372 z a3 := Eq.mpr (Frame.each fun _ _ => by simp) (by simp)
  have : a3.heldOut.cfg = z.cfg := congrArg (fun i : Img => i.desc.getD {}) ((by simp : Frame 25167372 a3 a3.heldOut).keeps .img rfl |>.trans (f.keeps .img rfl))
  rw [← this]
  rfl
theorem fireTrip_safe {w : Nat} {z : State} : (z.fireTrip w).safe = z.safe := (by simp : Frame 10661900 z (z.fireTrip w)).keeps .safe rfl
theorem event_safe {c : Nat} {d : Bytes} {z : State} : (z.event c d).safe = z.safe := rfl
theorem trip36 {z y : State} (h : z.inForce = true) (g : z.latched 36 = false) (hi : y.img = z.img) (hc : y.cmp = z.cmp) : (y.fireTrip 36).cmp.latch = z.cmp.latch.set 36 true := by
  rw [fireTrip_latch (by unfold inForce; rw [hi]; exact h) (by unfold latched; rw [hc]; exact g), hc]
theorem islandFault_all {c : Nat} {z : State} : (islandFault c z).safe = { soffOff z.safe with st := 4, cause := c, evt := setBit z.safe.evt 1 } ∧
    (z.inForce = true → z.latched 36 = false → (islandFault c z).cmp.latch = z.cmp.latch.set 36 true) := by
  unfold islandFault
  exact ⟨fireTrip_safe, fun h g => trip36 h g rfl rfl⟩
theorem islandLatch_all {c p : Nat} {z : State} : (islandLatch c p z).safe = { soffOff z.safe with
      st := 1, cause := c, pair := p, evt := if z.safe.st = 2 ∨ z.safe.st = 3 then setBit z.safe.evt 0 else z.safe.evt } ∧
    (z.inForce = true → z.latched 36 = false → (islandLatch c p z).cmp.latch = z.cmp.latch.set 36 true) := by
  unfold islandLatch
  simp only [fireTrip_safe]
  by_cases h : z.safe.st = 2 ∨ z.safe.st = 3
  · have e : (z.safe.st == 2 || z.safe.st == 3) = true := by simpa using h
    simp only [e, h, if_true]
    exact ⟨rfl, fun h g => trip36 h g rfl rfl⟩
  · have e : (z.safe.st == 2 || z.safe.st == 3) = false := by simpa using h
    simp only [e, h, if_false, Bool.false_eq_true]
    exact ⟨rfl, fun h g => trip36 h g rfl rfl⟩
theorem islandInit_all {z : State} : (islandInit z).safe = { soffOff z.safe with st := 0 } ∧
    (z.inForce = true → z.latched 36 = false → (islandInit z).cmp.latch = z.cmp.latch.set 36 true) := ⟨fireTrip_safe, fun h g => trip36 h g rfl rfl⟩
abbrev sinState (ch : Nat) (high : Bool) (z : State) : State := pairEval (ch / 2) (onSafe (fun x => { x with sin := x.sin.set ch high }) z)
theorem sinState_demand {ch : Nat} {high : Bool} {z : State} (h : ch / 2 < z.safe.pairs.length) :
    (pairS (sinState ch high z) (ch / 2)).demand = (!at' (z.safe.sin.set ch high) (2 * (ch / 2)) false || !(at' (z.safe.sin.set ch high) (2 * (ch / 2) + 1) false != (z.pairDecl (ch / 2)).anti)) :=
  congrArg PairS.demand (getD_modAt (d := ({} : PairS)) h)
theorem sinState_same {ch : Nat} {high : Bool} {z : State} : (sinState ch high z).safe.sin = z.safe.sin.set ch high ∧ (sinState ch high z).img = z.img ∧ (sinState ch high z).cmp = z.cmp ∧
    (sinState ch high z).safe.st = z.safe.st ∧ (sinState ch high z).safe.cause = z.safe.cause ∧ (sinState ch high z).safe.soffA = z.safe.soffA ∧ (sinState ch high z).safe.soffB = z.safe.soffB ∧
    (sinState ch high z).pairUsed (ch / 2) = z.pairUsed (ch / 2) ∧ Frame 4194304 z (sinState ch high z) :=
  ⟨rfl, rfl, rfl, rfl, rfl, rfl, rfl, rfl, by unfold sinState pairEval; simp⟩
theorem demand_acts {p : Nat} {z : State} (h1 : z.pairUsed p = true) (h2 : (z.pairS p).demand = true) (h3 : z.safe.st = 2 ∨ z.safe.st = 3) :
    (demand p z).safe.sin = z.safe.sin ∧ (demand p z).safe.st = 1 ∧ (demand p z).safe.cause = 2 ∧ (demand p z).safe.pair = p ∧ (demand p z).safe.soffA = false ∧
    (demand p z).safe.soffB = false ∧ (demand p z).safe.pulse = none ∧ (z.inForce = true → z.latched 36 = false → (demand p z).cmp.latch = z.cmp.latch.set 36 true) := by
  have c3 : (z.safe.st == 2 || z.safe.st == 3) = true := by simpa using h3
  unfold demand
  rw [if_pos (by rw [h1, h2, c3]; rfl)]
  extract_lets y
  have hy : y.safe.sin = z.safe.sin ∧ y.img = z.img ∧ y.cmp = z.cmp := by
    simp only [y]
    split <;> exact ⟨rfl, rfl, rfl⟩
  have k := @islandLatch_all 2 p y
  rw [k.1]
  refine ⟨hy.1, rfl, rfl, rfl, rfl, rfl, rfl, fun g1 g2 => ?_⟩
  rw [k.2 (by unfold inForce; rw [hy.2.1]; exact g1) (by unfold latched; rw [hy.2.2]; exact g2), hy.2.2]
theorem countedEdge_ready {z : State} (h1 : z.safe.st = 1) (h2 : z.pairsReady = true) (h3 : z.safe.vddBad = false) :
    (countedEdge z).safe = { z.safe with st := 2 } ∧ (countedEdge z).cmp.latch = z.cmp.latch.mapIdx fun i x => x && i != 36 := by
  unfold countedEdge
  rw [if_pos ⟨h1, h2, by rw [h3]; rfl⟩]
  have kc : ∀ z : State, (clearTrips [36] z).safe = z.safe := fun z => (by simp : Frame 2117636 z (clearTrips [36] z)).keeps .safe rfl
  refine ⟨(kc _).trans rfl, ?_⟩
  rw [clearTrips_latch]
  simp only [List.contains_cons, List.contains_nil, Bool.or_false, bne]
  rfl
theorem countedEdge_not {z : State} (h : ¬(z.safe.st = 1 ∧ z.pairsReady = true ∧ z.safe.vddBad = false)) : countedEdge z = onSafe (fun x => { x with evt := setBit x.evt 2 }) z := by
  unfold countedEdge
  refine if_neg ?_
  intro c
  exact h ⟨c.1, c.2.1, by have := c.2.2; simpa using this⟩
theorem gatePower_all {z : State} : z.gatePower.safe.gpReq = z.modeQ.gpReq ∧
    (z.safe.st = 2 → z.modeQ.gpReq = true → z.gatePower.safe = { z.safe with gpReq := true, st := 3, soffA := true, soffB := true, testAt := z.now, tickAt := z.now, pulse := none }) ∧
    (z.safe.st = 3 → z.modeQ.gpReq = false → z.gatePower.safe = { z.safe with gpReq := false, st := 2, soffA := false, soffB := false, pulse := none }) ∧
    (z.safe.st ≠ 2 → z.safe.st ≠ 3 → z.gatePower.safe = { z.safe with gpReq := z.modeQ.gpReq }) := by
  unfold gatePower
  simp only [onSafe_safe]
  refine ⟨?_, ?_, ?_, ?_⟩
  · split
    · rfl
    · split <;> rfl
  · intro g1 g2
    rw [if_pos ⟨g1, g2⟩]
    simp_all
  · intro g1 g2
    rw [if_neg (by simp [g1]), if_pos (by simp [g1, g2])]
    simp_all [soffOff]
  · intro g1 g2
    rw [if_neg (by simp [g1]), if_neg (by simp [g2])]
theorem openUnknown_ctx {o : OpenCmd} {code node : Nat} {z : State} : CtxSame z (openUnknown o code node z) := by
  unfold openUnknown
  refine CtxSame.trans (w := z.openDrop o) (.of rfl rfl) ?_
  extract_lets y c k y1 y2
  have h1 : CtxSame y y1 := .host ((by simp : Frame 1024 y (y.jKnow o.jidx (settle o { status := 7 } y))).keeps .host rfl)
  have h2 : CtxSame y1 y2 := by
    simp only [y2]
    split
    · exact .host rfl
    · unfold spoil
      exact .of rfl rfl
  exact (h1.trans h2).trans finishCpl_ctx
theorem gopDiscard_ctx {z : State} : CtxSame z (gopDiscard z) := by
  unfold gopDiscard
  extract_lets m any
  split
  · exact .host rfl
  · exact CtxSame.trans (w := z) (.host rfl) (CtxSame.trans (.of rfl rfl) (each_ctx (fun _ _ => openUnknown_ctx) _))
theorem heldFlush_ctx {z : State} : CtxSame z (heldFlush z) := .trans (.of rfl rfl) (each_ctx (fun _ _ => release_ctx) _)
theorem pairWaiting_ctx {z : State} : CtxSame z (pairWaiting z) := by
  unfold pairWaiting
  extract_lets y y1
  have h1 : CtxSame z y := each_ctx (fun _ _ => openUnknown_ctx) _
  have h2 : CtxSame y y1 := CtxSame.trans (w := y.onHost fun x => { x with held := x.held.map fun k => { k with mir := false } }) (.of rfl rfl) heldFlush_ctx
  exact (h1.trans h2).trans (.host rfl)
theorem relock_locked {src sess : Nat} {z : State} : (z.relock src sess).safe.unlocked = false := by
  unfold relock
  split
  · rfl
  · rename_i g
    exact Bool.eq_false_iff.mpr g
theorem hostWarm_st {z : State} (c : Nat) : (z.hostWarm.ctx c).st = 0 ∨ (z.hostWarm.ctx c).st = 3 := by
  show Ctx.st (List.getD (List.map _ z.host.ctxs) c _) = 0 ∨ Ctx.st (List.getD (List.map _ z.host.ctxs) c _) = 3
  rw [List.getD_eq_getElem?_getD, List.getElem?_map]
  cases z.host.ctxs[c]? with
  | none => exact .inl rfl
  | some y =>
    show Ctx.st (if y.st = 0 then y else _) = 0 ∨ Ctx.st (if y.st = 0 then y else _) = 3
    split
    · left; assumption
    · right; rfl
theorem warmStart_all {src : Src} {z : State} : (warmStart src z).pwr = { z.pwr with
      warm := true, busy := true, cause := 4, causeSrc := src.code, warmCnt := sat16 z.pwr.warmCnt 1, soft := 0, reload := false } ∧
    (warmStart src z).safe.unlocked = false ∧ (∀ c, (at' (warmStart src z).seam.cells c {}).st = 0) ∧ (warmStart src z).img.erasing = [] ∧ (warmStart src z).img.writing = [] ∧
    (warmStart src z).img.fwSt = 0 ∧ ∀ c, ((warmStart src z).ctx c).st = 0 ∨ ((warmStart src z).ctx c).st = 3 := by
  unfold warmStart
  extract_lets y0 y1 y2 y3 y4 y5
  have f1 : Frame 29343404 y0 y1 := by
    show Frame _ y0 (if _ then _ else _)
    split
    · simp
    · simp
  have f2 : Frame 29343404 y0 y2 := by
    refine f1.trans ?_
    show Frame _ y1 (onModeQ _ (ovlEnd _ _ y1))
    simp
  have p2 : y2.pwr = y0.pwr := f2.keeps .pwr rfl
  have f34 : Frame 13056 (y2.relock src.code 0) y3 := by
    show Frame _ _ (((y2.relock src.code 0).hostWarm.imgWarm).seamWarm.edgWarm)
    simp
  have f5 : Frame 11372204 y3 y5 := by
    show Frame _ y3 (onSys _ (y3.traceStopped.balWarm.modeWarm.cmpWarm).meshWarm)
    simp
  have f6 : Frame 27272748 y5 (driveTripn (lpwmHiz (pairWaiting y5))) := by simp
  have f46 : Frame 28157612 y3 (driveTripn (lpwmHiz (pairWaiting y5))) := (f5.widen rfl).trans (f6.widen rfl)
  have e3 : y3.host = (y2.relock src.code 0).hostWarm.host := (by simp : Frame 12544 _ (((y2.relock src.code 0).hostWarm.imgWarm).seamWarm.edgWarm)).keeps .host rfl
  have k4 : (driveTripn (lpwmHiz (pairWaiting y5))).img.erasing = [] ∧ (driveTripn (lpwmHiz (pairWaiting y5))).img.writing = [] ∧ (driveTripn (lpwmHiz (pairWaiting y5))).img.fwSt = 0 := by
    rw [f46.keeps .img rfl, show y3.img = ((y2.relock src.code 0).hostWarm.imgWarm).img from (by simp : Frame 12288 _ (((y2.relock src.code 0).hostWarm.imgWarm).seamWarm.edgWarm)).keeps .img rfl]
    exact ⟨rfl, rfl, rfl⟩
  refine ⟨?_, ?_, ?_, ?_, ?_, ?_, ?_⟩
  · rw [f46.keeps .pwr rfl, f34.keeps .pwr rfl, (by simp : Frame 4325376 y2 (y2.relock src.code 0)).keeps .pwr rfl, p2]
    rfl
  · rw [f46.keeps .safe rfl, f34.keeps .safe rfl]
    exact relock_locked
  · intro c
    rw [f46.keeps .seam rfl, show y3.seam = ((y2.relock src.code 0).hostWarm.imgWarm).seamWarm.seam from (by simp : Frame 8192 _ (((y2.relock src.code 0).hostWarm.imgWarm).seamWarm.edgWarm)).keeps .seam rfl]
    exact seamWarm_cell c
  · exact k4.1
  · exact k4.2.1
  · exact k4.2.2
  · intro c
    have g1 : CtxSame y3.traceStopped.balWarm.modeWarm.cmpWarm y4 := CtxSame.trans gopDiscard_ctx (.host rfl)
    have g0 : CtxSame y3 y3.traceStopped.balWarm.modeWarm.cmpWarm := .host ((by simp : Frame 2981888 y3 y3.traceStopped.balWarm.modeWarm.cmpWarm).keeps .host rfl)
    have g2 : CtxSame y5 (driveTripn (lpwmHiz (pairWaiting y5))) := CtxSame.trans pairWaiting_ctx (.host ((by simp : Frame 2105376 (pairWaiting y5) (driveTripn (lpwmHiz (pairWaiting y5)))).keeps .host rfl))
    have g3 : CtxSame y3 (driveTripn (lpwmHiz (pairWaiting y5))) := (g0.trans g1).trans (CtxSame.trans (w := y5) (.host rfl) g2)
    rw [(g3.2 c).1]
    have : y3.ctx c = (y2.relock src.code 0).hostWarm.ctx c := by unfold ctx; rw [e3]
    rw [this]
    exact hostWarm_st c
theorem hostWait_fwFail {n : Nat} {z : State} : (hostWait n z).pwr.fwFail = z.pwr.fwFail := by
  unfold hostWait
  extract_lets a1 a2 a3 a4 a5
  have k1 : Frame 2180 a5 (lanesWait (n == 4) a5).outsSync := by simp
  have k2 : Frame 7340032 a3 a4 := by simp [a4]
  have k3 : a2.pwr = a1.pwr := by
    simp only [a2]
    split
    · exact (by simp : Frame 33554348 a1 a1.imageDrop).keeps .pwr rfl
    · rfl
  have k4 : a3.pwr = a2.pwr := by
    simp only [a3]
    split <;> rfl
  rw [k1.keeps .pwr rfl]
  show a4.pwr.fwFail = _
  rw [k2.keeps .pwr rfl, k4, k3]
  rfl
theorem slotSt_hostWait {n k : Nat} {z : State} : (slotSt n k z).img.hostWait = z.img.hostWait := by
  unfold slotSt imgSts
  show ((if n = 0 then _ else _ : Img)).hostWait = _
  split
  · rfl
  · split <;> rfl
theorem armStops_hostWait {z : State} : (armStops z).img.hostWait = z.img.hostWait := by
  unfold armStops
  split
  · split
    · exact slotSt_hostWait
    · rfl
  · rfl
theorem valAbandon_hostWait {z : State} : (valAbandon z).img.hostWait = z.img.hostWait := by
  unfold valAbandon
  split
  · rfl
  · extract_lets a b
    have e : b.img.hostWait = z.img.hostWait := by
      simp only [b]
      split <;> rfl
    split
    · exact e
    · exact slotSt_hostWait.trans e
theorem swapCancel_hostWait {n : Nat} {z : State} : (swapCancel n z).img.hostWait = z.img.hostWait := by
  unfold swapCancel
  split
  · exact armStops_hostWait
  · rfl
theorem imgSts_drop (y : State) : (y.imgSts fun i => { i with
    desc := none, work := [], workLen := 0, safety := {}, held := none, src := 0, id := 0, fellBack := false, sigChecked := false }).img.hostWait = y.img.hostWait := rfl
theorem convsDown_st {y : State} : ∀ c ∈ (convsDown y).mesh.convs, c.st = 0 := by
  intro c hc
  have hc' : c ∈ List.map _ _ := hc
  rw [List.mem_map] at hc'
  obtain ⟨x, -, rfl⟩ := hc'
  rfl
theorem imageDrop_all {w : State} : w.imageDrop.img.desc = none ∧ w.imageDrop.cmp.latch = List.replicate 37 false ∧ w.imageDrop.img.hostWait = w.img.hostWait := by
  unfold imageDrop
  extract_lets a0 a1 a2 a3 a4 a5 a6 a7
  have f : Frame 25167372 a7 a7.pairWaiting := by simp
  have f0 : a0.img.hostWait = w.img.hostWait := rfl
  have f1 : a1.img.hostWait = a0.img.hostWait := by
    have g1 : Frame 1652740 a0 (a0.ovlEnd 0x16 true) := by simp
    have g3 : ∀ y : State, y.gopDiscard.img = y.img := fun y => (by simp : Frame 8914572 y y.gopDiscard).keeps .img rfl
    simp only [a1]
    rw [valAbandon_hostWait, g3, swapCancel_hostWait, g1.keeps .img rfl]
  have f2 : Frame 33554092 a1 a6 := by simp [a6, a5, a4, a3, a2]
  have f3 : a7.img.hostWait = a6.img.hostWait := imgSts_drop a6
  refine ⟨?_, ?_, ?_⟩
  · rw [onPair_img, onSafe_img, f.keeps .img rfl]
    rfl
  · rw [onPair_cmp, onSafe_cmp, f.keeps .cmp rfl]
    rfl
  · rw [onPair_img, onSafe_img, f.keeps .img rfl]
    show a7.img.hostWait = _
    rw [f3, f2.keeps .img rfl, f1, f0]
theorem reloadStart_all {src : Src} {z : State} : (reloadStart src z).pwr = { z.pwr with
      reload := true, busy := true, cause := 5, causeSrc := src.code, reloadCnt := sat16 z.pwr.reloadCnt 1 } ∧
    (reloadStart src z).img.desc = none ∧ (reloadStart src z).img.hostWait = z.img.hostWait ∧ (reloadStart src z).cmp.latch = List.replicate 37 false ∧
    ∀ c ∈ (reloadStart src z).mesh.convs, c.st = 0 := by
  unfold reloadStart
  extract_lets a0
  have f0 : Frame 1652740 a0 (a0.ovlEnd 0x17 true) := by simp
  have f1 : Frame 2052 (a0.ovlEnd 0x17 true) (a0.ovlEnd 0x17 true).testsEnd := by simp
  generalize hx : (a0.ovlEnd 0x17 true).testsEnd = x at f1
  have f2 : Frame 33554348 x x.imageDrop := by simp
  have f3 : Frame 25167372 x.imageDrop x.imageDrop.convsDown := by simp
  obtain ⟨k1, k2, k3⟩ := imageDrop_all (w := x)
  refine ⟨?_, ?_, ?_, ?_, convsDown_st⟩
  · rw [f3.keeps .pwr rfl, f2.keeps .pwr rfl, f1.keeps .pwr rfl, f0.keeps .pwr rfl]
    rfl
  · rw [f3.keeps .img rfl]
    exact k1
  · rw [f3.keeps .img rfl, k3, f1.keeps .img rfl, f0.keeps .img rfl]
    rfl
  · rw [f3.keeps .cmp rfl]
    exact k2
theorem warmEnd_all {z : State} : (warmEnd z).pwr = { z.pwr with
      warm := false, busy := false } ∧ (warmEnd z).jnl.next = z.jnl.next + 1 ∧ ∀ x ∈ (warmEnd z).edg.lpwm, x.run = false := by
  unfold warmEnd
  extract_lets y0 z0 y1 y2 y3
  have f1 : Frame 16781316 y1 y3 := by
    show Frame _ y1 (each _ _ (if _ then _ else _))
    refine Eq.mpr (Frame.each fun _ _ => by simp) ?_
    split
    · simp
    · simp
  refine ⟨?_, ?_, ?_⟩
  · rw [jEvent_pwr, f1.keeps .pwr rfl]
    rfl
  · rw [jEvent_next, f1.keeps .jnl rfl]
    rfl
  · rw [jEvent_edg, f1.keeps .edg rfl]
    intro x hx
    have : y1.edg.lpwm = y0.edg.lpwm.mapIdx fun _ x => { lpwmOff x with hiz := z0 } := rfl
    rw [this, List.mem_mapIdx] at hx
    obtain ⟨i, h, rfl⟩ := hx
    rfl
theorem goPark_all {n : Nat} {z : State} : (goPark n z).pwr.parked = true ∧ (goPark n z).pwr.dom = 3 ∧ (goPark n z).bal.dieShut = z.bal.dieShut ∧ (goPark n z).mode = {} ∧ (goPark n z).jnl = {} ∧
    (goPark n z).img.desc = none ∧ (n = 0 → (goPark n z).pwr.wakeAt = none) := by
  refine ⟨rfl, rfl, rfl, rfl, rfl, rfl, fun h => ?_⟩
  subst h
  rfl

end Sys2Proof.Machine
end

