-- ==== Sys2Proof/WellFormed.lean ====
section
/-! DEFINITION. Which commands are well formed: every operand lies in the range its row can carry (payload fields, frame fields and index
spaces of the register map). A meaning is total all the same; what it does with an operand in range that names nothing declared is its own. -/
namespace Sys2Proof

/-- A record header's fields fit their widths (R106). -/
def RecHdr.fits (h : RecHdr) : Bool :=
  decide (h.ring < 32 ∧ h.sess < 65536 ∧ h.seq < 2 ^ 32 ∧ h.node < 256 ∧ h.flags < 256 ∧ h.target < 2 ^ 32)
/-- Blocks received on a lane: 2 header bits and 64 payload bits each (R201). -/
def LaneRx.fits (x : LaneRx) : Bool := decide (x.lane < 40 ∧ x.pre < 2 ^ 58 ∧ x.slot < 16384) && x.blocks.all fun b => decide (b.hdr < 4 ∧ b.pay < 2 ^ 64)
/-- What a peer port's two lanes receive (R575): lanes PL0 to PL7 are lanes 32 to 39. -/
def PortRx.fits (x : PortRx) : Bool := decide (x.port < 4) && x.even.fits && x.odd.fits && x.even.lane == 32 + 2 * x.port && x.odd.lane == 33 + 2 * x.port
/-- A DISC payload (R587). -/
def DiscData.fits (d : DiscData) : Bool := decide ((d.node < 64 ∨ d.node = 255) ∧ d.run < 8 ∧ d.imageId < 2 ^ 32 ∧ d.kF < 65536 ∧ d.outPhase < 65536 ∧ d.pairMember < 4)
/-- The content of a DATA frame (R590). -/
def Item.fits : Item → Bool
  | .record h opcode payload => h.fits && decide (opcode < 65536 ∧ payload.length ≤ 228)
  | .result sess seq _ => decide (sess < 65536 ∧ seq < 2 ^ 32)
  | .read off | .write off _ => decide (off < 0x400000)
  | .safeNotice period => decide (period < 2 ^ 32)
  | .empty | .readResult _ | .part _ _ => true
/-- A journal entry (R136). -/
def JEntry.fits (e : JEntry) : Bool :=
  decide (e.index < 2 ^ 64 ∧ e.time < 2 ^ 64 ∧ e.sess < 65536 ∧ e.src < 8 ∧ e.origin < 256 ∧ e.seq < 2 ^ 32 ∧ e.opcode < 65536 ∧ e.result < 256 ∧
    e.flags < 256 ∧ e.target < 2 ^ 32 ∧ e.effPeriod < 2 ^ 32 ∧ e.tnode < 256 ∧ e.digest.length = 16 ∧ e.boot < 2 ^ 32)
/-- The PAIR frames' contents (R618). -/
def InputSet.fits (i : InputSet) : Bool := decide (i.period < 2 ^ 32 ∧ i.words.length ≤ 16 ∧ i.stale.length ≤ 16 ∧ i.vars.length ≤ 64)
def RefsFrame.fits (r : RefsFrame) : Bool :=
  decide (r.period < 2 ^ 32 ∧ r.epoch < 65536 ∧ r.mode < 16 ∧ r.target < 16 ∧ r.safeReason < 256 ∧ r.sps.length ≤ 16 ∧ r.mirrorNo < 2 ^ 32 ∧ r.paths < 2 ^ 32)
def CmdFrame.fits (c : CmdFrame) : Bool :=
  c.h.fits && decide (c.opcode < 65536 ∧ c.payload.length ≤ 228 ∧ c.mirrorNo < 2 ^ 32 ∧ c.jidx < 2 ^ 64 ∧ c.acceptTime < 2 ^ 64)
def HealthFrame.fits (f : HealthFrame) : Bool :=
  decide (f.word < 2 ^ 64 ∧ f.ackCmd < 2 ^ 32 ∧ f.ackJnl < 2 ^ 64) && f.marks.all fun m => decide (m.1 < 32 ∧ m.2.1 < 256)
/-- The ranges of an image's sections that nothing else checks: DISC_WIN (R69), spread (R193), compensation tables (R184), the
instants of a list and a merge (R380). -/
def ImgDesc.fits (d : ImgDesc) : Bool :=
  decide (10 ≤ d.host.discWinMs ∧ d.host.discWinMs ≤ 10000) && decide (d.topo.ssc.mode < 3 ∧ d.topo.ssc.rate < 64 ∧ d.topo.ssc.depth < 256) &&
    d.cal.trims.all (fun b => b.length == 64) && d.arms.all fun a => decide (a.listAt < 65536 ∧ a.mergeAt < 65536 ∧ a.sortCycle < 65536)
/-- A lane instruction's fields (R325). -/
def LaneOp.fits : LaneOp → Bool
  | .shuffle a b c d => decide (a < 4 ∧ b < 4 ∧ c < 4 ∧ d < 4)
  | .broadcast l => decide (l < 4)
  | .negate m => decide (m < 16)
  | .reduce => true

/-- The operands fit what the row can carry. -/
def Instr.wf : Instr → Bool
  | .sampleLatch _ | .benchStart _ | .benchFinishDeadline _ | .benchFaultEscalation _ | .outputPhase _ | .traceDone _ | .compileStop _
  | .edgePeriodOpening _ | .interpStart _ | .thermalPass _ | .scrubPass _ | .presenceFitWindow _ | .bootValidation _ | .swapBoundary _
  | .swapCancel _ _ | .fwWriteDone _ _ | .fwSwitchRestart _ | .fwSwitchDone _ _ | .hostLossPolicy _ | .journalSpill _ | .clkTimeLoRead _ _ _
  | .jnlLoRead _ _ _ _ | .spiTransaction _ _ | .refFrequencyCount _ _ | .refCountRetry _ _ | .bandFound _ | .acquisitionTimeout _ | .lockSearchRetry _
  | .lockDeclared _ _ _ | .alignmentDone _ | .referenceLoss _ | .lossOfLock _ _ _ _ | .referenceReturn _ _ _ _ | .slewDone _ | .refChangeRelock _
  | .meshReferenceLoss _ | .meshReferenceSwitch _ | .timeLoadAct _ | .outpllLocked _ _ _ | .outpllLossOfLock _ _ _ | .clkOutpllCfgWrite _ _ _
  | .dieFastRateEnd _ | .dieShutdown _ | .eventRecordWrite _ | .eventSectorErase _ | .identQueryTimer _ | .meshModeBoundary _ | .prechargeP1Timeout _
  | .prechargeP2Timeout _ | .prechargeRelayOff _ | .prechargeComplete _ | .startMaxExpiry _ | .runStartConditions _ | .gridCoastDetect _
  | .gridReturn _ | .resyncComplete _ | .coastMaxExpiry _ | .overloadCount _ | .flyingStartFound _ | .fsTmaxExpiry _ | .catchTExpiry _
  | .driveCoastEnd _ | .zeroSpeedCount _ | .brkFault _ | .cmpPowerupChecks _ | .tripnLow _ _ | .tripnIgnoreEnd _ | .tripReleaseLanding _
  | .safeRstEdge _ _ | .rstStuck _ | .gatePowerRequest _ | .testPulse _ | .testPulseEnd _ | .soffReadbackFailure _ _ | .livenessTimeout _
  | .safeClockCheck _ _ _ | .vddSafeFault _ | .unlockTimeout _ | .lockoutEnd _ | .discSend _ | .isolated _ | .floodRepeat _ | .barArriveResend _
  | .barrierTimeout _ | .snapshotExecute _ | .scheduledResetExecute _ | .confirmWindowExpiry _ | .syncEnd _ | .cmdMirrorTimeout _ | .healthMissed _
  | .standbyCompile _ | .standbyBenchStart _ | .waitingTimeout _ | .detachedTimeout _ | .handoverBoundary _ | .failbackHoldExpiry _ | .powerOnReset _
  | .porReleaseTimer _ _ | .riseWindowExpiry _ | .resetN _ | .firmwareBootDone _ _ _ | .warm _ _ | .warmResetEnd _ | .reload _ _
  | .powerStateChangeDone _ | .wakeTimerExpiry _ | .laneSoftReset _ _ | .seamSoftReset _ _ | .edgSoftReset _ _ | .bncSoftReset _ _ | .balSoftReset _ _
  | .modeSoftReset _ _ | .adcSoftReset _ _ | .cmpSoftReset _ _ | .meshSoftReset _ _ | .pairSoftReset _ _ | .softResetDone _ | .resetNRelease _ _
  | .safeRstRelease _ _ | .vddSafeRecovery _ => true
  | .commitLanding _ g | .localSetDeadline _ g => decide (g < 64)
  | .compileStart _ mismatch slow => (mismatch.all fun i => decide (i < 128)) && (slow.all fun i => decide (i < 128))
  | .shipSlot _ c | .derateRestartEnd _ c | .babbleCut _ c | .ctrlRetryTimeout _ c | .cellLostTimeout _ c | .preTimeoutExpiry _ c
  | .fwRebootTimeout _ c | .cellBypassTimeout _ c | .copyWindowExpiry _ c => decide (c < 128)
  | .edgeFrameShip _ seam | .tripBlockRepeat _ seam => decide (seam < 16)
  | .lpwmTransition _ j => decide (j < 32)
  | .benchArithmetic _ b _ d x y z | .benchSelect _ b _ d x y z =>
    decide (b < 16) && decide (d < 32) && decide (x < 32) && decide (y < 32) && decide (z < 32)
  | .benchLane _ b op d x y => decide (b < 16) && op.fits && decide (d < 32) && decide (x < 32) && decide (y < 32)
  | .benchConvert _ b _ d x _ | .benchEstimate _ b _ d x => decide (b < 16) && decide (d < 32) && decide (x < 32)
  | .benchLoad _ b d _ n => decide (b < 16) && decide (d < 32) && decide (1 ≤ n ∧ n ≤ 4)
  | .benchStore _ b x _ n => decide (b < 16) && decide (x < 32) && decide (1 ≤ n ∧ n ≤ 4)
  | .benchLoop _ b len _ => decide (b < 16) && decide (1 ≤ len ∧ len ≤ 64)
  | .benchEnd _ b | .cordicResult _ b | .sortRequest _ b _ | .sortResult _ b | .rcResult _ b => decide (b < 16)
  | .cordicRequest _ b fn d x => decide (b < 16) && decide (fn < 16) && decide (d < 32) && decide (x < 32)
  | .rcRequest _ b loop x => decide (b < 16) && decide (loop < 32) && decide (x < 32)
  | .armSort _ arm | .armSortResult _ arm | .balListSend _ arm | .balMerge _ arm | .balSliceDeadline _ arm | .mergeLost _ arm => decide (arm < 16)
  | .interpDeadline _ late => (late.all fun i => decide (i < 32))
  | .thermalDeadline _ late => (late.all fun i => decide (i < 128))
  | .balListReceive _ x | .balSliceReceive _ x | .markerReceived _ x | .farLoopOn _ x | .farLoopOff _ x | .sleepNotice _ x | .feed _ x | .ack _ x
  | .nak _ x | .identityAnswer _ x | .cellTripBlock _ x | .wordFrameReceive _ x | .timeFrame _ x _ _ _ _ | .linkFrame _ x _ _ | .meshTripFlood _ x
  | .bcastReg _ x | .barArrive _ x | .barRelease _ x | .snap _ x | .resetSymbol _ x | .resetBlockSymbol _ x | .modeSymbol _ x | .lossSymbol _ x
  | .safeSymbol _ x | .tloadAt _ x | .tloadVal _ x | .confirm _ x | .partnerEdgeSeen _ x => x.fits
  | .sramUncorrectableError _ region bench _ | .sramCorrectedError _ region bench => decide (region < 32) && decide (bench < 16)
  | .imgBufOpen _ h | .imgBufClose _ h | .imgRecheck _ h | .imgDisarm _ h | .imgFwSwitch _ h | .sessionClose _ h | .keepalive _ h | .takeControl _ h
  | .releaseControl _ h | .cellRejoin _ h | .cellBypass _ h | .cellExclude _ h | .traceArm _ h | .traceStop _ h | .traceForce _ h | .thermReinit _ h
  | .modeLossClear _ h | .adcCal _ h | .cmpCheck _ h | .tripRelease _ h | .safeLock _ h | .safeCtlWrite _ h _ | .meshBarrier _ h | .pairResync _ h =>
    h.fits
  | .imgSlotErase _ h slot | .imgSetBoot _ h slot => h.fits && decide (slot < 2 ^ 32)
  | .slotEraseDone _ slot | .slotWriteDone _ slot => decide (slot < 2)
  | .imgSlotWrite _ h slot len => h.fits && decide (slot < 2 ^ 32) && decide (len < 2 ^ 32)
  | .imgLoad _ h source len | .imgArm _ h source len => h.fits && decide (source < 2 ^ 32) && decide (len < 2 ^ 32)
  | .imageValidationDone _ desc | .armingDone _ desc => desc.fits
  | .imgSwap _ h period | .pairSwitch _ h period => h.fits && decide (period < 2 ^ 32)
  | .imgFwWrite _ h len => h.fits && decide (len < 2 ^ 32)
  | .sessionOpen _ h ctx role => h.fits && decide (ctx < 2 ^ 8) && decide (role < 2 ^ 8)
  | .resume _ h lastSeq => h.fits && decide (lastSeq < 2 ^ 32)
  | .hostSessCtlStart _ _ ctx | .ringAccessFailure _ ctx | .leaseExpiry _ ctx | .parkKeepExpiry _ ctx => decide (ctx < 32)
  | .hostSqTailWrite _ _ ctx v | .hostCqHeadWrite _ _ ctx v => decide (ctx < 32) && decide (v < 2 ^ 32)
  | .recordFetch _ bytes => decide (bytes.length ≤ 256)
  | .hostMbxDoorbell _ m => decide (m < 2)
  | .remoteResult _ node sess seq _ => decide (node < 64) && decide (sess < 65536) && decide (seq < 2 ^ 32)
  | .regWrite _ h off _ | .meshBcastReg _ h off _ => h.fits && decide (off < 2 ^ 32)
  | .registerWrite _ _ off size v => decide (off < 0x400000) && decide (size ≤ 64) && decide (v < 2 ^ (8 * size))
  | .loadBufferWrite _ _ off bytes => decide (off < 0x20000) && decide (bytes.length ≤ 64)
  | .rcRead _ _ off size => decide (off < 0x400000) && decide (size ≤ 64)
  | .remoteRegisterAccess _ _ off size v => decide (off < 0x400000) && decide (size ≤ 64) && decide (v < 2 ^ 512)
  | .regacc _ dr => decide (dr < 2 ^ 64)
  | .fuseProg _ key _ _ => decide (key.length = 32)
  | .clkTimeLoad _ h time | .meshSnapshot _ h time => h.fits && decide (time < 2 ^ 64)
  | .clkOutCfgWrite _ _ n _ | .clkOutFstepWrite _ _ n _ => decide (n < 4)
  | .trimSample _ target => decide (target < 8)
  | .dieSensorSample _ readings => decide (readings.length = 8)
  | .laneTest _ h lane test loop => h.fits && decide (lane < 2 ^ 8) && decide (test < 2 ^ 8) && decide (loop < 2 ^ 8)
  | .laneRetrain _ h lane dir | .laneSleep _ h lane dir | .laneWake _ h lane dir => h.fits && decide (lane < 2 ^ 8) && decide (dir < 2 ^ 8)
  | .cdrLock _ l | .attemptTimeout _ l _ _ | .retryGapEnd _ l | .markerLost _ l | .blockLost _ l | .signalLoss _ l | .hiBer _ l _
  | .retrainAdaptationDone _ l | .txRetrainDone _ l | .rxWakeDone _ l | .txWakeDone _ l | .txSleepDone _ l | .prbsCheckerLock _ l _ _ =>
    decide (l < 40)
  | .markerSend _ q => decide (q < 10)
  | .cellAdmit _ h serial => h.fits && decide (serial < 2 ^ 64)
  | .cellFwLoad _ h off len _ => h.fits && decide (off < 2 ^ 32) && decide (len < 2 ^ 32)
  | .refStage _ h g slot vals => h.fits && decide (g < 2 ^ 8) && decide (slot < 2 ^ 16) && decide (4 * vals.length ≤ 228)
  | .refCommit _ h g | .refDiscard _ h g => h.fits && decide (g < 2 ^ 8)
  | .blankingStart _ b | .blankingEnd _ b => decide (b < 8)
  | .loopOpen _ h loop source => h.fits && decide (loop < 2 ^ 8) && decide (source < 2 ^ 8)
  | .loopClose _ h loop => h.fits && decide (loop < 2 ^ 8)
  | .loopManual _ h loop vals => h.fits && decide (loop < 2 ^ 8) && decide (4 * vals.length ≤ 228)
  | .coefWrite _ h loop idx vals => h.fits && decide (loop < 2 ^ 8) && decide (idx < 2 ^ 16) && decide (4 * vals.length ≤ 228)
  | .rcCtl _ h loop action => h.fits && decide (loop < 2 ^ 8) && decide (action < 2 ^ 8)
  | .balShare _ h enable | .pairFailback _ h enable => h.fits && decide (enable < 2 ^ 8)
  | .evsMark _ h bytes => h.fits && decide (bytes.length ≤ 12)
  | .modeSet _ h mode scope => h.fits && decide (mode < 2 ^ 8) && decide (scope < 2 ^ 8)
  | .setpoint _ h sp _ => h.fits && decide (sp < 2 ^ 8)
  | .ovlSet _ h set clear group => h.fits && decide (set < 2 ^ 8) && decide (clear < 2 ^ 8) && decide (group < 2 ^ 8)
  | .safeNoticeReceived _ node period => decide (node < 64) && decide (period < 2 ^ 32)
  | .feedbackLost _ b w => decide (b < 16) && decide (w < 512)
  | .dwellEnd _ k => decide (k < 16)
  | .adcRunStart _ a | .adcConversionDone _ a _ | .adcWake _ a | .calibrationRunning _ a | .calibrationEnd _ a _ _ => decide (a < 4)
  | .injectedRequest _ a j => decide (a < 4) && decide (j < 8)
  | .adcInject _ h d => h.fits && decide (d < 2 ^ 8)
  | .tdacSet _ h code => h.fits && decide (code < 2 ^ 16)
  | .tdacConnect _ h inp => h.fits && decide (inp < 2 ^ 8)
  | .sieveOutput _ sv _ => decide (sv < 24)
  | .sieveStuck _ k _ _ | .comparatorStageChange _ k _ | .sampledWindow _ k _ | .cmpCheckEnd _ k _ | .thresholdStep _ k | .sieveLeavesStuck _ k _ =>
    decide (k < 24)
  | .sdcStartStop _ k => decide (k < 6)
  | .cmpThresh _ h lo hi => h.fits && decide (lo < 2 ^ 16) && decide (hi < 2 ^ 16)
  | .tripPinFilter _ k _ _ | .supplyFall _ k | .supplyRise _ k => decide (k < 8)
  | .sinChannelTaken _ ch _ _ => decide (ch < 8)
  | .discrepancy _ p | .portDownUp _ p => decide (p < 4)
  | .safeUnlock _ h len pass => h.fits && decide (len < 2 ^ 8) && decide (pass.length ≤ 228)
  | .safePassSet _ h salt len pass => h.fits && decide (salt.length = 16) && decide (len < 2 ^ 8) && decide (pass.length ≤ 212)
  | .discReceive _ x d => x.fits && d.fits
  | .data _ x item => x.fits && item.fits
  | .meshAck _ x seq status => x.fits && decide (seq < 2 ^ 32) && decide (status < 256)
  | .dataRetransmit _ node | .nodeSilent _ node | .emptyDataSend _ node => decide (node < 64)
  | .meshBind _ h nodeId hops path => h.fits && decide (nodeId < 2 ^ 8) && decide (hops < 2 ^ 8) && decide (path < 2 ^ 32)
  | .meshReset _ h time kind block => h.fits && decide (time < 2 ^ 64) && decide (kind < 2 ^ 8) && decide (block < 2 ^ 8)
  | .input _ p x => p.fits && x.fits
  | .refs _ p r => p.fits && r.fits
  | .cmd _ p c => p.fits && c.fits
  | .jnl _ p e => p.fits && e.fits
  | .health _ p f => p.fits && f.fits
  | .resign _ p cause => p.fits && decide (cause < 256)
  | .handover _ p h => p.fits && decide (h < 2 ^ 32)
  | .sync _ p _ _ => p.fits
  | .fence _ epoch => decide (epoch < 65536)
  | .powerStateRequest _ _ target => decide (target < 4)
  | .pcieReferenceClockChange _ _ link => (link.all fun x => decide (1 ≤ x.1 ∧ x.1 ≤ 3 ∧ (x.2 = 1 ∨ x.2 = 2 ∨ x.2 = 4)))

end Sys2Proof
end

