-- ==== Sys2Proof/Tests/Slice0.lean ====
section
/-! SUPPORT. Tests: ill-formed commands, worked examples of the spec, and for each statement with hypotheses a state and operands that meet them. -/
open Sys2Proof Sys2Proof.Machine

namespace Sys2Proof.Machine.Tests
set_option Elab.async false
open State

/-! ### Small states -/

/-- Accepts as a test. -/
def readyBy (raw : Bytes) (h : RecHdr) (s : State) : Bool :=
  match h.src with
  | .ring => decide (h.ring < 32) && s.nextSource == some h.ring
  | .mbx0 => !(s.mbx 0).busy && (s.rung 0 raw).nextSource == some 32
  | .mbx1 => !(s.mbx 1).busy && (s.rung 1 raw).nextSource == some 33
  | _ => false
def arrives (cmd : Cmd) (h : RecHdr) (p : Bytes) (s : State) : Bool := s.hostTakes && readyBy (recRaw cmd h p) h s && decide (p.length ≤ 232) && cmd.lens p.length
def accepts (cmd : Cmd) (h : RecHdr) (p : Bytes) (s : State) : Bool :=
  arrives cmd h p s && ((s.recTaken cmd h p).sessionCheck h cmd.opcode).isNone &&
  (unsequencedOp cmd.opcode || serialDiff 32 h.seq (((s.recTaken cmd h p).renew (ctxOf h.sess)).ctx (ctxOf h.sess)).e == 0) &&
  decide (h.node = (s.intake cmd h p).node ∨ cmd.opcode = 0x0201 ∧ field p 1 1 = 1) &&
  ((s.intake cmd h p).judge cmd h p ((s.intake cmd h p).roleOk h cmd.opcode)).isNone &&
  !(s.intake cmd h p).pair.mirror && !(s.intake cmd h p).pair.holding && cmd.opcode != 3
theorem ready_ok {raw : Bytes} {h : RecHdr} {s : State} (k : readyBy raw h s = true) : s.atHand raw h := by
  unfold readyBy at k
  unfold State.atHand
  revert k
  cases h.src <;> simp
theorem arrives_ok {cmd : Cmd} {h : RecHdr} {p : Bytes} {s : State} (k : arrives cmd h p s = true) : Arrives cmd h p s := by
  unfold arrives at k
  simp only [Bool.and_eq_true, decide_eq_true_eq] at k
  obtain ⟨⟨⟨k1, k2⟩, k3⟩, k4⟩ := k
  exact ⟨k1, ready_ok k2, k3, k4⟩
theorem hosted_ok {cmd : Cmd} {h : RecHdr} {p : Bytes} {s : State} (k : (arrives cmd h p s && ((s.recTaken cmd h p).sessionCheck h cmd.opcode).isNone) = true) :
    Hosted cmd h p s := by
  simp only [Bool.and_eq_true, Option.isNone_iff_eq_none] at k
  exact ⟨arrives_ok k.1, k.2⟩
theorem accepts_ok {cmd : Cmd} {h : RecHdr} {p : Bytes} {s : State} (k : accepts cmd h p s = true) : Accepts cmd h p s := by
  unfold accepts at k
  simp only [Bool.and_eq_true, Option.isNone_iff_eq_none, decide_eq_true_eq, Bool.or_eq_true, beq_iff_eq, Bool.not_eq_true', bne_iff_ne, ne_eq] at k
  obtain ⟨⟨⟨⟨⟨⟨⟨k1, k2⟩, k3⟩, k4⟩, k5⟩, k6⟩, k7⟩, k8⟩ := k
  exact ⟨arrives_ok k1, k2, fun u => k3.resolve_left (by rw [u]; exact Bool.false_ne_true), k4, k5, ⟨k6, k7⟩, k8⟩

/-! ### Stretches of blocks -/

theorem frameFor_ok {x : PortRx} {h : MHdr} {p : Bytes} {s : State} (k : (s.portTakes x.port && meshFrames x == [(h, p, meshCrc h p)] && s.isForMe h) = true) :
    FrameFor x h p s := by
  simp only [Bool.and_eq_true, beq_iff_eq] at k
  exact ⟨⟨k.1.1, k.1.2⟩, k.2⟩
theorem fromPartner_ok {x : PortRx} {h : MHdr} {p : Bytes} {s : State}
    (k : (s.portTakes x.port && meshFrames x == [(h, p, meshCrc h p)] && s.isForMe h && x.port == 0 && h.typ == 6) = true) : FromPartner x h p s := by
  simp only [Bool.and_eq_true, beq_iff_eq] at k
  exact ⟨⟨⟨k.1.1.1.1, k.1.1.1.2⟩, k.1.1.2⟩, k.1.2, k.2⟩
/-- The one frame of a stretch, as a test. -/
def oneFrame (x : LaneRx) (typ : Nat) (f : FrameHdr) (p : Bytes) : Bool :=
  match cellFrames x with
  | [some b] => cellType b == typ && cellHdr (1 - x.lane % 2) b == f && cellPay b == p
  | _ => false
theorem brings_ok {x : LaneRx} {typ : Nat} {f : FrameHdr} {p : Bytes} {s : State}
    (k : (decide (x.lane < 32) && s.laneTakes x.lane && !s.seamDeaf x.lane && oneFrame x typ f p && f.cell / 8 == x.lane / 2) = true) : Brings x typ f p s := by
  simp only [Bool.and_eq_true, beq_iff_eq, decide_eq_true_eq, Bool.not_eq_true'] at k
  obtain ⟨⟨⟨⟨k1, k2⟩, k3⟩, k4⟩, k5⟩ := k
  refine ⟨k1, k2, k3, ?_, k5⟩
  unfold oneFrame at k4
  split at k4
  · rename_i b e
    simp only [Bool.and_eq_true, beq_iff_eq] at k4
    exact ⟨b, e, k4.1.1, k4.1.2, k4.2⟩
  · exact absurd k4 Bool.false_ne_true

/-- A lane brings blocks. -/
def laneRx (l : Nat) (bs : List (Bool × Bytes)) : LaneRx := { lane := l, blocks := shout 0 bs }
/-- A lane brings a cell's frame. -/
def cellRx (l typ c period epoch : Nat) (pay : Bytes) : LaneRx := laneRx l (cellBlocks typ c period epoch pay)
/-- A port brings port-blocks. -/
def portRx (p : Nat) (bs : List (Bool × Bytes)) : PortRx :=
  { port := p, even := laneRx (32 + 2 * p) (bs.map fun b => (b.1, b.2.take 8)), odd := laneRx (33 + 2 * p) (bs.map fun b => (b.1, b.2.drop 8)) }
/-- A port brings a mesh frame, a symbol. -/
def meshRx (p : Nat) (h : MHdr) (pay : Bytes) : PortRx := portRx p (meshBlocks h pay (meshCrc h pay))
def symRx (p op : Nat) (y : Sym) : PortRx := portRx p [(true, symbolBytes op y)]

/-- A record from session 32, which holds control in `up`. -/
def h0 : RecHdr := { src := .mbx0, sess := 32 }
/-- A period of 10 us, one bench, one ADC. -/
def desc0 : ImgDesc := {}
/-- Supplies up, the clock locked, an image in force, one session open with control. -/
def up : State :=
  { pwr := { dom := 0xFFFFF, upDue := false }
    clk := { st := 4, started := true, onFallback := false, outSt := 3, refPresent := true }
    img := { desc := some desc0, bufOpen := false }
    host := { linkUp := true, ctrl := some 0, ctxs := { sess := 32, st := 1, leaseEnd := 1000000000000 } :: List.replicate 31 {} } }
/-- `up` with another image description. -/
def withDesc (d : ImgDesc) : State := up.onImg fun i => { i with desc := some d }
/-- An ADC as a change of it. -/
def atAdc (a : Nat) (f : Adc1 → Adc1) (s : State) : State := s.onAdc fun x => { x with adcs := modAt x.adcs a f }
/-- An image with one timed and one free-running ADC, a sieve, an injected request from the host and one at cycle 0. -/
def dA : ImgDesc :=
  { adcs := [{ rpt := 1, entries := [{ ch := 2 }], inj := [{ ch := 1, trig := .host }, { ch := 1, trig := .phase 0 }] },
      { free := true, entries := [{ ch := 3 }] }]
    sdcs := [{ en := true }]
    sieves := [{ en := true, order := 1, osr := 4 }] }
/-- A lane as a change of it. -/
def atLane (l : Nat) (f : LaneS → LaneS) (s : State) : State := s.onLane fun x => { x with lanes := modAt x.lanes l f }
def clkUp (f : Clk → Clk) : State := up.onClk f
/-- Two nodes; an arm of cells 0 and 1 spread over both, an arm of cell 9 alone; bench 15, loops 0 and 31; channel 1's
comparator continuous on its upper side, 23's sampled every 4 us; cells 0 to 7 and 127 declared. -/
def dB : ImgDesc :=
  { mesh := { nodes := 2, shape := 1 }
    arms := [{ spread := true, master := 0, members := [0, 1], nodes := [0, 1] }, { members := [9] }]
    benches := List.replicate 16 { used := true, cb := 1, progLen := 65535, sortCycles := [0], coefs := [{ idx := 511, loop := some 31, kind := .direct 0 0x3F800000 }] }
    loops := [{ num := 0, rc := some {} }, { num := 31, bench := 15, outs := [0], rc := some {} }]
    cmps := List.replicate 23 { sense := 1 } ++ [{ sense := 1, si := 4 }]
    kinds := [{ half := true, bypB := none, chans := [{}] }]
    classes := [{}]
    cells := [0, 1, 9, 127].map fun i => { idx := i } }
def upB : State := withDesc dB
def atBal (f : Bal → Bal) (s : State) : State := s.onBal f
/-- Bench k of `upB` runs. -/
def benchUp (k : Nat) (f : Bench → Bench) : State := upB.onBench k fun q => f { q with running := true }
def atCmp (f : CmpB → CmpB) : State := upB.onCmp f
/-- A change of one comparator. -/
def atCmp1 (k : Nat) (f : Cmp1 → Cmp1) : State := upB.onCmp fun x => { x with cmps := modAt x.cmps k f }
/-- A cell and its conversation, its seam's lanes up. -/
def cellUp (c : Nat) (f : Cell → Cell) (g : Talk → Talk) : State :=
  ((upB.onSeam fun x => { x with cells := modAt x.cells c f, talks := modAt x.talks c g }) |> atLane (2 * (c / 8)) fun x => { x with rx := 5, tx := 3 }) |>
    atLane (2 * (c / 8) + 1) fun x => { x with rx := 5, tx := 3 }
theorem others_idle : ∀ j, j ≠ 15 → (((benchUp 15 id).begin 51072).bench j).running = false := by
  intro j hj
  by_cases h : j < 16
  · have k : ∀ i : Fin 16, i.1 ≠ 15 → (((benchUp 15 id).begin 51072).bench i.1).running = false := by decide +kernel
    exact k ⟨j, h⟩ hj
  · have k : ((benchUp 15 id).begin 51072).bnc.benches.length = 16 := by decide +kernel
    show (((benchUp 15 id).begin 51072).bnc.benches.getD j {}).running = false
    rw [List.getD_eq_getElem?_getD, List.getElem?_eq_none (by omega)]
    rfl
/-- One direct local group of output 0 owned by the host, one of bench 0. -/
def dE : ImgDesc :=
  { dB with
    groups := [some { loc := true, owner := .host, slots := 64, outs := [0], role := .load }, some { loc := true, owner := .bench 0, slots := 64, outs := [1] }]
    lpwm := [{ edges := true, group := 0 }, { edges := true, group := 1 }] }
def upE : State := withDesc dE
def atEdg (f : Edg → Edg) : State := upE.onEdg f
def atImg (f : Img → Img) : State := up.onImg f
/-- The mode, with set-point 0 declared POWER and an input word watched. -/
def modeUp (m sub : Nat) (f : ModeB → ModeB) : State :=
  (withDesc { dE with
    sps := [{ declared := true, mx := 0x3F800000 }]
    benches := List.replicate 16 { used := true, inputs := [{ cls := 2, groups := [0] }, { cls := 0, groups := [0] }] }
    modeP := { blackStart := true }
    driveP := { brkOut := some 1 } }).onMode fun x => f { x with mode := m, sub := sub }
/-- The head of a chain of two nodes, the other one UP. -/
def dM : ImgDesc :=
  { mesh := { nodes := 2, shape := 1, links := [{ num := 3, nodeA := 0, portA := 1, nodeB := 1, portB := 0 }], route := [4, 1] } }
def meshUp (d : ImgDesc) (f : Mesh → Mesh) : State :=
  ((withDesc d).onMesh fun m => { m with convs := modAt m.convs 1 fun c => { c with st := 1, epoch := some 5 } }).onMesh f
/-- One node's conversation as a change of it. -/
def atConv (n : Nat) (f : Conv → Conv) : State := meshUp dM fun m => { m with convs := modAt m.convs n f }
/-- Node 1 of the same chain, its master node 0. -/
def dM1 : ImgDesc := { dM with mesh := { dM.mesh with node := 1, route := [0, 4] } }
/-- A member of a pair; its image declares an input word with a tolerance. -/
def dP : ImgDesc :=
  { dE with
    topo := { pair := true }
    benches := List.replicate 16 { used := true, inputs := [{ src := .adc 0 0 0 0, tol := some 0x3F800000 }] } }
def pairUp (st : Nat) (f : PairB → PairB) : State := (withDesc dP).onPair fun p => f { p with st := st }
/-- The lanes of port 0 are UP. -/
def port0 (s : State) : State := (atLane 32 (fun x => { x with rx := 5, tx := 3 }) s) |> atLane 33 fun x => { x with rx := 5, tx := 3 }
/-- A record of session 32. -/
def rec0 : Bytes := let b := State.recBytes h0 0x0101 []; b ++ le 4 (crc32c b).toNat
def open0 (kind : Nat) : OpenCmd := { h := { h0 with seq := 9 }, opcode := 0x0301, crc := 0, jidx := 0, acceptAt := 0, kind := kind, left := [1] }
/-- The island with two declared pairs, a STOP and a GUARD, and one further change. -/
def isl (st : Nat) (f : Safe → Safe) : State :=
  up.onSafe fun x => f { x with st := st, desc := some { liveMs := 1, pairs := [{ kind := 1 }, { kind := 2, anti := true }] } }
/-- A passphrase of eight bytes set. -/
def pass0 : Bytes := [1, 2, 3, 4, 5, 6, 7, 8]
def passUp : State := up.onEvs fun e => { e with hash := some (sha256 (e.salt ++ pass0)) }
def atPwr (f : Pwr → Pwr) : State := up.onPwr f
def atCtx (c : Nat) (f : Ctx → Ctx) : State := up.onCtx c f
/-- A chain seen through node 1's window. -/
def viewUp (st : Nat) : State := meshUp dM fun m => { m with viewEn := true, viewNode := 1, convs := modAt m.convs 1 fun c => { c with st := st } }
/-- The session has consumed one number, answered under a record of that check value. -/
def seqUp (n : Nat) (crc : Word) : State := atCtx 0 fun c => { c with e := 1, consumed := n, cache := [{ seq := 0, crc := crc, cpl := {} }] }
/-- The furthest number ahead, the nearest behind it. -/
def hGap : RecHdr := { h0 with seq := 2 ^ 31 - 1 }
def hStale : RecHdr := { h0 with seq := 2 ^ 31 }
/-- The same record from the other mailbox. -/
def h1 : RecHdr := { h0 with src := .mbx1 }
/-- A command of the session's number 0 still to be answered. -/
def wait0 (crc : Word) : OpenCmd := { h := h0, opcode := 0x0702, crc := crc, jidx := 0, acceptAt := 0, kind := 1, left := [1] }
def waitUp (crc : Word) : State := (atCtx 0 fun c => { c with e := 1, consumed := 1 }).onHost fun x => { x with opens := [wait0 crc] }
/-- An acknowledgement that waits at a port. -/
def ack0 : MFrame := { hdr := { typ := 2, dst := 1 }, body := .relay [] 0 }
/-- A whole image of ten sections of four bytes, HOSTPOLICY's first byte 2 and the others' 1, SAFETY sealed with 32 zero bytes; its CRCs, its seal and
its digest were worked out outside the model. -/
def img : Bytes :=
  [83, 75, 76, 73, 0, 2, 40, 65, 0, 0, 10, 0, 9, 0, 0, 0, 136, 4] ++ List.replicate 42 0 ++ [35, 162, 112, 11, 1, 0, 0, 0, 0, 2, 0, 0, 4, 0, 0, 0,
    127, 225, 34, 149] ++ List.replicate 16 0 ++ [2, 0, 0, 0, 64, 2, 0, 0, 4, 0, 0, 0, 127, 225, 34, 149] ++ List.replicate 16 0 ++ [3, 0, 0, 0, 128,
    2, 0, 0, 4, 0, 0, 0, 127, 225, 34, 149] ++ List.replicate 16 0 ++ [4, 0, 0, 0, 192, 2, 0, 0, 4, 0, 0, 0, 127, 225, 34, 149] ++ List.replicate 16 0
    ++ [5, 0, 0, 0, 0, 3, 0, 0, 4, 0, 0, 0, 127, 225, 34, 149] ++ List.replicate 16 0 ++ [6, 0, 1, 0, 64, 3, 0, 0, 4, 0, 0, 0, 127, 225, 34, 149] ++
    List.replicate 16 0 ++ [7, 0, 1, 0, 128, 3, 0, 0, 4, 0, 0, 0, 127, 225, 34, 149] ++ List.replicate 16 0 ++ [8, 0, 2, 0, 192, 3, 0, 0, 36, 0, 0, 0,
    3, 196, 50, 157] ++ List.replicate 16 0 ++ [9, 0, 1, 0, 0, 4, 0, 0, 4, 0, 0, 0, 127, 225, 34, 149] ++ List.replicate 16 0 ++ [10, 0, 1, 0, 64, 4,
    0, 0, 4, 0, 0, 0, 70, 104, 0, 247] ++ List.replicate 16 0 ++ [244, 11, 112, 8] ++ List.replicate 124 0 ++ [1] ++ List.replicate 63 0 ++ [1] ++
    List.replicate 63 0 ++ [1] ++ List.replicate 63 0 ++ [1] ++ List.replicate 63 0 ++ [1] ++ List.replicate 63 0 ++ [1] ++ List.replicate 63 0 ++ [1]
    ++ List.replicate 63 0 ++ [1, 0, 0, 0, 163, 231, 24, 28, 110, 237, 3, 15, 213, 47, 121, 83, 124, 86, 196, 208, 125, 169, 46, 86, 211, 116, 255,
    29, 210, 4, 51, 80, 120, 91, 55, 216] ++ List.replicate 28 0 ++ [1] ++ List.replicate 63 0 ++ [2] ++ List.replicate 39 0 ++ [188, 248, 58, 172,
    178, 228, 225, 50, 59, 207, 223, 172, 123, 155, 178, 184, 129, 93, 19, 242, 30, 67, 217, 240, 67, 228, 112, 31, 44, 193, 14, 57]
/-- A working copy w of n bytes, the image above in the load buffer, and the key that seals it. -/
def swapUp (w : Bytes) (n : Nat) : State :=
  (up.onImg fun i => { i with
    work := Image.cells 0 w, workLen := n, buf := Image.cells 0 img
    bufOpen := true, swap := some { source := 2, len := 0x488 }, swapSt := 1 }).onEvs fun e => { e with hash := some (List.replicate 32 0) }
theorem img_buf (w : Bytes) (n : Nat) : (swapUp w n).bufBytes 0 0x488 = img := by
  have h : cellBytes (Image.cells 0 img) 0 0 0x488 = img := by decide +kernel
  have hb : (swapUp w n).img.buf = Image.cells 0 img := by simp only [swapUp, onImg, onEvs]
  unfold bufBytes
  rw [hb, h]
theorem img_head (w : Bytes) (n : Nat) : (swapUp w n).bufBytes 0 64 = img.take 64 := by
  have h : cellBytes (Image.cells 0 img) 0 0 64 = img.take 64 := by decide +kernel
  have hb : (swapUp w n).img.buf = Image.cells 0 img := by simp only [swapUp, onImg, onEvs]
  unfold bufBytes
  rw [hb, h]
theorem img_step2 : Image.step2 sysRev none img = none := by decide +kernel
theorem img_set : Image.setBad img = none := by decide +kernel
theorem img_bounds : Image.sectBounds img = none := by decide +kernel
theorem img_flags : (Image.byOfs img).findSome? (Image.flagBad img) = none := by decide +kernel
theorem img_table : fieldW img 0x180 = crc32c (slice img 0x40 0x140) := by
  have e : slice img 0x40 0x140 = slice img 64 80 ++ (slice img 144 80 ++ (slice img 224 80 ++ slice img 304 80)) := by decide +kernel
  have c0 : (slice img 64 80).foldl crcByte 4294967295 = 79939261 := by decide +kernel
  have c1 : (slice img 144 80).foldl crcByte 79939261 = 1306326608 := by decide +kernel
  have c2 : (slice img 224 80).foldl crcByte 1306326608 = 1779681761 := by decide +kernel
  have c3 : (slice img 304 80).foldl crcByte 1779681761 = 4153406475 := by decide +kernel
  have v : fieldW img 0x180 = 141560820 := by decide +kernel
  unfold crc32c
  rw [e, List.foldl_append, List.foldl_append, List.foldl_append, c0, c1, c2, c3, v]
  rfl
theorem img_step3 : Image.step3 img = none := by
  unfold Image.step3
  rw [if_neg (fun h => h img_table), img_set, img_bounds]
  exact img_flags
theorem img_step4 : Image.step4 img = none := by decide +kernel
theorem img_step5 : Image.step5 img = none := by decide +kernel
theorem img_step7 : Image.step7 (some (List.replicate 32 0)) img = none := by decide +kernel
theorem img_length : Image.lengthOf (img.take 64) = 0x488 := by decide +kernel
theorem img_step6 (w : Bytes) (n : Nat) : Image.step6 (swapUp w n).sys img = none := by
  unfold Image.step6
  rw [show (swapUp w n).sys.keySet = false from rfl]
  rfl
/-- What a check of the load buffer comes to. -/
theorem check_of {b h : Bytes} {n : Nat} {s : State} (h0 : s.bufBytes 0 64 = h) (h1 : Image.lengthOf h = n) (h2 : 64 ≤ n) (h3 : n ≤ 1572864)
    (h4 : s.bufBytes 0 n = b) (k2 : Image.step2 sysRev none b = none) (k3 : Image.step3 b = none) (k4 : Image.step4 b = none) (k5 : Image.step5 b = none)
    (k6 : Image.step6 s.sys b = none) (k7 : Image.step7 s.evs.hash b = none) : s.imageCheck 2 n = (b, none) := by
  unfold imageCheck
  simp only [if_true, h0, h1]
  rw [if_neg (by omega), if_pos h3, Nat.max_eq_left h2, h4]
  unfold imageCheck.finishCheck
  simp only [List.findSome?_cons, k2, k3, k4, k5, k6, k7, List.findSome?_nil]
/-- The image passes every check. -/
theorem img_check (w : Bytes) (n : Nat) : (swapUp w n).imageCheck 2 0x488 = (img, none) :=
  check_of (img_head w n) img_length (by omega) (by omega) (img_buf w n) img_step2 img_step3 img_step4 img_step5 (img_step6 w n) img_step7
/-- Another image in force: its HOSTPOLICY begins with 3. -/
def other : Bytes := img.set 0x440 3
/-- That image with zeros after it, past what the working copy and the differing section may come to. -/
def long : Bytes := other ++ List.replicate 2097152 0
/-- Its length. -/
def longLen : Nat := 1160 + 2097152
/-- A byte string reads as zeros beyond its end. -/
theorem slice_zeros (b : Bytes) (z o n : Nat) : slice (b ++ List.replicate z 0) o n = slice b o n := by
  refine List.ext_getElem? fun i => ?_
  simp only [slice, List.getElem?_append, List.getElem?_take, List.getElem?_drop, List.getElem?_replicate, List.length_take, List.length_drop, List.length_append,
    List.length_replicate]
  grind
theorem find_zeros (b : Bytes) (z t : Nat) : Image.find (b ++ List.replicate z 0) t = Image.find b t := by
  have h : Image.entry (b ++ List.replicate z 0) = Image.entry b := funext fun i => by simp only [Image.entry, field, fieldW, slice_zeros]
  rw [Image.find, Image.find, Image.entries, Image.entries, h]
theorem swapDiff_zeros (b y : Bytes) (z : Nat) : swapDiff (b ++ List.replicate z 0) y = swapDiff b y := by
  simp only [swapDiff, Image.sectBytes, find_zeros, slice_zeros]
theorem cellByte_far {l : List Host.Cell} {a : Nat} (h : ∀ c ∈ l, c.1 < a) : cellByte l 0 a = 0 := by
  induction l with
  | nil => rfl
  | cons c r ih =>
    have := h c List.mem_cons_self
    simp only [cellByte, Sparse.get] at ih ⊢
    rw [if_neg (by omega), if_neg (by omega)]
    exact ih fun d m => h d (List.mem_cons_of_mem c m)
theorem long_work : (swapUp other longLen).workBytes = long := by
  have h : cellBytes (Image.cells 0 other) 0 0 1160 = other := by decide +kernel
  have far : ∀ c ∈ Image.cells 0 other, c.1 < 1160 := by decide +kernel
  have w : (swapUp other longLen).workBytes = cellBytes (Image.cells 0 other) 0 0 longLen := by simp only [workBytes, swapUp, onImg, onEvs]
  rw [w]
  unfold cellBytes long longLen
  rw [List.range_add, List.map_append, List.map_map]
  rw [show List.map (fun i => cellByte (Image.cells 0 other) 0 (0 + i)) (List.range 1160) = other from h]
  refine congrArg (other ++ ·) (List.eq_replicate_iff.2 ⟨by simp, fun b k => ?_⟩)
  obtain ⟨i, -, rfl⟩ := List.mem_map.1 k
  simp only [Function.comp_apply, Nat.zero_add]
  exact cellByte_far (fun c m => Nat.lt_of_lt_of_le (far c m) (Nat.le_add_right _ _))
theorem long_diff : [10] = swapDiff long img := by
  rw [long, swapDiff_zeros]
  decide +kernel
theorem long_hot : ∀ k ∈ [10], (match Image.find long k with | some e => e.flags.testBit 0 | none => false) = true := by
  simp only [long, find_zeros]
  decide +kernel
theorem long_over : 2097152 < long.length + ([10].map fun k => (Image.sectBytes img k).length).sum := by
  rw [long, List.length_append, List.length_replicate, show ([10].map fun k => (Image.sectBytes img k).length).sum = 4 by decide +kernel]
  omega
/-! ### Well-formed commands: for each check of WellFormed one term that fails that check alone -/

theorem test_ill_formed_refused_1 : ([
  .commitLanding 0 64, .compileStart 0 [128] [], .compileStart 0 [] [128], .shipSlot 0 128, .edgeFrameShip 0 16, .lpwmTransition 0 32,
  .benchArithmetic 0 16 .add 0 0 0 0, .benchArithmetic 0 0 .add 32 0 0 0, .benchArithmetic 0 0 .add 0 32 0 0, .benchArithmetic 0 0 .add 0 0 32 0,
  .benchArithmetic 0 0 .add 0 0 0 32, .benchLane 0 16 .reduce 0 0 0, .benchLane 0 0 (.broadcast 4) 0 0 0, .benchLane 0 0 .reduce 32 0 0,
  .benchLane 0 0 .reduce 0 32 0, .benchLane 0 0 .reduce 0 0 32, .benchConvert 0 16 .toInt16 0 0 0, .benchConvert 0 0 .toInt16 32 0 0,
  .benchConvert 0 0 .toInt16 0 32 0, .benchLoad 0 16 0 0 1, .benchLoad 0 0 32 0 1, .benchLoad 0 0 0 0 5, .benchStore 0 16 0 0 1,
  .benchStore 0 0 32 0 1, .benchStore 0 0 0 0 5, .benchLoop 0 16 1 0, .benchLoop 0 0 65 0, .benchEnd 0 16, .cordicRequest 0 16 0 0 0,
  .cordicRequest 0 0 16 0 0, .cordicRequest 0 0 0 32 0, .cordicRequest 0 0 0 0 32, .rcRequest 0 16 0 0, .rcRequest 0 0 32 0, .rcRequest 0 0 0 32] : List Instr).any (·.wf) = false := by decide +kernel
theorem test_ill_formed_refused_2 : ([
  .armSort 0 16, .interpDeadline 0 [32], .thermalDeadline 0 [128], .balListReceive 0 { even := { lane := 34 }, odd := { lane := 33 } },
  .sramUncorrectableError 0 32 0 0, .sramUncorrectableError 0 0 16 0, .imgBufOpen 0 { sess := 65536 }, .imgSlotErase 0 { sess := 65536 } 0,
  .imgSlotErase 0 {} (2 ^ 32), .slotEraseDone 0 2, .imgSlotWrite 0 { sess := 65536 } 0 0, .imgSlotWrite 0 {} (2 ^ 32) 0,
  .imgSlotWrite 0 {} 0 (2 ^ 32), .imgLoad 0 { sess := 65536 } 0 0, .imgLoad 0 {} (2 ^ 32) 0, .imgLoad 0 {} 0 (2 ^ 32),
  .imageValidationDone 0 { host := { discWinMs := 9 } }, .imgSwap 0 { sess := 65536 } 0, .imgSwap 0 {} (2 ^ 32), .imgFwWrite 0 { sess := 65536 } 0,
  .imgFwWrite 0 {} (2 ^ 32), .sessionOpen 0 { sess := 65536 } 0 0, .sessionOpen 0 {} (2 ^ 8) 0, .sessionOpen 0 {} 0 (2 ^ 8),
  .resume 0 { sess := 65536 } 0, .resume 0 {} (2 ^ 32), .hostSessCtlStart 0 .pcie 32, .hostSqTailWrite 0 .pcie 32 0,
  .hostSqTailWrite 0 .pcie 0 (2 ^ 32), .recordFetch 0 (List.replicate 257 0), .hostMbxDoorbell 0 2, .remoteResult 0 64 0 0 {},
  .remoteResult 0 0 65536 0 {}, .remoteResult 0 0 0 (2 ^ 32) {}, .regWrite 0 { sess := 65536 } 0 0] : List Instr).any (·.wf) = false := by decide +kernel
theorem test_ill_formed_refused_3 : ([
  .regWrite 0 {} (2 ^ 32) 0, .registerWrite 0 .pcie 0x400000 4 0, .registerWrite 0 .pcie 0 65 0, .registerWrite 0 .pcie 0 4 (2 ^ 32),
  .loadBufferWrite 0 .pcie 0x20000 [], .loadBufferWrite 0 .pcie 0 (List.replicate 65 0), .rcRead 0 .pcie 0x400000 4, .rcRead 0 .pcie 0 65,
  .remoteRegisterAccess 0 false 0x400000 4 0, .remoteRegisterAccess 0 false 0 65 0, .remoteRegisterAccess 0 false 0 4 (2 ^ 512), .regacc 0 (2 ^ 64),
  .fuseProg 0 (List.replicate 33 0) false false, .clkTimeLoad 0 { sess := 65536 } 0, .clkTimeLoad 0 {} (2 ^ 64), .clkOutCfgWrite 0 .pcie 4 0,
  .trimSample 0 8, .dieSensorSample 0 (List.replicate 9 0), .laneTest 0 { sess := 65536 } 0 0 0, .laneTest 0 {} (2 ^ 8) 0 0,
  .laneTest 0 {} 0 (2 ^ 8) 0, .laneTest 0 {} 0 0 (2 ^ 8), .laneRetrain 0 { sess := 65536 } 0 0, .laneRetrain 0 {} (2 ^ 8) 0,
  .laneRetrain 0 {} 0 (2 ^ 8), .cdrLock 0 40, .markerSend 0 10, .cellAdmit 0 { sess := 65536 } 0, .cellAdmit 0 {} (2 ^ 64),
  .cellFwLoad 0 { sess := 65536 } 0 0 0, .cellFwLoad 0 {} (2 ^ 32) 0 0, .cellFwLoad 0 {} 0 (2 ^ 32) 0, .refStage 0 { sess := 65536 } 0 0 [],
  .refStage 0 {} (2 ^ 8) 0 [], .refStage 0 {} 0 (2 ^ 16) []] : List Instr).any (·.wf) = false := by decide +kernel
theorem test_ill_formed_refused_4 : ([
  .refStage 0 {} 0 0 (List.replicate 58 0), .refCommit 0 { sess := 65536 } 0, .refCommit 0 {} (2 ^ 8), .blankingStart 0 8,
  .loopOpen 0 { sess := 65536 } 0 0, .loopOpen 0 {} (2 ^ 8) 0, .loopOpen 0 {} 0 (2 ^ 8), .loopClose 0 { sess := 65536 } 0, .loopClose 0 {} (2 ^ 8),
  .loopManual 0 { sess := 65536 } 0 [], .loopManual 0 {} (2 ^ 8) [], .loopManual 0 {} 0 (List.replicate 58 0), .coefWrite 0 { sess := 65536 } 0 0 [],
  .coefWrite 0 {} (2 ^ 8) 0 [], .coefWrite 0 {} 0 (2 ^ 16) [], .coefWrite 0 {} 0 0 (List.replicate 58 0), .rcCtl 0 { sess := 65536 } 0 0,
  .rcCtl 0 {} (2 ^ 8) 0, .rcCtl 0 {} 0 (2 ^ 8), .balShare 0 { sess := 65536 } 0, .balShare 0 {} (2 ^ 8), .evsMark 0 { sess := 65536 } [],
  .evsMark 0 {} (List.replicate 13 0), .modeSet 0 { sess := 65536 } 0 0, .modeSet 0 {} (2 ^ 8) 0, .modeSet 0 {} 0 (2 ^ 8),
  .setpoint 0 { sess := 65536 } 0 0, .setpoint 0 {} (2 ^ 8) 0, .ovlSet 0 { sess := 65536 } 0 0 0, .ovlSet 0 {} (2 ^ 8) 0 0, .ovlSet 0 {} 0 (2 ^ 8) 0,
  .ovlSet 0 {} 0 0 (2 ^ 8), .safeNoticeReceived 0 64 0, .safeNoticeReceived 0 0 (2 ^ 32), .feedbackLost 0 16 0] : List Instr).any (·.wf) = false := by decide +kernel
theorem test_ill_formed_refused_5 : ([
  .feedbackLost 0 0 512, .dwellEnd 0 16, .adcRunStart 0 4, .injectedRequest 0 4 0, .injectedRequest 0 0 8, .adcInject 0 { sess := 65536 } 0,
  .adcInject 0 {} (2 ^ 8), .tdacSet 0 { sess := 65536 } 0, .tdacSet 0 {} (2 ^ 16), .tdacConnect 0 { sess := 65536 } 0, .tdacConnect 0 {} (2 ^ 8),
  .sieveOutput 0 24 [], .sieveStuck 0 24 false [], .sdcStartStop 0 6, .cmpThresh 0 { sess := 65536 } 0 0, .cmpThresh 0 {} (2 ^ 16) 0,
  .cmpThresh 0 {} 0 (2 ^ 16), .tripPinFilter 0 8 false 0, .sinChannelTaken 0 8 false 0, .discrepancy 0 4, .safeUnlock 0 { sess := 65536 } 0 [],
  .safeUnlock 0 {} (2 ^ 8) [], .safeUnlock 0 {} 0 (List.replicate 229 0), .safePassSet 0 { sess := 65536 } (List.replicate 16 0) 0 [],
  .safePassSet 0 {} (List.replicate 17 0) 0 [], .safePassSet 0 {} (List.replicate 16 0) (2 ^ 8) [],
  .safePassSet 0 {} (List.replicate 16 0) 0 (List.replicate 213 0), .discReceive 0 { even := { lane := 34 }, odd := { lane := 33 } } {},
  .discReceive 0 { even := { lane := 32 }, odd := { lane := 33 } } { node := 64 }, .data 0 { even := { lane := 34 }, odd := { lane := 33 } } .empty,
  .data 0 { even := { lane := 32 }, odd := { lane := 33 } } (.record { sess := 65536 } 0 []),
  .meshAck 0 { even := { lane := 34 }, odd := { lane := 33 } } 0 0, .meshAck 0 { even := { lane := 32 }, odd := { lane := 33 } } (2 ^ 32) 0,
  .meshAck 0 { even := { lane := 32 }, odd := { lane := 33 } } 0 256, .dataRetransmit 0 64] : List Instr).any (·.wf) = false := by decide +kernel
theorem test_ill_formed_refused_6 : ([
  .meshBind 0 { sess := 65536 } 0 0 0, .meshBind 0 {} (2 ^ 8) 0 0, .meshBind 0 {} 0 (2 ^ 8) 0, .meshBind 0 {} 0 0 (2 ^ 32),
  .meshReset 0 { sess := 65536 } 0 0 0, .meshReset 0 {} (2 ^ 64) 0 0, .meshReset 0 {} 0 (2 ^ 8) 0, .meshReset 0 {} 0 0 (2 ^ 8),
  .input 0 { even := { lane := 34 }, odd := { lane := 33 } } {}, .input 0 { even := { lane := 32 }, odd := { lane := 33 } } { period := 2 ^ 32 },
  .refs 0 { even := { lane := 34 }, odd := { lane := 33 } } {}, .refs 0 { even := { lane := 32 }, odd := { lane := 33 } } { epoch := 65536 },
  .cmd 0 { even := { lane := 34 }, odd := { lane := 33 } } {}, .cmd 0 { even := { lane := 32 }, odd := { lane := 33 } } { opcode := 65536 },
  .jnl 0 { even := { lane := 34 }, odd := { lane := 33 } } { digest := List.replicate 16 0 },
  .jnl 0 { even := { lane := 32 }, odd := { lane := 33 } } {}, .health 0 { even := { lane := 34 }, odd := { lane := 33 } } {},
  .health 0 { even := { lane := 32 }, odd := { lane := 33 } } { word := 2 ^ 64 }, .resign 0 { even := { lane := 34 }, odd := { lane := 33 } } 0,
  .resign 0 { even := { lane := 32 }, odd := { lane := 33 } } 256, .handover 0 { even := { lane := 34 }, odd := { lane := 33 } } 0,
  .handover 0 { even := { lane := 32 }, odd := { lane := 33 } } (2 ^ 32), .sync 0 { even := { lane := 34 }, odd := { lane := 33 } } 0 [],
  .fence 0 65536, .powerStateRequest 0 .pcie 4, .pcieReferenceClockChange 0 false (some (4, 1)), .meshBarrier 0 { ring := 32 },
  .feed 0 { pre := 2 ^ 58 }, .feed 0 { slot := 16384 }, .feed 0 { blocks := [{ hdr := 4 }] }, .feed 0 { blocks := [{ pay := 2 ^ 64 }] },
  .confirm 0 { port := 4, even := { lane := 40 }, odd := { lane := 41 } }, .confirm 0 { even := { lane := 32 }, odd := { lane := 35 } },
  .discReceive 0 { even := { lane := 32 }, odd := { lane := 33 } } { kF := 65536 },
  .refs 0 { even := { lane := 32 }, odd := { lane := 33 } } { paths := 2 ^ 32 }] : List Instr).any (·.wf) = false := by decide +kernel
theorem test_ill_formed_refused_7 : ([
  .cmd 0 { even := { lane := 32 }, odd := { lane := 33 } } { h := { ring := 32 } },
  .health 0 { even := { lane := 32 }, odd := { lane := 33 } } { marks := [(32, 0, 0)] },
  .data 0 { even := { lane := 32 }, odd := { lane := 33 } } (.write 0x400000 0), .imageValidationDone 0 { topo := { ssc := { mode := 3 } } },
  .imageValidationDone 0 { cal := { trims := [[]] } }, .imageValidationDone 0 { host := { discWinMs := 10001 } },
  .pcieReferenceClockChange 0 true (some (3, 3)), .meshBarrier 0 { seq := 2 ^ 32 }, .meshBarrier 0 { node := 256 }, .meshBarrier 0 { flags := 256 },
  .meshBarrier 0 { target := 2 ^ 32 }, .benchLane 0 0 (.shuffle 4 0 0 0) 0 0 0, .benchLane 0 0 (.shuffle 0 4 0 0) 0 0 0,
  .benchLane 0 0 (.shuffle 0 0 4 0) 0 0 0, .benchLane 0 0 (.shuffle 0 0 0 4) 0 0 0, .benchLane 0 0 (.negate 16) 0 0 0, .benchLoad 0 0 0 0 0,
  .benchLoop 0 0 0 0] : List Instr).any (·.wf) = false := by decide +kernel
theorem test_well_formed_accepted_1 : ([
  .sampleLatch 0, .commitLanding 0 0, .compileStart 0 [] [], .shipSlot 0 0, .edgeFrameShip 0 0, .lpwmTransition 0 0,
  .benchArithmetic 0 0 .add 0 0 0 0, .benchLane 0 0 .reduce 0 0 0, .benchConvert 0 0 .toInt16 0 0 0, .benchLoad 0 0 0 0 1, .benchStore 0 0 0 0 1,
  .benchLoop 0 0 1 0, .benchEnd 0 0, .cordicRequest 0 0 0 0 0, .rcRequest 0 0 0 0, .armSort 0 0, .interpDeadline 0 [], .thermalDeadline 0 [],
  .balListReceive 0 { even := { lane := 32 }, odd := { lane := 33 } }, .sramUncorrectableError 0 0 0 0, .imgBufOpen 0 {}, .imgSlotErase 0 {} 0,
  .slotEraseDone 0 0, .imgSlotWrite 0 {} 0 0, .imgLoad 0 {} 0 0, .imageValidationDone 0 {}, .imgSwap 0 {} 0, .imgFwWrite 0 {} 0,
  .sessionOpen 0 {} 0 0, .resume 0 {} 0, .hostSessCtlStart 0 .pcie 0, .hostSqTailWrite 0 .pcie 0 0, .recordFetch 0 [], .hostMbxDoorbell 0 0,
  .remoteResult 0 0 0 0 {}, .regWrite 0 {} 0 0, .registerWrite 0 .pcie 0 4 0, .loadBufferWrite 0 .pcie 0 [], .rcRead 0 .pcie 0 4,
  .remoteRegisterAccess 0 false 0 4 0, .regacc 0 0, .fuseProg 0 (List.replicate 32 0) false false, .clkTimeLoad 0 {} 0, .clkOutCfgWrite 0 .pcie 0 0,
  .trimSample 0 0, .dieSensorSample 0 (List.replicate 8 0), .laneTest 0 {} 0 0 0, .laneRetrain 0 {} 0 0, .cdrLock 0 0, .markerSend 0 0] : List Instr).all (·.wf) = true := by decide +kernel
theorem test_well_formed_accepted_2 : ([
  .cellAdmit 0 {} 0, .cellFwLoad 0 {} 0 0 0, .refStage 0 {} 0 0 [], .refCommit 0 {} 0, .blankingStart 0 0, .loopOpen 0 {} 0 0, .loopClose 0 {} 0,
  .loopManual 0 {} 0 [], .coefWrite 0 {} 0 0 [], .rcCtl 0 {} 0 0, .balShare 0 {} 0, .evsMark 0 {} [], .modeSet 0 {} 0 0, .setpoint 0 {} 0 0,
  .ovlSet 0 {} 0 0 0, .safeNoticeReceived 0 0 0, .feedbackLost 0 0 0, .dwellEnd 0 0, .adcRunStart 0 0, .injectedRequest 0 0 0, .adcInject 0 {} 0,
  .tdacSet 0 {} 0, .tdacConnect 0 {} 0, .sieveOutput 0 0 [], .sieveStuck 0 0 false [], .sdcStartStop 0 0, .cmpThresh 0 {} 0 0,
  .tripPinFilter 0 0 false 0, .sinChannelTaken 0 0 false 0, .discrepancy 0 0, .safeUnlock 0 {} 0 [], .safePassSet 0 {} (List.replicate 16 0) 0 [],
  .discReceive 0 { even := { lane := 32 }, odd := { lane := 33 } } {}, .data 0 { even := { lane := 32 }, odd := { lane := 33 } } .empty,
  .meshAck 0 { even := { lane := 32 }, odd := { lane := 33 } } 0 0, .dataRetransmit 0 0, .meshBind 0 {} 0 0 0, .meshReset 0 {} 0 0 0,
  .input 0 { even := { lane := 32 }, odd := { lane := 33 } } {}, .refs 0 { even := { lane := 32 }, odd := { lane := 33 } } {},
  .cmd 0 { even := { lane := 32 }, odd := { lane := 33 } } {},
  .jnl 0 { even := { lane := 32 }, odd := { lane := 33 } } { digest := List.replicate 16 0 },
  .health 0 { even := { lane := 32 }, odd := { lane := 33 } } {}, .resign 0 { even := { lane := 32 }, odd := { lane := 33 } } 0,
  .handover 0 { even := { lane := 32 }, odd := { lane := 33 } } 0, .sync 0 { even := { lane := 32 }, odd := { lane := 33 } } 0 [], .fence 0 0,
  .powerStateRequest 0 .pcie 0, .pcieReferenceClockChange 0 false none] : List Instr).all (·.wf) = true := by decide +kernel

/-! ### Values the spec gives -/

/-- R106: CRC-32C of RFC 3720; its check value over "123456789". -/
theorem test_crc32c : crc32c [0x31, 0x32, 0x33, 0x34, 0x35, 0x36, 0x37, 0x38, 0x39] = 0xE3069283 := by decide +kernel
/-- SHA-256 of FIPS 180-4 over "abc": its first four bytes. -/
theorem test_sha256 : (sha256 [0x61, 0x62, 0x63]).take 4 = [0xBA, 0x78, 0x16, 0xBF] := by decide +kernel
/-- The worked example after R131: E = 0xFFFFFFFE. -/
theorem test_sequence_example : serialDiff 32 0xFFFFFFFE 0xFFFFFFFE = 0 ∧ serialDiff 32 3 0xFFFFFFFE = 5 ∧ serialDiff 32 0xFFFFFFFE 0xFFFFFF00 = 254 ∧
    serialDiff 32 0xFFFFFFFE 0xFFFFFEFD = 257 ∧ serialDiff 32 0x7FFFFFFE 0xFFFFFFFE = 2 ^ 31 := by decide
/-- R98 and the register map: SYS_ID of the part. -/
theorem test_sys_id : (State.reset.regAt .directSpi 0).map (·.val) = some 0x4128B110 := by decide +kernel
/-- No row of the table gives bits, so no word spells a command. -/
theorem test_no_word_spells_a_command : decodeTableWord 16 0x1234 = none ∧ State.reset.withFetchWord 16 0x1234 = State.reset := ⟨rfl, rfl⟩
/-- Interleaved carriers: cell rank 3 of 24, r = 0.5, T = 128,000: the high side's raw waveform, and the low side's. -/
theorem test_carriers_rank3 : Pulse.cpwm 128000 1 (Pulse.units 0x3F000000) true false 16000 = [(0, 96000)] ∧
    Pulse.cpwm 128000 1 (Pulse.units 0x3F000000) false false 16000 = [(96000, 128000)] := by decide +kernel
/-- The same for rank 4. -/
theorem test_carriers_rank4 : Pulse.cpwm 128000 1 (Pulse.units 0x3F000000) true false 21333 = [(0, 90667), (122667, 128000)] ∧
    Pulse.cpwm 128000 1 (Pulse.units 0x3F000000) false false 21333 = [(90667, 122667)] := by decide +kernel
/-- Rank 4's high side with PEND 7,467: on 7,467, off 90,667, new PEND 7,467. -/
theorem test_join_rank4 : Pulse.join 128000 12800 { pend := some 7467 } [(0, 90667), (122667, 128000)] =
    ([{ t := 7467, on := true }, { t := 90667, on := false }], some 7467) := by decide
/-- The brake chopper with SWALLOW: 3,200 is owed, then 12,200, and then both are paid. -/
theorem test_chopper_swallow :
    (Pulse.minPulse 128000 { tOn := 12800 } { trs := [{ t := 60000, on := true }, { t := 63200, on := false }] }).carry = 3200 ∧
    (Pulse.minPulse 128000 { tOn := 12800 } { trs := [{ t := 60000, on := true }, { t := 69000, on := false }], carry := 3200 }).carry = 12200 ∧
    (Pulse.minPulse 128000 { tOn := 12800 } { trs := [{ t := 60000, on := true }, { t := 69000, on := false }], carry := 12200 }).trs =
      [{ t := 53900, on := true }, { t := 75100, on := false }] := by decide +kernel
/-- The brake chopper with STRETCH. -/
theorem test_chopper_stretch :
    (Pulse.minPulse 128000 { tOn := 12800, pol := .stretch } { trs := [{ t := 60000, on := true }, { t := 63200, on := false }] }).trs =
      [{ t := 55200, on := true }, { t := 68000, on := false }] := by decide +kernel
/-- The auxiliary leg: y on at 43,000 after x off at 40,000, G = 6,400, is delayed to 46,400. -/
theorem test_leg_gap : ((Pulse.wedge 128000 6400 .delay { st := { level := true }, trs := [{ t := 40000, on := false }] }
      { trs := [{ t := 43000, on := true }, { t := 100000, on := false }] }).2.trs.map (·.t)) = [46400, 100000] := by decide +kernel
/-- Its overlap under DROP: the pulse of x is removed. -/
theorem test_leg_overlap : (Pulse.wedge 128000 6400 .drop { trs := [{ t := 60000, on := true }, { t := 64000, on := false }] }
      { st := { level := true }, trs := [{ t := 70000, on := false }] }).1.trs = [] := by decide +kernel
/-- A trace of 8 probes has 58,254 rows. -/
theorem test_trace_rows : traceRows { probes := 8 } = 58254 := by decide
/-- R117: a mailbox doorbell makes what the buffer holds a record that waits. -/
theorem test_doorbell : ∃ u, exec (.hostMbxDoorbell 0 1) up = .next u ∧ (u.mbx 1).busy = true := ⟨_, rfl, by decide +kernel⟩
/-- R131: RESUME with its session closed is refused as NO_SESSION and consumes nothing. -/
theorem test_resume_closed : ∃ u, exec (.resume 0 { src := .mbx0, sess := 33 } 0) up = .next u ∧ (u.ctx 1).st = 0 ∧ u.host.spoilHead = 1 :=
  ⟨_, rfl, by decide +kernel, by decide +kernel⟩
/-- R697: a write to a register that is RO changes nothing: IMG_ID. -/
theorem test_ro_write : ∃ u, exec (.registerWrite 0 .jtag 0x240008 4 5) up = .next u ∧ u.jnl.head = 0 ∧ u.host.spoilHead = 0 :=
  ⟨_, rfl, by decide +kernel, by decide +kernel⟩

/-! ### States and operands that meet the hypotheses of every clause of the statements -/

theorem witness_AdcCommands :
    (∃ (s : State) (t : Nat) (h : RecHdr), Accepts cmdAdcCal h [] (s.begin t)) ∧
    (∃ (s : State) (t : Nat) (d : Nat) (h : RecHdr) (i : InjDecl), Accepts cmdAdcInject h (le 1 d ++ le 3 0) (s.begin t) ∧ ((s.begin t).adc1 h.target).st = 3 ∧ ((s.begin t).adc1 h.target).queue = [] ∧ ((s.begin t).injDecl h.target (field (le 1 d ++ le 3 0) 0 1)) = some i) ∧
    (∃ (s : State) (t : Nat) (code : Nat) (h : RecHdr), Accepts cmdTdacSet h (le 2 code ++ le 2 0) (s.begin t) ∧ (at' s.adc.tdac h.target (0, none)).2 = none) ∧
    (∃ (s : State) (t : Nat) (input : Nat) (h : RecHdr), Accepts cmdTdacConnect h (le 1 input ++ le 3 0) (s.begin t) ∧ (at' s.adc.tdac h.target (0, none)).2 = none ∧ field (le 1 input ++ le 3 0) 0 1 ≠ 0xFF) := by
  exact ⟨⟨(withDesc dA), 0, h0,
      accepts_ok (by decide +kernel)⟩,
    ⟨(withDesc dA |> atAdc 0 fun x => { x with st := 3 }), 0, 0, h0, _,
      accepts_ok (by decide +kernel),
      by first | decide +kernel | rfl,
      by first | decide +kernel | rfl,
      by first | decide +kernel | rfl⟩,
    ⟨(withDesc dA), 0, 5, h0,
      accepts_ok (by decide +kernel),
      by first | decide +kernel | rfl⟩,
    ⟨(withDesc dA), 0, 3, h0,
      accepts_ok (by decide +kernel),
      by first | decide +kernel | rfl,
      by first | decide +kernel | rfl⟩⟩
theorem witness_AdcSequencing :
    (∃ (s : State) (b : State) (t : Nat) (a : Nat), b = s.begin t ∧ b.adcOn = true ∧ (b.adcDecl a).entries ≠ [] ∧ (b.adcDecl a).free = true ∧ (b.adc1 a).entry = none ∧ (b.adc1 a).job = none ∧ (b.adc1 a).st = 2 ∧ (b.adc1 a).cal ≠ 1 ∧ (b.adc1 a).runAt ≠ b.now + 1) ∧
    (∃ (s : State) (b : State) (t : Nat) (a : Nat) (e : Nat), b = s.begin t ∧ b.adcOn = true ∧ (b.adcDecl a).entries ≠ [] ∧ (b.adcDecl a).free = false ∧ b.runInstant (b.adcDecl a) = true ∧ (b.adc1 a).entry = some e ∧ (b.adc1 a).st ≠ 0 ∧ (b.adc1 a).st ≠ 4 ∧ (b.adc1 a).runAt ≠ b.now + 1) ∧
    (∃ (s : State) (b : State) (t : Nat) (a : Nat) (w : Nat), b = s.begin t ∧ (b.adc1 a).st = 2 ∧ (b.adc1 a).wakeAt = some w ∧ w = b.now ∧ (b.adc1 a).entry = none ∧ (b.adc1 a).queue = [] ∧ (b.adcDecl a).pd = false) ∧
    (∃ (s : State) (b : State) (t : Nat) (a : Nat) (e : Nat) (nv : Int), b = s.begin t ∧ (b.adc1 a).st = 3 ∧ (b.adc1 a).jobAt + 2560 = b.now ∧ (b.adc1 a).job = some (.entry e) ∧ (b.adcDecl a).entries.length = e + 1 ∧ (b.adcDecl a).free = false ∧ (b.adcDecl a).pd = false ∧ (b.entryDecl a e).shared = false ∧ State.outOfSpan nv = false ∧ (b.adc1 a).loose = none ∧ at' b.clk.trimDue (2 + a) none = none ∧ b.isDoubt a (b.entryDecl a e).ch (b.adc1 a).jobAt false = false ∧ (b.adc1 a).queue = []) ∧
    (∃ (s : State) (b : State) (t : Nat) (a : Nat) (j : Nat) (c : Nat), b = s.begin t ∧ b.adcOn = true ∧ b.timeline = true ∧ b.injDecl a j = some { ch := c, trig := .phase b.cyc } ∧ (b.adc1 a).st = 3 ∧ (b.adc1 a).queue = [] ∧ b.inPer = 16 * b.cyc ∧ at' (b.adc1 a).asked j 0 ≠ b.now + 1) ∧
    (∃ (s : State) (b : State) (t : Nat) (a : Nat), b = s.begin t ∧ (b.adc1 a).cal = 1 ∧ (b.adc1 a).job = none ∧ (b.adc1 a).queue = [] ∧ (b.adc1 a).st = 1 ∧ (b.adc1 (State.partner a)).st = 0) ∧
    (∃ (s : State) (b : State) (t : Nat) (a : Nat) (ofs : Int) (gain : Word), b = s.begin t ∧ (b.adc1 a).st = 4 ∧ (b.adc1 a).calAt + 512000 = b.now ∧ State.calFails ofs gain = false ∧ (b.adc1 a).held = [] ∧ (b.adc1 a).entry = none ∧ (b.adc1 a).queue = [] ∧ (b.adcDecl a).pd = false) := by
  exact ⟨⟨(withDesc dA |> atAdc 1 fun x => { x with st := 2 }), _, 0, 1,
      rfl,
      by first | decide +kernel | rfl,
      by first | decide +kernel | rfl,
      by first | decide +kernel | rfl,
      by first | decide +kernel | rfl,
      by first | decide +kernel | rfl,
      by first | decide +kernel | rfl,
      by first | decide +kernel | rfl,
      by first | decide +kernel | rfl⟩,
    ⟨(withDesc dA |> atAdc 0 fun x => { x with st := 3, entry := some 0 }), _, 0, 0, 0,
      rfl,
      by first | decide +kernel | rfl,
      by first | decide +kernel | rfl,
      by first | decide +kernel | rfl,
      by first | decide +kernel | rfl,
      by first | decide +kernel | rfl,
      by first | decide +kernel | rfl,
      by first | decide +kernel | rfl,
      by first | decide +kernel | rfl⟩,
    ⟨(withDesc dA |> atAdc 0 fun x => { x with st := 2, wakeAt := some 3840 }), _, 3840, 0, 3840,
      rfl,
      by first | decide +kernel | rfl,
      by first | decide +kernel | rfl,
      by first | decide +kernel | rfl,
      by first | decide +kernel | rfl,
      by first | decide +kernel | rfl,
      by first | decide +kernel | rfl⟩,
    ⟨(withDesc dA |> atAdc 0 fun x => { x with st := 3, job := some (.entry 0), entry := some 0 }), _, 2560, 0, 0, 900000000,
      rfl,
      by first | decide +kernel | rfl,
      by first | decide +kernel | rfl,
      by first | decide +kernel | rfl,
      by first | decide +kernel | rfl,
      by first | decide +kernel | rfl,
      by first | decide +kernel | rfl,
      by first | decide +kernel | rfl,
      by first | decide +kernel | rfl,
      by first | decide +kernel | rfl,
      by first | decide +kernel | rfl,
      by first | decide +kernel | rfl,
      by first | decide +kernel | rfl⟩,
    ⟨(withDesc dA |> atAdc 0 fun x => { x with st := 3 }), _, 0, 0, 1, 1,
      rfl,
      by first | decide +kernel | rfl,
      by first | decide +kernel | rfl,
      by first | decide +kernel | rfl,
      by first | decide +kernel | rfl,
      by first | decide +kernel | rfl,
      by first | decide +kernel | rfl,
      by first | decide +kernel | rfl⟩,
    ⟨(withDesc dA |> atAdc 0 fun x => { x with st := 1, cal := 1 }), _, 0, 0,
      rfl,
      by first | decide +kernel | rfl,
      by first | decide +kernel | rfl,
      by first | decide +kernel | rfl,
      by first | decide +kernel | rfl,
      by first | decide +kernel | rfl⟩,
    ⟨(withDesc dA |> atAdc 0 fun x => { x with st := 4 }), _, 512000, 0, 0, 0x3F800000,
      rfl,
      by first | decide +kernel | rfl,
      by first | decide +kernel | rfl,
      by first | decide +kernel | rfl,
      by first | decide +kernel | rfl,
      by first | decide +kernel | rfl,
      by first | decide +kernel | rfl,
      by first | decide +kernel | rfl⟩⟩
theorem witness_BalancingAndEvents :
    (∃ (s : State) (b : State) (t : Nat) (a : Nat), b = s.begin t ∧ b.timeline = true ∧ b.armOn a = true ∧ 0 ∉ (b.arm a).steps ∧ b.benchAfter (b.now - b.lagged.inPer + 1280) (b.armDecl a).sortCycle = true) ∧
    (∃ (s : State) (b : State) (t : Nat) (a : Nat), b = s.begin t ∧ b.timeline = true ∧ b.armOn a = true ∧ (b.arm a).sorting = true ∧ b.benchAfter (b.arm a).sortAt (State.sortTime (b.arm a).keys.length) = true ∧ b.lagged.inPer ≤ b.deadline ∧ (b.armDecl a).spread = false) ∧
    (∃ (s : State) (b : State) (t : Nat) (a : Nat) (l : List BalKey), b = s.begin t ∧ b.armStep a 1 (b.armDecl a).listAt = true ∧ b.balSends a = true ∧ (b.arm a).list = some l ∧ (b.armDecl a).master ≠ b.node) ∧
    (∃ (s : State) (b : State) (t : Nat) (x : PortRx) (h : MHdr) (p : Bytes), b = (s.begin t).brought x h p ∧ FrameFor x h p (s.begin t) ∧ h.typ = 4 ∧ b.timeline = true ∧ b.balSends (balHdrOf p).arm = true ∧ (b.armDecl (balHdrOf p).arm).master = b.node ∧ (balHdrOf p).node ∈ (b.armDecl (balHdrOf p).arm).nodes ∧ (balHdrOf p).period = b.per ∧ (balHdrOf p).node ≠ b.node) ∧
    (∃ (s : State) (b : State) (t : Nat) (a : Nat) (m : Nat) (own : List BalKey) (l : List BalKey), b = s.begin t ∧ b.armStep a 2 (b.armDecl a).mergeAt = true ∧ b.balSends a = true ∧ (b.armDecl a).master = b.node ∧ (b.armDecl a).nodes = [b.node, m] ∧ m ≠ b.node ∧ (b.arm a).list = some own ∧ (b.arm a).lists = [(m, b.per, l)] ∧ b.bal.missM < 65536) ∧
    (∃ (s : State) (b : State) (t : Nat) (x : PortRx) (h : MHdr) (p : Bytes), b = (s.begin t).brought x h p ∧ FrameFor x h p (s.begin t) ∧ h.typ = 4 ∧ b.timeline = true ∧ b.armOn (balHdrOf p).arm = true ∧ (b.armDecl (balHdrOf p).arm).spread = true ∧ (b.armDecl (balHdrOf p).arm).master ≠ b.node ∧ (balHdrOf p).node = b.node ∧ (balHdrOf p).period = b.per) ∧
    (∃ (s : State) (b : State) (t : Nat) (a : Nat) (n : Nat) (own : List BalKey) (r : List Nat) (dir : Bool), b = s.begin t ∧ b.armStep a 3 (b.kO - 40) = true ∧ (b.armDecl a).spread = true ∧ (b.arm a).list = some own ∧ (b.arm a).slice = some (b.per, r, dir, n) ∧ r.length = own.length ∧ (b.armDecl a).master ≠ b.node) ∧
    (∃ (s : State) (b : State) (t : Nat) (a : Nat), b = s.begin t ∧ b.armStep a 3 (b.kO - 40) = true ∧ (b.armDecl a).spread = true ∧ (b.arm a).slice = none) ∧
    (∃ (s : State) (b : State) (t : Nat) (a : Nat), b = s.begin t ∧ b.armOn a = true ∧ 8 ≤ (b.arm a).missRun ∧ b.bal.flt.testBit 31 = false) ∧
    (∃ (s : State) (b : State) (t : Nat) (c : Nat), b = s.begin t ∧ b.atPoint 8 80 = true ∧ b.reached 0 = true ∧ b.thermCells = [c] ∧ c < b.bal.cells.length ∧ (b.therm c).ch ≠ [] ∧ (b.cell c).stale = true ∧ b.bal.tblAt ≠ b.absPer) ∧
    (∃ (s : State) (b : State) (t : Nat), b = s.begin t ∧ b.atPoint 9 (b.kF - 80) = true ∧ b.reached 8 = true) ∧
    (∃ (s : State) (b : State) (t : Nat) (c : Nat), b = s.begin t ∧ (b.therm c).restart = true ∧ (b.therm c).restartAt + (b.kind c).derateRestart * 12800000000 ≤ b.now) ∧
    (∃ (s : State) (b : State) (t : Nat) (x : Int), b = s.begin t ∧ b.bal.dieFail = 0 ∧ b.bal.dieLost = false ∧ b.bal.dieFast = false ∧ -240 < x ∧ x < 8 * ((b.bal.dieWarnSet : Int) - 10) ∧ x < 1080) ∧
    (∃ (s : State) (b : State) (t : Nat), b = s.begin t ∧ b.bal.dieFast = true ∧ b.bal.dieQuietAt + 128000000 ≤ b.now) ∧
    (∃ (s : State) (b : State) (t : Nat) (r : EvRec) (q : List EvRec), b = s.begin t ∧ b.evs.queue = r :: q ∧ b.evReady = true) ∧
    (∃ (s : State) (b : State) (t : Nat) (r : EvRec), b = s.begin t ∧ r ∈ b.evs.ring ∧ b.evs.head ≠ 0 ∧ State.evSector r.num = State.evAhead b.evs) ∧
    (∃ (s : State) (b : State) (t : Nat) (h : RecHdr), Accepts cmdThermReinit h [] (s.begin t) ∧ b = s.begin t) ∧
    (∃ (s : State) (t : Nat) (en : Nat) (h : RecHdr), Accepts cmdBalShare h (le 1 en ++ le 3 0) (s.begin t) ∧ en < 2) ∧
    (∃ (s : State) (b : State) (t : Nat) (h : RecHdr) (d : Bytes), Accepts cmdEvsMark h d (s.begin t) ∧ b = s.begin t ∧ d.length = 12 ∧ b.evs.recent = [] ∧ b.evs.queue.length < 16) := by
  exact ⟨⟨upB, _, 1280, 1,
      rfl,
      by first | decide +kernel | rfl,
      by first | decide +kernel | rfl,
      by first | decide +kernel | rfl,
      by first | decide +kernel | rfl⟩,
    ⟨(upB.onArm 1 fun x => { x with sorting := true }), _, 820, 1,
      rfl,
      by first | decide +kernel | rfl,
      by first | decide +kernel | rfl,
      by first | decide +kernel | rfl,
      by first | decide +kernel | rfl,
      by first | decide +kernel | rfl,
      by first | decide +kernel | rfl⟩,
    ⟨((withDesc { dB with arms := [{ spread := true, master := 1, members := [0, 1], nodes := [0, 1] }] }).onArm 0 fun x => { x with list := some [] }), _, 0, 0, _,
      rfl,
      by first | decide +kernel | rfl,
      by first | decide +kernel | rfl,
      by first | decide +kernel | rfl,
      by first | decide +kernel | rfl⟩,
    ⟨(port0 upB), _, 0, (meshRx 0 { typ := 4, src := 1 } (balHdrBytes { arm := 0, node := 1 })), ({ typ := 4, src := 1 }), (balHdrBytes { arm := 0, node := 1 }),
      rfl,
      frameFor_ok (by decide +kernel),
      by first | decide +kernel | rfl,
      by first | decide +kernel | rfl,
      by first | decide +kernel | rfl,
      by first | decide +kernel | rfl,
      by first | decide +kernel | rfl,
      by first | decide +kernel | rfl,
      by first | decide +kernel | rfl⟩,
    ⟨(upB.onArm 0 fun x => { x with list := some [], lists := [(1, 0, [])] }), _, 0, 0, 1, [], [],
      rfl,
      by first | decide +kernel | rfl,
      by first | decide +kernel | rfl,
      by first | decide +kernel | rfl,
      by first | decide +kernel | rfl,
      by first | decide +kernel | rfl,
      by first | decide +kernel | rfl,
      by first | decide +kernel | rfl,
      by first | decide +kernel | rfl⟩,
    ⟨(port0 (withDesc { dB with mesh := { dB.mesh with node := 1 } })), _, 0, (meshRx 0 { typ := 4, dst := 1 } (balHdrBytes { arm := 0, node := 1 })), ({ typ := 4, dst := 1 }), (balHdrBytes { arm := 0, node := 1 }),
      rfl,
      frameFor_ok (by decide +kernel),
      by first | decide +kernel | rfl,
      by first | decide +kernel | rfl,
      by first | decide +kernel | rfl,
      by first | decide +kernel | rfl,
      by first | decide +kernel | rfl,
      by first | decide +kernel | rfl,
      by first | decide +kernel | rfl⟩,
    ⟨((withDesc { dB with arms := [{ spread := true, master := 1, members := [0, 1], nodes := [0, 1] }] }).onArm 0 fun x => { x with list := some [], slice := some (0, [], true, 3) }), _, 50560, 0, 3, [], [], true,
      rfl,
      by first | decide +kernel | rfl,
      by first | decide +kernel | rfl,
      by first | decide +kernel | rfl,
      by first | decide +kernel | rfl,
      by first | decide +kernel | rfl,
      by first | decide +kernel | rfl⟩,
    ⟨upB, _, 50560, 0,
      rfl,
      by first | decide +kernel | rfl,
      by first | decide +kernel | rfl,
      by first | decide +kernel | rfl⟩,
    ⟨(upB.onArm 1 fun x => { x with missRun := 8 }), _, 0, 1,
      rfl,
      by first | decide +kernel | rfl,
      by first | decide +kernel | rfl,
      by first | decide +kernel | rfl⟩,
    ⟨({ (((withDesc { dB with arms := [{ members := [0] }] }).onSeam fun x => { x with cells := modAt x.cells 0 fun y => { y with stale := true } }).onTherm 0 fun x => { x with ch := [(0, 0, [])] }) with pts := [1] }), _, 1280, 0,
      rfl,
      by first | decide +kernel | rfl,
      by first | decide +kernel | rfl,
      by first | decide +kernel | rfl,
      by first | decide +kernel | rfl,
      by first | decide +kernel | rfl,
      by first | decide +kernel | rfl,
      by first | decide +kernel | rfl⟩,
    ⟨({ upB.onBal (fun x => { x with prevCells := x.cells }) with pts := [1, 1, 1, 1, 1, 1, 1, 1, 1] }), _, 126720,
      rfl,
      by first | decide +kernel | rfl,
      by first | decide +kernel | rfl⟩,
    ⟨(upB.onTherm 127 fun x => { x with restart := true }), _, 12800000000, 127,
      rfl,
      by first | decide +kernel | rfl,
      by first | decide +kernel | rfl⟩,
    ⟨upB, _, 0, 839,
      rfl,
      by first | decide +kernel | rfl,
      by first | decide +kernel | rfl,
      by first | decide +kernel | rfl,
      by first | decide +kernel | rfl,
      by first | decide +kernel | rfl,
      by first | decide +kernel | rfl⟩,
    ⟨(upB.onBal fun x => { x with dieFast := true }), _, 128000000,
      rfl,
      by first | decide +kernel | rfl,
      by first | decide +kernel | rfl⟩,
    ⟨(upB.onEvs fun x => { x with queue := [{ code := 0x0880 }] }), _, 0, _, _,
      rfl,
      by first | decide +kernel | rfl,
      by first | decide +kernel | rfl⟩,
    ⟨(upB.onEvs fun x => { x with ring := [{ num := 128, code := 1 }], head := 1 }), _, 0, ({ num := 128, code := 1 }),
      rfl,
      by first | decide +kernel | rfl,
      by first | decide +kernel | rfl,
      by first | decide +kernel | rfl⟩,
    ⟨((withDesc { dB with arms := [{ members := [127] }] }).onTherm 127 fun x => { x with ch := [(0, 0, [])], restart := true }), _, 0, ({ h0 with target := 127 }),
      accepts_ok (by decide +kernel),
      rfl⟩,
    ⟨upB, 0, 1, ({ h0 with target := 1 }),
      accepts_ok (by decide +kernel),
      by first | decide +kernel | rfl⟩,
    ⟨upB, _, 0, h0, (List.replicate 12 7),
      accepts_ok (by decide +kernel),
      rfl,
      by first | decide +kernel | rfl,
      by first | decide +kernel | rfl,
      by first | decide +kernel | rfl⟩⟩
theorem witness_BenchInstructions :
    (∃ (s : State) (b : State) (t : Nat) (k : Nat), b = s.begin t ∧ Issues k b) ∧
    (∃ (s : State) (b : State) (t : Nat) (k : Nat), b = s.begin t ∧ Issues k b) ∧
    (∃ (s : State) (b : State) (t : Nat) (k : Nat), b = s.begin t ∧ Issues k b) ∧
    (∃ (s : State) (b : State) (t : Nat) (k : Nat), b = s.begin t ∧ Issues k b) ∧
    (∃ (s : State) (b : State) (t : Nat) (k : Nat), b = s.begin t ∧ Issues k b) ∧
    (∃ (s : State) (b : State) (t : Nat) (k : Nat) (addr : Nat) (n : Nat), b = s.begin t ∧ Issues k b ∧ State.loadOk addr n = true) ∧
    (∃ (s : State) (b : State) (t : Nat) (k : Nat) (addr : Nat) (n : Nat), b = s.begin t ∧ Issues k b ∧ State.storeOk addr n = true) ∧
    (∃ (s : State) (b : State) (t : Nat) (k : Nat), b = s.begin t ∧ Issues k b) ∧
    (∃ (s : State) (b : State) (t : Nat) (k : Nat), b = s.begin t ∧ Issues k b ∧ (b.bench k).cyc + 1 = (b.benchDecl k).cb ∧ b.lagged.inPer ≤ b.deadline) ∧
    (∃ (s : State) (b : State) (t : Nat) (k : Nat), b = s.begin t ∧ Issues k b ∧ b.deadline < b.lagged.inPer) ∧
    (∃ (s : State) (b : State) (t : Nat) (k : Nat), b = s.begin t ∧ Issues k b ∧ (b.bench k).cyc % 16 = k) ∧
    (∃ (s : State) (b : State) (t : Nat) (k : Nat) (c : Nat) (d : Nat) (v : List Word) (r : List (Nat × Nat × List Word)), b = s.begin t ∧ (b.bench k).cordic = (c, d, v) :: r ∧ b.benchAfter b.bnc.startAt c = true ∧ ((∀ y ∈ r, c < y.1))) ∧
    (∃ (s : State) (b : State) (t : Nat) (k : Nat) (n : Nat), b = s.begin t ∧ Issues k b ∧ (b.bench k).cyc ∈ (b.benchDecl k).sortCycles ∧ n ≤ 128 ∧ (Sparse.gets 0 ((b.served k).bench k).mem 15936 n).any F32.isNaN = false) ∧
    (∃ (s : State) (b : State) (t : Nat) (k : Nat) (c : Nat) (r : List Nat), b = s.begin t ∧ (b.bench k).sort = some (c, r) ∧ b.benchAfter b.bnc.startAt c = true) ∧
    (∃ (s : State) (b : State) (t : Nat) (k : Nat) (l : Nat) (x : Nat) (d : LoopDecl) (r : RcDecl) (q : Loop) (w : Word), b = s.begin t ∧ Issues k b ∧ (b.bench k).cyc % 16 = k ∧ l ∉ (b.bench k).rcUsed ∧ b.loopDecl l = some d ∧ d.rc = some r ∧ State.rcStep r (b.loopS l) (Config.freeWord s.free) ((b.served k).benchReg k x) = (q, w, false)) ∧
    (∃ (s : State) (b : State) (t : Nat) (k : Nat) (c : Nat) (l : Nat) (w : Word) (r : List (Nat × Nat × Word)), b = s.begin t ∧ (b.bench k).rc = (c, l, w) :: r ∧ b.benchAfter b.bnc.startAt c = true ∧ ((∀ y ∈ r, c < y.1))) ∧
    (∃ (s : State) (b : State) (t : Nat) (k : Nat), b = s.begin t ∧ b.benchRuns k = true ∧ (b.benchDecl k).progLen ≤ (b.bench k).pc) := by
  exact ⟨⟨(benchUp 15 id), _, 0, 15,
      rfl,
      by constructor <;> decide +kernel⟩,
    ⟨(benchUp 15 id), _, 0, 15,
      rfl,
      by constructor <;> decide +kernel⟩,
    ⟨(benchUp 15 id), _, 0, 15,
      rfl,
      by constructor <;> decide +kernel⟩,
    ⟨(benchUp 15 id), _, 0, 15,
      rfl,
      by constructor <;> decide +kernel⟩,
    ⟨(benchUp 15 id), _, 0, 15,
      rfl,
      by constructor <;> decide +kernel⟩,
    ⟨(benchUp 15 id), _, 0, 15, 0x6000, 4,
      rfl,
      by constructor <;> decide +kernel,
      by first | decide +kernel | rfl⟩,
    ⟨(benchUp 15 id), _, 0, 15, 0xFFF0, 4,
      rfl,
      by constructor <;> decide +kernel,
      by first | decide +kernel | rfl⟩,
    ⟨(benchUp 15 id), _, 0, 15,
      rfl,
      by constructor <;> decide +kernel⟩,
    ⟨(benchUp 15 id), _, 0, 15,
      rfl,
      by constructor <;> decide +kernel,
      by first | decide +kernel | rfl,
      by first | decide +kernel | rfl⟩,
    ⟨(benchUp 15 fun q => { q with cyc := 4063 }), _, 52007, 15,
      rfl,
      by constructor <;> decide +kernel,
      by first | decide +kernel | rfl⟩,
    ⟨(benchUp 15 fun q => { q with cyc := 31 }), _, 397, 15,
      rfl,
      by constructor <;> decide +kernel,
      by first | decide +kernel | rfl⟩,
    ⟨(benchUp 15 fun q => { q with cyc := 40, cordic := [(40, 3, [])] }), _, 512, 15, 40, 3, _, _,
      rfl,
      by first | decide +kernel | rfl,
      by first | decide +kernel | rfl,
      by first | decide +kernel | rfl⟩,
    ⟨(benchUp 15 id), _, 0, 15, 128,
      rfl,
      by constructor <;> decide +kernel,
      by first | decide +kernel | rfl,
      by first | decide +kernel | rfl,
      by first | decide +kernel | rfl⟩,
    ⟨(benchUp 15 fun q => { q with cyc := 7, sort := some (7, [0]) }), _, 90, 15, 7, _,
      rfl,
      by first | decide +kernel | rfl,
      by first | decide +kernel | rfl⟩,
    ⟨(benchUp 15 fun q => { q with cyc := 15 }), _, 192, 15, 31, 0, _, _, _, _,
      rfl,
      by constructor <;> decide +kernel,
      by first | decide +kernel | rfl,
      by first | decide +kernel | rfl,
      by first | decide +kernel | rfl,
      by first | decide +kernel | rfl,
      by first | decide +kernel | rfl⟩,
    ⟨(benchUp 15 fun q => { q with cyc := 31, rc := [(31, 31, 5)] }), _, 397, 15, 31, 31, _, _,
      rfl,
      by first | decide +kernel | rfl,
      by first | decide +kernel | rfl,
      by first | decide +kernel | rfl⟩,
    ⟨(benchUp 15 fun q => { q with pc := 65535 }), _, 0, 15,
      rfl,
      by first | decide +kernel | rfl,
      by first | decide +kernel | rfl⟩⟩
theorem witness_BenchesLoopsAndTrace :
    (∃ (s : State) (b : State) (t : Nat) (k : Nat), b = s.begin t ∧ b.atPoint 1 80 = true ∧ b.reached 0 = true ∧ (b.cfg.topo.pair = false ∨ b.pair.st ≠ 3) ∧ k < 16 ∧ b.benchOn k = true ∧ k < b.bnc.benches.length) ∧
    (∃ (s : State) (b : State) (t : Nat) (k : Nat), b = s.begin t ∧ b.lagged.atPoint 2 (b.kO - 8) = true ∧ k < 16 ∧ (b.bench k).running = true ∧ (b.bench k).ended = false ∧ ((∀ j, j ≠ k → (b.bench j).running = false))) ∧
    (∃ (s : State) (b : State) (t : Nat), b = s.begin t ∧ b.bnc.escalated = false ∧ b.bnc.bad = true ∧ b.bnc.hist.any id = true ∧ b.role ≠ 1) ∧
    (∃ (s : State) (b : State) (t : Nat), b = s.begin t ∧ b.bnc.escalated = false ∧ b.bnc.bad = true ∧ b.bnc.hist.any id = true ∧ b.role = 1 ∧ b.activeCovered = false) ∧
    (∃ (s : State) (b : State) (t : Nat) (g : GainTable), b = s.begin t ∧ b.atPoint 6 80 = true ∧ b.reached 0 = true ∧ b.cfg.gains = [g] ∧ b.gainVarsOk g = true ∧ b.bnc.gsNext = [] ∧ b.bal.tblAt ≠ b.absPer) ∧
    (∃ (s : State) (b : State) (t : Nat), b = s.begin t ∧ b.atPoint 7 (b.kF - 160) = true ∧ b.bnc.gsRun = true) ∧
    (∃ (s : State) (b : State) (t : Nat) (n : Nat), b = s.begin t ∧ b.atPoint 7 (b.kF - 160) = true ∧ b.bnc.gsRun = true ∧ (b.bnc.gsNext.any fun y => y.1 == n) = true) ∧
    (∃ (s : State) (b : State) (t : Nat), b = s.begin t ∧ b.bnc.trace.st = 2 ∧ b.bnc.trace.left = 0) ∧
    (∃ (s : State) (b : State) (t : Nat) (l : Nat) (m : Nat) (h : RecHdr), Accepts cmdLoopOpen h (le 1 l ++ le 1 m ++ le 2 0) (s.begin t) ∧ b = s.begin t ∧ l < 32 ∧ m < 2) ∧
    (∃ (s : State) (b : State) (t : Nat) (l : Nat) (h : RecHdr), Accepts cmdLoopClose h (le 1 l ++ le 3 0) (s.begin t) ∧ b = s.begin t ∧ l < 32) ∧
    (∃ (s : State) (b : State) (t : Nat) (l : Nat) (v : List Word) (h : RecHdr), Accepts cmdLoopManual h (le 1 l ++ le 3 0 ++ v.flatMap fun w => le 4 w.toNat) (s.begin t) ∧ b = s.begin t ∧ l < 32) ∧
    (∃ (s : State) (b : State) (t : Nat) (l : Nat) (i : Nat) (v : List Word) (h : RecHdr) (d : LoopDecl), Accepts cmdCoefWrite h (le 1 l ++ le 1 0 ++ le 2 i ++ v.flatMap fun w => le 4 w.toNat) (s.begin t) ∧ b = s.begin t ∧ l < 32 ∧ i < 512 ∧ b.loopDecl l = some d) ∧
    (∃ (s : State) (b : State) (t : Nat) (l : Nat) (a : Nat) (h : RecHdr), Accepts cmdRcCtl h (le 1 l ++ le 1 a ++ le 2 0) (s.begin t) ∧ b = s.begin t ∧ l < 32 ∧ a < 4) ∧
    (∃ (s : State) (b : State) (t : Nat) (h : RecHdr), Accepts cmdTraceArm h [] (s.begin t) ∧ b = s.begin t) ∧
    (∃ (s : State) (t : Nat) (h : RecHdr), Accepts cmdTraceStop h [] (s.begin t)) ∧
    (∃ (s : State) (t : Nat) (h : RecHdr), Accepts cmdTraceForce h [] (s.begin t)) := by
  exact ⟨⟨({ upB with pts := [1] }), _, 1280, 15,
      rfl,
      by first | decide +kernel | rfl,
      by first | decide +kernel | rfl,
      by first | decide +kernel | rfl,
      by first | decide +kernel | rfl,
      by first | decide +kernel | rfl,
      by first | decide +kernel | rfl⟩,
    ⟨(benchUp 15 id), _, 51072, 15,
      rfl,
      by first | decide +kernel | rfl,
      by first | decide +kernel | rfl,
      by first | decide +kernel | rfl,
      by first | decide +kernel | rfl,
      (others_idle)⟩,
    ⟨(upB.onBnc fun x => { x with bad := true, hist := [false, true] }), _, 0,
      rfl,
      by first | decide +kernel | rfl,
      by first | decide +kernel | rfl,
      by first | decide +kernel | rfl,
      by first | decide +kernel | rfl⟩,
    ⟨((pairUp 4 id).onBnc fun x => { x with bad := true, hist := [false, true] }), _, 0,
      rfl,
      by first | decide +kernel | rfl,
      by first | decide +kernel | rfl,
      by first | decide +kernel | rfl,
      by first | decide +kernel | rfl,
      by first | decide +kernel | rfl⟩,
    ⟨({ withDesc { dB with gains := [{ num := 0 }] } with pts := [1] }), _, 1280, _,
      rfl,
      by first | decide +kernel | rfl,
      by first | decide +kernel | rfl,
      by first | decide +kernel | rfl,
      by first | decide +kernel | rfl,
      by first | decide +kernel | rfl,
      by first | decide +kernel | rfl⟩,
    ⟨(upB.onBnc fun x => { x with gsRun := true }), _, 125440,
      rfl,
      by first | decide +kernel | rfl,
      by first | decide +kernel | rfl⟩,
    ⟨(upB.onBnc fun x => { x with gsRun := true, gsNext := [(31, 0, 0, 0)] }), _, 125440, 31,
      rfl,
      by first | decide +kernel | rfl,
      by first | decide +kernel | rfl,
      by first | decide +kernel | rfl⟩,
    ⟨(upB.onBnc fun x => { x with trace := { x.trace with st := 2 } }), _, 0,
      rfl,
      by first | decide +kernel | rfl,
      by first | decide +kernel | rfl⟩,
    ⟨upB, _, 0, 31, 1, h0,
      accepts_ok (by decide +kernel),
      rfl,
      by first | decide +kernel | rfl,
      by first | decide +kernel | rfl⟩,
    ⟨((upB.onBnc fun x => { x with loops := modAt x.loops 31 fun y => { y with st := 1, cmdOpen := true, manualSrc := true } })), _, 0, 31, h0,
      accepts_ok (by decide +kernel),
      rfl,
      by first | decide +kernel | rfl⟩,
    ⟨((upB.onBnc fun x => { x with loops := modAt x.loops 31 fun y => { y with st := 1, cmdOpen := true, manualSrc := true } })), _, 0, 31, ([5, 6, 7, 8]), h0,
      accepts_ok (by decide +kernel),
      rfl,
      by first | decide +kernel | rfl⟩,
    ⟨((upB.onBnc fun x => { x with loops := modAt x.loops 31 fun y => { y with st := 1, cmdOpen := true, manualSrc := true } })), _, 0, 31, 511, [0], h0, _,
      accepts_ok (by decide +kernel),
      rfl,
      by first | decide +kernel | rfl,
      by first | decide +kernel | rfl,
      by first | decide +kernel | rfl⟩,
    ⟨upB, _, 0, 31, 3, h0,
      accepts_ok (by decide +kernel),
      rfl,
      by first | decide +kernel | rfl,
      by first | decide +kernel | rfl⟩,
    ⟨(upB.onBnc fun x => { x with trace := { x.trace with probes := 1, cfg := x.trace.cfg.set 0 (true, 15, 0xF7FC) } }), _, 0, h0,
      accepts_ok (by decide +kernel),
      rfl⟩,
    ⟨(upB.onBnc fun x => { x with trace := { x.trace with st := 1 } }), 0, h0,
      accepts_ok (by decide +kernel)⟩,
    ⟨(upB.onBnc fun x => { x with trace := { x.trace with st := 1 } }), 0, h0,
      accepts_ok (by decide +kernel)⟩⟩
theorem witness_CellConversation :
    (∃ (s : State) (b : State) (t : Nat) (x : LaneRx) (f : FrameHdr) (p : Bytes), b = s.begin t ∧ Brings x 2 f p b ∧ Hears f 2 0 b ∧ p.length = 24 ∧ later 32 f.period b.per = true ∧ (b.cell f.cell).st = 2 ∧ (feedOf p).status.testBit 0 = true ∧ (feedOf p).status.testBit 2 = false ∧ (feedOf p).status.testBit 3 = false ∧ (feedOf p).status.testBit 5 = false ∧ (feedOf p).status.testBit 9 = false ∧ State.echo (b.talk f.cell) (feedOf p) ≠ some false) ∧
    (∃ (s : State) (b : State) (t : Nat) (x : LaneRx) (f : FrameHdr) (p : Bytes), b = s.begin t ∧ Brings x 2 f p b ∧ Hears f 2 0 b ∧ p.length = 24 ∧ later 32 f.period b.per = false) ∧
    (∃ (s : State) (b : State) (t : Nat) (x : LaneRx), b = s.begin t ∧ b.cellsReal = true ∧ x.lane < 32 ∧ b.laneTakes x.lane = true ∧ b.seamDeaf x.lane = false ∧ cellFrames x = [none]) ∧
    (∃ (s : State) (b : State) (t : Nat) (x : LaneRx) (f : FrameHdr) (p : Bytes), b = s.begin t ∧ Brings x 4 f p b ∧ field p 0 1 = 1 ∧ p ≠ [] ∧ Hears f 4 (field p 0 2) b ∧ (b.talk f.cell).sent.find? (·.1 == f.period) = some (f.period, fieldW p 4) ∧ (b.cell f.cell).st = 1 ∧ (b.cell f.cell).jstep = 6 ∧ (b.talk f.cell).m0 = f.period) ∧
    (∃ (s : State) (b : State) (t : Nat) (x : LaneRx) (f : FrameHdr) (p : Bytes), b = s.begin t ∧ Brings x 5 f p b ∧ field p 0 1 = 1 ∧ p.length = 8 ∧ Hears f 5 (field p 0 2) b ∧ (b.cell f.cell).st = 2 ∧ field p 2 1 ≠ 3) ∧
    (∃ (s : State) (b : State) (t : Nat) (c : Nat), b = s.begin t ∧ c < b.seam.cells.length ∧ (b.cell c).st = 1 ∧ 128 < (b.talk c).excess) ∧
    (∃ (s : State) (b : State) (t : Nat) (x : LaneRx) (f : FrameHdr) (p : Bytes) (d : IdentData), b = s.begin t ∧ Brings x 4 f p b ∧ d = identOf (p.drop 8) ∧ b.isIdentity f.cell p = true ∧ Hears f 4 (field p 0 2) b ∧ b.step9 = none ∧ b.declared f.cell = true ∧ (b.cell f.cell).st = 0 ∧ (b.talk f.cell).ident = none ∧ (b.talk f.cell).queue = [] ∧ (b.talk f.cell).seat = none ∧ d.typ = (b.kind f.cell).typ ∧ d.rating = (b.kind f.cell).rating ∧ (b.kind f.cell).minFw ≤ d.fw) ∧
    (∃ (s : State) (b : State) (t : Nat) (c : Nat), b = s.begin t ∧ b.maySend = true ∧ b.inForce = true ∧ b.step9 = none ∧ c ∈ b.cfg.cells.map (·.idx) ∧ (b.cell c).st = 0 ∧ (b.talk c).ctrl = none ∧ (b.talk c).queue = [] ∧ c < b.seam.talks.length ∧ b.seam.identAt + b.seam.identMs * 12800000 ≤ b.now) ∧
    (∃ (s : State) (b : State) (t : Nat) (c : Nat) (o : CtrlOp), b = s.begin t ∧ (b.talk c).ctrl = some o ∧ o.op ≠ 15 ∧ o.sentAt + 1280000 ≤ b.now ∧ o.sends < 3) ∧
    (∃ (s : State) (b : State) (t : Nat) (c : Nat), b = s.begin t ∧ b.cellsReal = true ∧ (b.cell c).st = 2 ∧ (b.talk c).heardAt + (b.img.safety.holdPeriods + 2) * b.tick ≤ b.now) ∧
    (∃ (s : State) (b : State) (t : Nat) (c : Nat), b = s.begin t ∧ (b.cell c).st = 1 ∧ (b.cell c).jstep = 5 ∧ (b.talk c).preOn = true ∧ (b.talk c).j5At + (b.kind c).preTimeout * 12800000000 ≤ b.now) ∧
    (∃ (s : State) (b : State) (t : Nat) (c : Nat) (a : Nat), b = s.begin t ∧ (b.cell c).st = 7 ∧ (b.talk c).fwAt = some a ∧ a + (b.kind c).fwRebootMs * 12800000 ≤ b.now) ∧
    (∃ (s : State) (b : State) (t : Nat) (q : Nat), b = s.begin t ∧ (at' b.seam.seams q {}).trip = true ∧ b.maySendTrip = true ∧ b.tripDue q = true) ∧
    (∃ (s : State) (b : State) (t : Nat) (c : Nat) (x : Seen), b = s.begin t ∧ c < b.seam.cells.length ∧ (b.talk c).seen = [x] ∧ x.both = false ∧ x.at_ + b.copyWindow c ≤ b.now ∧ x.path = 1 ∧ b.pathUp (c / 8) true = true) ∧
    (∃ (s : State) (b : State) (t : Nat) (c : Nat) (a : Nat), b = s.begin t ∧ (b.talk c).bypAt = some a ∧ a + 1280000000 ≤ b.now ∧ b.energised = true ∧ (b.cell c).st ≠ 5) ∧
    (∃ (s : State) (b : State) (t : Nat) (h : RecHdr), Accepts cmdCellRejoin h [] (s.begin t) ∧ b = s.begin t ∧ h.target < b.seam.cells.length) ∧
    (∃ (s : State) (b : State) (t : Nat) (n : Nat) (h : RecHdr), Accepts cmdCellAdmit h (le 8 n) (s.begin t) ∧ b = s.begin t ∧ n < 2 ^ 64 ∧ h.target < b.seam.cells.length ∧ h.target < b.seam.talks.length) ∧
    (∃ (s : State) (b : State) (t : Nat) (h : RecHdr), Accepts cmdCellBypass h [] (s.begin t) ∧ b = s.begin t ∧ h.target < b.seam.talks.length) ∧
    (∃ (s : State) (b : State) (t : Nat) (h : RecHdr), Accepts cmdCellExclude h [] (s.begin t) ∧ b = s.begin t ∧ h.target < b.seam.cells.length) ∧
    (∃ (s : State) (b : State) (t : Nat) (o : Nat) (n : Nat) (w : Word) (h : RecHdr), Accepts cmdCellFwLoad h (le 4 o ++ le 4 n ++ le 4 w.toNat) (s.begin t) ∧ b = s.begin t ∧ o < 2 ^ 32 ∧ n < 2 ^ 32 ∧ h.target < b.seam.cells.length ∧ h.target < b.seam.talks.length) := by
  exact ⟨⟨(cellUp 127 (fun x => { x with st := 2 }) id), _, 0, (cellRx 31 2 127 1 0 (le 8 0 ++ le 8 0 ++ le 2 1 ++ le 6 0)), ({ cell := 127, period := 1 }), (le 8 0 ++ le 8 0 ++ le 2 1 ++ le 6 0),
      rfl,
      brings_ok (by decide +kernel),
      by constructor <;> decide +kernel,
      by first | decide +kernel | rfl,
      by first | decide +kernel | rfl,
      by first | decide +kernel | rfl,
      by first | decide +kernel | rfl,
      by first | decide +kernel | rfl,
      by first | decide +kernel | rfl,
      by first | decide +kernel | rfl,
      by first | decide +kernel | rfl,
      by first | decide +kernel | rfl⟩,
    ⟨(cellUp 127 (fun x => { x with st := 2 }) id), _, 0, (cellRx 31 2 127 0 0 (le 8 0 ++ le 8 0 ++ le 8 1)), ({ cell := 127 }), (le 8 0 ++ le 8 0 ++ le 8 1),
      rfl,
      brings_ok (by decide +kernel),
      by constructor <;> decide +kernel,
      by first | decide +kernel | rfl,
      by first | decide +kernel | rfl⟩,
    ⟨(cellUp 127 (fun x => { x with st := 2 }) id), _, 0, (laneRx 30 ((cellBlocks 2 127 1 0 (le 8 0)).dropLast)),
      rfl,
      by first | decide +kernel | rfl,
      by first | decide +kernel | rfl,
      by first | decide +kernel | rfl,
      by first | decide +kernel | rfl,
      by first | decide +kernel | rfl⟩,
    ⟨(cellUp 127 (fun x => { x with st := 1, jstep := 6 }) (fun x => { x with sent := [(1, 5)], m0 := 1 })), _, 0, (cellRx 30 4 127 1 0 (le 4 1 ++ le 4 5)), ({ cell := 127, path := 1, period := 1 }), (le 4 1 ++ le 4 5),
      rfl,
      brings_ok (by decide +kernel),
      by first | decide +kernel | rfl,
      by first | decide +kernel | rfl,
      by constructor <;> decide +kernel,
      by first | decide +kernel | rfl,
      by first | decide +kernel | rfl,
      by first | decide +kernel | rfl,
      by first | decide +kernel | rfl⟩,
    ⟨(cellUp 127 (fun x => { x with st := 2 }) id), _, 0, (cellRx 31 5 127 0 0 (le 2 1 ++ le 6 255)), ({ cell := 127 }), (le 2 1 ++ le 6 255),
      rfl,
      brings_ok (by decide +kernel),
      by first | decide +kernel | rfl,
      by first | decide +kernel | rfl,
      by constructor <;> decide +kernel,
      by first | decide +kernel | rfl,
      by first | decide +kernel | rfl⟩,
    ⟨(cellUp 127 (fun x => { x with st := 1 }) (fun x => { x with excess := 129 })), _, 0, 127,
      rfl,
      by first | decide +kernel | rfl,
      by first | decide +kernel | rfl,
      by first | decide +kernel | rfl⟩,
    ⟨(cellUp 127 id (fun x => { x with identTag := some 0 })), _, 0, (cellRx 31 4 127 0 0 (le 2 3 ++ le 2 24 ++ le 28 0)), ({ cell := 127 }), (le 2 3 ++ le 2 24 ++ le 28 0), {},
      rfl,
      brings_ok (by decide +kernel),
      by first | decide +kernel | rfl,
      by first | decide +kernel | rfl,
      by constructor <;> decide +kernel,
      by first | decide +kernel | rfl,
      by first | decide +kernel | rfl,
      by first | decide +kernel | rfl,
      by first | decide +kernel | rfl,
      by first | decide +kernel | rfl,
      by first | decide +kernel | rfl,
      by first | decide +kernel | rfl,
      by first | decide +kernel | rfl,
      by first | decide +kernel | rfl⟩,
    ⟨upB, _, (12800000 * 10), 127,
      rfl,
      by first | decide +kernel | rfl,
      by first | decide +kernel | rfl,
      by first | decide +kernel | rfl,
      by first | decide +kernel | rfl,
      by first | decide +kernel | rfl,
      by first | decide +kernel | rfl,
      by first | decide +kernel | rfl,
      by first | decide +kernel | rfl,
      by first | decide +kernel | rfl⟩,
    ⟨(cellUp 127 id (fun x => { x with ctrl := some { op := 1, tag := 0, sends := 2 } })), _, 1280000, 127, _,
      rfl,
      by first | decide +kernel | rfl,
      by first | decide +kernel | rfl,
      by first | decide +kernel | rfl,
      by first | decide +kernel | rfl⟩,
    ⟨(cellUp 127 (fun x => { x with st := 2 }) id), _, 256000, 127,
      rfl,
      by first | decide +kernel | rfl,
      by first | decide +kernel | rfl,
      by first | decide +kernel | rfl⟩,
    ⟨(cellUp 127 (fun x => { x with st := 1, jstep := 5 }) (fun x => { x with preOn := true })), _, 12800000000, 127,
      rfl,
      by first | decide +kernel | rfl,
      by first | decide +kernel | rfl,
      by first | decide +kernel | rfl,
      by first | decide +kernel | rfl⟩,
    ⟨(cellUp 127 (fun x => { x with st := 7 }) (fun x => { x with fwAt := some 0 })), _, 64000000000, 127, 0,
      rfl,
      by first | decide +kernel | rfl,
      by first | decide +kernel | rfl,
      by first | decide +kernel | rfl⟩,
    ⟨(upB.onSeam fun x => { x with seams := modAt x.seams 15 fun y => { y with trip := true } }), _, 276824, 15,
      rfl,
      by first | decide +kernel | rfl,
      by first | decide +kernel | rfl,
      by first | decide +kernel | rfl⟩,
    ⟨(cellUp 127 id (fun x => { x with seen := [{ period := 0, kind := 2, tag := 0, path := 1, digest := 0, at_ := 0 }] })), _, 12800, 127, _,
      rfl,
      by first | decide +kernel | rfl,
      by first | decide +kernel | rfl,
      by first | decide +kernel | rfl,
      by first | decide +kernel | rfl,
      by first | decide +kernel | rfl,
      by first | decide +kernel | rfl⟩,
    ⟨((cellUp 127 (fun x => { x with st := 4 }) (fun x => { x with bypAt := some 0 })).onMode fun x => { x with mode := 2 }), _, 1280000000, 127, 0,
      rfl,
      by first | decide +kernel | rfl,
      by first | decide +kernel | rfl,
      by first | decide +kernel | rfl,
      by first | decide +kernel | rfl⟩,
    ⟨(cellUp 127 (fun x => { x with st := 6 }) id), _, 0, ({ h0 with target := 127 }),
      accepts_ok (by decide +kernel),
      rfl,
      by first | decide +kernel | rfl⟩,
    ⟨(cellUp 127 (fun x => { x with st := 6, reason := 2, serial := 2 ^ 64 - 1 }) id), _, 0, (2 ^ 64 - 1), ({ h0 with target := 127 }),
      accepts_ok (by decide +kernel),
      rfl,
      by first | decide +kernel | rfl,
      by first | decide +kernel | rfl,
      by first | decide +kernel | rfl⟩,
    ⟨(cellUp 127 (fun x => { x with st := 2, caps := 1 }) id), _, 0, ({ h0 with target := 127 }),
      accepts_ok (by decide +kernel),
      rfl,
      by first | decide +kernel | rfl⟩,
    ⟨(cellUp 127 (fun x => { x with st := 2 }) id), _, 0, ({ h0 with target := 127 }),
      accepts_ok (by decide +kernel),
      rfl,
      by first | decide +kernel | rfl⟩,
    ⟨((cellUp 127 (fun x => { x with st := 5 }) (fun x => { x with answered := true })).onImg fun x => { x with bufOpen := true }), _, 0, 0, 1024, 0, ({ h0 with target := 127 }),
      accepts_ok (by decide +kernel),
      rfl,
      by first | decide +kernel | rfl,
      by first | decide +kernel | rfl,
      by first | decide +kernel | rfl,
      by first | decide +kernel | rfl⟩⟩
theorem witness_ComparatorsAndTrips :
    (∃ (s : State) (b : State) (t : Nat) (k : Nat) (nv : Int), b = s.begin t ∧ b.inForce = true ∧ (b.cmpDecl k).si = 0 ∧ (b.cmpDecl k).sense = 1 ∧ (b.cmp1 k).on = true ∧ (b.cmp1 k).checking = false ∧ State.thrLevel (b.cmp1 k).thrHi (State.cmpTrim k b) < 16 * nv ∧ b.cmpBlanked k = false ∧ b.latched k = false) ∧
    (∃ (s : State) (b : State) (t : Nat) (k : Nat) (nv : Int), b = s.begin t ∧ (b.cmpDecl k).si ≠ 0 ∧ (b.cmpDecl k).sense = 1 ∧ (b.cmp1 k).on = true ∧ (b.cmp1 k).checking = false ∧ (b.cmp1 k).failed = false ∧ 1792 ≤ b.sysTime % ((b.cmpDecl k).si * 12800) ∧ b.sysTime % ((b.cmpDecl k).si * 12800) ≤ 2560 ∧ (b.cmp1 k).winAt ≠ b.sysTime / ((b.cmpDecl k).si * 12800) + 1 ∧ 16 * nv < State.thrLevel (b.cmp1 k).thrHi (State.cmpTrim k b) - (b.cmpDecl k).hyst * 23437500) ∧
    (∃ (s : State) (b : State) (t : Nat) (k : Nat), b = s.begin t ∧ (b.cmpDecl k).si ≠ 0) ∧
    (∃ (s : State) (b : State) (t : Nat) (k : Nat) (l : List Nat), b = s.begin t ∧ b.pwr.dom.testBit 13 = true ∧ b.inForce = true ∧ b.cmp.cmps.any (·.checking) = false ∧ b.cmp.checks = k :: l) ∧
    (∃ (s : State) (b : State) (t : Nat) (k : Nat), b = s.begin t ∧ (b.cmp1 k).checking = true ∧ (b.cmp1 k).checkAt + 51200 = b.now ∧ b.cmp.checks = [k] ∧ (b.cmp1 k).nv = none ∧ (b.wire k).safety = false) ∧
    (∃ (s : State) (b : State) (t : Nat) (k : Nat), b = s.begin t ∧ k < b.cmp.cmps.length ∧ (b.cmp1 k).tgtLo = (b.cmp1 k).thrLo ∧ (b.cmp1 k).thrHi < (b.cmp1 k).tgtHi ∧ (b.cmp1 k).thrAt + 1280 = b.now) ∧
    (∃ (s : State) (b : State) (t : Nat) (n : Nat) (w : Nat × Nat), b = s.begin t ∧ w ∈ at' b.cmp.blanks n [] ∧ w.1 = b.now) ∧
    (∃ (s : State) (b : State) (t : Nat) (n : Nat), b = s.begin t ∧ ((∃ w ∈ at' b.cmp.blanks n [], w.2 = b.now)) ∧ b.blankActive n = false) ∧
    (∃ (s : State) (b : State) (t : Nat) (n : Nat) (k : Nat), b = s.begin t ∧ ((∃ w ∈ at' b.cmp.blanks n [], w.2 = b.now)) ∧ b.blankActive n = false ∧ k < 24 ∧ ((∀ j < 24, (b.cmpDecl j).blank.testBit n = decide (j = k))) ∧ b.cmpFires k = true ∧ b.cmpBlanked k = false ∧ b.latched k = false ∧ b.inForce = true) ∧
    (∃ (s : State) (b : State) (t : Nat) (i : Nat) (n : Nat) (high : Bool), b = s.begin t ∧ b.pwr.dom.testBit 13 = true ∧ high ≠ (b.wire (24 + i)).actLow ∧ (b.wire (24 + i)).filt < n ∧ i < 8 ∧ b.inForce = true ∧ b.latched (24 + i) = false) ∧
    (∃ (s : State) (b : State) (t : Nat) (i : Nat) (n : Nat) (high : Bool), b = s.begin t ∧ b.pwr.dom.testBit 13 = true ∧ high = (b.wire (24 + i)).actLow ∧ 0 < n) ∧
    (∃ (s : State) (b : State) (t : Nat), b = s.begin t ∧ b.cmp.driving = false ∧ ((b.cmp.ignoring = true → b.cmp.ignoreEnd + 640 ≤ b.now)) ∧ b.inForce = true ∧ b.latched 32 = false) ∧
    (∃ (s : State) (b : State) (t : Nat), b = s.begin t ∧ b.cmp.ignoring = true ∧ b.cmp.driving = false ∧ b.cmp.ignoreEnd ≤ b.now ∧ b.cmp.busLow = false) ∧
    (∃ (s : State) (t : Nat) (w : Nat) (h : RecHdr), Accepts cmdTripRelease h [] (s.begin t) ∧ h.target = w ∧ w < 35) ∧
    (∃ (s : State) (t : Nat) (lo : Nat) (hi : Nat) (h : RecHdr), Accepts cmdCmpThresh h (le 2 lo ++ le 2 hi) (s.begin t) ∧ lo < 1024 ∧ hi < 1024) ∧
    (∃ (s : State) (t : Nat) (h : RecHdr), Accepts cmdCmpCheck h [] (s.begin t)) ∧
    (∃ (s : State) (b : State) (t : Nat) (w : Nat), b = s.begin t ∧ b.cmp.releases = [w] ∧ b.stillFires w = false) ∧
    (∃ (s : State) (b : State) (t : Nat) (x : LaneRx), b = s.begin t ∧ x.lane < 32 ∧ b.laneHears x.lane = true ∧ laneKind .trip x ≠ [] ∧ b.inForce = true ∧ b.latched 34 = false) := by
  exact ⟨⟨(atCmp1 1 fun x => { x with on := true, thrHi := 1023 }), _, 0, 1, 1700000000,
      rfl,
      by first | decide +kernel | rfl,
      by first | decide +kernel | rfl,
      by first | decide +kernel | rfl,
      by first | decide +kernel | rfl,
      by first | decide +kernel | rfl,
      by first | decide +kernel | rfl,
      by first | decide +kernel | rfl,
      by first | decide +kernel | rfl⟩,
    ⟨(atCmp1 23 fun x => { x with on := true, thrHi := 100 }), _, 1792, 23, 0,
      rfl,
      by first | decide +kernel | rfl,
      by first | decide +kernel | rfl,
      by first | decide +kernel | rfl,
      by first | decide +kernel | rfl,
      by first | decide +kernel | rfl,
      by first | decide +kernel | rfl,
      by first | decide +kernel | rfl,
      by first | decide +kernel | rfl,
      by first | decide +kernel | rfl⟩,
    ⟨upB, _, 0, 23,
      rfl,
      by first | decide +kernel | rfl⟩,
    ⟨((upB.onCmp fun x => { x with checks := [23] })), _, 0, 23, [],
      rfl,
      by first | decide +kernel | rfl,
      by first | decide +kernel | rfl,
      by first | decide +kernel | rfl,
      by first | decide +kernel | rfl⟩,
    ⟨((atCmp1 23 fun x => { x with checking := true }).onCmp fun x => { x with checks := [23] }), _, 51200, 23,
      rfl,
      by first | decide +kernel | rfl,
      by first | decide +kernel | rfl,
      by first | decide +kernel | rfl,
      by first | decide +kernel | rfl,
      by first | decide +kernel | rfl⟩,
    ⟨(atCmp1 23 fun x => { x with tgtHi := 1 }), _, 1280, 23,
      rfl,
      by first | decide +kernel | rfl,
      by first | decide +kernel | rfl,
      by first | decide +kernel | rfl,
      by first | decide +kernel | rfl⟩,
    ⟨(atCmp fun x => { x with blanks := [[(0, 1)]] }), _, 0, 0, ((0, 1)),
      rfl,
      by first | decide +kernel | rfl,
      by first | decide +kernel | rfl⟩,
    ⟨(atCmp fun x => { x with blanks := [[(0, 1)]] }), _, 1, 0,
      rfl,
      (⟨(0, 1), by decide +kernel, by decide +kernel⟩),
      by first | decide +kernel | rfl⟩,
    ⟨((withDesc { dB with cmps := List.replicate 23 { sense := 1 } ++ [{ sense := 1, blank := 1 }] }).onCmp fun x => { x with blanks := [[(0, 1)]], cmps := modAt x.cmps 23 fun y => { y with on := true, hi := some true } }), _, 1, 0, 23,
      rfl,
      (⟨(0, 1), by decide +kernel, by decide +kernel⟩),
      by first | decide +kernel | rfl,
      by first | decide +kernel | rfl,
      by first | decide +kernel | rfl,
      by first | decide +kernel | rfl,
      by first | decide +kernel | rfl,
      by first | decide +kernel | rfl,
      by first | decide +kernel | rfl⟩,
    ⟨upB, _, 0, 7, 1, true,
      rfl,
      by first | decide +kernel | rfl,
      by first | decide +kernel | rfl,
      by first | decide +kernel | rfl,
      by first | decide +kernel | rfl,
      by first | decide +kernel | rfl,
      by first | decide +kernel | rfl⟩,
    ⟨upB, _, 0, 7, 1, false,
      rfl,
      by first | decide +kernel | rfl,
      by first | decide +kernel | rfl,
      by first | decide +kernel | rfl⟩,
    ⟨upB, _, 0,
      rfl,
      by first | decide +kernel | rfl,
      by first | decide +kernel | rfl,
      by first | decide +kernel | rfl,
      by first | decide +kernel | rfl⟩,
    ⟨(atCmp fun x => { x with ignoring := true }), _, 0,
      rfl,
      by first | decide +kernel | rfl,
      by first | decide +kernel | rfl,
      by first | decide +kernel | rfl,
      by first | decide +kernel | rfl⟩,
    ⟨(atCmp fun x => { x with latch := x.latch.set 34 true }), 0, 34, ({ h0 with target := 34 }),
      accepts_ok (by decide +kernel),
      by first | decide +kernel | rfl,
      by first | decide +kernel | rfl⟩,
    ⟨upB, 0, 0, 1023, ({ h0 with target := 23 }),
      accepts_ok (by decide +kernel),
      by first | decide +kernel | rfl,
      by first | decide +kernel | rfl⟩,
    ⟨(atCmp1 23 fun x => { x with on := true }), 0, ({ h0 with target := 23 }),
      accepts_ok (by decide +kernel)⟩,
    ⟨(atCmp fun x => { x with releases := [34] }), _, 0, 34,
      rfl,
      by first | decide +kernel | rfl,
      by first | decide +kernel | rfl⟩,
    ⟨((atLane 31 fun l => { l with rx := 5 }) upB), _, 0, (laneRx 31 [(true, tripBytes 1 0)]),
      rfl,
      by first | decide +kernel | rfl,
      by first | decide +kernel | rfl,
      by first | decide +kernel | rfl,
      by first | decide +kernel | rfl,
      by first | decide +kernel | rfl⟩⟩
theorem witness_EdgeScheduler :
    (∃ (s : State) (b : State) (t : Nat) (f : Flight) (q : List Flight), b = s.begin t ∧ b.edg.flights = f :: q ∧ f.at_ + 48 ≤ b.now ∧ ((∀ x ∈ b.edg.flights, b.now < x.at_ + 96)) ∧ b.directOk f.g f.vals = true ∧ b.cyc < b.kO + 16 ∧ f.src ≠ 1) ∧
    (∃ (s : State) (b : State) (t : Nat) (f : Flight) (q : List Flight), b = s.begin t ∧ b.edg.flights = f :: q ∧ f.at_ + 48 ≤ b.now ∧ ((∀ x ∈ b.edg.flights, b.now < x.at_ + 96)) ∧ b.directOk f.g f.vals = true ∧ b.kO + 16 ≤ b.cyc ∧ b.cyc ≤ b.kO + 31 ∧ f.src ≠ 1) ∧
    (∃ (s : State) (b : State) (t : Nat) (f : Flight) (q : List Flight), b = s.begin t ∧ b.edg.flights = f :: q ∧ f.at_ + 48 ≤ b.now ∧ ((∀ x ∈ b.edg.flights, b.now < x.at_ + 96)) ∧ b.directOk f.g f.vals = true ∧ b.kO + 32 ≤ b.cyc ∧ b.reached 5 = true ∧ f.src ≠ 1) ∧
    (∃ (s : State) (b : State) (t : Nat) (f : Flight) (q : List Flight), b = s.begin t ∧ b.edg.flights = f :: q ∧ f.at_ + 48 ≤ b.now ∧ ((∀ x ∈ b.edg.flights, b.now < x.at_ + 96)) ∧ b.directOk f.g f.vals = false) ∧
    (∃ (s : State) (b : State) (t : Nat) (f : Flight) (k : Flight), b = s.begin t ∧ b.edg.flights = [f, k] ∧ f.src = k.src ∧ f.g ≠ k.g ∧ ((∀ x ∈ b.edg.flights, b.now < x.at_ + 96))) ∧
    (∃ (s : State) (b : State) (t : Nat), b = s.begin t ∧ b.atPoint 5 (b.kO + 32) = true ∧ ((∀ x ∈ b.edg.flights, b.now < x.at_ + 96)) ∧ b.edg.stopped = false ∧ b.cfg.topo.pair = false ∧ b.pair.taking = false) ∧
    (∃ (s : State) (b : State) (t : Nat), b = s.begin t ∧ b.compileBad = true ∧ b.edg.stopped = false ∧ b.role ≠ 1) ∧
    (∃ (s : State) (b : State) (t : Nat) (c : Nat) (x : ESet), b = s.begin t ∧ b.comp.done = true ∧ c ∈ b.comp.slow ∧ c < 128 ∧ (c, x) ∈ b.comp.cells ∧ b.shipSlot c = b.sinceC) ∧
    (∃ (s : State) (b : State) (t : Nat) (g : Nat), b = s.begin t ∧ b.comp.done = true ∧ 128 + g ∈ b.comp.slow ∧ b.comp.locals.any (·.1 == g) = true ∧ b.comp.per = b.per ∧ b.timeline = true ∧ b.cyc = b.kO - 64) ∧
    (∃ (s : State) (b : State) (t : Nat) (c : Nat) (x : ESet), b = s.begin t ∧ b.comp.done = true ∧ b.edg.stopped = false ∧ b.maySendEdge = true ∧ b.modeQ.ovl.testBit 4 = false ∧ at' b.cfg.topo.shipOfs (c / 8) 0 = b.sinceC / 16 ∧ b.comp.cells = [(c, x)] ∧ b.comp.slow = []) ∧
    (∃ (s : State) (b : State) (t : Nat) (j : Nat) (y : LSet), b = s.begin t ∧ b.atPoint 4 b.kO = true ∧ b.cfg.topo.pair = false ∧ b.outsHiz = false ∧ j < b.edg.lpwm.length ∧ b.gateShut b.per j = false ∧ b.edg.stopped = false ∧ b.mode.mode ≠ 0 ∧ (b.outDecl j).edges = true ∧ b.groupEnabled (b.outDecl j).group = true ∧ b.comp.done = true ∧ b.comp.per = b.per ∧ (b.comp.locals.flatMap (·.2)).find? (·.out == j) = some y) ∧
    (∃ (s : State) (b : State) (t : Nat), b = s.begin t ∧ b.atPoint 4 b.kO = false) ∧
    (∃ (s : State) (b : State) (t : Nat) (j : Nat) (w : Nat × Bool) (r : List (Nat × Bool)), b = s.begin t ∧ (at' b.edg.lpwm j {}).run = true ∧ (at' b.edg.lpwm j {}).todo = w :: r ∧ w.1 = (b.inPer + b.tick - 16 * b.kO) % b.tick ∧ ((∀ v ∈ r, w.1 < v.1))) ∧
    (∃ (s : State) (b : State) (t : Nat) (g : Nat) (o : Nat) (v : List Word) (h : RecHdr), Accepts cmdRefStage h (le 1 g ++ le 1 0 ++ le 2 o ++ v.flatMap fun w => le 4 w.toNat) (s.begin t) ∧ b = s.begin t ∧ g < 64 ∧ o < 128) ∧
    (∃ (s : State) (b : State) (t : Nat) (g : Nat) (h : RecHdr), Accepts cmdRefCommit h (le 4 g) (s.begin t) ∧ b = s.begin t ∧ g < 64) ∧
    (∃ (s : State) (b : State) (t : Nat) (g : Nat) (h : RecHdr), Accepts cmdRefDiscard h (le 4 g) (s.begin t) ∧ b = s.begin t ∧ g < 64) := by
  exact ⟨⟨(atEdg fun x => { x with flights := [{ g := 1, vals := [], src := 0, at_ := 51150 }] }), _, 51215, ({ g := 1, vals := [], src := 0, at_ := 51150 }), [],
      rfl,
      by first | decide +kernel | rfl,
      (by decide +kernel),
      (by decide +kernel),
      by first | decide +kernel | rfl,
      by first | decide +kernel | rfl,
      by first | decide +kernel | rfl⟩,
    ⟨(atEdg fun x => { x with flights := [{ g := 1, vals := [], src := 0, at_ := 51400 }] }), _, 51456, ({ g := 1, vals := [], src := 0, at_ := 51400 }), [],
      rfl,
      by first | decide +kernel | rfl,
      by first | decide +kernel | rfl,
      by first | decide +kernel | rfl,
      by first | decide +kernel | rfl,
      by first | decide +kernel | rfl,
      by first | decide +kernel | rfl,
      by first | decide +kernel | rfl⟩,
    ⟨({ (atEdg fun x => { x with flights := [{ g := 1, vals := [], src := 0, at_ := 51660 }] }) with pts := [0, 0, 0, 0, 0, 1] }), _, 51712, ({ g := 1, vals := [], src := 0, at_ := 51660 }), [],
      rfl,
      by first | decide +kernel | rfl,
      by first | decide +kernel | rfl,
      by first | decide +kernel | rfl,
      by first | decide +kernel | rfl,
      by first | decide +kernel | rfl,
      by first | decide +kernel | rfl,
      by first | decide +kernel | rfl⟩,
    ⟨((withDesc { dE with groups := [some { kind := .direct, loc := true, slots := 64, outs := [0] }] }).onEdg fun x => { x with flights := [{ g := 0, vals := [1#32, 0#32, 0#32], src := 0, at_ := 51100 }] }), _, 51150, ({ g := 0, vals := [1#32, 0#32, 0#32], src := 0, at_ := 51100 }), [],
      rfl,
      by first | decide +kernel | rfl,
      by first | decide +kernel | rfl,
      by first | decide +kernel | rfl,
      by first | decide +kernel | rfl⟩,
    ⟨(atEdg fun x => { x with flights := [{ g := 0, vals := [], src := 0 }, { g := 1, vals := [], src := 0 }] }), _, 0, ({ g := 0, vals := [], src := 0 }), ({ g := 1, vals := [], src := 0 }),
      rfl,
      by first | decide +kernel | rfl,
      by first | decide +kernel | rfl,
      by first | decide +kernel | rfl,
      by first | decide +kernel | rfl⟩,
    ⟨upE, _, 51712,
      rfl,
      by first | decide +kernel | rfl,
      by first | decide +kernel | rfl,
      by first | decide +kernel | rfl,
      by first | decide +kernel | rfl,
      by first | decide +kernel | rfl⟩,
    ⟨(upE.onComp fun x => { x with bad := true, hist := [false, true] }), _, 0,
      rfl,
      by first | decide +kernel | rfl,
      by first | decide +kernel | rfl,
      by first | decide +kernel | rfl⟩,
    ⟨((upE.onComp fun x => { x with done := true, slow := [127], cells := [(127, {})], per := 1 }).onImg id), _, 51712, 127, {},
      rfl,
      by first | decide +kernel | rfl,
      by first | decide +kernel | rfl,
      by first | decide +kernel | rfl,
      by first | decide +kernel | rfl,
      by first | decide +kernel | rfl⟩,
    ⟨(upE.onComp fun x => { x with done := true, slow := [129], locals := [(1, [])] }), _, 50176, 1,
      rfl,
      by first | decide +kernel | rfl,
      by first | decide +kernel | rfl,
      by first | decide +kernel | rfl,
      by first | decide +kernel | rfl,
      by first | decide +kernel | rfl,
      by first | decide +kernel | rfl⟩,
    ⟨(upE.onComp fun x => { x with done := true, cells := [(127, {})], per := 1 }), _, 51712, 127, {},
      rfl,
      by first | decide +kernel | rfl,
      by first | decide +kernel | rfl,
      by first | decide +kernel | rfl,
      by first | decide +kernel | rfl,
      by first | decide +kernel | rfl,
      by first | decide +kernel | rfl,
      by first | decide +kernel | rfl⟩,
    ⟨(((upE.onComp fun x => { x with done := true, locals := [(0, [{ out := 0, init := true, words := [] }])] }).onMode fun x => { x with mode := 4 })), _, 51200, 0, _,
      rfl,
      by first | decide +kernel | rfl,
      by first | decide +kernel | rfl,
      by first | decide +kernel | rfl,
      by first | decide +kernel | rfl,
      by first | decide +kernel | rfl,
      by first | decide +kernel | rfl,
      by first | decide +kernel | rfl,
      by first | decide +kernel | rfl,
      by first | decide +kernel | rfl,
      by first | decide +kernel | rfl,
      by first | decide +kernel | rfl,
      by first | decide +kernel | rfl⟩,
    ⟨upE, _, 51216,
      rfl,
      by first | decide +kernel | rfl⟩,
    ⟨(atEdg fun x => { x with lpwm := [{ run := true, todo := [(0, true), (5, false)] }] }), _, 51200, 0, _, _,
      rfl,
      by first | decide +kernel | rfl,
      by first | decide +kernel | rfl,
      by first | decide +kernel | rfl,
      by first | decide +kernel | rfl⟩,
    ⟨upE, _, 0, 0, 62, ([1, 2]), h0,
      accepts_ok (by decide +kernel),
      rfl,
      by first | decide +kernel | rfl,
      by first | decide +kernel | rfl⟩,
    ⟨upE, _, 0, 0, h0,
      accepts_ok (by decide +kernel),
      rfl,
      by first | decide +kernel | rfl⟩,
    ⟨upE, _, 0, 0, h0,
      accepts_ok (by decide +kernel),
      rfl,
      by first | decide +kernel | rfl⟩⟩
theorem witness_ImageSlotsAndLoading :
    (∃ (s : State) (b : State) (t : Nat) (h : RecHdr), Accepts cmdImgBufOpen h [] (s.begin t) ∧ b = s.begin t) ∧
    (∃ (s : State) (b : State) (t : Nat) (h : RecHdr), Accepts cmdImgBufClose h [] (s.begin t) ∧ b = s.begin t) ∧
    (∃ (s : State) (b : State) (t : Nat) (k : Nat) (h : RecHdr), Accepts cmdImgSlotErase h (le 4 k) (s.begin t) ∧ b = s.begin t ∧ k < 2 ^ 32) ∧
    (∃ (s : State) (b : State) (t : Nat) (k : Nat), b = s.begin t ∧ s.img.erasing.contains k = true) ∧
    (∃ (s : State) (b : State) (t : Nat) (k : Nat) (n : Nat) (h : RecHdr), Accepts cmdImgSlotWrite h (le 4 k ++ le 4 n) (s.begin t) ∧ b = s.begin t ∧ k < 2 ^ 32 ∧ n < 2 ^ 32) ∧
    (∃ (s : State) (b : State) (t : Nat) (k : Nat) (n : Nat) (c : List Host.Cell) (f : List Host.Cell), b = s.begin t ∧ s.img.writing.find? (·.1 == k) = some (k, n, c) ∧ k < 2 ∧ f = Sparse.putAll 0xFF (Image.cells 0xFF (State.cellBytes c 0 0 n)) 0x1FF000 (Image.commitRec n ((at' s.img.wcnt k 0 + 1) % M32))) ∧
    (∃ (s : State) (b : State) (t : Nat) (k : Nat) (h : RecHdr), Accepts cmdImgSetBoot h (le 4 k) (s.begin t) ∧ b = s.begin t ∧ k < 2 ^ 32) ∧
    (∃ (s : State) (b : State) (t : Nat) (k : Nat) (n : Nat) (h : RecHdr), Accepts cmdImgLoad h (le 4 k ++ le 4 n) (s.begin t) ∧ b = s.begin t ∧ k < 2 ^ 32 ∧ n < 2 ^ 32) ∧
    (∃ (s : State) (b : State) (t : Nat) (h : RecHdr), Accepts cmdImgRecheck h [] (s.begin t) ∧ b = s.begin t) ∧
    (∃ (s : State) (b : State) (t : Nat), b = s.begin t ∧ s.img.fwRun = true ∧ s.img.desc = none ∧ s.img.val = none ∧ (s.img.hostWait = false ∨ s.pwr.reload = true)) ∧
    (∃ (s : State) (b : State) (t : Nat) (v : Val) (d : ImgDesc), b = s.begin t ∧ s.img.val = some v ∧ v.desc = some d ∧ (b.presentAll d v = true ∨ v.at9 + d.host.discWin * Config.ms ≤ b.now)) ∧
    (∃ (s : State) (b : State) (t : Nat) (v : Val), b = s.begin t ∧ s.img.val = some v ∧ v.kind = 1 ∧ s.mode.mode ≠ 0 ∧ s.img.hostWait = false) ∧
    (∃ (s : State) (b : State) (t : Nat) (v : Val) (y : Bytes) (x : Image.Bad), b = s.begin t ∧ s.img.val = some v ∧ v.desc = none ∧ ((v.kind = 1 → s.mode.mode = 0 ∨ s.img.hostWait = true)) ∧ b.imageCheck v.source v.len = (y, some x) ∧ x.st ≠ 5 ∧ v.kind = 1 ∧ s.img.hostWait = false ∧ s.img.desc = none) ∧
    (∃ (s : State) (b : State) (t : Nat) (v : Val) (d : ImgDesc) (y : Bytes), b = s.begin t ∧ s.img.val = some v ∧ v.desc = none ∧ ((v.kind = 1 → s.mode.mode = 0 ∨ s.img.hostWait = true)) ∧ b.valBytes v = (y, none) ∧ ((v.kind = 2 → ∃ a, s.img.held = some (d, a))) ∧ b.fit d = none ∧ b.presentAll d v = false) ∧
    (∃ (s : State) (b : State) (t : Nat) (v : Val) (d : ImgDesc) (y : Bytes), b = s.begin t ∧ s.img.val = some v ∧ v.desc = none ∧ ((v.kind = 1 → s.mode.mode = 0 ∨ s.img.hostWait = true)) ∧ b.valBytes v = (y, none) ∧ ((v.kind = 2 → ∃ a, s.img.held = some (d, a))) ∧ b.fit d = none ∧ s.pwr.reload = false ∧ b.presentAll d v = true ∧ b.presence d v (Image.idOf y) = none) ∧
    (∃ (s : State) (b : State) (t : Nat) (v : Val) (d : ImgDesc) (y : Bytes) (x : Image.Bad), b = s.begin t ∧ s.img.val = some v ∧ v.desc = some d ∧ v.ended9 = true ∧ ((v.kind = 1 → s.mode.mode = 0 ∨ s.img.hostWait = true)) ∧ y = State.cellBytes v.bytes 0 0 v.blen ∧ b.presence d v (Image.idOf y) = some x ∧ x.st ≠ 5 ∧ v.kind = 1 ∧ s.img.hostWait = false ∧ s.img.desc = none) ∧
    (∃ (s : State) (b : State) (t : Nat) (v : Val) (d : ImgDesc) (y : Bytes), b = s.begin t ∧ s.img.val = some v ∧ v.desc = some d ∧ v.ended9 = true ∧ ((v.kind = 1 → s.mode.mode = 0 ∨ s.img.hostWait = true)) ∧ y = State.cellBytes v.bytes 0 0 v.blen ∧ b.presence d v (Image.idOf y) = none ∧ s.pwr.reload = false) := by
  exact ⟨⟨up, _, 0, h0,
      accepts_ok (by decide +kernel),
      rfl⟩,
    ⟨(atImg fun x => { x with bufOpen := true }), _, 0, h0,
      accepts_ok (by decide +kernel),
      rfl⟩,
    ⟨up, _, 0, 1, h0,
      accepts_ok (by decide +kernel),
      rfl,
      by first | decide +kernel | rfl⟩,
    ⟨(atImg fun x => { x with erasing := [1] }), _, 0, 1,
      rfl,
      by first | decide +kernel | rfl⟩,
    ⟨(atImg fun x => { x with bufOpen := true }), _, 0, 1, 1572864, h0,
      accepts_ok (by decide +kernel),
      rfl,
      by first | decide +kernel | rfl,
      by first | decide +kernel | rfl⟩,
    ⟨(atImg fun x => { x with writing := [(1, 4, [(0, 7)])] }), _, 0, 1, 4, _, _,
      rfl,
      by first | decide +kernel | rfl,
      by first | decide +kernel | rfl,
      by first | decide +kernel | rfl⟩,
    ⟨up, _, 0, 1, h0,
      accepts_ok (by decide +kernel),
      rfl,
      by first | decide +kernel | rfl⟩,
    ⟨up, _, 0, 1, 4, h0,
      accepts_ok (by decide +kernel),
      rfl,
      by first | decide +kernel | rfl,
      by first | decide +kernel | rfl⟩,
    ⟨(atImg fun x => { x with desc := none, hostWait := true, held := some ({}, 0, [], 0) }), _, 0, h0,
      accepts_ok (by decide +kernel),
      rfl⟩,
    ⟨(atImg fun x => { x with desc := none, fwRun := true }), _, 0,
      rfl,
      by first | decide +kernel | rfl,
      by first | decide +kernel | rfl,
      by first | decide +kernel | rfl,
      by first | decide +kernel | rfl⟩,
    ⟨(atImg fun x => { x with val := some { kind := 1, source := 2, desc := some {} } }), _, (500 * Config.ms), _, {},
      rfl,
      by first | decide +kernel | rfl,
      by first | decide +kernel | rfl,
      by first | decide +kernel | rfl⟩,
    ⟨((atImg fun x => { x with val := some { kind := 1, source := 2 } }).onMode fun m => { m with mode := 4 }), _, 0, _,
      rfl,
      by first | decide +kernel | rfl,
      by first | decide +kernel | rfl,
      by first | decide +kernel | rfl,
      by first | decide +kernel | rfl⟩,
    ⟨(atImg fun x => { x with desc := none, val := some { kind := 1, source := 1 } }), _, 0, _, [], ({ st := 0, reason := 1 }),
      rfl,
      by first | decide +kernel | rfl,
      by first | decide +kernel | rfl,
      by first | decide +kernel | rfl,
      by first | decide +kernel | rfl,
      by first | decide +kernel | rfl,
      by first | decide +kernel | rfl,
      by first | decide +kernel | rfl,
      by first | decide +kernel | rfl⟩,
    ⟨(atImg fun x => { x with desc := none, hostWait := true, held := some ({ cells := [{ idx := 0, required := true }] }, 2, [], 0), val := some { kind := 2, source := 2 } }), _, 0, _, ({ cells := [{ idx := 0, required := true }] }), [],
      rfl,
      by first | decide +kernel | rfl,
      by first | decide +kernel | rfl,
      by first | decide +kernel | rfl,
      by first | decide +kernel | rfl,
      (fun _ => ⟨_, rfl⟩),
      by first | decide +kernel | rfl,
      by first | decide +kernel | rfl⟩,
    ⟨(atImg fun x => { x with desc := none, hostWait := true, held := some ({}, 2, [], 0), val := some { kind := 2, source := 2 } }), _, 0, _, {}, [],
      rfl,
      by first | decide +kernel | rfl,
      by first | decide +kernel | rfl,
      by first | decide +kernel | rfl,
      by first | decide +kernel | rfl,
      (fun _ => ⟨_, rfl⟩),
      by first | decide +kernel | rfl,
      by first | decide +kernel | rfl,
      by first | decide +kernel | rfl,
      by first | decide +kernel | rfl⟩,
    ⟨(atImg fun x => { x with desc := none, val := some { kind := 1, source := 2, desc := some { cells := [{ idx := 0, required := true }] }, ended9 := true } }), _, 0, _, _, _, ({ st := 4, reason := 0x34, sect := 0, ofs := 0 }),
      rfl,
      by first | decide +kernel | rfl,
      by first | decide +kernel | rfl,
      by first | decide +kernel | rfl,
      by first | decide +kernel | rfl,
      by first | decide +kernel | rfl,
      by first | decide +kernel | rfl,
      by first | decide +kernel | rfl,
      by first | decide +kernel | rfl,
      by first | decide +kernel | rfl,
      by first | decide +kernel | rfl⟩,
    ⟨(atImg fun x => { x with desc := none, hostWait := true, val := some { kind := 1, source := 2, desc := some {}, ended9 := true } }), _, 0, _, _, _,
      rfl,
      by first | decide +kernel | rfl,
      by first | decide +kernel | rfl,
      by first | decide +kernel | rfl,
      by first | decide +kernel | rfl,
      by first | decide +kernel | rfl,
      by first | decide +kernel | rfl,
      by first | decide +kernel | rfl⟩⟩
theorem witness_ImageSwapAndFirmware :
    (∃ (s : State) (b : State) (t : Nat) (k : Nat) (n : Nat) (h : RecHdr), Accepts cmdImgArm h (le 4 k ++ le 4 n) (s.begin t) ∧ b = s.begin t ∧ k < 2 ^ 32 ∧ n < 2 ^ 32) ∧
    (∃ (s : State) (b : State) (t : Nat) (c : Cand) (y : Bytes) (x : Image.Bad), b = s.begin t ∧ s.img.swap = some c ∧ s.img.swapSt = 1 ∧ b.imageCheck c.source c.len = (y, some x)) ∧
    (∃ (s : State) (b : State) (t : Nat) (c : Cand) (d : ImgDesc) (y : Bytes) (w : Bytes) (ts : List Nat), b = s.begin t ∧ s.img.swap = some c ∧ s.img.swapSt = 1 ∧ b.imageCheck c.source c.len = (y, none) ∧ State.armEnds.fitCandidate d b = none ∧ w = b.workBytes ∧ ts = swapDiff w y ∧ ((∃ k ∈ ts, (match Image.find w k with | some e => e.flags.testBit 0 | none => false) = false))) ∧
    (∃ (s : State) (b : State) (t : Nat) (c : Cand) (d : ImgDesc) (y : Bytes) (w : Bytes) (ts : List Nat), b = s.begin t ∧ s.img.swap = some c ∧ s.img.swapSt = 1 ∧ b.imageCheck c.source c.len = (y, none) ∧ State.armEnds.fitCandidate d b = none ∧ w = b.workBytes ∧ ts = swapDiff w y ∧ ((∀ k ∈ ts, (match Image.find w k with | some e => e.flags.testBit 0 | none => false) = true)) ∧ 2097152 < w.length + (ts.map fun k => (Image.sectBytes y k).length).sum) ∧
    (∃ (s : State) (b : State) (t : Nat) (c : Cand) (d : ImgDesc) (y : Bytes) (w : Bytes) (ts : List Nat), b = s.begin t ∧ s.img.swap = some c ∧ s.img.swapSt = 1 ∧ b.imageCheck c.source c.len = (y, none) ∧ State.armEnds.fitCandidate d b = none ∧ w = b.workBytes ∧ ts = swapDiff w y ∧ ((∀ k ∈ ts, (match Image.find w k with | some e => e.flags.testBit 0 | none => false) = true)) ∧ w.length + (ts.map fun k => (Image.sectBytes y k).length).sum ≤ 2097152) ∧
    (∃ (s : State) (b : State) (t : Nat) (n : Nat) (h : RecHdr), Accepts cmdImgSwap h (le 4 n) (s.begin t) ∧ b = s.begin t ∧ n < 2 ^ 32 ∧ b.role ≠ 1 ∧ s.pair.handover = none) ∧
    (∃ (s : State) (b : State) (t : Nat) (h : RecHdr), Accepts cmdImgDisarm h [] (s.begin t) ∧ b = s.begin t) ∧
    (∃ (s : State) (b : State) (t : Nat) (c : Cand), b = s.begin t ∧ b.timeline = true ∧ s.img.swapSt = 3 ∧ b.inPer < 16 ∧ serialDiff 32 b.per s.img.swapPer < 2 ^ 31 ∧ s.img.swap = some c) ∧
    (∃ (s : State) (b : State) (t : Nat), b = s.begin t ∧ b.staged = true) ∧
    (∃ (s : State) (b : State) (t : Nat), b = s.begin t ∧ b.staged = false) ∧
    (∃ (s : State) (b : State) (t : Nat) (n : Nat) (h : RecHdr), Accepts cmdImgFwWrite h (le 4 n) (s.begin t) ∧ b = s.begin t ∧ n < 2 ^ 32) ∧
    (∃ (s : State) (b : State) (t : Nat), b = s.begin t ∧ s.img.fwSt = 1) ∧
    (∃ (s : State) (b : State) (t : Nat) (h : RecHdr), Accepts cmdImgFwSwitch h [] (s.begin t) ∧ b = s.begin t) ∧
    (∃ (s : State) (b : State) (t : Nat) (a : Nat), b = s.begin t ∧ s.img.fwAt = some a ∧ a ≤ b.now) ∧
    (∃ (s : State) (b : State) (t : Nat) (a : Nat), b = s.begin t ∧ s.img.fwSince = some a ∧ b.now ≤ a + 24 * Config.ms) ∧
    (∃ (s : State) (b : State) (t : Nat) (a : Nat), b = s.begin t ∧ s.img.fwSince = some a ∧ a + 24 * Config.ms < b.now) := by
  exact ⟨⟨(atImg fun x => { x with bufOpen := true }), _, 0, 2, 4, h0,
      accepts_ok (by decide +kernel),
      rfl,
      by first | decide +kernel | rfl,
      by first | decide +kernel | rfl⟩,
    ⟨(atImg fun x => { x with swap := some { source := 1 }, swapSt := 1 }), _, 0, _, [], ({ st := 0, reason := 1 }),
      rfl,
      by first | decide +kernel | rfl,
      by first | decide +kernel | rfl,
      by first | decide +kernel | rfl⟩,
    ⟨(swapUp [] 0), _, 0, ({ source := 2, len := 0x488 }), desc0, img, [], ([1, 2, 3, 4, 5, 6, 7, 8, 9, 10]),
      rfl,
      by first | decide +kernel | rfl,
      by first | decide +kernel | rfl,
      (img_check [] 0),
      by first | decide +kernel | rfl,
      by first | decide +kernel | rfl,
      by first | decide +kernel | rfl,
      by first | decide +kernel | rfl⟩,
    ⟨(swapUp other longLen), _, 0, ({ source := 2, len := 0x488 }), desc0, img, long, [10],
      rfl,
      by first | decide +kernel | rfl,
      by first | decide +kernel | rfl,
      (img_check other longLen),
      by first | decide +kernel | rfl,
      (long_work.symm),
      (long_diff),
      (long_hot),
      (long_over)⟩,
    ⟨(swapUp other 1160), _, 0, ({ source := 2, len := 0x488 }), desc0, img, other, [10],
      rfl,
      by first | decide +kernel | rfl,
      by first | decide +kernel | rfl,
      (img_check other 1160),
      by first | decide +kernel | rfl,
      by first | decide +kernel | rfl,
      by first | decide +kernel | rfl,
      by first | decide +kernel | rfl,
      by first | decide +kernel | rfl⟩,
    ⟨(atImg fun x => { x with swapSt := 2, swap := some { source := 2 } }), _, 0, 2, h0,
      accepts_ok (by decide +kernel),
      rfl,
      by first | decide +kernel | rfl,
      by first | decide +kernel | rfl,
      by first | decide +kernel | rfl⟩,
    ⟨(atImg fun x => { x with swapSt := 2, swap := some { source := 2 } }), _, 0, h0,
      accepts_ok (by decide +kernel),
      rfl⟩,
    ⟨(atImg fun x => { x with swapSt := 3, swap := some { source := 2 } }), _, 0, _,
      rfl,
      by first | decide +kernel | rfl,
      by first | decide +kernel | rfl,
      by first | decide +kernel | rfl,
      by first | decide +kernel | rfl,
      by first | decide +kernel | rfl⟩,
    ⟨(atImg fun x => { x with swapSt := 3 }), _, 0,
      rfl,
      by first | decide +kernel | rfl⟩,
    ⟨up, _, 0,
      rfl,
      by first | decide +kernel | rfl⟩,
    ⟨(atImg fun x => { x with bufOpen := true }), _, 0, 4, h0,
      accepts_ok (by decide +kernel),
      rfl,
      by first | decide +kernel | rfl⟩,
    ⟨(atImg fun x => { x with fwSt := 1 }), _, 0,
      rfl,
      by first | decide +kernel | rfl⟩,
    ⟨up, _, 0, h0,
      accepts_ok (by decide +kernel),
      rfl⟩,
    ⟨(atImg fun x => { x with fwAt := some 5 }), _, 5, 5,
      rfl,
      by first | decide +kernel | rfl,
      by first | decide +kernel | rfl⟩,
    ⟨(atImg fun x => { x with fwSince := some 5 }), _, (5 + 24 * Config.ms), 5,
      rfl,
      by first | decide +kernel | rfl,
      by first | decide +kernel | rfl⟩,
    ⟨(atImg fun x => { x with fwSince := some 5 }), _, (6 + 24 * Config.ms), 5,
      rfl,
      by first | decide +kernel | rfl,
      by first | decide +kernel | rfl⟩⟩
theorem witness_LaneBringUp :
    (∃ (s : State) (b : State) (t : Nat) (l : Nat), b = s.begin t ∧ (b.ln l).rx = 3 ∧ (b.ln l).gap = false) ∧
    (∃ (s : State) (b : State) (t : Nat) (l : Nat), b = s.begin t ∧ (b.ln l).rx = 3 ∧ (b.ln l).gap = false ∧ (b.ln l).attemptAt + 64000000 ≤ b.now) ∧
    (∃ (s : State) (b : State) (t : Nat) (l : Nat), b = s.begin t ∧ (b.ln l).rx = 3 ∧ (b.ln l).gap = true ∧ (b.ln l).attemptAt + 128000000 ≤ b.now) ∧
    (∃ (s : State) (b : State) (t : Nat) (c : Nat) (x : LaneRx) (m : Bytes), b = s.begin t ∧ x.lane < 32 ∧ laneHear x = [(.marker, m)] ∧ x.slot = 16384 ∧ b.laneHears x.lane = true ∧ (b.ln x.lane).rx = 4 ∧ (b.ln x.lane).lastCnt = some c ∧ field m 1 1 = x.lane ^^^ 1 ∧ field m 2 1 = b.node ∧ field m 3 1 = (c + 1) % 256 ∧ b.sentAt (x.lane / 2) (State.rxPathA x.lane) ((c + 1) % 256) = none) ∧
    (∃ (s : State) (b : State) (t : Nat) (d : Nat) (x : LaneRx) (m : Bytes), b = s.begin t ∧ x.lane < 32 ∧ laneHear x = [(.marker, m)] ∧ b.laneHears x.lane = true ∧ (b.ln x.lane).rx = 5 ∧ field m 1 1 = x.lane ^^^ 1 ∧ field m 2 1 = b.node ∧ b.sentAt (x.lane / 2) (State.rxPathA x.lane) (field m 3 1) = some d) ∧
    (∃ (s : State) (b : State) (t : Nat) (x : LaneRx) (m : Bytes), b = s.begin t ∧ x.lane < 40 ∧ laneHear x = [(.marker, m)] ∧ b.laneHears x.lane = true ∧ b.originOk x.lane (field m 1 1) (field m 2 1) = false) ∧
    (∃ (s : State) (b : State) (t : Nat) (x : LaneRx) (w : Bytes), b = s.begin t ∧ x.lane < 40 ∧ laneHear x = [(.other, w)] ∧ b.laneHears x.lane = true) ∧
    (∃ (s : State) (b : State) (t : Nat) (l : Nat), b = s.begin t ∧ (b.ln l).rx = 5 ∧ 31 * State.mrkTicks (b.ln l).rate ≤ 8 * (b.now - (b.ln l).lastMrk)) ∧
    (∃ (s : State) (b : State) (t : Nat) (l : Nat), b = s.begin t ∧ b.laneHears l = true) ∧
    (∃ (s : State) (b : State) (t : Nat) (l : Nat), b = s.begin t ∧ ((b.ln l).rx = 3 ∨ (b.ln l).rx = 4 ∨ (b.ln l).rx = 5) ∧ State.nearEnd (b.ln l) = false ∧ (b.ln l).noticeAt = none) ∧
    (∃ (s : State) (b : State) (t : Nat) (l : Nat) (n : Nat), b = s.begin t ∧ ((b.ln l).rx = 3 ∨ (b.ln l).rx = 4 ∨ (b.ln l).rx = 5) ∧ State.nearEnd (b.ln l) = false ∧ (b.ln l).noticeAt = some n ∧ b.now ≤ n + 12800) ∧
    (∃ (s : State) (b : State) (t : Nat) (l : Nat), b = s.begin t ∧ State.nearEnd (b.ln l) = true) ∧
    (∃ (s : State) (b : State) (t : Nat) (l : Nat), b = s.begin t ∧ ((b.ln l).rx = 4 ∨ (b.ln l).rx = 5)) ∧
    (∃ (s : State) (b : State) (t : Nat) (l : Nat), b = s.begin t ∧ (b.ln l).rx = 6) := by
  exact ⟨⟨(up |> atLane 39 fun x => { x with rx := 3 }), _, 0, 39,
      rfl,
      by first | decide +kernel | rfl,
      by first | decide +kernel | rfl⟩,
    ⟨(up |> atLane 39 fun x => { x with rx := 3 }), _, 64000000, 39,
      rfl,
      by first | decide +kernel | rfl,
      by first | decide +kernel | rfl,
      by first | decide +kernel | rfl⟩,
    ⟨(up |> atLane 39 fun x => { x with rx := 3, gap := true }), _, 128000000, 39,
      rfl,
      by first | decide +kernel | rfl,
      by first | decide +kernel | rfl,
      by first | decide +kernel | rfl⟩,
    ⟨(up |> atLane 31 fun x => { x with rx := 4, lastCnt := some 255 }), _, (mrkTicks 0), 255, ({ laneRx 31 [(true, markerBytes 30 0 0)] with slot := 16384 }), (markerBytes 30 0 0),
      rfl,
      by first | decide +kernel | rfl,
      by first | decide +kernel | rfl,
      by first | decide +kernel | rfl,
      by first | decide +kernel | rfl,
      by first | decide +kernel | rfl,
      by first | decide +kernel | rfl,
      by first | decide +kernel | rfl,
      by first | decide +kernel | rfl,
      by first | decide +kernel | rfl,
      by first | decide +kernel | rfl⟩,
    ⟨((up |> atLane 31 fun x => { x with rx := 5 }).onLane fun x => { x with mrk := modAt x.mrk 7 fun m => { m with cnt := 1, sent := [5] } }), _, 9, 5, (laneRx 31 [(true, markerBytes 30 0 0)]), (markerBytes 30 0 0),
      rfl,
      by first | decide +kernel | rfl,
      by first | decide +kernel | rfl,
      by first | decide +kernel | rfl,
      by first | decide +kernel | rfl,
      by first | decide +kernel | rfl,
      by first | decide +kernel | rfl,
      by first | decide +kernel | rfl⟩,
    ⟨(up |> atLane 39 fun x => { x with rx := 5 }), _, 0, (laneRx 39 [(true, markerBytes 30 0 0)]), (markerBytes 30 0 0),
      rfl,
      by first | decide +kernel | rfl,
      by first | decide +kernel | rfl,
      by first | decide +kernel | rfl,
      by first | decide +kernel | rfl⟩,
    ⟨(up |> atLane 39 fun x => { x with rx := 5 }), _, 0, (laneRx 39 [(true, le 8 0)]), (le 8 0),
      rfl,
      by first | decide +kernel | rfl,
      by first | decide +kernel | rfl,
      by first | decide +kernel | rfl⟩,
    ⟨(up |> atLane 31 fun x => { x with rx := 5 }), _, (31 * mrkTicks 0), 31,
      rfl,
      by first | decide +kernel | rfl,
      by first | decide +kernel | rfl⟩,
    ⟨(up |> atLane 31 fun x => { x with rx := 4 }), _, 0, 31,
      rfl,
      by first | decide +kernel | rfl⟩,
    ⟨(up |> atLane 31 fun x => { x with rx := 3 }), _, 0, 31,
      rfl,
      by first | decide +kernel | rfl,
      by first | decide +kernel | rfl,
      by first | decide +kernel | rfl⟩,
    ⟨(up |> atLane 31 fun x => { x with rx := 3, noticeAt := some 5 }), _, 12805, 31, 5,
      rfl,
      by first | decide +kernel | rfl,
      by first | decide +kernel | rfl,
      by first | decide +kernel | rfl,
      by first | decide +kernel | rfl⟩,
    ⟨(up |> atLane 31 fun x => { x with rx := 5, test := 1 }), _, 0, 31,
      rfl,
      by first | decide +kernel | rfl⟩,
    ⟨(up |> atLane 31 fun x => { x with rx := 5 }), _, 0, 31,
      rfl,
      by first | decide +kernel | rfl⟩,
    ⟨(up |> atLane 31 fun x => { x with rx := 6 }), _, 0, 31,
      rfl,
      by first | decide +kernel | rfl⟩⟩
theorem witness_LaneCommands :
    (∃ (s : State) (t : Nat) (lane : Nat) (test : Nat) (loop : Nat) (h : RecHdr), Accepts cmdLaneTest h (le 1 lane ++ le 1 test ++ le 1 loop ++ le 1 0) (s.begin t) ∧ lane < 40 ∧ 0 < test ∧ test < 3 ∧ loop = 0 ∧ ((s.begin t).ln lane).rx ≠ 0 ∧ ((s.begin t).ln lane).tx ≠ 0) ∧
    (∃ (s : State) (t : Nat) (lane : Nat) (h : RecHdr), Accepts cmdLaneRetrain h (le 1 lane ++ le 1 3 ++ le 2 0) (s.begin t) ∧ lane < 40 ∧ ((s.begin t).ln lane).rx = 5 ∧ ((s.begin t).ln lane).tx = 3) ∧
    (∃ (s : State) (t : Nat) (lane : Nat) (h : RecHdr), Accepts cmdLaneSleep h (le 1 lane ++ le 1 3 ++ le 2 0) (s.begin t) ∧ lane < 40 ∧ ((s.begin t).ln lane).rx ≠ 0 ∧ ((s.begin t).ln lane).tx = 3 ∧ ((s.begin t).ln lane).txSleeping = false) ∧
    (∃ (s : State) (t : Nat) (lane : Nat) (h : RecHdr), Accepts cmdLaneWake h (le 1 lane ++ le 1 3 ++ le 2 0) (s.begin t) ∧ lane < 40 ∧ ((s.begin t).ln lane).rx = 1 ∧ ((s.begin t).ln lane).tx = 1) := by
  exact ⟨⟨((up |> atLane 39 fun x => { x with rx := 5, tx := 3 }).onModeQ fun q => { q with ovl := 1 }), 0, 39, 1, 0, h0,
      accepts_ok (by decide +kernel),
      by first | decide +kernel | rfl,
      by first | decide +kernel | rfl,
      by first | decide +kernel | rfl,
      by first | decide +kernel | rfl,
      by first | decide +kernel | rfl,
      by first | decide +kernel | rfl⟩,
    ⟨(up |> atLane 39 fun x => { x with rx := 5, tx := 3 }), 0, 39, h0,
      accepts_ok (by decide +kernel),
      by first | decide +kernel | rfl,
      by first | decide +kernel | rfl,
      by first | decide +kernel | rfl⟩,
    ⟨(up |> atLane 39 fun x => { x with rx := 5, tx := 3 }), 0, 39, h0,
      accepts_ok (by decide +kernel),
      by first | decide +kernel | rfl,
      by first | decide +kernel | rfl,
      by first | decide +kernel | rfl,
      by first | decide +kernel | rfl⟩,
    ⟨(up |> atLane 39 fun x => { x with rx := 1, tx := 1 }), 0, 39, h0,
      accepts_ok (by decide +kernel),
      by first | decide +kernel | rfl,
      by first | decide +kernel | rfl,
      by first | decide +kernel | rfl⟩⟩
theorem witness_LaneTransmitters :
    (∃ (s : State) (b : State) (t : Nat) (l : Nat), b = s.begin t ∧ (b.ln l).txRetrain = true) ∧
    (∃ (s : State) (b : State) (t : Nat) (l : Nat), b = s.begin t ∧ (b.ln l).rx = 2 ∧ (b.ln l).rxAt + 256000 ≤ b.now) ∧
    (∃ (s : State) (b : State) (t : Nat) (l : Nat), b = s.begin t ∧ l < b.lane.lanes.length ∧ (b.ln l).tx = 2) ∧
    (∃ (s : State) (b : State) (t : Nat) (l : Nat), b = s.begin t ∧ (b.ln l).tx = 3 ∧ (b.ln l).txSleeping = true ∧ (b.ln l).txAt + State.blockTicks (b.ln l).rate 32 ≤ b.now) ∧
    (∃ (s : State) (b : State) (t : Nat) (q : Nat) (k : Nat), b = s.begin t ∧ q < 8 ∧ b.mrkLanes q ≠ [] ∧ b.mrkDue q = some k) ∧
    (∃ (s : State) (b : State) (t : Nat) (q : Nat) (k : Nat), b = s.begin t ∧ (q = 8 ∨ q = 9) ∧ b.mrkLanes q ≠ [] ∧ b.mrkDue q = some k) ∧
    (∃ (s : State) (b : State) (t : Nat) (x : LaneRx), b = s.begin t ∧ b.cmdHeard 1 x = true) ∧
    (∃ (s : State) (b : State) (t : Nat) (x : LaneRx), b = s.begin t ∧ b.cmdHeard 2 x = true) ∧
    (∃ (s : State) (b : State) (t : Nat) (x : LaneRx), b = s.begin t ∧ b.cmdHeard 3 x = true) ∧
    (∃ (s : State) (b : State) (t : Nat) (x : LaneRx) (d1 : Nat), b = s.begin t ∧ (d1 = 1 ∨ d1 = 2 ∨ d1 = 3) ∧ b.cmdHeard d1 x = false) ∧
    (∃ (s : State) (b : State) (t : Nat) (l : Nat), b = s.begin t ∧ (b.ln l).test = 4) := by
  exact ⟨⟨(up |> atLane 0 fun x => { x with txRetrain := true }), _, 0, 0,
      rfl,
      by first | decide +kernel | rfl⟩,
    ⟨(up |> atLane 0 fun x => { x with rx := 2 }), _, 256000, 0,
      rfl,
      by first | decide +kernel | rfl,
      by first | decide +kernel | rfl⟩,
    ⟨(up |> atLane 0 fun x => { x with tx := 2 }), _, 0, 0,
      rfl,
      by first | decide +kernel | rfl,
      by first | decide +kernel | rfl⟩,
    ⟨(up |> atLane 0 fun x => { x with tx := 3, txSleeping := true }), _, (blockTicks 0 32), 0,
      rfl,
      by first | decide +kernel | rfl,
      by first | decide +kernel | rfl,
      by first | decide +kernel | rfl⟩,
    ⟨(up |> atLane 31 fun x => { x with tx := 3 }), _, 0, 7, 0,
      rfl,
      by first | decide +kernel | rfl,
      by first | decide +kernel | rfl,
      by first | decide +kernel | rfl⟩,
    ⟨(up |> atLane 39 fun x => { x with tx := 3 }), _, 0, 9, 0,
      rfl,
      by first | decide +kernel | rfl,
      by first | decide +kernel | rfl,
      by first | decide +kernel | rfl⟩,
    ⟨(up |> atLane 31 fun x => { x with rx := 5 }), _, 0, (laneRx 31 (List.replicate 3 (true, cmdBytes 1 0))),
      rfl,
      by first | decide +kernel | rfl⟩,
    ⟨(up |> atLane 31 fun x => { x with rx := 5 }), _, 0, (laneRx 31 (List.replicate 3 (true, cmdBytes 2 0))),
      rfl,
      by first | decide +kernel | rfl⟩,
    ⟨(up |> atLane 39 fun x => { x with rx := 5 }), _, 0, (laneRx 39 (List.replicate 3 (true, cmdBytes 3 0))),
      rfl,
      by first | decide +kernel | rfl⟩,
    ⟨(up |> atLane 31 fun x => { x with rx := 5 }), _, 0, (laneRx 31 (List.replicate 2 (true, cmdBytes 1 0))), 1,
      rfl,
      by first | decide +kernel | rfl,
      by first | decide +kernel | rfl⟩,
    ⟨(up |> atLane 39 fun x => { x with test := 4 }), _, 0, 39,
      rfl,
      by first | decide +kernel | rfl⟩⟩
theorem witness_MemoryErrorsAndThePeriod :
    (∃ (s : State) (b : State) (t : Nat) (r : Nat), b = s.begin t ∧ r < 14 ∧ b.pwr.dom.testBit (State.regionDom r - 1) = true) ∧
    (∃ (s : State) (b : State) (t : Nat) (r : Nat), b = s.begin t ∧ r < 14 ∧ b.pwr.dom.testBit (State.regionDom r - 1) = true) ∧
    (∃ (s : State) (b : State) (t : Nat), b = s.begin t ∧ b.pwr.dom.testBit 4 = true ∧ b.pwr.st < 2) ∧
    (∃ (s : State) (b : State) (t : Nat), b = s.begin t ∧ b.atPoint 0 0 = true) ∧
    (∃ (s : State) (b : State) (t : Nat), b = s.begin t ∧ b.lagged.atPoint 3 b.kO = true) := by
  exact ⟨⟨up, _, 0, 13,
      rfl,
      by first | decide +kernel | rfl,
      by first | decide +kernel | rfl⟩,
    ⟨up, _, 0, 13,
      rfl,
      by first | decide +kernel | rfl,
      by first | decide +kernel | rfl⟩,
    ⟨up, _, 0,
      rfl,
      by first | decide +kernel | rfl,
      by first | decide +kernel | rfl⟩,
    ⟨up, _, 0,
      rfl,
      by first | decide +kernel | rfl⟩,
    ⟨up, _, 51200,
      rfl,
      by first | decide +kernel | rfl⟩⟩
theorem witness_MeshCommands :
    (∃ (s : State) (b : State) (t : Nat) (i : Nat) (bytes : Bytes), b = s.begin t ∧ b.hostTakes = true ∧ b.nextSource = some i ∧ i < 32 ∧ i < s.host.ctxs.length ∧ 24 ≤ field bytes 0 2 ∧ field bytes 0 2 ≤ 256 ∧ fieldW bytes (field bytes 0 2 - 4) = crc32c (slice bytes 0 (field bytes 0 2 - 4)) ∧ field bytes 16 2 ≤ 232 ∧ field bytes 0 2 = 24 + (field bytes 16 2 + 3) / 4 * 4) ∧
    (∃ (s : State) (b : State) (t : Nat) (n : Nat) (sess : Nat) (seq : Nat) (r : RemoteOut) (o : OpenCmd), b = s.begin t ∧ b.host.opens.find? (fun o => (o.kind == 1 || o.kind == 2) && o.left.contains n && o.h.sess == sess && o.h.seq == seq) = some o ∧ o.kind = 1 ∧ r.status ≠ 3) ∧
    (∃ (s : State) (b : State) (t : Nat) (n : Nat) (sess : Nat) (seq : Nat) (r : RemoteOut) (o : OpenCmd), b = s.begin t ∧ b.host.opens.find? (fun o => (o.kind == 1 || o.kind == 2) && o.left.contains n && o.h.sess == sess && o.h.seq == seq) = some o ∧ o.kind = 1 ∧ r.status = 3 ∧ (o.h.src = .ring ∨ o.h.src = .mbx0 ∨ o.h.src = .mbx1)) ∧
    (∃ (s : State) (b : State) (t : Nat) (n : Nat) (sess : Nat) (seq : Nat) (r : RemoteOut) (o : OpenCmd), b = s.begin t ∧ b.host.opens.find? (fun o => (o.kind == 1 || o.kind == 2) && o.left.contains n && o.h.sess == sess && o.h.seq == seq) = some o ∧ o.kind = 2 ∧ r.status ≠ 3 ∧ (b.mode.mode ≠ 0 ∨ r.detail % 2 = bit (b.overlay 4)) ∧ o.left.filter (· != n) = []) ∧
    (∃ (s : State) (b : State) (t : Nat) (n : Nat) (hops : Nat) (path : Nat) (h : RecHdr), Accepts cmdMeshBind h (le 1 n ++ le 1 hops ++ le 2 0 ++ le 4 path) (s.begin t) ∧ b = s.begin t ∧ n < 64 ∧ hops < 256 ∧ path < 2 ^ 32 ∧ n < s.mesh.convs.length) ∧
    (∃ (s : State) (b : State) (t : Nat) (h : RecHdr), Accepts cmdMeshBarrier h [] (s.begin t) ∧ b = s.begin t) ∧
    (∃ (s : State) (b : State) (t : Nat) (time : Nat) (h : RecHdr), Accepts cmdMeshSnapshot h (le 8 time) (s.begin t) ∧ b = s.begin t ∧ time < 2 ^ 64) ∧
    (∃ (s : State) (b : State) (t : Nat) (time : Nat) (kind : Nat) (block : Nat) (h : RecHdr), Accepts cmdMeshReset h (le 8 time ++ le 1 kind ++ le 1 block ++ le 2 0) (s.begin t) ∧ b = s.begin t ∧ time < 2 ^ 64 ∧ kind < 3 ∧ block < 256) ∧
    (∃ (s : State) (b : State) (t : Nat) (off : Nat) (h : RecHdr) (v : Word) (r : Reg) (f : Nat → State → State), Accepts cmdMeshBcastReg h (le 4 off ++ le 4 v.toNat) (s.begin t) ∧ b = s.begin t ∧ off < 2 ^ 32 ∧ ((∀ x j, Serves .mesh off r { b with host := x, jnl := j })) ∧ b.standby = false ∧ r.wr = .rw f) := by
  exact ⟨⟨(up.onHost fun x => { x with ctxs := modAt x.ctxs 0 fun c => { c with st := 2, sqSize := 16, sqTail := 1, cqSize := 16 } }), _, 0, 0, rec0,
      rfl,
      by first | decide +kernel | rfl,
      by first | decide +kernel | rfl,
      by first | decide +kernel | rfl,
      by first | decide +kernel | rfl,
      by first | decide +kernel | rfl,
      by first | decide +kernel | rfl,
      by first | decide +kernel | rfl,
      by first | decide +kernel | rfl,
      by first | decide +kernel | rfl⟩,
    ⟨(meshUp dM id |> (onHost fun x => { x with opens := [open0 1] })), _, 0, 1, 32, 9, ({ status := 2 }), (open0 1),
      rfl,
      by first | decide +kernel | rfl,
      by first | decide +kernel | rfl,
      by first | decide +kernel | rfl⟩,
    ⟨(meshUp dM id |> (onHost fun x => { x with opens := [open0 1] })), _, 0, 1, 32, 9, ({ status := 3 }), (open0 1),
      rfl,
      by first | decide +kernel | rfl,
      by first | decide +kernel | rfl,
      by first | decide +kernel | rfl,
      by first | decide +kernel | rfl⟩,
    ⟨(meshUp dM id |> (onHost fun x => { x with opens := [open0 2] })), _, 0, 1, 32, 9, ({ status := 2 }), (open0 2),
      rfl,
      by first | decide +kernel | rfl,
      by first | decide +kernel | rfl,
      by first | decide +kernel | rfl,
      by first | decide +kernel | rfl,
      by first | decide +kernel | rfl⟩,
    ⟨(meshUp dM id), _, 0, 2, 16, (2 ^ 32 - 1), h0,
      accepts_ok (by decide +kernel),
      rfl,
      by first | decide +kernel | rfl,
      by first | decide +kernel | rfl,
      by first | decide +kernel | rfl,
      by first | decide +kernel | rfl⟩,
    ⟨(meshUp dM id), _, 0, h0,
      accepts_ok (by decide +kernel),
      rfl⟩,
    ⟨(meshUp dM id), _, 0, 1000000, h0,
      accepts_ok (by decide +kernel),
      rfl,
      by first | decide +kernel | rfl⟩,
    ⟨(meshUp dM id), _, 0, 1000000, 2, 0, h0,
      accepts_ok (by decide +kernel),
      rfl,
      by first | decide +kernel | rfl,
      by first | decide +kernel | rfl,
      by first | decide +kernel | rfl⟩,
    ⟨(meshUp dM id), _, 0, 0x22001C, h0, 0xFFFFFFFF, ({ val := 0, wr := .rw fun v => onPwr fun p => { p with dozeRx := v } }), (fun v => onPwr fun p => { p with dozeRx := v }),
      accepts_ok (by decide +kernel),
      rfl,
      by first | decide +kernel | rfl,
      (fun x j => ⟨by decide +kernel, rfl, rfl, (by decide +kernel : ((meshUp dM id).begin 0).domOn .mesh 0x22001C = true), rfl⟩),
      by first | decide +kernel | rfl,
      by first | decide +kernel | rfl⟩⟩
theorem witness_MeshConversations :
    (∃ (s : State) (b : State) (t : Nat) (crc : Nat) (x : PortRx) (h : MHdr) (p : Bytes), b = s.begin t ∧ b.portTakes x.port = true ∧ meshFrames x = [(h, p, crc)] ∧ h.typ = 2 ∧ b.isForMe h = true ∧ crc ≠ meshCrc h p) ∧
    (∃ (s : State) (b : State) (t : Nat) (crc : Nat) (x : PortRx) (h : MHdr) (p : Bytes), b = s.begin t ∧ b.portTakes x.port = true ∧ meshFrames x = [(h, p, crc)] ∧ h.typ = 2 ∧ b.isForMe h = false ∧ crc = meshCrc h p ∧ h.path = true) ∧
    (∃ (s : State) (b : State) (t : Nat) (crc : Nat) (x : PortRx) (h : MHdr) (p : Bytes), b = s.begin t ∧ b.portTakes x.port = true ∧ meshFrames x = [(h, p, crc)] ∧ h.typ = 2 ∧ b.isForMe h = false ∧ crc = meshCrc h p ∧ h.path = false ∧ b.ownDesc.isSome = true) ∧
    (∃ (s : State) (b : State) (t : Nat), b = s.begin t ∧ b.mesh.discAt + 100 * Config.us ≤ b.now) ∧
    (∃ (s : State) (b : State) (t : Nat) (d : DiscData) (x : PortRx) (h : MHdr) (p : Bytes), b = (s.begin t).brought x h p ∧ FrameFor x h p (s.begin t) ∧ h.typ = 7 ∧ x.port < b.mesh.ports.length ∧ d.node < 64 ∧ d.node < b.mesh.convs.length ∧ (b.inForce = false ∨ d.node ≠ b.node)) ∧
    (∃ (s : State) (b : State) (t : Nat) (n : Nat) (q : Nat) (st : Nat) (x : PortRx) (h : MHdr) (p : Bytes) (f : DFrame), b = (s.begin t).brought x h p ∧ FrameFor x h p (s.begin t) ∧ h.typ = 2 ∧ n = (s.begin t).senderOf x.port h ∧ InEpoch n h.epoch b ∧ st < 2 ∧ (b.conv n).out.find? (·.seq == q) = some f ∧ (b.conv n).queue = []) ∧
    (∃ (s : State) (b : State) (t : Nat) (n : Nat) (q : Nat) (st : Nat) (x : PortRx) (h : MHdr) (p : Bytes) (f : DFrame) (i : Item) (l : List Item), b = (s.begin t).brought x h p ∧ FrameFor x h p (s.begin t) ∧ h.typ = 2 ∧ n = (s.begin t).senderOf x.port h ∧ InEpoch n h.epoch b ∧ st < 2 ∧ (b.conv n).out.find? (·.seq == q) = some f ∧ (b.conv n).queue = i :: l) ∧
    (∃ (s : State) (b : State) (t : Nat) (n : Nat) (q : Nat) (st : Nat) (x : PortRx) (h : MHdr) (p : Bytes), b = (s.begin t).brought x h p ∧ FrameFor x h p (s.begin t) ∧ h.typ = 2 ∧ n = (s.begin t).senderOf x.port h ∧ InEpoch n h.epoch b ∧ (2 ≤ st ∨ (b.conv n).out.find? (·.seq == q) = none)) ∧
    (∃ (s : State) (b : State) (t : Nat) (n : Nat) (x : PortRx) (h : MHdr) (p : Bytes) (e : Nat), b = (s.begin t).brought x h p ∧ FrameFor x h p (s.begin t) ∧ h.typ = 2 ∧ n = (s.begin t).senderOf x.port h ∧ (b.conv n).epoch = some e ∧ h.epoch ≠ e ∧ later 16 h.epoch e = false) ∧
    (∃ (s : State) (b : State) (t : Nat) (n : Nat) (x : PortRx) (h : MHdr) (p : Bytes) (e : Nat), b = (s.begin t).brought x h p ∧ FrameFor x h p (s.begin t) ∧ h.typ = 2 ∧ n = (s.begin t).senderOf x.port h ∧ (b.conv n).epoch = some e ∧ h.epoch ≠ e ∧ later 16 h.epoch e = true ∧ b.convUp n = true ∧ n ≠ b.nodeId ∧ n < 64 ∧ n < b.mesh.convs.length) ∧
    (∃ (s : State) (b : State) (t : Nat) (n : Nat) (x : PortRx) (h : MHdr) (p : Bytes), b = (s.begin t).brought x h p ∧ FrameFor x h p (s.begin t) ∧ h.typ = 1 ∧ n = (s.begin t).senderOf x.port h ∧ InEpoch n h.epoch b ∧ b.role ≠ 2 ∧ h.seq = (b.conv n).exp) ∧
    (∃ (s : State) (b : State) (t : Nat) (n : Nat) (x : PortRx) (h : MHdr) (p : Bytes), b = (s.begin t).brought x h p ∧ FrameFor x h p (s.begin t) ∧ h.typ = 1 ∧ n = (s.begin t).senderOf x.port h ∧ InEpoch n h.epoch b ∧ b.role ≠ 2 ∧ h.seq ≠ (b.conv n).exp) ∧
    (∃ (s : State) (b : State) (t : Nat) (n : Nat) (x : PortRx) (h : MHdr) (p : Bytes), b = (s.begin t).brought x h p ∧ FrameFor x h p (s.begin t) ∧ h.typ = 1 ∧ n = (s.begin t).senderOf x.port h ∧ InEpoch n h.epoch b ∧ b.role = 2) ∧
    (∃ (s : State) (b : State) (t : Nat) (n : Nat), b = s.begin t ∧ b.convUp n = true ∧ b.overdue n ≠ [] ∧ n < s.mesh.convs.length ∧ ((∀ f ∈ b.overdue n, f.sends < 3))) ∧
    (∃ (s : State) (b : State) (t : Nat) (n : Nat) (f : DFrame), b = s.begin t ∧ b.convUp n = true ∧ b.overdue n ≠ [] ∧ n < s.mesh.convs.length ∧ f ∈ b.overdue n ∧ 3 ≤ f.sends) ∧
    (∃ (s : State) (b : State) (t : Nat) (n : Nat), b = s.begin t ∧ (b.conv n).heardAt + Config.ms ≤ b.now ∧ n < s.mesh.convs.length ∧ b.convUp n = true) ∧
    (∃ (s : State) (b : State) (t : Nat) (n : Nat), b = s.begin t ∧ (b.conv n).heardAt + Config.ms ≤ b.now ∧ n < s.mesh.convs.length ∧ b.convUp n = false) ∧
    (∃ (s : State) (b : State) (t : Nat) (n : Nat), b = s.begin t ∧ b.convUp n = true ∧ (b.conv n).out = [] ∧ (b.conv n).queue = [] ∧ (b.conv n).sentAt + 100 * Config.us ≤ b.now) ∧
    (∃ (s : State) (b : State) (t : Nat), b = s.begin t ∧ b.inForce = true ∧ b.node ≠ 0 ∧ b.mesh.isolated = false ∧ (b.conv 0).st = 2 ∧ (b.conv 0).lostAt + s.cfg.mesh.isoMs * Config.ms ≤ b.now) ∧
    (∃ (s : State) (b : State) (t : Nat) (k : Nat) (cnt : Nat) (t1 : Nat) (t2 : Nat) (t3 : Nat) (cnt4 : Nat) (t4 : Nat) (l : List Int) (x : PortRx) (h : MHdr) (p : Bytes), b = (s.begin t).brought x h p ∧ FrameFor x h p (s.begin t) ∧ h.typ = 5 ∧ (s.begin t).inForce = true ∧ k = x.port ∧ k < b.mesh.ports.length ∧ (b.ln (32 + 2 * k)).m3 = cnt ∧ t2 = (b.ln (32 + 2 * k)).mrkTime ∧ (b.mrk (8 + k / 2)).sent[((b.mrk (8 + k / 2)).cnt + 255 - cnt4) % 256]? = some t3 ∧ l = (State.offset2 t1 t2 t3 t4 (at' b.cfg.mesh.asymP k 0) :: (at' b.mesh.ports k {}).offsets).take 16 ∧ l.length < 16) ∧
    (∃ (s : State) (b : State) (t : Nat) (k : Nat) (cnt : Nat) (t1 : Nat) (t2 : Nat) (t3 : Nat) (cnt4 : Nat) (t4 : Nat) (l : List Int) (x : PortRx) (h : MHdr) (p : Bytes), b = (s.begin t).brought x h p ∧ FrameFor x h p (s.begin t) ∧ h.typ = 5 ∧ (s.begin t).inForce = true ∧ k = x.port ∧ k < b.mesh.ports.length ∧ (b.ln (32 + 2 * k)).m3 = cnt ∧ t2 = (b.ln (32 + 2 * k)).mrkTime ∧ (b.mrk (8 + k / 2)).sent[((b.mrk (8 + k / 2)).cnt + 255 - cnt4) % 256]? = some t3 ∧ l = (State.offset2 t1 t2 t3 t4 (at' b.cfg.mesh.asymP k 0) :: (at' b.mesh.ports k {}).offsets).take 16 ∧ l.length = 16 ∧ ¬(b.cfg.topo.pair = true ∧ k = 0) ∧ b.cfg.mesh.shape ≠ 0 ∧ b.node ≠ b.cfg.mesh.master ∧ k = b.masterPort) ∧
    (∃ (s : State) (b : State) (t : Nat) (p : Nat) (k : Nat), b = s.begin t ∧ p < 4 ∧ p < s.mesh.ports.length ∧ b.portUp p ≠ (at' s.mesh.ports p {}).up ∧ b.linkOf p = some k ∧ (p ≠ 0 ∨ b.role ≠ 1)) ∧
    (∃ (s : State) (b : State) (t : Nat) (x : PortRx) (h : MHdr) (p : Bytes), b = s.begin t ∧ PortBrings x h p b ∧ h.typ = 8 ∧ b.ownDesc.isSome = true) ∧
    (∃ (s : State) (b : State) (t : Nat) (o : Nat) (c : Nat) (x : PortRx), b = s.begin t ∧ b.portTakes x.port = true ∧ portFloods x = [(o, c)] ∧ b.ownDesc.isSome = true ∧ (s.mesh.floods.filter fun f => decide (b.now < f.2.2 + 10 * Config.us)).any (fun f => f.1 == o && f.2.1 == c) = false ∧ (b.inForce = false ∨ o = b.node)) ∧
    (∃ (s : State) (b : State) (t : Nat) (o : Nat) (c : Nat) (x : PortRx), b = s.begin t ∧ b.portTakes x.port = true ∧ portFloods x = [(o, c)] ∧ b.ownDesc.isSome = true ∧ (s.mesh.floods.filter fun f => decide (b.now < f.2.2 + 10 * Config.us)).any (fun f => f.1 == o && f.2.1 == c) = false ∧ b.inForce = true ∧ o ≠ b.node ∧ b.latched 33 = false) ∧
    (∃ (s : State) (b : State) (t : Nat), b = s.begin t ∧ s.cfg.mesh.shape ≠ 0 ∧ b.flooding = true ∧ b.floodDue = true) ∧
    (∃ (s : State) (b : State) (t : Nat) (n : Nat) (x : PortRx) (h : MHdr) (p : Bytes), b = (s.begin t).brought x h p ∧ FrameFor x h p (s.begin t) ∧ h.typ = 3 ∧ (s.begin t).inForce = true ∧ n = (s.begin t).senderOf x.port h ∧ InEpoch n h.epoch b ∧ field p 0 4 = b.per ∧ field p 4 1 = 0) ∧
    (∃ (s : State) (b : State) (t : Nat) (n : Nat) (x : PortRx) (h : MHdr) (p : Bytes) (d : GroupDecl), b = (s.begin t).brought x h p ∧ FrameFor x h p (s.begin t) ∧ h.typ = 3 ∧ (s.begin t).inForce = true ∧ n = (s.begin t).senderOf x.port h ∧ InEpoch n h.epoch b ∧ field p 0 4 = b.per ∧ field p 4 1 = 1 ∧ b.group (field p 5 1) = some d ∧ d.owner = Owner.mesh n) ∧
    (∃ (s : State) (b : State) (t : Nat) (n : Nat) (x : PortRx) (h : MHdr) (p : Bytes) (d : GroupDecl), b = (s.begin t).brought x h p ∧ FrameFor x h p (s.begin t) ∧ h.typ = 3 ∧ (s.begin t).inForce = true ∧ n = (s.begin t).senderOf x.port h ∧ InEpoch n h.epoch b ∧ field p 0 4 = b.per ∧ field p 4 1 = 1 ∧ b.group (field p 5 1) = some d ∧ d.owner ≠ Owner.mesh n) ∧
    (∃ (s : State) (b : State) (t : Nat) (n : Nat) (x : PortRx) (h : MHdr) (p : Bytes), b = (s.begin t).brought x h p ∧ FrameFor x h p (s.begin t) ∧ h.typ = 3 ∧ (s.begin t).inForce = true ∧ n = (s.begin t).senderOf x.port h ∧ InEpoch n h.epoch b ∧ (field p 0 4 ≠ b.per ∨ 2 ≤ field p 4 1)) := by
  exact ⟨⟨(port0 (meshUp dM id)), _, 0, 0, (portRx 0 (meshBlocks { typ := 2, dst := 0, src := 1, epoch := 5 } [] 0)), ({ typ := 2, dst := 0, src := 1, epoch := 5 }), [],
      rfl,
      by first | decide +kernel | rfl,
      by first | decide +kernel | rfl,
      by first | decide +kernel | rfl,
      by first | decide +kernel | rfl,
      by first | decide +kernel | rfl⟩,
    ⟨(port0 (meshUp dM id)), _, 0, (meshCrc { typ := 2, dst := 0, src := 1, epoch := 5, path := true, hops := 1, word := 2 } []), (meshRx 0 { typ := 2, dst := 0, src := 1, epoch := 5, path := true, hops := 1, word := 2 } []), ({ typ := 2, dst := 0, src := 1, epoch := 5, path := true, hops := 1, word := 2 }), [],
      rfl,
      by first | decide +kernel | rfl,
      by first | decide +kernel | rfl,
      by first | decide +kernel | rfl,
      by first | decide +kernel | rfl,
      by first | decide +kernel | rfl,
      by first | decide +kernel | rfl⟩,
    ⟨(port0 (meshUp dM id)), _, 0, (meshCrc { typ := 2, dst := 1, src := 1, epoch := 5 } []), (meshRx 0 { typ := 2, dst := 1, src := 1, epoch := 5 } []), ({ typ := 2, dst := 1, src := 1, epoch := 5 }), [],
      rfl,
      by first | decide +kernel | rfl,
      by first | decide +kernel | rfl,
      by first | decide +kernel | rfl,
      by first | decide +kernel | rfl,
      by first | decide +kernel | rfl,
      by first | decide +kernel | rfl,
      by first | decide +kernel | rfl⟩,
    ⟨(meshUp dM id), _, 1280000,
      rfl,
      by first | decide +kernel | rfl⟩,
    ⟨(port0 (meshUp dM id)), _, 0, ({ node := 63 }), (meshRx 0 { typ := 7, dst := 0xFF, src := 1, epoch := 5 } []), ({ typ := 7, dst := 0xFF, src := 1, epoch := 5 }), [],
      rfl,
      frameFor_ok (by decide +kernel),
      by first | decide +kernel | rfl,
      by first | decide +kernel | rfl,
      by first | decide +kernel | rfl,
      by first | decide +kernel | rfl,
      by first | decide +kernel | rfl⟩,
    ⟨(port0 (atConv 1 fun c => { c with out := [{ seq := 7, item := .empty }] })), _, 0, 1, 7, 1, (meshRx 0 { typ := 2, dst := 0, src := 1, epoch := 5 } []), ({ typ := 2, dst := 0, src := 1, epoch := 5 }), [], ({ seq := 7, item := .empty }),
      rfl,
      frameFor_ok (by decide +kernel),
      by first | decide +kernel | rfl,
      by first | decide +kernel | rfl,
      by constructor <;> decide +kernel,
      by first | decide +kernel | rfl,
      by first | decide +kernel | rfl,
      by first | decide +kernel | rfl⟩,
    ⟨(port0 (atConv 1 fun c => { c with out := [{ seq := 7, item := .empty }], queue := [.read 0] })), _, 0, 1, 7, 0, (meshRx 0 { typ := 2, dst := 0, src := 1, epoch := 5 } []), ({ typ := 2, dst := 0, src := 1, epoch := 5 }), [], ({ seq := 7, item := .empty }), (.read 0), [],
      rfl,
      frameFor_ok (by decide +kernel),
      by first | decide +kernel | rfl,
      by first | decide +kernel | rfl,
      by constructor <;> decide +kernel,
      by first | decide +kernel | rfl,
      by first | decide +kernel | rfl,
      by first | decide +kernel | rfl⟩,
    ⟨(port0 (meshUp dM id)), _, 0, 1, 7, 2, (meshRx 0 { typ := 2, dst := 0, src := 1, epoch := 5 } []), ({ typ := 2, dst := 0, src := 1, epoch := 5 }), [],
      rfl,
      frameFor_ok (by decide +kernel),
      by first | decide +kernel | rfl,
      by first | decide +kernel | rfl,
      by constructor <;> decide +kernel,
      by first | decide +kernel | rfl⟩,
    ⟨(port0 (meshUp dM id)), _, 0, 1, (meshRx 0 { typ := 2, dst := 0, src := 1, epoch := 4 } []), ({ typ := 2, dst := 0, src := 1, epoch := 4 }), [], 5,
      rfl,
      frameFor_ok (by decide +kernel),
      by first | decide +kernel | rfl,
      by first | decide +kernel | rfl,
      by first | decide +kernel | rfl,
      by first | decide +kernel | rfl,
      by first | decide +kernel | rfl⟩,
    ⟨(port0 (meshUp dM id)), _, 0, 1, (meshRx 0 { typ := 2, dst := 0, src := 1, epoch := 6 } []), ({ typ := 2, dst := 0, src := 1, epoch := 6 }), [], 5,
      rfl,
      frameFor_ok (by decide +kernel),
      by first | decide +kernel | rfl,
      by first | decide +kernel | rfl,
      by first | decide +kernel | rfl,
      by first | decide +kernel | rfl,
      by first | decide +kernel | rfl,
      by first | decide +kernel | rfl,
      by first | decide +kernel | rfl,
      by first | decide +kernel | rfl,
      by first | decide +kernel | rfl⟩,
    ⟨(port0 (atConv 1 fun c => { c with exp := 2 ^ 32 - 1 })), _, 0, 1, (meshRx 0 { typ := 1, dst := 0, src := 1, epoch := 5, seq := 2 ^ 32 - 1 } []), ({ typ := 1, dst := 0, src := 1, epoch := 5, seq := 2 ^ 32 - 1 }), [],
      rfl,
      frameFor_ok (by decide +kernel),
      by first | decide +kernel | rfl,
      by first | decide +kernel | rfl,
      by constructor <;> decide +kernel,
      by first | decide +kernel | rfl,
      by first | decide +kernel | rfl⟩,
    ⟨(port0 (meshUp dM id)), _, 0, 1, (meshRx 0 { typ := 1, dst := 0, src := 1, epoch := 5, seq := 2 ^ 32 - 1 } []), ({ typ := 1, dst := 0, src := 1, epoch := 5, seq := 2 ^ 32 - 1 }), [],
      rfl,
      frameFor_ok (by decide +kernel),
      by first | decide +kernel | rfl,
      by first | decide +kernel | rfl,
      by constructor <;> decide +kernel,
      by first | decide +kernel | rfl,
      by first | decide +kernel | rfl⟩,
    ⟨(port0 ((pairUp 3 id).onConv 1 fun c => { c with st := 1, epoch := some 5 })), _, 0, 1, (meshRx 0 { typ := 1, dst := 0, src := 1, epoch := 5 } []), ({ typ := 1, dst := 0, src := 1, epoch := 5 }), [],
      rfl,
      frameFor_ok (by decide +kernel),
      by first | decide +kernel | rfl,
      by first | decide +kernel | rfl,
      by constructor <;> decide +kernel,
      by first | decide +kernel | rfl⟩,
    ⟨(atConv 1 fun c => { c with out := [{ seq := 7, item := .empty, sends := 2 }] }), _, 1280000, 1,
      rfl,
      by first | decide +kernel | rfl,
      by first | decide +kernel | rfl,
      by first | decide +kernel | rfl,
      by first | decide +kernel | rfl⟩,
    ⟨(atConv 1 fun c => { c with out := [{ seq := 7, item := .empty, sends := 3 }] }), _, 1280000, 1, ({ seq := 7, item := .empty, sends := 3 }),
      rfl,
      by first | decide +kernel | rfl,
      by first | decide +kernel | rfl,
      by first | decide +kernel | rfl,
      by first | decide +kernel | rfl,
      by first | decide +kernel | rfl⟩,
    ⟨(atConv 1 id), _, Config.ms, 1,
      rfl,
      by first | decide +kernel | rfl,
      by first | decide +kernel | rfl,
      by first | decide +kernel | rfl⟩,
    ⟨(atConv 63 id), _, Config.ms, 63,
      rfl,
      by first | decide +kernel | rfl,
      by first | decide +kernel | rfl,
      by first | decide +kernel | rfl⟩,
    ⟨(atConv 1 id), _, 1280000, 1,
      rfl,
      by first | decide +kernel | rfl,
      by first | decide +kernel | rfl,
      by first | decide +kernel | rfl,
      by first | decide +kernel | rfl⟩,
    ⟨(meshUp dM1 (fun m => { m with convs := modAt m.convs 0 fun c => { c with st := 2 } })), _, (10 * Config.ms),
      rfl,
      by first | decide +kernel | rfl,
      by first | decide +kernel | rfl,
      by first | decide +kernel | rfl,
      by first | decide +kernel | rfl,
      by first | decide +kernel | rfl⟩,
    ⟨((port0 (meshUp dM id)).onLane fun x => { x with mrk := modAt x.mrk 8 fun m => { m with cnt := 1, sent := [7] } }), _, 0, 0, 0, 0, 0, 7, 0, 1, ([State.offset2 0 0 7 1 0]), (meshRx 0 { typ := 5, dst := 0, src := 1, epoch := 5 } []), ({ typ := 5, dst := 0, src := 1, epoch := 5 }), [],
      rfl,
      frameFor_ok (by decide +kernel),
      by first | decide +kernel | rfl,
      by first | decide +kernel | rfl,
      by first | decide +kernel | rfl,
      by first | decide +kernel | rfl,
      by first | decide +kernel | rfl,
      by first | decide +kernel | rfl,
      by first | decide +kernel | rfl,
      by first | decide +kernel | rfl,
      by first | decide +kernel | rfl⟩,
    ⟨((port0 (meshUp dM1 fun m => { m with ports := modAt m.ports 0 fun p => { p with offsets := List.replicate 16 1 } })).onLane fun x => { x with mrk := modAt x.mrk 8 fun m => { m with cnt := 1, sent := [7] } }), _, 0, 0, 0, 0, 0, 7, 0, 1, (State.offset2 0 0 7 1 0 :: List.replicate 15 1), (meshRx 0 { typ := 5, dst := 1, src := 0, epoch := 5 } []), ({ typ := 5, dst := 1, src := 0, epoch := 5 }), [],
      rfl,
      frameFor_ok (by decide +kernel),
      by first | decide +kernel | rfl,
      by first | decide +kernel | rfl,
      by first | decide +kernel | rfl,
      by first | decide +kernel | rfl,
      by first | decide +kernel | rfl,
      by first | decide +kernel | rfl,
      by first | decide +kernel | rfl,
      by first | decide +kernel | rfl,
      by first | decide +kernel | rfl,
      by first | decide +kernel | rfl,
      by first | decide +kernel | rfl,
      by first | decide +kernel | rfl,
      by first | decide +kernel | rfl⟩,
    ⟨(atLane 34 (fun x => { x with rx := 5, tx := 3 }) (meshUp dM id) |> atLane 35 fun x => { x with rx := 5, tx := 3 }), _, 0, 1, 3,
      rfl,
      by first | decide +kernel | rfl,
      by first | decide +kernel | rfl,
      by first | decide +kernel | rfl,
      by first | decide +kernel | rfl,
      by first | decide +kernel | rfl⟩,
    ⟨(port0 (meshUp dM id)), _, 0, (meshRx 0 { typ := 8, dst := 0xFF, src := 1, epoch := 5 } []), ({ typ := 8, dst := 0xFF, src := 1, epoch := 5 }), [],
      rfl,
      by constructor <;> decide +kernel,
      by first | decide +kernel | rfl,
      by first | decide +kernel | rfl⟩,
    ⟨(port0 (meshUp dM id)), _, 0, 0, 0, (portRx 0 [(true, floodBytes 0 0)]),
      rfl,
      by first | decide +kernel | rfl,
      by first | decide +kernel | rfl,
      by first | decide +kernel | rfl,
      by first | decide +kernel | rfl,
      by first | decide +kernel | rfl⟩,
    ⟨(port0 (meshUp dM id)), _, 0, 1, 0, (portRx 0 [(true, floodBytes 1 0)]),
      rfl,
      by first | decide +kernel | rfl,
      by first | decide +kernel | rfl,
      by first | decide +kernel | rfl,
      by first | decide +kernel | rfl,
      by first | decide +kernel | rfl,
      by first | decide +kernel | rfl,
      by first | decide +kernel | rfl⟩,
    ⟨(((meshUp dM id).onImg fun x => { x with safety := { wires := [{ mesh := true }] } }).onCmp fun x => { x with latch := x.latch.set 0 true }), _, 69206,
      rfl,
      by first | decide +kernel | rfl,
      by first | decide +kernel | rfl,
      by first | decide +kernel | rfl⟩,
    ⟨(port0 (meshUp dM id)), _, 0, 1, (meshRx 0 { typ := 3, dst := 0, src := 1, epoch := 5 } (le 4 0 ++ le 1 0 ++ le 1 0 ++ le 2 1 ++ le 2 8191 ++ le 2 0 ++ le 4 4294967295)), ({ typ := 3, dst := 0, src := 1, epoch := 5 }), (le 4 0 ++ le 1 0 ++ le 1 0 ++ le 2 1 ++ le 2 8191 ++ le 2 0 ++ le 4 4294967295),
      rfl,
      frameFor_ok (by decide +kernel),
      by first | decide +kernel | rfl,
      by first | decide +kernel | rfl,
      by first | decide +kernel | rfl,
      by constructor <;> decide +kernel,
      by first | decide +kernel | rfl,
      by first | decide +kernel | rfl⟩,
    ⟨(port0 (meshUp { dM with groups := [some { owner := .mesh 1, slots := 4 }] } id)), _, 0, 1, (meshRx 0 { typ := 3, dst := 0, src := 1, epoch := 5 } (le 4 0 ++ le 1 1 ++ le 1 0 ++ le 2 1 ++ le 2 3 ++ le 2 0 ++ le 4 1)), ({ typ := 3, dst := 0, src := 1, epoch := 5 }), (le 4 0 ++ le 1 1 ++ le 1 0 ++ le 2 1 ++ le 2 3 ++ le 2 0 ++ le 4 1), ({ owner := .mesh 1, slots := 4 }),
      rfl,
      frameFor_ok (by decide +kernel),
      by first | decide +kernel | rfl,
      by first | decide +kernel | rfl,
      by first | decide +kernel | rfl,
      by constructor <;> decide +kernel,
      by first | decide +kernel | rfl,
      by first | decide +kernel | rfl,
      by first | decide +kernel | rfl,
      by first | decide +kernel | rfl⟩,
    ⟨(port0 (meshUp { dM with groups := [some { owner := .host, slots := 4 }] } id)), _, 0, 1, (meshRx 0 { typ := 3, dst := 0, src := 1, epoch := 5 } (le 4 0 ++ le 1 1 ++ le 1 0 ++ le 2 0 ++ le 8 0)), ({ typ := 3, dst := 0, src := 1, epoch := 5 }), (le 4 0 ++ le 1 1 ++ le 1 0 ++ le 2 0 ++ le 8 0), ({ owner := .host, slots := 4 }),
      rfl,
      frameFor_ok (by decide +kernel),
      by first | decide +kernel | rfl,
      by first | decide +kernel | rfl,
      by first | decide +kernel | rfl,
      by constructor <;> decide +kernel,
      by first | decide +kernel | rfl,
      by first | decide +kernel | rfl,
      by first | decide +kernel | rfl,
      by first | decide +kernel | rfl⟩,
    ⟨(port0 (meshUp dM id)), _, 0, 1, (meshRx 0 { typ := 3, dst := 0, src := 1, epoch := 5 } (le 4 1 ++ le 1 0 ++ le 1 0 ++ le 2 0 ++ le 8 0)), ({ typ := 3, dst := 0, src := 1, epoch := 5 }), (le 4 1 ++ le 1 0 ++ le 1 0 ++ le 2 0 ++ le 8 0),
      rfl,
      frameFor_ok (by decide +kernel),
      by first | decide +kernel | rfl,
      by first | decide +kernel | rfl,
      by first | decide +kernel | rfl,
      by constructor <;> decide +kernel,
      by first | decide +kernel | rfl⟩⟩
theorem witness_MeshSymbols :
    (∃ (s : State) (b : State) (t : Nat) (x : PortRx) (y : Sym), b = s.begin t ∧ FirstCopy 2 x y b ∧ b.isHead = false) ∧
    (∃ (s : State) (b : State) (t : Nat) (a : Nat) (l : List Nat) (x : PortRx) (y : Sym), b = s.begin t ∧ FirstCopy 2 x y b ∧ b.isHead = true ∧ b.mesh.bar = some (y.arg % 65536, l, a) ∧ ((∀ n < s.cfg.mesh.nodes, n ∈ l ∨ n = y.origin))) ∧
    (∃ (s : State) (b : State) (t : Nat) (x : PortRx) (y : Sym), b = s.begin t ∧ FirstCopy 3 x y b) ∧
    (∃ (s : State) (b : State) (t : Nat) (n : Nat) (a : Nat) (l : List Nat), b = s.begin t ∧ b.mesh.bar = some (n, l, a) ∧ b.node ∈ l ∧ b.mesh.barSentAt + Config.us ≤ b.now) ∧
    (∃ (s : State) (b : State) (t : Nat) (n : Nat) (a : Nat) (l : List Nat), b = s.begin t ∧ b.mesh.bar = some (n, l, a) ∧ b.isHead = true ∧ a + 100 * Config.us ≤ b.now) ∧
    (∃ (s : State) (b : State) (t : Nat) (a : Nat) (x : PortRx) (y : Sym), b = s.begin t ∧ FirstCopy 4 x y b ∧ a = b.near48 y.arg ∧ b.sysTime < a) ∧
    (∃ (s : State) (b : State) (t : Nat) (a : Nat) (x : PortRx) (y : Sym), b = s.begin t ∧ FirstCopy 4 x y b ∧ a = b.near48 y.arg ∧ a ≤ b.sysTime) ∧
    (∃ (s : State) (b : State) (t : Nat) (a : Nat) (k : Nat) (x : PortRx) (y : Sym), b = s.begin t ∧ FirstCopy 5 x y b ∧ a = b.near48 y.arg ∧ k = bits y.arg 51 48 ∧ b.sysTime < a ∧ k < 3) ∧
    (∃ (s : State) (b : State) (t : Nat) (a : Nat) (k : Nat) (x : PortRx) (y : Sym), b = s.begin t ∧ FirstCopy 5 x y b ∧ a = b.near48 y.arg ∧ k = bits y.arg 51 48 ∧ (a ≤ b.sysTime ∨ 3 ≤ k)) ∧
    (∃ (s : State) (b : State) (t : Nat) (x : PortRx) (y : Sym), b = s.begin t ∧ FirstCopy 6 x y b) ∧
    (∃ (s : State) (b : State) (t : Nat) (x : PortRx) (y : Sym), b = s.begin t ∧ FirstCopy 7 x y b) ∧
    (∃ (s : State) (b : State) (t : Nat) (x : PortRx) (y : Sym), b = s.begin t ∧ FirstCopy 8 x y b) ∧
    (∃ (s : State) (b : State) (t : Nat) (x : PortRx) (y : Sym), b = s.begin t ∧ FirstCopy 9 x y b) ∧
    (∃ (s : State) (b : State) (t : Nat) (a : Nat) (x : PortRx) (y : Sym), b = s.begin t ∧ FirstCopy 10 x y b ∧ a = b.near48 y.arg) ∧
    (∃ (s : State) (b : State) (t : Nat) (a : Nat) (x : PortRx) (y : Sym), b = s.begin t ∧ FirstCopy 11 x y b ∧ s.clk.loadAt = some (y.origin, y.tag, a)) ∧
    (∃ (s : State) (b : State) (t : Nat) (x : PortRx) (y : Sym), b = s.begin t ∧ FirstCopy 12 x y b) ∧
    (∃ (s : State) (b : State) (t : Nat) (g : Gop), b = s.begin t ∧ b.mesh.gops.filter (fun g => decide (g.endAt ≤ b.now)) = [g]) ∧
    (∃ (s : State) (b : State) (t : Nat) (off : Nat) (x : PortRx) (y : Sym) (r : Reg) (f : Nat → State → State), b = s.begin t ∧ FirstCopy 1 x y b ∧ off = bits y.arg 55 34 ∧ ((∀ m o, Serves .mesh off r { b with mesh := m, out := o })) ∧ b.standby = false ∧ r.wr = .rw f) ∧
    (∃ (s : State) (b : State) (t : Nat) (time : Nat) (tag : Nat), b = s.begin t ∧ b.mesh.snap = some (time, tag) ∧ time ≤ b.sysTime) ∧
    (∃ (s : State) (b : State) (t : Nat) (time : Nat) (kind : Nat) (c : Nat) (tag : Nat), b = s.begin t ∧ b.mesh.reset = some (time, kind, c, tag) ∧ time ≤ b.sysTime ∧ b.snapDue = false) := by
  exact ⟨⟨(port0 (meshUp dM1 id)), _, 0, (symRx 0 2 { origin := 0, arg := 65535 }), ({ origin := 0, arg := 65535 }),
      rfl,
      by constructor <;> decide +kernel,
      by first | decide +kernel | rfl⟩,
    ⟨(port0 (meshUp dM fun m => { m with bar := some (3, [0], 0) })), _, 0, 0, [0], (symRx 0 2 { origin := 1, arg := 3 }), ({ origin := 1, arg := 3 }),
      rfl,
      by constructor <;> decide +kernel,
      by first | decide +kernel | rfl,
      by first | decide +kernel | rfl,
      by first | decide +kernel | rfl⟩,
    ⟨(port0 (meshUp dM id)), _, 0, (symRx 0 3 { origin := 63, tag := 255 }), ({ origin := 63, tag := 255 }),
      rfl,
      by constructor <;> decide +kernel⟩,
    ⟨(meshUp dM fun m => { m with bar := some (3, [0], 0) }), _, 12800, 3, 0, [0],
      rfl,
      by first | decide +kernel | rfl,
      by first | decide +kernel | rfl,
      by first | decide +kernel | rfl⟩,
    ⟨(meshUp dM fun m => { m with bar := some (3, [0], 0) }), _, 1280000, 3, 0, [0],
      rfl,
      by first | decide +kernel | rfl,
      by first | decide +kernel | rfl,
      by first | decide +kernel | rfl⟩,
    ⟨(port0 (meshUp dM id)), _, 0, 1, (symRx 0 4 { origin := 1, arg := 1 }), ({ origin := 1, arg := 1 }),
      rfl,
      by constructor <;> decide +kernel,
      by first | decide +kernel | rfl,
      by first | decide +kernel | rfl⟩,
    ⟨(port0 (meshUp dM id)), _, 0, 0, (symRx 0 4 { origin := 1, arg := 0 }), ({ origin := 1, arg := 0 }),
      rfl,
      by constructor <;> decide +kernel,
      by first | decide +kernel | rfl,
      by first | decide +kernel | rfl⟩,
    ⟨(port0 (meshUp dM id)), _, 0, 1, 2, (symRx 0 5 { origin := 1, arg := 1 + 2 * 2 ^ 48 }), ({ origin := 1, arg := 1 + 2 * 2 ^ 48 }),
      rfl,
      by constructor <;> decide +kernel,
      by first | decide +kernel | rfl,
      by first | decide +kernel | rfl,
      by first | decide +kernel | rfl,
      by first | decide +kernel | rfl⟩,
    ⟨(port0 (meshUp dM id)), _, 0, 1, 3, (symRx 0 5 { origin := 1, arg := 1 + 3 * 2 ^ 48 }), ({ origin := 1, arg := 1 + 3 * 2 ^ 48 }),
      rfl,
      by constructor <;> decide +kernel,
      by first | decide +kernel | rfl,
      by first | decide +kernel | rfl,
      by first | decide +kernel | rfl⟩,
    ⟨(port0 (meshUp dM id)), _, 0, (symRx 0 6 { origin := 1 }), ({ origin := 1 }),
      rfl,
      by constructor <;> decide +kernel⟩,
    ⟨(port0 (meshUp dM id)), _, 0, (symRx 0 7 { origin := 1 }), ({ origin := 1 }),
      rfl,
      by constructor <;> decide +kernel⟩,
    ⟨(port0 (meshUp dM id)), _, 0, (symRx 0 8 { origin := 1 }), ({ origin := 1 }),
      rfl,
      by constructor <;> decide +kernel⟩,
    ⟨(port0 (meshUp dM id)), _, 0, (symRx 0 9 { origin := 1 }), ({ origin := 1 }),
      rfl,
      by constructor <;> decide +kernel⟩,
    ⟨(port0 (meshUp dM id)), _, 0, 5, (symRx 0 10 { origin := 1, arg := 5 }), ({ origin := 1, arg := 5 }),
      rfl,
      by constructor <;> decide +kernel,
      by first | decide +kernel | rfl⟩,
    ⟨(port0 ((meshUp dM id).onClk fun c => { c with loadAt := some (1, 2, 5) })), _, 0, 5, (symRx 0 11 { origin := 1, tag := 2 }), ({ origin := 1, tag := 2 }),
      rfl,
      by constructor <;> decide +kernel,
      by first | decide +kernel | rfl⟩,
    ⟨(port0 (meshUp dM id)), _, 0, (symRx 0 12 { origin := 1 }), ({ origin := 1 }),
      rfl,
      by constructor <;> decide +kernel⟩,
    ⟨(meshUp dM fun m => { m with gops := [{ op := 4, tag := 1, endAt := 0 }] }), _, 0, ({ op := 4, tag := 1, endAt := 0 }),
      rfl,
      by first | decide +kernel | rfl⟩,
    ⟨(port0 (meshUp dM id)), _, 0, 0x22001C, (symRx 0 1 { origin := 1, arg := 0x22001C * 2 ^ 34 }), ({ origin := 1, arg := 0x22001C * 2 ^ 34 }), ({ val := 0, wr := .rw fun v => onPwr fun p => { p with dozeRx := v } }), (fun v => onPwr fun p => { p with dozeRx := v }),
      rfl,
      by constructor <;> decide +kernel,
      by first | decide +kernel | rfl,
      (fun x j => ⟨by decide +kernel, rfl, rfl, (by decide +kernel : ((port0 (meshUp dM id)).begin 0).domOn .mesh 0x22001C = true), rfl⟩),
      by first | decide +kernel | rfl,
      by first | decide +kernel | rfl⟩,
    ⟨(meshUp dM fun m => { m with snap := some (0, 1) }), _, 0, 0, 1,
      rfl,
      by first | decide +kernel | rfl,
      by first | decide +kernel | rfl⟩,
    ⟨(meshUp dM fun m => { m with reset := some (0, 2, 0, 1) }), _, 0, 0, 2, 0, 1,
      rfl,
      by first | decide +kernel | rfl,
      by first | decide +kernel | rfl,
      by first | decide +kernel | rfl⟩⟩
theorem witness_ModeCommands :
    (∃ (s : State) (b : State) (t : Nat) (m : Nat) (scope : Nat) (h : RecHdr), Accepts cmdModeSet h (le 1 m ++ le 1 scope ++ le 2 0) (s.begin t) ∧ b = s.begin t ∧ m < 256 ∧ (scope = 0 ∨ scope = 1)) ∧
    (∃ (s : State) (b : State) (t : Nat) (k : Nat) (h : RecHdr) (v : Word), Accepts cmdSetpoint h (le 1 k ++ le 3 0 ++ le 4 v.toNat) (s.begin t) ∧ b = s.begin t ∧ k < 256) ∧
    (∃ (s : State) (b : State) (t : Nat) (h : RecHdr), Accepts cmdModeLossClear h [] (s.begin t) ∧ b = s.begin t) ∧
    (∃ (s : State) (b : State) (t : Nat) (set : Nat) (clear : Nat) (g : Nat) (x : Nat) (h : RecHdr), Accepts cmdOvlSet h (le 1 set ++ le 1 clear ++ le 1 g ++ le 1 0) (s.begin t) ∧ b = s.begin t ∧ set < 256 ∧ clear < 256 ∧ g < 256 ∧ x = s.modeQ.ovl ^^^ (clear &&& s.modeQ.ovl)) ∧
    (∃ (s : State) (b : State) (t : Nat) (p : Nat), b = s.begin t ∧ b.timeline = true ∧ b.cyc = 0 ∧ p ∈ s.modeQ.lossSched ∧ later 32 p b.per = false ∧ s.host.loss ≠ 2) ∧
    (∃ (s : State) (b : State) (t : Nat) (p : Nat), b = s.begin t ∧ b.timeline = true ∧ b.cyc = 0 ∧ p ∈ s.modeQ.lossSched ∧ later 32 p b.per = false ∧ s.host.loss = 2) ∧
    (∃ (s : State) (b : State) (t : Nat) (x : Sched), b = s.begin t ∧ b.timeline = true ∧ b.cyc = 0 ∧ s.modeQ.sched = some x ∧ later 32 x.period b.per = false) ∧
    (∃ (s : State) (b : State) (t : Nat) (n : Nat), b = s.begin t ∧ b.inForce = true ∧ n ≠ b.node) := by
  exact ⟨⟨(modeUp 0 0 id), _, 0, 0, 0, h0,
      accepts_ok (by decide +kernel),
      rfl,
      by first | decide +kernel | rfl,
      by first | decide +kernel | rfl⟩,
    ⟨(modeUp 0 0 id), _, 0, 0, h0, 0x3F800000,
      accepts_ok (by decide +kernel),
      rfl,
      by first | decide +kernel | rfl⟩,
    ⟨(modeUp 0 0 id), _, 0, h0,
      accepts_ok (by decide +kernel),
      rfl⟩,
    ⟨up, _, 0, 1, 0, 0, 0, h0,
      accepts_ok (by decide +kernel),
      rfl,
      by first | decide +kernel | rfl,
      by first | decide +kernel | rfl,
      by first | decide +kernel | rfl,
      by first | decide +kernel | rfl⟩,
    ⟨(((modeUp 2 0 id).onHost fun x => { x with loss := 0 }).onModeQ fun x => { x with lossSched := [0] }), _, 0, 0,
      rfl,
      by first | decide +kernel | rfl,
      by first | decide +kernel | rfl,
      by first | decide +kernel | rfl,
      by first | decide +kernel | rfl,
      by first | decide +kernel | rfl⟩,
    ⟨((modeUp 2 0 id).onModeQ fun x => { x with lossSched := [0] }), _, 0, 0,
      rfl,
      by first | decide +kernel | rfl,
      by first | decide +kernel | rfl,
      by first | decide +kernel | rfl,
      by first | decide +kernel | rfl,
      by first | decide +kernel | rfl⟩,
    ⟨((modeUp 2 0 id).onModeQ fun x => { x with sched := some { period := 0, mode := 0 } }), _, 0, _,
      rfl,
      by first | decide +kernel | rfl,
      by first | decide +kernel | rfl,
      by first | decide +kernel | rfl,
      by first | decide +kernel | rfl⟩,
    ⟨up, _, 0, 63,
      rfl,
      by first | decide +kernel | rfl,
      by first | decide +kernel | rfl⟩⟩
theorem witness_ModeMachine :
    (∃ (s : State) (b : State) (t : Nat), b = s.begin t ∧ b.decides = true ∧ b.inSub 1 9 = true ∧ s.mode.cnt.stepAt + s.mp.preTmaxS * Config.sec ≤ b.now ∧ b.activeCovered = false) ∧
    (∃ (s : State) (b : State) (t : Nat), b = s.begin t ∧ b.decides = true ∧ b.inSub 1 10 = true ∧ s.mode.cnt.stepAt + s.mp.mainTMs * Config.ms ≤ b.now ∧ b.activeCovered = false) ∧
    (∃ (s : State) (b : State) (t : Nat), b = s.begin t ∧ b.timeline = true ∧ b.inSub 1 11 = true ∧ s.mode.cnt.stepAt + 50 * Config.ms ≤ b.now) ∧
    (∃ (s : State) (b : State) (t : Nat), b = s.begin t ∧ b.decides = true ∧ b.inSub 1 11 = true ∧ s.mode.cnt.stepAt + 100 * Config.ms ≤ b.now) ∧
    (∃ (s : State) (b : State) (t : Nat), b = s.begin t ∧ b.decides = true ∧ b.inSub 2 1 = true ∧ s.mode.cnt.targetAt + s.mp.startMaxMs * Config.ms ≤ b.now) ∧
    (∃ (s : State) (b : State) (t : Nat), b = s.begin t ∧ b.decides = true ∧ b.inSub 2 1 = true ∧ b.startOk = true) ∧
    (∃ (s : State) (b : State) (t : Nat), b = s.begin t ∧ b.decides = true ∧ b.inSub 3 2 = true ∧ s.mp.coastDet ≤ s.mode.cnt.coast) ∧
    (∃ (s : State) (b : State) (t : Nat), b = s.begin t ∧ b.decides = true ∧ b.inSub 3 4 = true ∧ b.periodsOf (s.mp.retTMs * Config.ms) ≤ s.mode.cnt.ret) ∧
    (∃ (s : State) (b : State) (t : Nat), b = s.begin t ∧ b.decides = true ∧ b.inSub 3 5 = true ∧ s.mp.resyncN ≤ s.mode.cnt.resync) ∧
    (∃ (s : State) (b : State) (t : Nat), b = s.begin t ∧ b.decides = true ∧ (b.inSub 3 4 = true ∨ b.inSub 3 5 = true) ∧ s.mode.cnt.coastAt + s.mp.coastMaxMs * Config.ms ≤ b.now ∧ b.activeCovered = false) ∧
    (∃ (s : State) (b : State) (t : Nat), b = s.begin t ∧ b.decides = true ∧ (s.mode.mode = 4 ∨ s.mode.mode = 5) ∧ b.periodsOf (s.mp.limTMs * Config.ms) ≤ s.mode.cnt.lim ∧ b.activeCovered = false) ∧
    (∃ (s : State) (b : State) (t : Nat), b = s.begin t ∧ b.decides = true ∧ b.driveSub 6 = true ∧ s.dp.fsN ≤ s.mode.cnt.fs) ∧
    (∃ (s : State) (b : State) (t : Nat), b = s.begin t ∧ b.decides = true ∧ b.driveSub 6 = true ∧ s.mode.cnt.searchAt + s.dp.fsTmaxMs * Config.ms ≤ b.now) ∧
    (∃ (s : State) (b : State) (t : Nat), b = s.begin t ∧ b.decides = true ∧ b.driveSub 7 = true ∧ s.mode.cnt.catchAt + s.dp.catchTMs * Config.ms ≤ b.now) ∧
    (∃ (s : State) (b : State) (t : Nat), b = s.begin t ∧ b.decides = true ∧ b.driveSub 4 = true ∧ 1000 ≤ s.mode.cnt.low) ∧
    (∃ (s : State) (b : State) (t : Nat), b = s.begin t ∧ b.decides = true ∧ s.mode.mode = 7 ∧ s.dp.zeroT ≤ s.mode.cnt.zero) ∧
    (∃ (s : State) (b : State) (t : Nat) (j : Nat), b = s.begin t ∧ b.decides = true ∧ s.mode.brkFault = false ∧ s.dp.brkOut = some j ∧ b.periodsOf (s.dp.brkCheckUs * Config.us) ≤ s.mode.cnt.brk) ∧
    (∃ (s : State) (b : State) (t : Nat) (k : Nat) (w : Nat) (x : FbWatch), b = s.begin t ∧ b.decides = true ∧ b.watch k w = some x ∧ x.lost = false ∧ b.fbOver x = true ∧ b.fbLive x = true ∧ b.mode.mode ≠ 0 ∧ b.mode.mode ≠ 8 ∧ b.activeCovered = false ∧ 1 < (b.inputDecl k w).cls ∧ ((∀ y ∈ s.mode.fb, y.onAlt = false))) ∧
    (∃ (s : State) (b : State) (t : Nat) (k : Nat) (w : Nat) (x : FbWatch), b = s.begin t ∧ b.decides = true ∧ b.watch k w = some x ∧ x.lost = false ∧ b.fbOver x = true ∧ b.fbLive x = true ∧ (b.inputDecl k w).cls = 0 ∧ ((∀ y ∈ s.mode.fb, y.onAlt = false))) ∧
    (∃ (s : State) (b : State) (t : Nat) (k : Nat), b = s.begin t ∧ b.decides = true ∧ (at' s.mode.sps k {}).dwell = 1) := by
  exact ⟨⟨({ (modeUp 1 9 id) with pts := [100001] }), _, 12800000000,
      rfl,
      by first | decide +kernel | rfl,
      by first | decide +kernel | rfl,
      by first | decide +kernel | rfl,
      by first | decide +kernel | rfl⟩,
    ⟨({ (modeUp 1 10 id) with pts := [1001] }), _, 128000000,
      rfl,
      by first | decide +kernel | rfl,
      by first | decide +kernel | rfl,
      by first | decide +kernel | rfl,
      by first | decide +kernel | rfl⟩,
    ⟨(modeUp 1 11 id), _, 640000000,
      rfl,
      by first | decide +kernel | rfl,
      by first | decide +kernel | rfl,
      by first | decide +kernel | rfl⟩,
    ⟨({ (modeUp 1 11 id) with pts := [10001] }), _, 1280000000,
      rfl,
      by first | decide +kernel | rfl,
      by first | decide +kernel | rfl,
      by first | decide +kernel | rfl⟩,
    ⟨({ (modeUp 2 1 id) with pts := [10001] }), _, 1280000000,
      rfl,
      by first | decide +kernel | rfl,
      by first | decide +kernel | rfl,
      by first | decide +kernel | rfl⟩,
    ⟨({ (modeUp 2 1 fun x => { x with target := 6 }) with pts := [1] }), _, 0,
      rfl,
      by first | decide +kernel | rfl,
      by first | decide +kernel | rfl,
      by first | decide +kernel | rfl⟩,
    ⟨({ (modeUp 3 2 fun x => { x with cnt := { coast := 2 } }) with pts := [1] }), _, 0,
      rfl,
      by first | decide +kernel | rfl,
      by first | decide +kernel | rfl,
      by first | decide +kernel | rfl⟩,
    ⟨({ (modeUp 3 4 fun x => { x with cnt := { ret := 100 } }) with pts := [1] }), _, 0,
      rfl,
      by first | decide +kernel | rfl,
      by first | decide +kernel | rfl,
      by first | decide +kernel | rfl⟩,
    ⟨({ (modeUp 3 5 fun x => { x with cnt := { resync := 16 } }) with pts := [1] }), _, 0,
      rfl,
      by first | decide +kernel | rfl,
      by first | decide +kernel | rfl,
      by first | decide +kernel | rfl⟩,
    ⟨({ (modeUp 3 5 id) with pts := [1001] }), _, 128000000,
      rfl,
      by first | decide +kernel | rfl,
      by first | decide +kernel | rfl,
      by first | decide +kernel | rfl,
      by first | decide +kernel | rfl⟩,
    ⟨({ (modeUp 4 0 fun x => { x with cnt := { lim := 10000 } }) with pts := [1] }), _, 0,
      rfl,
      by first | decide +kernel | rfl,
      by first | decide +kernel | rfl,
      by first | decide +kernel | rfl,
      by first | decide +kernel | rfl⟩,
    ⟨({ (modeUp 6 6 fun x => { x with cnt := { fs := 16 } }) with pts := [1] }), _, 0,
      rfl,
      by first | decide +kernel | rfl,
      by first | decide +kernel | rfl,
      by first | decide +kernel | rfl⟩,
    ⟨({ (modeUp 6 6 id) with pts := [1001] }), _, 128000000,
      rfl,
      by first | decide +kernel | rfl,
      by first | decide +kernel | rfl,
      by first | decide +kernel | rfl⟩,
    ⟨({ (modeUp 6 7 id) with pts := [101] }), _, 12800000,
      rfl,
      by first | decide +kernel | rfl,
      by first | decide +kernel | rfl,
      by first | decide +kernel | rfl⟩,
    ⟨({ (modeUp 6 4 fun x => { x with cnt := { low := 1000 } }) with pts := [1] }), _, 0,
      rfl,
      by first | decide +kernel | rfl,
      by first | decide +kernel | rfl,
      by first | decide +kernel | rfl⟩,
    ⟨({ (modeUp 7 0 fun x => { x with cnt := { zero := 1 } }) with pts := [1] }), _, 0,
      rfl,
      by first | decide +kernel | rfl,
      by first | decide +kernel | rfl,
      by first | decide +kernel | rfl⟩,
    ⟨({ (modeUp 6 0 fun x => { x with cnt := { brk := 1 } }) with pts := [1] }), _, 0, 1,
      rfl,
      by first | decide +kernel | rfl,
      by first | decide +kernel | rfl,
      by first | decide +kernel | rfl,
      by first | decide +kernel | rfl⟩,
    ⟨({ (modeUp 4 0 fun x => { x with fb := [{ bench := 15, word := 0, stale := 1 }] }) with pts := [1] }), _, 0, 15, 0, _,
      rfl,
      by first | decide +kernel | rfl,
      by first | decide +kernel | rfl,
      by first | decide +kernel | rfl,
      by first | decide +kernel | rfl,
      by first | decide +kernel | rfl,
      by first | decide +kernel | rfl,
      by first | decide +kernel | rfl,
      by first | decide +kernel | rfl,
      by first | decide +kernel | rfl,
      by first | decide +kernel | rfl⟩,
    ⟨({ (modeUp 4 0 fun x => { x with fb := [{ bench := 15, word := 1, stale := 1 }] }) with pts := [1] }), _, 0, 15, 1, _,
      rfl,
      by first | decide +kernel | rfl,
      by first | decide +kernel | rfl,
      by first | decide +kernel | rfl,
      by first | decide +kernel | rfl,
      by first | decide +kernel | rfl,
      by first | decide +kernel | rfl,
      by first | decide +kernel | rfl⟩,
    ⟨({ (modeUp 2 0 fun x => { x with sps := modAt x.sps 15 fun y => { y with dwell := 1 } }) with pts := [1] }), _, 0, 15,
      rfl,
      by first | decide +kernel | rfl,
      by first | decide +kernel | rfl⟩⟩
theorem witness_ModulatorSieves :
    (∃ (s : State) (b : State) (t : Nat) (k : Nat), b = s.begin t ∧ k < 6 ∧ at' b.adc.sdcRun k false ≠ b.sdcWanted k) ∧
    (∃ (s : State) (b : State) (t : Nat) (i : Nat) (n : Nat) (d : SieveDecl) (stream : List Bool) (hist : List Bool) (y : Int), b = s.begin t ∧ d = b.sieveDecl i ∧ n = d.order * d.osr ∧ d.en = true ∧ at' b.adc.sdcRun d.clk false = true ∧ 512 ≤ b.sysTime ∧ (b.sysTime - 512 + d.ofs * b.bitTicks i) % (d.osr * b.bitTicks i) = 0 ∧ b.bitsFit i (b.sysTime - 512) stream = true ∧ (b.sieve i).bitAt / b.bitTicks i ≤ (b.sysTime - 512) / b.bitTicks i ∧ (b.sieve i).stuck = false ∧ n ≤ (b.sieve i).got + stream.length ∧ hist = (stream.reverse ++ (b.sieve i).hist).take n ∧ 0 < d.osr ∧ State.sincSum d.order d.osr (hist.map fun x => if x then 1 else -1) * 1073741824 = y * (d.osr : Int) ^ d.order ∧ y.natAbs < 1006632960) ∧
    (∃ (s : State) (b : State) (t : Nat) (i : Nat) (n : Nat) (level : Bool) (stream : List Bool), b = s.begin t ∧ n = (b.sieveDecl i).order * (b.sieveDecl i).osr ∧ (b.sieveDecl i).en = true ∧ at' b.adc.sdcRun (b.sieveDecl i).clk false = true ∧ (b.sieve i).stuck = false ∧ b.bitsFit i b.sysTime stream = true ∧ 64 ≤ stream.length + (b.sieve i).hist.length ∧ ((∀ x ∈ (stream.reverse ++ (b.sieve i).hist).take 64, x = level))) ∧
    (∃ (s : State) (b : State) (t : Nat) (i : Nat) (same : List Bool), b = s.begin t ∧ (b.sieve i).stuck = true ∧ ((∀ x ∈ same, x = (b.sieve i).level)) ∧ b.bitsFit i b.sysTime (same ++ [!(b.sieve i).level]) = true) := by
  exact ⟨⟨(withDesc dA), _, 0, 0,
      rfl,
      by first | decide +kernel | rfl,
      by first | decide +kernel | rfl⟩,
    ⟨((withDesc dA).onAdc fun b => { b with sdcRun := [true] }), _, 2560, 0, _, _, ([true, true, true, false]), _, 536870912,
      rfl,
      by first | decide +kernel | rfl,
      by first | decide +kernel | rfl,
      by first | decide +kernel | rfl,
      by first | decide +kernel | rfl,
      by first | decide +kernel | rfl,
      by first | decide +kernel | rfl,
      by first | decide +kernel | rfl,
      by first | decide +kernel | rfl,
      by first | decide +kernel | rfl,
      by first | decide +kernel | rfl,
      by first | decide +kernel | rfl,
      by first | decide +kernel | rfl,
      by first | decide +kernel | rfl,
      by first | decide +kernel | rfl⟩,
    ⟨((withDesc dA).onAdc fun b => { b with sdcRun := [true] }), _, 32768, 0, _, true, (List.replicate 64 true),
      rfl,
      by first | decide +kernel | rfl,
      by first | decide +kernel | rfl,
      by first | decide +kernel | rfl,
      by first | decide +kernel | rfl,
      by first | decide +kernel | rfl,
      by first | decide +kernel | rfl,
      by first | decide +kernel | rfl⟩,
    ⟨((withDesc dA).onAdc fun b => { b with svs := [{ stuck := true }] }), _, 512, 0, [],
      rfl,
      by first | decide +kernel | rfl,
      by first | decide +kernel | rfl,
      by first | decide +kernel | rfl⟩⟩
theorem witness_PairAuthority :
    (∃ (s : State) (b : State) (t : Nat) (x : PortRx) (h : MHdr) (p : Bytes), b = s.begin t ∧ FromPartner x h p b ∧ b.mirrored = true ∧ s.pair.st = 3) ∧
    (∃ (s : State) (b : State) (t : Nat) (x : PortRx) (h : MHdr) (p : Bytes), b = s.begin t ∧ FromPartner x h p b ∧ b.mirrored = true ∧ s.pair.st = 3) ∧
    (∃ (s : State) (b : State) (y : State) (t : Nat), b = s.begin t ∧ y = b.lagged ∧ s.cfg.topo.pair = true ∧ s.pair.st = 3 ∧ y.atPoint 1 80 = true ∧ y.onInput = false) ∧
    (∃ (s : State) (b : State) (y : State) (t : Nat) (i : InputSet), b = s.begin t ∧ y = b.lagged ∧ s.cfg.topo.pair = true ∧ s.pair.st = 3 ∧ y.atPoint 1 80 = true ∧ s.pair.input = some i ∧ i.period = y.per) ∧
    (∃ (s : State) (b : State) (v : State) (y : State) (t : Nat) (r : RefsFrame), b = s.begin t ∧ v = b.landDue ∧ y = v.lagged ∧ s.cfg.topo.pair = true ∧ s.pair.st = 3 ∧ b.lagged.atPoint 5 (b.kO + 32) = true ∧ s.pair.refs = some r ∧ r.period = y.per ∧ s.pair.resigned = none) ∧
    (∃ (s : State) (b : State) (v : State) (y : State) (t : Nat), b = s.begin t ∧ v = b.landDue ∧ y = v.lagged ∧ s.cfg.topo.pair = true ∧ s.pair.st = 3 ∧ b.lagged.atPoint 5 (b.kO + 32) = true ∧ ((∀ r, s.pair.refs = some r → r.period ≠ y.per)) ∧ s.pair.resigned = none ∧ s.pair.missRun = 0) ∧
    (∃ (s : State) (b : State) (v : State) (y : State) (t : Nat), b = s.begin t ∧ v = b.landDue ∧ y = v.lagged ∧ s.cfg.topo.pair = true ∧ s.pair.st = 3 ∧ b.lagged.atPoint 5 (b.kO + 32) = true ∧ ((∀ r, s.pair.refs = some r → r.period ≠ y.per)) ∧ s.pair.resigned = none ∧ 1 ≤ s.pair.missRun ∧ y.partnerShips = true) ∧
    (∃ (s : State) (b : State) (v : State) (y : State) (t : Nat), b = s.begin t ∧ v = b.landDue ∧ y = v.lagged ∧ s.cfg.topo.pair = true ∧ s.pair.st = 3 ∧ b.lagged.atPoint 5 (b.kO + 32) = true ∧ ((∀ r, s.pair.refs = some r → r.period ≠ y.per)) ∧ s.pair.resigned = none ∧ 1 ≤ s.pair.missRun ∧ y.partnerShips = false ∧ y.healthy = true) ∧
    (∃ (s : State) (b : State) (v : State) (y : State) (t : Nat) (c : Nat), b = s.begin t ∧ v = b.landDue ∧ y = v.lagged ∧ s.cfg.topo.pair = true ∧ s.pair.st = 3 ∧ b.lagged.atPoint 5 (b.kO + 32) = true ∧ s.pair.resigned = some c ∧ y.healthy = true) ∧
    (∃ (s : State) (b : State) (t : Nat) (e : Nat), b = s.begin t ∧ s.pair.st = 4 ∧ later 16 e s.seam.epoch = true) ∧
    (∃ (s : State) (b : State) (t : Nat), b = s.begin t ∧ b.inForce = true ∧ s.pair.st = 1 ∧ b.lastSign + (if s.pair.member then 1100 else 100) * Config.ms ≤ b.now) ∧
    (∃ (s : State) (b : State) (t : Nat), b = s.begin t ∧ b.inForce = true ∧ (s.pair.st = 3 ∨ s.pair.st = 5) ∧ b.healthy = false ∧ b.lastSign + 1100 * Config.ms ≤ b.now) ∧
    (∃ (s : State) (b : State) (t : Nat) (x : LaneRx) (f : FrameHdr) (p : Bytes), b = s.begin t ∧ Brings x 1 f p b ∧ b.inForce = true ∧ s.cfg.topo.pair = true ∧ b.ownsPath (State.rxPathA x.lane) = false ∧ s.pair.st = 4 ∧ later 16 f.epoch s.seam.epoch = true) ∧
    (∃ (s : State) (b : State) (t : Nat) (x : LaneRx) (f : FrameHdr) (p : Bytes), b = s.begin t ∧ Brings x 1 f p b ∧ b.inForce = true ∧ s.cfg.topo.pair = true ∧ b.ownsPath (State.rxPathA x.lane) = false ∧ ¬(s.pair.st = 4 ∧ later 16 f.epoch s.seam.epoch = true)) ∧
    (∃ (s : State) (b : State) (t : Nat), b = s.begin t ∧ b.timeline = true ∧ b.cyc = 0 ∧ s.pair.handover = some b.per ∧ s.pair.st = 3) ∧
    (∃ (s : State) (b : State) (t : Nat), b = s.begin t ∧ b.timeline = true ∧ b.cyc = 0 ∧ s.pair.handover = some b.per ∧ s.pair.st = 4) ∧
    (∃ (s : State) (b : State) (t : Nat) (a : Nat), b = s.begin t ∧ s.pair.st = 4 ∧ s.pair.member = true ∧ s.pair.fbSuspend = false ∧ s.pair.handover = none ∧ s.cfg.topo.failbackHoldS ≠ 0 ∧ b.partnerHealthy = true ∧ s.pair.fbFrom = some a ∧ a + s.cfg.topo.failbackHoldS * Config.sec ≤ b.now) ∧
    (∃ (s : State) (b : State) (t : Nat) (n : Nat) (h : RecHdr), Accepts cmdPairSwitch h (le 4 n) (s.begin t) ∧ b = s.begin t ∧ n < 2 ^ 32) ∧
    (∃ (s : State) (b : State) (t : Nat) (e : Nat) (h : RecHdr), Accepts cmdPairFailback h (le 1 e ++ le 3 0) (s.begin t) ∧ b = s.begin t ∧ e < 256) ∧
    (∃ (s : State) (b : State) (t : Nat) (h : RecHdr), Accepts cmdPairResync h [] (s.begin t) ∧ b = s.begin t) := by
  exact ⟨⟨(port0 (pairUp 3 id)), _, 0, (meshRx 0 { typ := 6, dst := 0, src := 1, epoch := 5 } []), ({ typ := 6, dst := 0, src := 1, epoch := 5 }), [],
      rfl,
      fromPartner_ok (by decide +kernel),
      by first | decide +kernel | rfl,
      by first | decide +kernel | rfl⟩,
    ⟨(port0 (pairUp 3 id)), _, 0, (meshRx 0 { typ := 6, dst := 0, src := 1, epoch := 5 } []), ({ typ := 6, dst := 0, src := 1, epoch := 5 }), [],
      rfl,
      fromPartner_ok (by decide +kernel),
      by first | decide +kernel | rfl,
      by first | decide +kernel | rfl⟩,
    ⟨(pairUp 3 id), _, _, 1280,
      rfl,
      by first | decide +kernel | rfl,
      by first | decide +kernel | rfl,
      by first | decide +kernel | rfl,
      by first | decide +kernel | rfl,
      by first | decide +kernel | rfl⟩,
    ⟨(pairUp 3 fun p => { p with input := some {} }), _, _, 1280, {},
      rfl,
      by first | decide +kernel | rfl,
      by first | decide +kernel | rfl,
      by first | decide +kernel | rfl,
      by first | decide +kernel | rfl,
      by first | decide +kernel | rfl,
      by first | decide +kernel | rfl⟩,
    ⟨(pairUp 3 fun p => { p with refs := some {} }), _, _, _, 51712, {},
      rfl,
      by first | decide +kernel | rfl,
      by first | decide +kernel | rfl,
      by first | decide +kernel | rfl,
      by first | decide +kernel | rfl,
      by first | decide +kernel | rfl,
      by first | decide +kernel | rfl,
      by first | decide +kernel | rfl,
      by first | decide +kernel | rfl⟩,
    ⟨(pairUp 3 id), _, _, _, 51712,
      rfl,
      by first | decide +kernel | rfl,
      by first | decide +kernel | rfl,
      by first | decide +kernel | rfl,
      by first | decide +kernel | rfl,
      by first | decide +kernel | rfl,
      (fun _ k => nomatch (show (none : Option RefsFrame) = some _ from k)),
      by first | decide +kernel | rfl,
      by first | decide +kernel | rfl⟩,
    ⟨(pairUp 3 fun p => { p with missRun := 1, edgeSeen := [(0, 1)] }), _, _, _, 51712,
      rfl,
      by first | decide +kernel | rfl,
      by first | decide +kernel | rfl,
      by first | decide +kernel | rfl,
      by first | decide +kernel | rfl,
      by first | decide +kernel | rfl,
      (fun _ k => nomatch (show (none : Option RefsFrame) = some _ from k)),
      by first | decide +kernel | rfl,
      by first | decide +kernel | rfl,
      by first | decide +kernel | rfl⟩,
    ⟨(pairUp 3 fun p => { p with missRun := 1, health := 0x7F78000000000000 }), _, _, _, 51712,
      rfl,
      by first | decide +kernel | rfl,
      by first | decide +kernel | rfl,
      by first | decide +kernel | rfl,
      by first | decide +kernel | rfl,
      by first | decide +kernel | rfl,
      (fun _ k => nomatch (show (none : Option RefsFrame) = some _ from k)),
      by first | decide +kernel | rfl,
      by first | decide +kernel | rfl,
      by first | decide +kernel | rfl,
      by first | decide +kernel | rfl⟩,
    ⟨(pairUp 3 fun p => { p with resigned := some 2, health := 0x7F78000000000000 }), _, _, _, 51712, 2,
      rfl,
      by first | decide +kernel | rfl,
      by first | decide +kernel | rfl,
      by first | decide +kernel | rfl,
      by first | decide +kernel | rfl,
      by first | decide +kernel | rfl,
      by first | decide +kernel | rfl,
      by first | decide +kernel | rfl⟩,
    ⟨(pairUp 4 id), _, 0, 0x7FFF,
      rfl,
      by first | decide +kernel | rfl,
      by first | decide +kernel | rfl⟩,
    ⟨(pairUp 1 fun p => { p with member := true }), _, (1100 * Config.ms),
      rfl,
      by first | decide +kernel | rfl,
      by first | decide +kernel | rfl,
      by first | decide +kernel | rfl⟩,
    ⟨(pairUp 5 id), _, (1100 * Config.ms),
      rfl,
      by first | decide +kernel | rfl,
      by first | decide +kernel | rfl,
      by first | decide +kernel | rfl,
      by first | decide +kernel | rfl⟩,
    ⟨((atLane 30 fun l => { l with rx := 5 }) (pairUp 4 id)), _, 0, (cellRx 30 1 120 0 1 []), ({ cell := 120, path := 1, period := 0, epoch := 1 }), [],
      rfl,
      brings_ok (by decide +kernel),
      by first | decide +kernel | rfl,
      by first | decide +kernel | rfl,
      by first | decide +kernel | rfl,
      by first | decide +kernel | rfl,
      by first | decide +kernel | rfl⟩,
    ⟨((atLane 30 fun l => { l with rx := 5 }) (pairUp 1 id)), _, 0, (cellRx 30 1 120 0 0 []), ({ cell := 120, path := 1, period := 0, epoch := 0 }), [],
      rfl,
      brings_ok (by decide +kernel),
      by first | decide +kernel | rfl,
      by first | decide +kernel | rfl,
      by first | decide +kernel | rfl,
      by first | decide +kernel | rfl⟩,
    ⟨(pairUp 3 fun p => { p with handover := some 0 }), _, 0,
      rfl,
      by first | decide +kernel | rfl,
      by first | decide +kernel | rfl,
      by first | decide +kernel | rfl,
      by first | decide +kernel | rfl⟩,
    ⟨(pairUp 4 fun p => { p with handover := some 0 }), _, 0,
      rfl,
      by first | decide +kernel | rfl,
      by first | decide +kernel | rfl,
      by first | decide +kernel | rfl,
      by first | decide +kernel | rfl⟩,
    ⟨(pairUp 4 fun p => { p with member := true, peerHealthy := true, peerAt := some (60 * Config.sec), fbFrom := some 0 }), _, (60 * Config.sec), 0,
      rfl,
      by first | decide +kernel | rfl,
      by first | decide +kernel | rfl,
      by first | decide +kernel | rfl,
      by first | decide +kernel | rfl,
      by first | decide +kernel | rfl,
      by first | decide +kernel | rfl,
      by first | decide +kernel | rfl,
      by first | decide +kernel | rfl⟩,
    ⟨(port0 (pairUp 4 fun p => { p with peerHealthy := true, peerAt := some 0 })), _, 0, 16, h0,
      accepts_ok (by decide +kernel),
      rfl,
      by first | decide +kernel | rfl⟩,
    ⟨(port0 (pairUp 4 id)), _, 0, 1, h0,
      accepts_ok (by decide +kernel),
      rfl,
      by first | decide +kernel | rfl⟩,
    ⟨(port0 (pairUp 4 id)), _, 0, h0,
      accepts_ok (by decide +kernel),
      rfl⟩⟩
theorem witness_PairMirror :
    (∃ (s : State) (b : State) (t : Nat) (x : PortRx) (h : MHdr) (p : Bytes) (i : InputSet), FromPartner x h p (s.begin t) ∧ b = (s.begin t).brought x h p ∧ b.mirrored = true ∧ (i.period ≠ b.per ∨ s.pair.st = 2)) ∧
    (∃ (s : State) (b : State) (t : Nat) (x : PortRx) (h : MHdr) (p : Bytes) (i : InputSet), FromPartner x h p (s.begin t) ∧ b = (s.begin t).brought x h p ∧ b.mirrored = true ∧ i.period = b.per ∧ s.pair.st = 3) ∧
    (∃ (s : State) (b : State) (t : Nat) (x : PortRx) (h : MHdr) (p : Bytes), FromPartner x h p (s.begin t) ∧ b = (s.begin t).brought x h p ∧ b.inForce = true ∧ s.cfg.topo.pair = true ∧ (s.pair.st = 1 ∨ s.pair.st = 5 ∨ s.pair.st = 6)) ∧
    (∃ (s : State) (b : State) (t : Nat) (x : PortRx) (h : MHdr) (p : Bytes) (r : RefsFrame), FromPartner x h p (s.begin t) ∧ b = (s.begin t).brought x h p ∧ b.inForce = true ∧ s.cfg.topo.pair = true ∧ s.pair.st = 4 ∧ later 16 r.epoch s.seam.epoch = true) ∧
    (∃ (s : State) (b : State) (t : Nat) (x : PortRx) (h : MHdr) (p : Bytes), FromPartner x h p (s.begin t) ∧ b = (s.begin t).brought x h p ∧ b.inForce = true ∧ s.cfg.topo.pair = true ∧ s.pair.st = 3) ∧
    (∃ (s : State) (b : State) (t : Nat) (x : PortRx) (h : MHdr) (p : Bytes), FromPartner x h p (s.begin t) ∧ b = (s.begin t).brought x h p ∧ b.mirrored = true) ∧
    (∃ (s : State) (b : State) (t : Nat) (x : PortRx) (h : MHdr) (p : Bytes), FromPartner x h p (s.begin t) ∧ b = (s.begin t).brought x h p ∧ b.mirrored = true ∧ s.pair.st = 2) ∧
    (∃ (s : State) (b : State) (t : Nat) (x : PortRx) (h : MHdr) (p : Bytes), FromPartner x h p (s.begin t) ∧ b = (s.begin t).brought x h p ∧ b.mirrored = true ∧ s.pair.st = 3) ∧
    (∃ (s : State) (b : State) (t : Nat), b = s.begin t ∧ b.timeline = true ∧ s.cfg.topo.pair = true ∧ b.cyc = 0 ∧ b.now ≤ s.pair.syncAt + 200 * Config.ms ∧ s.pair.st = 2) ∧
    (∃ (s : State) (b : State) (t : Nat), b = s.begin t ∧ b.timeline = true ∧ s.cfg.topo.pair = true ∧ b.cyc = 0 ∧ b.now ≤ s.pair.syncAt + 200 * Config.ms ∧ s.pair.st = 4 ∧ s.pair.syncOut = true) ∧
    (∃ (s : State) (b : State) (t : Nat) (x : PortRx) (h : MHdr) (p : Bytes) (c : CmdFrame) (cmd : Cmd), FromPartner x h p (s.begin t) ∧ b = (s.begin t).brought x h p ∧ b.mirrored = true ∧ look c.opcode = some cmd) ∧
    (∃ (s : State) (b : State) (t : Nat) (x : CmdFrame × Nat) (l : List (CmdFrame × Nat)), b = s.begin t ∧ s.pair.st = 4 ∧ s.pair.mirror = true ∧ s.pair.flight = x :: l ∧ x.2 + 2 * Config.us ≤ b.now) ∧
    (∃ (s : State) (b : State) (t : Nat) (x : PortRx) (h : MHdr) (p : Bytes), FromPartner x h p (s.begin t) ∧ b = (s.begin t).brought x h p ∧ b.inForce = true ∧ s.pair.st = 4 ∧ s.pair.holding = false ∧ s.pair.flight = [] ∧ s.host.held = []) ∧
    (∃ (s : State) (b : State) (t : Nat) (x : PortRx) (h : MHdr) (p : Bytes) (f : HealthFrame), FromPartner x h p (s.begin t) ∧ b = (s.begin t).brought x h p ∧ b.inForce = true ∧ s.pair.st = 4 ∧ s.pair.holding = true ∧ s.pair.mirror = false ∧ s.host.held = [] ∧ f.word.testBit 62 = false) ∧
    (∃ (s : State) (b : State) (t : Nat) (a : Nat), b = s.begin t ∧ s.pair.st = 4 ∧ (s.pair.mirrorOff = false ∨ s.pair.holding = true) ∧ s.pair.peerAt = some a ∧ a + 2 * b.tick ≤ b.now) := by
  exact ⟨⟨(port0 (pairUp 2 id)), _, 0, (meshRx 0 { typ := 6, dst := 0, src := 1, epoch := 5 } []), ({ typ := 6, dst := 0, src := 1, epoch := 5 }), [], ({ period := 0 }),
      fromPartner_ok (by decide +kernel),
      rfl,
      by first | decide +kernel | rfl,
      by first | decide +kernel | rfl⟩,
    ⟨(port0 (pairUp 3 id)), _, 0, (meshRx 0 { typ := 6, dst := 0, src := 1, epoch := 5 } []), ({ typ := 6, dst := 0, src := 1, epoch := 5 }), [], ({ period := 0, words := [[0x3F800000]] }),
      fromPartner_ok (by decide +kernel),
      rfl,
      by first | decide +kernel | rfl,
      by first | decide +kernel | rfl,
      by first | decide +kernel | rfl⟩,
    ⟨(port0 (pairUp 6 id)), _, 0, (meshRx 0 { typ := 6, dst := 0, src := 1, epoch := 5 } []), ({ typ := 6, dst := 0, src := 1, epoch := 5 }), [],
      fromPartner_ok (by decide +kernel),
      rfl,
      by first | decide +kernel | rfl,
      by first | decide +kernel | rfl,
      by first | decide +kernel | rfl⟩,
    ⟨(port0 (pairUp 4 id)), _, 0, (meshRx 0 { typ := 6, dst := 0, src := 1, epoch := 5 } []), ({ typ := 6, dst := 0, src := 1, epoch := 5 }), [], ({ epoch := 1 }),
      fromPartner_ok (by decide +kernel),
      rfl,
      by first | decide +kernel | rfl,
      by first | decide +kernel | rfl,
      by first | decide +kernel | rfl,
      by first | decide +kernel | rfl⟩,
    ⟨(port0 (pairUp 3 id)), _, 0, (meshRx 0 { typ := 6, dst := 0, src := 1, epoch := 5 } []), ({ typ := 6, dst := 0, src := 1, epoch := 5 }), [],
      fromPartner_ok (by decide +kernel),
      rfl,
      by first | decide +kernel | rfl,
      by first | decide +kernel | rfl,
      by first | decide +kernel | rfl⟩,
    ⟨(port0 (pairUp 3 id)), _, 0, (meshRx 0 { typ := 6, dst := 0, src := 1, epoch := 5 } []), ({ typ := 6, dst := 0, src := 1, epoch := 5 }), [],
      fromPartner_ok (by decide +kernel),
      rfl,
      by first | decide +kernel | rfl⟩,
    ⟨(port0 (pairUp 2 id)), _, 0, (meshRx 0 { typ := 6, dst := 0, src := 1, epoch := 5 } []), ({ typ := 6, dst := 0, src := 1, epoch := 5 }), [],
      fromPartner_ok (by decide +kernel),
      rfl,
      by first | decide +kernel | rfl,
      by first | decide +kernel | rfl⟩,
    ⟨(port0 (pairUp 3 id)), _, 0, (meshRx 0 { typ := 6, dst := 0, src := 1, epoch := 5 } []), ({ typ := 6, dst := 0, src := 1, epoch := 5 }), [],
      fromPartner_ok (by decide +kernel),
      rfl,
      by first | decide +kernel | rfl,
      by first | decide +kernel | rfl⟩,
    ⟨(pairUp 2 id), _, 0,
      rfl,
      by first | decide +kernel | rfl,
      by first | decide +kernel | rfl,
      by first | decide +kernel | rfl,
      by first | decide +kernel | rfl,
      by first | decide +kernel | rfl⟩,
    ⟨(pairUp 4 fun p => { p with syncOut := true }), _, 0,
      rfl,
      by first | decide +kernel | rfl,
      by first | decide +kernel | rfl,
      by first | decide +kernel | rfl,
      by first | decide +kernel | rfl,
      by first | decide +kernel | rfl,
      by first | decide +kernel | rfl⟩,
    ⟨(port0 (pairUp 3 id)), _, 0, (meshRx 0 { typ := 6, dst := 0, src := 1, epoch := 5 } []), ({ typ := 6, dst := 0, src := 1, epoch := 5 }), [], ({ opcode := 0x0501, payload := [] }), ((look 0x0501).get rfl),
      fromPartner_ok (by decide +kernel),
      rfl,
      by first | decide +kernel | rfl,
      by first | decide +kernel | rfl⟩,
    ⟨(pairUp 4 fun p => { p with mirror := true, flight := [({}, 0)] }), _, (2 * Config.us), (({}, 0)), [],
      rfl,
      by first | decide +kernel | rfl,
      by first | decide +kernel | rfl,
      by first | decide +kernel | rfl,
      by first | decide +kernel | rfl⟩,
    ⟨(port0 (pairUp 4 id)), _, 0, (meshRx 0 { typ := 6, dst := 0, src := 1, epoch := 5 } []), ({ typ := 6, dst := 0, src := 1, epoch := 5 }), [],
      fromPartner_ok (by decide +kernel),
      rfl,
      by first | decide +kernel | rfl,
      by first | decide +kernel | rfl,
      by first | decide +kernel | rfl,
      by first | decide +kernel | rfl,
      by first | decide +kernel | rfl⟩,
    ⟨(port0 (pairUp 4 fun p => { p with holding := true })), _, 0, (meshRx 0 { typ := 6, dst := 0, src := 1, epoch := 5 } []), ({ typ := 6, dst := 0, src := 1, epoch := 5 }), [], ({ word := 2 ^ 63 }),
      fromPartner_ok (by decide +kernel),
      rfl,
      by first | decide +kernel | rfl,
      by first | decide +kernel | rfl,
      by first | decide +kernel | rfl,
      by first | decide +kernel | rfl,
      by first | decide +kernel | rfl,
      by first | decide +kernel | rfl⟩,
    ⟨(pairUp 4 fun p => { p with peerAt := some 0 }), _, (2 * 128000), 0,
      rfl,
      by first | decide +kernel | rfl,
      by first | decide +kernel | rfl,
      by first | decide +kernel | rfl,
      by first | decide +kernel | rfl⟩⟩
theorem witness_PassphraseAndLock :
    (∃ (s : State) (b : State) (t : Nat) (pass : Bytes) (h : RecHdr), Accepts cmdSafeUnlock h (le 1 pass.length ++ le 3 0 ++ pass) (s.begin t) ∧ b = s.begin t) ∧
    (∃ (s : State) (b : State) (t : Nat) (h : RecHdr), Accepts cmdSafeLock h [] (s.begin t) ∧ b = s.begin t ∧ b.safe.unlocked = true) ∧
    (∃ (s : State) (b : State) (t : Nat) (salt : Bytes) (pass : Bytes) (h : RecHdr), Accepts cmdSafePassSet h (salt ++ le 1 pass.length ++ le 3 0 ++ pass) (s.begin t) ∧ b = s.begin t ∧ salt.length = 16) ∧
    (∃ (s : State) (b : State) (t : Nat), b = s.begin t ∧ b.safe.unlocked = true ∧ b.safe.unlockEnd ≤ b.now) ∧
    (∃ (s : State) (b : State) (t : Nat) (a : Nat), b = s.begin t ∧ b.evs.lockout = some a ∧ a ≤ b.now) := by
  exact ⟨⟨passUp, _, 0, pass0, h0,
      accepts_ok (by decide +kernel),
      rfl⟩,
    ⟨(passUp.onSafe fun x => { x with unlocked := true }), _, 0, h0,
      accepts_ok (by decide +kernel),
      rfl,
      by first | decide +kernel | rfl⟩,
    ⟨up, _, 0, (List.replicate 16 7), (List.replicate 64 0xFF), h0,
      accepts_ok (by decide +kernel),
      rfl,
      by first | decide +kernel | rfl⟩,
    ⟨(up.onSafe fun x => { x with unlocked := true, unlockEnd := 5 }), _, 5,
      rfl,
      by first | decide +kernel | rfl,
      by first | decide +kernel | rfl⟩,
    ⟨(up.onEvs fun e => { e with lockout := some 5 }), _, 5, 5,
      rfl,
      by first | decide +kernel | rfl,
      by first | decide +kernel | rfl⟩⟩
theorem witness_PowerStatesAndSoftResets :
    (∃ (s : State) (b : State) (t : Nat) (n : Nat) (ifc : Iface), b = s.begin t ∧ n < 4 ∧ b.viewed ifc.src 0x220004 = false ∧ b.pwrBusy = false ∧ b.mode.mode = 0 ∧ b.img.hostWait = false ∧ b.dozeLive = false) ∧
    (∃ (s : State) (b : State) (t : Nat), b = s.begin t ∧ b.pwr.st = 3) ∧
    (∃ (s : State) (b : State) (t : Nat) (ifc : Iface), b = s.begin t ∧ b.viewed ifc.src 0x22000C = false ∧ b.pwrBusy = false ∧ b.mode.mode = 0 ∧ b.img.hostWait = false) ∧
    (∃ (s : State) (b : State) (t : Nat) (ifc : Iface), b = s.begin t ∧ b.viewed ifc.src 0x22000C = false ∧ b.pwrBusy = false ∧ b.mode.mode = 0 ∧ b.img.hostWait = false ∧ b.anyTrip = false) ∧
    (∃ (s : State) (b : State) (t : Nat) (ifc : Iface), b = s.begin t ∧ b.viewed ifc.src 0x22000C = false ∧ b.pwrBusy = false ∧ b.mode.mode = 0 ∧ b.img.hostWait = false) ∧
    (∃ (s : State) (b : State) (t : Nat), b = s.begin t ∧ b.pwr.soft ≠ 0) := by
  exact ⟨⟨up, _, 0, 3, .spi,
      rfl,
      by first | decide +kernel | rfl,
      by first | decide +kernel | rfl,
      by first | decide +kernel | rfl,
      by first | decide +kernel | rfl,
      by first | decide +kernel | rfl,
      by first | decide +kernel | rfl⟩,
    ⟨(atPwr fun p => { p with st := 3 }), _, 0,
      rfl,
      by first | decide +kernel | rfl⟩,
    ⟨up, _, 0, .spi,
      rfl,
      by first | decide +kernel | rfl,
      by first | decide +kernel | rfl,
      by first | decide +kernel | rfl,
      by first | decide +kernel | rfl⟩,
    ⟨up, _, 0, .spi,
      rfl,
      by first | decide +kernel | rfl,
      by first | decide +kernel | rfl,
      by first | decide +kernel | rfl,
      by first | decide +kernel | rfl,
      by first | decide +kernel | rfl⟩,
    ⟨up, _, 0, .spi,
      rfl,
      by first | decide +kernel | rfl,
      by first | decide +kernel | rfl,
      by first | decide +kernel | rfl,
      by first | decide +kernel | rfl⟩,
    ⟨(atPwr fun p => { p with soft := 1 }), _, 0,
      rfl,
      by first | decide +kernel | rfl⟩⟩
theorem witness_ReferenceLossAndReturn :
    (∃ (s : State) (b : State) (t : Nat), b = s.begin t ∧ b.clk.st = 4 ∧ b.clk.onMesh = false) ∧
    (∃ (s : State) (b : State) (t : Nat), b = s.begin t ∧ b.clk.st = 5 ∧ b.clk.slewing = true ∧ b.clk.onMesh = false) ∧
    (∃ (s : State) (b : State) (t : Nat), b = s.begin t ∧ b.clk.onHeld = true ∧ b.clk.onMesh = true) ∧
    (∃ (s : State) (b : State) (t : Nat), b = s.begin t ∧ b.clk.st ≠ 4 ∧ b.clk.st ≠ 5 ∧ b.clk.onHeld = false) ∧
    (∃ (s : State) (b : State) (t : Nat) (cycles : Nat) (least : Nat) (clamp : Bool), b = s.begin t ∧ (b.clk.st = 4 ∨ b.clk.st = 5) ∧ b.mode.mode = 0 ∧ (clamp = true ∨ b.clk.sysUse.lol ≤ cycles ∧ min (4 * b.clk.sysUse.w) 1023 < least)) ∧
    (∃ (s : State) (b : State) (t : Nat) (cycles : Nat) (least : Nat), b = s.begin t ∧ (cycles < b.clk.sysUse.lol ∨ least ≤ min (4 * b.clk.sysUse.w) 1023)) ∧
    (∃ (s : State) (b : State) (t : Nat) (cycles : Nat) (least : Nat) (clamp : Bool), b = s.begin t ∧ (b.clk.st = 4 ∨ b.clk.st = 5) ∧ b.mode.mode ≠ 0 ∧ b.mode.mode ≠ 8 ∧ b.activeCovered = false ∧ (clamp = true ∨ b.clk.sysUse.lol ≤ cycles ∧ min (4 * b.clk.sysUse.w) 1023 < least)) ∧
    (∃ (s : State) (b : State) (t : Nat) (band : Nat), b = s.begin t ∧ b.clk.st = 5 ∧ b.clk.slewing = false ∧ b.clk.onMesh = false ∧ band = b.clk.refFreq) ∧
    (∃ (s : State) (b : State) (t : Nat) (band : Nat), b = s.begin t ∧ b.clk.st = 5 ∧ b.clk.slewing = false ∧ b.clk.onMesh = true ∧ band = b.clk.refFreq) ∧
    (∃ (s : State) (b : State) (t : Nat) (band : Nat), b = s.begin t ∧ b.clk.st = 5 ∧ b.clk.slewing = false ∧ band ≠ b.clk.refFreq ∧ b.mode.mode ≠ 0 ∧ b.img.hostWait = false) ∧
    (∃ (s : State) (b : State) (t : Nat) (err : Int), b = s.begin t ∧ b.clk.st = 5 ∧ b.clk.slewing = false ∧ b.clk.onMesh = true ∧ 256 < err.natAbs) ∧
    (∃ (s : State) (b : State) (t : Nat) (err : Int), b = s.begin t ∧ b.clk.st = 5 ∧ b.clk.slewing = false ∧ b.clk.onMesh = true ∧ 1 ≤ err.natAbs ∧ err.natAbs ≤ 256) ∧
    (∃ (s : State) (b : State) (t : Nat), b = s.begin t ∧ b.clk.st = 5 ∧ b.clk.slewing = true ∧ b.clk.started = true ∧ b.slewErr.natAbs ≤ 1) ∧
    (∃ (s : State) (b : State) (t : Nat), b = s.begin t ∧ b.clk.st = 5 ∧ b.clk.refChanged = true ∧ b.img.hostWait = true) ∧
    (∃ (s : State) (b : State) (t : Nat), b = s.begin t ∧ b.locked = true ∧ b.clk.onMesh = true) ∧
    (∃ (s : State) (b : State) (t : Nat), b = s.begin t ∧ b.clk.st = 4 ∧ b.inForce = true ∧ b.cfg.topo.timeMesh = true ∧ b.clk.onMesh = false ∧ b.mesh.timeTaken = true) := by
  exact ⟨⟨up, _, 0,
      rfl,
      by first | decide +kernel | rfl,
      by first | decide +kernel | rfl⟩,
    ⟨(clkUp fun x => { x with st := 5, slewing := true, holdErr := -3 }), _, 0,
      rfl,
      by first | decide +kernel | rfl,
      by first | decide +kernel | rfl,
      by first | decide +kernel | rfl⟩,
    ⟨(clkUp fun x => { x with st := 5, onHeld := true, onMesh := true }), _, 0,
      rfl,
      by first | decide +kernel | rfl,
      by first | decide +kernel | rfl⟩,
    ⟨(clkUp fun x => { x with st := 3 }), _, 0,
      rfl,
      by first | decide +kernel | rfl,
      by first | decide +kernel | rfl,
      by first | decide +kernel | rfl⟩,
    ⟨up, _, 0, 0, 0, true,
      rfl,
      by first | decide +kernel | rfl,
      by first | decide +kernel | rfl,
      by first | decide +kernel | rfl⟩,
    ⟨up, _, 0, 0, 0,
      rfl,
      by first | decide +kernel | rfl⟩,
    ⟨(up.onMode fun x => { x with mode := 1 }), _, 0, 0, 0, true,
      rfl,
      by first | decide +kernel | rfl,
      by first | decide +kernel | rfl,
      by first | decide +kernel | rfl,
      by first | decide +kernel | rfl,
      by first | decide +kernel | rfl⟩,
    ⟨(clkUp fun x => { x with st := 5 }), _, 0, 0,
      rfl,
      by first | decide +kernel | rfl,
      by first | decide +kernel | rfl,
      by first | decide +kernel | rfl,
      by first | decide +kernel | rfl⟩,
    ⟨(clkUp fun x => { x with st := 5, onMesh := true }), _, 0, 0,
      rfl,
      by first | decide +kernel | rfl,
      by first | decide +kernel | rfl,
      by first | decide +kernel | rfl,
      by first | decide +kernel | rfl⟩,
    ⟨((clkUp fun x => { x with st := 5 }).onMode fun x => { x with mode := 2 }), _, 0, 1,
      rfl,
      by first | decide +kernel | rfl,
      by first | decide +kernel | rfl,
      by first | decide +kernel | rfl,
      by first | decide +kernel | rfl,
      by first | decide +kernel | rfl⟩,
    ⟨(clkUp fun x => { x with st := 5, onMesh := true }), _, 0, -257,
      rfl,
      by first | decide +kernel | rfl,
      by first | decide +kernel | rfl,
      by first | decide +kernel | rfl,
      by first | decide +kernel | rfl⟩,
    ⟨(clkUp fun x => { x with st := 5, onMesh := true }), _, 0, 256,
      rfl,
      by first | decide +kernel | rfl,
      by first | decide +kernel | rfl,
      by first | decide +kernel | rfl,
      by first | decide +kernel | rfl,
      by first | decide +kernel | rfl⟩,
    ⟨(clkUp fun x => { x with st := 5, slewing := true, holdErr := -1 }), _, 0,
      rfl,
      by first | decide +kernel | rfl,
      by first | decide +kernel | rfl,
      by first | decide +kernel | rfl,
      by first | decide +kernel | rfl⟩,
    ⟨((clkUp fun x => { x with st := 5, refChanged := true }).onImg fun x => { x with hostWait := true }), _, 0,
      rfl,
      by first | decide +kernel | rfl,
      by first | decide +kernel | rfl,
      by first | decide +kernel | rfl⟩,
    ⟨(clkUp fun x => { x with onMesh := true }), _, 0,
      rfl,
      by first | decide +kernel | rfl,
      by first | decide +kernel | rfl⟩,
    ⟨((withDesc { desc0 with topo := { timeMesh := true } }).onMesh fun x => { x with timeOk := true, timeTaken := true }), _, 0,
      rfl,
      by first | decide +kernel | rfl,
      by first | decide +kernel | rfl,
      by first | decide +kernel | rfl,
      by first | decide +kernel | rfl,
      by first | decide +kernel | rfl⟩⟩
theorem witness_RegisterAccesses :
    (∃ (s : State) (b : State) (t : Nat) (off : Nat) (ifc : Iface) (r : Reg) (f : Nat → State → State), b = s.begin t ∧ off % 4 = 0 ∧ Serves ifc.src off r b ∧ b.standby = false ∧ r.wr = .rw f) ∧
    (∃ (s : State) (b : State) (t : Nat) (off : Nat) (ifc : Iface) (r : Reg), b = s.begin t ∧ off % 4 = 0 ∧ Serves ifc.src off r b ∧ b.standby = false ∧ r.wr = .ro) ∧
    (∃ (s : State) (b : State) (t : Nat) (off : Nat) (v : Nat) (ifc : Iface) (r : Reg) (m : Nat) (f : Nat → State → State), b = s.begin t ∧ off % 4 = 0 ∧ Serves ifc.src off r b ∧ b.standby = false ∧ r.wr = .part m f ∧ ((v % 2 ^ 32) ^^^ r.val) &&& m ≠ 0) ∧
    (∃ (s : State) (b : State) (t : Nat) (off : Nat) (ifc : Iface) (r : Reg) (vec : Option Nat) (m : Nat) (f : Nat → State → State), b = s.begin t ∧ off % 4 = 0 ∧ Serves ifc.src off r b ∧ b.standby = false ∧ r.wr = .clr vec m f) ∧
    (∃ (s : State) (b : State) (t : Nat) (off : Nat) (ifc : Iface) (r : Reg) (g : Nat → Nat → Nat → State → State), b = s.begin t ∧ off % 4 = 0 ∧ Serves ifc.src off r b ∧ b.standby = false ∧ r.wr = .lk g) ∧
    (∃ (s : State) (b : State) (t : Nat) (off : Nat) (ifc : Iface) (r : Reg), b = s.begin t ∧ off % 4 = 0 ∧ Serves ifc.src off r b ∧ r.narrow = none) ∧
    (∃ (s : State) (b : State) (t : Nat) (off : Nat) (ifc : Iface) (bytes : Bytes), b = s.begin t ∧ off < 0x20000 ∧ (ifc = .pcie ∧ State.barOk (0x380000 + off) bytes.length = true ∨ ifc = .spi ∨ ifc = .jtag) ∧ b.viewed ifc.src (0x380000 + off) = false ∧ b.pwr.warm = false ∧ b.domOn ifc.src (0x380000 + off) = true ∧ b.img.bufOpen = true) ∧
    (∃ (s : State) (b : State) (t : Nat) (off : Nat), b = s.begin t ∧ State.barOk off 4 = true ∧ off < 0x400000 ∧ b.viewed .directPcie off = true ∧ b.convUp s.mesh.viewNode = true) ∧
    (∃ (s : State) (b : State) (t : Nat) (off : Nat), b = s.begin t ∧ State.barOk off 4 = true ∧ off < 0x400000 ∧ b.viewed .directPcie off = true ∧ b.convUp s.mesh.viewNode = false) ∧
    (∃ (s : State) (b : State) (t : Nat) (bytes : Bytes) (r : Reg) (f : Nat → State → State), b = s.begin t ∧ bytes.length = 8 ∧ bytes.head? = some 0x02 ∧ ofBe (slice bytes 1 3) % 4 = 0 ∧ Serves .directSpi (ofBe (slice bytes 1 3)) r b ∧ b.standby = false ∧ r.wr = .rw f) ∧
    (∃ (s : State) (b : State) (t : Nat) (dr : Nat) (r : Reg), b = s.begin t ∧ at' b.pwr.good 0 true = true ∧ b.pwr.resetLow = false ∧ bits dr 63 62 = 1 ∧ Serves .directJtag (bits dr 53 32 * 4) r b ∧ r.narrow = none ∧ r.rd = none) ∧
    (∃ (s : State) (b : State) (t : Nat) (dr : Nat) (r : Reg) (f : Nat → State → State), b = s.begin t ∧ at' b.pwr.good 0 true = true ∧ b.pwr.resetLow = false ∧ bits dr 63 62 = 2 ∧ Serves .directJtag (bits dr 53 32 * 4) r b ∧ b.standby = false ∧ r.wr = .rw f) ∧
    (∃ (s : State) (b : State) (t : Nat), b = s.begin t) ∧
    (∃ (s : State) (b : State) (t : Nat) (h : RecHdr) (v : Word), Accepts cmdRegWrite h (le 4 0x1C000C ++ le 4 v.toNat) (s.begin t) ∧ b = s.begin t) ∧
    (∃ (s : State) (b : State) (t : Nat) (off : Nat) (h : RecHdr) (v : Word) (r : Reg), Accepts cmdRegWrite h (le 4 off ++ le 4 v.toNat) (s.begin t) ∧ b = s.begin t ∧ off < 2 ^ 32 ∧ off ≠ 0x220004 ∧ off ≠ 0x22000C ∧ ((∀ x j, ({ b with host := x, jnl := j } : State).regAt h.src off = some r))) := by
  exact ⟨⟨up, _, 0, 0x22001C, .spi, ({ val := 0, wr := .rw fun v => onPwr fun p => { p with dozeRx := v } }), (fun v => onPwr fun p => { p with dozeRx := v }),
      rfl,
      by first | decide +kernel | rfl,
      ⟨by decide +kernel, rfl, rfl, rfl, rfl⟩,
      by first | decide +kernel | rfl,
      by first | decide +kernel | rfl⟩,
    ⟨up, _, 0, 0, .spi, ({ val := 0x4128B110 }),
      rfl,
      by first | decide +kernel | rfl,
      ⟨by decide +kernel, rfl, rfl, rfl, rfl⟩,
      by first | decide +kernel | rfl,
      by first | decide +kernel | rfl⟩,
    ⟨up, _, 0, 0x061000, (2 ^ 24), .spi, ((up.regAt .directSpi 0x061000).get rfl), 0xFF000000, _,
      rfl,
      by first | decide +kernel | rfl,
      ⟨by decide +kernel, rfl, rfl, rfl, rfl⟩,
      by first | decide +kernel | rfl,
      by first | decide +kernel | rfl,
      by first | decide +kernel | rfl⟩,
    ⟨up, _, 0, 8, .spi, ((up.regAt .directSpi 8).get rfl), _, _, _,
      rfl,
      by first | decide +kernel | rfl,
      ⟨by decide +kernel, rfl, rfl, rfl, rfl⟩,
      by first | decide +kernel | rfl,
      by first | decide +kernel | rfl⟩,
    ⟨up, _, 0, 0x1C000C, .spi, ((up.regAt .directSpi 0x1C000C).get rfl), State.safeCtlPut,
      rfl,
      by first | decide +kernel | rfl,
      ⟨by decide +kernel, rfl, rfl, rfl, rfl⟩,
      by first | decide +kernel | rfl,
      by first | decide +kernel | rfl⟩,
    ⟨up, _, 0, 0, .jtag, ({ val := 0x4128B110 }),
      rfl,
      by first | decide +kernel | rfl,
      ⟨by decide +kernel, rfl, rfl, rfl, rfl⟩,
      by first | decide +kernel | rfl⟩,
    ⟨(up.onImg fun i => { i with bufOpen := true }), _, 0, 0x1FFFF, .jtag, [255],
      rfl,
      by first | decide +kernel | rfl,
      by first | decide +kernel | rfl,
      by first | decide +kernel | rfl,
      by first | decide +kernel | rfl,
      by first | decide +kernel | rfl,
      by first | decide +kernel | rfl⟩,
    ⟨(viewUp 1), _, 0, 0x2FFFFC,
      rfl,
      by first | decide +kernel | rfl,
      by first | decide +kernel | rfl,
      by first | decide +kernel | rfl,
      by first | decide +kernel | rfl⟩,
    ⟨(viewUp 2), _, 0, 0x2FFFFC,
      rfl,
      by first | decide +kernel | rfl,
      by first | decide +kernel | rfl,
      by first | decide +kernel | rfl,
      by first | decide +kernel | rfl⟩,
    ⟨up, _, 0, ([2, 0x22, 0, 0x1C, 255, 255, 255, 255]), ({ val := 0, wr := .rw fun v => onPwr fun p => { p with dozeRx := v } }), (fun v => onPwr fun p => { p with dozeRx := v }),
      rfl,
      by first | decide +kernel | rfl,
      by first | decide +kernel | rfl,
      by first | decide +kernel | rfl,
      ⟨by decide +kernel, rfl, rfl, rfl, rfl⟩,
      by first | decide +kernel | rfl,
      by first | decide +kernel | rfl⟩,
    ⟨up, _, 0, (2 ^ 62), ({ val := 0x4128B110 }),
      rfl,
      by first | decide +kernel | rfl,
      by first | decide +kernel | rfl,
      by first | decide +kernel | rfl,
      ⟨by decide +kernel, rfl, rfl, rfl, rfl⟩,
      by first | decide +kernel | rfl,
      by first | decide +kernel | rfl⟩,
    ⟨up, _, 0, (2 ^ 63 + 0x22001C / 4 * 2 ^ 32), ({ val := 0, wr := .rw fun v => onPwr fun p => { p with dozeRx := v } }), (fun v => onPwr fun p => { p with dozeRx := v }),
      rfl,
      by first | decide +kernel | rfl,
      by first | decide +kernel | rfl,
      by first | decide +kernel | rfl,
      ⟨by decide +kernel, rfl, rfl, rfl, rfl⟩,
      by first | decide +kernel | rfl,
      by first | decide +kernel | rfl⟩,
    ⟨up, _, 0,
      rfl⟩,
    ⟨(up.onSafe fun x => { x with unlocked := true, unlockSess := 32 }), _, 0, h0, 0xFFFFFFFF,
      accepts_ok (by decide +kernel),
      rfl⟩,
    ⟨up, _, 0, 0x22001C, h0, 0xFFFFFFFF, ({ val := 0, wr := .rw fun v => onPwr fun p => { p with dozeRx := v } }),
      accepts_ok (by decide +kernel),
      rfl,
      by first | decide +kernel | rfl,
      by first | decide +kernel | rfl,
      by first | decide +kernel | rfl,
      (fun x j => rfl)⟩⟩
theorem witness_RingsLeasesAndJournal :
    (∃ (s : State) (b : State) (t : Nat) (c : Nat), b = s.begin t ∧ b.pwr.warm = false ∧ b.pwr.dom.testBit 2 = true ∧ (b.ctx c).st = 1) ∧
    (∃ (s : State) (b : State) (t : Nat), b = s.begin t ∧ b.pwr.warm = false ∧ b.pwr.dom.testBit 2 = true) ∧
    (∃ (s : State) (b : State) (t : Nat) (c : Nat) (v : Nat), b = s.begin t ∧ b.pwr.warm = false ∧ b.pwr.dom.testBit 2 = true ∧ c < s.host.ctxs.length ∧ ((b.ctx c).st = 2 ∧ (b.ctx c).cqSize ≤ v ∧ ((b.ctx c).cqSize ≠ 0 ∨ v ≠ 0))) ∧
    (∃ (s : State) (b : State) (t : Nat) (c : Nat) (v : Nat), b = s.begin t ∧ b.pwr.warm = false ∧ b.pwr.dom.testBit 2 = true ∧ c < s.host.ctxs.length ∧ (b.ctx c).st = 2 ∧ v < (b.ctx c).cqSize) ∧
    (∃ (s : State) (b : State) (t : Nat), b = s.begin t ∧ b.pwr.warm = false ∧ b.pwr.dom.testBit 2 = true) ∧
    (∃ (s : State) (b : State) (t : Nat), b = s.begin t) ∧
    (∃ (s : State) (b : State) (t : Nat) (c : Nat), b = s.begin t ∧ ((b.ctx c).st = 1 ∨ (b.ctx c).st = 2) ∧ (b.ctx c).leaseEnd ≤ b.now) ∧
    (∃ (s : State) (b : State) (t : Nat) (c : Nat), b = s.begin t ∧ (b.ctx c).st = 3 ∧ (b.ctx c).parkEnd ≤ b.now) ∧
    (∃ (s : State) (b : State) (t : Nat) (i : Nat) (e : JEntry), b = s.begin t ∧ b.jnl.spillEn = true ∧ b.jnl.head = i + 1 ∧ b.jnl.spillDev = i % 2 ^ 32 ∧ b.jnl.ring.find? (fun x => x.index == i) = some e ∧ serialDiff 32 b.jnl.spillDev b.jnl.spillHost < 2 ^ b.jnl.spillLog) ∧
    (∃ (s : State) (b : State) (t : Nat) (ifc : Iface), b = s.begin t ∧ b.viewed ifc.src 0x020000 = false ∧ b.pwr.warm = false ∧ b.pwr.dom.testBit 2 = true) ∧
    (∃ (s : State) (b : State) (t : Nat) (ifc : Iface), b = s.begin t ∧ b.viewed ifc.src 0x020008 = false ∧ b.pwr.warm = false ∧ b.pwr.dom.testBit 2 = true) := by
  exact ⟨⟨up, _, 0, 0,
      rfl,
      by first | decide +kernel | rfl,
      by first | decide +kernel | rfl,
      by first | decide +kernel | rfl⟩,
    ⟨up, _, 0,
      rfl,
      by first | decide +kernel | rfl,
      by first | decide +kernel | rfl⟩,
    ⟨(atCtx 31 fun c => { c with st := 2, cqSize := 16 }), _, 0, 31, 16,
      rfl,
      by first | decide +kernel | rfl,
      by first | decide +kernel | rfl,
      by first | decide +kernel | rfl,
      by first | decide +kernel | rfl⟩,
    ⟨(atCtx 31 fun c => { c with st := 2, cqSize := 16 }), _, 0, 31, 15,
      rfl,
      by first | decide +kernel | rfl,
      by first | decide +kernel | rfl,
      by first | decide +kernel | rfl,
      by first | decide +kernel | rfl,
      by first | decide +kernel | rfl⟩,
    ⟨up, _, 0,
      rfl,
      by first | decide +kernel | rfl,
      by first | decide +kernel | rfl⟩,
    ⟨(atCtx 31 fun c => { c with st := 2 }), _, 0,
      rfl⟩,
    ⟨(atCtx 31 fun c => { c with st := 1, leaseEnd := 9 }), _, 9, 31,
      rfl,
      by first | decide +kernel | rfl,
      by first | decide +kernel | rfl⟩,
    ⟨(atCtx 31 fun c => { c with st := 3, parkEnd := 9 }), _, 9, 31,
      rfl,
      by first | decide +kernel | rfl,
      by first | decide +kernel | rfl⟩,
    ⟨(up.onJnl fun j => { j with spillEn := true, head := 1, ring := [{}] }), _, 0, 0, {},
      rfl,
      by first | decide +kernel | rfl,
      by first | decide +kernel | rfl,
      by first | decide +kernel | rfl,
      by first | decide +kernel | rfl,
      by first | decide +kernel | rfl⟩,
    ⟨up, _, 0, .jtag,
      rfl,
      by first | decide +kernel | rfl,
      by first | decide +kernel | rfl,
      by first | decide +kernel | rfl⟩,
    ⟨up, _, 0, .jtag,
      rfl,
      by first | decide +kernel | rfl,
      by first | decide +kernel | rfl,
      by first | decide +kernel | rfl⟩⟩
theorem witness_SafetyIsland :
    (∃ (s : State) (b : State) (t : Nat) (ch : Nat) (held : Nat) (high : Bool), b = s.begin t ∧ ch < 8 ∧ State.rc ((b.pairDecl (ch / 2)).filtMs * Config.ms) ≤ held ∧ b.pairUsed (ch / 2) = true ∧ ch / 2 < s.safe.pairs.length ∧ (at' (s.safe.sin.set ch high) (2 * (ch / 2)) false = false ∨ at' (s.safe.sin.set ch high) (2 * (ch / 2) + 1) false = (b.pairDecl (ch / 2)).anti) ∧ (b.safe.st = 2 ∨ b.safe.st = 3)) ∧
    (∃ (s : State) (b : State) (t : Nat) (ch : Nat) (held : Nat) (high : Bool), b = s.begin t ∧ ch < 8 ∧ State.rc ((b.pairDecl (ch / 2)).filtMs * Config.ms) ≤ held ∧ (b.pairUsed (ch / 2) = false ∨ b.safe.st = 0 ∨ b.safe.st = 1 ∨ b.safe.st = 4 ∨ ch / 2 < s.safe.pairs.length ∧ at' (s.safe.sin.set ch high) (2 * (ch / 2)) false = true ∧ at' (s.safe.sin.set ch high) (2 * (ch / 2) + 1) false ≠ (b.pairDecl (ch / 2)).anti)) ∧
    (∃ (s : State) (b : State) (t : Nat) (p : Nat) (a : Nat), b = s.begin t ∧ b.pairUsed p = true ∧ (b.pairS p).disAt = some a ∧ a + State.rc ((b.pairDecl p).discMs * Config.ms) ≤ b.now ∧ (b.safe.st = 1 ∨ b.safe.st = 2 ∨ b.safe.st = 3)) ∧
    (∃ (s : State) (b : State) (t : Nat) (held : Nat), b = s.begin t ∧ State.rc (20 * Config.ms) ≤ held ∧ b.safe.rst = false ∧ b.safe.rstFree = true ∧ b.safe.st = 1 ∧ b.pairsReady = true ∧ b.safe.vddBad = false) ∧
    (∃ (s : State) (b : State) (t : Nat) (held : Nat), b = s.begin t ∧ State.rc (20 * Config.ms) ≤ held ∧ b.safe.rst = false ∧ b.safe.rstFree = true ∧ ¬(b.safe.st = 1 ∧ b.pairsReady = true ∧ b.safe.vddBad = false)) ∧
    (∃ (s : State) (b : State) (t : Nat) (held : Nat), b = s.begin t ∧ State.rc (20 * Config.ms) ≤ held) ∧
    (∃ (s : State) (b : State) (t : Nat), b = s.begin t ∧ b.safe.rst = true ∧ b.safe.rstStuck = false ∧ b.safe.rstAt + State.rc (2 * Config.sec) ≤ b.now) ∧
    (∃ (s : State) (b : State) (t : Nat), b = s.begin t) ∧
    (∃ (s : State) (b : State) (t : Nat), b = s.begin t ∧ b.safe.st = 3 ∧ b.safe.testEn = true ∧ b.safe.pulse = none ∧ b.safe.soffA = true ∧ b.safe.soffB = true ∧ b.safe.testAt + State.rc (10 * Config.sec) ≤ b.now) ∧
    (∃ (s : State) (b : State) (t : Nat) (x : Bool), b = s.begin t ∧ b.safe.pulse = some x ∧ b.safe.testAt + State.rc (200 * Config.us) ≤ b.now) ∧
    (∃ (s : State) (b : State) (t : Nat), b = s.begin t ∧ b.safe.st ≠ 0) ∧
    (∃ (s : State) (b : State) (t : Nat) (d : SafetyDesc), b = s.begin t ∧ b.safe.st = 3 ∧ b.safe.desc = some d ∧ b.safe.tickAt + State.rc (d.liveMs * Config.ms) ≤ b.now) ∧
    (∃ (s : State) (b : State) (t : Nat) (x : Nat) (a : Nat), b = s.begin t ∧ b.safe.st ≠ 0 ∧ (100 * x < 130 * a ∨ 195 * a < 100 * x)) ∧
    (∃ (s : State) (b : State) (t : Nat), b = s.begin t) ∧
    (∃ (s : State) (b : State) (t : Nat), b = s.begin t ∧ b.safe.vddBad = true) := by
  exact ⟨⟨(isl 3 id), _, 0, 3, (400 * Config.sec), true,
      rfl,
      by first | decide +kernel | rfl,
      by first | decide +kernel | rfl,
      by first | decide +kernel | rfl,
      by first | decide +kernel | rfl,
      by first | decide +kernel | rfl,
      by first | decide +kernel | rfl⟩,
    ⟨(isl 4 id), _, 0, 3, (400 * Config.sec), true,
      rfl,
      by first | decide +kernel | rfl,
      by first | decide +kernel | rfl,
      by first | decide +kernel | rfl⟩,
    ⟨(isl 2 fun x => { x with pairs := modAt x.pairs 1 fun q => { q with disAt := some 0 } }), _, (400 * Config.ms), 1, 0,
      rfl,
      by first | decide +kernel | rfl,
      by first | decide +kernel | rfl,
      by first | decide +kernel | rfl,
      by first | decide +kernel | rfl⟩,
    ⟨((isl 1 fun x => { x with rstFree := true, pairs := modAt x.pairs 1 fun q => { q with startup := true } })), _, 0, (400 * Config.sec),
      rfl,
      by first | decide +kernel | rfl,
      by first | decide +kernel | rfl,
      by first | decide +kernel | rfl,
      by first | decide +kernel | rfl,
      by first | decide +kernel | rfl,
      by first | decide +kernel | rfl⟩,
    ⟨(isl 2 fun x => { x with rstFree := true }), _, 0, (400 * Config.sec),
      rfl,
      by first | decide +kernel | rfl,
      by first | decide +kernel | rfl,
      by first | decide +kernel | rfl,
      by first | decide +kernel | rfl⟩,
    ⟨(isl 2 id), _, 0, (400 * Config.sec),
      rfl,
      by first | decide +kernel | rfl⟩,
    ⟨(isl 1 fun x => { x with rst := true }), _, (40 * Config.sec),
      rfl,
      by first | decide +kernel | rfl,
      by first | decide +kernel | rfl,
      by first | decide +kernel | rfl⟩,
    ⟨(isl 2 id), _, 0,
      rfl⟩,
    ⟨(isl 3 fun x => { x with testEn := true, soffA := true, soffB := true }), _, (40 * Config.sec),
      rfl,
      by first | decide +kernel | rfl,
      by first | decide +kernel | rfl,
      by first | decide +kernel | rfl,
      by first | decide +kernel | rfl,
      by first | decide +kernel | rfl,
      by first | decide +kernel | rfl⟩,
    ⟨(isl 3 fun x => { x with pulse := some true }), _, (800 * Config.us), true,
      rfl,
      by first | decide +kernel | rfl,
      by first | decide +kernel | rfl⟩,
    ⟨(isl 1 id), _, 0,
      rfl,
      by first | decide +kernel | rfl⟩,
    ⟨(isl 3 id), _, (40 * Config.ms), ({ liveMs := 1, pairs := [{ kind := 1 }, { kind := 2, anti := true }] }),
      rfl,
      by first | decide +kernel | rfl,
      by first | decide +kernel | rfl,
      by first | decide +kernel | rfl⟩,
    ⟨(isl 1 id), _, 0, 129, 100,
      rfl,
      by first | decide +kernel | rfl,
      by first | decide +kernel | rfl⟩,
    ⟨(isl 4 id), _, 0,
      rfl⟩,
    ⟨(isl 0 fun x => { x with vddBad := true }), _, 0,
      rfl,
      by first | decide +kernel | rfl⟩⟩
theorem witness_SessionsAndTheirCommands :
    (∃ (s : State) (b : State) (t : Nat) (c : Nat) (r : Nat) (h : RecHdr), Accepts cmdSessionOpen h (le 1 c ++ le 1 r ++ le 2 0) (s.begin t) ∧ b = s.begin t ∧ c < 32 ∧ r < 2 ∧ c < s.host.ctxs.length) ∧
    (∃ (s : State) (b : State) (t : Nat) (h : RecHdr), Accepts cmdSessionClose h [] (s.begin t) ∧ b = s.begin t) ∧
    (∃ (s : State) (b : State) (t : Nat) (h : RecHdr), Hosted cmdKeepalive h [] (s.begin t) ∧ b = s.begin t) ∧
    (∃ (s : State) (b : State) (t : Nat) (q : Nat) (h : RecHdr), Accepts cmdResume h (le 4 q) (s.begin t) ∧ b = s.begin t) ∧
    (∃ (s : State) (b : State) (t : Nat) (h : RecHdr), Accepts cmdTakeControl h [] (s.begin t) ∧ b = s.begin t) ∧
    (∃ (s : State) (b : State) (t : Nat) (h : RecHdr), Accepts cmdReleaseControl h [] (s.begin t) ∧ b = s.begin t) := by
  exact ⟨⟨(up.onHost fun x => { x with ctrl := none }), _, 0, 31, 1, ({ src := .mbx0, sess := 0 }),
      accepts_ok (by decide +kernel),
      rfl,
      by first | decide +kernel | rfl,
      by first | decide +kernel | rfl,
      by first | decide +kernel | rfl⟩,
    ⟨up, _, 0, h0,
      accepts_ok (by decide +kernel),
      rfl⟩,
    ⟨up, _, 0, h0,
      hosted_ok (by decide +kernel),
      rfl⟩,
    ⟨(atCtx 0 fun c => { c with st := 3 }), _, 0, (2 ^ 32 - 1), h0,
      accepts_ok (by decide +kernel),
      rfl⟩,
    ⟨(up.onHost fun x => { x with ctrl := none }), _, 0, h0,
      accepts_ok (by decide +kernel),
      rfl⟩,
    ⟨up, _, 0, h0,
      accepts_ok (by decide +kernel),
      rfl⟩⟩
theorem witness_SuppliesAndResets :
    (∃ (s : State) (b : State) (t : Nat), b = s.begin t ∧ b.pwr.upDue = true ∧ b.pwr.por = false ∧ b.pwr.resetLow = false) ∧
    (∃ (s : State) (b : State) (t : Nat), b = s.begin t ∧ b.pwr.por = true ∧ b.pwr.resetLow = false ∧ b.supplies = true ∧ b.pwr.riseLate = false ∧ b.riseClosed = false ∧ b.pwr.goodAt + 2 * Config.ms ≤ b.now) ∧
    (∃ (s : State) (b : State) (t : Nat), b = s.begin t ∧ b.pwr.por = true ∧ b.riseClosed = true) ∧
    (∃ (s : State) (b : State) (t : Nat) (i : Nat), b = s.begin t ∧ at' b.pwr.good i true = false) ∧
    (∃ (s : State) (b : State) (t : Nat) (i : Nat), b = s.begin t ∧ at' b.pwr.good i false = true) ∧
    (∃ (s : State) (b : State) (t : Nat), b = s.begin t) ∧
    (∃ (s : State) (b : State) (t : Nat), b = s.begin t ∧ b.pwr.resetLow = true) ∧
    (∃ (s : State) (b : State) (t : Nat), b = s.begin t ∧ b.locked = true ∧ b.pwr.dom.testBit 3 = true ∧ b.img.fwRun = false ∧ b.pwr.fwFail = false ∧ b.img.fwSince = none) ∧
    (∃ (s : State) (b : State) (t : Nat) (ifc : Iface), b = s.begin t ∧ b.viewed ifc.src 0x220004 = false ∧ b.pwrBusy = false ∧ b.pwr.target < 4) ∧
    (∃ (s : State) (b : State) (t : Nat), b = s.begin t ∧ b.pwr.warm = true) ∧
    (∃ (s : State) (b : State) (t : Nat) (ifc : Iface), b = s.begin t ∧ b.viewed ifc.src 0x220004 = false ∧ b.pwrBusy = false ∧ b.pwr.target < 4 ∧ (b.mode.mode = 0 ∨ b.img.hostWait = true)) ∧
    (∃ (s : State) (b : State) (t : Nat) (a : Nat), b = s.begin t ∧ b.pwr.parked = true ∧ b.pwr.wakeAt = some a ∧ a ≤ b.now + b.pwr.wake * Config.sec / 10) ∧
    (∃ (s : State) (b : State) (t : Nat), b = s.begin t) ∧
    (∃ (s : State) (b : State) (t : Nat), b = s.begin t ∧ 2 ≤ b.bal.dieHotRun ∧ b.pwr.parked = false) ∧
    (∃ (s : State) (b : State) (t : Nat), b = s.begin t ∧ 2 ≤ b.bal.dieHotRun ∧ b.pwr.parked = true ∧ b.bal.dieShut = false) := by
  exact ⟨⟨State.reset, _, 0,
      rfl,
      by first | decide +kernel | rfl,
      by first | decide +kernel | rfl,
      by first | decide +kernel | rfl⟩,
    ⟨(atPwr fun p => { p with por := true }), _, (2 * Config.ms),
      rfl,
      by first | decide +kernel | rfl,
      by first | decide +kernel | rfl,
      by first | decide +kernel | rfl,
      by first | decide +kernel | rfl,
      by first | decide +kernel | rfl,
      by first | decide +kernel | rfl⟩,
    ⟨(atPwr fun p => { p with por := true, riseMet := false, good := p.good.set 7 false }), _, (100 * Config.ms),
      rfl,
      by first | decide +kernel | rfl,
      by first | decide +kernel | rfl⟩,
    ⟨(atPwr fun p => { p with riseMet := false, good := p.good.set 7 false }), _, 0, 7,
      rfl,
      by first | decide +kernel | rfl⟩,
    ⟨up, _, 0, 7,
      rfl,
      by first | decide +kernel | rfl⟩,
    ⟨up, _, 0,
      rfl⟩,
    ⟨(atPwr fun p => { p with resetLow := true }), _, 0,
      rfl,
      by first | decide +kernel | rfl⟩,
    ⟨up, _, 0,
      rfl,
      by first | decide +kernel | rfl,
      by first | decide +kernel | rfl,
      by first | decide +kernel | rfl,
      by first | decide +kernel | rfl,
      by first | decide +kernel | rfl⟩,
    ⟨up, _, 0, .jtag,
      rfl,
      by first | decide +kernel | rfl,
      by first | decide +kernel | rfl,
      by first | decide +kernel | rfl⟩,
    ⟨(atPwr fun p => { p with warm := true }), _, 0,
      rfl,
      by first | decide +kernel | rfl⟩,
    ⟨up, _, 0, .pcie,
      rfl,
      by first | decide +kernel | rfl,
      by first | decide +kernel | rfl,
      by first | decide +kernel | rfl,
      by first | decide +kernel | rfl⟩,
    ⟨(atPwr fun p => { p with parked := true, wakeAt := some 5, wake := 86400 }), _, 5, 5,
      rfl,
      by first | decide +kernel | rfl,
      by first | decide +kernel | rfl,
      by first | decide +kernel | rfl⟩,
    ⟨up, _, 0,
      rfl⟩,
    ⟨(up.onBal fun x => { x with dieHotRun := 2 }), _, 0,
      rfl,
      by first | decide +kernel | rfl,
      by first | decide +kernel | rfl⟩,
    ⟨((up.onBal fun x => { x with dieHotRun := 2 }).onPwr fun p => { p with parked := true }), _, 0,
      rfl,
      by first | decide +kernel | rfl,
      by first | decide +kernel | rfl,
      by first | decide +kernel | rfl⟩⟩
theorem witness_SyspllSearch :
    (∃ (s : State) (b : State) (t : Nat) (n : Nat), b = s.begin t ∧ b.pwr.dom.testBit 14 = true ∧ b.clk.st = 0 ∧ b.clk.refBad = false ∧ 920 ≤ n ∧ n ≤ 1140) ∧
    (∃ (s : State) (b : State) (t : Nat) (n : Nat), b = s.begin t ∧ b.pwr.dom.testBit 14 = true ∧ b.clk.st = 0 ∧ b.clk.refBad = false ∧ (n < 230 ∨ 285 < n ∧ n < 460 ∨ 570 < n ∧ n < 920 ∨ 1140 < n ∧ n < 1437 ∨ 1778 < n)) ∧
    (∃ (s : State) (b : State) (t : Nat) (n : Nat), b = s.begin t ∧ b.pwr.dom.testBit 14 = true ∧ b.clk.st = 0 ∧ b.clk.refBad = true ∧ b.clk.countAt + 1280000 ≤ b.now ∧ 1437 ≤ n ∧ n ≤ 1778) ∧
    (∃ (s : State) (b : State) (t : Nat), b = s.begin t ∧ b.clk.st = 1 ∧ b.clk.waiting = false ∧ 100 * b.clk.stepAt + 384 * State.refCycle b.clk.refFreq ≤ 100 * b.now) ∧
    (∃ (s : State) (b : State) (t : Nat), b = s.begin t ∧ b.clk.st = 2 ∧ b.clk.stepAt + 1920000 ≤ b.now ∧ 3 ≤ b.clk.fails) ∧
    (∃ (s : State) (b : State) (t : Nat), b = s.begin t ∧ b.clk.st = 2 ∧ b.clk.stepAt + 1920000 ≤ b.now ∧ b.clk.fails < 3) ∧
    (∃ (s : State) (b : State) (t : Nat), b = s.begin t ∧ b.clk.st = 1 ∧ b.clk.waiting = true ∧ b.clk.stepAt + 128000000 ≤ b.now) ∧
    (∃ (s : State) (b : State) (t : Nat) (cycles : Nat) (peak : Nat), b = s.begin t ∧ b.clk.st = 2 ∧ (cycles < b.clk.sysUse.n ∨ b.clk.sysUse.w < peak)) ∧
    (∃ (s : State) (b : State) (t : Nat) (cycles : Nat) (peak : Nat), b = s.begin t ∧ b.clk.st = 2 ∧ b.clk.sysUse.n ≤ cycles ∧ peak ≤ b.clk.sysUse.w ∧ 100 * b.clk.stepAt + cycles * State.refCycle b.clk.refFreq ≤ 100 * b.now) ∧
    (∃ (s : State) (b : State) (t : Nat), b = s.begin t ∧ b.clk.st = 3 ∧ b.clk.started = false) ∧
    (∃ (s : State) (b : State) (t : Nat), b = s.begin t ∧ b.clk.st = 3 ∧ b.clk.started = true) := by
  exact ⟨⟨(clkUp fun x => { x with st := 0 }), _, 0, 1140,
      rfl,
      by first | decide +kernel | rfl,
      by first | decide +kernel | rfl,
      by first | decide +kernel | rfl,
      by first | decide +kernel | rfl,
      by first | decide +kernel | rfl⟩,
    ⟨(clkUp fun x => { x with st := 0 }), _, 0, 1141,
      rfl,
      by first | decide +kernel | rfl,
      by first | decide +kernel | rfl,
      by first | decide +kernel | rfl,
      by first | decide +kernel | rfl⟩,
    ⟨(clkUp fun x => { x with st := 0, refBad := true }), _, 1280000, 1778,
      rfl,
      by first | decide +kernel | rfl,
      by first | decide +kernel | rfl,
      by first | decide +kernel | rfl,
      by first | decide +kernel | rfl,
      by first | decide +kernel | rfl,
      by first | decide +kernel | rfl⟩,
    ⟨(clkUp fun x => { x with st := 1 }), _, 10000000,
      rfl,
      by first | decide +kernel | rfl,
      by first | decide +kernel | rfl,
      by first | decide +kernel | rfl⟩,
    ⟨(clkUp fun x => { x with st := 2, fails := 3 }), _, 1920000,
      rfl,
      by first | decide +kernel | rfl,
      by first | decide +kernel | rfl,
      by first | decide +kernel | rfl⟩,
    ⟨(clkUp fun x => { x with st := 2, fails := 2 }), _, 1920000,
      rfl,
      by first | decide +kernel | rfl,
      by first | decide +kernel | rfl,
      by first | decide +kernel | rfl⟩,
    ⟨(clkUp fun x => { x with st := 1, waiting := true }), _, 128000000,
      rfl,
      by first | decide +kernel | rfl,
      by first | decide +kernel | rfl,
      by first | decide +kernel | rfl⟩,
    ⟨(clkUp fun x => { x with st := 2 }), _, 0, 0, 65536,
      rfl,
      by first | decide +kernel | rfl,
      by first | decide +kernel | rfl⟩,
    ⟨(clkUp fun x => { x with st := 2 }), _, 1000000000, 65536, 0,
      rfl,
      by first | decide +kernel | rfl,
      by first | decide +kernel | rfl,
      by first | decide +kernel | rfl,
      by first | decide +kernel | rfl⟩,
    ⟨(clkUp fun x => { x with st := 3, started := false }), _, 0,
      rfl,
      by first | decide +kernel | rfl,
      by first | decide +kernel | rfl⟩,
    ⟨(clkUp fun x => { x with st := 3 }), _, 0,
      rfl,
      by first | decide +kernel | rfl,
      by first | decide +kernel | rfl⟩⟩
theorem witness_SystemTimeAndOutputs :
    (∃ (s : State) (t : Nat) (time : Nat) (h : RecHdr), Accepts cmdClkTimeLoad h (le 8 time) (s.begin t) ∧ s.cfg.mesh.shape = 0 ∧ time < 2 ^ 64) ∧
    (∃ (s : State) (b : State) (t : Nat) (l : TLoad), b = s.begin t ∧ b.clk.load = some l ∧ l.at_ ≤ b.sysTime ∧ l.bad = 0 ∧ l.remote = true ∧ b.clk.started = true ∧ b.clk.slewing = false) ∧
    (∃ (s : State) (b : State) (t : Nat) (cycles : Nat) (peak : Nat), b = s.begin t ∧ b.clk.outSt = 1 ∧ b.locked = true ∧ b.clk.outUse.n ≤ cycles ∧ peak ≤ b.clk.outUse.w ∧ b.clk.outAt + 256 * (384 + cycles) ≤ b.now) ∧
    (∃ (s : State) (b : State) (t : Nat) (cycles : Nat) (least : Nat), b = s.begin t ∧ b.clk.outSt = 2 ∧ b.clk.outUse.lol ≤ cycles ∧ min (4 * b.clk.outUse.w) 1023 < least) ∧
    (∃ (s : State) (b : State) (t : Nat) (ifc : Iface) (v : Word), b = s.begin t ∧ Reaches ifc.src 0x040030 4 b ∧ 60 ≤ bits v.toNat 31 24 ∧ bits v.toNat 31 24 < 80) ∧
    (∃ (s : State) (b : State) (t : Nat) (n : Nat) (ifc : Iface) (v : Word), b = s.begin t ∧ Reaches ifc.src (0x040040 + 0x10 * n) 4 b ∧ n < s.clk.outs.length ∧ 8 ≤ bits v.toNat 11 0 ∧ bits v.toNat 11 0 ≤ 4000) ∧
    (∃ (s : State) (b : State) (t : Nat) (n : Nat) (ifc : Iface), b = s.begin t ∧ Reaches ifc.src (0x040044 + 0x10 * n) 4 b) ∧
    (∃ (s : State) (b : State) (t : Nat) (ifc : Iface), b = s.begin t ∧ Reaches ifc.src 0x040020 4 b) ∧
    (∃ (s : State) (b : State) (t : Nat) (g : Nat) (d : Bytes) (k : Nat), b = s.begin t ∧ g < 8 ∧ b.cfg.cal.trims.find? (State.trimTarget · == g) = some d ∧ b.inForce = true ∧ b.img.fwSt ≠ 3 ∧ ((b.dieBad (State.trimPrimary d) = false ∧ k = State.trimPrimary d ∨ b.dieBad (State.trimPrimary d) = true ∧ b.dieBad (State.trimAlternate d) = false ∧ k = State.trimAlternate d)) ∧ State.trim80 (State.trimPoints d) (at' b.bal.die k 0) % 80 = 0 ∧ ((g < 2 ∨ 6 ≤ g ∨ (at' b.adc.adcs (g - 2) {}).st ≠ 3))) ∧
    (∃ (s : State) (b : State) (t : Nat) (g : Nat) (d : Bytes), b = s.begin t ∧ g < 8 ∧ b.cfg.cal.trims.find? (State.trimTarget · == g) = some d ∧ b.inForce = true ∧ b.img.fwSt ≠ 3 ∧ b.dieBad (State.trimPrimary d) = true ∧ b.dieBad (State.trimAlternate d) = true) := by
  exact ⟨⟨up, 0, 128000000, h0,
      accepts_ok (by decide +kernel),
      by first | decide +kernel | rfl,
      by first | decide +kernel | rfl⟩,
    ⟨(clkUp fun x => { x with load := some { time := 2 ^ 64 - 1, at_ := 0, remote := true } }), _, 0, _,
      rfl,
      by first | decide +kernel | rfl,
      by first | decide +kernel | rfl,
      by first | decide +kernel | rfl,
      by first | decide +kernel | rfl,
      by first | decide +kernel | rfl,
      by first | decide +kernel | rfl⟩,
    ⟨(clkUp fun x => { x with outSt := 1 }), _, 100000000, 65536, 0,
      rfl,
      by first | decide +kernel | rfl,
      by first | decide +kernel | rfl,
      by first | decide +kernel | rfl,
      by first | decide +kernel | rfl,
      by first | decide +kernel | rfl⟩,
    ⟨(clkUp fun x => { x with outSt := 2 }), _, 0, 65536, 1024,
      rfl,
      by first | decide +kernel | rfl,
      by first | decide +kernel | rfl,
      by first | decide +kernel | rfl⟩,
    ⟨up, _, 0, .jtag, 0x4F000000,
      rfl,
      by constructor <;> decide +kernel,
      by first | decide +kernel | rfl,
      by first | decide +kernel | rfl⟩,
    ⟨up, _, 0, 3, .spi, 0x80000FA0,
      rfl,
      by constructor <;> decide +kernel,
      by first | decide +kernel | rfl,
      by first | decide +kernel | rfl,
      by first | decide +kernel | rfl⟩,
    ⟨up, _, 0, 3, .pcie,
      rfl,
      by constructor <;> decide +kernel⟩,
    ⟨up, _, 0, .pcie,
      rfl,
      by constructor <;> decide +kernel⟩,
    ⟨(withDesc { desc0 with cal := { trims := [7 :: List.replicate 63 0] } }), _, 0, 7, (7 :: List.replicate 63 0), 0,
      rfl,
      by first | decide +kernel | rfl,
      by first | decide +kernel | rfl,
      by first | decide +kernel | rfl,
      by first | decide +kernel | rfl,
      by first | decide +kernel | rfl,
      by first | decide +kernel | rfl,
      by first | decide +kernel | rfl⟩,
    ⟨((withDesc { desc0 with cal := { trims := [7 :: List.replicate 63 0] } }).onBal fun x => { x with dieFail := 255 }), _, 0, 7, (7 :: List.replicate 63 0),
      rfl,
      by first | decide +kernel | rfl,
      by first | decide +kernel | rfl,
      by first | decide +kernel | rfl,
      by first | decide +kernel | rfl,
      by first | decide +kernel | rfl,
      by first | decide +kernel | rfl⟩⟩
/-! General statements -/

theorem witness_RecordsInSequence :
    (∃ (c : Instr) (cmd : Cmd) (t : Nat) (h : RecHdr) (p : Bytes) (s v : State) (x : Ctx) (y : Word) (r : Refuse), Carries c cmd t h p ∧
      Arrives cmd h p (s.begin t) ∧ cmd.opcode ≠ 1 ∧ cmd.opcode ≠ 3 ∧ cmd.opcode ≠ 4 ∧ v = (s.begin t).recTaken cmd h p ∧
      x = v.ctx (State.ctxOf h.sess) ∧ y = crc32c (State.recBytes h cmd.opcode p) ∧ v.sessionCheck h cmd.opcode = some r) ∧
    (∃ (c : Instr) (cmd : Cmd) (t : Nat) (h : RecHdr) (p : Bytes) (s v w : State) (x : Ctx) (y : Word) (r : Refuse), Carries c cmd t h p ∧
      Arrives cmd h p (s.begin t) ∧ cmd.opcode ≠ 1 ∧ cmd.opcode ≠ 3 ∧ cmd.opcode ≠ 4 ∧ v = (s.begin t).recTaken cmd h p ∧
      x = v.ctx (State.ctxOf h.sess) ∧ y = crc32c (State.recBytes h cmd.opcode p) ∧ v.sessionCheck h cmd.opcode = none ∧
      serialDiff 32 h.seq x.e = 0 ∧
      w = (v.renew (State.ctxOf h.sess)).onCtx (State.ctxOf h.sess) (fun z => { z with e := (z.e + 1) % 2 ^ 32, consumed := z.consumed + 1 }) ∧
      h.node = w.node ∧ w.judge cmd h p (w.roleOk h cmd.opcode) = some r ∧ cmd.deny h r w = w) ∧
    (∃ (c : Instr) (cmd : Cmd) (t : Nat) (h : RecHdr) (p : Bytes) (s v : State) (x : Ctx) (y : Word) (k : Cached), Carries c cmd t h p ∧
      Arrives cmd h p (s.begin t) ∧ cmd.opcode ≠ 1 ∧ cmd.opcode ≠ 3 ∧ cmd.opcode ≠ 4 ∧ v = (s.begin t).recTaken cmd h p ∧
      x = v.ctx (State.ctxOf h.sess) ∧ y = crc32c (State.recBytes h cmd.opcode p) ∧ v.sessionCheck h cmd.opcode = none ∧
      1 ≤ serialDiff 32 x.e h.seq ∧ serialDiff 32 x.e h.seq ≤ min 256 x.consumed ∧ x.cache.find? (·.seq == h.seq) = some k ∧ k.crc = y) ∧
    (∃ (c : Instr) (cmd : Cmd) (t : Nat) (h : RecHdr) (p : Bytes) (s v : State) (x : Ctx) (y : Word) (k : Cached), Carries c cmd t h p ∧
      Arrives cmd h p (s.begin t) ∧ cmd.opcode ≠ 1 ∧ cmd.opcode ≠ 3 ∧ cmd.opcode ≠ 4 ∧ v = (s.begin t).recTaken cmd h p ∧
      x = v.ctx (State.ctxOf h.sess) ∧ y = crc32c (State.recBytes h cmd.opcode p) ∧ v.sessionCheck h cmd.opcode = none ∧
      1 ≤ serialDiff 32 x.e h.seq ∧ serialDiff 32 x.e h.seq ≤ min 256 x.consumed ∧ x.cache.find? (·.seq == h.seq) = some k ∧ k.crc ≠ y) ∧
    (∃ (c : Instr) (cmd : Cmd) (t : Nat) (h : RecHdr) (p : Bytes) (s v : State) (x : Ctx) (y : Word) (o : OpenCmd), Carries c cmd t h p ∧
      Arrives cmd h p (s.begin t) ∧ cmd.opcode ≠ 1 ∧ cmd.opcode ≠ 3 ∧ cmd.opcode ≠ 4 ∧ v = (s.begin t).recTaken cmd h p ∧
      x = v.ctx (State.ctxOf h.sess) ∧ y = crc32c (State.recBytes h cmd.opcode p) ∧ v.sessionCheck h cmd.opcode = none ∧
      1 ≤ serialDiff 32 x.e h.seq ∧ serialDiff 32 x.e h.seq ≤ min 256 x.consumed ∧ x.cache.find? (·.seq == h.seq) = none ∧
      v.host.opens.find? (fun z => z.h.sess == h.sess && z.h.seq == h.seq && z.kind != 9) = some o ∧ o.crc = y) ∧
    (∃ (c : Instr) (cmd : Cmd) (t : Nat) (h : RecHdr) (p : Bytes) (s v : State) (x : Ctx) (y : Word) (o : OpenCmd), Carries c cmd t h p ∧
      Arrives cmd h p (s.begin t) ∧ cmd.opcode ≠ 1 ∧ cmd.opcode ≠ 3 ∧ cmd.opcode ≠ 4 ∧ v = (s.begin t).recTaken cmd h p ∧
      x = v.ctx (State.ctxOf h.sess) ∧ y = crc32c (State.recBytes h cmd.opcode p) ∧ v.sessionCheck h cmd.opcode = none ∧
      1 ≤ serialDiff 32 x.e h.seq ∧ serialDiff 32 x.e h.seq ≤ min 256 x.consumed ∧ x.cache.find? (·.seq == h.seq) = none ∧
      v.host.opens.find? (fun z => z.h.sess == h.sess && z.h.seq == h.seq && z.kind != 9) = some o ∧ o.crc ≠ y) ∧
    (∃ (c : Instr) (cmd : Cmd) (t : Nat) (h : RecHdr) (p : Bytes) (s v : State) (x : Ctx) (y : Word), Carries c cmd t h p ∧
      Arrives cmd h p (s.begin t) ∧ cmd.opcode ≠ 1 ∧ cmd.opcode ≠ 3 ∧ cmd.opcode ≠ 4 ∧ v = (s.begin t).recTaken cmd h p ∧
      x = v.ctx (State.ctxOf h.sess) ∧ y = crc32c (State.recBytes h cmd.opcode p) ∧ v.sessionCheck h cmd.opcode = none ∧
      ¬(1 ≤ serialDiff 32 x.e h.seq ∧ serialDiff 32 x.e h.seq ≤ min 256 x.consumed) ∧ 1 ≤ serialDiff 32 h.seq x.e ∧
      serialDiff 32 h.seq x.e ≤ 2 ^ 31 - 1) ∧
    (∃ (c : Instr) (cmd : Cmd) (t : Nat) (h : RecHdr) (p : Bytes) (s v : State) (x : Ctx) (y : Word), Carries c cmd t h p ∧
      Arrives cmd h p (s.begin t) ∧ cmd.opcode ≠ 1 ∧ cmd.opcode ≠ 3 ∧ cmd.opcode ≠ 4 ∧ v = (s.begin t).recTaken cmd h p ∧
      x = v.ctx (State.ctxOf h.sess) ∧ y = crc32c (State.recBytes h cmd.opcode p) ∧ v.sessionCheck h cmd.opcode = none ∧
      ¬(1 ≤ serialDiff 32 x.e h.seq ∧ serialDiff 32 x.e h.seq ≤ min 256 x.consumed) ∧ 1 ≤ serialDiff 32 h.seq x.e ∧
      2 ^ 31 ≤ serialDiff 32 h.seq x.e) := by
  exact ⟨
    ⟨.safeLock 0 { src := .mbx0, sess := 64 }, cmdSafeLock, 0, { src := .mbx0, sess := 64 }, [], up, _, _, _, { code := 3, spoil := 1 }, fun _ => rfl,
      arrives_ok (by decide +kernel), by decide, by decide, by decide, rfl, rfl, rfl, by decide +kernel⟩,
    ⟨.pairFailback 0 h0 1, cmdPairFailback, 0, h0, le 1 1 ++ le 3 0, up, _, _, _, _, .block 1, fun _ => rfl,
      arrives_ok (by decide +kernel), by decide, by decide, by decide, rfl, rfl, rfl, by decide +kernel, by decide +kernel, rfl, by decide +kernel, by decide +kernel, rfl⟩,
    ⟨.safeLock 0 h0, cmdSafeLock, 0, h0, [], seqUp 1 (crc32c (State.recBytes h0 0x0702 [])), _, _, _, { seq := 0, crc := crc32c (State.recBytes h0 0x0702 []), cpl := {} }, fun _ => rfl,
      arrives_ok (by decide +kernel), by decide, by decide, by decide, rfl, rfl, rfl, by decide +kernel, by decide +kernel, by decide +kernel, by decide +kernel, by decide +kernel⟩,
    ⟨.safeLock 0 h0, cmdSafeLock, 0, h0, [], seqUp 256 0, _, _, _, { seq := 0, crc := 0, cpl := {} }, fun _ => rfl,
      arrives_ok (by decide +kernel), by decide, by decide, by decide, rfl, rfl, rfl, by decide +kernel, by decide +kernel, by decide +kernel, by decide +kernel, by decide +kernel⟩,
    ⟨.safeLock 0 h1, cmdSafeLock, 0, h1, [], waitUp (crc32c (State.recBytes h1 0x0702 [])), _, _, _, wait0 (crc32c (State.recBytes h1 0x0702 [])), fun _ => rfl,
      arrives_ok (by decide +kernel), by decide, by decide, by decide, rfl, rfl, rfl, by decide +kernel, by decide +kernel, by decide +kernel, by decide +kernel, by decide +kernel, by decide +kernel⟩,
    ⟨.safeLock 0 h1, cmdSafeLock, 0, h1, [], waitUp (0), _, _, _, wait0 (0), fun _ => rfl,
      arrives_ok (by decide +kernel), by decide, by decide, by decide, rfl, rfl, rfl, by decide +kernel, by decide +kernel, by decide +kernel, by decide +kernel, by decide +kernel, by decide +kernel⟩,
    ⟨.safeLock 0 hGap, cmdSafeLock, 0, hGap, [], up, _, _, _, fun _ => rfl,
      arrives_ok (by decide +kernel), by decide, by decide, by decide, rfl, rfl, rfl, by decide +kernel, by decide +kernel, by decide +kernel, by decide +kernel⟩,
    ⟨.safeLock 0 hStale, cmdSafeLock, 0, hStale, [], up, _, _, _, fun _ => rfl,
      arrives_ok (by decide +kernel), by decide, by decide, by decide, rfl, rfl, rfl, by decide +kernel, by decide +kernel, by decide +kernel, by decide +kernel⟩⟩
theorem witness_StepRunsTheFrontCommand :
    ∃ (c : Instr) (rest : List Instr) (s : State), s.pending = c :: rest :=
  ⟨.sampleLatch 0, [.benchStart 0], { up with pending := [.sampleLatch 0, .benchStart 0] }, rfl⟩
theorem witness_EmptyQueueIdles :
    (∃ (s : State) (p : Nat), s.pending = [] ∧ p < 4 ∧ p < s.mesh.ports.length ∧ s.portSends p = false) ∧
    (∃ (s : State) (p : Nat), s.pending = [] ∧ p < 4 ∧ p < s.mesh.ports.length ∧ s.portSends p = true ∧
      nextFrame (at' s.mesh.ports p {}).queue = none) ∧
    (∃ (s : State) (p : Nat) (f : MFrame), s.pending = [] ∧ p < 4 ∧ p < s.mesh.ports.length ∧ s.portSends p = true ∧
      nextFrame (at' s.mesh.ports p {}).queue = some f) ∧
    (∃ s : State, s.pending = [] ∧ ∀ p < 4, (at' s.mesh.ports p {}).queue = []) :=
  ⟨⟨up, 3, rfl, by decide, by decide +kernel, by decide +kernel⟩, ⟨port0 up, 0, rfl, by decide, by decide +kernel, by decide +kernel, by decide +kernel⟩,
   ⟨port0 (up.onMesh fun m => { m with ports := modAt m.ports 0 fun x => { x with queue := [ack0] } }), 0, ack0, rfl, by decide, by decide +kernel,
     by decide +kernel, by decide +kernel⟩, ⟨up, rfl, by decide +kernel⟩⟩
theorem witness_KeyFusesAreKept : ∃ s u : State, s.keyed = true ∧ step s = .next u ∧ ∃ k, s.sys.fused = some k :=
  ⟨up.onSys fun y => { y with fused := some [] }, up.onSys fun y => { y with fused := some [] }, rfl, rfl, [], rfl⟩
theorem witness_PeriodNumbers : ∃ (s : State) (k : Nat), 0 < s.kF ∧ s.sysTime - s.inPer = k * (16 * s.kF) :=
  ⟨up.begin 128001, 1, by decide +kernel, by decide +kernel⟩
theorem witness_ImageIdRegister :
    ∃ (s b : State) (t : Nat) (ifc : Iface), b = s.begin t ∧ b.viewed ifc.src 0x240008 = false ∧ b.pwr.warm = false ∧
      b.domOn ifc.src 0x240008 = true ∧ b.standby = false ∧ b.inForce = true :=
  ⟨up, _, 0, .jtag, rfl, rfl, rfl, by decide +kernel, by decide +kernel, by decide +kernel⟩
theorem witness_KeepaliveIsAProbe : ∃ (s v : State) (t : Nat) (h : RecHdr), Hosted cmdKeepalive h [] (s.begin t) ∧
    v = (s.begin t).recTaken cmdKeepalive h [] := ⟨up, _, 0, hStale, hosted_ok (by decide +kernel), rfl⟩
theorem witness_ResumedAsObserver : ∃ (s : State) (t q c : Nat) (h : RecHdr), Accepts cmdResume h (le 4 q) (s.begin t) ∧ s.host.ctrl = some c ∧
    c ≠ State.ctxOf h.sess :=
  ⟨(atCtx 0 fun c => { c with st := 3 }).onHost fun x => { x with ctrl := some 31 }, 0, 2 ^ 32 - 1, 31, h0, accepts_ok (by decide +kernel), rfl, by decide⟩
theorem witness_HostLossPolicyStays :
    (∃ (s : State) (t c r : Nat) (h : RecHdr), Accepts cmdSessionOpen h (le 1 c ++ le 1 r ++ le 2 0) (s.begin t) ∧ s.modeQ.lossSched = [0]) ∧
    (∃ (s : State) (t q : Nat) (h : RecHdr), Accepts cmdResume h (le 4 q) (s.begin t) ∧ s.modeQ.lossSched = [0]) ∧
    (∃ (s : State) (t : Nat) (h : RecHdr), Accepts cmdTakeControl h [] (s.begin t) ∧ s.modeQ.lossSched = [0]) :=
  ⟨⟨(up.onModeQ fun m => { m with lossSched := [0] }).onHost fun x => { x with ctrl := none }, 0, 31, 1, { src := .mbx0, sess := 0 }, accepts_ok (by decide +kernel), rfl⟩,
   ⟨(atCtx 0 fun c => { c with st := 3 }).onModeQ fun m => { m with lossSched := [0] }, 0, 2 ^ 32 - 1, h0, accepts_ok (by decide +kernel), rfl⟩,
   ⟨(up.onHost fun x => { x with ctrl := none }).onModeQ fun m => { m with lossSched := [0] }, 0, h0, accepts_ok (by decide +kernel), rfl⟩⟩
theorem witness_ControlRoleRequired :
    ∃ (c : Instr) (cmd : Cmd) (t : Nat) (h : RecHdr) (p : Bytes) (s v w : State) (x : Ctx), Carries c cmd t h p ∧ Arrives cmd h p (s.begin t) ∧
      1 ≤ cmd.opcode / 256 ∧ cmd.opcode / 256 ≤ 11 ∧ v = (s.begin t).recTaken cmd h p ∧ v.sessionCheck h cmd.opcode = none ∧
      x = v.ctx (State.ctxOf h.sess) ∧ serialDiff 32 h.seq x.e = 0 ∧ v.host.ctrl ≠ some (State.ctxOf h.sess) ∧
      w = (v.renew (State.ctxOf h.sess)).onCtx (State.ctxOf h.sess) (fun z => { z with e := (z.e + 1) % 2 ^ 32, consumed := z.consumed + 1 }) ∧
      cmd.deny h { code := 0x0A, spoil := w.ctrlSess } w = w :=
  ⟨.safeLock 0 h0, cmdSafeLock, 0, h0, [], up.onHost fun x => { x with ctrl := some 31 }, _, _, _, fun _ => rfl, arrives_ok (by decide +kernel),
    by decide, by decide, rfl, by decide +kernel, rfl, by decide +kernel, by decide +kernel, rfl, rfl⟩
theorem witness_SessionsOnlyOnTheHead :
    ∃ (c : Instr) (cmd : Cmd) (t : Nat) (h : RecHdr) (p : Bytes) (s v : State), Carries c cmd t h p ∧ Arrives cmd h p (s.begin t) ∧
      (cmd.opcode = 1 ∨ h.src = .mbx0 ∨ h.src = .mbx1) ∧ v = (s.begin t).recTaken cmd h p ∧ v.node ≠ 0 :=
  ⟨.safeLock 0 h0, cmdSafeLock, 0, h0, [], meshUp dM1 id, _, fun _ => rfl, arrives_ok (by decide +kernel), by decide, rfl, by decide +kernel⟩
theorem witness_FullCompletionRing :
    ∃ (c : Instr) (cmd : Cmd) (t : Nat) (h : RecHdr) (p : Bytes) (s : State), Carries c cmd t h p ∧ h.src = .ring ∧
      State.cqFull (s.ctx h.ring) = true :=
  ⟨.safeLock 0 { h0 with src := .ring, ring := 31 }, cmdSafeLock, 0, { h0 with src := .ring, ring := 31 }, [], atCtx 31 fun c => { c with st := 2, cqSize := 16, cqTail := 15 }, fun _ => rfl,
    rfl, by decide +kernel⟩
/-- A header with every field at the end of its range. -/
def wideHdr : MHdr := { typ := 255, dst := 255, src := 255, path := true, mirror := true, hops := 15, epoch := 2 ^ 16 - 1, seq := 2 ^ 32 - 1, word := 2 ^ 32 - 1 }
theorem witness_LinesAreReadBack :
    (∃ (pre typ c period epoch n : Nat) (pay : Bytes), typ < 8 ∧ c < 128 ∧ period < 2 ^ 32 ∧ epoch < 2 ^ 16 ∧ n < 64 ∧ pay.length = 8 * n ∧
      NoFalseMarker pre (cellBlocks typ c period epoch pay)) ∧
    (∃ (pe po crc n : Nat) (h : MHdr) (pay : Bytes), HeaderInFields h ∧ n < 2 ^ 16 ∧ pay.length = 16 * n ∧ crc < 2 ^ 32 ∧
      NoFalseMarker pe (evenHalf (meshBlocks h pay crc)) ∧ NoFalseMarker po (oddHalf (meshBlocks h pay crc))) :=
  ⟨⟨2 ^ 58 - 1, 7, 127, 2 ^ 32 - 1, 2 ^ 16 - 1, 20, le 160 0, by decide, by decide, by decide, by decide, by decide, by decide +kernel,
      by unfold NoFalseMarker; exact (by decide +kernel)⟩,
   ⟨2 ^ 58 - 1, 0, 2 ^ 32 - 1, 1, wideHdr, le 16 0, by constructor <;> decide, by decide, by decide +kernel, by decide,
      by unfold NoFalseMarker; decide +kernel, by unfold NoFalseMarker; decide +kernel⟩⟩

end Sys2Proof.Machine.Tests
end

/-! PROOFS. What a row's command gives, from the parts its meaning may touch. -/
namespace Sys2Proof.Machine
open State

/-- A command that takes effect at its instant gives what its effect gives, within the parts that the command may touch. -/
theorem Goes.givesRun {c : Instr} {s : State} {t m : Nat} {l : List Part} {f : State → State} {F : State → Prop} (h : Goes m s (exec c s))
    (e : exec c s = .next (s.run t f)) (k : m ||| maskOfParts (.now :: .out :: l) = maskOfParts (.now :: .out :: l))
    (hF : ∀ a p q, F (noteSets a (finish p q (f (s.begin t))))) : Gives c s l F :=
  h.gives k fun u hu => by
    rw [e] at hu
    cases hu
    exact hF _ _ _
/-- The same for one that acts where its condition holds. -/
theorem Goes.givesIf {c : Instr} {s : State} {t m : Nat} {l : List Part} {cond : State → Bool} {f : State → State} {F : State → Prop}
    (h : Goes m s (exec c s)) (e : exec c s = .next (s.runIf t cond f)) (hc : cond (s.begin t) = true)
    (k : m ||| maskOfParts (.now :: .out :: l) = maskOfParts (.now :: .out :: l))
    (hF : ∀ a p q, F (noteSets a (finish p q (f (s.begin t))))) : Gives c s l F :=
  h.givesRun (e.trans (by rw [runIf_of _ _ _ _ hc])) k hF


/-! ## Fields of a payload (R11) -/

theorem field_le_of_lt {n v : Nat} {r : Bytes} (h : v < 256 ^ n) : field (le n v ++ r) 0 n = v := (field_le n v r).trans (Nat.mod_eq_of_lt h)
/-- The fields of a payload that names a group or a loop, a first index and words. -/
theorem stageFields {g o : Nat} {v : List Word} (hg : g < 256) (ho : o < 65536) :
    field (le 1 g ++ le 1 0 ++ le 2 o ++ v.flatMap fun w => le 4 w.toNat) 0 1 = g ∧
    field (le 1 g ++ le 1 0 ++ le 2 o ++ v.flatMap fun w => le 4 w.toNat) 2 2 = o ∧
    payWords (le 1 g ++ le 1 0 ++ le 2 o ++ v.flatMap fun w => le 4 w.toNat) 4 = v := by
  refine ⟨?_, ?_, by simpa using payWords_eq (le 1 g ++ le 1 0 ++ le 2 o) v⟩
  · rw [List.append_assoc, List.append_assoc, field_le_of_lt hg]
  · rw [List.append_assoc, List.append_assoc, field_skip _ _ _ _ _ (by decide), field_skip _ _ _ _ _ (by decide)]
    exact field_le_of_lt ho

end Sys2Proof.Machine

/-! PROOFS. The period: its boundaries and its number (R33). -/
namespace Sys2Proof.Machine
namespace State
variable {s : State}

theorem tick_pos (h : 0 < s.kF) : 0 < s.tick := Nat.mul_pos (by decide) h
/-- The instant at which the period in progress began is its number, unwrapped, times the period's ticks. -/
theorem sysTime_sub_inPer : s.sysTime - s.inPer = s.sysTime / s.tick * s.tick := by
  have h : s.tick * (s.sysTime / s.tick) + s.inPer = s.sysTime := Nat.div_add_mod _ _
  rw [Nat.mul_comm]
  omega
theorem inPer_eq_zero_iff : s.inPer = 0 ↔ ∃ k, s.sysTime = k * s.tick := by
  rw [← dvd_iff_exists_eq_mul_left, Nat.dvd_iff_mod_eq_zero]
  rfl
/-- The period that begins at k periods is numbered k modulo 2^32. -/
theorem per_of_boundary {k : Nat} (ht : 0 < s.tick) (h : s.sysTime - s.inPer = k * s.tick) : s.per = k % 2 ^ 32 := by
  rw [sysTime_sub_inPer] at h
  exact congrArg (· % 2 ^ 32) (Nat.eq_of_mul_eq_mul_right ht h)
end State

/-- Settles O15: a boundary is a multiple of the period's ticks, and the number is the quotient modulo 2^32. -/
theorem periodNumbers : Obligations.PeriodNumbers := fun _ h =>
  ⟨State.inPer_eq_zero_iff, fun _ => State.per_of_boundary (State.tick_pos h), rfl⟩

end Sys2Proof.Machine

/-! PROOFS. Supplies, resets, firmware boot, PARK wake and die shutdown (R24, R398, R647 to R656, R661). -/
namespace Sys2Proof.Machine
open State

/-! ## Supplies and power-on resets (R647 to R651, R666) -/

theorem powerOnReset_powersUp (s b : State) (t : Nat) (hb : b = s.begin t) (hd : b.pwr.upDue = true) (hp : b.pwr.por = false) (hr : b.pwr.resetLow = false) :
    Gives (.powerOnReset t) s [.pwr, .jnl, .evs] fun u => u.evs = { s.evs with
      boot := (s.evs.boot + 1) % 2 ^ 32 } ∧
      u.jnl.next = s.jnl.next + 1 ∧ u.pwr = { s.pwr with
      upDue := false, dom := 0xC13F } := by
  subst hb
  refine execPowerOnReset_goes.givesIf rfl (by simp only [hd, hp, hr]; rfl) rfl fun a p q => ?_
  simp only [noteSets_evs, finish_evs, noteSets_jnl, finish_jnl, noteSets_pwr, finish_pwr]
  exact ⟨rfl, jEvent_next, rfl⟩

theorem porReleaseTimer_releases (s b : State) (t : Nat) (m : Bool) (hb : b = s.begin t) (hp : b.pwr.por = true) (hr : b.pwr.resetLow = false)
    (hs : b.supplies = true) (hl : b.pwr.riseLate = false) (hc : b.riseClosed = false) (hg : b.pwr.goodAt + 2 * Config.ms ≤ b.now) :
    Gives (.porReleaseTimer t m) s [.pwr] fun u => u.pwr = { s.pwr with
      por := false, upDue := true, memberSel := m } := by
  subst hb
  exact execPorReleaseTimer_goes.givesIf rfl (by simp only [hp, hr, hs, hl, hc, hg]; rfl) rfl fun _ _ _ => by simp

theorem riseWindowExpiry_late (s b : State) (t : Nat) (hb : b = s.begin t) (hp : b.pwr.por = true) (hc : b.riseClosed = true) :
    Gives (.riseWindowExpiry t) s [.pwr] fun u => u.pwr = { s.pwr with
      riseLate := true } := by
  subst hb
  exact execRiseWindowExpiry_goes.givesIf rfl (by simp only [hp, hc]; rfl) rfl fun _ _ _ => by simp

theorem supplyRise_counts (s b : State) (t i : Nat) (hb : b = s.begin t) (hg : at' b.pwr.good i true = false) :
    Gives (.supplyRise t i) s [.pwr] fun u => u.pwr.good = s.pwr.good.set i true ∧ u.pwr.goodAt = b.now ∧
      ((∀ x ∈ s.pwr.good, x = false) → u.pwr.riseAt = b.now ∧ u.pwr.riseLate = false) ∧
      ((∃ x ∈ s.pwr.good, x = true) → u.pwr.riseAt = s.pwr.riseAt ∧ u.pwr.riseLate = s.pwr.riseLate ∧ (s.pwr.riseMet = true → u.pwr.riseMet = true)) ∧
      ((∀ x ∈ u.pwr.good, x = true) → b.now ≤ u.pwr.riseAt + 100 * Config.ms → u.pwr.riseMet = true) := by
  subst hb
  refine execSupplyRise_goes.givesIf rfl (by simp only [hg]; rfl) rfl fun a p q => ?_
  simp only [noteSets_pwr, finish_pwr, onPwr_pwr, begin_pwr, begin_now]
  have hfirst : (∀ x ∈ s.pwr.good, x = false) → s.pwr.good.all (! ·) = true := fun h => by simpa [List.all_eq_true] using h
  have hlater : (∃ x ∈ s.pwr.good, x = true) → s.pwr.good.all (! ·) = false := fun ⟨x, hx, h⟩ =>
    List.all_eq_false.mpr ⟨x, hx, by simp [h]⟩
  refine ⟨trivial, trivial, fun h => ?_, fun h => ?_, fun h hn => ?_⟩
  · simp [hfirst h]
  · simp only [hlater h]
    exact ⟨rfl, by simp, fun hm => by simp [hm]⟩
  · have hall : (s.pwr.good.set i true).all id = true := List.all_eq_true.mpr h
    simp only [hall, decide_eq_true hn, Bool.and_self, Bool.or_true]

theorem supplyFall_resets (s b : State) (t i : Nat) (hb : b = s.begin t) (hg : at' b.pwr.good i false = true) :
    Gives (.supplyFall t i) s [.ofs, .sys, .pwr, .clk, .img, .host, .jnl, .lane, .seam, .edg, .comp, .bnc, .bal, .evs, .mode, .modeQ, .adc, .cmp,
      .safe, .mesh, .pair, .key, .pts] fun u => u.pwr.good = s.pwr.good.set i false ∧ u.pwr.por = true ∧ u.mode = {} ∧ u.jnl = {} ∧ u.edg = {} ∧ u.lane = {} ∧
      u.host.ctxs = ({} : HostB).ctxs ∧ u.img.desc = none ∧ u.img.flashA = s.img.flashA ∧ u.img.flashB = s.img.flashB ∧ u.evs.log = s.evs.log ∧
      u.safe.st = 0 ∧ u.safe.sin = s.safe.sin ∧
      (i ≠ 0 → u.evs = s.evs ∧ (s.pwr.por = false → u.pwr.cause = 2)) ∧ (i = 0 → u.evs.queue = [] ∧ u.pwr.cause = 1) := by
  subst hb
  refine execSupplyFall_goes.givesIf rfl hg rfl fun a p q => ?_
  have hbegin : s.pwr.por = (s.begin t).pwr.por := rfl
  simp only [noteSets_pwr, finish_pwr, noteSets_mode, finish_mode, noteSets_jnl, finish_jnl, noteSets_edg, finish_edg, noteSets_lane, finish_lane,
    noteSets_host, State.finish_host, noteSets_img, finish_img, noteSets_evs, finish_evs, noteSets_safe, finish_safe]
  by_cases h0 : i = 0
  · subst h0
    exact ⟨rfl, rfl, rfl, rfl, rfl, rfl, rfl, rfl, rfl, rfl, rfl, rfl, rfl, fun h => absurd rfl h, fun _ => ⟨rfl, rfl⟩⟩
  · simp only [h0, decide_false, Bool.false_eq_true, if_false]
    exact ⟨rfl, rfl, rfl, rfl, rfl, rfl, rfl, rfl, rfl, rfl, rfl, rfl, rfl, fun _ => ⟨rfl, fun hp => if_neg (by rw [← hbegin, hp]; decide)⟩, fun h => h.elim⟩

theorem resetN_resets (s b : State) (t : Nat) (_ : b = s.begin t) :
    Gives (.resetN t) s [.ofs, .sys, .pwr, .clk, .img, .host, .jnl, .lane, .seam, .edg, .comp, .bnc, .bal, .evs, .mode, .modeQ, .adc, .cmp,
      .safe, .mesh, .pair, .key, .pts] fun u => u.pwr.resetLow = true ∧ u.mode = {} ∧ u.jnl = {} ∧ u.edg = {} ∧ u.lane = {} ∧ u.evs = s.evs ∧
      u.img.desc = none ∧ u.img.flashA = s.img.flashA ∧ u.img.flashB = s.img.flashB ∧ u.safe.st = 0 ∧ (s.pwr.por = false → u.pwr.cause = 3) := by
  refine execResetN_goes.givesRun rfl rfl fun a p q => ?_
  simp only [noteSets_pwr, finish_pwr, noteSets_mode, finish_mode, noteSets_jnl, finish_jnl, noteSets_edg, finish_edg, noteSets_lane, finish_lane,
    noteSets_img, finish_img, noteSets_evs, finish_evs, noteSets_safe, finish_safe]
  exact ⟨rfl, rfl, rfl, rfl, rfl, rfl, rfl, rfl, rfl, rfl, fun hp => if_neg (by rw [begin_pwr, hp]; decide)⟩

theorem resetNRelease_releases (s b : State) (t : Nat) (m : Bool) (hb : b = s.begin t) (hl : b.pwr.resetLow = true) :
    Gives (.resetNRelease t m) s [.pwr] fun u => u.pwr.resetLow = false ∧ u.pwr.memberSel = m ∧ (s.pwr.por = false → u.pwr.upDue = true) ∧
      (s.pwr.por = true → b.supplies = true → u.pwr.riseLate = false ∧
        (s.pwr.riseLate = true → u.pwr.riseMet = true ∧ u.pwr.goodAt = b.now)) := by
  subst hb
  refine execResetNRelease_goes.givesIf rfl hl rfl fun a p q => ?_
  rw [noteSets_pwr, finish_pwr, onPwr_pwr]
  dsimp only
  by_cases hp : (s.begin t).pwr.por = true
  · have hnot : s.pwr.por ≠ false := fun h => Bool.noConfusion (h.symm.trans hp)
    by_cases hc : ((s.begin t).supplies && ((s.begin t).pwr.riseLate || (s.begin t).riseClosed)) = true
    · rw [if_pos hp, if_pos hc]
      exact ⟨rfl, rfl, fun h => absurd h hnot, fun _ _ => ⟨rfl, fun _ => ⟨rfl, rfl⟩⟩⟩
    · rw [if_pos hp, if_neg hc]
      have hlate : (s.begin t).supplies = true → (s.begin t).pwr.riseLate = false := fun hs => by
        rw [hs, Bool.true_and, Bool.or_eq_true, not_or] at hc
        exact Bool.eq_false_iff.mpr hc.1
      exact ⟨rfl, rfl, fun h => absurd h hnot, fun _ hs => ⟨hlate hs, fun h => Bool.noConfusion ((hlate hs).symm.trans h)⟩⟩
  · rw [if_neg hp]
    exact ⟨rfl, rfl, fun _ => rfl, fun h => absurd h hp⟩

theorem wakeTimerExpiry_wakes (s b : State) (t a : Nat) (hb : b = s.begin t) (hp : b.pwr.parked = true) (hw : b.pwr.wakeAt = some a)
    (ha : a ≤ b.now + b.pwr.wake * Config.sec / 10) :
    Gives (.wakeTimerExpiry t) s [.ofs, .sys, .pwr, .clk, .img, .host, .jnl, .lane, .seam, .edg, .comp, .bnc, .bal, .evs, .mode, .modeQ, .adc, .cmp,
      .safe, .mesh, .pair, .key, .pts] fun u => u.pwr.cause = 7 ∧ u.pwr.parked = false ∧ u.pwr.upDue = true ∧ u.evs = s.evs ∧ u.mode = {} ∧ u.jnl = {} ∧
      u.safe = { s.safe with
        gpReq := false, unlocked := false, unlockSess := 0 } := by
  subst hb
  refine execWakeTimerExpiry_goes.givesIf rfl (by simp only [hp, hw, decide_eq_true ha, Bool.and_self]) rfl fun _ _ _ => ?_
  simp only [noteSets_pwr, finish_pwr, noteSets_mode, finish_mode, noteSets_jnl, finish_jnl, noteSets_evs, finish_evs, noteSets_safe, finish_safe]
  exact ⟨rfl, rfl, rfl, rfl, rfl, rfl, rfl⟩

/-! ## Firmware, warm reset and image reload (R24, R652 to R656, R687) -/

theorem firmwareBootDone_boots (s b : State) (t : Nat) (x y : Bool) (hb : b = s.begin t) (hl : b.locked = true) (hd : b.pwr.dom.testBit 3 = true)
    (hr : b.img.fwRun = false) (hf : b.pwr.fwFail = false) (hs : b.img.fwSince = none) :
    Gives (.firmwareBootDone t x y) s [.free, .sys, .pwr, .clk, .img, .host, .jnl, .lane, .seam, .edg, .comp, .bnc, .bal, .evs, .mode, .modeQ, .adc, .cmp, .safe,
      .mesh, .pair] fun u => (x = true → u.img.fwRun = true ∧ u.evs.fwBank = s.evs.fwBank) ∧
      (x = false → y = true → u.img.fwRun = true ∧ u.evs.fwBank = 1 - s.evs.fwBank) ∧
      (x = false → y = false → u.pwr.fwFail = true ∧ u.img.hostWait = true) := by
  subst hb
  refine execFirmwareBootDone_goes.givesIf rfl (by simp only [hl, hd, hr, hf, hs]; rfl) rfl fun _ _ _ => ?_
  simp only [noteSets_img, finish_img, noteSets_evs, finish_evs, noteSets_pwr, finish_pwr]
  cases x <;> cases y
  case false.false => simp [hostWait_fwFail, hostWait_waits]
  all_goals simp [setBank, inactive]

theorem warm_begins (s b : State) (t : Nat) (ifc : Iface) (hb : b = s.begin t) (hv : b.viewed ifc.src 0x220004 = false) (hn : b.pwrBusy = false)
    (ht : b.pwr.target < 4) :
    Gives (.warm t ifc) s [.free, .sys, .pwr, .clk, .img, .host, .jnl, .lane, .seam, .edg, .bnc, .bal, .evs, .mode, .modeQ, .adc, .cmp, .safe, .mesh,
      .pair] fun u => u.pwr = { s.pwr with
        warm := true, busy := true, cause := 4, causeSrc := ifc.src.code, warmCnt := sat16 s.pwr.warmCnt 1, soft := 0, reload := false } ∧
      u.safe.unlocked = false ∧ (∀ c, (u.cell c).st = 0) ∧ u.img.erasing = [] ∧ u.img.writing = [] ∧
      u.img.fwSt = 0 ∧ (∀ c, (u.ctx c).st = 0 ∨ (u.ctx c).st = 3) := by
  subst hb
  have hw : (s.begin t).pwrDirect ifc 0x220004 ((s.begin t).ctlWord 0) = ((s.begin t).jDirect ifc.src 0x220004 ((s.begin t).ctlWord 0)).warmStart ifc.src := by
    rw [pwrDirect_ctl hv (notBusy hn) (ctlWarm ht hn), ctlWrite, if_pos (ctlWord_bits ht).2.1]
  refine gives_as (m := 33538028) rfl hw (by simp) rfl fun a p q => ?_
  obtain ⟨hpwr, hsafe, hcells, herase, hwrite, hfw, hctx⟩ :=
    warmStart_all (src := ifc.src) (z := (s.begin t).jDirect ifc.src 0x220004 ((s.begin t).ctlWord 0))
  simp only [noteSets_img, finish_img, noteSets_safe, finish_safe, noteSets_pwr, finish_pwr, noteSets_cell, finish_cell, noteSets_ctx, finish_ctx]
  exact ⟨hpwr, hsafe, hcells, herase, hwrite, hfw, hctx⟩

theorem warmResetEnd_ends (s b : State) (t : Nat) (hb : b = s.begin t) (hw : b.pwr.warm = true) :
    Gives (.warmResetEnd t) s [.sys, .pwr, .jnl, .seam, .edg, .cmp, .pair] fun u => u.pwr = { s.pwr with
      warm := false, busy := false } ∧ u.jnl.next = s.jnl.next + 1 ∧ (∀ x ∈ u.edg.lpwm, x.run = false) := by
  subst hb
  refine execWarmResetEnd_goes.givesIf rfl hw rfl fun a p q => ?_
  simp only [noteSets_pwr, finish_pwr, noteSets_jnl, finish_jnl, noteSets_edg, finish_edg]
  exact warmEnd_all

theorem reload_begins (s b : State) (t : Nat) (ifc : Iface) (hb : b = s.begin t) (hv : b.viewed ifc.src 0x220004 = false) (hn : b.pwrBusy = false)
    (ht : b.pwr.target < 4) (hm : b.mode.mode = 0 ∨ b.img.hostWait = true) :
    Gives (.reload t ifc) s [.free, .sys, .pwr, .clk, .img, .host, .jnl, .lane, .seam, .edg, .comp, .bnc, .bal, .evs, .mode, .modeQ, .adc, .cmp, .safe,
      .mesh, .pair] fun u => u.pwr = { s.pwr with
        reload := true, busy := true, cause := 5, causeSrc := ifc.src.code, reloadCnt := sat16 s.pwr.reloadCnt 1 } ∧
      u.img.desc = none ∧ u.img.hostWait = s.img.hostWait ∧ u.cmp.latch = List.replicate 37 false ∧ (∀ c ∈ u.mesh.convs, c.st = 0) := by
  subst hb
  have hw : (s.begin t).pwrDirect ifc 0x220004 ((s.begin t).ctlWord 1) = ((s.begin t).jDirect ifc.src 0x220004 ((s.begin t).ctlWord 1)).reloadStart ifc.src := by
    obtain ⟨-, -, -, -, hwarm, hreload⟩ := ctlWord_bits ht
    rw [pwrDirect_ctl hv (notBusy hn) (ctlReload ht hn hm), ctlWrite, if_neg (by rw [hwarm]; decide), if_pos hreload]
  refine gives_as (m := 33554412) rfl hw (by simp) rfl fun a p q => ?_
  obtain ⟨hpwr, hdesc, hwait, hlatch, hconvs⟩ :=
    reloadStart_all (src := ifc.src) (z := (s.begin t).jDirect ifc.src 0x220004 ((s.begin t).ctlWord 1))
  simp only [noteSets_img, finish_img, noteSets_pwr, finish_pwr, noteSets_cmp, finish_cmp, noteSets_mesh, finish_mesh]
  exact ⟨hpwr, hdesc, hwait, hlatch, hconvs⟩

theorem pcieReferenceClockChange_follows (s b : State) (t : Nat) (p : Bool) (l : Option (Nat × Nat)) (_ : b = s.begin t) :
    Gives (.pcieReferenceClockChange t p l) s [.host] fun u => u.host = { s.host with
      refPresent := p, onSyspll := !p, linkUp := l.isSome, speed := (l.map (·.1)).getD 0, width := (l.map (·.2)).getD 0 } :=
  execPcieReferenceClockChange_goes.givesRun rfl rfl fun _ _ _ => by simp

/-! ## Die shutdown (R398) -/

theorem dieShutdown_parks (s b : State) (t : Nat) (hb : b = s.begin t) (hh : 2 ≤ b.bal.dieHotRun) (hp : b.pwr.parked = false) :
    Gives (.dieShutdown t) s [.ofs, .free, .sys, .pwr, .clk, .img, .host, .jnl, .lane, .seam, .edg, .comp, .bnc, .bal, .evs, .mode, .modeQ, .adc, .cmp,
      .safe, .mesh, .pair, .key, .pts] fun u => u.pwr.parked = true ∧ u.pwr.dom = 3 ∧ u.pwr.wakeAt = none ∧ u.bal.dieShut = true ∧ u.mode = {} ∧ u.jnl = {} ∧
      u.img.desc = none := by
  subst hb
  refine execDieShutdown_goes.givesIf rfl (by simp only [hp, decide_eq_true hh]; rfl) rfl fun a p q => ?_
  simp only [hp, Bool.false_eq_true, if_false]
  generalize State.event 0x0580 _ _ = z
  obtain ⟨hparked, hdom, hshut, hmode, hjnl, hdesc, hwake⟩ := goPark_all (n := 0) (z := z.onBal fun b => { b with dieShut := true })
  simp only [noteSets_img, finish_img, noteSets_pwr, finish_pwr, noteSets_bal, finish_bal, noteSets_mode, finish_mode, noteSets_jnl, finish_jnl]
  exact ⟨hparked, hdom, hwake rfl, hshut, hmode, hjnl, hdesc⟩

theorem dieShutdown_inPark (s b : State) (t : Nat) (hb : b = s.begin t) (hh : 2 ≤ b.bal.dieHotRun) (hp : b.pwr.parked = true) (hs : b.bal.dieShut = false) :
    Gives (.dieShutdown t) s [.pwr, .bal, .evs] fun u => u.pwr = { s.pwr with
      wakeAt := none } ∧ u.bal = { s.bal with
      dieShut := true } := by
  subst hb
  refine gives_if (m := 196672) rfl (by simp only [hp, hs, decide_eq_true hh]; rfl) (if_pos hp) (by simp) rfl fun _ _ _ => ?_
  simp

/-- Settles O45: each row by its own lemma. -/
theorem suppliesAndResets : Obligations.SuppliesAndResets :=
  ⟨powerOnReset_powersUp, porReleaseTimer_releases, riseWindowExpiry_late, supplyRise_counts, supplyFall_resets, resetN_resets, resetNRelease_releases,
    firmwareBootDone_boots, warm_begins, warmResetEnd_ends, reload_begins, wakeTimerExpiry_wakes, pcieReferenceClockChange_follows, dieShutdown_parks,
    dieShutdown_inPark⟩

end Sys2Proof.Machine

/-! PROOFS. The edge scheduler: commits, the compile, shipping, the opening, reference commands (R26, R27, R42 to R47, R299 to R309, R318). -/
namespace Sys2Proof.Machine
open State

/-! ## Commits on their way (R26, R27, R45 to R47) -/

/-- What presenting a group's landing does, where the commit in front is of that group and no commit must have landed before. -/
theorem commitLanding_front {s w : State} {t : Nat} {f : Flight} {q : List Flight} {F : State → Prop} (hq : (s.begin t).edg.flights = f :: q)
    (ha : f.at_ + 48 ≤ (s.begin t).now) (hn : ∀ x ∈ (s.begin t).edg.flights, (s.begin t).now < x.at_ + 96)
    (hw : ((s.begin t).onEdg fun e => { e with flights := q }).land f = w) (hm : Frame 8192 (s.begin t) w) (hF : ∀ a p q, F (noteSets a (finish p q w))) :
    Gives (.commitLanding t f.g) s [.edg] F := by
  refine gives_as rfl ?_ hm rfl hF
  have he : ((s.begin t).onEdg fun e => { e with flights := e.flights.erase f }) = (s.begin t).onEdg fun e => { e with flights := q } := by
    simp only [onEdg, hq, List.erase_cons_head]
  simp only [landDue_none hn, landable_head hq ha, landFlight, he, hw]

theorem commitLanding_effective {s b : State} {t : Nat} {f : Flight} {q : List Flight} (hb : b = s.begin t) (hq : b.edg.flights = f :: q)
    (ha : f.at_ + 48 ≤ b.now) (hn : ∀ x ∈ b.edg.flights, b.now < x.at_ + 96) (hd : b.directOk f.g f.vals = true)
    (hc : b.cyc < b.kO + 16 ∨ b.kO + 32 ≤ b.cyc ∧ b.reached 5 = true) (hs : f.src ≠ 1) :
    Gives (.commitLanding t f.g) s [.edg] fun u => u.edg = { (b.onGrp f.g fun g => { b.settled g with
        lper := b.per, lcyc := b.cyc, llate := false, committed := f.vals ++ (b.settled g).committed.drop f.vals.length }).edg with
      flights := q, lastLate := false, lastGrp := f.g } := by
  subst hb
  have hf : (s.begin t).now < f.at_ + 96 := hn f (by rw [hq]; exact .head _)
  exact commitLanding_front hq ha hn (land_early hf hd hc hs) (by simp) fun _ _ _ => by simp; rfl

theorem commitLanding_inCut (s b : State) (t : Nat) (f : Flight) (q : List Flight) (hb : b = s.begin t) (hq : b.edg.flights = f :: q)
    (ha : f.at_ + 48 ≤ b.now) (hn : ∀ x ∈ b.edg.flights, b.now < x.at_ + 96) (hd : b.directOk f.g f.vals = true)
    (hc : b.kO + 16 ≤ b.cyc) (hk : b.cyc ≤ b.kO + 31) (hs : f.src ≠ 1) :
    Gives (.commitLanding t f.g) s [.edg] fun u => u.edg = { (b.onGrp f.g fun g => { b.settled g with
        lper := b.per, lcyc := b.cyc, llate := true
        cut := some (f.vals ++ ((b.settled g).cut.getD (b.settled g).committed).drop f.vals.length) }).edg with
      flights := q, late := true, lastLate := true, lastGrp := f.g, rldLate := setBit s.edg.rldLate f.g } := by
  subst hb
  have hf : (s.begin t).now < f.at_ + 96 := hn f (by rw [hq]; exact .head _)
  exact commitLanding_front hq ha hn (land_late hf hd hc hk hs) (by simp) fun _ _ _ => by simp; rfl

theorem commitLanding_rejected (s b : State) (t : Nat) (f : Flight) (q : List Flight) (hb : b = s.begin t) (hq : b.edg.flights = f :: q)
    (ha : f.at_ + 48 ≤ b.now) (hn : ∀ x ∈ b.edg.flights, b.now < x.at_ + 96) (hd : b.directOk f.g f.vals = false) :
    Gives (.commitLanding t f.g) s [.edg] fun u => u.edg = { s.edg with flights := q, directBad := true } := by
  subst hb
  have hr : !((s.begin t).onEdg fun e => { e with flights := q }).directOk f.g f.vals := congrArg (!·) hd
  exact commitLanding_front hq ha hn (if_pos hr) (by simp) fun _ _ _ => by simp

/-- A commit behind another of its source waits (R27). -/
theorem commitLanding_behind (s b : State) (t : Nat) (f k : Flight) (hb : b = s.begin t) (hq : b.edg.flights = [f, k]) (hs : f.src = k.src) (hg : f.g ≠ k.g)
    (hn : ∀ x ∈ b.edg.flights, b.now < x.at_ + 96) : Gives (.commitLanding t k.g) s [] fun u => u.edg = s.edg := by
  subst hb
  have hk : (s.begin t).landable k.g = none := by
    have hfk : f ≠ k := fun e => hg (congrArg Flight.g e)
    unfold landable
    rw [hq]
    simp [List.find?_cons, hs, hg, hfk]
  exact gives_as rfl (by simp only [landDue_none hn, hk]) (by simp : Frame 0 _ (s.begin t)) rfl fun _ _ _ => by simp

/-! ## The compile (R42, R46, R47, R302) -/

theorem role_solo {z : State} (h : z.cfg.topo.pair = false) : z.role = 0 := by simp [role, h]
/-- The compile of a member without a partner, as its row makes it. -/
theorem compileStart_gives {s w : State} {t m : Nat} {l : List Part} {F : State → Prop} (hp : (s.begin t).atPoint 5 ((s.begin t).kO + 32) = true)
    (hn : ∀ x ∈ (s.begin t).edg.flights, (s.begin t).now < x.at_ + 96) (hs : (s.begin t).edg.stopped = false) (hr : (s.begin t).cfg.topo.pair = false)
    (ht : (s.begin t).pair.taking = false) (hw : (((s.begin t).reach 5).compile [] []).cellsPeriod = w) (hm : Frame m (s.begin t) w)
    (k : m ||| maskOfParts (.now :: .out :: l) = maskOfParts (.now :: .out :: l)) (hF : ∀ a p q, F (noteSets a (finish p q w))) :
    Gives (.compileStart t [] []) s l F := by
  refine gives_if rfl (by simp only [hp, hr]; rfl) ?_ hm k hF
  have he : ((s.begin t).reach 5).takeEnd = (s.begin t).reach 5 := if_neg (by rw [reach_pair, ht]; exact Bool.false_ne_true)
  have hh : ∀ z : State, z.img = (s.begin t).img → heartbeat ((s.begin t).reach 5) z = z := fun z hz => by
    have : z.cfg.topo.pair = false := by rw [cfg, hz]; exact hr
    simp [heartbeat, role_solo this]
  have hi : (((s.begin t).reach 5).compile [] []).img = (s.begin t).img :=
    (by simp : Frame 28680 ((s.begin t).reach 5) _).keeps .img rfl
  simp only [landDue_none hn, he, reach_edg, hs, Bool.false_eq_true, if_false, hh _ hi, hw]

theorem compileStart_freezes (s b : State) (t : Nat) (hb : b = s.begin t) (hp : b.atPoint 5 (b.kO + 32) = true) (hn : ∀ x ∈ b.edg.flights, b.now < x.at_ + 96)
    (hs : b.edg.stopped = false) (hr : b.cfg.topo.pair = false) (ht : b.pair.taking = false) :
    Gives (.compileStart t [] []) s [.free, .seam, .edg, .comp, .mode, .pair, .pts] fun u => u.comp.per = b.perPlus 1 ∧ u.comp.done = true ∧
      u.edg.grps.map (·.frozen) = s.edg.grps.map (fun g => (b.settled g).committed) ∧
      u.edg.grps.map (·.committed) = s.edg.grps.map (fun g => (b.settled g).cut.getD (b.settled g).committed) ∧ u.reached 5 = true := by
  subst hb
  refine compileStart_gives (m := 268726284) hp hn hs hr ht rfl (by simp) rfl fun a p q => ?_
  obtain ⟨hper, hdone, hfrozen, hcommitted⟩ := compile_refs (k := []) (z := (s.begin t).reach 5)
  have fr : Frame 266252 (((s.begin t).reach 5).compile [] []) (((s.begin t).reach 5).compile [] []).cellsPeriod := by simp
  have hc : _ = (((s.begin t).reach 5).compile [] []).comp := fr.keeps .comp rfl
  have he : _ = (((s.begin t).reach 5).compile [] []).edg := fr.keeps .edg rfl
  have hr : Frame 290828 ((s.begin t).reach 5) (((s.begin t).reach 5).compile [] []).cellsPeriod := by simp
  have h5 : (((s.begin t).reach 5).compile [] []).cellsPeriod.reached 5 = true :=
    (reached_of (hr.keeps .pts rfl) (hr.keeps .now rfl) (hr.keeps .ofs rfl) (hr.keeps .clk rfl) (hr.keeps .img rfl)).trans (reach_reached (by decide))
  simp only [noteSets_comp, finish_comp, noteSets_edg, finish_edg, reached_told, hc, he]
  exact ⟨hper, hdone, hfrozen, hcommitted, h5⟩

theorem heartbeatStop_inactive {r i : Nat} {z : State} (h : z.role ≠ 1) : z.heartbeatStop r i = z.cause r i := by
  simp [heartbeatStop, activeCovered, h]
theorem allOff_edg {z : State} : z.allOff.edg = { z.edg with lpwm := z.edg.lpwm.map lpwmOff } := by
  simp only [allOff, outsTo, onEdg_edg, onCmp_edg, mapIdx_map]

theorem compileStop_stops (s b : State) (t : Nat) (hb : b = s.begin t) (hc : b.compileBad = true) (hs : b.edg.stopped = false) (hr : b.role ≠ 1) :
    Gives (.compileStop t) s [.edg, .comp, .modeQ, .cmp] fun u => u.edg = { s.edg with
      stopped := true, lpwm := s.edg.lpwm.map State.lpwmOff } ∧ u.comp = { s.comp with
      done := false, cells := [], locals := [], slow := [], hist := [], bad := false } ∧
      u.modeQ = { s.modeQ with
      causes := s.modeQ.causes ++ [(3, 0)] } := by
  subst hb
  refine gives_if (m := 2646016) rfl (by simp only [hc, hs]; rfl) (heartbeatStop_inactive hr) (by simp [cause]) rfl fun a p q => ?_
  have f : ∀ z : State, Frame 2105344 z z.allOff := fun z => by simp
  have hcomp : ∀ z : State, z.allOff.comp = z.comp := fun z => (f z).keeps .comp rfl
  have hmode : ∀ z : State, z.allOff.modeQ = z.modeQ := fun z => (f z).keeps .modeQ rfl
  simp [cause, allOff_edg, hcomp, hmode]

theorem shipSlot_withholds (s b : State) (t c : Nat) (x : ESet) (hb : b = s.begin t) (hd : b.comp.done = true) (hs : c ∈ b.comp.slow) (hc : c < 128)
    (hx : (c, x) ∈ b.comp.cells) (ht : b.shipSlot c = b.sinceC) :
    Gives (.shipSlot t c) s [.seam, .edg, .comp] fun u => u.comp.cells = s.comp.cells.filter (·.1 != c) ∧ u.comp.bad = true ∧
      u.edg.flt = setBit s.edg.flt 30 ∧ u.edg.fltLocal = false ∧ u.edg.fltIdx = c ∧ u.edg.cmpCnt = sat32 s.edg.cmpCnt 1 ∧
      ((b.cell c).st = 2 → (u.cell c).st = 3) := by
  subst hb
  have hany : (s.begin t).comp.cells.any (·.1 == c) = true := List.any_eq_true.mpr ⟨_, hx, by simp⟩
  refine tight (m := 28672) rfl (by simp only [hd, List.contains_iff_mem.mpr hs, decide_eq_true hc, hany, ht, beq_self_eq_true, Bool.and_self]) (by simp) rfl fun a p q => ?_
  have hcell := withholdCell_st (s := s.begin t) (b := 30) (c := c)
  simp only [noteSets_comp, finish_comp, noteSets_edg, finish_edg, noteSets_cell, finish_cell]
  refine ⟨?_, ?_, ?_, ?_, ?_, ?_, hcell⟩ <;> simp [withholdCell, edgFault, Nat.mod_eq_of_lt hc]

theorem localSetDeadline_withholds (s b : State) (t g : Nat) (hb : b = s.begin t) (hd : b.comp.done = true) (hs : 128 + g ∈ b.comp.slow)
    (hl : b.comp.locals.any (·.1 == g) = true) (hp : b.comp.per = b.per) (ht : b.timeline = true) (hc : b.cyc = b.kO - 64) :
    Gives (.localSetDeadline t g) s [.edg, .comp] fun u => u.comp.locals = s.comp.locals.filter (fun x => !(b.unitOf g).contains x.1) ∧
      u.comp.bad = true ∧ u.edg.flt = setBit s.edg.flt 30 ∧ u.edg.fltLocal = true := by
  subst hb
  refine tight (m := 24576) rfl (by simp only [hd, List.contains_iff_mem.mpr hs, hl, hp, ht, hc, beq_self_eq_true, Bool.and_self]) (by simp) rfl fun a p q => ?_
  simp only [noteSets_comp, finish_comp, noteSets_edg, finish_edg]
  simp [withholdLocal, edgFault]

/-! ## Shipping and the opening (R43, R44, R299, R308, R309) -/

/-- One cell's frame where SYNTHETIC does not run: its conversation and the compile change, the frame goes to its seam. -/
theorem shipCell_real {c : Nat} {x : ESet} {z : State} (ho : z.modeQ.ovl.testBit 4 = false) : z.shipCell c x =
    (((z.onTalk c fun k => { k with cur := x, sent := ((z.comp.per, setCrc x) :: k.sent).take 4, sentNow := k.sentNow + 1 }).onComp
      fun m => { m with cells := m.cells.filter (·.1 != c) }).seamSend (c / 8) (cellBlocks 1 c z.comp.per z.seam.epoch (edgePay x))) := by
  have h : ∀ (f : Talk → Talk) (g : Comp → Comp), ((z.onTalk c f).onComp g).modeQ.ovl.testBit 4 = false := fun _ _ => ho
  simp only [shipCell, ho, h, Bool.false_eq_true, if_false]
  rfl

theorem edgeFrameShip_ships (s b : State) (t c l : Nat) (x : ESet) (hb : b = s.begin t) (hd : b.comp.done = true) (hs : b.edg.stopped = false)
    (hm : b.maySendEdge = true) (ho : b.modeQ.ovl.testBit 4 = false) (ht : at' b.cfg.topo.shipOfs (c / 8) 0 = b.sinceC / 16)
    (hc : b.comp.cells = [(c, x)]) (hl : b.comp.slow = []) :
    Gives (.edgeFrameShip t (c / 8)) s [.seam, .comp] fun u => u.comp = { s.comp with
      cells := [] } ∧ u.seam = (b.onTalk c fun k => { k with
      cur := x, sent := ((s.comp.per, State.setCrc x) :: k.sent).take 4, sentNow := k.sentNow + 1 }).seam ∧
      (l ∈ b.seamTx (c / 8) → Out.lane l (cellBlocks 1 c s.comp.per s.seam.epoch (State.edgePay x)) ∈ u.out) := by
  subst hb
  refine gives_if (m := 20484) rfl (by simp only [hd, hs, hm, ht, beq_self_eq_true]; rfl) (w := (s.begin t).shipCell c x) ?_ (by simp) rfl fun a p q => ?_
  · simp only [hc, hl]
    simp [each]
  · have hcs : s.comp.cells = [(c, x)] := hc
    rw [shipCell_real ho]
    refine ⟨by simp [seamSend, hcs], by simp [seamSend], fun h => mem_told ?_⟩
    exact List.mem_append_right _ (List.mem_map.mpr ⟨l, h, rfl⟩)

theorem locked_of_atPoint {z : State} {i k : Nat} (h : z.atPoint i k = true) : z.locked = true := by
  simp only [atPoint, timeline, Bool.and_eq_true] at h
  exact h.1.1.2
/-- At the opening, an output that nothing holds off begins the set that the compile of that period made for it. -/
theorem openOut_begins {p j : Nat} {x : Lpwm} {y : LSet} {z : State} (hg : z.gateShut p j = false) (hz : z.outsHiz = false) (hs : z.edg.stopped = false)
    (hl : z.locked = true) (hm : z.mode.mode ≠ 0) (he : (z.outDecl j).edges = true) (hn : z.groupEnabled (z.outDecl j).group = true)
    (hd : z.comp.done = true) (hp : z.comp.per = p) (hy : (z.comp.locals.flatMap (·.2)).find? (·.out == j) = some y) :
    openOut p z j x = { x with gated := false, hiz := false, run := true, level := y.init, todo := y.words } := by
  simp only [openOut, hg, hz, hs, hl, beq_eq_false_iff_ne.mpr hm, he, hn, hd, hp, hy, beq_self_eq_true, Bool.and_self, if_true, Bool.not_true, Bool.or_self,
    Bool.false_and, Bool.false_eq_true, if_false]

/-- The state in which an opening reads what its outputs do: a handover ends at its period (R632). -/
def State.handed (s : State) : State := s.onPair fun x => { x with hand := x.hand && later 32 x.takePer s.per }
theorem opening_lpwm {z : State} {j : Nat} (h : j < z.edg.lpwm.length) : at' z.opening.edg.lpwm j {} = openOut z.per z.handed j (at' z.edg.lpwm j {}) := by
  have hl : z.opening.edg.lpwm = z.edg.lpwm.mapIdx (openOut z.per z.handed) := rfl
  rw [hl]
  simp only [at', List.getD, List.getElem?_mapIdx, List.getElem?_eq_getElem h, Option.map_some, Option.getD_some]
theorem opening_gpio {z : State} (hd : z.comp.done = true) (hp : z.comp.per = z.per) : z.opening.sys.gpioOut = z.comp.gpio := by
  have h : (z.comp.done && z.comp.per == z.per) = true := by rw [hd, hp, beq_self_eq_true]; rfl
  exact if_pos h
/-- Where no partner is declared, a handover does not hold the outputs. -/
theorem handed_outsHiz {z : State} (hr : z.cfg.topo.pair = false) : z.handed.outsHiz = z.outsHiz := by
  rw [outsHiz, outsHiz, show z.handed.cfg = z.cfg from rfl, hr]
  rfl

theorem edgePeriodOpening_opens (s b : State) (t j : Nat) (y : LSet) (hb : b = s.begin t) (ha : b.atPoint 4 b.kO = true) (hr : b.cfg.topo.pair = false)
    (hz : b.outsHiz = false) (hj : j < b.edg.lpwm.length) (hg : b.gateShut b.per j = false) (hs : b.edg.stopped = false) (hm : b.mode.mode ≠ 0)
    (he : (b.outDecl j).edges = true) (hn : b.groupEnabled (b.outDecl j).group = true) (hd : b.comp.done = true) (hp : b.comp.per = b.per)
    (hy : (b.comp.locals.flatMap (·.2)).find? (·.out == j) = some y) :
    Gives (.edgePeriodOpening t) s [.sys, .seam, .edg, .comp, .cmp, .pair, .pts] fun u =>
      (at' u.edg.lpwm j {}).run = true ∧ (at' u.edg.lpwm j {}).level = y.init ∧ (at' u.edg.lpwm j {}).todo = y.words ∧
      (at' u.edg.lpwm j {}).hiz = false ∧ (at' u.edg.lpwm j {}).gated = false ∧ u.sys.gpioOut = s.comp.gpio ∧ u.reached 4 = true := by
  subst hb
  refine execEdgePeriodOpening_goes.givesIf rfl ha rfl fun a p q => ?_
  have hlock : (s.begin t).locked = true := locked_of_atPoint ha
  have hset : openOut (s.begin t).per ((s.begin t).reach 4).handed j (at' (s.begin t).edg.lpwm j {}) = _ :=
    openOut_begins hg ((handed_outsHiz hr).trans hz) hs hlock hm he hn hd hp hy
  have hout : at' ((s.begin t).reach 4).opening.edg.lpwm j {} = _ := (opening_lpwm hj).trans hset
  have h4 : ((s.begin t).reach 4).opening.reached 4 = true := by
    have fr : Frame 18903072 ((s.begin t).reach 4) ((s.begin t).reach 4).opening := by simp
    exact (reached_of (fr.keeps .pts rfl) (fr.keeps .now rfl) (fr.keeps .ofs rfl) (fr.keeps .clk rfl) (fr.keeps .img rfl)).trans (reach_reached (by decide))
  simp only [noteSets_edg, finish_edg, noteSets_sys, finish_sys, reached_told]
  rw [hout]
  exact ⟨rfl, rfl, rfl, rfl, rfl, opening_gpio hd hp, h4⟩

theorem edgePeriodOpening_once (s b : State) (t : Nat) (hb : b = s.begin t) (ha : b.atPoint 4 b.kO = false) :
    Gives (.edgePeriodOpening t) s [] fun u => u.edg = s.edg := by
  subst hb
  obtain ⟨u, hu, ho, -⟩ := gives_stays (i := .edgePeriodOpening t) rfl ha
  exact ⟨u, hu, ho, ho .edg (by decide)⟩

/-- At a transition's instant the output takes its level and waits for the next one. -/
theorem edge_head {o : Nat} {x : Lpwm} {w : Nat × Bool} {r : List (Nat × Bool)} (ht : x.todo = w :: r) (hw : w.1 = o) (hr : ∀ v ∈ r, w.1 < v.1) :
    x.edge o = { x with level := w.2, todo := r } := by
  subst hw
  have hnow : r.filter (·.1 == w.1) = [] := List.filter_eq_nil_iff.mpr fun v hv => by
    have := hr v hv
    simp
    omega
  have hthen : r.filter (fun v => decide (w.1 < v.1)) = r := List.filter_eq_self.mpr fun v hv => decide_eq_true (hr v hv)
  simp [Lpwm.edge, ht, hnow, hthen]

theorem lpwmTransition_toggles (s b : State) (t j : Nat) (w : Nat × Bool) (r : List (Nat × Bool)) (hb : b = s.begin t) (hrun : (at' b.edg.lpwm j {}).run = true)
    (ht : (at' b.edg.lpwm j {}).todo = w :: r) (hw : w.1 = (b.inPer + b.tick - 16 * b.kO) % b.tick) (hr : ∀ v ∈ r, w.1 < v.1) :
    Gives (.lpwmTransition t j) s [.edg, .cmp] fun u => u.edg = { s.edg with
      lpwm := modAt s.edg.lpwm j fun x => { x with level := w.2, todo := r } } := by
  subst hb
  have hnow : w.1 = (s.begin t).inEdge := hw
  refine execLpwmTransition_goes.givesIf rfl ?_ rfl fun a p q => ?_
  · simp only [hrun, ht, List.any_cons, hnow, beq_self_eq_true, Bool.true_or, Bool.and_self]
  · simp only [noteSets_edg, finish_edg, outsTo, onEdg_edg, onCmp_edg, mapIdx_one]
    exact congrArg (fun l => { s.edg with lpwm := l }) (modAt_congr (f := (Lpwm.edge (s.begin t).inEdge ·)) (g := fun x => { x with level := w.2, todo := r }) {} (edge_head ht hnow hr))

/-! ## Reference commands (R45, R318) -/

theorem group_of_word {g : Nat} (h : g < 64) : field (le 4 g) 0 1 = g := field_le_of_lt (n := 1) (r := le 3 (g / 256)) (by omega)

theorem refStage_stages (s b : State) (t g o : Nat) (v : List Word) (h : RecHdr)
    (ha : Accepts cmdRefStage h (le 1 g ++ le 1 0 ++ le 2 o ++ v.flatMap fun w => le 4 w.toNat) (s.begin t)) (hb : b = s.begin t) (hg : g < 64) (ho : o < 128) :
    Gives (.refStage t h g o v) s ([.host, .jnl, .edg] ++ s.heldParts) fun u => u.edg = (b.onGrp g fun x => { x with
      staging := x.staging.take o ++ v ++ x.staging.drop (o + v.length) }).edg := by
  subst hb
  refine ha.gives0 (m := 8192) rfl rfl (fun v => by simp [cmdRefStage]) rfl rfl fun x j u _ hu => ?_
  obtain ⟨hgrp, hslot, hvals⟩ := stageFields (g := g) (o := o) (v := v) (by omega) (by omega)
  rw [hu.wide.keeps .edg rfl]
  simp only [cmdRefStage, hgrp, hslot, hvals]
  rfl

theorem refCommit_commits (s b : State) (t g : Nat) (h : RecHdr) (ha : Accepts cmdRefCommit h (le 4 g) (s.begin t)) (hb : b = s.begin t) (hg : g < 64) :
    Gives (.refCommit t h g) s ([.host, .jnl, .edg] ++ s.heldParts) fun u => u.edg = { s.edg with
      flights := s.edg.flights ++ [{ g := g, vals := (b.grp g).staging, src := 1, at_ := b.now }] } := by
  subst hb
  refine ha.gives0 (m := 8192) (by rw [exec, execRefCommit, Nat.mod_eq_of_lt (by omega : g < 256)]) rfl (fun v => by simp [cmdRefCommit]) rfl rfl
    fun x j u _ hu => ?_
  rw [hu.wide.keeps .edg rfl]
  simp only [cmdRefCommit, group_of_word hg]
  rfl

theorem refDiscard_discards (s b : State) (t g : Nat) (h : RecHdr) (ha : Accepts cmdRefDiscard h (le 4 g) (s.begin t)) (hb : b = s.begin t) (hg : g < 64) :
    Gives (.refDiscard t h g) s ([.host, .jnl, .edg] ++ s.heldParts) fun u => u.edg = (b.onGrp g fun x => { x with
      staging := x.cut.getD x.committed }).edg := by
  subst hb
  refine ha.gives0 (m := 8192) (by rw [exec, execRefDiscard, Nat.mod_eq_of_lt (by omega : g < 256)]) rfl (fun v => by simp [cmdRefDiscard]) rfl rfl
    fun x j u _ hu => ?_
  rw [hu.wide.keeps .edg rfl]
  simp only [cmdRefDiscard, group_of_word hg]
  rfl

/-- Settles O28: each row by its own lemma; a commit before the cut and one after it take effect alike. -/
theorem edgeScheduler : Obligations.EdgeScheduler :=
  ⟨fun _ _ _ _ _ hb hq ha hn hd hc hs => commitLanding_effective hb hq ha hn hd (.inl hc) hs, commitLanding_inCut,
    fun _ _ _ _ _ hb hq ha hn hd hk hc hs => commitLanding_effective hb hq ha hn hd (.inr ⟨hk, hc⟩) hs, commitLanding_rejected, commitLanding_behind,
    compileStart_freezes, compileStop_stops, shipSlot_withholds, localSetDeadline_withholds, edgeFrameShip_ships, edgePeriodOpening_opens,
    edgePeriodOpening_once, lpwmTransition_toggles, refStage_stages, refCommit_commits, refDiscard_discards⟩

end Sys2Proof.Machine

/-! PROOFS. The benches' period, interpolation, loop commands and the trace (R38, R327 to R338, R345 to R366). -/
namespace Sys2Proof.Machine
open State

/-! ## The benches' period (R38, R40, R327, R337, R338) -/

theorem benchStart_begins (s b : State) (t k : Nat) (hb : b = s.begin t) (hp : b.atPoint 1 80 = true) (h0 : b.reached 0 = true)
    (hr : b.cfg.topo.pair = false ∨ b.pair.st ≠ 3) (hk : k < 16) (ho : b.benchOn k = true) (hl : k < b.bnc.benches.length) :
    Gives (.benchStart t) s [.bnc, .pts] fun u => (u.bench k).pc = 0 ∧ (u.bench k).cyc = 0 ∧ (u.bench k).loops = [] ∧ (u.bench k).ended = false ∧
      (u.bench k).running = (!(b.bench k).faulted && b.pwr.st == 0) ∧ u.bnc.startAt = b.now := by
  subst hb
  refine execBenchStart_goes.givesIf rfl ?_ rfl fun a p q => ?_
  · have hlead : ((s.begin t).cfg.topo.pair && (s.begin t).pair.st == 3) = false := by
      rcases hr with hr | hr
      · rw [hr, Bool.false_and]
      · rw [beq_eq_false_iff_ne.mpr hr, Bool.and_false]
    simp only [hp, h0, hlead]
    rfl
  · obtain ⟨_, rfl, ⟨hpc, hcyc, hloops, hended, hruns⟩, hat⟩ := benchesStart_live (s := (s.begin t).reach 1) hk ho hl
    rw [bench_of (w := ((s.begin t).reach 1).benchesStart) (by simp), noteSets_bnc, finish_bnc]
    exact ⟨hpc, hcyc, hloops, hended, hruns, hat⟩

/-- Where one bench alone has not finished, it alone overruns. -/
theorem overrun_one {k : Nat} {z : State} (hk : k < 16) (hr : (z.bench k).running = true) (he : (z.bench k).ended = false)
    (ho : ∀ j, j ≠ k → (z.bench j).running = false) : z.overrun = z.benchFault k 31 true := by
  have h : (List.range 16).filter (fun b => (z.bench b).running && !(z.bench b).ended) = [k] := by
    rw [← filter_range16 k hk]
    refine List.filter_congr fun j _ => ?_
    by_cases e : j = k
    · subst e
      simp [hr, he]
    · simp [ho j e, e]
  rw [overrun, h]
  rfl

theorem benchFinishDeadline_faults (s b : State) (t k : Nat) (hb : b = s.begin t) (hp : b.lagged.atPoint 2 (b.kO - 8) = true) (hk : k < 16)
    (hr : (b.bench k).running = true) (he : (b.bench k).ended = false) (ho : ∀ j, j ≠ k → (b.bench j).running = false) :
    Gives (.benchFinishDeadline t) s [.bnc, .bal, .pts] fun u => u.bnc.flt = setBit s.bnc.flt 31 ∧ u.bnc.fltBench = k ∧ u.bnc.fltCnt = sat32 s.bnc.fltCnt 1 ∧
      (u.bench k).running = false ∧ (u.bench k).withheld = true := by
  subst hb
  have hlag : (s.begin t).lagged.bnc = s.bnc := lagged_same _ .bnc (by decide)
  have hbench : ∀ j, ((s.begin t).lagged.reach 2).bench j = (s.begin t).bench j := fun j => bench_of hlag
  have hone : ((s.begin t).lagged.reach 2).overrun = ((s.begin t).lagged.reach 2).benchFault k 31 true :=
    overrun_one hk (by rw [hbench, hr]) (by rw [hbench, he]) fun j hj => by rw [hbench, ho j hj]
  have hlen : k < ((s.begin t).lagged.reach 2).bnc.benches.length := by
    rw [reach_bnc, hlag]
    exact lt_of_getD (fun x : Bench => x.running = true) hr (by decide)
  have hw : (((s.begin t).lagged.reach 2).overrun.ranksDue).bnc = (((s.begin t).lagged.reach 2).benchFault k 31 true).bnc := by
    rw [hone]
    exact (by simp : Frame 65536 _ (((s.begin t).lagged.reach 2).benchFault k 31 true).ranksDue).keeps .bnc rfl
  refine lagGives (m := 268533760) rfl hp (by simp) rfl rfl fun a p q => ?_
  have hu : (noteSets a (finish p q (unlag s.ofs (((s.begin t).lagged.reach 2).overrun.ranksDue)))).bnc = (((s.begin t).lagged.reach 2).benchFault k 31 true).bnc := by
    rw [noteSets_bnc, finish_bnc]
    exact hw
  have hk' : (((s.begin t).lagged.reach 2).benchFault k 31 true).bench k = { ((s.begin t).lagged.reach 2).bench k with
      withheld := true, running := false, last := (((s.begin t).lagged.reach 2).bench k).cyc } := by
    refine (bench_of (w := ((s.begin t).lagged.reach 2).onBench k _) rfl).trans ((bench_onBench hlen).trans ?_)
    simp
  rw [bench_of hu, hk', hu]
  simp [benchFault, onBench, hlag, Nat.mod_eq_of_lt hk]

/-- A faulty period and another of the last fifteen escalate. -/
theorem twoBadPeriods {z : State} (hbad : z.bnc.bad = true) (hh : z.bnc.hist.any id = true) :
    2 ≤ ((z.bnc.bad :: z.bnc.hist).filter id).length := by
  obtain ⟨x, hx, h⟩ := List.any_eq_true.mp hh
  have : 0 < (z.bnc.hist.filter id).length := List.length_pos_of_mem (List.mem_filter.mpr ⟨hx, h⟩)
  simp only [hbad, List.filter_cons, id, if_true, List.length_cons]
  omega

theorem benchFaultEscalation_inactive (s b : State) (t : Nat) (hb : b = s.begin t) (he : b.bnc.escalated = false) (hbad : b.bnc.bad = true)
    (hh : b.bnc.hist.any id = true) (hr : b.role ≠ 1) :
    Gives (.benchFaultEscalation t) s [.bnc, .modeQ] fun u => u.bnc = { s.bnc with
      escalated := true } ∧ u.modeQ = { s.modeQ with
      causes := s.modeQ.causes ++ [(4, s.bnc.fltBench)] } := by
  subst hb
  exact gives_if (m := 557056) rfl (by simp only [he, decide_eq_true (twoBadPeriods hbad hh)]; rfl) (heartbeatStop_inactive hr) (by simp [cause]) rfl fun _ _ _ => by simp [cause]

theorem benchFaultEscalation_active (s b : State) (t : Nat) (hb : b = s.begin t) (he : b.bnc.escalated = false) (hbad : b.bnc.bad = true)
    (hh : b.bnc.hist.any id = true) (hr : b.role = 1) (hc : b.activeCovered = false) :
    Gives (.benchFaultEscalation t) s [.bnc, .modeQ, .pair] fun u => u.bnc = { s.bnc with
      escalated := true } ∧ u.modeQ = { s.modeQ with
      causes := s.modeQ.causes ++ [(4, s.bnc.fltBench)] } ∧ u.pair = { s.pair with
      heartbeat := false } := by
  subst hb
  have hs : ∀ f n, ((s.begin t).onBnc f).heartbeatStop 4 n = (((s.begin t).onBnc f).onPair fun p => { p with heartbeat := false }).cause 4 n := fun f n => by
    have hr' : ((s.begin t).onBnc f).role = 1 := hr
    have hc' : ((s.begin t).onBnc f).activeCovered = false := hc
    simp [heartbeatStop, hr', hc']
  exact gives_if (m := 17334272) rfl (by simp only [he, decide_eq_true (twoBadPeriods hbad hh)]; rfl) (hs _ _) (by simp [cause]) rfl fun _ _ _ => by simp [cause]

/-! ## Interpolation (R350 to R354) -/

/-- The pass over one table whose variables are finite, with no coefficients waiting and no table entry lost. -/
theorem interp_one {g : GainTable} {z : State} (hg : z.cfg.gains = [g]) (hv : z.gainVarsOk g = true) (hn : z.bnc.gsNext = []) (ht : z.bal.tblAt ≠ z.absPer) :
    z.interp = z.onBnc fun x => { x with gsNext := z.gainTable g, gsPer := z.perPlus 1, gsLast := 40 + (g.k + 3) / 4, gsRun := true } := by
  have ht' : ∀ f, ((z.onBnc f).bal.tblAt = (z.onBnc f).absPer) = False := fun _ => eq_false ht
  have hok : [g].filter z.gainVarsOk = [g] := by rw [List.filter_cons_of_pos hv, List.filter_nil]
  have hbad : [g].filter (fun t => !z.gainVarsOk t) = [] := by rw [List.filter_cons_of_neg (by simp [hv]), List.filter_nil]
  simp only [interp, gainsApply_nil hn, hg, hok, hbad, ht', if_false, List.flatMap_singleton, List.foldl, Nat.zero_add, each]

theorem interpStart_passes (s b : State) (t : Nat) (g : GainTable) (hb : b = s.begin t) (hp : b.atPoint 6 80 = true) (h0 : b.reached 0 = true)
    (hg : b.cfg.gains = [g]) (hv : b.gainVarsOk g = true) (hn : b.bnc.gsNext = []) (ht : b.bal.tblAt ≠ b.absPer) :
    Gives (.interpStart t) s [.bnc, .pts] fun u => u.bnc = { s.bnc with
      gsNext := b.gainTable g, gsPer := b.perPlus 1, gsLast := 40 + (g.k + 3) / 4, gsRun := true } := by
  subst hb
  exact gives_if (m := 268468224) rfl (by simp only [hp, h0]; rfl) (interp_one (z := (s.begin t).reach 6) hg hv hn ht) (by simp) rfl fun _ _ _ => by
    simp only [noteSets_bnc, finish_bnc]
    rfl

theorem interpDeadline_inTime (s b : State) (t : Nat) (hb : b = s.begin t) (hp : b.atPoint 7 (b.kF - 160) = true) (hr : b.bnc.gsRun = true) :
    Gives (.interpDeadline t []) s [.bnc, .pts] fun u => u.bnc = { s.bnc with
      gsRun := false } := by
  subst hb
  refine tight (m := 268468224) rfl (by simp only [hp, hr]; rfl) (by simp) rfl fun _ _ _ => ?_
  simp [each]

theorem interpDeadline_late (s b : State) (t n : Nat) (hb : b = s.begin t) (hp : b.atPoint 7 (b.kF - 160) = true) (hr : b.bnc.gsRun = true)
    (hn : (b.bnc.gsNext.any fun y => y.1 == n) = true) :
    Gives (.interpDeadline t [n]) s [.bnc, .pts] fun u => u.bnc = { s.bnc with
      gsRun := false, gsNext := s.bnc.gsNext.filter fun y => y.1 != n, flt := setBit s.bnc.flt 26, fltTable := n } := by
  subst hb
  have hl : (([n] : List Nat).filter fun n => ((s.begin t).reach 7).bnc.gsNext.any (·.1 == n)) = [n] := by
    exact List.filter_eq_self.mpr fun m hm => by rw [List.mem_singleton.mp hm]; exact hn
  have hkeep : s.bnc.gsNext.filter (fun y => !([n].contains y.1)) = s.bnc.gsNext.filter fun y => y.1 != n :=
    List.filter_congr fun y _ => by
      rw [List.contains_cons, List.contains_nil, Bool.or_false]
      rfl
  refine tight (m := 268468224) rfl (by simp only [hp, hr]; rfl) (by simp) rfl fun _ _ _ => ?_
  dsimp only
  rw [noteSets_bnc, finish_bnc, ← hkeep, hl]
  rfl

theorem traceDone_done (s b : State) (t : Nat) (hb : b = s.begin t) (hs : b.bnc.trace.st = 2) (hl : b.bnc.trace.left = 0) :
    Gives (.traceDone t) s [.bnc] fun u => u.bnc.trace = { s.bnc.trace with
      st := 3, doneEvt := true } := by
  subst hb
  exact tight (m := 32768) rfl (by simp only [hs, hl]; rfl) (by simp [onTrace]) rfl fun _ _ _ => by simp [onTrace]

/-! ## Loop commands (R345 to R348, R365) -/

/-- A loop command waits for the next bench start, and changes of the benches what its step before did. -/
theorem loopQueue_bnc {c : LoopCmd} {z : State} : (loopQueue c z).1.bnc = { z.bnc with cmds := z.bnc.cmds ++ [(z.perPlus 1, c)] } := rfl

theorem loopOpen_waits (s b : State) (t l m : Nat) (h : RecHdr) (ha : Accepts cmdLoopOpen h (le 1 l ++ le 1 m ++ le 2 0) (s.begin t)) (hb : b = s.begin t)
    (hl : l < 32) (hm : m < 2) :
    Gives (.loopOpen t h l m) s ([.host, .jnl, .bnc] ++ s.heldParts) fun u => u.bnc = { (b.onLoop l fun x => { x with cmdOpen := true }).bnc with
      cmds := s.bnc.cmds ++ [(b.perPlus 1, .open_ l (m == 1))] } := by
  subst hb
  refine ha.gives0 (m := 32768) rfl rfl (fun v => by simp [cmdLoopOpen, onLoop]) rfl rfl fun x j u _ hu => ?_
  have hloop : field (le 1 l ++ le 1 m ++ le 2 0) 0 1 = l := by rw [List.append_assoc, field_le_of_lt (by omega)]
  have hsrc : field (le 1 l ++ le 1 m ++ le 2 0) 1 1 = m := by
    rw [List.append_assoc, field_skip _ _ _ _ _ (by decide)]
    exact field_le_of_lt (by omega)
  rw [hu.wide.keeps .bnc rfl]
  simp only [cmdLoopOpen, loopQueue_bnc, hloop, hsrc]
  rfl

theorem loopClose_waits (s b : State) (t l : Nat) (h : RecHdr) (ha : Accepts cmdLoopClose h (le 1 l ++ le 3 0) (s.begin t)) (hb : b = s.begin t) (hl : l < 32) :
    Gives (.loopClose t h l) s ([.host, .jnl, .bnc] ++ s.heldParts) fun u => u.bnc = { (b.onLoop l fun x => { x with cmdOpen := false }).bnc with
      cmds := s.bnc.cmds ++ [(b.perPlus 1, .close l)] } := by
  subst hb
  refine ha.gives0 (m := 32768) rfl rfl (fun v => by simp [cmdLoopClose, onLoop]) rfl rfl fun x j u _ hu => ?_
  have hloop : field (le 1 l ++ le 3 0) 0 1 = l := field_le_of_lt (by omega)
  rw [hu.wide.keeps .bnc rfl]
  simp only [cmdLoopClose, loopQueue_bnc, hloop]
  rfl

theorem loopManual_waits (s b : State) (t l : Nat) (v : List Word) (h : RecHdr)
    (ha : Accepts cmdLoopManual h (le 1 l ++ le 3 0 ++ v.flatMap fun w => le 4 w.toNat) (s.begin t)) (hb : b = s.begin t) (hl : l < 32) :
    Gives (.loopManual t h l v) s ([.host, .jnl, .bnc] ++ s.heldParts) fun u => u.bnc = { s.bnc with
      cmds := s.bnc.cmds ++ [(b.perPlus 1, .manual l v)] } := by
  subst hb
  refine ha.gives0 (m := 32768) rfl rfl (fun v => by simp [cmdLoopManual]) rfl rfl fun x j u _ hu => ?_
  have hloop : field (le 1 l ++ le 3 0 ++ v.flatMap fun w => le 4 w.toNat) 0 1 = l := by rw [List.append_assoc, field_le_of_lt (by omega)]
  have hvals : payWords (le 1 l ++ le 3 0 ++ v.flatMap fun w => le 4 w.toNat) 4 = v := by simpa using payWords_eq (le 1 l ++ le 3 0) v
  rw [hu.wide.keeps .bnc rfl]
  simp only [cmdLoopManual, loopQueue_bnc, hloop, hvals]
  rfl

theorem coefWrite_waits (s b : State) (t l i : Nat) (v : List Word) (h : RecHdr) (d : LoopDecl)
    (ha : Accepts cmdCoefWrite h (le 1 l ++ le 1 0 ++ le 2 i ++ v.flatMap fun w => le 4 w.toNat) (s.begin t)) (hb : b = s.begin t) (hl : l < 32) (hi : i < 512)
    (hd : b.loopDecl l = some d) :
    Gives (.coefWrite t h l i v) s ([.host, .jnl, .bnc] ++ s.heldParts) fun u => u.bnc = { s.bnc with
      cmds := s.bnc.cmds ++ [(b.perPlus 1, .coef d.bench i v)] } := by
  subst hb
  refine ha.gives0 (m := 32768) rfl rfl (fun v => by simp [cmdCoefWrite]) rfl rfl fun x j u _ hu => ?_
  obtain ⟨hloop, hidx, hvals⟩ := stageFields (g := l) (o := i) (v := v) (by omega) (by omega)
  have hdecl : ((s.begin t).withHJ x j).loopDecl l = some d := hd
  rw [hu.wide.keeps .bnc rfl]
  simp only [cmdCoefWrite, loopQueue_bnc, hloop, hidx, hvals, hdecl]
  rfl

theorem rcCtl_waits (s b : State) (t l a : Nat) (h : RecHdr) (ha : Accepts cmdRcCtl h (le 1 l ++ le 1 a ++ le 2 0) (s.begin t)) (hb : b = s.begin t)
    (hl : l < 32) (hr : a < 4) :
    Gives (.rcCtl t h l a) s ([.host, .jnl, .bnc] ++ s.heldParts) fun u => u.bnc = { s.bnc with
      cmds := s.bnc.cmds ++ [(b.perPlus 1, .rc l a)] } := by
  subst hb
  refine ha.gives0 (m := 32768) rfl rfl (fun v => by simp [cmdRcCtl]) rfl rfl fun x j u _ hu => ?_
  have hloop : field (le 1 l ++ le 1 a ++ le 2 0) 0 1 = l := by rw [List.append_assoc, field_le_of_lt (by omega)]
  have hact : field (le 1 l ++ le 1 a ++ le 2 0) 1 1 = a := by
    rw [List.append_assoc, field_skip _ _ _ _ _ (by decide)]
    exact field_le_of_lt (by omega)
  rw [hu.wide.keeps .bnc rfl]
  simp only [cmdRcCtl, loopQueue_bnc, hloop, hact]
  rfl

/-! ## Trace commands (R361, R366) -/

theorem traceArm_arms (s b : State) (t : Nat) (h : RecHdr) (ha : Accepts cmdTraceArm h [] (s.begin t)) (hb : b = s.begin t) :
    Gives (.traceArm t h) s ([.host, .jnl, .bnc] ++ s.heldParts) fun u => u.bnc.trace = { s.bnc.trace with
      st := 1, rows := [], count := 0, nArm := b.per, left := 0, force := false, evFault := false, evTrip := false
      evMode := false, lastLvl := none, probes := (State.probesOn s.bnc.trace).length, trigRow := 0 } := by
  subst hb
  refine ha.gives0 (m := 32768) rfl rfl (fun v => by simp [cmdTraceArm, onTrace]) rfl rfl fun x j u _ hu => ?_
  rw [hu.wide.keeps .bnc rfl]
  rfl

theorem traceStop_stops (s : State) (t : Nat) (h : RecHdr) (ha : Accepts cmdTraceStop h [] (s.begin t)) :
    Gives (.traceStop t h) s ([.host, .jnl, .bnc] ++ s.heldParts) fun u => u.bnc.trace = { s.bnc.trace with
      st := 4 } := by
  refine ha.gives0 (m := 32768) rfl rfl (fun v => by simp [cmdTraceStop, onTrace]) rfl rfl fun x j u _ hu => ?_
  rw [hu.wide.keeps .bnc rfl]
  rfl

theorem traceForce_forces (s : State) (t : Nat) (h : RecHdr) (ha : Accepts cmdTraceForce h [] (s.begin t)) :
    Gives (.traceForce t h) s ([.host, .jnl, .bnc] ++ s.heldParts) fun u => u.bnc.trace = { s.bnc.trace with
      force := true } := by
  refine ha.gives0 (m := 32768) rfl rfl (fun v => by simp [cmdTraceForce, onTrace]) rfl rfl fun x j u _ hu => ?_
  rw [hu.wide.keeps .bnc rfl]
  rfl

/-- Settles O30: each row by its own lemma. -/
theorem benchesLoopsAndTrace : Obligations.BenchesLoopsAndTrace :=
  ⟨benchStart_begins, benchFinishDeadline_faults, benchFaultEscalation_inactive, benchFaultEscalation_active, interpStart_passes, interpDeadline_inTime,
    interpDeadline_late, traceDone_done, loopOpen_waits, loopClose_waits, loopManual_waits, coefWrite_waits, rcCtl_waits, traceArm_arms, traceStop_stops,
    traceForce_forces⟩

end Sys2Proof.Machine

/-! PROOFS. Errors of on-chip memory, the scrub, the sample latch and the output phase (R29, R30, R37, R39, R334, R513, R712 to R714). -/
namespace Sys2Proof.Machine
open State

/-! ## Uncorrectable errors (R29, R30, R712 to R714) -/

section
variable {r k o : Nat} {z : State}

theorem eccBad_corrupt {y : Bytes} : ∃ x : Image.Bad, eccBad y o = some x ∧ x.st ≠ 5 := ⟨_, rfl, (by decide : (2 : Nat) ≠ 5)⟩
theorem valEcc_gpio : GpioSame z (z.valEcc o) := by
  unfold valEcc
  split
  · next v _ =>
    obtain ⟨x, hx, hst⟩ := eccBad_corrupt (o := o) (y := (z.valBytes v).1)
    rw [hx]
    exact valEnds_gpio hst
  · exact .of_frame (m := 0) (by simp) rfl
theorem workEcc_gpio : GpioSame z (z.workEcc o) := by
  unfold workEcc
  extract_lets n y
  split
  · have hreason : GpioSame z (z.imgReason (eccBad y o)) := .of_frame (m := 256) (by simp) rfl
    obtain ⟨g, hg⟩ := hreason.trans (hostWait_gpio (n := 2))
    exact ⟨g, hg⟩
  · split
    · exact valEcc_gpio
    · exact .of_frame (m := 256) (by simp) rfl
theorem GpioSame.ite {c : Prop} [Decidable c] {u w : State} (hu : GpioSame z u) (hw : GpioSame z w) : GpioSame z (if c then u else w) := by
  split
  · exact hu
  · exact hw
theorem bufferEcc_gpio : GpioSame z (z.bufferEcc o) :=
  .ite valEcc_gpio (.ite (.of_frame (m := 256) (by simp) rfl) (.of_frame (m := 264) (by simp) rfl))
/-- Only the working copy and the load buffer can bring HOST-WAIT and with it high-impedance GPIOs. -/
theorem regionEcc_sys (h2 : r ≠ 2) (h8 : r ≠ 8) : (z.regionEcc r k o).sys = z.sys := by
  have f : Frame 30406412 z (z.regionEcc r k o) := by
    unfold regionEcc
    split
    case h_3 => exact absurd rfl h2
    case h_9 => exact absurd rfl h8
    all_goals simp
  exact f.keeps .sys rfl
theorem regionEcc_gpio : GpioSame z (z.regionEcc r k o) := by
  by_cases h2 : r = 2
  · subst h2
    exact workEcc_gpio
  · by_cases h8 : r = 8
    · subst h8
      show GpioSame z (if z.img.bufOpen then z.bufferEcc o else z.traceEcc o)
      split
      · exact bufferEcc_gpio
      · exact .of_frame (m := 32768) (by simp) rfl
    · exact ⟨z.sys.gpioHiz, regionEcc_sys h2 h8⟩

/-- An error inside the image in force ends it. -/
theorem workEcc_ends (hf : z.inForce = true) (ho : o < z.img.workLen) : (z.workEcc o).inForce = false := by
  unfold workEcc
  simp only [hf, if_true, ho]
  exact hostWait_not
theorem loopTab_lost {l : Nat} (hl : l < z.bnc.loops.length) : ((z.onLoop l fun x => { x with tab := [] }).loopS l).tab = [] :=
  congrArg Loop.tab (getD_modAt hl)
theorem journalEcc_damages {e : JEntry} (he : z.jnl.ring.find? (fun e => e.index % 8192 == o) = some e) :
    (z.journalEcc o).jnl.dmg = e.index ∧ (z.journalEcc o).jnl.damaged = true ∧ ∀ x ∈ (z.journalEcc o).jnl.ring, x.index = e.index → x.damaged = true := by
  unfold journalEcc
  rw [he]
  refine ⟨rfl, rfl, fun x hx hi => ?_⟩
  obtain ⟨y, -, rfl⟩ := List.mem_map.mp hx
  by_cases hy : (y.index == e.index) = true
  · rw [if_pos hy]
  · rw [if_neg hy] at hi
    exact absurd (beq_iff_eq.mpr hi) hy
end

theorem inForce_told {z : State} {a : List (Nat × Nat)} {p q : Nat} : (noteSets a (finish p q z)).inForce = z.inForce := by
  simp only [inForce, noteSets_img, finish_img]
theorem loopS_told {z : State} {a : List (Nat × Nat)} {p q l : Nat} : (noteSets a (finish p q z)).loopS l = z.loopS l := by
  simp only [loopS, noteSets_bnc, finish_bnc]

theorem sramUncorrectableError_handled (s b : State) (t r k o : Nat) (hb : b = s.begin t) (hr : r < 14) (hd : b.pwr.dom.testBit (State.regionDom r - 1) = true) :
    Gives (.sramUncorrectableError t r k o) s
      [.ofs, .free, .sys, .pwr, .clk, .img, .host, .jnl, .lane, .seam, .edg, .comp, .bnc, .bal, .evs, .mode, .modeQ, .adc, .cmp, .safe, .mesh, .pair]
      fun u => u.sys = { s.sys with
        eccUe := true, ueCnt := sat32 s.sys.ueCnt 1, region := r, ueBench := if r < 2 then k % 16 else 0, ueOfs := o / 8 * 8 % 2 ^ 23, gpioHiz := u.sys.gpioHiz } ∧
      (r ≠ 2 → r ≠ 8 → u.sys.gpioHiz = s.sys.gpioHiz) ∧
      (r = 2 → b.inForce = true → o / 8 * 8 % 2 ^ 23 < b.img.workLen → u.inForce = false) ∧
      (r = 6 → (o / 8 * 8 % 2 ^ 23) / 16384 < b.bnc.loops.length → (u.loopS ((o / 8 * 8 % 2 ^ 23) / 16384)).tab = []) ∧
      (r = 7 → ∀ e, b.jnl.ring.find? (fun e => e.index % 8192 == (o / 8 * 8 % 2 ^ 23) / 64) = some e →
        u.jnl.dmg = e.index ∧ u.jnl.damaged = true ∧ ∀ x ∈ u.jnl.ring, x.index = e.index → x.damaged = true) ∧
      (r = 8 → b.img.bufOpen = false → u.bnc.trace.invalid = true) ∧
      (r = 9 → u.img.fwRun = false) := by
  subst hb
  refine execSramUncorrectableError_goes.givesIf rfl (by simp only [hd, decide_eq_true hr]; rfl) rfl fun a p q => ?_
  simp only [noteSets_sys, finish_sys, noteSets_jnl, finish_jnl, noteSets_bnc, finish_bnc, noteSets_img, finish_img,
    inForce_told, loopS_told]
  generalize ho : o / 8 * 8 % 2 ^ 23 = w
  have hue : sramUe r k o (s.begin t) = ((s.begin t).onSys fun y =>
      { y with eccUe := true, ueCnt := sat32 y.ueCnt 1, region := r, ueBench := if r < 2 then k % 16 else 0, ueOfs := w }).regionEcc r (k % 16) w := by
    rw [← ho]
    rfl
  rw [hue]
  refine ⟨?_, fun h2 h8 => ?_, fun h hf hw => ?_, fun h hl => ?_, fun h e he => ?_, fun h hc => ?_, fun h => ?_⟩
  · obtain ⟨g, hg⟩ := regionEcc_gpio (r := r) (k := k % 16) (o := w) (z := (s.begin t).onSys fun y =>
      { y with eccUe := true, ueCnt := sat32 y.ueCnt 1, region := r, ueBench := if r < 2 then k % 16 else 0, ueOfs := w })
    rw [hg]
    rfl
  · rw [regionEcc_sys h2 h8]
    rfl
  · subst h
    exact workEcc_ends (z := (s.begin t).onSys _) hf hw
  · subst h
    exact loopTab_lost (z := (s.begin t).onSys _) hl
  · subst h
    exact journalEcc_damages (z := (s.begin t).onSys _) he
  · subst h
    rw [regionEcc, if_neg (by rw [onSys_img, hc]; exact Bool.false_ne_true)]
    rfl
  · subst h
    rfl

/-! ## Corrected errors and the scrub (R30, R708, R712) -/

theorem sramCorrectedError_counted (s b : State) (t r k : Nat) (hb : b = s.begin t) (hr : r < 14) (hd : b.pwr.dom.testBit (State.regionDom r - 1) = true) :
    Gives (.sramCorrectedError t r k) s [.sys, .bnc] fun u => u.sys.eccCe = true ∧
      (r < 2 → u.bnc = (b.onBench (k % 16) fun q => { q with
        ecc := sat32 q.ecc 1 }).bnc ∧ u.sys.ceCnt = s.sys.ceCnt) ∧
      (2 ≤ r → u.bnc = s.bnc ∧ u.sys.ceCnt = sat32 s.sys.ceCnt 1 ∧ (4294967295 ≤ s.sys.ceCnt + 1 → u.sys.ceSat = true)) := by
  subst hb
  refine execSramCorrectedError_goes.givesIf rfl (by simp only [hd, decide_eq_true hr]; rfl) rfl fun a p q => ?_
  simp only [noteSets_sys, finish_sys, noteSets_bnc, finish_bnc]
  by_cases h : r < 2
  · simp only [sramCe, if_pos h]
    exact ⟨rfl, fun _ => ⟨rfl, rfl⟩, fun h' => absurd h' (by omega)⟩
  · simp only [sramCe, if_neg h]
    exact ⟨rfl, fun h' => absurd h' h, fun _ => ⟨rfl, rfl, fun hs => (Bool.or_eq_true _ _).mpr (.inr (decide_eq_true hs))⟩⟩

theorem scrubPass_counts (s b : State) (t : Nat) (hb : b = s.begin t) (hd : b.pwr.dom.testBit 4 = true) (hp : b.pwr.st < 2) :
    Gives (.scrubPass t) s [.sys] fun u => u.sys = { s.sys with
      scrub := (s.sys.scrub + 1) % 2 ^ 32, scrubLate := s.sys.scrubLate || decide (s.sys.scrubAt + Config.sec < b.now), scrubAt := max b.now t } := by
  subst hb
  refine execScrubPass_goes.givesIf rfl (by simp only [hd, decide_eq_true hp]; rfl) rfl fun a p q => ?_
  have hnow : max (s.begin t).now t = max s.now t := by rw [begin_now, max_assoc, max_self]
  rw [noteSets_sys, finish_sys, hnow]
  rfl

/-! ## The sample latch (R37, R338, R513, R552, R603) -/

/-- What the latch measures. -/
def State.measured (s : State) : State := (s.cellsLatch.modelCells.latchAdc).cmpWords.varsLatch
/-- The latch up to the end of the period before. -/
def State.beforeTick (s : State) : State := s.measured.modeLatch.balLatch.inputsLatch.benchesClose
section
variable {z : State}

/-- The test pulse runs on its group while its overlay is in force. -/
theorem modeLatch_tpRun : z.modeLatch.modeQ.tpRun = if z.modeLatch.modeQ.ovl.testBit 2 then some z.modeLatch.modeQ.tpGroup else none := by
  unfold modeLatch
  simp only [onModeQ_modeQ]
theorem beforeTick_modeQ : z.beforeTick.modeQ = z.measured.modeLatch.modeQ := by
  have f : Frame 98304 z.measured.modeLatch z.beforeTick := by simp [beforeTick]
  exact f.keeps .modeQ rfl
theorem beforeTick_now : z.beforeTick.now = z.now := by
  have f : Frame 33554092 z z.beforeTick := by simp [beforeTick, measured]
  exact f.keeps .now rfl
theorem latch_eq : z.latch = if z.beforeTick.periodTick.healthLatch.role = 1 ∧ z.beforeTick.periodTick.healthLatch.pair.heartbeat = true then
    z.beforeTick.periodTick.healthLatch.pairSend (.input z.beforeTick.periodTick.healthLatch.inputSet) else z.beforeTick.periodTick.healthLatch := by
  unfold latch beforeTick measured
  rfl
theorem periodTick_safe : z.periodTick.safe = { z.safe with tickAt := z.now } := rfl
theorem periodTick_bnc : z.periodTick.bnc = { z.bnc with hist := (z.bnc.bad :: z.bnc.hist).take 15, bad := false, meshNew := [] } := rfl
theorem periodTick_modeQ : z.periodTick.modeQ = z.modeQ := rfl
/-- What follows the tick touches no part that it writes. -/
theorem latch_afterTick : Frame 16908292 z.beforeTick.periodTick z.latch := by
  rw [latch_eq]
  exact Frame.ite.mpr ⟨fun _ => by simp, fun _ => by simp⟩
end

theorem sampleLatch_latches (s b : State) (t : Nat) (hb : b = s.begin t) (ha : b.atPoint 0 0 = true) :
    Gives (.sampleLatch t) s [.free, .sys, .clk, .host, .jnl, .lane, .seam, .edg, .comp, .bnc, .bal, .evs, .mode, .modeQ, .adc, .cmp, .safe, .mesh, .pair, .pts] fun u =>
      u.safe.tickAt = b.now ∧ u.bnc.bad = false ∧ u.bnc.meshNew = [] ∧
      u.modeQ.tpRun = if u.modeQ.ovl.testBit 2 then some u.modeQ.tpGroup else none := by
  subst hb
  refine execSampleLatch_goes.givesIf rfl ha rfl fun a p q => ?_
  have hsafe : ((s.begin t).reach 0).latch.safe = ((s.begin t).reach 0).beforeTick.periodTick.safe := latch_afterTick.keeps .safe rfl
  have hbnc : ((s.begin t).reach 0).latch.bnc = ((s.begin t).reach 0).beforeTick.periodTick.bnc := latch_afterTick.keeps .bnc rfl
  have hmode : ((s.begin t).reach 0).latch.modeQ = ((s.begin t).reach 0).beforeTick.periodTick.modeQ := latch_afterTick.keeps .modeQ rfl
  simp only [noteSets_safe, finish_safe, noteSets_bnc, finish_bnc, noteSets_modeQ, finish_modeQ, hsafe, hbnc, hmode,
    periodTick_safe, periodTick_bnc, periodTick_modeQ, beforeTick_now, beforeTick_modeQ]
  exact ⟨rfl, trivial, trivial, modeLatch_tpRun⟩

/-! ## The output phase (R39, R334, R377) -/

theorem each_benchRelease_other {k : Nat} {l : List Nat} {z : State} (h : k ∉ l) : (each l benchRelease z).bench k = z.bench k :=
  each_keeps (fun w => w.bench k = z.bench k) l benchRelease z rfl fun c hc _ hw => (benchRelease_other (fun e : c = k => h (e ▸ hc))).trans hw
/-- Each bench releases once, whatever benches release before and after it. -/
theorem each_benchRelease_own {k : Nat} {l : List Nat} {z : State} (hn : l.Nodup) (hm : k ∈ l) (hr : z.releases k = true)
    (hc : ∀ d ∈ z.cfg.loops, d.bench = k → (z.loopS d.num).st ≠ 1) (hk : k < z.bnc.benches.length) :
    ((each l benchRelease z).bench k).rel = Sparse.gets 0 (z.bench k).mem 0x2000 512 := by
  induction l generalizing z with
  | nil => cases hm
  | cons c l ih =>
    obtain ⟨hcl, hn⟩ := List.nodup_cons.mp hn
    by_cases e : c = k
    · subst e
      exact (congrArg Bench.rel (each_benchRelease_other hcl)).trans (benchRelease_own hr hc hk)
    · have same : RelSame k z (benchRelease c z) := benchRelease_same
      have hcfg : (benchRelease c z).cfg = z.cfg := congrArg (fun i : Img => i.desc.getD {}) same.2.1
      have hmem : ((benchRelease c z).bench k).mem = (z.bench k).mem := congrArg Bench.mem (benchRelease_other e)
      rw [← hmem]
      refine ih hn ((List.mem_cons.mp hm).resolve_left (Ne.symm e)) (same.releases.trans hr) (fun d hd hb => ?_) (by rw [benchRelease_length]; exact hk)
      rw [loop_st same.2.2.1]
      exact hc d (hcfg ▸ hd) hb

theorem traceRow_benches {z : State} : z.traceRow.bnc.benches = z.bnc.benches := by
  unfold traceRow
  extract_lets t row rt v trig
  split <;> rfl
/-- After the releases, the output phase leaves the benches alone. -/
theorem outPhase_bench {k : Nat} {z : State} : z.outPhase.bench k = (each (List.range 16) benchRelease z).bench k := by
  unfold outPhase
  extract_lets a1 frames a2
  have f2 : Frame 8478732 a1 a2 := by
    simp only [a2]
    refine Frame.ite.mpr ⟨fun _ => by simp, fun _ => ?_⟩
    simp
  unfold bench
  rw [traceRow_benches, show a2.bnc = a1.bnc from f2.keeps .bnc rfl]

theorem balRelease_released {z : State} : z.balRelease.bal.released = maskOf 16 (z.arms.filter fun a => (z.arm a).rank.isSome).contains := by
  unfold balRelease
  extract_lets done s1
  refine each_val (fun w => w.bal.released) done _ s1 fun a w => ?_
  exact each_val (fun w => w.bal.released) _ _ _ fun _ _ => rfl

theorem cfg_of {u w : State} (h : u.img = w.img) : u.cfg = w.cfg := congrArg (fun i : Img => i.desc.getD {}) h
theorem standby_of {u w : State} (hi : u.img = w.img) (hp : u.pair = w.pair) : u.standby = w.standby := by
  unfold standby role
  rw [cfg_of hi, hp]
/-- The arms whose ranking is there: a function of the image in force and the arms' state. -/
theorem ranked_of {u w : State} (hi : u.img = w.img) (hb : u.bal = w.bal) :
    u.arms.filter (fun a => (u.arm a).rank.isSome) = w.arms.filter fun a => (w.arm a).rank.isSome := by
  have hon : u.armOn = w.armOn := funext fun a => by rw [armOn, armOn, cfg_of hi]
  have harm : u.arm = w.arm := funext fun a => by rw [arm, arm, hb]
  rw [arms, arms, hon, harm]

theorem outPhase_released {z : State} (h : z.standby = false) :
    z.outPhase.bal.released = maskOf 16 (z.arms.filter fun a => (z.arm a).rank.isSome).contains := by
  unfold outPhase
  extract_lets a1 frames a2
  have f1 : Frame 32768 z a1 := by simp [a1]
  have hs : a1.standby = false := (standby_of (f1.keeps .img rfl) (f1.keeps .pair rfl)).trans h
  have ha2 : a2 = (each frames (fun x s => s.meshSend x.1 3 0 x.2) (each a1.benchCommits commit a1)).balRelease := if_neg (by rw [hs]; exact Bool.false_ne_true)
  have f3 : Frame 8429580 z (each frames (fun x s => s.meshSend x.1 3 0 x.2) (each a1.benchCommits commit a1)) := by simp [a1]
  have htrace : a2.traceRow.bal = a2.bal := (by simp : Frame 32768 a2 a2.traceRow).keeps .bal rfl
  rw [htrace, ha2, balRelease_released, ranked_of (f3.keeps .img rfl) (f3.keeps .bal rfl)]

theorem unlag_bal {z : State} {n : Nat} : (unlag n z).bal = z.bal := rfl
theorem unlag_bench {z : State} {n k : Nat} : (unlag n z).bench k = z.bench k := rfl
theorem bench_told {z : State} {a : List (Nat × Nat)} {p q k : Nat} : (noteSets a (finish p q z)).bench k = z.bench k :=
  bench_of (by rw [noteSets_bnc, finish_bnc])

theorem outputPhase_releases (s b : State) (t : Nat) (hb : b = s.begin t) (ha : b.lagged.atPoint 3 b.kO = true) :
    Gives (.outputPhase t) s [.free, .edg, .comp, .bnc, .bal, .mesh, .pts] fun u =>
      (∀ k, k < 16 → b.releases k = true → (∀ d ∈ b.cfg.loops, d.bench = k → (b.loopS d.num).st ≠ 1) →
        (u.bench k).rel = Sparse.gets 0 (b.bench k).mem 0x2000 512) ∧
      (b.standby = false → u.bal.released = maskOf 16 (b.arms.filter fun a => (b.arm a).rank.isSome).contains) := by
  subst hb
  refine lagGives (m := 276946956) rfl ha (by simp) rfl rfl fun a p q => ?_
  have hlag : ∀ p : Part, p ≠ .ofs → p.same (s.begin t) (s.begin t).lagged := State.lagged_same _
  have hbnc : ((s.begin t).lagged.reach 3).bnc = (s.begin t).bnc := hlag .bnc (by decide)
  have hpwr : ((s.begin t).lagged.reach 3).pwr = (s.begin t).pwr := hlag .pwr (by decide)
  have himg : ((s.begin t).lagged.reach 3).img = (s.begin t).img := hlag .img (by decide)
  have hbal : ((s.begin t).lagged.reach 3).bal = (s.begin t).bal := hlag .bal (by decide)
  have hpair : ((s.begin t).lagged.reach 3).pair = (s.begin t).pair := hlag .pair (by decide)
  have hbench : ∀ k, ((s.begin t).lagged.reach 3).bench k = (s.begin t).bench k := fun _ => bench_of hbnc
  refine ⟨fun k hk hr hc => ?_, fun hs => ?_⟩
  · have hr' : ((s.begin t).lagged.reach 3).releases k = true := by
      rw [← hr]
      simp only [releases, benchOn, benchDecl, cfg_of himg, hpwr, hbench]
    have hended : ((s.begin t).bench k).ended = true := by
      simp only [releases, Bool.and_eq_true] at hr
      exact hr.1.1.2
    have hlen : k < ((s.begin t).lagged.reach 3).bnc.benches.length := by
      rw [hbnc]
      exact lt_of_getD (fun x : Bench => x.ended = true) hended (by decide)
    have hout : ((((s.begin t).lagged.reach 3).outPhase).bench k).rel = Sparse.gets 0 ((s.begin t).bench k).mem 0x2000 512 := by
      rw [outPhase_bench, ← hbench]
      refine each_benchRelease_own List.nodup_range (List.mem_range.mpr hk) hr' (fun d hd hb => ?_) hlen
      rw [loopS, hbnc]
      exact hc d (cfg_of himg ▸ hd) hb
    rw [bench_told, unlag_bench, hout]
  · rw [noteSets_bal, finish_bal, unlag_bal]
    exact (outPhase_released ((standby_of himg hpair).trans hs)).trans (by rw [ranked_of himg hbal])

/-- Settles O16: each row by its own lemma. -/
theorem memoryErrorsAndThePeriod : Obligations.MemoryErrorsAndThePeriod :=
  ⟨sramUncorrectableError_handled, sramCorrectedError_counted, scrubPass_counts, sampleLatch_latches, outputPhase_releases⟩

end Sys2Proof.Machine

/-! PROOFS. The key fuses through every step (R72). -/
namespace Sys2Proof.Machine

/-- What R72 asks of two states: a key in force stays one that has been fused, and what has been fused stays fused. -/
def FusesKept (s u : State) : Prop := u.keyed = s.keyed ∧ ∀ k, s.sys.fused = some k → u.sys.fused = some k

theorem Frame.fusesKept {m : Nat} {s u : State} (h : Frame m s u) (hf : m.testBit Part.fuse.num = false) (hk : m.testBit Part.keyed.num = false) : FusesKept s u :=
  ⟨h.keeps .keyed hk, fun _ e => (h.keeps .fuse hf).trans e⟩

theorem Goes.frame {m : Nat} {s u : State} (h : Goes m s (.next u)) : Frame m s u := by
  cases h with
  | mk' _ hframe => exact hframe

/-- FUSE_PROG writes the key fuses only while they are empty; a key is in force only when they are not. -/
theorem execFuseProg_fusesKept {t : Nat} {key : Bytes} {vpp temp : Bool} {s u : State} (h : execFuseProg t key vpp temp s = .next u) : FusesKept s u := by
  have hgoes : Goes 33554469 s (.next u) := h ▸ execFuseProg_goes
  refine ⟨hgoes.frame.keeps .keyed rfl, fun k hk => ?_⟩
  cases h
  have hfull : (s.begin t).sys.fused.isNone = false := by rw [State.begin_sys, hk]; rfl
  rw [State.run_sys]
  simp only [State.onSys_sys, hfull, Bool.and_false, Bool.false_eq_true, if_false]
  exact hk

theorem exec_fusesKept {c : Instr} {s u : State} (h : exec c s = .next u) : FusesKept s u := by
  obtain ⟨t, key, vpp, temp, rfl⟩ | hgoes := every_goes c s
  · exact execFuseProg_fusesKept h
  · rw [h] at hgoes
    exact hgoes.frame.fusesKept rfl rfl

theorem portsSend_fusesKept {s : State} : FusesKept s s.portsSend :=
  (by simp : Frame 8388612 s s.portsSend).fusesKept rfl rfl

theorem step_fusesKept {s u : State} (h : step s = .next u) : FusesKept s u := by
  unfold step at h
  split at h
  · cases h
    exact portsSend_fusesKept
  · next rest _ => exact exec_fusesKept (s := { s with pending := rest }) h

/-- Settles O5: every command but FUSE_PROG leaves the key fuses alone, FUSE_PROG leaves fuses that are written, and an empty queue's step only sends. -/
theorem keyFusesAreKept : Obligations.KeyFusesAreKept := fun _ _ hkeyed hstep =>
  have ⟨hsame, hfused⟩ := step_fusesKept hstep
  ⟨hsame.trans hkeyed, hfused⟩

end Sys2Proof.Machine

/-! PROOFS. IMG_ID: read and written (R98). -/
namespace Sys2Proof.Machine
open State

section
variable {ifc : Iface} {src : Src} {b : State}

theorem regAt_imgId : b.regAt src 0x240008 = some { val := (if b.inForce then b.img.id else 0) % 2 ^ 32 } := by
  simp [regAt, regImg, rRO, M32]

theorem barOk_imgId : barOk 0x240008 4 = true := by decide

theorem imgId_serves (hv : b.viewed src 0x240008 = false) (hw : b.pwr.warm = false) (hd : b.domOn src 0x240008 = true) :
    Serves src 0x240008 { val := (if b.inForce then b.img.id else 0) % 2 ^ 32 } b :=
  ⟨by decide, hv, hw, hd, regAt_imgId⟩

/-- An interface's read of one register word sends its value. -/
theorem Serves.readBy {off : Nat} {r : Reg} (h : Serves ifc.src off r b) (hn : r.narrow = none) (hr : r.rd = none) (hbar : barOk off 4 = true) :
    b.readBy ifc off 4 = b.drawn.emit (.read (le 4 r.val)) := by
  simp only [State.readBy, hbar, h.here, Bool.not_true, Bool.false_eq_true, and_false, if_false, one_read h hn, hr]

/-- An interface's write of one read-only register word does nothing. -/
theorem Serves.writeBy_ro {off v : Nat} {r : Reg} (h : Serves ifc.src off r b) (hs : b.standby = false) (hr : r.wr = .ro) (hbar : barOk off 4 = true) :
    b.writeBy ifc off (le 4 v) = b := by
  simp only [State.writeBy, le_length, hbar, h.here, Bool.not_true, Bool.false_eq_true, and_false, if_false, one_write h, h.write hs, hr]
end

theorem imgId_reads (s b : State) (t : Nat) (ifc : Iface) (hb : b = s.begin t) (hv : b.viewed ifc.src 0x240008 = false) (hw : b.pwr.warm = false)
    (hd : b.domOn ifc.src 0x240008 = true) :
    Gives (.rcRead t ifc 0x240008 4) s [.free] fun u => Out.read (le 4 ((if b.inForce then b.img.id else 0) % 2 ^ 32)) ∈ u.out := by
  subst hb
  refine gives_as (m := 12) rfl ((imgId_serves hv hw hd).readBy rfl rfl barOk_imgId) (by simp) rfl fun _ _ _ => mem_told ?_
  rw [emit_out]
  exact List.mem_append_right _ (List.mem_singleton.mpr rfl)

theorem imgId_ignoresWrites (s b : State) (t v : Nat) (ifc : Iface) (hb : b = s.begin t) (hv : b.viewed ifc.src 0x240008 = false) (hw : b.pwr.warm = false)
    (hd : b.domOn ifc.src 0x240008 = true) (hs : b.standby = false) : Gives (.registerWrite t ifc 0x240008 4 v) s [] fun _ => True := by
  subst hb
  exact gives_as (m := 0) rfl ((imgId_serves hv hw hd).writeBy_ro hs rfl barOk_imgId) (by simp) rfl fun _ _ _ => trivial

/-- Settles O17: IMG_ID is a read-only register whose value is the image's identity while one is in force. -/
theorem imageIdRegister : Obligations.ImageIdRegister := fun s b t v ifc hb hv hw hd =>
  ⟨imgId_reads s b t ifc hb hv hw hd, imgId_ignoresWrites s b t v ifc hb hv hw hd⟩

end Sys2Proof.Machine

/-! PROOFS. The load buffer, the slots and the validations of an image (R54 to R58, R70, R73, R77 to R80, R85, R86, R94 to R99). -/
namespace Sys2Proof.Machine
open State

/-! ## Fields of the image commands' payloads (R11) -/

theorem wordField {k : Nat} (h : k < 2 ^ 32) : field (le 4 k) 0 4 = k := (field_only 4 k).trans (Nat.mod_eq_of_lt (by omega))
theorem wordFields {k n : Nat} (hk : k < 2 ^ 32) (hn : n < 2 ^ 32) : field (le 4 k ++ le 4 n) 0 4 = k ∧ field (le 4 k ++ le 4 n) 4 4 = n :=
  ⟨field_le_of_lt (by omega), (field_skip 4 k 4 4 (le 4 n) (by decide)).trans (wordField hn)⟩

/-! ## The states of slots (R58, R94, R95) -/

section
variable {k st : Nat} {z : State}

theorem slotSt_img_irq : (z.slotSt k st).imgIrq.img = { z.img with
    slotA := if k = 0 then st else z.img.slotA
    slotB := if k = 1 then st else z.img.slotB
    irq := true } := by
  obtain ⟨q, hq, -⟩ := slotSt_img (k := k) (x := st) (z := z)
  show { (z.slotSt k st).img with irq := true } = _
  rw [hq]

theorem putSlot_img {f : List Host.Cell} : (z.putSlot k f).img = { z.img with
    flashA := if k = 0 then f else z.img.flashA
    flashB := if k = 0 then z.img.flashB else f } := by
  by_cases h : k = 0
  · subst h; rfl
  · simp only [putSlot, onImg_img, if_neg h]

theorem slotMoved_img : (z.slotMoved k).img = { z.img with
    val := z.img.val.map fun v => { v with moved := v.moved || v.source == k }
    heldMoved := z.img.heldMoved || (match z.img.held with | some x => x.2.1 == k | none => false) } := rfl

/-- Programming a slot: what it stored is gone, and a check of it no longer gives its state. -/
theorem slotDropped_img : ((z.putSlot k []).slotMoved k).img = { z.img with
    val := z.img.val.map fun v => { v with moved := v.moved || v.source == k }
    heldMoved := z.img.heldMoved || (match z.img.held with | some x => x.2.1 == k | none => false)
    flashA := if k = 0 then [] else z.img.flashA
    flashB := if k = 0 then z.img.flashB else [] } :=
  slotMoved_img.trans (by rw [putSlot_img])

/-- The validation of a slot at boot, or of the other one under fallback, begins (R79, R80). -/
theorem bootStart_img {fell : Bool} : (z.bootStart k fell).img.run = 6 ∧
    (z.bootStart k fell).img.val = some { kind := 0, source := k, fell := fell, was := if k = 0 then z.img.slotA else z.img.slotB } ∧
    (k = 0 → (z.bootStart k fell).img.slotA = 6) ∧ (k = 1 → (z.bootStart k fell).img.slotB = 6) := by
  obtain ⟨q, hq, -⟩ := slotSt_img (k := k) (x := 6)
    (z := z.imgSts fun i => { i with run := 6, val := some { kind := 0, source := k, fell := fell, was := if k = 0 then i.slotA else i.slotB } })
  unfold bootStart
  rw [hq]
  exact ⟨rfl, rfl, fun h => if_pos h, fun h => if_pos h⟩
end

/-! ## The load buffer (R55) -/

theorem imgBufOpen_opens (s b : State) (t : Nat) (h : RecHdr) (ha : Accepts cmdImgBufOpen h [] (s.begin t)) (_ : b = s.begin t) :
    Gives (.imgBufOpen t h) s ([.img, .host, .jnl, .bnc] ++ s.heldParts) fun u => u.img = { s.img with
      bufOpen := true
      buf := [] } ∧ u.bnc.trace.st = 0 ∧ u.bnc.trace.rows = [] := by
  refine ha.gives0 (m := 33024) rfl rfl (fun v => by simp [cmdImgBufOpen]) rfl rfl fun x j u _ hu => ?_
  rw [hu.wide.keeps .img rfl, hu.wide.keeps .bnc rfl]
  exact ⟨rfl, rfl, rfl⟩

theorem imgBufClose_closes (s b : State) (t : Nat) (h : RecHdr) (ha : Accepts cmdImgBufClose h [] (s.begin t)) (_ : b = s.begin t) :
    Gives (.imgBufClose t h) s ([.img, .host, .jnl] ++ s.heldParts) fun u => u.img = { s.img with
      bufOpen := false
      buf := [] } := by
  refine ha.gives0 (m := 256) rfl rfl (fun v => by simp [cmdImgBufClose]) rfl rfl fun x j u _ hu => ?_
  rw [hu.wide.keeps .img rfl]
  rfl

/-! ## Slots erased and written (R54, R58) -/

theorem imgSlotErase_erases (s b : State) (t k : Nat) (h : RecHdr) (ha : Accepts cmdImgSlotErase h (le 4 k) (s.begin t)) (_ : b = s.begin t) (hk : k < 2 ^ 32) :
    Gives (.imgSlotErase t h k) s ([.img, .host, .jnl] ++ s.heldParts) fun u => u.img = { s.img with
      erasing := s.img.erasing ++ [k]
      val := s.img.val.map fun v => { v with moved := v.moved || v.source == k }
      heldMoved := s.img.heldMoved || (match s.img.held with | some x => x.2.1 == k | none => false)
      flashA := if k = 0 then [] else s.img.flashA
      flashB := if k = 0 then s.img.flashB else [] } := by
  refine ha.gives0 (m := 256) rfl rfl (fun v => by simp [cmdImgSlotErase]) rfl rfl fun x j u _ hu => ?_
  rw [hu.wide.keeps .img rfl]
  simp only [cmdImgSlotErase, wordField hk, onImg_img, slotDropped_img]
  rfl

theorem imgSlotWrite_writes (s b : State) (t k n : Nat) (h : RecHdr) (ha : Accepts cmdImgSlotWrite h (le 4 k ++ le 4 n) (s.begin t)) (_ : b = s.begin t)
    (hk : k < 2 ^ 32) (hn : n < 2 ^ 32) :
    Gives (.imgSlotWrite t h k n) s ([.img, .host, .jnl] ++ s.heldParts) fun u => u.img = { s.img with
      writing := s.img.writing ++ [(k, n, Sparse.within 0 n s.img.buf)]
      val := s.img.val.map fun v => { v with moved := v.moved || v.source == k }
      heldMoved := s.img.heldMoved || (match s.img.held with | some x => x.2.1 == k | none => false)
      flashA := if k = 0 then [] else s.img.flashA
      flashB := if k = 0 then s.img.flashB else [] } := by
  refine ha.gives0 (m := 256) rfl rfl (fun v => by simp [cmdImgSlotWrite]) rfl rfl fun x j u _ hu => ?_
  obtain ⟨hslot, hlen⟩ := wordFields hk hn
  rw [hu.wide.keeps .img rfl]
  simp only [cmdImgSlotWrite, hslot, hlen, onImg_img, slotDropped_img]
  rfl

theorem slotEraseDone_ends (s b : State) (t k : Nat) (_ : b = s.begin t) (he : s.img.erasing.contains k = true) :
    Gives (.slotEraseDone t k) s [.img] fun u => u.img = { s.img with
      erasing := s.img.erasing.filter (· != k)
      reason := 1
      slotA := if k = 0 then 0 else s.img.slotA
      slotB := if k = 1 then 0 else s.img.slotB
      irq := true } := by
  refine execSlotEraseDone_goes.givesIf rfl he rfl fun a p q => ?_
  rw [noteSets_img, finish_img, slotSt_img_irq]
  rfl

theorem imgReason_img {r : Option Image.Bad} {z : State} : (z.imgReason r).img = { z.img with
    reason := match r with | none => 0 | some x => x.reason
    diagSect := match r with | none => z.img.diagSect | some x => x.sect
    diagOfs := match r with | none => z.img.diagOfs | some x => x.ofs } := by
  cases r <;> rfl

/-- The state in which a slot holds what was written to it, commit record and all, and the write is counted (R53, R54). -/
def slotWritten (k : Nat) (f : List Host.Cell) (z : State) : State :=
  (z.putSlot k f).onImg fun i => { i with writing := i.writing.filter (·.1 != k), wcnt := i.wcnt.set k ((at' z.img.wcnt k 0 + 1) % M32) }
/-- The checks read neither the writes under way nor their counts. -/
theorem slotWritten_check {k src len : Nat} {f : List Host.Cell} {z : State} : (slotWritten k f z).imageCheck src len = (z.putSlot k f).imageCheck src len := rfl

theorem slotWritten_img {k : Nat} {f : List Host.Cell} {z : State} : (slotWritten k f z).img = { z.img with
    flashA := if k = 0 then f else z.img.flashA
    flashB := if k = 0 then z.img.flashB else f
    writing := z.img.writing.filter (·.1 != k)
    wcnt := z.img.wcnt.set k ((at' z.img.wcnt k 0 + 1) % M32) } := by
  rw [slotWritten, onImg_img, putSlot_img]

theorem slotWriteDone_ends (s b : State) (t k n : Nat) (c : List Host.Cell) (f : List Host.Cell) (hb : b = s.begin t)
    (hw : s.img.writing.find? (·.1 == k) = some (k, n, c)) (hk : k < 2)
    (hf : f = Sparse.putAll 0xFF (Image.cells 0xFF (State.cellBytes c 0 0 n)) 0x1FF000 (Image.commitRec n ((at' s.img.wcnt k 0 + 1) % M32))) :
    Gives (.slotWriteDone t k) s [.img] fun u => (if k = 0 then u.img.flashA else u.img.flashB) = f ∧
      (if k = 0 then u.img.flashB else u.img.flashA) = (if k = 0 then s.img.flashB else s.img.flashA) ∧ u.img.irq = true ∧
      u.img.writing = s.img.writing.filter (·.1 != k) ∧
      ∀ x, (b.putSlot k f).imageCheck k 0 = x → (if k = 0 then u.img.slotA else u.img.slotB) = (match x.2 with | none => 8 | some y => y.st) ∧
        u.img.reason = (match x.2 with | none => 0 | some y => y.reason) := by
  subst hb
  refine gives_as (m := 256) (w := (((slotWritten k f (s.begin t)).imgReason ((slotWritten k f (s.begin t)).imageCheck k 0).2).slotSt k
    (match ((slotWritten k f (s.begin t)).imageCheck k 0).2 with | none => 8 | some x => x.st)).imgIrq) rfl ?_ (by simp [slotWritten]) rfl fun a p q => ?_
  · simp only [begin_img, hw, ← hf]
    rfl
  rw [noteSets_img, finish_img, slotSt_img_irq, imgReason_img, slotWritten_img, slotWritten_check]
  generalize ((s.begin t).putSlot k f).imageCheck k 0 = r
  obtain rfl | rfl : k = 0 ∨ k = 1 := by omega
  · exact ⟨rfl, rfl, rfl, rfl, fun _ e => e ▸ ⟨rfl, rfl⟩⟩
  · exact ⟨rfl, rfl, rfl, rfl, fun _ e => e ▸ ⟨rfl, rfl⟩⟩

theorem imgSetBoot_sets (s b : State) (t k : Nat) (h : RecHdr) (ha : Accepts cmdImgSetBoot h (le 4 k) (s.begin t)) (_ : b = s.begin t) (hk : k < 2 ^ 32) :
    Gives (.imgSetBoot t h k) s ([.host, .jnl, .evs] ++ s.heldParts) fun u => u.evs = { s.evs with
      bootSlot := k } := by
  refine ha.gives0 (m := 131072) rfl rfl (fun v => by simp [cmdImgSetBoot]) rfl rfl fun x j u _ hu => ?_
  rw [hu.wide.keeps .evs rfl]
  simp only [cmdImgSetBoot, wordField hk]
  rfl

/-! ## A validation begins (R73, R77, R79, R85, R86) -/

theorem swapCancel_staged {r : Nat} {z : State} (h : z.staged = true) : z.swapCancel r = z.swapEnds 5 r := if_pos h
theorem swapCancel_idle {r : Nat} {z : State} (h : z.staged = false) : z.swapCancel r = z := if_neg (by rw [h]; exact Bool.false_ne_true)
/-- While nothing is arming, a cancelled swap leaves the slots' states. -/
theorem swapCancel_slots {r : Nat} {z : State} (h : z.img.swapSt ≠ 1) : (z.swapCancel r).img.slotA = z.img.slotA ∧ (z.swapCancel r).img.slotB = z.img.slotB := by
  by_cases hz : z.staged = true
  · obtain ⟨_, _, _, -, ⟨hslots, -⟩, -⟩ := swapEnds_img (st := 5) (r := r) (z := z)
    rw [swapCancel_staged hz]
    exact hslots h
  · rw [swapCancel_idle (Bool.eq_false_iff.mpr hz)]
    exact ⟨rfl, rfl⟩
theorem swapCancel_swap {r : Nat} {z : State} (h : z.staged = true) : (z.swapCancel r).img.swapSt = 5 ∧ (z.swapCancel r).img.swapReason = r ∧
    (z.swapCancel r).img.swap = none := by
  rw [swapCancel_staged h]
  exact ⟨rfl, rfl, rfl⟩

theorem imgLoad_starts (s b : State) (t k n : Nat) (h : RecHdr) (ha : Accepts cmdImgLoad h (le 4 k ++ le 4 n) (s.begin t)) (hb : b = s.begin t)
    (hk : k < 2 ^ 32) (hn : n < 2 ^ 32) :
    Gives (.imgLoad t h k n) s ([.img, .host, .jnl] ++ s.heldParts) fun u => u.img.cand = 6 ∧ (b.staged = true → u.img.swapSt = 5 ∧ u.img.swapReason = 0x49 ∧ u.img.swap = none) ∧
      (∃ w, u.img.val = some { kind := 1, source := k, len := n, was := w } ∧ (b.img.swapSt ≠ 1 → w = if k = 0 then s.img.slotA else s.img.slotB)) ∧
      (k = 0 → u.img.slotA = 6) ∧ (k = 1 → u.img.slotB = 6) := by
  subst hb
  refine ha.gives0 (m := 256) rfl rfl (fun v => by simp [cmdImgLoad]) rfl rfl fun x j u _ hu => ?_
  obtain ⟨hslot, hlen⟩ := wordFields hk hn
  generalize hz : ((s.begin t).withHJ x j).swapCancel 0x49 = z
  obtain ⟨q, hq, -⟩ := slotSt_img (k := k) (x := 6) (z := z.imgSts fun i => { i with
    cand := 6, val := some { kind := 1, source := k, len := n, was := if k = 0 then i.slotA else i.slotB } })
  rw [hu.wide.keeps .img rfl]
  simp only [cmdImgLoad, hslot, hlen, hz, hq]
  refine ⟨rfl, fun hstaged => ?_, ⟨_, rfl, fun harm => ?_⟩, fun h => if_pos h, fun h => if_pos h⟩
  · rw [← hz]
    exact swapCancel_swap (z := (s.begin t).withHJ x j) hstaged
  · have ⟨hA, hB⟩ := swapCancel_slots (r := 0x49) (z := (s.begin t).withHJ x j) harm
    rw [← hz, hA, hB]
    rfl

theorem imgRecheck_starts (s b : State) (t : Nat) (h : RecHdr) (ha : Accepts cmdImgRecheck h [] (s.begin t)) (_ : b = s.begin t) :
    Gives (.imgRecheck t h) s ([.img, .host, .jnl] ++ s.heldParts) fun u => u.img = { s.img with
      val := s.img.held.map fun x => { kind := 2, source := x.2.1, moved := s.img.heldMoved } } := by
  refine ha.gives0 (m := 256) rfl rfl (fun v => by simp [cmdImgRecheck]) rfl rfl fun x j u _ hu => ?_
  rw [hu.wide.keeps .img rfl]
  rfl

theorem bootValidation_starts (s b : State) (t : Nat) (_ : b = s.begin t) (hrun : s.img.fwRun = true) (hdesc : s.img.desc = none) (hval : s.img.val = none)
    (hwait : s.img.hostWait = false ∨ s.pwr.reload = true) :
    Gives (.bootValidation t) s [.img] fun u => u.img.run = 6 ∧ u.img.val = some { kind := 0, source := s.evs.bootSlot, fell := false, was := if s.evs.bootSlot = 0 then s.img.slotA else s.img.slotB } ∧
      (s.evs.bootSlot = 0 → u.img.slotA = 6) ∧ (s.evs.bootSlot = 1 → u.img.slotB = 6) := by
  have hready : (!s.img.hostWait || s.pwr.reload) = true := by
    obtain h | h := hwait <;> simp [h]
  refine execBootValidation_goes.givesIf rfl (by simp only [begin_img, begin_pwr, hrun, hdesc, hval, hready]; rfl) rfl fun a p q => ?_
  rw [noteSets_img, finish_img]
  exact bootStart_img (z := s.begin t)

/-! ## Step 9 ends (R73) -/

theorem presenceFitWindow_ends (s b : State) (t : Nat) (v : Val) (d : ImgDesc) (hb : b = s.begin t) (hv : s.img.val = some v) (hd : v.desc = some d)
    (hend : b.presentAll d v = true ∨ v.at9 + d.host.discWin * Config.ms ≤ b.now) :
    Gives (.presenceFitWindow t) s [.img] fun u => u.img = { s.img with
      val := some { v with ended9 := true } } := by
  subst hb
  refine execPresenceFitWindow_goes.givesIf rfl (by simpa only [begin_img, hv, hd, Bool.or_eq_true, decide_eq_true_eq] using hend) rfl fun a p q => ?_
  rw [noteSets_img, finish_img]
  show ({ s.img with val := s.img.val.map fun v => { v with ended9 := true } } : Img) = _
  rw [hv]
  rfl

/-! ## A validation's step (R70, R85) -/

section
variable {z : State} {v : Val} {d e : ImgDesc} {y : Bytes}

/-- IMG_LOAD in another mode than OFF waits for it (log entry 178). -/
theorem valStep_waits (hv : z.img.val = some v) (hk : v.kind = 1) (hm : z.mode.mode ≠ 0) (hw : z.img.hostWait = false) : valStep d z = z := by
  have hwaits : z.valWaits v = true := by simp [valWaits, hk, hm, hw]
  simp only [valStep, hv, hwaits, if_true]
theorem valWaits_not (h : v.kind = 1 → z.mode.mode = 0 ∨ z.img.hostWait = true) : z.valWaits v = false := by
  by_cases hk : v.kind = 1
  · obtain h | h := h hk <;> simp [valWaits, h]
  · simp [valWaits, hk]

/-- A validation whose step 9 has begun: the bytes that passed are kept. -/
def step9Val (d : ImgDesc) (v : Val) (y : Bytes) (z : State) : Val := { v with desc := some d, at9 := z.now, bytes := Image.cells 0 y, blen := y.length }
/-- The state in which step 9 begins: the lanes the image needs are powered and set. -/
def step9Begins (d : ImgDesc) (v : Val) (y : Bytes) (z : State) : State :=
  ((z.onImg fun i => { i with val := some (step9Val d v y z) }).onPwr fun p => { p with dom := p.dom ||| (usedDoms d &&& 0x0E00) }).lanesSet d
theorem step9Begins_frame : Frame 2372 z (step9Begins d v y z) := by
  unfold step9Begins
  simp
theorem step9Begins_reload : (step9Begins d v y z).pwr.reload = z.pwr.reload := by
  have hlanes : ∀ w : State, (w.lanesSet d).pwr = w.pwr := fun w => (by simp : Frame 2052 w (w.lanesSet d)).keeps .pwr rfl
  rw [step9Begins, hlanes]
  rfl
theorem step9Begins_img : (step9Begins d v y z).img = { z.img with val := some (step9Val d v y z) } := by
  have hlanes : ∀ w : State, (w.lanesSet d).img = w.img := fun w => (by simp : Frame 2052 w (w.lanesSet d)).keeps .img rfl
  rw [step9Begins, hlanes]
  rfl
/-- Step 9 waits for the same, and finds the same, once it has begun: nothing it looks for is in IMG, PWR or LANE. -/
theorem presentAll_of {w : State} {v' : Val} (h : w.mesh = z.mesh) (hv : v'.answered = v.answered) : w.presentAll d v' = z.presentAll d v := by
  simp only [presentAll, nodesMissing, cellsMissing, convUp, conv, h, hv]
theorem presence_of {w : State} {v' : Val} {n : Nat} (h : w.mesh = z.mesh) (hv : v'.answered = v.answered) : w.presence d v' n = z.presence d v n := by
  simp only [presence, nodesMissing, cellsMissing, convUp, discOf, conv, h, hv]

theorem valStep_first {x : Image.Bad} (hv : z.img.val = some v) (hd : v.desc = none) (hw : z.valWaits v = false) (hk : v.kind = 1)
    (hc : z.imageCheck v.source v.len = (y, some x)) : valStep d z = z.valEnds v d y (some x) := by
  have hbytes : z.valBytes v = (y, some x) := by simp only [valBytes, hd, hk]; exact hc
  simp only [valStep, hv, hw, hbytes, hd, hk]
  rfl

theorem valStep_passed (hv : z.img.val = some v) (hd : v.desc = none) (hw : z.valWaits v = false) (hbytes : z.valBytes v = (y, none))
    (hheld : v.kind = 2 → ∃ a, z.img.held = some (d, a)) (hf : z.fit d = none) :
    valStep d z = if z.presentAll d v then (step9Begins d v y z).valEnds (step9Val d v y z) d y (z.presence d v (Image.idOf y)) else step9Begins d v y z := by
  have hmesh : (step9Begins d v y z).mesh = z.mesh := step9Begins_frame.keeps .mesh rfl
  rw [← presentAll_of (v := v) (v' := step9Val d v y z) hmesh rfl, ← presence_of (v := v) (v' := step9Val d v y z) hmesh rfl]
  by_cases hk : v.kind = 2
  · obtain ⟨a, ha⟩ := hheld hk
    simp only [valStep, hv, hw, hbytes, hd, Bool.false_eq_true, if_false, if_pos hk, ha, hf]
    rfl
  · simp only [valStep, hv, hw, hbytes, hd, Bool.false_eq_true, if_false, if_neg hk, hf]
    rfl

theorem valStep_ended (hv : z.img.val = some v) (hd : v.desc = some d) (he : v.ended9 = true) (hw : z.valWaits v = false) (hy : y = cellBytes v.bytes 0 0 v.blen) :
    valStep e z = z.valEnds v d y (z.presence d v (Image.idOf y)) := by
  have hbytes : z.valBytes v = (y, none) := by simp only [valBytes, hd, Option.isSome_some, if_true, hy]
  simp only [valStep, hv, hw, hbytes, hd, he, Bool.true_or, Bool.false_eq_true, if_false, if_true]
end

theorem imageValidationDone_waitsForOff (s b : State) (t : Nat) (v : Val) (d : ImgDesc) (_ : b = s.begin t) (hv : s.img.val = some v) (hk : v.kind = 1)
    (hm : s.mode.mode ≠ 0) (hw : s.img.hostWait = false) : Gives (.imageValidationDone t d) s [] fun u => u.img.val = some v := by
  refine gives_as (m := 0) rfl (valStep_waits (z := s.begin t) hv hk hm hw) (by simp) rfl fun a p q => ?_
  rw [noteSets_img, finish_img]
  exact hv

/-- The first steps of a validation: a check fails, step 9 begins to wait, or the image comes into force at once. -/
theorem imageValidationDone_checks (s b : State) (t : Nat) (v : Val) (d : ImgDesc) (y : Bytes) (hb : b = s.begin t) (hv : s.img.val = some v) (hd : v.desc = none)
    (hoff : v.kind = 1 → s.mode.mode = 0 ∨ s.img.hostWait = true) :
    (∀ x, b.imageCheck v.source v.len = (y, some x) → x.st ≠ 5 → v.kind = 1 → s.img.hostWait = false → s.img.desc = none →
      Gives (.imageValidationDone t d) s [.img] fun u => u.img.cand = x.st ∧ u.img.reason = x.reason ∧ u.img.diagSect = x.sect ∧ u.img.diagOfs = x.ofs ∧
        u.img.val = none ∧ u.img.irq = true ∧ (v.source = 0 → v.moved = false → u.img.slotA = x.st)) ∧
    (b.valBytes v = (y, none) → (v.kind = 2 → ∃ a, s.img.held = some (d, a)) → b.fit d = none → b.presentAll d v = false → Gives (.imageValidationDone t d) s [.img, .pwr, .lane] fun u =>
      u.img = { s.img with
        val := some { v with
          desc := some d
          at9 := b.now
          bytes := Image.cells 0 y
          blen := y.length } }) ∧
    (b.valBytes v = (y, none) → (v.kind = 2 → ∃ a, s.img.held = some (d, a)) → b.fit d = none → s.pwr.reload = false → b.presentAll d v = true → b.presence d v (Image.idOf y) = none →
      ∃ u z, exec (.imageValidationDone t d) s = .next u ∧ Only [.img, .pwr, .lane] b z ∧ z.img.val = none ∧ z.img.reason = 0 ∧ (v.kind = 1 → z.img.cand = 5) ∧
        Only [] (z.bringInForce d y v.source v.fell) u ∧ u.img.desc = some d ∧ u.img.run = 5 ∧ u.img.src = v.source + 1 ∧ u.img.id = Image.idOf y ∧
        u.img.hostWait = false) := by
  subst hb
  have hgo : (s.begin t).valWaits v = false := valWaits_not hoff
  refine ⟨fun x hc hst hk hw hdesc => ?_, fun hbytes hheld hf hwait => ?_, fun hbytes hheld hf hr hall hfits => ?_⟩
  · exact img_failed ((valStep_first (z := s.begin t) hv hd hgo hk hc).trans (valEnds_fails hk hst hw hdesc)) hk
  · have hstep := valStep_passed (z := s.begin t) hv hd hgo hbytes hheld hf
    rw [hwait, if_neg Bool.false_ne_true] at hstep
    refine gives_as rfl hstep step9Begins_frame rfl fun a p q => ?_
    rw [noteSets_img, finish_img]
    exact step9Begins_img
  · have hstep := valStep_passed (z := s.begin t) hv hd hgo hbytes hheld hf
    rw [hall, if_pos rfl, hfits, valEnds_valid ((step9Begins_reload (z := s.begin t)).trans hr)] at hstep
    exact img_valid (v := step9Val d v y (s.begin t)) hstep (step9Begins_frame.trans (valDone_frame.widen rfl)) rfl

/-- Step 9 has ended: its check fails, or the image comes into force. -/
theorem imageValidationDone_ends (s b : State) (t : Nat) (v : Val) (d e : ImgDesc) (y : Bytes) (hb : b = s.begin t) (hv : s.img.val = some v) (hd : v.desc = some d)
    (he : v.ended9 = true) (hoff : v.kind = 1 → s.mode.mode = 0 ∨ s.img.hostWait = true) (hy : y = State.cellBytes v.bytes 0 0 v.blen) :
    (∀ x, b.presence d v (Image.idOf y) = some x → x.st ≠ 5 → v.kind = 1 → s.img.hostWait = false → s.img.desc = none →
      Gives (.imageValidationDone t e) s [.img] fun u => u.img.cand = x.st ∧ u.img.reason = x.reason ∧ u.img.diagSect = x.sect ∧ u.img.diagOfs = x.ofs ∧
        u.img.val = none ∧ u.img.irq = true ∧ (v.source = 0 → v.moved = false → u.img.slotA = x.st)) ∧
    (b.presence d v (Image.idOf y) = none → s.pwr.reload = false →
      ∃ u z, exec (.imageValidationDone t e) s = .next u ∧ Only [.img] b z ∧ z.img.val = none ∧ z.img.reason = 0 ∧ (v.kind = 1 → z.img.cand = 5) ∧
        Only [] (z.bringInForce d y v.source v.fell) u ∧ u.img.desc = some d ∧ u.img.run = 5 ∧ u.img.src = v.source + 1 ∧ u.img.id = Image.idOf y ∧
        u.img.hostWait = false) := by
  subst hb
  have hstep := valStep_ended (z := s.begin t) (e := e) hv hd he (valWaits_not hoff) hy
  refine ⟨fun x hp hst hk hw hdesc => ?_, fun hp hr => ?_⟩
  · rw [hp, valEnds_fails (z := s.begin t) hk hst hw hdesc] at hstep
    exact img_failed hstep hk
  · rw [hp, valEnds_valid (z := s.begin t) hr] at hstep
    exact img_valid hstep valDone_frame rfl

/-- Settles O18: each row by its own lemma. -/
theorem imageSlotsAndLoading : Obligations.ImageSlotsAndLoading :=
  ⟨imgBufOpen_opens, imgBufClose_closes, imgSlotErase_erases, slotEraseDone_ends, imgSlotWrite_writes, slotWriteDone_ends, imgSetBoot_sets, imgLoad_starts,
    imgRecheck_starts, bootValidation_starts, presenceFitWindow_ends, imageValidationDone_waitsForOff, imageValidationDone_checks, imageValidationDone_ends⟩

end Sys2Proof.Machine

/-! PROOFS. Hot swap and the firmware banks (R87 to R92, R96, R687 to R692). -/
namespace Sys2Proof.Machine
open State

/-! ## A candidate armed (R87, R88) -/

theorem imgArm_arms (s b : State) (t k n : Nat) (h : RecHdr) (ha : Accepts cmdImgArm h (le 4 k ++ le 4 n) (s.begin t)) (_ : b = s.begin t)
    (hk : k < 2 ^ 32) (hn : n < 2 ^ 32) :
    Gives (.imgArm t h k n) s ([.img, .host, .jnl] ++ s.heldParts) fun u => u.img = { s.img with
      swapSt := 1
      swapReason := 0
      swapLate := false
      swapSects := 0
      swapPer := 0
      swap := some { source := k, len := n, was := if k = 0 then s.img.slotA else s.img.slotB }
      slotA := if k = 0 then 6 else s.img.slotA
      slotB := if k = 1 then 6 else s.img.slotB
      irq := u.img.irq } := by
  refine ha.gives0 (m := 256) rfl rfl (fun v => by simp [cmdImgArm]) rfl rfl fun x j u _ hu => ?_
  obtain ⟨hslot, hlen⟩ := wordFields hk hn
  rw [hu.wide.keeps .img rfl]
  simp only [cmdImgArm, hslot, hlen]
  generalize hz : ((s.begin t).withHJ x j).onImg _ = z
  obtain ⟨q, hq, -⟩ := slotSt_img (k := k) (x := 6) (z := z)
  rw [hq, ← hz]
  rfl

/-! ## The end of an arming (R88, R95, R96) -/

section
variable {z : State} {c : Cand} {d : ImgDesc} {y : Bytes}

/-- A section of the image in force may be replaced while it is in force (R62, R87). -/
def isHot (w : Bytes) (k : Nat) : Bool := match Image.find w k with | some e => e.flags.testBit 0 | none => false
theorem any_cold {w : Bytes} {ts : List Nat} : (ts.any fun k => !isHot w k) = true ↔ ∃ k ∈ ts, isHot w k = false := by
  simp only [List.any_eq_true, Bool.not_eq_true']
theorem not_any_cold {w : Bytes} {ts : List Nat} (h : ∀ k ∈ ts, isHot w k = true) : ¬(ts.any fun k => !isHot w k) = true := fun hany =>
  have ⟨k, hk, hcold⟩ := any_cold.mp hany
  Bool.false_ne_true (hcold.symm.trans (h k hk))
/-- The state in which a check of a candidate has failed: its slot will show that. -/
def armFailed (c : Cand) (x : Image.Bad) (z : State) : State :=
  (if c.source < 2 then z.imgIrq.imgReason (some x) else z.imgIrq.onImg fun i => { i with diagSect := x.sect, diagOfs := x.ofs }).onImg fun i =>
    { i with swap := some { c with was := x.st } }
/-- The state in which the checks of a candidate have passed. -/
def armPassed (c : Cand) (z : State) : State :=
  z.imgIrq.onImg fun i => { i with swap := some { c with was := armedSlot c.was }, reason := if c.source < 2 then 0 else i.reason }
/-- What is armed: the candidate's bytes and the sections it replaces. -/
def armedCand (c : Cand) (d : ImgDesc) (y : Bytes) (ts : List Nat) (z : State) : Cand :=
  { c with desc := some (swapDesc z.cfg d ts), bytes := Image.cells 0 y, len := y.length, id := Image.idOf y, sects := maskOf 10 fun k => ts.contains (k + 1) }
/-- The state in which a candidate is armed. -/
def armReady (c : Cand) (d : ImgDesc) (y : Bytes) (ts : List Nat) (z : State) : State :=
  (armPassed c z).armStops.onImg fun i =>
    { i with swapSt := 2, swapReason := 0, swapSects := maskOf 10 fun k => ts.contains (k + 1), swap := some (armedCand c d y ts z) }

theorem armEnds_failed {x : Image.Bad} (hs : z.img.swap = some c) (h1 : z.img.swapSt = 1) (hc : z.imageCheck c.source c.len = (y, some x)) :
    armEnds d z = (armFailed c x z).swapEnds 5 x.reason := by
  have hcheck : z.imgIrq.imageCheck c.source c.len = (y, some x) := hc
  simp only [armEnds, hs, h1, ne_eq, not_true_eq_false, if_false, hcheck]
  rfl

theorem armEnds_passed (hs : z.img.swap = some c) (h1 : z.img.swapSt = 1) (hc : z.imageCheck c.source c.len = (y, none)) (hf : armEnds.fitCandidate d z = none) :
    armEnds d z = if (swapDiff z.workBytes y).any fun k => !isHot z.workBytes k then (armPassed c z).swapEnds 5 0x40
      else if 2097152 < z.workBytes.length + ((swapDiff z.workBytes y).map fun k => (Image.sectBytes y k).length).sum then (armPassed c z).swapEnds 5 0x41
      else armReady c d y (swapDiff z.workBytes y) z := by
  have hcheck : z.imgIrq.imageCheck c.source c.len = (y, none) := hc
  have hfit : armEnds.fitCandidate d z.imgIrq = none := hf
  simp only [armEnds, hs, h1, ne_eq, not_true_eq_false, if_false, hcheck, hfit]
  rfl

/-- An arming that stops gives its slot the state it was to show. -/
theorem armStops_arming (hs : z.img.swap = some c) (h1 : z.img.swapSt = 1) : ∃ q, z.armStops.img = { z.img with
    slotA := if c.source = 0 then c.was else z.img.slotA
    slotB := if c.source = 1 then c.was else z.img.slotB
    irq := q } ∧ (z.img.irq = true → q = true) := by
  obtain ⟨a, b, q, himg, -, hslots, hirq⟩ := armStops_img (z := z)
  obtain ⟨rfl, rfl⟩ := hslots c hs h1
  exact ⟨q, himg, hirq⟩

theorem swapEnds_arming {r : Nat} (hs : z.img.swap = some c) (h1 : z.img.swapSt = 1) : (z.swapEnds 5 r).img = { z.img with
    swapSt := 5
    swapReason := r
    swapLate := false
    swapSects := 0
    swapPer := 0
    swap := none
    slotA := if c.source = 0 then c.was else z.img.slotA
    slotB := if c.source = 1 then c.was else z.img.slotB
    irq := true } := by
  obtain ⟨q, himg, -⟩ := armStops_arming hs h1
  simp only [swapEnds, onImg_img, himg, beq_self_eq_true, Bool.or_true]

theorem armFailed_img {x : Image.Bad} : (armFailed c x z).img = { z.img with
    reason := if c.source < 2 then x.reason else z.img.reason
    diagSect := x.sect
    diagOfs := x.ofs
    swap := some { c with was := x.st }
    irq := true } := by
  unfold armFailed
  split <;> rfl

theorem armFailed_stops {x : Image.Bad} {r : Nat} (h1 : z.img.swapSt = 1) : ((armFailed c x z).swapEnds 5 r).img = { z.img with
    reason := if c.source < 2 then x.reason else z.img.reason
    diagSect := x.sect
    diagOfs := x.ofs
    swapSt := 5
    swapReason := r
    swapLate := false
    swapSects := 0
    swapPer := 0
    swap := none
    slotA := if c.source = 0 then x.st else z.img.slotA
    slotB := if c.source = 1 then x.st else z.img.slotB
    irq := true } := by
  have himg := armFailed_img (c := c) (x := x) (z := z)
  rw [swapEnds_arming (congrArg Img.swap himg) ((congrArg Img.swapSt himg).trans h1), himg]

theorem armPassed_stops {r : Nat} (h1 : z.img.swapSt = 1) : ((armPassed c z).swapEnds 5 r).img = { z.img with
    reason := if c.source < 2 then 0 else z.img.reason
    swapSt := 5
    swapReason := r
    swapLate := false
    swapSects := 0
    swapPer := 0
    swap := none
    slotA := if c.source = 0 then armedSlot c.was else z.img.slotA
    slotB := if c.source = 1 then armedSlot c.was else z.img.slotB
    irq := true } :=
  swapEnds_arming (z := armPassed c z) (c := { c with was := armedSlot c.was }) rfl h1

theorem armReady_img {ts : List Nat} (h1 : z.img.swapSt = 1) : (armReady c d y ts z).img = { z.img with
    swapSt := 2
    swapReason := 0
    swapSects := maskOf 10 fun k => ts.contains (k + 1)
    swap := some (armedCand c d y ts z)
    reason := if c.source < 2 then 0 else z.img.reason
    slotA := if c.source = 0 then armedSlot c.was else z.img.slotA
    slotB := if c.source = 1 then armedSlot c.was else z.img.slotB
    irq := true } := by
  obtain ⟨q, himg, hirq⟩ := armStops_arming (z := armPassed c z) (c := { c with was := armedSlot c.was }) rfl h1
  obtain rfl := hirq rfl
  simp only [armReady, onImg_img, himg]
  rfl
end

theorem armingDone_ends (s b : State) (t : Nat) (c : Cand) (d : ImgDesc) (y : Bytes) (hb : b = s.begin t) (hs : s.img.swap = some c) (h1 : s.img.swapSt = 1) :
    (∀ x, b.imageCheck c.source c.len = (y, some x) → Gives (.armingDone t d) s [.img] fun u => u.img.swapSt = 5 ∧ u.img.swapReason = x.reason ∧
      u.img.swap = none ∧ u.img.diagSect = x.sect ∧ u.img.diagOfs = x.ofs ∧ u.img.irq = true ∧ u.img.desc = s.img.desc ∧
      (c.source = 0 → u.img.slotA = x.st) ∧ (c.source < 2 → u.img.reason = x.reason)) ∧
    (∀ w ts, b.imageCheck c.source c.len = (y, none) → State.armEnds.fitCandidate d b = none → w = b.workBytes → ts = swapDiff w y →
      ((∃ k ∈ ts, (match Image.find w k with | some e => e.flags.testBit 0 | none => false) = false) →
        Gives (.armingDone t d) s [.img] fun u => u.img.swapSt = 5 ∧ u.img.swapReason = 0x40 ∧ u.img.swap = none ∧ u.img.irq = true ∧
          u.img.diagSect = s.img.diagSect ∧ u.img.diagOfs = s.img.diagOfs ∧ (c.source = 0 → u.img.slotA = if c.was = 5 then 5 else 8)) ∧
      ((∀ k ∈ ts, (match Image.find w k with | some e => e.flags.testBit 0 | none => false) = true) →
        2097152 < w.length + (ts.map fun k => (Image.sectBytes y k).length).sum →
        Gives (.armingDone t d) s [.img] fun u => u.img.swapSt = 5 ∧ u.img.swapReason = 0x41 ∧ u.img.swap = none ∧ u.img.irq = true) ∧
      ((∀ k ∈ ts, (match Image.find w k with | some e => e.flags.testBit 0 | none => false) = true) →
        w.length + (ts.map fun k => (Image.sectBytes y k).length).sum ≤ 2097152 →
        Gives (.armingDone t d) s [.img] fun u => u.img.swapSt = 2 ∧ u.img.swapReason = 0 ∧ u.img.irq = true ∧
          (c.source = 0 → u.img.slotA = if c.was = 5 then 5 else 8) ∧
          u.img.swapSects = maskOf 10 (fun k => ts.contains (k + 1)) ∧
          u.img.swap = some { c with
            desc := some (swapDesc s.cfg d ts)
            bytes := Image.cells 0 y
            len := y.length
            id := Image.idOf y
            sects := maskOf 10 fun k => ts.contains (k + 1) })) := by
  subst hb
  refine ⟨fun x hc => ?_, fun w ts hc hf hw hts => ?_⟩
  · refine execArmingDone_goes.givesRun rfl rfl fun a p q => ?_
    rw [noteSets_img, finish_img, armEnds_failed (z := s.begin t) hs h1 hc, armFailed_stops (z := s.begin t) h1]
    exact ⟨rfl, rfl, rfl, rfl, rfl, rfl, rfl, fun h => if_pos h, fun h => if_pos h⟩
  · have hends := armEnds_passed (z := s.begin t) (d := d) hs h1 hc hf
    rw [← hw, ← hts] at hends
    refine ⟨fun hcold => ?_, fun hhot hover => ?_, fun hhot hroom => ?_⟩
    · refine execArmingDone_goes.givesRun rfl rfl fun a p q => ?_
      rw [noteSets_img, finish_img, hends, if_pos (any_cold.mpr hcold), armPassed_stops (z := s.begin t) h1]
      exact ⟨rfl, rfl, rfl, rfl, rfl, rfl, fun h => if_pos h⟩
    · refine execArmingDone_goes.givesRun rfl rfl fun a p q => ?_
      rw [noteSets_img, finish_img, hends, if_neg (not_any_cold hhot), if_pos hover, armPassed_stops (z := s.begin t) h1]
      exact ⟨rfl, rfl, rfl, rfl⟩
    · refine execArmingDone_goes.givesRun rfl rfl fun a p q => ?_
      rw [noteSets_img, finish_img, hends, if_neg (not_any_cold hhot), if_neg (Nat.not_lt.mpr hroom), armReady_img (z := s.begin t) h1]
      exact ⟨rfl, rfl, rfl, fun h => if_pos h, rfl, rfl⟩

/-! ## A swap scheduled, given up, and done (R89 to R91) -/

theorem cmdImgSwap_act {s : State} {n : Nat} {h : RecHdr} (hn : n < 2 ^ 32) (hh : s.pair.handover = none) : (cmdImgSwap.act h (le 4 n) s).1 = s.onImg fun i => { i with
    swapSt := 3
    swapPer := if 2 ≤ serialDiff 32 n s.per ∧ serialDiff 32 n s.per ≤ 2 ^ 24 then n else s.perPlus 2
    swapLate := !decide (2 ≤ serialDiff 32 n s.per ∧ serialDiff 32 n s.per ≤ 2 ^ 24) } := by
  simp only [cmdImgSwap, wordField hn, hh]
  by_cases hin : 2 ≤ serialDiff 32 n s.per ∧ serialDiff 32 n s.per ≤ 2 ^ 24
  · simp only [hin]
    rfl
  · simp only [hin, decide_false]
    rfl

theorem imgSwap_schedules (s b : State) (t n : Nat) (h : RecHdr) (ha : Accepts cmdImgSwap h (le 4 n) (s.begin t)) (hb : b = s.begin t) (hn : n < 2 ^ 32)
    (_ : b.role ≠ 1) (hh : s.pair.handover = none) :
    Gives (.imgSwap t h n) s ([.img, .host, .jnl] ++ s.heldParts) fun u => u.img = { s.img with
      swapSt := 3
      swapPer := if 2 ≤ serialDiff 32 n b.per ∧ serialDiff 32 n b.per ≤ 2 ^ 24 then n else b.perPlus 2
      swapLate := !decide (2 ≤ serialDiff 32 n b.per ∧ serialDiff 32 n b.per ≤ 2 ^ 24) } := by
  subst hb
  refine ha.givesAt (m := 256) rfl (fun _ => rfl) (fun x j v hv => ?_) (fun v hq => ?_) rfl fun x j u _ hu => ?_
  · subst hv
    rw [cmdImgSwap_act (s := (s.begin t).withHJ x j) hn hh]
    simp
  · have hframe : Frame 16777476 v (cmdImgSwap.act h (le 4 n) v).1 := by simp [cmdImgSwap, ↓Frame.ite]
    rw [hframe.keeps .host rfl]
    exact hq
  · rw [hu.wide.keeps .img rfl, cmdImgSwap_act (s := (s.begin t).withHJ x j) hn hh]
    rfl

theorem imgDisarm_disarms (s b : State) (t : Nat) (h : RecHdr) (ha : Accepts cmdImgDisarm h [] (s.begin t)) (_ : b = s.begin t) :
    Gives (.imgDisarm t h) s ([.img, .host, .jnl] ++ s.heldParts) fun u => u.img = { s.img with
      swapSt := 0
      swapReason := 0
      swapLate := false
      swapSects := 0
      swapPer := 0
      swap := none
      slotA := u.img.slotA
      slotB := u.img.slotB
      irq := u.img.irq } ∧ Unarmed s.img u.img ∧ (s.img.swapSt = 1 → u.img.irq = true) ∧ (s.img.swapSt ≠ 1 → u.img.irq = s.img.irq) := by
  refine ha.gives0 (m := 256) rfl rfl (fun v => by simp [cmdImgDisarm, ↓Frame.ite]) rfl rfl fun x j u _ hu => ?_
  rw [hu.wide.keeps .img rfl]
  simp only [cmdImgDisarm, withHJ_img, begin_img]
  by_cases h1 : s.img.swapSt = 1
  · obtain ⟨_, _, q, himg, hunarmed, -, hirq⟩ := swapEnds_img (st := 0) (r := 0) (z := ((s.begin t).withHJ x j).imgIrq)
    obtain rfl := hirq rfl
    rw [if_pos h1]
    exact ⟨by rw [himg]; rfl, hunarmed, fun _ => by rw [himg]; rfl, fun h => absurd h1 h⟩
  · obtain ⟨_, _, q, himg, hunarmed, hq, -⟩ := swapEnds_img (st := 0) (r := 0) (z := (s.begin t).withHJ x j)
    obtain rfl := hq h1
    rw [if_neg h1]
    exact ⟨by rw [himg]; rfl, hunarmed, fun h => absurd h h1, fun _ => by rw [himg]; exact Bool.or_false _⟩

theorem swapBoundary_takes (s b : State) (t : Nat) (c : Cand) (hb : b = s.begin t) (htime : b.timeline = true) (h3 : s.img.swapSt = 3) (hin : b.inPer < 16)
    (hper : serialDiff 32 b.per s.img.swapPer < 2 ^ 31) (hs : s.img.swap = some c) :
    Gives (.swapBoundary t) s [.clk, .img, .host, .jnl, .lane, .evs, .adc, .safe] fun u => u.img = { s.img with
      desc := some (c.desc.getD s.cfg)
      work := c.bytes
      workLen := c.len
      id := c.id
      src := c.source + 1
      fellBack := false
      irq := true
      swapSt := 4
      swap := none
      sigChecked := s.sys.keySet
      bank := 1 - s.img.bank } ∧
      (c.sects.testBit 9 = true → u.host.loss = (c.desc.getD s.cfg).host.loss ∧ u.host.leaseMs = (c.desc.getD s.cfg).host.leaseMs) := by
  subst hb
  have hdue : ((s.begin t).timeline && (s.begin t).img.swapSt == 3 && decide ((s.begin t).inPer < 16) &&
      decide (serialDiff 32 (s.begin t).per (s.begin t).img.swapPer < 2 ^ 31)) = true := by
    simp only [begin_img, htime, h3, hin, hper, beq_self_eq_true, decide_true, Bool.and_self]
  refine execSwapBoundary_goes.givesIf rfl hdue rfl fun a p q => ?_
  simp only [noteSets_img, finish_img, noteSets_host, finish_host, begin_img, hs]
  exact swapTake_all (z := s.begin t)

theorem swapCancel_cancels (s b : State) (t : Nat) (e : Bool) (hb : b = s.begin t) :
    (b.staged = true → Gives (.swapCancel t e) s [.img] fun u => u.img = { s.img with
      swapSt := 5
      swapReason := if e then 0x4A else 0x49
      swapLate := false
      swapSects := 0
      swapPer := 0
      swap := none
      slotA := u.img.slotA
      slotB := u.img.slotB
      irq := true } ∧ Unarmed s.img u.img) ∧
    (b.staged = false → Gives (.swapCancel t e) s [] fun _ => True) := by
  subst hb
  refine ⟨fun hstaged => ?_, fun hidle => gives_as (m := 0) rfl (swapCancel_idle hidle) (by simp) rfl fun _ _ _ => trivial⟩
  refine gives_as (m := 256) rfl (swapCancel_staged hstaged) (by simp) rfl fun a p q => ?_
  obtain ⟨_, _, _, himg, hunarmed, -⟩ := swapEnds_img (st := 5) (r := if e then 0x4A else 0x49) (z := s.begin t)
  rw [noteSets_img, finish_img]
  refine ⟨?_, hunarmed⟩
  rw [himg]
  simp only [beq_self_eq_true, Bool.or_true]
  rfl

/-! ## Firmware banks (R687 to R692) -/

section
variable {z : State} {st : Nat}
/-- READY, DONE and FAILED tell the host; the states before them do not. -/
theorem fwTo_tells (h : st = 2 ∨ st = 4 ∨ st = 5) : (z.fwTo st).img = { z.img with fwSt := st, irq := true } := by
  simp only [fwTo, onImg_img, h, decide_true, Bool.or_true]
theorem fwTo_quiet (h : ¬(st = 2 ∨ st = 4 ∨ st = 5)) : (z.fwTo st).img = { z.img with fwSt := st } := by
  simp only [fwTo, onImg_img, h, decide_false, Bool.or_false]
theorem fwFailed_img : z.fwFailed.img = { z.img with fwReason := z.freeWord.toNat % 256, fwSt := 5, irq := true } := fwTo_tells (.inr (.inr rfl))
end

theorem imgFwWrite_begins (s b : State) (t n : Nat) (h : RecHdr) (ha : Accepts cmdImgFwWrite h (le 4 n) (s.begin t)) (_ : b = s.begin t) (hn : n < 2 ^ 32) :
    Gives (.imgFwWrite t h n) s ([.img, .host, .jnl, .evs] ++ s.heldParts) fun u => u.img = { s.img with
      fwLen := n
      fwSt := 1 } ∧ u.evs = { s.evs with
      fwGood := s.evs.fwGood.set (1 - s.evs.fwBank) false } := by
  refine ha.gives0 (m := 131328) rfl rfl (fun v => by simp [cmdImgFwWrite]) rfl rfl fun x j u _ hu => ?_
  rw [hu.wide.keeps .img rfl, hu.wide.keeps .evs rfl]
  simp only [cmdImgFwWrite, wordField hn]
  exact ⟨fwTo_quiet (by decide), rfl⟩

theorem fwWriteDone_judges (s b : State) (t : Nat) (hb : b = s.begin t) (h1 : s.img.fwSt = 1) :
    (Gives (.fwWriteDone t true) s [.img, .evs] fun u => u.img = { s.img with
      fwSt := 2
      irq := true } ∧ u.evs = { s.evs with
      fwGood := s.evs.fwGood.set (1 - s.evs.fwBank) true }) ∧
    Gives (.fwWriteDone t false) s [.img, .free] fun u => u.img = { s.img with
      fwSt := 5
      fwReason := b.freeWord.toNat % 256
      irq := true } := by
  subst hb
  have hbusy : ((s.begin t).img.fwSt == 1) = true := beq_iff_eq.mpr h1
  refine ⟨gives_if (m := 131328) (w := ((s.begin t).setBank (s.begin t).inactive true).fwTo 2) rfl hbusy rfl (by simp) rfl fun a p q => ?_,
    gives_if (m := 264) (w := (s.begin t).fwFailed.imgIrq) rfl hbusy rfl (by simp) rfl fun a p q => ?_⟩
  · rw [noteSets_img, finish_img, noteSets_evs, finish_evs, fwTo_tells (.inl rfl)]
    exact ⟨rfl, rfl⟩
  · rw [noteSets_img, finish_img, imgIrq, onImg_img, fwFailed_img]
    rfl

theorem imgFwSwitch_schedules (s b : State) (t : Nat) (h : RecHdr) (ha : Accepts cmdImgFwSwitch h [] (s.begin t)) (hb : b = s.begin t) :
    Gives (.imgFwSwitch t h) s ([.img, .host, .jnl] ++ s.heldParts) fun u => u.img = { s.img with
      fwAt := some (if b.timeline = true then b.nextS else b.now)
      fwSt := 3 } := by
  subst hb
  refine ha.gives0 (m := 256) rfl rfl (fun v => by simp [cmdImgFwSwitch]) rfl rfl fun x j u _ hu => ?_
  rw [hu.wide.keeps .img rfl]
  exact fwTo_quiet (by decide)

theorem healthStep_img {f : State → State} {z : State} : (healthStep f z).img = (f z).img := by
  simp only [healthStep]
  split <;> rfl

theorem fwSwitchRestart_restarts (s b : State) (t a : Nat) (hb : b = s.begin t) (hat : s.img.fwAt = some a) (hdue : a ≤ b.now) :
    Gives (.fwSwitchRestart t) s [.img, .evs, .pair] fun u => u.img = { s.img with
      fwAt := none
      fwSince := some b.now
      fwRun := false } := by
  subst hb
  refine execFwSwitchRestart_goes.givesIf rfl (by simp only [begin_img, hat]; exact decide_eq_true hdue) rfl fun a p q => ?_
  rw [noteSets_img, finish_img, healthStep_img]
  rfl

theorem fwSwitchDone_ends (s b : State) (t a : Nat) (hb : b = s.begin t) (hsince : s.img.fwSince = some a) :
    (b.now ≤ a + 24 * Config.ms → (Gives (.fwSwitchDone t true) s [.img, .evs] fun u => u.evs = { s.evs with
        fwBank := 1 - s.evs.fwBank } ∧ u.img = { s.img with
        fwSince := none
        fwRun := true
        fwSt := 4
        irq := true }) ∧
      Gives (.fwSwitchDone t false) s [] fun u => u.evs = s.evs) ∧
    (a + 24 * Config.ms < b.now → ∀ started, Gives (.fwSwitchDone t started) s [.img, .free] fun u => u.evs = s.evs ∧ u.img = { s.img with
      fwSince := none
      fwRun := true
      fwSt := 5
      fwReason := b.freeWord.toNat % 256
      irq := true }) := by
  subst hb
  refine ⟨fun hin => ⟨?_, ?_⟩, fun hlate started => ?_⟩
  · refine gives_as (m := 131328) (w := (((s.begin t).onEvs fun e => { e with fwBank := (s.begin t).inactive }).onImg fun i =>
      { i with fwSince := none, fwRun := true }).fwTo 4) rfl ?_ (by simp) rfl fun a p q => ?_
    · simp only [begin_img, hsince, hin, decide_true, Bool.and_self, if_true]
    · rw [noteSets_img, finish_img, noteSets_evs, finish_evs, fwTo_tells (.inr (.inl rfl))]
      exact ⟨rfl, rfl⟩
  · refine gives_as (m := 0) (w := s.begin t) rfl ?_ (by simp) rfl fun a p q => ?_
    · simp only [begin_img, hsince, hin, decide_true, Bool.false_and, Bool.not_true, Bool.false_eq_true, if_false]
    · rw [noteSets_evs, finish_evs]
      rfl
  · refine gives_as (m := 264) (w := (((s.begin t).onImg fun i => { i with fwSince := none, fwRun := true }).fwFailed).imgIrq) rfl ?_ (by simp) rfl fun a p q => ?_
    · simp only [begin_img, hsince, Nat.not_le.mpr hlate, decide_false, Bool.and_false, Bool.not_false, Bool.false_eq_true, if_false, if_true]
    · rw [noteSets_img, finish_img, noteSets_evs, finish_evs, imgIrq, onImg_img, fwFailed_img]
      exact ⟨rfl, rfl⟩

/-- Settles O19: each row by its own lemma. -/
theorem imageSwapAndFirmware : Obligations.ImageSwapAndFirmware :=
  ⟨imgArm_arms, armingDone_ends, imgSwap_schedules, imgDisarm_disarms, swapBoundary_takes, swapCancel_cancels, imgFwWrite_begins, fwWriteDone_judges,
    imgFwSwitch_schedules, fwSwitchRestart_restarts, fwSwitchDone_ends⟩

end Sys2Proof.Machine

/-! PROOFS. One step: the command in front, and the empty queue (R118, R581). -/
namespace Sys2Proof.Machine
open State

theorem Goes.next {m : Nat} {s : State} {o : Host.Outcome State Fault Refusal} (h : Goes m s o) (hm : m.testBit Part.pending.num = false) :
    ∃ u, o = .next u ∧ u.pending = s.pending := by
  cases h with
  | mk' u hframe => exact ⟨u, rfl, hframe.keeps .pending hm⟩

/-- Settles O3: FUSE_PROG and every other command go on within parts that leave the queue out. -/
theorem everyCommandGoesOn : Obligations.EveryCommandGoesOn := fun c s => by
  obtain ⟨t, key, vpp, temp, rfl⟩ | hgoes := every_goes c s
  · exact execFuseProg_goes.next rfl
  · exact hgoes.next rfl

theorem step_front {c : Instr} {rest : List Instr} {s : State} (h : s.pending = c :: rest) : step s = exec c { s with pending := rest } := by
  unfold step
  rw [h]

theorem step_idle {s : State} (h : s.pending = []) : step s = .next s.portsSend := by
  unfold step
  rw [h]

/-- Settles O1: a step is the front command's effect, and commands leave the queue alone. -/
theorem stepRunsTheFrontCommand : Obligations.StepRunsTheFrontCommand := fun c rest s h => by
  refine ⟨step_front h, ?_⟩
  rw [step_front h]
  exact everyCommandGoesOn c { s with pending := rest }

/-! ## The ports of an empty queue (R581, R584) -/

/-- A step over a list without repetitions that one of its members alone takes part in: what holds before that member's turn and is kept by the
others gives what holds after it. -/
theorem each_once {α : Type} {f : α → State → State} {a : α} (I P : State → Prop) (hother : ∀ b, b ≠ a → ∀ z, I z → I (f b z)) (hown : ∀ z, I z → P (f a z))
    (hafter : ∀ b, b ≠ a → ∀ z, P z → P (f b z)) {l : List α} (hn : l.Nodup) (hm : a ∈ l) {s : State} (h : I s) : P (each l f s) := by
  induction l generalizing s with
  | nil => cases hm
  | cons b l ih =>
    obtain ⟨hbl, hn⟩ := List.nodup_cons.mp hn
    by_cases e : b = a
    · subst e
      exact each_keeps P l f (f b s) (hown s h) fun c hc z hz => hafter c (fun e => hbl (e ▸ hc)) z hz
    · exact ih hn ((List.mem_cons.mp hm).resolve_left (Ne.symm e)) (hother b e s h)

/-- What waits at a port's output becomes l. -/
def putQueue (p : Nat) (l : List MFrame) (s : State) : State := s.onMesh fun m => { m with ports := modAt m.ports p fun x => { x with queue := l } }
/-- A port's turn on an empty queue. -/
def portTurn (p : Nat) (s : State) : State :=
  if !s.portSends p then putQueue p [] s
  else match nextFrame (at' s.mesh.ports p {}).queue with
    | some f => (putQueue p ((at' s.mesh.ports p {}).queue.erase f) s).emit (frameOut p f)
    | none => s

theorem portsSend_eq {s : State} : s.portsSend = each (List.range 4) portTurn { s with out := [] } := rfl

section
variable {s : State} {p q : Nat} {l : List MFrame} {f : MFrame}

theorem portTurn_down (h : s.portSends p = false) : portTurn p s = putQueue p [] s := by simp [portTurn, h]
theorem portTurn_none (h : s.portSends p = true) (hf : nextFrame (at' s.mesh.ports p {}).queue = none) : portTurn p s = s := by
  simp only [portTurn, h, hf, Bool.not_true, Bool.false_eq_true, if_false]
theorem portTurn_some (h : s.portSends p = true) (hf : nextFrame (at' s.mesh.ports p {}).queue = some f) :
    portTurn p s = (putQueue p ((at' s.mesh.ports p {}).queue.erase f) s).emit (frameOut p f) := by
  simp only [portTurn, h, hf, Bool.not_true, Bool.false_eq_true, if_false]
/-- A turn in its three cases. -/
theorem portTurn_cases {P : State → Prop} (hput : ∀ l, P (putQueue p l s)) (hemit : ∀ l o, P ((putQueue p l s).emit o)) (hstay : P s) : P (portTurn p s) := by
  cases h : s.portSends p with
  | false => exact portTurn_down h ▸ hput []
  | true =>
    cases hf : nextFrame (at' s.mesh.ports p {}).queue with
    | none => exact (portTurn_none h hf).symm ▸ hstay
    | some f => exact portTurn_some h hf ▸ hemit _ _
theorem portTurn_lane : (portTurn p s).lane = s.lane := portTurn_cases (P := fun z => z.lane = s.lane) (fun _ => rfl) (fun _ _ => rfl) rfl
theorem portTurn_length : (portTurn p s).mesh.ports.length = s.mesh.ports.length :=
  portTurn_cases (P := fun z => z.mesh.ports.length = s.mesh.ports.length) (fun _ => modAt_length) (fun _ _ => modAt_length) rfl
theorem portTurn_other (h : q ≠ p) : at' (portTurn q s).mesh.ports p {} = at' s.mesh.ports p {} :=
  portTurn_cases (P := fun z => at' z.mesh.ports p {} = at' s.mesh.ports p {}) (fun _ => getD_modAt_ne h) (fun _ _ => getD_modAt_ne h) rfl
theorem portTurn_out {o : Out} (h : o ∈ s.out) : o ∈ (portTurn p s).out :=
  portTurn_cases (P := fun z => o ∈ z.out) (fun _ => h) (fun _ _ => by rw [emit_out]; exact List.mem_append_left _ h) h
theorem portSends_of {u : State} (h : u.lane = s.lane) : u.portSends p = s.portSends p := by unfold portSends portUp ln; rw [h]
theorem putQueue_queue (h : p < s.mesh.ports.length) : (at' (putQueue p l s).mesh.ports p {}).queue = l := congrArg PortS.queue (getD_modAt h)
theorem putQueue_same (h : (at' s.mesh.ports p {}).queue = l) : putQueue p l s = s := by
  subst h
  have hports : modAt s.mesh.ports p (fun x => { x with queue := (at' s.mesh.ports p {}).queue }) = s.mesh.ports := modAt_id {} rfl
  exact congrArg (fun l : List PortS => { s with mesh := { s.mesh with ports := l } }) hports
theorem nextFrame_nil : nextFrame [] = none := by decide
end

/-- What R581 says of one port on an empty queue. -/
def PortServed (s : State) (p : Nat) (u : State) : Prop :=
  (s.portSends p = false → (at' u.mesh.ports p {}).queue = []) ∧
  (s.portSends p = true →
    (nextFrame (at' s.mesh.ports p {}).queue = none → (at' u.mesh.ports p {}).queue = (at' s.mesh.ports p {}).queue) ∧
    ∀ f, nextFrame (at' s.mesh.ports p {}).queue = some f → (at' u.mesh.ports p {}).queue = (at' s.mesh.ports p {}).queue.erase f ∧ frameOut p f ∈ u.out)
/-- A port has not had its turn. -/
def PortWaits (s : State) (p : Nat) (z : State) : Prop :=
  z.lane = s.lane ∧ at' z.mesh.ports p {} = at' s.mesh.ports p {} ∧ z.mesh.ports.length = s.mesh.ports.length

section
variable {s z : State} {p q : Nat}

theorem PortWaits.turn (h : PortWaits s p z) (hq : q ≠ p) : PortWaits s p (portTurn q z) :=
  ⟨portTurn_lane.trans h.1, (portTurn_other hq).trans h.2.1, portTurn_length.trans h.2.2⟩

theorem PortServed.turn (h : PortServed s p z) (hq : q ≠ p) : PortServed s p (portTurn q z) := by
  unfold PortServed
  rw [portTurn_other hq]
  exact ⟨h.1, fun hs => ⟨(h.2 hs).1, fun f hf => ⟨((h.2 hs).2 f hf).1, portTurn_out ((h.2 hs).2 f hf).2⟩⟩⟩

theorem PortWaits.served (h : PortWaits s p z) (hp : p < s.mesh.ports.length) : PortServed s p (portTurn p z) := by
  obtain ⟨hlane, hport, hlen⟩ := h
  have hsends : z.portSends p = s.portSends p := portSends_of hlane
  have hin : p < z.mesh.ports.length := hlen ▸ hp
  unfold PortServed
  rw [← hsends, ← hport]
  refine ⟨fun hs => ?_, fun hs => ⟨fun hf => by rw [portTurn_none hs hf], fun f hf => ?_⟩⟩
  · rw [portTurn_down hs]
    exact putQueue_queue hin
  · rw [portTurn_some hs hf]
    exact ⟨putQueue_queue hin, List.mem_append_right _ (List.mem_singleton.mpr rfl)⟩

theorem portsSend_serves (h4 : p < 4) (hp : p < s.mesh.ports.length) : PortServed s p s.portsSend :=
  each_once (PortWaits s p) (PortServed s p) (fun _ hb _ hz => hz.turn hb) (fun _ hz => hz.served hp) (fun _ hb _ hz => hz.turn hb) List.nodup_range
    (List.mem_range.mpr h4) ⟨rfl, rfl, rfl⟩

theorem portTurn_empty (h : (at' s.mesh.ports p {}).queue = []) : portTurn p s = s := by
  cases hs : s.portSends p with
  | false => rw [portTurn_down hs, putQueue_same h]
  | true => exact portTurn_none hs (by rw [h]; exact nextFrame_nil)

theorem portsSend_empty (h : ∀ p < 4, (at' s.mesh.ports p {}).queue = []) : s.portsSend = { s with out := [] } :=
  each_keeps (fun z => z = { s with out := [] }) _ _ _ rfl fun p hp z hz => by
    subst hz
    exact portTurn_empty (h p (List.mem_range.mp hp))
end

/-- Settles O2: each port has one turn, which no other port's turn touches. -/
theorem emptyQueueIdles : Obligations.EmptyQueueIdles := fun s h => by
  have hframe : Frame 8388612 s s.portsSend := by simp
  exact ⟨_, step_idle h, hframe.keeps .now rfl, hframe.only rfl, fun p h4 hp => portsSend_serves h4 hp, portsSend_empty⟩

end Sys2Proof.Machine

/-! PROOFS. Records that are turned away, repeated or probed: the sequence check, the role, the head, the full ring, KEEPALIVE (R108, R112, R115, R126, R130 to R132). -/
namespace Sys2Proof.Machine
open State

/-! ## A record whose framing is good, by kind (R749) -/

section
variable {cmd : Option Cmd} {h : RecHdr} {op : Nat} {p : Bytes} {crc : Word} {r : Refuse} {v w : State}

theorem framed_nak (hs : v.sessionCheck h op = some r) : v.framed cmd h op p crc = v.reject h op 5 r (v.expOf h) none := by
  simp only [framed, hs]
  rfl
theorem framed_keepalive (hs : v.sessionCheck h 3 = none) :
    v.framed cmd h 3 p crc = (v.renew (ctxOf h.sess)).deliver h
      { sess := h.sess, status := 6, seq := h.seq, opcode := 3, exp := ((v.renew (ctxOf h.sess)).ctx (ctxOf h.sess)).e } := by
  simp only [framed, hs, show (3 : Nat) ≠ 1 from by decide, show (3 : Nat) ≠ 4 from by decide, false_and, if_false, if_true]
theorem framed_sequence (hs : v.sessionCheck h op = none) (h1 : op ≠ 1) (h3 : op ≠ 3) (h4 : op ≠ 4) :
    v.framed cmd h op p crc = (v.renew (ctxOf h.sess)).sequence cmd h op p crc := by
  simp only [framed, hs, h1, h3, h4, false_and, if_false]

/-- A session that passes the checks is open, and its ID names its context (R749). -/
theorem session_open (hs : v.sessionCheck h op = none) (h1 : op ≠ 1) : (v.ctx (ctxOf h.sess)).st ≠ 0 ∧ (v.ctx (ctxOf h.sess)).sess = h.sess := by
  unfold sessionCheck at hs
  simp only [h1, if_false] at hs
  split at hs
  · cases hs
  · split at hs
    · cases hs
    · split at hs
      · cases hs
      · next hopen =>
        simp only [not_or, Decidable.not_not] at hopen
        exact hopen.2
theorem expOf_open (hst : (v.ctx (ctxOf h.sess)).st ≠ 0) (hid : (v.ctx (ctxOf h.sess)).sess = h.sess) : v.expOf h = (v.ctx (ctxOf h.sess)).e := by
  simp only [expOf, hid, hst, ne_eq, not_false_eq_true, and_self, if_true]
theorem notHead_naks (hn : v.node ≠ 0) (hm : op = 1 ∨ h.src = .mbx0 ∨ h.src = .mbx1) : v.sessionCheck h op = some { code := 0x0D, spoil := v.node } := by
  have hhead : v.isHead = false := beq_eq_false_iff_ne.mpr hn
  have hkind : (op == 1 || (mbxOf h.src).isSome) = true := by
    obtain rfl | hm | hm := hm
    · rfl
    · rw [hm]; exact Bool.or_true _
    · rw [hm]; exact Bool.or_true _
  simp only [sessionCheck, hhead, hkind, Bool.not_false, Bool.and_self, if_true]

/-! ## What a rejection leaves of the sessions -/

theorem reject_ctx {st e : Nat} {o : Option Word} : CtxSame v (v.reject h op st r e o) := by
  unfold reject
  dsimp only
  split
  · exact deliver_ctx
  · refine CtxSame.trans ?_ deliver_ctx
    cases o with
    | none => exact .of rfl rfl
    | some crc => exact CtxSame.trans (w := v.spoil _) (.of rfl rfl) cacheCpl_ctx
end

theorem notMesh_of {h : RecHdr} (hs : h.src = .ring ∨ h.src = .mbx0 ∨ h.src = .mbx1) : h.src ≠ .mesh := by
  obtain hs | hs | hs := hs <;> rw [hs] <;> decide
theorem renew_own {c : Nat} {v : State} : Frame 516 v (v.renew c) := by simp

/-! ## KEEPALIVE (R126) -/

/-- Settles O10: KEEPALIVE renews the lease and is answered; neither touches the session's sequence. -/
theorem keepaliveIsAProbe : Obligations.KeepaliveIsAProbe := fun s v t h hh hv => by
  subst hv
  obtain ⟨ha, hs⟩ := hh
  have hc : Carries (.keepalive t h) cmdKeepalive t h [] := fun _ => rfl
  refine hc.only ha ?_ fun l => ?_
  · exact Eq.mpr (congrArg _ (framed_keepalive hs)) (renew_own.trans (deliver_own (notMesh_of ha.src)))
  · rw [show cmdKeepalive.opcode = 3 from rfl, framed_keepalive hs]
    have hexp : ((((s.begin t).recTaken cmdKeepalive h []).renew (ctxOf h.sess)).ctx (ctxOf h.sess)).e = _ := renew_of (·.e) fun _ _ => rfl
    rw [← hexp]
    exact ⟨(deliver_seq ha.src).renewed, (deliver_told ha.src).of (SameSlots.renew (c := ctxOf h.sess))⟩

/-! ## NOT_HEAD (R112) -/

/-- Settles O8: the first session check refuses, and neither taking a record nor its rejection changes a context's state or ID. -/
theorem sessionsOnlyOnTheHead : Obligations.SessionsOnlyOnTheHead := fun c cmd t h p s v hc ha hm hv hn => by
  subst hv
  have hnak := framed_nak (cmd := some cmd) (p := p) (crc := crc32c (recBytes h cmd.opcode p)) (notHead_naks hn hm)
  refine hc.only ha (hnak ▸ reject_own ha.src) fun l => ?_
  rw [hnak]
  refine ⟨(reject_plain ha.src).1, (reject_plain ha.src).2, fun k => ?_⟩
  have hrej := (reject_ctx (v := (s.begin t).recTaken cmd h p) (h := h) (op := cmd.opcode) (st := 5) (o := none)
    (r := { code := 0x0D, spoil := ((s.begin t).recTaken cmd h p).node }) (e := ((s.begin t).recTaken cmd h p).expOf h)).2 k
  rw [noteSets_ctx, finish_ctx, hrej.1, hrej.2.1]
  exact ⟨recTaken_kept.st k, recTaken_kept.sess k⟩

/-! ## A number consumed, its command refused (R130, R132, R750) -/

/-- A session's number is consumed. -/
def State.numbered (c : Nat) (v : State) : State := v.onCtx c fun x => { x with e := (x.e + 1) % M32, consumed := x.consumed + 1 }

section
variable {cmd : Cmd} {h : RecHdr} {op c : Nat} {p : Bytes} {crc : Word} {r : Refuse} {v w : State}

theorem sequence_next (hd : serialDiff 32 h.seq (v.ctx (ctxOf h.sess)).e = 0) : v.sequence (some cmd) h op p crc = v.consumed (some cmd) h op p crc := by
  simp only [State.sequence, hd, if_true]

/-- Every check of a record for this node ends in the same rejection. -/
theorem consumed_refused (hw : w = v.numbered (ctxOf h.sess)) (hn : h.node = w.node) (hj : w.judge cmd h p (w.roleOk h op) = some r) (hd : cmd.deny h r w = w) :
    v.consumed (some cmd) h op p crc = w.reject h op 3 r (w.expOf h) (some crc) := by
  unfold consumed
  dsimp only
  rw [show onCtx (ctxOf h.sess) (fun x => { x with e := (x.e + 1) % M32, consumed := x.consumed + 1 }) v = w from hw.symm]
  rw [if_neg (fun hf => hf.1 hn), hj]
  exact congrArg (State.refuse h op crc r) hd

theorem judge_role : w.judge cmd h p false = some { code := 0x0A, spoil := w.ctrlSess } := rfl
theorem forward_role {o : Option Word} (hr : w.roleOk h op = false) :
    w.forward h op p o = w.reject h op 3 { code := 0x0A, spoil := w.ctrlSess } (w.expOf h) o := by
  simp only [forward, hr, Bool.not_false, if_true]
/-- Without the role a record is refused in the same way whichever node it is for. -/
theorem consumed_roleless (hw : w = v.numbered (ctxOf h.sess)) (hr : w.roleOk h op = false) (hd : cmd.deny h { code := 0x0A, spoil := w.ctrlSess } w = w) :
    v.consumed (some cmd) h op p crc = w.reject h op 3 { code := 0x0A, spoil := w.ctrlSess } (w.expOf h) (some crc) := by
  unfold consumed
  dsimp only
  rw [show onCtx (ctxOf h.sess) (fun x => { x with e := (x.e + 1) % M32, consumed := x.consumed + 1 }) v = w from hw.symm]
  split
  · exact forward_role hr
  · rw [hr, judge_role]
    exact congrArg (State.refuse h op crc _) hd

theorem numbered_frame : Frame 512 v (v.numbered c) := by
  unfold numbered
  simp
theorem numbered_slots : SameSlots (v.numbered c) v := .onCtx fun _ => ⟨rfl, rfl, rfl⟩
theorem numbered_ctx (hl : c < v.host.ctxs.length) : ((v.renew c).numbered c).ctx c =
    { v.ctx c with leaseEnd := v.now + v.host.leaseMs * Config.ms, e := ((v.ctx c).e + 1) % 2 ^ 32, consumed := (v.ctx c).consumed + 1 } := by
  have hlen : c < (v.renew c).host.ctxs.length := Nat.lt_of_lt_of_eq hl modAt_length.symm
  unfold numbered
  rw [ctx_onCtx hlen]
  unfold renew
  rw [ctx_onCtx hl]
  rfl

/-- What the refusal of a consumed record leaves. -/
theorem reject_consumed {x : Ctx} {l : List (Nat × Nat)} {a b : Nat} (hs : h.src = .ring ∨ h.src = .mbx0 ∨ h.src = .mbx1)
    (hst : (v.ctx (ctxOf h.sess)).st ≠ 0) (hid : (v.ctx (ctxOf h.sess)).sess = h.sess) (hx : x = v.ctx (ctxOf h.sess))
    (hw : w = (v.renew (ctxOf h.sess)).numbered (ctxOf h.sess)) {u : State} (hu : u = noteSets l (finish a b (w.reject h op 3 r (w.expOf h) (some crc)))) :
    Rejected h op 3 r ((x.e + 1) % 2 ^ 32) v u ∧ (u.ctx (ctxOf h.sess)).e = (x.e + 1) % 2 ^ 32 ∧ (u.ctx (ctxOf h.sess)).consumed = x.consumed + 1 ∧
      (u.ctx (ctxOf h.sess)).cache = ({ seq := h.seq, crc := crc, cpl := rejectCpl h op 3 r ((x.e + 1) % 2 ^ 32) } :: x.cache).filter fun z =>
        decide (serialDiff 32 ((x.e + 1) % 2 ^ 32) z.seq ≤ 256) := by
  have hlive : ctxOf h.sess < v.host.ctxs.length := ctx_live hst
  have hctx := numbered_ctx hlive
  have hlen : ctxOf h.sess < w.host.ctxs.length := by
    rw [hw]
    exact Nat.lt_of_lt_of_eq (Nat.lt_of_lt_of_eq hlive modAt_length.symm) modAt_length.symm
  rw [← hw, ← hx] at hctx
  have hexp : w.expOf h = (x.e + 1) % 2 ^ 32 := by
    rw [expOf_open] <;> rw [hctx]
    · exact hx ▸ hst
    · exact hx ▸ hid
  rw [hexp] at hu
  obtain ⟨u', rfl, hrej, he, hcons, hcache⟩ := reject_kept (op := op) (st := 3) (r := r) (y := crc) (e := (x.e + 1) % 2 ^ 32) (l := l) (a := a) (b := b) hs hlen
    (by rw [hctx]; exact hx ▸ hst)
  rw [hctx] at he hcons hcache
  subst hu
  refine ⟨hrej.of ?_ ?_ ?_, he, hcons, hcache⟩
  · rw [hw]; exact numbered_slots.trans .renew
  · rw [hw]; rfl
  · rw [hw]; rfl
end

/-- Settles O7: the role is the first check, here and before a record is sent on. -/
theorem controlRoleRequired : Obligations.ControlRoleRequired := fun c cmd t h p s v w x hc ha h1 h11 hv hs hx hd hctrl hw hdeny => by
  have hop1 : cmd.opcode ≠ 1 := fun e => by rw [e] at h1; cases h1
  have hop3 : cmd.opcode ≠ 3 := fun e => by rw [e] at h1; cases h1
  have hop4 : cmd.opcode ≠ 4 := fun e => by rw [e] at h1; cases h1
  have hrole : w.roleOk h cmd.opcode = false := by
    have hclass : (cmd.opcode / 256 == 0) = false := beq_eq_false_iff_ne.mpr (by omega)
    have hother : (w.host.ctrl == some (ctxOf h.sess)) = false := by
      rw [hw]
      exact beq_eq_false_iff_ne.mpr hctrl
    simp only [roleOk, hclass, hother, Bool.or_self]
  obtain ⟨hst, hid⟩ := session_open hs hop1
  have hnext : serialDiff 32 h.seq ((v.renew (ctxOf h.sess)).ctx (ctxOf h.sess)).e = 0 := by
    rw [renew_of (·.e) fun _ _ => rfl, ← hx]
    exact hd
  have hframed := (framed_sequence (p := p) (cmd := some cmd) (crc := crc32c (recBytes h cmd.opcode p)) hs hop1 hop3 hop4).trans
    ((sequence_next hnext).trans (consumed_roleless hw hrole hdeny))
  rw [hv] at hframed
  refine hc.only ha ?_ fun l => ?_
  · rw [hframed, ← hv, hw]
    exact (renew_own.trans (numbered_frame.widen rfl)).trans (reject_own ha.src)
  · rw [hframed]
    obtain ⟨hrej, he, -, -⟩ := reject_consumed ha.src hst hid hx hw rfl
    refine ⟨hrej, he, ?_⟩
    rw [noteSets_host, State.finish_host, reject_ctx.1, hw]
    exact (congrArg (·.host.ctrl) hv).trans recTaken_kept.ctrl

/-! ## A full completion ring (R115) -/

theorem srcReady_full {i : Nat} {s : State} (hi : i < 32) (hf : cqFull (s.ctx i) = true) : s.srcReady i = false := by
  simp only [srcReady, hi, if_true, hf, Bool.not_true, Bool.and_false]
theorem takeFrom_full {i : Nat} {raw : Bytes} {k : State → State} {s : State} (hf : cqFull (s.ctx i) = true) : s.takeFrom .ring i raw k = s := by
  unfold takeFrom
  dsimp only
  split
  · rfl
  · split
    · next hi =>
      refine if_neg fun hturn => ?_
      have hready := List.find?_some hturn
      rw [srcReady_full hi hf] at hready
      cases hready
    · rfl

/-- Settles O9: a source that is not ready has no turn. -/
theorem fullCompletionRing : Obligations.FullCompletionRing := fun c cmd t h p s hc hsrc hf => by
  refine gives_as (m := 0) (hc s) (w := s.begin t) ?_ (by simp) rfl fun a q n => ?_
  · rw [hsrc]
    exact takeFrom_full hf
  · simp only [Unconsumed, noteSets_ctx, finish_ctx, noteSets_host, State.finish_host]
    exact ⟨rfl, rfl, fun _ => ⟨rfl, rfl, rfl⟩, rfl⟩

/-! ## The sequence check (R130, R131) -/

/-- The number expected lies ahead of one behind it. -/
theorem serialDiff_behind {a b : Nat} (h : 1 ≤ serialDiff 32 a b) : serialDiff 32 b a ≠ 0 := by
  unfold serialDiff at *
  omega

/-- The number was consumed before, and is not forgotten yet (R130). -/
def Behind (h : RecHdr) (x : Ctx) : Prop := 1 ≤ serialDiff 32 x.e h.seq ∧ serialDiff 32 x.e h.seq ≤ min 256 x.consumed

section
variable {cmd : Option Cmd} {h : RecHdr} {op : Nat} {p : Bytes} {crc : Word} {x : Ctx} {v : State}

theorem sequence_cached {k : Cached} (hx : v.ctx (ctxOf h.sess) = x) (hb : Behind h x) (hk : x.cache.find? (·.seq == h.seq) = some k) :
    v.sequence cmd h op p crc = if k.crc = crc then v.duplicate h k.cpl else v.reject h op 5 { code := 7, spoil := k.crc.toNat } x.e none := by
  subst hx
  simp only [State.sequence, serialDiff_behind hb.1, if_false, hk]
  exact if_pos hb
theorem sequence_waits {o : OpenCmd} (hx : v.ctx (ctxOf h.sess) = x) (hb : Behind h x) (hk : x.cache.find? (·.seq == h.seq) = none)
    (ho : v.host.opens.find? (fun z => z.h.sess == h.sess && z.h.seq == h.seq && z.kind != 9) = some o) :
    v.sequence cmd h op p crc = v.again h op crc o.crc x.e := by
  subst hx
  simp only [State.sequence, serialDiff_behind hb.1, if_false, hk, ho]
  exact if_pos hb
theorem sequence_out (hx : v.ctx (ctxOf h.sess) = x) (hb : ¬Behind h x) (hd : 1 ≤ serialDiff 32 h.seq x.e) :
    v.sequence cmd h op p crc = if serialDiff 32 h.seq x.e ≤ 2 ^ 31 - 1 then v.reject h op 4 { code := 5, spoil := x.e } x.e none
      else v.reject h op 5 { code := 6, spoil := x.e } x.e none := by
  subst hx
  simp only [State.sequence, Nat.ne_of_gt hd, if_false]
  exact if_neg hb
theorem renew_ctx {c : Nat} (hl : c < v.host.ctxs.length) : (v.renew c).ctx c = { v.ctx c with leaseEnd := v.now + v.host.leaseMs * Config.ms } :=
  ctx_onCtx hl
/-- A copy of a record still to be answered joins those that wait. -/
theorem again_same {was : Word} {e : Nat} (hw : was = crc) : ∃ o : OpenCmd, o.kind = 9 ∧ o.h = h ∧
    v.again h op crc was e = v.onHost fun y => { y with opens := y.opens ++ [o] } :=
  ⟨{ v.opened h op [] (some crc) 9 0 with jidx := 0 }, rfl, rfl, if_pos hw⟩
theorem again_other {was : Word} {e : Nat} (hw : was ≠ crc) : v.again h op crc was e = v.reject h op 5 { code := 7, spoil := was.toNat } e none := if_neg hw
end

section
variable {c : Instr} {cmd : Cmd} {t : Nat} {h : RecHdr} {p : Bytes} {s v z : State} {F : State → Prop}

/-- A sequenced record goes on in the session's renewed state. -/
theorem Carries.sequenced (hc : Carries c cmd t h p) (ha : Arrives cmd h p (s.begin t)) (h1 : cmd.opcode ≠ 1) (h3 : cmd.opcode ≠ 3) (h4 : cmd.opcode ≠ 4)
    (hv : v = (s.begin t).recTaken cmd h p) (hs : v.sessionCheck h cmd.opcode = none)
    (hz : (v.renew (ctxOf h.sess)).sequence (some cmd) h cmd.opcode p (crc32c (recBytes h cmd.opcode p)) = z) (hframe : Frame 516 (v.renew (ctxOf h.sess)) z)
    (hF : ∀ l a b, F (noteSets l (finish a b z))) : Gives c s [.host] F := by
  subst hv
  have hframed := (framed_sequence hs h1 h3 h4).trans hz
  exact hc.only ha (hframed ▸ renew_own.trans hframe) fun l => hframed ▸ hF l _ _

/-- One that is rejected there without having consumed its number. -/
theorem Carries.rejects {st e : Nat} {r : Refuse} (hc : Carries c cmd t h p) (ha : Arrives cmd h p (s.begin t)) (h1 : cmd.opcode ≠ 1) (h3 : cmd.opcode ≠ 3)
    (h4 : cmd.opcode ≠ 4) (hv : v = (s.begin t).recTaken cmd h p) (hs : v.sessionCheck h cmd.opcode = none)
    (hz : (v.renew (ctxOf h.sess)).sequence (some cmd) h cmd.opcode p (crc32c (recBytes h cmd.opcode p)) =
      (v.renew (ctxOf h.sess)).reject h cmd.opcode st r e none) :
    Gives c s [.host] fun u => Rejected h cmd.opcode st r e v u ∧ Unconsumed (ctxOf h.sess) v u :=
  hc.sequenced ha h1 h3 h4 hv hs hz (reject_own ha.src) fun _ _ _ =>
    ⟨(reject_plain ha.src).1.of SameSlots.renew rfl rfl, (reject_plain ha.src).2.renewed⟩
end

/-- Settles O6: each outcome of the sequence check by its own branch, over the state whose lease has been renewed. -/
theorem recordsInSequence : Obligations.RecordsInSequence := fun c cmd t h p s v x y hc ha h1 h3 h4 hv hx hy => by
  refine ⟨fun r hr => ?_, fun hs => ?_⟩
  · subst hv
    exact hc.only ha (framed_nak hr ▸ reject_own ha.src) fun l => framed_nak hr ▸ reject_plain ha.src
  obtain ⟨hst, hid⟩ := session_open hs h1
  subst hy
  have hctx : (v.renew (ctxOf h.sess)).ctx (ctxOf h.sess) = { x with leaseEnd := v.now + v.host.leaseMs * Config.ms } := by
    rw [hx]
    exact renew_ctx (ctx_live hst)
  refine ⟨fun r w hd hw hnode hjudge hdeny => ?_, fun k hlo hhi hk => ⟨fun hcrc => ?_, fun hcrc => ?_⟩, fun o hlo hhi hk ho => ⟨fun hcrc => ?_, fun hcrc => ?_⟩,
    fun hb hd => ⟨fun hgap => ?_, fun hstale => ?_⟩⟩
  · have hz := (sequence_next (cmd := cmd) (op := cmd.opcode) (p := p) (crc := crc32c (recBytes h cmd.opcode p)) (by rw [hctx]; exact hd)).trans
      (consumed_refused hw hnode hjudge hdeny)
    refine hc.sequenced ha h1 h3 h4 hv hs hz ?_ fun _ _ _ => reject_consumed ha.src hst hid hx hw rfl
    rw [hw]
    exact (numbered_frame.widen rfl).trans (reject_own ha.src)
  · have hz := (sequence_cached (cmd := some cmd) (op := cmd.opcode) (p := p) hctx ⟨hlo, hhi⟩ hk).trans (if_pos hcrc)
    refine hc.sequenced ha h1 h3 h4 hv hs hz (deliver_own (notMesh_of ha.src)) fun _ _ _ => ⟨(deliver_told ha.src).of SameSlots.renew, ?_, (deliver_seq ha.src).renewed⟩
    exact (deliver_spoils ha.src).1
  · exact hc.rejects ha h1 h3 h4 hv hs ((sequence_cached hctx ⟨hlo, hhi⟩ hk).trans (if_neg hcrc))
  · obtain ⟨o', hkind, hh, hagain⟩ := again_same (v := v.renew (ctxOf h.sess)) (h := h) (op := cmd.opcode) (e := x.e) hcrc
    have hz := (sequence_waits (cmd := some cmd) (op := cmd.opcode) (p := p) hctx ⟨hlo, hhi⟩ hk ho).trans hagain
    refine hc.sequenced ha h1 h3 h4 hv hs hz (by simp) fun l a b => ?_
    have hun : Unconsumed (ctxOf h.sess) (v.renew (ctxOf h.sess)) (noteSets l (finish a b ((v.renew (ctxOf h.sess)).onHost fun y => { y with opens := y.opens ++ [o'] }))) := by
      simp only [Unconsumed, noteSets_ctx, finish_ctx]
      exact ⟨rfl, rfl, rfl⟩
    rw [noteSets_host, State.finish_host]
    exact ⟨⟨o', List.mem_append_right _ (List.mem_singleton.mpr rfl), hkind, hh⟩, rfl, hun.renewed⟩
  · exact hc.rejects ha h1 h3 h4 hv hs ((sequence_waits hctx ⟨hlo, hhi⟩ hk ho).trans (again_other hcrc))
  · exact hc.rejects ha h1 h3 h4 hv hs ((sequence_out hctx hb hd).trans (if_pos hgap))
  · exact hc.rejects ha h1 h3 h4 hv hs ((sequence_out hctx hb hd).trans (if_neg (by dsimp only; omega)))

end Sys2Proof.Machine

/-! PROOFS. Accepted session commands (R119, R122 to R128, R144). -/
namespace Sys2Proof.Machine
open State

section
variable {cmd : Cmd} {h : RecHdr} {p : Bytes} {t m : Nat} {s : State} {c : Instr} {l : List Part} {F : State → Prop}

/-- What a claim about an accepted command that answers at once needs, where it speaks of sessions: its effect on a state whose HOST is that of the intake, which
the answer leaves but for what waits. -/
theorem Accepts.givesCtx (ha : Accepts cmd h p (s.begin t)) (e : exec c s = .next (hostRow cmd t h p s)) (hp : cmd.post = fun _ _ v => v)
    (hw : ∀ z, (cmd.act h p z).2.wait = none) (hm : ∀ v, Frame m v (cmd.act h p v).1) (hq : ∀ v : State, SameWait v.host (cmd.act h p v).1.host)
    (hc : (maskOfParts (.now :: .out :: l)) = m ||| 1541 ||| maskOfParts (.now :: .out :: l))
    (hf : ∀ v u, Frame 1536 (s.begin t) v → v.host = ((s.begin t).intake cmd h p).host → CtxSame (cmd.act h p v).1 u → Frame 8390156 (cmd.act h p v).1 u → F u) :
    Gives c s (l ++ s.heldParts) F := by
  obtain ⟨u, hu, honly, -⟩ := ha.gives (F := fun _ => True) e hp hm (fun v hv => hv.same (hq v)) hc fun _ _ _ _ _ => trivial
  obtain ⟨v, hv, hhost, hctx, hframe⟩ := hostRow_ctx ha hw hp
  exact ⟨u, hu, honly, hf v u hv hhost (Host.Outcome.next.inj (e.symm.trans hu) ▸ hctx) (Host.Outcome.next.inj (e.symm.trans hu) ▸ hframe)⟩
end

theorem openFields {c r : Nat} (hc : c < 256) (hr : r < 256) :
    field (le 1 c ++ le 1 r ++ le 2 0) 0 1 = c ∧ field (le 1 c ++ le 1 r ++ le 2 0) 1 1 = r := by
  refine ⟨?_, ?_⟩
  · rw [List.append_assoc, field_le_of_lt (by omega)]
  · rw [List.append_assoc, field_skip _ _ _ _ _ (by decide)]
    exact field_le_of_lt (by omega)

/-! ## What each command does to its context and to the control role -/

section
variable {h : RecHdr} {p : Bytes} {v : State} {b k c : Nat}

theorem evControl_ctrl : (v.evControl b).host.ctrl = v.host.ctrl :=
  congrArg HostB.ctrl ((by simp : Frame 1024 v (v.evControl b)).keeps .host rfl)
theorem hostLossCheck_host : v.hostLossCheck.host = v.host := (by simp : Frame 8912900 v v.hostLossCheck).keeps .host rfl

theorem sessionOpen_ctx (hl : field p 0 1 < v.host.ctxs.length) : (cmdSessionOpen.act h p v).1.ctx (field p 0 1) =
    { v.ctx (field p 0 1) with
      sess := 32 * (v.ctx (field p 0 1)).gen + field p 0 1, st := 1, e := (h.seq + 1) % 2 ^ 32, consumed := 0, cache := []
      leaseEnd := v.now + v.host.leaseMs * Config.ms } := by
  simp only [cmdSessionOpen, evControl_ctx]
  have hset : ∀ (o : Option Nat) (z : State), (z.setCtrl o).ctx (field p 0 1) = z.ctx (field p 0 1) := fun _ _ => rfl
  have hin : ∀ f : Ctx → Ctx, field p 0 1 < (v.onCtx (field p 0 1) f).host.ctxs.length := fun f => Nat.lt_of_lt_of_eq hl modAt_length.symm
  split <;> simp only [hset, renew_ctx (hin _), ctx_onCtx hl] <;> rfl
theorem sessionOpen_frame : Frame 1536 v (cmdSessionOpen.act h p v).1 := by
  simp only [cmdSessionOpen]
  split <;> simp
theorem sessionOpen_ctrl : (cmdSessionOpen.act h p v).1.host.ctrl = if field p 1 1 = 1 then some (field p 0 1) else v.host.ctrl := by
  simp only [cmdSessionOpen, evControl_ctrl]
  split <;> rfl

theorem closeCtx_ctx (hl : c < v.host.ctxs.length) : (v.closeCtx c).ctx c =
    { v.ctx c with st := 0, cache := [], consumed := 0, gen := if (v.ctx c).gen = 2047 then 1 else (v.ctx c).gen + 1 } := ctx_onCtx hl
theorem relockSession_ctx : (v.relockSession k).ctx c = v.ctx c := ctx_host (congrArg HostB.ctxs relockSession_host) c
theorem hostLossCheck_ctx : v.hostLossCheck.ctx c = v.ctx c := ctx_host (congrArg HostB.ctxs hostLossCheck_host) c

/-- SESSION_CLOSE up to the host-loss check. -/
def State.sessionEnded (h : RecHdr) (v : State) : State := ((v.closeCtx (ctxOf h.sess)).relockSession h.sess).evControl v.ctrlSess
theorem sessionClose_act : (cmdSessionClose.act h p v).1 = if (v.host.ctrl == some (ctxOf h.sess)) = true then (v.sessionEnded h).hostLossCheck else v.sessionEnded h := rfl
theorem sessionEnded_ctrl : (v.sessionEnded h).host.ctrl = if v.host.ctrl = some (ctxOf h.sess) then none else v.host.ctrl := by
  simp only [sessionEnded, evControl_ctrl, relockSession_host]
  rfl
theorem sessionEnded_frame : Frame 4326912 v (v.sessionEnded h) := by
  unfold sessionEnded
  simp
theorem sessionClose_ctx (hl : ctxOf h.sess < v.host.ctxs.length) : (cmdSessionClose.act h p v).1.ctx (ctxOf h.sess) =
    { v.ctx (ctxOf h.sess) with st := 0, cache := [], consumed := 0, gen := if (v.ctx (ctxOf h.sess)).gen = 2047 then 1 else (v.ctx (ctxOf h.sess)).gen + 1 } := by
  have hend : (v.sessionEnded h).ctx (ctxOf h.sess) = _ := (evControl_ctx.trans relockSession_ctx).trans (closeCtx_ctx hl)
  rw [sessionClose_act]
  split
  · rw [hostLossCheck_ctx, hend]
  · exact hend
theorem sessionClose_ctrl : (cmdSessionClose.act h p v).1.host.ctrl = if v.host.ctrl = some (ctxOf h.sess) then none else v.host.ctrl := by
  rw [sessionClose_act]
  split
  · rw [hostLossCheck_host, sessionEnded_ctrl]
  · exact sessionEnded_ctrl
/-- The holder's session closed outside OFF: the host-loss policy is scheduled. -/
theorem sessionClose_loss (hctrl : v.host.ctrl = some (ctxOf h.sess)) (hmode : v.mode.mode ≠ 0) :
    (cmdSessionClose.act h p v).1.modeQ.lossSched = v.modeQ.lossSched ++ [v.boundaryAfter] := by
  have hmodeq : (v.sessionEnded h).modeQ = v.modeQ := sessionEnded_frame.keeps .modeQ rfl
  have hm : (v.sessionEnded h).mode = v.mode := sessionEnded_frame.keeps .mode rfl
  rw [sessionClose_act, hctrl, beq_self_eq_true, if_pos rfl, loss_sched (by rw [hm]; exact hmode), hmodeq]
  congr 2
  exact boundary_of (sessionEnded_frame.keeps .now rfl) (sessionEnded_frame.keeps .ofs rfl) (sessionEnded_frame.keeps .img rfl)
    (sessionEnded_frame.keeps .mesh rfl) (sessionEnded_frame.keeps .clk rfl)

theorem resume_ctx (hl : ctxOf h.sess < v.host.ctxs.length) : (cmdResume.act h p v).1.ctx (ctxOf h.sess) =
    { v.ctx (ctxOf h.sess) with
      st := 1, sqHead := 0, sqTail := 0, cqHead := 0, cqTail := 0, phase := true, ringErr := false, leaseEnd := v.now + v.host.leaseMs * Config.ms } := by
  refine (renew_ctx (Nat.lt_of_lt_of_eq hl modAt_length.symm)).trans ?_
  rw [ctx_onCtx hl]
  rfl
theorem takeControl_ctx : (cmdTakeControl.act h p v).1.ctx c = v.ctx c := evControl_ctx
theorem takeControl_ctrl : (cmdTakeControl.act h p v).1.host.ctrl = some (ctxOf h.sess) := evControl_ctrl
/-- RELEASE_CONTROL up to the host-loss check. -/
def State.released (v : State) : State := (v.setCtrl none).evControl v.ctrlSess
theorem releaseControl_act : (cmdReleaseControl.act h p v).1 = v.released.hostLossCheck := rfl
theorem releaseControl_ctx : (cmdReleaseControl.act h p v).1.ctx c = v.ctx c := by
  rw [releaseControl_act, hostLossCheck_ctx]
  exact evControl_ctx
theorem releaseControl_ctrl : (cmdReleaseControl.act h p v).1.host.ctrl = none := by
  rw [releaseControl_act, hostLossCheck_host]
  exact evControl_ctrl
theorem released_frame : Frame 1536 v v.released := by
  unfold released
  simp
theorem releaseControl_loss (hmode : v.mode.mode ≠ 0) : (cmdReleaseControl.act h p v).1.modeQ.lossSched = v.modeQ.lossSched ++ [v.boundaryAfter] := by
  have hmodeq : v.released.modeQ = v.modeQ := released_frame.keeps .modeQ rfl
  have hm : v.released.mode = v.mode := released_frame.keeps .mode rfl
  rw [releaseControl_act, loss_sched (by rw [hm]; exact hmode), hmodeq]
  congr 2
  exact boundary_of (released_frame.keeps .now rfl) (released_frame.keeps .ofs rfl) (released_frame.keeps .img rfl) (released_frame.keeps .mesh rfl)
    (released_frame.keeps .clk rfl)
end

theorem boundary_hj {v s : State} (h : Frame 1536 s v) : v.boundaryAfter = s.boundaryAfter :=
  boundary_of (h.keeps .now rfl) (h.keeps .ofs rfl) (h.keeps .img rfl) (h.keeps .mesh rfl) (h.keeps .clk rfl)

/-! ## What an accepted one leaves -/

theorem sessionOpen_opens (s b : State) (t c r : Nat) (h : RecHdr) (ha : Accepts cmdSessionOpen h (le 1 c ++ le 1 r ++ le 2 0) (s.begin t)) (hb : b = s.begin t)
    (hc : c < 32) (hr : r < 2) (hl : c < s.host.ctxs.length) :
    Gives (.sessionOpen t h c r) s ([.host, .jnl] ++ s.heldParts) fun u => (u.ctx c).st = 1 ∧ (u.ctx c).sess = 32 * (b.ctx c).gen + c ∧
      (u.ctx c).e = (h.seq + 1) % 2 ^ 32 ∧ (u.ctx c).leaseEnd = b.now + s.host.leaseMs * Config.ms ∧
      u.host.ctrl = (if r = 1 then some c else s.host.ctrl) := by
  subst hb
  refine ha.givesCtx (m := 1536) rfl rfl (fun _ => rfl) (fun _ => sessionOpen_frame) (fun _ => sessionOpen_wait) rfl fun v u hv hhost hu _ => ?_
  have hk := intake_un rfl hhost
  obtain ⟨hcf, hrf⟩ := openFields (c := c) (r := r) (by omega) (by omega)
  have hctx := sessionOpen_ctx (h := h) (v := v) (p := le 1 c ++ le 1 r ++ le 2 0) (by rw [hcf, hk.len]; exact hl)
  rw [hcf] at hctx
  obtain ⟨hst, hsess, he, hlease, -⟩ := hu.2 c
  rw [hst, hsess, he, hlease, hctx, hu.1, sessionOpen_ctrl, hcf, hrf, hk.ctrl]
  refine ⟨rfl, ?_, rfl, ?_, rfl⟩
  · rw [hk.gen]
  · show v.now + v.host.leaseMs * Config.ms = _
    rw [hk.ms, show v.now = _ from hv.keeps .now rfl]
    rfl

theorem sessionClose_closes (s b : State) (t : Nat) (h : RecHdr) (ha : Accepts cmdSessionClose h [] (s.begin t)) (hb : b = s.begin t) :
    Gives (.sessionClose t h) s ([.host, .jnl, .evs, .modeQ, .safe, .mesh] ++ s.heldParts) fun u => (u.ctx (ctxOf h.sess)).st = 0 ∧
      (u.ctx (ctxOf h.sess)).gen = (if (b.ctx (ctxOf h.sess)).gen = 2047 then 1 else (b.ctx (ctxOf h.sess)).gen + 1) ∧
      u.host.ctrl = (if s.host.ctrl = some (ctxOf h.sess) then none else s.host.ctrl) ∧
      (s.host.ctrl = some (ctxOf h.sess) → s.mode.mode ≠ 0 → u.modeQ.lossSched = s.modeQ.lossSched ++ [b.boundaryAfter]) := by
  subst hb
  refine ha.givesCtx (m := 13239812) rfl rfl (fun _ => rfl) (fun v => ?_) (fun _ => sessionClose_wait) rfl fun v u hv hhost hu hframe => ?_
  · rw [sessionClose_act]
    split
    · exact Frame.trans (u := v.sessionEnded h) (sessionEnded_frame.widen rfl) (by simp)
    · exact sessionEnded_frame.widen rfl
  obtain ⟨hctrl, hlen, -, hgen⟩ := intake_seq rfl ha.session hhost
  obtain ⟨hst, -, -, -, hg, -⟩ := hu.2 (ctxOf h.sess)
  rw [hst, hg, sessionClose_ctx hlen, hu.1, sessionClose_ctrl, hctrl, show u.modeQ = _ from hframe.keeps .modeQ rfl]
  refine ⟨rfl, by rw [hgen], rfl, fun hholds hmode => ?_⟩
  rw [sessionClose_loss (hctrl.trans hholds) (by rw [show v.mode = _ from hv.keeps .mode rfl]; exact hmode), show v.modeQ = _ from hv.keeps .modeQ rfl, boundary_hj hv]
  rfl

theorem keepalive_renews (s b : State) (t : Nat) (h : RecHdr) (hh : Hosted cmdKeepalive h [] (s.begin t)) (hb : b = s.begin t) :
    Gives (.keepalive t h) s [.host] fun u => (u.ctx (ctxOf h.sess)).leaseEnd = b.now + s.host.leaseMs * Config.ms ∧
      (u.ctx (ctxOf h.sess)).e = (b.ctx (ctxOf h.sess)).e ∧ (u.ctx (ctxOf h.sess)).st = (b.ctx (ctxOf h.sess)).st ∧
      u.host.ctrl = s.host.ctrl := by
  subst hb
  obtain ⟨ha, hs⟩ := hh
  have hc : Carries (.keepalive t h) cmdKeepalive t h [] := fun _ => rfl
  have hk : Kept (s.begin t) ((s.begin t).recTaken cmdKeepalive h []) := recTaken_kept
  refine hc.only ha ?_ fun l => ?_
  · exact Eq.mpr (congrArg _ (framed_keepalive hs)) (renew_own.trans (deliver_own (notMesh_of ha.src)))
  · rw [show cmdKeepalive.opcode = 3 from rfl, framed_keepalive hs, noteSets_ctx, finish_ctx, noteSets_host, State.finish_host]
    obtain ⟨hst, -, he, hlease, -⟩ := deliver_ctx.2 (ctxOf h.sess)
    rw [hst, he, hlease, deliver_ctx.1, renew_ctx (ctx_live (session_open hs (by decide)).1)]
    refine ⟨?_, hk.e _, hk.st _, hk.ctrl⟩
    show ((s.begin t).recTaken cmdKeepalive h []).now + _ * Config.ms = _
    rw [hk.ms, show ((s.begin t).recTaken cmdKeepalive h []).now = _ from recTaken_frame.keeps .now rfl]
    rfl

theorem resume_resumes (s b : State) (t q : Nat) (h : RecHdr) (ha : Accepts cmdResume h (le 4 q) (s.begin t)) (hb : b = s.begin t) :
    Gives (.resume t h q) s ([.host, .jnl] ++ s.heldParts) fun u => (u.ctx (ctxOf h.sess)).st = 1 ∧ (u.ctx (ctxOf h.sess)).sess = h.sess ∧
      (u.ctx (ctxOf h.sess)).sqHead = 0 ∧ (u.ctx (ctxOf h.sess)).cqHead = 0 ∧ (u.ctx (ctxOf h.sess)).sqTail = 0 ∧
      (u.ctx (ctxOf h.sess)).e = (b.ctx (ctxOf h.sess)).e ∧ (u.ctx (ctxOf h.sess)).leaseEnd = b.now + s.host.leaseMs * Config.ms ∧
      u.host.ctrl = s.host.ctrl := by
  subst hb
  refine ha.givesCtx (m := 512) rfl rfl (fun _ => rfl) (fun v => by simp [cmdResume]) (fun _ => resume_wait) rfl fun v u hv hhost hu _ => ?_
  have hk := intake_un rfl hhost
  obtain ⟨hlive, hid⟩ := sess_live ha.session (by decide)
  have hctx := resume_ctx (h := h) (p := le 4 q) (v := v) (by rw [hk.len]; exact ctx_live hlive)
  obtain ⟨hst, hsess, he, hlease, -, hsq, htail, hcq⟩ := hu.2 (ctxOf h.sess)
  rw [hst, hsess, he, hlease, hsq, htail, hcq, hctx, hu.1]
  refine ⟨rfl, (hk.sess _).trans hid, rfl, rfl, rfl, hk.e _, ?_, hk.ctrl⟩
  show v.now + v.host.leaseMs * Config.ms = _
  rw [hk.ms, show v.now = _ from hv.keeps .now rfl]
  rfl

theorem takeControl_takes (s b : State) (t : Nat) (h : RecHdr) (ha : Accepts cmdTakeControl h [] (s.begin t)) (hb : b = s.begin t) :
    Gives (.takeControl t h) s ([.host, .jnl] ++ s.heldParts) fun u => u.host.ctrl = some (ctxOf h.sess) ∧
      (u.ctx (ctxOf h.sess)).e = ((b.ctx (ctxOf h.sess)).e + 1) % 2 ^ 32 := by
  subst hb
  refine ha.givesCtx (m := 1536) rfl rfl (fun _ => rfl) (fun v => by simp [cmdTakeControl]) (fun _ => takeControl_wait) rfl fun v u hv hhost hu _ => ?_
  obtain ⟨-, -, he, -⟩ := intake_seq rfl ha.session hhost
  rw [hu.1, takeControl_ctrl, (hu.2 _).2.2.1, takeControl_ctx]
  exact ⟨rfl, he⟩

theorem releaseControl_releases (s b : State) (t : Nat) (h : RecHdr) (ha : Accepts cmdReleaseControl h [] (s.begin t)) (hb : b = s.begin t) :
    Gives (.releaseControl t h) s ([.host, .jnl, .modeQ, .mesh] ++ s.heldParts) fun u => u.host.ctrl = none ∧
      (u.ctx (ctxOf h.sess)).e = ((b.ctx (ctxOf h.sess)).e + 1) % 2 ^ 32 ∧
      (s.mode.mode ≠ 0 → u.modeQ.lossSched = s.modeQ.lossSched ++ [b.boundaryAfter]) := by
  subst hb
  refine ha.givesCtx (m := 8914436) rfl rfl (fun _ => rfl) (fun v => ?_) (fun _ => releaseControl_wait) rfl fun v u hv hhost hu hframe => ?_
  · rw [releaseControl_act]
    exact Frame.trans (u := v.released) (released_frame.widen rfl) (by simp)
  obtain ⟨-, -, he, -⟩ := intake_seq rfl ha.session hhost
  rw [hu.1, releaseControl_ctrl, (hu.2 _).2.2.1, releaseControl_ctx, show u.modeQ = _ from hframe.keeps .modeQ rfl]
  refine ⟨rfl, he, fun hmode => ?_⟩
  rw [releaseControl_loss (by rw [show v.mode = _ from hv.keeps .mode rfl]; exact hmode), show v.modeQ = _ from hv.keeps .modeQ rfl, boundary_hj hv]
  rfl

/-- Settles O13: each command by its own lemma. -/
theorem sessionsAndTheirCommands : Obligations.SessionsAndTheirCommands :=
  ⟨sessionOpen_opens, sessionClose_closes, keepalive_renews, resume_resumes, takeControl_takes, releaseControl_releases⟩

/-- Settles O11: a resumed session leaves the role where it is. -/
theorem resumedAsObserver : Obligations.ResumedAsObserver := fun s t q c h ha hc hne => by
  obtain ⟨u, hu, honly, hst, -, -, -, -, -, -, hctrl⟩ := resume_resumes s _ t q h ha rfl
  exact ⟨u, hu, honly, hst, hctrl.trans hc, fun e => hne (Option.some.inj ((hctrl.trans hc).symm.trans e))⟩

/-- A command whose frame leaves MODE out leaves a host-loss policy as it stands. -/
theorem Gives.modeStays {c : Instr} {s : State} {F : State → Prop} (h : Gives c s ([.host, .jnl] ++ s.heldParts) F) :
    Gives c s ([.host, .jnl] ++ s.heldParts) fun u => u.modeQ = s.modeQ ∧ u.mode = s.mode := by
  obtain ⟨u, hu, honly, -⟩ := h
  exact ⟨u, hu, honly, honly.held .modeQ (by decide), honly.held .mode (by decide)⟩

/-- Settles O12: none of the three commands touches MODE. -/
theorem hostLossPolicyStays : Obligations.HostLossPolicyStays := fun s t h => by
  refine ⟨fun c r ha => ?_, fun q ha => (resume_resumes s _ t q h ha rfl).modeStays, fun ha => (takeControl_takes s _ t h ha rfl).modeStays⟩
  exact Gives.modeStays (F := fun _ => True) (ha.givesCtx (m := 1536) rfl rfl (fun _ => rfl) (fun _ => sessionOpen_frame) (fun _ => sessionOpen_wait) rfl
    fun _ _ _ _ _ _ => trivial)

end Sys2Proof.Machine

/-! PROOFS. Ring registers, mailboxes, leases, parked sessions and the journal's own events (R115 to R125, R140, R143, R751). -/
namespace Sys2Proof.Machine
open State

section
variable {src : Src} {dom off n c v m : Nat} {k : State → State} {s : State}

/-- A direct write reaches its register where no warm reset runs and the domain is on (R658, R698). -/
theorem writable_on (hw : s.pwr.warm = false) (hd : s.pwr.dom.testBit (dom - 1) = true) : s.writable src dom off k = k s := by
  simp only [writable, hw, hd, Bool.not_true, Bool.false_eq_true, if_false]
theorem readable_on (hv : s.viewed src off = false) (hw : s.pwr.warm = false) (hd : s.pwr.dom.testBit (dom - 1) = true) : s.readable src dom off n k = k s := by
  simp only [readable, hv, hw, hd, Bool.not_true, Bool.false_eq_true, if_false]
theorem onCtx_congr {f g : Ctx → Ctx} (h : f (s.ctx c) = g (s.ctx c)) : s.onCtx c f = s.onCtx c g :=
  congrArg (fun l : List Ctx => s.onHost fun x => { x with ctxs := l }) (modAt_congr {} h)
theorem onMbx_congr {f g : Mbx → Mbx} (h : f (s.mbx m) = g (s.mbx m)) : s.onMbx m f = s.onMbx m g :=
  congrArg (fun l : List Mbx => s.onHost fun x => { x with mbx := l }) (modAt_congr {} h)

/-! ## Ring registers and mailboxes (R115 to R117, R121, R751) -/

theorem start_judges (hst : (s.ctx c).st = 1) : s.start c = if ringValid (s.ctx c) then s.onCtx c (fun x => { x with
      st := 2, sqHead := 0, cqTail := 0, phase := true, ringErr := false }) else s.onCtx c fun x => { x with ringErr := true } := by
  have hbound : ¬(s.ctx c).st ≠ 1 := not_not_intro hst
  unfold start
  split
  · next hval => exact onCtx_congr ((if_neg hbound).trans (if_pos hval))
  · next hval => exact onCtx_congr ((if_neg hbound).trans (if_neg hval))
/-- A pointer that lies outside its ring: any but 0 where the ring has no slots. -/
theorem pointer_bad {st size : Nat} : st = 2 ∧ (size = 0 ∧ v ≠ 0 ∨ size ≠ 0 ∧ size ≤ v) ↔ st = 2 ∧ size ≤ v ∧ (size ≠ 0 ∨ v ≠ 0) := by omega
theorem sqTailWrite_eq : s.sqTailWrite c v = if (s.ctx c).st = 2 ∧ (s.ctx c).sqSize ≤ v ∧ ((s.ctx c).sqSize ≠ 0 ∨ v ≠ 0)
    then s.onCtx c (fun x => { x with ringErr := true }) else s.onCtx c fun x => { x with sqTail := v % 2 ^ 32 } := by
  simp only [sqTailWrite, pointer_bad]
  rfl
theorem cqHeadWrite_bad (hbad : (s.ctx c).st = 2 ∧ (s.ctx c).cqSize ≤ v ∧ ((s.ctx c).cqSize ≠ 0 ∨ v ≠ 0)) : s.cqHeadWrite c v = s.onCtx c fun x => { x with ringErr := true } := by
  simp only [cqHeadWrite, pointer_bad]
  exact if_pos hbad
theorem cqHeadWrite_good (hv : v < (s.ctx c).cqSize) : s.cqHeadWrite c v = s.onCtx c fun x => { x with cqHead := v % 2 ^ 32 } := by
  simp only [cqHeadWrite, pointer_bad]
  exact if_neg (by omega)
theorem doorbell_rings : s.doorbell m = if (s.mbx m).busy then s.onMbx m (fun x => { x with dbLost := true }) else s.onMbx m fun x => { x with busy := true, done := false } := by
  unfold doorbell
  split
  · next hbusy => exact onMbx_congr (if_pos hbusy)
  · next hfree => exact onMbx_congr (if_neg hfree)
end

theorem hostSessCtlStart_judges (s b : State) (t c : Nat) (ifc : Iface) (hb : b = s.begin t) (hw : b.pwr.warm = false) (hd : b.pwr.dom.testBit 2 = true) (hst : (b.ctx c).st = 1) :
    Gives (.hostSessCtlStart t ifc c) s [.host] fun u => u.host = (if ringValid (b.ctx c) then b.onCtx c fun x => { x with
        st := 2, sqHead := 0, cqTail := 0, phase := true, ringErr := false }
      else b.onCtx c fun x => { x with ringErr := true }).host := by
  subst hb
  refine gives_as (m := 512) rfl ((writable_on hw hd).trans (start_judges hst)) ?_ rfl fun _ _ _ => by rw [noteSets_host, State.finish_host]
  split <;> simp

theorem hostSqTailWrite_writes (s b : State) (t c v : Nat) (ifc : Iface) (hb : b = s.begin t) (hw : b.pwr.warm = false) (hd : b.pwr.dom.testBit 2 = true) :
    Gives (.hostSqTailWrite t ifc c v) s [.host] fun u => u.host = (if (b.ctx c).st = 2 ∧ (b.ctx c).sqSize ≤ v ∧ ((b.ctx c).sqSize ≠ 0 ∨ v ≠ 0) then
        b.onCtx c fun x => { x with ringErr := true }
      else b.onCtx c fun x => { x with sqTail := v % 2 ^ 32 }).host := by
  subst hb
  refine gives_as (m := 512) rfl ((writable_on hw hd).trans sqTailWrite_eq) ?_ rfl fun _ _ _ => by rw [noteSets_host, State.finish_host]
  split <;> simp

theorem hostCqHeadWrite_writes (s b : State) (t c v : Nat) (ifc : Iface) (hb : b = s.begin t) (hw : b.pwr.warm = false) (hd : b.pwr.dom.testBit 2 = true)
    (hl : c < s.host.ctxs.length) :
    ((b.ctx c).st = 2 ∧ (b.ctx c).cqSize ≤ v ∧ ((b.ctx c).cqSize ≠ 0 ∨ v ≠ 0) →
      Gives (.hostCqHeadWrite t ifc c v) s [.host] fun u => (u.ctx c).cqHead = (b.ctx c).cqHead ∧ (u.ctx c).ringErr = true) ∧
    ((b.ctx c).st = 2 → v < (b.ctx c).cqSize →
      Gives (.hostCqHeadWrite t ifc c v) s [.host] fun u => (u.ctx c).cqHead = v % 2 ^ 32 ∧ (u.ctx c).ringErr = (b.ctx c).ringErr) := by
  subst hb
  replace hl : c < (s.begin t).host.ctxs.length := hl
  refine ⟨fun hbad => ?_, fun _ hgood => ?_⟩
  · refine gives_as (m := 512) rfl ((writable_on hw hd).trans (cqHeadWrite_bad hbad)) (by simp) rfl fun _ _ _ => ?_
    rw [noteSets_ctx, finish_ctx, ctx_onCtx hl]
    exact ⟨rfl, rfl⟩
  · refine gives_as (m := 512) rfl ((writable_on hw hd).trans (cqHeadWrite_good hgood)) (by simp) rfl fun _ _ _ => ?_
    rw [noteSets_ctx, finish_ctx, ctx_onCtx hl]
    exact ⟨rfl, rfl⟩

theorem hostMbxDoorbell_rings (s b : State) (t m : Nat) (hb : b = s.begin t) (hw : b.pwr.warm = false) (hd : b.pwr.dom.testBit 2 = true) :
    Gives (.hostMbxDoorbell t m) s [.host] fun u => u.host = (if (b.mbx m).busy then b.onMbx m fun x => { x with dbLost := true }
      else b.onMbx m fun x => { x with busy := true, done := false }).host := by
  subst hb
  refine gives_as (m := 512) rfl ((writable_on hw hd).trans doorbell_rings) ?_ rfl fun _ _ _ => by rw [noteSets_host, State.finish_host]
  split <;> simp

theorem ringAccessFailure_fails (s b : State) (t c : Nat) (hb : b = s.begin t) :
    Gives (.ringAccessFailure t c) s [.host] fun u => u.host = (b.onCtx c fun x => { x with ringErr := true }).host := by
  subst hb
  exact execRingAccessFailure_goes.givesRun rfl rfl fun _ _ _ => by rw [noteSets_host, State.finish_host]; rfl

/-! ## Leases and parked sessions (R119, R125) -/

section
variable {c : Nat} {s : State}

/-- Parking up to the host-loss check. -/
def State.parked (c : Nat) (s : State) : State :=
  ((s.onCtx c fun x => { x with st := 3, parkEnd := s.now + s.host.parkKeep * Config.sec }).relockSession (s.ctx c).sess).jEvent 0x00F1 (s.ctx c).sess (s.ctx c).e []
theorem parked_host : (s.parked c).host = (s.onCtx c fun x => { x with st := 3, parkEnd := s.now + s.host.parkKeep * Config.sec }).host := relockSession_host
theorem park_eq : s.park c = if s.host.ctrl = some c then (s.parked c).hostLossCheck else s.parked c := by
  have hctrl : (s.parked c).host.ctrl = s.host.ctrl := by
    rw [parked_host]
    rfl
  rw [← hctrl]
  rfl
theorem parked_frame : Frame 4326912 s (s.parked c) := by
  unfold parked
  simp
theorem parked_next : (s.parked c).jnl.next = s.jnl.next + 1 := by
  refine jEvent_next.trans (congrArg (· + 1) (congrArg Jnl.next ?_))
  exact (by simp : Frame 4325888 s (relockSession (s.ctx c).sess (s.onCtx c fun x => { x with st := 3, parkEnd := s.now + s.host.parkKeep * Config.sec }))).keeps .jnl rfl
theorem parked_locked (hu : s.safe.unlocked = true) (hs : s.safe.unlockSess = (s.ctx c).sess) : (s.parked c).safe.unlocked = false := by
  show (relockSession (s.ctx c).sess (s.onCtx c fun x => { x with st := 3, parkEnd := s.now + s.host.parkKeep * Config.sec })).safe.unlocked = false
  unfold relockSession
  rw [if_pos (by rw [onCtx_safe, hu, hs, beq_self_eq_true]; rfl)]
  exact relock_locked
/-- Parking leaves what the host-loss check leaves, but for the schedule. -/
theorem park_parked : Frame 8912900 (s.parked c) (s.park c) := by
  rw [park_eq]
  split <;> simp
theorem park_loss (hc : s.host.ctrl = some c) (hm : s.mode.mode ≠ 0) : (s.park c).modeQ.lossSched = s.modeQ.lossSched ++ [s.boundaryAfter] := by
  have hq : (s.parked c).modeQ = s.modeQ := parked_frame.keeps .modeQ rfl
  rw [park_eq, if_pos hc, loss_sched (by rw [show (s.parked c).mode = s.mode from parked_frame.keeps .mode rfl]; exact hm), hq]
  congr 2
  exact boundary_of (parked_frame.keeps .now rfl) (parked_frame.keeps .ofs rfl) (parked_frame.keeps .img rfl) (parked_frame.keeps .mesh rfl) (parked_frame.keeps .clk rfl)
theorem parkClose_host : (s.parkClose c).host = (s.closeCtx c).host := by
  have hctrl : Frame 1024 (s.closeCtx c) (s.parkClose c) := by
    unfold parkClose
    simp
  exact hctrl.keeps .host rfl
theorem closeCtx_ctrl : (s.closeCtx c).host.ctrl ≠ some c := by
  show (if s.host.ctrl = some c then none else s.host.ctrl) ≠ some c
  split
  · exact (Option.some_ne_none c).symm
  · next hne => exact hne
end

theorem leaseExpiry_parks (s b : State) (t c : Nat) (hb : b = s.begin t) (hst : (b.ctx c).st = 1 ∨ (b.ctx c).st = 2) (hend : (b.ctx c).leaseEnd ≤ b.now) :
    Gives (.leaseExpiry t c) s [.host, .jnl, .evs, .modeQ, .safe, .mesh] fun u => u.host = (b.onCtx c fun x => { x with
        st := 3, parkEnd := b.now + s.host.parkKeep * Config.sec }).host ∧ u.jnl.next = s.jnl.next + 1 ∧
      (s.host.ctrl = some c → s.mode.mode ≠ 0 → u.modeQ.lossSched = s.modeQ.lossSched ++ [b.boundaryAfter]) ∧
      (b.safe.unlocked = true → b.safe.unlockSess = (b.ctx c).sess → u.safe.unlocked = false) := by
  subst hb
  have hdue : ((((s.begin t).ctx c).st == 1 || ((s.begin t).ctx c).st == 2) && decide (((s.begin t).ctx c).leaseEnd ≤ (s.begin t).now)) = true := by
    simpa only [Bool.and_eq_true, Bool.or_eq_true, beq_iff_eq, decide_eq_true_eq] using ⟨hst, hend⟩
  refine execLeaseExpiry_goes.givesIf rfl hdue rfl fun a p q => ?_
  rw [noteSets_host, State.finish_host, noteSets_jnl, finish_jnl, noteSets_modeQ, finish_modeQ, noteSets_safe, finish_safe]
  refine ⟨?_, ?_, fun hc hm => park_loss hc hm, fun hu hs => ?_⟩
  · exact (park_parked.keeps .host rfl).trans parked_host
  · exact (congrArg Jnl.next (park_parked.keeps .jnl rfl)).trans parked_next
  · exact (congrArg Safe.unlocked (park_parked.keeps .safe rfl)).trans (parked_locked hu hs)

theorem parkKeepExpiry_closes (s b : State) (t c : Nat) (hb : b = s.begin t) (hst : (b.ctx c).st = 3) (hend : (b.ctx c).parkEnd ≤ b.now) :
    Gives (.parkKeepExpiry t c) s [.host, .jnl] fun u => u.host = (b.closeCtx c).host ∧ (u.ctx c).st = 0 ∧ (u.ctx c).cache = [] ∧ u.host.ctrl ≠ some c := by
  subst hb
  have hdue : ((((s.begin t).ctx c).st == 3) && decide (((s.begin t).ctx c).parkEnd ≤ (s.begin t).now)) = true := by
    simpa only [Bool.and_eq_true, beq_iff_eq, decide_eq_true_eq] using ⟨hst, hend⟩
  refine execParkKeepExpiry_goes.givesIf rfl hdue rfl fun a p q => ?_
  have hctx : ((s.begin t).parkClose c).ctx c = _ :=
    (ctx_host (congrArg HostB.ctxs parkClose_host) c).trans (closeCtx_ctx (ctx_live (by rw [hst]; decide)))
  rw [noteSets_host, State.finish_host, noteSets_ctx, finish_ctx, hctx, parkClose_host]
  exact ⟨rfl, rfl, rfl, closeCtx_ctrl⟩

/-! ## The journal's own (R140, R143) -/

section
variable {s : State} {i n : Nat} {e : JEntry}

/-- JNL_SPILL_DEV at the newest entry stands for it; behind it, for JNL_HEAD. -/
theorem serialDiff_one : serialDiff 32 (i + 1) (i % 2 ^ 32) = 1 := by
  unfold serialDiff
  omega
theorem serialDiff_same : serialDiff 32 i (i % 2 ^ 32) = 0 := by
  unfold serialDiff
  omega
theorem jTail_le : s.jTail ≤ s.jnl.head := Nat.sub_le _ _
theorem jTail_lt (h : s.jnl.head = i + 1) : s.jTail ≤ i := by
  unfold jTail
  omega
theorem spill_done (h : s.jnl.spillDev = s.jnl.head % 2 ^ 32) : s.spill n = s := by
  cases n with
  | zero => rfl
  | succ n =>
    unfold spill
    simp only [h, serialDiff_same, Nat.sub_zero, Nat.not_lt.mpr jTail_le, if_false, true_or, if_true]
/-- The newest entry copied. -/
def State.spilled (i : Nat) (e : JEntry) (s : State) : State :=
  (s.onJnl fun j => { j with spillDev := (i + 1) % 2 ^ 32 }).emit
    (.spill ((s.jnl.spillBase + 64 * (i % 2 ^ s.jnl.spillLog)) % 2 ^ 64) (if e.damaged then List.replicate 64 0xFF else jBytes e ++ le 4 e.chain.toNat))
theorem spill_newest (hh : s.jnl.head = i + 1) (hd : s.jnl.spillDev = i % 2 ^ 32) (hf : s.jnl.ring.find? (fun x => x.index == i) = some e)
    (hroom : serialDiff 32 s.jnl.spillDev s.jnl.spillHost < 2 ^ s.jnl.spillLog) : s.spill (n + 1) = s.spilled i e := by
  have hi : s.jnl.head - serialDiff 32 s.jnl.head s.jnl.spillDev = i := by rw [hh, hd, serialDiff_one]; rfl
  have hnot : ¬(i = s.jnl.head ∨ 2 ^ s.jnl.spillLog ≤ serialDiff 32 s.jnl.spillDev s.jnl.spillHost) := by omega
  have hdev : (s.jnl.spillDev + 1) % M32 = (i + 1) % 2 ^ 32 := by
    rw [hd]
    exact Nat.mod_add_mod i _ 1
  have hnext : (s.onJnl fun j => { j with spillDev := (j.spillDev + 1) % M32 }) = s.onJnl fun j => { j with spillDev := (i + 1) % 2 ^ 32 } :=
    congrArg (fun n => s.onJnl fun j => { j with spillDev := n }) hdev
  unfold spill
  simp only [hi, Nat.not_lt.mpr (jTail_lt hh), if_false, hnot, hf]
  rw [hnext]
  exact spill_done (by show (i + 1) % 2 ^ 32 = s.jnl.head % 2 ^ 32; rw [hh])
end

theorem journalSpill_spills (s b : State) (t i : Nat) (e : JEntry) (hb : b = s.begin t) (hen : b.jnl.spillEn = true) (hh : b.jnl.head = i + 1)
    (hd : b.jnl.spillDev = i % 2 ^ 32) (hf : b.jnl.ring.find? (fun x => x.index == i) = some e)
    (hroom : serialDiff 32 b.jnl.spillDev b.jnl.spillHost < 2 ^ b.jnl.spillLog) :
    Gives (.journalSpill t) s [.jnl] fun u => u.jnl = { s.jnl with spillDev := (i + 1) % 2 ^ 32 } ∧
      Out.spill ((s.jnl.spillBase + 64 * (i % 2 ^ s.jnl.spillLog)) % 2 ^ 64)
        (if e.damaged then List.replicate 64 0xFF else jBytes e ++ le 4 e.chain.toNat) ∈ u.out := by
  subst hb
  refine gives_if (m := 1028) rfl hen (spill_newest hh hd hf hroom) (by unfold spilled; simp) rfl fun a p q => ⟨?_, mem_told ?_⟩
  · rw [noteSets_jnl, finish_jnl]
    rfl
  · exact List.mem_append_right _ (List.mem_singleton.mpr rfl)

/-- A read of a low word latches the high one. -/
theorem jnlLoRead_reads {tail : Bool} {off : Nat} {t : Nat} {ifc : Iface} {s : State} (hoff : (if tail then 0x020008 else 0x020000) = off)
    (hv : (s.begin t).viewed ifc.src off = false) (hw : (s.begin t).pwr.warm = false) (hd : (s.begin t).pwr.dom.testBit 2 = true) {F : State → Prop}
    (hF : ∀ a p q, F (noteSets a (finish p q (jnlLo tail false (s.begin t))))) : Gives (.jnlLoRead t ifc tail false) s [.jnl] F := by
  subst hoff
  exact gives_as (m := 1028) rfl (readable_on hv hw hd) (by unfold jnlLo; simp) rfl hF

theorem jnlHeadRead_reads (s b : State) (t : Nat) (ifc : Iface) (hb : b = s.begin t) (hv : b.viewed ifc.src 0x020000 = false) (hw : b.pwr.warm = false)
    (hd : b.pwr.dom.testBit 2 = true) :
    Gives (.jnlLoRead t ifc false false) s [.jnl] fun u => u.jnl = { s.jnl with headHi := some (s.jnl.head / 2 ^ 32) } ∧ Out.read (le 4 s.jnl.head) ∈ u.out := by
  subst hb
  refine jnlLoRead_reads rfl hv hw hd fun a p q => ⟨?_, mem_told (List.mem_append_right _ (List.mem_singleton.mpr rfl))⟩
  rw [noteSets_jnl, finish_jnl]
  rfl

theorem jnlTailRead_reads (s b : State) (t : Nat) (ifc : Iface) (hb : b = s.begin t) (hv : b.viewed ifc.src 0x020008 = false) (hw : b.pwr.warm = false)
    (hd : b.pwr.dom.testBit 2 = true) :
    Gives (.jnlLoRead t ifc true false) s [.jnl] fun u => u.jnl = { s.jnl with tailHi := some (b.jTail / 2 ^ 32) } ∧ Out.read (le 4 b.jTail) ∈ u.out := by
  subst hb
  refine jnlLoRead_reads rfl hv hw hd fun a p q => ⟨?_, mem_told (List.mem_append_right _ (List.mem_singleton.mpr rfl))⟩
  rw [noteSets_jnl, finish_jnl]
  rfl

/-- Settles O14: each row by its own lemma. -/
theorem ringsLeasesAndJournal : Obligations.RingsLeasesAndJournal :=
  ⟨hostSessCtlStart_judges, hostSqTailWrite_writes, hostCqHeadWrite_writes, hostMbxDoorbell_rings, ringAccessFailure_fails, leaseExpiry_parks,
    parkKeepExpiry_closes, journalSpill_spills, jnlHeadRead_reads, jnlTailRead_reads⟩

end Sys2Proof.Machine

/-! PROOFS. The commands of the mode and what reaches it from outside (R412, R417, R420, R421, R444, R448, R454, R679). -/
namespace Sys2Proof.Machine
open State

/-! ## MODE_SET, SETPOINT, MODE_LOSS_CLEAR and OVL_SET -/

theorem modeFields {m c : Nat} (hm : m < 256) (hc : c < 256) : field (le 1 m ++ le 1 c ++ le 2 0) 0 1 = m ∧ field (le 1 m ++ le 1 c ++ le 2 0) 1 1 = c :=
  openFields hm hc

theorem setpointFields {k : Nat} {v : Word} (hk : k < 256) :
    field (le 1 k ++ le 3 0 ++ le 4 v.toNat) 0 1 = k ∧ fieldW (le 1 k ++ le 3 0 ++ le 4 v.toNat) 4 = v := by
  refine ⟨?_, ?_⟩
  · rw [List.append_assoc, field_le_of_lt (by omega)]
  · have hword : field (le 1 k ++ le 3 0 ++ le 4 v.toNat) 4 4 = v.toNat := by
      rw [List.append_assoc, field_skip _ _ _ _ _ (by decide), field_skip _ _ _ _ _ (by decide)]
      exact (field_le 4 v.toNat []).trans (Nat.mod_eq_of_lt v.isLt)
    unfold fieldW
    rw [hword]
    simp

section
variable {h : RecHdr} {p : Bytes} {z : State}

/-- SCOPE NODE: the change waits for the next decision. -/
theorem modeSet_node (hc : field p 1 1 = 0) : (cmdModeSet.act h p z).1.modeQ = { z.modeQ with cmds := z.modeQ.cmds ++ [.set (field p 0 1)] } := by
  simp only [cmdModeSet, hc, if_pos]
  rfl
/-- SCOPE MESH: a node without others schedules the change itself; with others it sends the record to each and waits. -/
theorem modeSet_mesh (hc : field p 1 1 = 1) (hs : h.src ≠ .mesh) : (cmdModeSet.act h p z).1.modeQ =
    { z.modeQ with sched := if (List.range z.cfg.mesh.nodes).filter (· != z.node) = [] then some { period := z.boundaryAfter, mode := field p 0 1 } else z.modeQ.sched } := by
  have hsends : ∀ ns : List Nat, (each ns (fun n s => s.sendItem n (.record { h with node := n } 0x0201 p)) z).modeQ = z.modeQ := fun ns =>
    (by simp : Frame 8388620 z (each ns (fun n s => s.sendItem n (.record { h with node := n } 0x0201 p)) z)).keeps .modeQ rfl
  by_cases hn : (List.range z.cfg.mesh.nodes).filter (· != z.node) = []
  · simp only [cmdModeSet, hc, if_neg hs, Nat.one_ne_zero, if_false, hn, List.isEmpty_nil, if_true]
    rfl
  · have hnonempty : ((List.range z.cfg.mesh.nodes).filter (· != z.node)).isEmpty = false := List.isEmpty_eq_false_iff.mpr hn
    simp only [cmdModeSet, hc, if_neg hs, if_neg hn, Nat.one_ne_zero, if_false, hnonempty, Bool.false_eq_true, hsends]
theorem modeSet_frame : Frame 8912908 z (cmdModeSet.act h p z).1 := by
  simp only [cmdModeSet]
  split
  · simp
  · split
    · simp
    · split <;> simp
theorem ovlSet_ovl : (cmdOvlSet.act h p z).1.modeQ.ovl =
    (z.modeQ.ovl ^^^ (field p 1 1 &&& z.modeQ.ovl)) ||| (field p 0 1 &&& (31 - (z.modeQ.ovl ^^^ (field p 1 1 &&& z.modeQ.ovl)) % 32)) := by
  simp only [cmdOvlSet, ovlBegin_ovl, ovlEnd_ovl]
end

theorem modeSet_schedules (s b : State) (t m scope : Nat) (h : RecHdr) (ha : Accepts cmdModeSet h (le 1 m ++ le 1 scope ++ le 2 0) (s.begin t))
    (hb : b = s.begin t) (hm : m < 256) (hscope : scope = 0 ∨ scope = 1) :
    Gives (.modeSet t h m scope) s ([.free, .host, .jnl, .modeQ, .mesh] ++ s.heldParts) fun u =>
      u.modeQ.cmds = (if scope = 0 then s.modeQ.cmds ++ [.set m] else s.modeQ.cmds) ∧
      u.modeQ.sched = if scope = 1 ∧ (List.range s.cfg.mesh.nodes).filter (· != s.node) = [] then some { period := b.boundaryAfter, mode := m } else s.modeQ.sched := by
  subst hb
  refine ha.gives0 (m := 8912908) rfl rfl (fun v => modeSet_frame) rfl rfl fun x j u _ hu => ?_
  rw [hu.wide.keeps .modeQ rfl]
  rcases hscope with rfl | rfl
  · obtain ⟨hmode, hsc⟩ := modeFields hm (c := 0) (by omega)
    rw [modeSet_node hsc, hmode]
    exact ⟨rfl, rfl⟩
  · obtain ⟨hmode, hsc⟩ := modeFields hm (c := 1) (by omega)
    rw [modeSet_mesh hsc ha.notMesh, hmode]
    refine ⟨rfl, ?_⟩
    simp only [true_and]
    rfl

theorem setpoint_waits (s b : State) (t k : Nat) (h : RecHdr) (v : Word) (ha : Accepts cmdSetpoint h (le 1 k ++ le 3 0 ++ le 4 v.toNat) (s.begin t))
    (_ : b = s.begin t) (hk : k < 256) :
    Gives (.setpoint t h k v) s ([.host, .jnl, .modeQ] ++ s.heldParts) fun u => u.modeQ = { s.modeQ with
      spCmds := s.modeQ.spCmds ++ [(k, v)] } := by
  refine ha.gives0 (m := 524288) rfl rfl (fun z => by simp [cmdSetpoint]) rfl rfl fun x j u _ hu => ?_
  obtain ⟨hsp, hval⟩ := setpointFields (v := v) hk
  rw [hu.wide.keeps .modeQ rfl]
  simp only [cmdSetpoint, hsp, hval]
  rfl

theorem modeLossClear_clears (s b : State) (t : Nat) (h : RecHdr) (ha : Accepts cmdModeLossClear h [] (s.begin t)) (_ : b = s.begin t) :
    Gives (.modeLossClear t h) s ([.host, .jnl, .mode] ++ s.heldParts) fun u => u.mode = { s.mode with
      loss := false } := by
  refine ha.gives0 (m := 262144) rfl rfl (fun z => by simp [cmdModeLossClear]) rfl rfl fun x j u _ hu => ?_
  rw [hu.wide.keeps .mode rfl]
  rfl

theorem ovlSet_sets (s b : State) (t set clear g x : Nat) (h : RecHdr) (ha : Accepts cmdOvlSet h (le 1 set ++ le 1 clear ++ le 1 g ++ le 1 0) (s.begin t))
    (_ : b = s.begin t) (hset : set < 256) (hclear : clear < 256) (_ : g < 256) (hx : x = s.modeQ.ovl ^^^ (clear &&& s.modeQ.ovl)) :
    Gives (.ovlSet t h set clear g) s ([.host, .jnl, .lane, .seam, .edg, .bal, .modeQ, .adc, .cmp] ++ s.heldParts) fun u =>
      u.modeQ.ovl = x ||| (set &&& (31 - x % 32)) := by
  refine ha.gives0 (m := 3749892) rfl rfl (fun z => by simp [cmdOvlSet]) rfl rfl fun y j u _ hu => ?_
  obtain ⟨hs, hc⟩ : field (le 1 set ++ le 1 clear ++ le 1 g ++ le 1 0) 0 1 = set ∧ field (le 1 set ++ le 1 clear ++ le 1 g ++ le 1 0) 1 1 = clear := by
    refine ⟨?_, ?_⟩ <;> rw [List.append_assoc, List.append_assoc]
    · exact field_le_of_lt (by omega)
    · rw [field_skip _ _ _ _ _ (by decide)]
      exact field_le_of_lt (by omega)
  rw [hu.wide.keeps .modeQ rfl, ovlSet_ovl, hs, hc, hx]
  rfl

/-! ## What reaches the mode from outside -/

/-- A policy scheduled for a boundary that has come is due. -/
theorem lossDue_of {z : State} {p : Nat} (hp : p ∈ z.modeQ.lossSched) (hdue : later 32 p z.per = false) : z.lossDue = true :=
  List.any_eq_true.mpr ⟨p, hp, by rw [hdue]; rfl⟩

theorem policyActs {z : State} {p : Nat} (htl : z.timeline = true) (hcyc : z.cyc = 0) (hp : p ∈ z.modeQ.lossSched) (hdue : later 32 p z.per = false) :
    (z.timeline && z.cyc == 0 && z.lossDue) = true := by
  rw [htl, hcyc, lossDue_of hp hdue]
  rfl

/-- The policy other than OFF: its set-points are commanded (R448, R449). -/
theorem hostLossPolicy_holds (s b : State) (t p : Nat) (hb : b = s.begin t) (htl : b.timeline = true) (hcyc : b.cyc = 0) (hp : p ∈ s.modeQ.lossSched)
    (hdue : later 32 p b.per = false) (hpol : s.host.loss ≠ 2) :
    ∃ u, exec (.hostLossPolicy t) s = .next u ∧ Only [.free, .jnl, .mode, .modeQ, .bnc] s u ∧ u.mode.loss = true ∧ u.mode.lossPol = s.host.loss ∧
      u.modeQ.lossSched = s.modeQ.lossSched.filter (later 32 · b.per) ∧ u.mode.mode = s.mode.mode := by
  subst hb
  obtain ⟨hframe, hloss, hpolicy, hsched, hmode⟩ := lossTake_soft (z := s.begin t) hpol
  refine gives_if (m := 820232) (f := fun s => s.lossTake.modeWords) rfl (policyActs htl hcyc hp hdue) rfl ?_ rfl fun a q r => ?_
  · exact (hframe.widen rfl).trans (by simp)
  · simp only [noteSets_mode, finish_mode, modeWords_mode, noteSets_modeQ, finish_modeQ, modeWords_modeQ]
    exact ⟨hloss, hpolicy, hsched, hmode⟩

/-- The policy OFF up to the mode change: it is shown and journalled, and its schedule is cleared. -/
def State.lossShown (z : State) : State :=
  ((z.onMode fun m => { m with loss := true, lossPol := 2 }).onModeQ fun q => { q with lossSched := q.lossSched.filter fun p => later 32 p z.per }).jEvent 0x00F3 2 0 []
theorem lossTake_off {z : State} (h : z.host.loss = 2) : z.lossTake = z.lossShown.setMode false 0 := by
  unfold lossTake lossShown
  simp only [h, if_true]
  rfl
theorem lossShown_frame {z : State} : Frame 787464 z z.lossShown := by
  unfold lossShown
  simp
/-- What acts last on the benches: the mode words, and the answer of the step. -/
theorem only_modeWords {z : State} {a : List (Nat × Nat)} {q r : Nat} : Only [.bnc] z (noteSets a (finish q r z.modeWords)) :=
  Frame.only (m := 32773) (by simp) rfl

theorem hostLossPolicy_off (s b : State) (t p : Nat) (hb : b = s.begin t) (htl : b.timeline = true) (hcyc : b.cyc = 0) (hp : p ∈ s.modeQ.lossSched)
    (hdue : later 32 p b.per = false) (hpol : s.host.loss = 2) :
    ∃ u z, exec (.hostLossPolicy t) s = .next u ∧ Only [.free, .jnl, .mode, .modeQ] b z ∧ z.mode.loss = true ∧ z.mode.lossPol = 2 ∧
      z.modeQ.lossSched = s.modeQ.lossSched.filter (later 32 · b.per) ∧ Only [.bnc] (z.setMode false 0) u := by
  subst hb
  refine ⟨_, (s.begin t).lossShown, rfl, lossShown_frame.only rfl, by simp [lossShown], by simp [lossShown], by simp [lossShown], ?_⟩
  rw [runIf_goes (policyActs htl hcyc hp hdue), lossTake_off (z := s.begin t) hpol]
  exact only_modeWords

theorem meshModeBoundary_acts (s b : State) (t : Nat) (x : Sched) (hb : b = s.begin t) (htl : b.timeline = true) (hcyc : b.cyc = 0)
    (hx : s.modeQ.sched = some x) (hdue : later 32 x.period b.per = false) :
    ∃ u z, exec (.meshModeBoundary t) s = .next u ∧ Only [.modeQ] b z ∧ z.modeQ = { s.modeQ with
      sched := none } ∧ Only [.bnc] (z.setMode false x.mode) u := by
  subst hb
  have hsched : (s.begin t).modeQ.sched = some x := hx
  have hacts : ((s.begin t).timeline && (s.begin t).cyc == 0 && match (s.begin t).modeQ.sched with | some x => !later 32 x.period (s.begin t).per | none => false) = true := by
    rw [htl, hcyc, hsched]
    simp only [hdue]
    rfl
  refine ⟨_, (s.begin t).onModeQ fun q => { q with sched := none }, rfl, Frame.only (m := 524288) (by simp) rfl, rfl, ?_⟩
  rw [runIf_goes hacts]
  simp only [hsched]
  exact only_modeWords

theorem safeNoticeReceived_waits (s b : State) (t n p : Nat) (hb : b = s.begin t) (hf : b.inForce = true) (hn : n ≠ b.node) :
    Gives (.safeNoticeReceived t n p) s [.modeQ] fun u => u.modeQ = { s.modeQ with
      peer := s.modeQ.peer ++ [(p % 2 ^ 32, n)] } := by
  subst hb
  have hacts : ((s.begin t).inForce && n != (s.begin t).node) = true := by
    rw [hf, bne_iff_ne.mpr hn]
    rfl
  refine execSafeNoticeReceived_goes.givesIf rfl hacts rfl fun a q r => ?_
  rw [noteSets_modeQ, finish_modeQ]
  rfl

/-- Settles O33: each clause is what its command or event leaves, from the equation of its effect and its frame. -/
theorem modeCommands : Obligations.ModeCommands :=
  ⟨modeSet_schedules, setpoint_waits, modeLossClear_clears, ovlSet_sets,
    fun s b t p hb htl hcyc hp hdue => ⟨hostLossPolicy_holds s b t p hb htl hcyc hp hdue, hostLossPolicy_off s b t p hb htl hcyc hp hdue⟩,
    meshModeBoundary_acts, safeNoticeReceived_waits⟩

end Sys2Proof.Machine

/-! PROOFS. GLOBAL symbols and what they schedule (R127, R420, R421, R582, R594, R597 to R602). -/
namespace Sys2Proof.Machine
open State

/-! ## What a first copy leaves -/

/-- The state after a symbol's effect w: a confirmation may follow, and the answer of the step. -/
structure SymbolEnd (op : Nat) (w u : State) : Prop where
  out : ∀ o, o ∈ w.out → o ∈ u.out
  mesh : ∃ tg gs, u.mesh = { w.mesh with tag := tg, gops := gs }
  unconfirmed : confirmedOps.contains op = false → u.mesh = w.mesh
  frame : Frame 8388612 w u

section
variable {op t m : Nat} {x : PortRx} {y : Sym} {s : State} {c : Instr} {l : List Part} {F : State → Prop} {act : Sym → State → State × Bool}

/-- What a claim about a symbol's row needs, at the first copy: the symbol's effect on a state that has passed it on. The effect is named by an equation, for
one with a condition on the period is not to be computed. -/
theorem FirstCopy.givesEq (h : FirstCopy op x y (s.begin t)) (e : exec c s = .next (s.run t (symbolIn op x act))) (hg : Goes m s (exec c s))
    (k : m ||| maskOfParts (.now :: .out :: l) = maskOfParts (.now :: .out :: l))
    (hF : ∀ live u w ok, act y (passed op x y live (s.begin t)) = (w, ok) → SymbolEnd op w u → F u) : Gives c s l F := by
  obtain ⟨live, hdone⟩ := h.done
  obtain ⟨v, hv, hout, hmesh, hun, hframe⟩ := hdone act _ _ rfl
  refine hg.gives k fun u hu => hF live u _ _ rfl ?_
  rw [e, hv] at hu
  cases hu
  exact ⟨hout, hmesh, hun, hframe⟩
theorem FirstCopy.gives (h : FirstCopy op x y (s.begin t)) (e : exec c s = .next (s.run t (symbolIn op x act))) (hg : Goes m s (exec c s))
    (k : m ||| maskOfParts (.now :: .out :: l) = maskOfParts (.now :: .out :: l))
    (hF : ∀ live u, SymbolEnd op (act y (passed op x y live (s.begin t))).1 u → F u) : Gives c s l F :=
  h.givesEq e hg k fun live u w ok hw hu => hF live u (by rw [hw]; exact hu)
/-- A symbol that names a period boundary acts where the boundary lies ahead. -/
theorem FirstCopy.givesBoundary {per : Sym → Nat} {f : Sym → State → State} (h : FirstCopy op x y (s.begin t))
    (e : exec c s = .next (s.run t (symbolIn op x fun y s => s.boundary (per y) (f y)))) (hg : Goes m s (exec c s))
    (k : m ||| maskOfParts (.now :: .out :: l) = maskOfParts (.now :: .out :: l))
    (hF : ∀ live u, SymbolEnd op (if later 32 (per y) (s.begin t).per = true then f y (passed op x y live (s.begin t)) else passed op x y live (s.begin t)) u → F u) :
    Gives c s l F := by
  refine h.givesEq e hg k fun live u w ok hw hu => hF live u ?_
  unfold boundary at hw
  rw [passed_per] at hw
  split at hw <;> rename_i hl
  · rw [if_pos hl, (Prod.mk.inj hw).1]
    exact hu
  · rw [if_neg hl, (Prod.mk.inj hw).1]
    exact hu

/-- An effect that sends nothing back keeps what passed the symbol on. -/
theorem SymbolEnd.passedOn {live : List (Nat × Nat × Nat × Nat)} {w u : State} (h : SymbolEnd op w u) (hw : ∀ o, o ∈ (passed op x y live (s.begin t)).out → o ∈ w.out) :
    PassedOn op x y (s.begin t) u := passed_sends fun o ho => h.out o (hw o ho)
/-- What MESH holds besides the tag and the confirmations awaited. -/
theorem SymbolEnd.meshField {α : Type} {w u : State} (h : SymbolEnd op w u) (f : Mesh → α) (hf : ∀ m : Mesh, ∀ tg gs, f { m with tag := tg, gops := gs } = f m) :
    f u.mesh = f w.mesh := by
  obtain ⟨tg, gs, e⟩ := h.mesh
  rw [e, hf]
end

/-- A symbol of this node leaves by every port of its way, where the mesh has a shape. -/
theorem sendSymbol_sends {op a p : Nat} {z : State} (hshape : z.cfg.mesh.shape ≠ 0) (hp : p ∈ z.symbolPorts op z.node) :
    Sends op p { origin := z.node, tag := z.mesh.tag, arg := a } (z.sendSymbol op a) := by
  unfold Sends sendSymbol sendSymbols
  rw [if_neg hshape]
  refine List.mem_append_right _ ?_
  simp only [List.flatMap_cons, List.flatMap_nil, List.append_nil]
  exact List.mem_map.mpr ⟨p, hp, rfl⟩

/-! ## Barriers (R598) -/

section
variable {z : State} {n a : Nat} {l : List Nat} {y : Sym}

/-- A node that tries to arrive stays in the barrier, with those that arrived before. -/
theorem barTry_bar (h : z.mesh.bar = some (n, l, a)) : ∃ l', z.barTry.mesh.bar = some (n, l', a) ∧ ∀ k ∈ l, k ∈ l' := by
  simp only [barTry, h]
  split
  · obtain ⟨tg, gs, e⟩ := sendSymbol_mesh (o := 2) (a := n) (z := z.onMesh fun m => { m with bar := m.bar.map fun b => (b.1, b.2.1 ++ [z.node], b.2.2), barSentAt := z.now })
    refine ⟨l ++ [z.node], ?_, fun k hk => List.mem_append_left _ hk⟩
    rw [e]
    exact congrArg (Option.map fun b : Nat × List Nat × Nat => (b.1, b.2.1 ++ [z.node], b.2.2)) h
  · exact ⟨l, h, fun _ hk => hk⟩
theorem mem_barTry {o : Out} (h : o ∈ z.out) : o ∈ z.barTry.out := by
  simp only [barTry]
  split
  · split
    · exact mem_sendSymbol h
    · exact h
  · exact h

/-- The barrier with a BAR_ARRIVE counted. -/
def State.arrived (y : Sym) (z : State) : State :=
  z.onMesh fun m => { m with bar := match m.bar with
    | some b => if b.1 = y.arg % 65536 then some (y.arg % 65536, (if b.2.1.contains y.origin then b.2.1 else b.2.1 ++ [y.origin]), b.2.2) else some (y.arg % 65536, [y.origin], z.now)
    | none => some (y.arg % 65536, [y.origin], z.now) }
theorem arrived_bar : ∃ l a, (z.arrived y).mesh.bar = some (y.arg % 65536, l, a) ∧ y.origin ∈ l := by
  simp only [arrived, onMesh_mesh]
  split
  · split
    · split
      · rename_i hc
        exact ⟨_, _, rfl, List.contains_iff_mem.mp hc⟩
      · exact ⟨_, _, rfl, List.mem_append_right _ (List.mem_singleton.mpr rfl)⟩
    · exact ⟨_, _, rfl, List.mem_singleton.mpr rfl⟩
  · exact ⟨_, _, rfl, List.mem_singleton.mpr rfl⟩
theorem arrived_known (h : z.mesh.bar = some (y.arg % 65536, l, a)) :
    (z.arrived y).mesh.bar = some (y.arg % 65536, if l.contains y.origin then l else l ++ [y.origin], a) := by
  simp only [arrived, onMesh_mesh, h, if_true]
theorem barArrive_member (h : z.isHead = false) : z.barArrive y = (z.arrived y).barTry := by
  simp only [barArrive, h, Bool.false_and, Bool.false_eq_true, if_false]
  exact if_neg (ne_true_of_eq_false (show (z.arrived y).isHead = false from h))
theorem barArrive_head (h : z.isHead = true) (hb : z.mesh.bar = some (y.arg % 65536, l, a)) : z.barArrive y = (z.arrived y).barDone := by
  simp only [barArrive, h, hb, beq_self_eq_true, Bool.not_true, Bool.and_false, Bool.false_eq_true, if_false]
  exact if_pos (show (z.arrived y).isHead = true from h)
end

section
variable (s b : State) (t : Nat)

theorem barArrive_counts (x : PortRx) (y : Sym) (hb : b = s.begin t) (hc : FirstCopy 2 x y b) (hh : b.isHead = false) :
    Gives (.barArrive t x) s [.free, .host, .jnl, .mesh] fun u => PassedOn 2 x y b u ∧ ∃ l a, u.mesh.bar = some (y.arg % 65536, l, a) ∧ y.origin ∈ l := by
  subst hb
  refine hc.gives rfl execBarArrive_goes rfl fun live u hu => ?_
  rw [barArrive_member (z := passed 2 x y live (s.begin t)) hh] at hu
  obtain ⟨l, a, hbar, hin⟩ := arrived_bar (z := passed 2 x y live (s.begin t)) (y := y)
  obtain ⟨l', hbar', hkept⟩ := barTry_bar hbar
  exact ⟨hu.passedOn fun o ho => mem_barTry ho, l', a, (hu.meshField Mesh.bar fun _ _ _ => rfl).trans hbar', hkept _ hin⟩

theorem barArrive_last (a : Nat) (l : List Nat) (x : PortRx) (y : Sym) (hb : b = s.begin t) (hc : FirstCopy 2 x y b) (hh : b.isHead = true)
    (hbar : b.mesh.bar = some (y.arg % 65536, l, a)) (hall : ∀ n < s.cfg.mesh.nodes, n ∈ l ∨ n = y.origin) :
    Gives (.barArrive t x) s [.free, .host, .jnl, .mesh] fun u => u.mesh.bar = none := by
  subst hb
  refine hc.gives rfl execBarArrive_goes rfl fun live u hu => ?_
  rw [barArrive_head (z := passed 2 x y live (s.begin t)) hh hbar] at hu
  rw [hu.meshField Mesh.bar fun _ _ _ => rfl]
  refine barDone_bar (arrived_known (z := passed 2 x y live (s.begin t)) hbar) ?_
  refine and_tt hh (List.all_eq_true.mpr fun n hn => ?_)
  rw [List.contains_iff_mem]
  split
  · rename_i ho
    rcases hall n (List.mem_range.mp hn) with h | rfl
    · exact h
    · exact List.contains_iff_mem.mp ho
  · rcases hall n (List.mem_range.mp hn) with h | rfl
    · exact List.mem_append_left _ h
    · exact List.mem_append_right _ (List.mem_singleton.mpr rfl)

theorem barRelease_ends (x : PortRx) (y : Sym) (hb : b = s.begin t) (hc : FirstCopy 3 x y b) :
    Gives (.barRelease t x) s [.mesh] fun u => PassedOn 3 x y b u ∧ (∀ n l a, u.mesh.bar = some (n, l, a) ↔
      b.mesh.bar = some (n, l, a) ∧ n ≠ y.arg % 65536) := by
  subst hb
  refine hc.gives rfl execBarRelease_goes rfl fun live u hu => ⟨hu.passedOn fun _ ho => ho, fun n l a => ?_⟩
  rw [hu.meshField Mesh.bar fun _ _ _ => rfl]
  show Option.filter (fun b : Nat × List Nat × Nat => b.1 != y.arg % 65536) (s.begin t).mesh.bar = _ ↔ _
  simp [Option.filter_eq_some_iff]

theorem barArriveResend_sends (n a : Nat) (l : List Nat) (hb : b = s.begin t) (hbar : b.mesh.bar = some (n, l, a)) (hin : b.node ∈ l)
    (hdue : b.mesh.barSentAt + Config.us ≤ b.now) :
    Gives (.barArriveResend t) s [.mesh] fun u => u.mesh.barSentAt = b.now ∧ u.mesh.bar = s.mesh.bar ∧
      (s.cfg.mesh.shape ≠ 0 → ∀ p ∈ b.symbolPorts 2 s.node, Sends 2 p { origin := s.node, tag := s.mesh.tag, arg := n } u) := by
  subst hb
  refine execBarArriveResend_goes.givesIf rfl ?_ rfl fun q p r => ?_
  · simp only [hbar]
    exact and_tt (List.contains_iff_mem.mpr hin) (decide_eq_true hdue)
  · simp only [hbar]
    obtain ⟨tg, gs, e⟩ := sendSymbol_mesh (o := 2) (a := n) (z := (s.begin t).onMesh fun m => { m with barSentAt := (s.begin t).now })
    simp only [noteSets_mesh, finish_mesh, e]
    exact ⟨rfl, rfl, fun hshape p hp => mem_finish (sendSymbol_sends (z := (s.begin t).onMesh fun m => { m with barSentAt := (s.begin t).now }) hshape hp)⟩

theorem barrierTimeout_ends (n a : Nat) (l : List Nat) (hb : b = s.begin t) (hbar : b.mesh.bar = some (n, l, a)) (hh : b.isHead = true)
    (hdue : a + 100 * Config.us ≤ b.now) :
    Gives (.barrierTimeout t) s [.free, .host, .jnl, .mesh] fun u => u.mesh.bar = none := by
  subst hb
  refine execBarrierTimeout_goes.givesIf rfl ?_ rfl fun q p r => ?_
  · simp only [hbar]
    exact and_tt hh (decide_eq_true hdue)
  · simp only [hbar, noteSets_mesh, finish_mesh]
    split
    · obtain ⟨c, q, e, -⟩ := openUnknown_same
      rw [e]
      rfl
    · rfl

/-! ## Snapshots and resets (R599, R600, R602) -/

section
variable {z : State} {a : Nat} {f : State → State}
theorem timed_late (h : a ≤ z.sysTime) : z.timed a f = (z, false) := if_pos h
theorem timed_ahead (h : z.sysTime < a) : z.timed a f = (f z, true) := if_neg (Nat.not_le.mpr h)
end

theorem snap_schedules (a : Nat) (x : PortRx) (y : Sym) (hb : b = s.begin t) (hc : FirstCopy 4 x y b) (ha : a = b.near48 y.arg) :
    (b.sysTime < a → Gives (.snap t x) s [.mesh] fun u => PassedOn 4 x y b u ∧ u.mesh.snap = some (a, y.tag) ∧ u.mesh.snapT = a) ∧
    (a ≤ b.sysTime → Gives (.snap t x) s [.mesh] fun u => PassedOn 4 x y b u ∧ u.mesh.snap = s.mesh.snap) := by
  subst hb ha
  refine ⟨fun hd => hc.gives rfl execSnap_goes rfl fun live u hu => ?_, fun hd => hc.gives rfl execSnap_goes rfl fun live u hu => ?_⟩
  all_goals simp only [passed_near] at hu
  · rw [timed_ahead (z := passed 4 x y live (s.begin t)) hd] at hu
    exact ⟨hu.passedOn fun _ ho => ho, hu.meshField Mesh.snap fun _ _ _ => rfl, hu.meshField Mesh.snapT fun _ _ _ => rfl⟩
  · rw [timed_late (z := passed 4 x y live (s.begin t)) hd] at hu
    exact ⟨hu.passedOn fun _ ho => ho, hu.meshField Mesh.snap fun _ _ _ => rfl⟩

theorem resetSymbol_schedules (a k : Nat) (x : PortRx) (y : Sym) (hb : b = s.begin t) (hc : FirstCopy 5 x y b) (ha : a = b.near48 y.arg)
    (hk : k = bits y.arg 51 48) :
    (b.sysTime < a → k < 3 → Gives (.resetSymbol t x) s [.mesh] fun u => PassedOn 5 x y b u ∧
      ∃ c, u.mesh.reset = some (a, k, c, y.tag) ∧ (s.mesh.resetBlk = some (y.origin, y.tag, c) ∨ c = 0)) ∧
    (a ≤ b.sysTime ∨ 3 ≤ k → Gives (.resetSymbol t x) s [.mesh] fun u => PassedOn 5 x y b u ∧ u.mesh.reset = s.mesh.reset) := by
  subst hb ha hk
  refine ⟨fun hd hk => hc.gives rfl execResetSymbol_goes rfl fun live u hu => ?_, fun hd => hc.gives rfl execResetSymbol_goes rfl fun live u hu => ?_⟩
  all_goals simp only [passed_near] at hu
  · rw [if_pos hk, timed_ahead (z := passed 5 x y live (s.begin t)) hd] at hu
    refine ⟨hu.passedOn fun _ ho => ho, _, hu.meshField Mesh.reset fun _ _ _ => rfl, ?_⟩
    rw [passed_mesh]
    split
    · rename_i o tg blk hblk
      split
      · rename_i hsame
        left
        rw [← hsame.1, ← hsame.2]
        exact hblk
      · exact .inr rfl
    · exact .inr rfl
  · have hact : (if bits y.arg 51 48 < 3 then (passed 5 x y live (s.begin t)).timed ((s.begin t).near48 y.arg) (resetPlan y ((s.begin t).near48 y.arg))
        else (passed 5 x y live (s.begin t), false)) = (passed 5 x y live (s.begin t), false) := by
      split
      · exact timed_late (hd.resolve_right (by omega))
      · rfl
    rw [hact] at hu
    exact ⟨hu.passedOn fun _ ho => ho, hu.meshField Mesh.reset fun _ _ _ => rfl⟩

theorem resetBlockSymbol_keeps (x : PortRx) (y : Sym) (hb : b = s.begin t) (hc : FirstCopy 6 x y b) :
    Gives (.resetBlockSymbol t x) s [.mesh] fun u => PassedOn 6 x y b u ∧
      (s.mesh.reset = none → u.mesh.resetBlk = some (y.origin, y.tag, y.arg % 256)) ∧
      (∀ a k c, s.mesh.reset = some (a, k, c, y.tag) → u.mesh.reset = some (a, k, y.arg % 256, y.tag)) := by
  subst hb
  refine hc.gives rfl execResetBlockSymbol_goes rfl fun live u hu => ⟨hu.passedOn fun _ ho => ho, fun hn => ?_, fun a k c hr => ?_⟩
  · rw [hu.meshField Mesh.resetBlk fun _ _ _ => rfl]
    have hp : (passed 6 x y live (s.begin t)).mesh.reset = none := hn
    simp only [resetBlock, onMesh_mesh, hp]
  · rw [hu.meshField Mesh.reset fun _ _ _ => rfl]
    have hp : (passed 6 x y live (s.begin t)).mesh.reset = some (a, k, c, y.tag) := hr
    simp only [resetBlock, onMesh_mesh, hp, if_true]

/-! ## Mode changes, loss policies and SAFE notices (R127, R420, R421) -/

theorem SymbolEnd.modeQ {op : Nat} {w u : State} (h : SymbolEnd op w u) : u.modeQ = w.modeQ := h.frame.keeps .modeQ rfl
theorem SymbolEnd.clk {op : Nat} {w u : State} (h : SymbolEnd op w u) : u.clk = w.clk := h.frame.keeps .clk rfl

theorem modeSymbol_schedules (x : PortRx) (y : Sym) (hb : b = s.begin t) (hc : FirstCopy 7 x y b) :
    Gives (.modeSymbol t x) s [.mesh, .modeQ] fun u => PassedOn 7 x y b u ∧
      u.modeQ.sched = if later 32 (y.arg % 2 ^ 32) b.per then some { period := y.arg % 2 ^ 32, mode := bits y.arg 35 32 } else s.modeQ.sched := by
  subst hb
  rw [show (2 ^ 32 : Nat) = M32 from rfl]
  refine hc.givesBoundary rfl execModeSymbol_goes rfl fun live u hu => ?_
  split <;> rename_i hl
  · rw [if_pos hl] at hu
    exact ⟨hu.passedOn fun _ ho => ho, by rw [hu.modeQ]; rfl⟩
  · rw [if_neg hl] at hu
    exact ⟨hu.passedOn fun _ ho => ho, by rw [hu.modeQ]; rfl⟩

theorem lossSymbol_schedules (x : PortRx) (y : Sym) (hb : b = s.begin t) (hc : FirstCopy 8 x y b) :
    Gives (.lossSymbol t x) s [.mesh, .modeQ] fun u => PassedOn 8 x y b u ∧
      u.modeQ.lossSched = if later 32 (y.arg % 2 ^ 32) b.per then s.modeQ.lossSched ++ [y.arg % 2 ^ 32] else s.modeQ.lossSched := by
  subst hb
  rw [show (2 ^ 32 : Nat) = M32 from rfl]
  refine hc.givesBoundary rfl execLossSymbol_goes rfl fun live u hu => ?_
  split <;> rename_i hl
  · rw [if_pos hl] at hu
    exact ⟨hu.passedOn fun _ ho => ho, by rw [hu.modeQ]; rfl⟩
  · rw [if_neg hl] at hu
    exact ⟨hu.passedOn fun _ ho => ho, by rw [hu.modeQ]; rfl⟩

theorem safeSymbol_waits (x : PortRx) (y : Sym) (hb : b = s.begin t) (hc : FirstCopy 9 x y b) :
    Gives (.safeSymbol t x) s [.mesh, .modeQ] fun u => PassedOn 9 x y b u ∧ u.modeQ.peer = s.modeQ.peer ++ [(y.arg % 2 ^ 32, y.origin)] := by
  subst hb
  refine hc.gives rfl execSafeSymbol_goes rfl fun live u hu => ⟨hu.passedOn fun _ ho => ho, ?_⟩
  rw [hu.modeQ]
  rfl

/-! ## Time loads (R594, R595) -/

theorem tloadAt_schedules (a : Nat) (x : PortRx) (y : Sym) (hb : b = s.begin t) (hc : FirstCopy 10 x y b) (ha : a = b.near48 y.arg) :
    Gives (.tloadAt t x) s [.mesh, .clk] fun u => PassedOn 10 x y b u ∧
      u.clk.loadAt = if b.sysTime < a then some (y.origin, y.tag, a) else s.clk.loadAt := by
  subst hb ha
  refine hc.gives rfl execTloadAt_goes rfl fun live u hu => ?_
  simp only [passed_near] at hu
  split
  · rename_i hd
    rw [timed_ahead (z := passed 10 x y live (s.begin t)) hd] at hu
    exact ⟨hu.passedOn fun _ ho => ho, by rw [hu.clk]; rfl⟩
  · rename_i hd
    rw [timed_late (z := passed 10 x y live (s.begin t)) (Nat.not_lt.mp hd)] at hu
    exact ⟨hu.passedOn fun _ ho => ho, by rw [hu.clk]; rfl⟩

theorem tloadVal_loads (a : Nat) (x : PortRx) (y : Sym) (hb : b = s.begin t) (hc : FirstCopy 11 x y b) (hl : s.clk.loadAt = some (y.origin, y.tag, a)) :
    Gives (.tloadVal t x) s [.mesh, .clk] fun u => PassedOn 11 x y b u ∧ u.clk.loadAt = none ∧
      u.clk.load = some { time := y.arg % 2 ^ 53 * 2048 % 2 ^ 64, at_ := a, sure := true, remote := true } := by
  subst hb
  refine hc.gives rfl execTloadVal_goes rfl fun live u hu => ?_
  have hload : (passed 11 x y live (s.begin t)).clk.loadAt = some (y.origin, y.tag, a) := hl
  simp only [tloadVal, hload, and_self, if_true] at hu
  exact ⟨hu.passedOn fun _ ho => ho, by rw [hu.clk]; rfl, by rw [hu.clk]; rfl⟩

/-! ## Confirmations (R597) -/

theorem confirm_counts (x : PortRx) (y : Sym) (hb : b = s.begin t) (hc : FirstCopy 12 x y b) :
    Gives (.confirm t x) s [.mesh] fun u => PassedOn 12 x y b u ∧
      ∀ g ∈ s.mesh.gops, g.tag = y.arg % 256 → g.op = bits y.arg 15 8 → ∃ g' ∈ u.mesh.gops, g'.op = g.op ∧ g'.tag = g.tag ∧ y.origin ∈ g'.got := by
  subst hb
  refine hc.gives rfl execConfirm_goes rfl fun live u hu => ⟨hu.passedOn fun _ ho => ho, fun g hg ht ho => ?_⟩
  rw [hu.unconfirmed rfl]
  refine ⟨_, List.mem_map.mpr ⟨g, hg, rfl⟩, ?_⟩
  split
  · exact ⟨rfl, rfl, List.mem_append_right _ (List.mem_singleton.mpr rfl)⟩
  · rename_i hgot
    exact ⟨rfl, rfl, by simpa [ht, ho] using hgot⟩

/-- Who has not confirmed an operation whose window ends. -/
def State.unconfirmedBy (g : Gop) (z : State) (n : Nat) : Bool := decide (n < z.cfg.mesh.nodes) && n != z.node && !g.got.contains n
/-- A window that ends, up to the answer of the record that waited for it: the operation is watched no more, and who is missing is shown. -/
def State.windowShown (g : Gop) (z : State) : State :=
  let miss := maskOf 64 (z.unconfirmedBy g)
  let s := z.onMesh fun m => { m with gops := m.gops.filter (· != g), miss := miss, evt := if miss = 0 then m.evt else setBit m.evt 4 }
  if miss = 0 then s else s.event 0x0883 (le 1 g.op ++ le 1 g.tag ++ le 4 miss)
theorem windowShown_mesh {g : Gop} {z : State} :
    (z.windowShown g).mesh.gops = z.mesh.gops.filter (· != g) ∧ (z.windowShown g).mesh.miss = maskOf 64 (z.unconfirmedBy g) := by
  simp only [windowShown]
  split <;> exact ⟨rfl, rfl⟩
theorem windowEnd_same {g : Gop} {z : State} : MeshSame (z.windowShown g) (z.windowEnd g) := by
  show MeshSame _ (if g.op = 1 then _ else z.windowShown g)
  refine MeshSame.ite ?_ (.of rfl)
  split
  · exact answerOpen_same
  · exact .of rfl
theorem windowEnd_mesh {g : Gop} {z : State} : (z.windowEnd g).mesh.gops = z.mesh.gops.filter (· != g) ∧ (z.windowEnd g).mesh.miss = maskOf 64 (z.unconfirmedBy g) := by
  obtain ⟨c, q, e, -⟩ := windowEnd_same (g := g) (z := z)
  rw [e]
  exact windowShown_mesh

theorem confirmWindowExpiry_ends (g : Gop) (hb : b = s.begin t) (hg : b.mesh.gops.filter (fun g => decide (g.endAt ≤ b.now)) = [g]) :
    Gives (.confirmWindowExpiry t) s [.free, .host, .jnl, .evs, .mesh] fun u => g ∉ u.mesh.gops ∧
      (∀ n < 64, u.mesh.miss.testBit n = (decide (n < s.cfg.mesh.nodes) && n != s.node && !g.got.contains n)) := by
  subst hb
  refine execConfirmWindowExpiry_goes.givesRun rfl rfl fun q p r => ?_
  have hends : each ((s.begin t).mesh.gops.filter fun g => decide (g.endAt ≤ (s.begin t).now)) windowEnd (s.begin t) = (s.begin t).windowEnd g := by
    rw [hg]
    rfl
  obtain ⟨hgops, hmiss⟩ := windowEnd_mesh (g := g) (z := s.begin t)
  simp only [noteSets_mesh, finish_mesh, hends, hgops, hmiss]
  refine ⟨fun h => ?_, fun n hn => testBit_maskOf hn⟩
  simpa using (List.mem_filter.mp h).2

/-! ## BCAST_REG (R601) -/

theorem bcastReg_writes (off : Nat) (x : PortRx) (y : Sym) (r : Reg) (f : Nat → State → State) (hb : b = s.begin t) (hc : FirstCopy 1 x y b)
    (ho : off = bits y.arg 55 34) (hs : ∀ m o, Serves .mesh off r { b with mesh := m, out := o }) (hsb : b.standby = false) (hr : r.wr = .rw f) :
    ∃ u m o j, exec (.bcastReg t x) s = .next u ∧ Only [.mesh] (f (y.arg % 2 ^ 32) { b with mesh := m, out := o, jnl := j }) u := by
  subst hb ho
  obtain ⟨live, hdone⟩ := hc.done
  obtain ⟨j, hj⟩ := (hs { (s.begin t).mesh with seenSym := live } (passed 1 x y live (s.begin t)).out).writeRw (v := y.arg % 2 ^ 32) hsb hr
  obtain ⟨v, hv, -, -, -, hframe⟩ := hdone (fun y s => (s.writeReg .mesh (bits y.arg 55 34) (y.arg % 2 ^ 32), true)) _ _ rfl
  refine ⟨v, { (s.begin t).mesh with seenSym := live }, (passed 1 x y live (s.begin t)).out, j, congrArg _ hv, Frame.only (m := 8388612) ?_ rfl⟩
  rw [← hj]
  exact hframe

/-! ## What was scheduled is carried out (R599, R600, R602) -/

theorem snapshotExecute_takes (time tag : Nat) (hb : b = s.begin t) (hs : b.mesh.snap = some (time, tag)) (hd : time ≤ b.sysTime) :
    Gives (.snapshotExecute t) s [.mesh] fun u => u.mesh.snap = none ∧ u.mesh.snapT = time ∧
      u.mesh.snapPage = b.snapBody time tag ++ le 4 (crc32c (b.snapBody time tag)).toNat := by
  subst hb
  have hdue : (s.begin t).snapDue = true := by
    simp only [snapDue, hs]
    exact decide_eq_true hd
  refine gives_if (m := 8388608) (f := snapTake) rfl hdue rfl ?_ rfl fun q p r => ?_
  · simp only [snapTake, hs]
    simp
  · simp only [snapTake, hs, noteSets_mesh, finish_mesh]
    exact ⟨rfl, rfl, rfl⟩

theorem only_finish {z : State} {q : List (Nat × Nat)} {p r : Nat} : Only [] z (noteSets q (finish p r z)) := Frame.only (m := 5) (by simp) rfl

theorem scheduledResetExecute_acts (time kind c tag i : Nat) (hb : b = s.begin t) (hs : b.mesh.reset = some (time, kind, c, tag)) (hd : time ≤ b.sysTime)
    (hn : b.snapDue = false) :
    ∃ u z, exec (.scheduledResetExecute t) s = .next u ∧ Only [.mesh] b z ∧ z.mesh.reset = none ∧
      (kind = 0 → Only [] (z.warmStart .mesh) u) ∧
      (kind = 1 → State.resetBlocks.findIdx? (· == c) = some i → b.softRefusal (BitVec.ofNat 32 (2 ^ i)) = none → Only [] (z.softStart .mesh (2 ^ i)) u) ∧
      (kind = 2 → Only [] z.rcClear u) := by
  subst hb
  have hdue : (s.begin t).resetDue = true := by
    simp only [resetDue, hs, hn]
    exact and_tt (decide_eq_true hd) rfl
  refine ⟨_, (s.begin t).onMesh fun m => { m with reset := none }, rfl, Frame.only (m := 8388608) (by simp) rfl, rfl, ?_⟩
  rw [runIf_goes hdue]
  simp only [resetAct, hs]
  refine ⟨?_, ?_, ?_⟩
  · rintro rfl
    exact only_finish
  · rintro rfl hi hsoft
    replace hsoft : ((s.begin t).onMesh fun m => { m with reset := none }).softRefusal (BitVec.ofNat 32 (2 ^ i)) = none := hsoft
    simp only [Nat.one_ne_zero, if_false, if_true, hi, hsoft]
    exact only_finish
  · rintro rfl
    exact only_finish
end

/-- Settles O41: each row acts once on the first copy of its symbol, on a state that has passed it on; what is due later acts at its tick. -/
theorem meshSymbols : Obligations.MeshSymbols :=
  ⟨barArrive_counts, barArrive_last, barRelease_ends, barArriveResend_sends, barrierTimeout_ends, snap_schedules, resetSymbol_schedules, resetBlockSymbol_keeps,
    modeSymbol_schedules, lossSymbol_schedules, safeSymbol_waits, tloadAt_schedules, tloadVal_loads, confirm_counts, confirmWindowExpiry_ends, bcastReg_writes,
    snapshotExecute_takes, scheduledResetExecute_acts⟩

end Sys2Proof.Machine

/-! PROOFS. Records taken in turn, results of forwarded ones, and the commands of the mesh (R118, R134, R135, R420, R589, R597 to R600, R606, R607, R749). -/
namespace Sys2Proof.Machine
open State

/-! ## Records taken in turn (R118, R749) -/

/-- A record whose lengths agree and whose CRC holds goes on to the command its opcode names (R106, R749). -/
theorem rawRecord_process {look : Nat → Option Cmd} {src : Src} {ring : Nat} {bytes : Bytes} {z : State} (hmin : 24 ≤ field bytes 0 2) (hmax : field bytes 0 2 ≤ 256)
    (hcrc : fieldW bytes (field bytes 0 2 - 4) = crc32c (slice bytes 0 (field bytes 0 2 - 4))) (hpay : field bytes 16 2 ≤ 232)
    (hlen : field bytes 0 2 = 24 + (field bytes 16 2 + 3) / 4 * 4) :
    rawRecord look src ring bytes z = z.process (look (field bytes 8 2))
      { src := src, ring := ring, sess := field bytes 2 2, seq := field bytes 4 4, node := field bytes 10 1, flags := field bytes 11 1, target := field bytes 12 4 }
      (field bytes 8 2) (slice bytes 20 (field bytes 16 2)) (crc32c (slice bytes 0 (field bytes 0 2 - 4))) := by
  have hsize : ¬(field bytes 0 2 < 24 ∨ 256 < field bytes 0 2) := by omega
  have hfit : ¬(232 < field bytes 16 2 ∨ field bytes 0 2 ≠ 24 + (field bytes 16 2 + 3) / 4 * 4) := by omega
  unfold rawRecord
  simp only [if_neg hsize, hcrc, ne_eq, not_true_eq_false, if_false]
  rw [if_neg hfit]

theorem recordFetch_processes (s b : State) (t i : Nat) (bytes : Bytes) (hb : b = s.begin t) (ht : b.hostTakes = true) (hn : b.nextSource = some i) (hi : i < 32)
    (hl : i < s.host.ctxs.length) (hmin : 24 ≤ field bytes 0 2) (hmax : field bytes 0 2 ≤ 256)
    (hcrc : fieldW bytes (field bytes 0 2 - 4) = crc32c (slice bytes 0 (field bytes 0 2 - 4))) (hpay : field bytes 16 2 ≤ 232)
    (hlen : field bytes 0 2 = 24 + (field bytes 16 2 + 3) / 4 * 4) :
    ∃ u z, exec (.recordFetch t bytes) s = .next u ∧ Only [.host] b z ∧ z.host.turn = (i + 1) % 34 ∧
      (z.ctx i).sqHead = ((b.ctx i).sqHead + 1) % (b.ctx i).sqSize ∧
      Only [] (z.process (look (field bytes 8 2))
        { src := .ring
          ring := i
          sess := field bytes 2 2
          seq := field bytes 4 4
          node := field bytes 10 1
          flags := field bytes 11 1
          target := field bytes 12 4 }
        (field bytes 8 2) (slice bytes 20 (field bytes 16 2)) (crc32c (slice bytes 0 (field bytes 0 2 - 4)))) u := by
  subst hb
  refine ⟨_, ((s.begin t).onCtx i fun x => { x with sqHead := (x.sqHead + 1) % x.sqSize }).turned i, rfl, Frame.only (m := 512) (by simp [turned, onCtx]) rfl, rfl, ?_, ?_⟩
  · exact congrArg Ctx.sqHead (ctx_onCtx (z := s.begin t) hl)
  · have htaken : fetch look bytes (s.begin t) =
        rawRecord look .ring i bytes (((s.begin t).onCtx i fun x => { x with sqHead := (x.sqHead + 1) % x.sqSize }).turned i) := by
      unfold fetch takeRing
      simp only [ht, hn, Bool.not_true, Bool.false_eq_true, if_false, if_pos hi, if_true]
    rw [run_goes, htaken, rawRecord_process hmin hmax hcrc hpay hlen]
    exact only_finish

/-! ## Results of forwarded records (R134, R135, R420) -/

section
variable {z : State} {o : OpenCmd} {n sess seq : Nat} {r : RemoteOut}

theorem resultTake_forwarded (hf : z.host.opens.find? (fun o => (o.kind == 1 || o.kind == 2) && o.left.contains n && o.h.sess == sess && o.h.seq == seq) = some o)
    (hk : o.kind = 1) : z.resultTake n sess seq r = z.forwardReply n r o := by
  simp only [resultTake, hf, hk, if_true]
theorem resultTake_meshMode (hf : z.host.opens.find? (fun o => (o.kind == 1 || o.kind == 2) && o.left.contains n && o.h.sess == sess && o.h.seq == seq) = some o)
    (hk : o.kind = 2) : z.resultTake n sess seq r = z.meshModeReply n r o := by
  simp only [resultTake, hf, hk]
  rfl
/-- A forwarded record that is not refused waits no longer. -/
theorem forwardReply_opens (h : r.status ≠ 3) : o ∉ (z.forwardReply n r o).host.opens := by
  have hfewer : Fewer (z.openDrop o) (z.forwardReply n r o) := by
    unfold forwardReply
    rw [if_neg h]
    split
    · exact openUnknown_fewer
    · exact answer_fewer
  exact fun hin => dropped_opens (hfewer.1 o hin)
theorem answerOpen_modeQ {a : Answer} : (z.answerOpen o a).modeQ = z.modeQ := (by simp : Frame 8390156 z (z.answerOpen o a)).keeps .modeQ rfl
theorem meshModeTake_sched : (z.meshModeTake o).modeQ.sched = some { period := z.boundaryAfter, mode := field o.pay 0 1 } := by
  simp only [meshModeTake, answerOpen_modeQ, sendSymbol_modeQ]
  rfl
/-- The last node would take the mode change: it is scheduled for the boundary the head names. -/
theorem meshModeReply_sched (h : r.status ≠ 3) (hs : z.mode.mode ≠ 0 ∨ r.detail % 2 = bit (z.overlay 4)) (hl : o.left.filter (· != n) = []) :
    (z.meshModeReply n r o).modeQ.sched = some { period := z.boundaryAfter, mode := field o.pay 0 1 } := by
  have hagrees : ¬(z.mode.mode = 0 ∧ r.detail % 2 ≠ bit (z.overlay 4)) := fun hno => hs.elim (· hno.1) hno.2
  simp only [meshModeReply, if_neg h, if_neg hagrees, hl, List.isEmpty_nil, if_true, meshModeTake_sched]
  exact congrArg (fun p => some ({ period := p, mode := field o.pay 0 1 } : Sched)) (boundary_of rfl rfl rfl rfl rfl)
end

theorem remoteResult_settles (s b : State) (t n sess seq : Nat) (r : RemoteOut) (o : OpenCmd) (hb : b = s.begin t)
    (hf : b.host.opens.find? (fun o => (o.kind == 1 || o.kind == 2) && o.left.contains n && o.h.sess == sess && o.h.seq == seq) = some o) :
    (o.kind = 1 → r.status ≠ 3 →
      Gives (.remoteResult t n sess seq r) s [.free, .host, .jnl, .modeQ, .mesh, .pair] fun u => o ∉ u.host.opens) ∧
    (o.kind = 1 → r.status = 3 → o.h.src = .ring ∨ o.h.src = .mbx0 ∨ o.h.src = .mbx1 →
      Gives (.remoteResult t n sess seq r) s [.free, .host, .jnl, .modeQ, .mesh, .pair] fun u =>
        Told o.h { sess := o.h.sess
                   status := 3
                   code := r.code
                   seq := o.h.seq
                   opcode := o.opcode
                   detail := if r.code = 0x10 ∨ r.code = 0x11 then r.detail else 0
                   exp := (b.ctx (State.ctxOf o.h.sess)).e } b u) ∧
    (o.kind = 2 → r.status ≠ 3 → b.mode.mode ≠ 0 ∨ r.detail % 2 = bit (b.overlay 4) → o.left.filter (· != n) = [] →
      Gives (.remoteResult t n sess seq r) s [.free, .host, .jnl, .modeQ, .mesh, .pair] fun u =>
        u.modeQ.sched = some { period := b.boundaryAfter, mode := field o.pay 0 1 }) := by
  subst hb
  refine ⟨fun hk hr => ?_, fun hk hr hs => ?_, fun hk hr hs hl => ?_⟩ <;> refine execRemoteResult_goes.givesRun rfl rfl fun a p q => ?_
  · rw [resultTake_forwarded hf hk, noteSets_host, finish_host]
    exact forwardReply_opens hr
  · rw [resultTake_forwarded hf hk, forwardReply, if_pos hr]
    exact refuseOpen_told hs
  · rw [resultTake_meshMode hf hk, noteSets_modeQ, finish_modeQ]
    exact meshModeReply_sched hr hs hl

/-! ## MESH_BIND (R589) -/

theorem bindFields {n hops path : Nat} (hn : n < 64) (hh : hops < 256) (hp : path < 2 ^ 32) :
    field (le 1 n ++ le 1 hops ++ le 2 0 ++ le 4 path) 0 1 = n ∧ field (le 1 n ++ le 1 hops ++ le 2 0 ++ le 4 path) 1 1 = hops ∧
    field (le 1 n ++ le 1 hops ++ le 2 0 ++ le 4 path) 4 4 = path := by
  rw [List.append_assoc, List.append_assoc]
  refine ⟨field_le_of_lt (by omega), ?_, ?_⟩
  · rw [field_skip _ _ _ _ _ (by decide)]
    exact field_le_of_lt (by omega)
  · rw [field_skip _ _ _ _ _ (by decide), field_skip _ _ _ _ _ (by decide), field_skip _ _ _ _ _ (by decide)]
    exact wordField hp

theorem convRise_length {n : Nat} {z : State} : (z.convRise n).mesh.convs.length = z.mesh.convs.length := (congrArg List.length convRise_convs).trans modAt_length
/-- A node bound by its path: its conversation is UP under the route given. -/
theorem meshBind_conv {h : RecHdr} {p : Bytes} {z : State} (hl : field p 0 1 < z.mesh.convs.length) :
    ((cmdMeshBind.act h p z).1.conv (field p 0 1)).st = 1 ∧ ((cmdMeshBind.act h p z).1.conv (field p 0 1)).bound = true ∧
    ((cmdMeshBind.act h p z).1.conv (field p 0 1)).path = field p 4 4 ∧ ((cmdMeshBind.act h p z).1.conv (field p 0 1)).hops = field p 1 1 := by
  simp only [cmdMeshBind]
  rw [conv_onConv (convRise_length.symm ▸ hl), conv_at convRise_convs hl]
  exact ⟨rfl, rfl, rfl, rfl⟩

theorem meshBind_binds (s b : State) (t n hops path : Nat) (h : RecHdr) (ha : Accepts cmdMeshBind h (le 1 n ++ le 1 hops ++ le 2 0 ++ le 4 path) (s.begin t))
    (_ : b = s.begin t) (hn : n < 64) (hh : hops < 256) (hp : path < 2 ^ 32) (hl : n < s.mesh.convs.length) :
    Gives (.meshBind t h n hops path) s ([.host, .jnl, .mesh] ++ s.heldParts) fun u => (u.conv n).st = 1 ∧ (u.conv n).bound = true ∧ (u.conv n).path = path ∧
      (u.conv n).hops = hops := by
  refine ha.gives0 (m := 8388608) rfl rfl (fun v => by simp [cmdMeshBind]) rfl rfl fun x j u _ hu => ?_
  obtain ⟨hnode, hhops, hpath⟩ := bindFields hn hh hp
  have hlink := hu.mesh.conv n
  simp only [Conv.link, Prod.mk.injEq] at hlink
  obtain ⟨hst, hbound, hpa, hho, -⟩ := hlink
  rw [hst, hbound, hpa, hho]
  have hconv := meshBind_conv (h := h) (p := le 1 n ++ le 1 hops ++ le 2 0 ++ le 4 path) (z := (s.begin t).withHJ x j) (by rw [hnode]; exact hl)
  rw [hnode, hhops, hpath] at hconv
  exact hconv

/-! ## MESH_BARRIER, MESH_SNAPSHOT and MESH_RESET (R598 to R600) -/

/-- What an answer keeps of MESH besides the conversations and the ports. -/
theorem After.meshField {α : Type} {calm : Prop} {w u : State} (h : After calm w u) (f : Mesh → α) (hf : ∀ m : Mesh, ∀ c p, f { m with convs := c, ports := p } = f m) :
    f u.mesh = f w.mesh := by
  obtain ⟨c, p, e, -⟩ := h.mesh
  rw [e, hf]
/-- What a symbol sent keeps of MESH besides the tag and the confirmations awaited. -/
theorem sendSymbols_meshField {α : Type} {l : List (Nat × Nat)} {z : State} (f : Mesh → α) (hf : ∀ m : Mesh, ∀ tg gs, f { m with tag := tg, gops := gs } = f m) :
    f (z.sendSymbols l).mesh = f z.mesh := by
  unfold sendSymbols
  split
  · rfl
  · exact hf _ _ _

theorem meshBarrier_opens (s b : State) (t : Nat) (h : RecHdr) (ha : Accepts cmdMeshBarrier h [] (s.begin t)) (hb : b = s.begin t) :
    Gives (.meshBarrier t h) s ([.host, .jnl, .mesh] ++ s.heldParts) fun u => u.mesh.barNo = (s.mesh.barNo + 1) % 65536 ∧ u.mesh.barSentAt = b.now ∧
      u.mesh.bar = some ((s.mesh.barNo + 1) % 65536, [0], b.now) := by
  subst hb
  refine ha.gives0 (m := 8388612) rfl rfl (fun v => by simp [cmdMeshBarrier]) rfl rfl fun x j u _ hu => ?_
  exact ⟨(hu.meshField Mesh.barNo fun _ _ _ => rfl).trans (sendSymbols_meshField Mesh.barNo fun _ _ _ => rfl),
    (hu.meshField Mesh.barSentAt fun _ _ _ => rfl).trans (sendSymbols_meshField Mesh.barSentAt fun _ _ _ => rfl),
    (hu.meshField Mesh.bar fun _ _ _ => rfl).trans (sendSymbols_meshField Mesh.bar fun _ _ _ => rfl)⟩

theorem meshSnapshot_schedules (s b : State) (t time : Nat) (h : RecHdr) (ha : Accepts cmdMeshSnapshot h (le 8 time) (s.begin t)) (_ : b = s.begin t)
    (htime : time < 2 ^ 64) :
    Gives (.meshSnapshot t h time) s ([.host, .jnl, .mesh] ++ s.heldParts) fun u => u.mesh.snap = some (time, s.mesh.tag) ∧ u.mesh.snapT = time := by
  refine ha.gives0 (m := 8388612) rfl rfl (fun v => by simp [cmdMeshSnapshot]) rfl rfl fun x j u _ hu => ?_
  have hfield : field (le 8 time) 0 8 = time := (field_only 8 time).trans (Nat.mod_eq_of_lt (by omega))
  rw [hu.meshField Mesh.snap fun _ _ _ => rfl, hu.meshField Mesh.snapT fun _ _ _ => rfl]
  simp only [cmdMeshSnapshot, hfield]
  exact ⟨sendSymbols_meshField Mesh.snap fun _ _ _ => rfl, sendSymbols_meshField Mesh.snapT fun _ _ _ => rfl⟩

theorem resetFields {time kind block : Nat} (ht : time < 2 ^ 64) (hk : kind < 3) (hb : block < 256) :
    field (le 8 time ++ le 1 kind ++ le 1 block ++ le 2 0) 0 8 = time ∧ field (le 8 time ++ le 1 kind ++ le 1 block ++ le 2 0) 8 1 = kind ∧
    field (le 8 time ++ le 1 kind ++ le 1 block ++ le 2 0) 9 1 = block := by
  rw [List.append_assoc, List.append_assoc]
  refine ⟨field_le_of_lt (by omega), ?_, ?_⟩
  · rw [field_skip _ _ _ _ _ (by decide)]
    exact field_le_of_lt (by omega)
  · rw [field_skip _ _ _ _ _ (by decide), field_skip _ _ _ _ _ (by decide)]
    exact field_le_of_lt (by omega)

theorem ask_reset {n off kind : Nat} {z : State} : (z.ask n off kind).mesh.reset = z.mesh.reset := by
  obtain ⟨c, p, e, -⟩ := sendItem_same (s := z.onMesh fun m => { m with convs := modAt m.convs n fun c => { c with asks := c.asks ++ [(kind, off)] } }) (n := n) (i := .read off)
  unfold ask
  rw [e]
  rfl
theorem meshReset_reset {h : RecHdr} {p : Bytes} {z : State} : (cmdMeshReset.act h p z).1.mesh.reset =
    if field p 8 1 = 0 ∧ z.others ≠ [] then z.mesh.reset else some (field p 0 8, field p 8 1, field p 9 1, z.mesh.tag) := by
  simp only [cmdMeshReset]
  split
  · exact each_val (fun s => s.mesh.reset) _ _ _ fun _ _ => ask_reset
  · exact sendSymbols_meshField Mesh.reset fun _ _ _ => rfl
theorem meshReset_frame {h : RecHdr} {p : Bytes} {z : State} : Frame 8388620 z (cmdMeshReset.act h p z).1 := by
  simp only [cmdMeshReset]
  split <;> simp [resetTake]

theorem meshReset_schedules (s b : State) (t time kind block : Nat) (h : RecHdr)
    (ha : Accepts cmdMeshReset h (le 8 time ++ le 1 kind ++ le 1 block ++ le 2 0) (s.begin t)) (hb : b = s.begin t) (ht : time < 2 ^ 64) (hk : kind < 3)
    (hbl : block < 256) :
    Gives (.meshReset t h time kind block) s ([.free, .host, .jnl, .mesh] ++ s.heldParts) fun u =>
      u.mesh.reset = if kind = 0 ∧ b.others ≠ [] then s.mesh.reset else some (time, kind, block, s.mesh.tag) := by
  subst hb
  refine ha.gives0 (m := 8388620) rfl rfl (fun v => meshReset_frame) rfl rfl fun x j u _ hu => ?_
  obtain ⟨htime, hkind, hblock⟩ := resetFields ht hk hbl
  rw [hu.meshField Mesh.reset fun _ _ _ => rfl, meshReset_reset, htime, hkind, hblock]
  rfl

/-! ## MESH_BCAST_REG (R601) -/

theorem meshBcastReg_writes (s b : State) (t off : Nat) (h : RecHdr) (v : Word) (r : Reg) (f : Nat → State → State)
    (ha : Accepts cmdMeshBcastReg h (le 4 off ++ le 4 v.toNat) (s.begin t)) (hb : b = s.begin t) (ho : off < 2 ^ 32)
    (hs : ∀ x j, Serves .mesh off r { b with host := x, jnl := j }) (hsb : b.standby = false) (hr : r.wr = .rw f) :
    ∃ u x j, exec (.meshBcastReg t h off v) s = .next u ∧ Only [.free, .host, .jnl, .mesh] (f v.toNat { b with host := x, jnl := j }) u := by
  subst hb
  obtain ⟨x, j, hu⟩ := acceptsPost ha fun _ => rfl
  obtain ⟨hoff, hval⟩ := wordFields ho v.isLt
  obtain ⟨j', hw⟩ := (hs x j).writeRw (v := v.toNat) hsb hr
  refine ⟨_, x, j', rfl, Frame.only (m := 8390156) ?_ rfl⟩
  refine Frame.trans ?_ hu.wide
  simp only [cmdMeshBcastReg, hoff, hval]
  rw [show (s.begin t).withHJ x j = { s.begin t with host := x, jnl := j } from rfl, hw]
  simp

/-- Settles O42: a record taken goes to its command; results settle the record that waits; each mesh command leaves what its effect says. -/
theorem meshCommands : Obligations.MeshCommands :=
  ⟨recordFetch_processes, remoteResult_settles, meshBind_binds, meshBarrier_opens, meshSnapshot_schedules, meshReset_schedules, meshBcastReg_writes⟩

end Sys2Proof.Machine

/-! PROOFS. What the ACTIVE mirrors to its STANDBY and hears from it (R142, R618, R620 to R622, R624, R625, R637). -/
namespace Sys2Proof.Machine
open State

/-! ## What a PAIR frame's coming in leaves alone -/

section
variable {s b : State} {t : Nat} {x : PortRx} {h : MHdr} {p : Bytes}

theorem FromPartner.pair (hf : FromPartner x h p (s.begin t)) (hb : b = (s.begin t).brought x h p) : b.pair = s.pair := by
  obtain ⟨q, rfl⟩ := hf.on hb
  rfl
theorem FromPartner.host (hf : FromPartner x h p (s.begin t)) (hb : b = (s.begin t).brought x h p) : b.host = s.host := by
  obtain ⟨q, rfl⟩ := hf.on hb
  rfl
theorem FromPartner.seam (hf : FromPartner x h p (s.begin t)) (hb : b = (s.begin t).brought x h p) : b.seam = s.seam := by
  obtain ⟨q, rfl⟩ := hf.on hb
  rfl
theorem FromPartner.inForce (hf : FromPartner x h p (s.begin t)) (hb : b = (s.begin t).brought x h p) : (s.begin t).inForce = b.inForce := by
  obtain ⟨q, rfl⟩ := hf.on hb
  rfl
theorem FromPartner.mirrored (hf : FromPartner x h p (s.begin t)) (hb : b = (s.begin t).brought x h p) : (s.begin t).mirrored = b.mirrored := by
  obtain ⟨q, rfl⟩ := hf.on hb
  rfl
end

/-! ## INPUT (R620, R625) -/

theorem input_keeps (s b : State) (t : Nat) (x : PortRx) (h : MHdr) (p : Bytes) (i : InputSet) (hf : FromPartner x h p (s.begin t))
    (hb : b = (s.begin t).brought x h p) (hm : b.mirrored = true) :
    (i.period ≠ b.per ∨ s.pair.st = 2 → GivesOn (.input t x i) s b [.pair] fun u => u.pair = { s.pair with
      input := some i }) ∧
    (i.period = b.per → s.pair.st = 3 → GivesOn (.input t x i) s b [.evs, .pair] fun u => u.pair.input = some i ∧ u.pair.st = 3 ∧
      ((∀ x ∈ b.tolWords, F32.le (F32.abs (F32.sub (b.lm x.1 (0x7000 + 4 * x.2.1)) (at' (at' i.words x.1 []) x.2.1 0))) x.2.2 = true) →
        u.pair.adcBad = [] ∧ u.pair.adcRun = s.pair.adcRun + 1)) := by
  have hpair := hf.pair hb
  have hcond := (hf.mirrored hb).trans hm
  refine ⟨fun hno => ?_, fun hper hst => ?_⟩
  · have hskip : ¬(i.period = b.per ∧ b.pair.st = 3) := by
      rw [hpair]
      omega
    refine hf.gives (w := b.onPair fun p => { p with input := some i }) (m := 16777216) rfl hb hcond ?_ (by simp) rfl fun a q r => ?_
    · simp only [if_neg hskip]
    · rw [noteSets_pair, finish_pair, onPair_pair, hpair]
  · rw [← hpair] at hst
    obtain ⟨hst', hwithin⟩ := adcCheck_all (i := i) (y := b) hst
    refine hf.gives (w := (b.adcCheck i).onPair fun p => { p with input := some i }) (m := 16908288) rfl hb hcond ?_ (by simp) rfl fun a q r => ?_
    · simp only [if_pos (And.intro hper hst)]
    · rw [noteSets_pair, finish_pair, onPair_pair, ← hpair]
      exact ⟨rfl, hst', hwithin⟩

/-! ## REFS, the heartbeat (R618, R620, R629) -/

theorem refs_heartbeat (s b : State) (t : Nat) (x : PortRx) (h : MHdr) (p : Bytes) (r : RefsFrame) (hf : FromPartner x h p (s.begin t))
    (hb : b = (s.begin t).brought x h p) (hi : b.inForce = true) (hp : s.cfg.topo.pair = true) :
    (s.pair.st = 1 ∨ s.pair.st = 5 ∨ s.pair.st = 6 → GivesOn (.refs t x r) s b [.host, .jnl, .evs, .pair] fun u => u.pair.st = 2 ∧ u.pair.syncAt = b.now ∧
      u.pair.refs = some r ∧ u.pair.refsAt = some b.now ∧ u.pair.health.testBit 62 = false ∧ u.pair.flight = []) ∧
    (s.pair.st = 4 → later 16 r.epoch s.seam.epoch = true → GivesOn (.refs t x r) s b [.sys, .host, .jnl, .edg, .cmp, .evs, .pair] fun u =>
      u.pair.st = 6 ∧ u.pair.heartbeat = false) ∧
    (s.pair.st = 3 → GivesOn (.refs t x r) s b [.free, .clk, .lane, .seam, .edg, .comp, .bnc, .bal, .evs, .mode, .modeQ, .adc, .pair] fun u =>
      u.pair.refs = some r ∧ u.pair.refsAt = some b.now ∧ u.comp.ranks = r.ranks ∧ u.mode.mode = r.mode ∧ u.mode.target = r.target ∧
      u.mode.sub = r.sub ∧ u.seam.epoch = (if later 16 r.epoch s.seam.epoch = true then r.epoch % 65536 else s.seam.epoch) ∧
      (r.mirrorOff = true ∨ later 32 r.mirrorNo s.pair.got = true → u.pair.health.testBit 62 = false)) := by
  have hcond : ((s.begin t).inForce && (s.begin t).cfg.topo.pair) = true := and_tt ((hf.inForce hb).trans hi) hp
  rw [← hf.pair hb, ← hf.seam hb]
  refine ⟨fun hst => ?_, fun hst hlate => ?_, fun hst => ?_⟩
  · obtain ⟨hframe, hh, l, e, hd, hpair, hsync⟩ := refsTake_waits (r := r) hst
    refine hf.gives rfl hb hcond rfl hframe rfl fun a q u => ?_
    rw [noteSets_pair, finish_pair, hpair]
    exact ⟨rfl, rfl, rfl, rfl, hsync, rfl⟩
  · refine hf.gives (m := 19015200) rfl hb hcond (refsTake_fence hst hlate) (by simp) rfl fun a q u => ?_
    rw [noteSets_pair, finish_pair, fence_pair]
    exact ⟨rfl, rfl⟩
  · obtain ⟨hframe, hall⟩ := refsTake_standby (r := r) hst
    refine hf.gives rfl hb hcond rfl hframe rfl fun a q u => ?_
    simp only [noteSets_pair, finish_pair, noteSets_comp, finish_comp, noteSets_mode, finish_mode, noteSets_seam, finish_seam]
    exact hall

/-! ## JNL and SYNC (R142, R622) -/

theorem jnl_follows (s b : State) (t : Nat) (x : PortRx) (h : MHdr) (p : Bytes) (e : JEntry) (hf : FromPartner x h p (s.begin t))
    (hb : b = (s.begin t).brought x h p) (hm : b.mirrored = true) : GivesOn (.jnl t x e) s b [.img, .host, .jnl, .modeQ, .pair] fun u => u.jnl = { s.jnl with
      ring := (e :: s.jnl.ring).take 8192
      head := e.index + 1
      next := e.index + 1
      prev := e.chain
      wrapped := s.jnl.wrapped || (decide (8192 ≤ s.jnl.ring.length) && !s.jnl.lapped)
      lapped := s.jnl.lapped || decide (8192 ≤ s.jnl.ring.length) } ∧ u.pair = { s.pair with
      gotJnl := e.index + 1
      cmds := s.pair.cmds.filter fun c => !State.recordsCmd e c } ∧
      (e.result ≠ 2 → u.img = s.img ∧ u.modeQ = s.modeQ) ∧
      (s.pair.cmds.find? (State.recordsCmd e) = none → ¬(e.src < 3 ∧ e.flags.testBit 2 = true) → u.host = s.host) ∧
      (∀ c, s.pair.cmds.find? (State.recordsCmd e) = some c → c.opcode ≠ 1 → c.opcode ≠ 4 → (s.ctx (State.ctxOf c.h.sess)).st ≠ 0 →
        (s.ctx (State.ctxOf c.h.sess)).sess = c.h.sess → (u.ctx (State.ctxOf c.h.sess)).e = (c.h.seq + 1) % 2 ^ 32) ∧
      (e.result = 2 → e.opcode = 0x0109 → s.img.swapSt = 3 → u.img.swapPer = e.effPeriod) := by
  obtain ⟨q, hq⟩ := hf.on hb
  refine hf.gives (m := 17303296) rfl hb ((hf.mirrored hb).trans hm) rfl (by simp) rfl fun a k r => ?_
  have hall := jnlTake_all (e := e) (y := b)
  have hctx : ∀ c, (noteSets a (finish k r (jnlTake e b))).ctx c = (jnlTake e b).ctx c := fun c =>
    ctx_host (by rw [noteSets_host, finish_host]) c
  simp only [noteSets_jnl, finish_jnl, noteSets_pair, finish_pair, noteSets_img, finish_img, noteSets_modeQ, finish_modeQ, noteSets_host, finish_host, hctx]
  rw [hq] at hall ⊢
  exact hall

theorem sync_puts (s b : State) (t page : Nat) (x : PortRx) (h : MHdr) (p bytes : Bytes) (hf : FromPartner x h p (s.begin t))
    (hb : b = (s.begin t).brought x h p) (hm : b.mirrored = true) (hst : s.pair.st = 2) :
    GivesOn (.sync t x page bytes) s b [.host, .jnl, .edg, .bnc, .bal, .mesh] fun u => u.jnl = (syncPage page bytes b.syncOf).jnl ∧
      u.host.ctrl = (syncPage page bytes b.syncOf).ctrl ∧ u.host.ctxs = s.host.ctxs.mapIdx (fun c _ => at' (syncPage page bytes b.syncOf).ctxs c {}) ∧
      u.bal.arms = s.bal.arms.mapIdx (fun a _ => at' (syncPage page bytes b.syncOf).arms a {}) ∧
      u.edg.chans = s.edg.chans.mapIdx (fun c _ => at' (syncPage page bytes b.syncOf).chans c []) := by
  obtain ⟨q, hq⟩ := hf.on hb
  obtain ⟨w, hw, hframe, hall⟩ := syncTake_at2 (page := page) (bytes := bytes) (y := b) ((congrArg PairB.st (hf.pair hb)).trans hst)
  refine hf.gives rfl hb ((hf.mirrored hb).trans hm) hw hframe rfl fun a k r => ?_
  simp only [noteSets_jnl, finish_jnl, noteSets_host, finish_host, noteSets_bal, finish_bal, noteSets_edg, finish_edg]
  have hsame : b.host = s.host ∧ b.bal = s.bal ∧ b.edg = s.edg := hq ▸ ⟨rfl, rfl, rfl⟩
  obtain ⟨hhost, hbal, hedg⟩ := hsame
  rw [hhost, hbal, hedg] at hall
  exact hall

theorem sync_restarts (s b : State) (t page : Nat) (x : PortRx) (h : MHdr) (p bytes : Bytes) (hf : FromPartner x h p (s.begin t))
    (hb : b = (s.begin t).brought x h p) (hm : b.mirrored = true) (hst : s.pair.st = 3) :
    GivesOn (.sync t x page bytes) s b [.host, .jnl, .edg, .bnc, .bal, .evs, .mesh, .pair] fun u => u.pair.st = 2 ∧ u.pair.syncAt = b.now ∧
      u.pair.health.testBit 62 = false ∧ (b.healthy = true → u.pair.handover = none) := by
  obtain ⟨w, hw, hframe, hall⟩ := syncTake_at3 (page := page) (bytes := bytes) (y := b) ((congrArg PairB.st (hf.pair hb)).trans hst)
  refine hf.gives rfl hb ((hf.mirrored hb).trans hm) hw hframe rfl fun a k r => ?_
  rw [noteSets_pair, finish_pair]
  exact hall

theorem syncEnd_standby {z : State} (h : z.pair.st = 2) : z.syncEnd.pair.st = 3 ∧ z.syncEnd.pair.cmds = [] ∧ z.syncEnd.pair.health.testBit 62 = true := by
  unfold syncEnd
  rw [if_pos h]
  obtain ⟨e, hd, hstep, -⟩ := healthStep_pair (s := z) (f := fun s =>
    (s.onPair fun p => { p with st := 3, got := (p.refs.map (·.mirrorNo)).getD p.got, cmds := [], missRun := 0 }).healthPut 62 true)
  obtain ⟨hh, l, hput, hbit⟩ := healthPut_pair (b := 62) (v := true)
    (s := z.onPair fun p => { p with st := 3, got := (p.refs.map (·.mirrorNo)).getD p.got, cmds := [], missRun := 0 })
  rw [hstep]
  simp only [hput]
  exact ⟨rfl, rfl, hbit⟩

theorem syncEnd_mirrors (s b : State) (t : Nat) (hb : b = s.begin t) (htl : b.timeline = true) (hp : s.cfg.topo.pair = true) (hcyc : b.cyc = 0)
    (hin : b.now ≤ s.pair.syncAt + 200 * Config.ms) :
    (s.pair.st = 2 → Gives (.syncEnd t) s [.evs, .pair] fun u => u.pair.st = 3 ∧ u.pair.cmds = [] ∧ u.pair.health.testBit 62 = true) ∧
    (s.pair.st = 4 → s.pair.syncOut = true → Gives (.syncEnd t) s [.pair] fun u => u.pair.mirror = true ∧ u.pair.mirrorOff = false ∧
      u.pair.syncOut = false ∧ u.pair.acked = s.pair.sent ∧ u.pair.st = 4) := by
  subst hb
  have hcond : ((s.begin t).timeline && (s.begin t).cfg.topo.pair && (s.begin t).cyc == 0 && decide ((s.begin t).now ≤ (s.begin t).pair.syncAt + 200 * Config.ms)) = true :=
    and_tt (and_tt (and_tt htl hp) (beq_iff_eq.mpr hcyc)) (decide_eq_true hin)
  refine ⟨fun hst => ?_, fun hst hout => ?_⟩
  · refine gives_if (m := 16908288) (f := syncEnd) rfl hcond rfl (by simp) rfl fun a q r => ?_
    rw [noteSets_pair, finish_pair]
    exact syncEnd_standby hst
  · have hno : ¬(s.begin t).pair.st = 2 := by
      rw [begin_pair, hst]
      decide
    refine gives_if (m := 16777216) (f := syncEnd) rfl hcond (by unfold syncEnd; rw [if_neg hno, if_pos ⟨hst, hout⟩]) (by simp) rfl fun a q r => ?_
    rw [noteSets_pair, finish_pair]
    exact ⟨rfl, rfl, rfl, rfl, hst⟩

/-! ## CMD (R142, R621) -/

theorem cmd_applies (s b : State) (t : Nat) (x : PortRx) (h : MHdr) (p : Bytes) (c : CmdFrame) (cmd : Cmd) (hf : FromPartner x h p (s.begin t))
    (hb : b = (s.begin t).brought x h p) (hm : b.mirrored = true) (hl : look c.opcode = some cmd) :
    ∃ u z, exec (.cmd t x c) s = .next u ∧ Only [.pair] b z ∧ z.pair = { s.pair with
      got := c.mirrorNo
      cmds := s.pair.cmds ++ [c] } ∧
      Only [.jnl, .mesh] (cmd.act c.h c.payload z).1 u ∧ u.jnl = s.jnl ∧ u.mesh.convs = b.mesh.convs ∧ u.mesh.gops = b.mesh.gops ∧
      u.mesh.ports = b.mesh.ports := by
  obtain ⟨q, hq⟩ := hf.on hb
  obtain ⟨z, hz, hpair, hframe, hjnl, hconvs, hgops, hports⟩ := cmdTake_all (y := b) hl
  refine ⟨_, z, rfl, hz.only rfl, hpair.trans (by rw [hf.pair hb]), ?_⟩
  rw [runIf_goes ((hf.mirrored hb).trans hm), hf.isIn, ← hb]
  simp only [noteSets_jnl, finish_jnl, noteSets_mesh, finish_mesh]
  exact ⟨Frame.only (m := 8389637) (Eq.mpr (State.noteSets_frame rfl) (Eq.mpr (State.finish_frame rfl) hframe)) rfl,
    hjnl.trans (by rw [hq]; rfl), hconvs, hgops, hports⟩

theorem cmdMirrorTimeout_holds (s b : State) (t : Nat) (x : CmdFrame × Nat) (l : List (CmdFrame × Nat)) (hb : b = s.begin t) (hst : s.pair.st = 4)
    (hm : s.pair.mirror = true) (hfl : s.pair.flight = x :: l) (hlate : x.2 + 2 * Config.us ≤ b.now) :
    Gives (.cmdMirrorTimeout t) s [.pair] fun u => u.pair = { s.pair with
      mirrorOff := true
      mirror := false
      holding := true } := by
  subst hb
  refine gives_if (m := 16777216) (f := State.onPair fun p => { p with mirrorOff := true, mirror := false, holding := true }) rfl ?_ rfl (by simp) rfl fun a q r => ?_
  · simp only [begin_pair, hst, hm, hfl, List.head?_cons]
    exact decide_eq_true hlate
  · rw [noteSets_pair, finish_pair]
    rfl

/-! ## HEALTH (R624, R637) -/

theorem health_hears (s b : State) (t : Nat) (x : PortRx) (h : MHdr) (p : Bytes) (f : HealthFrame) (hf : FromPartner x h p (s.begin t))
    (hb : b = (s.begin t).brought x h p) (hi : b.inForce = true) (hst : s.pair.st = 4) :
    (s.pair.holding = false → s.pair.flight = [] → s.host.held = [] → GivesOn (.health t x f) s b [.evs, .pair] fun u =>
      u.pair.peer = f.word ∧ u.pair.peerAt = some b.now ∧ u.pair.healthMiss = 0 ∧ u.pair.peerHealthy = f.word.testBit 63 ∧
      u.pair.peerArmed = f.armed ∧ u.pair.peerMarks = f.marks ∧ u.pair.ackedJnl = f.ackJnl ∧ u.pair.st = 4) ∧
    (s.pair.holding = true → s.pair.mirror = false → s.host.held = [] → f.word.testBit 62 = false →
      ∃ u z, exec (.health t x f) s = .next u ∧ Only [.evs, .pair] b z ∧ z.pair.peer = f.word ∧ z.pair.peerHealthy = f.word.testBit 63 ∧
        z.pair.peerArmed = f.armed ∧ Only [] z.heldPerform u) := by
  have hcond : ((s.begin t).inForce && (s.begin t).pair.st == 4) = true := and_tt ((hf.inForce hb).trans hi) (beq_iff_eq.mpr hst)
  obtain ⟨z, hframe, hword, harmed, hkept, htake⟩ := healthTake_eq (f := f) (y := b)
  have hheld : s.host.held = [] → z.host.held = [] := fun hn => by rw [hframe.keeps .host rfl, hf.host hb]; exact hn
  rw [hf.pair hb] at hkept
  simp only [Prod.mk.injEq] at hword harmed hkept
  obtain ⟨hpeer, hat, hmiss, hok⟩ := hword
  obtain ⟨harm, hmarks⟩ := harmed
  obtain ⟨hstz, hmirror, hhold, hflight⟩ := hkept
  refine ⟨fun hnh hnf hn => ?_, fun hh hm hn hw => ?_⟩
  · have hack : ∃ k, (if z.pair.mirror then z.cmdAcked f.ackCmd else z) = z.onPair fun p => { p with acked := k } := by
      split
      · exact ⟨_, cmdAcked_nil (hflight.trans hnf)⟩
      · exact ⟨z.pair.acked, rfl⟩
    obtain ⟨k, hk⟩ := hack
    rw [hk, jnlAcked_nil (z := z.onPair fun p => { p with acked := k }) (hheld hn)] at htake
    have hidle : (((z.onPair fun p => { p with acked := k }).onPair fun p => { p with ackedJnl := f.ackJnl }).pair.holding && !f.word.testBit 62) = false := by
      show (z.pair.holding && !f.word.testBit 62) = false
      rw [hhold, hnh]
      rfl
    rw [hidle] at htake
    refine hf.gives (m := 16908288) rfl hb hcond htake ?_ rfl fun a q r => ?_
    · exact hframe.trans (by simp)
    · simp only [Bool.false_eq_true, if_false, noteSets_pair, finish_pair, onPair_pair]
      exact ⟨hpeer, hat, hmiss, hok, harm, hmarks, trivial, hstz.trans hst⟩
  · rw [hmirror, hm] at htake
    simp only [Bool.false_eq_true, if_false] at htake
    rw [jnlAcked_nil (hheld hn)] at htake
    refine ⟨_, z.onPair fun p => { p with ackedJnl := f.ackJnl }, rfl, Frame.only (m := 16908288) (hframe.trans (by simp)) rfl, hpeer, hok, harm, ?_⟩
    have hperform : ((z.onPair fun p => { p with ackedJnl := f.ackJnl }).pair.holding && !f.word.testBit 62) = true := by
      rw [onPair_pair, hhold, hh, hw]
      rfl
    rw [hperform] at htake
    rw [runIf_goes hcond, hf.isIn, ← hb, htake, if_pos rfl]
    exact only_finish

theorem mirrorLost_pair {z : State} : ∃ e, z.mirrorLost.pair = { z.pair with
    mirrorOff := true
    mirror := false
    syncOut := false
    holding := z.pair.holding || !z.pair.flight.isEmpty
    evt := e } := by
  have hheld : ∀ w : State, w.heldOut.pair = w.pair := fun w => (by simp : Frame 8389132 w w.heldOut).keeps .pair rfl
  unfold mirrorLost
  simp only [event_pair]
  split
  · exact ⟨_, rfl⟩
  · exact ⟨_, hheld _⟩

theorem healthMissed_performs (s b : State) (t a : Nat) (hb : b = s.begin t) (hst : s.pair.st = 4) (hwas : s.pair.mirrorOff = false ∨ s.pair.holding = true)
    (hat : s.pair.peerAt = some a) (hlate : a + 2 * b.tick ≤ b.now) :
    ∃ u z, exec (.healthMissed t) s = .next u ∧ Only [.free, .host, .mesh, .evs, .pair] b z ∧ z.pair.mirror = false ∧
      z.pair.mirrorOff = true ∧ z.pair.peerHealthy = false ∧ z.pair.peerArmed = none ∧ z.pair.handover = none ∧ z.pair.fbFrom = none ∧
      Only [] z.heldPerform u := by
  subst hb
  have hcond : ((s.begin t).pair.st == 4 && (!(s.begin t).pair.mirrorOff || (s.begin t).pair.holding) &&
      (match (s.begin t).pair.peerAt with | some a => decide (a + 2 * (s.begin t).tick ≤ (s.begin t).now) | none => false)) = true := by
    simp only [begin_pair, hst, hat, decide_eq_true hlate]
    rcases hwas with hw | hw <;> rw [hw] <;> simp
  obtain ⟨e, hpair⟩ := mirrorLost_pair (z := s.begin t)
  refine ⟨_, (s.begin t).mirrorLost.peerLost, rfl, Frame.only (m := 25297420) (by simp) rfl, ?_⟩
  rw [runIf_goes hcond]
  simp only [peerLost, onPair_pair, hpair]
  exact ⟨trivial, trivial, trivial, trivial, trivial, trivial, only_finish⟩

/-- Settles O43: each frame of the partner acts on the state it comes into; what its parts take is theirs to say. -/
theorem pairMirror : Obligations.PairMirror :=
  ⟨input_keeps, refs_heartbeat, jnl_follows, sync_puts, sync_restarts, syncEnd_mirrors, cmd_applies, cmdMirrorTimeout_holds, health_hears, healthMissed_performs⟩

end Sys2Proof.Machine

/-! PROOFS. SYSPLL from its reference's count to lock, its losses and returns; time loads, OUTPLL, clock outputs, trims (R154 to R186). -/
namespace Sys2Proof.Machine
open State

/-! ## The count of the reference (R154) -/

section
variable {n k : Nat} {z : State}

theorem bandOf_two (h : 920 ≤ n) (h' : n ≤ 1140) : bandOf n = some 2 := by
  have h0 : ¬(230 ≤ n ∧ n ≤ 285) := by omega
  have h1 : ¬(460 ≤ n ∧ n ≤ 570) := by omega
  rw [bandOf, if_neg h0, if_neg h1, if_pos ⟨h, h'⟩]
theorem bandOf_three (h : 1437 ≤ n) (h' : n ≤ 1778) : bandOf n = some 3 := by
  have h0 : ¬(230 ≤ n ∧ n ≤ 285) := by omega
  have h1 : ¬(460 ≤ n ∧ n ≤ 570) := by omega
  have h2 : ¬(920 ≤ n ∧ n ≤ 1140) := by omega
  rw [bandOf, if_neg h0, if_neg h1, if_neg h2, if_pos ⟨h, h'⟩]
theorem bandOf_none (h : n < 230 ∨ 285 < n ∧ n < 460 ∨ 570 < n ∧ n < 920 ∨ 1140 < n ∧ n < 1437 ∨ 1778 < n) : bandOf n = none := by
  have h0 : ¬(230 ≤ n ∧ n ≤ 285) := by omega
  have h1 : ¬(460 ≤ n ∧ n ≤ 570) := by omega
  have h2 : ¬(920 ≤ n ∧ n ≤ 1140) := by omega
  have h3 : ¬(1437 ≤ n ∧ n ≤ 1778) := by omega
  rw [bandOf, if_neg h0, if_neg h1, if_neg h2, if_neg h3]
theorem refCount_band (h : bandOf n = some k) :
    z.refCount n = (z.onClk fun c => { c with refFreq := k, refPresent := true, refBad := false }).searchStart := by
  unfold refCount
  rw [h]
theorem refCount_bad (h : bandOf n = none) : z.refCount n = z.onClk fun c => { c with refPresent := n != 0, refBad := true, countAt := z.now } := by
  unfold refCount
  rw [h]
end

/-- A wait given in microseconds or milliseconds is over: in ticks. -/
theorem waitOver {x y k n : Nat} (h : x + n ≤ y) (hk : k = n) : decide (x + k ≤ y) = true := decide_eq_true (hk ▸ h)

theorem refFrequencyCount_searches (s b : State) (t n : Nat) (hb : b = s.begin t) (hd : b.pwr.dom.testBit 14 = true) (hst : b.clk.st = 0)
    (hbad : b.clk.refBad = false) (hn : 920 ≤ n) (hn' : n ≤ 1140) :
    Gives (.refFrequencyCount t n) s [.ofs, .clk] fun u => u.sysTime = b.sysTime ∧
      u.clk.refFreq = 2 ∧ u.clk.refPresent = true ∧ u.clk.refBad = false ∧ u.clk.st = 1 ∧ u.clk.onFallback = true ∧ u.clk.stepAt = b.now ∧
      u.clk.fails = 0 ∧ u.clk.waiting = false ∧ u.clk.sysUse = s.clk.sysLock := by
  subst hb
  refine execRefFrequencyCount_goes.givesIf rfl (by rw [hd, hst, hbad]; rfl) rfl fun a p q => ?_
  rw [finish_time, noteSets_clk, finish_clk, refCount_band (bandOf_two hn hn'), searchStart_time]
  exact ⟨rfl, rfl, rfl, rfl, rfl, rfl, rfl, rfl, rfl, rfl⟩

theorem refFrequencyCount_bad (s b : State) (t n : Nat) (hb : b = s.begin t) (hd : b.pwr.dom.testBit 14 = true) (hst : b.clk.st = 0)
    (hbad : b.clk.refBad = false) (hn : n < 230 ∨ 285 < n ∧ n < 460 ∨ 570 < n ∧ n < 920 ∨ 1140 < n ∧ n < 1437 ∨ 1778 < n) :
    Gives (.refFrequencyCount t n) s [.ofs, .clk] fun u => u.ofs = s.ofs ∧ u.clk = { s.clk with
      refPresent := n != 0
      refBad := true
      countAt := b.now } := by
  subst hb
  refine execRefFrequencyCount_goes.givesIf rfl (by rw [hd, hst, hbad]; rfl) rfl fun a p q => ?_
  rw [noteSets_ofs, finish_ofs, noteSets_clk, finish_clk, refCount_bad (bandOf_none hn)]
  exact ⟨rfl, rfl⟩

theorem refCountRetry_searches (s b : State) (t n : Nat) (hb : b = s.begin t) (hd : b.pwr.dom.testBit 14 = true) (hst : b.clk.st = 0)
    (hbad : b.clk.refBad = true) (hlate : b.clk.countAt + 1280000 ≤ b.now) (hn : 1437 ≤ n) (hn' : n ≤ 1778) :
    Gives (.refCountRetry t n) s [.ofs, .clk] fun u => u.sysTime = b.sysTime ∧ u.clk.refFreq = 3 ∧ u.clk.refPresent = true ∧ u.clk.refBad = false ∧
      u.clk.st = 1 := by
  subst hb
  refine execRefCountRetry_goes.givesIf rfl (by rw [hd, hst, hbad, waitOver (k := 100 * Config.us) hlate rfl]; rfl) rfl fun a p q => ?_
  rw [finish_time, noteSets_clk, finish_clk, refCount_band (bandOf_three hn hn'), searchStart_time]
  exact ⟨rfl, rfl, rfl, rfl, rfl⟩

/-! ## The search and the lock (R157, R158, R162, R172) -/

theorem bandFound_acquires (s b : State) (t : Nat) (hb : b = s.begin t) (hst : b.clk.st = 1) (hw : b.clk.waiting = false)
    (hlate : 100 * b.clk.stepAt + 384 * refCycle b.clk.refFreq ≤ 100 * b.now) :
    Gives (.bandFound t) s [.clk] fun u => u.clk = { s.clk with
      st := 2
      stepAt := b.now } := by
  subst hb
  refine execBandFound_goes.givesIf rfl (by rw [hst, hw]; exact decide_eq_true hlate) rfl fun a p q => ?_
  rw [noteSets_clk, finish_clk]
  rfl

theorem acquisitionTimeout_fails (s b : State) (t : Nat) (hb : b = s.begin t) (hst : b.clk.st = 2) (hlate : b.clk.stepAt + 1920000 ≤ b.now) :
    Gives (.acquisitionTimeout t) s [.clk] fun u => u.clk = { s.clk with
      st := 1
      stepAt := b.now
      fails := s.clk.fails + 1
      waiting := decide (4 ≤ s.clk.fails + 1)
      evt := if 4 ≤ s.clk.fails + 1 then setBit s.clk.evt 14 else s.clk.evt } := by
  subst hb
  refine execAcquisitionTimeout_goes.givesIf rfl (by rw [hst, waitOver (k := 150 * Config.us) hlate rfl]; rfl) rfl fun a p q => ?_
  rw [noteSets_clk, finish_clk]
  rfl

theorem acquisitionTimeout_waits (s b : State) (t : Nat) (hb : b = s.begin t) (hst : b.clk.st = 2) (hlate : b.clk.stepAt + 1920000 ≤ b.now)
    (hf : 3 ≤ b.clk.fails) :
    Gives (.acquisitionTimeout t) s [.clk] fun u => u.clk = { s.clk with
      st := 1
      stepAt := b.now
      fails := s.clk.fails + 1
      waiting := true
      evt := setBit s.clk.evt 14 } := by
  have h4 : 4 ≤ s.clk.fails + 1 := by
    rw [hb, begin_clk] at hf
    omega
  simpa only [h4, decide_true, if_true] using acquisitionTimeout_fails s b t hb hst hlate

theorem acquisitionTimeout_searches (s b : State) (t : Nat) (hb : b = s.begin t) (hst : b.clk.st = 2) (hlate : b.clk.stepAt + 1920000 ≤ b.now)
    (hf : b.clk.fails < 3) :
    Gives (.acquisitionTimeout t) s [.clk] fun u => u.clk = { s.clk with
      st := 1
      stepAt := b.now
      fails := s.clk.fails + 1
      waiting := false } := by
  have h4 : ¬4 ≤ s.clk.fails + 1 := by
    rw [hb, begin_clk] at hf
    omega
  simpa only [h4, decide_false, if_false] using acquisitionTimeout_fails s b t hb hst hlate

theorem lockSearchRetry_searches (s b : State) (t : Nat) (hb : b = s.begin t) (hst : b.clk.st = 1) (hw : b.clk.waiting = true)
    (hlate : b.clk.stepAt + 128000000 ≤ b.now) :
    Gives (.lockSearchRetry t) s [.clk] fun u => u.clk = { s.clk with
      waiting := false
      stepAt := b.now } := by
  subst hb
  refine execLockSearchRetry_goes.givesIf rfl (by rw [hst, hw, waitOver (k := 10 * Config.ms) hlate rfl]; rfl) rfl fun a p q => ?_
  rw [noteSets_clk, finish_clk]
  rfl

section
variable {c : LockCfg} {n e : Nat}

theorem inWindow_of (hn : c.n ≤ n) (he : e ≤ c.w) : inWindow c n e = true := decide_eq_true ⟨hn, he⟩
theorem inWindow_not (h : n < c.n ∨ c.w < e) : inWindow c n e = false :=
  decide_eq_false fun ⟨hn, he⟩ => h.elim (Nat.not_lt.mpr hn) (Nat.not_lt.mpr he)
theorem outOfWindow_of (hn : c.lol ≤ n) (he : min (4 * c.w) 1023 < e) : outOfWindow c n e = true := decide_eq_true ⟨hn, he⟩
theorem outOfWindow_not (h : n < c.lol ∨ e ≤ min (4 * c.w) 1023) : outOfWindow c n e = false :=
  decide_eq_false fun ⟨hn, he⟩ => h.elim (Nat.not_lt.mpr hn) (Nat.not_le.mpr he)
/-- What R159 takes for a loss of lock: the clamp, or the window. -/
theorem lossSeen {clamp : Bool} (h : clamp = true ∨ c.lol ≤ n ∧ min (4 * c.w) 1023 < e) : (clamp || outOfWindow c n e) = true :=
  (Bool.or_eq_true _ _).mpr (h.imp id fun ⟨hn, he⟩ => outOfWindow_of hn he)
end

theorem lockDeclared_outside (s b : State) (t cycles peak : Nat) (hb : b = s.begin t) (_ : b.clk.st = 2)
    (hout : cycles < b.clk.sysUse.n ∨ b.clk.sysUse.w < peak) : Gives (.lockDeclared t cycles peak) s [] fun _ => True := by
  subst hb
  refine gives_stays rfl ?_
  rw [inWindow_not hout, Bool.and_false, Bool.false_and]

theorem lockDeclared_aligns (s b : State) (t cycles peak : Nat) (hb : b = s.begin t) (hst : b.clk.st = 2) (hn : b.clk.sysUse.n ≤ cycles)
    (hw : peak ≤ b.clk.sysUse.w) (hlate : 100 * b.clk.stepAt + cycles * refCycle b.clk.refFreq ≤ 100 * b.now) :
    Gives (.lockDeclared t cycles peak) s [.clk] fun u => u.clk = { s.clk with
      st := 3
      stepAt := b.now } := by
  subst hb
  refine execLockDeclared_goes.givesIf rfl (by rw [hst, inWindow_of hn hw]; exact decide_eq_true hlate) rfl fun a p q => ?_
  rw [noteSets_clk, finish_clk]
  rfl

section
variable {z : State}

/-- System time that has begun, outside a slew. -/
theorem sysTime_still (h : z.clk.started = true) (hs : z.clk.slewing = false) : z.sysTime = (z.now + z.ofs) % 2 ^ 64 := by
  simp only [sysTime, slewAdds, h, hs, Bool.not_false, if_true, Nat.add_zero]
/-- A lock starts system time, or leaves it; a slew's part is in OFS. -/
theorem enterLocked_sysTime : z.enterLocked.sysTime = (z.now + z.slewStop.ofs) % 2 ^ 64 := by
  obtain ⟨hnow, hofs⟩ := enterLocked_frame' (s := z)
  rw [sysTime_still (by rw [enterLocked_clk]) (by rw [enterLocked_clk]), hnow, hofs]
/-- The first lock starts system time at 0 (R172). -/
theorem timeStart_locked (h : z.clk.started = false) : z.timeStart.enterLocked.sysTime = 0 := by
  have hstart : z.timeStart = { z.slewStop with ofs := 2 ^ 64 - z.now % 2 ^ 64 } := if_neg (by rw [h]; exact Bool.false_ne_true)
  rw [enterLocked_sysTime, hstart]
  show (z.now + (2 ^ 64 - z.now % 2 ^ 64 + 0) % 2 ^ 64) % 2 ^ 64 = 0
  omega
theorem timeStart_again (h : z.clk.started = true) : z.timeStart = z := if_pos h
end

theorem alignmentDone_first (s b : State) (t : Nat) (hb : b = s.begin t) (hst : b.clk.st = 3) (hs : b.clk.started = false) :
    Gives (.alignmentDone t) s [.ofs, .clk] fun u => u.sysTime = 0 ∧ u.clk.started = true ∧ u.clk.st = 4 ∧ u.clk.onFallback = false := by
  subst hb
  refine execAlignmentDone_goes.givesIf rfl (beq_iff_eq.mpr hst) rfl fun a p q => ?_
  rw [finish_time, noteSets_clk, finish_clk, timeStart_locked hs, enterLocked_clk]
  exact ⟨rfl, rfl, rfl, rfl⟩

theorem alignmentDone_again (s b : State) (t : Nat) (hb : b = s.begin t) (hst : b.clk.st = 3) (hs : b.clk.started = true) :
    Gives (.alignmentDone t) s [.ofs, .clk] fun u => u.sysTime = b.sysTime ∧ u.clk.st = 4 ∧ u.clk.onFallback = false := by
  subst hb
  refine execAlignmentDone_goes.givesIf rfl (beq_iff_eq.mpr hst) rfl fun a p q => ?_
  rw [finish_time, noteSets_clk, finish_clk, timeStart_again hs, enterLocked_time hs, enterLocked_clk]
  exact ⟨rfl, rfl, rfl⟩

/-- Settles O21: each step of the search by its own lemma. -/
theorem syspllSearch : Obligations.SyspllSearch :=
  ⟨refFrequencyCount_searches, refFrequencyCount_bad, refCountRetry_searches, bandFound_acquires, acquisitionTimeout_waits, acquisitionTimeout_searches,
    lockSearchRetry_searches, lockDeclared_outside, lockDeclared_aligns, alignmentDone_first, alignmentDone_again⟩

end Sys2Proof.Machine

/-! PROOFS. SYSPLL at loss and return of its reference, and at loss of lock (R155, R159, R162, R163, R166, R167, R175). -/
namespace Sys2Proof.Machine
open State

/-! ## Loss of the reference (R162) -/

/-- What REFERENCE_LOSS does at its instant. -/
def State.refLost (z : State) : State :=
  let y := z.onClk fun c => { c with refPresent := false }
  if z.clk.st = 4 ∧ !z.clk.onMesh then y.holdover
  else if z.clk.st = 5 ∧ z.clk.slewing ∧ !z.clk.onMesh then y.slewStop.onClk fun c => { c with evt := setBit c.evt 13 }
  else if z.clk.onHeld then y.onClk fun c => { c with onHeld := false, evt := setBit c.evt 13 }
  else y
theorem execReferenceLoss_eq {t : Nat} {s : State} : execReferenceLoss t s = .next (s.run t refLost) := rfl

section
variable {z : State}

theorem refLost_locked (hst : z.clk.st = 4) (hm : z.clk.onMesh = false) : z.refLost = (z.onClk fun c => { c with refPresent := false }).holdover :=
  if_pos ⟨hst, by rw [hm]; rfl⟩
theorem refLost_slewing (hst : z.clk.st = 5) (hs : z.clk.slewing = true) (hm : z.clk.onMesh = false) :
    z.refLost = ((z.onClk fun c => { c with refPresent := false }).slewStop).onClk fun c => { c with evt := setBit c.evt 13 } := by
  have h4 : ¬(z.clk.st = 4 ∧ !z.clk.onMesh) := fun h => by omega
  rw [refLost, if_neg h4, if_pos ⟨hst, hs, by rw [hm]; rfl⟩]
theorem refLost_held (hh : z.clk.onHeld = true) (hm : z.clk.onMesh = true) :
    z.refLost = (z.onClk fun c => { c with refPresent := false }).onClk fun c => { c with onHeld := false, evt := setBit c.evt 13 } := by
  have hno : ¬(!z.clk.onMesh) = true := by rw [hm]; exact Bool.false_ne_true
  rw [refLost, if_neg fun h => hno h.2, if_neg fun h => hno h.2.2, if_pos hh]
theorem refLost_unlocked (h4 : z.clk.st ≠ 4) (h5 : z.clk.st ≠ 5) (hh : z.clk.onHeld = false) :
    z.refLost = z.onClk fun c => { c with refPresent := false } := by
  rw [refLost, if_neg fun h => h4 h.1, if_neg fun h => h5 h.1, if_neg (by rw [hh]; exact Bool.false_ne_true)]

theorem holdover_locked (h : z.clk.st = 4) : z.holdover.clk.evt = setBit (setBit z.clk.evt 13) 12 := if_pos h
theorem holdover_lost : z.holdover.clk.evt.testBit 13 = true := by
  show (if z.clk.st = 4 then setBit (setBit z.clk.evt 13) 12 else setBit z.clk.evt 13).testBit 13 = true
  split <;> simp only [testBit_setBit, decide_true, Bool.true_or, Bool.or_true]
end

theorem referenceLoss_locked (s b : State) (t : Nat) (hb : b = s.begin t) (hst : b.clk.st = 4) (hm : b.clk.onMesh = false) :
    Gives (.referenceLoss t) s [.ofs, .clk] fun u => u.sysTime = b.sysTime ∧ u.clk.st = 5 ∧ u.clk.refPresent = false ∧ u.clk.slewing = false ∧
      u.clk.stepAt = b.now ∧ u.clk.evt = setBit (setBit s.clk.evt 13) 12 := by
  subst hb
  refine execReferenceLoss_goes.givesRun execReferenceLoss_eq rfl fun a p q => ?_
  rw [finish_time, noteSets_clk, finish_clk, refLost_locked hst hm, holdover_time]
  exact ⟨rfl, rfl, rfl, rfl, rfl, holdover_locked (z := (s.begin t).onClk _) hst⟩

theorem referenceLoss_slewing (s b : State) (t : Nat) (hb : b = s.begin t) (hst : b.clk.st = 5) (hs : b.clk.slewing = true) (hm : b.clk.onMesh = false) :
    Gives (.referenceLoss t) s [.ofs, .clk] fun u => u.sysTime = b.sysTime ∧ u.clk = { s.clk with
      refPresent := false
      slewing := false
      holdErr := 0
      evt := setBit s.clk.evt 13 } := by
  subst hb
  refine execReferenceLoss_goes.givesRun execReferenceLoss_eq rfl fun a p q => ?_
  rw [finish_time, noteSets_clk, finish_clk, refLost_slewing hst hs hm]
  exact ⟨slewStop_sysTime (s := (s.begin t).onClk _), rfl⟩

theorem referenceLoss_held (s b : State) (t : Nat) (hb : b = s.begin t) (hh : b.clk.onHeld = true) (hm : b.clk.onMesh = true) :
    Gives (.referenceLoss t) s [.ofs, .clk] fun u => u.ofs = s.ofs ∧ u.clk = { s.clk with
      refPresent := false
      onHeld := false
      evt := setBit s.clk.evt 13 } := by
  subst hb
  refine execReferenceLoss_goes.givesRun execReferenceLoss_eq rfl fun a p q => ?_
  rw [noteSets_ofs, finish_ofs, noteSets_clk, finish_clk, refLost_held hh hm]
  exact ⟨rfl, rfl⟩

theorem referenceLoss_unlocked (s b : State) (t : Nat) (hb : b = s.begin t) (h4 : b.clk.st ≠ 4) (h5 : b.clk.st ≠ 5) (hh : b.clk.onHeld = false) :
    Gives (.referenceLoss t) s [.ofs, .clk] fun u => u.ofs = s.ofs ∧ u.clk = { s.clk with
      refPresent := false } := by
  subst hb
  refine execReferenceLoss_goes.givesRun execReferenceLoss_eq rfl fun a p q => ?_
  rw [noteSets_ofs, finish_ofs, noteSets_clk, finish_clk, refLost_unlocked h4 h5 hh]
  exact ⟨rfl, rfl⟩

/-! ## Loss of lock (R159, R163) -/

/-- What LOSS_OF_LOCK makes of the loop itself: its event, and a search. -/
def State.lockLost (z : State) : State := (z.onClk fun c => { c with evt := setBit c.evt 15 }).searchStart

section
variable {z : State}

theorem execLossOfLock_eq {t n e : Nat} {clamp : Bool} : execLossOfLock t n e clamp z =
    .next (z.runIf t (fun s => (s.clk.st == 4 || s.clk.st == 5) && (clamp || outOfWindow s.clk.sysUse n e)) fun s => s.lockLost.clockLost) := rfl
theorem lockLost_frame : Frame 130 z z.lockLost := by simp [lockLost]
theorem lockLost_time : z.lockLost.sysTime = z.sysTime := searchStart_time (s := z.onClk _)
theorem lockLost_covered : z.lockLost.activeCovered = z.activeCovered := activeCovered_congr rfl rfl rfl
theorem lockLost_role : z.lockLost.role = z.role := rfl
theorem lossCond {clamp : Bool} {n e : Nat} (hst : z.clk.st = 4 ∨ z.clk.st = 5)
    (h : clamp = true ∨ z.clk.sysUse.lol ≤ n ∧ min (4 * z.clk.sysUse.w) 1023 < e) :
    ((z.clk.st == 4 || z.clk.st == 5) && (clamp || outOfWindow z.clk.sysUse n e)) = true :=
  and_tt ((Bool.or_eq_true _ _).mpr (hst.imp beq_iff_eq.mpr beq_iff_eq.mpr)) (lossSeen h)

/-- Outputs off, no compile left, SAFE: what the loss does outside OFF, but for an ACTIVE's heartbeat. -/
def State.clockSafe (z : State) : State := (z.allOff.compileGone).enterSafe 2 0
theorem clockLost_on (h : z.mode.mode ≠ 0) :
    z.clockLost = if (z.role == 1) = true then z.clockSafe.onPair fun p => { p with heartbeat := false } else z.clockSafe := if_neg h
theorem clockLost_same {α : Type} (f : State → α) (hf : ∀ (g : PairB → PairB) (y : State), f (y.onPair g) = f y) (h : z.mode.mode ≠ 0) :
    f z.clockLost = f z.clockSafe := by
  rw [clockLost_on h]
  split
  · exact hf _ _
  · rfl
theorem clockLost_heartbeat (h : z.mode.mode ≠ 0) (hr : z.role = 1) : z.clockLost.pair.heartbeat = false := by
  rw [clockLost_on h, if_pos (beq_iff_eq.mpr hr)]
  rfl
theorem clockSafe_mode (h0 : z.mode.mode ≠ 0) (h8 : z.mode.mode ≠ 8) (hc : z.activeCovered = false) :
    z.clockSafe.mode.mode = 8 ∧ z.clockSafe.mode.reason = 2 ∧ z.clockSafe.mode.cls = 0 := by
  have f : Frame 2121728 z z.allOff.compileGone := by simp
  have hmode : z.allOff.compileGone.mode = z.mode := f.keeps .mode rfl
  have hcov : z.allOff.compileGone.activeCovered = z.activeCovered := activeCovered_congr (f.keeps .pair rfl) (f.keeps .img rfl) (f.keeps .now rfl)
  obtain ⟨hm, hr, -, hcls, -⟩ := enterSafe_run (s := z.allOff.compileGone) (r := 2) (i := 0) (hmode ▸ h0) (hmode ▸ h8) (hcov.trans hc)
  exact ⟨hm, hr, hcls⟩
theorem clockSafe_comp : z.clockSafe.comp.done = false ∧ z.clockSafe.comp.cells = [] := by
  have hcomp : z.clockSafe.comp = z.allOff.compileGone.comp := (by simp : Frame 29343404 z.allOff.compileGone (z.allOff.compileGone.enterSafe 2 0)).keeps .comp rfl
  rw [hcomp]
  exact ⟨rfl, rfl⟩
end

theorem lossOfLock_off (s b : State) (t cycles least : Nat) (clamp : Bool) (hb : b = s.begin t) (hst : b.clk.st = 4 ∨ b.clk.st = 5)
    (hm : b.mode.mode = 0) (hl : clamp = true ∨ b.clk.sysUse.lol ≤ cycles ∧ min (4 * b.clk.sysUse.w) 1023 < least) :
    Gives (.lossOfLock t cycles least clamp) s [.ofs, .clk] fun u => u.sysTime = b.sysTime ∧ u.clk.st = 1 ∧ u.clk.onFallback = true ∧
      u.clk.onMesh = false ∧ u.clk.sysUse = s.clk.sysLock ∧ u.clk.evt = setBit s.clk.evt 15 := by
  subst hb
  refine gives_if execLossOfLock_eq (lossCond hst hl) (clockLost_off (s := (s.begin t).lockLost) hm) lockLost_frame rfl fun a p q => ?_
  rw [finish_time, noteSets_clk, finish_clk, lockLost_time]
  exact ⟨rfl, rfl, rfl, rfl, rfl, rfl⟩

theorem lossOfLock_not (s b : State) (t cycles least : Nat) (hb : b = s.begin t)
    (hin : cycles < b.clk.sysUse.lol ∨ least ≤ min (4 * b.clk.sysUse.w) 1023) : Gives (.lossOfLock t cycles least false) s [] fun _ => True := by
  subst hb
  refine gives_stays execLossOfLock_eq ?_
  rw [outOfWindow_not hin, Bool.or_self, Bool.and_false]

theorem lossOfLock_safe (s b : State) (t cycles least : Nat) (clamp : Bool) (hb : b = s.begin t) (hst : b.clk.st = 4 ∨ b.clk.st = 5)
    (h0 : b.mode.mode ≠ 0) (h8 : b.mode.mode ≠ 8) (hc : b.activeCovered = false)
    (hl : clamp = true ∨ b.clk.sysUse.lol ≤ cycles ∧ min (4 * b.clk.sysUse.w) 1023 < least) :
    Gives (.lossOfLock t cycles least clamp) s
      [.ofs, .free, .sys, .clk, .host, .jnl, .lane, .seam, .edg, .comp, .bnc, .bal, .evs, .mode, .modeQ, .adc, .cmp, .mesh, .pair] fun u =>
      u.mode.mode = 8 ∧ u.mode.reason = 2 ∧ u.mode.cls = 0 ∧ u.comp.done = false ∧ u.comp.cells = [] ∧ (b.role = 1 → u.pair.heartbeat = false) := by
  subst hb
  have hm : (s.begin t).lockLost.mode.mode ≠ 0 := h0
  refine execLossOfLock_goes.givesIf execLossOfLock_eq (lossCond hst hl) rfl fun a p q => ?_
  obtain ⟨hmode, hreason, hcls⟩ := clockSafe_mode (z := (s.begin t).lockLost) h0 h8 (lockLost_covered.trans hc)
  obtain ⟨hdone, hcells⟩ := clockSafe_comp (z := (s.begin t).lockLost)
  rw [noteSets_mode, finish_mode, noteSets_comp, finish_comp, noteSets_pair, finish_pair, clockLost_same (·.mode) (fun _ _ => rfl) hm,
    clockLost_same (·.comp) (fun _ _ => rfl) hm]
  exact ⟨hmode, hreason, hcls, hdone, hcells, fun hr => clockLost_heartbeat hm (lockLost_role.trans hr)⟩

/-! ## Return of the reference (R162, R166, R167) -/

section
variable {z : State} {band : Nat} {e : Int}

theorem refReturn_slews (hst : z.clk.st = 5) (hs : z.clk.slewing = false) (hm : z.clk.onMesh = false) (hb : band = z.clk.refFreq) :
    z.refReturn band = (z.onClk fun c => { c with refPresent := true }).slewStart (alignErr (alignTicks band) z.sysTime) := by
  simp only [refReturn, onClk_clk, hst, hs, hm, hb, ne_eq, not_true_eq_false, or_self, Bool.false_eq_true, if_false]
  rfl
theorem refReturn_held (hst : z.clk.st = 5) (hs : z.clk.slewing = false) (hm : z.clk.onMesh = true) (hb : band = z.clk.refFreq) :
    z.refReturn band = (z.onClk fun c => { c with refPresent := true }).onClk fun c => { c with onHeld := true } := by
  simp only [refReturn, onClk_clk, hst, hs, hm, hb, ne_eq, not_true_eq_false, or_self, Bool.false_eq_true, if_false, if_true]
theorem refReturn_changed (hst : z.clk.st = 5) (hs : z.clk.slewing = false) (hb : band ≠ z.clk.refFreq) (hm : z.mode.mode ≠ 0)
    (hw : z.img.hostWait = false) :
    z.refReturn band = (z.onClk fun c => { c with refPresent := true }).onClk fun c => { c with refChanged := true, newBand := band } := by
  simp only [refReturn, onClk_clk, onClk_mode, onClk_img, hst, hs, hb, hm, hw, ne_eq, not_true_eq_false, not_false_eq_true, or_self, Bool.false_eq_true,
    if_false, if_true]
theorem meshReturn_diverged (hst : z.clk.st = 5) (hs : z.clk.slewing = false) (hm : z.clk.onMesh = true) (he : 256 < e.natAbs) :
    z.meshReturn e = z.onClk fun c => { c with diverged := true } := by
  simp only [meshReturn, hst, hs, hm, he, ne_eq, not_true_eq_false, Bool.not_true, or_self, Bool.false_eq_true, if_false, if_true]
theorem meshReturn_slews (hst : z.clk.st = 5) (hs : z.clk.slewing = false) (hm : z.clk.onMesh = true) (he : e.natAbs ≤ 256) :
    z.meshReturn e = (z.slewStart e).onClk fun c => { c with onHeld := false } := by
  have hnear : ¬256 < e.natAbs := Nat.not_lt.mpr he
  simp only [meshReturn, hst, hs, hm, hnear, ne_eq, not_true_eq_false, Bool.not_true, or_self, Bool.false_eq_true, if_false]
end

theorem referenceReturn_slews (s b : State) (t band : Nat) (err : Int) (hb : b = s.begin t) (hst : b.clk.st = 5) (hs : b.clk.slewing = false)
    (hm : b.clk.onMesh = false) (hband : band = b.clk.refFreq) :
    Gives (.referenceReturn t false band err) s [.ofs, .clk] fun u => u.clk = { s.clk with
      refPresent := true
      slewing := true
      stepAt := b.now
      holdErr := let a := alignTicks band; let r := b.sysTime % a; if 2 * r < a then (r : Int) else (r : Int) - a } := by
  subst hb
  refine execReferenceReturn_goes.givesRun (f := refReturn band) rfl rfl fun a p q => ?_
  rw [noteSets_clk, finish_clk, refReturn_slews hst hs hm hband]
  rfl

theorem referenceReturn_held (s b : State) (t band : Nat) (err : Int) (hb : b = s.begin t) (hst : b.clk.st = 5) (hs : b.clk.slewing = false)
    (hm : b.clk.onMesh = true) (hband : band = b.clk.refFreq) :
    Gives (.referenceReturn t false band err) s [.ofs, .clk] fun u => u.ofs = s.ofs ∧ u.clk = { s.clk with
      refPresent := true
      onHeld := true } := by
  subst hb
  refine execReferenceReturn_goes.givesRun (f := refReturn band) rfl rfl fun a p q => ?_
  rw [noteSets_ofs, finish_ofs, noteSets_clk, finish_clk, refReturn_held hst hs hm hband]
  exact ⟨rfl, rfl⟩

theorem referenceReturn_changed (s b : State) (t band : Nat) (err : Int) (hb : b = s.begin t) (hst : b.clk.st = 5) (hs : b.clk.slewing = false)
    (hband : band ≠ b.clk.refFreq) (hm : b.mode.mode ≠ 0) (hw : b.img.hostWait = false) :
    Gives (.referenceReturn t false band err) s [.ofs, .clk] fun u => u.ofs = s.ofs ∧ u.clk = { s.clk with
      refPresent := true
      refChanged := true
      newBand := band } := by
  subst hb
  refine execReferenceReturn_goes.givesRun (f := refReturn band) rfl rfl fun a p q => ?_
  rw [noteSets_ofs, finish_ofs, noteSets_clk, finish_clk, refReturn_changed hst hs hband hm hw]
  exact ⟨rfl, rfl⟩

theorem referenceReturn_diverged (s b : State) (t band : Nat) (err : Int) (hb : b = s.begin t) (hst : b.clk.st = 5) (hs : b.clk.slewing = false)
    (hm : b.clk.onMesh = true) (he : 256 < err.natAbs) :
    Gives (.referenceReturn t true band err) s [.ofs, .clk] fun u => u.ofs = s.ofs ∧ u.clk = { s.clk with
      diverged := true } := by
  subst hb
  refine execReferenceReturn_goes.givesRun (f := meshReturn err) rfl rfl fun a p q => ?_
  rw [noteSets_ofs, finish_ofs, noteSets_clk, finish_clk, meshReturn_diverged hst hs hm he]
  exact ⟨rfl, rfl⟩

theorem referenceReturn_mesh (s b : State) (t band : Nat) (err : Int) (hb : b = s.begin t) (hst : b.clk.st = 5) (hs : b.clk.slewing = false)
    (hm : b.clk.onMesh = true) (h1 : 1 ≤ err.natAbs) (he : err.natAbs ≤ 256) :
    Gives (.referenceReturn t true band err) s [.ofs, .clk] fun u => u.sysTime = b.sysTime ∧ u.clk = { s.clk with
      slewing := true
      holdErr := err
      stepAt := b.now
      onHeld := false } := by
  subst hb
  refine execReferenceReturn_goes.givesRun (f := meshReturn err) rfl rfl fun a p q => ?_
  rw [finish_time, noteSets_clk, finish_clk, meshReturn_slews hst hs hm he]
  exact ⟨slewStart_time (s := s.begin t) h1, rfl⟩

theorem slewDone_locks (s b : State) (t : Nat) (hb : b = s.begin t) (hst : b.clk.st = 5) (hs : b.clk.slewing = true) (hstart : b.clk.started = true)
    (he : b.slewErr.natAbs ≤ 1) :
    Gives (.slewDone t) s [.ofs, .clk] fun u => u.sysTime = b.sysTime ∧ u.clk.st = 4 ∧ u.clk.slewing = false ∧ u.clk.holdErr = 0 ∧
      u.clk.refChanged = false ∧ u.clk.diverged = false := by
  subst hb
  refine execSlewDone_goes.givesIf rfl (by rw [hst, hs]; exact decide_eq_true he) rfl fun a p q => ?_
  rw [finish_time, noteSets_clk, finish_clk, enterLocked_time hstart, enterLocked_clk]
  exact ⟨rfl, rfl, rfl, rfl, rfl, rfl⟩

theorem refChangeRelock_searches (s b : State) (t : Nat) (hb : b = s.begin t) (hst : b.clk.st = 5) (hc : b.clk.refChanged = true)
    (hw : b.img.hostWait = true) :
    Gives (.refChangeRelock t) s [.ofs, .clk] fun u => u.sysTime = b.sysTime ∧ u.clk.st = 1 ∧ u.clk.refFreq = s.clk.newBand ∧ u.clk.onFallback = true := by
  subst hb
  refine execRefChangeRelock_goes.givesIf rfl (by rw [hst, hc, hw]; rfl) rfl fun a p q => ?_
  rw [finish_time, noteSets_clk, finish_clk]
  exact ⟨searchStart_time (s := (s.begin t).onClk _), rfl, rfl, rfl⟩

/-! ## The mesh as reference (R155, R162, R175) -/

theorem meshReferenceLoss_holds (s b : State) (t : Nat) (hb : b = s.begin t) (hl : b.locked = true) (hm : b.clk.onMesh = true) :
    Gives (.meshReferenceLoss t) s [.ofs, .clk] fun u => u.sysTime = b.sysTime ∧ u.clk.st = 5 ∧ u.clk.slewing = false ∧ u.clk.evt.testBit 13 = true ∧
      u.clk.onHeld = s.clk.refPresent := by
  subst hb
  refine execMeshReferenceLoss_goes.givesIf rfl (and_tt hl hm) rfl fun a p q => ?_
  rw [finish_time, noteSets_clk, finish_clk]
  exact ⟨holdover_time (s := s.begin t), rfl, rfl, holdover_lost (z := s.begin t), rfl⟩

theorem meshReferenceSwitch_switches (s b : State) (t : Nat) (hb : b = s.begin t) (hst : b.clk.st = 4) (hf : b.inForce = true)
    (htm : b.cfg.topo.timeMesh = true) (hm : b.clk.onMesh = false) (ht : b.mesh.timeTaken = true) :
    Gives (.meshReferenceSwitch t) s [.clk] fun u => u.clk = { s.clk with
      onMesh := true
      meshPort := b.masterPort % 4
      meshOnce := true } := by
  subst hb
  refine execMeshReferenceSwitch_goes.givesIf rfl (by rw [hst, hf, htm, hm, ht]; rfl) rfl fun a p q => ?_
  rw [noteSets_clk, finish_clk]
  rfl

/-- Settles O22: each loss and return by its own lemma. -/
theorem referenceLossAndReturn : Obligations.ReferenceLossAndReturn :=
  ⟨referenceLoss_locked, referenceLoss_slewing, referenceLoss_held, referenceLoss_unlocked, lossOfLock_off, lossOfLock_not, lossOfLock_safe,
    referenceReturn_slews, referenceReturn_held, referenceReturn_changed, referenceReturn_diverged, referenceReturn_mesh, slewDone_locks,
    refChangeRelock_searches, meshReferenceLoss_holds, meshReferenceSwitch_switches⟩

end Sys2Proof.Machine

/-! PROOFS. Time loads, OUTPLL, clock outputs, the latched time and the trims (R172 to R174, R176, R178, R180, R182, R185, R186). -/
namespace Sys2Proof.Machine
open State

/-! ## Time loads (R174) -/

section
variable {z : State} {h : RecHdr} {p : Bytes} {time : Nat} {l : TLoad}

/-- A single device takes the load for the first multiple of 2,048 ticks at least 1 us ahead, and sends nothing. -/
theorem loadTake_single (h : z.cfg.mesh.shape = 0) : z.loadTake time = z.onClk fun c => { c with
    load := some { time := time, at_ := (z.sysTime + 12800 + 2047) / 2048 * 2048 } } := by
  have hdiam : z.diam = 0 := if_pos h
  have hsend : ∀ (f : Clk → Clk) (l : List (Nat × Nat)), (z.onClk f).sendSymbols l = z.onClk f := fun _ _ => if_pos h
  simp only [loadTake, hsend, hdiam, h]
  rfl
theorem clkTimeLoad_act (h0 : z.cfg.mesh.shape = 0) : (cmdClkTimeLoad.act h p z).1 = z.loadTake (field p 0 8) := by
  have hothers : z.others = [] := if_pos h0
  simp only [cmdClkTimeLoad, hothers]
theorem clkTimeLoad_frame : Frame 8388748 z (cmdClkTimeLoad.act h p z).1 := by
  simp only [cmdClkTimeLoad]
  split <;> simp

/-- A state but for OFS. -/
def State.withOfs (k : Nat) (z : State) : State := { z with ofs := k }
theorem withOfs_now {k : Nat} : (z.withOfs k).now = z.now := rfl
theorem withOfs_clk {k : Nat} : (z.withOfs k).clk = z.clk := rfl
theorem withOfs_adc {k : Nat} : (z.withOfs k).adc = z.adc := rfl
theorem withOfs_frame {k : Nat} : Frame 2 z (z.withOfs k) := ⟨fun p q => by
  cases p
  case ofs => cases q
  all_goals rfl⟩

/-- System time as a load sets it. -/
def State.timeSet (l : TLoad) (z : State) : State := (z.onClk fun c => { c with load := none }).withOfs ((z.ofs + l.time + 2 ^ 64 - l.at_ % 2 ^ 64) % 2 ^ 64)
theorem timeSet_now : (z.timeSet l).now = z.now := withOfs_now
theorem timeSet_ofs : (z.timeSet l).ofs = (z.ofs + l.time + 2 ^ 64 - l.at_ % 2 ^ 64) % 2 ^ 64 := rfl
theorem timeSet_clk : (z.timeSet l).clk = { z.clk with load := none } := withOfs_clk
theorem timeSet_adc : (z.timeSet l).adc = z.adc := withOfs_adc
theorem timeSet_frame : Frame 130 z (z.timeSet l) := Frame.trans (by simp) (withOfs_frame.widen rfl)
/-- What a load from the mesh does as it acts: the bits of the sieves go on from the new time. -/
theorem loadAct_remote (hl : z.clk.load = some l) (hb : l.bad = 0) (hr : l.remote = true) :
    z.loadAct = (z.timeSet l).onAdc fun b => { b with svs := b.svs.map fun x => { x with bitAt := (z.timeSet l).sysTime } } := by
  simp only [loadAct, hl, hb, hr, ne_eq, not_true_eq_false, if_true, if_false]
  rfl
/-- At the load's instant system time is its TIME. -/
theorem timeSet_time (hs : z.clk.started = true) (hw : z.clk.slewing = false) :
    ((z.timeSet l).sysTime + l.at_) % 2 ^ 64 = (l.time + z.now + z.ofs) % 2 ^ 64 := by
  rw [sysTime_still (by rw [timeSet_clk]; exact hs) (by rw [timeSet_clk]; exact hw), timeSet_now, timeSet_ofs]
  omega
end

theorem clkTimeLoad_taken (s : State) (t time : Nat) (h : RecHdr) (ha : Accepts cmdClkTimeLoad h (le 8 time) (s.begin t)) (h0 : s.cfg.mesh.shape = 0)
    (ht : time < 2 ^ 64) :
    Gives (.clkTimeLoad t h time) s ([.host, .jnl, .clk, .free, .mesh] ++ s.heldParts) fun u =>
      (s.heldParts = [] → u.mesh = s.mesh ∧ u.free = s.free) ∧ u.clk = { s.clk with
        load := some { time := time, at_ := ((s.begin t).sysTime + 12800 + 2047) / 2048 * 2048, sure := false } } := by
  refine ha.gives0 (m := 8388748) rfl rfl (fun v => clkTimeLoad_frame) rfl rfl fun x j u _ hu => ?_
  have hfield : field (le 8 time) 0 8 = time := (field_only 8 time).trans (Nat.mod_eq_of_lt ht)
  rw [clkTimeLoad_act (z := (s.begin t).withHJ x j) h0, hfield, loadTake_single (z := (s.begin t).withHJ x j) h0] at hu
  exact ⟨fun hh => ⟨(hu.own hh).keeps .mesh rfl, (hu.own hh).keeps .free rfl⟩, hu.wide.keeps .clk rfl⟩

theorem timeLoadAct_sets (s b : State) (t : Nat) (l : TLoad) (hb : b = s.begin t) (hl : b.clk.load = some l) (hat : l.at_ ≤ b.sysTime) (hbad : l.bad = 0)
    (hr : l.remote = true) (hs : b.clk.started = true) (hw : b.clk.slewing = false) :
    Gives (.timeLoadAct t) s [.ofs, .clk, .adc] fun u => u.adc = { s.adc with svs := s.adc.svs.map fun x => { x with bitAt := u.sysTime } } ∧
      u.clk = { s.clk with load := none } ∧ u.ofs < 2 ^ 64 ∧ (u.sysTime + l.at_) % 2 ^ 64 = (l.time + b.now + s.ofs) % 2 ^ 64 := by
  subst hb
  refine gives_if (m := 1048706) (f := loadAct) rfl (by rw [hl]; exact decide_eq_true hat) (loadAct_remote hl hbad hr) ?_ rfl fun a p q => ?_
  · exact (timeSet_frame (l := l).widen rfl).trans (by simp)
  · rw [finish_time, noteSets_adc, finish_adc, noteSets_clk, finish_clk, noteSets_ofs, finish_ofs, onAdc_sysTime, onAdc_adc, onAdc_clk, onAdc_ofs,
      timeSet_adc, timeSet_clk, timeSet_ofs]
    exact ⟨rfl, rfl, Nat.mod_lt _ (by decide), timeSet_time hs hw⟩

/-! ## OUTPLL (R176, R178, R180) -/

theorem outpllLocked_runs (s b : State) (t cycles peak : Nat) (hb : b = s.begin t) (hst : b.clk.outSt = 1) (hl : b.locked = true)
    (hn : b.clk.outUse.n ≤ cycles) (hw : peak ≤ b.clk.outUse.w) (hlate : b.clk.outAt + 256 * (384 + cycles) ≤ b.now) :
    Gives (.outpllLocked t cycles peak) s [.clk] fun u => u.clk.outSt = 2 ∧
      u.clk.outs.map (·.run) = s.clk.outs.map fun o => (b.onClk fun c => { c with outSt := 2 }).outMay o := by
  subst hb
  refine execOutpllLocked_goes.givesIf rfl (by rw [hst, hl, inWindow_of hn hw]; exact decide_eq_true hlate) rfl fun a p q => ?_
  rw [noteSets_clk, finish_clk, outsSync_runs]
  exact ⟨rfl, rfl⟩

theorem outpllLossOfLock_stops (s b : State) (t cycles least : Nat) (hb : b = s.begin t) (hst : b.clk.outSt = 2) (hn : b.clk.outUse.lol ≤ cycles)
    (hw : min (4 * b.clk.outUse.w) 1023 < least) :
    Gives (.outpllLossOfLock t cycles least) s [.clk] fun u => u.clk.outSt = 1 ∧ u.clk.evt = setBit s.clk.evt 11 ∧ ∀ o ∈ u.clk.outs, o.run = false := by
  subst hb
  refine execOutpllLossOfLock_goes.givesIf rfl (by rw [hst, outOfWindow_of hn hw]; rfl) rfl fun a p q => ?_
  rw [noteSets_clk, finish_clk]
  exact ⟨rfl, rfl, outsSync_off (show (1 : Nat) ≠ 2 by decide)⟩

section
variable {z : State} {m f : Nat}

theorem pllOk_of (hm : 60 ≤ m) (hm' : m < 80) (hf : f < 1048576) : pllOk m f = true := decide_eq_true (by omega)
theorem outpllRelock_off : ∀ o ∈ z.outpllRelock.clk.outs, o.run = false := by
  refine outsSync_off ?_
  show (if pllOk z.clk.pllM z.clk.pllF && (z.clk.st == 4 || z.clk.st == 5) then 1 else 0) ≠ 2
  split <;> decide
end

theorem clkOutpllCfgWrite_relocks (s b : State) (t : Nat) (ifc : Iface) (v : Word) (hb : b = s.begin t) (hr : Reaches ifc.src 0x040030 4 b)
    (hm : 60 ≤ bits v.toNat 31 24) (hm' : bits v.toNat 31 24 < 80) :
    Gives (.clkOutpllCfgWrite t ifc v) s [.clk, .jnl] fun u => u.clk.pllM = bits v.toNat 31 24 ∧ u.clk.pllF = bits v.toNat 19 0 ∧
      u.clk.outSt = (if s.locked then 1 else 0) ∧ ∀ o ∈ u.clk.outs, o.run = false := by
  subst hb
  refine hr.gives (m := 128) rfl (fun w => by simp) rfl rfl fun j a p q => ?_
  have hok : pllOk (bits v.toNat 31 24) (bits v.toNat 19 0) = true := pllOk_of hm hm' (Nat.mod_lt _ (by decide))
  rw [noteSets_clk, finish_clk, writeOutpll, if_pos hok]
  refine ⟨rfl, rfl, ?_, outpllRelock_off⟩
  rw [outpllRelock_clk, onClk_clk, hok]
  rfl

/-! ## Clock outputs (R178, R182) -/

theorem setOut_fields {n : Nat} {o : OutCfg} {z : State} (h : n < z.clk.outs.length) :
    (at' (z.setOut n o).clk.outs n {}).en = o.en ∧ (at' (z.setOut n o).clk.outs n {}).offZ = o.offZ ∧
    (at' (z.setOut n o).clk.outs n {}).fmt = o.fmt ∧ (at' (z.setOut n o).clk.outs n {}).div = o.div := by
  simp only [setOut, outsSync_getD, onClk_clk]
  rw [at', getD_modAt h]
  exact ⟨rfl, rfl, rfl, rfl⟩

theorem clkOutCfgWrite_sets (s b : State) (t n : Nat) (ifc : Iface) (v : Word) (hb : b = s.begin t) (hr : Reaches ifc.src (0x040040 + 0x10 * n) 4 b)
    (hn : n < s.clk.outs.length) (hd : 8 ≤ bits v.toNat 11 0) (hd' : bits v.toNat 11 0 ≤ 4000) :
    Gives (.clkOutCfgWrite t ifc n v) s [.clk, .jnl] fun u =>
      let o := at' u.clk.outs n {}
      o.en = tbit v.toNat 31 ∧ o.offZ = tbit v.toNat 30 ∧ o.fmt = bits v.toNat 29 28 ∧ o.div = bits v.toNat 11 0 := by
  subst hb
  refine hr.gives (m := 128) rfl (fun w => by simp) rfl rfl fun j a p q => ?_
  have hdiv : 8 ≤ (outOf v).div ∧ (outOf v).div ≤ 4000 := ⟨hd, hd'⟩
  rw [noteSets_clk, finish_clk, writeOutCfg, if_pos hdiv]
  exact setOut_fields (z := (s.begin t).withHJ s.host j) hn

theorem clkOutFstepWrite_targets (s b : State) (t n : Nat) (ifc : Iface) (v : Word) (hb : b = s.begin t)
    (hr : Reaches ifc.src (0x040044 + 0x10 * n) 4 b) :
    Gives (.clkOutFstepWrite t ifc n v) s [.clk, .jnl] fun u => u.clk = { s.clk with
      outs := modAt s.clk.outs n fun o =>
        { o with base := if o.run then b.fnow o else toSigned 16 v.toNat, at_ := b.now, target := toSigned 16 v.toNat } } := by
  subst hb
  refine hr.gives (m := 128) rfl (fun w => by simp) rfl rfl fun j a p q => ?_
  rw [noteSets_clk, finish_clk]
  rfl

/-! ## The latched read of the time (R173) -/

theorem clkTimeLoRead_latches (s b : State) (t : Nat) (ifc : Iface) (hb : b = s.begin t) (hr : Reaches ifc.src 0x040020 4 b) :
    Gives (.clkTimeLoRead t ifc false) s [.clk] fun u => u.clk = { s.clk with hiLatch := some (b.sysTime / 2 ^ 32) } ∧ Out.read (le 4 b.sysTime) ∈ u.out := by
  subst hb
  refine gives_as (m := 132) rfl hr.readable (by simp) rfl fun a p q => ⟨?_, mem_told ?_⟩
  · rw [noteSets_clk, finish_clk]
    rfl
  · exact List.mem_append_right _ (List.mem_singleton.mpr rfl)

/-! ## Trims (R183 to R186) -/

section
variable {z : State} {g k : Nat} {d : Bytes} {v : Int}

/-- What TRIM_SAMPLE does at its instant. -/
def State.trimMove (g : Nat) (z : State) : State :=
  match z.cfg.cal.trims.find? (trimTarget · == g) with
  | none => z
  | some d =>
    let bad := z.dieBad (trimPrimary d)
    if bad && z.dieBad (trimAlternate d) then z.onClk fun c => { c with evt := setBit c.evt 10 }
    else
      let w := 80 * at' z.cfg.cal.trimBase g 0 + trim80 (trimPoints d) (at' z.bal.die (if bad then trimAlternate d else trimPrimary d) 0)
      let whole := w % 80 == 0
      let want := w / 80 + (if whole then 0 else (z.freeWord.toNat % 2 : Nat))
      let y := if whole then z else z.drawn
      let v := at' y.clk.trims g 0
      y.trimPut g (if v < want then v + 1 else if want < v then v - 1 else v)

theorem execTrimSample_eq {t : Nat} :
    execTrimSample t g z = .next (z.runIf t (fun s => decide (g < 8) && s.inForce && s.img.fwSt != 3) (trimMove g)) := rfl
/-- A trim goes to its target at once but for an ADC reference's whose ADC converts. -/
theorem trimPut_idle (h : g < 2 ∨ 6 ≤ g ∨ (at' z.adc.adcs (g - 2) {}).st ≠ 3) : z.trimPut g v = z.onClk fun c => { c with trims := c.trims.set g v } := by
  have hidle : (decide (2 ≤ g ∧ g < 6) && (at' z.adc.adcs (g - 2) {}).st == 3) = false := by
    by_cases hg : 2 ≤ g ∧ g < 6
    · rw [beq_eq_false_iff_ne.mpr (by omega : (at' z.adc.adcs (g - 2) {}).st ≠ 3), Bool.and_false]
    · rw [decide_eq_false hg, Bool.false_and]
  simp only [trimPut, hidle, Bool.false_eq_true, if_false]
theorem trimMove_bad (hf : z.cfg.cal.trims.find? (trimTarget · == g) = some d) (h1 : z.dieBad (trimPrimary d) = true)
    (h2 : z.dieBad (trimAlternate d) = true) : z.trimMove g = z.onClk fun c => { c with evt := setBit c.evt 10 } := by
  simp only [trimMove, hf, h1, h2, Bool.and_self, if_true]
/-- The sensor a table is read at: its primary, or the alternate of a failed one. -/
theorem trimSensor (h : z.dieBad (trimPrimary d) = false ∧ k = trimPrimary d ∨
    z.dieBad (trimPrimary d) = true ∧ z.dieBad (trimAlternate d) = false ∧ k = trimAlternate d) :
    (z.dieBad (trimPrimary d) && z.dieBad (trimAlternate d)) = false ∧ (if z.dieBad (trimPrimary d) then trimAlternate d else trimPrimary d) = k := by
  rcases h with ⟨h1, rfl⟩ | ⟨h1, h2, rfl⟩
  · simp only [h1, Bool.false_and, Bool.false_eq_true, if_false, and_self]
  · simp only [h1, h2, Bool.and_false, if_true, and_self]
/-- Where the table calls for a whole LSB, the trim moves one step toward it. -/
theorem trimMove_steps {w : Int} (hf : z.cfg.cal.trims.find? (trimTarget · == g) = some d)
    (hk : z.dieBad (trimPrimary d) = false ∧ k = trimPrimary d ∨ z.dieBad (trimPrimary d) = true ∧ z.dieBad (trimAlternate d) = false ∧ k = trimAlternate d)
    (hw : trim80 (trimPoints d) (at' z.bal.die k 0) = w) (hwhole : w % 80 = 0) (hidle : g < 2 ∨ 6 ≤ g ∨ (at' z.adc.adcs (g - 2) {}).st ≠ 3) :
    z.trimMove g = z.onClk fun c => { c with trims := c.trims.set g (
      let v := at' z.clk.trims g 0; let want := at' z.cfg.cal.trimBase g 0 + w / 80
      if v < want then v + 1 else if want < v then v - 1 else v) } := by
  obtain ⟨hgood, hsensor⟩ := trimSensor hk
  have hmod : (80 * at' z.cfg.cal.trimBase g 0 + w) % 80 = 0 := by omega
  have hdiv : (80 * at' z.cfg.cal.trimBase g 0 + w) / 80 = at' z.cfg.cal.trimBase g 0 + w / 80 := by omega
  simp only [trimMove, hf, hgood, hsensor, hw, hmod, hdiv, beq_self_eq_true, Bool.false_eq_true, if_false, if_true, Int.add_zero, Nat.cast_zero]
  exact trimPut_idle hidle
end

theorem trimSample_steps (s b : State) (t g : Nat) (d : Bytes) (k : Nat) (hb : b = s.begin t) (hg : g < 8)
    (hf : b.cfg.cal.trims.find? (trimTarget · == g) = some d) (hi : b.inForce = true) (hfw : b.img.fwSt ≠ 3)
    (hk : b.dieBad (trimPrimary d) = false ∧ k = trimPrimary d ∨ b.dieBad (trimPrimary d) = true ∧ b.dieBad (trimAlternate d) = false ∧ k = trimAlternate d)
    (hwhole : trim80 (trimPoints d) (at' b.bal.die k 0) % 80 = 0) (hidle : g < 2 ∨ 6 ≤ g ∨ (at' b.adc.adcs (g - 2) {}).st ≠ 3) :
    Gives (.trimSample t g) s [.free, .clk] fun u => u.free = s.free ∧ u.clk = { s.clk with
      trims := s.clk.trims.set g (
        let v := at' s.clk.trims g 0; let want := at' b.cfg.cal.trimBase g 0 + trim80 (trimPoints d) (at' b.bal.die k 0) / 80
        if v < want then v + 1 else if want < v then v - 1 else v) } := by
  subst hb
  refine execTrimSample_goes.givesIf execTrimSample_eq (by rw [decide_eq_true hg, hi, bne_iff_ne.mpr hfw]; rfl) rfl fun a p q => ?_
  rw [noteSets_free, finish_free, noteSets_clk, finish_clk, trimMove_steps hf hk rfl hwhole hidle]
  exact ⟨rfl, rfl⟩

theorem trimSample_bad (s b : State) (t g : Nat) (d : Bytes) (hb : b = s.begin t) (hg : g < 8) (hf : b.cfg.cal.trims.find? (trimTarget · == g) = some d)
    (hi : b.inForce = true) (hfw : b.img.fwSt ≠ 3) (h1 : b.dieBad (trimPrimary d) = true) (h2 : b.dieBad (trimAlternate d) = true) :
    Gives (.trimSample t g) s [.free, .clk] fun u => u.free = s.free ∧ u.clk = { s.clk with evt := setBit s.clk.evt 10 } := by
  subst hb
  refine execTrimSample_goes.givesIf execTrimSample_eq (by rw [decide_eq_true hg, hi, bne_iff_ne.mpr hfw]; rfl) rfl fun a p q => ?_
  rw [noteSets_free, finish_free, noteSets_clk, finish_clk, trimMove_bad hf h1 h2]
  exact ⟨rfl, rfl⟩

/-- Settles O23: each row by its own lemma. -/
theorem systemTimeAndOutputs : Obligations.SystemTimeAndOutputs :=
  ⟨clkTimeLoad_taken, timeLoadAct_sets, outpllLocked_runs, outpllLossOfLock_stops, clkOutpllCfgWrite_relocks, clkOutCfgWrite_sets,
    clkOutFstepWrite_targets, clkTimeLoRead_latches, trimSample_steps, trimSample_bad⟩

end Sys2Proof.Machine

/-! PROOFS. Frames on lanes and ports are read back by a receiver in step (R201, R236 to R240, R575, R580). -/
namespace Sys2Proof.Machine

/-! ## A frame on one line -/

/-- A frame before the scrambler: a header, data blocks, an end block. -/
def frameBlocks (hdr : Bytes) (ds : List Bytes) (e : Bytes) : List (Bool × Bytes) := (false, hdr) :: ds.map (fun d => (false, d)) ++ [(true, e)]
/-- The same as a receiver has it. -/
def frameHeard (hdr : Bytes) (ds : List Bytes) (e : Bytes) : List (BKind × Bytes) := (.data, hdr) :: ds.map (fun d => (.data, d)) ++ [(.fin, e)]

section
variable {hdr pay e : Bytes} {ds : List Bytes} {pre n : Nat}

/-- A frame sent is heard as it is, its end block by its block type (R240). -/
theorem hear_frameBlocks (hh : hdr.length = 8) (hd : ∀ d ∈ ds, d.length = 8) (he : e.length = 7)
    (hm : NoFalseMarker pre (frameBlocks hdr ds (0xE1 :: e))) : hear pre (shout pre (frameBlocks hdr ds (0xE1 :: e))) = frameHeard hdr ds (0xE1 :: e) := by
  have h8 : ∀ b ∈ frameBlocks hdr ds (0xE1 :: e), b.2.length = 8 := by
    intro b hb
    simp only [frameBlocks, List.mem_append, List.mem_cons, List.mem_map, List.not_mem_nil, or_false] at hb
    rcases hb with (rfl | ⟨d, hmem, rfl⟩) | rfl
    · exact hh
    · exact hd d hmem
    · exact congrArg (· + 1) he
  rw [hear_shout pre _ h8 hm]
  simp only [frameBlocks, frameHeard, List.map_append, List.map_cons, List.map_map, List.map_nil, fin_kind, blkKind_data, Function.comp_def]
/-- A payload of whole blocks, cut into them. -/
theorem slices_length {k : Nat} {d : Bytes} (hd : d ∈ (List.range n).map fun i => slice pay (k * i) k) : d.length = k := by
  obtain ⟨i, -, rfl⟩ := List.mem_map.mp hd
  exact slice_length pay (k * i) k
end

/-! ## Cell frames (R236, R239, R240) -/

/-- The header block of a cell frame (R239). -/
def cellHead (typ c period epoch n : Nat) : Bytes := le 4 period ++ le 2 epoch ++ le 2 (typ * 8192 + c * 64 + n)

section
variable {typ c period epoch n : Nat} {pay r : Bytes}

theorem cellHead_length : (cellHead typ c period epoch n).length = 8 := by simp [cellHead]
/-- The fields of a header: PERIOD, EPOCH and the half-word of TYPE, cell and LEN. -/
theorem cellHead_fields (hp : period < 2 ^ 32) (he : epoch < 2 ^ 16) (ht : typ < 8) (hc : c < 128) (hn : n < 64) :
    field (cellHead typ c period epoch n ++ r) 0 4 = period ∧ field (cellHead typ c period epoch n ++ r) 4 2 = epoch ∧
    field (cellHead typ c period epoch n ++ r) 6 2 = typ * 8192 + c * 64 + n := by
  simp only [cellHead, List.append_assoc, field_skip, field_le, Nat.reduceLeDiff, Nat.reduceSub]
  omega
theorem lenField (hn : n < 64) : (typ * 8192 + c * 64 + n) % 64 = n := by omega
theorem typeField (ht : typ < 8) (hc : c < 128) (hn : n < 64) : bits (typ * 8192 + c * 64 + n) 15 13 = typ := by
  rw [bits, Nat.shiftRight_eq_div_pow]
  omega
theorem cellField (hc : c < 128) (hn : n < 64) : bits (typ * 8192 + c * 64 + n) 12 6 = c := by
  rw [bits, Nat.shiftRight_eq_div_pow]
  omega
/-- The blocks of a cell frame whose payload is whole blocks. -/
theorem cellBlocks_eq (hp : pay.length = 8 * n) : cellBlocks typ c period epoch pay =
    frameBlocks (cellHead typ c period epoch n) ((List.range n).map fun i => slice pay (8 * i) 8) (endBlock (cellHead typ c period epoch n ++ pay)) := by
  have hblocks : (pay.length + 7) / 8 = n := by omega
  have hpad : padTo (8 * n) pay = pay := by rw [padTo, hp, Nat.sub_self, List.replicate_zero, List.append_nil]
  have hfirst : blockAt (cellHead typ c period epoch n ++ pay) 0 = cellHead typ c period epoch n := by
    rw [blockAt, slice_append_left _ _ _ _ (by rw [cellHead_length])]
    simpa only [cellHead_length] using slice_whole (cellHead typ c period epoch n)
  have hnext (i : Nat) : blockAt (cellHead typ c period epoch n ++ pay) (i + 1) = slice pay (8 * i) 8 := by
    rw [blockAt, slice_append_right _ _ _ _ (by rw [cellHead_length]; omega), cellHead_length, Nat.mul_succ, Nat.add_sub_cancel]
  have hhead : le 4 period ++ le 2 epoch ++ le 2 (typ * 8192 + c * 64 + n) = cellHead typ c period epoch n := rfl
  simp only [cellBlocks, hblocks, hpad, hhead, List.range_succ_eq_map, List.map_cons, List.map_map, Function.comp_def, hfirst, hnext, frameBlocks,
    Nat.succ_eq_add_one]
/-- The CRC field of an end block is its body's CRC (R240). -/
theorem endBlock_crc : field (endBlock r) 1 4 = (crc32c r).toNat := by
  have hcrc : (crc32c r).toNat < 2 ^ 32 := (crc32c r).isLt
  have hmark : [0xE1] = le 1 0xE1 := rfl
  rw [endBlock, hmark, List.append_assoc, field_skip _ _ _ _ _ (Nat.le_refl 1), Nat.sub_self, field_le]
  exact Nat.mod_eq_of_lt hcrc
end

/-- A cell frame is heard whole, by its LEN and its CRC. -/
theorem cellFrames_shout {lane pre slot typ c period epoch n : Nat} {pay : Bytes} (ht : typ < 8) (hc : c < 128) (hp : period < 2 ^ 32) (he : epoch < 2 ^ 16)
    (hn : n < 64) (hl : pay.length = 8 * n) (hm : NoFalseMarker pre (cellBlocks typ c period epoch pay)) :
    cellFrames { lane := lane, pre := pre, slot := slot, blocks := shout pre (cellBlocks typ c period epoch pay) } =
      [some (cellHead typ c period epoch n ++ pay)] := by
  rw [cellBlocks_eq hl] at hm ⊢
  obtain ⟨-, -, hword⟩ := cellHead_fields (r := []) hp he ht hc hn
  rw [List.append_nil] at hword
  have hlen : cellLen (cellHead typ c period epoch n) = ((List.range n).map fun i => slice pay (8 * i) 8).length := by
    rw [cellLen, hword, lenField hn, List.length_map, List.length_range]
  have hscan := scan_frame cellLen (fun k => k == .marker || k == .trip) rfl rfl _ _ (endBlock (cellHead typ c period epoch n ++ pay)) hlen
  rw [pieces 8 n pay hl] at hscan
  have hhear := hear_frameBlocks cellHead_length (fun d hd => slices_length hd) (by simp) hm
  rw [cellFrames, laneHear]
  refine (congrArg _ ((congrArg _ hhear).trans hscan)).trans ?_
  simp only [List.map_cons, List.map_nil, Option.bind_some, endBlock_crc, if_true]

theorem cellFrame_readBack (lane pre slot typ c period epoch n : Nat) (pay : Bytes) (ht : typ < 8) (hc : c < 128) (hp : period < 2 ^ 32)
    (he : epoch < 2 ^ 16) (hn : n < 64) (hl : pay.length = 8 * n) (hm : NoFalseMarker pre (cellBlocks typ c period epoch pay)) :
    ∃ b, cellFrames { lane := lane, pre := pre, slot := slot, blocks := shout pre (cellBlocks typ c period epoch pay) } = [some b] ∧ cellType b = typ ∧
      (∀ path, cellHdr path b = { cell := c, path := path, period := period, epoch := epoch }) ∧ cellPay b = pay := by
  obtain ⟨hperiod, hepoch, hword⟩ := cellHead_fields (r := pay) hp he ht hc hn
  refine ⟨_, cellFrames_shout ht hc hp he hn hl hm, ?_, fun path => ?_, ?_⟩
  · rw [cellType, hword, typeField ht hc hn]
  · rw [cellHdr, hword, hperiod, hepoch, cellField hc hn]
  · rw [cellPay, List.drop_left' cellHead_length]

/-! ## Mesh frames over the two lanes of a port (R575, R580) -/

/-- The end port-block of a mesh frame with a CRC field (R580). -/
def meshEnd (crc : Nat) : Bytes := [0xE1] ++ le 4 crc ++ le 3 0 ++ [0xE1] ++ le 7 0

section
variable {h : MHdr} {hdr pay e : Bytes} {ds : List Bytes} {crc n : Nat}

theorem mhdrBytes_length : (mhdrBytes h n).length = 16 := by simp [mhdrBytes]
theorem meshBlocks_eq (hl : pay.length = 16 * n) :
    meshBlocks h pay crc = frameBlocks (mhdrBytes h n) ((List.range n).map fun i => slice pay (16 * i) 16) (meshEnd crc) := by
  have hblocks : pay.length / 16 = n := by omega
  simp only [meshBlocks, hblocks, frameBlocks, meshEnd, List.map_map, Function.comp_def]
theorem evenHalf_frameBlocks : evenHalf (frameBlocks hdr ds e) = frameBlocks (hdr.take 8) (ds.map (·.take 8)) (e.take 8) := by
  simp [evenHalf, frameBlocks]
theorem oddHalf_frameBlocks : oddHalf (frameBlocks hdr ds e) = frameBlocks (hdr.drop 8) (ds.map (·.drop 8)) (e.drop 8) := by
  simp [oddHalf, frameBlocks]
/-- Two lanes that stand at one slot and hear the halves of a frame: the port hears the frame. -/
theorem portHear_halves {x : PortRx} (hs : x.even.slot = x.odd.slot) (heven : laneHear x.even = frameHeard (hdr.take 8) (ds.map (·.take 8)) (e.take 8))
    (hodd : laneHear x.odd = frameHeard (hdr.drop 8) (ds.map (·.drop 8)) (e.drop 8)) : portHear x = frameHeard hdr ds e := by
  simp only [portHear, hs, Nat.max_self, Nat.sub_self, List.drop_zero, heven, hodd, frameHeard, List.map_map, Function.comp_def]
  rw [List.zip_append (by simp)]
  simp [List.zip_map', Function.comp_def]
theorem meshEnd_even : (meshEnd crc).take 8 = 0xE1 :: (le 4 crc ++ le 3 0) := rfl
theorem meshEnd_odd : (meshEnd crc).drop 8 = 0xE1 :: le 7 0 := rfl
theorem meshEnd_crc (hc : crc < 2 ^ 32) : field (meshEnd crc) 1 4 = crc := by
  have hmark : [0xE1] = le 1 0xE1 := rfl
  simp only [meshEnd, hmark, List.append_assoc]
  rw [field_skip _ _ _ _ _ (Nat.le_refl 1), Nat.sub_self, field_le]
  exact Nat.mod_eq_of_lt hc
end

/-- The lanes of a port hear the halves of a mesh frame. -/
theorem hear_meshHalves {pe po : Nat} {h : MHdr} {ds : List Bytes} {crc n : Nat} (hd : ∀ d ∈ ds, d.length = 16)
    (hme : NoFalseMarker pe (evenHalf (frameBlocks (mhdrBytes h n) ds (meshEnd crc))))
    (hmo : NoFalseMarker po (oddHalf (frameBlocks (mhdrBytes h n) ds (meshEnd crc)))) :
    hear pe (shout pe (evenHalf (frameBlocks (mhdrBytes h n) ds (meshEnd crc)))) =
      frameHeard ((mhdrBytes h n).take 8) (ds.map (·.take 8)) ((meshEnd crc).take 8) ∧
    hear po (shout po (oddHalf (frameBlocks (mhdrBytes h n) ds (meshEnd crc)))) =
      frameHeard ((mhdrBytes h n).drop 8) (ds.map (·.drop 8)) ((meshEnd crc).drop 8) := by
  rw [evenHalf_frameBlocks, meshEnd_even] at hme ⊢
  rw [oddHalf_frameBlocks, meshEnd_odd] at hmo ⊢
  refine ⟨hear_frameBlocks ?_ (fun d hmem => ?_) (by simp) hme, hear_frameBlocks ?_ (fun d hmem => ?_) (by simp) hmo⟩
  · rw [List.length_take, mhdrBytes_length]; rfl
  · obtain ⟨b, hb, rfl⟩ := List.mem_map.mp hmem
    rw [List.length_take, hd b hb]; rfl
  · rw [List.length_drop, mhdrBytes_length]
  · obtain ⟨b, hb, rfl⟩ := List.mem_map.mp hmem
    rw [List.length_drop, hd b hb]

/-- A port that hears a frame whole reads its header, its payload and its CRC field. -/
theorem meshFrames_whole {x : PortRx} {h : MHdr} {pay : Bytes} {crc n : Nat} (hf : HeaderInFields h) (hn : n < 2 ^ 16) (hl : pay.length = 16 * n)
    (hc : crc < 2 ^ 32) (hx : portHear x = frameHeard (mhdrBytes h n) ((List.range n).map fun i => slice pay (16 * i) 16) (meshEnd crc)) :
    meshFrames x = [(h, pay, crc)] := by
  obtain ⟨hread, hlen⟩ := mhdr_read h n [] hf hn
  rw [List.append_nil] at hread hlen
  have hscan := scan_frame (fun h => field h 4 2) (fun k => k == .marker || k == .trip || k == .global) rfl rfl (mhdrBytes h n)
    ((List.range n).map fun i => slice pay (16 * i) 16) (meshEnd crc) (by rw [hlen, List.length_map, List.length_range])
  rw [pieces 16 n pay hl] at hscan
  refine (congrArg _ ((congrArg _ hx).trans hscan)).trans ?_
  simp only [List.filterMap_cons, List.filterMap_nil, Option.map_some, List.take_left' mhdrBytes_length, List.drop_left' mhdrBytes_length, hread, meshEnd_crc hc]

theorem meshFrame_readBack (port even odd pe po slot crc n : Nat) (h : MHdr) (pay : Bytes) (hf : HeaderInFields h) (hn : n < 2 ^ 16)
    (hl : pay.length = 16 * n) (hc : crc < 2 ^ 32) (hme : NoFalseMarker pe (evenHalf (meshBlocks h pay crc)))
    (hmo : NoFalseMarker po (oddHalf (meshBlocks h pay crc))) :
    meshFrames { port := port, even := { lane := even, pre := pe, slot := slot, blocks := shout pe (evenHalf (meshBlocks h pay crc)) },
                 odd := { lane := odd, pre := po, slot := slot, blocks := shout po (oddHalf (meshBlocks h pay crc)) } } = [(h, pay, crc)] := by
  rw [meshBlocks_eq hl] at hme hmo ⊢
  obtain ⟨heven, hodd⟩ := hear_meshHalves (fun d hd => slices_length hd) hme hmo
  exact meshFrames_whole hf hn hl hc (portHear_halves rfl heven hodd)

/-- Settles O47: a frame sent is heard block by block, and its fields are read as they were written. -/
theorem linesAreReadBack : Obligations.LinesAreReadBack := ⟨cellFrame_readBack, meshFrame_readBack⟩

end Sys2Proof.Machine

/-! PROOFS. Lane receivers: bring-up, attempts, markers, losses and the returns to clock recovery (R204 to R212, R228, R235). -/
namespace Sys2Proof.Machine
open State

/-! ## What a row of the lanes gives -/

section
variable {c : Instr} {s : State} {t : Nat} {w : LaneB} {f : State → State} {cond : State → Bool}

/-- A row that touches LANE alone, where its condition holds. -/
theorem Goes.givesLane (h : Goes 2053 s (exec c s)) (e : exec c s = .next (s.runIf t cond f)) (hc : cond (s.begin t) = true)
    (hw : (f (s.begin t)).lane = w) : Gives c s [.lane] fun u => u.lane = w :=
  h.givesIf e hc rfl fun a p q => by rw [noteSets_lane, finish_lane, hw]
/-- The same for a row that may change LANE_SEAM_PATH, which sends vector 42 (R213). -/
theorem Goes.givesLaneStep (h : Goes 2053 s (exec c s)) (e : exec c s = .next (s.runIf t cond (laneStep f))) (hc : cond (s.begin t) = true)
    (hw : (f (s.begin t)).lane = w) : Gives c s [.lane] fun u => u.lane = w :=
  h.givesLane e hc (laneStep_lane.trans hw)
end

section
variable {z : State} {l : Nat} {f g : LaneS → LaneS}

/-- Two changes of a lane's entry that agree on it are the same. -/
theorem onLane1_congr (h : f (z.ln l) = g (z.ln l)) : (z.onLane1 l f).lane = (z.onLane1 l g).lane := by
  rw [onLane1_lane, onLane1_lane, modAt_congr ({} : LaneS) h]
/-- A change that leaves the lane's entry as it is. -/
theorem onLane1_id (h : f (z.ln l) = z.ln l) : (z.onLane1 l f).lane = z.lane :=
  congrArg (fun y => { z.lane with lanes := y }) (modAt_id ({} : LaneS) h)
theorem onLane1_onLane1 : (z.onLane1 l f).onLane1 l g = z.onLane1 l fun x => g (f x) :=
  congrArg (fun y => z.onLane fun b => { b with lanes := y }) modAt_modAt
theorem onLane1_sentAt {q n : Nat} {a : Bool} : (z.onLane1 l f).sentAt q a n = z.sentAt q a n := rfl
theorem onLane1_originOk {m n : Nat} : (z.onLane1 l f).originOk l m n = z.originOk l m n := rfl
end

/-! ## Attempts (R208) -/

theorem cdrLock_locks (s b : State) (t l : Nat) (hb : b = s.begin t) (hrx : (b.ln l).rx = 3) (hgap : (b.ln l).gap = false) :
    Gives (.cdrLock t l) s [.lane] fun u => u.lane = (b.onLane1 l fun x => { x with rx := 4, lastCnt := none }).lane := by
  subst hb
  exact execCdrLock_goes.givesLane rfl (by rw [hrx, hgap]; rfl) rfl

theorem attemptTimeout_waits (s b : State) (t l : Nat) (signal cdr : Bool) (hb : b = s.begin t) (hrx : (b.ln l).rx = 3) (hgap : (b.ln l).gap = false)
    (hlate : (b.ln l).attemptAt + 64000000 ≤ b.now) :
    Gives (.attemptTimeout t l signal cdr) s [.lane] fun u => u.lane = (b.onLane1 l fun x =>
      { x with
        retry := sat32 x.retry 1
        gap := true
        attemptAt := b.now
        evt := let e := if signal then x.evt else setBit x.evt 15; if cdr then setBit e 9 else e }).lane := by
  subst hb
  exact execAttemptTimeout_goes.givesLane rfl (by rw [hrx, hgap, waitOver (k := 5 * Config.ms) hlate rfl]; rfl) rfl

theorem retryGapEnd_begins (s b : State) (t l : Nat) (hb : b = s.begin t) (hrx : (b.ln l).rx = 3) (hgap : (b.ln l).gap = true)
    (hlate : (b.ln l).attemptAt + 128000000 ≤ b.now) :
    Gives (.retryGapEnd t l) s [.lane] fun u => u.lane = (b.onLane1 l (toCdr b.now)).lane := by
  subst hb
  exact execRetryGapEnd_goes.givesLane rfl (by rw [hrx, hgap, waitOver (k := 10 * Config.ms) hlate rfl]; rfl) rfl

/-! ## Markers (R204, R208, R212) -/

/-- What every accepted marker leaves of its bytes and its time (R204). -/
def markerSeen (now time : Nat) (m : Bytes) (x : LaneS) : LaneS :=
  { x with m1 := field m 1 1, m2 := field m 2 1, m3 := field m 3 1, lastMrk := now, mrkTime := time }
/-- What one of the expected origin leaves besides: its count is the last, and in BLOCK MISWIRED is cleared (R204, R208). -/
def markerTaken (now time : Nat) (m : Bytes) (x : LaneS) : LaneS :=
  { markerSeen now time m x with lastCnt := some (field m 3 1), miswired := if x.rx = 4 then false else x.miswired }
/-- A marker follows in order on the last one accepted, one marker period later (R208). -/
def inOrder (x : LaneS) (slot : Nat) (m : Bytes) : Bool :=
  match x.lastCnt with | some c => (c + 1) % 256 == field m 3 1 && slot == 16384 | none => false

section
variable {z : State} {x : LaneRx} {l slot c d n : Nat} {m w : Bytes}

/-- A stretch that brings one block. -/
theorem markersIn_marker (hl : x.lane < 40) (hh : z.laneHears x.lane = true) (hx : laneHear x = [(.marker, m)]) :
    z.markersIn x = z.marker x.lane x.slot m := by
  have hon : ¬(40 ≤ x.lane ∨ (!z.laneHears x.lane) = true) := by simp [hh, hl]
  rw [markersIn, if_neg hon, hx]
  rfl
theorem markersIn_other (hl : x.lane < 40) (hh : z.laneHears x.lane = true) (hx : laneHear x = [(.other, w)]) :
    z.markersIn x = z.onLane1 x.lane fun y => { y with mrkErr := sat32 y.mrkErr 1 } := by
  have hon : ¬(40 ≤ x.lane ∨ (!z.laneHears x.lane) = true) := by simp [hh, hl]
  rw [markersIn, if_neg hon, hx]
  rfl

/-- A marker of an origin not expected: MISWIRED, back to BLOCK. -/
theorem marker_miswired (ho : z.originOk l (field m 1 1) (field m 2 1) = false) : (z.marker l slot m).lane =
    (z.onLane1 l fun x => { markerSeen z.now z.sysTime m x with rx := 4, miswired := true, evt := setBit x.evt 11, lastCnt := none }).lane := by
  have hwrong : (!(z.onLane1 l (markerSeen z.now z.sysTime m)).originOk l (field m 1 1) (field m 2 1)) = true := by rw [onLane1_originOk, ho]; rfl
  refine (congrArg State.lane (if_pos hwrong)).trans ?_
  rw [onLane1_onLane1]
  rfl

theorem delayTake_none (h : z.sentAt (l / 2) (rxPathA l) n = none) : z.delayTake l n = z := by
  unfold delayTake
  rw [h]
  split <;> rfl
theorem delayTake_some (hl : l < 32) (h : z.sentAt (l / 2) (rxPathA l) n = some d) : (z.delayTake l n).lane = { z.lane with
    dly := modAt z.lane.dly (l / 2) fun p => if l % 2 = 1 then ((z.sysTime + 2 ^ 64 - d) % 2 ^ 64, p.2) else (p.1, (z.sysTime + 2 ^ 64 - d) % 2 ^ 64) } := by
  unfold delayTake
  rw [if_neg (Nat.not_le.mpr hl), h]
  simp only [rxPathA, beq_iff_eq, onLane_lane]

/-- A marker of the expected origin, by the receiver's state. -/
theorem marker_expected (ho : z.originOk l (field m 1 1) (field m 2 1) = true) : z.marker l slot m =
    if (decide ((z.ln l).rx = 4) && inOrder (z.ln l) slot m) = true then
      (z.onLane1 l fun x => { markerTaken z.now z.sysTime m x with rx := 5, retry := 0, evt := setBit x.evt 10 }).delayTake l (field m 3 1)
    else if (z.ln l).rx = 5 then (z.onLane1 l (markerTaken z.now z.sysTime m)).delayTake l (field m 3 1)
    else z.onLane1 l (markerTaken z.now z.sysTime m) := by
  have hright : ¬(!(z.onLane1 l (markerSeen z.now z.sysTime m)).originOk l (field m 1 1) (field m 2 1)) = true := by rw [onLane1_originOk, ho]; decide
  refine (if_neg hright).trans ?_
  simp only [onLane1_onLane1]
  rfl
theorem inOrder_of {y : LaneS} (hc : y.lastCnt = some c) (hn : field m 3 1 = (c + 1) % 256) : inOrder y 16384 m = true := by
  rw [inOrder, hc]
  exact and_tt (beq_iff_eq.mpr hn.symm) rfl
/-- The origin that a seam lane's receiver expects. -/
theorem originOk_seam (hl : l < 32) (h1 : field m 1 1 = l ^^^ 1) (h2 : field m 2 1 = z.node) : z.originOk l (field m 1 1) (field m 2 1) = true := by
  rw [originOk, if_pos hl, h1, h2, beq_self_eq_true, beq_self_eq_true]
  rfl
end

theorem markerReceived_up (s b : State) (t c : Nat) (x : LaneRx) (m : Bytes) (hb : b = s.begin t) (hl : x.lane < 32) (hx : laneHear x = [(.marker, m)])
    (hslot : x.slot = 16384) (hh : b.laneHears x.lane = true) (hrx : (b.ln x.lane).rx = 4) (hc : (b.ln x.lane).lastCnt = some c)
    (h1 : field m 1 1 = x.lane ^^^ 1) (h2 : field m 2 1 = b.node) (h3 : field m 3 1 = (c + 1) % 256)
    (hsent : b.sentAt (x.lane / 2) (rxPathA x.lane) ((c + 1) % 256) = none) :
    Gives (.markerReceived t x) s [.lane] fun u => u.lane = (b.onLane1 x.lane fun y =>
      { y with
        rx := 5
        retry := 0
        evt := setBit y.evt 10
        m1 := x.lane ^^^ 1
        m2 := b.node
        m3 := (c + 1) % 256
        lastCnt := some ((c + 1) % 256)
        lastMrk := b.now
        mrkTime := b.sysTime
        miswired := false }).lane := by
  subst hb
  refine execMarkerReceived_goes.givesRun rfl rfl fun a p q => ?_
  rw [noteSets_lane, finish_lane, laneStep_lane, markersIn_marker (by omega) hh hx, hslot, marker_expected (originOk_seam hl h1 h2),
    if_pos (and_tt (decide_eq_true hrx) (inOrder_of hc h3)), delayTake_none (by rw [onLane1_sentAt, h3]; exact hsent)]
  refine onLane1_congr ?_
  simp only [markerTaken, markerSeen, hrx, h1, h2, h3, if_true]

theorem markerReceived_delay (s b : State) (t d : Nat) (x : LaneRx) (m : Bytes) (hb : b = s.begin t) (hl : x.lane < 32) (hx : laneHear x = [(.marker, m)])
    (hh : b.laneHears x.lane = true) (hrx : (b.ln x.lane).rx = 5) (h1 : field m 1 1 = x.lane ^^^ 1) (h2 : field m 2 1 = b.node)
    (hsent : b.sentAt (x.lane / 2) (rxPathA x.lane) (field m 3 1) = some d) :
    Gives (.markerReceived t x) s [.lane] fun u => u.lane = { (b.onLane1 x.lane fun y =>
      { y with m1 := x.lane ^^^ 1, m2 := b.node, m3 := field m 3 1, lastCnt := some (field m 3 1), lastMrk := b.now, mrkTime := b.sysTime }).lane with
      dly := modAt b.lane.dly (x.lane / 2) fun p =>
        if x.lane % 2 = 1 then ((b.sysTime + 2 ^ 64 - d) % 2 ^ 64, p.2) else (p.1, (b.sysTime + 2 ^ 64 - d) % 2 ^ 64) } := by
  subst hb
  refine execMarkerReceived_goes.givesRun rfl rfl fun a p q => ?_
  rw [noteSets_lane, finish_lane, laneStep_lane, markersIn_marker (by omega) hh hx, marker_expected (originOk_seam hl h1 h2),
    if_neg (by rw [hrx]; exact Bool.false_ne_true), if_pos hrx, delayTake_some hl (by rw [onLane1_sentAt]; exact hsent)]
  refine congrArg (fun y => LaneB.mk y _ _) (congrArg LaneB.lanes (onLane1_congr ?_))
  simp only [markerTaken, markerSeen, hrx, h1, h2, Nat.reduceEqDiff, if_false]

theorem markerReceived_miswired (s b : State) (t : Nat) (x : LaneRx) (m : Bytes) (hb : b = s.begin t) (hl : x.lane < 40)
    (hx : laneHear x = [(.marker, m)]) (hh : b.laneHears x.lane = true) (ho : b.originOk x.lane (field m 1 1) (field m 2 1) = false) :
    Gives (.markerReceived t x) s [.lane] fun u => u.lane = (b.onLane1 x.lane fun y =>
      { y with
        rx := 4
        miswired := true
        evt := setBit y.evt 11
        m1 := field m 1 1
        m2 := field m 2 1
        m3 := field m 3 1
        lastCnt := none
        lastMrk := b.now
        mrkTime := b.sysTime }).lane := by
  subst hb
  refine execMarkerReceived_goes.givesRun rfl rfl fun a p q => ?_
  rw [noteSets_lane, finish_lane, laneStep_lane, markersIn_marker hl hh hx, marker_miswired ho]
  rfl

theorem markerReceived_rejects (s b : State) (t : Nat) (x : LaneRx) (w : Bytes) (hb : b = s.begin t) (hl : x.lane < 40) (hx : laneHear x = [(.other, w)])
    (hh : b.laneHears x.lane = true) :
    Gives (.markerReceived t x) s [.lane] fun u => u.lane = (b.onLane1 x.lane fun y => { y with mrkErr := sat32 y.mrkErr 1 }).lane := by
  subst hb
  refine execMarkerReceived_goes.givesRun rfl rfl fun a p q => ?_
  rw [noteSets_lane, finish_lane, laneStep_lane, markersIn_other hl hh hx]

/-! ## Losses (R208, R209, R225, R228, R235) -/

theorem markerLost_falls (s b : State) (t l : Nat) (hb : b = s.begin t) (hrx : (b.ln l).rx = 5)
    (hlate : 31 * mrkTicks (b.ln l).rate ≤ 8 * (b.now - (b.ln l).lastMrk)) :
    Gives (.markerLost t l) s [.lane] fun u => u.lane = (b.onLane1 l fun x => { x with rx := 4, lastCnt := none, evt := setBit x.evt 13 }).lane := by
  subst hb
  exact execMarkerLost_goes.givesLaneStep rfl (and_tt (beq_iff_eq.mpr hrx) (decide_eq_true hlate)) rfl

theorem blockLost_restarts (s b : State) (t l : Nat) (hb : b = s.begin t) (hh : b.laneHears l = true) :
    Gives (.blockLost t l) s [.lane] fun u => u.lane = (b.onLane1 l fun x => { toCdr b.now x with evt := setBit x.evt 14, ber := sat32 x.ber 16 }).lane := by
  subst hb
  exact execBlockLost_goes.givesLaneStep rfl hh rfl

/-- A receiver that looks at its partner's signal. -/
theorem signalSeen {z : State} {l : Nat} (hrx : (z.ln l).rx = 3 ∨ (z.ln l).rx = 4 ∨ (z.ln l).rx = 5) (hn : nearEnd (z.ln l) = false) :
    ([3, 4, 5].contains (z.ln l).rx && !nearEnd (z.ln l)) = true := by
  refine and_tt ?_ (by rw [hn]; rfl)
  rcases hrx with h | h | h <;> rw [h] <;> rfl

theorem signalLoss_unnoticed (s b : State) (t l : Nat) (hb : b = s.begin t) (hrx : (b.ln l).rx = 3 ∨ (b.ln l).rx = 4 ∨ (b.ln l).rx = 5)
    (hn : nearEnd (b.ln l) = false) (hnone : (b.ln l).noticeAt = none) :
    Gives (.signalLoss t l) s [.lane] fun u => u.lane = (b.onLane1 l fun x =>
      { toCdr b.now x with partnerSleep := false, evt := setBit x.evt 15, farHeld := false }).lane := by
  subst hb
  refine execSignalLoss_goes.givesLaneStep rfl (signalSeen hrx hn) (onLane1_congr ?_)
  simp only [hnone, Bool.false_eq_true, if_false]

theorem signalLoss_noticed (s b : State) (t l n : Nat) (hb : b = s.begin t) (hrx : (b.ln l).rx = 3 ∨ (b.ln l).rx = 4 ∨ (b.ln l).rx = 5)
    (hn : nearEnd (b.ln l) = false) (hat : (b.ln l).noticeAt = some n) (hsoon : b.now ≤ n + 12800) :
    Gives (.signalLoss t l) s [.lane] fun u => u.lane = (b.onLane1 l fun x => { toCdr b.now x with partnerSleep := true, farHeld := false }).lane := by
  subst hb
  have hin : (s.begin t).now ≤ n + Config.us := hsoon
  refine execSignalLoss_goes.givesLaneStep rfl (signalSeen hrx hn) (onLane1_congr ?_)
  simp only [hat, hin, decide_true, if_true]
  rfl

theorem signalLoss_nearEnd (s b : State) (t l : Nat) (hb : b = s.begin t) (hn : nearEnd (b.ln l) = true) :
    Gives (.signalLoss t l) s [] fun _ => True := by
  subst hb
  exact gives_stays rfl (by rw [hn]; exact Bool.and_false _)

theorem hiBer_counts (s b : State) (t l bad : Nat) (hb : b = s.begin t) (hrx : (b.ln l).rx = 4 ∨ (b.ln l).rx = 5) :
    Gives (.hiBer t l bad) s [.lane] fun u => u.lane = (b.onLane1 l fun x =>
      { x with ber := sat32 x.ber bad, hiBer := decide (16 ≤ bad), evt := if 16 ≤ bad ∧ x.hiBer = false then setBit x.evt 12 else x.evt }).lane := by
  subst hb
  refine execHiBer_goes.givesLane rfl ((Bool.or_eq_true _ _).mpr (hrx.imp beq_iff_eq.mpr beq_iff_eq.mpr)) (onLane1_congr ?_)
  simp only [Bool.not_eq_true']

theorem retrainAdaptationDone_restarts (s b : State) (t l : Nat) (hb : b = s.begin t) (hrx : (b.ln l).rx = 6) :
    Gives (.retrainAdaptationDone t l) s [.lane] fun u => u.lane = (b.onLane1 l (toCdr b.now)).lane := by
  subst hb
  exact execRetrainAdaptationDone_goes.givesLane rfl (beq_iff_eq.mpr hrx) rfl

/-- Settles O24: each row by its own lemma. -/
theorem laneBringUp : Obligations.LaneBringUp :=
  ⟨cdrLock_locks, attemptTimeout_waits, retryGapEnd_begins, markerReceived_up, markerReceived_delay, markerReceived_miswired, markerReceived_rejects,
    markerLost_falls, blockLost_restarts, signalLoss_unnoticed, signalLoss_noticed, signalLoss_nearEnd, hiBer_counts, retrainAdaptationDone_restarts⟩

end Sys2Proof.Machine

/-! PROOFS. Lane transmitters, markers sent, sleep and wake, lane commands received (R203 to R208, R220, R221, R225, R226, R228). -/
namespace Sys2Proof.Machine
open State

/-! ## Retrain, wake and sleep (R225, R226, R228) -/

theorem txRetrainDone_applies (s b : State) (t l : Nat) (hb : b = s.begin t) (hre : (b.ln l).txRetrain = true) :
    Gives (.txRetrainDone t l) s [.lane] fun u => u.lane = (b.onLane1 l fun x => { x with txRetrain := false, emphOn := x.emph, swingOn := x.swing }).lane := by
  subst hb
  exact execTxRetrainDone_goes.givesLane rfl hre rfl

theorem rxWakeDone_begins (s b : State) (t l : Nat) (hb : b = s.begin t) (hrx : (b.ln l).rx = 2) (hlate : (b.ln l).rxAt + 256000 ≤ b.now) :
    Gives (.rxWakeDone t l) s [.lane] fun u => u.lane = (b.onLane1 l (toCdr b.now)).lane := by
  subst hb
  exact execRxWakeDone_goes.givesLane rfl (and_tt (beq_iff_eq.mpr hrx) (waitOver (k := 20 * Config.us) hlate rfl)) rfl

section
variable {z : State} {l d : Nat} {x : LaneS}

theorem laneCmd_lane : (z.laneCmd l d).lane = z.lane := (by simp : Frame 4 z (z.laneCmd l d)).keeps .lane rfl
theorem laneCmd_sends (h : (z.ln l).tx = 3) : Out.lane l (List.replicate 8 (true, cmdBytes d 0)) ∈ (z.laneCmd l d).out := by
  rw [laneCmd, if_pos h, emit_out]
  exact List.mem_append_right _ List.mem_cons_self
theorem farLoop_of (h : x.test = 3 ∨ x.test = 4 ∧ x.loop = 3) : farLoop x = true := by
  rcases h with h | ⟨h, hl⟩
  · rw [farLoop, h]; rfl
  · rw [farLoop, h, hl]; rfl

/-- A transmitter that is awake: on with its settings, and a far-end loop asked for again (R226). -/
def txAwake (l : Nat) (z : State) : State :=
  let s := z.onLane1 l fun x => { x with tx := 3, emphOn := x.emph, swingOn := x.swing }
  if farLoop (s.ln l) then s.laneCmd l 1 else s
theorem txAwake_lane : (txAwake l z).lane = (z.onLane1 l fun x => { x with tx := 3, emphOn := x.emph, swingOn := x.swing }).lane := by
  rw [txAwake]
  split
  · exact laneCmd_lane
  · rfl
theorem txAwake_asks (hl : l < z.lane.lanes.length) (h : (z.ln l).test = 3 ∨ (z.ln l).test = 4 ∧ (z.ln l).loop = 3) :
    Out.lane l (List.replicate 8 (true, cmdBytes 1 0)) ∈ (txAwake l z).out := by
  rw [txAwake, if_pos (by rw [ln_onLane1 hl]; exact farLoop_of h)]
  exact laneCmd_sends (by rw [ln_onLane1 hl])
end

theorem txWakeDone_runs (s b : State) (t l : Nat) (hb : b = s.begin t) (hl : l < b.lane.lanes.length) (htx : (b.ln l).tx = 2) :
    Gives (.txWakeDone t l) s [.lane] fun u => u.lane = (b.onLane1 l fun x => { x with tx := 3, emphOn := x.emph, swingOn := x.swing }).lane ∧
      ((b.ln l).test = 3 ∨ (b.ln l).test = 4 ∧ (b.ln l).loop = 3 → Out.lane l (List.replicate 8 (true, cmdBytes 1 0)) ∈ u.out) := by
  subst hb
  refine execTxWakeDone_goes.givesIf (f := laneStep (txAwake l)) rfl (beq_iff_eq.mpr htx) rfl fun a p q => ⟨?_, fun hfar => ?_⟩
  · rw [noteSets_lane, finish_lane, laneStep_lane, txAwake_lane]
  · exact mem_told (mem_laneStep (txAwake_asks hl hfar))

theorem txSleepDone_sleeps (s b : State) (t l : Nat) (hb : b = s.begin t) (htx : (b.ln l).tx = 3) (hs : (b.ln l).txSleeping = true)
    (hlate : (b.ln l).txAt + blockTicks (b.ln l).rate 32 ≤ b.now) :
    Gives (.txSleepDone t l) s [.lane] fun u => u.lane = (b.onLane1 l fun x => { x with tx := 1, txSleeping := false }).lane := by
  subst hb
  exact execTxSleepDone_goes.givesLaneStep rfl (and_tt (and_tt hs (beq_iff_eq.mpr htx)) (decide_eq_true hlate)) rfl

/-! ## Markers sent (R203, R205) -/

/-- The markers of a quad leave: the count goes on, the send time is kept. -/
def State.markersGo (q : Nat) (z : State) : State :=
  (z.onLane fun b => { b with mrk := modAt b.mrk q fun m =>
    { cnt := ((z.mrk q).cnt + 1) % 256, base := some (m.base.getD z.now), groups := (z.mrkDue q).getD 0, sent := (z.sysTime :: m.sent).take 256 } }).emits
    ((z.mrkLanes q).map fun l => .lane l [(true, markerBytes l z.node (z.mrk q).cnt)])

section
variable {z : State} {q k i : Nat}

theorem markersGo_sends (hi : i < 4) (h : z.laneSends (4 * q + i) = true) :
    Out.lane (4 * q + i) [(true, markerBytes (4 * q + i) z.node (z.mrk q).cnt)] ∈ (z.markersGo q).out := by
  have hlane : 4 * q + i ∈ z.mrkLanes q := List.mem_filter.mpr ⟨List.mem_map_of_mem (List.mem_range.mpr hi), h⟩
  rw [markersGo, emits_out]
  exact List.mem_append_right _ (List.mem_map_of_mem (f := fun l => Out.lane l [(true, markerBytes l z.node (z.mrk q).cnt)]) hlane)
theorem markersGo_lane (hk : z.mrkDue q = some k) : (z.markersGo q).lane = { z.lane with mrk := modAt z.lane.mrk q fun m =>
    { cnt := ((z.mrk q).cnt + 1) % 256, base := some (m.base.getD z.now), groups := k, sent := (z.sysTime :: m.sent).take 256 } } := by
  rw [markersGo, emits_lane, onLane_lane, hk]
  rfl
/-- The markers of a quad with a transmitter that sends are due. -/
theorem markersDue (hq : q < 10) (hl : z.mrkLanes q ≠ []) (hk : z.mrkDue q = some k) :
    (decide (q < 10) && !(z.mrkLanes q).isEmpty && (z.mrkDue q).isSome) = true := by
  rw [decide_eq_true hq, List.isEmpty_eq_false_iff.mpr hl, hk]
  rfl
theorem execMarkerSend_eq {t : Nat} : execMarkerSend t q z =
    .next (z.runIf t (fun s => decide (q < 10) && !(s.mrkLanes q).isEmpty && (s.mrkDue q).isSome) fun s =>
      if q < 8 then s.markersGo q else each (([2 * (q - 8), 2 * (q - 8) + 1]).filter (s.markersGo q).nearer) timeFrame (s.markersGo q)) := rfl
end

theorem markerSend_seam (s b : State) (t q k : Nat) (hb : b = s.begin t) (hq : q < 8) (hl : b.mrkLanes q ≠ []) (hk : b.mrkDue q = some k) :
    Gives (.markerSend t q) s [.lane] fun u =>
      (∀ i < 4, b.laneSends (4 * q + i) = true → Out.lane (4 * q + i) [(true, markerBytes (4 * q + i) b.node (b.mrk q).cnt)] ∈ u.out) ∧
      u.lane = { b.lane with mrk := modAt b.lane.mrk q fun m =>
        { cnt := ((b.mrk q).cnt + 1) % 256, base := some (m.base.getD b.now), groups := k, sent := (b.sysTime :: m.sent).take 256 } } := by
  subst hb
  refine gives_if (m := 2052) execMarkerSend_eq (markersDue (by omega) hl hk) (if_pos hq) (by simp [markersGo]) rfl fun a p r => ⟨fun i hi hs => ?_, ?_⟩
  · exact mem_told (markersGo_sends hi hs)
  · rw [noteSets_lane, finish_lane, markersGo_lane hk]

theorem markerSend_port (s b : State) (t q k : Nat) (hb : b = s.begin t) (hq : q = 8 ∨ q = 9) (hl : b.mrkLanes q ≠ []) (hk : b.mrkDue q = some k) :
    Gives (.markerSend t q) s [.lane, .mesh, .free] fun u =>
      (∀ i < 4, b.laneSends (4 * q + i) = true → Out.lane (4 * q + i) [(true, markerBytes (4 * q + i) b.node (b.mrk q).cnt)] ∈ u.out) ∧
      u.lane = { b.lane with mrk := modAt b.lane.mrk q fun m =>
        { cnt := ((b.mrk q).cnt + 1) % 256, base := some (m.base.getD b.now), groups := k, sent := (b.sysTime :: m.sent).take 256 } } := by
  subst hb
  have h8 : ¬q < 8 := by omega
  refine execMarkerSend_goes.givesIf execMarkerSend_eq (markersDue (by omega) hl hk) rfl fun a p r => ?_
  rw [if_neg h8]
  refine ⟨fun i hi hs => mem_told (each_sent (markersGo_sends hi hs) fun _ _ => mem_timeFrame), ?_⟩
  rw [noteSets_lane, finish_lane]
  exact each_keeps (fun y => y.lane = _) _ _ _ (markersGo_lane hk) fun _ _ _ hy => timeFrame_lane.trans hy

/-! ## Lane commands received (R207, R220, R225) -/

theorem farLoopOn_holds (s b : State) (t : Nat) (x : LaneRx) (hb : b = s.begin t) (hh : b.cmdHeard 1 x = true) :
    Gives (.farLoopOn t x) s [.lane] fun u => u.lane = (b.onLane1 x.lane fun y =>
      if 32 ≤ x.lane ∧ b.portCarries ((x.lane - 32) / 2) = true then { y with mrkErr := sat32 y.mrkErr 1 } else { y with farHeld := true }).lane := by
  subst hb
  exact execFarLoopOn_goes.givesLane rfl hh rfl

theorem farLoopOff_releases (s b : State) (t : Nat) (x : LaneRx) (hb : b = s.begin t) (hh : b.cmdHeard 2 x = true) :
    Gives (.farLoopOff t x) s [.lane] fun u => u.lane = (b.onLane1 x.lane fun y => { y with farHeld := false }).lane := by
  subst hb
  exact execFarLoopOff_goes.givesLane rfl hh rfl

theorem sleepNotice_notes (s b : State) (t : Nat) (x : LaneRx) (hb : b = s.begin t) (hh : b.cmdHeard 3 x = true) :
    Gives (.sleepNotice t x) s [.lane] fun u => u.lane = (b.onLane1 x.lane fun y => { y with noticeAt := some b.now }).lane := by
  subst hb
  exact execSleepNotice_goes.givesLane rfl hh rfl

theorem laneCommand_unheard (s b : State) (t : Nat) (x : LaneRx) (d1 : Nat) (hb : b = s.begin t) (hd : d1 = 1 ∨ d1 = 2 ∨ d1 = 3)
    (hh : b.cmdHeard d1 x = false) :
    Gives (if d1 = 1 then .farLoopOn t x else if d1 = 2 then .farLoopOff t x else .sleepNotice t x) s [] fun _ => True := by
  subst hb
  rcases hd with rfl | rfl | rfl
  · exact gives_stays (i := .farLoopOn t x) rfl hh
  · exact gives_stays (i := .farLoopOff t x) rfl hh
  · exact gives_stays (i := .sleepNotice t x) rfl hh

theorem prbsCheckerLock_counts (s b : State) (t l errors : Nat) (lock : Bool) (hb : b = s.begin t) (htest : (b.ln l).test = 4) :
    Gives (.prbsCheckerLock t l lock errors) s [.lane] fun u => u.lane = (b.onLane1 l fun x =>
      { x with prbsLock := lock, prbsErr := sat32 x.prbsErr errors }).lane := by
  subst hb
  exact execPrbsCheckerLock_goes.givesLane rfl (beq_iff_eq.mpr htest) rfl

/-- Settles O25: each row by its own lemma. -/
theorem laneTransmitters : Obligations.LaneTransmitters :=
  ⟨txRetrainDone_applies, rxWakeDone_begins, txWakeDone_runs, txSleepDone_sleeps, markerSend_seam, markerSend_port, farLoopOn_holds, farLoopOff_releases,
    sleepNotice_notes, laneCommand_unheard, prbsCheckerLock_counts⟩

end Sys2Proof.Machine

/-! PROOFS. The lane commands accepted: LANE_TEST, LANE_RETRAIN, LANE_SLEEP, LANE_WAKE (R221, R225 to R228). -/
namespace Sys2Proof.Machine
open State

theorem laneTestFields {l te lo : Nat} (hl : l < 256) (ht : te < 256) (ho : lo < 256) :
    field (le 1 l ++ le 1 te ++ le 1 lo ++ le 1 0) 0 1 = l ∧ field (le 1 l ++ le 1 te ++ le 1 lo ++ le 1 0) 1 1 = te ∧
    field (le 1 l ++ le 1 te ++ le 1 lo ++ le 1 0) 2 1 = lo := by
  simp only [List.append_assoc, field_skip, field_le, Nat.reduceLeDiff, Nat.reduceSub]
  omega

/-! ## What each command does to its lane -/

section
variable {h : RecHdr} {p : Bytes} {z : State} {l te : Nat}

/-- A lane neither of whose directions is OFF is left as it is by a start. -/
theorem laneStart_on (hrx : (z.ln l).rx ≠ 0) (htx : (z.ln l).tx ≠ 0) : (z.laneStart l).lane = z.lane := by
  rw [laneStart]
  exact onLane1_id (by simp only [hrx, htx, if_false, false_and])

/-- Near-end tests ask nothing of the far end: the lane runs the test (R221). -/
theorem laneTest_lane (hl : field p 0 1 = l) (ht : field p 1 1 = te) (ho : field p 2 1 = 0) (h0 : 0 < te) (h3 : te < 3) (hrx : (z.ln l).rx ≠ 0)
    (htx : (z.ln l).tx ≠ 0) : (cmdLaneTest.act h p z).1.lane = (z.onLane1 l fun x => { x with test := te, loop := 0, prbsLock := false }).lane := by
  have hin : l < z.lane.lanes.length := lt_of_getD (fun x : LaneS => x.rx ≠ 0) hrx (fun hd => hd rfl)
  have hte : te ≠ 0 := by omega
  have hnear : ¬(te = 3 ∨ (0 : Nat) = 3) := by omega
  simp only [cmdLaneTest, laneStep_lane, hl, ht, ho, hte, hnear, if_false]
  exact laneStart_on (by rw [ln_onLane1 hin]; exact hrx) (by rw [ln_onLane1 hin]; exact htx)
theorem laneTest_frame : Frame 2052 z (cmdLaneTest.act h p z).1 := by
  simp only [cmdLaneTest]
  refine Eq.mpr (laneStep_frame (fun v => ?_) rfl) (by simp)
  exact Frame.ite.mpr ⟨fun _ => by simp, fun _ => Frame.ite.mpr ⟨fun _ => by simp, fun _ => by simp⟩⟩

/-- Both directions of an UP lane retrain (R227, R228). -/
theorem laneRetrain_lane (hl : field p 0 1 = l) (hd : field p 1 1 = 3) (hrx : (z.ln l).rx = 5) (htx : (z.ln l).tx = 3) :
    (cmdLaneRetrain.act h p z).1.lane = (z.onLane1 l fun x =>
      { x with rx := 6, rxAt := z.now, gap := false, hiBer := false, lastCnt := none, txRetrain := true, txAt := z.now }).lane := by
  simp only [cmdLaneRetrain, laneStep_lane, hl, hd, t30, t31]
  refine onLane1_congr ?_
  simp [hrx, htx]
theorem laneRetrain_frame : Frame 2052 z (cmdLaneRetrain.act h p z).1 := by simp [cmdLaneRetrain]

/-- A receiver that is not OFF, put to sleep (R208). -/
theorem rxSleepStart_ln (hrx : (z.ln l).rx ≠ 0) : (z.rxSleepStart l).ln l =
    { z.ln l with rx := 1, rxSleep := true, gap := false, lastCnt := none, hiBer := false } := by
  rw [rxSleepStart, ln_onLane1 (lt_of_getD (fun x : LaneS => x.rx ≠ 0) hrx fun hd => hd rfl), if_neg hrx]
/-- Both directions of a lane go to sleep, the transmitter after its notice (R208, R225). -/
theorem laneSleep_lane (hl : field p 0 1 = l) (hd : field p 1 1 = 3) (hrx : (z.ln l).rx ≠ 0) (htx : (z.ln l).tx = 3) (hs : (z.ln l).txSleeping = false) :
    (cmdLaneSleep.act h p z).1.lane = (z.onLane1 l fun x => { x with
      rx := 1, rxSleep := true, gap := false, lastCnt := none, hiBer := false, txSleep := true, txSleeping := true, txAt := z.now }).lane := by
  simp only [cmdLaneSleep, laneStep_lane, hl, hd, t30, t31, if_true]
  have hasleep := rxSleepStart_ln hrx
  have hsends : ((z.rxSleepStart l).ln l).tx = 3 ∧ (!((z.rxSleepStart l).ln l).txSleeping) = true := by rw [hasleep]; exact ⟨htx, by rw [hs]; rfl⟩
  rw [txSleepStart, if_pos hsends, laneCmd_lane, rxSleepStart, onLane1_onLane1]
  refine onLane1_congr ?_
  simp only [if_neg hrx]
  rfl
theorem laneSleep_frame : Frame 2052 z (cmdLaneSleep.act h p z).1 := by
  simp only [cmdLaneSleep]
  refine Eq.mpr (laneStep_frame (fun v => ?_) rfl) (by simp)
  simp [↓Frame.ite]

/-- Both directions of a lane that sleeps are woken (R208, R226). -/
theorem laneWake_lane (hl : field p 0 1 = l) (hd : field p 1 1 = 3) (hrx : (z.ln l).rx = 1) (htx : (z.ln l).tx = 1) :
    (cmdLaneWake.act h p z).1.lane = (z.onLane1 l fun x => { x with
      rx := 2, rxAt := z.now, rxSleep := false, tx := 2, txAt := z.now, txSleep := false, txSleeping := false }).lane := by
  simp only [cmdLaneWake, hl, hd, t30, t31, if_true, rxWakeStart, txWakeStart, onLane1_onLane1]
  refine onLane1_congr ?_
  simp [hrx, htx]
theorem laneWake_frame : Frame 2052 z (cmdLaneWake.act h p z).1 := by simp [cmdLaneWake, ↓Frame.ite]
end

/-! ## The commands accepted -/

/-- An accepted command whose effect lies in LANE, and what it sends. -/
theorem Accepts.givesLane {cmd : Cmd} {c : Instr} {s : State} {t : Nat} {h : RecHdr} {p : Bytes} {w : LaneB} (ha : Accepts cmd h p (s.begin t))
    (e : exec c s = .next (hostRow cmd t h p s)) (hp : cmd.post = fun _ _ v => v) (hm : ∀ v, Frame 2052 v (cmd.act h p v).1)
    (hw : ∀ x j, (cmd.act h p ((s.begin t).withHJ x j)).1.lane = w) : Gives c s ([.host, .jnl, .lane] ++ s.heldParts) fun u => u.lane = w :=
  ha.gives0 e hp hm rfl rfl fun x j _ _ hu => (hu.wide.keeps .lane rfl).trans (hw x j)

theorem laneTest_runs (s : State) (t lane test loop : Nat) (h : RecHdr)
    (ha : Accepts cmdLaneTest h (le 1 lane ++ le 1 test ++ le 1 loop ++ le 1 0) (s.begin t)) (hl : lane < 40) (h0 : 0 < test) (h3 : test < 3) (ho : loop = 0)
    (hrx : ((s.begin t).ln lane).rx ≠ 0) (htx : ((s.begin t).ln lane).tx ≠ 0) :
    Gives (.laneTest t h lane test loop) s ([.host, .jnl, .lane] ++ s.heldParts) fun u => u.lane = ((s.begin t).onLane1 lane fun x =>
      { x with test := test, loop := 0, prbsLock := false }).lane := by
  subst ho
  obtain ⟨hlane, htest, hloop⟩ := laneTestFields (l := lane) (te := test) (lo := 0) (by omega) (by omega) (by omega)
  exact ha.givesLane rfl rfl (fun _ => laneTest_frame) fun _ _ => laneTest_lane hlane htest hloop h0 h3 hrx htx

theorem laneRetrain_retrains (s : State) (t lane : Nat) (h : RecHdr) (ha : Accepts cmdLaneRetrain h (le 1 lane ++ le 1 3 ++ le 2 0) (s.begin t))
    (hl : lane < 40) (hrx : ((s.begin t).ln lane).rx = 5) (htx : ((s.begin t).ln lane).tx = 3) :
    Gives (.laneRetrain t h lane 3) s ([.host, .jnl, .lane] ++ s.heldParts) fun u => u.lane = ((s.begin t).onLane1 lane fun x =>
      { x with rx := 6, rxAt := max s.now t, gap := false, hiBer := false, lastCnt := none, txRetrain := true, txAt := max s.now t }).lane := by
  obtain ⟨hlane, hdir⟩ := openFields (c := lane) (r := 3) (by omega) (by omega)
  exact ha.givesLane rfl rfl (fun _ => laneRetrain_frame) fun _ _ => laneRetrain_lane hlane hdir hrx htx

theorem laneSleep_sleeps (s : State) (t lane : Nat) (h : RecHdr) (ha : Accepts cmdLaneSleep h (le 1 lane ++ le 1 3 ++ le 2 0) (s.begin t))
    (hl : lane < 40) (hrx : ((s.begin t).ln lane).rx ≠ 0) (htx : ((s.begin t).ln lane).tx = 3) (hs : ((s.begin t).ln lane).txSleeping = false) :
    Gives (.laneSleep t h lane 3) s ([.host, .jnl, .lane] ++ s.heldParts) fun u => u.lane = ((s.begin t).onLane1 lane fun x =>
      { x with
        rx := 1
        rxSleep := true
        gap := false
        lastCnt := none
        hiBer := false
        txSleep := true
        txSleeping := true
        txAt := max s.now t }).lane := by
  obtain ⟨hlane, hdir⟩ := openFields (c := lane) (r := 3) (by omega) (by omega)
  exact ha.givesLane rfl rfl (fun _ => laneSleep_frame) fun _ _ => laneSleep_lane hlane hdir hrx htx hs

theorem laneWake_wakes (s : State) (t lane : Nat) (h : RecHdr) (ha : Accepts cmdLaneWake h (le 1 lane ++ le 1 3 ++ le 2 0) (s.begin t))
    (hl : lane < 40) (hrx : ((s.begin t).ln lane).rx = 1) (htx : ((s.begin t).ln lane).tx = 1) :
    Gives (.laneWake t h lane 3) s ([.host, .jnl, .lane] ++ s.heldParts) fun u => u.lane = ((s.begin t).onLane1 lane fun x =>
      { x with
        rx := 2
        rxAt := max s.now t
        rxSleep := false
        tx := 2
        txAt := max s.now t
        txSleep := false
        txSleeping := false }).lane := by
  obtain ⟨hlane, hdir⟩ := openFields (c := lane) (r := 3) (by omega) (by omega)
  exact ha.givesLane rfl rfl (fun _ => laneWake_frame) fun _ _ => laneWake_lane hlane hdir hrx htx

/-- Settles O26: each command's fields, its effect on the lane and its frame. -/
theorem laneCommands : Obligations.LaneCommands := ⟨laneTest_runs, laneRetrain_retrains, laneSleep_sleeps, laneWake_wakes⟩

end Sys2Proof.Machine

/-! PROOFS. Frames taken from cells: FEED, ACK and NAK (R237, R250, R251, R255, R258). -/
namespace Sys2Proof.Machine
open State

/-! ## A frame that is heard -/

/-- The state in which a frame of a cell acts: counted, its first copy kept, its cell heard (R250, R258, R266). -/
def heardFrom (f : FrameHdr) (kind tag : Nat) (p : Bytes) (b : State) : State := (heardOnce f kind tag (crc32c p) b).cellHeard f.cell

section
variable {b : State} {f : FrameHdr} {p : Bytes} {kind tag c : Nat}

theorem heardFrom_talks : (heardFrom f kind tag p b).seam.talks.length = b.seam.talks.length := cellHeard_talks.trans heardOnce_talks
/-- It leaves the conversation but the counts of copies and the time the cell was heard. -/
theorem heardFrom_talk {α : Type} (r : Talk → α) (h : ∀ t a d, r { t with frames := a, seen := d } = r t) (ha : ∀ t n, r { t with heardAt := n } = r t) :
    r ((heardFrom f kind tag p b).talk c) = r (b.talk c) := (cellHeard_talk r ha).trans (heardOnce_talk r h)
theorem heardFrom_heardAt (h : f.cell < b.seam.talks.length) : ((heardFrom f kind tag p b).talk f.cell).heardAt = b.now := by
  rw [heardFrom, cellHeard, talk_onTalk (by rwa [heardOnce_talks])]
  rfl
theorem heardFrom_frame : Frame 4096 b (heardFrom f kind tag p b) := heardOnce_frame.trans cellHeard_frame

/-- A FEED's frame that is heard, before its latch or after it (R255). -/
theorem feedIn_heard (hh : Hears f 2 0 b) (hlen : p.length = 24) : State.allowed f p (State.feedIn f p) b =
    if later 32 f.period b.per then (heardFrom f 2 0 p b).feedTake f.cell f.period (feedOf p)
    else (heardOnce f 2 0 (crc32c p) b).onCell f.cell fun x => { x with miss := if State.missCounts x then x.miss else sat32 x.miss 1 } := by
  rw [hh.allowed, State.feedIn, if_neg (not_not.mpr hlen), epochOk_same hh.counted_epoch, hh.copy]
  rfl
/-- An answer's frame that is heard (R250, R251). -/
theorem answerCopy_heard {k : State → State} (hh : Hears f kind (field p 0 2) b) :
    State.answerCopy f kind p k (counted f b) = k (heardFrom f kind (field p 0 2) p b) := by
  rw [State.answerCopy, hh.copy]
  rfl
theorem ackIn_heard (hh : Hears f 4 (field p 0 2) b) (hp : p ≠ []) : State.allowed f p (State.ackIn f p) b =
    State.ackTake f (field p 0 1) (field p 1 1) (fieldW p 4) (p.drop 8) (heardFrom f 4 (field p 0 2) p b) := by
  rw [hh.allowed, State.ackIn, if_neg (mt List.eq_nil_of_length_eq_zero hp), epochOk_same hh.counted_epoch, answerCopy_heard hh]
theorem nakIn_heard (hh : Hears f 5 (field p 0 2) b) (hlen : p.length = 8) : State.allowed f p (State.nakIn f p) b =
    State.nakTake f (field p 0 1) (field p 1 1) (field p 2 1) (fieldW p 4) (heardFrom f 5 (field p 0 2) p b) := by
  rw [hh.allowed, State.nakIn, if_neg (not_not.mpr hlen), epochOk_same hh.counted_epoch, answerCopy_heard hh]
end

/-! ## ACK and NAK of an EDGE frame -/

section
variable {z : State} {f : FrameHdr} {w : Word} {data : Bytes} {tag code : Nat}

/-- The set a joining cell was told to activate is acknowledged: the cell is in service (R258, R265). -/
theorem ackTake_activates (hsent : (z.talk f.cell).sent.find? (·.1 == f.period) = some (f.period, w)) (hst : (z.cell f.cell).st = 1)
    (hj : (z.cell f.cell).jstep = 6) (hm : (z.talk f.cell).m0 = f.period) (ht : f.cell < z.seam.talks.length) :
    State.ackTake f 1 tag w data z = (z.onTalk f.cell fun t => { t with acked := some (f.period, w) }).cellTo f.cell 2 0 := by
  have hm0 : ((z.onTalk f.cell fun t => { t with acked := some (f.period, w) }).talk f.cell).m0 = f.period := by rw [talk_onTalk ht]; exact hm
  simp only [State.ackTake, hsent, if_true, ne_eq, not_true_eq_false, if_false, onTalk_cell, hst, hj, hm0, and_self]

/-- A NAK is counted, its code kept (R247). -/
def nakNoted (c code : Nat) (z : State) : State := State.cellEvt c 1 (z.onCell c fun x => { x with nakCnt := sat32 x.nakCnt 1, lastNak := code % 256 })
theorem nakNoted_cell (hc : f.cell < z.seam.cells.length) : (nakNoted f.cell code z).cell f.cell =
    { z.cell f.cell with nakCnt := sat32 (z.cell f.cell).nakCnt 1, lastNak := code % 256, evt := setBit (z.cell f.cell).evt 1 } := by
  rw [nakNoted, State.cellEvt, cell_onCell (by simpa using hc), cell_onCell hc]
theorem nakNoted_cells : (nakNoted f.cell code z).seam.cells.length = z.seam.cells.length := by simp [nakNoted, State.cellEvt]
/-- A NAK of an EDGE frame puts a cell in service on hold (R258). -/
theorem nakTake_holds (hst : (z.cell f.cell).st = 2) (hcode : code ≠ 3) (hc : f.cell < z.seam.cells.length) :
    State.nakTake f 1 tag code w z = (nakNoted f.cell code z).cellTo f.cell 3 0 := by
  have hst' : ((nakNoted f.cell code z).cell f.cell).st = 2 := by rw [nakNoted_cell hc]; exact hst
  rw [State.nakTake]
  exact (if_pos rfl).trans (by rw [if_neg hcode]; exact if_pos hst')
end

/-! ## The rows -/

theorem feed_taken (s b : State) (t : Nat) (x : LaneRx) (f : FrameHdr) (p : Bytes) (hb : b = s.begin t) (hbr : Brings x 2 f p b) (hh : Hears f 2 0 b)
    (hlen : p.length = 24) (hl : later 32 f.period b.per = true) (hst : (b.cell f.cell).st = 2) (h0 : (feedOf p).status.testBit 0 = true)
    (h2 : (feedOf p).status.testBit 2 = false) (h3 : (feedOf p).status.testBit 3 = false) (h5 : (feedOf p).status.testBit 5 = false)
    (h9 : (feedOf p).status.testBit 9 = false) (he : State.echo (b.talk f.cell) (feedOf p) ≠ some false) :
    Gives (.feed t x) s [.seam] fun u => (u.talk f.cell).feed = some (f.period, feedOf p) ∧ (u.cell f.cell).st = 2 ∧ (u.cell f.cell).tlock = true ∧
      (u.cell f.cell).holdCnt = (feedOf p).holdCnt % 256 ∧ (u.talk f.cell).heardAt = b.now := by
  subst hb
  have hcell : f.cell < (heardFrom f 2 0 p (s.begin t)).seam.cells.length := hh.known.2
  have htalk : f.cell < (heardFrom f 2 0 p (s.begin t)).seam.talks.length := heardFrom_talks.symm ▸ hh.known.1
  have hecho : State.echo ((heardFrom f 2 0 p (s.begin t)).talk f.cell) (feedOf p) ≠ some false := by
    rwa [heardFrom_talk (fun k => State.echo k (feedOf p)) (fun _ _ _ => rfl) fun _ _ => rfl]
  refine gives_if (m := 4096) rfl hh.real (hbr.isIn.trans ((feedIn_heard hh hlen).trans ((if_pos hl).trans
    (feedTake_quiet hcell htalk hst h0 h2 h3 h5 h9 hecho)))) (by simp [heardFrom_frame]) rfl fun a q r => ?_
  rw [noteSets_talk, noteSets_cell, finish_talk, finish_cell, onTalk_cell, cell_onCell hcell, talk_onTalk (by simpa using htalk), onCell_talk]
  exact ⟨rfl, hst, rfl, rfl, heardFrom_heardAt hh.known.1⟩

theorem feed_late (s b : State) (t : Nat) (x : LaneRx) (f : FrameHdr) (p : Bytes) (hb : b = s.begin t) (hbr : Brings x 2 f p b) (hh : Hears f 2 0 b)
    (hlen : p.length = 24) (hl : later 32 f.period b.per = false) :
    Gives (.feed t x) s [.seam] fun u => u.seam.cells = (b.onCell f.cell fun x => { x with
      miss := if State.missCounts x then x.miss else sat32 x.miss 1 }).seam.cells ∧ (u.talk f.cell).feed = (b.talk f.cell).feed := by
  subst hb
  refine gives_if (m := 4096) rfl hh.real (hbr.isIn.trans ((feedIn_heard hh hlen).trans (if_neg (by simp [hl])))) (by simp [heardOnce_frame]) rfl
    fun a q r => ⟨by rw [noteSets_seam, finish_seam]; rfl, ?_⟩
  rw [noteSets_talk, finish_talk, onCell_talk]
  exact heardOnce_talk (·.feed) fun _ _ _ => rfl

theorem feed_broken (s b : State) (t : Nat) (x : LaneRx) (hb : b = s.begin t) (hr : b.cellsReal = true) (hl : x.lane < 32) (ht : b.laneTakes x.lane = true)
    (hd : b.seamDeaf x.lane = false) (hf : cellFrames x = [none]) :
    Gives (.feed t x) s [.seam] fun u => u.seam = (b.pathErr x.lane).seam := by
  subst hb
  exact gives_if (m := 4096) rfl hr (broken_isIn hl ht hd hf) (by simp) rfl fun a q r => by rw [noteSets_seam, finish_seam]

theorem ack_activates (s b : State) (t : Nat) (x : LaneRx) (f : FrameHdr) (p : Bytes) (hb : b = s.begin t) (hbr : Brings x 4 f p b) (href : field p 0 1 = 1)
    (hp : p ≠ []) (hh : Hears f 4 (field p 0 2) b) (hsent : (b.talk f.cell).sent.find? (·.1 == f.period) = some (f.period, fieldW p 4))
    (hst : (b.cell f.cell).st = 1) (hj : (b.cell f.cell).jstep = 6) (hm : (b.talk f.cell).m0 = f.period) :
    Gives (.ack t x) s [.seam] fun u => (u.talk f.cell).acked = some (f.period, fieldW p 4) ∧ (u.cell f.cell).st = 2 ∧ (u.cell f.cell).reason = 0 := by
  subst hb
  have hid : ¬(s.begin t).isIdentity f.cell p = true := by simp [State.isIdentity, href]
  have htalk : f.cell < (heardFrom f 4 (field p 0 2) p (s.begin t)).seam.talks.length := heardFrom_talks.symm ▸ hh.known.1
  have hact := ackTake_activates (z := heardFrom f 4 (field p 0 2) p (s.begin t)) (tag := field p 1 1) (data := p.drop 8)
    (by rwa [heardFrom_talk (·.sent) (fun _ _ _ => rfl) fun _ _ => rfl]) hst hj (by rwa [heardFrom_talk (·.m0) (fun _ _ _ => rfl) fun _ _ => rfl]) htalk
  refine gives_if (m := 4096) rfl hh.real (hbr.isIn.trans ((if_neg hid).trans ((ackIn_heard hh hp).trans (by rw [href, hact]))))
    (by simp [heardFrom_frame]) rfl fun a q r => ?_
  obtain ⟨e, he⟩ := cellTo_cell (s := (heardFrom f 4 (field p 0 2) p (s.begin t)).onTalk f.cell fun t => { t with acked := some (f.period, fieldW p 4) })
    (st := 2) (r := 0) hh.known.2
  rw [noteSets_talk, noteSets_cell, finish_talk, finish_cell, he, cellTo_talk, talk_onTalk htalk]
  exact ⟨rfl, rfl, rfl⟩

theorem nak_holds (s b : State) (t : Nat) (x : LaneRx) (f : FrameHdr) (p : Bytes) (hb : b = s.begin t) (hbr : Brings x 5 f p b) (href : field p 0 1 = 1)
    (hlen : p.length = 8) (hh : Hears f 5 (field p 0 2) b) (hst : (b.cell f.cell).st = 2) (hcode : field p 2 1 ≠ 3) :
    Gives (.nak t x) s [.seam] fun u => (u.cell f.cell).st = 3 ∧ (u.cell f.cell).nakCnt = sat32 (b.cell f.cell).nakCnt 1 ∧
      (u.cell f.cell).lastNak = field p 2 1 % 256 := by
  subst hb
  have hcell : f.cell < (heardFrom f 5 (field p 0 2) p (s.begin t)).seam.cells.length := hh.known.2
  refine gives_if (m := 4096) rfl hh.real (hbr.isIn.trans ((nakIn_heard hh hlen).trans (by
    rw [href, nakTake_holds (z := heardFrom f 5 (field p 0 2) p (s.begin t)) hst hcode hcell]))) (by simp [nakNoted, heardFrom_frame]) rfl fun a q r => ?_
  obtain ⟨e, he⟩ := cellTo_cell (s := nakNoted f.cell (field p 2 1) (heardFrom f 5 (field p 0 2) p (s.begin t))) (st := 3) (r := 0) (c := f.cell)
    (by rwa [nakNoted_cells])
  rw [noteSets_cell, finish_cell, he, nakNoted_cell hcell]
  exact ⟨rfl, rfl, rfl⟩

end Sys2Proof.Machine

/-! PROOFS. Identity: an answer admits the cell of a position that was absent (R73, R249, R258, R259). -/
namespace Sys2Proof.Machine
open State

/-! ## An answer is noted -/

/-- An identity answer is noted: what the cell says it is, that its position answers (R73, R258). -/
def identNoted (f : FrameHdr) (d : IdentData) (z : State) : State :=
  ((z.onCell f.cell fun x => { x with serial := d.serial, typ := d.typ, rating := d.rating, fw := d.fw, caps := d.caps }).onImg fun m =>
    { m with val := m.val.map fun v => if v.desc.isSome && !v.answered.contains f.cell then { v with answered := v.answered ++ [f.cell] } else v }).onTalk f.cell
    fun t => { t with answered := true, ident := some (f.path, d) }
/-- The query it answers ends, where one is open (R249). -/
def queryEnd (c : Nat) (z : State) : State :=
  match (z.talk c).ctrl with
  | some o => if o.op = 1 then z.ctrlNext c else z
  | none => z

section
variable {z : State} {f : FrameHdr} {d : IdentData} {c j : Nat}

theorem identNoted_cell (h : f.cell < z.seam.cells.length) : (identNoted f d z).cell f.cell =
    { z.cell f.cell with serial := d.serial, typ := d.typ, rating := d.rating, fw := d.fw, caps := d.caps } := cell_onCell h
theorem identNoted_seat : ((identNoted f d z).talk j).seat = (z.talk j).seat := talk_onTalk_inv (·.seat) fun _ => rfl
theorem identNoted_step9 : (identNoted f d z).step9 = z.step9 := by
  show (z.img.val.map _).bind _ = z.img.val.bind _
  cases z.img.val with
  | none => rfl
  | some v => simp only [Option.map_some, Option.bind_some]; split <;> rfl
theorem identNoted_frame : Frame 4352 z (identNoted f d z) := by simp [identNoted]

theorem kind_of {w : State} (h : w.cfg = z.cfg) : w.kind c = z.kind c := by rw [kind, decl, h, ← decl, ← kind]
theorem cellTo_cells {st r : Nat} : (z.cellTo c st r).seam.cells.length = z.seam.cells.length := by
  unfold cellTo
  simp only []
  split <;> simp [cellEvt]
theorem ctrlNext_cells : (z.ctrlNext c).seam.cells = z.seam.cells := by
  unfold ctrlNext
  split <;> rfl
theorem ctrlNext_talk {α : Type} (r : Talk → α) (h : ∀ t a b n, r { t with ctrl := a, queue := b, sentNow := n } = r t) :
    r ((z.ctrlNext c).talk j) = r (z.talk j) := by
  unfold ctrlNext putCtrl
  split
  · exact talk_onTalk_inv r fun t => h t none t.queue t.sentNow
  · exact talk_onTalk_inv r fun t => h t _ _ _
theorem ctrlNext_talks : (z.ctrlNext c).seam.talks.length = z.seam.talks.length := by
  unfold ctrlNext putCtrl ctrlOut
  split
  · simp
  · exact modAt_length
/-- What holds of a state, and of the state the end of its open operation leaves, holds whether the open operation was a query or not. -/
theorem queryEnd_ends (P : State → Prop) (h : P z) (hn : P (z.ctrlNext c)) : P (queryEnd c z) := by
  unfold queryEnd
  split
  · split
    · exact hn
    · exact h
  · exact h
theorem queryEnd_cells : (queryEnd c z).seam.cells = z.seam.cells := queryEnd_ends (·.seam.cells = z.seam.cells) rfl ctrlNext_cells
theorem queryEnd_talks : (queryEnd c z).seam.talks.length = z.seam.talks.length := queryEnd_ends (·.seam.talks.length = z.seam.talks.length) rfl ctrlNext_talks
theorem queryEnd_seat : ((queryEnd c z).talk j).seat = (z.talk j).seat :=
  queryEnd_ends (fun w => (w.talk j).seat = (z.talk j).seat) rfl (ctrlNext_talk (·.seat) fun _ _ _ _ => rfl)
theorem queryEnd_frame : Frame 4100 z (queryEnd c z) := queryEnd_ends (Frame 4100 z) (by simp) (by simp)
theorem queryEnd_cfg : (queryEnd c z).cfg = z.cfg := cfg_of (queryEnd_frame.keeps .img rfl)

/-! ## A position that is admitted -/

/-- An absent position that answers is checked for admission (R258). -/
theorem identTake_judges (h9 : z.step9 = none) (hd : z.declared f.cell = true) (hr : z.cellsReal = true) (h0 : (z.cell f.cell).st = 0)
    (hc : f.cell < z.seam.cells.length) : State.identTake f d z = State.identAdmit f.cell d (queryEnd f.cell (identNoted f d z)) := by
  have himg : (queryEnd f.cell (identNoted f d z)).img = (identNoted f d z).img := queryEnd_frame.keeps .img rfl
  have hmodeQ : (queryEnd f.cell (identNoted f d z)).modeQ = z.modeQ := queryEnd_frame.keeps .modeQ rfl
  have hstep : (queryEnd f.cell (identNoted f d z)).step9 = none := by rw [step9, himg]; exact identNoted_step9.trans h9
  have hcfg : (queryEnd f.cell (identNoted f d z)).cfg = z.cfg := queryEnd_cfg.trans rfl
  have hreal : (queryEnd f.cell (identNoted f d z)).cellsReal = true := by rw [cellsReal, inForce, himg, hmodeQ]; exact hr
  have hst : ((queryEnd f.cell (identNoted f d z)).cell f.cell).st = 0 := by rw [cell, queryEnd_cells, ← cell, identNoted_cell hc]; exact h0
  have hask : (queryEnd f.cell (identNoted f d z)).queryDesc.cells.any (·.idx == f.cell) = true := by
    rw [State.queryDesc, hstep, Option.getD_none, hcfg, List.any_eq_true]
    rw [declared, decl, List.find?_isSome] at hd
    exact hd
  have hasks : ¬(!(queryEnd f.cell (identNoted f d z)).queryDesc.cells.any (·.idx == f.cell)) = true := by rw [hask]; decide
  have hserves : ¬((queryEnd f.cell (identNoted f d z)).step9.isSome = true ∨ (!(queryEnd f.cell (identNoted f d z)).cellsReal) = true) := by
    rw [hstep, hreal]; decide
  have hupdates : ¬((queryEnd f.cell (identNoted f d z)).cell f.cell).st = 7 := by rw [hst]; decide
  exact (if_neg hasks).trans ((if_neg hserves).trans ((if_neg hupdates).trans (if_pos (.inl hst))))

/-- A cell is admitted: the conversation starts anew, its position's seat is its own (R258, R259). -/
def admitted (c : Nat) (d : IdentData) (z : State) : State :=
  jStep c 2 ((z.onTalk c fun t => { talkDrop t with seat := some d.serial, rejoin := false }).cellTo c 1 0)
theorem admitted_cell (h : c < z.seam.cells.length) : ∃ e, (admitted c d z).cell c = { z.cell c with st := 1, jstep := 2, reason := 0, evt := e } := by
  obtain ⟨e, he⟩ := cellTo_cell (s := z.onTalk c fun t => { talkDrop t with seat := some d.serial, rejoin := false }) (st := 1) (r := 0) h
  refine ⟨e, ?_⟩
  rw [admitted, jStep, cell_onCell (cellTo_cells.symm ▸ h), he]
  rfl
theorem admitted_seat (h : c < z.seam.talks.length) : ((admitted c d z).talk c).seat = some d.serial := by
  rw [admitted, jStep, onCell_talk, cellTo_talk, talk_onTalk h]
theorem admitted_frame : Frame 4096 z (admitted c d z) := by simp [admitted]
/-- The checks hold: the cell is admitted. -/
theorem identAdmit_admits (hs : (z.talk c).seat = none) (ht : d.typ = (z.kind c).typ) (hr : d.rating = (z.kind c).rating) (hf : (z.kind c).minFw ≤ d.fw) :
    State.identAdmit c d z = admitted c d z := by
  unfold State.identAdmit admitted
  simp only [ht, hr, hs, ne_eq, not_true_eq_false, or_self, if_false, Bool.false_eq_true, Nat.not_lt.mpr hf]
theorem identTake_admits (h9 : z.step9 = none) (hd : z.declared f.cell = true) (hr : z.cellsReal = true) (h0 : (z.cell f.cell).st = 0)
    (hc : f.cell < z.seam.cells.length) (hs : (z.talk f.cell).seat = none) (ht : d.typ = (z.kind f.cell).typ) (hra : d.rating = (z.kind f.cell).rating)
    (hf : (z.kind f.cell).minFw ≤ d.fw) : State.identTake f d z = admitted f.cell d (queryEnd f.cell (identNoted f d z)) := by
  have hkind : (queryEnd f.cell (identNoted f d z)).kind f.cell = z.kind f.cell := kind_of (queryEnd_cfg.trans rfl)
  exact (identTake_judges h9 hd hr h0 hc).trans (identAdmit_admits ((queryEnd_seat.trans identNoted_seat).trans hs) (hkind ▸ ht) (hkind ▸ hra) (hkind ▸ hf))
end

/-! ## The row -/

/-- An epoch is not later than itself (R251). -/
theorem later_same {e : Nat} : later 16 e e = false := by
  have h0 : (e + 65536 - e % 65536) % 65536 = 0 := by omega
  simp [later, serialDiff, h0]
theorem Hears.noted {f : FrameHdr} {kind tag : Nat} {b : State} (h : Hears f kind tag b) (e : Nat) : Hears f kind tag (b.noteEpoch e) :=
  ⟨h.real, h.epoch, h.room, h.new, h.known⟩
/-- An identity answer that is heard where none was before (R251, R258). -/
theorem identIn_heard {f : FrameHdr} {p : Bytes} {b : State} (hh : Hears f 4 (field p 0 2) b) (hi : (b.talk f.cell).ident = none) :
    State.allowed f p (State.identIn f p) b =
      State.identTake f (identOf (p.drop 8)) (heardFrom f 4 (field p 0 2) p (b.noteEpoch f.epoch)) := by
  have hlater : later 16 f.epoch ((counted f b).noteEpoch f.epoch).seam.epoch = false := hh.epoch ▸ later_same
  have hcounted : ((counted f b).talk f.cell).ident = none := by rw [counted, talk_onTalk hh.known.1]; exact hi
  have hnone : (((counted f b).noteEpoch f.epoch).talk f.cell).ident = none := hcounted
  rw [hh.allowed, State.identIn]
  simp only [hlater, hnone, Bool.false_eq_true, if_false, Bool.false_and]
  exact answerCopy_heard (hh.noted f.epoch)

theorem identityAnswer_admits (s b : State) (t : Nat) (x : LaneRx) (f : FrameHdr) (p : Bytes) (d : IdentData) (hb : b = s.begin t) (hbr : Brings x 4 f p b)
    (hd : d = identOf (p.drop 8)) (hid : b.isIdentity f.cell p = true) (hh : Hears f 4 (field p 0 2) b) (h9 : b.step9 = none)
    (hdecl : b.declared f.cell = true) (hst : (b.cell f.cell).st = 0) (hi : (b.talk f.cell).ident = none) (_hq : (b.talk f.cell).queue = [])
    (hs : (b.talk f.cell).seat = none) (htyp : d.typ = (b.kind f.cell).typ) (hrat : d.rating = (b.kind f.cell).rating) (hfw : (b.kind f.cell).minFw ≤ d.fw) :
    Gives (.identityAnswer t x) s [.img, .seam, .pair] fun u => (u.cell f.cell).st = 1 ∧ (u.cell f.cell).jstep = 2 ∧
      (u.talk f.cell).seat = some d.serial ∧ (u.cell f.cell).serial = d.serial ∧ (u.cell f.cell).fw = d.fw ∧ (u.cell f.cell).caps = d.caps := by
  subst hb
  obtain ⟨z, hz⟩ : ∃ z, z = heardFrom f 4 (field p 0 2) p ((s.begin t).noteEpoch f.epoch) := ⟨_, rfl⟩
  have hzf : Frame 16781312 (s.begin t) z := hz ▸ Frame.trans (by simp) (heardFrom_frame.widen rfl)
  have hseat : (z.talk f.cell).seat = none := by
    rw [hz, heardFrom_talk (·.seat) (fun _ _ _ => rfl) fun _ _ => rfl]; exact hs
  have htalk : f.cell < z.seam.talks.length := by rw [hz, heardFrom_talks]; exact hh.known.1
  have hcell : f.cell < z.seam.cells.length := by rw [hz]; exact hh.known.2
  have hact : State.allowed f p (State.identIn f p) (s.begin t) = admitted f.cell d (queryEnd f.cell (identNoted f d z)) := by
    rw [identIn_heard hh hi, ← hz, ← hd]
    subst hz
    exact identTake_admits h9 hdecl hh.real hst hcell hseat htyp hrat hfw
  obtain ⟨e, he⟩ := admitted_cell (c := f.cell) (d := d) (z := queryEnd f.cell (identNoted f d z)) (by rw [queryEnd_cells]; simpa [identNoted] using hcell)
  have hnoted : (queryEnd f.cell (identNoted f d z)).cell f.cell = (identNoted f d z).cell f.cell := by rw [cell, queryEnd_cells, cell]
  refine gives_if (m := 16781572) rfl ?_ (hbr.isIn.trans ((if_pos hid).trans hact)) ?_ rfl fun a q r => ?_
  · exact (Bool.and_eq_true_iff.mp hh.real).2
  · exact (hzf.widen rfl).trans (((identNoted_frame.widen rfl).trans (queryEnd_frame.widen rfl)).trans (admitted_frame.widen rfl))
  · rw [noteSets_cell, noteSets_talk, finish_cell, finish_talk, he, hnoted, identNoted_cell hcell,
      admitted_seat (by rw [queryEnd_talks]; simpa [identNoted] using htalk)]
    exact ⟨rfl, rfl, rfl, rfl, rfl, rfl⟩
end Sys2Proof.Machine

/-! PROOFS. The cell conversation's timers: queries, repeats, copies, and contexts that leave service (R242, R249, R250, R258 to R260, R266, R267, R429). -/
namespace Sys2Proof.Machine
open State

section
variable {z : State} {c r : Nat} {l q : Nat} {bs : List (Bool × Bytes)}
theorem lose_cell (h : c < z.seam.cells.length) : ((z.lose c r).cell c).st = 4 ∧ ((z.lose c r).cell c).reason = r := by
  obtain ⟨e, he⟩ := cellTo_cell (s := z.onTalk c fun t => { talkDrop t with answered := false }) (st := 4) (r := r) h
  rw [lose, cell, cellLeft_cells, ← cell, he]
  exact ⟨rfl, rfl⟩
/-- A position whose context is not that of an absent cell is one of the positions. -/
theorem lt_of_cell_st {k : Nat} (h : (z.cell c).st = k) (hk : k ≠ 0) : c < z.seam.cells.length :=
  lt_of_getD (fun x : Cell => x.st = k) h fun h0 => hk h0.symm
theorem mem_seamSend (h : l ∈ z.seamTx q) : Out.lane l bs ∈ (z.seamSend q bs).out :=
  List.mem_append_right _ (List.mem_map_of_mem h)
end

theorem babbleCut_excludes (s b : State) (t c : Nat) (hb : b = s.begin t) (hc : c < b.seam.cells.length) (hst : (b.cell c).st = 1)
    (hx : 128 < (b.talk c).excess) : Gives (.babbleCut t c) s [.seam, .mode] fun u => (u.cell c).st = 6 ∧ (u.cell c).reason = 9 := by
  subst hb
  refine execBabbleCut_goes.givesIf rfl (by simp [hst, hx]) rfl fun a p q => ?_
  rw [noteSets_cell, finish_cell]
  exact cutCell_cell hc

theorem identQueryTimer_asks (s b : State) (t c : Nat) (hb : b = s.begin t) (hs : b.maySend = true) (hi : b.inForce = true) (h9 : b.step9 = none)
    (hc : c ∈ b.cfg.cells.map (·.idx)) (hst : (b.cell c).st = 0) (hctrl : (b.talk c).ctrl = none) (hq : (b.talk c).queue = [])
    (hl : c < b.seam.talks.length) (hdue : b.seam.identAt + b.seam.identMs * 12800000 ≤ b.now) :
    Gives (.identQueryTimer t) s [.seam] fun u => u.seam.identAt = b.now ∧ IdentAsked c b u := by
  subst hb
  have hqueried : c ∈ (s.begin t).queried := by
    rw [State.queried, State.queryDesc, h9]
    exact List.mem_filter.mpr ⟨hc, by simp [hst]⟩
  refine execIdentQueryTimer_goes.givesIf rfl ?_ rfl fun a p q => ?_
  · exact and_tt (and_tt hs (by rw [hi]; rfl)) (waitOver (k := _ * Config.ms) hdue rfl)
  · obtain ⟨_, hat, hasked⟩ := identAll (v := (s.begin t).onSeam fun y => { y with identAt := (s.begin t).now, identUAt := _ })
      (List.mem_append_left _ hqueried) hs h9 hst hctrl hq hl
    refine ⟨?_, hasked.told⟩
    rw [noteSets_seam, finish_seam]
    exact hat

theorem ctrlRetryTimeout_repeats (s b : State) (t c : Nat) (o : CtrlOp) (hb : b = s.begin t) (hctrl : (b.talk c).ctrl = some o) (hop : o.op ≠ 15)
    (hdue : o.sentAt + 1280000 ≤ b.now) (hsends : o.sends < 3) :
    Gives (.ctrlRetryTimeout t c) s [.seam] fun u => u.seam = (b.onTalk c fun k => { k with
      ctrl := some { o with sends := o.sends + 1, sentAt := b.now }, sentNow := k.sentNow + 1 }).seam ∧
      ∀ l ∈ b.seamTx (c / 8), Out.lane l (cellBlocks 3 c b.per b.seam.epoch (ctrlPay o.op o.tag o.arg o.data)) ∈ u.out := by
  subst hb
  refine gives_if (m := 4100) (w := ((s.begin t).onTalk c fun k => { k with
    ctrl := some { o with sends := o.sends + 1, sentAt := (s.begin t).now }, sentNow := k.sentNow + 1 }).ctrlOut c o) rfl ?_ ?_ (by simp) rfl
    fun a p q => ⟨by rw [noteSets_seam, finish_seam]; rfl, fun l hl => mem_told (mem_seamSend hl)⟩
  · simp only [hctrl, if_neg hop]
    exact waitOver hdue rfl
  · simp only [hctrl, if_neg (Nat.not_le.mpr hsends)]

theorem cellLostTimeout_loses (s b : State) (t c : Nat) (hb : b = s.begin t) (hr : b.cellsReal = true) (hst : (b.cell c).st = 2)
    (hdue : (b.talk c).heardAt + (b.img.safety.holdPeriods + 2) * b.tick ≤ b.now) :
    Gives (.cellLostTimeout t c) s [.seam, .mode] fun u => (u.cell c).st = 4 ∧ (u.cell c).reason = 15 := by
  subst hb
  refine execCellLostTimeout_goes.givesIf rfl (and_tt (and_tt hr (by rw [hst]; rfl)) (decide_eq_true hdue)) rfl fun a p q => ?_
  rw [noteSets_cell, finish_cell]
  exact lose_cell (lt_of_cell_st hst (by decide))

theorem preTimeoutExpiry_excludes (s b : State) (t c : Nat) (hb : b = s.begin t) (hst : (b.cell c).st = 1) (hj : (b.cell c).jstep = 5)
    (hon : (b.talk c).preOn = true) (hdue : (b.talk c).j5At + (b.kind c).preTimeout * 12800000000 ≤ b.now) :
    Gives (.preTimeoutExpiry t c) s [.seam, .mode] fun u => (u.cell c).st = 6 ∧ (u.cell c).reason = 8 := by
  subst hb
  refine execPreTimeoutExpiry_goes.givesIf rfl (and_tt (by rw [hst, hj, hon]; rfl) (waitOver (k := _ * Config.sec) hdue rfl)) rfl fun a p q => ?_
  rw [noteSets_cell, finish_cell]
  exact exclude_cell (lt_of_cell_st hst (by decide))

theorem fwRebootTimeout_excludes (s b : State) (t c a : Nat) (hb : b = s.begin t) (hst : (b.cell c).st = 7) (hat : (b.talk c).fwAt = some a)
    (hdue : a + (b.kind c).fwRebootMs * 12800000 ≤ b.now) :
    Gives (.fwRebootTimeout t c) s [.seam, .mode] fun u => (u.cell c).st = 6 ∧ (u.cell c).reason = 12 := by
  subst hb
  refine execFwRebootTimeout_goes.givesIf rfl (and_tt (by rw [hst]; rfl) (by rw [hat]; exact waitOver (k := _ * Config.ms) hdue rfl)) rfl fun _ p q => ?_
  rw [noteSets_cell, finish_cell]
  exact exclude_cell (lt_of_cell_st hst (by decide))

theorem tripBlockRepeat_sends (s b : State) (t q : Nat) (hb : b = s.begin t) (htrip : (at' b.seam.seams q {}).trip = true) (hm : b.maySendTrip = true)
    (hd : b.tripDue q = true) : Gives (.tripBlockRepeat t q) s [] fun u =>
      ∀ l ∈ b.seamTx q, Out.lane l [(true, tripBytes (at' b.seam.seams q {}).tripSrc b.node)] ∈ u.out := by
  subst hb
  exact execTripBlockRepeat_goes.givesIf rfl (and_tt (and_tt htrip hm) hd) rfl fun a p r l hl => mem_told (mem_seamSend hl)

/-- The copy on the other path of a frame kept from path A did not come (R250). -/
theorem copyWindowExpiry_counts (s b : State) (t c : Nat) (x : Seen) (hb : b = s.begin t) (hc : c < b.seam.cells.length) (hseen : (b.talk c).seen = [x])
    (hboth : x.both = false) (hdue : x.at_ + b.copyWindow c ≤ b.now) (hpath : x.path = 1) (hup : b.pathUp (c / 8) true = true) :
    Gives (.copyWindowExpiry t c) s [.seam] fun u => (u.cell c).missA = sat16 (b.cell c).missA 1 ∧ (u.cell c).evt = setBit (b.cell c).evt 2 ∧
      (u.cell c).missB = (b.cell c).missB := by
  subst hb
  have hlate : (((s.begin t).talk c).seen.filter fun x => !x.both && decide (x.at_ + (s.begin t).copyWindow c ≤ (s.begin t).now)) = [x] := by
    rw [hseen, List.filter_singleton, hboth, decide_eq_true hdue]
    rfl
  refine gives_as (m := 4100) (w := State.cellEvt c 2 (((s.begin t).onTalk c fun t =>
    { t with seen := t.seen.map fun y => if [x].contains y then { y with both := true } else y }).onCell c fun y => { y with missA := sat16 y.missA 1 }))
    rfl ?_ (by simp) rfl fun a p q => ?_
  · simp only [hlate, each, List.foldl_cons, List.foldl_nil, hpath]
    exact if_pos hup
  · rw [noteSets_cell, finish_cell, State.cellEvt, cell_onCell (by simpa using hc), cell_onCell (by simpa using hc)]
    exact ⟨rfl, rfl, rfl⟩

theorem cellBypassTimeout_causes (s b : State) (t c a : Nat) (hb : b = s.begin t) (hat : (b.talk c).bypAt = some a) (hdue : a + 1280000000 ≤ b.now)
    (he : b.energised = true) (hst : (b.cell c).st ≠ 5) :
    Gives (.cellBypassTimeout t c) s [.seam, .modeQ] fun u => u.seam = (b.onTalk c fun k => { k with bypAt := none }).seam ∧
      u.modeQ = { s.modeQ with
      causes := s.modeQ.causes ++ [(11, c)] } := by
  subst hb
  refine gives_if (m := 528384) rfl (by rw [hat]; exact waitOver (k := 100 * Config.ms) hdue rfl) (if_pos (and_tt he (bne_iff_ne.mpr hst))) (by simp) rfl
    fun _ p q => ⟨by rw [noteSets_seam, finish_seam]; rfl, by rw [noteSets_modeQ, finish_modeQ]; rfl⟩

end Sys2Proof.Machine

/-! PROOFS. The cell commands accepted: CELL_REJOIN, CELL_ADMIT, CELL_BYPASS, CELL_EXCLUDE, CELL_FW_LOAD (R258, R266, R267, R269). -/
namespace Sys2Proof.Machine
open State

/-! ## A firmware load -/

theorem fwLoadFields {o n : Nat} {w : Word} (ho : o < 2 ^ 32) (hn : n < 2 ^ 32) : field (le 4 o ++ le 4 n ++ le 4 w.toNat) 0 4 = o ∧
    field (le 4 o ++ le 4 n ++ le 4 w.toNat) 4 4 = n ∧ fieldW (le 4 o ++ le 4 n ++ le 4 w.toNat) 8 = w := by
  simp only [List.append_assoc, fieldW, field_skip, field_le, field_only, Nat.reduceLeDiff, Nat.reduceSub]
  exact ⟨Nat.mod_eq_of_lt (by omega), Nat.mod_eq_of_lt (by omega), BitVec.eq_of_toNat_eq (by simpa using w.isLt)⟩

section
variable {z : State} {h : RecHdr} {p : Bytes}
theorem cellFwLoad_st (hc : h.target < z.seam.cells.length) : ((cmdCellFwLoad.act h p z).1.cell h.target).st = 7 := by
  obtain ⟨e, he⟩ := cellTo_cell (s := z.onTalk h.target fun t =>
    { talkDrop t with fwOfs := field p 0 4, fwLen := field p 4 4, fwCrc := fieldW p 8, fwPos := 0, fwOld := (z.cell h.target).fw }) (st := 7) (r := 0) hc
  exact (congrArg Cell.st (sendCtrl_cell.trans he)).trans rfl
/-- What a load keeps of the conversation is what the record names: FW_BEGIN touches the operations alone. -/
theorem cellFwLoad_talk {α : Type} (r : Talk → α)
    (hr : ∀ t a b d e f g, r { t with ctrl := a, queue := b, tag := d, sentNow := e, identTag := f, ident := g } = r t)
    (ht : h.target < z.seam.talks.length) : r ((cmdCellFwLoad.act h p z).1.talk h.target) = r { talkDrop (z.talk h.target) with
      fwOfs := field p 0 4, fwLen := field p 4 4, fwCrc := fieldW p 8, fwPos := 0, fwOld := (z.cell h.target).fw } :=
  (sendCtrl_talk r hr).trans (congrArg r (cellTo_talk.trans (talk_onTalk ht)))
end

/-! ## The commands accepted -/

theorem cellRejoin_joins (s b : State) (t : Nat) (h : RecHdr) (ha : Accepts cmdCellRejoin h [] (s.begin t)) (hb : b = s.begin t)
    (hc : h.target < b.seam.cells.length) :
    Gives (.cellRejoin t h) s ([.host, .jnl, .seam] ++ s.heldParts) fun u => (u.cell h.target).st = 1 ∧ (u.cell h.target).jstep = 1 := by
  subst hb
  refine ha.gives0 (m := 4100) rfl rfl (fun v => by simp [cmdCellRejoin]) rfl rfl fun x j u _ hu => ?_
  rw [cell_of (hu.wide.keeps .seam rfl)]
  exact joinStart_cell (by rw [filterClear_cells]; exact hc)

theorem cellAdmit_joins (s b : State) (t n : Nat) (h : RecHdr) (ha : Accepts cmdCellAdmit h (le 8 n) (s.begin t)) (hb : b = s.begin t) (hn : n < 2 ^ 64)
    (hc : h.target < b.seam.cells.length) (ht : h.target < b.seam.talks.length) :
    Gives (.cellAdmit t h n) s ([.host, .jnl, .seam] ++ s.heldParts) fun u => (u.cell h.target).st = 1 ∧ (u.cell h.target).jstep = 1 ∧
      (u.talk h.target).seat = some n := by
  subst hb
  have hserial : field (le 8 n) 0 8 = n := (field_only 8 n).trans (Nat.mod_eq_of_lt (by omega))
  refine ha.gives0 (m := 4100) rfl rfl (fun v => by simp [cmdCellAdmit]) rfl rfl fun x j u _ hu => ?_
  have hseam := hu.wide.keeps .seam rfl
  rw [cell_of hseam, talk_of hseam]
  refine (and_assoc.mp ⟨joinStart_cell hc, ?_⟩)
  refine joinStart_seat.trans ((congrArg Talk.seat (talk_onTalk ht)).trans ?_)
  exact congrArg some hserial

theorem cellBypass_asks (s b : State) (t : Nat) (h : RecHdr) (ha : Accepts cmdCellBypass h [] (s.begin t)) (hb : b = s.begin t)
    (ht : h.target < b.seam.talks.length) :
    Gives (.cellBypass t h) s ([.host, .jnl, .seam] ++ s.heldParts) fun u => (u.talk h.target).bypReq = true ∧ u.seam.cells = s.seam.cells := by
  subst hb
  refine ha.gives0 (m := 4100) rfl rfl (fun v => by simp [cmdCellBypass]) rfl rfl fun x j u _ hu => ?_
  have hseam := hu.wide.keeps .seam rfl
  rw [talk_of hseam]
  exact ⟨sendBypass_bypReq ht, (congrArg SeamB.cells hseam).trans sendBypass_cells⟩

theorem cellExclude_excludes (s b : State) (t : Nat) (h : RecHdr) (ha : Accepts cmdCellExclude h [] (s.begin t)) (hb : b = s.begin t)
    (hc : h.target < b.seam.cells.length) :
    Gives (.cellExclude t h) s ([.host, .jnl, .seam, .mode] ++ s.heldParts) fun u => (u.cell h.target).st = 6 ∧ (u.cell h.target).reason = 13 := by
  subst hb
  refine ha.gives0 (m := 266244) rfl rfl (fun v => by simp [cmdCellExclude]) rfl rfl fun x j u _ hu => ?_
  rw [cell_of (hu.wide.keeps .seam rfl)]
  exact exclude_cell hc

theorem cellFwLoad_begins (s b : State) (t o n : Nat) (w : Word) (h : RecHdr) (ha : Accepts cmdCellFwLoad h (le 4 o ++ le 4 n ++ le 4 w.toNat) (s.begin t))
    (hb : b = s.begin t) (ho : o < 2 ^ 32) (hn : n < 2 ^ 32) (hc : h.target < b.seam.cells.length) (ht : h.target < b.seam.talks.length) :
    Gives (.cellFwLoad t h o n w) s ([.host, .jnl, .seam] ++ s.heldParts) fun u => (u.cell h.target).st = 7 ∧ (u.talk h.target).fwOfs = o ∧
      (u.talk h.target).fwLen = n ∧ (u.talk h.target).fwCrc = w ∧ (u.talk h.target).fwPos = 0 := by
  subst hb
  obtain ⟨hofs, hlen, hcrc⟩ := fwLoadFields (w := w) ho hn
  refine ha.gives0 (m := 4100) rfl rfl (fun v => by simp [cmdCellFwLoad]) rfl rfl fun x j u _ hu => ?_
  have hseam := hu.wide.keeps .seam rfl
  rw [cell_of hseam, talk_of hseam]
  have hfw {α : Type} (r : Talk → α) hr := cellFwLoad_talk (z := (s.begin t).withHJ x j) (p := le 4 o ++ le 4 n ++ le 4 w.toNat) r hr ht
  exact ⟨cellFwLoad_st hc, (hfw (·.fwOfs) fun _ _ _ _ _ _ _ => rfl).trans hofs, (hfw (·.fwLen) fun _ _ _ _ _ _ _ => rfl).trans hlen,
    (hfw (·.fwCrc) fun _ _ _ _ _ _ _ => rfl).trans hcrc, hfw (·.fwPos) fun _ _ _ _ _ _ _ => rfl⟩

/-- Settles O27: each row and command by its own lemma, frames on the state that has heard them once. -/
theorem cellConversation : Obligations.CellConversation :=
  ⟨feed_taken, feed_late, feed_broken, ack_activates, nak_holds, babbleCut_excludes, identityAnswer_admits, identQueryTimer_asks, ctrlRetryTimeout_repeats,
    cellLostTimeout_loses, preTimeoutExpiry_excludes, fwRebootTimeout_excludes, tripBlockRepeat_sends, copyWindowExpiry_counts, cellBypassTimeout_causes,
    cellRejoin_joins, cellAdmit_joins, cellBypass_asks, cellExclude_excludes, cellFwLoad_begins⟩

end Sys2Proof.Machine

/-! PROOFS. Comparators: their stages, firing, self-checks and thresholds (R503 to R514). -/
namespace Sys2Proof.Machine
open State

section
variable {z : State} {k j : Nat} {nv : Int}

theorem cmp1_told {a : List (Nat × Nat)} {p q : Nat} : (noteSets a (finish p q z)).cmp1 k = z.cmp1 k := by
  rw [cmp1, noteSets_cmp, finish_cmp, ← cmp1]
theorem lt_of_cmp_on (h : (z.cmp1 k).on = true) : k < z.cmp.cmps.length := lt_of_getD (fun x : Cmp1 => x.on = true) h Bool.false_ne_true
theorem onCmp1_onCmp1 {f g : Cmp1 → Cmp1} : (z.onCmp1 k f).onCmp1 k g = z.onCmp1 k fun x => g (f x) := by simp only [onCmp1, onCmp, modAt_modAt]
theorem onCmp1_id {f : Cmp1 → Cmp1} (h : f (z.cmp1 k) = z.cmp1 k) : z.onCmp1 k f = z :=
  congrArg (fun l => { z with cmp := { z.cmp with cmps := l } }) (modAt_id {} h)

/-! ## The stages -/

theorem cmpStages_cmp1 (hn : (z.cmp1 k).nv = some nv) (ho : (z.cmp1 k).on = true) (hc : (z.cmp1 k).checking = false) : (z.cmpStages k).cmp1 k = { z.cmp1 k with
    hi := stageNext true (16 * nv) (thrLevel (z.cmp1 k).thrHi (cmpTrim k z)) (((z.cmpDecl k).hyst : Int) * 23437500) (z.cmp1 k).hi
    lo := stageNext false (16 * nv) (thrLevel (z.cmp1 k).thrLo (cmpTrim k z)) (((z.cmpDecl k).hyst : Int) * 23437500) (z.cmp1 k).lo } := by
  rw [cmpStages_on hn ho hc, cmp1_onCmp1 (lt_of_cmp_on ho)]
/-- The HI stage of a comparator over its threshold, or under it by more than the hysteresis (R503). -/
theorem cmpStages_over (hn : (z.cmp1 k).nv = some nv) (ho : (z.cmp1 k).on = true) (hc : (z.cmp1 k).checking = false)
    (hv : thrLevel (z.cmp1 k).thrHi (cmpTrim k z) < 16 * nv) : ∃ l, (z.cmpStages k).cmp1 k = { z.cmp1 k with hi := some true, lo := l } :=
  ⟨_, by rw [cmpStages_cmp1 hn ho hc, stageNext_up hv]⟩
theorem cmpStages_under (hn : (z.cmp1 k).nv = some nv) (ho : (z.cmp1 k).on = true) (hc : (z.cmp1 k).checking = false)
    (hv : 16 * nv < thrLevel (z.cmp1 k).thrHi (cmpTrim k z) - ((z.cmpDecl k).hyst : Int) * 23437500) :
    ∃ l, (z.cmpStages k).cmp1 k = { z.cmp1 k with hi := some false, lo := l } :=
  ⟨_, by rw [cmpStages_cmp1 hn ho hc, stageNext_down hv (by omega)]⟩

/-! ## Firing -/

/-- A comparator on its HI stage alone, in no check, fires with that stage (R504, R507). -/
theorem cmpFires_hi (hs : (z.cmpDecl k).sense = 1) (hc : (z.cmp1 k).checking = false) (ho : (z.cmp1 k).on = true) (hh : (z.cmp1 k).hi = some true) :
    z.cmpFires k = true := by
  simp [cmpFires, hs, hc, ho, hh]
theorem cmpFires_not_hi (hs : (z.cmpDecl k).sense = 1) (hc : (z.cmp1 k).checking = false) (hf : (z.cmp1 k).failed = false) (hh : (z.cmp1 k).hi = some false) :
    z.cmpFires k = false := by
  simp [cmpFires, cmpUnset, hs, hc, hf, hh]
/-- A comparator without the SAFETY flag whose stages have not settled does not fire (R506, R507). -/
theorem cmpFires_unsettled (hc : (z.cmp1 k).checking = false) (hf : (z.cmp1 k).failed = false) (hs : (z.wire k).safety = false) (hh : (z.cmp1 k).hi = none)
    (hl : (z.cmp1 k).lo = none) : z.cmpFires k = false := by
  simp [cmpFires, hc, hf, hs, hh, hl]
/-- What a comparator is once its firing state has been taken (R513). -/
theorem cmpEval_cmp1 (h : k < z.cmp.cmps.length) : (z.cmpEval k).cmp1 k = { z.cmp1 k with
    chgAt := if z.cmpFires k != (z.cmp1 k).firing then z.now + 1 else (z.cmp1 k).chgAt
    firing := z.cmpFires k, fired := (z.cmp1 k).fired || z.cmpFires k
    cnt := if z.cmpFires k && !(z.cmp1 k).firing then sat32 (z.cmp1 k).cnt 1 else (z.cmp1 k).cnt } :=
  (congrArg (·.getD k {}) cmpEval_cmps).trans (getD_modAt h)
/-- Without an input, a comparator that does not fire, and did not, follows nothing. -/
theorem cmpFollow_idle (hn : (z.cmp1 k).nv = none) (hf : z.cmpFires k = false) (hw : (z.cmp1 k).firing = false) : z.cmpFollow k = z := by
  unfold cmpFollow
  split
  · rw [cmpStages_none hn, cmpEval_quiet hf]
    refine onCmp1_id ?_
    simp only [hw, Bool.false_eq_true, if_false]
    rw [← hw]
  · rfl

/-! ## The end of a check -/

/-- A comparator as it starts with no input: on, its stages not settled, not firing (R506). -/
def unsettled (now : Nat) (x : Cmp1) : Cmp1 :=
  { x with on := true, hi := none, lo := none, checking := false, firing := false, chgAt := if x.firing then now + 1 else x.chgAt }
theorem cmpStart_unsettled (h : k < z.cmp.cmps.length) (hf : (z.cmp1 k).failed = false) (hn : (z.cmp1 k).nv = none) (hs : (z.wire k).safety = false) :
    z.cmpStart k = z.onCmp1 k (unsettled z.now) := by
  have hon : (z.onCmp1 k fun x => { x with on := true, hi := none, lo := none, checking := false }).cmpFires k = false :=
    cmpFires_unsettled (by rw [cmp1_onCmp1 h]) (by rw [cmp1_onCmp1 h]; exact hf) hs (by rw [cmp1_onCmp1 h]) (by rw [cmp1_onCmp1 h])
  have hx : (z.onCmp1 k (unsettled z.now)).cmp1 k = unsettled z.now (z.cmp1 k) := cmp1_onCmp1 h
  have hidle : (z.onCmp1 k (unsettled z.now)).cmpFollow k = z.onCmp1 k (unsettled z.now) :=
    cmpFollow_idle (by rw [hx]; exact hn) (cmpFires_unsettled (by rw [hx]; rfl) (by rw [hx]; exact hf) hs (by rw [hx]; rfl) (by rw [hx]; rfl)) (by rw [hx]; rfl)
  rw [cmpStart, cmpEval_quiet hon, onCmp1_onCmp1]
  exact hidle
/-- The check of the last comparator ends with no failing step (R511, R512). -/
theorem checkEnd_passes (h : k < z.cmp.cmps.length) (hc : z.cmp.checks = [k]) (hn : (z.cmp1 k).nv = none) (hs : (z.wire k).safety = false) :
    Frame 2097152 z (z.checkEnd k checkWant) ∧ (z.checkEnd k checkWant).cmp = { z.cmp with
      checks := [], flt := z.cmp.flt ||| 0x10000000, fltCmp := k
      cmps := modAt z.cmp.cmps k fun x => unsettled z.now { x with failed := false, checking := false } } := by
  obtain ⟨y, hy⟩ : ∃ y, y = (z.onCmp1 k fun x => { x with failed := false, checking := false }).onCmp fun c =>
    { c with flt := c.flt ||| 0x10000000 ||| 0, fltCmp := k, checks := c.checks.filter (· != k) } := ⟨_, rfl⟩
  have hyk : y.cmp1 k = { z.cmp1 k with failed := false, checking := false } := by rw [hy]; exact cmp1_onCmp1 h
  have hstart := cmpStart_unsettled (z := y) (k := k) (by rw [hy]; simpa using h) (by rw [hyk]) (by rw [hyk]; exact hn) (by rw [hy]; exact hs)
  have hchecks : (y.cmpStart k).cmp.checks = [] := by
    rw [hstart, hy]
    simp [hc]
  have hend : z.checkEnd k checkWant = y.cmpStart k := by
    have hpass : failStep checkWant = none := by decide
    simp only [checkEnd, hpass, Option.isSome_none, Bool.false_eq_true, if_false, ← hy, hchecks, List.head?_nil]
  rw [hend, hstart, hy]
  exact ⟨by simp, by simp [hc]⟩
end

/-! ## The rows -/

theorem comparatorStageChange_latches (s b : State) (t k : Nat) (nv : Int) (hb : b = s.begin t) (hi : b.inForce = true) (hsi : (b.cmpDecl k).si = 0)
    (hsense : (b.cmpDecl k).sense = 1) (hon : (b.cmp1 k).on = true) (hc : (b.cmp1 k).checking = false)
    (hv : State.thrLevel (b.cmp1 k).thrHi (State.cmpTrim k b) < 16 * nv) (hbl : b.cmpBlanked k = false) (hl : b.latched k = false) :
    Gives (.comparatorStageChange t k nv) s [.free, .seam, .edg, .bnc, .evs, .cmp, .mesh] fun u =>
      u.cmp.latch = s.cmp.latch.set k true ∧ (u.cmp1 k).fired = true ∧
      (u.cmp1 k).hi = some true ∧ (u.cmp1 k).firing = true ∧ (u.cmp1 k).cnt = if (b.cmp1 k).firing then (b.cmp1 k).cnt else sat32 (b.cmp1 k).cnt 1 := by
  subst hb
  have hk := lt_of_cmp_on hon
  obtain ⟨z, hz⟩ : ∃ z, z = (s.begin t).onCmp1 k fun x => { x with nv := some nv } := ⟨_, rfl⟩
  have hzk : z.cmp1 k = { (s.begin t).cmp1 k with nv := some nv } := hz ▸ cmp1_onCmp1 hk
  obtain ⟨l, hover⟩ := cmpStages_over (z := z) (k := k) (nv := nv) (by rw [hzk]) (by rw [hzk]; exact hon) (by rw [hzk]; exact hc)
    (by rw [hzk]; subst hz; exact hv)
  have hfires : (z.cmpStages k).cmpFires k = true :=
    cmpFires_hi (by subst hz; exact hsense) (by rw [hover, hzk]; exact hc) (by rw [hover, hzk]; exact hon) (by rw [hover])
  refine execComparatorStageChange_goes.givesRun rfl rfl fun a p q => ?_
  rw [← hz, cmpFollow, if_pos (by subst hz; exact hsi), noteSets_cmp, finish_cmp, cmp1_told, cmpEval_cmp1 (by subst hz; simpa [cmpStages] using hk), hfires, hover, hzk]
  refine ⟨?_, Bool.or_true _, rfl, rfl, ?_⟩
  · subst hz
    exact cmpEval_latch hfires hbl hl hi
  · cases ((s.begin t).cmp1 k).firing <;> rfl

theorem sampledWindow_quiet (s b : State) (t k : Nat) (nv : Int) (hb : b = s.begin t) (hsi : (b.cmpDecl k).si ≠ 0) (hsense : (b.cmpDecl k).sense = 1)
    (hon : (b.cmp1 k).on = true) (hc : (b.cmp1 k).checking = false) (hf : (b.cmp1 k).failed = false)
    (hlo : 1792 ≤ b.sysTime % ((b.cmpDecl k).si * 12800)) (hhi : b.sysTime % ((b.cmpDecl k).si * 12800) ≤ 2560)
    (hw : (b.cmp1 k).winAt ≠ b.sysTime / ((b.cmpDecl k).si * 12800) + 1)
    (hv : 16 * nv < State.thrLevel (b.cmp1 k).thrHi (State.cmpTrim k b) - (b.cmpDecl k).hyst * 23437500) :
    Gives (.sampledWindow t k nv) s [.cmp] fun u =>
      (u.cmp1 k).hi = some false ∧ (u.cmp1 k).firing = false ∧ (u.cmp1 k).nv = some nv ∧ u.cmp.latch = s.cmp.latch := by
  subst hb
  have hk := lt_of_cmp_on hon
  obtain ⟨z, hz⟩ : ∃ z, z = (s.begin t).onCmp1 k fun x =>
    { x with nv := some nv, winAt := (s.begin t).sysTime / (((s.begin t).cmpDecl k).si * Config.us) + 1 } := ⟨_, rfl⟩
  have hzk : z.cmp1 k = { (s.begin t).cmp1 k with nv := some nv, winAt := (s.begin t).sysTime / (((s.begin t).cmpDecl k).si * Config.us) + 1 } :=
    hz ▸ cmp1_onCmp1 hk
  obtain ⟨l, hunder⟩ := cmpStages_under (z := z) (k := k) (nv := nv) (by rw [hzk]) (by rw [hzk]; exact hon) (by rw [hzk]; exact hc)
    (by rw [hzk]; subst hz; exact hv)
  have hquiet : (z.cmpStages k).cmpFires k = false :=
    cmpFires_not_hi (by subst hz; exact hsense) (by rw [hunder, hzk]; exact hc) (by rw [hunder, hzk]; exact hf) (by rw [hunder])
  have hact : (z.cmpStages k).cmpEval k = (z.cmpStages k).onCmp1 k fun x => { x with chgAt := if x.firing then (z.cmpStages k).now + 1 else x.chgAt, firing := false } :=
    cmpEval_quiet hquiet
  refine gives_if (m := 2097152) rfl ?_ ((congrArg (fun y => cmpEval k (cmpStages k y)) hz.symm).trans hact) (by simp [hz]) rfl fun a p q => ?_
  · have hw0 : ((s.begin t).cmpDecl k).si * Config.us ≠ 0 := Nat.mul_ne_zero hsi (by decide)
    exact and_tt (and_tt (and_tt (bne_iff_ne.mpr hw0) hon) (decide_eq_true ⟨hlo, hhi⟩)) (bne_iff_ne.mpr hw)
  · rw [cmp1_told, cmp1_onCmp1 (by subst hz; simpa [cmpStages] using hk), hunder, hzk, noteSets_cmp, finish_cmp]
    exact ⟨rfl, rfl, rfl, by rw [hz]; rfl⟩

theorem comparatorStageChange_sampled (s b : State) (t k : Nat) (nv : Int) (hb : b = s.begin t) (hsi : (b.cmpDecl k).si ≠ 0) :
    Gives (.comparatorStageChange t k nv) s [.cmp] fun u => u.cmp = { s.cmp with
      cmps := modAt s.cmp.cmps k fun x => { x with nv := some nv } } := by
  subst hb
  exact gives_as (m := 2097152) rfl (if_neg hsi) (by simp) rfl fun a p q => by rw [noteSets_cmp, finish_cmp]; rfl

theorem cmpPowerupChecks_begins (s b : State) (t k : Nat) (l : List Nat) (hb : b = s.begin t) (hd : b.pwr.dom.testBit 13 = true) (hi : b.inForce = true)
    (hnone : b.cmp.cmps.any (·.checking) = false) (hchecks : b.cmp.checks = k :: l) :
    Gives (.cmpPowerupChecks t) s [.cmp] fun u => u.cmp = { s.cmp with
      cmps := modAt s.cmp.cmps k fun x => { x with checking := true, frozen := x.firing, checkAt := b.now } } := by
  subst hb
  have hact : (s.begin t).checksBegin = (s.begin t).checkBegin k := by rw [checksBegin, hchecks]; rfl
  exact gives_if (m := 2097152) rfl (and_tt (and_tt hd hi) (by rw [hnone]; rfl)) hact (by simp) rfl fun a p q => by rw [noteSets_cmp, finish_cmp]; rfl

theorem cmpCheckEnd_passes (s b : State) (t k : Nat) (hb : b = s.begin t) (hc : (b.cmp1 k).checking = true) (hat : (b.cmp1 k).checkAt + 51200 = b.now)
    (hchecks : b.cmp.checks = [k]) (hn : (b.cmp1 k).nv = none) (hs : (b.wire k).safety = false) :
    Gives (.cmpCheckEnd t k [(0, 1), (1, 0), (1, 0), (0, 1)]) s [.cmp] fun u => u.cmp = { s.cmp with
      checks := [], flt := s.cmp.flt ||| 0x10000000, fltCmp := k
      cmps := modAt s.cmp.cmps k fun x => { x with checking := false, failed := false, on := true, hi := none, lo := none, firing := false, chgAt := if x.firing then b.now + 1 else x.chgAt } } := by
  subst hb
  have hk : k < (s.begin t).cmp.cmps.length := lt_of_getD (fun x : Cmp1 => x.checking = true) hc Bool.false_ne_true
  obtain ⟨hframe, hcmp⟩ := checkEnd_passes hk hchecks hn hs
  exact tight (m := 2097152) rfl (and_tt hc (beq_iff_eq.mpr hat)) hframe rfl fun a p q => by rw [noteSets_cmp, finish_cmp]; exact hcmp

theorem thresholdStep_steps (s b : State) (t k : Nat) (hb : b = s.begin t) (hk : k < b.cmp.cmps.length) (hlo : (b.cmp1 k).tgtLo = (b.cmp1 k).thrLo)
    (hhi : (b.cmp1 k).thrHi < (b.cmp1 k).tgtHi) (hat : (b.cmp1 k).thrAt + 1280 = b.now) :
    Gives (.thresholdStep t k) s [.free, .seam, .edg, .bnc, .evs, .cmp, .mesh] fun u =>
      (u.cmp1 k).thrHi = (b.cmp1 k).thrHi + 1 ∧ (u.cmp1 k).thrLo = (b.cmp1 k).thrLo ∧ (u.cmp1 k).thrAt = b.now := by
  subst hb
  refine execThresholdStep_goes.givesIf rfl (and_tt (by simp [hlo, Nat.ne_of_lt hhi]) (beq_iff_eq.mpr hat)) rfl fun a p q => ?_
  obtain ⟨h1, h2, h3⟩ := cmpFollow_keeps (s := (s.begin t).onCmp1 k _) (k := k) (by simpa using hk)
  rw [cmp1_told, h1, h2, h3, cmp1_onCmp1 hk]
  refine ⟨if_pos hhi, ?_, rfl⟩
  rw [hlo]
  simp

end Sys2Proof.Machine

/-! PROOFS. Blanking, trip pins, TRIPN, cell trips, and the trip commands (R241, R508 to R525). -/
namespace Sys2Proof.Machine
open State

/-! ## Blanking timers -/

theorem blankingStart_marks (s b : State) (t n : Nat) (w : Nat × Nat) (hb : b = s.begin t) (hw : w ∈ at' b.cmp.blanks n []) (hat : w.1 = b.now) :
    Gives (.blankingStart t n) s [.cmp] fun u => u.cmp = { s.cmp with
      blankOn := s.cmp.blankOn.set n true } := by
  subst hb
  exact execBlankingStart_goes.givesIf rfl (List.any_eq_true.mpr ⟨w, hw, beq_iff_eq.mpr hat⟩) rfl fun a p q => by rw [noteSets_cmp, finish_cmp]; rfl

/-- The last window of a timer ends: the row acts. -/
theorem blankingEnd_acts {b : State} {n : Nat} (hw : ∃ w ∈ at' b.cmp.blanks n [], w.2 = b.now) (ha : b.blankActive n = false) :
    ((at' b.cmp.blanks n []).any (fun w => w.2 == b.now) && !b.blankActive n) = true := by
  obtain ⟨w, hmem, hend⟩ := hw
  exact and_tt (List.any_eq_true.mpr ⟨w, hmem, beq_iff_eq.mpr hend⟩) (by rw [ha]; rfl)

theorem blankingEnd_drops (s b : State) (t n : Nat) (hb : b = s.begin t) (hw : ∃ w ∈ at' b.cmp.blanks n [], w.2 = b.now) (ha : b.blankActive n = false) :
    Gives (.blankingEnd t n) s [.free, .seam, .edg, .bnc, .evs, .cmp, .mesh] fun u =>
      u.cmp.blankOn = s.cmp.blankOn.set n false ∧ ∀ w ∈ at' s.cmp.blanks n [], b.now < w.2 → w ∈ at' u.cmp.blanks n [] := by
  subst hb
  refine execBlankingEnd_goes.givesIf rfl (blankingEnd_acts hw ha) rfl fun a p q => ?_
  rw [noteSets_cmp, finish_cmp]
  exact ⟨each_cmpEval_blank.1, fun w hmem hlater => each_cmpEval_blank.2 n w (blankEnd_mem hmem hlater) (Nat.le_of_lt hlater)⟩

theorem blankingEnd_latches (s b : State) (t n k : Nat) (hb : b = s.begin t) (hw : ∃ w ∈ at' b.cmp.blanks n [], w.2 = b.now) (ha : b.blankActive n = false)
    (hk : k < 24) (hmask : ∀ j < 24, (b.cmpDecl j).blank.testBit n = decide (j = k)) (hf : b.cmpFires k = true) (hbl : b.cmpBlanked k = false)
    (hl : b.latched k = false) (hi : b.inForce = true) :
    Gives (.blankingEnd t n) s [.free, .seam, .edg, .bnc, .evs, .cmp, .mesh] fun u => u.cmp.latch = s.cmp.latch.set k true := by
  subst hb
  refine execBlankingEnd_goes.givesIf rfl (blankingEnd_acts hw ha) rfl fun a p q => ?_
  have hone : ((List.range 24).filter fun j => ((s.begin t).cmpDecl j).blank.testBit n) = [k] :=
    (List.filter_congr fun j hj => hmask j (List.mem_range.mp hj)).trans (range24_one hk)
  rw [noteSets_cmp, finish_cmp]
  refine (congrArg (fun l => (each l cmpEval _).cmp.latch) hone).trans ?_
  exact cmpEval_latch hf (blankEnd_blanked hbl) hl hi

/-! ## Pins, TRIPN and cells -/

theorem tripPinFilter_latches (s b : State) (t i n : Nat) (high : Bool) (hb : b = s.begin t) (hd : b.pwr.dom.testBit 13 = true)
    (hact : high ≠ (b.wire (24 + i)).actLow) (hn : (b.wire (24 + i)).filt < n) (hi : i < 8) (hf : b.inForce = true) (hl : b.latched (24 + i) = false) :
    Gives (.tripPinFilter t i high n) s [.free, .seam, .edg, .bnc, .evs, .cmp, .mesh] fun u =>
      u.cmp.pinHigh = s.cmp.pinHigh.set i high ∧ u.cmp.pinAct = s.cmp.pinAct.set i true ∧ u.cmp.latch = s.cmp.latch.set (24 + i) true := by
  subst hb
  have hne : (high != ((s.begin t).wire (24 + i)).actLow) = true := bne_iff_ne.mpr hact
  refine gives_if (m := 10661900) (w := ((s.begin t).onCmp fun c => { c with pinHigh := c.pinHigh.set i high, pinAct := c.pinAct.set i true }).fireTrip (24 + i))
    rfl (and_tt hd (by simp [hne, hn])) ?_ (by simp) rfl fun a p q => ?_
  · simp only [hne, Bool.true_and]
    exact if_pos (decide_eq_true hi)
  · rw [noteSets_cmp, finish_cmp]
    exact ⟨fireTrip_pinHigh, fireTrip_pinAct, fireTrip_latch hf hl⟩

theorem tripPinFilter_idle (s b : State) (t i n : Nat) (high : Bool) (hb : b = s.begin t) (hd : b.pwr.dom.testBit 13 = true)
    (hact : high = (b.wire (24 + i)).actLow) (hn : 0 < n) :
    Gives (.tripPinFilter t i high n) s [.cmp] fun u => u.cmp = { s.cmp with
      pinHigh := s.cmp.pinHigh.set i high, pinAct := s.cmp.pinAct.set i false } := by
  subst hb
  have hne : (high != ((s.begin t).wire (24 + i)).actLow) = false := bne_eq_false_iff_eq.mpr hact
  refine gives_if (m := 2097152) (w := (s.begin t).onCmp fun c => { c with pinHigh := c.pinHigh.set i high, pinAct := c.pinAct.set i false })
    rfl (and_tt hd (by simp [hne, hn])) ?_ (by simp) rfl fun a p q => by rw [noteSets_cmp, finish_cmp]; rfl
  simp only [hne, Bool.false_and, Bool.false_eq_true, if_false]

/-- TRIPN's input is taken: not driven here, nor released here so lately that it is ignored (R517). -/
theorem tripnDeaf_false {z : State} (hd : z.cmp.driving = false) (hi : z.cmp.ignoring = true → z.cmp.ignoreEnd + 640 ≤ z.now) : z.tripnDeaf = false := by
  cases h : z.cmp.ignoring with
  | false => simp [State.tripnDeaf, hd, h]
  | true => simp [State.tripnDeaf, hd, hi h]

theorem tripnLow_latches (s b : State) (t : Nat) (hb : b = s.begin t) (hd : b.cmp.driving = false)
    (hig : b.cmp.ignoring = true → b.cmp.ignoreEnd + 640 ≤ b.now) (hi : b.inForce = true) (hl : b.latched 32 = false) :
    Gives (.tripnLow t true) s [.free, .seam, .edg, .bnc, .evs, .cmp, .mesh] fun u => u.cmp.busLow = true ∧ u.cmp.latch = s.cmp.latch.set 32 true := by
  subst hb
  have hdeaf : ((s.begin t).onCmp fun c => { c with busLow := true }).tripnDeaf = false := tripnDeaf_false hd hig
  refine gives_as (m := 10661900) rfl (if_pos (by rw [hdeaf]; rfl)) (by simp) rfl fun a p q => ?_
  rw [noteSets_cmp, finish_cmp]
  exact ⟨fireTrip_busLow, fireTrip_latch hi hl⟩

theorem tripnIgnoreEnd_takes (s b : State) (t : Nat) (hb : b = s.begin t) (hi : b.cmp.ignoring = true) (hd : b.cmp.driving = false)
    (hend : b.cmp.ignoreEnd ≤ b.now) (hl : b.cmp.busLow = false) :
    Gives (.tripnIgnoreEnd t) s [.cmp] fun u => u.cmp = { s.cmp with
      ignoring := false } := by
  subst hb
  exact gives_if (m := 2097152) (w := (s.begin t).onCmp fun c => { c with ignoring := false }) rfl (and_tt (and_tt hi (by rw [hd]; rfl)) (decide_eq_true hend))
    (if_neg fun h => Bool.false_ne_true (hl.symm.trans h)) (by simp) rfl fun a p q => by rw [noteSets_cmp, finish_cmp]; rfl

theorem cellTripBlock_latches (s b : State) (t : Nat) (x : LaneRx) (hb : b = s.begin t) (hlane : x.lane < 32) (hh : b.laneHears x.lane = true)
    (hk : laneKind .trip x ≠ []) (hi : b.inForce = true) (hl : b.latched 34 = false) :
    Gives (.cellTripBlock t x) s [.free, .seam, .edg, .bnc, .evs, .cmp, .mesh] fun u =>
      u.cmp.latch = s.cmp.latch.set 34 true ∧ u.cmp.cellAt = some b.now ∧ u.cmp.cellSeam = x.lane / 2 := by
  subst hb
  refine execCellTripBlock_goes.givesIf rfl (and_tt (and_tt (decide_eq_true hlane) hh) (by simpa using hk)) rfl fun a p q => ?_
  rw [noteSets_cmp, finish_cmp]
  exact ⟨fireTrip_latch hi hl, fireTrip_cellAt, fireTrip_cellSeam.trans (if_neg (by rw [hl]; decide))⟩

/-! ## The commands accepted, and the release that lands -/

theorem relList_one {z : State} {w : Nat} (h : w < 35) : z.relList w = [w] := if_neg (by omega)
theorem tripRelease_asks (s : State) (t w : Nat) (h : RecHdr) (ha : Accepts cmdTripRelease h [] (s.begin t)) (ht : h.target = w) (hw : w < 35) :
    Gives (.tripRelease t h) s ([.host, .jnl, .cmp] ++ s.heldParts) fun u => u.cmp = { s.cmp with
      releases := s.cmp.releases ++ [w] } := by
  refine ha.gives0 (m := 2097152) rfl rfl (fun v => by simp [cmdTripRelease]) rfl rfl fun x j u _ hu => (hu.wide.keeps .cmp rfl).trans ?_
  simp only [cmdTripRelease, ht, relList_one hw]
  rfl

theorem cmpThresh_targets (s : State) (t lo hi : Nat) (h : RecHdr) (ha : Accepts cmdCmpThresh h (le 2 lo ++ le 2 hi) (s.begin t)) (hlo : lo < 1024)
    (hhi : hi < 1024) :
    Gives (.cmpThresh t h lo hi) s ([.host, .jnl, .cmp] ++ s.heldParts) fun u => u.cmp = { s.cmp with
      cmps := modAt s.cmp.cmps h.target fun x => { x with tgtLo := lo, tgtHi := hi, thrAt := max s.now t } } := by
  have hflo : field (le 2 lo ++ le 2 hi) 0 2 = lo := field_le_of_lt (by omega)
  have hfhi : field (le 2 lo ++ le 2 hi) 2 2 = hi := by
    rw [field_skip _ _ _ _ _ (Nat.le_refl 2), field_only]
    omega
  refine ha.gives0 (m := 2097152) rfl rfl (fun v => by simp [cmdCmpThresh]) rfl rfl fun x j u _ hu => (hu.wide.keeps .cmp rfl).trans ?_
  simp only [cmdCmpThresh, hflo, hfhi]
  rfl

theorem cmpCheck_begins (s : State) (t : Nat) (h : RecHdr) (ha : Accepts cmdCmpCheck h [] (s.begin t)) :
    Gives (.cmpCheck t h) s ([.host, .jnl, .cmp] ++ s.heldParts) fun u => u.cmp = { s.cmp with
      cmps := modAt s.cmp.cmps h.target fun x => { x with checking := true, frozen := x.firing, checkAt := max s.now t } } :=
  ha.gives0 (m := 2097152) rfl rfl (fun v => by simp [cmdCmpCheck, checkBegin]) rfl rfl fun _ _ _ _ hu => (hu.wide.keeps .cmp rfl).trans rfl

/-- What is latched once some sources are released (R525). -/
theorem clearTrips_latched {z : State} {l : List Nat} {i : Nat} : (z.clearTrips l).latched i = (z.latched i && !l.contains i) := by
  rw [latched, clearTrips_latch, latched, at', at', List.getD, List.getD, List.getElem?_mapIdx]
  cases z.cmp.latch[i]? <;> rfl
theorem tripReleaseLanding_clears (s b : State) (t w : Nat) (hb : b = s.begin t) (hr : b.cmp.releases = [w]) (hf : b.stillFires w = false) :
    Gives (.tripReleaseLanding t) s [.seam, .comp, .cmp] fun u => u.cmp.releases = [] ∧ u.latched w = false ∧ ∀ i, i ≠ w → u.latched i = s.latched i := by
  subst hb
  have hfree : ((s.begin t).cmp.releases.filter fun w => !(s.begin t).stillFires w) = [w] := by
    rw [hr, List.filter_singleton, hf]
    rfl
  refine gives_as (m := 2117636) (w := ((s.begin t).onCmp fun c => { c with releases := [] }).clearTrips [w]) rfl (by simp only [hfree]) (by simp) rfl fun a p q => ?_
  have htold (i : Nat) : (noteSets a (finish p q (((s.begin t).onCmp fun c => { c with releases := [] }).clearTrips [w]))).latched i =
      (s.latched i && !(List.contains [w] i)) := Eq.trans (latched_finish (p := p) (q := q)) clearTrips_latched
  refine ⟨by rw [noteSets_cmp, finish_cmp, clearTrips_rel]; rfl, ?_, fun i hi => ?_⟩
  · rw [htold]
    simp
  · rw [htold]
    simp [hi]

/-- Settles O37: each row and command by its own lemma; a source that fires latches by fireTrip_latch, a comparator by cmpEval_latch. -/
theorem comparatorsAndTrips : Obligations.ComparatorsAndTrips :=
  ⟨comparatorStageChange_latches, sampledWindow_quiet, comparatorStageChange_sampled, cmpPowerupChecks_begins, cmpCheckEnd_passes, thresholdStep_steps,
    blankingStart_marks, blankingEnd_drops, blankingEnd_latches, tripPinFilter_latches, tripPinFilter_idle, tripnLow_latches, tripnIgnoreEnd_takes,
    tripRelease_asks, cmpThresh_targets, cmpCheck_begins, tripReleaseLanding_clears, cellTripBlock_latches⟩

end Sys2Proof.Machine

/-! PROOFS. The mesh between nodes: frames passed on, discovery, conversations, time, links, floods, words (R304, R581 to R594, R601, R603, R626). -/
namespace Sys2Proof.Machine
open State

/-! ## Frames of one stretch (R579, R581, R586) -/

section
variable {s b w : State} {t typ m n : Nat} {x : PortRx} {h : MHdr} {p : Bytes} {c : Instr} {l : List Part} {F : State → Prop} {take : MHdr → Bytes → State → State}

/-- A row that a frame for this node brings: what it does to the state the frame has come into. -/
theorem FrameFor.gives (hf : FrameFor x h p (s.begin t)) (ht : h.typ = typ) (h8 : typ ≠ 8) (hb : b = (s.begin t).brought x h p)
    (hn : n = (s.begin t).senderOf x.port h) (e : exec c s = .next (s.run t (meshIn x typ take))) (hw : take { h with src := n } p b = w) (hm : Frame m b w)
    (k : (8388612 ||| m) ||| maskOfParts (.now :: .out :: l) = maskOfParts (.now :: .out :: l)) (hF : ∀ a p q, F (noteSets a (finish p q w))) : Gives c s l F := by
  subst hb hn
  refine gives_as e ((hf.isIn ht h8).trans hw) (Frame.trans (brought_frame.widen ?_) (hm.widen ?_)) k hF
  · rw [← Nat.or_assoc, Nat.or_self]
  · rw [Nat.or_comm 8388612, ← Nat.or_assoc, Nat.or_self]

/-- The same for a row that acts under a condition. -/
theorem FrameFor.givesIf {cond : State → Bool} (hf : FrameFor x h p (s.begin t)) (ht : h.typ = typ) (h8 : typ ≠ 8) (hb : b = (s.begin t).brought x h p)
    (hn : n = (s.begin t).senderOf x.port h) (e : exec c s = .next (s.runIf t cond (meshIn x typ take))) (hc : cond (s.begin t) = true)
    (hw : take { h with src := n } p b = w) (hm : Frame m b w)
    (k : (8388612 ||| m) ||| maskOfParts (.now :: .out :: l) = maskOfParts (.now :: .out :: l)) (hF : ∀ a p q, F (noteSets a (finish p q w))) : Gives c s l F :=
  hf.gives ht h8 hb hn (e.trans (by rw [runIf_of _ _ _ _ hc])) hw hm k hF

/-- One frame is handled by its TYPE's row. -/
theorem meshIn_one {crc : Nat} {z : State} (hp : z.portTakes x.port = true) (hx : meshFrames x = [(h, p, crc)]) (ht : h.typ = typ) :
    meshIn x typ take z = frameIn x.port (typ == 8) take (h, p, crc) z := by
  unfold meshIn
  rw [if_neg (by simp [hp]), hx, List.filter_singleton, ht, beq_self_eq_true]
  rfl

/-- A frame handed on joins those that wait at its output, with the CRC of its new header where it held under the old one. -/
theorem relay_queues {o : Nat} {h' : MHdr} {z : State} (hc : meshClass h'.typ ≠ 1) :
    relay o h h' p (meshCrc h p) z = z.onMesh fun m => { m with ports := modAt m.ports o fun y => { y with queue := y.queue ++ [{ hdr := h', body := .relay p (meshCrc h' p) }] } } := by
  unfold relay
  rw [portPut_waits hc, Nat.xor_self, Nat.zero_xor]

theorem frameIn_path {z : State} (hm : z.isForMe h = false) (hp : h.path = true) :
    frameIn x.port false take (h, p, meshCrc h p) z = relay (pathOn x.port h).1 h (pathOn x.port h).2 p (meshCrc h p) z := by
  unfold frameIn
  simp only [beq_self_eq_true, hm, hp, if_true, Bool.false_eq_true, if_false]
theorem frameIn_route {z : State} (hm : z.isForMe h = false) (hp : h.path = false) (hd : z.ownDesc.isSome = true) :
    frameIn x.port false take (h, p, meshCrc h p) z = relay (z.routePort h.dst) h h p (meshCrc h p) z := by
  unfold frameIn
  simp only [beq_self_eq_true, hm, hp, hd, if_true, Bool.false_eq_true, if_false]
end

/-- What a change of one entry leaves alone of every entry. -/
theorem getD_modAt_kept {α β : Type} {l : List α} {i k : Nat} {d : α} {f : α → α} (g : α → β) (h : ∀ x, g (f x) = g x) :
    g ((modAt l i f).getD k d) = g (l.getD k d) := by
  rw [List.getD, List.getD, getElem?_modAt]
  split
  · cases l[k]? with
    | none => rfl
    | some x => exact h x
  · rfl
/-- A frame that waits at a port, or leaves by it, is not counted there. -/
theorem relay_crc {o k crc : Nat} {h h' : MHdr} {p : Bytes} {z : State} : (at' (relay o h h' p crc z).mesh.ports k {}).crc = (at' z.mesh.ports k {}).crc := by
  unfold relay portPut
  split
  · split <;> rfl
  · exact getD_modAt_kept PortS.crc fun _ => rfl

section
variable {z : State} {typ crc : Nat} {x : PortRx} {h : MHdr} {p : Bytes} {take : MHdr → Bytes → State → State}

theorem crcErr_counts {port : Nat} (ht : typ ≠ 6) : z.crcErr port typ = z.onMesh fun m => { m with ports := modAt m.ports port fun y => { y with crc := sat32 y.crc 1 } } :=
  if_neg ht
/-- A frame for this node whose CRC fails is counted, and goes on to the partner as it came. -/
theorem frameIn_bad (hm : z.isForMe h = true) (hc : crc ≠ meshCrc h p) (ht : h.typ ≠ 6) :
    frameIn x.port false take (h, p, crc) z = z.crcErr x.port h.typ ∨
      ∃ h', frameIn x.port false take (h, p, crc) z = relay 0 h h' p crc (z.crcErr x.port h.typ) := by
  have hgood : (crc == meshCrc h p) = false := beq_eq_false_iff_ne.mpr hc
  have hmine : (z.crcErr x.port h.typ).isForMe h = true := by
    rw [crcErr_counts ht]
    exact hm
  unfold frameIn
  simp only [hgood, hmine, if_true, Bool.false_eq_true, if_false]
  split
  · exact .inr ⟨_, rfl⟩
  · exact .inl rfl
/-- It leaves the conversations alone. -/
theorem meshIn_bad (hp : z.portTakes x.port = true) (hx : meshFrames x = [(h, p, crc)]) (ht : h.typ = typ) (h6 : typ ≠ 6) (h8 : typ ≠ 8)
    (hm : z.isForMe h = true) (hc : crc ≠ meshCrc h p) :
    Frame 8388612 z (meshIn x typ take z) ∧ (meshIn x typ take z).mesh.convs = z.mesh.convs ∧
      (x.port < z.mesh.ports.length → (at' (meshIn x typ take z).mesh.ports x.port {}).crc = sat32 (at' z.mesh.ports x.port {}).crc 1) := by
  subst ht
  have hcount := crcErr_counts (z := z) (port := x.port) h6
  have hframe : Frame 8388612 z (z.crcErr x.port h.typ) := by
    rw [hcount]
    simp
  have hconvs : (z.crcErr x.port h.typ).mesh.convs = z.mesh.convs := by rw [hcount]; rfl
  have hcounted : x.port < z.mesh.ports.length → (at' (z.crcErr x.port h.typ).mesh.ports x.port {}).crc = sat32 (at' z.mesh.ports x.port {}).crc 1 := fun hl => by
    rw [hcount]
    exact congrArg PortS.crc (getD_modAt hl)
  rw [meshIn_one hp hx rfl, beq_eq_false_iff_ne.mpr h8]
  obtain e | ⟨h', e⟩ := frameIn_bad (x := x) (take := take) hm hc h6
  · rw [e]
    exact ⟨hframe, hconvs, hcounted⟩
  · rw [e, relay_crc]
    obtain ⟨ports, hports⟩ := relay_mesh (p := 0) (crc := crc) (h := h) (h' := h') (pay := p) (s := z.crcErr x.port h.typ)
    exact ⟨hframe.trans relay_frame, (congrArg Mesh.convs hports).trans hconvs, hcounted⟩
end

theorem meshAck_passesOn (s b : State) (t q st crc : Nat) (x : PortRx) (h : MHdr) (p : Bytes) (hb : b = s.begin t) (hx : b.portTakes x.port = true)
    (hw : meshFrames x = [(h, p, crc)]) (ht : h.typ = 2) :
    (b.isForMe h = true → crc ≠ meshCrc h p → Gives (.meshAck t x q st) s [.mesh] fun u => u.mesh.convs = b.mesh.convs ∧
      (x.port < b.mesh.ports.length → (at' u.mesh.ports x.port {}).crc = sat32 (at' b.mesh.ports x.port {}).crc 1)) ∧
    (b.isForMe h = false → crc = meshCrc h p → h.path = true → Gives (.meshAck t x q st) s [.mesh] fun u => ∀ h', h' = { h with
        word := h.word / 4 % 2 ^ 30 + x.port % 4 * 2 ^ 30, hops := h.hops - 1 } →
      u.mesh = { b.mesh with ports := modAt b.mesh.ports (h.word % 4) fun y => { y with
        queue := y.queue ++ [{ hdr := h', body := .relay p (meshCrc h' p) }] } }) ∧
    (b.isForMe h = false → crc = meshCrc h p → h.path = false → b.ownDesc.isSome = true → Gives (.meshAck t x q st) s [.mesh] fun u =>
      u.mesh = { b.mesh with ports := modAt b.mesh.ports (b.routePort h.dst) fun y => { y with
        queue := y.queue ++ [{ hdr := h, body := .relay p crc }] } }) := by
  subst hb
  have hclass : meshClass h.typ ≠ 1 := by rw [ht]; decide
  refine ⟨fun hm hc => ?_, fun hm hc hp => ?_, fun hm hc hp hd => ?_⟩
  · refine gives_as rfl rfl (meshIn_bad hx hw ht (by decide) (by decide) hm hc).1 rfl fun a r v => ?_
    rw [noteSets_mesh, finish_mesh]
    exact (meshIn_bad hx hw ht (by decide) (by decide) hm hc).2
  · subst hc
    refine gives_as (m := 8388608) rfl ((meshIn_one hx hw ht).trans ((frameIn_path hm hp).trans (relay_queues hclass))) (by simp) rfl fun a r v => ?_
    rintro h' rfl
    rw [noteSets_mesh, finish_mesh]
    rfl
  · subst hc
    refine gives_as (m := 8388608) rfl ((meshIn_one hx hw ht).trans ((frameIn_route hm hp hd).trans (relay_queues hclass))) (by simp) rfl fun a r v => ?_
    rw [noteSets_mesh, finish_mesh]
    rfl

/-! ## Discovery (R587, R591) -/

theorem discSend_tells (s b : State) (t : Nat) (hb : b = s.begin t) (hd : b.mesh.discAt + 100 * Config.us ≤ b.now) :
    Gives (.discSend t) s [.mesh] fun u => u.mesh = { s.mesh with
      discAt := b.now, ports := u.mesh.ports } ∧
      ∀ p < s.mesh.ports.length, p < 4 → b.portSends p = true → (at' b.mesh.ports p {}).used = true ∨ b.img.hostWait = true →
        (at' u.mesh.ports p {}).queue = (at' s.mesh.ports p {}).queue ++
          [{ hdr := { typ := 7, dst := 0xFF, src := b.nodeId, epoch := b.seam.epoch }, body := .disc b.discData }] := by
  subst hb
  obtain ⟨ports, hput, -, -, -, -, hqueue, -⟩ := eachPut_eq (F := { hdr := { typ := 7, dst := 0xFF, src := (s.begin t).nodeId, epoch := (s.begin t).seam.epoch }, body := .disc (s.begin t).discData })
    (by decide : meshClass 7 ≠ 1) (s.begin t).discPorts ((s.begin t).onMesh fun m => { m with discAt := (s.begin t).now })
  refine gives_if (m := 8388608) rfl (decide_eq_true hd) hput (Frame.trans (by simp) mesh_frame) rfl fun a r v => ?_
  rw [noteSets_mesh, finish_mesh]
  refine ⟨rfl, fun p hlt h4 hs hu => hqueue (List.nodup_range.filter _) p (List.mem_filter.mpr ⟨List.mem_range.mpr h4, and_tt hs ?_⟩) hlt⟩
  rcases hu with hu | hu <;> rw [hu] <;> simp

/-- What a DISC frame leaves of its sender's conversation, but whether it comes UP. -/
def State.discHeard (port : Nat) (d : DiscData) (z : State) : State :=
  (z.onMesh fun m => { m with ports := modAt m.ports port fun x => { x with nbr := d.node % 64, nbrMember := d.pairMember % 2 == 1 } }).onConv d.node fun c =>
    { c with disc := some d, heardAt := z.now, hostWait := d.run != 5, bound := false }
theorem discTake_hears {port : Nat} {d : DiscData} {z : State} (h64 : d.node < 64) (ho : z.inForce = false ∨ d.node ≠ z.node) :
    z.discTake port d = if ((z.discHeard port d).conv d.node).st = 1 then z.discHeard port d else (z.discHeard port d).convRise d.node := by
  have hother : ¬((z.inForce && d.node == z.node) = true) := by
    rcases ho with h | h <;> simp [h]
  unfold discTake
  simp only []
  rw [if_neg (by omega)]
  exact if_neg hother
theorem discHeard_conv {port : Nat} {d : DiscData} {z : State} (hl : d.node < z.mesh.convs.length) :
    (z.discHeard port d).conv d.node = { z.conv d.node with disc := some d, heardAt := z.now, hostWait := d.run != 5, bound := false } :=
  conv_onConv (s := z.onMesh fun m => { m with ports := modAt m.ports port fun x => { x with nbr := d.node % 64, nbrMember := d.pairMember % 2 == 1 } }) hl
theorem discHeard_length {port : Nat} {d : DiscData} {z : State} : (z.discHeard port d).mesh.convs.length = z.mesh.convs.length := modAt_length
theorem discHeard_frame {port : Nat} {d : DiscData} {z : State} : Frame 8388608 z (z.discHeard port d) := by
  unfold discHeard
  simp
/-- The sender's conversation is UP; where it was not, SEQ restarts. -/
theorem discTake_conv {port : Nat} {d : DiscData} {z : State} (h64 : d.node < 64) (hl : d.node < z.mesh.convs.length) (ho : z.inForce = false ∨ d.node ≠ z.node) :
    ((z.discTake port d).conv d.node).st = 1 ∧ ((z.discTake port d).conv d.node).disc = some d ∧ ((z.discTake port d).conv d.node).heardAt = z.now ∧
      ((z.conv d.node).st ≠ 1 → ((z.discTake port d).conv d.node).seq = 0 ∧ ((z.discTake port d).conv d.node).exp = 0) := by
  have hc := discHeard_conv (port := port) hl
  rw [discTake_hears h64 ho]
  split
  · rename_i hst
    rw [hc] at hst ⊢
    exact ⟨hst, rfl, rfl, fun hno => absurd hst hno⟩
  · rw [conv_at convRise_convs (discHeard_length.symm ▸ hl), hc]
    exact ⟨rfl, rfl, rfl, fun _ => ⟨rfl, rfl⟩⟩
theorem discTake_mesh {port : Nat} {d : DiscData} {z : State} (h64 : d.node < 64) (ho : z.inForce = false ∨ d.node ≠ z.node) :
    Frame 8388608 z (z.discTake port d) ∧ (port < z.mesh.ports.length → (at' (z.discTake port d).mesh.ports port {}).nbr = d.node % 64) := by
  have hnbr : port < z.mesh.ports.length → (at' (z.discHeard port d).mesh.ports port {}).nbr = d.node % 64 := fun hp => congrArg PortS.nbr (getD_modAt hp)
  rw [discTake_hears h64 ho]
  split
  · exact ⟨discHeard_frame, hnbr⟩
  · exact ⟨Frame.trans (u := z.discHeard port d) discHeard_frame (by simp), hnbr⟩

theorem discReceive_raises (s b : State) (t : Nat) (d : DiscData) (x : PortRx) (h : MHdr) (p : Bytes) (hb : b = (s.begin t).brought x h p)
    (hf : FrameFor x h p (s.begin t)) (ht : h.typ = 7) (hp : x.port < b.mesh.ports.length) (h64 : d.node < 64) (hl : d.node < b.mesh.convs.length)
    (ho : b.inForce = false ∨ d.node ≠ b.node) :
    Gives (.discReceive t x d) s [.mesh] fun u => (u.conv d.node).st = 1 ∧ (u.conv d.node).disc = some d ∧ (u.conv d.node).heardAt = b.now ∧
      (at' u.mesh.ports x.port {}).nbr = d.node % 64 ∧ ((b.conv d.node).st ≠ 1 → (u.conv d.node).seq = 0 ∧ (u.conv d.node).exp = 0) := by
  obtain ⟨hframe, hnbr⟩ := discTake_mesh (port := x.port) h64 ho
  refine hf.gives ht (by decide) hb rfl rfl rfl hframe rfl fun a r v => ?_
  rw [told_conv, noteSets_mesh, finish_mesh]
  obtain ⟨hst, hdisc, hat, hseq⟩ := discTake_conv (port := x.port) h64 hl ho
  exact ⟨hst, hdisc, hat, hnbr hp, hseq⟩

/-! ## Acknowledgements (R590, R626) -/

section
variable {z : State} {n e q r : Nat} {f : DFrame}

theorem ackedOut_frame : Frame 8388608 z (ackedOut n q r z) := by
  unfold ackedOut
  simp
theorem ackedOut_heard (h : InEpoch n e z) :
    (ackedOut n q r ((inEpoch n e z).heard n)).conv n = { z.conv n with epoch := some e, heardAt := z.now, out := (z.conv n).out.filter (·.seq != q), rtt := r } := by
  rw [ackedOut_conv h.heardLen, h.heardConv]
theorem InEpoch.found (h : InEpoch n e z) : (((inEpoch n e z).heard n).conv n).out.find? (·.seq == q) = (z.conv n).out.find? (·.seq == q) := by rw [h.heardConv]
theorem InEpoch.queued (h : InEpoch n e z) : (((inEpoch n e z).heard n).conv n).queue = (z.conv n).queue := by rw [h.heardConv]
/-- The last frame acknowledged, with no item waiting. -/
theorem ackLast_conv (h : InEpoch n e z) (hf : (z.conv n).out.find? (·.seq == q) = some f) (hq : (z.conv n).queue = []) :
    Frame 8388608 z (((inEpoch n e z).heard n).dataAcked n q) ∧
      ((((inEpoch n e z).heard n).dataAcked n q).conv n).out = (z.conv n).out.filter (·.seq != q) ∧
      ((((inEpoch n e z).heard n).dataAcked n q).conv n).heardAt = z.now ∧ ((((inEpoch n e z).heard n).dataAcked n q).conv n).epoch = some e := by
  rw [dataAcked_last h.heardLen (h.found.trans hf) (h.queued.trans hq), ackedOut_heard h]
  exact ⟨heardIn_frame.trans ackedOut_frame, rfl, rfl, rfl⟩
/-- A frame acknowledged makes room for the item that has waited longest. -/
theorem ackNext_conv {i : Item} {l : List Item} (h : InEpoch n e z) (hf : (z.conv n).out.find? (·.seq == q) = some f) (hq : (z.conv n).queue = i :: l) :
    ((((inEpoch n e z).heard n).dataAcked n q).conv n).queue = l ∧ Waits n 1 (z.conv n).seq (.item i) z (((inEpoch n e z).heard n).dataAcked n q) := by
  obtain ⟨hrest, hwaits⟩ := acked_next h.heardLen (h.found.trans hf) (h.queued.trans hq)
  rw [h.heardConv] at hwaits
  exact ⟨hrest, hwaits.from heardIn_way⟩
/-- A later epoch leaves nothing for an acknowledgement to take away. -/
theorem renewed_acked (h : n < z.mesh.convs.length) : ((renewed n e z).heard n).dataAcked n q = (renewed n e z).heard n := by
  obtain ⟨-, -, -, -, hout, hl⟩ := renewed_conv (e := e) h
  exact dataAcked_none (by rw [heard_conv hl, hout]; rfl)
/-- A frame of an earlier authority epoch is discarded. -/
theorem meshEpoch_stale {e0 : Nat} {k : State → State} (h : (z.conv n).epoch = some e0) (hne : e ≠ e0) (hl : later 16 e e0 = false) : meshEpoch n e k z = z := by
  unfold meshEpoch
  simp only [h, if_neg hne, hl, Bool.false_eq_true, if_false, ite_self]
end

theorem meshAck_acks (s b : State) (t n q st : Nat) (x : PortRx) (h : MHdr) (p : Bytes) (hb : b = (s.begin t).brought x h p) (hf : FrameFor x h p (s.begin t))
    (ht : h.typ = 2) (hn : n = (s.begin t).senderOf x.port h) :
    (InEpoch n h.epoch b →
      (∀ f, st < 2 → (b.conv n).out.find? (·.seq == q) = some f → (b.conv n).queue = [] →
        Gives (.meshAck t x q st) s [.mesh] fun u => (u.conv n).out = (b.conv n).out.filter (·.seq != q) ∧ (u.conv n).heardAt = b.now ∧
          (u.conv n).epoch = some h.epoch) ∧
      (∀ f i l, st < 2 → (b.conv n).out.find? (·.seq == q) = some f → (b.conv n).queue = i :: l →
        Gives (.meshAck t x q st) s [.free, .mesh] fun u => (u.conv n).queue = l ∧ Waits n 1 (b.conv n).seq (.item i) b u) ∧
      (2 ≤ st ∨ (b.conv n).out.find? (·.seq == q) = none →
        Gives (.meshAck t x q st) s [.mesh] fun u => (u.conv n).out = (b.conv n).out ∧ (u.conv n).heardAt = b.now ∧ (u.conv n).epoch = some h.epoch)) ∧
    (∀ e, (b.conv n).epoch = some e → h.epoch ≠ e → later 16 h.epoch e = false →
      Gives (.meshAck t x q st) s [.mesh] fun u => u.mesh = b.mesh) ∧
    (∀ e, (b.conv n).epoch = some e → h.epoch ≠ e → later 16 h.epoch e = true → b.convUp n = true → n ≠ b.nodeId → n < 64 → n < b.mesh.convs.length →
      Gives (.meshAck t x q st) s [.free, .host, .jnl, .evs, .mesh, .pair] fun u => (u.conv n).st = 1 ∧ (u.conv n).epoch = some h.epoch ∧
        (u.conv n).seq = 0 ∧ (u.conv n).exp = 0 ∧ (u.conv n).out = []) := by
  refine ⟨fun hin => ⟨fun f hst hfind hq => ?_, fun f i l hst hfind hq => ?_, fun hno => ?_⟩, fun e he hne hl => ?_, fun e he hne hl hup hother h64 hlen => ?_⟩
  · obtain ⟨hframe, hconv⟩ := ackLast_conv hin hfind hq
    refine hf.gives ht (by decide) hb hn rfl ((hin.goesIn _).trans (if_pos hst)) hframe rfl fun a r v => ?_
    rw [told_conv]
    exact hconv
  · obtain ⟨hrest, hwaits⟩ := ackNext_conv hin hfind hq
    refine hf.gives ht (by decide) hb hn rfl ((hin.goesIn _).trans (if_pos hst)) ((heardIn_frame.widen rfl).trans dataAcked_frame') rfl fun a r v => ?_
    rw [told_conv]
    exact ⟨hrest, hwaits.told⟩
  · have hnone : (if st < 2 then ((inEpoch n h.epoch b).heard n).dataAcked n q else (inEpoch n h.epoch b).heard n) = (inEpoch n h.epoch b).heard n := by
      split
      · exact dataAcked_none (hin.found.trans (hno.resolve_left (by omega)))
      · rfl
    refine hf.gives ht (by decide) hb hn rfl ((hin.goesIn _).trans hnone) heardIn_frame rfl fun a r v => ?_
    rw [told_conv, hin.heardConv]
    exact ⟨rfl, rfl, rfl⟩
  · refine hf.gives (m := 0) ht (by decide) hb hn rfl (meshEpoch_stale he hne hl) (by simp) rfl fun a r v => ?_
    rw [noteSets_mesh, finish_mesh]
  · have hnone : (if st < 2 then ((renewed n h.epoch b).heard n).dataAcked n q else (renewed n h.epoch b).heard n) = (renewed n h.epoch b).heard n := by
      rw [renewed_acked hlen, ite_self]
    refine hf.gives ht (by decide) hb hn rfl ((renewed_goes he hne hl hup hother h64 _).trans hnone) (renewed_frame.trans (heard_mesh.widen rfl)) rfl fun a r v => ?_
    obtain ⟨hst, hep, hseq, hexp, hout, hl'⟩ := renewed_conv (e := h.epoch) hlen
    rw [told_conv, heard_conv hl']
    exact ⟨hst, hep, hseq, hexp, hout⟩

/-! ## DATA in order (R590) -/

/-- A conversation that expects a number next. -/
def State.expecting (n e : Nat) (z : State) : State := z.onConv n fun c => { c with exp := e }

section
variable {z : State} {n e q : Nat} {act : State → State}

theorem expecting_conv (h : n < z.mesh.convs.length) : (z.expecting n e).conv n = { z.conv n with exp := e } := conv_onConv h
theorem expecting_way {c : Nat} : SameWay n z (z.expecting c e) := onConv_way fun _ => rfl
theorem expecting_frame : Frame 8388608 z (z.expecting n e) := by
  unfold expecting
  simp
theorem heard_exp (h : n < z.mesh.convs.length) : ((z.heard n).conv n).exp = (z.conv n).exp := by rw [heard_conv h]
/-- A frame in its place is acknowledged and its item acted on. -/
theorem dataIn_inOrder (hl : n < z.mesh.convs.length) (hr : z.role ≠ 2) (hq : q = (z.conv n).exp) :
    dataIn n q act z = act (((z.heard n).expecting n ((q + 1) % M32)).meshSend n 2 0 (.ack q 0)) := by
  have hexp := heard_exp hl
  have hrole : ¬(z.heard n).role = 2 := hr
  unfold dataIn
  simp only [if_neg hrole, hexp, if_pos hq]
  subst hq
  rfl
/-- One out of its place is answered and left. -/
theorem dataIn_outOfOrder (hl : n < z.mesh.convs.length) (hr : z.role ≠ 2) (hq : q ≠ (z.conv n).exp) :
    dataIn n q act z = (z.heard n).meshSend n 2 0 (.ack q (if later 32 (z.conv n).exp q then 1 else 2)) := by
  have hexp := heard_exp hl
  have hrole : ¬(z.heard n).role = 2 := hr
  unfold dataIn
  simp only [if_neg hrole, hexp, if_neg hq]
/-- A pair member that is not ACTIVE follows the order alone. -/
theorem dataIn_follows (hl : n < z.mesh.convs.length) (hr : z.role = 2) :
    dataIn n q act z = (z.heard n).expecting n (if q = (z.conv n).exp then (q + 1) % M32 else (z.conv n).exp) := by
  have hexp := heard_exp hl
  have hrole : (z.heard n).role = 2 := hr
  unfold dataIn
  simp only [if_pos hrole, hexp]
  split
  · rename_i hq
    subst hq
    rfl
  · exact (onConv_id (by rw [← hexp])).symm
end

theorem data_takes (s b : State) (t n : Nat) (i : Item) (x : PortRx) (h : MHdr) (p : Bytes) (hb : b = (s.begin t).brought x h p) (hf : FrameFor x h p (s.begin t))
    (ht : h.typ = 1) (hn : n = (s.begin t).senderOf x.port h) (hin : InEpoch n h.epoch b) :
    (b.role ≠ 2 → h.seq = (b.conv n).exp → ∃ u z, exec (.data t x i) s = .next u ∧ Only [.free, .mesh] b z ∧ (z.conv n).exp = (h.seq + 1) % 2 ^ 32 ∧
      (z.conv n).heardAt = b.now ∧ Waits n 2 0 (.ack h.seq 0) b z ∧ Only [] (z.itemTake n i) u) ∧
    (b.role ≠ 2 → h.seq ≠ (b.conv n).exp → Gives (.data t x i) s [.free, .mesh] fun u => (u.conv n).exp = (b.conv n).exp ∧
      Waits n 2 0 (.ack h.seq (if later 32 (b.conv n).exp h.seq then 1 else 2)) b u) ∧
    (b.role = 2 → Gives (.data t x i) s [.mesh] fun u => u.mesh.ports = b.mesh.ports ∧
      (u.conv n).exp = if h.seq = (b.conv n).exp then (h.seq + 1) % 2 ^ 32 else (b.conv n).exp) := by
  have hl : n < (inEpoch n h.epoch b).mesh.convs.length := inEpoch_length.symm ▸ hin.known.2
  have hexp : ((inEpoch n h.epoch b).conv n).exp = (b.conv n).exp := by rw [inEpoch_conv hin.known.2]
  rw [← hexp, show (2 ^ 32 : Nat) = M32 from rfl]
  refine ⟨fun hr hq => ?_, fun hr hq => ?_, fun hr => ?_⟩
  · refine ⟨_, (((inEpoch n h.epoch b).heard n).expecting n ((h.seq + 1) % M32)).meshSend n 2 0 (.ack h.seq 0), rfl,
      Frame.only (m := 8388620) (Eq.mpr (meshSend_frame rfl) ((heardIn_frame.trans expecting_frame).widen rfl)) rfl, ?_, ?_,
      meshSend_waits (by decide) (heardIn_way.trans expecting_way), ?_⟩
    · rw [meshSend_conv (by decide), expecting_conv hin.heardLen]
    · rw [meshSend_conv (by decide), expecting_conv hin.heardLen, hin.heardConv]
    · have htaken : meshIn x 1 (fun h _ => meshEpoch h.src h.epoch (dataIn h.src h.seq (itemTake h.src i))) (s.begin t) =
          itemTake n i ((((inEpoch n h.epoch b).heard n).expecting n ((h.seq + 1) % M32)).meshSend n 2 0 (.ack h.seq 0)) := by
        rw [hf.isIn ht (by decide), ← hb, ← hn]
        exact (hin.goesIn _).trans (dataIn_inOrder hl hr hq)
      rw [run_goes, htaken]
      exact only_finish
  · refine hf.gives ht (by decide) hb hn rfl ((hin.goesIn _).trans (dataIn_outOfOrder hl hr hq))
      (m := 8388620) (Eq.mpr (meshSend_frame rfl) (heardIn_frame.widen rfl)) rfl fun a r v => ?_
    rw [told_conv, meshSend_conv (by decide), heard_exp hl]
    exact ⟨rfl, (meshSend_waits (by decide) heardIn_way).told⟩
  · refine hf.gives ht (by decide) hb hn rfl ((hin.goesIn _).trans (dataIn_follows hl hr)) (heardIn_frame.trans expecting_frame) rfl fun a r v => ?_
    rw [told_conv, expecting_conv hin.heardLen, noteSets_mesh, finish_mesh]
    exact ⟨rfl, rfl⟩

/-! ## Resends, silence, idle conversations (R590, R591) -/

/-- Frames sent fewer than three times are sent again. -/
theorem resend_again {n : Nat} {z : State} (h : ∀ f ∈ z.overdue n, f.sends < 3) : resend n z = sendAgain n (z.overdue n) z :=
  if_neg (by simpa [List.any_eq_true] using h)
/-- One sent three times takes the conversation to LOST. -/
theorem resend_lost {n : Nat} {z : State} {f : DFrame} (hf : f ∈ z.overdue n) (h : 3 ≤ f.sends) : resend n z = z.convLost n 0 :=
  if_pos (List.any_eq_true.mpr ⟨f, hf, decide_eq_true h⟩)

theorem dataRetransmit_resends (s b : State) (t n : Nat) (hb : b = s.begin t) (hu : b.convUp n = true) (ho : b.overdue n ≠ []) (hl : n < s.mesh.convs.length) :
    ((∀ f ∈ b.overdue n, f.sends < 3) → Gives (.dataRetransmit t n) s [.free, .mesh] fun u =>
      (u.conv n).retry = sat32 (b.conv n).retry (b.overdue n).length ∧ ∀ f ∈ b.overdue n, Waits n 1 f.seq (.item f.item) b u) ∧
    (∀ f ∈ b.overdue n, 3 ≤ f.sends → Gives (.dataRetransmit t n) s [.free, .mesh, .host, .jnl, .evs, .pair] fun u =>
      (u.conv n).st = 2 ∧ (u.conv n).lostAt = b.now) := by
  subst hb
  have hcond : ((s.begin t).convUp n && !((s.begin t).overdue n).isEmpty) = true := and_tt hu (by simpa using ho)
  refine ⟨fun hfew => ?_, fun f hf hmany => ?_⟩
  · refine gives_if (m := 8388620) rfl hcond (resend_again hfew) (by simp) rfl fun a r v => ?_
    rw [told_conv]
    exact ⟨sendAgain_conv hl, fun f hf => (sendAgain_waits hf).told⟩
  · refine gives_if (m := 25298444) rfl hcond (resend_lost hf hmany) (by simp) rfl fun a r v => ?_
    rw [told_conv]
    exact convLost_conv hl

theorem nodeSilent_loses (s b : State) (t n : Nat) (hb : b = s.begin t) (hd : (b.conv n).heardAt + Config.ms ≤ b.now) (hl : n < s.mesh.convs.length) :
    (b.convUp n = true → Gives (.nodeSilent t n) s [.free, .mesh, .host, .jnl, .evs, .pair] fun u => (u.conv n).st = 2 ∧ (u.conv n).lostAt = b.now) ∧
    (b.convUp n = false → Gives (.nodeSilent t n) s [.mesh] fun u => (u.conv n).disc = none) := by
  subst hb
  refine ⟨fun hu => ?_, fun hu => ?_⟩
  · refine gives_if (m := 25298444) rfl (decide_eq_true hd) (if_pos hu) (by simp) rfl fun a r v => ?_
    rw [told_conv]
    exact convLost_conv hl
  · refine gives_if (m := 8388608) rfl (decide_eq_true hd) (if_neg (ne_true_of_eq_false hu)) (by simp) rfl fun a r v => ?_
    rw [told_conv, conv_onConv (s := s.begin t) hl]

theorem emptyDataSend_sends (s b : State) (t n : Nat) (hb : b = s.begin t) (hu : b.convUp n = true) (ho : (b.conv n).out = []) (hq : (b.conv n).queue = [])
    (hd : (b.conv n).sentAt + 100 * Config.us ≤ b.now) :
    Gives (.emptyDataSend t n) s [.free, .mesh] fun u => Waits n 1 (b.conv n).seq (.item .empty) b u := by
  subst hb
  refine execEmptyDataSend_goes.givesIf rfl ?_ rfl fun a r v => sent_waits.told
  simp only [hu, ho, hq, List.isEmpty_nil, Bool.and_true, Bool.true_and]
  exact decide_eq_true hd

theorem isolated_schedules (s b : State) (t : Nat) (hb : b = s.begin t) (hi : b.inForce = true) (hn : b.node ≠ 0) (hno : b.mesh.isolated = false)
    (hst : (b.conv 0).st = 2) (hd : (b.conv 0).lostAt + s.cfg.mesh.isoMs * Config.ms ≤ b.now) :
    Gives (.isolated t) s [.mesh, .modeQ, .evs] fun u => u.mesh.isolated = true ∧ u.modeQ.lossSched = s.modeQ.lossSched ++ [b.perPlus 1] ∧
      Out.msix 39 ∈ u.out := by
  subst hb
  refine execIsolated_goes.givesIf rfl ?_ rfl fun a r v => ?_
  · simp only [hi, hno, hst, bne_iff_ne.mpr hn, Bool.not_false, beq_self_eq_true, Bool.and_true, Bool.true_and]
    exact decide_eq_true hd
  · rw [noteSets_mesh, finish_mesh, noteSets_modeQ, finish_modeQ, noteSets_out]
    exact ⟨rfl, rfl, mem_finish (List.mem_append_right _ (List.mem_singleton.mpr rfl))⟩

/-! ## Time (R593) -/

/-- A TIME frame that counts adds its offset to those of the port, and what follows is decided by how many there are. -/
theorem timeTake_counts {k cnt t1 t2 t3 cnt4 t4 : Nat} {l : List Int} {z : State} (hk : k < z.mesh.ports.length) (hcnt : (z.ln (32 + 2 * k)).m3 = cnt)
    (h2 : t2 = (z.ln (32 + 2 * k)).mrkTime) (h3 : (z.mrk (8 + k / 2)).sent[((z.mrk (8 + k / 2)).cnt + 255 - cnt4) % 256]? = some t3)
    (hl : l = (offset2 t1 t2 t3 t4 (at' z.cfg.mesh.asymP k 0) :: (at' z.mesh.ports k {}).offsets).take 16) :
    ∃ v, Frame 8388616 z v ∧ v.mesh = { z.mesh with ports := v.mesh.ports } ∧ (at' v.mesh.ports k {}).offsets = l ∧
      timeTake k cnt t1 cnt4 t4 z =
        if l.length < 16 then v
        else if v.cfg.topo.pair ∧ k = 0 then v.pairTime l.sum
        else if v.cfg.mesh.shape ≠ 0 ∧ v.node ≠ v.cfg.mesh.master ∧ k = v.masterPort then v.meshTime k l.sum
        else v := by
  have hdrawn := wholeTicks_free (a := ((t2 : Int) - t1) + ((t4 : Int) - t3)) (d := 2) (z := z)
  have hmesh := hdrawn.keeps .mesh rfl
  have hports : k < (z.wholeTicks (((t2 : Int) - t1) + ((t4 : Int) - t3)) 2).2.mesh.ports.length := hmesh.symm ▸ hk
  generalize hd : z.wholeTicks (((t2 : Int) - t1) + ((t4 : Int) - t3)) 2 = d at hdrawn hmesh hports
  have hoffsets : (at' (modAt d.2.mesh.ports k fun x => { x with dly := d.1.toNat, offsets := (offset2 t1 t2 t3 t4 (at' z.cfg.mesh.asymP k 0) :: x.offsets).take 16 }) k {}).offsets = l := by
    rw [hl, ← hmesh]
    exact congrArg PortS.offsets (getD_modAt hports)
  refine ⟨d.2.onMesh fun m => { m with ports := modAt m.ports k fun x => { x with dly := d.1.toNat, offsets := (offset2 t1 t2 t3 t4 (at' z.cfg.mesh.asymP k 0) :: x.offsets).take 16 } },
    Frame.trans (hdrawn.widen rfl) (by simp), ?_, hoffsets, ?_⟩
  · rw [onMesh_mesh, hmesh]
  · subst h2
    unfold timeTake
    simp only [if_pos hcnt, h3, hd, onMesh_mesh, hoffsets]

theorem timeFrame_offsets (s b : State) (t k cnt t1 t2 t3 cnt4 t4 : Nat) (l : List Int) (x : PortRx) (h : MHdr) (p : Bytes) (hb : b = (s.begin t).brought x h p)
    (hf : FrameFor x h p (s.begin t)) (ht : h.typ = 5) (hi : (s.begin t).inForce = true) (hx : k = x.port) (hk : k < b.mesh.ports.length)
    (hcnt : (b.ln (32 + 2 * k)).m3 = cnt) (h2 : t2 = (b.ln (32 + 2 * k)).mrkTime)
    (h3 : (b.mrk (8 + k / 2)).sent[((b.mrk (8 + k / 2)).cnt + 255 - cnt4) % 256]? = some t3)
    (hl : l = (State.offset2 t1 t2 t3 t4 (at' b.cfg.mesh.asymP k 0) :: (at' b.mesh.ports k {}).offsets).take 16) :
    (l.length < 16 → Gives (.timeFrame t x cnt t1 cnt4 t4) s [.mesh, .free] fun u => (at' u.mesh.ports k {}).offsets = l) ∧
    (l.length = 16 → ¬(b.cfg.topo.pair = true ∧ k = 0) → b.cfg.mesh.shape ≠ 0 → b.node ≠ b.cfg.mesh.master → k = b.masterPort →
      Gives (.timeFrame t x cnt t1 cnt4 t4) s [.ofs, .clk, .mesh, .free] fun u =>
        u.mesh.okRun = (if l.sum.natAbs ≤ 384 then b.mesh.okRun + 1 else 0) ∧
        u.mesh.badRun = (if l.sum.natAbs ≤ 384 then 0 else b.mesh.badRun + 1) ∧
        u.mesh.timeOk = (if b.mesh.timeOk then decide (u.mesh.badRun < 2) else decide (8 ≤ u.mesh.okRun)) ∧
        (l.sum % 32 = 0 → u.mesh.timeErr = l.sum / 32)) := by
  obtain ⟨v, hframe, hmesh, hoffsets, htake⟩ := timeTake_counts hk hcnt h2 h3 hl
  subst hx
  refine ⟨fun hfew => ?_, fun hfull hpair hshape hmaster hport => ?_⟩
  · refine hf.givesIf ht (by decide) hb rfl rfl hi (htake.trans (if_pos hfew)) hframe rfl fun a r w => ?_
    rw [noteSets_mesh, finish_mesh]
    exact hoffsets
  · have himg : v.img = b.img := hframe.keeps .img rfl
    have hcfg : v.cfg = b.cfg := congrArg (fun i : Img => i.desc.getD {}) himg
    have hdown : v.mesh.down = b.mesh.down := by rw [hmesh]
    have hnear : v.masterPort = b.masterPort := by rw [masterPort, masterPort, hcfg, routePort_of himg hdown]
    have hmean : timeTake x.port cnt t1 cnt4 t4 b = v.meshTime x.port l.sum := by
      rw [htake, if_neg (by omega), hcfg, if_neg hpair, hnear]
      exact if_pos ⟨hshape, by rw [node, hcfg]; exact hmaster, hport⟩
    refine hf.givesIf ht (by decide) hb rfl rfl hi hmean ((hframe.widen rfl).trans meshTime_only) rfl fun a r w => ?_
    rw [noteSets_mesh, finish_mesh]
    have hok : v.mesh.okRun = b.mesh.okRun ∧ v.mesh.badRun = b.mesh.badRun ∧ v.mesh.timeOk = b.mesh.timeOk := by
      rw [hmesh]
      exact ⟨rfl, rfl, rfl⟩
    obtain ⟨hokRun, hbadRun, htimeOk⟩ := hok
    rw [← hokRun, ← hbadRun, ← htimeOk]
    exact meshTime_runs

/-! ## Links (R584) -/

/-- A port's link as it now stands (R584). -/
def State.portLinked (p k : Nat) (z : State) : State :=
  (z.onMesh fun m => { m with ports := modAt m.ports p fun x => { x with up := z.portUp p } }).linkChange k (z.portUp p)
/-- The same, told by broadcast. -/
def State.linkTold (p k : Nat) (z : State) : State :=
  (z.portLinked p k).portsPut ((z.portLinked p k).bcastPorts (z.portLinked p k).nodeId) 8 (.link k (z.portUp p))
/-- The frame that tells it. -/
def State.linkNews (p k : Nat) (z : State) : MFrame :=
  { hdr := { typ := 8, dst := 0xFF, src := z.nodeId, epoch := z.seam.epoch }, body := .link k (z.portUp p) }

section
variable {p k : Nat} {z : State}

theorem portLinked_frame : Frame 8388608 z (z.portLinked p k) := by
  unfold portLinked
  simp
theorem linkTold_frame : Frame 8388612 z (z.linkTold p k) := Eq.mpr (portsPut_frame rfl) (portLinked_frame.widen rfl)
theorem linkTold_mesh (hp : p < z.mesh.ports.length) :
    (at' (z.linkTold p k).mesh.ports p {}).up = z.portUp p ∧ (k ∈ (z.linkTold p k).mesh.down ↔ z.portUp p = false) ∧
      ∀ o ∈ (z.linkTold p k).bcastPorts z.nodeId, o < z.mesh.ports.length → z.linkNews p k ∈ (at' (z.linkTold p k).mesh.ports o {}).queue := by
  have hup : (at' (z.portLinked p k).mesh.ports p {}).up = z.portUp p := congrArg PortS.up (getD_modAt hp)
  have hlen : (z.portLinked p k).mesh.ports.length = z.mesh.ports.length := modAt_length
  obtain ⟨ports, hput, -, hkept, htold, -, -⟩ := eachPut_eq (F := z.linkNews p k) (by decide : meshClass 8 ≠ 1) ((z.portLinked p k).bcastPorts z.nodeId) (z.portLinked p k)
  replace hput : z.linkTold p k = { z.portLinked p k with mesh := { (z.portLinked p k).mesh with ports := ports } } := hput
  rw [hlen] at htold
  rw [hput]
  exact ⟨(hkept p).trans hup, linkChange_down, htold⟩
/-- A port that changes, but does not cost the ACTIVE its STANDBY, changes its link; one that goes down leaves an event too. -/
theorem portChange_link (hu : z.portUp p ≠ (at' z.mesh.ports p {}).up) (hl : z.linkOf p = some k) (hs : p ≠ 0 ∨ z.role ≠ 1) :
    z.portChange p = if z.portUp p then z.linkTold p k else (z.linkTold p k).event 0x0881 (le 1 k ++ le 1 p) := by
  have hkeeps : ¬(p = 0 ∧ (!z.portUp p) = true ∧ (z.onMesh fun m => { m with ports := modAt m.ports p fun x => { x with up := z.portUp p } }).role = 1) :=
    fun hno => hs.elim (· hno.1) (· hno.2.2)
  have hlink : (z.onMesh fun m => { m with ports := modAt m.ports p fun x => { x with up := z.portUp p } }).linkOf p = some k := hl
  unfold portChange
  simp only [if_neg hu, if_neg hkeeps, hlink]
  rfl
theorem portChange_mesh (hu : z.portUp p ≠ (at' z.mesh.ports p {}).up) (hl : z.linkOf p = some k) (hs : p ≠ 0 ∨ z.role ≠ 1) :
    Frame 8519684 z (z.portChange p) ∧ (z.portChange p).mesh = (z.linkTold p k).mesh := by
  rw [portChange_link hu hl hs]
  split
  · exact ⟨linkTold_frame.widen rfl, rfl⟩
  · exact ⟨Eq.mpr (event_frame rfl) (linkTold_frame.widen rfl), event_mesh ..⟩
end

theorem portDownUp_tells (s b : State) (t p k : Nat) (hb : b = s.begin t) (h4 : p < 4) (hp : p < s.mesh.ports.length) (hu : b.portUp p ≠ (at' s.mesh.ports p {}).up)
    (hl : b.linkOf p = some k) (hs : p ≠ 0 ∨ b.role ≠ 1) :
    Gives (.portDownUp t p) s [.mesh, .evs] fun u => (at' u.mesh.ports p {}).up = b.portUp p ∧ (k ∈ u.mesh.down ↔ b.portUp p = false) ∧
      ∀ o ∈ u.bcastPorts b.nodeId, o < s.mesh.ports.length → { hdr := { typ := 8, dst := 0xFF, src := b.nodeId, epoch := b.seam.epoch }
                                                               body := .link k (b.portUp p) : MFrame } ∈ (at' u.mesh.ports o {}).queue := by
  subst hb
  obtain ⟨hframe, hmesh⟩ := portChange_mesh (z := s.begin t) hu hl hs
  refine gives_if rfl (decide_eq_true h4) rfl hframe rfl fun a r v => ?_
  have himg : (noteSets a (finish r v ((s.begin t).portChange p))).img = ((s.begin t).linkTold p k).img := by
    rw [noteSets_img, finish_img, hframe.keeps .img rfl, linkTold_frame.keeps .img rfl]
  have hlane : (noteSets a (finish r v ((s.begin t).portChange p))).lane = ((s.begin t).linkTold p k).lane := by
    rw [noteSets_lane, finish_lane, hframe.keeps .lane rfl, linkTold_frame.keeps .lane rfl]
  have htold : (noteSets a (finish r v ((s.begin t).portChange p))).mesh = ((s.begin t).linkTold p k).mesh := by
    rw [noteSets_mesh, finish_mesh, hmesh]
  rw [bcastPorts_of himg (congrArg Mesh.down htold) hlane, htold]
  exact linkTold_mesh hp

/-- A broadcast frame is taken, and goes on by every other port of its broadcast. -/
theorem frameIn_bcast {x : PortRx} {take : MHdr → Bytes → State → State} {h : MHdr} {p : Bytes} {z : State} :
    frameIn x.port true take (h, p, meshCrc h p) z =
      each (((frameTake x.port take h p z).bcastPorts h.src).filter (· != x.port))
        (fun o => relay o h (if z.cfg.topo.pair && o == 0 then { h with mirror := true } else h) p (meshCrc h p)) (frameTake x.port take h p z) := by
  unfold frameIn
  simp only [beq_self_eq_true, if_true]

theorem linkFrame_passesOn (s b : State) (t k : Nat) (up : Bool) (x : PortRx) (h : MHdr) (p : Bytes) (hb : b = s.begin t) (hf : PortBrings x h p b) (ht : h.typ = 8)
    (hd : b.ownDesc.isSome = true) :
    Gives (.linkFrame t x k up) s [.mesh] fun u => (k ∈ u.mesh.down ↔ up = false) ∧
      ∀ o ∈ u.bcastPorts h.src, o ≠ x.port → o < s.mesh.ports.length → ∀ h', h' = (if b.cfg.topo.pair && o == 0 then { h with mirror := true } else h) →
        { hdr := h', body := .relay p (meshCrc h' p) : MFrame } ∈ (at' u.mesh.ports o {}).queue := by
  subst hb
  obtain ⟨y, htaken, hframe, hports, -⟩ := senderKept_frame (x := x) (h := h) (take := fun _ _ => linkChange k up) (p := p) (z := s.begin t)
  have hclass : ∀ o : Nat, meshClass (if (s.begin t).cfg.topo.pair && o == 0 then { h with mirror := true } else h).typ ≠ 1 := fun o => by
    split <;> exact (by rw [ht]; decide : meshClass h.typ ≠ 1)
  obtain ⟨ports, hrelay, -, -, hout⟩ := eachRelay (h := h) (p := p) hclass (((y.linkChange k up).bcastPorts h.src).filter (· != x.port)) (y.linkChange k up)
  have hlen : (y.linkChange k up).mesh.ports.length = s.mesh.ports.length := congrArg List.length hports
  refine gives_if (m := 8388608) (w := { y.linkChange k up with mesh := { (y.linkChange k up).mesh with ports := ports } }) rfl hd ?_
    (Frame.trans (Eq.mpr (linkChange_frame rfl) hframe) mesh_frame) rfl fun a r v => ?_
  · rw [meshIn_one hf.takes hf.whole ht]
    refine frameIn_bcast.trans ?_
    rw [htaken]
    exact hrelay
  · have hbcast : (noteSets a (finish r v { y.linkChange k up with mesh := { (y.linkChange k up).mesh with ports := ports } })).bcastPorts h.src =
        (y.linkChange k up).bcastPorts h.src :=
      bcastPorts_of (by rw [noteSets_img, finish_img]) (by rw [noteSets_mesh, finish_mesh]) (by rw [noteSets_lane, finish_lane])
    rw [hbcast, noteSets_mesh, finish_mesh]
    refine ⟨linkChange_down, ?_⟩
    rintro o ho hne hlt h' rfl
    exact hout o (List.mem_filter.mpr ⟨ho, bne_iff_ne.mpr hne⟩) (hlen.symm ▸ hlt)

/-! ## Trip floods (R601) -/

/-- A flood on its way: it is remembered, and leaves by every other port. -/
def State.floodPassed (port o c : Nat) (live : List (Nat × Nat × Nat)) (z : State) : State :=
  (z.onMesh fun m => { m with floods := (o, c, z.now) :: live }).emits (((List.range 4).filter fun p => p != port && z.portSends p).map fun p => .port p [(true, floodBytes o c)])

section
variable {port o c : Nat} {live : List (Nat × Nat × Nat)} {z : State}

theorem floodPassed_sends {p : Nat} (h4 : p < 4) (hne : p ≠ port) (hs : z.portSends p = true) : Out.port p [(true, floodBytes o c)] ∈ (z.floodPassed port o c live).out :=
  List.mem_append_right _ (List.mem_map.mpr ⟨p, List.mem_filter.mpr ⟨List.mem_range.mpr h4, and_tt (bne_iff_ne.mpr hne) hs⟩, rfl⟩)
theorem floodPassed_frame : Frame 8388612 z (z.floodPassed port o c live) := by
  unfold floodPassed
  simp
/-- The first copy of a flood within 10 us is passed on, and latches where it is another node's and an image is in force. -/
theorem floodIn_first (hd : z.ownDesc.isSome = true)
    (hnew : (z.mesh.floods.filter fun f => decide (z.now < f.2.2 + 10 * Config.us)).any (fun f => f.1 == o && f.2.1 == c) = false) :
    ∃ live, floodIn port o c z =
      if !z.inForce || o == z.node then z.floodPassed port o c live
      else ((z.floodPassed port o c live).onCmp fun c => { c with floodAt := some z.now }).fireTrip 33 := by
  have hnone : z.ownDesc.isNone = false := by rw [← Option.not_isSome, hd]; rfl
  refine ⟨z.mesh.floods.filter fun f => decide (z.now < f.2.2 + 10 * Config.us), ?_⟩
  unfold floodIn
  simp only [hnone, hnew, Bool.false_eq_true, or_self, if_false]
  rfl
end

theorem meshTripFlood_floods (s b : State) (t o c : Nat) (x : PortRx) (hb : b = s.begin t) (hx : b.portTakes x.port = true) (hw : portFloods x = [(o, c)])
    (hd : b.ownDesc.isSome = true) (hnew : (s.mesh.floods.filter fun f => decide (b.now < f.2.2 + 10 * Config.us)).any (fun f => f.1 == o && f.2.1 == c) = false) :
    (b.inForce = false ∨ o = b.node → Gives (.meshTripFlood t x) s [.mesh] fun u =>
      ∀ p < 4, p ≠ x.port → b.portSends p = true → Out.port p [(true, floodBytes o c)] ∈ u.out) ∧
    (b.inForce = true → o ≠ b.node → b.latched 33 = false → Gives (.meshTripFlood t x) s [.free, .seam, .edg, .bnc, .evs, .cmp, .mesh] fun u =>
      u.cmp.latch = s.cmp.latch.set 33 true) := by
  subst hb
  obtain ⟨live, hin⟩ := floodIn_first (port := x.port) hd hnew
  have hone : each (portFloods x) (fun f => floodIn x.port f.1 f.2) (s.begin t) = floodIn x.port o c (s.begin t) := by
    rw [hw]
    rfl
  rw [← hone] at hin
  refine ⟨fun hown => ?_, fun hi hother hl => ?_⟩
  · have hstops : (!(s.begin t).inForce || o == (s.begin t).node) = true := by
      rcases hown with h | h <;> simp [h]
    refine gives_if rfl hx (hin.trans (if_pos hstops)) floodPassed_frame rfl fun a r v p h4 hne hs => ?_
    rw [noteSets_out]
    exact mem_finish (floodPassed_sends h4 hne hs)
  · have hacts : ¬(!(s.begin t).inForce || o == (s.begin t).node) = true := by simp [hi, hother]
    refine gives_if (m := 10661900) rfl hx (hin.trans (if_neg hacts)) ?_ rfl fun a r v => ?_
    · exact Eq.mpr (fireTrip_frame rfl) (Eq.mpr (onCmp_frame rfl) (floodPassed_frame.widen rfl))
    · rw [noteSets_cmp, finish_cmp]
      exact fireTrip_latch (s := ((s.begin t).floodPassed x.port o c live).onCmp fun c => { c with floodAt := some (s.begin t).now }) hi hl

theorem floodRepeat_sends (s b : State) (t : Nat) (hb : b = s.begin t) (hshape : s.cfg.mesh.shape ≠ 0) (hf : b.flooding = true) (hd : b.floodDue = true) :
    Gives (.floodRepeat t) s [.mesh] fun u => u.mesh = { s.mesh with
      floodCnt := (s.mesh.floodCnt + 1) % 256, floodAt := b.now } ∧
      ∀ p < 4, b.portSends p = true → Out.port p [(true, floodBytes s.node s.mesh.floodCnt)] ∈ u.out := by
  subst hb
  refine execFloodRepeat_goes.givesIf rfl (and_tt (and_tt (bne_iff_ne.mpr hshape) hf) hd) rfl fun a r v => ?_
  rw [noteSets_mesh, finish_mesh, noteSets_out]
  exact ⟨rfl, fun p h4 hs => mem_finish (List.mem_append_right _ (List.mem_map.mpr ⟨p, List.mem_filter.mpr ⟨List.mem_range.mpr h4, hs⟩, rfl⟩))⟩

/-! ## Words and commits from other nodes (R304, R603) -/

/-- A group's commit from its owner sets out for EDGE. -/
theorem wordCommit_owned {n g : Nat} {l : List (Nat × Word)} {d : GroupDecl} {z : State} (hg : z.group g = some d) (ho : d.owner = Owner.mesh n) :
    z.wordCommit n g l = z.commit { g := g, vals := l.foldl (fun v x => v.set x.1 x.2) (committedNow (z.grp g)), src := 2, node := n } := by
  unfold wordCommit
  simp only [hg, ho, beq_self_eq_true, if_true]
theorem wordCommit_foreign {n g : Nat} {l : List (Nat × Word)} {d : GroupDecl} {z : State} (hg : z.group g = some d) (ho : d.owner ≠ Owner.mesh n) :
    z.wordCommit n g l = z.onEdg fun e => { e with owner := true } := by
  unfold wordCommit
  simp only [hg, beq_eq_false_iff_ne.mpr ho, Bool.false_eq_true, if_false]

theorem wordFrameReceive_takes (s b : State) (t n : Nat) (x : PortRx) (h : MHdr) (p : Bytes) (hb : b = (s.begin t).brought x h p) (hf : FrameFor x h p (s.begin t))
    (ht : h.typ = 3) (hi : (s.begin t).inForce = true) (hn : n = (s.begin t).senderOf x.port h) (hin : InEpoch n h.epoch b) :
    (field p 0 4 = b.per → field p 4 1 = 0 → Gives (.wordFrameReceive t x) s [.mesh, .bnc] fun u =>
      ∀ y ∈ wordEntries p, (n, y.1 / 512, y.1 % 512, y.2) ∈ u.bnc.meshIn) ∧
    (∀ d, field p 0 4 = b.per → field p 4 1 = 1 → b.group (field p 5 1) = some d → d.owner = Owner.mesh n →
      Gives (.wordFrameReceive t x) s [.mesh, .edg] fun u => u.edg.flights = b.edg.flights ++
        [{ g := field p 5 1, vals := (wordEntries p).foldl (fun v y => v.set y.1 y.2) (State.committedNow (b.grp (field p 5 1))), src := 2, node := n
           at_ := b.now }]) ∧
    (∀ d, field p 0 4 = b.per → field p 4 1 = 1 → b.group (field p 5 1) = some d → d.owner ≠ Owner.mesh n →
      Gives (.wordFrameReceive t x) s [.mesh, .edg] fun u => u.edg.owner = true ∧ u.edg.flights = b.edg.flights) ∧
    (field p 0 4 ≠ b.per ∨ 2 ≤ field p 4 1 → Gives (.wordFrameReceive t x) s [.mesh] fun u => (u.conv n).heardAt = b.now ∧ (u.conv n).epoch = some h.epoch) := by
  have htimely : field p 0 4 = b.per → ¬(field p 0 4 ≠ ((inEpoch n h.epoch b).heard n).per) := fun hper hno => hno hper
  refine ⟨fun hper hk => ?_, fun d hper hk hg ho => ?_, fun d hper hk hg ho => ?_, fun hno => ?_⟩
  · refine hf.givesIf ht (by decide) hb hn rfl hi ((hin.goesIn _).trans ((if_neg (htimely hper)).trans (if_pos hk)))
      (m := 8421376) (Eq.mpr (wordsIn_frame rfl) (heardIn_frame.widen rfl)) rfl fun a r v y hy => ?_
    rw [noteSets_bnc, finish_bnc]
    exact List.mem_append_left _ (List.mem_map.mpr ⟨y, hy, rfl⟩)
  · have hkind : ¬field p 4 1 = 0 := by omega
    refine hf.givesIf ht (by decide) hb hn rfl hi
      ((hin.goesIn _).trans ((if_neg (htimely hper)).trans ((if_neg hkind).trans ((if_pos hk).trans (wordCommit_owned (z := (inEpoch n h.epoch b).heard n) hg ho)))))
      (m := 8396800) (Eq.mpr (onEdg_frame rfl) (heardIn_frame.widen rfl)) rfl fun a r v => ?_
    rw [noteSets_edg, finish_edg]
    rfl
  · have hkind : ¬field p 4 1 = 0 := by omega
    refine hf.givesIf ht (by decide) hb hn rfl hi
      ((hin.goesIn _).trans ((if_neg (htimely hper)).trans ((if_neg hkind).trans ((if_pos hk).trans (wordCommit_foreign (z := (inEpoch n h.epoch b).heard n) hg ho)))))
      (m := 8396800) (Eq.mpr (onEdg_frame rfl) (heardIn_frame.widen rfl)) rfl fun a r v => ?_
    rw [noteSets_edg, finish_edg]
    exact ⟨rfl, rfl⟩
  · have hleft : (if field p 0 4 ≠ ((inEpoch n h.epoch b).heard n).per then (inEpoch n h.epoch b).heard n
        else if field p 4 1 = 0 then ((inEpoch n h.epoch b).heard n).wordsIn n (wordEntries p)
        else if field p 4 1 = 1 then ((inEpoch n h.epoch b).heard n).wordCommit n (field p 5 1) (wordEntries p)
        else (inEpoch n h.epoch b).heard n) = (inEpoch n h.epoch b).heard n := by
      split
      · rfl
      · rename_i hper
        have hkind : 2 ≤ field p 4 1 := hno.resolve_left hper
        rw [if_neg (by omega), if_neg (by omega)]
    refine hf.givesIf ht (by decide) hb hn rfl hi ((hin.goesIn _).trans hleft) heardIn_frame rfl fun a r v => ?_
    rw [told_conv, hin.heardConv]
    exact ⟨rfl, rfl⟩

/-- Settles O40: each row by its own lemma; a frame for this node acts on the state it has come into, one of a known epoch on the conversation that has heard it. -/
theorem meshConversations : Obligations.MeshConversations :=
  ⟨meshAck_passesOn, discSend_tells, discReceive_raises, meshAck_acks, data_takes, dataRetransmit_resends, nodeSilent_loses, emptyDataSend_sends, isolated_schedules,
    timeFrame_offsets, portDownUp_tells, linkFrame_passesOn, meshTripFlood_floods, floodRepeat_sends, wordFrameReceive_takes⟩

end Sys2Proof.Machine

/-! PROOFS. The bench instructions and the results of the shared units (R325 to R332, R340 to R343, R357). -/
namespace Sys2Proof.Machine
open State

/-! ## Changes of one bench -/

/-- Two changes of one bench are one. -/
theorem onBench_onBench {k : Nat} {f g : Bench → Bench} {z : State} : (z.onBench k f).onBench k g = z.onBench k fun q => g (f q) := by
  simp only [onBench, onBnc, modAt_modAt]
/-- Of the benches, only the change of the bench as it stands is seen. -/
theorem onBench_bnc_congr {k : Nat} {f g : Bench → Bench} {w z : State} (h : w.bnc = z.bnc) (hf : f (z.bench k) = g (z.bench k)) :
    (w.onBench k f).bnc = (z.onBench k g).bnc := by
  rw [onBench_bnc, onBench_bnc, h, modAt_congr (l := z.bnc.benches) (i := k) ({} : Bench) hf]

/-! ## An instruction that issues (R324 to R327) -/

/-- A register written by an instruction, whatever it has drawn. -/
theorem setReg_issued_bnc {k d : Nat} {v : List Word} {w z : State} (h : w.bnc = z.bnc) :
    ((w.setReg k d v).onBench k Bench.issued).bnc = (z.onBench k fun q => { q.issued with regs := q.regs.set d v }).bnc :=
  (congrArg State.bnc onBench_onBench).trans (onBench_bnc_congr h rfl)

/-- An instruction that writes a register. -/
theorem Goes.writesReg {c : Instr} {s b : State} {t k d : Nat} {f : State → State} {v : List Word} (h : Goes 32773 s (exec c s)) (hb : b = s.begin t)
    (hi : Issues k b) (e : exec c s = .next (s.runIf t (benchRuns k) f)) (hf : f b = ((b.served k).setReg k d v).onBench k Bench.issued) :
    Gives c s [.bnc] fun u => u.bnc = ((b.served k).onBench k fun q => { q.issued with regs := q.regs.set d v }).bnc := by
  subst hb
  exact h.givesIf e hi.runs rfl fun a p q => by rw [noteSets_bnc, finish_bnc, hf, setReg_issued_bnc rfl]

theorem benchArithmetic_executes (s b : State) (t k d x y z : Nat) (op : ArithOp) (hb : b = s.begin t) (hi : Issues k b) :
    Gives (.benchArithmetic t k op d x y z) s [.bnc] fun u => u.bnc = ((b.served k).onBench k fun q => { q.issued with
      regs := q.regs.set d (State.lanes3 (State.arith op) ((b.served k).benchReg k x) ((b.served k).benchReg k y) ((b.served k).benchReg k z)) }).bnc :=
  execBenchArithmetic_goes.writesReg hb hi rfl (hi.goes _)

theorem benchSelect_executes (s b : State) (t k d x y z : Nat) (op : SelOp) (hb : b = s.begin t) (hi : Issues k b) :
    Gives (.benchSelect t k op d x y z) s [.bnc] fun u => u.bnc = ((b.served k).onBench k fun q => { q.issued with
      regs := q.regs.set d (State.lanes3 (State.sel op) ((b.served k).benchReg k x) ((b.served k).benchReg k y) ((b.served k).benchReg k z)) }).bnc :=
  execBenchSelect_goes.writesReg hb hi rfl (hi.goes _)

theorem benchLane_executes (s b : State) (t k d x y : Nat) (op : LaneOp) (hb : b = s.begin t) (hi : Issues k b) :
    Gives (.benchLane t k op d x y) s [.free, .bnc] fun u => u.free = s.free + 2 ∧ u.bnc = ((b.served k).onBench k fun q => { q.issued with
      regs := q.regs.set d (State.laneOp (Config.freeWord s.free) (Config.freeWord (s.free + 1)) op ((b.served k).benchReg k x) ((b.served k).benchReg k y)) }).bnc := by
  subst hb
  have hfree : ((s.begin t).served k).free = s.free := served_free
  refine execBenchLane_goes.givesIf rfl hi.runs rfl fun a p q => ?_
  rw [noteSets_free, finish_free, noteSets_bnc, finish_bnc, hi.goes, ← hfree]
  exact ⟨rfl, setReg_issued_bnc rfl⟩

theorem benchConvert_executes (s b : State) (t k d x : Nat) (op : ConvOp) (scale : Word) (hb : b = s.begin t) (hi : Issues k b) :
    Gives (.benchConvert t k op d x scale) s [.bnc] fun u => u.bnc = ((b.served k).onBench k fun q => { q.issued with
      regs := q.regs.set d ((List.range 4).map fun i => State.convertW op (at' ((b.served k).benchReg k x) i 0) scale) }).bnc :=
  execBenchConvert_goes.writesReg hb hi rfl (hi.goes _)

theorem benchEstimate_executes (s b : State) (t k d x : Nat) (r : Bool) (hb : b = s.begin t) (hi : Issues k b) :
    Gives (.benchEstimate t k r d x) s [.bnc] fun u => u.bnc = ((b.served k).onBench k fun q => { q.issued with
      regs := q.regs.set d ((List.range 4).map fun i =>
        State.nanOr [at' ((b.served k).benchReg k x) i 0] (Config.estimate (bit r) (at' ((b.served k).benchReg k x) i 0))) }).bnc :=
  execBenchEstimate_goes.writesReg hb hi rfl (hi.goes _)

/-! ## Local memory, loops and the program's end (R325, R328, R336, R339) -/

theorem benchLoad_loads (s b : State) (t k d addr n : Nat) (hb : b = s.begin t) (hi : Issues k b) (ha : State.loadOk addr n = true) :
    Gives (.benchLoad t k d addr n) s [.bnc] fun u => u.bnc = ((b.served k).onBench k fun q => { q.issued with
      regs := q.regs.set d (Sparse.gets 0 q.mem (addr / 4) n ++ ((b.served k).benchReg k d).drop n) }).bnc := by
  subst hb
  refine execBenchLoad_goes.givesIf rfl hi.runs rfl fun a p q => ?_
  simp only [noteSets_bnc, finish_bnc, ha, hi.goes, Bool.not_true, Bool.false_eq_true, if_false]
  exact (setReg_issued_bnc rfl).trans (onBench_bnc_congr rfl rfl)

theorem benchStore_stores (s b : State) (t k x addr n : Nat) (hb : b = s.begin t) (hi : Issues k b) (ha : State.storeOk addr n = true) :
    Gives (.benchStore t k x addr n) s [.bnc] fun u => u.bnc = ((b.served k).onBench k fun q => { q.issued with
      mem := Sparse.putAll 0 q.mem (addr / 4) (((b.served k).benchReg k x).take n) }).bnc := by
  subst hb
  refine execBenchStore_goes.givesIf rfl hi.runs rfl fun a p q => ?_
  simp only [noteSets_bnc, finish_bnc, ha, hi.goes, Bool.not_true, Bool.false_eq_true, if_false]
  exact congrArg State.bnc onBench_onBench

theorem benchLoop_enters (s b : State) (t k len n : Nat) (hb : b = s.begin t) (hi : Issues k b) :
    Gives (.benchLoop t k len n) s [.bnc] fun u => u.bnc = ((b.served k).onBench k fun q => { q with
      pc := q.pc + 1, cyc := q.cyc + 1, loops := { first := q.pc + 1, last := q.pc + len, left := n } :: q.loops }).bnc := by
  subst hb
  refine execBenchLoop_goes.givesIf rfl hi.runs rfl fun a p q => ?_
  rw [noteSets_bnc, finish_bnc, if_neg (Nat.not_le.mpr hi.fetches)]
  rfl

theorem benchEnd_ends (s b : State) (t k : Nat) (hb : b = s.begin t) (hi : Issues k b) (hc : (b.bench k).cyc + 1 = (b.benchDecl k).cb)
    (hd : b.lagged.inPer ≤ b.deadline) :
    Gives (.benchEnd t k) s [.free, .bnc] fun u => u.bnc = (b.onBench k fun q => { q with
      cyc := q.cyc + 1, last := q.cyc + 1, ended := true, running := false
      slack := some (match q.slack with
        | some m => min m (b.benchCycles (b.deadline - b.lagged.inPer))
        | none => b.benchCycles (b.deadline - b.lagged.inPer)) }).bnc := by
  subst hb
  refine execBenchEnd_goes.givesIf rfl hi.runs rfl fun a p q => ?_
  rw [noteSets_bnc, finish_bnc, if_neg (Nat.not_le.mpr hi.fetches), benchStop, if_neg (Nat.not_lt.mpr hd)]
  exact (congrArg State.bnc (if_pos hc)).trans (onBench_bnc_congr rfl rfl)

theorem benchEnd_overruns (s b : State) (t k : Nat) (hb : b = s.begin t) (hi : Issues k b) (hd : b.deadline < b.lagged.inPer) :
    Gives (.benchEnd t k) s [.bnc] fun u => u.bnc = (b.benchFault k 31 true).bnc := by
  subst hb
  have hstop : (s.begin t).benchStop k = (s.begin t).benchFault k 31 true := if_pos hd
  exact gives_if (m := 32768) rfl hi.runs ((if_neg (Nat.not_le.mpr hi.fetches)).trans hstop) (by simp) rfl fun a p q => by
    rw [noteSets_bnc, finish_bnc]

theorem benchArithmetic_pastEnd (s b : State) (t k : Nat) (op : ArithOp) (d x y z : Nat) (hb : b = s.begin t) (hr : b.benchRuns k = true)
    (hp : (b.benchDecl k).progLen ≤ (b.bench k).pc) :
    Gives (.benchArithmetic t k op d x y z) s [.bnc] fun u => u.bnc = (b.benchFault k 30 true).bnc := by
  subst hb
  refine execBenchArithmetic_goes.givesIf rfl hr rfl fun a p q => ?_
  rw [noteSets_bnc, finish_bnc, issue, if_pos hp]

/-! ## CORDIC and SORT (R340, R342) -/

/-- A bench's slot is that of the cycle it issues in. -/
theorem served_inSlot {k : Nat} {b : State} (h : (b.bench k).cyc % 16 = k) : (b.served k).inSlot k = true := by
  obtain ⟨_, _, _, hcyc, _⟩ := served_bench (k := k) (b := b)
  rw [inSlot, hcyc, h, BEq.rfl]

theorem cordicRequest_requests (s b : State) (t k fn d x : Nat) (hb : b = s.begin t) (hi : Issues k b) (hs : (b.bench k).cyc % 16 = k) :
    Gives (.cordicRequest t k fn d x) s [.bnc] fun u => u.bnc = ((b.served k).onBench k fun q => { q.issued with
      cordic := q.cordic ++ [(q.cyc + 24, d, State.cordicOf fn ((b.served k).benchReg k x))] }).bnc := by
  subst hb
  refine execCordicRequest_goes.givesIf rfl hi.runs rfl fun a p q => ?_
  simp only [noteSets_bnc, finish_bnc, hi.goes, served_inSlot hs, Bool.not_true, Bool.false_eq_true, if_false]
  exact congrArg State.bnc onBench_onBench

/-- The first result due, and no later one, reaches its register. -/
theorem cordicDue_first {k c d : Nat} {v : List Word} {r : List (Nat × Nat × List Word)} {z : State} (h : (z.bench k).cordic = (c, d, v) :: r)
    (hr : ∀ y ∈ r, c < y.1) : z.cordicDue k c = z.onBench k fun q => { q with regs := q.regs.set d v, cordic := r } := by
  obtain ⟨hdue, hleft⟩ := filter_late (x := (c, d, v)) rfl hr
  rw [cordicDue, h, hdue, hleft]
  exact onBench_onBench

theorem cordicResult_arrives (s b : State) (t k c d : Nat) (v : List Word) (r : List (Nat × Nat × List Word)) (hb : b = s.begin t)
    (hq : (b.bench k).cordic = (c, d, v) :: r) (ha : b.benchAfter b.bnc.startAt c = true) (hr : ∀ y ∈ r, c < y.1) :
    Gives (.cordicResult t k) s [.bnc] fun u => u.bnc = (b.onBench k fun q => { q with
      regs := q.regs.set d v, cordic := r }).bnc := by
  subst hb
  refine execCordicResult_goes.givesIf rfl (by simpa only [hq, List.head?_cons] using ha) rfl fun a p q => ?_
  simp only [noteSets_bnc, finish_bnc, hq, List.head?_cons, cordicDue_first hq hr]

theorem sortRequest_sorts (s b : State) (t k n : Nat) (hb : b = s.begin t) (hi : Issues k b) (hc : (b.bench k).cyc ∈ (b.benchDecl k).sortCycles)
    (hn : n ≤ 128) (hk : (Sparse.gets 0 ((b.served k).bench k).mem 15936 n).any F32.isNaN = false) :
    Gives (.sortRequest t k n) s [.free, .bnc] fun u => u.bnc = ((b.served k).onBench k fun q => { q.issued with
      sort := some (q.cyc + 64 + (n + 3) / 4, State.ranksOf (Sparse.gets 0 q.mem 15936 n)) }).bnc := by
  subst hb
  obtain ⟨_, _, _, hcyc, _⟩ := served_bench (k := k) (b := s.begin t)
  refine execSortRequest_goes.givesIf rfl hi.runs rfl fun a p q => ?_
  have hslot : (((s.begin t).served k).benchDecl k).sortCycles.contains (((s.begin t).served k).bench k).cyc = true := by
    rw [served_benchDecl, hcyc]
    exact List.contains_iff_mem.mpr hc
  rw [noteSets_bnc, finish_bnc, hi.goes]
  simp only [hslot, Nat.min_eq_left hn, hk, Bool.not_true, Bool.false_eq_true, if_false]
  exact (congrArg State.bnc onBench_onBench).trans (onBench_bnc_congr rfl rfl)

/-- A sort due by a cycle delivers its ranks and is over. -/
theorem sortDue_due {k c : Nat} {r : List Nat} {z : State} (h : (z.bench k).sort = some (c, r)) :
    z.sortDue k c = (z.putRanks k r).onBench k fun q => { q with sort := none } := by
  rw [sortDue, h]
  exact if_pos (Nat.le_refl c)

theorem sortResult_arrives (s b : State) (t k c : Nat) (r : List Nat) (hb : b = s.begin t) (hq : (b.bench k).sort = some (c, r))
    (ha : b.benchAfter b.bnc.startAt c = true) :
    Gives (.sortResult t k) s [.bnc] fun u => u.bnc = ((b.putRanks k r).onBench k fun q => { q with
      sort := none }).bnc := by
  subst hb
  refine execSortResult_goes.givesIf rfl (by simpa only [hq] using ha) rfl fun a p q => ?_
  simp only [noteSets_bnc, finish_bnc, hq, sortDue_due hq]

/-! ## The repetitive controllers (R343, R357) -/

theorem rcRequest_steps (s b : State) (t k l x : Nat) (d : LoopDecl) (r : RcDecl) (q : Loop) (w : Word) (hb : b = s.begin t) (hi : Issues k b)
    (hs : (b.bench k).cyc % 16 = k) (hl : l ∉ (b.bench k).rcUsed) (hd : b.loopDecl l = some d) (hr : d.rc = some r)
    (hw : State.rcStep r (b.loopS l) (Config.freeWord s.free) ((b.served k).benchReg k x) = (q, w, false)) :
    Gives (.rcRequest t k l x) s [.free, .bnc] fun u => u.free = s.free + 1 ∧
      u.bnc = (((b.served k).onLoop l fun _ => q).onBench k fun q => { q.issued with
      rcUsed := l :: q.rcUsed, rc := q.rc ++ [(q.cyc + 40, l, w)] }).bnc := by
  subst hb
  obtain ⟨_, _, _, _, hused⟩ := served_bench (k := k) (b := s.begin t)
  have hfree : ((s.begin t).served k).free = s.free := served_free
  have hnew : (((s.begin t).served k).bench k).rcUsed.contains l = false := by rw [hused]; simpa using hl
  have hdecl : ((s.begin t).served k).drawn.loopDecl l = some d := served_loopDecl.trans hd
  have hstep : State.rcStep r (((s.begin t).served k).drawn.loopS l) ((s.begin t).served k).freeWord (((s.begin t).served k).drawn.benchReg k x) = (q, w, false) := by
    refine Eq.trans ?_ hw
    rw [freeWord, hfree]
    exact congrArg (State.rcStep r · _ _) served_loopS
  refine execRcRequest_goes.givesIf rfl hi.runs rfl fun a p q => ?_
  rw [noteSets_free, finish_free, noteSets_bnc, finish_bnc, hi.goes, ← hfree]
  simp only [served_inSlot hs, hnew, hdecl, Option.bind_some, hr, hstep, Bool.not_true, Bool.or_false, Bool.false_eq_true, if_false]
  exact ⟨rfl, (congrArg State.bnc onBench_onBench).trans (onBench_bnc_congr rfl rfl)⟩

/-- The first result due, and no later one, reaches UNIT. -/
theorem rcDue_first {k c l : Nat} {w : Word} {r : List (Nat × Nat × Word)} {z : State} (h : (z.bench k).rc = (c, l, w) :: r) (hr : ∀ y ∈ r, c < y.1) :
    z.rcDue k c = z.onBench k fun q => { q with mem := Sparse.putAll 0 q.mem ((0xF800 + 4 * l) / 4) [w], rc := r } := by
  obtain ⟨hdue, hleft⟩ := filter_late (x := (c, l, w)) rfl hr
  rw [rcDue, h, hdue, hleft]
  exact onBench_onBench

theorem rcResult_arrives (s b : State) (t k c l : Nat) (w : Word) (r : List (Nat × Nat × Word)) (hb : b = s.begin t)
    (hq : (b.bench k).rc = (c, l, w) :: r) (ha : b.benchAfter b.bnc.startAt c = true) (hr : ∀ y ∈ r, c < y.1) :
    Gives (.rcResult t k) s [.bnc] fun u => u.bnc = (b.onBench k fun q => { q with
      mem := Sparse.putAll 0 q.mem ((0xF800 + 4 * l) / 4) [w], rc := r }).bnc := by
  subst hb
  refine execRcResult_goes.givesIf rfl (by simpa only [hq, List.head?_cons] using ha) rfl fun a p q => ?_
  simp only [noteSets_bnc, finish_bnc, hq, List.head?_cons, rcDue_first hq hr]

/-- Settles O29: each row by its own lemma; an instruction that issues acts on what the units have brought, then its bench goes on. -/
theorem benchInstructions : Obligations.BenchInstructions :=
  ⟨benchArithmetic_executes, benchSelect_executes, benchLane_executes, benchConvert_executes, benchEstimate_executes, benchLoad_loads, benchStore_stores,
    benchLoop_enters, benchEnd_ends, benchEnd_overruns, cordicRequest_requests, cordicResult_arrives, sortRequest_sorts, sortResult_arrives, rcRequest_steps,
    rcResult_arrives, benchArithmetic_pastEnd⟩

end Sys2Proof.Machine

/-! PROOFS. Balancing across devices, the thermal pass, the die sensors and the event ring (R375 to R405). -/
namespace Sys2Proof.Machine
open State

/-! ## Changes of one arm -/

/-- Two changes of one arm are one. -/
theorem onArm_onArm {a : Nat} {f g : Arm → Arm} {z : State} : (z.onArm a f).onArm a g = z.onArm a fun x => g (f x) := by
  simp only [onArm, onBal, modAt_modAt]
/-- A step done is seen in the list of steps alone. -/
theorem armDid_arm {α : Type} {a i k : Nat} {z : State} (r : Arm → α) (h : ∀ x l, r { x with steps := l } = r x) : r ((z.armDid a i).arm k) = r (z.arm k) :=
  arm_onArm_of r fun x => h x _
/-- What a row leaves of BAL is what its effect leaves. -/
theorem told_bal {z : State} {l : List (Nat × Nat)} {p q : Nat} : (noteSets l (finish p q z)).bal = z.bal := by rw [noteSets_bal, finish_bal]
/-- A frame handed to the output of its route by a state whose routes and MESH are those of b. -/
theorem meshSend_told {n typ seq p q : Nat} {m : MBody} {b z : State} {l : List (Nat × Nat)} (k : meshClass typ ≠ 1)
    (hway : ∀ w, z.outFrame n typ seq m w = b.outFrame n typ seq m w) (hmesh : z.mesh = b.mesh) :
    (z.meshSend n typ seq m).bal = z.bal ∧ Queued n typ seq m b (noteSets l (finish p q (z.meshSend n typ seq m))) := by
  obtain ⟨f, w, e⟩ := meshSend_queued (n := n) (seq := seq) (m := m) (s := z) k
  refine ⟨by rw [e], w, ?_⟩
  rw [noteSets_mesh, finish_mesh, e, hway, hmesh]

/-! ## Sorts (R377) -/

theorem armSort_begins (s b : State) (t a : Nat) (hb : b = s.begin t) (ht : b.timeline = true) (ha : b.armOn a = true) (h0 : 0 ∉ (b.arm a).steps)
    (hs : b.benchAfter (b.now - b.lagged.inPer + 1280) (b.armDecl a).sortCycle = true) :
    Gives (.armSort t a) s [.bal] fun u => u.bal = (b.onArm a fun x => { x with sorting := true, sortAt := b.now, steps := 0 :: x.steps }).bal := by
  subst hb
  refine execArmSort_goes.givesIf rfl (and_tt (and_tt (and_tt ht ha) (by simpa using h0)) hs) rfl fun _ p q => ?_
  rw [told_bal]
  exact congrArg State.bal onArm_onArm

theorem armSortResult_ranks (s b : State) (t a : Nat) (hb : b = s.begin t) (ht : b.timeline = true) (ha : b.armOn a = true) (hsort : (b.arm a).sorting = true)
    (hs : b.benchAfter (b.arm a).sortAt (State.sortTime (b.arm a).keys.length) = true) (hd : b.lagged.inPer ≤ b.deadline) (hlocal : (b.armDecl a).spread = false) :
    Gives (.armSortResult t a) s [.bal] fun u => u.bal = (b.onArm a fun x => { x with
      sorting := false, list := some (b.ownList a)
      rank := some ((List.range (b.ownList a).length).map fun i => ((at' (b.ownList a) i { key := 0, cell := 0, node := 0 }).cell, i)) }).bal := by
  subst hb
  refine execArmSortResult_goes.givesIf rfl (and_tt (and_tt (and_tt ht ha) hsort) hs) rfl fun _ p q => ?_
  rw [told_bal, sortDone, if_pos hd]
  simp only [hlocal, Bool.false_eq_true, if_false]

/-! ## A spread arm: lists, the merge, slices (R380 to R382) -/

theorem balListSend_sends (s b : State) (t a : Nat) (l : List BalKey) (hb : b = s.begin t) (hstep : b.armStep a 1 (b.armDecl a).listAt = true)
    (hsend : b.balSends a = true) (hl : (b.arm a).list = some l) (hm : (b.armDecl a).master ≠ b.node) :
    Gives (.balListSend t a) s [.free, .bal, .mesh] fun u =>
      Queued (b.armDecl a).master 4 0 (.balList { period := b.per, arm := a, node := b.node, count := l.length } l) b u ∧
      u.bal = (b.onArm a fun x => { x with steps := 1 :: x.steps }).bal := by
  subst hb
  refine execBalListSend_goes.givesIf rfl (and_tt (and_tt hstep hsend) (by rw [hl]; rfl)) rfl fun _ p q => ?_
  have hmaster : ¬(((s.begin t).armDid a 1).armDecl a).master = ((s.begin t).armDid a 1).node := hm
  simp only [hl, Option.getD_some, if_neg hmaster]
  obtain ⟨hbal, hqueued⟩ := meshSend_told (z := (s.begin t).armDid a 1) (b := s.begin t) (by decide : meshClass 4 ≠ 1) (fun _ => rfl) rfl
  exact ⟨hqueued, told_bal.trans hbal⟩

theorem balListReceive_takes (s b : State) (t : Nat) (x : PortRx) (h : MHdr) (p : Bytes) (hb : b = (s.begin t).brought x h p) (hf : FrameFor x h p (s.begin t))
    (h4 : h.typ = 4) (ht : b.timeline = true) (hsend : b.balSends (balHdrOf p).arm = true) (hm : (b.armDecl (balHdrOf p).arm).master = b.node)
    (hn : (balHdrOf p).node ∈ (b.armDecl (balHdrOf p).arm).nodes) (hper : (balHdrOf p).period = b.per) (hother : (balHdrOf p).node ≠ b.node) :
    Gives (.balListReceive t x) s [.bal, .mesh] fun u => u.mesh = b.mesh ∧ u.bal = (b.onArm (balHdrOf p).arm fun x => { x with
      lists := ((balHdrOf p).node, b.per, balKeys p) :: x.lists.filter (·.1 != (balHdrOf p).node) }).bal := by
  refine hf.gives (m := 65536) (w := b.takeList (balHdrOf p) (balKeys p)) h4 (by decide) hb rfl rfl (if_pos ?_) (by simp) rfl fun _ _ _ => ?_
  · simp [ht, hsend, hm, hn, hper, hother]
  · rw [told_bal, noteSets_mesh, finish_mesh, takeList, hper]
    exact ⟨rfl, rfl⟩

theorem balSliceReceive_takes (s b : State) (t : Nat) (x : PortRx) (h : MHdr) (p : Bytes) (hb : b = (s.begin t).brought x h p) (hf : FrameFor x h p (s.begin t))
    (h4 : h.typ = 4) (ht : b.timeline = true) (ha : b.armOn (balHdrOf p).arm = true) (hspread : (b.armDecl (balHdrOf p).arm).spread = true)
    (hm : (b.armDecl (balHdrOf p).arm).master ≠ b.node) (hn : (balHdrOf p).node = b.node) (hper : (balHdrOf p).period = b.per) :
    Gives (.balSliceReceive t x) s [.bal, .mesh] fun u => u.mesh = b.mesh ∧ u.bal = (b.onArm (balHdrOf p).arm fun y => { y with
      slice := some (b.per, balRanks p (b.ownList (balHdrOf p).arm).length, (balHdrOf p).dirNeg, (balHdrOf p).count) }).bal := by
  refine hf.gives (m := 65536) (w := b.takeSlice (balHdrOf p) (balRanks p (b.ownList (balHdrOf p).arm).length)) h4 (by decide) hb rfl rfl (if_pos ?_)
    (by simp) rfl fun _ _ _ => ?_
  · simp [ht, ha, hspread, hm, hn, hper]
  · rw [told_bal, noteSets_mesh, finish_mesh, takeSlice, hper]
    exact ⟨rfl, rfl⟩

/-- No list missed leaves the count of missed lists as it is. -/
theorem missed_none {z : State} (h : z.bal.missM < 65536) : z.onBal (fun b => { b with missM := sat16 b.missM 0 }) = z := by
  have hmin : min 65535 (z.bal.missM + 0) = z.bal.missM := Nat.min_eq_right (by omega)
  rw [onBal, sat16, hmin]
/-- The place of a key in a merged list. -/
def State.rankIn (all : List BalKey) (k : BalKey) : Nat := (all.takeWhile (· != k)).length
/-- The merge of an arm spread over this node and one other, both lists at hand. -/
theorem merge_two {z : State} {a m : Nat} {own l : List BalKey} (hn : (z.armDecl a).nodes = [z.node, m]) (hm : m ≠ z.node)
    (hown : (z.arm a).list = some own) (hl : (z.arm a).lists = [(m, z.per, l)]) (hmiss : z.bal.missM < 65536) :
    z.merge a = (z.onArm a fun x => { x with
      missRun := 0, slice := some (z.per, own.map (rankIn (keySort (own ++ l))), z.masterDir a, (keySort (own ++ l)).length) }).meshSend m 4 0
      (.balSlice { period := z.per, arm := a, node := m, count := (keySort (own ++ l)).length, dirNeg := z.masterDir a } (l.map (rankIn (keySort (own ++ l))))) := by
  have hlists : ((z.node, z.per, own) :: [(m, z.per, l)].filter (·.1 != z.node)) = [(z.node, z.per, own), (m, z.per, l)] := by simp [hm]
  have hall : [(z.node, z.per, own), (m, z.per, l)].flatMap (·.2.2) = own ++ l := by simp
  have hmissing : ([z.node, m].filter fun n => !([(z.node, z.per, own), (m, z.per, l)].any fun x => x.1 == n && x.2.1 == z.per)) = [] := by simp
  unfold State.merge
  simp only [hn, hown, hl, hlists, hall, hmissing, List.isEmpty_nil, if_true, List.length_nil]
  rw [missed_none (z := z.onArm a fun x => { x with missRun := 0 }) hmiss]
  simp only [each, List.foldl_cons, List.foldl_nil, takeSlice, onArm_onArm, onArm_node, onArm_per, if_true, if_neg hm]
  rfl

theorem balMerge_merges (s b : State) (t a m : Nat) (own l : List BalKey) (hb : b = s.begin t) (hstep : b.armStep a 2 (b.armDecl a).mergeAt = true)
    (hsend : b.balSends a = true) (hmaster : (b.armDecl a).master = b.node) (hn : (b.armDecl a).nodes = [b.node, m]) (hm : m ≠ b.node)
    (hown : (b.arm a).list = some own) (hl : (b.arm a).lists = [(m, b.per, l)]) (hmiss : b.bal.missM < 65536) :
    Gives (.balMerge t a) s [.free, .bal, .mesh] fun u =>
      let all := State.keySort (own ++ l)
      let rank (k : BalKey) := (all.takeWhile (· != k)).length
      u.bal = (b.onArm a fun x => { x with
        missRun := 0, slice := some (b.per, own.map rank, b.masterDir a, all.length), steps := 2 :: x.steps }).bal ∧
      Queued m 4 0 (.balSlice { period := b.per, arm := a, node := m, count := all.length, dirNeg := b.masterDir a } (l.map rank)) b u := by
  subst hb
  refine execBalMerge_goes.givesIf rfl (and_tt (and_tt hstep hsend) (beq_iff_eq.mpr hmaster)) rfl fun _ p q => ?_
  have hdir : ((s.begin t).armDid a 2).masterDir a = (s.begin t).masterDir a := by
    have h : (((s.begin t).armDid a 2).arm a).dirNeg = ((s.begin t).arm a).dirNeg := armDid_arm (·.dirNeg) fun _ _ => rfl
    unfold masterDir
    rw [h]
    rfl
  rw [merge_two (z := (s.begin t).armDid a 2) (m := m) (own := own) (l := l) hn hm ((armDid_arm (·.list) fun _ _ => rfl).trans hown)
    ((armDid_arm (·.lists) fun _ _ => rfl).trans hl) hmiss, hdir]
  obtain ⟨hbal, hqueued⟩ := meshSend_told (z := ((s.begin t).armDid a 2).onArm a _) (b := s.begin t) (by decide : meshClass 4 ≠ 1) (fun _ => rfl) rfl
  exact ⟨told_bal.trans (hbal.trans (congrArg State.bal onArm_onArm)), hqueued⟩

section
variable {z : State} {a n : Nat} {own : List BalKey} {r : List Nat} {dir : Bool}
/-- A member that holds its slice in time ranks its own cells by it. -/
theorem sliceDue_whole (hown : (z.arm a).list = some own) (hs : (z.arm a).slice = some (z.per, r, dir, n)) (hr : r.length = own.length)
    (hm : (z.armDecl a).master ≠ z.node) : z.sliceDue a = z.onArm a fun x => { x with
      rank := some ((own.map (·.cell)).zip r), rankN := n, n := n, dirNeg := dir, missRun := 0 } := by
  simp [sliceDue, hown, hs, hr, hm]
/-- One without a slice has no ranking and counts the miss. -/
theorem sliceDue_none (hs : (z.arm a).slice = none) : z.sliceDue a =
    (z.onArm a fun x => { x with rank := none, missRun := min 255 (x.missRun + 1) }).onBal fun b => { b with missS := sat16 b.missS 1 } := by
  simp only [sliceDue, hs]
end

theorem balSliceDeadline_ranks (s b : State) (t a n : Nat) (own : List BalKey) (r : List Nat) (dir : Bool) (hb : b = s.begin t)
    (hstep : b.armStep a 3 (b.kO - 40) = true) (hspread : (b.armDecl a).spread = true) (hown : (b.arm a).list = some own)
    (hs : (b.arm a).slice = some (b.per, r, dir, n)) (hr : r.length = own.length) (hm : (b.armDecl a).master ≠ b.node) :
    Gives (.balSliceDeadline t a) s [.bal] fun u => u.bal = (b.onArm a fun x => { x with
      rank := some ((own.map (·.cell)).zip r), rankN := n, n := n, dirNeg := dir, missRun := 0, steps := 3 :: x.steps }).bal := by
  subst hb
  refine execBalSliceDeadline_goes.givesIf rfl (and_tt hstep hspread) rfl fun _ p q => ?_
  rw [told_bal, sliceDue_whole (z := (s.begin t).armDid a 3) ((armDid_arm (·.list) fun _ _ => rfl).trans hown)
    ((armDid_arm (·.slice) fun _ _ => rfl).trans hs) hr hm]
  exact congrArg State.bal onArm_onArm

theorem balSliceDeadline_misses (s b : State) (t a : Nat) (hb : b = s.begin t) (hstep : b.armStep a 3 (b.kO - 40) = true)
    (hspread : (b.armDecl a).spread = true) (hs : (b.arm a).slice = none) :
    Gives (.balSliceDeadline t a) s [.bal] fun u => u.bal = { (b.onArm a fun x => { x with
      rank := none, missRun := min 255 (x.missRun + 1), steps := 3 :: x.steps }).bal with
      missS := sat16 s.bal.missS 1 } := by
  subst hb
  refine execBalSliceDeadline_goes.givesIf rfl (and_tt hstep hspread) rfl fun _ p q => ?_
  rw [told_bal, sliceDue_none (z := (s.begin t).armDid a 3) ((armDid_arm (·.slice) fun _ _ => rfl).trans hs), armDid, onArm_onArm]
  rfl

theorem mergeLost_causes (s b : State) (t a : Nat) (hb : b = s.begin t) (ha : b.armOn a = true) (hrun : 8 ≤ (b.arm a).missRun)
    (hflt : b.bal.flt.testBit 31 = false) :
    Gives (.mergeLost t a) s [.bal, .evs, .modeQ] fun u => u.bal = { s.bal with
      flt := setBit s.bal.flt 31, fltArm := a } ∧ u.modeQ = { s.modeQ with
      causes := s.modeQ.causes ++ [(13, a)] } := by
  subst hb
  refine execMergeLost_goes.givesIf rfl (and_tt (and_tt ha (decide_eq_true hrun)) (by rw [hflt]; rfl)) rfl fun _ p q => ?_
  rw [told_bal, noteSets_modeQ, finish_modeQ]
  exact ⟨rfl, rfl⟩

/-! ## The thermal network (R390 to R392) -/

/-- The pass of one cell: the estimates as they stand are kept, then the cell steps with its losses. -/
def State.passed (c : Nat) (z : State) : State := (z.onBal fun b => { b with prevCells := b.cells }).thermStep (z.powers c) c
/-- The pass of the only cell of any arm, where no table entry is lost: neither its ladder nor the arms' factors touch the estimates. -/
theorem thermPass_one {z : State} {c : Nat} (hc : z.thermCells = [c]) (ht : z.bal.tblAt ≠ z.absPer) :
    z.thermPass.bal.cells = (z.passed c).bal.cells ∧ z.thermPass.bal.prevCells = (z.passed c).bal.prevCells := by
  have hkept : (z.bal.tblAt == z.absPer) = false := beq_eq_false_iff_ne.mpr ht
  obtain ⟨f, k, henter⟩ := thermEnter_bal (s := z.passed c) (o := (z.therm c).therm) (c := c)
  have hpass : z.thermPass = each ((z.passed c).thermEnter (z.therm c).therm c).arms armDerate ((z.passed c).thermEnter (z.therm c).therm c) := by
    simp only [thermPass, hc, hkept, List.mapIdx_cons, List.mapIdx_nil, Bool.false_and, Bool.false_eq_true, if_false]
    rfl
  rw [hpass, each_val (·.bal.cells) _ armDerate _ fun _ _ => rfl, each_val (·.bal.prevCells) _ armDerate _ fun _ _ => rfl, henter]
  exact ⟨rfl, rfl⟩

theorem thermalPass_steps (s b : State) (t c : Nat) (hb : b = s.begin t) (hp : b.atPoint 8 80 = true) (h0 : b.reached 0 = true) (hcells : b.thermCells = [c])
    (hc : c < b.bal.cells.length) (hch : (b.therm c).ch ≠ []) (hstale : (b.cell c).stale = true) (htbl : b.bal.tblAt ≠ b.absPer) :
    Gives (.thermalPass t) s [.free, .seam, .bal, .evs, .modeQ, .pts] fun u =>
      u.bal.prevCells = s.bal.cells ∧ (u.therm c).pass = (b.therm c).pass + 1 ∧ (u.therm c).pwr = (b.powers c).foldl F32.add 0 ∧
      (u.therm c).dth = F32.add (b.therm c).dth (F32.mul (b.bOf (b.kind c).tauH)
        (F32.sub (F32.mul (b.kind c).rH ((b.powers c).foldl F32.add 0)) (b.therm c).dth)) := by
  subst hb
  refine execThermalPass_goes.givesIf rfl (and_tt hp h0) rfl fun _ p q => ?_
  obtain ⟨hestimates, hprev⟩ := thermPass_one (z := (s.begin t).reach 8) hcells htbl
  obtain ⟨hpass, hpwr, hdth, hkept⟩ := thermStep_cells (s := ((s.begin t).reach 8).onBal fun b => { b with prevCells := b.cells }) (p := ((s.begin t).reach 8).powers c)
    (List.isEmpty_eq_false_iff.mpr hch) hc hstale
  rw [therm, told_bal, hestimates, hprev]
  exact ⟨hkept, hpass, hpwr, hdth⟩

theorem thermalDeadline_ends (s b : State) (t : Nat) (hb : b = s.begin t) (hp : b.atPoint 9 (b.kF - 80) = true) (h8 : b.reached 8 = true) :
    Gives (.thermalDeadline t []) s [.bal, .pts] fun u => u.bal = { s.bal with
      prevCells := [] } := by
  subst hb
  exact execThermalDeadline_goes.givesIf rfl (and_tt hp h8) rfl fun _ p q => by rw [told_bal]; rfl

theorem derateRestartEnd_ends (s b : State) (t c : Nat) (hb : b = s.begin t) (hr : (b.therm c).restart = true)
    (hdue : (b.therm c).restartAt + (b.kind c).derateRestart * 12800000000 ≤ b.now) :
    Gives (.derateRestartEnd t c) s [.bal] fun u => u.bal = (b.onTherm c fun x => { x with restart := false }).bal := by
  subst hb
  exact execDerateRestartEnd_goes.givesIf rfl (and_tt hr (waitOver (k := _ * Config.sec) hdue rfl)) rfl fun _ p q => by rw [told_bal]

/-! ## Die sensors (R395, R396) -/

theorem insI_replicate {n : Nat} {x : Int} : insI x (List.replicate n x) = List.replicate (n + 1) x := by
  cases n with
  | zero => rfl
  | succ n => exact if_pos (Int.le_refl x)
theorem foldr_insI_replicate {n : Nat} {x : Int} : (List.replicate n x).foldr insI [] = List.replicate n x := by
  induction n with
  | zero => rfl
  | succ n ih => rw [List.replicate_succ, List.foldr_cons, ih, insI_replicate, List.replicate_succ]
theorem median2_replicate {n : Nat} {x : Int} (hn : 0 < n) : median2 (List.replicate n x) = 2 * x := by
  have hat (i : Nat) (hi : i < n) : at' (List.replicate n x) i 0 = x := by rw [at', List.getD, List.getElem?_replicate_of_lt hi]; rfl
  simp only [median2, foldr_insI_replicate, List.length_replicate, if_neg (Nat.ne_of_gt hn)]
  rw [hat _ (by omega), hat _ (by omega), Int.two_mul]
/-- A sensor is not off the median of others that read what it does, be there any or none (R396). -/
theorem median2_alike {o : List Int} {x : Int} (h : ∀ v ∈ o, v = x) : (!o.isEmpty && decide (240 < (2 * x - median2 o).natAbs)) = false := by
  rw [List.eq_replicate_of_mem h]
  cases o with
  | nil => rfl
  | cons v o =>
    rw [median2_replicate (n := (v :: o).length) (Nat.succ_pos o.length), Int.sub_self]
    exact Bool.and_false _

section
variable {z : State} {x : Int}
theorem dieWorking_all (hfail : z.bal.dieFail = 0) : z.dieWorking = List.range 8 := by
  rw [dieWorking, hfail]
  rfl
theorem dieAt_replicate (hdie : z.bal.die = List.replicate 8 x) (i : Nat) (hi : i ∈ List.range 8) : z.dieAt i = x := by
  rw [dieAt, hdie, at', List.getD, List.getElem?_replicate_of_lt (List.mem_range.mp hi)]
  rfl
/-- Outside the fast band, and so below WARN. -/
theorem dieBand_between (hlow : -240 < x) (hwarn : x < 8 * ((z.bal.dieWarnSet : Int) - 10)) : z.dieBand x = false := by
  rw [dieBand, decide_eq_false (not_le.mpr hwarn), decide_eq_false (not_le.mpr hlow)]
  rfl
end

section
variable {z : State} {x : Int} (hat : ∀ i ∈ List.range 8, z.dieAt i = x)
include hat
/-- Where the sensors read alike, what fails of the one reading is found at none of them. -/
theorem any_alike {P : Int → Bool} : P x = false → ((List.range 8).any fun i => P (z.dieAt i)) = false := fun h =>
  List.any_eq_false.mpr fun i hi => by rw [hat i hi, h]; exact Bool.false_ne_true
theorem find_alike {P : Int → Bool} : P x = false → ((List.range 8).find? fun i => P (z.dieAt i)) = none := fun h =>
  List.find?_eq_none.mpr fun i hi => by rw [hat i hi, h]; exact Bool.false_ne_true
/-- The first of them is as hot as any. -/
theorem foldl_hottest : (List.range 8).foldl (fun b i => if z.dieAt b < z.dieAt i then i else b) 0 = 0 :=
  List.foldlRecOn (motive := (· = 0)) _ _ rfl fun b hb i hi => by
    rw [hb, hat i hi, hat 0 (by decide), if_neg (lt_irrefl x)]
end

/-- Eight working sensors that read alike, outside the fast band and below 135 degrees, show nothing. -/
theorem dieSample_calm {z : State} {x : Int} (hfail : z.bal.dieFail = 0) (hlow : -240 < x) (hwarn : x < 8 * ((z.bal.dieWarnSet : Int) - 10))
    (hhot : x < 1080) : z.dieSample (List.replicate 8 x) = z.onBal fun b => { b with
      die := List.replicate 8 x, dieDis := List.replicate 8 0, dieHot := 0, dieWarn := false, dieLow := false, dieHotRun := 0 } := by
  unfold dieSample
  extract_lets y work off dis v fails w work' u hot top warm rises band r
  have hy : ∀ i ∈ List.range 8, y.dieAt i = x := dieAt_replicate rfl
  have hwork : work = List.range 8 := dieWorking_all hfail
  have hoff : ∀ i ∈ List.range 8, off i = false := fun i hi => by
    simp only [off, hy i hi]
    refine median2_alike fun a ha => ?_
    obtain ⟨j, hj, rfl⟩ := List.mem_map.mp ha
    exact hy j (hwork ▸ List.mem_of_mem_filter hj)
  have hdis : dis = List.replicate 8 0 :=
    List.map_congr_left (g := fun _ => 0) fun i hi => if_neg (by rw [hoff i hi, Bool.and_false]; exact Bool.false_ne_true)
  have hv : ∀ i ∈ List.range 8, v.dieAt i = x := dieAt_replicate rfl
  have hfails : fails = [] := List.filter_eq_nil_iff.mpr fun i hi => by
    have hi8 : i ∈ List.range 8 := hwork ▸ hi
    have h0 : at' dis i 0 = 0 := by rw [hdis, at', List.getD, List.getElem?_replicate_of_lt (List.mem_range.mp hi8)]; rfl
    simp only [hv i hi8, h0, Bool.or_eq_true, decide_eq_true_eq]
    omega
  have hw : w = v := by simp only [w, hfails]; rfl
  have hwork' : work' = List.range 8 := by simp only [work', hw]; exact dieWorking_all hfail
  have hu : u = v := (if_neg fun h => absurd h.1 (by rw [hwork']; decide)).trans hw
  have hhot0 : hot = 0 := by simp only [hot, hwork', hu]; exact foldl_hottest hv
  have htop : ¬1080 ≤ top := by simpa only [top, hhot0, hu, hv 0 (by decide)] using not_le.mpr hhot
  have hwarm : warm = none := by
    simp only [warm, hwork', hu]
    exact find_alike (P := fun a => decide (8 * (z.bal.dieWarnSet : Int) ≤ a)) hv (decide_eq_false (by omega))
  have hband : band = false := by
    simp only [band, hwork', hu]
    exact any_alike hv (dieBand_between hlow hwarn)
  have hmild : (work'.any fun i => decide (v.dieAt i ≤ -240)) = false := by
    rw [hwork']
    exact any_alike (P := fun a => decide (a ≤ -240)) hv (decide_eq_false (not_le.mpr hlow))
  have hrises : ¬rises = true := by simp [rises, hwarm]
  have hread : v = z.onBal fun b => { b with die := List.replicate 8 x, dieDis := List.replicate 8 0 } := by
    simp only [v, hdis]
    rfl
  rw [if_neg hrises]
  simp only [r, hu, hhot0, htop, hwarm, hband, hmild, decide_false, Bool.and_false, Bool.or_false, Bool.false_eq_true, if_false, Option.isSome_none]
  rw [hread]
  rfl

theorem dieSensorSample_calm (s b : State) (t : Nat) (x : Int) (hb : b = s.begin t) (hfail : b.bal.dieFail = 0) (_ : b.bal.dieLost = false)
    (_ : b.bal.dieFast = false) (hlow : -240 < x) (hwarn : x < 8 * ((b.bal.dieWarnSet : Int) - 10)) (hhot : x < 1080) :
    Gives (.dieSensorSample t (List.replicate 8 x)) s [.bal, .evs, .modeQ] fun u => u.bal = { s.bal with
      die := List.replicate 8 x, dieDis := List.replicate 8 0, dieHot := 0, dieWarn := false, dieLow := false, dieHotRun := 0 } := by
  subst hb
  refine execDieSensorSample_goes.givesRun rfl rfl fun _ p q => ?_
  rw [told_bal, dieSample_calm hfail hlow hwarn hhot]
  rfl

theorem dieFastRateEnd_ends (s b : State) (t : Nat) (hb : b = s.begin t) (hfast : b.bal.dieFast = true) (hdue : b.bal.dieQuietAt + 128000000 ≤ b.now) :
    Gives (.dieFastRateEnd t) s [.bal] fun u => u.bal = { s.bal with
      dieFast := false } := by
  subst hb
  exact execDieFastRateEnd_goes.givesIf rfl (and_tt hfast (waitOver (k := 10 * Config.ms) hdue rfl)) rfl fun _ p q => by rw [told_bal]; rfl

/-! ## The event ring (R400 to R402) -/

theorem eventRecordWrite_writes (s b : State) (t : Nat) (r : EvRec) (q : List EvRec) (hb : b = s.begin t) (hq : b.evs.queue = r :: q) (hr : b.evReady = true) :
    Gives (.eventRecordWrite t) s [.evs] fun u => u.evs = { s.evs with
      queue := q, ring := ({ r with num := s.evs.head } :: s.evs.ring).take 1024, head := (s.evs.head + 1) % 2 ^ 32, writeAt := b.now } := by
  subst hb
  refine execEventRecordWrite_goes.givesIf rfl hr rfl fun _ p v => ?_
  rw [noteSets_evs, finish_evs, evWrite, hq]
  rfl

theorem eventSectorErase_erases (s b : State) (t : Nat) (r : EvRec) (hb : b = s.begin t) (hr : r ∈ b.evs.ring) (h0 : b.evs.head ≠ 0)
    (hs : State.evSector r.num = State.evAhead b.evs) :
    Gives (.eventSectorErase t) s [.evs] fun u => u.evs = { s.evs with
      ring := s.evs.ring.filter fun r => State.evSector r.num != State.evAhead s.evs } := by
  subst hb
  refine execEventSectorErase_goes.givesIf rfl (and_tt (bne_iff_ne.mpr h0) (List.any_eq_true.mpr ⟨r, hr, beq_iff_eq.mpr hs⟩)) rfl fun _ p v => ?_
  rw [noteSets_evs, finish_evs]
  rfl

/-- A record of a code that has room, and no like of it lately, joins the queue (R401). -/
theorem event_queues {code : Nat} {d : Bytes} {z : State} (hrecent : z.evs.recent = []) (hroom : z.evs.queue.length < 16) (hcode : code ≠ 0x0580) :
    (z.event code d).evs.queue = z.evs.queue ++
      [{ time := z.sysTime, boot := z.evs.boot, code := code, rep := State.repsOf z.evs code, data := padTo 12 d, at_ := z.now }] := by
  have hfull : ¬(16 ≤ z.evs.queue.length ∧ code ≠ 0x0580) := fun h => absurd h.1 (Nat.not_le.mpr hroom)
  simp only [event, onEvs, hrecent, List.filter_nil, List.any_nil, Bool.false_eq_true, if_false, if_neg hfull, if_neg hcode]

/-! ## The commands accepted (R403) -/

theorem thermReinit_restarts (s b : State) (t : Nat) (h : RecHdr) (ha : Accepts cmdThermReinit h [] (s.begin t)) (hb : b = s.begin t) :
    Gives (.thermReinit t h) s ([.host, .jnl, .bal] ++ s.heldParts) fun u => u.bal = (b.onTherm h.target fun x =>
      let dth := F32.sub (b.ntcC h.target) (b.tCool h.target)
      let tj := F32.add (b.tCool h.target) dth
      let n := (b.kind h.target).chans.length
      { x with dth := dth, ch := List.replicate n (tj, 0, [0, 0, 0, 0]), tj := tj, hotCh := 0, pwr := 0, lad := List.replicate n 0 }).bal := by
  subst hb
  exact ha.gives0 (m := 65536) rfl rfl (fun v => by simp [cmdThermReinit]) rfl rfl fun _ _ _ _ hu => (hu.wide.keeps .bal rfl).trans rfl

theorem balShare_waits (s : State) (t en : Nat) (h : RecHdr) (ha : Accepts cmdBalShare h (le 1 en ++ le 3 0) (s.begin t)) (hen : en < 2) :
    Gives (.balShare t h en) s ([.host, .jnl, .bal] ++ s.heldParts) fun u => u.bal = ((s.begin t).onArm h.target fun x =>
      { x with shareCmd := some (en == 1) }).bal := by
  have hfield : field (le 1 en ++ le 3 0) 0 1 = en := field_le_of_lt (by omega)
  refine ha.gives0 (m := 65536) rfl rfl (fun v => by simp [cmdBalShare]) rfl rfl fun _ _ _ _ hu => (hu.wide.keeps .bal rfl).trans ?_
  simp only [cmdBalShare, hfield]
  rfl

theorem evsMark_queues (s b : State) (t : Nat) (h : RecHdr) (d : Bytes) (ha : Accepts cmdEvsMark h d (s.begin t)) (hb : b = s.begin t) (hd : d.length = 12)
    (hrecent : b.evs.recent = []) (hroom : b.evs.queue.length < 16) :
    Gives (.evsMark t h d) s ([.host, .jnl, .evs] ++ s.heldParts) fun u => u.evs.queue = s.evs.queue ++
      [{ time := b.sysTime, boot := s.evs.boot, code := 0x05FF, rep := State.repsOf s.evs 0x05FF, data := d, at_ := b.now }] := by
  subst hb
  have hpay : d.take 12 ++ List.replicate (12 - d.length) 0 = d := by simp [hd, List.take_of_length_le]
  have hexec : exec (.evsMark t h d) s = .next (hostRow cmdEvsMark t h d s) :=
    congrArg (fun p => Host.Outcome.next (hostRow cmdEvsMark t h p s)) hpay
  have hpad : padTo 12 d = d := by simp [padTo, hd]
  refine ha.gives0 (m := 131072) hexec rfl (fun v => by simp [cmdEvsMark]) rfl rfl fun x j u _ hu => ?_
  have hqueue := event_queues (code := 0x05FF) (d := d) (z := (s.begin t).withHJ x j) hrecent hroom (by decide)
  rw [hpad] at hqueue
  exact (congrArg Evs.queue (hu.wide.keeps .evs rfl)).trans hqueue

/-- Settles O31: each row and command by its own lemma. -/
theorem balancingAndEvents : Obligations.BalancingAndEvents :=
  ⟨armSort_begins, armSortResult_ranks, balListSend_sends, balListReceive_takes, balMerge_merges, balSliceReceive_takes, balSliceDeadline_ranks,
    balSliceDeadline_misses, mergeLost_causes, thermalPass_steps, thermalDeadline_ends, derateRestartEnd_ends, dieSensorSample_calm, dieFastRateEnd_ends,
    eventRecordWrite_writes, eventSectorErase_erases, thermReinit_restarts, balShare_waits, evsMark_queues⟩

end Sys2Proof.Machine

/-! PROOFS. What the part holds at power-on reset (R419, R647, R648). -/
namespace Sys2Proof.Machine
open State

/-- Every session context is closed at reset, those past the table's end by its default. -/
theorem reset_ctx (c : Nat) : State.reset.ctx c = {} :=
  (List.getD_eq_getElem?_getD ..).trans (List.getElem?_getD_replicate_default_eq (d := ({} : Ctx)) 32 c)

/-- Settles O4: every field has its power-on value, and no context holds a session. -/
theorem resetState : Obligations.ResetState :=
  ⟨rfl, rfl, rfl, rfl, rfl, rfl, rfl, rfl, rfl, fun c => congrArg Ctx.st (reset_ctx c), rfl, rfl, rfl, rfl⟩

end Sys2Proof.Machine

/-! PROOFS. What the mode does by itself at S(n) (R417, R422 to R440, R443, R447). -/
namespace Sys2Proof.Machine
open State

/-! ## A change decided at S(n) -/

/-- A change decided at S(n) leaves of MODE what its effect leaves: the mode words that follow are BENCH's (R412). -/
theorem Goes.givesDecision {i : Instr} {s : State} {t m : Nat} {l : List Part} {c : State → Bool} {f : State → State} {F : State → Prop}
    (h : Goes m s (exec i s)) (e : exec i s = s.decision t c f) (hd : (s.begin t).decides = true) (hc : c (s.begin t) = true)
    (k : m ||| maskOfParts (.now :: .out :: l) = maskOfParts (.now :: .out :: l)) (hF : ∀ u, u.mode = (f (s.begin t)).mode → F u) : Gives i s l F :=
  h.givesIf e (and_tt hd hc) k fun a p q => hF _ (by rw [noteSets_mode, finish_mode, modeWords_mode])

section
variable {z : State}

theorem since_of {a n : Nat} (h : a + n ≤ z.now) : z.since a n = true := decide_eq_true h
theorem modeTo_now {m : Nat} {own : Bool} : (z.modeTo m own).now = z.now := (by simp : Frame 1947780 z (z.modeTo m own)).keeps .now rfl
theorem j5Stops_mode {l : List Nat} : (each l j5Stop z).mode = z.mode := (by simp : Frame 4100 z (each l j5Stop z)).keeps .mode rfl
/-- Limiters that start touch the set-points alone. -/
theorem spStarts_spsOnly {l : List Nat} {f : Bool} {x : Nat → State → Word} : SpsOnly z (each l (fun k z => z.spStart f k (x k z)) z) :=
  SpsOnly.each (f := fun k z => z.spStart f k (x k z)) (fun _ _ => rfl) z
/-- No start conditions are met without a run mode as TARGET. -/
theorem target_of_startOk (h : z.startOk = true) : z.mode.target ≠ 2 := by
  intro htarget
  simp [startOk, htarget] at h
/-- COAST for a failed brake leaves the brake's flag and the event bits that stand. -/
theorem driveCoast_keeps {i : Nat} (h : z.mode.evt.testBit i = true) :
    z.driveCoast.mode.brkFault = z.mode.brkFault ∧ z.driveCoast.mode.evt.testBit i = true := by
  unfold driveCoast
  split
  · refine ⟨rfl, ?_⟩
    show (setBit z.mode.evt 4).testBit i = true
    rw [testBit_setBit, h, Bool.or_true]
  · exact ⟨rfl, h⟩
end

/-! ## Precharge (R422, R423) -/

theorem prechargeP1Timeout_safe (s b : State) (t : Nat) (hb : b = s.begin t) (hd : b.decides = true) (hsub : b.inSub 1 9 = true)
    (hlate : s.mode.cnt.stepAt + s.mp.preTmaxS * Config.sec ≤ b.now) (ha : b.activeCovered = false) :
    Gives (.prechargeP1Timeout t) s [.free, .clk, .lane, .seam, .edg, .bnc, .bal, .evs, .mode, .modeQ, .adc, .cmp, .mesh] (SafeBy ((16, 0) :: b.rowCauses) b.now) := by
  subst hb
  have hp1 : (s.begin t).p1Late = true := and_tt hsub (since_of hlate)
  have hmode := (inSub_mode hsub).1
  exact gives_lowest rfl hd hp1 (rowCauses_late (by rw [hp1, Bool.true_or])) (by omega) (by omega) ha

theorem prechargeP2Timeout_safe (s b : State) (t : Nat) (hb : b = s.begin t) (hd : b.decides = true) (hsub : b.inSub 1 10 = true)
    (hlate : s.mode.cnt.stepAt + s.mp.mainTMs * Config.ms ≤ b.now) (ha : b.activeCovered = false) :
    Gives (.prechargeP2Timeout t) s [.free, .clk, .lane, .seam, .edg, .bnc, .bal, .evs, .mode, .modeQ, .adc, .cmp, .mesh] (SafeBy ((16, 0) :: b.rowCauses) b.now) := by
  subst hb
  have hp2 : (s.begin t).p2Late = true := and_tt hsub (since_of hlate)
  have hmode := (inSub_mode hsub).1
  exact gives_lowest rfl hd hp2 (rowCauses_late (by rw [hp2, Bool.or_true])) (by omega) (by omega) ha

theorem prechargeRelayOff_opens (s b : State) (t : Nat) (hb : b = s.begin t) (htl : b.timeline = true) (hsub : b.inSub 1 11 = true)
    (hlate : s.mode.cnt.stepAt + 50 * Config.ms ≤ b.now) :
    Gives (.prechargeRelayOff t) s [.mode] fun u => u.mode.cnt.relayOff = true ∧ u.mode.mode = s.mode.mode ∧ u.mode.sub = s.mode.sub := by
  subst hb
  refine execPrechargeRelayOff_goes.givesIf rfl (and_tt (and_tt htl hsub) (since_of hlate)) rfl fun a p q => ?_
  rw [noteSets_mode, finish_mode]
  exact ⟨rfl, rfl, rfl⟩

theorem prechargeComplete_ends (s b : State) (t : Nat) (hb : b = s.begin t) (hd : b.decides = true) (hsub : b.inSub 1 11 = true)
    (hlate : s.mode.cnt.stepAt + 100 * Config.ms ≤ b.now) :
    Gives (.prechargeComplete t) s [.clk, .lane, .seam, .edg, .bnc, .bal, .mode, .modeQ, .adc] fun u => u.mode.mode = 2 ∧ u.mode.target = s.mode.target ∧
      u.mode.sub = (if 3 ≤ s.mode.target then 1 else 0) ∧ (3 ≤ s.mode.target → u.mode.cnt.targetAt = b.now) := by
  subst hb
  have hne : (s.begin t).mode.mode ≠ 2 := by rw [(inSub_mode hsub).1]; decide
  refine execPrechargeComplete_goes.givesDecision rfl hd (and_tt hsub (since_of hlate)) rfl fun u hu => ?_
  have hidle := modeTo_all (own := false) hne
  have hnow : ((s.begin t).modeTo 2 false).now = (s.begin t).now := modeTo_now
  generalize (s.begin t).modeTo 2 false = w at hu hidle hnow
  rw [hu, j5Stops_mode]
  have hmode : w.mode.mode = 2 := by rw [hidle]
  have hidleSub : w.mode.sub = 0 := by rw [hidle]
  have htarget : w.mode.target = s.mode.target := by rw [hidle]; rfl
  rw [← htarget]
  split
  · exact ⟨hmode, rfl, rfl, fun _ => hnow⟩
  · next hlow => exact ⟨hmode, rfl, hidleSub, fun hrun => absurd hrun hlow⟩

/-! ## Starting a run mode (R417, R426) -/

theorem startMaxExpiry_idles (s b : State) (t : Nat) (hb : b = s.begin t) (hd : b.decides = true) (hsub : b.inSub 2 1 = true)
    (hlate : s.mode.cnt.targetAt + s.mp.startMaxMs * Config.ms ≤ b.now) :
    Gives (.startMaxExpiry t) s [.bnc, .mode] fun u => u.mode.mode = 2 ∧ u.mode.sub = 0 ∧ u.mode.target = 2 ∧ u.mode.evt.testBit 7 = true := by
  subst hb
  refine execStartMaxExpiry_goes.givesDecision rfl hd (and_tt hsub (since_of hlate)) rfl fun u hu => ?_
  rw [hu]
  exact ⟨(inSub_mode hsub).1, rfl, rfl, setBit_on⟩

theorem runStartConditions_runs (s b : State) (t : Nat) (hb : b = s.begin t) (hd : b.decides = true) (hsub : b.inSub 2 1 = true) (hok : b.startOk = true) :
    Gives (.runStartConditions t) s [.clk, .lane, .seam, .edg, .bnc, .bal, .mode, .modeQ, .adc] fun u => u.mode.mode = s.mode.target ∧
      u.mode.sub = (if s.mode.target = 6 then 6 else 2) := by
  subst hb
  refine execRunStartConditions_goes.givesDecision rfl hd (and_tt hsub hok) rfl fun u hu => ?_
  rw [hu]
  exact startRun_mode (z := s.begin t) (by rw [(inSub_mode hsub).1]; exact (target_of_startOk hok).symm)

/-! ## The grid coasts and returns (R430), overload (R434) -/

theorem gridCoastDetect_coasts (s b : State) (t : Nat) (hb : b = s.begin t) (hd : b.decides = true) (hsub : b.inSub 3 2 = true)
    (hcount : s.mp.coastDet ≤ s.mode.cnt.coast) :
    Gives (.gridCoastDetect t) s [.bnc, .mode] fun u => u.mode.mode = 3 ∧ u.mode.sub = 4 ∧ u.mode.evt.testBit 4 = true ∧ u.mode.cnt.coastAt = b.now := by
  subst hb
  refine execGridCoastDetect_goes.givesDecision rfl hd (and_tt hsub (decide_eq_true hcount)) rfl fun u hu => ?_
  rw [hu]
  exact ⟨(inSub_mode hsub).1, rfl, setBit_on, rfl⟩

theorem gridReturn_resyncs (s b : State) (t : Nat) (hb : b = s.begin t) (hd : b.decides = true) (hsub : b.inSub 3 4 = true)
    (hcount : b.periodsOf (s.mp.retTMs * Config.ms) ≤ s.mode.cnt.ret) :
    Gives (.gridReturn t) s [.bnc, .mode] fun u => u.mode.mode = 3 ∧ u.mode.sub = 5 ∧ u.mode.cnt.resync = 0 := by
  subst hb
  refine execGridReturn_goes.givesDecision rfl hd (and_tt hsub (decide_eq_true hcount)) rfl fun u hu => ?_
  rw [hu]
  exact ⟨(inSub_mode hsub).1, rfl, rfl⟩

theorem resyncComplete_runs (s b : State) (t : Nat) (hb : b = s.begin t) (hd : b.decides = true) (hsub : b.inSub 3 5 = true)
    (hcount : s.mp.resyncN ≤ s.mode.cnt.resync) :
    Gives (.resyncComplete t) s [.bnc, .mode] fun u => u.mode.mode = 3 ∧ u.mode.sub = 2 ∧ u.mode.evt.testBit 3 = true := by
  subst hb
  refine execResyncComplete_goes.givesDecision rfl hd (and_tt hsub (decide_eq_true hcount)) rfl fun u hu => ?_
  rw [hu, spStarts_spsOnly]
  exact ⟨(inSub_mode hsub).1, rfl, setBit_on⟩

theorem coastMaxExpiry_safe (s b : State) (t : Nat) (hb : b = s.begin t) (hd : b.decides = true) (hsub : b.inSub 3 4 = true ∨ b.inSub 3 5 = true)
    (hlate : s.mode.cnt.coastAt + s.mp.coastMaxMs * Config.ms ≤ b.now) (ha : b.activeCovered = false) :
    Gives (.coastMaxExpiry t) s [.free, .clk, .lane, .seam, .edg, .bnc, .bal, .evs, .mode, .modeQ, .adc, .cmp, .mesh] (SafeBy ((14, 0) :: b.rowCauses) b.now) := by
  subst hb
  have hmode : (s.begin t).mode.mode = 3 := hsub.elim (fun h => (inSub_mode h).1) fun h => (inSub_mode h).1
  have hcoast : (s.begin t).coastLate = true := and_tt ((Bool.or_eq_true _ _).mpr hsub) (since_of hlate)
  exact gives_lowest rfl hd hcoast (rowCauses_coast hcoast) (by omega) (by omega) ha

theorem overloadCount_safe (s b : State) (t : Nat) (hb : b = s.begin t) (hd : b.decides = true) (hmode : s.mode.mode = 4 ∨ s.mode.mode = 5)
    (hcount : b.periodsOf (s.mp.limTMs * Config.ms) ≤ s.mode.cnt.lim) (ha : b.activeCovered = false) :
    Gives (.overloadCount t) s [.free, .clk, .lane, .seam, .edg, .bnc, .bal, .evs, .mode, .modeQ, .adc, .cmp, .mesh] (SafeBy ((15, 0) :: b.rowCauses) b.now) := by
  subst hb
  have hover : (s.begin t).overloaded = true := and_tt (by simpa using hmode) (decide_eq_true hcount)
  exact gives_lowest rfl hd hover (rowCauses_over hover) (by rw [begin_mode]; omega) (by rw [begin_mode]; omega) ha

/-! ## A drive finds its motor, its link recovers, it stops, its brake fails (R433, R435, R438, R440) -/

theorem flyingStartFound_catches (s b : State) (t : Nat) (hb : b = s.begin t) (hd : b.decides = true) (hsub : b.driveSub 6 = true)
    (hcount : s.dp.fsN ≤ s.mode.cnt.fs) :
    Gives (.flyingStartFound t) s [.bnc, .mode] fun u => u.mode.mode = s.mode.mode ∧ u.mode.sub = 7 ∧ u.mode.fsF = (s.mvar s.mv.fsF).getD 0 ∧
      u.mode.cnt.catchAt = b.now := by
  subst hb
  refine execFlyingStartFound_goes.givesDecision rfl hd (and_tt hsub (decide_eq_true hcount)) rfl fun u hu => ?_
  rw [hu]
  exact ⟨rfl, rfl, rfl, rfl⟩

/-- A search that finds nothing: a motor taken to stand still is caught at 0, else the drive goes idle. -/
theorem fsTmaxExpiry_ends (s b : State) (t : Nat) (hb : b = s.begin t) (hd : b.decides = true) (hsub : b.driveSub 6 = true)
    (hlate : s.mode.cnt.searchAt + s.dp.fsTmaxMs * Config.ms ≤ b.now) :
    Gives (.fsTmaxExpiry t) s [.clk, .lane, .seam, .edg, .bnc, .bal, .evs, .mode, .modeQ, .adc] fun u =>
      if s.dp.assumeStop then u.mode.mode = s.mode.mode ∧ u.mode.sub = 7 ∧ u.mode.fsF = 0 ∧ u.mode.cnt.catchAt = b.now
      else u.mode.mode = 2 ∧ u.mode.sub = 0 ∧ u.mode.target = 2 ∧ u.mode.evt.testBit 6 = true := by
  subst hb
  refine execFsTmaxExpiry_goes.givesDecision rfl hd (and_tt hsub (since_of hlate)) rfl fun u hu => ?_
  rw [hu]
  have hdp : (s.begin t).dp = s.dp := rfl
  simp only [hdp]
  split
  · exact ⟨rfl, rfl, rfl, rfl⟩
  · have hidle : ((s.begin t).modeTo 2 true).mode.mode = 2 := modeTo_mode
    generalize (s.begin t).modeTo 2 true = w at hidle ⊢
    rw [event_mode]
    exact ⟨hidle, rfl, rfl, setBit_on⟩

theorem catchTExpiry_runs (s b : State) (t : Nat) (hb : b = s.begin t) (hd : b.decides = true) (hsub : b.driveSub 7 = true)
    (hlate : s.mode.cnt.catchAt + s.dp.catchTMs * Config.ms ≤ b.now) :
    Gives (.catchTExpiry t) s [.bnc, .mode] fun u => u.mode.mode = s.mode.mode ∧ u.mode.sub = 2 := by
  subst hb
  refine execCatchTExpiry_goes.givesDecision rfl hd (and_tt hsub (since_of hlate)) rfl fun u hu => ?_
  rw [hu, spStarts_spsOnly]
  exact ⟨rfl, rfl⟩

theorem driveCoastEnd_searches (s b : State) (t : Nat) (hb : b = s.begin t) (hd : b.decides = true) (hsub : b.driveSub 4 = true) (hcount : 1000 ≤ s.mode.cnt.low) :
    Gives (.driveCoastEnd t) s [.bnc, .mode] fun u => u.mode.mode = s.mode.mode ∧ u.mode.sub = 6 ∧ u.mode.cnt.searchAt = b.now ∧ u.mode.cnt.fs = 0 := by
  subst hb
  refine execDriveCoastEnd_goes.givesDecision rfl hd (and_tt hsub (decide_eq_true hcount)) rfl fun u hu => ?_
  rw [hu]
  exact ⟨rfl, rfl, rfl, rfl⟩

theorem zeroSpeedCount_idles (s b : State) (t : Nat) (hb : b = s.begin t) (hd : b.decides = true) (hmode : s.mode.mode = 7) (hcount : s.dp.zeroT ≤ s.mode.cnt.zero) :
    Gives (.zeroSpeedCount t) s [.clk, .lane, .seam, .edg, .bnc, .bal, .mode, .modeQ, .adc] fun u => u.mode.mode = 2 ∧ u.mode.sub = 0 := by
  subst hb
  refine execZeroSpeedCount_goes.givesDecision rfl hd (and_tt (beq_iff_eq.mpr hmode) (decide_eq_true hcount)) rfl fun u hu => ?_
  rw [hu, modeTo_all (by rw [begin_mode, hmode]; decide)]
  exact ⟨rfl, rfl⟩

theorem brkFault_faults (s b : State) (t j : Nat) (hb : b = s.begin t) (hd : b.decides = true) (hbrk : s.mode.brkFault = false) (hout : s.dp.brkOut = some j)
    (hcount : b.periodsOf (s.dp.brkCheckUs * Config.us) ≤ s.mode.cnt.brk) :
    Gives (.brkFault t) s [.bnc, .evs, .mode] fun u => u.mode.brkFault = true ∧ u.mode.evt.testBit 5 = true := by
  subst hb
  have hbroken : (!(s.begin t).mode.brkFault && (s.begin t).dp.brkOut.isSome) = true :=
    and_tt (by rw [begin_mode, hbrk]; rfl) (Option.isSome_of_eq_some hout)
  refine execBrkFault_goes.givesDecision rfl hd (and_tt hbroken (decide_eq_true hcount)) rfl fun u hu => ?_
  rw [hu]
  exact driveCoast_keeps setBit_on

/-! ## Feedback lost (R443), and a dwell that ends (R447) -/

theorem fbNew_of {z : State} {x : FbWatch} (hl : x.lost = false) (ho : z.fbOver x = true) (hv : z.fbLive x = true) : z.fbNew x = true :=
  and_tt (and_tt (by rw [hl]; rfl) ho) hv

theorem feedbackLost_safe (s b : State) (t k w : Nat) (x : FbWatch) (hb : b = s.begin t) (hd : b.decides = true) (hx : b.watch k w = some x) (hl : x.lost = false)
    (ho : b.fbOver x = true) (hv : b.fbLive x = true) (h0 : b.mode.mode ≠ 0) (h8 : b.mode.mode ≠ 8) (ha : b.activeCovered = false)
    (hcls : 1 < (b.inputDecl k w).cls) (halt : ∀ y ∈ s.mode.fb, y.onAlt = false) :
    Gives (.feedbackLost t k w) s [.free, .clk, .lane, .seam, .edg, .bnc, .bal, .evs, .mode, .modeQ, .adc, .cmp, .mesh] fun u =>
      u.mode.mode = 8 ∧ u.mode.reason = 10 ∧ u.mode.index = k * 512 + w := by
  subst hb
  have hframe : Frame 12564620 (s.begin t) (fbCritical k w (fbMark k w (s.begin t))) :=
    Frame.trans (by simp [fbMark]) (fbCritical_own (s := fbMark k w (s.begin t)) h0 h8 ha)
  obtain ⟨hmode, hreason, hindex, -⟩ := fbCritical_run (k := k) (w := w) (z := fbMark k w (s.begin t)) h0 h8 ha
  refine gives_if (m := 12564620) rfl (and_tt hd (by simp only [hx]; exact fbNew_of hl ho hv)) rfl ?_ rfl fun a p q => ?_
  · rw [fbTake_trip (z := s.begin t) halt hcls h0 h8 ha]
    exact hframe.trans (by simp)
  · rw [noteSets_mode, finish_mode, modeWords_mode, fbTake_trip (z := s.begin t) halt hcls h0 h8 ha]
    exact ⟨hmode, hreason, hindex⟩

theorem feedbackLost_marks (s b : State) (t k w : Nat) (x : FbWatch) (hb : b = s.begin t) (hd : b.decides = true) (hx : b.watch k w = some x) (hl : x.lost = false)
    (ho : b.fbOver x = true) (hv : b.fbLive x = true) (hcls : (b.inputDecl k w).cls = 0) (halt : ∀ y ∈ s.mode.fb, y.onAlt = false) :
    Gives (.feedbackLost t k w) s [.bnc, .mode] fun u => u.mode.mode = s.mode.mode ∧ u.mode.fbLost = k * 512 + w ∧ u.mode.evt.testBit 2 = true := by
  subst hb
  refine gives_if (m := 294912) rfl (and_tt hd (by simp only [hx]; exact fbNew_of hl ho hv)) rfl ?_ rfl fun a p q => ?_
  · rw [fbTake_keep (z := s.begin t) halt hcls]
    simp [fbMark]
  · rw [noteSets_mode, finish_mode, modeWords_mode, fbTake_keep (z := s.begin t) halt hcls]
    exact ⟨rfl, rfl, setBit_on⟩

theorem dwellEnd_ends (s b : State) (t k : Nat) (hb : b = s.begin t) (hd : b.decides = true) (hdwell : (at' s.mode.sps k {}).dwell = 1) :
    Gives (.dwellEnd t k) s [.bnc, .mode] fun u => u.mode.sps = modAt s.mode.sps k fun p => { p with
      dwell := 0 } := by
  subst hb
  refine execDwellEnd_goes.givesDecision rfl hd (beq_iff_eq.mpr hdwell) rfl fun u hu => ?_
  rw [hu]
  rfl

/-- Settles O32: each row by its own lemma; where a row takes the mode to SAFE, the lowest of the causes with a row acts. -/
theorem modeMachine : Obligations.ModeMachine :=
  ⟨prechargeP1Timeout_safe, prechargeP2Timeout_safe, prechargeRelayOff_opens, prechargeComplete_ends, startMaxExpiry_idles, runStartConditions_runs,
    gridCoastDetect_coasts, gridReturn_resyncs, resyncComplete_runs, coastMaxExpiry_safe, overloadCount_safe, flyingStartFound_catches, fsTmaxExpiry_ends,
    catchTExpiry_runs, driveCoastEnd_searches, zeroSpeedCount_idles, brkFault_faults, feedbackLost_safe, feedbackLost_marks, dwellEnd_ends⟩

end Sys2Proof.Machine

/-! PROOFS. The ADC sequencer: runs, wake, results, injected requests and calibration (R464 to R472, R478, R479). -/
namespace Sys2Proof.Machine
open State

/-- A row that touches ADC alone, where its condition holds. -/
theorem Goes.givesAdc {c : Instr} {s : State} {t : Nat} {w : AdcB} {f : State → State} {cond : State → Bool} (h : Goes 1048581 s (exec c s))
    (e : exec c s = .next (s.runIf t cond f)) (hc : cond (s.begin t) = true) (hw : (f (s.begin t)).adc = w) : Gives c s [.adc] fun u => u.adc = w :=
  h.givesIf e hc rfl fun a p q => by rw [noteSets_adc, finish_adc, hw]

section
variable {z : State} {a : Nat} {f g : Adc1 → Adc1}

/-! ## Changes of one ADC -/

/-- An ADC that is not OFF is one of the table. -/
theorem adc1_lt (h : (z.adc1 a).st ≠ 0) : a < z.adc.adcs.length := lt_of_getD (fun x : Adc1 => x.st ≠ 0) h fun hd => hd rfl
/-- Two changes of one ADC are one. -/
theorem onAdc1_onAdc1 : (z.onAdc1 a f).onAdc1 a g = z.onAdc1 a fun x => g (f x) := congrArg (fun y => z.onAdc fun b => { b with adcs := y }) modAt_modAt
/-- Two changes of an ADC that agree on it are the same. -/
theorem onAdc1_congr (h : f (z.adc1 a) = g (z.adc1 a)) : z.onAdc1 a f = z.onAdc1 a g :=
  congrArg (fun y => z.onAdc fun b => { b with adcs := y }) (modAt_congr ({} : Adc1) h)

/-! ## What an ADC does next (R467, R468, R472) -/

/-- An ADC that is not idle starts nothing. -/
theorem adcNext_busy (h : (z.adc1 a).st ≠ 1) : z.adcNext a = z := if_pos h
/-- Without requests and without a run, an ADC with no POWER_DOWN rests. -/
theorem adcNext_rests (hq : (z.adc1 a).queue = []) (he : (z.adc1 a).entry = none) (hp : (z.adcDecl a).pd = false) : z.adcNext a = z := by
  simp only [adcNext, hq, he, hp, Bool.false_eq_true, if_false, ite_self]
/-- The same for an ADC that a change leaves so. -/
theorem adcNext_onAdc1_rests (hin : a < z.adc.adcs.length) (hq : (f (z.adc1 a)).queue = []) (he : (f (z.adc1 a)).entry = none) (hp : (z.adcDecl a).pd = false) :
    (z.onAdc1 a f).adcNext a = z.onAdc1 a f := adcNext_rests (by rw [adc1_onAdc1 hin, hq]) (by rw [adc1_onAdc1 hin, he]) hp
/-- A powered-down ADC is awake in 300 ns. -/
theorem adcWakeUp_down (h : (z.adc1 a).st = 2) : z.adcWakeUp a = z.onAdc1 a fun x => { x with wakeAt := some (x.wakeAt.getD (z.now + 3840)) } := if_pos h
/-- An ADC that converts is not woken. -/
theorem adcWakeUp_converting (h : (z.adc1 a).st = 3) : z.adcWakeUp a = z := by
  rw [adcWakeUp, if_neg (by omega), adcNext_busy (by omega)]

/-! ## Injected requests (R471, R472) -/

/-- A request to an ADC that converts, with none before it, waits in its queue. -/
theorem injQueue_converting {b j : Nat} (hst : (z.adc1 a).st = 3) (hq : (z.adc1 a).queue = []) :
    z.injQueue a b j = z.onAdc1 a fun x => { x with queue := [(z.sysTime / 64, b, j)] } := by
  have hin : a < z.adc.adcs.length := adc1_lt (by omega)
  have hroom : ¬4 ≤ (z.adc1 a).queue.length := by rw [hq]; decide
  rw [injQueue, if_neg hroom, adcWakeUp_converting (by rw [adc1_onAdc1 hin]; exact hst)]
  exact onAdc1_congr (by simp only [hq]; rfl)
theorem injRequest_converting {j : Nat} {d : InjDecl} (hd : z.injDecl a j = some d) (hst : (z.adc1 a).st = 3) (hq : (z.adc1 a).queue = []) :
    z.injRequest a j = z.onAdc1 a fun x => { x with queue := [(z.sysTime / 64, a, j)] } := by
  have hon : ¬(z.adc1 a).st = 0 := by omega
  have hcal : ¬(z.adc1 a).st = 4 := by omega
  simp only [injRequest, hd, if_neg hon, if_neg hcal]
  exact injQueue_converting hst hq

/-! ## Results (R463, R470, R476, R477) -/

/-- An input within the span is within the operating range. -/
theorem beyond_of_span {nv : Int} (h : outOfSpan nv = false) : beyond nv = false := by
  simp only [outOfSpan, beyond, decide_eq_false_iff_not] at h ⊢
  omega
theorem trimSettle_none (h : at' z.clk.trimDue (2 + a) none = none) : z.trimSettle a = z := by simp only [trimSettle, h]

/-- The result of an entry whose input is specified and carries no DOUBT. -/
def entryRes (a e : Nat) (nv : Int) (z : State) : AdcRes :=
  { ch := (z.entryDecl a e).ch, run := (z.adc1 a).runs % 256, code := z.code a nv, num := z.now + 1 }
/-- The last entry of a TIMED sequence is complete: its result is stored and the ADC rests. -/
theorem convDone_lastEntry {e : Nat} {nv : Int} (hst : (z.adc1 a).st = 3) (hjob : (z.adc1 a).job = some (.entry e)) (hlast : (z.adcDecl a).entries.length = e + 1)
    (hfree : (z.adcDecl a).free = false) (hpd : (z.adcDecl a).pd = false) (hown : (z.entryDecl a e).shared = false) (hspan : outOfSpan nv = false)
    (hloose : (z.adc1 a).loose = none) (htrim : at' z.clk.trimDue (2 + a) none = none)
    (hsure : z.isDoubt a (z.entryDecl a e).ch (z.adc1 a).jobAt false = false) (hq : (z.adc1 a).queue = []) :
    z.convDone a nv = z.onAdc1 a fun x => { x with
      st := 1, job := none, entry := none, res := x.res.set e (entryRes a e nv z), chan := x.chan.set (z.entryDecl a e).ch (entryRes a e nv z)
      resWas := x.resWas.set e (at' x.res e {}), chanWas := x.chanWas.set (z.entryDecl a e).ch (at' x.chan (z.entryDecl a e).ch {}) } := by
  have hin : a < z.adc.adcs.length := adc1_lt (by omega)
  have hdecl (f : Adc1 → Adc1) : (z.onAdc1 a f).adcDecl a = z.adcDecl a := rfl
  have hentry (f : Adc1 → Adc1) : (z.onAdc1 a f).entryDecl a e = z.entryDecl a e := rfl
  have hsettle (f : Adc1 → Adc1) : (z.onAdc1 a f).trimSettle a = z.onAdc1 a f := trimSettle_none htrim
  simp only [convDone, hjob, beyond_of_span hspan, hloose, hspan, hsure, Bool.or_false, Bool.false_eq_true, if_false, hsettle, onAdc1_onAdc1, hdecl, hentry, hown,
    hlast, hfree, Nat.le_refl, decide_true, Bool.and_false, if_true, ite_self]
  exact adcNext_onAdc1_rests hin hq rfl hpd

/-! ## The end of a calibration (R478, R479) -/

/-- A calibration that passes gives the ADC its offset and gain; with nothing held the ADC rests. -/
theorem calEnd_passes {ofs : Int} {gain : Word} (hst : (z.adc1 a).st = 4) (hpass : calFails ofs gain = false) (hheld : (z.adc1 a).held = [])
    (he : (z.adc1 a).entry = none) (hq : (z.adc1 a).queue = []) (hp : (z.adcDecl a).pd = false) :
    z.calEnd a ofs gain = adcFlt 22 a (z.onAdc1 a fun x => { x with
      st := 1, cal := 3, ofs := ofs, gain := gain, calBad := false, calCnt := sat16 x.calCnt 1, powerCal := false, held := [] }) := by
  have hin : a < z.adc.adcs.length := adc1_lt (by omega)
  simp only [calEnd, hpass, Bool.false_eq_true, if_false, adc1_onAdc1 hin, hheld, each, List.foldl_nil, onAdc1_onAdc1]
  exact adcNext_rests (by rw [adc1_adcFlt, adc1_onAdc1 hin, hq]) (by rw [adc1_adcFlt, adc1_onAdc1 hin, he]) hp
end

/-! ## The rows -/

theorem adcRunStart_wakes (s b : State) (t a : Nat) (hb : b = s.begin t) (hon : b.adcOn = true) (hent : (b.adcDecl a).entries ≠ [])
    (hfree : (b.adcDecl a).free = true) (he : (b.adc1 a).entry = none) (hj : (b.adc1 a).job = none) (hst : (b.adc1 a).st = 2) (hcal : (b.adc1 a).cal ≠ 1)
    (hat : (b.adc1 a).runAt ≠ b.now + 1) :
    Gives (.adcRunStart t a) s [.adc] fun u => u.adc = { s.adc with
      adcs := modAt s.adc.adcs a fun x =>
        { x with runs := x.runs + 1, entry := some 0, runAt := b.now + 1, wakeAt := some (x.wakeAt.getD (b.now + 3840)) } } := by
  subst hb
  have hin : a < (s.begin t).adc.adcs.length := adc1_lt (by omega)
  refine execAdcRunStart_goes.givesAdc rfl ?_ ?_
  · simp [-begin_now, hon, hst, hent, hat, hfree, he, hj]
  · have hnotCal : ¬((s.begin t).adc1 a).st = 4 := by omega
    simp only [adc1_onAdc1 hin, hnotCal, he, hcal, Option.isSome_none, Bool.false_eq_true, if_false, onAdc1_onAdc1]
    rw [adcWakeUp_down (by rw [adc1_onAdc1 hin]; exact hst), onAdc1_onAdc1]
    rfl

theorem adcRunStart_overruns (s b : State) (t a e : Nat) (hb : b = s.begin t) (hon : b.adcOn = true) (hent : (b.adcDecl a).entries ≠ [])
    (hfree : (b.adcDecl a).free = false) (hrun : b.runInstant (b.adcDecl a) = true) (he : (b.adc1 a).entry = some e) (h0 : (b.adc1 a).st ≠ 0)
    (h4 : (b.adc1 a).st ≠ 4) (hat : (b.adc1 a).runAt ≠ b.now + 1) :
    Gives (.adcRunStart t a) s [.adc] fun u => u.adc = { s.adc with
      flt := setBit s.adc.flt 31, fltAdc := a
      adcs := modAt s.adc.adcs a fun x => { x with seqOvr := sat32 x.seqOvr 1, runAt := b.now + 1 } } := by
  subst hb
  have hin : a < (s.begin t).adc.adcs.length := adc1_lt h0
  refine execAdcRunStart_goes.givesAdc rfl ?_ ?_
  · simp [-begin_now, hon, h0, hent, hat, hfree, hrun]
  · simp only [adc1_onAdc1 hin, h4, he, Option.isSome_some, if_false, if_true, onAdc1_onAdc1]
    rfl

theorem adcWake_idles (s b : State) (t a w : Nat) (hb : b = s.begin t) (hst : (b.adc1 a).st = 2) (hw : (b.adc1 a).wakeAt = some w) (hnow : w = b.now)
    (he : (b.adc1 a).entry = none) (hq : (b.adc1 a).queue = []) (hp : (b.adcDecl a).pd = false) :
    Gives (.adcWake t a) s [.adc] fun u => u.adc = { s.adc with
      adcs := modAt s.adc.adcs a fun x => { x with st := 1, wakeAt := none } } := by
  subst hb
  have hin : a < (s.begin t).adc.adcs.length := adc1_lt (by omega)
  refine execAdcWake_goes.givesAdc rfl ?_ ?_
  · simp [hst, hw, hnow]
  · rw [adcNext_onAdc1_rests hin hq he hp]
    rfl

theorem adcConversionDone_stores (s b : State) (t a e : Nat) (nv : Int) (hb : b = s.begin t) (hst : (b.adc1 a).st = 3) (hat : (b.adc1 a).jobAt + 2560 = b.now)
    (hjob : (b.adc1 a).job = some (.entry e)) (hlast : (b.adcDecl a).entries.length = e + 1) (hfree : (b.adcDecl a).free = false)
    (hpd : (b.adcDecl a).pd = false) (hown : (b.entryDecl a e).shared = false) (hspan : State.outOfSpan nv = false) (hloose : (b.adc1 a).loose = none)
    (htrim : at' b.clk.trimDue (2 + a) none = none) (hsure : b.isDoubt a (b.entryDecl a e).ch (b.adc1 a).jobAt false = false) (hq : (b.adc1 a).queue = []) :
    Gives (.adcConversionDone t a nv) s [.free, .clk, .adc, .evs] fun u =>
      let r : AdcRes := { ch := (b.entryDecl a e).ch, run := (b.adc1 a).runs % 256, code := b.code a nv, num := b.now + 1 }
      u.adc = { s.adc with
        adcs := modAt s.adc.adcs a fun x =>
          { x with
            st := 1, job := none, entry := none, res := x.res.set e r, chan := x.chan.set r.ch r
            resWas := x.resWas.set e (at' x.res e {}), chanWas := x.chanWas.set r.ch (at' x.chan r.ch {}) } } ∧
      u.clk = s.clk ∧ u.free = s.free := by
  subst hb
  have hdone := convDone_lastEntry hst hjob hlast hfree hpd hown hspan hloose htrim hsure hq
  refine execAdcConversionDone_goes.givesIf rfl (by simp [hst, hat]) rfl fun _ _ _ => ?_
  rw [noteSets_adc, finish_adc, noteSets_clk, finish_clk, noteSets_free, finish_free, hdone]
  exact ⟨rfl, rfl, rfl⟩

theorem injectedRequest_queues (s b : State) (t a j c : Nat) (hb : b = s.begin t) (hon : b.adcOn = true) (hline : b.timeline = true)
    (hd : b.injDecl a j = some { ch := c, trig := .phase b.cyc }) (hst : (b.adc1 a).st = 3) (hq : (b.adc1 a).queue = [])
    (hper : b.inPer = 16 * b.cyc) (hat : at' (b.adc1 a).asked j 0 ≠ b.now + 1) :
    Gives (.injectedRequest t a j) s [.adc] fun u => u.adc = { s.adc with
      adcs := modAt s.adc.adcs a fun x => { x with queue := [(b.sysTime / 64, a, j)], asked := x.asked.set j (b.now + 1) } } := by
  subst hb
  have hin : a < (s.begin t).adc.adcs.length := adc1_lt (by omega)
  have hasked : ((s.begin t).askedNow a j).adc1 a = { (s.begin t).adc1 a with asked := ((s.begin t).adc1 a).asked.set j ((s.begin t).now + 1) } := adc1_onAdc1 hin
  refine execInjectedRequest_goes.givesAdc rfl ?_ ?_
  · simp only [hd]
    exact and_tt (and_tt hon (bne_iff_ne.mpr hat)) (and_tt hline (beq_iff_eq.mpr hper))
  · rw [injRequest_converting (z := (s.begin t).askedNow a j) hd (by rw [hasked]; exact hst) (by rw [hasked]; exact hq), askedNow, onAdc1_onAdc1]
    rfl

theorem calibrationRunning_begins (s b : State) (t a : Nat) (hb : b = s.begin t) (hcal : (b.adc1 a).cal = 1) (hj : (b.adc1 a).job = none)
    (hq : (b.adc1 a).queue = []) (hst : (b.adc1 a).st = 1) (hpart : (b.adc1 (State.partner a)).st = 0) :
    Gives (.calibrationRunning t a) s [.adc] fun u => u.adc = { s.adc with
      adcs := modAt s.adc.adcs a fun x => { x with st := 4, cal := 2, entry := none, wakeAt := none, calAt := b.now } } := by
  subst hb
  refine execCalibrationRunning_goes.givesAdc rfl ?_ ?_
  · simp [hcal, hj, hq, hst]
  · exact congrArg State.adc (adcNext_busy (by rw [adc1_onAdc1_ne (ne_partner a), hpart]; decide))

theorem calibrationEnd_ends (s b : State) (t a : Nat) (ofs : Int) (gain : Word) (hb : b = s.begin t) (hst : (b.adc1 a).st = 4)
    (hat : (b.adc1 a).calAt + 512000 = b.now) (hpass : State.calFails ofs gain = false) (hheld : (b.adc1 a).held = []) (he : (b.adc1 a).entry = none)
    (hq : (b.adc1 a).queue = []) (hp : (b.adcDecl a).pd = false) :
    Gives (.calibrationEnd t a ofs gain) s [.adc, .evs] fun u => u.adc = { s.adc with
      flt := setBit s.adc.flt 22, fltAdc := a
      adcs := modAt s.adc.adcs a fun x =>
        { x with st := 1, cal := 3, ofs := ofs, gain := gain, calBad := false, calCnt := sat16 x.calCnt 1, powerCal := false, held := [] } } := by
  subst hb
  refine execCalibrationEnd_goes.givesIf rfl (by simp [hst, Config.us, hat]) rfl fun _ _ _ => ?_
  rw [noteSets_adc, finish_adc, calEnd_passes hst hpass hheld he hq hp]
  rfl

/-- Settles O34: each row by its own lemma. -/
theorem adcSequencing : Obligations.AdcSequencing :=
  ⟨adcRunStart_wakes, adcRunStart_overruns, adcWake_idles, adcConversionDone_stores, injectedRequest_queues, calibrationRunning_begins, calibrationEnd_ends⟩

end Sys2Proof.Machine

/-! PROOFS. Modulator clocks and sieves: counting anew, exact outputs, STUCK (R487 to R491). -/
namespace Sys2Proof.Machine
open State

/-- Two changes of one sieve are one. -/
theorem onSieve_onSieve {z : State} {i : Nat} {f g : Sieve → Sieve} : (z.onSieve i f).onSieve i g = z.onSieve i fun x => g (f x) :=
  congrArg (fun y => z.onAdc fun b => { b with svs := y }) modAt_modAt

/-! ## Bits (R491) -/

/-- Sixty-four equal bits are the newest of a list. -/
theorem sixtyFour_of {level : Bool} {l : List Bool} (hlen : 64 ≤ l.length) (h : ∀ x ∈ l.take 64, x = level) : sixtyFour level l = true :=
  and_tt (decide_eq_true hlen) (List.all_eq_true.mpr fun x hx => beq_iff_eq.mpr (h x hx))
/-- The newest of the bits that have come. -/
theorem take_one_newest {same h : List Bool} {x : Bool} {n : Nat} (hn : 0 < n) : (((same ++ [x]).reverse ++ h).take n).take 1 = [x] := by
  rw [List.take_take, Nat.min_eq_left hn, List.reverse_append]
  rfl

/-! ## The rows -/

theorem sdcStartStop_takes (s b : State) (t k : Nat) (hb : b = s.begin t) (hk : k < 6) (hrun : at' b.adc.sdcRun k false ≠ b.sdcWanted k) :
    Gives (.sdcStartStop t k) s [.adc] fun u => u.adc = { s.adc with
      sdcRun := s.adc.sdcRun.set k (b.sdcWanted k)
      svs := s.adc.svs.mapIdx fun i x => if (b.sieveDecl i).clk = k then { x with got := 0, hist := [], valid := false, bitAt := b.sysTime } else x } := by
  subst hb
  exact execSdcStartStop_goes.givesAdc rfl (and_tt (decide_eq_true hk) (bne_iff_ne.mpr hrun)) rfl

/-- An output that is exact after enough bits is the normalised sum, and valid; below the limit it sets no SAT. -/
theorem sieveOutput_gives (s b : State) (t i n : Nat) (d : SieveDecl) (stream hist : List Bool) (y : Int) (hb : b = s.begin t) (hd : d = b.sieveDecl i)
    (hn : n = d.order * d.osr) (hen : d.en = true) (hrun : at' b.adc.sdcRun d.clk false = true) (hlate : 512 ≤ b.sysTime)
    (hat : (b.sysTime - 512 + d.ofs * b.bitTicks i) % (d.osr * b.bitTicks i) = 0) (hfit : b.bitsFit i (b.sysTime - 512) stream = true)
    (hbit : (b.sieve i).bitAt / b.bitTicks i ≤ (b.sysTime - 512) / b.bitTicks i) (hstuck : (b.sieve i).stuck = false)
    (hgot : n ≤ (b.sieve i).got + stream.length) (hhist : hist = (stream.reverse ++ (b.sieve i).hist).take n) (hosr : 0 < d.osr)
    (hsum : State.sincSum d.order d.osr (hist.map fun x => if x then 1 else -1) * 1073741824 = y * (d.osr : Int) ^ d.order) (hy : y.natAbs < 1006632960) :
    Gives (.sieveOutput t i stream) s [.free, .adc] fun u => u.free = s.free ∧ u.adc = { s.adc with
      svs := modAt s.adc.svs i fun x =>
        { x with hist := (stream.reverse ++ x.hist).take (max 64 n), got := min (max 64 n) (x.got + stream.length), bitAt := b.sysTime - 512
                 out := y, valid := true, settling := false, cnt := (x.cnt + 1) % 2 ^ 32
                 good := y, num := b.now + 1, goodWas := x.good, numWas := x.num } } := by
  subst hb hd hn hhist
  have hafter : ((s.begin t).sieve i).bitAt / (s.begin t).bitTicks i - ((s.begin t).sysTime - 512) / (s.begin t).bitTicks i = 0 := Nat.sub_eq_zero_of_le hbit
  have hden : ((((s.begin t).sieveDecl i).osr : Int) ^ ((s.begin t).sieveDecl i).order) ≠ 0 := pow_ne_zero _ (by omega)
  have hunsat : ¬1006632960 ≤ y.natAbs := by omega
  refine execSieveOutput_goes.givesIf rfl ?_ rfl fun _ _ _ => ?_
  · exact and_tt (and_tt (and_tt (and_tt hen hrun) (decide_eq_true hlate)) (beq_iff_eq.mpr hat)) hfit
  · rw [noteSets_free, finish_free, noteSets_adc, finish_adc]
    simp only [hafter, List.drop_zero, Nat.sub_zero, hstuck, hgot, hsum, Int.mul_emod_left, Int.mul_ediv_cancel _ hden, beq_self_eq_true, hunsat,
      decide_true, decide_false, Bool.not_false, Bool.and_true, Bool.and_false, Bool.not_true, Bool.false_eq_true, if_true, if_false, Nat.cast_zero,
      add_zero, bitsTake, onSieve_onSieve]
    exact ⟨rfl, rfl⟩

theorem sieveStuck_sets (s b : State) (t i n : Nat) (level : Bool) (stream : List Bool) (hb : b = s.begin t)
    (hn : n = (b.sieveDecl i).order * (b.sieveDecl i).osr) (hen : (b.sieveDecl i).en = true) (hrun : at' b.adc.sdcRun (b.sieveDecl i).clk false = true)
    (hstuck : (b.sieve i).stuck = false) (hfit : b.bitsFit i b.sysTime stream = true) (hlen : 64 ≤ stream.length + (b.sieve i).hist.length)
    (hsame : ∀ x ∈ (stream.reverse ++ (b.sieve i).hist).take 64, x = level) :
    Gives (.sieveStuck t i level stream) s [.evs, .adc] fun u => u.evs = (b.event 0x0682 (le 1 i ++ le 1 (bit level))).evs ∧
      u.adc = { s.adc with
        flt := setBit s.adc.flt 24, fltSieve := i
        svs := modAt s.adc.svs i fun x => { x with hist := (stream.reverse ++ x.hist).take (max 64 n), got := min (max 64 n) (x.got + stream.length), bitAt := b.sysTime
                                                   stuck := true, level := level, valid := false, evt := setBit x.evt 14 } } := by
  subst hb hn
  have hsixty := sixtyFour_of (by rw [List.length_append, List.length_reverse]; exact hlen) hsame
  refine execSieveStuck_goes.givesIf rfl ?_ rfl fun _ _ _ => ?_
  · exact and_tt (and_tt (and_tt (and_tt hen hrun) (by rw [hstuck]; rfl)) hfit) hsixty
  · rw [noteSets_evs, finish_evs, noteSets_adc, finish_adc, event_adc, bitsTake, onSieve_onSieve]
    exact ⟨rfl, rfl⟩

theorem sieveLeavesStuck_counts (s b : State) (t i : Nat) (same : List Bool) (hb : b = s.begin t) (hstuck : (b.sieve i).stuck = true)
    (hsame : ∀ x ∈ same, x = (b.sieve i).level) (hfit : b.bitsFit i b.sysTime (same ++ [!(b.sieve i).level]) = true) :
    Gives (.sieveLeavesStuck t i (same ++ [!(b.sieve i).level])) s [.adc] fun u => u.adc = { s.adc with
      svs := modAt s.adc.svs i fun x => { x with stuck := false, got := 1, hist := [!(b.sieve i).level], bitAt := b.sysTime } } := by
  subst hb
  refine execSieveLeavesStuck_goes.givesAdc rfl ?_ ?_
  · simpa [hstuck, hfit] using hsame
  · rw [bitsTake, onSieve_onSieve]
    simp only [take_one_newest (Nat.lt_of_lt_of_le (by decide : 0 < 64) (Nat.le_max_left ..))]
    rfl

/-- Settles O35: each row by its own lemma. -/
theorem modulatorSieves : Obligations.ModulatorSieves := ⟨sdcStartStop_takes, sieveOutput_gives, sieveStuck_sets, sieveLeavesStuck_counts⟩

end Sys2Proof.Machine

/-! PROOFS. The converters' commands accepted: ADC_CAL, ADC_INJECT, TDAC_SET, TDAC_CONNECT (R471, R472, R479, R483, R484). -/
namespace Sys2Proof.Machine
open State

/-- An accepted command whose effect lies in ADC. -/
theorem Accepts.givesAdc {cmd : Cmd} {c : Instr} {s : State} {t : Nat} {h : RecHdr} {p : Bytes} {w : AdcB} (ha : Accepts cmd h p (s.begin t))
    (e : exec c s = .next (hostRow cmd t h p s)) (hp : cmd.post = fun _ _ v => v) (hm : ∀ v, Frame 1048576 v (cmd.act h p v).1)
    (hw : ∀ x j, (cmd.act h p ((s.begin t).withHJ x j)).1.adc = w) : Gives c s ([.host, .jnl, .adc] ++ s.heldParts) fun u => u.adc = w :=
  ha.gives0 e hp hm rfl rfl fun x j _ _ hu => (hu.wide.keeps .adc rfl).trans (hw x j)

theorem adcCal_waits (s : State) (t : Nat) (h : RecHdr) (ha : Accepts cmdAdcCal h [] (s.begin t)) :
    Gives (.adcCal t h) s ([.host, .jnl, .adc] ++ s.heldParts) fun u => u.adc = { s.adc with
      adcs := modAt s.adc.adcs h.target fun x => { x with cal := 1 } } :=
  ha.givesAdc rfl rfl (fun v => by simp [cmdAdcCal]) fun _ _ => rfl

theorem adcInject_queues (s : State) (t d : Nat) (h : RecHdr) (i : InjDecl) (ha : Accepts cmdAdcInject h (le 1 d ++ le 3 0) (s.begin t))
    (hst : ((s.begin t).adc1 h.target).st = 3) (hq : ((s.begin t).adc1 h.target).queue = [])
    (hd : (s.begin t).injDecl h.target (field (le 1 d ++ le 3 0) 0 1) = some i) :
    Gives (.adcInject t h d) s ([.host, .jnl, .adc] ++ s.heldParts) fun u => u.adc = { s.adc with
      adcs := modAt s.adc.adcs h.target fun x => { x with queue := [((s.begin t).sysTime / 64, h.target, field (le 1 d ++ le 3 0) 0 1)] } } :=
  ha.givesAdc rfl rfl (fun v => by simp [cmdAdcInject]) fun x j =>
    congrArg State.adc (injRequest_converting (z := (s.begin t).withHJ x j) hd hst hq)

/-- A test DAC that is not connected takes a code without DOUBT. -/
theorem tdacSet_takes (s : State) (t code : Nat) (h : RecHdr) (ha : Accepts cmdTdacSet h (le 2 code ++ le 2 0) (s.begin t))
    (hfree : (at' s.adc.tdac h.target (0, none)).2 = none) :
    Gives (.tdacSet t h code) s ([.host, .jnl, .adc] ++ s.heldParts) fun u => u.adc = { s.adc with
      tdac := s.adc.tdac.set h.target (field (le 2 code ++ le 2 0) 0 2, none) } := by
  refine ha.givesAdc rfl rfl (fun v => by simp [cmdTdacSet]) fun x j => ?_
  simp only [cmdTdacSet, withHJ_adc, begin_adc, hfree]
  rfl

/-- A test DAC that is not connected is switched into an input. -/
theorem tdacTo_connects {z : State} {d n : Nat} (h : (at' z.adc.tdac d (0, none)).2 = none) :
    (z.tdacTo d (some n)).adc = { z.adc with
      tdac := z.adc.tdac.set d ((at' z.adc.tdac d (0, none)).1, some n)
      doubt := (n, z.now, z.now + 38400) :: z.adc.doubt.filter fun d => decide (z.now < d.2.2 + 2560) } := by
  simp only [tdacTo, h, reduceCtorEq, if_false]
  rfl

theorem tdacConnect_connects (s : State) (t input : Nat) (h : RecHdr) (ha : Accepts cmdTdacConnect h (le 1 input ++ le 3 0) (s.begin t))
    (hfree : (at' s.adc.tdac h.target (0, none)).2 = none) (hin : field (le 1 input ++ le 3 0) 0 1 ≠ 0xFF) :
    Gives (.tdacConnect t h input) s ([.host, .jnl, .adc] ++ s.heldParts) fun u =>
      let n := field (le 1 input ++ le 3 0) 0 1
      u.adc = { s.adc with
        tdac := s.adc.tdac.set h.target ((at' s.adc.tdac h.target (0, none)).1, some n)
        doubt := (n, max s.now t, max s.now t + 38400) :: s.adc.doubt.filter fun d => decide (max s.now t < d.2.2 + 2560) } := by
  refine ha.givesAdc rfl rfl (fun v => by simp [cmdTdacConnect]) fun x j => ?_
  simp only [cmdTdacConnect, if_neg hin]
  exact tdacTo_connects (z := (s.begin t).withHJ x j) hfree

/-- Settles O36: each command by its own lemma. -/
theorem adcCommands : Obligations.AdcCommands := ⟨adcCal_waits, adcInject_queues, tdacSet_takes, tdacConnect_connects⟩

end Sys2Proof.Machine

/-! PROOFS. The safety island: pairs, the reset edge, gate power, test pulses, failures, its supply (R538 to R553). -/
namespace Sys2Proof.Machine
open State

/-! ## Channels of a pair (R539 to R543) -/

/-- No pair in use that is open, or an island that is not on: nothing follows a channel (R540). -/
theorem demand_idle {p : Nat} {z : State} (h : z.pairUsed p = false ∨ (z.pairS p).demand = false ∨ z.safe.st ≠ 2 ∧ z.safe.st ≠ 3) : demand p z = z := by
  unfold demand
  refine if_neg fun hc => ?_
  simp only [Bool.and_eq_true, Bool.or_eq_true, beq_iff_eq] at hc
  obtain ⟨⟨hu, hd⟩, hst⟩ := hc
  rcases h with h | h | ⟨h2, h3⟩
  · exact Bool.noConfusion (h.symm.trans hu)
  · exact Bool.noConfusion (h.symm.trans hd)
  · exact hst.elim h2 h3
theorem sinChannelTaken_goes {t ch held : Nat} {high : Bool} {s w : State} {m : Nat} {l : List Part} {F : State → Prop} (hch : ch < 8)
    (hheld : rc (((s.begin t).pairDecl (ch / 2)).filtMs * Config.ms) ≤ held) (hw : demand (ch / 2) (sinState ch high (s.begin t)) = w)
    (hm : Frame m (s.begin t) w) (k : m ||| maskOfParts (.now :: .out :: l) = maskOfParts (.now :: .out :: l)) (hF : ∀ a p q, F (noteSets a (finish p q w))) :
    Gives (.sinChannelTaken t ch high held) s l F :=
  gives_if rfl (and_tt (decide_eq_true hch) (decide_eq_true hheld)) hw hm k hF

theorem sinChannelTaken_latches (s b : State) (t ch held : Nat) (high : Bool) (hb : b = s.begin t) (hch : ch < 8)
    (hheld : State.rc ((b.pairDecl (ch / 2)).filtMs * Config.ms) ≤ held) (hu : b.pairUsed (ch / 2) = true) (hl : ch / 2 < s.safe.pairs.length)
    (ho : at' (s.safe.sin.set ch high) (2 * (ch / 2)) false = false ∨
      at' (s.safe.sin.set ch high) (2 * (ch / 2) + 1) false = (b.pairDecl (ch / 2)).anti) (hst : b.safe.st = 2 ∨ b.safe.st = 3) :
    Gives (.sinChannelTaken t ch high held) s [.free, .seam, .edg, .bnc, .evs, .cmp, .safe, .mesh] fun u => u.safe.sin = s.safe.sin.set ch high ∧
      u.safe.st = 1 ∧ u.safe.cause = 2 ∧ u.safe.pair = ch / 2 ∧ u.safe.soffA = false ∧ u.safe.soffB = false ∧ u.safe.pulse = none ∧
      (b.inForce = true → b.latched 36 = false → u.cmp.latch = s.cmp.latch.set 36 true) := by
  subst hb
  have hdemand : ((sinState ch high (s.begin t)).pairS (ch / 2)).demand = true := by
    rw [sinState_demand (z := s.begin t) hl, begin_safe]
    rcases ho with ho | ho
    · rw [ho]
      rfl
    · rw [ho, bne_self_eq_false]
      exact Bool.or_true _
  refine sinChannelTaken_goes (m := 14856204) hch hheld rfl (by simp) rfl fun a p q => ?_
  rw [noteSets_safe, finish_safe, noteSets_cmp, finish_cmp]
  exact demand_acts (z := sinState ch high (s.begin t)) hu hdemand hst

theorem sinChannelTaken_stays (s b : State) (t ch held : Nat) (high : Bool) (hb : b = s.begin t) (hch : ch < 8)
    (hheld : State.rc ((b.pairDecl (ch / 2)).filtMs * Config.ms) ≤ held)
    (hno : b.pairUsed (ch / 2) = false ∨ b.safe.st = 0 ∨ b.safe.st = 1 ∨ b.safe.st = 4 ∨ ch / 2 < s.safe.pairs.length ∧
      at' (s.safe.sin.set ch high) (2 * (ch / 2)) false = true ∧ at' (s.safe.sin.set ch high) (2 * (ch / 2) + 1) false ≠ (b.pairDecl (ch / 2)).anti) :
    Gives (.sinChannelTaken t ch high held) s [.safe] fun u => u.safe.sin = s.safe.sin.set ch high ∧ u.safe.st = s.safe.st ∧ u.safe.cause = s.safe.cause ∧
      u.safe.soffA = s.safe.soffA ∧ u.safe.soffB = s.safe.soffB := by
  subst hb
  obtain ⟨hsin, -, -, hst, hcause, ha, hb, hused, hframe⟩ := sinState_same (ch := ch) (high := high) (z := s.begin t)
  have hidle : demand (ch / 2) (sinState ch high (s.begin t)) = sinState ch high (s.begin t) := by
    refine demand_idle ?_
    rw [hused, hst]
    rcases hno with hno | hno | hno | hno | ⟨hlen, hx, hy⟩
    · exact .inl hno
    · exact .inr (.inr (by omega))
    · exact .inr (.inr (by omega))
    · exact .inr (.inr (by omega))
    · rw [sinState_demand (z := s.begin t) hlen, begin_safe, hx, bne_iff_ne.mpr hy]
      exact .inr (.inl rfl)
  refine sinChannelTaken_goes hch hheld hidle hframe rfl fun a p q => ?_
  rw [noteSets_safe, finish_safe]
  exact ⟨hsin, hst, hcause, ha, hb⟩

theorem discrepancy_latches (s b : State) (t p a : Nat) (hb : b = s.begin t) (hu : b.pairUsed p = true) (hd : (b.pairS p).disAt = some a)
    (hlate : a + State.rc ((b.pairDecl p).discMs * Config.ms) ≤ b.now) (hst : b.safe.st = 1 ∨ b.safe.st = 2 ∨ b.safe.st = 3) :
    Gives (.discrepancy t p) s [.free, .seam, .edg, .bnc, .evs, .cmp, .safe, .mesh] fun u => u.safe = { State.soffOff s.safe with
      pairs := modAt s.safe.pairs p fun q => { q with disc := true, discOpen := false }
      st := 1, cause := 3, pair := p, evt := if s.safe.st = 1 then s.safe.evt else setBit s.safe.evt 0 } ∧
      (b.inForce = true → b.latched 36 = false → u.cmp.latch = s.cmp.latch.set 36 true) := by
  subst hb
  have hcond : ((s.begin t).pairUsed p && (match ((s.begin t).pairS p).disAt with
      | some a => decide (a + rc (((s.begin t).pairDecl p).discMs * Config.ms) ≤ (s.begin t).now)
      | none => false)) = true := by
    simp only [hu, hd, Bool.true_and, decide_eq_true hlate]
  refine gives_if (m := 14856204) rfl hcond (if_pos hst) (by simp [onPairS]) rfl fun _ _ _ => ?_
  obtain ⟨hsafe, htrip⟩ := islandLatch_all (c := 3) (p := p) (z := (s.begin t).onPairS p fun q => { q with disc := true, discOpen := false })
  rw [noteSets_safe, finish_safe, noteSets_cmp, finish_cmp, hsafe]
  refine ⟨?_, htrip⟩
  have hst' : s.safe.st = 1 ∨ s.safe.st = 2 ∨ s.safe.st = 3 := hst
  show ({ soffOff _ with st := 1, cause := 3, pair := p, evt := if s.safe.st = 2 ∨ s.safe.st = 3 then _ else _ } : Safe) = _
  by_cases h1 : s.safe.st = 1
  · rw [if_neg (by omega), if_pos h1]
    rfl
  · rw [if_pos (by omega), if_neg h1]
    rfl

/-! ## SAFE_RST (R550, R551) -/

/-- A press that has been counted. -/
def State.pressed (z : State) : State := z.onSafe fun x => { x with rst := true, rstFree := false, rstAt := z.now }
theorem safeRstEdge_gives {t held : Nat} {s w : State} {m : Nat} {l : List Part} {F : State → Prop} (hheld : rc (20 * Config.ms) ≤ held)
    (hrst : (s.begin t).safe.rst = false) (hfree : (s.begin t).safe.rstFree = true) (hw : countedEdge (s.begin t).pressed = w)
    (hm : Frame m (s.begin t) w) (k : m ||| maskOfParts (.now :: .out :: l) = maskOfParts (.now :: .out :: l)) (hF : ∀ a p q, F (noteSets a (finish p q w))) :
    Gives (.safeRstEdge t held) s l F :=
  gives_if rfl (and_tt (by rw [hrst]; rfl) (decide_eq_true hheld)) ((if_pos hfree).trans hw) hm k hF

theorem safeRstEdge_readies (s b : State) (t held : Nat) (hb : b = s.begin t) (hheld : State.rc (20 * Config.ms) ≤ held) (hrst : b.safe.rst = false)
    (hfree : b.safe.rstFree = true) (hst : b.safe.st = 1) (hready : b.pairsReady = true) (hvdd : b.safe.vddBad = false) :
    Gives (.safeRstEdge t held) s [.seam, .comp, .cmp, .safe] fun u => u.safe = { s.safe with
      rst := true, rstFree := false, rstAt := b.now, st := 2 } ∧ u.cmp.latch = s.cmp.latch.mapIdx fun i x => x && i != 36 := by
  subst hb
  refine safeRstEdge_gives (m := 6311940) hheld hrst hfree rfl (by simp [pressed]) rfl fun a p q => ?_
  rw [noteSets_safe, finish_safe, noteSets_cmp, finish_cmp]
  exact countedEdge_ready (z := (s.begin t).pressed) hst hready hvdd

theorem safeRstEdge_noted (s b : State) (t held : Nat) (hb : b = s.begin t) (hheld : State.rc (20 * Config.ms) ≤ held) (hrst : b.safe.rst = false)
    (hfree : b.safe.rstFree = true) (hno : ¬(b.safe.st = 1 ∧ b.pairsReady = true ∧ b.safe.vddBad = false)) :
    Gives (.safeRstEdge t held) s [.safe] fun u => u.safe = { s.safe with
      rst := true, rstFree := false, rstAt := b.now, evt := setBit s.safe.evt 2 } := by
  subst hb
  refine safeRstEdge_gives (m := 4194304) hheld hrst hfree (countedEdge_not (z := (s.begin t).pressed) hno) (by simp [pressed]) rfl fun a p q => ?_
  rw [noteSets_safe, finish_safe]
  rfl

theorem safeRstRelease_frees (s b : State) (t held : Nat) (_ : b = s.begin t) (hheld : State.rc (20 * Config.ms) ≤ held) :
    Gives (.safeRstRelease t held) s [.safe] fun u => u.safe = { s.safe with
      rst := false, rstFree := true, rstStuck := false } :=
  execSafeRstRelease_goes.givesIf rfl (decide_eq_true hheld) rfl fun _ _ _ => by rw [noteSets_safe, finish_safe]; rfl

theorem rstStuck_records (s b : State) (t : Nat) (hb : b = s.begin t) (hrst : b.safe.rst = true) (hs : b.safe.rstStuck = false)
    (hlate : b.safe.rstAt + State.rc (2 * Config.sec) ≤ b.now) :
    Gives (.rstStuck t) s [.evs, .safe] fun u => u.safe = { s.safe with
      rstStuck := true, evt := setBit s.safe.evt 3 } ∧ u.evs = (b.event 0x0783 []).evs := by
  subst hb
  refine execRstStuck_goes.givesIf rfl (and_tt (and_tt hrst (by rw [hs]; rfl)) (decide_eq_true hlate)) rfl fun _ _ _ => ?_
  rw [noteSets_safe, finish_safe, noteSets_evs, finish_evs]
  exact ⟨rfl, rfl⟩

/-! ## Gate power and test pulses (R544, R548) -/

theorem gatePowerRequest_follows (s b : State) (t : Nat) (hb : b = s.begin t) :
    Gives (.gatePowerRequest t) s [.safe] fun u => u.safe.gpReq = s.modeQ.gpReq ∧
      (s.safe.st = 2 → s.modeQ.gpReq = true → u.safe = { s.safe with
        gpReq := true, st := 3, soffA := true, soffB := true, testAt := b.now, tickAt := b.now, pulse := none }) ∧
      (s.safe.st = 3 → s.modeQ.gpReq = false → u.safe = { s.safe with
        gpReq := false, st := 2, soffA := false, soffB := false, pulse := none }) ∧
      (s.safe.st ≠ 2 → s.safe.st ≠ 3 → u.safe = { s.safe with
        gpReq := s.modeQ.gpReq }) := by
  subst hb
  refine execGatePowerRequest_goes.givesRun rfl rfl fun _ _ _ => ?_
  rw [noteSets_safe, finish_safe]
  exact gatePower_all (z := s.begin t)

theorem testPulse_begins (s b : State) (t : Nat) (hb : b = s.begin t) (hst : b.safe.st = 3) (hen : b.safe.testEn = true) (hp : b.safe.pulse = none)
    (ha : b.safe.soffA = true) (hb' : b.safe.soffB = true) (hlate : b.safe.testAt + State.rc (10 * Config.sec) ≤ b.now) :
    Gives (.testPulse t) s [.safe] fun u => u.safe = { s.safe with
      testAt := b.now, pulse := some s.safe.testNextB, soffA := s.safe.testNextB, soffB := !s.safe.testNextB } := by
  subst hb
  have hcond : ((s.begin t).safe.st == 3 && (s.begin t).safe.testEn && (s.begin t).safe.pulse.isNone &&
      decide ((s.begin t).safe.testAt + rc (10 * Config.sec) ≤ (s.begin t).now)) = true :=
    and_tt (and_tt (and_tt (beq_iff_eq.mpr hst) hen) (by rw [hp]; rfl)) (decide_eq_true hlate)
  refine execTestPulse_goes.givesIf rfl hcond rfl fun _ _ _ => ?_
  rw [noteSets_safe, finish_safe]
  exact if_pos (and_tt ha hb')

theorem testPulseEnd_ends (s b : State) (t : Nat) (x : Bool) (hb : b = s.begin t) (hp : b.safe.pulse = some x)
    (hlate : b.safe.testAt + State.rc (200 * Config.us) ≤ b.now) :
    Gives (.testPulseEnd t) s [.safe] fun u => u.safe = { s.safe with
      soffA := true, soffB := true, pulse := none, testNextB := !x, tested := (s.safe.tested + 1) % 2 ^ 31 } := by
  subst hb
  refine execTestPulseEnd_goes.givesIf rfl (and_tt (by rw [hp]; rfl) (decide_eq_true hlate)) rfl fun _ _ _ => ?_
  rw [noteSets_safe, finish_safe, onSafe_safe, hp]
  rfl

/-! ## Failures and the island's supply (R538, R547, R552, R553) -/

theorem soffReadbackFailure_faults (s b : State) (t : Nat) (x : Bool) (hb : b = s.begin t) (hst : b.safe.st ≠ 0) :
    Gives (.soffReadbackFailure t x) s [.free, .seam, .edg, .bnc, .evs, .cmp, .safe, .mesh] fun u => u.safe = { State.soffOff s.safe with
      st := 4, cause := if x then 6 else 5, evt := setBit s.safe.evt 1 } ∧
      (b.inForce = true → b.latched 36 = false → u.cmp.latch = s.cmp.latch.set 36 true) := by
  subst hb
  refine execSoffReadbackFailure_goes.givesIf rfl (bne_iff_ne.mpr hst) rfl fun _ _ _ => ?_
  rw [noteSets_safe, finish_safe, noteSets_cmp, finish_cmp]
  exact islandFault_all

theorem livenessTimeout_latches (s b : State) (t : Nat) (d : SafetyDesc) (hb : b = s.begin t) (hst : b.safe.st = 3) (hd : b.safe.desc = some d)
    (hlate : b.safe.tickAt + State.rc (d.liveMs * Config.ms) ≤ b.now) :
    Gives (.livenessTimeout t) s [.free, .seam, .edg, .bnc, .evs, .cmp, .safe, .mesh] fun u => u.safe = { State.soffOff s.safe with
      st := 1, cause := 4, evt := setBit s.safe.evt 0 } ∧
      (b.inForce = true → b.latched 36 = false → u.cmp.latch = s.cmp.latch.set 36 true) := by
  subst hb
  refine execLivenessTimeout_goes.givesIf rfl (and_tt (beq_iff_eq.mpr hst) (by rw [hd]; exact decide_eq_true hlate)) rfl fun _ _ _ => ?_
  obtain ⟨hsafe, htrip⟩ := islandLatch_all (c := 4) (p := (s.begin t).safe.pair) (z := s.begin t)
  rw [noteSets_safe, finish_safe, noteSets_cmp, finish_cmp, hsafe, if_pos (.inr hst)]
  exact ⟨rfl, htrip⟩

theorem safeClockCheck_faults (s b : State) (t x a : Nat) (hb : b = s.begin t) (hst : b.safe.st ≠ 0) (hoff : 100 * x < 130 * a ∨ 195 * a < 100 * x) :
    Gives (.safeClockCheck t x a) s [.free, .seam, .edg, .bnc, .evs, .cmp, .safe, .mesh] fun u => u.safe = { State.soffOff s.safe with
      st := 4, cause := 7, evt := setBit s.safe.evt 1 } ∧
      (b.inForce = true → b.latched 36 = false → u.cmp.latch = s.cmp.latch.set 36 true) := by
  subst hb
  refine execSafeClockCheck_goes.givesIf rfl (and_tt (bne_iff_ne.mpr hst) (by simpa using hoff)) rfl fun _ _ _ => ?_
  rw [noteSets_safe, finish_safe, noteSets_cmp, finish_cmp]
  exact islandFault_all

theorem vddSafeFault_stops (s b : State) (t : Nat) (hb : b = s.begin t) :
    Gives (.vddSafeFault t) s [.free, .seam, .edg, .bnc, .evs, .cmp, .safe, .mesh] fun u => u.safe = { State.soffOff s.safe with
      vddBad := true, st := 0 } ∧ (b.inForce = true → b.latched 36 = false → u.cmp.latch = s.cmp.latch.set 36 true) := by
  subst hb
  refine execVddSafeFault_goes.givesRun rfl rfl fun _ _ _ => ?_
  rw [noteSets_safe, finish_safe, noteSets_cmp, finish_cmp]
  exact islandInit_all (z := (s.begin t).onSafe fun x => { x with vddBad := true })

theorem vddSafeRecovery_restarts (s b : State) (t : Nat) (hb : b = s.begin t) (hv : b.safe.vddBad = true) :
    Gives (.vddSafeRecovery t) s [.free, .seam, .edg, .bnc, .evs, .cmp, .safe, .mesh] fun u => u.safe = { State.soffOff s.safe with
      vddBad := false, st := 0, rst := false, rstFree := false, rstStuck := false, testNextB := false, tested := 0
      pairs := List.replicate 4 {} } := by
  subst hb
  refine execVddSafeRecovery_goes.givesIf rfl hv rfl fun _ _ _ => ?_
  rw [noteSets_safe, finish_safe]
  exact islandInit_all.1

/-- Settles O38: each row by its own lemma; what latches the island, faults it or takes it to INIT fires source 36 as it does so. -/
theorem safetyIsland : Obligations.SafetyIsland :=
  ⟨sinChannelTaken_latches, sinChannelTaken_stays,
    discrepancy_latches, safeRstEdge_readies, safeRstEdge_noted, safeRstRelease_frees, rstStuck_records, gatePowerRequest_follows, testPulse_begins,
    testPulseEnd_ends, soffReadbackFailure_faults, livenessTimeout_latches, safeClockCheck_faults, vddSafeFault_stops, vddSafeRecovery_restarts⟩

end Sys2Proof.Machine

/-! PROOFS. The passphrase and the lock of the safety section (R556 to R559, R567). -/
namespace Sys2Proof.Machine
open State

/-! ## SAFE_UNLOCK and SAFE_LOCK (R558, R567) -/

theorem safeUnlock_unlocks (s b : State) (t : Nat) (pass : Bytes) (h : RecHdr) (ha : Accepts cmdSafeUnlock h (le 1 pass.length ++ le 3 0 ++ pass) (s.begin t))
    (hb : b = s.begin t) :
    Gives (.safeUnlock t h pass.length pass) s ([.host, .jnl, .evs, .safe] ++ s.heldParts) fun u => u.safe = { s.safe with
      unlocked := true, unlockSess := h.sess, unlockEnd := b.now + s.safe.unlockMin * 60 * Config.sec } ∧ u.evs.fails = 0 ∧
      u.evs.logHead = (s.evs.logHead + 1) % 2 ^ 32 := by
  subst hb
  refine ha.gives0 (m := 4325376) rfl rfl (fun v => by simp [cmdSafeUnlock]) rfl rfl fun x j u _ hu => ?_
  rw [show u.safe = _ from hu.wide.keeps .safe rfl, show u.evs = _ from hu.wide.keeps .evs rfl]
  exact ⟨rfl, rfl, rfl⟩

/-- An unlocked section that locks leaves an entry in the change log (R558). -/
theorem relock_unlocked {src sess : Nat} {z : State} (h : z.safe.unlocked = true) :
    z.relock src sess = (z.onSafe fun x => { x with unlocked := false, unlockSess := 0 }).logAdd 6 src sess 0 0 0 [] := if_pos h

theorem safeLock_locks (s b : State) (t : Nat) (h : RecHdr) (ha : Accepts cmdSafeLock h [] (s.begin t)) (hb : b = s.begin t) (hu : b.safe.unlocked = true) :
    Gives (.safeLock t h) s ([.host, .jnl, .evs, .safe] ++ s.heldParts) fun u => u.safe = { s.safe with
      unlocked := false, unlockSess := 0 } ∧ u.evs.logHead = (s.evs.logHead + 1) % 2 ^ 32 := by
  subst hb
  refine ha.gives0 (m := 4325376) rfl rfl (fun v => by simp [cmdSafeLock]) rfl rfl fun x j u _ hafter => ?_
  have hact : (cmdSafeLock.act h [] ((s.begin t).withHJ x j)).1 = _ := relock_unlocked (z := (s.begin t).withHJ x j) hu
  rw [hact] at hafter
  rw [show u.safe = _ from hafter.wide.keeps .safe rfl, show u.evs = _ from hafter.wide.keeps .evs rfl]
  exact ⟨rfl, rfl⟩

/-! ## SAFE_PASS_SET (R557) -/

/-- Salt and passphrase of the payload that carries them, with a passphrase no longer than its length byte can say. -/
theorem passFields {salt pass : Bytes} (hs : salt.length = 16) (hp : pass.length < 256) :
    slice (salt ++ le 1 pass.length ++ le 3 0 ++ pass) 0 16 = salt ∧ passOf (salt ++ le 1 pass.length ++ le 3 0 ++ pass) 16 = pass := by
  have hsalt : slice salt 0 16 = salt := hs ▸ slice_whole salt
  have hlen : field (salt ++ (le 1 pass.length ++ (le 3 0 ++ pass))) 16 1 = pass.length := by
    rw [field, slice_append_right _ _ _ _ (by omega), hs]
    exact field_le_of_lt hp
  simp only [List.append_assoc, passOf, hlen]
  refine ⟨(slice_append_left _ _ _ _ (by omega)).trans hsalt, ?_⟩
  rw [slice_append_right _ _ _ _ (by omega), slice_append_right _ _ _ _ (by rw [le_length]; omega), slice_append_right _ _ _ _ (by simp only [le_length]; omega)]
  simp only [hs, le_length]
  exact slice_whole pass

theorem safePassSet_sets (s b : State) (t : Nat) (salt pass : Bytes) (h : RecHdr)
    (ha : Accepts cmdSafePassSet h (salt ++ le 1 pass.length ++ le 3 0 ++ pass) (s.begin t)) (_ : b = s.begin t) (hs : salt.length = 16) :
    Gives (.safePassSet t h salt pass.length pass) s ([.host, .jnl, .evs] ++ s.heldParts) fun u => u.evs.salt = salt ∧
      u.evs.hash = some (sha256 (salt ++ pass)) ∧ u.evs.logHead = (s.evs.logHead + 1) % 2 ^ 32 := by
  have hp : pass.length < 256 := by
    obtain ⟨hsize, -⟩ := ha.came.size
    simp only [List.length_append] at hsize
    omega
  have hpad : padTo 16 (salt.take 16) = salt := by simp [padTo, hs, List.take_of_length_le]
  obtain ⟨hsalt, hpass⟩ := passFields hs hp
  refine ha.gives0 (m := 131072) (by rw [exec, execSafePassSet, hpad]) rfl (fun v => by simp [cmdSafePassSet]) rfl rfl fun x j u _ hu => ?_
  rw [show u.evs = _ from hu.wide.keeps .evs rfl]
  simp only [cmdSafePassSet, hsalt, hpass]
  exact ⟨rfl, rfl, rfl⟩

/-! ## The ends of an unlock and of a lockout (R558, R559) -/

theorem unlockTimeout_locks (s b : State) (t : Nat) (hb : b = s.begin t) (hu : b.safe.unlocked = true) (hend : b.safe.unlockEnd ≤ b.now) :
    Gives (.unlockTimeout t) s [.evs, .safe] fun u => u.safe = { s.safe with
      unlocked := false, unlockSess := 0 } ∧ u.evs = (b.logAdd 6 7 b.safe.unlockSess 0 0 0 []).evs := by
  subst hb
  refine gives_if (m := 4325376) rfl (and_tt hu (decide_eq_true hend)) (relock_unlocked hu) (by simp) rfl fun _ _ _ => ?_
  rw [noteSets_safe, finish_safe, noteSets_evs, finish_evs]
  exact ⟨rfl, rfl⟩

theorem lockoutEnd_ends (s b : State) (t a : Nat) (hb : b = s.begin t) (hl : b.evs.lockout = some a) (hend : a ≤ b.now) :
    Gives (.lockoutEnd t) s [.evs] fun u => u.evs = { s.evs with
      lockout := none, fails := 0 } := by
  subst hb
  refine execLockoutEnd_goes.givesIf rfl (by rw [hl]; exact decide_eq_true hend) rfl fun _ _ _ => ?_
  rw [noteSets_evs, finish_evs]
  rfl

/-- Settles O39: each command and row by its own lemma. -/
theorem passphraseAndLock : Obligations.PassphraseAndLock :=
  ⟨safeUnlock_unlocks, safeLock_locks, safePassSet_sets, unlockTimeout_locks, lockoutEnd_ends⟩

end Sys2Proof.Machine

/-! PROOFS. Authority over a pair: the STANDBY's start and compile, takeover and detachment, resignation, fencing, handover (R627 to R640). -/
namespace Sys2Proof.Machine
open State

/-! ## RESIGN and HANDOVER of the partner (R629, R634) -/

section
variable {s b : State} {t : Nat} {x : PortRx} {h : MHdr} {p : Bytes} {c : Instr} {f : PairB → PairB}

/-- A frame of the partner that leaves a STANDBY a note. -/
theorem FromPartner.notes (hb : b = s.begin t) (hf : FromPartner x h p b) (hm : b.mirrored = true) (hst : s.pair.st = 3)
    (e : exec c s = .next (s.runIf t (fun s => s.mirrored && s.pair.st == 3) (pairIn x (onPair f)))) :
    Gives c s [.mesh, .pair] fun u => u.pair = f s.pair ∧ u.mesh = (b.brought x h p).mesh := by
  subst hb
  refine gives_if (m := 25165824) e (and_tt hm (beq_iff_eq.mpr hst)) hf.isIn (Frame.trans (hf.frame.widen rfl) (by simp)) rfl fun _ _ _ => ?_
  rw [noteSets_pair, finish_pair, noteSets_mesh, finish_mesh, onPair_pair, hf.pair rfl]
  exact ⟨rfl, rfl⟩
end

theorem resign_noted (s b : State) (t c : Nat) (x : PortRx) (h : MHdr) (p : Bytes) (hb : b = s.begin t) (hf : FromPartner x h p b) (hm : b.mirrored = true)
    (hst : s.pair.st = 3) : Gives (.resign t x c) s [.mesh, .pair] fun u => u.pair = { s.pair with
      resigned := some c } ∧ u.mesh = (b.brought x h p).mesh :=
  FromPartner.notes (f := fun p => { p with resigned := some c }) hb hf hm hst rfl

theorem handover_noted (s b : State) (t n : Nat) (x : PortRx) (h : MHdr) (p : Bytes) (hb : b = s.begin t) (hf : FromPartner x h p b) (hm : b.mirrored = true)
    (hst : s.pair.st = 3) : Gives (.handover t x n) s [.mesh, .pair] fun u => u.pair = { s.pair with
      handover := some n } ∧ u.mesh = (b.brought x h p).mesh :=
  FromPartner.notes (f := fun p => { p with handover := some n }) hb hf hm hst rfl

/-! ## The STANDBY's bench start (R620) -/

section
variable {z : State} {i : InputSet}

/-- Without INPUT of the period the benches start on the own set, which is counted. -/
theorem standbyStart_own (h : z.onInput = false) : z.standbyStart = (z.onPair fun p => { p with ownCnt := sat32 p.ownCnt 1 }).benchesStart := by
  unfold onInput at h
  unfold standbyStart
  split
  · rename_i i hi
    rw [hi] at h
    exact if_neg (beq_eq_false_iff_ne.mp h)
  · rfl
/-- With it they start on INPUT. -/
theorem standbyStart_input (hi : z.pair.input = some i) (hp : i.period = z.per) : z.standbyStart = (z.inputUse i).benchesStart := by
  unfold standbyStart
  rw [hi]
  exact if_pos hp
theorem inputUse_mode : (z.inputUse i).mode = { z.mode with vars := i.vars } :=
  (by unfold inputUse; simp : Frame 32768 (z.onMode fun m => { m with vars := i.vars }) (z.inputUse i)).keeps .mode rfl
theorem lagged_pair : z.lagged.pair = z.pair := z.lagged_same .pair (by decide)
theorem lagged_mode : z.lagged.mode = z.mode := z.lagged_same .mode (by decide)
theorem lagged_seam : z.lagged.seam = z.seam := z.lagged_same .seam (by decide)
end

theorem standbyBenchStart_starts (s b y : State) (t : Nat) (hb : b = s.begin t) (hy : y = b.lagged) (hp : s.cfg.topo.pair = true) (hst : s.pair.st = 3)
    (hat : y.atPoint 1 80 = true) :
    (y.onInput = false → Gives (.standbyBenchStart t) s [.bnc, .pair, .mode, .pts] fun u => u.pair = { s.pair with
      ownCnt := sat32 s.pair.ownCnt 1 } ∧ u.mode = s.mode) ∧
    (∀ i, s.pair.input = some i → i.period = y.per → Gives (.standbyBenchStart t) s [.bnc, .mode, .pts] fun u => u.mode = { s.mode with
      vars := i.vars }) := by
  subst hb hy
  have hcond : ((s.begin t).cfg.topo.pair && (s.begin t).pair.st == 3 && (s.begin t).lagged.atPoint 1 80) = true :=
    and_tt (and_tt hp (beq_iff_eq.mpr hst)) hat
  refine ⟨fun hno => ?_, fun i hi hper => ?_⟩
  · have hstart := standbyStart_own (z := (s.begin t).lagged.reach 1) hno
    refine lagGives (m := 285245440) rfl hcond (by rw [hstart]; simp) rfl rfl fun _ _ _ => ?_
    rw [noteSets_pair, finish_pair, noteSets_mode, finish_mode, unlag_pair, unlag_mode, hstart, benchesStart_keeps.1, benchesStart_keeps.2]
    exact ⟨congrArg (fun p : PairB => { p with ownCnt := sat32 p.ownCnt 1 }) lagged_pair, lagged_mode⟩
  · have hstart := standbyStart_input (z := (s.begin t).lagged.reach 1) ((congrArg PairB.input lagged_pair).trans hi) hper
    refine lagGives (m := 268730368) rfl hcond (by rw [hstart]; simp) rfl rfl fun _ _ _ => ?_
    rw [noteSets_mode, finish_mode, unlag_mode, hstart, benchesStart_keeps.2, inputUse_mode]
    exact congrArg (fun m : ModeB => { m with vars := i.vars }) lagged_mode

/-! ## The STANDBY's compile: from REFS, or none; takeover and detachment (R620, R628, R630, R631) -/

/-- A STANDBY whose REFS are not those of the period: one more missed, nothing compiled. -/
def State.refsMissed (z : State) : State :=
  (z.onPair fun p => { p with hbMiss := sat32 p.hbMiss 1, missRun := p.missRun + 1, evt := setBit p.evt 0, setCrcs := [] }).onComp fun k =>
    { k with done := false, cells := [], locals := [], slow := [] }

section
variable {z : State} {r : RefsFrame}

theorem standbyCompile_whole (hr : z.pair.refs = some r) (hp : r.period = z.per) (hn : z.pair.resigned = none) :
    Frame 16936972 z z.standbyCompile ∧ z.standbyCompile.comp.per = z.perPlus 1 ∧ z.standbyCompile.comp.done = true ∧
      z.standbyCompile.pair.st = z.pair.st ∧ z.standbyCompile.pair.missRun = 0 := by
  have hwhole : (match z.pair.refs with | some r => r.period == z.per | none => false) = true := by
    rw [hr]
    exact beq_iff_eq.mpr hp
  obtain ⟨y, hy⟩ : ∃ y, y = z.onPair fun p => { p with missRun := 0 } := ⟨_, rfl⟩
  obtain ⟨w, hw⟩ : ∃ w, w = (if y.onInput then y.shadowCheck y.shadowDiff else y) := ⟨_, rfl⟩
  obtain ⟨x, hx⟩ : ∃ x, x = w.compile [] [] := ⟨_, rfl⟩
  rw [sb_whole hwhole hn y hy w hw x hx]
  have hfy : Frame 16777216 z y := by rw [hy]; simp
  have hfw : Frame 16908288 y w := by
    rw [hw]
    simp [↓Frame.ite]
  have hfx : Frame 28680 w x := by rw [hx]; simp
  have hzw : Frame 16908288 z w := (hfy.widen rfl).trans hfw
  have hst : w.pair.st = z.pair.st ∧ w.pair.missRun = 0 := by
    have hyst : y.pair.st = z.pair.st ∧ y.pair.missRun = 0 := by rw [hy]; exact ⟨rfl, rfl⟩
    rw [hw]
    split
    · exact ⟨(shadowCheck_val (·.st) (fun _ _ _ => rfl) (fun _ _ _ => rfl) fun _ _ _ _ _ => rfl).trans hyst.1,
        (shadowCheck_val (·.missRun) (fun _ _ _ => rfl) (fun _ _ _ => rfl) fun _ _ _ _ _ => rfl).trans hyst.2⟩
    · exact hyst
  have hper : w.per = z.per := per_of (hzw.keeps .now rfl) (hzw.keeps .ofs rfl) (hzw.keeps .clk rfl) (hzw.keeps .img rfl)
  have hxp : x.pair = w.pair := hfx.keeps .pair rfl
  obtain ⟨hcper, hdone, -⟩ := compile_refs (k := []) (z := w)
  rw [← hx] at hcper hdone
  refine ⟨Eq.mpr (State.sendHealth_frame rfl) (Eq.mpr (State.onPair_frame rfl) ((hzw.widen rfl).trans (hfx.widen rfl))), ?_, hdone, ?_, ?_⟩
  · show x.comp.per = _
    rw [hcper, perPlus, hper, perPlus]
  · exact (congrArg PairB.st hxp).trans hst.1
  · exact (congrArg PairB.missRun hxp).trans hst.2

section
variable (hr : ∀ r, z.pair.refs = some r → r.period ≠ z.per) (hn : z.pair.resigned = none)
include hr hn

/-- Without REFS of the period a STANDBY whose partner has not resigned acts on how many it has missed. -/
theorem standbyCompile_missed : z.standbyCompile = if 2 ≤ z.pair.missRun + 1 then
      if z.partnerShips then z.refsMissed.detach else if z.healthy then z.refsMissed.claim 0 else z.refsMissed.sendHealth
    else z.refsMissed.sendHealth := by
  refine sb_lost ?_ hn z.refsMissed rfl
  split
  · rename_i r e
    exact beq_eq_false_iff_ne.mpr (hr r e)
  · rfl

theorem standbyCompile_first (hmiss : z.pair.missRun = 0) : z.standbyCompile = z.refsMissed.sendHealth := by
  rw [standbyCompile_missed hr hn, if_neg (by omega)]
theorem standbyCompile_detaches (hmiss : 1 ≤ z.pair.missRun) (hs : z.partnerShips = true) : z.standbyCompile = z.refsMissed.detach := by
  rw [standbyCompile_missed hr hn, if_pos (by omega), if_pos hs]
theorem standbyCompile_claims (hmiss : 1 ≤ z.pair.missRun) (hs : z.partnerShips = false) (hh : z.healthy = true) :
    z.standbyCompile = z.refsMissed.claim 0 := by
  rw [standbyCompile_missed hr hn, if_pos (by omega), if_neg (by rw [hs]; decide), if_pos hh]
end

theorem refsMissed_frame : Frame 16793600 z z.refsMissed := by
  unfold refsMissed
  simp
/-- A member that detaches has lost its partner, and is in step with it no longer. -/
theorem detach_pair : z.detach.pair.st = 5 ∧ z.detach.pair.health.testBit 62 = false := by
  unfold detach
  obtain ⟨e, hd, hstep, -⟩ := healthStep_pair (s := z) (f := fun s =>
    (s.onPair fun p => { p with st := 5, handover := none, resigned := none, evt := setBit p.evt 2 }).healthPut 62 false)
  obtain ⟨hh, l, hput, hbit⟩ := healthPut_pair (b := 62) (v := false)
    (s := z.onPair fun p => { p with st := 5, handover := none, resigned := none, evt := setBit p.evt 2 })
  simp only [event_pair, hstep, hput]
  exact ⟨rfl, hbit⟩
end

/-- What a claim leaves, in a state that its member has come to with its clock and its epoch as they were. -/
structure Claimed (z u : State) : Prop where
  active : u.pair.st = 4
  beats : u.pair.heartbeat = true
  takes : u.pair.takePer = z.perPlus 1
  epoch : u.seam.epoch = (z.seam.epoch + 1) % 65536
theorem claim_claims {c : Nat} {z w : State} (h : Frame 16793600 z w) : Frame 25327117 z (w.claim c) ∧ Claimed z (w.claim c) := by
  obtain ⟨hst, hbeat, htake, hepoch⟩ := claim_all (z := w) (c := c)
  have hper : w.per = z.per := per_of (h.keeps .now rfl) (h.keeps .ofs rfl) (h.keeps .clk rfl) (h.keeps .img rfl)
  have hseam : w.seam = z.seam := h.keeps .seam rfl
  exact ⟨(h.widen rfl).trans (by simp), hst, hbeat, htake.trans (by rw [perPlus, hper, perPlus]), by rw [hepoch, hseam]⟩

section
variable {s w : State} {t : Nat}
  (hcond : ((s.begin t).cfg.topo.pair && (s.begin t).pair.st == 3 && (s.begin t).lagged.atPoint 5 ((s.begin t).kO + 32)) = true)
include hcond

/-- The compile's row by the lagged clock, once what is due has landed: what the compile does. -/
theorem standbyCompile_row {m : Nat} {l : List Part} {F : State → Prop} (hw : ((s.begin t).landDue.lagged.reach 5).standbyCompile = w)
    (hm : Frame m ((s.begin t).landDue.lagged.reach 5) w) (k0 : m.testBit Part.ofs.num = false)
    (k : (268435456 ||| m) ||| maskOfParts (.now :: .out :: l) = maskOfParts (.now :: .out :: l))
    (hF : ∀ a p q, F (noteSets a (finish p q (unlag (s.begin t).landDue.ofs w)))) :
    ∃ u, exec (.standbyCompile t) s = .next u ∧ Only l (s.begin t).landDue u ∧ F u := by
  have hreach : Frame (268435456 ||| m) (s.begin t).landDue.lagged ((s.begin t).landDue.lagged.reach 5) :=
    Eq.mpr (State.reach_frame (by rw [← Nat.or_assoc, Nat.or_self])) (by simp)
  refine lagRow (m := 268435456 ||| m) (g := landDue) (f := fun s => (s.reach 5).standbyCompile) rfl hcond ?_ ?_ k fun a p q => ?_
  · rw [hw]
    exact hreach.trans (hm.widen (by rw [Nat.or_comm 268435456, ← Nat.or_assoc, Nat.or_self]))
  · rw [Nat.testBit_or, k0]
    rfl
  · rw [hw]
    exact hF a p q

/-- The same where the compile claims authority. -/
theorem standbyCompile_claimRow {c : Nat} (hw : ((s.begin t).landDue.lagged.reach 5).standbyCompile = w.claim c)
    (hm : Frame 16793600 ((s.begin t).landDue.lagged.reach 5) w) :
    ∃ u, exec (.standbyCompile t) s = .next u ∧ Only [.free, .host, .jnl, .seam, .edg, .comp, .evs, .mesh, .pair, .pts] (s.begin t).landDue u ∧
      u.pair.st = 4 ∧ u.pair.heartbeat = true ∧ u.pair.takePer = (s.begin t).landDue.lagged.perPlus 1 ∧ u.seam.epoch = (s.seam.epoch + 1) % 65536 := by
  obtain ⟨hframe, hclaimed⟩ := claim_claims (c := c) hm
  have hseam : ((s.begin t).landDue.lagged.reach 5).seam = s.seam :=
    lagged_seam.trans ((by simp : Frame 8398349 (s.begin t) (s.begin t).landDue).keeps .seam rfl)
  refine standbyCompile_row hcond hw hframe rfl rfl fun _ _ _ => ?_
  rw [noteSets_pair, finish_pair, noteSets_seam, finish_seam, unlag_pair, unlag_seam]
  exact ⟨hclaimed.active, hclaimed.beats, hclaimed.takes, by rw [hclaimed.epoch, hseam]⟩
end

theorem standbyCompile_compiles (s b v y : State) (t : Nat) (hb : b = s.begin t) (hv : v = b.landDue) (hy : y = v.lagged) (hp : s.cfg.topo.pair = true)
    (hst : s.pair.st = 3) (hat : b.lagged.atPoint 5 (b.kO + 32) = true) :
    (∀ r, s.pair.refs = some r → r.period = y.per → s.pair.resigned = none → ∃ u, exec (.standbyCompile t) s = .next u ∧
      Only [.free, .seam, .edg, .comp, .evs, .pair, .pts] v u ∧ u.comp.per = y.perPlus 1 ∧ u.comp.done = true ∧ u.pair.st = 3 ∧ u.pair.missRun = 0) ∧
    ((∀ r, s.pair.refs = some r → r.period ≠ y.per) → s.pair.resigned = none → s.pair.missRun = 0 → ∃ u, exec (.standbyCompile t) s = .next u ∧
      Only [.comp, .pair, .pts] v u ∧ u.pair.hbMiss = sat32 s.pair.hbMiss 1 ∧ u.pair.missRun = 1 ∧ u.comp.done = false ∧ u.pair.st = 3) ∧
    ((∀ r, s.pair.refs = some r → r.period ≠ y.per) → s.pair.resigned = none → 1 ≤ s.pair.missRun → y.partnerShips = true →
      ∃ u, exec (.standbyCompile t) s = .next u ∧ Only [.comp, .evs, .pair, .pts] v u ∧ u.pair.st = 5 ∧ u.pair.health.testBit 62 = false) ∧
    ((∀ r, s.pair.refs = some r → r.period ≠ y.per) → s.pair.resigned = none → 1 ≤ s.pair.missRun → y.partnerShips = false → y.healthy = true →
      ∃ u, exec (.standbyCompile t) s = .next u ∧ Only [.free, .host, .jnl, .seam, .edg, .comp, .evs, .mesh, .pair, .pts] v u ∧ u.pair.st = 4 ∧
        u.pair.heartbeat = true ∧ u.pair.takePer = y.perPlus 1 ∧ u.seam.epoch = (s.seam.epoch + 1) % 65536) ∧
    (∀ c, s.pair.resigned = some c → y.healthy = true →
      ∃ u, exec (.standbyCompile t) s = .next u ∧ Only [.free, .host, .jnl, .seam, .edg, .comp, .evs, .mesh, .pair, .pts] v u ∧ u.pair.st = 4 ∧
        u.pair.heartbeat = true ∧ u.pair.takePer = y.perPlus 1 ∧ u.seam.epoch = (s.seam.epoch + 1) % 65536) := by
  subst hb hv hy
  have hcond : ((s.begin t).cfg.topo.pair && (s.begin t).pair.st == 3 && (s.begin t).lagged.atPoint 5 ((s.begin t).kO + 32)) = true :=
    and_tt (and_tt hp (beq_iff_eq.mpr hst)) hat
  have hpair : ((s.begin t).landDue.lagged.reach 5).pair = s.pair :=
    lagged_pair.trans ((by simp : Frame 8398349 (s.begin t) (s.begin t).landDue).keeps .pair rfl)
  rw [← hpair] at hst ⊢
  refine ⟨fun r hr hper hn => ?_, fun hr hn hmiss => ?_, fun hr hn hmiss hs => ?_, fun hr hn hmiss hs hh => ?_, fun c hn hh => ?_⟩
  · obtain ⟨hframe, hcper, hdone, hst', hrun⟩ := standbyCompile_whole hr hper hn
    refine standbyCompile_row hcond rfl hframe rfl rfl fun _ _ _ => ?_
    rw [noteSets_comp, finish_comp, noteSets_pair, finish_pair, unlag_comp, unlag_pair]
    exact ⟨hcper, hdone, hst'.trans hst, hrun⟩
  · refine standbyCompile_row (m := 16793604) hcond (standbyCompile_first hr hn hmiss) (Eq.mpr (State.sendHealth_frame rfl) (refsMissed_frame.widen rfl)) rfl rfl
      fun _ _ _ => ?_
    rw [noteSets_comp, finish_comp, noteSets_pair, finish_pair, unlag_comp, unlag_pair]
    exact ⟨rfl, congrArg (· + 1) hmiss, rfl, hst⟩
  · refine standbyCompile_row (m := 16924672) hcond (standbyCompile_detaches hr hn hmiss hs) ((refsMissed_frame.widen rfl).trans (by simp)) rfl rfl fun _ _ _ => ?_
    rw [noteSets_pair, finish_pair, unlag_pair]
    exact detach_pair
  · exact standbyCompile_claimRow hcond (standbyCompile_claims hr hn hmiss hs hh) refsMissed_frame
  · obtain ⟨w, hframe, -, -, hclaim⟩ := sb_resigned hn hh
    exact standbyCompile_claimRow hcond hclaim hframe

/-! ## Fencing and the states a member waits in (R627 to R629, R632) -/

theorem fence_fences (s b : State) (t e : Nat) (_ : b = s.begin t) (hst : s.pair.st = 4) (hlate : later 16 e s.seam.epoch = true) :
    Gives (.fence t e) s [.sys, .host, .jnl, .edg, .cmp, .evs, .pair] fun u => u.sys.gpioHiz = true ∧ u.pair = { s.pair with
      st := 6
      heartbeat := false
      mirror := false
      handover := none
      taking := false
      takeSafe := false
      syncOut := false
      flight := []
      holding := false
      evt := setBit s.pair.evt 3 } := by
  refine gives_if (m := 19015200) rfl (and_tt (beq_iff_eq.mpr hst) hlate) rfl (by simp) rfl fun _ _ _ => ?_
  rw [noteSets_sys, finish_sys, noteSets_pair, finish_pair]
  exact ⟨fence_gpio, fence_pair⟩

/-- A member that begins to take authority, before it asks the declared positions (R627). -/
def State.takeReady (z : State) : State :=
  ((z.onPair fun p => { p with st := 4, heartbeat := true, mirror := false }).onPair fun p => { p with taking := true, takeAt := z.now }).onSeam fun b =>
    { b with identAt := z.now }
theorem takeStart_asks {z : State} : z.takeStart = each (z.cfg.cells.map (·.idx)) identQuery z.takeReady := rfl
theorem takeStart_pair {z : State} : z.takeStart.pair = { z.pair with
    st := 4
    heartbeat := true
    mirror := false
    taking := true
    takeAt := z.now } := by
  rw [takeStart_asks, (by simp : Frame 4100 z.takeReady (each (z.cfg.cells.map (·.idx)) identQuery z.takeReady)).keeps .pair rfl]
  rfl
/-- It may send, and asks each position that is not in service and has no operation open. -/
theorem takeStart_ident {c : Nat} {z : State} (hm : c ∈ z.cfg.cells.map (·.idx)) (ho : z.modeQ.ovl.testBit 4 = false) (h9 : z.step9 = none)
    (hst : (z.cell c).st = 0) (hctrl : (z.talk c).ctrl = none) (hq : (z.talk c).queue = []) (hl : c < z.seam.talks.length) : IdentAsked c z z.takeStart := by
  have hsend : z.takeReady.maySend = true := by
    unfold maySend
    rw [show z.takeReady.modeQ = z.modeQ from rfl, ho, show z.takeReady.pair.st = 4 from rfl]
    simp
  rw [takeStart_asks]
  exact (identAll (v := z.takeReady) hm hsend h9 hst hctrl hq hl).2.2

theorem waitingTimeout_takes (s b : State) (t c : Nat) (hb : b = s.begin t) (hi : b.inForce = true) (hst : s.pair.st = 1)
    (hlate : b.lastSign + (if s.pair.member then 1100 else 100) * Config.ms ≤ b.now) : Gives (.waitingTimeout t) s [.seam, .pair] fun u => u.pair.st = 4 ∧
      u.pair.taking = true ∧ u.pair.takeAt = b.now ∧
      (c ∈ s.cfg.cells.map (·.idx) → b.modeQ.ovl.testBit 4 = false → b.step9 = none → (b.cell c).st = 0 → (b.talk c).ctrl = none →
        (b.talk c).queue = [] → c < b.seam.talks.length → IdentAsked c b u) := by
  subst hb
  refine gives_if (m := 16781316) (w := (s.begin t).takeStart) rfl (and_tt (and_tt hi (beq_iff_eq.mpr hst)) (decide_eq_true hlate)) rfl (by simp) rfl fun _ _ _ => ?_
  rw [noteSets_pair, finish_pair, takeStart_pair]
  exact ⟨rfl, rfl, rfl, fun hm ho h9 hc hctrl hq hl => (takeStart_ident (z := s.begin t) hm ho h9 hc hctrl hq hl).told⟩

/-- A context closes, and the safety section locks where it was that session's. -/
def State.closeLocked (c : Nat) (z : State) : State := (z.closeCtx c).relockSession (z.ctx c).sess
/-- Every session context open is closed. -/
def State.closeOpen (z : State) : State := each ((List.range 32).filter fun c => (z.ctx c).st != 0) closeLocked z
theorem closeOpen_frame {z : State} : Frame 4325888 z z.closeOpen := by
  unfold closeOpen
  exact Eq.mpr (Frame.each fun c v => by unfold closeLocked; simp) (by simp)
theorem closeOpen_ctx {c : Nat} {z : State} (h : c < 32) : (z.closeOpen.ctx c).st = 0 := by
  refine closeAll_ctx closeLocked (fun _ _ => relockSession_host) _ z ?_
  by_cases hst : (z.ctx c).st = 0
  · exact .inr hst
  · exact .inl (List.mem_filter.mpr ⟨List.mem_range.mpr h, bne_iff_ne.mpr hst⟩)

theorem detachedTimeout_takes (s b : State) (t : Nat) (hb : b = s.begin t) (hi : b.inForce = true) (hst : s.pair.st = 3 ∨ s.pair.st = 5)
    (hh : b.healthy = false) (hlate : b.lastSign + 1100 * Config.ms ≤ b.now) :
    ∃ u z, exec (.detachedTimeout t) s = .next u ∧ Only [.seam, .pair] b z ∧ z.pair.st = 4 ∧
      z.pair.taking = true ∧ z.pair.takeSafe = true ∧ Only [.host, .jnl, .safe, .evs] (z.enterSafe 17 0xFFFF) u ∧ ∀ c < 32, (u.ctx c).st = 0 := by
  subst hb
  have hcond : ((s.begin t).inForce && ((s.begin t).pair.st == 3 || (s.begin t).pair.st == 5) && !(s.begin t).healthy &&
      decide ((s.begin t).lastSign + 1100 * Config.ms ≤ (s.begin t).now)) = true :=
    and_tt (and_tt (and_tt hi (by simpa using hst)) (by rw [hh]; rfl)) (decide_eq_true hlate)
  refine ⟨_, (s.begin t).takeStart.onPair fun p => { p with takeSafe := true }, rfl, Frame.only (m := 16781316) (by simp) rfl, ?_⟩
  rw [runIf_goes hcond, onPair_pair, takeStart_pair]
  refine ⟨rfl, rfl, rfl, ?_, fun c hc => ?_⟩
  · refine Frame.only (m := 4326916) (Eq.mpr (State.noteSets_frame rfl) (Eq.mpr (State.finish_frame rfl) ?_)) rfl
    exact Eq.mpr (State.evControl_frame rfl) (closeOpen_frame.widen rfl)
  · rw [noteSets_ctx, finish_ctx, evControl_ctx]
    exact closeOpen_ctx hc

/-! ## Frames of the partner seen (R628, R629) -/

section
variable {z : State} {f : FrameHdr}

/-- A frame of the partner on a path, noted. -/
def State.edgeNoted (f : FrameHdr) (z : State) : State :=
  z.onPair fun p => { p with edgeSeen := ((f.cell / 8, f.period) :: p.edgeSeen).take 64, edgeAt := some z.now }
theorem partnerEdge_fences (hst : z.pair.st = 4) (hlate : later 16 f.epoch z.seam.epoch = true) : z.partnerEdge f = (z.edgeNoted f).fence 0 f.epoch :=
  if_pos ⟨hst, hlate⟩
theorem partnerEdge_pair (h : ¬(z.pair.st = 4 ∧ later 16 f.epoch z.seam.epoch = true)) : Frame 16777216 z (z.partnerEdge f) ∧
    (z.partnerEdge f).pair = { z.pair with
      edgeSeen := ((f.cell / 8, f.period) :: z.pair.edgeSeen).take 64
      edgeAt := some z.now
      st := if z.pair.st = 1 ∧ z.portUp 0 = false then 5 else z.pair.st } := by
  have hnoted : z.partnerEdge f = if z.pair.st = 1 ∧ (!z.portUp 0) = true then (z.edgeNoted f).onPair fun p => { p with st := 5 } else z.edgeNoted f := if_neg h
  rw [hnoted]
  simp only [Bool.not_eq_true']
  by_cases hc : z.pair.st = 1 ∧ z.portUp 0 = false
  · rw [if_pos hc, if_pos hc]
    exact ⟨by simp [edgeNoted], rfl⟩
  · rw [if_neg hc, if_neg hc]
    exact ⟨by simp [edgeNoted], rfl⟩
end

theorem partnerEdgeSeen_notes (s b : State) (t : Nat) (x : LaneRx) (f : FrameHdr) (p : Bytes) (hb : b = s.begin t) (hbr : Brings x 1 f p b)
    (hi : b.inForce = true) (hp : s.cfg.topo.pair = true) (ho : b.ownsPath (State.rxPathA x.lane) = false) :
    (s.pair.st = 4 → later 16 f.epoch s.seam.epoch = true → Gives (.partnerEdgeSeen t x) s [.sys, .host, .jnl, .edg, .cmp, .evs, .pair] fun u =>
      u.pair.st = 6 ∧ u.pair.heartbeat = false) ∧
    (¬(s.pair.st = 4 ∧ later 16 f.epoch s.seam.epoch = true) → Gives (.partnerEdgeSeen t x) s [.pair] fun u => u.pair = { s.pair with
      edgeSeen := ((f.cell / 8, f.period) :: s.pair.edgeSeen).take 64
      edgeAt := some b.now
      st := if s.pair.st = 1 ∧ b.portUp 0 = false then 5 else s.pair.st }) := by
  subst hb
  have hcond : ((s.begin t).inForce && (s.begin t).cfg.topo.pair && !(s.begin t).ownsPath (rxPathA x.lane)) = true := and_tt (and_tt hi hp) (by rw [ho]; rfl)
  refine ⟨fun hst hlate => ?_, fun hno => ?_⟩
  · refine gives_if (m := 19015200) rfl hcond (hbr.isIn.trans (partnerEdge_fences hst hlate)) (by simp [edgeNoted]) rfl fun _ _ _ => ?_
    rw [noteSets_pair, finish_pair, fence_pair]
    exact ⟨rfl, rfl⟩
  · obtain ⟨hframe, hpair⟩ := partnerEdge_pair (z := s.begin t) hno
    refine gives_if rfl hcond hbr.isIn hframe rfl fun _ _ _ => ?_
    rw [noteSets_pair, finish_pair]
    exact hpair

/-! ## Handover and failback (R634, R635) -/

theorem handoverBoundary_hands (s b : State) (t : Nat) (hb : b = s.begin t) (htl : b.timeline = true) (hcyc : b.cyc = 0)
    (hh : s.pair.handover = some b.per) :
    (s.pair.st = 3 → Gives (.handoverBoundary t) s [.host, .jnl, .seam, .evs, .mesh, .pair] fun u => u.pair.st = 4 ∧ u.pair.heartbeat = true ∧
      u.pair.mirror = true ∧ u.pair.takePer = b.perPlus 1 ∧ u.pair.handover = none ∧ u.seam.epoch = (s.seam.epoch + 1) % 65536) ∧
    (s.pair.st = 4 → Gives (.handoverBoundary t) s [.free, .host, .jnl, .evs, .mesh, .pair] fun u => u.pair.st = 3 ∧ u.pair.mirror = false ∧
      u.pair.handover = none ∧ u.pair.health.testBit 62 = true ∧ u.pair.flight = []) := by
  subst hb
  have hcond (hst : s.pair.st = 3 ∨ s.pair.st = 4) : ((s.begin t).timeline && (s.begin t).cyc == 0 && ((s.begin t).pair.st == 3 || (s.begin t).pair.st == 4) &&
      (s.begin t).pair.handover == some (s.begin t).per) = true :=
    and_tt (and_tt (and_tt htl (beq_iff_eq.mpr hcyc)) (by simpa using hst)) (beq_iff_eq.mpr hh)
  refine ⟨fun hst => ?_, fun hst => ?_⟩
  · refine gives_if rfl (hcond (.inl hst)) rfl (handoverTake_upFrame hst) rfl fun _ _ _ => ?_
    rw [noteSets_pair, finish_pair, noteSets_seam, finish_seam]
    exact handoverTake_up hst
  · obtain ⟨hframe, hall⟩ := handoverTake_down (z := s.begin t) hst
    refine gives_if rfl (hcond (.inr hst)) rfl hframe rfl fun _ _ _ => ?_
    rw [noteSets_pair, finish_pair]
    exact hall

theorem failbackHoldExpiry_hands (s b : State) (t a : Nat) (hb : b = s.begin t) (hst : s.pair.st = 4) (hm : s.pair.member = true)
    (hsus : s.pair.fbSuspend = false) (hno : s.pair.handover = none) (hhold : s.cfg.topo.failbackHoldS ≠ 0) (hp : b.partnerHealthy = true)
    (hfrom : s.pair.fbFrom = some a) (hlate : a + s.cfg.topo.failbackHoldS * Config.sec ≤ b.now) :
    Gives (.failbackHoldExpiry t) s [.pair] fun u => u.pair = { s.pair with
      handover := some (b.perPlus 16) } ∧ ∀ o ∈ b.pairOut (.handover (b.perPlus 16)), o ∈ u.out := by
  subst hb
  refine gives_if (m := 16777220) (w := (s.begin t).handoverAt ((s.begin t).perPlus 16)) rfl ?_ rfl (by simp) rfl fun _ _ _ => ?_
  · refine and_tt (and_tt (and_tt (and_tt (and_tt (and_tt ?_ hm) ?_) ?_) ?_) hp) ?_
    · exact beq_iff_eq.mpr hst
    · rw [begin_pair, hsus]
      rfl
    · rw [begin_pair, hno]
      rfl
    · exact bne_iff_ne.mpr hhold
    · rw [begin_pair, hfrom]
      exact decide_eq_true hlate
  · rw [noteSets_pair, finish_pair]
    exact ⟨rfl, fun o ho => mem_told (List.mem_append_right _ ho)⟩

/-! ## The commands (R639, R640) -/

theorem pairSwitch_schedules (s b : State) (t n : Nat) (h : RecHdr) (ha : Accepts cmdPairSwitch h (le 4 n) (s.begin t)) (hb : b = s.begin t) (hn : n < 2 ^ 32) :
    Gives (.pairSwitch t h n) s ([.host, .jnl, .pair] ++ s.heldParts) fun u => u.pair = { s.pair with
      handover := some (if n = 0 then b.perPlus 16 else n) } := by
  subst hb
  have hfield : field (le 4 n) 0 4 = n := (field_only 4 n).trans (Nat.mod_eq_of_lt (by omega))
  refine ha.gives0 (m := 16777220) rfl rfl (fun v => by simp [cmdPairSwitch]) rfl rfl fun x j u _ hu => (hu.wide.keeps .pair rfl).trans ?_
  simp only [cmdPairSwitch, hfield]
  rfl

theorem pairFailback_suspends (s b : State) (t e : Nat) (h : RecHdr) (ha : Accepts cmdPairFailback h (le 1 e ++ le 3 0) (s.begin t)) (_ : b = s.begin t)
    (he : e < 256) : Gives (.pairFailback t h e) s ([.host, .jnl, .pair] ++ s.heldParts) fun u => u.pair = { s.pair with
      fbSuspend := e == 0 } := by
  have hfield : field (le 1 e ++ le 3 0) 0 1 = e := field_le_of_lt he
  refine ha.gives0 (m := 16777216) rfl rfl (fun v => by simp [cmdPairFailback]) rfl rfl fun x j u _ hu => (hu.wide.keeps .pair rfl).trans ?_
  simp only [cmdPairFailback, hfield]
  rfl

theorem syncSend_pair {z : State} : z.syncSend.pair = { z.pair with
    syncOut := true
    mirror := false
    syncAt := z.now } := by
  have hframe : Frame 8389132 z z.heldOut := by simp
  show ({ z.heldOut.pair with syncOut := true, mirror := false, syncAt := z.now } : PairB) = _
  rw [hframe.keeps .pair rfl]

theorem pairResync_begins (s b : State) (t : Nat) (h : RecHdr) (ha : Accepts cmdPairResync h [] (s.begin t)) (hb : b = s.begin t) :
    Gives (.pairResync t h) s ([.free, .host, .jnl, .mesh, .pair] ++ s.heldParts) fun u => u.pair = { s.pair with
      syncOut := true
      mirror := false
      syncAt := b.now } := by
  subst hb
  exact ha.gives (m := 25166348) rfl rfl (fun v => by simp [cmdPairResync]) (fun _ hv => heldOut_quiet hv) rfl fun x j u _ hu =>
    (hu.wide.keeps .pair rfl).trans syncSend_pair

/-- Settles O44: each row and command by its own lemma; a STANDBY's compile by what REFS and the partner's signs leave it to do. -/
theorem pairAuthority : Obligations.PairAuthority :=
  ⟨resign_noted, handover_noted, standbyBenchStart_starts, standbyCompile_compiles, fence_fences, waitingTimeout_takes, detachedTimeout_takes,
    partnerEdgeSeen_notes, handoverBoundary_hands, failbackHoldExpiry_hands, pairSwitch_schedules, pairFailback_suspends, pairResync_begins⟩

end Sys2Proof.Machine

/-! PROOFS. Power states and soft resets of blocks (R654, R656, R660, R661). -/
namespace Sys2Proof.Machine
open State

/-! ## Power states (R657, R660, R661) -/

/-- The word of PWR_CTL that asks for a power state asks for no reset. -/
theorem targetWord_bits {n : Nat} (h : n < 4) : bits (BitVec.ofNat 32 (n % 4 * 2 ^ 30)).toNat 31 30 = n ∧
    tbit (BitVec.ofNat 32 (n % 4 * 2 ^ 30)).toNat 0 = false ∧ tbit (BitVec.ofNat 32 (n % 4 * 2 ^ 30)).toNat 1 = false := by
  have hcases : n = 0 ∨ n = 1 ∨ n = 2 ∨ n = 3 := by omega
  rcases hcases with e | e | e | e <;> rw [e] <;> decide
/-- It is refused neither in OFF nor where no cell of a seam that would sleep is live. -/
theorem ctlTarget {n : Nat} {z : State} (h : n < 4) (hb : z.pwrBusy = false) (hm : z.mode.mode = 0) (hw : z.img.hostWait = false) (hd : z.dozeLive = false) :
    z.ctlRefusal (BitVec.ofNat 32 (n % 4 * 2 ^ 30)) = none := by
  obtain ⟨htarget, hwarm, hreload⟩ := targetWord_bits h
  unfold ctlRefusal
  simp only [htarget, hwarm, hreload, hb, hm, hw, hd]
  simp
/-- A part that is no change of power state in progress. -/
theorem notChanging {z : State} (h : z.pwrBusy = false) : z.pwr.st ≠ 3 := by
  unfold pwrBusy at h
  simp_all

theorem powerStateRequest_takes (s b : State) (t n : Nat) (ifc : Iface) (hb : b = s.begin t) (hn : n < 4) (hv : b.viewed ifc.src 0x220004 = false)
    (hbusy : b.pwrBusy = false) (hm : b.mode.mode = 0) (hw : b.img.hostWait = false) (hd : b.dozeLive = false) :
    Gives (.powerStateRequest t ifc n) s [.ofs, .free, .sys, .pwr, .clk, .img, .host, .jnl, .lane, .seam, .edg, .comp, .bnc, .bal, .evs, .mode, .modeQ,
      .adc, .cmp, .safe, .mesh, .pair, .key, .pts] fun u =>
      (n = s.pwr.st → u.pwr = { s.pwr with
        target := n }) ∧
      (n = 3 → u.pwr.parked = true ∧ u.pwr.dom = 3 ∧ u.mode = {} ∧
        u.pwr.wakeAt = if s.pwr.wake = 0 then none else some (b.now + s.pwr.wake * Config.sec)) ∧
      (n ≠ 3 → n ≠ s.pwr.st → u.pwr.st = 3 ∧ u.pwr.busy = true ∧ u.pwr.target = n) ∧
      (n = 1 → s.pwr.st = 0 → u.pwr.dom = clrBit (clrBit s.pwr.dom 7) 12) := by
  subst hb
  obtain ⟨htarget, hwarm, hreload⟩ := targetWord_bits hn
  have hgo : (s.begin t).pwrDirect ifc 0x220004 (BitVec.ofNat 32 (n % 4 * 2 ^ 30)) =
      goTo n ((s.begin t).jDirect ifc.src 0x220004 (BitVec.ofNat 32 (n % 4 * 2 ^ 30))) := by
    rw [pwrDirect_ctl hv (notBusy hbusy) (ctlTarget hn hbusy hm hw hd)]
    unfold ctlWrite
    simp only [htarget, hwarm, hreload, Bool.false_eq_true, if_false]
  refine execPowerStateRequest_goes.givesRun rfl rfl fun a p q => ?_
  simp only [noteSets_pwr, finish_pwr, noteSets_mode, finish_mode, hgo]
  exact goTo_all (z := (s.begin t).jDirect ifc.src 0x220004 (BitVec.ofNat 32 (n % 4 * 2 ^ 30))) (notChanging hbusy)

theorem powerStateChangeDone_ends (s b : State) (t : Nat) (hb : b = s.begin t) (h : b.pwr.st = 3) :
    Gives (.powerStateChangeDone t) s [.sys, .pwr] fun u => u.pwr = { s.pwr with
      st := s.pwr.target
      busy := false } ∧ u.sys = { s.sys with
      scrubAt := b.now } := by
  subst hb
  refine execPowerStateChangeDone_goes.givesIf rfl (beq_iff_eq.mpr h) rfl fun _ _ _ => ?_
  rw [noteSets_pwr, finish_pwr, noteSets_sys, finish_sys]
  exact ⟨rfl, rfl⟩

/-! ## Soft resets (R656): each block's actions on the state that has taken the write -/

/-- A command resets blocks in OFF: it is journalled and noted as the cause, and its blocks are left as F says. -/
def SoftResets (c : Nat → Iface → Instr) (n : Nat) (l : List Part) (F : State → State → State → Prop) : Prop :=
  ∀ (s b : State) (t : Nat) (ifc : Iface), b = s.begin t → b.viewed ifc.src 0x22000C = false → b.pwrBusy = false → b.mode.mode = 0 → b.img.hostWait = false →
    Gives (c t ifc) s l fun u => u.pwr = { s.pwr with
      soft := n
      busy := true
      cause := 6
      causeSrc := ifc.src.code } ∧ F s b u

/-- The reset of one block but the comparators', which a trip refuses: what the block's actions leave of a state that differs in PWR and the journal. -/
theorem softResets_of {c : Nat → Iface → Instr} {n k m : Nat} {v : Word} {l : List Part} {F : State → State → State → Prop}
    (hr : ∀ t ifc s, exec (c t ifc) s = .next (s.run t (pwrDirect ifc 0x22000C v))) (hn : v.toNat = n) (h0 : v ≠ 0) (h1 : v.toNat < 1024)
    (h7 : tbit v.toNat 7 = false) (hk : members n 10 = [k]) (hf : ∀ z, Frame m z (softBlock k z)) (hp : m.testBit Part.pwr.num = false)
    (hl : (1088 ||| m) ||| maskOfParts (.now :: .out :: l) = maskOfParts (.now :: .out :: l))
    (hF : ∀ s t z a p q, Frame 1088 (s.begin t) z → z.pwr.dom = s.pwr.dom → F s (s.begin t) (noteSets a (finish p q (softBlock k z)))) : SoftResets c n l F := by
  intro s b t ifc hb hv hbusy hm hw
  subst hb
  exact softRun (F := F s (s.begin t)) (hr t ifc s) hv hbusy hm hw h0 h1 (fun h => Bool.noConfusion (h7.symm.trans h)) hn hk hf hp hl
    fun z a p q hz hpwr => hF s t z a p q hz (by rw [hpwr])

theorem laneSoftReset_resets : SoftResets .laneSoftReset 1 [.pwr, .jnl, .lane, .seam] fun _ _ u =>
    (∀ c, (u.cell c).st = 0) ∧ (∀ l ∈ u.lane.lanes, l.test = 0 ∧ l.loop = 0) :=
  softResets_of (fun _ _ _ => rfl) rfl (by decide) (by decide) (by decide) rfl (fun _ => softBlock_lane_frame) rfl rfl fun _ _ _ _ _ _ _ _ => by
    simp only [noteSets_cell, finish_cell, noteSets_lane, finish_lane]
    exact softBlock_lane

theorem seamSoftReset_resets : SoftResets .seamSoftReset 2 [.pwr, .jnl, .seam] fun _ _ u =>
    (∀ c, (u.cell c).st = 0) ∧ (∀ c ∈ u.seam.cells, c.jstep = 0 ∧ c.reason = 0) :=
  softResets_of (fun _ _ _ => rfl) rfl (by decide) (by decide) (by decide) rfl (fun _ => softBlock_seam_frame) rfl rfl fun _ _ _ _ _ _ _ _ => by
    simp only [noteSets_cell, finish_cell, noteSets_seam, finish_seam]
    exact softBlock_seam

theorem edgSoftReset_resets : SoftResets .edgSoftReset 4 [.pwr, .jnl, .edg] fun _ _ u =>
    (∀ x ∈ u.edg.lpwm, x.carry = {}) ∧ u.edg.chans = List.replicate 128 (List.replicate 16 {}) ∧ u.edg.lastLate = false :=
  softResets_of (fun _ _ _ => rfl) rfl (by decide) (by decide) (by decide) rfl (fun _ => softBlock_edg_frame) rfl rfl fun _ _ _ _ _ _ _ _ => by
    rw [noteSets_edg, finish_edg]
    exact softBlock_edg

theorem bncSoftReset_resets : SoftResets .bncSoftReset 8 [.pwr, .jnl, .bnc] fun _ _ u =>
    u.bnc.cmds = [] ∧ u.bnc.trace.st ≠ 1 ∧ u.bnc.trace.st ≠ 2 ∧ (∀ x ∈ u.bnc.loops, x.per = 0 ∧ x.tab = []) :=
  softResets_of (fun _ _ _ => rfl) rfl (by decide) (by decide) (by decide) rfl (fun _ => softBlock_bnc_frame) rfl rfl fun _ _ z _ _ _ _ _ => by
    simp only [noteSets_bnc, finish_bnc]
    exact softBlock_bnc (z := z)

theorem balSoftReset_resets : SoftResets .balSoftReset 16 [.pwr, .jnl, .bal] fun s b u =>
    (∀ a ∈ u.bal.arms, a.n = 0 ∧ a.missRun = 0) ∧
    (∀ c ∈ b.thermCells, c < s.bal.cells.length → (u.therm c).pwr = 0 ∧ (u.therm c).hotCh = 0) :=
  softResets_of (fun _ _ _ => rfl) rfl (by decide) (by decide) (by decide) rfl (fun _ => softBlock_bal_frame) rfl rfl fun s t z _ _ _ hz _ => by
    have hcells : z.thermCells = (s.begin t).thermCells := by
      unfold thermCells armOf cfg
      rw [show z.img = (s.begin t).img from hz.keeps .img rfl]
    have hbal : z.bal = s.bal := hz.keeps .bal rfl
    rw [← hcells, ← hbal]
    simp only [therm, noteSets_bal, finish_bal]
    exact softBlock_bal

theorem modeSoftReset_resets : SoftResets .modeSoftReset 32 [.pwr, .jnl, .lane, .seam, .edg, .bal, .mode, .modeQ, .adc] fun s _ u =>
    u.mode.sps = List.replicate 16 {} ∧ u.mode.sub = 0 ∧ u.modeQ.sched = none ∧
    u.modeQ.ovl = s.modeQ.ovl ^^^ (0x17 &&& s.modeQ.ovl) ∧ u.modeQ.ended = false :=
  softResets_of (fun _ _ _ => rfl) rfl (by decide) (by decide) (by decide) rfl (fun _ => softBlock_mode_frame) rfl rfl fun s _ z _ _ _ hz _ => by
    have hq : z.modeQ = s.modeQ := hz.keeps .modeQ rfl
    rw [← hq]
    simp only [noteSets_mode, finish_mode, noteSets_modeQ, finish_modeQ]
    exact softBlock_mode

theorem adcSoftReset_resets : SoftResets .adcSoftReset 64 [.pwr, .jnl, .adc] fun _ b u =>
    b.pwr.dom.testBit 12 = true → ∀ x ∈ u.adc.adcs, x.st = 4 ∧ x.calAt = b.now ∧ x.entry = none :=
  softResets_of (fun _ _ _ => rfl) rfl (by decide) (by decide) (by decide) rfl (fun _ => softBlock_adc_frame) rfl rfl fun s t z _ _ _ hz hdom hd => by
    rw [noteSets_adc, finish_adc, ← show z.now = (s.begin t).now from hz.keeps .now rfl]
    exact softBlock_adc (by rw [hdom]; exact hd)

theorem cmpSoftReset_resets (s b : State) (t : Nat) (ifc : Iface) (hb : b = s.begin t) (hv : b.viewed ifc.src 0x22000C = false) (hbusy : b.pwrBusy = false)
    (hm : b.mode.mode = 0) (hw : b.img.hostWait = false) (ha : b.anyTrip = false) :
    Gives (.cmpSoftReset t ifc) s [.pwr, .jnl, .free, .seam, .edg, .bnc, .evs, .cmp, .mesh] fun u => u.pwr = { s.pwr with
      soft := 128
      busy := true
      cause := 6
      causeSrc := ifc.src.code } ∧
      (b.pwr.dom.testBit 13 = true → b.inForce = true →
        u.cmp.checks = (List.range 24).filter fun k => (b.cmpDecl k).sense != 0) := by
  subst hb
  refine softRun (k := 7) (v := 128) (F := fun u => (s.begin t).pwr.dom.testBit 13 = true → (s.begin t).inForce = true →
      u.cmp.checks = (List.range 24).filter fun k => ((s.begin t).cmpDecl k).sense != 0)
    rfl hv hbusy hm hw (by decide) (by decide) (fun _ => ha) rfl rfl (fun _ => softBlock_cmp_frame) rfl rfl fun z _ _ _ hz hpwr hd hi => ?_
  have himg : z.img = (s.begin t).img := hz.keeps .img rfl
  have hforce : z.inForce = true := by
    unfold inForce
    rw [himg]
    exact hi
  have hdecl : z.cmpDecl = (s.begin t).cmpDecl := by
    unfold cmpDecl wire cfg
    rw [himg]
  rw [noteSets_cmp, finish_cmp, softBlock_cmp (by rw [hpwr]; exact hd) hforce, hdecl]

theorem meshSoftReset_resets : SoftResets .meshSoftReset 256 [.pwr, .jnl, .free, .clk, .host, .modeQ, .mesh, .pair] fun _ _ u =>
    ∀ c ∈ u.mesh.convs, c.st = 0 ∧ c.out = [] ∧ c.queue = [] :=
  softResets_of (fun _ _ _ => rfl) rfl (by decide) (by decide) (by decide) rfl (fun _ => softBlock_mesh_frame) rfl rfl fun _ _ _ _ _ _ _ _ => by
    rw [noteSets_mesh, finish_mesh]
    exact softBlock_mesh

theorem pairSoftReset_resets : SoftResets .pairSoftReset 512 [.pwr, .jnl, .free, .host, .mesh, .pair] fun _ b u =>
    u.pair.st = (if b.cfg.topo.pair then 1 else 0) ∧ u.pair.mirror = false ∧ u.pair.taking = false ∧ u.pair.bist = 0 ∧ u.pair.healthPer = 0 :=
  softResets_of (fun _ _ _ => rfl) rfl (by decide) (by decide) (by decide) rfl (fun _ => softBlock_pair_frame) rfl rfl fun s t z _ _ _ hz _ => by
    have hcfg : z.cfg = (s.begin t).cfg := congrArg (fun i : Img => i.desc.getD {}) (hz.keeps .img rfl)
    rw [noteSets_pair, finish_pair, ← hcfg]
    exact softBlock_pair

theorem softResetDone_ends (s b : State) (t : Nat) (hb : b = s.begin t) (h : b.pwr.soft ≠ 0) :
    Gives (.softResetDone t) s [.pwr, .jnl] fun u => u.pwr = { s.pwr with
      soft := 0
      busy := false } ∧ u.jnl.next = s.jnl.next + 1 := by
  subst hb
  refine execSoftResetDone_goes.givesIf rfl (bne_iff_ne.mpr h) rfl fun _ _ _ => ?_
  rw [noteSets_pwr, finish_pwr, noteSets_jnl, finish_jnl]
  exact ⟨rfl, jEvent_next⟩

/-- Settles O46: each row by its own lemma; a soft reset's by what its block's actions leave. -/
theorem powerStatesAndSoftResets : Obligations.PowerStatesAndSoftResets :=
  ⟨powerStateRequest_takes, powerStateChangeDone_ends, laneSoftReset_resets, seamSoftReset_resets, edgSoftReset_resets, bncSoftReset_resets,
    balSoftReset_resets, modeSoftReset_resets, adcSoftReset_resets, cmpSoftReset_resets, meshSoftReset_resets, pairSoftReset_resets, softResetDone_ends⟩

end Sys2Proof.Machine
